-- ==== Sys2Proof/Word.lean ====
section
/-!
DEFINITION. Word.lean: the byte, the byte string and the numbering of dictionary objects by bits.
-/
namespace Sys2Proof

/-- One byte. -/
abbrev Byte := BitVec 8

/-- A string of bytes, first byte first. -/
abbrev Bytes := List Byte

end Sys2Proof
end

