-- ==== Sys2Proof/Syntax.lean ====
section
/-!
DEFINITION. Syntax.lean: the commands of the block, one constructor for each row of spec/opcode_table.json, with the operands
the rule of the row gives it. Numbers name sessions, units, instances, rings, heads, ports as the spec numbers them; values
that the world outside supplies (a measured temperature, a received frame, a signature read at the pins) are operands.
-/
namespace Sys2Proof


/-- A request that waits in a channel queue (R152): its world, fabric requester, the class it was granted under (R148), fabric physical address, bytes and
arrival time. -/
structure MemReq where
  world : Nat
  req : Nat
  cls : Nat
  addr : Nat
  len : Nat
  arrival : Nat
  deriving DecidableEq, Repr

/-- A request record (chapter 2, table Request and response record) and the header of the Ethernet datagram that carries it (R59): MAGIC, VERSION, COUNT,
the datagram's bytes, SEQ, and the record's place in it from 0; then OP, FLAGS, RSV, STATUS and TAG of the record. On a mailbox or a hoist link there is no
datagram of this kind, and `seq` is MB_SEQ; on the remote-instance transport it is the SEQ of the transport's datagram too. -/
structure Rec where
  magic : Nat
  version : Nat
  count : Nat
  size : Nat
  seq : Nat
  pos : Nat
  op : Nat
  flags : Nat
  rsv : Nat
  status : Nat
  tag : Nat
  deriving DecidableEq, Repr

/-- SEQ and ACK of the transport datagram that carries a command of an Ethernet guest (R132, R133); a PCIe guest's command has none, and they are not looked at. -/
structure Dgram where
  seq : Nat
  ack : Nat
  deriving DecidableEq, Repr

/-- How a set-up request comes (R130): MB_SEQ, the TAG of its record, and the datagram that carries it. -/
structure Mail where
  seq : Nat
  tag : Nat
  dg : Dgram
  deriving DecidableEq, Repr

/-- One access of a fabric requester (FABRIC_ACCESS). The world whose ID it carries follows from these (R98). `dbg` is the debug session that makes it
(0 none) and `dbgWorld` the world this session names, 64 for a raw access without one. `inst` is the instance on whose behalf it is made (0xFF none), `ctx`
its stage-1 context (ring number, 8 for event queue and mailbox, 9 for none), `field` the CONTEXT of a fault event, `req` the fabric requester, `cls` the
class stamped by the originating device where that is a hoist link (R149), `unit` the unit that acts, `acc` 1 read, 2 write, 3 atomic, 4 scan-out fetch;
`data` the bytes written. `reg` is the number plus 1 of a register that holds translation state (R101), 0 for none. `miss` marks an access whose
translation is in no cache, so that its walk reads memory. `node` is the fabric node met; `rounds` and `portRounds` list, for each round in which the access
contends at the node and at the channel port, the other requesters contending; `queue` lists the requests waiting in the channel queue; `since` is when the
access came to that queue. `walkErr`, `err` and `link` are what the memory reports: the place plus 1, among the stage-2 descriptors that the walk reads, of
one whose read meets an uncorrectable error, 0 none; 0 none, 1 a single-bit, 2 an uncorrectable error in a protected frame; the number of failed link checks
(0 to 2). `head`, `layer` name the layer of a scan-out fetch, `late` a fetch that returned too late, `badMeta` a compression unit that does not decode. -/
structure FabAccess where
  dbg : Nat
  dbgWorld : Nat
  inst : Nat
  ctx : Nat
  field : Nat
  req : Nat
  cls : Nat
  unit : Nat
  va : Nat
  len : Nat
  acc : Nat
  data : List Byte
  reg : Nat
  miss : Bool
  node : Nat
  rounds : List (List Nat)
  portRounds : List (List Nat)
  queue : List MemReq
  since : Nat
  walkErr : Nat
  err : Nat
  link : Nat
  head : Nat
  layer : Nat
  late : Bool
  badMeta : Bool
  deriving DecidableEq, Repr

/-- A primitive as the vertex program of a draw leaves it (R176, R178): kind 0 triangle, 1 line, 2 point; whether it faces back; its three vertex
indices; 42 bytes of positions; the tiles it covers under the conservative test, by number. -/
structure Prim where
  kind : Nat
  back : Bool
  vidx : List Nat
  pos : List Byte
  deriving DecidableEq, Repr

/-- What the shaders of a draw or dispatch do beside their attachments: the surface descriptors they sample, their texture, image and buffer reads
(cluster, guest virtual address, length), their stores (cluster, guest virtual address, bytes), and whether an invocation reaches ShaderStepLimit. -/
structure ShaderRun where
  surfs : List Nat
  reads : List (Nat × Nat × Nat)
  stores : List (Nat × Nat × List Byte)
  limit : Bool
  deriving DecidableEq, Repr

/-- A region of an Ensign content package (section 1). -/
structure EnsRegion where
  head : Nat
  region : Nat
  x : Nat
  y : Nat
  w : Nat
  h : Nat
  live : Bool
  freeze : Nat
  page : Nat
  deriving DecidableEq, Repr

/-- A page of a package (section 5): kind 0 default, 1 status, 2 alarm; its condition as binding, test and constant; `tone` 0xFF for none; the assets
and bindings its drawing list names. -/
structure EnsPage where
  num : Nat
  head : Nat
  region : Nat
  kind : Nat
  prio : Nat
  cond : Option (Nat × Nat × Nat)
  latch : Bool
  tone : Nat
  assets : List Nat
  binds : List Nat
  deriving DecidableEq, Repr

/-- A binding of a package (section 6): value object as index and sub-index, byte and bit offset, width in bits, whether signed, validity object if
any, INPUT LOST page. -/
structure EnsBinding where
  idx : Nat
  sub : Nat
  byteOff : Nat
  bitOff : Nat
  width : Nat
  signed : Bool
  valid : Option (Nat × Nat)
  lost : Nat
  deriving DecidableEq, Repr

/-- An acknowledge source of a package (section 8): a touch area inside a region, or the discrete input `input` (0xFF for a touch area). -/
structure EnsAck where
  head : Nat
  region : Nat
  x : Nat
  y : Nat
  w : Nat
  h : Nat
  input : Nat
  deriving DecidableEq, Repr

/-- An output entry of a package (section 10, R250). -/
structure EnsOutput where
  out : Nat
  source : Nat
  page : Nat
  lamp : Nat
  pattern : Nat
  deriving DecidableEq, Repr

/-- A segment of an alarm tone (table Tone record in section 7): F1 and F2 in Hz, DUR in ms, LEVEL, SHAPE. -/
structure EnsSegment where
  f1 : Nat
  f2 : Nat
  ms : Nat
  level : Nat
  shape : Nat
  deriving DecidableEq, Repr

/-- A tone of section 7: its number, how often its segment list plays (0 until stopped), its segments. -/
structure EnsTone where
  num : Nat
  rep : Nat
  segs : List EnsSegment
  deriving DecidableEq, Repr

/-- A unit that firmware or an owner program declares (R9, R17): the fields of its record and its path name. `parent` is the handle of a unit that
exists, or 0x10000 + j for the j-th declaration before it in the same image. -/
structure UnitDecl where
  typ : Nat
  rev : Nat
  inst : Nat
  parent : Nat
  count : Nat
  boundary : Nat
  crit : Nat
  ident : Nat
  name : List Byte
  deriving DecidableEq, Repr, Inhabited

/-- An Ensign content package as its sections give it (table Package layout, table Section types). `sigOk` is the result of the
signature's verification under the key that `keyRef` names; `assets` is the number of assets and `assetData` their bytes. -/
structure EnsPkg where
  sigOk : Bool
  keyRef : Nat
  magic : Nat
  format : Nat
  sections : Nat
  hwType : Nat
  version : Nat
  rollback : Nat
  regions : List EnsRegion
  palettes : List Nat
  setMap : List Nat
  assets : Nat
  assetData : List Byte
  pages : List EnsPage
  bindings : List EnsBinding
  tones : List EnsTone
  acks : List EnsAck
  period : Nat
  outputs : List EnsOutput
  deriving DecidableEq, Repr, Inhabited

/-- A command sent to the block. -/
inductive Instr where
  /-- SESSION_OPEN (R29): A client opens a dictionary session on a transport; its class is fixed, or the open is refused with SESSION_LIMIT. Transport: 1 CAN FD, 2 plain UDP, 4 physical function, 5 virtual function, 6 hoist link; `cl` and `w` are class and world of the client session that a hoist link forwards. -/
  | sessionOpen (tr : Nat) (port : Nat) (cl : Nat) (w : Nat)
  /-- SESSION_CLOSE (R37): A session's transport ends; its shadow holds end with SHADOW_LOST, and its per-session objects, windows and samplers are released. -/
  | sessionClose (n : Nat)
  /-- UDP_SESSION_TIMEOUT (R29): A plain UDP session closes after 60 s without a request. -/
  | udpSessionTimeout (n : Nat)
  /-- DTLS_HANDSHAKE (R30): A DTLS 1.3 handshake on port 20880 completes and opens an OWN session or a pending session, or ends with no session. The handshake offers the parameters; the client certificate verifies, is signed by the live owner key or is its own certificate, lies in its validity period; `key` its public key of 97 bytes. -/
  | dtlsHandshake (params : Bool) (verifies : Bool) (ownerSigned : Bool) (inValidity : Bool) (key : Nat)
  /-- DEBUG_CERT_IN (R30): A pending DTLS session writes a debug certificate, which makes it DBG or closes the association. `sigOk`, `cosignOk` the signatures of the certificate verify under the keys they name. -/
  | debugCertIn (n : Nat) (v : List Byte) (sigOk : Bool) (cosignOk : Bool)
  /-- PENDING_SESSION_TIMEOUT (R30): A pending DTLS session that has not become DBG within 10 s closes. -/
  | pendingSessionTimeout (n : Nat)
  /-- QUERY_PATH (R12): A write of QueryPath looks up a unit path and sets QueryHandle and QueryStatus before it is acknowledged. -/
  | queryPath (n : Nat) (v : List Byte)
  /-- OBJECT_WRITE (R36): A write to an object with no row of its own sets its active value (IMMEDIATE units) or its shadow, taking the shadow hold. -/
  | objectWrite (n : Nat) (idx : Nat) (sub : Nat) (v : List Byte)
  /-- RECORD_READ (R35): A read request record returns the active or, with SHADOW, the shadow value of an object. -/
  | recordRead (n : Nat) (r : Rec) (idx : Nat) (sub : Nat)
  /-- RECORD_WRITE (R28): A write request record carries a value to an object under the type, range and access checks. -/
  | recordWrite (n : Nat) (r : Rec) (idx : Nat) (sub : Nat) (v : List Byte)
  /-- READ_SEGMENT (R58): A read-segment record returns part of a DOMAIN value at an offset. -/
  | readSegment (n : Nat) (r : Rec) (idx : Nat) (sub : Nat) (off : Nat) (len : Nat)
  /-- WRITE_SEGMENT (R58): A write-segment record appends to a DOMAIN value in rising order; the segment flagged LAST makes the value take effect. -/
  | writeSegment (n : Nat) (r : Rec) (idx : Nat) (sub : Nat) (off : Nat) (v : List Byte)
  /-- RECORD_ABORT (R58): An abort record discards a partial segmented transfer with TRANSFER_TIMEOUT. -/
  | recordAbort (n : Nat) (r : Rec)
  /-- TRANSFER_TIMEOUT (R58): A gap of 2 s between segments of a DOMAIN transfer discards the partial value. -/
  | transferTimeout (n : Nat)
  /-- COMMIT (R38): CommitOp 1 checks and accepts a commit of a unit or set into a pending bank under a new epoch, or refuses it. -/
  | commit (n : Nat)
  /-- DISCARD_SHADOW (R45): CommitOp 2 reverts the shadow to the pending or active bank and ends the hold. -/
  | discardShadow (n : Nat)
  /-- CANCEL_PENDING (R45): CommitOp 3 cancels a pending commit and reverts pending bank and shadow to active. -/
  | cancelPending (n : Nat)
  /-- BOUNDARY_APPLY (R41): A unit's boundary source reaches its instant and the unit rechecks and applies its pending bank whole, or voids it. `k` the events of the source that have arrived since the unit last took one (R78). -/
  | boundaryApply (h : Nat) (k : Nat)
  /-- SCHED_TIME_LOST (R50): At CommitAt with TimeLocked 0 the scheduled pending bank is dropped whole. -/
  | schedTimeLost (h : Nat)
  /-- SHADOW_HOLD_EXPIRY (R37): ShadowHoldMs passes without a write from the holder; the shadow reverts and the holder receives SHADOW_LOST. -/
  | shadowHoldExpiry (h : Nat)
  /-- AUTH_WRITE (R515): An authenticated envelope with OP write is verified and its write runs with OWN rights, with an optional commit after. -/
  | authWrite (n : Nat) (v : List Byte)
  /-- AUTH_COMMIT (R515): An authenticated envelope with OP commit is verified and commits the named unit or set. -/
  | authCommit (n : Nat) (v : List Byte)
  /-- AUTH_DISCARD (R515): An authenticated envelope with OP discard is verified and discards the named unit's shadow. -/
  | authDiscard (n : Nat) (v : List Byte)
  /-- AUTH_CANCEL (R515): An authenticated envelope with OP cancel is verified and cancels the named unit's pending commit. -/
  | authCancel (n : Nat) (v : List Byte)
  /-- AUTH_LOCKOUT_END (R56): A key's lockout period passes and the key accepts envelopes again. -/
  | authLockoutEnd (k : Nat)
  /-- USDO_REQUEST (R61): A USDO request arrives at a CAN FD port's server and is carried out or aborted with its abort code. Phase 0 a transfer of one frame, 1 the start of a segmented transfer, 2 its last segment, 3 an abort from the client, 4 the transfer ends by time. -/
  | usdoRequest (p : Nat) (phase : Nat) (wr : Bool) (idx : Nat) (sub : Nat) (v : List Byte)
  /-- HEARTBEAT_PRODUCE (R60): HbProducerMs expires and the CAN FD node sends its heartbeat. -/
  | heartbeatProduce (p : Nat)
  /-- HEARTBEAT_RECEIVE (R64): A consumed heartbeat arrives, restarting its time and raising HEARTBEAT_BACK after a loss. -/
  | heartbeatReceive (p : Nat) (node : Nat)
  /-- HEARTBEAT_LOST (R64): A consumed heartbeat is not received within its time. -/
  | heartbeatLost (p : Nat) (i : Nat)
  /-- PUSH_RECEIVE (R62): A pushed object frame arrives and is accepted, after its length and check unit pass, or rejected with PUSH_REJECTED. `id` the identifier, bit 29 for 29-bit identifiers. -/
  | pushReceive (p : Nat) (id : Nat) (v : List Byte)
  /-- PUSH_STALE (R63): StaleMs passes without an accepted frame and RxValid falls to 0. -/
  | pushStale (p : Nat) (m : Nat)
  /-- PUSH_TRANSMIT (R71): A transmitted pushed object is sent, on its period or on a change of its source at most every 10 ms. -/
  | pushTransmit (p : Nat) (t : Nat)
  /-- RAW_CONFIG_WRITE (R65): A write of a raw rate, sample point or RawMode restarts the raw CAN controller after the frame in transmission. -/
  | rawConfigWrite (n : Nat) (p : Nat) (sub : Nat) (v : List Byte)
  /-- RAW_FRAME_RECEIVE (R66): A frame received by a raw CAN controller passes the filters into the receive FIFO or is counted lost. `err` is 0 where ISO 11898-1 sees no error in the frame, 1 where an error adds 1 to the receive error counter, 2 where it adds 8; `fl` as FLAGS of a raw record. -/
  | rawFrameReceive (p : Nat) (err : Nat) (id : Nat) (fl : Nat) (v : List Byte)
  /-- RAW_RX (R66): A read of RawRx returns and removes up to 32 oldest frames. -/
  | rawRx (n : Nat) (p : Nat)
  /-- RAW_TX (R66): A write of RawTx queues 1 to 16 frames whole or refuses them. -/
  | rawTx (n : Nat) (p : Nat) (v : List Byte)
  /-- RAW_TX_DONE (R66): The raw controller completes sending a queued frame. `err` 0: the frame was sent; else an error ended it and it is sent again: 1 any error that ISO 11898-1 counts with 8, 2 a missing acknowledge, 3 a stuff error during arbitration. -/
  | rawTxDone (p : Nat) (err : Nat)
  /-- BUS_OFF_RECOVERY (R66): A bus-off raw controller observes 128 occurrences of 11 recessive bits and returns to error-active. -/
  | busOffRecovery (p : Nat)
  /-- USB_ATTACHED (R67): A device attaches to a USB host port and is enumerated. `outLen` the longest output report of the device. -/
  | usbAttached (h : Nat) (addr : Nat) (cls : Nat) (vid : Nat) (pid : Nat) (outLen : Nat)
  /-- USB_DETACHED (R67): A device detaches from a USB host port. -/
  | usbDetached (h : Nat) (addr : Nat)
  /-- HID_REPORT_RECEIVE (R67): An HID input report arrives and is queued or counted lost. -/
  | hidReportReceive (h : Nat) (addr : Nat) (id : Nat) (v : List Byte)
  /-- HID_IN (R67): A read of HidIn returns and removes up to 16 oldest reports. -/
  | hidIn (n : Nat) (h : Nat)
  /-- HID_OUT (R67): A write of HidOut sends an output report to the named device. -/
  | hidOut (n : Nat) (h : Nat) (v : List Byte)
  /-- USB_OVERCURRENT (R67): OC_N held asserted for 1 ms powers off a USB host port. -/
  | usbOvercurrent (h : Nat)
  /-- USB_PORT_OP (R67): A write of 1 to UsbPortOp resets, powers and re-enumerates the host port. -/
  | usbPortOp (n : Nat) (h : Nat) (v : List Byte)
  /-- WINDOW_ACCESS (R69): An access to a window data index reaches the target object or table element, locally or on a hoist device. -/
  | windowAccess (n : Nat) (w : Nat) (sub : Nat) (wr : Bool) (v : List Byte)
  /-- OWNER_EV_READ (R70): A read of OwnerEvData returns up to 32 records the class may read and advances OwnerEvFrom. -/
  | ownerEvRead (n : Nat)
  /-- OWNER_EV_PUSH (R71): A write of OwnerEvPush starts or stops pushing owner ring records to an Ethernet session. -/
  | ownerEvPush (n : Nat) (v : List Byte)
  /-- PLAN_BOUNDARY (R82): At each 4 ms planning boundary the planner sets each planned domain's voltage and sheds load if needed. `temp` the junction temperature in 0.1 °C, `work` the admitted work whose deadline is open (domain, k steps left, ns to the deadline), `slack` the least head slack in 0.01 % of its frame, `speed` the measured rates of the five domains, k steps/s. -/
  | planBoundary (temp : Int) (work : List (Nat × Nat × Nat)) (slack : Nat) (speed : List Nat)
  /-- SHED_HOLD_END (R96): A shed's 1 s hold ends and the planner renews or restores it. `work` as it would stand with nothing shed. -/
  | shedHoldEnd (temp : Int) (work : List (Nat × Nat × Nat)) (slack : Nat)
  /-- PLAN_RAISE (R84): Between boundaries a head slack or speed monitor falls short and the planner raises the domain by 25 mV. `d` the domain, `slack` the deadline slack of each head in ns, `speed` the rate its monitor reads, k steps/s. -/
  | planRaise (d : Nat) (slack : List Nat) (speed : Nat)
  /-- PLAN_WATCHDOG (R85): No planning boundary completes within 12 ms; all planned domains go to 0.900 V and the planner becomes DEAD. -/
  | planWatchdog
  /-- AGE_MEASURE (R87): Every 10 minutes the ageing monitors measure and each domain's age index and the guard band are updated. The slowdowns of the 16 monitors of each of the five domains, 0.01 %. -/
  | ageMeasure (slow : List (List Nat))
  /-- FORECAST_UPDATE (R91): Every 24 hours in service the planner recomputes ForecastHours and ForecastFullHours. -/
  | forecastUpdate
  /-- THERMAL_ABOVE_FLOOR (R92): The junction temperature exceeds 115 °C. -/
  | thermalAboveFloor (temp : Int)
  /-- BOUNDARY_PORT_RESET (R80): One side of a boundary port enters reset; the port returns or discards its transfers and zeroes its pointers. The unit whose boundary port is reset. -/
  | boundaryPortReset (h : Nat)
  /-- BOUNDARY_PORT_RESUME (R80): The reset side leaves reset and the other side resumes writing. -/
  | boundaryPortResume (h : Nat)
  /-- FABRIC_ACCESS (R143): A requester's access is translated, arbitrated and carried out at DRAM, SRAM, a host window or a hoist window, or faults. -/
  | fabricAccess (a : FabAccess)
  /-- THROTTLE_EXPIRY (R163): A row throttle expires and is renewed or ends with MEM_THROTTLE_END. Channel `c`, bank, world and requester of the throttle. -/
  | throttleExpiry (c : Nat) (bank : Nat) (w : Nat) (r : Nat)
  /-- ROW_IDLE_CLOSE (R153): No request hits a bank's open row for IdleCloseNs and the row closes. -/
  | rowIdleClose (c : Nat) (bank : Nat)
  /-- CONCENTRATION_CHECK (R161): At each 10 ms interval a world's SC-BULK share on one channel is checked and MEM_CONCENTRATED raised. -/
  | concentrationCheck (w : Nat)
  /-- RETRAIN_START (R165): Drift or link errors start an in-service retrain of a channel. `temp` the DRAM temperature as an S8, `phy` the PHY drift sensor in °C as an S8. -/
  | retrainStart (c : Nat) (temp : Nat) (phy : Nat)
  /-- RETRAIN_DONE (R165): A retrain completes, or fails and leaves the previous settings. `ok` whether the training passed; `eye` the narrowest lane eye in ps. -/
  | retrainDone (c : Nat) (ok : Bool) (eye : Nat) (temp : Nat) (phy : Nat)
  /-- RETRAIN_RETRY (R166): 10 s after a failed retrain the retrain is tried again. -/
  | retrainRetry (c : Nat)
  /-- PATROL_SCRUB (R167): The daily patrol reads and corrects every protected frame, remapping rows with many corrected errors. Addresses of the lines found in error, and whether the error is uncorrectable. -/
  | patrolScrub (errs : List (Nat × Bool))
  /-- CLASS_WRITE (R148): A write of a requester's Class takes effect at every node and port within 2 steps or is refused. Session `n` writes bytes `v` to Class of requester `r`. -/
  | classWrite (n : Nat) (r : Nat) (v : List Byte)
  /-- RESERVE_RATE_WRITE (R150): A write of ScanReservedMBps or RtReservedMBps is accepted or refused with MEM_RESERVE_HELD. `sub` 4 ScanReservedMBps, 5 RtReservedMBps. -/
  | reserveRateWrite (n : Nat) (sub : Nat) (v : List Byte)
  /-- INVALIDATION_COMPLETE (R110): A translation invalidation completes once every access begun under the old mapping has finished. -/
  | invalidationComplete (w : Nat)
  /-- HO_GRANT (R116): HoOp 1 grants a FREE assignable block to a RUNNING world. -/
  | hoGrant (n : Nat)
  /-- HO_RECALL (R116): HoOp 2 recalls a block from its holder, starting the grace period. -/
  | hoRecall (n : Nat)
  /-- BLOCK_RELEASE (R116): The holder releases a recalled block through its mailbox before the grace ends. -/
  | blockRelease (i : Nat) (h : Nat) (dg : Dgram)
  /-- RECALL_GRACE_EXPIRY (R116): GraceMs passes and the block enters DRAINING. -/
  | recallGraceExpiry (h : Nat)
  /-- DRAIN_COMPLETE (R116): A block's drain ends, or is cut at 10 ms, and the block is reset and scrubbed. -/
  | drainComplete (h : Nat)
  /-- SCRUB_VERIFY_DONE (R116): The scrub verification completes and the block becomes FREE, is scrubbed again, or becomes DEAD. `ok` the CRC-32 over the block equals its empty signature. -/
  | scrubVerifyDone (h : Nat) (ok : Bool)
  /-- HPD_LOW_WAIT_END (R116): A DP receiver's HPD has been low for 100 ms and its grant proceeds. -/
  | hpdLowWaitEnd (h : Nat)
  /-- DEBUG_CONSENT (R122): A guest writes DebugConsent; a 0 closes any open debug access at once. -/
  | debugConsent (n : Nat) (w : Nat) (v : List Byte)
  /-- DOORBELL (R127): A doorbell write sets a ring's WPTR_SEEN, or stops it with RING_OVERRUN, or wakes a paused bin fault. -/
  | doorbell (i : Nat) (r : Nat) (wptr : Nat) (dg : Dgram)
  /-- EQ_CONS_DOORBELL (R129): The event queue consumer doorbell frees space and the writer writes EQ_OVERFLOW and stored events. -/
  | eqConsDoorbell (i : Nat) (cons : Nat) (dg : Dgram)
  /-- RING_CREATE (R131): Set-up operation creating a ring in state IDLE. -/
  | ringCreate (i : Nat) (m : Mail) (r : Nat) (log2 : Nat) (vector : Nat) (base : Nat)
  /-- RING_DESTROY (R131): Set-up operation destroying a ring and releasing its context ID. -/
  | ringDestroy (i : Nat) (m : Mail) (r : Nat)
  /-- EQ_CREATE (R131): Set-up operation creating the instance's event queue. -/
  | eqCreate (i : Nat) (m : Mail) (log2 : Nat) (vector : Nat) (holdoff : Nat) (base : Nat)
  /-- S1_SET (R103): Set-up operation setting a stage-1 root or stage 1 off for a context class. -/
  | s1Set (i : Nat) (m : Mail) (cls : Nat) (base : Nat)
  /-- MB_S1_INVALIDATE (R110): Set-up operation invalidating the guest's stage-1 translations, answered when complete. -/
  | mbS1Invalidate (i : Nat) (m : Mail)
  /-- MEM_REQUEST (R115): Set-up operation mapping zero-filled memory into the world within its grant. -/
  | memRequest (i : Nat) (m : Mail) (a : Nat) (n : Nat)
  /-- MEM_RELEASE (R131): Set-up operation unmapping memory, answered after invalidation. -/
  | memRelease (i : Nat) (m : Mail) (a : Nat) (n : Nat)
  /-- SURFACE_EXPORT (R106): Set-up operation exporting a surface to a world or the hoist. -/
  | surfaceExport (i : Nat) (m : Mail) (a : Nat) (n : Nat) (target : Nat)
  /-- SURFACE_REVOKE (R106): Set-up operation revoking an export and removing its views. -/
  | surfaceRevoke (i : Nat) (m : Mail) (num : Nat)
  /-- SURFACE_IMPORT (R106): Set-up operation mapping a read-only view of an export. -/
  | surfaceImport (i : Nat) (m : Mail) (num : Nat) (a : Nat)
  /-- SHADER_ADMIT (R207): Set-up operation submitting a pipeline description for validation and compilation. -/
  | shaderAdmit (i : Nat) (m : Mail) (addr : Nat) (size : Nat) (reason : Nat) (offset : Nat) (samples : Nat) (stores : Nat) (depth : Nat) (colours : List Nat)
  /-- SHADER_RELEASE (R209): Set-up operation releasing a pipeline handle. -/
  | shaderRelease (i : Nat) (m : Mail) (h : Nat)
  /-- RESERVE (R131): Set-up operation reserving renderer share, bandwidth, audio latency and touch rate. -/
  | reserve (i : Nat) (m : Mail) (r : Nat) (b : Nat) (a : Nat) (t : Nat)
  /-- QUIESCE_SELF (R136): Set-up operation putting the instance into QUIESCING. -/
  | quiesceSelf (i : Nat) (m : Mail)
  /-- REMOTE_ASSOCIATION (R132): A DTLS association on port 20881 is accepted for an Ethernet instance, resuming it with LINK_BACK. -/
  | remoteAssociation (cert : List Byte)
  /-- REMOTE_MEMORY_WRITE (R133): A transport datagram writes the guest's world memory. -/
  | remoteMemoryWrite (i : Nat) (seq : Nat) (ack : Nat) (a : Nat) (data : List Byte)
  /-- REMOTE_MEMORY_READ (R133): A transport datagram reads the guest's world memory and read data returns. -/
  | remoteMemoryRead (i : Nat) (seq : Nat) (ack : Nat) (a : Nat) (len : Nat)
  /-- REMOTE_ACK (R133): An acknowledge datagram releases unacknowledged datagrams. -/
  | remoteAck (i : Nat) (ack : Nat)
  /-- REMOTE_KEEPALIVE (R133): A keepalive datagram arrives and keeps the association alive. -/
  | remoteKeepalive (i : Nat) (ack : Nat)
  /-- REMOTE_RETRANSMIT (R133): A datagram unacknowledged for 20 ms is retransmitted. -/
  | remoteRetransmit (i : Nat)
  /-- REMOTE_KEEPALIVE_SEND (R133): After 100 ms without traffic the side sends a keepalive. -/
  | remoteKeepaliveSend (i : Nat)
  /-- REMOTE_LINK_LOST (R134): Nothing arrives for 1 s or retransmissions run out, raising LINK_LOST. -/
  | remoteLinkLost (i : Nat)
  /-- REMOTE_HOLD_EXPIRY (R134): RemoteHoldS passes without a new association and the instance is quiesced and removed. -/
  | remoteHoldExpiry (i : Nat)
  /-- GRANT_WRITE (R135): The owner writes an instance grant; a decrease below holding raises RESIZE_REQUEST. -/
  | grantWrite (n : Nat) (i : Nat) (sub : Nat) (v : Nat)
  /-- RESIZE_CUT (R135): After ResizeGraceMs, reservations above the new grant are cut at a planning boundary with RESIZED. -/
  | resizeCut (i : Nat)
  /-- INST_ENABLE (R125): InstOp 1 enables an instance and creates or joins its world. -/
  | instEnable (n : Nat) (i : Nat)
  /-- INST_QUIESCE (R136): InstOp 2 puts an instance into QUIESCING. -/
  | instQuiesce (n : Nat) (i : Nat)
  /-- INST_RESUME (R136): InstOp 3 returns a QUIESCED instance's rings to ACTIVE. -/
  | instResume (n : Nat) (i : Nat)
  /-- INST_RESET (R137): InstOp 4 resets a QUIESCED instance. -/
  | instReset (n : Nat) (i : Nat)
  /-- INST_REMOVE (R137): InstOp 5 removes a QUIESCED instance, tearing down the world if it was the last. -/
  | instRemove (n : Nat) (i : Nat)
  /-- QUIESCE_DONE (R136): All work of a quiescing instance has ended and it becomes QUIESCED. -/
  | quiesceDone (i : Nat)
  /-- QUIESCE_LIMIT (R136): QuiesceLimitMs passes and remaining work ends by its journal class. -/
  | quiesceLimit (i : Nat)
  /-- VF_FLR (R138): A PCIe function-level reset of a VF quiesces and resets its instance. -/
  | vfFlr (i : Nat)
  /-- VF_LINK_LOSS (R138): Loss of a VF's link quiesces its instance and raises LINK_LOST. -/
  | vfLinkLoss (i : Nat)
  /-- YIELD_DURATION_END (R142): A yield's duration passes and the guarantee returns unless renewed. -/
  | yieldDurationEnd (w : Nat) (k : Nat)
  /-- NOP (R202): A ring NOP packet is taken and ignored. -/
  | nop (i : Nat) (r : Nat)
  /-- PASS_BEGIN (R175): A pass-begin packet checks the pass descriptor and starts a render pass. -/
  | passBegin (i : Nat) (r : Nat)
  /-- PASS_END (R187): A pass-end packet renders the last segment and applies the store operations. -/
  | passEnd (i : Nat) (r : Nat)
  /-- BIND_PIPELINE (R209): Binds an admitted pipeline, waiting while it compiles. -/
  | bindPipeline (i : Nat) (r : Nat)
  /-- BIND_STATE (R204): Binds a state block for following draws. -/
  | bindState (i : Nat) (r : Nat)
  /-- DRAW (R178): A draw packet bins its primitives into the pass. -/
  | draw (i : Nat) (r : Nat) (prims : List Prim) (run : ShaderRun)
  /-- DRAW_INDEXED (R178): An indexed draw packet bins its primitives. -/
  | drawIndexed (i : Nat) (r : Nat) (prims : List Prim) (run : ShaderRun)
  /-- DRAW_INDIRECT (R178): An indirect draw packet bins the draws its arguments give. -/
  | drawIndirect (i : Nat) (r : Nat) (draws : List (List Prim)) (run : ShaderRun)
  /-- DISPATCH (R217): A compute dispatch packet runs its workgroups. -/
  | dispatch (i : Nat) (r : Nat) (run : ShaderRun)
  /-- DISPATCH_INDIRECT (R217): An indirect compute dispatch packet runs its workgroups. -/
  | dispatchIndirect (i : Nat) (r : Nat) (run : ShaderRun)
  /-- CLEAR (R198): A clear packet clears a rectangle of an attachment. -/
  | clear (i : Nat) (r : Nat)
  /-- QUERY_BEGIN (R202): Starts an occlusion or primitives-binned query. -/
  | queryBegin (i : Nat) (r : Nat)
  /-- QUERY_END (R202): Ends a query and writes its result. -/
  | queryEnd (i : Nat) (r : Nat)
  /-- FENCE_SIGNAL (R205): After earlier writes complete, an atomic maximum raises a fence. -/
  | fenceSignal (i : Nat) (r : Nat)
  /-- FENCE_WAIT (R206): Holds the context until a fence reaches a value. -/
  | fenceWait (i : Nat) (r : Nat)
  /-- FENCE_REEVALUATE (R206): A signal, doorbell or 20 µs tick re-evaluates waiting fences and releases satisfied waits. -/
  | fenceReevaluate
  /-- FENCE_TIMEOUT (R206): FenceWaitTimeoutMs passes on a wait and the context stops. -/
  | fenceTimeout (i : Nat) (r : Nat)
  /-- BARRIER (R204): Waits for earlier writes and optionally invalidates L1 caches. -/
  | barrier (i : Nat) (r : Nat)
  /-- S1_INVALIDATE (R204): A ring packet invalidating stage-1 translations before the next packet. -/
  | s1Invalidate (i : Nat) (r : Nat)
  /-- EVENT (R202): A ring EVENT packet raises RING_EVENT with its 12 bytes. -/
  | event (i : Nat) (r : Nat)
  /-- PRIORITY (R211): Sets the context's priority within its world. -/
  | priority (i : Nat) (r : Nat)
  /-- TIMESTAMP (R202): Writes the current TIME64 to an address. -/
  | timestamp (i : Nat) (r : Nat)
  /-- COPY_BUFFER (R217): A copy-ring packet copies bytes between buffers. -/
  | copyBuffer (i : Nat) (r : Nat)
  /-- COPY_SURFACE (R198): A copy-ring packet copies a rectangle between surfaces. -/
  | copySurface (i : Nat) (r : Nat)
  /-- FILL (R202): A copy-ring packet fills a range with a 32-bit value. -/
  | fill (i : Nat) (r : Nat)
  /-- FLATTEN_PRESENT (R215): A flattening context presents a flattened surface for a head frame. -/
  | flattenPresent (i : Nat) (r : Nat)
  /-- BIN_POOL_FULL (R181): The bin pool has no block left; extensions are taken, or a partial flush or bin fault follows. -/
  | binPoolFull (i : Nat) (r : Nat)
  /-- EXTENSION_REREAD (R183): A doorbell during a bin fault makes the renderer reread the extension table and grow, flush or keep waiting. -/
  | extensionReread (i : Nat) (r : Nat)
  /-- BIN_FAULT_TIMEOUT (R184): BinFaultTimeoutUs expires; a last table read is made and the pass flushes with reason 1. -/
  | binFaultTimeout (i : Nat) (r : Nat)
  /-- PIPELINE_COMPILED (R207): Compilation completes with PIPELINE_READY or PIPELINE_REFUSED. `reason` is 0 for a pipeline that is ready. -/
  | pipelineCompiled (h : Nat) (reason : Nat) (offset : Nat)
  /-- CONTEXT_SCHEDULE (R211): At a preemption point or a context becoming runnable the renderer chooses the next context. `steps` are the NIM steps used since the last choice. -/
  | contextSchedule (steps : Nat)
  /-- PREEMPT_REQUEST (R212): A preemption is requested and raster units finish or save their tiles. `phase` is 0 binning, 1 fragment, 2 compute; `tiles` are those in work. -/
  | preemptRequest (phase : Nat) (tiles : List Nat)
  /-- TILE_GRACE_EXPIRY (R212): TileGraceSteps pass and an unfinished tile is saved after the primitive in progress. `saved` are the unfinished tiles, each with the next primitive to render. -/
  | tileGraceExpiry (saved : List (Nat × Nat))
  /-- TIME_SLICE_EXPIRY (R211): TimeSliceUs passes and equal contexts rotate. -/
  | timeSliceExpiry
  /-- CLUSTER_LOST (R201): A shader cluster becomes DEAD and reservations are reduced if needed. -/
  | clusterLost (c : Nat)
  /-- FLIP_LAYER (R228): A composition packet adds a surface flip to its head's group. -/
  | flipLayer (i : Nat)
  /-- FLIP_COMMIT (R229): Closes a flip group, which is checked whole and accepted as pending or refused. -/
  | flipCommit (i : Nat)
  /-- FLIP_CANCEL (R231): Drops the world's pending flip group and signals its release fences. -/
  | flipCancel (i : Nat)
  /-- HEAD_COMMIT_LINE (R259): A head's commit line advances HeadFrame, applies FRAME commits and ready flip groups, and starts the next frame's fetch. -/
  | headCommitLine (n : Nat) (trim : Int)
  /-- ACQUIRE_TIMEOUT (R230): AcquireTimeoutMs passes on a pending flip group, which is voided and its release fences signalled. -/
  | acquireTimeout (w : Nat) (n : Nat)
  /-- ENSIGN_PERIOD (R249): Each Ensign runtime period reads bindings, evaluates page conditions and drives tones and outputs. -/
  | ensignPeriod
  /-- ENSIGN_ACKNOWLEDGE (R248): A touch area or discrete input acknowledges the page shown in its region. `src` the acknowledge source of the package; `plays` the effects it starts (R337): group, channel, effect, strength, scale. -/
  | ensignAcknowledge (src : Nat) (plays : List (Nat × Nat × Nat × Nat × Nat))
  /-- FLASH_HALF_CYCLE (R250): A flashing discrete output reaches its half-cycle on whole seconds of hoist time and toggles. -/
  | flashHalfCycle
  /-- ENSIGN_FILL (R244): The Ensign 2D engine sets a rectangle to one index. -/
  | ensignFill (n : Nat) (k : Nat) (x : Nat) (y : Nat) (w : Nat) (h : Nat) (idx : Nat)
  /-- ENSIGN_BLIT (R244): The Ensign 2D engine copies an icon rectangle with optional remap. -/
  | ensignBlit (n : Nat) (k : Nat) (x : Nat) (y : Nat) (w : Nat) (h : Nat) (src : Nat) (stride : Nat) (remap : List Byte)
  /-- ENSIGN_GLYPH (R244): The Ensign 2D engine renders a glyph. -/
  | ensignGlyph (n : Nat) (k : Nat) (x : Nat) (y : Nat) (w : Nat) (h : Nat) (off : Nat) (fg : Nat) (bg : Nat)
  /-- ENSIGN_SIGN (R245): The Ensign 2D engine computes a region's expected signatures for all palette sets. -/
  | ensignSign (n : Nat) (k : Nat)
  /-- PACKAGE_VERIFY (R246): PackageOp 1 verifies the staged Ensign content package. -/
  | packageVerify (n : Nat) (pkg : EnsPkg)
  /-- PACKAGE_ACTIVATE (R246): PackageOp 2 activates a verified package, switching each head at a commit line. -/
  | packageActivate (n : Nat)
  /-- PACKAGE_DISCARD (R246): PackageOp 3 discards the staged package. -/
  | packageDiscard (n : Nat)
  /-- HPD_RISE (R267): A sink raises HPD on a transmitter port, which waits 100 ms before reading the sink. -/
  | hpdRise (p : Nat)
  /-- HPD_WAIT_END (R267): 100 ms after HPD rises the port reads DPCD and EDID and starts training. -/
  | hpdWaitEnd (p : Nat) (kind : Nat) (caps : Nat) (su : Nat) (edid : List Byte) (slices : Bool)
  /-- LINK_TRAINED (R267): Link training ends with one of its outcomes. -/
  | linkTrained (p : Nat) (lanes : Nat) (rate : Nat)
  /-- TRAIN_RETRY (R268): A retry interval passes and a failed training runs again. -/
  | trainRetry (p : Nat)
  /-- IRQ_HPD (R269): A short HPD low pulse makes the port read link status and retrain if lock was lost. -/
  | irqHpd (p : Nat) (lost : Bool) (psrError : Bool)
  /-- PANEL_UNPLUGGED (R278): HPD stays low over 2 ms and the port goes dark. -/
  | panelUnplugged (p : Nat)
  /-- LINK_WAKE_DONE (R272): A Stratus head's main link completes its wake. -/
  | linkWakeDone (n : Nat)
  /-- TE_EDGE (R274): A tearing-effect edge is counted and delivered to the head core. `level` is the level after the edge. -/
  | teEdge (n : Nat) (level : Bool)
  /-- TE_LOST (R275): No TE edge arrives for two frame periods. -/
  | teLost (n : Nat)
  /-- PANEL_ON_DELAY_END (R276): PanelOnMs after panel enable the link sequence starts. -/
  | panelOnDelayEnd (n : Nat)
  /-- BACKLIGHT_DELAY_END (R276): BacklightDelayMs after the port lights the backlight is enabled. -/
  | backlightDelayEnd (n : Nat)
  /-- PANEL_FAULT (R277): The panel fault input stays asserted 10 ms and the ports go dark. -/
  | panelFault (n : Nat)
  /-- PANEL_FAULT_CLEAR (R277): The panel fault input stays released 100 ms and HEAD_LIT follows. -/
  | panelFaultClear (n : Nat)
  /-- RX_FRAME (R282): A DP receiver writes a received frame into its layer's pool, or reports a size mismatch. -/
  | rxFrame (n : Nat) (w : Nat) (h : Nat) (rate : Nat) (khz : Nat) (colour : Nat) (data : List Byte)
  /-- RX_SIGNAL_LOST (R283): A receiver loses its link or source and holds its last frame. -/
  | rxSignalLost (n : Nat)
  /-- RX_HOLD_EXPIRY (R283): RxHoldMs passes after signal loss and the layer shows black. -/
  | rxHoldExpiry (n : Nat)
  /-- SIGNATURE_SAMPLE (R290): A region's last pixel reaches the signature point and the checker compares signature and provenance. -/
  | signatureSample (n : Nat) (k : Nat) (seen : Option (Nat × Nat)) (sent : Bool)
  /-- FREEZE_WINDOW_EXPIRY (R294): A live region's freeze window ends with no signature change. -/
  | freezeWindowExpiry (n : Nat) (k : Nat)
  /-- BACKUP_TONE_SWITCH (R360): Every 250 ms the backup tone alternates between 800 and 1,000 Hz. -/
  | backupToneSwitch
  /-- SCAN_FRAME_END (R308): A touch scan frame ends and the port program finds, tracks, routes and reports contacts. `raw` the mutual counts row by row, `self` the self counts of the drive, then the sense lines, `noise` the noise at the two frequencies measured. -/
  | scanFrameEnd (p : Nat) (raw : List Nat) (self : List Nat) (noise : Nat × Nat)
  /-- IDLE_STEP (R313): An idle step time passes after the last contact and the scan rate steps down. -/
  | idleStep (p : Nat)
  /-- GESTURE_WATCH_END (R314): A 400 ms gesture watch ends without a wake gesture. -/
  | gestureWatchEnd (p : Nat)
  /-- GLOVE_TIMEOUT (R309): 10 s without a glove cluster turns glove sensing off. -/
  | gloveTimeout (p : Nat)
  /-- WET_TIMEOUT (R308): 1 s after the last water cluster the port is no longer wet. -/
  | wetTimeout (p : Nat)
  /-- TOUCH_PORT_START (R315): A touch port's integrity scan, calibration and baseline capture complete and it begins reporting. The flex-present pin; channels found open or shorted; channels that calibration placed; compensation codes; first raw counts; captured baselines. -/
  | touchPortStart (p : Nat) (fpc : Bool) (bad : List Nat) (placed : Nat) (coarse : List Nat) (fine : List Nat) (first : List Nat) (cap : List Nat) (selfCap : List Nat)
  /-- INTEGRITY_SCAN (R319): The 10-minute node integrity scan completes, masking faulty channels and storing a reference. -/
  | integrityScan (p : Nat) (bad : List Nat) (aborted : Bool)
  /-- HAPTIC_PLAY (R333): A ring 6 packet plays an effect on a channel, subject to source rank. The instance whose ring 6 is met. -/
  | hapticPlay (i : Nat)
  /-- HAPTIC_STOP (R333): A ring 6 packet stops a channel's effect with braking. -/
  | hapticStop (i : Nat)
  /-- PLAY_EFFECT (R333): A write of PlayEffect plays an effect on a channel. -/
  | playEffect (n : Nat) (g : Nat) (c : Nat) (d : List Byte)
  /-- LOAD_MEASURE (R327): At a group start each enabled channel's step and chirp measurements complete. `answers` whether the driver die answers; `meas` channel, load in nF, short found, resonance in Hz. -/
  | loadMeasure (g : Nat) (answers : Bool) (meas : List (Nat × Nat × Bool × Nat))
  /-- HAPTIC_LOOP_PERIOD (R329): Each 50 µs loop period samples sense and sets the drive voltage. `a` the sensed envelope in 0.00001 m/s², `mw` the group's power. -/
  | hapticLoopPeriod (g : Nat) (c : Nat) (a : Nat) (mw : Nat)
  /-- SENSE_CHECK (R330): At BoostMs + 2 ms into an effect the channel checks its sense and may fall to open loop with SENSE_FAULT. -/
  | senseCheck (g : Nat) (c : Nat) (a : Nat)
  /-- EFFECT_END (R331): An effect's braking completes, or 10 s passes, ending the effect at an EFFECT boundary. -/
  | effectEnd (g : Nat) (c : Nat)
  /-- OVERCURRENT (R339): Output current exceeds its limit and the channel stops at once. -/
  | overcurrent (g : Nat) (c : Nat)
  /-- DRIVER_HOT (R339): The driver die crosses 110 °C or 125 °C, limiting targets or switching high voltage off. `temp` in 0.1 °C as an S16. -/
  | driverHot (g : Nat) (temp : Nat)
  /-- HV_FAULT (R339): The high-voltage rail leaves its range for 1 ms and the group stops. -/
  | hvFault (g : Nat)
  /-- HV_RETRY (R339): Every 1 s a faulted group retries its high voltage. -/
  | hvRetry (g : Nat) (ok : Bool)
  /-- SAMPLE_INSTANT (R341): A domain's sample instant computes the whole graph of that domain for one sample. `d` the domain; `ins` samples as S32 by 256 × KIND + 16 × UNIT + CHANNEL of a physical input; `late` whether the engine failed to complete the sample. -/
  | sampleInstant (d : Nat) (ins : List (Nat × Nat)) (late : Bool)
  /-- METER_UPDATE (R347): Every 10 ms source and bus meters update. -/
  | meterUpdate
  /-- AUD_BRIDGE_LOCKED (R349): A bridge locks to its input. Bridge and its ratio in 2^-24. -/
  | audBridgeLocked (k : Nat) (ratio : Nat)
  /-- AUD_BRIDGE_UNLOCKED (R349): A bridge's input stops or moves and its outputs ramp to silence. -/
  | audBridgeUnlocked (k : Nat)
  /-- AUDIO_PLAY (R351): A ring 5 packet queues a play buffer for a stream. The instance whose ring 5 is met. -/
  | audioPlay (i : Nat)
  /-- AUDIO_CAPTURE (R351): A ring 5 packet queues a capture buffer for a stream. -/
  | audioCapture (i : Nat)
  /-- AUDIO_START (R352): A ring 5 packet starts a stream at a hoist time. -/
  | audioStart (i : Nat)
  /-- AUDIO_STOP (R352): A ring 5 packet ramps a stream to silence and completes its buffers. -/
  | audioStop (i : Nat)
  /-- AUDIO_BUFFER_DONE (R351): A stream buffer completes and its fence is signalled. -/
  | audioBufferDone (t : Nat)
  /-- AUD_TDM_CLOCK_LOST (R355): A target-mode TDM clock is absent or out of range. -/
  | audTdmClockLost (p : Nat)
  /-- TDM_CLOCK_RESUME (R355): 16 good frames arrive and the TDM port resumes. -/
  | tdmClockResume (p : Nat)
  /-- MOV (R369): ALU instruction copying rs to rd. The core that meets this instruction at its pc. -/
  | mov (c : Nat)
  /-- ADD (R369): ALU instruction adding rs to rd. The core that meets this instruction at its pc. -/
  | add (c : Nat)
  /-- SUB (R369): ALU instruction subtracting rs from rd. The core that meets this instruction at its pc. -/
  | sub (c : Nat)
  /-- ADC (R369): ALU instruction adding with carry. The core that meets this instruction at its pc. -/
  | adc (c : Nat)
  /-- SBC (R369): ALU instruction subtracting with borrow. The core that meets this instruction at its pc. -/
  | sbc (c : Nat)
  /-- AND (R369): ALU bitwise AND. The core that meets this instruction at its pc. -/
  | and (c : Nat)
  /-- OR (R369): ALU bitwise OR. The core that meets this instruction at its pc. -/
  | or (c : Nat)
  /-- XOR (R369): ALU bitwise XOR. The core that meets this instruction at its pc. -/
  | xor (c : Nat)
  /-- SHL (R369): ALU shift left. The core that meets this instruction at its pc. -/
  | shl (c : Nat)
  /-- SHR (R369): ALU logical shift right. The core that meets this instruction at its pc. -/
  | shr (c : Nat)
  /-- SRA (R369): ALU arithmetic shift right. The core that meets this instruction at its pc. -/
  | sra (c : Nat)
  /-- CMP (R369): ALU compare setting flags. The core that meets this instruction at its pc. -/
  | cmp (c : Nat)
  /-- TST (R369): ALU test setting flags of AND. The core that meets this instruction at its pc. -/
  | tst (c : Nat)
  /-- MUL (R369): ALU low 16 bits of a signed product. The core that meets this instruction at its pc. -/
  | mul (c : Nat)
  /-- MULH (R369): ALU high 16 bits of a signed product. The core that meets this instruction at its pc. -/
  | mulh (c : Nat)
  /-- NOT (R369): ALU bitwise NOT. The core that meets this instruction at its pc. -/
  | not (c : Nat)
  /-- ADDI (R369): Adds a signed immediate. The core that meets this instruction at its pc. -/
  | addi (c : Nat)
  /-- MOVI (R369): Loads an immediate. The core that meets this instruction at its pc. -/
  | movi (c : Nat)
  /-- MOVHI (R369): Loads an immediate into the high byte. The core that meets this instruction at its pc. -/
  | movhi (c : Nat)
  /-- CMPI (R369): Compares with a signed immediate. The core that meets this instruction at its pc. -/
  | cmpi (c : Nat)
  /-- LDW (R369): Loads a word from memory or a unit window. The core that meets this instruction at its pc. -/
  | ldw (c : Nat)
  /-- STW (R369): Stores a word, including CAN page releases and queueing. The core that meets this instruction at its pc. -/
  | stw (c : Nat)
  /-- LDB (R369): Loads a zero-extended byte. The core that meets this instruction at its pc. -/
  | ldb (c : Nat)
  /-- STB (R369): Stores a byte. The core that meets this instruction at its pc. -/
  | stb (c : Nat)
  /-- BCC (R369): Conditional relative branch. The core that meets this instruction at its pc. -/
  | bcc (c : Nat)
  /-- JMP (R369): Absolute jump. The core that meets this instruction at its pc. -/
  | jmp (c : Nat)
  /-- CALL (R369): Call saving the return index in g15. The core that meets this instruction at its pc. -/
  | call (c : Nat)
  /-- MFS (R369): Reads a special register, popping evq or marking mbx and peerin read. The core that meets this instruction at its pc. -/
  | mfs (c : Nat)
  /-- MTS (R369): Writes a special register. The core that meets this instruction at its pc. -/
  | mts (c : Nat)
  /-- JR (R369): Jumps to a register, including RET. The core that meets this instruction at its pc. -/
  | jr (c : Nat)
  /-- RETE (R367): Returns from an event handler, restoring flags. The core that meets this instruction at its pc. -/
  | rete (c : Nat)
  /-- WAIT (R369): Sleeps until an enabled event is queued. The core that meets this instruction at its pc. -/
  | wait (c : Nat)
  /-- PWAIT (R372): Ends the work of a period and waits for the period boundary. The core that meets this instruction at its pc. -/
  | pwait (c : Nat)
  /-- SEND (R366): Sends a word to the peer core of the same world. The core that meets this instruction at its pc. -/
  | send (c : Nat)
  /-- EI (R367): Enables handler entry. The core that meets this instruction at its pc. -/
  | ei (c : Nat)
  /-- DI (R367): Disables handler entry. The core that meets this instruction at its pc. -/
  | di (c : Nat)
  /-- SYS_NOP (R369): The SYS no-operation instruction. The core that meets this instruction at its pc. -/
  | sysNop (c : Nat)
  /-- BMOV (R370): Block move of words counted in g14. The core that meets this instruction at its pc. -/
  | bmov (c : Nat)
  /-- BFEED (R370): Block feed of memory to a check unit. The core that meets this instruction at its pc. -/
  | bfeed (c : Nat)
  /-- BMAC (R370): Block multiply-accumulate into g10 and g11. The core that meets this instruction at its pc. -/
  | bmac (c : Nat)
  /-- WAITV (R370): Polls a word under a mask until it matches or the count runs out. The core that meets this instruction at its pc. -/
  | waitv (c : Nat)
  /-- HANDLER_ENTRY (R367): With IE set and an enabled event queued, the core enters its handler at an instruction or element boundary. The core. -/
  | handlerEntry (c : Nat)
  /-- TIMER_EXPIRY (R364): A core timer reaches 0, queues its event and reloads or stops. Core and timer. -/
  | timerExpiry (c : Nat) (t : Nat)
  /-- EDGE_DETECT (R364): An enabled edge detector sees an edge at its input and queues an event. Core, detector and the input level after the edge. -/
  | edgeDetect (c : Nat) (e : Nat) (level : Bool)
  /-- PERIOD_TICK (R372): A core's period tick falls, making a period boundary with PWAIT or counting a late period. -/
  | periodTick (c : Nat)
  /-- CORE_RESET (R375): The parent resets a faulted core, or makes it DEAD after a third reset in 60 s. -/
  | coreReset (c : Nat)
  /-- MAILBOX_IN (R366): A write of MailboxIn queues an MBX event or returns BUSY. -/
  | mailboxIn (n : Nat) (c : Nat) (v : List Byte)
  /-- PROGRAM_STAGE (R376): A write of ProgramStage fills the inactive bank and makes it staged. -/
  | programStage (n : Nat) (c : Nat) (v : List Byte)
  /-- PROGRAM_VERIFY (R376): ProgramOp 1 verifies the staged program image. `sigOk` whether the image's signature verifies under the key its KEY_REF names. -/
  | programVerify (n : Nat) (c : Nat) (sigOk : Bool)
  /-- PROGRAM_EMPTY (R376): ProgramOp 2 empties the inactive bank. -/
  | programEmpty (n : Nat) (c : Nat)
  /-- ENS_LOCKSTEP (R380): The Ensign pair's comparator finds a difference and the pair restarts. -/
  | ensLockstep
  /-- ENS_PAIR_RESTARTED (R381): The Ensign pair restart completes and every region is redrawn. -/
  | ensPairRestarted
  /-- FEED_DATA (R386): A session write of FeedData feeds bytes to a check unit or is refused. Session, check unit and bytes. -/
  | feedData (n : Nat) (u : Nat) (v : List Byte)
  /-- RUNNING_VALUE_WRITE (R385): A write of RunningValue continues feeding from the written value. -/
  | runningValueWrite (n : Nat) (u : Nat) (v : List Byte)
  /-- CRC_SETTING_WRITE (R383): A write of CrcWidth, Poly, Init or Reflect resets RunningValue to Init. `sub` 1 CrcWidth, 2 Poly, 3 Init, 4 XorOut, 5 Reflect. -/
  | crcSettingWrite (n : Nat) (u : Nat) (sub : Nat) (v : List Byte)
  /-- COMPARE (R389): CompareOp 1 compares Result with Expected. -/
  | compare (n : Nat) (u : Nat)
  /-- RESTART_AT_INIT (R389): CompareOp 2 restarts the running value at Init. -/
  | restartAtInit (n : Nat) (u : Nat)
  /-- ALIVE_RESYNC (R388): CompareOp 3 returns all alive streams to their first state. -/
  | aliveResync (n : Nat) (u : Nat)
  /-- OWNER_TICKET (R394): OwnerOp 1 acts on an ownership ticket, claiming or transferring ownership. `sigOk` whether the ticket's signature verifies under the key its KEY_REF names. -/
  | ownerTicket (n : Nat) (sigOk : Bool)
  /-- LIFECYCLE_ADVANCE (R393): A lifecycle fuse is blown under its allowed transition. The session that asks for the transition. -/
  | lifecycleAdvance (n : Nat)
  /-- SHA_256 (R397): Crypto job computing SHA-256. The session that submits the job. -/
  | sha256 (n : Nat)
  /-- SHA_384 (R397): Crypto job computing SHA-384. The session that submits the job. -/
  | sha384 (n : Nat)
  /-- SHA_512 (R397): Crypto job computing SHA-512. The session that submits the job. -/
  | sha512 (n : Nat)
  /-- AES_GCM_ENCRYPT (R397): Crypto job AES-256-GCM encryption. The session that submits the job. -/
  | aesGcmEncrypt (n : Nat)
  /-- AES_GCM_DECRYPT (R398): Crypto job AES-256-GCM decryption with tag check. The session that submits the job. -/
  | aesGcmDecrypt (n : Nat)
  /-- CMAC_GENERATE (R397): Crypto job generating an AES-256-CMAC. The session that submits the job. -/
  | cmacGenerate (n : Nat)
  /-- CMAC_VERIFY (R398): Crypto job verifying an AES-256-CMAC. The session that submits the job. -/
  | cmacVerify (n : Nat)
  /-- XTS_ENCRYPT (R397): Crypto job AES-256-XTS encryption. The session that submits the job. -/
  | xtsEncrypt (n : Nat)
  /-- XTS_DECRYPT (R397): Crypto job AES-256-XTS decryption. The session that submits the job. -/
  | xtsDecrypt (n : Nat)
  /-- ECDSA_SIGN (R397): Crypto job signing a hash with ECDSA. The session that submits the job. -/
  | ecdsaSign (n : Nat)
  /-- ECDSA_VERIFY (R398): Crypto job verifying an ECDSA signature. The session that submits the job. -/
  | ecdsaVerify (n : Nat)
  /-- ECDH (R398): Crypto job computing a P-384 ECDH shared secret. The session that submits the job. -/
  | ecdh (n : Nat)
  /-- KEY_GENERATION (R397): Crypto job generating a key pair. The session that submits the job. -/
  | keyGeneration (n : Nat)
  /-- ED25519_VERIFY (R398): Crypto job verifying an Ed25519 signature. The session that submits the job. -/
  | ed25519Verify (n : Nat)
  /-- RANDOM_BYTES (R399): Crypto job returning random bytes. The session that submits the job. -/
  | randomBytes (n : Nat)
  /-- CRYPTO_JOB_DONE (R401): A crypto job completes on its lane with its bound key, releasing its slot binding. The session whose job completes. -/
  | cryptoJobDone (n : Nat)
  /-- CRYPTO_RNG_FAIL (R399): The entropy source fails a health test and the generator stops. -/
  | cryptoRngFail
  /-- KEYOP_GENERATE (R400): KeyOp 1 generates a key inside a slot. `w` is the world that a slot from 8 up is granted to. -/
  | keyopGenerate (n : Nat) (w : Nat)
  /-- KEYOP_IMPORT_PLAIN (R400): KeyOp 2 imports a plaintext key into a slot. -/
  | keyopImportPlain (n : Nat) (w : Nat)
  /-- KEYOP_IMPORT_WRAPPED (R400): KeyOp 3 imports a wrapped key into a slot. -/
  | keyopImportWrapped (n : Nat) (w : Nat)
  /-- KEYOP_ERASE (R402): KeyOp 4 makes a slot ERASE_PENDING. -/
  | keyopErase (n : Nat)
  /-- ATTEST (R404): AttestOp signs an attestation report over the nonce. -/
  | attest (n : Nat)
  /-- JTAG_DEBUG_OPEN (R405): A debug certificate and challenge signature on the JTAG port open a debug session. `holderOk` the challenge is signed by HOLDER_KEY. -/
  | jtagDebugOpen (v : List Byte) (sigOk : Bool) (cosignOk : Bool) (holderOk : Bool)
  /-- DEBUG_CERT_EXPIRY (R405): HoursInService passes HOURS_UNTIL and the debug session closes. -/
  | debugCertExpiry (n : Nat)
  /-- BOUNDARY_SCAN_OPEN (R406): Boundary scan opens through a reset into a state where no world runs. The debug session that opens it. -/
  | boundaryScanOpen (n : Nat)
  /-- UPD_HEADER (R408): A write of UpdHeader checks the package header and enters RECEIVING. `sigOk` whether the header's signature verifies under the key its KEY_REF names. -/
  | updHeader (n : Nat) (v : List Byte) (sigOk : Bool)
  /-- UPD_BODY (R409): A body segment is written to inactive areas and hashed; the last makes the package STAGED. `bad` the NOR banks with an erase block that fails under this segment, one entry for each block; `innerOk` whether the signature of an inner package (R423) verifies. -/
  | updBody (n : Nat) (off : Nat) (last : Bool) (v : List Byte) (bad : List Nat) (innerOk : Bool)
  /-- UPD_SCHEDULE (R411): UpdOp 1 schedules activation. -/
  | updSchedule (n : Nat)
  /-- UPD_CANCEL (R411): UpdOp 2 cancels a schedule or discards a staged package. -/
  | updCancel (n : Nat)
  /-- UPD_CONFIRM (R417): UpdOp 3 confirms a package in trial and raises floors. -/
  | updConfirm (n : Nat)
  /-- UPD_REJECT (R417): UpdOp 4 rejects a package in trial and returns items to their previous banks. -/
  | updReject (n : Nat)
  /-- UPD_RAISE_FLOOR (R419): UpdOp 5 raises the floor of class 3 or 4. -/
  | updRaiseFloor (n : Nat)
  /-- UPD_LOAD_USB (R410): UpdOp 6 loads FJ880.UPD from USB mass storage. `file` the bytes of FJ880.UPD, empty where there is none. -/
  | updLoadUsb (n : Nat) (file : List Byte) (sigOk : Bool) (bad : List Nat) (innerOk : Bool)
  /-- UPD_ACTIVATION (R413): UpdActivateAt arrives and each target switches its item, or the activation is missed. -/
  | updActivation
  /-- HALYARD_RESTART_DONE (R414): Halyard serves again after a restart and start checks conclude. `ok` whether Halyard reached serving state in time and passed its self-tests. -/
  | halyardRestartDone (ok : Bool)
  /-- UPD_TRIAL_EXPIRY (R417): UpdTrialHours pass and the package is confirmed. -/
  | updTrialExpiry
  /-- RECOVERY_REQUEST (R422): In recovery the boot ROM receives a debug certificate or owner recovery package, or refuses with UPD_RECOVERY. `cert` `v` is a debug certificate, else a package, header and body; `innerOk` the signature of the package inside a recovery package verifies. -/
  | recoveryRequest (cert : Bool) (v : List Byte) (sigOk : Bool) (cosignOk : Bool) (holderOk : Bool) (innerOk : Bool)
  /-- UNIT_RESET (R430): A unit reset by its parent restores settings and resolves its journalled items by class. `copyOk` a settings copy of the unit passes its CRC; `v` SEQ of the records whose CRC fails. -/
  | unitReset (h : Nat) (copyOk : Bool) (v : List Nat)
  /-- JOURNAL_DRAIN (R426): The journal writer drains tail records to MRAM. `k` the bytes MRAM has accepted. -/
  | journalDrain (k : Nat)
  /-- EXPORT_BUILD (R440): ExportOp 1 builds and signs a journal export. -/
  | exportBuild (n : Nat)
  /-- VMAIN_FAIL (R444): VMAIN falls below 8.4 V and the FJ-880 enters HOLDUP or FLUSHING. Both supplies in mV at the sample. -/
  | vmainFail (vmain : Nat) (vbak : Nat)
  /-- VMAIN_VALID (R444): VMAIN has been valid for 10 ms, starting the device or returning from hold-up. VMAIN in mV; the DRAM channels whose temperature has drifted by more than RetrainDriftC. -/
  | vmainValid (vmain : Nat) (drift : List Nat)
  /-- VMAIN_OVER (R442): VMAIN exceeds 38.0 V and is disconnected. -/
  | vmainOver (vmain : Nat) (vbak : Nat)
  /-- VBAK_FLUSH_TRIGGER (R448): VBAK falls below 2.9 V in hold-up and the flush begins. -/
  | vbakFlushTrigger (vbak : Nat)
  /-- VBAK_LOW (R443): VBAK falls below VbakWarnMv. -/
  | vbakLow (vbak : Nat)
  /-- VBAK_ABSENT (R443): VBAK falls below 2.7 V. -/
  | vbakAbsent (vbak : Nat)
  /-- REMOTE_OFF (R444): RemoteOffInput is asserted for 100 ms and the device flushes and turns off. -/
  | remoteOff
  /-- RESET_N (R444): RESET_N is held low for 1 ms, causing a flush and a cold start on release. -/
  | resetN
  /-- THERMAL_HIGH (R454): The junction reaches 125 °C and renderer reservations are shed. Junction temperature, 0.1 °C. -/
  | thermalHigh (temp : Int)
  /-- THERMAL_TRIP (R454): The junction reaches 135 °C and the device enters hold-up on VMAIN. -/
  | thermalTrip (temp : Int)
  /-- THERMAL_SHUTDOWN (R454): The junction reaches 145 °C and the device flushes and turns off. -/
  | thermalShutdown (temp : Int)
  /-- THERMAL_RECOVER (R444): The junction stays below 110 °C for 10 s and hold-up on VMAIN returns. The DRAM channels whose temperature has drifted by more than RetrainDriftC. -/
  | thermalRecover (drift : List Nat)
  /-- FLUSH_COMPLETE (R448): The journal tail is in MRAM and the device goes OFF or makes a warm return after flush. -/
  | flushComplete
  /-- RETURN_COMPLETE (R450): Every unit has resumed after a return and the device is in SERVICE. -/
  | returnComplete
  /-- BOOT_HANDOVER (R395): The boot ROM derives identity, verifies Halyard, extends measurements and hands over or enters recovery. `otpOk` the copies of every OTP field agree; `puf` the 48-byte secret, 0 where the correction fails; `imageA`, `imageB` whether the Halyard image of each NOR bank verifies; `lost` the units whose two settings copies both fail; `corrupt` the SEQ of journal records whose CRC fails. -/
  | bootHandover (otpOk : Bool) (puf : Nat) (imageA : Bool) (imageB : Bool) (lost : List Nat) (corrupt : List Nat)
  /-- START_UP_COMPLETE (R452): Every unit is ALIVE or DEAD and the device reaches full service. `silent` the identity references whose die does not answer; `untrained` the DRAM channels that failed training. -/
  | startUpComplete (silent : List Nat) (untrained : List Nat)
  /-- HALYARD_WATCHDOG (R414): No Halyard serving heartbeat for 2 s restarts Halyard. -/
  | halyardWatchdog
  /-- HOLDUP_CONFIG_WRITE (R445): A write of HoldupHeads, RemoteOffInput or HoldupLinks is checked against budget and state. `sub` 1 HoldupHeads, 3 RemoteOffInput, 4 HoldupLinks. -/
  | holdupConfigWrite (n : Nat) (sub : Nat) (v : List Byte)
  /-- HOIST_JOIN (R455): HoistOp 1 joins the device to a hoist. `held` the device ID or the manager role is already held in the hoist. -/
  | hoistJoin (n : Nat) (held : Bool)
  /-- HOIST_LEAVE (R455): HoistOp 2 returns the device to lone. -/
  | hoistLeave (n : Nat)
  /-- HOIST_LINK_UP (R458): A hoist link trains, authenticates and keys its cipher, or fails with HOIST_LINK_AUTH. `authOk` the peer's certificate and signature verify; `peer`, `serial`, `hid` its device ID, serial number and HoistId; `sameOwner` it carries the same live owner slot hash; `hops`, `mgr` its HopsToManager (0xFF none) and ManagerId; `held` as at HOIST_JOIN. -/
  | hoistLinkUp (l : Nat) (trained : Bool) (authOk : Bool) (peer : Nat) (serial : Nat) (hid : Nat) (sameOwner : Bool) (hops : Nat) (mgr : Nat) (held : Bool)
  /-- HOIST_LINK_RETRY (R458): Every 10 s a failed link retries bring-up. -/
  | hoistLinkRetry (l : Nat)
  /-- LINK_REKEY (R458): After 2^32 frames the link rekeys by a new ECDH. -/
  | linkRekey (l : Nat)
  /-- HOIST_DICT_REQUEST (R464): A forwarded dictionary request frame is handled by the target device's server. `ok` the frame's tag verifies; session `sess` of class `cl` and world `w` on device `src`; `op`, `flags`, OFFSET `off` and LEN `len` of the record it carries. -/
  | hoistDictRequest (l : Nat) (ok : Bool) (src : Nat) (sess : Nat) (cl : Nat) (w : Nat) (op : Nat) (flags : Nat) (idx : Nat) (sub : Nat) (off : Nat) (len : Nat) (v : List Byte)
  /-- HOIST_DICT_RESPONSE (R464): A forwarded response returns to the originating session. -/
  | hoistDictResponse (l : Nat) (ok : Bool) (sess : Nat) (st : Nat) (v : List Byte)
  /-- HOIST_FEED_DATA (R468): Feed data frames carry a surface copy into the target pool. `ok` the frame's tag verifies; `last` the copy ends with these bytes; no bytes at all report that the source has stopped the feed. -/
  | hoistFeedData (l : Nat) (ok : Bool) (dst : Nat) (f : Nat) (last : Bool) (v : List Byte)
  /-- TIME_EXCHANGE (R462): Every 1 ms a device exchanges timestamps with its parent and corrects phase and frequency. The four timestamps: sent here, received and sent by the parent, received here. -/
  | timeExchange (t1 : Nat) (t2 : Nat) (t3 : Nat) (t4 : Nat)
  /-- TIME_LOCK_TIMEOUT (R462): 100 ms after the last exchange TimeLocked falls to 0. -/
  | timeLockTimeout
  /-- HOIST_HEARTBEAT (R470): A heartbeat frame arrives from a link peer. -/
  | hoistHeartbeat (l : Nat) (ok : Bool) (src : Nat) (fromMgr : Bool) (hops : Nat) (mgr : Nat) (term : Nat)
  /-- CONTACT_FORWARD (R469): A contact on a feed layer is forwarded to the source world. Touch port and payload of the record, destination world on device `dst`. -/
  | contactForward (l : Nat) (ok : Bool) (dst : Nat) (u : Nat) (w : Nat) (v : List Byte)
  /-- MEMBERSHIP (R470): A membership frame reports joins, hold-up, missed schedules or terms. Kind 0 device `a` joins or returns, `b` hops behind the link; 1 it leaves; 2 it enters hold-up; 3 a path to it is lost; 4 it dropped the item `b`; 5 the manager `a` has term `b`; 6 the feeds admitted outbound on this link sum to `a` MB/s. -/
  | membership (l : Nat) (ok : Bool) (kind : Nat) (a : Nat) (b : Nat)
  /-- PTP_MESSAGE (R460): An IEEE 1588 message is received and hoist time slews to the selected master. `selected` the best master clock algorithm has a master after this message; `offset` hoist time less the master's time, ns. -/
  | ptpMessage (p : Nat) (domain : Nat) (transport : Nat) (selected : Bool) (offset : Int)
  /-- HOIST_PTP_LOST (R460): No PTP master selected for 10 s. -/
  | hoistPtpLost
  /-- HOIST_LINK_DOWN (R459): A parent link goes down and a standby link becomes parent. -/
  | hoistLinkDown (l : Nat)
  /-- HOIST_DEVICE_LOST (R470): No heartbeat from a worker for WorkerLossMs; its slot becomes DEAD. -/
  | hoistDeviceLost (d : Nat)
  /-- HOIST_TAKEOVER (R471): The deputy hears no manager for ManagerLossMs and takes over or reports a partition. The devices the deputy reaches, as a set. -/
  | hoistTakeover (reach : Nat)
  /-- FEED_ENABLE (R467): FeedOp 1 enables a feed of an exported surface to a layer. `src` the world of the export plus 1, 0 when the source does not know it or does not offer it; `pathFits` the rate fits on the links beyond the first. -/
  | feedEnable (n : Nat) (f : Nat) (src : Nat) (pathFits : Bool)
  /-- FEED_DISABLE (R467): FeedOp 2 disables a feed. -/
  | feedDisable (n : Nat) (f : Nat)
  /-- FEED_POLL (R468): Every 250 µs the source feed engine reads PRESENT and starts a copy if it rose. Export, target device and its feed. -/
  | feedPoll (e : Nat) (d : Nat) (f : Nat)
  /-- FEED_COPY_DONE (R468): A feed copy completes and COPIED is written. `k` the bytes of the surface. -/
  | feedCopyDone (e : Nat) (d : Nat) (f : Nat) (k : Nat)
  /-- HOIST_FEED_LOST (R469): FeedHoldMs passes with the source unreachable and the layer shows black. -/
  | hoistFeedLost (f : Nat)
  /-- CHAIN_MASK_WRITE (R475): A write of ChainMask chains or unchains counters, zeroing the upper halves. -/
  | chainMaskWrite (n : Nat) (v : List Byte)
  /-- OVERFLOW_CLEAR (R473): A write of OverflowClear clears counter overflow bits. -/
  | overflowClear (n : Nat) (v : List Byte)
  /-- SNAPSHOT_TAKE (R476): SnapshotOp 1 copies all counters at one instant into a bank. -/
  | snapshotTake (n : Nat)
  /-- SNAPSHOT_RELEASE (R476): SnapshotOp 2 releases the session's snapshot bank. -/
  | snapshotRelease (n : Nat)
  /-- SAMPLER_ARM (R480): SampleOp 1 arms a sampler on a counter and period. -/
  | samplerArm (n : Nat) (j : Nat)
  /-- SAMPLER_DISARM (R480): SampleOp 2 disarms a sampler. -/
  | samplerDisarm (n : Nat) (j : Nat)
  /-- PMC_SAMPLE (R480): A sampled counter passes a multiple of its period and a sample is recorded. `v` the sampled source: for renderer and instance counters context ID, pipeline handle, instruction offset, skid, cluster; for pennant counters pc and skid; for memory and fabric counters channel, bank, requester, world, skid, class. -/
  | pmcSample (j : Nat) (v : List Nat)
  /-- COUNTER_VIEW_READ (R478): A read of NIM_STEPS in the counter view latches the instance counters. Offset in the counter view page. -/
  | counterViewRead (i : Nat) (off : Nat)
  /-- ETH_INTERFACE_WRITE (R498): A write of EthInterface restarts the MAC in the new interface. -/
  | ethInterfaceWrite (n : Nat) (p : Nat) (v : List Byte)
  /-- PCIE_LINK_TRAINING (R498): PERST_N or the host starts PCIe link training under PcieSpeedMax and PcieClocking. `up` the training ends with a link; `gen`, `width` the highest rate generation and lanes the partner and the channel allow. -/
  | pcieLinkTraining (p : Nat) (up : Bool) (gen : Nat) (width : Nat)
  /-- REMOTE_OFF_INPUT_WRITE (R502): A write naming a pin already used as an output is refused. -/
  | remoteOffInputWrite (n : Nat) (v : List Byte)
  /-- LIGHT_SENSOR_READ (R503): Every 100 ms a light-sensor port reads its sensor and updates lux or LightValid. `ok` both bytes came with acknowledges within 10 ms. -/
  | lightSensorRead (k : Nat) (ok : Bool) (word : Nat)
  /-- EQ_HOLDOFF_EXPIRY (R128): EQ_HOLDOFF_US passes after the previous interrupt while EQ_PROD has advanced, and the event writer raises EQ_VECTOR. -/
  | eqHoldoffExpiry (i : Nat)
  /-- WORK_ITEM_COMPLETE (R432): A taken ring item (pass, dispatch, copy or fill) completes its memory writes, its ITEM_END is journalled and waiting fence signals and presents proceed. -/
  | workItemComplete (i : Nat) (r : Nat)
  /-- LAST_FETCH_COMPLETE (R232): The head completes its last fetch from a replaced surface and signals that surface's release fence. -/
  | lastFetchComplete (n : Nat) (l : Nat)
  /-- RESET_N_RELEASE (R444): RESET_N is released after a reset flush and the device makes its cold start. -/
  | resetNRelease
  /-- REMOTE_OFF_RELEASE (R444): RemoteOffInput is released while VMAIN is valid and the sequencer leaves OFF for BOOT. -/
  | remoteOffRelease
  /-- DRIVER_COOLED (R339): A haptic driver die falls below 100 °C, lifting the 50 % target limit or restarting the group's high voltage. -/
  | driverCooled (g : Nat) (temp : Nat)
  /-- LAMP_TEST_INPUT_CHANGE (R250): A lamp-test discrete input is asserted or released and its Ensign output is asserted steadily or returns to its source. -/
  | lampTestInputChange (o : Nat) (on : Nat)
  /-- ETH_LINK_CHANGE (R498): An Ethernet MAC's link comes up or goes down, updating EthLinkUp and EthSpeedMbps. `mbps` the speed the PHY reports in band (SGMII). -/
  | ethLinkChange (p : Nat) (up : Bool) (mbps : Nat)
  /-- RNG_STARTUP_TEST_PASS (R399): The entropy source passes its 1,024-sample start-up test again and randomness-needing jobs are accepted. -/
  | rngStartupTestPass
  /-- RX_LINK_TRAINING (R281): A video source begins or completes link training on a DP receiver, moving RxState through training to receiving. -/
  | rxLinkTraining (n : Nat) (done : Nat)
  deriving DecidableEq, Repr

end Sys2Proof
end

