-- ==== Sys2Proof/Decode.lean ====
section
/-!
DEFINITION. Decode.lean: the command a word of the opcode table spells. The table gives its rows no bits (log 3).
-/
namespace Sys2Proof

/-- The command that `nbits` bits of value `w` spell by the opcode table: none, since no row of the table has bits. -/
def decodeTableWord (_nbits _w : Nat) : Option Instr := none

end Sys2Proof
end

