-- ==== Sys2Proof/Machine/Codes.lean ====
section
/-!
DEFINITION. Machine/Codes.lean: the status codes of every area (R6 and the status tables of every chapter), each under the spec's
own name.
-/
namespace Sys2Proof.Machine.St

/-- 0x0000 OK (chapter 00). -/
abbrev ok : Nat := 0x0000

/-- 0x0001 BUSY (chapter 00). -/
abbrev busy : Nat := 0x0001

/-- 0x0002 NOT_OWNER (chapter 00). -/
abbrev notOwner : Nat := 0x0002

/-- 0x0003 QUIESCE_REQUIRED (chapter 00). -/
abbrev quiesceRequired : Nat := 0x0003

/-- 0x0004 UNIT_DEAD (chapter 00). -/
abbrev unitDead : Nat := 0x0004

/-- 0x0005 LIMIT_REACHED (chapter 00). -/
abbrev limitReached : Nat := 0x0005

/-- 0x0006 REPLAYED (chapter 00). -/
abbrev replayed : Nat := 0x0006

/-- 0x0007 YIELDED (chapter 00). -/
abbrev yielded : Nat := 0x0007

/-- 0x0008 ERASE_PENDING (chapter 00). -/
abbrev erasePending : Nat := 0x0008

/-- 0x0101 INDEX_UNKNOWN: No unit owns the index (chapter 02). -/
abbrev indexUnknown : Nat := 0x0101

/-- 0x0102 SUB_UNKNOWN: Sub-index above the highest in use (chapter 02). -/
abbrev subUnknown : Nat := 0x0102

/-- 0x0103 ACCESS_DENIED: Class lacks the right (chapter 02). -/
abbrev accessDenied : Nat := 0x0103

/-- 0x0104 TYPE_MISMATCH: Length does not fit the type (chapter 02). -/
abbrev typeMismatch : Nat := 0x0104

/-- 0x0105 VALUE_RANGE: Value outside the object's range (chapter 02). -/
abbrev valueRange : Nat := 0x0105

/-- 0x0106 SHADOW_HELD: Another session holds the shadow (chapter 02). -/
abbrev shadowHeld : Nat := 0x0106

/-- 0x0107 SHADOW_LOST: Event: the holder's shadow was discarded (chapter 02). -/
abbrev shadowLost : Nat := 0x0107

/-- 0x0108 AUTH_FAIL: CMAC mismatch (chapter 02). -/
abbrev authFail : Nat := 0x0108

/-- 0x0109 FRESHNESS_STALE: Full freshness not greater than the last accepted (chapter 02). -/
abbrev freshnessStale : Nat := 0x0109

/-- 0x010A FRESHNESS_GAP: Short freshness step above PermittedGap (chapter 02). -/
abbrev freshnessGap : Nat := 0x010A

/-- 0x010B AUTH_LOCKOUT: Key locked after repeated failures (chapter 02). -/
abbrev authLockout : Nat := 0x010B

/-- 0x010C SESSION_LIMIT: No session free on this transport (chapter 02). -/
abbrev sessionLimit : Nat := 0x010C

/-- 0x010D WINDOW_UNMAPPED: Window target absent or unreachable (chapter 02). -/
abbrev windowUnmapped : Nat := 0x010D

/-- 0x010E DOMAIN_ORDER: Segment out of order (chapter 02). -/
abbrev domainOrder : Nat := 0x010E

/-- 0x010F TRANSFER_TIMEOUT: Segmented transfer abandoned (chapter 02). -/
abbrev transferTimeout : Nat := 0x010F

/-- 0x0110 UNIT_ABSENT: Access to an object of an ABSENT unit (chapter 01). -/
abbrev unitAbsent : Nat := 0x0110

/-- 0x0111 HANDLE_UNKNOWN: No unit holds this handle (chapter 01). -/
abbrev handleUnknown : Nat := 0x0111

/-- 0x0112 PATH_UNKNOWN: Path well formed, no such unit (chapter 01). -/
abbrev pathUnknown : Nat := 0x0112

/-- 0x0113 DIR_CHANGED: Event: a record changed (chapter 01). -/
abbrev dirChanged : Nat := 0x0113

/-- 0x0114 IDENTITY_UNKNOWN: Identity reference 0 or reserved (chapter 01). -/
abbrev identityUnknown : Nat := 0x0114

/-- 0x0115 PATH_SYNTAX: Path of 48 bytes or fewer that is malformed; a longer path is refused with TYPE_MISMATCH (R12) (chapter 01). -/
abbrev pathSyntax : Nat := 0x0115

/-- 0x0120 MALFORMED: Record, datagram or authenticated envelope cannot be parsed (chapter 02). -/
abbrev malformed : Nat := 0x0120

/-- 0x0121 HEARTBEAT_LOST: Event: consumed heartbeat missing (chapter 02). -/
abbrev heartbeatLost : Nat := 0x0121

/-- 0x0122 HEARTBEAT_BACK: Event: consumed heartbeat returned (chapter 02). -/
abbrev heartbeatBack : Nat := 0x0122

/-- 0x0123 PUSH_REJECTED: Event: pushed object failed length or check unit (chapter 02). -/
abbrev pushRejected : Nat := 0x0123

/-- 0x0124 PUSH_STALE: Event: no accepted pushed object within StaleMs (chapter 02). -/
abbrev pushStale : Nat := 0x0124

/-- 0x0125 PUSH_FRESH: Event: pushed object accepted after staleness (chapter 02). -/
abbrev pushFresh : Nat := 0x0125

/-- 0x0126 CAN_RAW_STATE: Event: raw controller error state changed (chapter 02). -/
abbrev canRawState : Nat := 0x0126

/-- 0x0127 CAN_RAW_RX: Event: raw receive FIFO no longer empty (chapter 02). -/
abbrev canRawRx : Nat := 0x0127

/-- 0x0128 CAN_RAW_TX_FULL: Raw transmit records do not fit the queue (chapter 02). -/
abbrev canRawTxFull : Nat := 0x0128

/-- 0x0129 USB_HID_REPORT: Event: HID report queue no longer empty (chapter 02). -/
abbrev usbHidReport : Nat := 0x0129

/-- 0x012A USB_ATTACHED: Event: device attached to a host port (chapter 02). -/
abbrev usbAttached : Nat := 0x012A

/-- 0x012B USB_DETACHED: Event: device detached from a host port (chapter 02). -/
abbrev usbDetached : Nat := 0x012B

/-- 0x012C USB_OVERCURRENT: Event: host port powered off for over-current (chapter 02). -/
abbrev usbOvercurrent : Nat := 0x012C

/-- 0x0201 NO_SHADOW: Target has boundary kind IMMEDIATE (chapter 02). -/
abbrev noShadow : Nat := 0x0201

/-- 0x0202 COMMIT_INVALID: Unit's validation refused the snapshot (chapter 02). -/
abbrev commitInvalid : Nat := 0x0202

/-- 0x0203 COMMIT_APPLIED: Event: pending bank became active (chapter 02). -/
abbrev commitApplied : Nat := 0x0203

/-- 0x0204 COMMIT_SUPERSEDED: Event: pending commit replaced by a later one (chapter 02). -/
abbrev commitSuperseded : Nat := 0x0204

/-- 0x0205 COMMIT_VOID: Event: check at the boundary failed; nothing applied (chapter 02). -/
abbrev commitVoid : Nat := 0x0205

/-- 0x0206 COMMIT_CANCELLED: Event: pending commit cancelled (chapter 02). -/
abbrev commitCancelled : Nat := 0x0206

/-- 0x0207 NOTHING_PENDING: Cancel with nothing pending (chapter 02). -/
abbrev nothingPending : Nat := 0x0207

/-- 0x0208 SET_TOO_LARGE: Set commit with an empty set; SetCount above 16 is refused at its write with VALUE_RANGE (chapter 02). -/
abbrev setTooLarge : Nat := 0x0208

/-- 0x0209 SCHED_TOO_LATE: CommitAt within SchedLeadUs (chapter 02). -/
abbrev schedTooLate : Nat := 0x0209

/-- 0x020A SCHED_TOO_FAR: CommitAt beyond SchedHorizonS (chapter 02). -/
abbrev schedTooFar : Nat := 0x020A

/-- 0x020B SCHED_TIME_LOST: Hoist time not locked; commit refused or dropped (chapter 02). -/
abbrev schedTimeLost : Nat := 0x020B

/-- 0x0301 XLAT_INVALID: Descriptor TYPE 0b00 (chapter 04). -/
abbrev xlatInvalid : Nat := 0x0301

/-- 0x0302 XLAT_PERMISSION: Right missing, or a protected register written by a world other than 0 (chapter 04). -/
abbrev xlatPermission : Nat := 0x0302

/-- 0x0303 XLAT_ADDR_SIZE: Pointer bits 63:48 set (chapter 04). -/
abbrev xlatAddrSize : Nat := 0x0303

/-- 0x0304 XLAT_RESERVED: Reserved encoding in a descriptor (chapter 04). -/
abbrev xlatReserved : Nat := 0x0304

/-- 0x0305 XLAT_WALK_ECC: Uncorrectable error on a stage-2 descriptor read (chapter 04). -/
abbrev xlatWalkEcc : Nat := 0x0305

/-- 0x0306 XLAT_KEY: Writable view, or KEYW not live (chapter 04). -/
abbrev xlatKey : Nat := 0x0306

/-- 0x0307 XLAT_ENSIGN: Ensign SRAM access by another world, or DRAM leaf for world 1 (chapter 04). -/
abbrev xlatEnsign : Nat := 0x0307

/-- 0x0308 WORLD_NOT_RUNNING: Target world not RUNNING (chapter 04). -/
abbrev worldNotRunning : Nat := 0x0308

/-- 0x0310 RECALL_NOTICE: Event: recall begun, grace stated (chapter 04). -/
abbrev recallNotice : Nat := 0x0310

/-- 0x0311 RECALL_DONE: Event: block FREE (chapter 04). -/
abbrev recallDone : Nat := 0x0311

/-- 0x0312 GRANTED: Event: block held by the new world (chapter 04). -/
abbrev granted : Nat := 0x0312

/-- 0x0313 HANDOVER_NOT_FREE: Grant of a held block (chapter 04). -/
abbrev handoverNotFree : Nat := 0x0313

/-- 0x0314 HANDOVER_ENSIGN: Recall of a block held by world 1 (chapter 04). -/
abbrev handoverEnsign : Nat := 0x0314

/-- 0x0315 SCRUB_FAILED: Event: scrub verification failed twice; unit DEAD (chapter 04). -/
abbrev scrubFailed : Nat := 0x0315

/-- 0x0316 HANDOVER_NOT_BLOCK: Unit is not an assignable block, or is u14, which Halyard keeps (chapter 04). -/
abbrev handoverNotBlock : Nat := 0x0316

/-- 0x0320 DEBUG_OPEN: Event: a debug session opened the world (chapter 04). -/
abbrev debugOpen : Nat := 0x0320

/-- 0x0321 DEBUG_CLOSED: Event: the debug session closed (chapter 04). -/
abbrev debugClosed : Nat := 0x0321

/-- 0x0322 DEBUG_SCOPE: Access outside the certificate's scope (chapter 04). -/
abbrev debugScope : Nat := 0x0322

/-- 0x0401 INSTANCE_ABSENT: Instance not enabled (chapter 05). -/
abbrev instanceAbsent : Nat := 0x0401

/-- 0x0402 RING_STATE: Ring number or ring state wrong (chapter 05). -/
abbrev ringState : Nat := 0x0402

/-- 0x0403 RING_OVERRUN: Event: WPTR beyond ring size (chapter 05). -/
abbrev ringOverrun : Nat := 0x0403

/-- 0x0404 MAILBOX_OVERRUN: Event: request submitted while busy (chapter 05). -/
abbrev mailboxOverrun : Nat := 0x0404

/-- 0x0405 GRANT_EXCEEDED: Request above the owner's grant (chapter 05). -/
abbrev grantExceeded : Nat := 0x0405

/-- 0x0406 RESERVE_REFUSED: Admitting unit refused the reservation (chapter 05). -/
abbrev reserveRefused : Nat := 0x0406

/-- 0x0407 EXPORT_UNKNOWN: Export number unknown (chapter 05). -/
abbrev exportUnknown : Nat := 0x0407

/-- 0x0408 EQ_OVERFLOW: Event: events discarded (chapter 05). -/
abbrev eqOverflow : Nat := 0x0408

/-- 0x0409 RESIZE_REQUEST: Event: grant lowered below holding (chapter 05). -/
abbrev resizeRequest : Nat := 0x0409

/-- 0x040A RESIZED: Event: holding within the new grant (chapter 05). -/
abbrev resized : Nat := 0x040A

/-- 0x040B YIELD_END: Event: open-ended yield ended (chapter 05). -/
abbrev yieldEnd : Nat := 0x040B

/-- 0x040C LINK_LOST: Event: transport or PCIe link lost (chapter 05). -/
abbrev linkLost : Nat := 0x040C

/-- 0x040D LINK_BACK: Event: remote association restored (chapter 05). -/
abbrev linkBack : Nat := 0x040D

/-- 0x040E INSTANCE_RESET: Event: instance reset (chapter 05). -/
abbrev instanceReset : Nat := 0x040E

/-- 0x040F INSTANCE_REMOVED: Event: instance removed (chapter 05). -/
abbrev instanceRemoved : Nat := 0x040F

/-- 0x0410 BAD_ALIGN: Base unaligned or unmapped (chapter 05). -/
abbrev badAlign : Nat := 0x0410

/-- 0x0411 TAG_CONFLICT: GuestTag joins another kind or a ninth instance (chapter 05). -/
abbrev tagConflict : Nat := 0x0411

/-- 0x0412 QUIESCE_DONE: Event: instance QUIESCED (chapter 05). -/
abbrev quiesceDone : Nat := 0x0412

/-- 0x0413 ADDR_IN_USE: MEM_REQUEST range overlaps memory already mapped (chapter 05). -/
abbrev addrInUse : Nat := 0x0413

/-- 0x0501 MEM_CLASS_FIXED: Class not allowed for the requester (chapter 06). -/
abbrev memClassFixed : Nat := 0x0501

/-- 0x0502 MEM_RESERVE_HELD: Reserve change below admitted or reserved amounts (chapter 06). -/
abbrev memReserveHeld : Nat := 0x0502

/-- 0x0503 MEM_RESERVE_FULL: World reservations would exceed BulkReservableMBps (chapter 06). -/
abbrev memReserveFull : Nat := 0x0503

/-- 0x0504 MEM_MODE: KIND differs from frame mode, or check-word area accessed (chapter 06). -/
abbrev memMode : Nat := 0x0504

/-- 0x0505 MEM_NO_DRAM: Spare-row frame or beyond installed DRAM (chapter 06). -/
abbrev memNoDram : Nat := 0x0505

/-- 0x0506 MEM_CONCENTRATED: Event: world's traffic concentrated on one channel (chapter 06). -/
abbrev memConcentrated : Nat := 0x0506

/-- 0x0507 MEM_ROW_THROTTLE: Event: requester throttled for row disturbance (chapter 06). -/
abbrev memRowThrottle : Nat := 0x0507

/-- 0x0508 MEM_THROTTLE_END: Event: throttle ended (chapter 06). -/
abbrev memThrottleEnd : Nat := 0x0508

/-- 0x0509 MEM_RETRAIN: Event: retrain started (chapter 06). -/
abbrev memRetrain : Nat := 0x0509

/-- 0x050A MEM_RETRAIN_DONE: Event: retrain completed (chapter 06). -/
abbrev memRetrainDone : Nat := 0x050A

/-- 0x050B MEM_TRAIN_FAILED: Event: training failed (chapter 06). -/
abbrev memTrainFailed : Nat := 0x050B

/-- 0x050C MEM_LINK_ERROR: Event: link error after retry (chapter 06). -/
abbrev memLinkError : Nat := 0x050C

/-- 0x050D MEM_UNCORRECTABLE: Uncorrectable error in a protected frame (chapter 06). -/
abbrev memUncorrectable : Nat := 0x050D

/-- 0x050E MEM_ROW_REMAPPED: Event: row moved to a spare (chapter 06). -/
abbrev memRowRemapped : Nat := 0x050E

/-- 0x050F MEM_SPARES_OUT: Event: channel has no spare row left (chapter 06). -/
abbrev memSparesOut : Nat := 0x050F

/-- 0x0510 MEM_PAGE_RETIRED: Event: pages retired (chapter 06). -/
abbrev memPageRetired : Nat := 0x0510

/-- 0x0511 MEM_UNMAPPED: Fabric physical address unassigned, or its window unreachable (R143) (chapter 06). -/
abbrev memUnmapped : Nat := 0x0511

/-- 0x0601 BIN_FAULT: Event: pool full; binning paused for the driver (chapter 07). -/
abbrev binFault : Nat := 0x0601

/-- 0x0602 BIN_GROWN: Event: extension taken; binning resumed (chapter 07). -/
abbrev binGrown : Nat := 0x0602

/-- 0x0603 PARTIAL_FLUSH: Event: binned work rendered and the pool restarted (chapter 07). -/
abbrev partialFlush : Nat := 0x0603

/-- 0x0604 EXTENSION_INVALID: Event: extension entry rejected (chapter 07). -/
abbrev extensionInvalid : Nat := 0x0604

/-- 0x0605 PASS_DESC_INVALID: Pass descriptor or attachment inconsistent (chapter 07). -/
abbrev passDescInvalid : Nat := 0x0605

/-- 0x0606 TARGET_TOO_LARGE: Dimension zero or above 16,384 (chapter 07). -/
abbrev targetTooLarge : Nat := 0x0606

/-- 0x0607 POOL_TOO_SMALL: Base pool below 256 KiB or misaligned (chapter 07). -/
abbrev poolTooSmall : Nat := 0x0607

/-- 0x0608 SPILL_MISSING: Spill surface needed and absent or mismatched (chapter 07). -/
abbrev spillMissing : Nat := 0x0608

/-- 0x0609 TILE_BUDGET: Attachments exceed the tile buffer (chapter 07). -/
abbrev tileBudget : Nat := 0x0609

/-- 0x060A FORMAT_UNSUPPORTED: Format code or use not supported (chapter 07). -/
abbrev formatUnsupported : Nat := 0x060A

/-- 0x060B LAYOUT_INVALID: Surface layout, alignment or extent invalid (chapter 07). -/
abbrev layoutInvalid : Nat := 0x060B

/-- 0x060C META_INVALID: Event: reserved or undecodable compression unit (chapter 07). -/
abbrev metaInvalid : Nat := 0x060C

/-- 0x060D CLUSTER_LOST: Event: a shader cluster became DEAD (chapter 07). -/
abbrev clusterLost : Nat := 0x060D

/-- 0x0620 CONTEXT_STOPPED: Event: context stopped (chapter 08). -/
abbrev contextStopped : Nat := 0x0620

/-- 0x0621 PACKET_INVALID: Unknown opcode, wrong length, or bad flags (chapter 08). -/
abbrev packetInvalid : Nat := 0x0621

/-- 0x0622 PACKET_CONTEXT: Packet not allowed on this ring or context (chapter 08). -/
abbrev packetContext : Nat := 0x0622

/-- 0x0623 PACKET_ORDER: Packet out of place, or pipeline and pass mismatched (chapter 08). -/
abbrev packetOrder : Nat := 0x0623

/-- 0x0624 PIPELINE_UNKNOWN: Handle unknown, refused or released (chapter 08). -/
abbrev pipelineUnknown : Nat := 0x0624

/-- 0x0625 SHADER_STEP_LIMIT: Invocation reached ShaderStepLimit (chapter 08). -/
abbrev shaderStepLimit : Nat := 0x0625

/-- 0x0626 FENCE_TIMEOUT: Wait not satisfied within FenceWaitTimeoutMs (chapter 08). -/
abbrev fenceTimeout : Nat := 0x0626

/-- 0x0627 REPLAY_MARK_INVALID: REPLAY_SAFE on work that cannot be replayed (chapter 08). -/
abbrev replayMarkInvalid : Nat := 0x0627

/-- 0x0629 FLATTEN_LATE: Event: flattened surface missed its commit line (chapter 08). -/
abbrev flattenLate : Nat := 0x0629

/-- 0x062A FLATTEN_SURFACE: Flattened surface not usable for scan-out (chapter 08). -/
abbrev flattenSurface : Nat := 0x062A

/-- 0x062B FLATTEN_OWNER: Commit reason: flattening owner invalid (chapter 08). -/
abbrev flattenOwner : Nat := 0x062B

/-- 0x0630 SHADER_REFUSED: Admission refused at once (chapter 08). -/
abbrev shaderRefused : Nat := 0x0630

/-- 0x0631 PIPELINE_READY: Event: pipeline compiled (chapter 08). -/
abbrev pipelineReady : Nat := 0x0631

/-- 0x0632 PIPELINE_REFUSED: Event: compilation refused (chapter 08). -/
abbrev pipelineRefused : Nat := 0x0632

/-- 0x0633 RING_EVENT: Event raised by an EVENT packet (chapter 08). -/
abbrev ringEvent : Nat := 0x0633

/-- 0x0634 NIM_RESERVE_FULL: Renderer reservation or flattening demand above the NIM F rate (R516) (chapter 08). -/
abbrev nimReserveFull : Nat := 0x0634

/-- 0x0701 LAYER_GEOMETRY: Commit reason: rectangle outside source or active area (chapter 09). -/
abbrev layerGeometry : Nat := 0x0701

/-- 0x0702 LAYER_SCALE: Commit reason: graphic layer scaled, or ratio outside 1/8 to 8 (chapter 09). -/
abbrev layerScale : Nat := 0x0702

/-- 0x0703 LAYER_FORMAT: Commit reason: format not allowed, or dimming entry out of range (chapter 09). -/
abbrev layerFormat : Nat := 0x0703

/-- 0x0704 LAYER_ZORDER: Commit reason: duplicate z-order (chapter 09). -/
abbrev layerZorder : Nat := 0x0704

/-- 0x0705 FETCH_HEAD: Commit reason: head fetch above FetchBudget (chapter 09). -/
abbrev fetchHead : Nat := 0x0705

/-- 0x0706 FETCH_DEVICE: Commit reason: device fetch above 99 % of ScanReservedMBps (chapter 09). -/
abbrev fetchDevice : Nat := 0x0706

/-- 0x0707 SCALER_RATE: Commit reason: scaler feed above 1.0 G pixels/s (F) (chapter 09). -/
abbrev scalerRate : Nat := 0x0707

/-- 0x0708 SCALER_COEF: Commit reason: coefficient phase does not sum to 1,024 (chapter 09). -/
abbrev scalerCoef : Nat := 0x0708

/-- 0x0709 LAYER_OWNER: Commit reason: owner world or flattened layer invalid (chapter 09). -/
abbrev layerOwner : Nat := 0x0709

/-- 0x070A ENSIGN_REGION_OUTSIDE: Commit reason: an Ensign region would leave the active area (chapter 09). -/
abbrev ensignRegionOutside : Nat := 0x070A

/-- 0x0710 FLIP_REFUSED: Event: flip group refused or dropped (chapter 09). -/
abbrev flipRefused : Nat := 0x0710

/-- 0x0711 ACQUIRE_TIMEOUT: Void reason: acquire fences not reached (chapter 09). -/
abbrev acquireTimeout : Nat := 0x0711

/-- 0x0712 COMP_PACKET_INVALID: Composition packet malformed (chapter 09). -/
abbrev compPacketInvalid : Nat := 0x0712

/-- 0x0713 LAYER_FAULT: Event: layer fetch faulted (chapter 09). -/
abbrev layerFault : Nat := 0x0713

/-- 0x0714 FETCH_LATE: Event: fetch missed its pixels (chapter 09). -/
abbrev fetchLate : Nat := 0x0714

/-- 0x0715 FLIP_SURFACE: Flip reason: surface unusable for the layer (chapter 09). -/
abbrev flipSurface : Nat := 0x0715

/-- 0x0717 FLIP_POOL: Flip reason: surface outside the layer's pool (chapter 09). -/
abbrev flipPool : Nat := 0x0717

/-- 0x0740 ENS_PACKAGE_SIG: Package signature or key invalid (chapter 09). -/
abbrev ensPackageSig : Nat := 0x0740

/-- 0x0741 ENS_PACKAGE_TYPE: MAGIC, FORMAT or HW_TYPE wrong (chapter 09). -/
abbrev ensPackageType : Nat := 0x0741

/-- 0x0742 ENS_PACKAGE_ROLLBACK: Rollback step below the floor (chapter 09). -/
abbrev ensPackageRollback : Nat := 0x0742

/-- 0x0743 ENS_PACKAGE_FORMAT: Section malformed or reference unresolved (chapter 09). -/
abbrev ensPackageFormat : Nat := 0x0743

/-- 0x0744 ENS_SRAM_FULL: Buffers and assets above 6,291,456 bytes (chapter 09). -/
abbrev ensSramFull : Nat := 0x0744

/-- 0x0745 ENS_REGION_INVALID: Region outside its active area, overlapping, or more than 16 on a head (chapter 09). -/
abbrev ensRegionInvalid : Nat := 0x0745

/-- 0x0746 ENS_BINDING_INVALID: Binding object unreadable by ENS, or INPUT LOST page priority too low (chapter 09). -/
abbrev ensBindingInvalid : Nat := 0x0746

/-- 0x0747 ENS_PACKAGE_ACTIVE: Event: new package in force on every head (chapter 09). -/
abbrev ensPackageActive : Nat := 0x0747

/-- 0x0748 ENS_INPUT_LOST: Event: binding stale; INPUT LOST page shown (chapter 09). -/
abbrev ensInputLost : Nat := 0x0748

/-- 0x0749 ENS_INPUT_BACK: Event: binding valid again (chapter 09). -/
abbrev ensInputBack : Nat := 0x0749

/-- 0x074A ENS_ALARM_ON: Event: alarm page active, unacknowledged (chapter 09). -/
abbrev ensAlarmOn : Nat := 0x074A

/-- 0x074B ENS_ALARM_OFF: Event: alarm page ended (chapter 09). -/
abbrev ensAlarmOff : Nat := 0x074B

/-- 0x074C ENS_ALARM_ACK: Event: alarm page acknowledged (chapter 09). -/
abbrev ensAlarmAck : Nat := 0x074C

/-- 0x0801 TIMING_INVALID: Commit reason: timing field or combination invalid (chapter 10). -/
abbrev timingInvalid : Nat := 0x0801

/-- 0x0802 PIXEL_RATE_HEAD: Commit reason: pixel clock above 1.2 Gpixel/s (chapter 10). -/
abbrev pixelRateHead : Nat := 0x0802

/-- 0x0803 PIXEL_RATE_DEVICE: Commit reason: device total above 5.0 Gpixel/s (chapter 10). -/
abbrev pixelRateDevice : Nat := 0x0803

/-- 0x0804 LINK_BANDWIDTH: Commit or void reason: link cannot carry the timing (chapter 10). -/
abbrev linkBandwidth : Nat := 0x0804

/-- 0x0805 COMMIT_LINE_RANGE: Commit reason: commit line inside the lead (chapter 10). -/
abbrev commitLineRange : Nat := 0x0805

/-- 0x0806 LOCK_RANGE: Commit reason: lock source, period or phase invalid (chapter 10). -/
abbrev lockRange : Nat := 0x0806

/-- 0x0808 HEAD_BUN_DEMAND: Commit reason: pixel pipe or scaler demand above F rate (chapter 10). -/
abbrev headBunDemand : Nat := 0x0808

/-- 0x0810 PANEL_UNPLUGGED: Event: HPD low over 2 ms (chapter 10). -/
abbrev panelUnplugged : Nat := 0x0810

/-- 0x0811 PANEL_PLUGGED: Event: HPD high (chapter 10). -/
abbrev panelPlugged : Nat := 0x0811

/-- 0x0812 PANEL_MISMATCH: Event: sink cannot carry the timing or settings (chapter 10). -/
abbrev panelMismatch : Nat := 0x0812

/-- 0x0813 LINK_TRAINED: Event: training complete, with outcome (chapter 10). -/
abbrev linkTrained : Nat := 0x0813

/-- 0x0814 LINK_LOST: Event: sink reported lost lock (chapter 10). -/
abbrev linkLost0814 : Nat := 0x0814

/-- 0x0815 HEAD_DARK: Event: a port stopped being lit (chapter 10). -/
abbrev headDark : Nat := 0x0815

/-- 0x0816 HEAD_LIT: Event: a port lit again (chapter 10). -/
abbrev headLit : Nat := 0x0816

/-- 0x0817 PANEL_FAULT: Event: panel fault input asserted (chapter 10). -/
abbrev panelFault : Nat := 0x0817

/-- 0x0820 FRAME_LOCKED: Event: lock achieved (chapter 10). -/
abbrev frameLocked : Nat := 0x0820

/-- 0x0821 FRAME_UNLOCKED: Event: lock lost (chapter 10). -/
abbrev frameUnlocked : Nat := 0x0821

/-- 0x0822 LOCK_HOLDOVER: Event: hoist time lost; trim held (chapter 10). -/
abbrev lockHoldover : Nat := 0x0822

/-- 0x0823 TE_LOST: Event: no tearing-effect edge for two frames (chapter 10). -/
abbrev teLost : Nat := 0x0823

/-- 0x0824 TE_BACK: Event: tearing-effect edges resumed (chapter 10). -/
abbrev teBack : Nat := 0x0824

/-- 0x0828 STRATUS_ENTER: Event: head in Stratus mode (chapter 10). -/
abbrev stratusEnter : Nat := 0x0828

/-- 0x0829 STRATUS_EXIT: Event: full frames resumed; reason 1 change, 2 panel error (chapter 10). -/
abbrev stratusExit : Nat := 0x0829

/-- 0x0830 RX_SIGNAL_LOST: Event: receiver lost its source (chapter 10). -/
abbrev rxSignalLost : Nat := 0x0830

/-- 0x0831 RX_MODE_CHANGED: Event: incoming size differs from the layer (chapter 10). -/
abbrev rxModeChanged : Nat := 0x0831

/-- 0x0832 RX_RATE_LIMIT: Commit reason: EDID checksum, or receivers above 2.0 Gpixel/s (chapter 10). -/
abbrev rxRateLimit : Nat := 0x0832

/-- 0x0833 RX_BANDWIDTH: Commit reason: receiver writes do not fit RtReservedMBps (chapter 10). -/
abbrev rxBandwidth : Nat := 0x0833

/-- 0x0834 RX_SIGNAL_BACK: Event: receiver source restored (chapter 10). -/
abbrev rxSignalBack : Nat := 0x0834

/-- 0x0901 SIG_MISMATCH: Event: Ensign signature differs, below MismatchFrames (chapter 11). -/
abbrev sigMismatch : Nat := 0x0901

/-- 0x0902 PROV_VIOLATION: Event: non-Ensign pixel in an Ensign region (chapter 11). -/
abbrev provViolation : Nat := 0x0902

/-- 0x0903 REGION_FROZEN: Event: live Ensign region frozen (chapter 11). -/
abbrev regionFrozen : Nat := 0x0903

/-- 0x0904 REGION_UNSEEN: Event: Ensign region not sent (chapter 11). -/
abbrev regionUnseen : Nat := 0x0904

/-- 0x0905 REGION_FAILED: Event: mismatches reached MismatchFrames (chapter 11). -/
abbrev regionFailed : Nat := 0x0905

/-- 0x0906 REGION_RESTORED: Event: region OK, or owner region disabled or restored (chapter 11). -/
abbrev regionRestored : Nat := 0x0906

/-- 0x0907 FALLBACK_ACTIVE: Event: pages taken over (chapter 11). -/
abbrev fallbackActive : Nat := 0x0907

/-- 0x0908 FALLBACK_ENDED: Event: pages returned (chapter 11). -/
abbrev fallbackEnded : Nat := 0x0908

/-- 0x0909 NO_SCREEN: Event: a page has no head (chapter 11). -/
abbrev noScreen : Nat := 0x0909

/-- 0x090A ENSIGN_STALLED: Event: live regions frozen on every head (chapter 11). -/
abbrev ensignStalled : Nat := 0x090A

/-- 0x090B OWNER_MISMATCH: Event: owner region signature or provenance (chapter 11). -/
abbrev ownerMismatch : Nat := 0x090B

/-- 0x090C OWNER_FROZEN: Event: live owner region frozen (chapter 11). -/
abbrev ownerFrozen : Nat := 0x090C

/-- 0x0910 REGION_KIND_ENSIGN: Commit reason: region held by Ensign (chapter 11). -/
abbrev regionKindEnsign : Nat := 0x0910

/-- 0x0911 SIG_REGION_INVALID: Commit reason: owner region geometry (chapter 11). -/
abbrev sigRegionInvalid : Nat := 0x0911

/-- 0x0912 FALLBACK_INVALID: Commit reason: fallback chain or region invalid (chapter 11). -/
abbrev fallbackInvalid : Nat := 0x0912

/-- 0x0A01 CONTACT: Event: contact report (chapter 12). -/
abbrev contact : Nat := 0x0A01

/-- 0x0A02 CONTACT_SUPPRESSED: Event: cluster on covered nodes suppressed (chapter 12). -/
abbrev contactSuppressed : Nat := 0x0A02

/-- 0x0A03 REBASELINED: Event: nodes rebaselined (chapter 12). -/
abbrev rebaselined : Nat := 0x0A03

/-- 0x0A04 FREQ_HOP: Event: drive frequency changed (chapter 12). -/
abbrev freqHop : Nat := 0x0A04

/-- 0x0A05 NOISE_DEGRADED: Event: all frequencies noisy; 120 Hz (chapter 12). -/
abbrev noiseDegraded : Nat := 0x0A05

/-- 0x0A06 NOISE_CLEARED: Event: active rate restored (chapter 12). -/
abbrev noiseCleared : Nat := 0x0A06

/-- 0x0A07 CHANNEL_MASKED: Event: channel open or shorted (chapter 12). -/
abbrev channelMasked : Nat := 0x0A07

/-- 0x0A08 TOUCH_DEGRADED: Event: band beyond interpolation (chapter 12). -/
abbrev touchDegraded : Nat := 0x0A08

/-- 0x0A09 WAKE: Event: wake gesture recognised (chapter 12). -/
abbrev wake : Nat := 0x0A09

/-- 0x0A0A CONTACT_LIMIT: Event: more than 16 clusters (chapter 12). -/
abbrev contactLimit : Nat := 0x0A0A

/-- 0x0A0B INTEGRITY_DONE: Event: node integrity scan complete (chapter 12). -/
abbrev integrityDone : Nat := 0x0A0B

/-- 0x0A0C CALIBRATION_FAILED: Event: calibration failed; port DEAD (chapter 12). -/
abbrev calibrationFailed : Nat := 0x0A0C

/-- 0x0A0D PWRUP_UNREFERENCED: Event: start without a valid reference (chapter 12). -/
abbrev pwrupUnreferenced : Nat := 0x0A0D

/-- 0x0A10 MAP_INVALID: Commit reason: map outside the active area (chapter 12). -/
abbrev mapInvalid : Nat := 0x0A10

/-- 0x0A11 NODE_LIMIT: Commit reason: role map above 4,096 nodes or below 2 × 2 (chapter 12). -/
abbrev nodeLimit : Nat := 0x0A11

/-- 0x0A12 THRESHOLD_RANGE: Commit reason: threshold or idle step invalid (chapter 12). -/
abbrev thresholdRange : Nat := 0x0A12

/-- 0x0A13 TOUCH_PACKET_INVALID: Ring 6 packet malformed (chapter 12). -/
abbrev touchPacketInvalid : Nat := 0x0A13

/-- 0x0B01 EFFECT_UNKNOWN: Effect number above 95 (chapter 13). -/
abbrev effectUnknown : Nat := 0x0B01

/-- 0x0B02 HAP_REPLACED: Event: effect replaced by an equal or higher source (chapter 13). -/
abbrev hapReplaced : Nat := 0x0B02

/-- 0x0B03 HAP_BUSY: Play refused; higher-ranked effect playing (chapter 13). -/
abbrev hapBusy : Nat := 0x0B03

/-- 0x0B04 SENSE_FAULT: Event: channel in open loop (chapter 13). -/
abbrev senseFault : Nat := 0x0B04

/-- 0x0B05 LOAD_FAULT: Load out of range, or channel or group in fault (chapter 13). -/
abbrev loadFault : Nat := 0x0B05

/-- 0x0B06 OVERCURRENT: Event: output current limit (chapter 13). -/
abbrev overcurrent : Nat := 0x0B06

/-- 0x0B07 DRIVER_HOT: Event: driver die temperature (chapter 13). -/
abbrev driverHot : Nat := 0x0B07

/-- 0x0B08 HV_FAULT: Event: high-voltage rail out of range (chapter 13). -/
abbrev hvFault : Nat := 0x0B08

/-- 0x0B09 HAP_HOLDUP: Play refused in hold-up (chapter 13). -/
abbrev hapHoldup : Nat := 0x0B09

/-- 0x0B0A HAP_DISABLED: Play on a disabled channel (chapter 13). -/
abbrev hapDisabled : Nat := 0x0B0A

/-- 0x0B0B BINDING_INVALID: Commit reason: touch binding invalid (chapter 13). -/
abbrev bindingInvalid : Nat := 0x0B0B

/-- 0x0B0C POWER_LIMITED: Event: group power limit (chapter 13). -/
abbrev powerLimited : Nat := 0x0B0C

/-- 0x0C01 AUD_DOMAIN: Commit reason: crosspoint or sink across domains (chapter 14). -/
abbrev audDomain : Nat := 0x0C01

/-- 0x0C02 AUD_SECTION_INVALID: Commit reason: unstable section (chapter 14). -/
abbrev audSectionInvalid : Nat := 0x0C02

/-- 0x0C03 AUD_SINK_CONFLICT: Commit reason: sink slot named twice (chapter 14). -/
abbrev audSinkConflict : Nat := 0x0C03

/-- 0x0C04 AUD_BRIDGE_INVALID: Commit reason: bridge sides or map invalid (chapter 14). -/
abbrev audBridgeInvalid : Nat := 0x0C04

/-- 0x0C05 AUD_SOURCE_BUSY: Commit reason: stream sources overlap (chapter 14). -/
abbrev audSourceBusy : Nat := 0x0C05

/-- 0x0C06 AUD_STREAM_OWNER: Commit reason: stream world or endpoint invalid (chapter 14). -/
abbrev audStreamOwner : Nat := 0x0C06

/-- 0x0C07 AUD_ALARM_REQUIRED: Commit reason: no alarm bus with a sink (chapter 14). -/
abbrev audAlarmRequired : Nat := 0x0C07

/-- 0x0C08 AUD_PACKET_INVALID: Ring 5 packet malformed (chapter 14). -/
abbrev audPacketInvalid : Nat := 0x0C08

/-- 0x0C09 AUD_FIFO_FULL: Reservation does not fit AudioFifo (chapter 14). -/
abbrev audFifoFull : Nat := 0x0C09

/-- 0x0C10 AUD_UNDERRUN: Event: play stream starved (chapter 14). -/
abbrev audUnderrun : Nat := 0x0C10

/-- 0x0C11 AUD_OVERRUN: Event: capture frames discarded (chapter 14). -/
abbrev audOverrun : Nat := 0x0C11

/-- 0x0C12 AUD_BRIDGE_UNLOCKED: Event: bridge lost its input or lock (chapter 14). -/
abbrev audBridgeUnlocked : Nat := 0x0C12

/-- 0x0C13 AUD_BRIDGE_LOCKED: Event: bridge locked (chapter 14). -/
abbrev audBridgeLocked : Nat := 0x0C13

/-- 0x0C14 AUD_TDM_CLOCK_LOST: Event: target-mode clock absent or out of range (chapter 14). -/
abbrev audTdmClockLost : Nat := 0x0C14

/-- 0x0C15 AUD_RATE_CHANGED: Event: P rate changed; P streams stopped (chapter 14). -/
abbrev audRateChanged : Nat := 0x0C15

/-- 0x0C16 AUD_ALARM_PATH_LOST: Event: tone playing with no alarm sink in service (chapter 14). -/
abbrev audAlarmPathLost : Nat := 0x0C16

/-- 0x0C17 AUD_ENGINE_LATE: Event: sample not computed in time (chapter 14). -/
abbrev audEngineLate : Nat := 0x0C17

/-- 0x0D01 PEN_IMAGE_SIG: Image signature or key invalid (chapter 15). -/
abbrev penImageSig : Nat := 0x0D01

/-- 0x0D02 PEN_IMAGE_TYPE: MAGIC, FORMAT, HW_TYPE or CLASS wrong (chapter 15). -/
abbrev penImageType : Nat := 0x0D02

/-- 0x0D03 PEN_IMAGE_ROLLBACK: Rollback step below the floor (chapter 15). -/
abbrev penImageRollback : Nat := 0x0D03

/-- 0x0D04 PEN_IMAGE_FORMAT: Size, entry or undecodable word (chapter 15). -/
abbrev penImageFormat : Nat := 0x0D04

/-- 0x0D05 PEN_ASSIGNED: Loading refused on this core (chapter 15). -/
abbrev penAssigned : Nat := 0x0D05

/-- 0x0D06 PEN_BANK_BUSY: Inactive bank selected by a pending commit (chapter 15). -/
abbrev penBankBusy : Nat := 0x0D06

/-- 0x0D07 PEN_NOT_VERIFIED: Commit reason: bank not verified (chapter 15). -/
abbrev penNotVerified : Nat := 0x0D07

/-- 0x0D08 PEN_DEMAND: Commit reason: period demand above the F rate (chapter 15). -/
abbrev penDemand : Nat := 0x0D08

/-- 0x0D10 PEN_FAULT: Event: program fault (chapter 15). -/
abbrev penFault : Nat := 0x0D10

/-- 0x0D11 PEN_PERIOD_LATE: Event: boundary after its tick (chapter 15). -/
abbrev penPeriodLate : Nat := 0x0D11

/-- 0x0D12 PEN_OVERRUN: Event: period above MAX_INSTR (chapter 15). -/
abbrev penOverrun : Nat := 0x0D12

/-- 0x0D13 PEN_FALLBACK: Event: trial failed; other bank restored (chapter 15). -/
abbrev penFallback : Nat := 0x0D13

/-- 0x0D14 PEN_CONFIRMED: Event: trial completed (chapter 15). -/
abbrev penConfirmed : Nat := 0x0D14

/-- 0x0D18 ENS_LOCKSTEP: Event: Ensign pair outputs differ (chapter 15). -/
abbrev ensLockstep : Nat := 0x0D18

/-- 0x0D19 ENS_PAIR_RESTARTED: Event: Ensign runtime restarted (chapter 15). -/
abbrev ensPairRestarted : Nat := 0x0D19

/-- 0x0D1A ENS_PAIR_HALTED: Event: Ensign pair halted (chapter 15). -/
abbrev ensPairHalted : Nat := 0x0D1A

/-- 0x0E01 CHK_MISMATCH: Event: compare mismatch (chapter 16). -/
abbrev chkMismatch : Nat := 0x0E01

/-- 0x0E02 CHK_CRC_FAIL: Record CRC differs (chapter 16). -/
abbrev chkCrcFail : Nat := 0x0E02

/-- 0x0E03 CHK_ALIVE_GAP: Alive step above AliveGap (chapter 16). -/
abbrev chkAliveGap : Nat := 0x0E03

/-- 0x0E04 CHK_ALIVE_REPEAT: Alive value repeated (chapter 16). -/
abbrev chkAliveRepeat : Nat := 0x0E04

/-- 0x0E05 CHK_FEED_DENIED: Feed from a source other than FeedSource (chapter 16). -/
abbrev chkFeedDenied : Nat := 0x0E05

/-- 0x0E06 CHK_RECORD_SHORT: Record too short for its fields (chapter 16). -/
abbrev chkRecordShort : Nat := 0x0E06

/-- 0x0F01 CRYPTO_SCALAR_RANGE: Scalar or private key 0 or at or above n (chapter 16). -/
abbrev cryptoScalarRange : Nat := 0x0F01

/-- 0x0F02 CRYPTO_COORD_RANGE: Coordinate at or above the field prime (chapter 16). -/
abbrev cryptoCoordRange : Nat := 0x0F02

/-- 0x0F03 CRYPTO_POINT_INVALID: Point off the curve, at infinity, or not decodable (chapter 16). -/
abbrev cryptoPointInvalid : Nat := 0x0F03

/-- 0x0F04 CRYPTO_SIG_INVALID: Signature out of range or not verifying (chapter 16). -/
abbrev cryptoSigInvalid : Nat := 0x0F04

/-- 0x0F05 CRYPTO_TAG_FAIL: GCM or CMAC tag mismatch (chapter 16). -/
abbrev cryptoTagFail : Nat := 0x0F05

/-- 0x0F06 KEY_USAGE: Class or usage not allowed for the slot (chapter 16). -/
abbrev keyUsage : Nat := 0x0F06

/-- 0x0F07 KEY_EMPTY: Slot empty (chapter 16). -/
abbrev keyEmpty : Nat := 0x0F07

/-- 0x0F08 KEY_GEN_CHANGED: Generation differs from CryptoGen (chapter 16). -/
abbrev keyGenChanged : Nat := 0x0F08

/-- 0x0F09 CRYPTO_RNG_FAIL: Random source failed its health tests (chapter 16). -/
abbrev cryptoRngFail : Nat := 0x0F09

/-- 0x0F0A CRYPTO_INPUT: Input length or format not allowed (chapter 16). -/
abbrev cryptoInput : Nat := 0x0F0A

/-- 0x0F10 KEY_ERASED: Event: slot zeroised (chapter 16). -/
abbrev keyErased : Nat := 0x0F10

/-- 0x0F11 KEY_LOST: Event: volatile slot lost with power (chapter 16). -/
abbrev keyLost : Nat := 0x0F11

/-- 0x0F20 DEBUG_CERT_INVALID: Certificate signature, format or proof of possession invalid (chapter 16). -/
abbrev debugCertInvalid : Nat := 0x0F20

/-- 0x0F21 DEBUG_CERT_EXPIRED: Hours in service outside the validity (chapter 16). -/
abbrev debugCertExpired : Nat := 0x0F21

/-- 0x0F22 DEBUG_CERT_SERIAL: Unit serial not listed (chapter 16). -/
abbrev debugCertSerial : Nat := 0x0F22

/-- 0x0F23 DEBUG_COSIGN_REQUIRED: Owner co-signature missing or invalid (chapter 16). -/
abbrev debugCosignRequired : Nat := 0x0F23

/-- 0x0F30 OWNER_TICKET_INVALID: Ownership ticket refused (chapter 16). -/
abbrev ownerTicketInvalid : Nat := 0x0F30

/-- 0x0F31 OWNER_CHANGED: Event: new owner slot live (chapter 16). -/
abbrev ownerChanged : Nat := 0x0F31

/-- 0x0F32 LIFECYCLE_ADVANCED: Event: lifecycle fuse blown (chapter 16). -/
abbrev lifecycleAdvanced : Nat := 0x0F32

/-- 0x0F33 IDENTITY_UNAVAILABLE: PUF derivation failed (chapter 16). -/
abbrev identityUnavailable : Nat := 0x0F33

/-- 0x0F34 OTP_MISMATCH: Event: OTP copies differ (chapter 16). -/
abbrev otpMismatch : Nat := 0x0F34

/-- 0x0F35 LIFECYCLE_STATE: Operation not allowed in this lifecycle state (chapter 16). -/
abbrev lifecycleState : Nat := 0x0F35

/-- 0x1001 UPD_SIG_INVALID: Header signature or key invalid (chapter 17). -/
abbrev updSigInvalid : Nat := 0x1001

/-- 0x1002 UPD_TYPE: MAGIC, FORMAT, HW_TYPE or issuer wrong (chapter 17). -/
abbrev updType : Nat := 0x1002

/-- 0x1003 UPD_SERIAL: Unit serial not listed (chapter 17). -/
abbrev updSerial : Nat := 0x1003

/-- 0x1004 UPD_ROLLBACK: Step below the class floor (chapter 17). -/
abbrev updRollback : Nat := 0x1004

/-- 0x1005 UPD_ELEMENT_INVALID: Element type, targets, extent or MIN_FROM invalid (chapter 17). -/
abbrev updElementInvalid : Nat := 0x1005

/-- 0x1006 UPD_DIGEST: Body digest mismatch (chapter 17). -/
abbrev updDigest : Nat := 0x1006

/-- 0x1007 UPD_STATE: Operation not allowed in this state (chapter 17). -/
abbrev updState : Nat := 0x1007

/-- 0x1010 UPD_STAGED: Event: package staged (chapter 17). -/
abbrev updStaged : Nat := 0x1010

/-- 0x1011 UPD_SCHED_MISSED: Event: activation time not reached (chapter 17). -/
abbrev updSchedMissed : Nat := 0x1011

/-- 0x1012 UPD_ACTIVATED: Event: items switched and started (chapter 17). -/
abbrev updActivated : Nat := 0x1012

/-- 0x1014 UPD_FALLBACK: Event: item returned to its previous bank (chapter 17). -/
abbrev updFallback : Nat := 0x1014

/-- 0x1015 UPD_CONFIRMED: Event: package confirmed (chapter 17). -/
abbrev updConfirmed : Nat := 0x1015

/-- 0x1016 UPD_BOTH_FAILED: Event: both banks failed; unit DEAD (chapter 17). -/
abbrev updBothFailed : Nat := 0x1016

/-- 0x1017 UPD_RECOVERY: Refused in recovery (chapter 17). -/
abbrev updRecovery : Nat := 0x1017

/-- 0x1018 UPD_FLOOR_RAISED: Event: anti-rollback floor raised (chapter 17). -/
abbrev updFloorRaised : Nat := 0x1018

/-- 0x1019 UPD_SETTINGS_RESET: Event: settings reset to Defaults (chapter 17). -/
abbrev updSettingsReset : Nat := 0x1019

/-- 0x1101 JNL_DROPPED: Event: item dropped with notice (chapter 18). -/
abbrev jnlDropped : Nat := 0x1101

/-- 0x1102 JNL_REFUSED: Item refused; submit again (chapter 18). -/
abbrev jnlRefused : Nat := 0x1102

/-- 0x1103 JNL_WORK_LOST: Event: items lost with DRAM at a flush (chapter 18). -/
abbrev jnlWorkLost : Nat := 0x1103

/-- 0x1104 JNL_PRESSURE: Event: record rate or live records at their limit (chapter 18). -/
abbrev jnlPressure : Nat := 0x1104

/-- 0x1105 JNL_RECORD_CORRUPT: Event: record CRC failed (chapter 18). -/
abbrev jnlRecordCorrupt : Nat := 0x1105

/-- 0x1107 JNL_EXPORT_RANGE: Export range not held (chapter 18). -/
abbrev jnlExportRange : Nat := 0x1107

/-- 0x1108 JNL_SETTINGS_LOST: Event: both settings copies failed; Defaults used (chapter 18). -/
abbrev jnlSettingsLost : Nat := 0x1108

/-- 0x1201 PWR_HOLDUP_ENTER: Event: hold-up entered; cause 1 VMAIN, 2 heat (chapter 19). -/
abbrev pwrHoldupEnter : Nat := 0x1201

/-- 0x1202 PWR_HOLDUP_EXIT: Event: return without flush begun (chapter 19). -/
abbrev pwrHoldupExit : Nat := 0x1202

/-- 0x1203 PWR_FLUSH_BEGIN: Event: flush begun (chapter 19). -/
abbrev pwrFlushBegin : Nat := 0x1203

/-- 0x1204 PWR_FLUSH_DONE: Event: flush completed (chapter 19). -/
abbrev pwrFlushDone : Nat := 0x1204

/-- 0x1205 PWR_WARM_RETURN: Event: warm return (chapter 19). -/
abbrev pwrWarmReturn : Nat := 0x1205

/-- 0x1206 PWR_COLD_START: Event: cold start (chapter 19). -/
abbrev pwrColdStart : Nat := 0x1206

/-- 0x1207 PWR_VBAK_LOW: Event: VBAK below VbakWarnMv (chapter 19). -/
abbrev pwrVbakLow : Nat := 0x1207

/-- 0x1208 PWR_VBAK_ABSENT: Event: VBAK below 2.7 V (chapter 19). -/
abbrev pwrVbakAbsent : Nat := 0x1208

/-- 0x1209 PWR_VMAIN_OVER: Event: VMAIN above 38.0 V (chapter 19). -/
abbrev pwrVmainOver : Nat := 0x1209

/-- 0x120A PWR_THERMAL_HIGH: Event: junction at or above 125 °C (chapter 19). -/
abbrev pwrThermalHigh : Nat := 0x120A

/-- 0x120B PWR_THERMAL_TRIP: Event: junction at or above 135 °C (chapter 19). -/
abbrev pwrThermalTrip : Nat := 0x120B

/-- 0x120C PWR_HOLDUP_BUDGET: HoldupHeads beyond the hold-up budget (chapter 19). -/
abbrev pwrHoldupBudget : Nat := 0x120C

/-- 0x120E PWR_HOLDUP: Refused: unit stopped in hold-up (chapter 19). -/
abbrev pwrHoldup : Nat := 0x120E

/-- 0x1210 PWR_RESET: Event: device reset, with source (chapter 19). -/
abbrev pwrReset : Nat := 0x1210

/-- 0x1240 BOUNDARY_RESET: Transfer returned by a boundary port reset (chapter 03). -/
abbrev boundaryReset : Nat := 0x1240

/-- 0x1241 EVENT_OVERRUN: Event: more than 15 events of one source merged in a crossing (chapter 03). -/
abbrev eventOverrun : Nat := 0x1241

/-- 0x1242 PLAN_RAISE: Event: urgent raise between boundaries (chapter 03). -/
abbrev planRaise : Nat := 0x1242

/-- 0x1243 GUARD_REPLANNED: Event: guard band changed by 0.25 % or more (chapter 03). -/
abbrev guardReplanned : Nat := 0x1243

/-- 0x1244 SHED: Event: load shed, with step and amount (chapter 03). -/
abbrev shed : Nat := 0x1244

/-- 0x1245 SHED_RESTORED: Event: no load remains shed (chapter 03). -/
abbrev shedRestored : Nat := 0x1245

/-- 0x1246 CEILING_REACHED: Event: a planned domain at VoltMaxMv (chapter 03). -/
abbrev ceilingReached : Nat := 0x1246

/-- 0x1247 AGE_FLOOR_PASSED: Event: age index reached 8.00 % (chapter 03). -/
abbrev ageFloorPassed : Nat := 0x1247

/-- 0x1248 THERMAL_ABOVE_FLOOR: Event: junction above 115 °C (chapter 03). -/
abbrev thermalAboveFloor : Nat := 0x1248

/-- 0x1249 MONITOR_FAULT: Event: an ageing monitor excluded (chapter 03). -/
abbrev monitorFault : Nat := 0x1249

/-- 0x124A FORECAST_CHANGED: Event: service-life forecast changed by more than 10 % (chapter 03). -/
abbrev forecastChanged : Nat := 0x124A

/-- 0x124B PLAN_WATCHDOG: Event: planner missed its boundary; domains set to 0.900 V (chapter 03). -/
abbrev planWatchdog : Nat := 0x124B

/-- 0x124C PLAN_RANGE: Commit reason: voltage limits out of range (chapter 03). -/
abbrev planRange : Nat := 0x124C

/-- 0x124D PLAN_PEN_SHORT: Event: PEN shortfall left after shedding steps 3 and 4 (chapter 03). -/
abbrev planPenShort : Nat := 0x124D

/-- 0x1301 HOIST_LINK_AUTH: Event: link peer failed authentication (chapter 20). -/
abbrev hoistLinkAuth : Nat := 0x1301

/-- 0x1302 HOIST_ID_CONFLICT: Device ID or manager role already held (chapter 20). -/
abbrev hoistIdConflict : Nat := 0x1302

/-- 0x1303 HOIST_DEPTH: Device beyond 6 hops (chapter 20). -/
abbrev hoistDepth : Nat := 0x1303

/-- 0x1304 HOIST_DEVICE_JOINED: Event: slot ALIVE (chapter 20). -/
abbrev hoistDeviceJoined : Nat := 0x1304

/-- 0x1305 HOIST_DEVICE_LOST: Event: slot DEAD (chapter 20). -/
abbrev hoistDeviceLost : Nat := 0x1305

/-- 0x1306 HOIST_DEVICE_LEFT: Event: slot ABSENT (chapter 20). -/
abbrev hoistDeviceLeft : Nat := 0x1306

/-- 0x1307 HOIST_TAKEOVER: Event: deputy became manager (chapter 20). -/
abbrev hoistTakeover : Nat := 0x1307

/-- 0x1308 HOIST_PARTITION: Event: no majority for takeover (chapter 20). -/
abbrev hoistPartition : Nat := 0x1308

/-- 0x1309 HOIST_TIME_STEPPED: Event: time stepped (chapter 20). -/
abbrev hoistTimeStepped : Nat := 0x1309

/-- 0x130A HOIST_SCHED_MISSED: Event: a device dropped a scheduled item (chapter 20). -/
abbrev hoistSchedMissed : Nat := 0x130A

/-- 0x130B HOIST_FEED_INVALID: Feed enable refused (chapter 20). -/
abbrev hoistFeedInvalid : Nat := 0x130B

/-- 0x130C HOIST_FEED_BANDWIDTH: Feed rate does not fit (chapter 20). -/
abbrev hoistFeedBandwidth : Nat := 0x130C

/-- 0x130D HOIST_FEED_LOST: Event: feed source lost (chapter 20). -/
abbrev hoistFeedLost : Nat := 0x130D

/-- 0x130E HOIST_FEED_BACK: Event: feed restored (chapter 20). -/
abbrev hoistFeedBack : Nat := 0x130E

/-- 0x130F HOIST_LINK_DOWN: Event: parent link lost (chapter 20). -/
abbrev hoistLinkDown : Nat := 0x130F

/-- 0x1310 HOIST_STATE: Operation not allowed in this hoist state (chapter 20). -/
abbrev hoistState : Nat := 0x1310

/-- 0x1311 HOIST_DEMOTED: Event: former manager now deputy (chapter 20). -/
abbrev hoistDemoted : Nat := 0x1311

/-- 0x1312 HOIST_PTP_LOST: Event: no IEEE 1588 master selected for 10 s (chapter 20). -/
abbrev hoistPtpLost : Nat := 0x1312

/-- 0x1313 HOIST_PTP_BACK: Event: IEEE 1588 master selected again (chapter 20). -/
abbrev hoistPtpBack : Nat := 0x1313

/-- 0x1401 PMC_CHAIN_INVALID: ChainMask write refused (chapter 21). -/
abbrev pmcChainInvalid : Nat := 0x1401

/-- 0x1402 PMC_SAMPLE: Event: sample recorded (chapter 21). -/
abbrev pmcSample : Nat := 0x1402

/-- 0x1403 PMC_SNAPSHOT_BUSY: No snapshot bank free (chapter 21). -/
abbrev pmcSnapshotBusy : Nat := 0x1403

/-- 0x1404 PMC_PERIOD_RANGE: Sample period out of range (chapter 21). -/
abbrev pmcPeriodRange : Nat := 0x1404

end Sys2Proof.Machine.St
end

