-- ==== Sys2Proof/Machine/Map.lean ====
section
/-!
DEFINITION. Machine/Map.lean: sparse tables as plain data. A table is a list of (key, value) pairs with keys strictly
rising. `get` reads a key or the given default; `put` stores; `set` stores and keeps the canonical form in which no
entry equals the default; byte strings and little-endian numbers.
-/
namespace Sys2Proof.Machine

/-- A sparse table from numbers to `α`. -/
abbrev Kmap (α : Type) := List (Nat × α)

namespace Kmap

variable {α : Type}

/-- The value at key `k`, or `d` where the table lists none. -/
def get (d : α) : Kmap α → Nat → α
  | [], _ => d
  | (k', v) :: m, k => if k' = k then v else get d m k

/-- The table without key `k`. -/
def erase (m : Kmap α) (k : Nat) : Kmap α := m.filter (fun p => p.1 != k)

/-- Insert at the key's place, before the first greater or equal key, replacing an equal key. -/
def put : Kmap α → Nat → α → Kmap α
  | [], k, v => [(k, v)]
  | (k', v') :: m, k, v =>
    if k < k' then (k, v) :: (k', v') :: m
    else if k' = k then (k, v) :: m
    else (k', v') :: put m k v

/-- Store `v` at `k`, keeping no entry that equals the default `d`. -/
def set [DecidableEq α] (d : α) (m : Kmap α) (k : Nat) (v : α) : Kmap α :=
  if v = d then erase m k else put m k v

/-- Keys strictly rise. -/
abbrev Sorted (m : Kmap α) : Prop := m.Pairwise (fun p q => p.1 < q.1)

/-- The canonical form: keys strictly rise and no entry equals the default. -/
abbrev Canon (d : α) (m : Kmap α) : Prop := Sorted m ∧ ∀ p ∈ m, p.2 ≠ d

end Kmap

/-- The little-endian number of a byte string. -/
def leNat : Bytes → Nat
  | [] => 0
  | b :: bs => b.toNat + 256 * leNat bs

/-- The `n` little-endian bytes of a number (its low `8 n` bits). -/
def leBytes : Nat → Nat → Bytes
  | 0, _ => []
  | n + 1, v => BitVec.ofNat 8 v :: leBytes n (v / 256)

/-- Bytes `off` to `off + n - 1` of a byte string as a little-endian number (absent bytes read 0). -/
def bytesAt (bs : Bytes) (off n : Nat) : Nat := leNat ((bs.drop off).take n)

/-- A record laid out from fields, each a size in bytes and a value, little-endian, in order. -/
def record (fs : List (Nat × Nat)) : Bytes := fs.flatMap (fun f => leBytes f.1 f.2)

/-- A byte string cut or padded with zeros to `n` bytes. -/
def padTo (n : Nat) (bs : Bytes) : Bytes := (bs ++ List.replicate n 0).take n

/-- A DOMAIN value as a number: its little-endian bytes closed by a byte 0x01. -/
def encDomain (bs : Bytes) : Nat := leNat (bs ++ [1])

/-- Number of bytes of a DOMAIN value: one less than its number has. -/
def domainLen (v : Nat) : Nat := (Nat.log2 v) / 8

/-- The bytes of a DOMAIN value held as a number. -/
def decDomain (v : Nat) : Bytes := leBytes (domainLen v) v

/-- Bit `i` of a number. -/
def bit (v i : Nat) : Bool := v.testBit i

/-- Bits `lo` to `lo + n - 1` of a number. -/
def bits (v lo n : Nat) : Nat := v >>> lo % 2 ^ n

/-- A number with bit `i` set. -/
def setBit (v i : Nat) : Nat := v ||| 1 <<< i

/-- A number with bit `i` cleared. -/
def clearBit (v i : Nat) : Nat := if v.testBit i then v - 1 <<< i else v

/-- The signed value of the low `n` bytes. -/
def toSigned (n v : Nat) : Int :=
  let w := v % 2 ^ (8 * n)
  if w < 2 ^ (8 * n - 1) then w else (w : Int) - 2 ^ (8 * n)

/-- The `n`-byte two's complement number of a signed value. -/
def ofSigned (n : Nat) (x : Int) : Nat := (x % 2 ^ (8 * n)).toNat

/-- Number of set bits among bits 0 to `n - 1`. -/
def popCount (n v : Nat) : Nat := (List.range n).countP (fun i => v.testBit i)

/-- 1 for true, 0 for false: how a BOOL is stored. -/
def b2n (b : Bool) : Nat := if b then 1 else 0

end Sys2Proof.Machine
end

