-- ==== Sys2Proof/Config.lean ====
section
/-!
DEFINITION. Config.lean: the free values. Each is an opaque constant without a body: nothing can be proved of its value,
so a statement holds for every value. The log entry named beside each says what the spec leaves open.
-/
namespace Sys2Proof.Config

/-- A value the spec leaves open, one for each reading of the state's counter `freeCount` (log 5). -/
opaque freeValue : Nat → Nat

/-- The byte a host or a hoist device answers at an address of its window at a hoist time (log 5): what lies there is outside
the block. -/
opaque windowByte : Nat → Nat → Nat

/-- The keyed hash HC of the channel number (R156): not architectural. The first argument names the key drawn. -/
opaque hashHC : Nat → Nat → Nat

/-- The keyed hash HB of the bank number (R156): not architectural. -/
opaque hashHB : Nat → Nat → Nat

/-- The Acdon EDID, default of RxEdid: the spec names its modes, not its bytes (log 6). -/
opaque acdonEdid : Nat

/-- A sample after a gain in 0.000001 dB steps (log 22): the spec gives the gain in dB, not the rounding of the product. -/
opaque scaled : Int → Int → Int

/-- A section's exact sum in Q3.28 brought back to a sample where it is not a whole number of steps (log 22). -/
opaque q28 : Int → Int

/-- Level in 0.01 dBFS of a linear amount: a peak sample, or the square root of a mean of squares (log 22). -/
opaque dbfs : Nat → Int

/-- Encrypted tweak of AES-256-XTS from the slot's key and the tweak (log 25): the spec does not say which second key a slot of one AES-256 key
gives XTS. -/
opaque xtsTweak : Nat → Nat → Nat

/-- Speed table (R82): the rate of a domain, k steps/s, at a voltage in mV, a junction temperature in 0.1 °C and an age index in 0.01 %, as corrected
by the rate that the speed monitors measured and the voltage at which they did (log 26): calibrated at manufacture. -/
opaque speedAt : Nat → Nat → Int → Nat → Nat → Nat → Nat

/-- Correction of the BUN and FAB demand by the least head slack, in 0.01 % (R82, log 26); the planner limits it to 1.00 to 1.10. -/
opaque slackCorrection : Nat → Nat

/-- FAB demand of reserved memory bandwidth in MB/s, k steps/s (R82, log 26). -/
opaque fabSteps : Nat → Nat

/-- Demand of a domain, k steps/s, that a shedding step relieves (R93): domain, step, and the M steps/s, level or head it takes (log 26). -/
opaque relief : Nat → Nat → Nat → Nat

/-- The AES-256 sealing key from the PUF secret and the live owner slot number (R395, log 28): the spec names the salt, not the function. -/
opaque sealing : Nat → Nat → Nat

/-- The signature that some bytes carry verifies under the key they name (log 33): the public keys lie in a store outside the block. -/
opaque signed : List Byte → Bool

/-- What the sections of staged package bytes hold (log 33). -/
opaque ensPackage : List Byte → EnsPkg

/-- The units that an image of firmware or of an owner program declares (R9, R10, R17): the spec gives the image no place for them (log 37). -/
opaque declaredUnits : List Byte → List UnitDecl

/-- What a die's fuses, a bought part or the module report as identity: reference and field of the identity record (R23, R509, log 38). -/
opaque identity : Nat → Nat → Nat

/-- Whether an object belongs to the object set of a unit type at a revision that a firmware image declares: type, revision, object key (R420, log 39). -/
opaque objectIn : Nat → Nat → Nat → Bool

/-- Whether an exact half rounds up in a scaler, by numerator and denominator (log 36). -/
opaque tieUp : Int → Nat → Bool

/-- Whether a chain stage or a colour conversion rounds an inexact quotient up (log 36): the spec states no rounding there. -/
opaque roundUp : Int → Nat → Bool

/-- Whether a scaler filters columns before rows (log 36). -/
opaque verticalFirst : Bool

/-- What the fragment work of a primitive makes of one sample's attachments (R179, log 46): the draw record, the primitive record, column, row and sample,
and the bytes that each attachment held. -/
opaque shade : List Byte → List Byte → Nat → Nat → Nat → List (List Byte) → List (List Byte)

/-- The draw record of a draw (R176, log 46): a value of the draw and the bytes its shaders read. -/
opaque drawRecord : Nat → List (List Byte) → Nat

/-- A line or point reaches a tile beyond its vertices by its width or size (R178, log 46): vertex positions, tile column and row. -/
opaque wideTile : List Byte → Nat → Nat → Bool

/-- A resolved texel of a format from the bytes of its samples (R187, log 46): the spec states no formula. -/
opaque resolved : Nat → List (List Byte) → List Byte

/-- Siting of chroma samples in the horizontal (false) and vertical (true) direction, in 1/262,144 of a chroma sample (log 36). -/
opaque chromaSiting : Bool → Int

/-- Three-tap vertical coefficients of scaler quality 1 by band, phase and tap (R224, log 36). -/
opaque reducedV : Nat → Nat → Nat → Int

/-- Offset of the ordered dither by column and row modulo 4 and turn (R225, log 36). -/
opaque ditherOffset : Nat → Nat → Nat → Nat

/-- Texel at a byte offset of a compressed unit by its code and bytes (R198, log 36): the encoding is not architectural. -/
opaque unitTexel : Nat → List Byte → Nat → Nat

/-- Whether the bytes of a compressed unit decode, by its code (R199, log 36). -/
opaque unitDecodes : Nat → List Byte → Bool

/-- Red and blue luma weights, in 0.0001, of the colour matrix code 3, which the spec does not describe (log 36). -/
opaque weights3 : Nat × Nat

end Sys2Proof.Config
end

