-- ==== Sys2Proof/Machine/Keys.lean ====
section
/-!
DEFINITION. Machine/Keys.lean: the name of every dictionary object the spec gives (R25). A key is the object's 16-bit
index times 256 plus its 8-bit sub-index. Index bases are the defaults of firmware 1.x (R5, R508). Each docstring
repeats the object's row of the spec's table: index, sub-index, type, access, default, boundary, meaning.
-/
namespace Sys2Proof.Machine

/-- The key of object `idx:sub`. -/
abbrev okey (idx sub : Nat) : Nat := 256 * idx + sub

namespace Obj

/-- 0x0100:01 DirFormat U8; access HAL:r ENS:r OWN:r GST:r FLD:r DBG:r; default 0x01; IMMEDIATE. Record format revision (chapter 01) -/
abbrev dirFormat : Nat := okey (0x100) 0x1

/-- 0x0100:02 DirEpoch U32; access HAL:r ENS:r OWN:r GST:r FLD:r DBG:r; default 1; IMMEDIATE. Increments on every change to any record; serial-number arithmetic (chapter 01) -/
abbrev dirEpoch : Nat := okey (0x100) 0x2

/-- 0x0100:03 RecordCount U16; access HAL:r ENS:r OWN:r GST:r FLD:r DBG:r; default —; IMMEDIATE. Handles in use (chapter 01) -/
abbrev recordCount : Nat := okey (0x100) 0x3

/-- 0x0100:04 HandleLimit U16; access HAL:r ENS:r OWN:r GST:r FLD:r DBG:r; default 0x0600; IMMEDIATE. Handles available (chapter 01) -/
abbrev handleLimit : Nat := okey (0x100) 0x4

/-- 0x0100:05 RootHandle U16; access HAL:r ENS:r OWN:r GST:r FLD:r DBG:r; default 0x0000; IMMEDIATE. Handle of /fj (chapter 01) -/
abbrev rootHandle : Nat := okey (0x100) 0x5

/-- 0x0100:06 DeviceId U8; access HAL:r ENS:r OWN:r GST:r FLD:r DBG:r; default 0; IMMEDIATE. 6-bit hoist device ID (chapter 01) -/
abbrev deviceId : Nat := okey (0x100) 0x6

/-- 0x0100:07 HoistRole U8; access HAL:r ENS:r OWN:r GST:r FLD:r DBG:r; default 0; IMMEDIATE. 0 lone, 1 manager, 2 worker, 3 deputy (chapter 01) -/
abbrev hoistRole : Nat := okey (0x100) 0x7

/-- 0x0100:08 HardwareType U32; access HAL:r ENS:r OWN:r GST:r FLD:r DBG:r; default 0x0880_0001; IMMEDIATE. From OTP (chapter 01) -/
abbrev hardwareType : Nat := okey (0x100) 0x8

/-- 0x0100:09 UnitSerial U64; access HAL:r ENS:r OWN:r GST:r DBG:r; default —; IMMEDIATE. 64-bit unit serial from OTP (chapter 01) -/
abbrev unitSerial : Nat := okey (0x100) 0x9

/-- 0x0101:01 QueryPath STR(48); access HAL:w ENS:w OWN:w GST:w DBG:w; default ""; IMMEDIATE. Path to look up, such as /fj/tch/port3 (chapter 01) -/
abbrev queryPath : Nat := okey (0x101) 0x1

/-- 0x0101:02 QueryHandle U16; access HAL:r ENS:r OWN:r GST:r DBG:r; default 0xFFFF; IMMEDIATE. Result handle (chapter 01) -/
abbrev queryHandle : Nat := okey (0x101) 0x2

/-- 0x0101:03 QueryStatus U16; access HAL:r ENS:r OWN:r GST:r DBG:r; default 0x0000; IMMEDIATE. OK, PATH_UNKNOWN or PATH_SYNTAX (chapter 01) -/
abbrev queryStatus : Nat := okey (0x101) 0x3

/-- 0x01D0 + r:01 Source U8; access HAL:r ENS:r OWN:r GST:r DBG:r; default —; IMMEDIATE. 0 not answering, 1 Acdon die, 2 bought part, 3 module (chapter 01) -/
abbrev identSource (r : Nat) : Nat := okey (0x1D0 + r) 0x1

/-- 0x01D0 + r:02 Lot STR(10); access HAL:r ENS:r OWN:r GST:r DBG:r; default ""; IMMEDIATE. Wafer lot (Source 1) (chapter 01) -/
abbrev identLot (r : Nat) : Nat := okey (0x1D0 + r) 0x2

/-- 0x01D0 + r:03 Wafer U8; access HAL:r ENS:r OWN:r GST:r DBG:r; default 0; IMMEDIATE. Wafer number 0 to 31 (Source 1) (chapter 01) -/
abbrev identWafer (r : Nat) : Nat := okey (0x1D0 + r) 0x3

/-- 0x01D0 + r:04 DieX U8; access HAL:r ENS:r OWN:r GST:r DBG:r; default 0; IMMEDIATE. Die column on wafer (Source 1) (chapter 01) -/
abbrev identDieX (r : Nat) : Nat := okey (0x1D0 + r) 0x4

/-- 0x01D0 + r:05 DieY U8; access HAL:r ENS:r OWN:r GST:r DBG:r; default 0; IMMEDIATE. Die row on wafer (Source 1) (chapter 01) -/
abbrev identDieY (r : Nat) : Nat := okey (0x1D0 + r) 0x5

/-- 0x01D0 + r:06 PartId OCT(16); access HAL:r ENS:r OWN:r GST:r DBG:r; default zeros; IMMEDIATE. Fuse ID of an Acdon die, or the ID a bought part reports (chapter 01) -/
abbrev identPartId (r : Nat) : Nat := okey (0x1D0 + r) 0x6

/-- 0x01D0 + r:07 ModuleSerial STR(16); access HAL:r ENS:r OWN:r GST:r DBG:r; default ""; IMMEDIATE. Module serial (ref 1 only) (chapter 01) -/
abbrev identModuleSerial (r : Nat) : Nat := okey (0x1D0 + r) 0x7

/-- 0x0200:01 HoistTime TIME64; access HAL:r ENS:r OWN:r GST:r FLD:r DBG:r; default —; IMMEDIATE. Current hoist time (chapter 02) -/
abbrev hoistTime : Nat := okey (0x200) 0x1

/-- 0x0200:02 TimeLocked BOOL; access HAL:r ENS:r OWN:r GST:r FLD:r DBG:r; default —; IMMEDIATE. 1 while hoist time is locked (*Hoists of several devices*); always 1 on a lone device (chapter 02) -/
abbrev timeLocked : Nat := okey (0x200) 0x2

/-- 0x0200:03 LastEpoch U32; access HAL:r ENS:r OWN:r GST:r FLD:r DBG:r; default 0; IMMEDIATE. Last commit epoch assigned (chapter 02) -/
abbrev lastEpoch : Nat := okey (0x200) 0x3

/-- 0x0201:01 SchedLeadUs U32; access HAL:rw OWN:rw others r; default 5,000; IMMEDIATE. Least lead of CommitAt over acceptance, 1,000 to 1,000,000 µs (chapter 02) -/
abbrev schedLeadUs : Nat := okey (0x201) 0x1

/-- 0x0201:02 SchedHorizonS U32; access HAL:rw OWN:rw others r; default 2,592,000; IMMEDIATE. Greatest lead of CommitAt, 60 s to 31,536,000 s (chapter 02) -/
abbrev schedHorizonS : Nat := okey (0x201) 0x2

/-- 0x0201:03 ShadowHoldMs U16; access HAL:rw OWN:rw others r; default 2,000; IMMEDIATE. Hold expiry, 100 to 60,000 ms (chapter 02) -/
abbrev shadowHoldMs : Nat := okey (0x201) 0x3

/-- 0x0210:01 CommitHandle HANDLE; access HAL:rw ENS:rw OWN:rw GST:rw DBG:rw; default 0xFFFF; IMMEDIATE. Unit to act on; 0xFFFE for the set at 0x0211; per session (chapter 02) -/
abbrev commitHandle : Nat := okey (0x210) 0x1

/-- 0x0210:02 CommitAt TIME64; access HAL:rw ENS:rw OWN:rw GST:rw DBG:rw; default 0; IMMEDIATE. 0 for the next boundary, or scheduled hoist time; per session (chapter 02) -/
abbrev commitAt : Nat := okey (0x210) 0x2

/-- 0x0210:03 CommitOp U8; access HAL:w ENS:w OWN:w GST:w DBG:w; default —; IMMEDIATE. 1 commit, 2 discard shadow, 3 cancel pending (chapter 02) -/
abbrev commitOp : Nat := okey (0x210) 0x3

/-- 0x0210:04 CommitEpoch U32; access HAL:r ENS:r OWN:r GST:r DBG:r; default 0; IMMEDIATE. Epoch assigned by the last accepted commit; per session (chapter 02) -/
abbrev commitEpoch : Nat := okey (0x210) 0x4

/-- 0x0210:05 CommitStatus U16; access HAL:r ENS:r OWN:r GST:r DBG:r; default 0x0000; IMMEDIATE. Status of the last CommitOp; per session (chapter 02) -/
abbrev commitStatus : Nat := okey (0x210) 0x5

/-- 0x0210:06 CommitDetail U32; access HAL:r ENS:r OWN:r GST:r DBG:r; default 0; IMMEDIATE. On refusal: index in bits 31:16, sub in 15:8; per session (chapter 02) -/
abbrev commitDetail : Nat := okey (0x210) 0x6

/-- 0x0210:07 CommitReason U16; access HAL:r ENS:r OWN:r GST:r DBG:r; default 0x0000; IMMEDIATE. On COMMIT_INVALID: the owning unit's own status code; per session (chapter 02) -/
abbrev commitReason : Nat := okey (0x210) 0x7

/-- 0x0211:01 SetCount U8; access HAL:rw ENS:rw OWN:rw GST:rw DBG:rw; default 0; IMMEDIATE. Units in the set, 0 to 16; per session (chapter 02) -/
abbrev setCount : Nat := okey (0x211) 0x1

/-- 0x0211:02–11 SetHandle HANDLE; access HAL:rw ENS:rw OWN:rw GST:rw DBG:rw; default 0xFFFF; IMMEDIATE. Set members; per session (chapter 02) -/
abbrev setHandle (j : Nat) : Nat := okey (0x211) (0x2 + j)

/-- 0x0212:01 QueryUnit HANDLE; access HAL:rw ENS:rw OWN:rw GST:rw DBG:rw; default 0xFFFF; IMMEDIATE. Unit whose commit state is read below; per session (chapter 02) -/
abbrev queryUnit : Nat := okey (0x212) 0x1

/-- 0x0212:02 ActiveEpoch U32; access HAL:r ENS:r OWN:r GST:r DBG:r; default 0; IMMEDIATE. Epoch of the active bank (chapter 02) -/
abbrev activeEpoch : Nat := okey (0x212) 0x2

/-- 0x0212:03 PendingEpoch U32; access HAL:r ENS:r OWN:r GST:r DBG:r; default 0; IMMEDIATE. Epoch of the pending bank; 0 for none (chapter 02) -/
abbrev pendingEpoch : Nat := okey (0x212) 0x3

/-- 0x0212:04 PendingAt TIME64; access HAL:r ENS:r OWN:r GST:r DBG:r; default 0; IMMEDIATE. CommitAt of the pending bank (chapter 02) -/
abbrev pendingAt : Nat := okey (0x212) 0x4

/-- 0x0212:05 BoundaryCount U32; access HAL:r ENS:r OWN:r GST:r DBG:r; default 0; IMMEDIATE. Count of the unit's boundary source at the last application (chapter 02) -/
abbrev boundaryCount : Nat := okey (0x212) 0x5

/-- 0x0212:06 Holder U16; access HAL:r ENS:r OWN:r GST:r DBG:r; default 0; IMMEDIATE. Session number of the shadow holder; 0 for none (chapter 02) -/
abbrev holder : Nat := okey (0x212) 0x6

/-- 0x0220:01 AuthEnvelope OCT(54); access HAL:w OWN:w GST:w FLD:w DBG:w; default —; IMMEDIATE. Up to 54 bytes; authenticated request (chapter 02) -/
abbrev authEnvelope : Nat := okey (0x220) 0x1

/-- 0x0220:02 PermittedGap U8; access HAL:rw OWN:rw others r; default 15; IMMEDIATE. Greatest freshness step of a short envelope, 1 to 127 (chapter 02) -/
abbrev permittedGap : Nat := okey (0x220) 0x2

/-- 0x0220:03–06 LastFreshness U64; access HAL:r OWN:r DBG:r; default 0; IMMEDIATE. Last accepted freshness for key 0 to 3 (chapter 02) -/
abbrev lastFreshness (j : Nat) : Nat := okey (0x220) (0x3 + j)

/-- F+0x00:01 NodeId U8; access HAL:rw OWN:rw ENS:r FLD:r; default 0x10 + port; IMMEDIATE. 1 to 127; takes effect after the response (chapter 02) -/
abbrev nodeId (p : Nat) : Nat := okey (0x7C00 + 0x80 * p) 0x1

/-- F+0x00:02 NominalRate U32; access HAL:rw OWN:rw ENS:r FLD:r; default 500,000; IMMEDIATE. Arbitration bit rate, bit/s (chapter 02) -/
abbrev nominalRate (p : Nat) : Nat := okey (0x7C00 + 0x80 * p) 0x2

/-- F+0x00:03 DataRate U32; access HAL:rw OWN:rw ENS:r FLD:r; default 2,000,000; IMMEDIATE. Data-phase bit rate, up to 8,000,000 bit/s (chapter 02) -/
abbrev dataRate (p : Nat) : Nat := okey (0x7C00 + 0x80 * p) 0x3

/-- F+0x00:04 HbProducerMs U16; access HAL:rw OWN:rw ENS:r FLD:r; default 100; IMMEDIATE. 0 disables; else 10 to 10,000 (chapter 02) -/
abbrev hbProducerMs (p : Nat) : Nat := okey (0x7C00 + 0x80 * p) 0x4

/-- F+0x00:05 LastStatus U16; access HAL:r OWN:r FLD:r; default 0x0000; IMMEDIATE. Status of the last USDO request (chapter 02) -/
abbrev lastStatus (p : Nat) : Nat := okey (0x7C00 + 0x80 * p) 0x5

/-- F+0x01:01–08 HbConsumer U32; access HAL:rw OWN:rw ENS:r; default 0; IMMEDIATE. Node-ID in bits 23:16, time in ms in 15:0; 0 unused (chapter 02) -/
abbrev hbConsumer (p : Nat) (j : Nat) : Nat := okey (0x7C01 + 0x80 * p) (0x1 + j)

/-- F+0x10+m:01 RxCobId U32; access HAL:rw OWN:rw ENS:r; default 0x8000_0000; IMMEDIATE. Bit 31 disables; bit 29 selects 29-bit identifiers (chapter 02) -/
abbrev rxCobId (p : Nat) (m : Nat) : Nat := okey (0x7C10 + 0x80 * p + m) 0x1

/-- F+0x10+m:02 RxLength U8; access HAL:rw OWN:rw ENS:r; default 8; IMMEDIATE. Expected payload length, 1 to 64 (chapter 02) -/
abbrev rxLength (p : Nat) (m : Nat) : Nat := okey (0x7C10 + 0x80 * p + m) 0x2

/-- F+0x10+m:03 CheckUnit HANDLE; access HAL:rw OWN:rw ENS:r; default 0xFFFF; IMMEDIATE. Check unit validating CRC and alive counter; 0xFFFF for none (chapter 02) -/
abbrev checkUnit (p : Nat) (m : Nat) : Nat := okey (0x7C10 + 0x80 * p + m) 0x3

/-- F+0x10+m:04 StaleMs U16; access HAL:rw OWN:rw ENS:r; default 0; IMMEDIATE. 0 for never stale; else 10 to 60,000 (chapter 02) -/
abbrev staleMs (p : Nat) (m : Nat) : Nat := okey (0x7C10 + 0x80 * p + m) 0x4

/-- F+0x10+m:05 RxData OCT(64); access HAL:r ENS:r OWN:r FLD:r; default zeros; IMMEDIATE. Last accepted payload (chapter 02) -/
abbrev rxData (p : Nat) (m : Nat) : Nat := okey (0x7C10 + 0x80 * p + m) 0x5

/-- F+0x10+m:06 RxValid BOOL; access HAL:r ENS:r OWN:r FLD:r; default 0; IMMEDIATE. 0 until accepted, and while stale (chapter 02) -/
abbrev rxValid (p : Nat) (m : Nat) : Nat := okey (0x7C10 + 0x80 * p + m) 0x6

/-- F+0x10+m:07 RxTime TIME64; access HAL:r ENS:r OWN:r FLD:r; default 0; IMMEDIATE. Time of the last accepted frame (chapter 02) -/
abbrev rxTime (p : Nat) (m : Nat) : Nat := okey (0x7C10 + 0x80 * p + m) 0x7

/-- F+0x10+m:08 RxCount U32; access HAL:r ENS:r OWN:r FLD:r; default 0; IMMEDIATE. Accepted frames, modulo 2^32 (chapter 02) -/
abbrev rxCount (p : Nat) (m : Nat) : Nat := okey (0x7C10 + 0x80 * p + m) 0x8

/-- F+0x30+t:01 TxCobId U32; access HAL:rw OWN:rw ENS:rw; default 0x8000_0000; IMMEDIATE. As RxCobId (chapter 02) -/
abbrev txCobId (p : Nat) (t : Nat) : Nat := okey (0x7C30 + 0x80 * p + t) 0x1

/-- F+0x30+t:02 TxSource U32; access HAL:rw OWN:rw ENS:rw; default 0; IMMEDIATE. Source object: index in bits 31:16, sub in 15:8 (chapter 02) -/
abbrev txSource (p : Nat) (t : Nat) : Nat := okey (0x7C30 + 0x80 * p + t) 0x2

/-- F+0x30+t:03 TxPeriodMs U16; access HAL:rw OWN:rw ENS:rw; default 0; IMMEDIATE. 0 sends on each change of the source, at most one frame per 10 ms; else period (chapter 02) -/
abbrev txPeriodMs (p : Nat) (t : Nat) : Nat := okey (0x7C30 + 0x80 * p + t) 0x3

/-- F+0x40:01 RawNominalRate U32; access GST:rw HAL:r OWN:r DBG:r; default 500,000; IMMEDIATE. Arbitration bit rate, bit/s (chapter 02) -/
abbrev rawNominalRate (p : Nat) : Nat := okey (0x7C40 + 0x80 * p) 0x1

/-- F+0x40:02 RawDataRate U32; access GST:rw HAL:r OWN:r DBG:r; default 2,000,000; IMMEDIATE. Data-phase bit rate, bit/s (chapter 02) -/
abbrev rawDataRate (p : Nat) : Nat := okey (0x7C40 + 0x80 * p) 0x2

/-- F+0x40:03 RawSamplePermille U16; access GST:rw HAL:r OWN:r DBG:r; default 800; IMMEDIATE. Sample point, 700 to 900 (chapter 02) -/
abbrev rawSamplePermille (p : Nat) : Nat := okey (0x7C40 + 0x80 * p) 0x3

/-- F+0x40:04 RawMode U8; access GST:rw HAL:r OWN:r DBG:r; default 0; IMMEDIATE. 0 normal, 1 listen-only (chapter 02) -/
abbrev rawMode (p : Nat) : Nat := okey (0x7C40 + 0x80 * p) 0x4

/-- F+0x40:05 RawState U8; access GST:r HAL:r OWN:r DBG:r; default 0; IMMEDIATE. 0 error-active, 1 error-passive, 2 bus-off (chapter 02) -/
abbrev rawState (p : Nat) : Nat := okey (0x7C40 + 0x80 * p) 0x5

/-- F+0x40:06–07 RawTec U8; access GST:r HAL:r OWN:r DBG:r; default 0; IMMEDIATE. Transmit and receive error counters (chapter 02) -/
abbrev rawTec (p : Nat) : Nat := okey (0x7C40 + 0x80 * p) 0x6

/-- F+0x40:06–07 RawRec U8; access GST:r HAL:r OWN:r DBG:r; default 0; IMMEDIATE. Transmit and receive error counters (chapter 02) -/
abbrev rawRec (p : Nat) : Nat := okey (0x7C40 + 0x80 * p) 0x7

/-- F+0x40:08 RawRxLost U32; access GST:r HAL:r OWN:r DBG:r; default 0; IMMEDIATE. Frames discarded with the FIFO full, modulo 2^32 (chapter 02) -/
abbrev rawRxLost (p : Nat) : Nat := okey (0x7C40 + 0x80 * p) 0x8

/-- F+0x40:09 RawTxQueued U8; access GST:r HAL:r OWN:r DBG:r; default 0; IMMEDIATE. Frames in the transmit queue (chapter 02) -/
abbrev rawTxQueued (p : Nat) : Nat := okey (0x7C40 + 0x80 * p) 0x9

/-- F+0x41:01–10 RawFilter U64; access GST:rw HAL:r OWN:r DBG:r; default 0; IMMEDIATE. Mask in bits 63:32; bit 31 enable, bit 29 extended, bits 28:0 identifier value (chapter 02) -/
abbrev rawFilter (p : Nat) (j : Nat) : Nat := okey (0x7C41 + 0x80 * p) (0x1 + j)

/-- F+0x42:01 RawRx DOMAIN; access GST:r HAL:r OWN:r DBG:r; default —; IMMEDIATE. Up to 32 records; a read removes them (chapter 02) -/
abbrev rawRx (p : Nat) : Nat := okey (0x7C42 + 0x80 * p) 0x1

/-- F+0x42:02 RawTx DOMAIN; access GST:w for the holder; default —; IMMEDIATE. 1 to 16 records (chapter 02) -/
abbrev rawTx (p : Nat) : Nat := okey (0x7C42 + 0x80 * p) 0x2

/-- U:01 UsbPortState U8; access GST:rw OWN:rw HAL:r DBG:r; default 0; IMMEDIATE. 0 off, 1 no device, 2 enumerating, 3 serving, 4 over-current; read-only (chapter 02) -/
abbrev usbPortState (h : Nat) : Nat := okey (0x7E00 + 0x10 * h) 0x1

/-- U:02 UsbPortOp U8; access GST:rw OWN:rw HAL:r DBG:r; default —; IMMEDIATE. 1 reset and power the port (chapter 02) -/
abbrev usbPortOp (h : Nat) : Nat := okey (0x7E00 + 0x10 * h) 0x2

/-- U+0x01:01–08 UsbDevice OCT(8); access GST:rw OWN:rw HAL:r DBG:r; default zeros; IMMEDIATE. Address, class (3 HID, 8 mass storage, 9 hub, 0xFF other), VID (2), PID (2), served (1), zero; read-only (chapter 02) -/
abbrev usbDevice (h : Nat) (j : Nat) : Nat := okey (0x7E01 + 0x10 * h) (0x1 + j)

/-- U+0x02:01 HidIn DOMAIN; access GST:rw OWN:rw HAL:r DBG:r; default —; IMMEDIATE. Up to 16 records; a read removes them (chapter 02) -/
abbrev hidIn (h : Nat) : Nat := okey (0x7E02 + 0x10 * h) 0x1

/-- U+0x02:02 HidOut OCT(68); access GST:rw OWN:rw HAL:r DBG:r; default —; IMMEDIATE. Up to 68 bytes: device, report ID, LEN, zero, data (chapter 02) -/
abbrev hidOut (h : Nat) : Nat := okey (0x7E02 + 0x10 * h) 0x2

/-- U+0x02:03 HidInLost U32; access GST:rw OWN:rw HAL:r DBG:r; default 0; IMMEDIATE. Reports discarded, modulo 2^32; read-only (chapter 02) -/
abbrev hidInLost (h : Nat) : Nat := okey (0x7E02 + 0x10 * h) 0x3

/-- 0xF000 + 2w:01 TargetDevice U8; access HAL:rw ENS:rw OWN:rw GST:rw FLD:rw DBG:rw; default 0xFF; IMMEDIATE. 0xFF for this device; 0 to 63 for a hoist device, on the manager only (chapter 02) -/
abbrev targetDevice (w : Nat) : Nat := okey (0xF000 + 0x2 * w) 0x1

/-- 0xF000 + 2w:02 TargetIndex U16; access HAL:rw ENS:rw OWN:rw GST:rw FLD:rw DBG:rw; default 0x0000; IMMEDIATE. Index reached (chapter 02) -/
abbrev targetIndex (w : Nat) : Nat := okey (0xF000 + 0x2 * w) 0x2

/-- 0xF000 + 2w:03 ElementBase U32; access HAL:rw ENS:rw OWN:rw GST:rw FLD:rw DBG:rw; default 0; IMMEDIATE. First element shown, for table objects (chapter 02) -/
abbrev elementBase (w : Nat) : Nat := okey (0xF000 + 0x2 * w) 0x3

/-- 0xF000 + 2w:04 Mapped BOOL; access HAL:r ENS:r OWN:r GST:r FLD:r DBG:r; default 0; IMMEDIATE. 1 when the target exists and is reachable (chapter 02) -/
abbrev mapped (w : Nat) : Nat := okey (0xF000 + 0x2 * w) 0x4

/-- 0x0050:01 OwnerEvHead U32; access HAL:r OWN:r FLD:r DBG:r; default 0; IMMEDIATE. SEQ that the next record will take (chapter 02) -/
abbrev ownerEvHead : Nat := okey (0x50) 0x1

/-- 0x0050:02 OwnerEvFrom U32; access HAL:rw OWN:rw FLD:rw DBG:rw; default 0; IMMEDIATE. First SEQ to read; per session (chapter 02) -/
abbrev ownerEvFrom : Nat := okey (0x50) 0x2

/-- 0x0050:03 OwnerEvData DOMAIN; access HAL:r OWN:r FLD:r DBG:r; default —; IMMEDIATE. Up to 32 records, 1,024 bytes; per session (chapter 02) -/
abbrev ownerEvData : Nat := okey (0x50) 0x3

/-- 0x0050:04 OwnerEvLost U32; access HAL:r OWN:r DBG:r; default 0; IMMEDIATE. Records overwritten, modulo 2^32 (chapter 02) -/
abbrev ownerEvLost : Nat := okey (0x50) 0x4

/-- 0x0050:05 OwnerEvPush BOOL; access HAL:rw OWN:rw FLD:rw DBG:rw; default 0; IMMEDIATE. Push on Ethernet sessions; per session (chapter 02) -/
abbrev ownerEvPush : Nat := okey (0x50) 0x5

/-- 0x0050:06 FieldEventMask U8; access HAL:rw OWN:rw FLD:r DBG:r; default 0x10; IMMEDIATE. Bit s: severity s readable by FLD (chapter 02) -/
abbrev fieldEventMask : Nat := okey (0x50) 0x6

/-- 0x0050:07 OwnerEvLast OCT(32); access HAL:r OWN:r FLD:r DBG:r; default zeros; IMMEDIATE. Newest record readable by FLD (chapter 02) -/
abbrev ownerEvLast : Nat := okey (0x50) 0x7

/-- 0x0700:01 PlanPeriodUs U32; access HAL:r ENS:r OWN:r GST:r FLD:r DBG:r; default 4,000; IMMEDIATE. Planning period; fixed (chapter 03) -/
abbrev planPeriodUs : Nat := okey (0x700) 0x1

/-- 0x0700:02 PlanCount U32; access HAL:r ENS:r OWN:r GST:r FLD:r DBG:r; default 0; IMMEDIATE. Boundaries since start, modulo 2^32 (chapter 03) -/
abbrev planCount : Nat := okey (0x700) 0x2

/-- 0x0700:03 JunctionTemp S16; access HAL:r ENS:r OWN:r GST:r FLD:r DBG:r; default —; IMMEDIATE. Highest sensor, 0.1 °C (chapter 03) -/
abbrev junctionTemp : Nat := okey (0x700) 0x3

/-- 0x0700:04 UrgentRaises U32; access HAL:r OWN:r DBG:r; default 0; IMMEDIATE. Urgent raises since start, modulo 2^32 (chapter 03) -/
abbrev urgentRaises : Nat := okey (0x700) 0x4

/-- 0x0710 + d:01 VoltageMv U16; access HAL:r ENS:r OWN:r GST:r DBG:r; default —; IMMEDIATE. Present set point, mV (chapter 03) -/
abbrev voltageMv (d : Nat) : Nat := okey (0x710 + d) 0x1

/-- 0x0710 + d:02 SpeedNow U32; access HAL:r ENS:r OWN:r GST:r DBG:r; default —; IMMEDIATE. Measured step rate, k steps/s (k instructions/s for PEN and ENS) (chapter 03) -/
abbrev speedNow (d : Nat) : Nat := okey (0x710 + d) 0x2

/-- 0x0710 + d:03 DemandRate U32; access HAL:r ENS:r OWN:r GST:r DBG:r; default —; IMMEDIATE. Admitted demand at the last boundary, same unit (chapter 03) -/
abbrev demandRate (d : Nat) : Nat := okey (0x710 + d) 0x3

/-- 0x0710 + d:04 CeilingRate U32; access HAL:r ENS:r OWN:r GST:r DBG:r; default —; IMMEDIATE. Predicted rate at VoltMaxMv, same unit (chapter 03) -/
abbrev ceilingRate (d : Nat) : Nat := okey (0x710 + d) 0x4

/-- 0x0710 + d:05 VoltMinMv U16; access HAL:rwc OWN:rwc DBG:r; default 600; PLAN. Lowest set point, 600 to VoltMaxMv; absent for d = 4 (chapter 03) -/
abbrev voltMinMv (d : Nat) : Nat := okey (0x710 + d) 0x5

/-- 0x0710 + d:06 VoltMaxMv U16; access HAL:rwc OWN:rwc DBG:r; default 900; PLAN. Highest set point, 720 to 900; absent for d = 4 (chapter 03) -/
abbrev voltMaxMv (d : Nat) : Nat := okey (0x710 + d) 0x6

/-- 0x0720:01 AgeIndex U16; access HAL:r ENS:r OWN:r GST:r DBG:r; default 0; IMMEDIATE. Highest domain age index, 0.01 % (chapter 03) -/
abbrev ageIndex : Nat := okey (0x720) 0x1

/-- 0x0720:02–06 DomainAge U16; access HAL:r ENS:r OWN:r GST:r DBG:r; default 0; IMMEDIATE. Age index of domain 0 to 4, 0.01 % (chapter 03) -/
abbrev domainAge (j : Nat) : Nat := okey (0x720) (0x2 + j)

/-- 0x0720:07 GuardBand U16; access HAL:r ENS:r OWN:r GST:r DBG:r; default 600; IMMEDIATE. Present guard band, 0.01 % (chapter 03) -/
abbrev guardBand : Nat := okey (0x720) 0x7

/-- 0x0720:08 AgeRate U16; access HAL:r OWN:r DBG:r; default 0; IMMEDIATE. Age index growth over the last 1,000 h in service, 0.001 % (chapter 03) -/
abbrev ageRate : Nat := okey (0x720) 0x8

/-- 0x0720:09 ForecastHours U32; access HAL:r OWN:r DBG:r; default 0xFFFF_FFFF; IMMEDIATE. Hours in service left at the present admitted load (chapter 03) -/
abbrev forecastHours : Nat := okey (0x720) 0x9

/-- 0x0720:0A ForecastFullHours U32; access HAL:r OWN:r DBG:r; default 0xFFFF_FFFF; IMMEDIATE. Hours in service left at full F demand on every domain (chapter 03) -/
abbrev forecastFullHours : Nat := okey (0x720) 0xA

/-- 0x0720:0B MonitorsValid U32; access HAL:r OWN:r DBG:r; default —; IMMEDIATE. Valid ageing monitors, 4 bits per domain, domain 0 lowest; 0xF shown for 15 or 16 (chapter 03) -/
abbrev monitorsValid : Nat := okey (0x720) 0xB

/-- 0x0730:01 ShedLevel U8; access HAL:r ENS:r OWN:r GST:r DBG:r; default 0; IMMEDIATE. Highest shedding step in force, 0 to 4 (chapter 03) -/
abbrev shedLevel : Nat := okey (0x730) 0x1

/-- 0x0730:02 ShedSince TIME64; access HAL:r ENS:r OWN:r GST:r DBG:r; default 0; IMMEDIATE. Start of the present shed; 0 for none (chapter 03) -/
abbrev shedSince : Nat := okey (0x730) 0x2

/-- 0x0730:03–0A BlankPriority U8; access HAL:rwc OWN:rwc others r; default 128; PLAN. Blanking priority of head 0 to 7; lower blanks first (chapter 03) -/
abbrev blankPriority (j : Nat) : Nat := okey (0x730) (0x3 + j)

/-- 0x0800 + w:01 WorldState U8; access HAL:r ENS:r OWN:r GST:r DBG:r; default 0; IMMEDIATE. World state code (chapter 04) -/
abbrev worldState (w : Nat) : Nat := okey (0x800 + w) 0x1

/-- 0x0800 + w:02 WorldKind U8; access HAL:r ENS:r OWN:r GST:r DBG:r; default per ID; IMMEDIATE. Kind code; 0xFF while FREE (chapter 04) -/
abbrev worldKind (w : Nat) : Nat := okey (0x800 + w) 0x2

/-- 0x0800 + w:03 WorldGen U16; access HAL:r ENS:r OWN:r GST:r DBG:r; default 0; IMMEDIATE. Teardowns of this ID since cold start, modulo 2^16 (chapter 04) -/
abbrev worldGen (w : Nat) : Nat := okey (0x800 + w) 0x3

/-- 0x0800 + w:04 MemGrantedMiB U32; access HAL:r ENS:r OWN:r GST:r DBG:r; default 0; IMMEDIATE. Memory mapped, MiB (chapter 04) -/
abbrev memGrantedMiB (w : Nat) : Nat := okey (0x800 + w) 0x4

/-- 0x0800 + w:05 BlocksHeld U8; access HAL:r ENS:r OWN:r GST:r DBG:r; default 0; IMMEDIATE. Assignable blocks held (chapter 04) -/
abbrev blocksHeld (w : Nat) : Nat := okey (0x800 + w) 0x5

/-- 0x0800 + w:06 KeyState U8; access HAL:r ENS:r OWN:r GST:r DBG:r; default 0; IMMEDIATE. 0 none, 1 live, 2 erased (chapter 04) -/
abbrev keyState (w : Nat) : Nat := okey (0x800 + w) 0x6

/-- 0x0800 + w:07 DebugMark BOOL; access HAL:r ENS:r OWN:r GST:r DBG:r; default 0; IMMEDIATE. Debug opened since creation (chapter 04) -/
abbrev debugMark (w : Nat) : Nat := okey (0x800 + w) 0x7

/-- 0x0800 + w:08 FaultCount U32; access HAL:r ENS:r OWN:r GST:r DBG:r; default 0; IMMEDIATE. Translation faults, modulo 2^32 (chapter 04) -/
abbrev faultCount (w : Nat) : Nat := okey (0x800 + w) 0x8

/-- 0x0800 + w:09 FaultsCoalesced U32; access HAL:r ENS:r OWN:r GST:r DBG:r; default 0; IMMEDIATE. Faults not given their own event, modulo 2^32 (chapter 04) -/
abbrev faultsCoalesced (w : Nat) : Nat := okey (0x800 + w) 0x9

/-- 0x0800 + w:0A DebugConsent BOOL; access HAL:r OWN:r GST:rw DBG:r; default 0; IMMEDIATE. Guest consents to debug; guest worlds only (chapter 04) -/
abbrev debugConsent (w : Nat) : Nat := okey (0x800 + w) 0xA

/-- 0x0840:01 WorldsFree U8; access HAL:r OWN:r GST:r DBG:r; default 60; IMMEDIATE. FREE guest IDs (chapter 04) -/
abbrev worldsFree : Nat := okey (0x840) 0x1

/-- 0x0840:02 FaultEventLimit U16; access HAL:rw OWN:rw others r; default 64; IMMEDIATE. Fault events per world per ms, 8 to 256 (chapter 04) -/
abbrev faultEventLimit : Nat := okey (0x840) 0x2

/-- 0x0840:03 GraceMs U16; access HAL:rw OWN:rw others r; default 100; IMMEDIATE. Recall grace, 10 to 5,000 ms (chapter 04) -/
abbrev graceMs : Nat := okey (0x840) 0x3

/-- 0x0850:01 HoBlock HANDLE; access HAL:rw OWN:rw DBG:r; default 0xFFFF; IMMEDIATE. Block to act on; per session (chapter 04) -/
abbrev hoBlock : Nat := okey (0x850) 0x1

/-- 0x0850:02 HoTarget U8; access HAL:rw OWN:rw DBG:r; default 0; IMMEDIATE. World for a grant; per session (chapter 04) -/
abbrev hoTarget : Nat := okey (0x850) 0x2

/-- 0x0850:03 HoOp U8; access HAL:w OWN:w; default —; IMMEDIATE. 1 grant, 2 recall (chapter 04) -/
abbrev hoOp : Nat := okey (0x850) 0x3

/-- 0x0850:04 HoStatus U16; access HAL:r OWN:r DBG:r; default 0x0000; IMMEDIATE. Status of the last HoOp; per session (chapter 04) -/
abbrev hoStatus : Nat := okey (0x850) 0x4

/-- 0x0851:01 HqBlock HANDLE; access HAL:rw ENS:rw OWN:rw GST:rw DBG:rw; default 0xFFFF; IMMEDIATE. Block to look up; per session (chapter 04) -/
abbrev hqBlock : Nat := okey (0x851) 0x1

/-- 0x0851:02 HqWorld U8; access HAL:r ENS:r OWN:r GST:r DBG:r; default —; IMMEDIATE. Holder world; GST sees only its own blocks (chapter 04) -/
abbrev hqWorld : Nat := okey (0x851) 0x2

/-- 0x0851:03 HqState U8; access HAL:r ENS:r OWN:r GST:r DBG:r; default —; IMMEDIATE. Hand-over state code (chapter 04) -/
abbrev hqState : Nat := okey (0x851) 0x3

/-- 0x0851:04 HqWorldGen U16; access HAL:r ENS:r OWN:r GST:r DBG:r; default —; IMMEDIATE. Holder's WorldGen (chapter 04) -/
abbrev hqWorldGen : Nat := okey (0x851) 0x4

/-- 0x0860:01 DebugActive BOOL; access HAL:r ENS:r OWN:r GST:r FLD:r DBG:r; default 0; IMMEDIATE. Any debug session open (chapter 04) -/
abbrev debugActive : Nat := okey (0x860) 0x1

/-- 0x0860:02 DebugWorlds U64; access HAL:r OWN:r DBG:r; default 0; IMMEDIATE. Bit w set while world w is open (chapter 04) -/
abbrev debugWorlds : Nat := okey (0x860) 0x2

/-- 0x0900 + i:01 InstState U8; access HAL:r OWN:r GST:r DBG:r; default 0; IMMEDIATE. Instance state code (chapter 05) -/
abbrev instState (i : Nat) : Nat := okey (0x900 + i) 0x1

/-- 0x0900 + i:02 InstWorld U8; access HAL:r OWN:r GST:r DBG:r; default 0xFF; IMMEDIATE. World ID; 0xFF while ABSENT (chapter 05) -/
abbrev instWorld (i : Nat) : Nat := okey (0x900 + i) 0x2

/-- 0x0900 + i:03 GuestTag U16; access HAL:rw OWN:rw DBG:r; default 0; IMMEDIATE. Shared tag; a write while the instance is not ABSENT returns BUSY (R518) (chapter 05) -/
abbrev instGuestTag (i : Nat) : Nat := okey (0x900 + i) 0x3

/-- 0x0900 + i:04 MemLimitMiB U32; access HAL:rw OWN:rw GST:r DBG:r; default 0; IMMEDIATE. Memory grant (chapter 05) -/
abbrev instMemLimitMiB (i : Nat) : Nat := okey (0x900 + i) 0x4

/-- 0x0900 + i:05 RendererGrant U32; access HAL:rw OWN:rw GST:r DBG:r; default 0; IMMEDIATE. M steps/s of NIM (chapter 05) -/
abbrev instRendererGrant (i : Nat) : Nat := okey (0x900 + i) 0x5

/-- 0x0900 + i:06 BandwidthGrant U32; access HAL:rw OWN:rw GST:r DBG:r; default 0; IMMEDIATE. MB/s (chapter 05) -/
abbrev instBandwidthGrant (i : Nat) : Nat := okey (0x900 + i) 0x6

/-- 0x0900 + i:07 AudioLatencyUs U32; access HAL:rw OWN:rw GST:r DBG:r; default 0; IMMEDIATE. Shortest stream latency the instance may reserve, 500 to 100,000 µs; 0 for none (R353) (chapter 05) -/
abbrev instAudioLatencyUs (i : Nat) : Nat := okey (0x900 + i) 0x7

/-- 0x0900 + i:08 TouchRateHz U16; access HAL:rw OWN:rw GST:r DBG:r; default 0; IMMEDIATE. Report rate grantable, up to 240 (chapter 05) -/
abbrev instTouchRateHz (i : Nat) : Nat := okey (0x900 + i) 0x8

/-- 0x0900 + i:09 InstOp U8; access HAL:w OWN:w; default —; IMMEDIATE. 1 enable, 2 quiesce, 3 resume, 4 reset, 5 remove (chapter 05) -/
abbrev instOp (i : Nat) : Nat := okey (0x900 + i) 0x9

/-- 0x0900 + i:0A InstOpStatus U16; access HAL:r OWN:r DBG:r; default 0x0000; IMMEDIATE. Status of the last InstOp; per session (chapter 05) -/
abbrev instOpStatus (i : Nat) : Nat := okey (0x900 + i) 0xA

/-- 0x0900 + i:0B PeerCertHash OCT(32); access HAL:rw OWN:rw DBG:r; default zeros; IMMEDIATE. Ethernet instances only (chapter 05) -/
abbrev instPeerCertHash (i : Nat) : Nat := okey (0x900 + i) 0xB

/-- 0x0900 + i:0C VideoUsbPort HANDLE; access HAL:rw OWN:rw DBG:r; default /fj/usb/dn; IMMEDIATE. Video instances only (chapter 05) -/
abbrev instVideoUsbPort (i : Nat) : Nat := okey (0x900 + i) 0xC

/-- 0x0900 + i:0D Reserved OCT(14); access HAL:r OWN:r GST:r DBG:r; default zeros; IMMEDIATE. Reservations in force, laid out as RESERVE DATA (chapter 05) -/
abbrev instReserved (i : Nat) : Nat := okey (0x900 + i) 0xD

/-- 0x0900 + i:0E WorkInFlight U32; access HAL:r OWN:r GST:r DBG:r; default 0; IMMEDIATE. Ring items taken and not ended (chapter 05) -/
abbrev instWorkInFlight (i : Nat) : Nat := okey (0x900 + i) 0xE

/-- 0x0940:01 InstancesFree U8; access HAL:r OWN:r DBG:r; default 56; IMMEDIATE. ABSENT instances (chapter 05) -/
abbrev instancesFree : Nat := okey (0x940) 0x1

/-- 0x0940:02 QuiesceLimitMs U16; access HAL:rw OWN:rw others r; default 100; IMMEDIATE. 10 to 5,000 (chapter 05) -/
abbrev quiesceLimitMs : Nat := okey (0x940) 0x2

/-- 0x0940:03 RemoteHoldS U16; access HAL:rw OWN:rw others r; default 30; IMMEDIATE. 1 to 3,600 (chapter 05) -/
abbrev remoteHoldS : Nat := okey (0x940) 0x3

/-- 0x0940:04 ResizeGraceMs U16; access HAL:rw OWN:rw others r; default 500; IMMEDIATE. 0 to 10,000 (chapter 05) -/
abbrev resizeGraceMs : Nat := okey (0x940) 0x4

/-- 0x1000:01 InstalledGiB U8; access HAL:r ENS:r OWN:r GST:r DBG:r; default per code; IMMEDIATE. 16, 32 or 64 (chapter 06) -/
abbrev installedGiB : Nat := okey (0x1000) 0x1

/-- 0x1000:02 PeakMBps U32; access HAL:r ENS:r OWN:r GST:r DBG:r; default 273,056; IMMEDIATE. Peak DRAM rate (chapter 06) -/
abbrev peakMBps : Nat := okey (0x1000) 0x2

/-- 0x1000:03 AdmissibleMBps U32; access HAL:r ENS:r OWN:r GST:r DBG:r; default 160,000; IMMEDIATE. Guaranteed rate, fixed (chapter 06) -/
abbrev admissibleMBps : Nat := okey (0x1000) 0x3

/-- 0x1000:04 ScanReservedMBps U32; access HAL:rw OWN:rw ENS:r GST:r DBG:r; default 96,000; IMMEDIATE. SC-SCAN reserve (chapter 06) -/
abbrev scanReservedMBps : Nat := okey (0x1000) 0x4

/-- 0x1000:05 RtReservedMBps U32; access HAL:rw OWN:rw ENS:r GST:r DBG:r; default 24,000; IMMEDIATE. SC-RT reserve (chapter 06) -/
abbrev rtReservedMBps : Nat := okey (0x1000) 0x5

/-- 0x1000:06 BulkReservableMBps U32; access HAL:r ENS:r OWN:r GST:r DBG:r; default 40,000; IMMEDIATE. Derived under R150 (chapter 06) -/
abbrev bulkReservableMBps : Nat := okey (0x1000) 0x6

/-- 0x1000:07 DeclaredBulkMBps U32; access HAL:r ENS:r OWN:r GST:r DBG:r; default 40,000; IMMEDIATE. Present rank-4 guarantee (chapter 06) -/
abbrev declaredBulkMBps : Nat := okey (0x1000) 0x7

/-- 0x1000:08 BulkReservedMBps U32; access HAL:r ENS:r OWN:r GST:r DBG:r; default 0; IMMEDIATE. Sum of world reservations (chapter 06) -/
abbrev bulkReservedMBps : Nat := okey (0x1000) 0x8

/-- 0x1000:09 RetrainingMask U16; access HAL:r ENS:r OWN:r GST:r DBG:r; default 0; IMMEDIATE. Bit ch set while retraining (chapter 06) -/
abbrev retrainingMask : Nat := okey (0x1000) 0x9

/-- 0x1001:01 WaitLimit U8; access HAL:rw OWN:rw DBG:r; default 32; IMMEDIATE. 4 to 255 (chapter 06) -/
abbrev waitLimit : Nat := okey (0x1001) 0x1

/-- 0x1001:02 PromoCap U8; access HAL:rw OWN:rw DBG:r; default 3; IMMEDIATE. 0 to 3 (chapter 06) -/
abbrev promoCap : Nat := okey (0x1001) 0x2

/-- 0x1010 + c:01 AgeLimitUs U16; access HAL:rw OWN:rw DBG:r; default 2, 8, 32, 128; IMMEDIATE. Class c, 0 SC-ENS to 3 SC-BULK; 1 to 1,000 (chapter 06) -/
abbrev ageLimitUs (c : Nat) : Nat := okey (0x1010 + c) 0x1

/-- 0x1010 + c:02 QuotaGrants U8; access HAL:rw OWN:rw DBG:r; default 4, 40, 16; IMMEDIATE. Grants per 64; absent for c = 3 (chapter 06) -/
abbrev quotaGrants (c : Nat) : Nat := okey (0x1010 + c) 0x2

/-- 0x1020:01 ConcentrationPct U8; access HAL:rw OWN:rw DBG:r; default 25; IMMEDIATE. 10 to 100 (chapter 06) -/
abbrev concentrationPct : Nat := okey (0x1020) 0x1

/-- 0x1020:02 ConcentrationMinMBps U16; access HAL:rw OWN:rw DBG:r; default 100; IMMEDIATE. 10 to 10,000 (chapter 06) -/
abbrev concentrationMinMBps : Nat := okey (0x1020) 0x2

/-- 0x1030:01 RfmThreshold U16; access HAL:rw OWN:rw DBG:r; default 1,024; IMMEDIATE. 256 to 4,096 (chapter 06) -/
abbrev rfmThreshold : Nat := okey (0x1030) 0x1

/-- 0x1030:02 ThrottleAfter U8; access HAL:rw OWN:rw DBG:r; default 4; IMMEDIATE. 1 to 16 (chapter 06) -/
abbrev throttleAfter : Nat := okey (0x1030) 0x2

/-- 0x1030:03 ThrottleGapNs U16; access HAL:rw OWN:rw DBG:r; default 1,000; IMMEDIATE. 200 to 10,000 (chapter 06) -/
abbrev throttleGapNs : Nat := okey (0x1030) 0x3

/-- 0x1030:04 ThrottleMs U16; access HAL:rw OWN:rw DBG:r; default 32; IMMEDIATE. 8 to 1,000 (chapter 06) -/
abbrev throttleMs : Nat := okey (0x1030) 0x4

/-- 0x1030:05 RetrainDriftC U8; access HAL:rw OWN:rw DBG:r; default 10; IMMEDIATE. 4 to 30 °C (chapter 06) -/
abbrev retrainDriftC : Nat := okey (0x1030) 0x5

/-- 0x1040 + r:01 Class U8; access HAL:rw OWN:rw DBG:r; default per table; IMMEDIATE. Requester r, 0 to 47 (chapter 06) -/
abbrev reqClass (r : Nat) : Nat := okey (0x1040 + r) 0x1

/-- 0x1040 + r:02 ClassesAllowed U8; access HAL:r OWN:r DBG:r; default per table; IMMEDIATE. Bit c set when class c allowed (chapter 06) -/
abbrev reqClassesAllowed (r : Nat) : Nat := okey (0x1040 + r) 0x2

/-- 0x1040 + r:03 Grants U32; access HAL:r OWN:r DBG:r; default 0; IMMEDIATE. Modulo 2^32 (chapter 06) -/
abbrev reqGrants (r : Nat) : Nat := okey (0x1040 + r) 0x3

/-- 0x1040 + r:04 ForcedWins U32; access HAL:r OWN:r DBG:r; default 0; IMMEDIATE. Wins under R146, modulo 2^32 (chapter 06) -/
abbrev reqForcedWins (r : Nat) : Nat := okey (0x1040 + r) 0x4

/-- 0x1040 + r:05 Throttled BOOL; access HAL:r OWN:r DBG:r; default 0; IMMEDIATE. Under a row throttle (chapter 06) -/
abbrev reqThrottled (r : Nat) : Nat := okey (0x1040 + r) 0x5

/-- ch base:01 ChannelState U8; access HAL:r OWN:r DBG:r; default —; IMMEDIATE. 0 training, 1 serving, 2 retraining, 3 self-refresh (chapter 06) -/
abbrev dramChannelState (c : Nat) : Nat := okey (0x1100 + 0x10 * c) 0x1

/-- ch base:02 DramTempC S8; access HAL:r OWN:r DBG:r; default —; IMMEDIATE. DRAM temperature, °C (chapter 06) -/
abbrev dramTempC (c : Nat) : Nat := okey (0x1100 + 0x10 * c) 0x2

/-- ch base:03 IdleCloseNs U16; access HAL:rwc OWN:rwc DBG:r; default 120; PLAN. 0 to 2,000 (chapter 06) -/
abbrev dramIdleCloseNs (c : Nat) : Nat := okey (0x1100 + 0x10 * c) 0x3

/-- ch base:04 PredictorOn BOOL; access HAL:rwc OWN:rwc DBG:r; default 1; PLAN. R154 (chapter 06) -/
abbrev dramPredictorOn (c : Nat) : Nat := okey (0x1100 + 0x10 * c) 0x4

/-- ch base:05 EyeWidthPs U16; access HAL:r OWN:r DBG:r; default —; IMMEDIATE. Narrowest lane eye at last training (chapter 06) -/
abbrev dramEyeWidthPs (c : Nat) : Nat := okey (0x1100 + 0x10 * c) 0x5

/-- ch base:06 RetrainCount U32; access HAL:r OWN:r DBG:r; default 0; IMMEDIATE. Modulo 2^32 (chapter 06) -/
abbrev dramRetrainCount (c : Nat) : Nat := okey (0x1100 + 0x10 * c) 0x6

/-- ch base:07 LinkErrors U32; access HAL:r OWN:r DBG:r; default 0; IMMEDIATE. Modulo 2^32 (chapter 06) -/
abbrev dramLinkErrors (c : Nat) : Nat := okey (0x1100 + 0x10 * c) 0x7

/-- ch base:08 CorrectedErrors U32; access HAL:r OWN:r DBG:r; default 0; IMMEDIATE. Modulo 2^32 (chapter 06) -/
abbrev dramCorrectedErrors (c : Nat) : Nat := okey (0x1100 + 0x10 * c) 0x8

/-- ch base:09 RfmCount U32; access HAL:r OWN:r DBG:r; default 0; IMMEDIATE. Modulo 2^32 (chapter 06) -/
abbrev dramRfmCount (c : Nat) : Nat := okey (0x1100 + 0x10 * c) 0x9

/-- ch base:0A RemapUsed U8; access HAL:r OWN:r DBG:r; default 0; IMMEDIATE. 0 to 64 (chapter 06) -/
abbrev dramRemapUsed (c : Nat) : Nat := okey (0x1100 + 0x10 * c) 0xA

/-- ch base:0B LastTrainedAt TIME64; access HAL:r OWN:r DBG:r; default 0; IMMEDIATE. End of last training (chapter 06) -/
abbrev dramLastTrainedAt (c : Nat) : Nat := okey (0x1100 + 0x10 * c) 0xB

/-- 0x1300:01 RetiredPages U16; access HAL:r OWN:r DBG:r; default 0; IMMEDIATE. Pages retired since manufacture (chapter 06) -/
abbrev retiredPages : Nat := okey (0x1300) 0x1

/-- 0x2000:01 ClustersAlive U8; access HAL:r OWN:r DBG:r; default 24; IMMEDIATE. Clusters not DEAD (chapter 07) -/
abbrev clustersAlive : Nat := okey (0x2000) 0x1

/-- 0x2000:02 BinFaultTimeoutUs U32; access HAL:rwc OWN:rwc DBG:r; default 2,000; PASS. Bin-fault timeout, 100 to 100,000 µs (chapter 07) -/
abbrev binFaultTimeoutUs : Nat := okey (0x2000) 0x2

/-- 0x2000:03 L2RtWays U8; access HAL:rwc OWN:rwc DBG:r; default 4; PASS. L2 ways for flattening contexts, 0 to 8 (chapter 07) -/
abbrev l2RtWays : Nat := okey (0x2000) 0x3

/-- 0x2000:04 BinFaults U32; access HAL:r OWN:r DBG:r; default 0; IMMEDIATE. Bin faults raised, modulo 2^32 (chapter 07) -/
abbrev binFaults : Nat := okey (0x2000) 0x4

/-- 0x2000:05 PartialFlushes U32; access HAL:r OWN:r DBG:r; default 0; IMMEDIATE. Partial flushes, modulo 2^32 (chapter 07) -/
abbrev partialFlushes : Nat := okey (0x2000) 0x5

/-- 0x2000:06 PoolPeakKiB U32; access HAL:r OWN:r DBG:r; default 0; IMMEDIATE. Largest pool of any pass since start-up (chapter 07) -/
abbrev poolPeakKiB : Nat := okey (0x2000) 0x6

/-- 0x2000:07 MetaErrors U32; access HAL:r OWN:r DBG:r; default 0; IMMEDIATE. Cases under R199, modulo 2^32 (chapter 07) -/
abbrev metaErrors : Nat := okey (0x2000) 0x7

/-- 0x2100:01 ContextsInUse U16; access HAL:r OWN:r DBG:r; default 0; IMMEDIATE. Context IDs held (chapter 08) -/
abbrev contextsInUse : Nat := okey (0x2100) 0x1

/-- 0x2100:02 ShaderStepLimit U16; access HAL:r ENS:r OWN:r GST:r DBG:r; default 2,048; IMMEDIATE. Steps per invocation; fixed (chapter 08) -/
abbrev shaderStepLimit : Nat := okey (0x2100) 0x2

/-- 0x2100:03 TileGraceSteps U32; access HAL:rwc OWN:rwc DBG:r; default 20,000; PASS. 2,000 to 20,000 (chapter 08) -/
abbrev tileGraceSteps : Nat := okey (0x2100) 0x3

/-- 0x2100:04 PreemptSaveMBps U32; access HAL:r OWN:r DBG:r; default 8,000; IMMEDIATE. Part of RtReservedMBps (chapter 08) -/
abbrev preemptSaveMBps : Nat := okey (0x2100) 0x4

/-- 0x2100:05 TimeSliceUs U16; access HAL:rwc OWN:rwc DBG:r; default 2,000; PASS. 250 to 20,000 (chapter 08) -/
abbrev timeSliceUs : Nat := okey (0x2100) 0x5

/-- 0x2100:06 FenceWaitTimeoutMs U32; access HAL:rwc OWN:rwc DBG:r; default 5,000; PASS. 0 for none; else 10 to 600,000 (chapter 08) -/
abbrev fenceWaitTimeoutMs : Nat := okey (0x2100) 0x6

/-- 0x2100:07 PipelinesPerWorld U16; access HAL:r OWN:r GST:r DBG:r; default 4,096; IMMEDIATE. Handles per world (chapter 08) -/
abbrev pipelinesPerWorld : Nat := okey (0x2100) 0x7

/-- 0x2100:08 PreemptWorstNs U32; access HAL:r OWN:r DBG:r; default 0; IMMEDIATE. Longest preemption since start-up (chapter 08) -/
abbrev preemptWorstNs : Nat := okey (0x2100) 0x8

/-- 0x2110 + n:01 FlattenWorld U8; access HAL:rwc OWN:rwc others r; default 0; PASS. World running head n's flattening context (chapter 08) -/
abbrev flattenWorld (n : Nat) : Nat := okey (0x2110 + n) 0x1

/-- 0x2110 + n:02 FlattenInstance U8; access HAL:rwc OWN:rwc others r; default 0xFF; PASS. Instance, 0 to 47; 0xFF for Halyard (chapter 08) -/
abbrev flattenInstance (n : Nat) : Nat := okey (0x2110 + n) 0x2

/-- 0x2110 + n:03 FlattenRing U8; access HAL:rwc OWN:rwc others r; default 0; PASS. Renderer ring, 0 to 3 (chapter 08) -/
abbrev flattenRing (n : Nat) : Nat := okey (0x2110 + n) 0x3

/-- 0x2110 + n:04 FlattenStepsPerFrame U32; access HAL:rwc OWN:rwc others r; default 0; PASS. Admitted NIM k steps per frame (chapter 08) -/
abbrev flattenStepsPerFrame (n : Nat) : Nat := okey (0x2110 + n) 0x4

/-- 0x2110 + n:05 FlattenLate U32; access HAL:r OWN:r GST:r DBG:r; default 0; IMMEDIATE. Late presents, modulo 2^32 (chapter 08) -/
abbrev flattenLate (n : Nat) : Nat := okey (0x2110 + n) 0x5

/-- 0x2110 + n:06 FlattenLastFrame U32; access HAL:r OWN:r GST:r DBG:r; default 0; IMMEDIATE. Frame number of the last good surface (chapter 08) -/
abbrev flattenLastFrame (n : Nat) : Nat := okey (0x2110 + n) 0x6

/-- H:01 LayerMode U8; access HAL:rwc OWN:rwc ENS:r GST:r DBG:r; default 0; FRAME. 0 Mode G, 1 Mode V (chapter 09) -/
abbrev layerMode (n : Nat) : Nat := okey (0x3000 + 0x200 * n) 0x1

/-- H:02 BgColour U32; access HAL:rwc OWN:rwc ENS:r GST:r DBG:r; default 0; FRAME. R 29:20, G 19:10, B 9:0 (chapter 09) -/
abbrev bgColour (n : Nat) : Nat := okey (0x3000 + 0x200 * n) 0x2

/-- H:03 FlattenOn BOOL; access HAL:rwc OWN:rwc ENS:r GST:r DBG:r; default 0; FRAME. Layer 7 flattened (R235) (chapter 09) -/
abbrev flattenOn (n : Nat) : Nat := okey (0x3000 + 0x200 * n) 0x3

/-- H:04 FetchBudget U32; access HAL:r ENS:r OWN:r GST:r DBG:r; default —; IMMEDIATE. Bytes per frame (chapter 09) -/
abbrev fetchBudget (n : Nat) : Nat := okey (0x3000 + 0x200 * n) 0x4

/-- H:05 FetchAdmitted U32; access HAL:r ENS:r OWN:r GST:r DBG:r; default 0; IMMEDIATE. Counted bytes of the active configuration (chapter 09) -/
abbrev fetchAdmitted (n : Nat) : Nat := okey (0x3000 + 0x200 * n) 0x5

/-- H:06 FetchRateMBps U32; access HAL:r ENS:r OWN:r GST:r DBG:r; default 0; IMMEDIATE. FetchAdmitted × frame rate (chapter 09) -/
abbrev fetchRateMBps (n : Nat) : Nat := okey (0x3000 + 0x200 * n) 0x6

/-- H:07 ScalerQuality U8; access HAL:r ENS:r OWN:r GST:r DBG:r; default 0; IMMEDIATE. R224 (chapter 09) -/
abbrev scalerQuality (n : Nat) : Nat := okey (0x3000 + 0x200 * n) 0x7

/-- H:08 HeadBlanked U8; access HAL:r ENS:r OWN:r GST:r DBG:r; default 0; IMMEDIATE. 0 no, 1 shed, 2 hold-up (chapter 09) -/
abbrev headBlanked (n : Nat) : Nat := okey (0x3000 + 0x200 * n) 0x8

/-- H:09 ScanAdmittedMBps U32; access HAL:r ENS:r OWN:r GST:r DBG:r; default 0; IMMEDIATE. Device total, the same at every head (chapter 09) -/
abbrev scanAdmittedMBps (n : Nat) : Nat := okey (0x3000 + 0x200 * n) 0x9

/-- H:0A AcquireTimeoutMs U16; access HAL:rwc OWN:rwc ENS:r GST:r DBG:r; default 1,000; FRAME. 0 for none; else 50 to 60,000 (chapter 09) -/
abbrev acquireTimeoutMs (n : Nat) : Nat := okey (0x3000 + 0x200 * n) 0xA

/-- H+0x10+l:01 Enable BOOL; access HAL:rwc OWN:rwc ENS:r GST:r DBG:r; default 0; FRAME. Layer enabled (chapter 09) -/
abbrev layerEnable (n : Nat) (l : Nat) : Nat := okey (0x3010 + 0x200 * n + l) 0x1

/-- H+0x10+l:02 OwnerWorld U8; access HAL:rwc OWN:rwc ENS:r GST:r DBG:r; default 0; FRAME. 0, 2 or 4 to 63 (chapter 09) -/
abbrev layerOwnerWorld (n : Nat) (l : Nat) : Nat := okey (0x3010 + 0x200 * n + l) 0x2

/-- H+0x10+l:03 Format U8; access HAL:rwc OWN:rwc ENS:r GST:r DBG:r; default 0x01; FRAME. Layer format code (chapter 09) -/
abbrev layerFormat (n : Nat) (l : Nat) : Nat := okey (0x3010 + 0x200 * n + l) 0x3

/-- H+0x10+l:04–05 SrcWidth U16; access HAL:rwc OWN:rwc ENS:r GST:r DBG:r; default 0; FRAME. Source size, 1 to 16,384 (chapter 09) -/
abbrev layerSrcWidth (n : Nat) (l : Nat) : Nat := okey (0x3010 + 0x200 * n + l) 0x4

/-- H+0x10+l:04–05 SrcHeight U16; access HAL:rwc OWN:rwc ENS:r GST:r DBG:r; default 0; FRAME. Source size, 1 to 16,384 (chapter 09) -/
abbrev layerSrcHeight (n : Nat) (l : Nat) : Nat := okey (0x3010 + 0x200 * n + l) 0x5

/-- H+0x10+l:06–09 CropX U16; access HAL:rwc OWN:rwc ENS:r GST:r DBG:r; default 0; FRAME. Crop in the source (chapter 09) -/
abbrev layerCropX (n : Nat) (l : Nat) : Nat := okey (0x3010 + 0x200 * n + l) 0x6

/-- H+0x10+l:06–09 CropY U16; access HAL:rwc OWN:rwc ENS:r GST:r DBG:r; default 0; FRAME. Crop in the source (chapter 09) -/
abbrev layerCropY (n : Nat) (l : Nat) : Nat := okey (0x3010 + 0x200 * n + l) 0x7

/-- H+0x10+l:06–09 CropW U16; access HAL:rwc OWN:rwc ENS:r GST:r DBG:r; default 0; FRAME. Crop in the source (chapter 09) -/
abbrev layerCropW (n : Nat) (l : Nat) : Nat := okey (0x3010 + 0x200 * n + l) 0x8

/-- H+0x10+l:06–09 CropH U16; access HAL:rwc OWN:rwc ENS:r GST:r DBG:r; default 0; FRAME. Crop in the source (chapter 09) -/
abbrev layerCropH (n : Nat) (l : Nat) : Nat := okey (0x3010 + 0x200 * n + l) 0x9

/-- H+0x10+l:0A–0D DstX U16; access HAL:rwc OWN:rwc ENS:r GST:r DBG:r; default 0; FRAME. Destination in the active area (chapter 09) -/
abbrev layerDstX (n : Nat) (l : Nat) : Nat := okey (0x3010 + 0x200 * n + l) 0xA

/-- H+0x10+l:0A–0D DstY U16; access HAL:rwc OWN:rwc ENS:r GST:r DBG:r; default 0; FRAME. Destination in the active area (chapter 09) -/
abbrev layerDstY (n : Nat) (l : Nat) : Nat := okey (0x3010 + 0x200 * n + l) 0xB

/-- H+0x10+l:0A–0D DstW U16; access HAL:rwc OWN:rwc ENS:r GST:r DBG:r; default 0; FRAME. Destination in the active area (chapter 09) -/
abbrev layerDstW (n : Nat) (l : Nat) : Nat := okey (0x3010 + 0x200 * n + l) 0xC

/-- H+0x10+l:0A–0D DstH U16; access HAL:rwc OWN:rwc ENS:r GST:r DBG:r; default 0; FRAME. Destination in the active area (chapter 09) -/
abbrev layerDstH (n : Nat) (l : Nat) : Nat := okey (0x3010 + 0x200 * n + l) 0xD

/-- H+0x10+l:0E ZOrder U8; access HAL:rwc OWN:rwc ENS:r GST:r DBG:r; default l; FRAME. 0 to 7 (chapter 09) -/
abbrev layerZOrder (n : Nat) (l : Nat) : Nat := okey (0x3010 + 0x200 * n + l) 0xE

/-- H+0x10+l:0F GlobalAlpha U8; access HAL:rwc OWN:rwc ENS:r GST:r DBG:r; default 255; FRAME. g × 255 (chapter 09) -/
abbrev layerGlobalAlpha (n : Nat) (l : Nat) : Nat := okey (0x3010 + 0x200 * n + l) 0xF

/-- H+0x10+l:10 BlendMode U8; access HAL:rwc OWN:rwc ENS:r GST:r DBG:r; default 0; FRAME. 0 to 2 (chapter 09) -/
abbrev layerBlendMode (n : Nat) (l : Nat) : Nat := okey (0x3010 + 0x200 * n + l) 0x10

/-- H+0x10+l:11 ColourMatrix U8; access HAL:rwc OWN:rwc ENS:r GST:r DBG:r; default 1; FRAME. Bits 1:0 601, 709, 2020; bit 2 full range (chapter 09) -/
abbrev layerColourMatrix (n : Nat) (l : Nat) : Nat := okey (0x3010 + 0x200 * n + l) 0x11

/-- H+0x10+l:12 PoolKiB U32; access HAL:rwc OWN:rwc ENS:r GST:r DBG:r; default 0; FRAME. Scan-out pool size (chapter 09) -/
abbrev layerPoolKiB (n : Nat) (l : Nat) : Nat := okey (0x3010 + 0x200 * n + l) 0x12

/-- H+0x10+l:13 PoolGsa U64; access HAL:r ENS:r OWN:r GST:r DBG:r; default 0; IMMEDIATE. Pool's guest space address in the owner world (chapter 09) -/
abbrev layerPoolGsa (n : Nat) (l : Nat) : Nat := okey (0x3010 + 0x200 * n + l) 0x13

/-- H+0x10+l:14 LayerFetch U32; access HAL:r ENS:r OWN:r GST:r DBG:r; default 0; IMMEDIATE. Counted bytes of this layer (chapter 09) -/
abbrev layerFetch (n : Nat) (l : Nat) : Nat := okey (0x3010 + 0x200 * n + l) 0x14

/-- H+0x10+l:15 SourceRx U8; access HAL:rwc OWN:rwc ENS:r GST:r DBG:r; default 0xFF; FRAME. Receiver 0 to 7 feeding a video layer (chapter 09) -/
abbrev layerSourceRx (n : Nat) (l : Nat) : Nat := okey (0x3010 + 0x200 * n + l) 0x15

/-- H+0x10+l:16 ActiveSurface U64; access HAL:r ENS:r OWN:r GST:r DBG:r; default 0; IMMEDIATE. Descriptor address shown (chapter 09) -/
abbrev layerActiveSurface (n : Nat) (l : Nat) : Nat := okey (0x3010 + 0x200 * n + l) 0x16

/-- H+0x10+l:17 ActiveFlipEpoch U32; access HAL:r ENS:r OWN:r GST:r DBG:r; default 0; IMMEDIATE. Epoch of the group shown (chapter 09) -/
abbrev layerActiveFlipEpoch (n : Nat) (l : Nat) : Nat := okey (0x3010 + 0x200 * n + l) 0x17

/-- H+0x20:01–04 CoefH DOMAIN; access HAL:rwc OWN:rwc ENS:r GST:r DBG:r; default Lanczos; FRAME. Bands 0 to 3; 1,024 bytes each; both video layers (chapter 09) -/
abbrev coefH (n : Nat) (j : Nat) : Nat := okey (0x3020 + 0x200 * n) (0x1 + j)

/-- H+0x20:05–08 CoefV DOMAIN; access HAL:rwc OWN:rwc ENS:r GST:r DBG:r; default Lanczos; FRAME. Bands 0 to 3; 768 bytes each (chapter 09) -/
abbrev coefV (n : Nat) (j : Nat) : Nat := okey (0x3020 + 0x200 * n) (0x5 + j)

/-- H+0x30:01 ChainEnable U8; access HAL:rwc OWN:rwc ENS:r GST:r DBG:r; default 0x1F; FRAME. Bits 0 degamma, 1 3D LUT, 2 sunlight, 3 night, 4 gamma (chapter 09) -/
abbrev chainEnable (n : Nat) : Nat := okey (0x3030 + 0x200 * n) 0x1

/-- H+0x30:02 DegammaLut DOMAIN; access HAL:rwc OWN:rwc ENS:r GST:r DBG:r; default sRGB; FRAME. 1,542 bytes (chapter 09) -/
abbrev degammaLut (n : Nat) : Nat := okey (0x3030 + 0x200 * n) 0x2

/-- H+0x30:03 Lut3d DOMAIN; access HAL:rwc OWN:rwc ENS:r GST:r DBG:r; default identity; FRAME. 29,478 bytes (chapter 09) -/
abbrev lut3d (n : Nat) : Nat := okey (0x3030 + 0x200 * n) 0x3

/-- H+0x30:04 GammaLut DOMAIN; access HAL:rwc OWN:rwc ENS:r GST:r DBG:r; default sRGB; FRAME. 1,542 bytes (chapter 09) -/
abbrev gammaLut (n : Nat) : Nat := okey (0x3030 + 0x200 * n) 0x4

/-- H+0x30:05 DitherMode U8; access HAL:rwc OWN:rwc ENS:r GST:r DBG:r; default 2; FRAME. 0 to 2 (chapter 09) -/
abbrev ditherMode (n : Nat) : Nat := okey (0x3030 + 0x200 * n) 0x5

/-- H+0x40:01 SunSource U8; access HAL:rwc OWN:rwc ENS:r GST:r DBG:r; default 0; FRAME. 0 manual, 1 to 4 sensor port (chapter 09) -/
abbrev sunSource (n : Nat) : Nat := okey (0x3040 + 0x200 * n) 0x1

/-- H+0x40:02 SunManual U8; access HAL:rwc OWN:rwc ENS:r GST:r DBG:r; default 0; FRAME. k with SunSource 0 (chapter 09) -/
abbrev sunManual (n : Nat) : Nat := okey (0x3040 + 0x200 * n) 0x2

/-- H+0x40:03 SunCurve OCT(40); access HAL:rwc OWN:rwc ENS:r GST:r DBG:r; default k 0; FRAME. 8 points of lux and k (chapter 09) -/
abbrev sunCurve (n : Nat) : Nat := okey (0x3040 + 0x200 * n) 0x3

/-- H+0x40:04–05 SunLux U32; access HAL:r ENS:r OWN:r GST:r DBG:r; default 0; IMMEDIATE. Lux read; k in use (chapter 09) -/
abbrev sunLux (n : Nat) : Nat := okey (0x3040 + 0x200 * n) 0x4

/-- H+0x40:04–05 SunBoost U8; access HAL:r ENS:r OWN:r GST:r DBG:r; default 0; IMMEDIATE. Lux read; k in use (chapter 09) -/
abbrev sunBoost (n : Nat) : Nat := okey (0x3040 + 0x200 * n) 0x5

/-- H+0x50:01 NightPalette U8; access HAL:rwc OWN:rwc ENS:r GST:r DBG:r; default 0; FRAME. 0 to 3 (chapter 09) -/
abbrev nightPalette (n : Nat) : Nat := okey (0x3050 + 0x200 * n) 0x1

/-- H+0x50:02 DimLevel U8; access HAL:rwc OWN:rwc ENS:r GST:r DBG:r; default 63; FRAME. 0 to 63 (chapter 09) -/
abbrev dimLevel (n : Nat) : Nat := okey (0x3050 + 0x200 * n) 0x2

/-- H+0x50:03 NightMatrices OCT(72); access HAL:rwc OWN:rwc ENS:r GST:r DBG:r; default table; FRAME. Matrices 0 to 3; matrix 0 ignored on write (chapter 09) -/
abbrev nightMatrices (n : Nat) : Nat := okey (0x3050 + 0x200 * n) 0x3

/-- H+0x50:04 DimTable DOMAIN; access HAL:rwc OWN:rwc ENS:r GST:r DBG:r; default table; FRAME. 512 bytes (chapter 09) -/
abbrev dimTable (n : Nat) : Nat := okey (0x3050 + 0x200 * n) 0x4

/-- H+0x50:05–06 BacklightDuty U32; access HAL:r ENS:r OWN:r GST:r DBG:r; default —; IMMEDIATE. Duty in 0.001 %; palette set in use (chapter 09) -/
abbrev backlightDuty (n : Nat) : Nat := okey (0x3050 + 0x200 * n) 0x5

/-- H+0x50:05–06 EnsignSet U8; access HAL:r ENS:r OWN:r GST:r DBG:r; default —; IMMEDIATE. Duty in 0.001 %; palette set in use (chapter 09) -/
abbrev ensignSet (n : Nat) : Nat := okey (0x3050 + 0x200 * n) 0x6

/-- H+0x60+k:01 RegionUsed BOOL; access HAL:r ENS:r OWN:r GST:r DBG:r; default 0; IMMEDIATE. Region placed by the package (chapter 09) -/
abbrev regionUsed (n : Nat) (k : Nat) : Nat := okey (0x3060 + 0x200 * n + k) 0x1

/-- H+0x60+k:02–05 RegionX U16; access HAL:r ENS:r OWN:r GST:r DBG:r; default 0; IMMEDIATE. Geometry (chapter 09) -/
abbrev regionX (n : Nat) (k : Nat) : Nat := okey (0x3060 + 0x200 * n + k) 0x2

/-- H+0x60+k:02–05 RegionY U16; access HAL:r ENS:r OWN:r GST:r DBG:r; default 0; IMMEDIATE. Geometry (chapter 09) -/
abbrev regionY (n : Nat) (k : Nat) : Nat := okey (0x3060 + 0x200 * n + k) 0x3

/-- H+0x60+k:02–05 RegionW U16; access HAL:r ENS:r OWN:r GST:r DBG:r; default 0; IMMEDIATE. Geometry (chapter 09) -/
abbrev regionW (n : Nat) (k : Nat) : Nat := okey (0x3060 + 0x200 * n + k) 0x4

/-- H+0x60+k:02–05 RegionH U16; access HAL:r ENS:r OWN:r GST:r DBG:r; default 0; IMMEDIATE. Geometry (chapter 09) -/
abbrev regionH (n : Nat) (k : Nat) : Nat := okey (0x3060 + 0x200 * n + k) 0x5

/-- H+0x60+k:06 RegionLive BOOL; access HAL:r ENS:r OWN:r GST:r DBG:r; default 0; IMMEDIATE. Declared live (chapter 09) -/
abbrev regionLive (n : Nat) (k : Nat) : Nat := okey (0x3060 + 0x200 * n + k) 0x6

/-- H+0x60+k:07 PageShown U16; access HAL:r ENS:r OWN:r GST:r DBG:r; default 0; IMMEDIATE. Page in the front buffer (chapter 09) -/
abbrev pageShown (n : Nat) (k : Nat) : Nat := okey (0x3060 + 0x200 * n + k) 0x7

/-- H+0x60+k:08 LastSwapFrame U32; access HAL:r ENS:r OWN:r GST:r DBG:r; default 0; IMMEDIATE. Head frame of the last swap (chapter 09) -/
abbrev lastSwapFrame (n : Nat) (k : Nat) : Nat := okey (0x3060 + 0x200 * n + k) 0x8

/-- H+0x70:01–05 FlipsApplied U32; access HAL:r OWN:r DBG:r; default 0; IMMEDIATE. Modulo 2^32 (chapter 09) -/
abbrev flipsApplied (n : Nat) : Nat := okey (0x3070 + 0x200 * n) 0x1

/-- H+0x70:01–05 FlipsWaited U32; access HAL:r OWN:r DBG:r; default 0; IMMEDIATE. Modulo 2^32 (chapter 09) -/
abbrev flipsWaited (n : Nat) : Nat := okey (0x3070 + 0x200 * n) 0x2

/-- H+0x70:01–05 FlipsRefused U32; access HAL:r OWN:r DBG:r; default 0; IMMEDIATE. Modulo 2^32 (chapter 09) -/
abbrev flipsRefused (n : Nat) : Nat := okey (0x3070 + 0x200 * n) 0x3

/-- H+0x70:01–05 LayerFaults U32; access HAL:r OWN:r DBG:r; default 0; IMMEDIATE. Modulo 2^32 (chapter 09) -/
abbrev layerFaults (n : Nat) : Nat := okey (0x3070 + 0x200 * n) 0x4

/-- H+0x70:01–05 FetchLate U32; access HAL:r OWN:r DBG:r; default 0; IMMEDIATE. Modulo 2^32 (chapter 09) -/
abbrev fetchLate (n : Nat) : Nat := okey (0x3070 + 0x200 * n) 0x5

/-- 0x4F00:01 PackageVersion U32; access HAL:r ENS:r OWN:r GST:r DBG:r; default 0; IMMEDIATE. VERSION in force; 0 for none (chapter 09) -/
abbrev packageVersion : Nat := okey (0x4F00) 0x1

/-- 0x4F00:02 PackageState U8; access HAL:r ENS:r OWN:r GST:r DBG:r; default 0; IMMEDIATE. 0 none, 1 active, 2 verified and staged, 3 switching (chapter 09) -/
abbrev packageState : Nat := okey (0x4F00) 0x2

/-- 0x4F00:03 SramUsed U32; access HAL:r ENS:r OWN:r GST:r DBG:r; default 0; IMMEDIATE. Bytes of region buffers and assets (chapter 09) -/
abbrev sramUsed : Nat := okey (0x4F00) 0x3

/-- 0x4F01:01 PackageStage DOMAIN; access HAL:w OWN:w; default —; IMMEDIATE. Up to 8 MiB (chapter 09) -/
abbrev packageStage : Nat := okey (0x4F01) 0x1

/-- 0x4F01:02 PackageOp U8; access HAL:w OWN:w; default —; IMMEDIATE. 1 verify, 2 activate, 3 discard staged (chapter 09) -/
abbrev packageOp : Nat := okey (0x4F01) 0x2

/-- 0x4F01:03 PackageStatus U16; access HAL:r OWN:r DBG:r; default 0x0000; IMMEDIATE. Result of the last PackageOp (chapter 09) -/
abbrev packageStatus : Nat := okey (0x4F01) 0x3

/-- 0x4F01:04 PackageDetail U32; access HAL:r OWN:r DBG:r; default 0; IMMEDIATE. Section in 31:16, record in 15:0 (chapter 09) -/
abbrev packageDetail : Nat := okey (0x4F01) 0x4

/-- 0x4F02:01–04 Bindings U16; access HAL:r ENS:r OWN:r DBG:r; default 0; IMMEDIATE. Present counts (chapter 09) -/
abbrev bindings : Nat := okey (0x4F02) 0x1

/-- 0x4F02:01–04 BindingsStale U16; access HAL:r ENS:r OWN:r DBG:r; default 0; IMMEDIATE. Present counts (chapter 09) -/
abbrev bindingsStale : Nat := okey (0x4F02) 0x2

/-- 0x4F02:01–04 AlarmsActive U16; access HAL:r ENS:r OWN:r DBG:r; default 0; IMMEDIATE. Present counts (chapter 09) -/
abbrev alarmsActive : Nat := okey (0x4F02) 0x3

/-- 0x4F02:01–04 AlarmsUnacked U16; access HAL:r ENS:r OWN:r DBG:r; default 0; IMMEDIATE. Present counts (chapter 09) -/
abbrev alarmsUnacked : Nat := okey (0x4F02) 0x4

/-- H+0xFF:01–02 ScanoutBase U16; access HAL:r ENS:r OWN:r GST:r DBG:r; default S; IMMEDIATE. Scan-out range of the head (R252) (chapter 10) -/
abbrev scanoutBase (n : Nat) : Nat := okey (0x30FF + 0x200 * n) 0x1

/-- H+0xFF:01–02 ScanoutCount U16; access HAL:r ENS:r OWN:r GST:r DBG:r; default 0x40; IMMEDIATE. Scan-out range of the head (R252) (chapter 10) -/
abbrev scanoutCount (n : Nat) : Nat := okey (0x30FF + 0x200 * n) 0x2

/-- S:01 PortMode U8; access HAL:rwc OWN:rwc ENS:r GST:r DBG:r; default 3; FRAME. 0 single, 1 split, 2 mirror, 3 off (chapter 10) -/
abbrev portMode (n : Nat) : Nat := okey (0x4000 + 0x100 * n) 0x1

/-- S:02 PixelClockKhz U32; access HAL:rwc OWN:rwc ENS:r GST:r DBG:r; default 0; FRAME. 25,000 to 1,200,000 (chapter 10) -/
abbrev pixelClockKhz (n : Nat) : Nat := okey (0x4000 + 0x100 * n) 0x2

/-- S:03–06 HActive U16; access HAL:rwc OWN:rwc ENS:r GST:r DBG:r; default 0; FRAME. Whole panel, pixels (chapter 10) -/
abbrev hActive (n : Nat) : Nat := okey (0x4000 + 0x100 * n) 0x3

/-- S:03–06 HFrontPorch U16; access HAL:rwc OWN:rwc ENS:r GST:r DBG:r; default 0; FRAME. Whole panel, pixels (chapter 10) -/
abbrev hFrontPorch (n : Nat) : Nat := okey (0x4000 + 0x100 * n) 0x4

/-- S:03–06 HSync U16; access HAL:rwc OWN:rwc ENS:r GST:r DBG:r; default 0; FRAME. Whole panel, pixels (chapter 10) -/
abbrev hSync (n : Nat) : Nat := okey (0x4000 + 0x100 * n) 0x5

/-- S:03–06 HBackPorch U16; access HAL:rwc OWN:rwc ENS:r GST:r DBG:r; default 0; FRAME. Whole panel, pixels (chapter 10) -/
abbrev hBackPorch (n : Nat) : Nat := okey (0x4000 + 0x100 * n) 0x6

/-- S:07–0A VActive U16; access HAL:rwc OWN:rwc ENS:r GST:r DBG:r; default 0; FRAME. Lines (chapter 10) -/
abbrev vActive (n : Nat) : Nat := okey (0x4000 + 0x100 * n) 0x7

/-- S:07–0A VFrontPorch U16; access HAL:rwc OWN:rwc ENS:r GST:r DBG:r; default 0; FRAME. Lines (chapter 10) -/
abbrev vFrontPorch (n : Nat) : Nat := okey (0x4000 + 0x100 * n) 0x8

/-- S:07–0A VSync U16; access HAL:rwc OWN:rwc ENS:r GST:r DBG:r; default 0; FRAME. Lines (chapter 10) -/
abbrev vSync (n : Nat) : Nat := okey (0x4000 + 0x100 * n) 0x9

/-- S:07–0A VBackPorch U16; access HAL:rwc OWN:rwc ENS:r GST:r DBG:r; default 0; FRAME. Lines (chapter 10) -/
abbrev vBackPorch (n : Nat) : Nat := okey (0x4000 + 0x100 * n) 0xA

/-- S:0B SyncPolarity U8; access HAL:rwc OWN:rwc ENS:r GST:r DBG:r; default 0; FRAME. Bit 0 HSync negative, bit 1 VSync negative (chapter 10) -/
abbrev syncPolarity (n : Nat) : Nat := okey (0x4000 + 0x100 * n) 0xB

/-- S:0C PanelDepth U8; access HAL:rwc OWN:rwc ENS:r GST:r DBG:r; default 8; FRAME. 6, 8 or 10 (chapter 10) -/
abbrev panelDepth (n : Nat) : Nat := okey (0x4000 + 0x100 * n) 0xC

/-- S:0D CommitLineOffset U16; access HAL:rwc OWN:rwc ENS:r GST:r DBG:r; default 0; FRAME. Lines after the last active line (R258) (chapter 10) -/
abbrev commitLineOffset (n : Nat) : Nat := okey (0x4000 + 0x100 * n) 0xD

/-- S:0E SplitSameRate BOOL; access HAL:rwc OWN:rwc ENS:r GST:r DBG:r; default 1; FRAME. R261 (chapter 10) -/
abbrev splitSameRate (n : Nat) : Nat := okey (0x4000 + 0x100 * n) 0xE

/-- S+0x01:01 FrameLockSource U8; access HAL:rwc OWN:rwc ENS:r GST:r DBG:r; default 0; FRAME. 0 free, 1 hoist time, 2 head, 3 TE (chapter 10) -/
abbrev frameLockSource (n : Nat) : Nat := okey (0x4001 + 0x100 * n) 0x1

/-- S+0x01:02 LockHead U8; access HAL:rwc OWN:rwc ENS:r GST:r DBG:r; default 0; FRAME. Leader for source 2 (chapter 10) -/
abbrev lockHead (n : Nat) : Nat := okey (0x4001 + 0x100 * n) 0x2

/-- S+0x01:03 LockPhaseNs U32; access HAL:rwc OWN:rwc ENS:r GST:r DBG:r; default 0; FRAME. Phase of the commit line (chapter 10) -/
abbrev lockPhaseNs (n : Nat) : Nat := okey (0x4001 + 0x100 * n) 0x3

/-- S+0x01:04 LockPeriodPs U64; access HAL:rwc OWN:rwc ENS:r GST:r DBG:r; default 0; FRAME. Grid period for source 1 (chapter 10) -/
abbrev lockPeriodPs (n : Nat) : Nat := okey (0x4001 + 0x100 * n) 0x4

/-- S+0x01:05 LockJump BOOL; access HAL:rwc OWN:rwc ENS:r GST:r DBG:r; default 1; FRAME. R264 (chapter 10) -/
abbrev lockJump (n : Nat) : Nat := okey (0x4001 + 0x100 * n) 0x5

/-- S+0x01:06 LockState U8; access HAL:r ENS:r OWN:r GST:r DBG:r; default 0; IMMEDIATE. 0 free, 1 pulling, 2 locked, 3 holdover (chapter 10) -/
abbrev lockState (n : Nat) : Nat := okey (0x4001 + 0x100 * n) 0x6

/-- S+0x01:07 LockErrorNs S32; access HAL:r ENS:r OWN:r GST:r DBG:r; default 0; IMMEDIATE. Commit line minus target (chapter 10) -/
abbrev lockErrorNs (n : Nat) : Nat := okey (0x4001 + 0x100 * n) 0x7

/-- S+0x01:08 ClockTrim S16; access HAL:r ENS:r OWN:r GST:r DBG:r; default 0; IMMEDIATE. Pixel clock trim, 0.1 ppm (chapter 10) -/
abbrev clockTrim (n : Nat) : Nat := okey (0x4001 + 0x100 * n) 0x8

/-- S+0x02:01 StratusEnable BOOL; access HAL:rwc OWN:rwc ENS:r GST:r DBG:r; default 0; FRAME. R270 (chapter 10) -/
abbrev stratusEnable (n : Nat) : Nat := okey (0x4002 + 0x100 * n) 0x1

/-- S+0x02:02 StratusIdleFrames U8; access HAL:rwc OWN:rwc ENS:r GST:r DBG:r; default 2; FRAME. 1 to 60 (chapter 10) -/
abbrev stratusIdleFrames (n : Nat) : Nat := okey (0x4002 + 0x100 * n) 0x2

/-- S+0x02:03 StratusLinkOff BOOL; access HAL:rwc OWN:rwc ENS:r GST:r DBG:r; default 0; FRAME. Main link off while held (chapter 10) -/
abbrev stratusLinkOff (n : Nat) : Nat := okey (0x4002 + 0x100 * n) 0x3

/-- S+0x02:04 StratusSuMaxPct U8; access HAL:rwc OWN:rwc ENS:r GST:r DBG:r; default 25; FRAME. 0 to 100; 0 disables selective update (chapter 10) -/
abbrev stratusSuMaxPct (n : Nat) : Nat := okey (0x4002 + 0x100 * n) 0x4

/-- S+0x02:05 StratusState U8; access HAL:r ENS:r OWN:r GST:r DBG:r; default 0; IMMEDIATE. 0 scanning, 1 capture frame, 2 held (chapter 10) -/
abbrev stratusState (n : Nat) : Nat := okey (0x4002 + 0x100 * n) 0x5

/-- S+0x02:06 StratusEntries U32; access HAL:r ENS:r OWN:r GST:r DBG:r; default 0; IMMEDIATE. Modulo 2^32 (chapter 10) -/
abbrev stratusEntries (n : Nat) : Nat := okey (0x4002 + 0x100 * n) 0x6

/-- S+0x03:01 TeUse U8; access HAL:rwc OWN:rwc ENS:r GST:r DBG:r; default 0; FRAME. 0 ignore, 1 event, 2 event and alignment (chapter 10) -/
abbrev teUse (n : Nat) : Nat := okey (0x4003 + 0x100 * n) 0x1

/-- S+0x03:02 TeEdge U8; access HAL:rwc OWN:rwc ENS:r GST:r DBG:r; default 0; FRAME. 0 rising, 1 falling (chapter 10) -/
abbrev teEdge (n : Nat) : Nat := okey (0x4003 + 0x100 * n) 0x2

/-- S+0x03:03–04 TeCount U32; access HAL:r ENS:r OWN:r GST:r DBG:r; default 0; IMMEDIATE. R274 (chapter 10) -/
abbrev teCount (n : Nat) : Nat := okey (0x4003 + 0x100 * n) 0x3

/-- S+0x03:03–04 TeLastTime TIME64; access HAL:r ENS:r OWN:r GST:r DBG:r; default 0; IMMEDIATE. R274 (chapter 10) -/
abbrev teLastTime (n : Nat) : Nat := okey (0x4003 + 0x100 * n) 0x4

/-- S+0x04:01 PwmHz U32; access HAL:rwc OWN:rwc ENS:r GST:r DBG:r; default 20,000; FRAME. 200 to 50,000 (chapter 10) -/
abbrev pwmHz (n : Nat) : Nat := okey (0x4004 + 0x100 * n) 0x1

/-- S+0x04:02 PanelOnMs U16; access HAL:rwc OWN:rwc ENS:r GST:r DBG:r; default 200; FRAME. 0 to 2,000 (chapter 10) -/
abbrev panelOnMs (n : Nat) : Nat := okey (0x4004 + 0x100 * n) 0x2

/-- S+0x04:03 BacklightDelayMs U16; access HAL:rwc OWN:rwc ENS:r GST:r DBG:r; default 50; FRAME. 0 to 2,000 (chapter 10) -/
abbrev backlightDelayMs (n : Nat) : Nat := okey (0x4004 + 0x100 * n) 0x3

/-- S+0x04:04–05 PanelFault BOOL; access HAL:r ENS:r OWN:r GST:r DBG:r; default 0; IMMEDIATE. Input and output levels (chapter 10) -/
abbrev panelFault (n : Nat) : Nat := okey (0x4004 + 0x100 * n) 0x4

/-- S+0x04:04–05 PanelEnableOut BOOL; access HAL:r ENS:r OWN:r GST:r DBG:r; default 0; IMMEDIATE. Input and output levels (chapter 10) -/
abbrev panelEnableOut (n : Nat) : Nat := okey (0x4004 + 0x100 * n) 0x5

/-- S+0x05:01 HeadState U8; access HAL:r ENS:r OWN:r GST:r DBG:r; default 0; IMMEDIATE. 0 OFF, 1 LIT, 2 PARTIAL, 3 DARK (chapter 10) -/
abbrev headState (n : Nat) : Nat := okey (0x4005 + 0x100 * n) 0x1

/-- S+0x05:02 HeadFrame U32; access HAL:r ENS:r OWN:r GST:r DBG:r; default 0; IMMEDIATE. Frame sequence number (R259) (chapter 10) -/
abbrev headFrame (n : Nat) : Nat := okey (0x4005 + 0x100 * n) 0x2

/-- S+0x05:03 ScanLine U16; access HAL:r ENS:r OWN:r GST:r DBG:r; default 0; IMMEDIATE. Line being sent (chapter 10) -/
abbrev scanLine (n : Nat) : Nat := okey (0x4005 + 0x100 * n) 0x3

/-- S+0x05:04 FrameRateMhz U32; access HAL:r ENS:r OWN:r GST:r DBG:r; default 0; IMMEDIATE. FrameRate, mHz (chapter 10) -/
abbrev frameRateMhz (n : Nat) : Nat := okey (0x4005 + 0x100 * n) 0x4

/-- S+0x05:05 LineTimePs U32; access HAL:r ENS:r OWN:r GST:r DBG:r; default 0; IMMEDIATE. LineTime, ps (chapter 10) -/
abbrev lineTimePs (n : Nat) : Nat := okey (0x4005 + 0x100 * n) 0x5

/-- S+0x05:06 CommitLeadLines U16; access HAL:r ENS:r OWN:r GST:r DBG:r; default 4; IMMEDIATE. R258 (chapter 10) -/
abbrev commitLeadLines (n : Nat) : Nat := okey (0x4005 + 0x100 * n) 0x6

/-- S+0x05:07 DevicePixelKhz U32; access HAL:r ENS:r OWN:r GST:r DBG:r; default 0; IMMEDIATE. Sum of PixelClockKhz over heads not off (chapter 10) -/
abbrev devicePixelKhz (n : Nat) : Nat := okey (0x4005 + 0x100 * n) 0x7

/-- S+0x05:08 DarkReason U8; access HAL:r ENS:r OWN:r GST:r DBG:r; default 0; IMMEDIATE. 0 none, 1 unplugged, 2 training, 3 panel fault, 4 mode change, 5 link lost (chapter 10) -/
abbrev darkReason (n : Nat) : Nat := okey (0x4005 + 0x100 * n) 0x8

/-- T:01 LaneCount U8; access HAL:rwc OWN:rwc ENS:r GST:r DBG:r; default 4; FRAME. 1, 2 or 4 (chapter 10) -/
abbrev laneCount (p : Nat) : Nat := okey (0x4040 + 0x100 * (p / 2) + 0x20 * (p % 2)) 0x1

/-- T:02 LinkRateMbps U16; access HAL:rwc OWN:rwc ENS:r GST:r DBG:r; default 8,100; FRAME. 1,620, 2,700, 5,400 or 8,100 (chapter 10) -/
abbrev linkRateMbps (p : Nat) : Nat := okey (0x4040 + 0x100 * (p / 2) + 0x20 * (p % 2)) 0x2

/-- T:03 DscBpp16 U16; access HAL:rwc OWN:rwc ENS:r GST:r DBG:r; default 0; FRAME. 0 off; else R256 (chapter 10) -/
abbrev dscBpp16 (p : Nat) : Nat := okey (0x4040 + 0x100 * (p / 2) + 0x20 * (p % 2)) 0x3

/-- T:04 Assr BOOL; access HAL:rwc OWN:rwc ENS:r GST:r DBG:r; default 1; FRAME. eDP sinks only (chapter 10) -/
abbrev assr (p : Nat) : Nat := okey (0x4040 + 0x100 * (p / 2) + 0x20 * (p % 2)) 0x4

/-- T+0x01:01 PortState U8; access HAL:r ENS:r OWN:r GST:r DBG:r; default 0; IMMEDIATE. 0 unplugged, 1 reading sink, 2 training, 3 lit, 4 dark (chapter 10) -/
abbrev portState (p : Nat) : Nat := okey (0x4041 + 0x100 * (p / 2) + 0x20 * (p % 2)) 0x1

/-- T+0x01:02 SinkKind U8; access HAL:r ENS:r OWN:r GST:r DBG:r; default 0; IMMEDIATE. 0 none, 1 DP, 2 eDP (chapter 10) -/
abbrev sinkKind (p : Nat) : Nat := okey (0x4041 + 0x100 * (p / 2) + 0x20 * (p % 2)) 0x2

/-- T+0x01:03–04 TrainedLanes U8; access HAL:r ENS:r OWN:r GST:r DBG:r; default 0; IMMEDIATE. Setting in use (chapter 10) -/
abbrev trainedLanes (p : Nat) : Nat := okey (0x4041 + 0x100 * (p / 2) + 0x20 * (p % 2)) 0x3

/-- T+0x01:03–04 TrainedRateMbps U16; access HAL:r ENS:r OWN:r GST:r DBG:r; default 0; IMMEDIATE. Setting in use (chapter 10) -/
abbrev trainedRateMbps (p : Nat) : Nat := okey (0x4041 + 0x100 * (p / 2) + 0x20 * (p % 2)) 0x4

/-- T+0x01:05 TrainOutcome U8; access HAL:r ENS:r OWN:r GST:r DBG:r; default 0; IMMEDIATE. Outcome code (chapter 10) -/
abbrev trainOutcome (p : Nat) : Nat := okey (0x4041 + 0x100 * (p / 2) + 0x20 * (p % 2)) 0x5

/-- T+0x01:06 SinkCaps U32; access HAL:r ENS:r OWN:r GST:r DBG:r; default 0; IMMEDIATE. Bit 0 DSC, 1 self refresh, 2 selective update, 3 ASSR (chapter 10) -/
abbrev sinkCaps (p : Nat) : Nat := okey (0x4041 + 0x100 * (p / 2) + 0x20 * (p % 2)) 0x6

/-- T+0x01:07 SuGranularity U8; access HAL:r ENS:r OWN:r GST:r DBG:r; default 0; IMMEDIATE. Lines (chapter 10) -/
abbrev suGranularity (p : Nat) : Nat := okey (0x4041 + 0x100 * (p / 2) + 0x20 * (p % 2)) 0x7

/-- T+0x01:08–09 HpdEvents U32; access HAL:r ENS:r OWN:r GST:r DBG:r; default 0; IMMEDIATE. Modulo 2^32 (chapter 10) -/
abbrev hpdEvents (p : Nat) : Nat := okey (0x4041 + 0x100 * (p / 2) + 0x20 * (p % 2)) 0x8

/-- T+0x01:08–09 Retrains U32; access HAL:r ENS:r OWN:r GST:r DBG:r; default 0; IMMEDIATE. Modulo 2^32 (chapter 10) -/
abbrev retrains (p : Nat) : Nat := okey (0x4041 + 0x100 * (p / 2) + 0x20 * (p % 2)) 0x9

/-- T+0x02:01 SinkEdid DOMAIN; access HAL:r ENS:r OWN:r GST:r DBG:r; default —; IMMEDIATE. Up to 512 bytes (chapter 10) -/
abbrev sinkEdid (p : Nat) : Nat := okey (0x4042 + 0x100 * (p / 2) + 0x20 * (p % 2)) 0x1

/-- X:01 RxEdid DOMAIN; access HAL:rwc OWN:rwc ENS:r GST:r DBG:r; default Acdon EDID: 1,920 × 1,080 at 60 Hz, 1,280 × 720 at 60 Hz, 2-channel LPCM at 48 kHz; FRAME. 128 to 512 bytes (chapter 10) -/
abbrev rxEdid (n : Nat) : Nat := okey (0x4080 + 0x100 * n) 0x1

/-- X:02–03 RxMaxLanes U8; access HAL:rwc OWN:rwc ENS:r GST:r DBG:r; default 4; FRAME. Offered to the source (chapter 10) -/
abbrev rxMaxLanes (n : Nat) : Nat := okey (0x4080 + 0x100 * n) 0x2

/-- X:02–03 RxMaxRateMbps U16; access HAL:rwc OWN:rwc ENS:r GST:r DBG:r; default 8,100; FRAME. Offered to the source (chapter 10) -/
abbrev rxMaxRateMbps (n : Nat) : Nat := okey (0x4080 + 0x100 * n) 0x3

/-- X:04 RxHoldMs U16; access HAL:rwc OWN:rwc ENS:r GST:r DBG:r; default 500; FRAME. 0 to 10,000 (chapter 10) -/
abbrev rxHoldMs (n : Nat) : Nat := okey (0x4080 + 0x100 * n) 0x4

/-- X:05 RxEnable BOOL; access HAL:rwc OWN:rwc ENS:r GST:r DBG:r; default 1; FRAME. R281 (chapter 10) -/
abbrev rxEnable (n : Nat) : Nat := okey (0x4080 + 0x100 * n) 0x5

/-- X+0x01:01 RxState U8; access HAL:r ENS:r OWN:r GST:r DBG:r; default 0; IMMEDIATE. 0 no source, 1 training, 2 receiving, 3 size mismatch (chapter 10) -/
abbrev rxState (n : Nat) : Nat := okey (0x4081 + 0x100 * n) 0x1

/-- X+0x01:02–03 RxWidth U16; access HAL:r ENS:r OWN:r GST:r DBG:r; default 0; IMMEDIATE. Incoming active size (chapter 10) -/
abbrev rxWidth (n : Nat) : Nat := okey (0x4081 + 0x100 * n) 0x2

/-- X+0x01:02–03 RxHeight U16; access HAL:r ENS:r OWN:r GST:r DBG:r; default 0; IMMEDIATE. Incoming active size (chapter 10) -/
abbrev rxHeight (n : Nat) : Nat := okey (0x4081 + 0x100 * n) 0x3

/-- X+0x01:04–05 RxRateMhz U32; access HAL:r ENS:r OWN:r GST:r DBG:r; default 0; IMMEDIATE. Incoming frame rate, mHz; pixel clock (chapter 10) -/
abbrev rxRateMhz (n : Nat) : Nat := okey (0x4081 + 0x100 * n) 0x4

/-- X+0x01:04–05 RxPixelKhz U32; access HAL:r ENS:r OWN:r GST:r DBG:r; default 0; IMMEDIATE. Incoming frame rate, mHz; pixel clock (chapter 10) -/
abbrev rxPixelKhz (n : Nat) : Nat := okey (0x4081 + 0x100 * n) 0x5

/-- X+0x01:06 RxColour U8; access HAL:r ENS:r OWN:r GST:r DBG:r; default 0; IMMEDIATE. Bits 3:0: 0 RGB, 1 4:4:4, 2 4:2:2, 3 4:2:0; bits 7:4: bits per component (chapter 10) -/
abbrev rxColour (n : Nat) : Nat := okey (0x4081 + 0x100 * n) 0x6

/-- X+0x01:07–09 RxFramesWritten U32; access HAL:r ENS:r OWN:r GST:r DBG:r; default 0; IMMEDIATE. Modulo 2^32 (chapter 10) -/
abbrev rxFramesWritten (n : Nat) : Nat := okey (0x4081 + 0x100 * n) 0x7

/-- X+0x01:07–09 RxFramesDropped U32; access HAL:r ENS:r OWN:r GST:r DBG:r; default 0; IMMEDIATE. Modulo 2^32 (chapter 10) -/
abbrev rxFramesDropped (n : Nat) : Nat := okey (0x4081 + 0x100 * n) 0x8

/-- X+0x01:07–09 RxFramesRepeated U32; access HAL:r ENS:r OWN:r GST:r DBG:r; default 0; IMMEDIATE. Modulo 2^32 (chapter 10) -/
abbrev rxFramesRepeated (n : Nat) : Nat := okey (0x4081 + 0x100 * n) 0x9

/-- X+0x02:01 RxMaxPixelKhz U32; access HAL:r ENS:r OWN:r GST:r DBG:r; default 148,500; IMMEDIATE. Derived from RxEdid (chapter 10) -/
abbrev rxMaxPixelKhz (n : Nat) : Nat := okey (0x4082 + 0x100 * n) 0x1

/-- I:01 FallbackChain U32; access HAL:rwc OWN:rwc ENS:r GST:r DBG:r; default 0xFFFF_FFFF; FRAME. Heads in bytes 0 to 2, in order; 0xFF unused; byte 3 0xFF (chapter 11) -/
abbrev fallbackChain (n : Nat) : Nat := okey (0x4800 + 0x80 * n) 0x1

/-- I:02 FallbackRegion U8; access HAL:rwc OWN:rwc ENS:r GST:r DBG:r; default 0; FRAME. Own Ensign region that takes pages (chapter 11) -/
abbrev fallbackRegion (n : Nat) : Nat := okey (0x4800 + 0x80 * n) 0x2

/-- I:03 TakenOver U8; access HAL:r ENS:r OWN:r GST:r DBG:r; default 0; IMMEDIATE. Bit h set while pages of head h are shown here (chapter 11) -/
abbrev takenOver (n : Nat) : Nat := okey (0x4800 + 0x80 * n) 0x3

/-- I:04 CarriedBy U8; access HAL:r ENS:r OWN:r GST:r DBG:r; default 0xFF; IMMEDIATE. Head showing this head's pages; 0xFF for none (chapter 11) -/
abbrev carriedBy (n : Nat) : Nat := okey (0x4800 + 0x80 * n) 0x4

/-- I+0x10+k:01 RegionKind U8; access HAL:r ENS:r OWN:r GST:r DBG:r; default 0; IMMEDIATE. 0 off, 1 owner, 2 Ensign (chapter 11) -/
abbrev sigRegionKind (n : Nat) (k : Nat) : Nat := okey (0x4810 + 0x80 * n + k) 0x1

/-- I+0x10+k:02 OwnerEnable BOOL; access HAL:rwc OWN:rwc ENS:r GST:r DBG:r; default 0; FRAME. Owner region enabled (chapter 11) -/
abbrev sigOwnerEnable (n : Nat) (k : Nat) : Nat := okey (0x4810 + 0x80 * n + k) 0x2

/-- I+0x10+k:03–06 SigX U16; access HAL:rwc OWN:rwc ENS:r GST:r DBG:r; default 0; FRAME. Geometry, whole panel; Ensign kind reads the package's (chapter 11) -/
abbrev sigX (n : Nat) (k : Nat) : Nat := okey (0x4810 + 0x80 * n + k) 0x3

/-- I+0x10+k:03–06 SigY U16; access HAL:rwc OWN:rwc ENS:r GST:r DBG:r; default 0; FRAME. Geometry, whole panel; Ensign kind reads the package's (chapter 11) -/
abbrev sigY (n : Nat) (k : Nat) : Nat := okey (0x4810 + 0x80 * n + k) 0x4

/-- I+0x10+k:03–06 SigW U16; access HAL:rwc OWN:rwc ENS:r GST:r DBG:r; default 0; FRAME. Geometry, whole panel; Ensign kind reads the package's (chapter 11) -/
abbrev sigW (n : Nat) (k : Nat) : Nat := okey (0x4810 + 0x80 * n + k) 0x5

/-- I+0x10+k:03–06 SigH U16; access HAL:rwc OWN:rwc ENS:r GST:r DBG:r; default 0; FRAME. Geometry, whole panel; Ensign kind reads the package's (chapter 11) -/
abbrev sigH (n : Nat) (k : Nat) : Nat := okey (0x4810 + 0x80 * n + k) 0x6

/-- I+0x10+k:07 TagMask U8; access HAL:rwc OWN:rwc ENS:r GST:r DBG:r; default 0xFF; FRAME. Owner kind: allowed tags (chapter 11) -/
abbrev sigTagMask (n : Nat) (k : Nat) : Nat := okey (0x4810 + 0x80 * n + k) 0x7

/-- I+0x10+k:08 ExpectedOn BOOL; access HAL:rwc OWN:rwc ENS:r GST:r DBG:r; default 0; FRAME. Owner kind: compare with ExpectedCrc (chapter 11) -/
abbrev sigExpectedOn (n : Nat) (k : Nat) : Nat := okey (0x4810 + 0x80 * n + k) 0x8

/-- I+0x10+k:09 ExpectedCrc U32; access HAL:rwc OWN:rwc ENS:r GST:r DBG:r; default 0; FRAME. Owner kind (chapter 11) -/
abbrev sigExpectedCrc (n : Nat) (k : Nat) : Nat := okey (0x4810 + 0x80 * n + k) 0x9

/-- I+0x10+k:0A LiveWindowMs U16; access HAL:rwc OWN:rwc ENS:r GST:r DBG:r; default 0; FRAME. Owner kind: 0 not live; else 50 to 60,000 (chapter 11) -/
abbrev sigLiveWindowMs (n : Nat) (k : Nat) : Nat := okey (0x4810 + 0x80 * n + k) 0xA

/-- I+0x10+k:0B RegionCheck U8; access HAL:r ENS:r OWN:r GST:r DBG:r; default 0; IMMEDIATE. Region check state (chapter 11) -/
abbrev sigRegionCheck (n : Nat) (k : Nat) : Nat := okey (0x4810 + 0x80 * n + k) 0xB

/-- I+0x10+k:0C LastCrc U32; access HAL:r ENS:r OWN:r GST:r DBG:r; default 0; IMMEDIATE. Last sampled signature (chapter 11) -/
abbrev sigLastCrc (n : Nat) (k : Nat) : Nat := okey (0x4810 + 0x80 * n + k) 0xC

/-- I+0x10+k:0D LastFrame U32; access HAL:r ENS:r OWN:r GST:r DBG:r; default 0; IMMEDIATE. HeadFrame of LastCrc (chapter 11) -/
abbrev sigLastFrame (n : Nat) (k : Nat) : Nat := okey (0x4810 + 0x80 * n + k) 0xD

/-- I+0x10+k:0E ProvCount U32; access HAL:r ENS:r OWN:r GST:r DBG:r; default 0; IMMEDIATE. Provenance count of that frame (chapter 11) -/
abbrev sigProvCount (n : Nat) (k : Nat) : Nat := okey (0x4810 + 0x80 * n + k) 0xE

/-- I+0x10+k:0F Mismatches U32; access HAL:r ENS:r OWN:r GST:r DBG:r; default 0; IMMEDIATE. Mismatching frames, modulo 2^32 (chapter 11) -/
abbrev sigMismatches (n : Nat) (k : Nat) : Nat := okey (0x4810 + 0x80 * n + k) 0xF

/-- 0x4C00:01 MismatchFrames U8; access HAL:rw OWN:rw ENS:r DBG:r; default 2; IMMEDIATE. 1 to 8 (chapter 11) -/
abbrev mismatchFrames : Nat := okey (0x4C00) 0x1

/-- 0x4C00:02 ReturnFrames U16; access HAL:rw OWN:rw ENS:r DBG:r; default 60; IMMEDIATE. 1 to 3,600 (chapter 11) -/
abbrev returnFrames : Nat := okey (0x4C00) 0x2

/-- 0x4C00:03 AlarmOutNoScreen U8; access HAL:rw OWN:rw ENS:r DBG:r; default 0xFF; IMMEDIATE. Discrete output 0 to 31, or 0xFF (chapter 11) -/
abbrev alarmOutNoScreen : Nat := okey (0x4C00) 0x3

/-- 0x4C00:04 AlarmOutDegraded U8; access HAL:rw OWN:rw ENS:r DBG:r; default 0xFF; IMMEDIATE. As 03 (chapter 11) -/
abbrev alarmOutDegraded : Nat := okey (0x4C00) 0x4

/-- 0x4C00:05 BackupToneLevel U8; access HAL:rw OWN:rw ENS:r DBG:r; default 200; IMMEDIATE. 64 to 255; below 64 returns VALUE_RANGE (chapter 11) -/
abbrev backupToneLevel : Nat := okey (0x4C00) 0x5

/-- 0x4C00:06 PagesNoScreen U16; access HAL:r ENS:r OWN:r GST:r DBG:r; default 0; IMMEDIATE. Pages without a screen (chapter 11) -/
abbrev pagesNoScreen : Nat := okey (0x4C00) 0x6

/-- P:01 PortHead U8; access HAL:rwc OWN:rwc ENS:r GST:r DBG:r; default 0xFF; SCAN. Head mapped; 0xFF none (chapter 12) -/
abbrev portHead (n : Nat) : Nat := okey (0x5000 + 0x100 * n) 0x1

/-- P:02–05 MapX U16; access HAL:rwc OWN:rwc ENS:r GST:r DBG:r; default 0; SCAN. Rectangle in whole-panel pixels (R304) (chapter 12) -/
abbrev mapX (n : Nat) : Nat := okey (0x5000 + 0x100 * n) 0x2

/-- P:02–05 MapY U16; access HAL:rwc OWN:rwc ENS:r GST:r DBG:r; default 0; SCAN. Rectangle in whole-panel pixels (R304) (chapter 12) -/
abbrev mapY (n : Nat) : Nat := okey (0x5000 + 0x100 * n) 0x3

/-- P:02–05 MapW U16; access HAL:rwc OWN:rwc ENS:r GST:r DBG:r; default 0; SCAN. Rectangle in whole-panel pixels (R304) (chapter 12) -/
abbrev mapW (n : Nat) : Nat := okey (0x5000 + 0x100 * n) 0x4

/-- P:02–05 MapH U16; access HAL:rwc OWN:rwc ENS:r GST:r DBG:r; default 0; SCAN. Rectangle in whole-panel pixels (R304) (chapter 12) -/
abbrev mapH (n : Nat) : Nat := okey (0x5000 + 0x100 * n) 0x5

/-- P:06 Orientation U8; access HAL:rwc OWN:rwc ENS:r GST:r DBG:r; default 0; SCAN. Bit 0 swap, 1 mirror x, 2 mirror y (chapter 12) -/
abbrev orientation (n : Nat) : Nat := okey (0x5000 + 0x100 * n) 0x6

/-- P:07 NodePitchUm U16; access HAL:rwc OWN:rwc ENS:r GST:r DBG:r; default 5,000; SCAN. Node pitch, 1,000 to 10,000 µm (chapter 12) -/
abbrev nodePitchUm (n : Nat) : Nat := okey (0x5000 + 0x100 * n) 0x7

/-- P:08 TouchPassMask U8; access HAL:rwc OWN:rwc ENS:r GST:r DBG:r; default 0; SCAN. Bit l: layer l passes contacts through (chapter 12) -/
abbrev touchPassMask (n : Nat) : Nat := okey (0x5000 + 0x100 * n) 0x8

/-- P+0x01:01 ChannelRole OCT(128); access HAL:rwc OWN:rwc ENS:r GST:r DBG:r; default zeros; SCAN. Role per channel (R303) (chapter 12) -/
abbrev channelRole (n : Nat) : Nat := okey (0x5001 + 0x100 * n) 0x1

/-- P+0x01:02–04 DriveCount U8; access HAL:r ENS:r OWN:r GST:r DBG:r; default 0; IMMEDIATE. Derived (chapter 12) -/
abbrev driveCount (n : Nat) : Nat := okey (0x5001 + 0x100 * n) 0x2

/-- P+0x01:02–04 SenseCount U8; access HAL:r ENS:r OWN:r GST:r DBG:r; default 0; IMMEDIATE. Derived (chapter 12) -/
abbrev senseCount (n : Nat) : Nat := okey (0x5001 + 0x100 * n) 0x3

/-- P+0x01:02–04 NodeCount U16; access HAL:r ENS:r OWN:r GST:r DBG:r; default 0; IMMEDIATE. Derived (chapter 12) -/
abbrev nodeCount (n : Nat) : Nat := okey (0x5001 + 0x100 * n) 0x4

/-- P+0x02:01 TouchThreshold U16; access HAL:rwc OWN:rwc GST:rwc ENS:r DBG:r; default 400; SCAN. Counts, 16 to 8,000 (chapter 12) -/
abbrev touchThreshold (n : Nat) : Nat := okey (0x5002 + 0x100 * n) 0x1

/-- P+0x02:02 ReleaseThreshold U16; access HAL:rwc OWN:rwc GST:rwc ENS:r DBG:r; default 250; SCAN. Below TouchThreshold (chapter 12) -/
abbrev releaseThreshold (n : Nat) : Nat := okey (0x5002 + 0x100 * n) 0x2

/-- P+0x02:03 GloveThreshold U16; access HAL:rwc OWN:rwc GST:rwc ENS:r DBG:r; default 120; SCAN. Below TouchThreshold (chapter 12) -/
abbrev gloveThreshold (n : Nat) : Nat := okey (0x5002 + 0x100 * n) 0x3

/-- P+0x02:04 SelfThreshold U16; access HAL:rwc OWN:rwc GST:rwc ENS:r DBG:r; default 200; SCAN. 16 to 8,000 (chapter 12) -/
abbrev selfThreshold (n : Nat) : Nat := okey (0x5002 + 0x100 * n) 0x4

/-- P+0x02:05 NegThreshold U16; access HAL:rwc OWN:rwc GST:rwc ENS:r DBG:r; default 150; SCAN. 16 to 8,000 (chapter 12) -/
abbrev negThreshold (n : Nat) : Nat := okey (0x5002 + 0x100 * n) 0x5

/-- P+0x02:06 CoveredDelta U16; access HAL:rwc OWN:rwc GST:rwc ENS:r DBG:r; default 300; SCAN. 16 to 8,000 (chapter 12) -/
abbrev coveredDelta (n : Nat) : Nat := okey (0x5002 + 0x100 * n) 0x6

/-- P+0x02:07 HopNoise U16; access HAL:rwc OWN:rwc GST:rwc ENS:r DBG:r; default 60; SCAN. RMS counts, 8 to 2,000 (chapter 12) -/
abbrev hopNoise (n : Nat) : Nat := okey (0x5002 + 0x100 * n) 0x7

/-- P+0x02:08 PalmNodes U8; access HAL:rwc OWN:rwc GST:rwc ENS:r DBG:r; default 24; SCAN. 4 to 255 (chapter 12) -/
abbrev palmNodes (n : Nat) : Nat := okey (0x5002 + 0x100 * n) 0x8

/-- P+0x02:09 GloveMode U8; access HAL:rwc OWN:rwc GST:rwc ENS:r DBG:r; default 2; SCAN. 0 off, 1 on, 2 automatic (chapter 12) -/
abbrev gloveMode (n : Nat) : Nat := okey (0x5002 + 0x100 * n) 0x9

/-- P+0x02:0A WaterMode U8; access HAL:rwc OWN:rwc GST:rwc ENS:r DBG:r; default 1; SCAN. 0 mutual signal alone, no water detection; 1 self confirmation required; other values refused (R308) (chapter 12) -/
abbrev waterMode (n : Nat) : Nat := okey (0x5002 + 0x100 * n) 0xA

/-- P+0x03:01–03 IdleStep1Ms U32; access HAL:rwc OWN:rwc GST:rwc ENS:r DBG:r; default 2,000; SCAN. Rising, 100 to 86,400,000 (chapter 12) -/
abbrev idleStep1Ms (n : Nat) : Nat := okey (0x5003 + 0x100 * n) 0x1

/-- P+0x03:01–03 IdleStep2Ms U32; access HAL:rwc OWN:rwc GST:rwc ENS:r DBG:r; default 30,000; SCAN. Rising, 100 to 86,400,000 (chapter 12) -/
abbrev idleStep2Ms (n : Nat) : Nat := okey (0x5003 + 0x100 * n) 0x2

/-- P+0x03:01–03 IdleStep3Ms U32; access HAL:rwc OWN:rwc GST:rwc ENS:r DBG:r; default 300,000; SCAN. Rising, 100 to 86,400,000 (chapter 12) -/
abbrev idleStep3Ms (n : Nat) : Nat := okey (0x5003 + 0x100 * n) 0x3

/-- P+0x03:04 WakeMode U8; access HAL:rwc OWN:rwc GST:rwc ENS:r DBG:r; default 3; SCAN. Bit 0 double tap, bit 1 slide (chapter 12) -/
abbrev wakeMode (n : Nat) : Nat := okey (0x5003 + 0x100 * n) 0x4

/-- P+0x04:01 ScanRateHz U16; access HAL:r ENS:r OWN:r GST:r DBG:r; default 0; IMMEDIATE. 240, 120, 30 or 8 (chapter 12) -/
abbrev scanRateHz (n : Nat) : Nat := okey (0x5004 + 0x100 * n) 0x1

/-- P+0x04:02 FreqIndex U8; access HAL:r ENS:r OWN:r GST:r DBG:r; default 0; IMMEDIATE. Present frequency (chapter 12) -/
abbrev freqIndex (n : Nat) : Nat := okey (0x5004 + 0x100 * n) 0x2

/-- P+0x04:03 NoiseLevel OCT(32); access HAL:r ENS:r OWN:r GST:r DBG:r; default zeros; IMMEDIATE. 16 × U16 (chapter 12) -/
abbrev noiseLevel (n : Nat) : Nat := okey (0x5004 + 0x100 * n) 0x3

/-- P+0x04:04–05 Contacts U8; access HAL:r ENS:r OWN:r GST:r DBG:r; default 0; IMMEDIATE. Open and suppressed clusters (chapter 12) -/
abbrev contacts (n : Nat) : Nat := okey (0x5004 + 0x100 * n) 0x4

/-- P+0x04:04–05 Suppressed U8; access HAL:r ENS:r OWN:r GST:r DBG:r; default 0; IMMEDIATE. Open and suppressed clusters (chapter 12) -/
abbrev suppressed (n : Nat) : Nat := okey (0x5004 + 0x100 * n) 0x5

/-- P+0x04:06 WetGlove U8; access HAL:r ENS:r OWN:r GST:r DBG:r; default 0; IMMEDIATE. Bit 0 wet, bit 1 glove sensing (chapter 12) -/
abbrev wetGlove (n : Nat) : Nat := okey (0x5004 + 0x100 * n) 0x6

/-- P+0x04:07 MaskedChannels OCT(16); access HAL:r ENS:r OWN:r GST:r DBG:r; default zeros; IMMEDIATE. Bit per channel (chapter 12) -/
abbrev maskedChannels (n : Nat) : Nat := okey (0x5004 + 0x100 * n) 0x7

/-- P+0x04:08 Degraded BOOL; access HAL:r ENS:r OWN:r GST:r DBG:r; default 0; IMMEDIATE. R320 (chapter 12) -/
abbrev degraded (n : Nat) : Nat := okey (0x5004 + 0x100 * n) 0x8

/-- P+0x04:09 RefValid BOOL; access HAL:r ENS:r OWN:r GST:r DBG:r; default 0; IMMEDIATE. R318 (chapter 12) -/
abbrev refValid (n : Nat) : Nat := okey (0x5004 + 0x100 * n) 0x9

/-- P+0x04:0A LastIntegrityTime TIME64; access HAL:r ENS:r OWN:r GST:r DBG:r; default 0; IMMEDIATE. R319 (chapter 12) -/
abbrev lastIntegrityTime (n : Nat) : Nat := okey (0x5004 + 0x100 * n) 0xA

/-- P+0x04:0B ScanFrames U32; access HAL:r ENS:r OWN:r GST:r DBG:r; default 0; IMMEDIATE. Modulo 2^32 (chapter 12) -/
abbrev scanFrames (n : Nat) : Nat := okey (0x5004 + 0x100 * n) 0xB

/-- P+0x05:01–03 Hops U32; access HAL:r ENS:r OWN:r GST:r DBG:r; default 0; IMMEDIATE. Modulo 2^32 (chapter 12) -/
abbrev hops (n : Nat) : Nat := okey (0x5005 + 0x100 * n) 0x1

/-- P+0x05:01–03 Rebaselines U32; access HAL:r ENS:r OWN:r GST:r DBG:r; default 0; IMMEDIATE. Modulo 2^32 (chapter 12) -/
abbrev rebaselines (n : Nat) : Nat := okey (0x5005 + 0x100 * n) 0x2

/-- P+0x05:01–03 ContactsDiscarded U32; access HAL:r ENS:r OWN:r GST:r DBG:r; default 0; IMMEDIATE. Modulo 2^32 (chapter 12) -/
abbrev contactsDiscarded (n : Nat) : Nat := okey (0x5005 + 0x100 * n) 0x3

/-- P+0x06:01 Baselines DOMAIN; access HAL:r OWN:r GST:r DBG:r; default —; IMMEDIATE. NodeCount × U16 (chapter 12) -/
abbrev baselines (n : Nat) : Nat := okey (0x5006 + 0x100 * n) 0x1

/-- G:01 TouchHaptics BOOL; access HAL:rwc OWN:rwc ENS:r GST:r DBG:r; default 1; EFFECT. Touch bindings of the group active (chapter 13) -/
abbrev hapTouchHaptics (g : Nat) : Nat := okey (0x5800 + 0x100 * g) 0x1

/-- G:02 HvState U8; access HAL:r ENS:r OWN:r GST:r DBG:r; default 0; IMMEDIATE. 0 off, 1 on, 2 fault (chapter 13) -/
abbrev hapHvState (g : Nat) : Nat := okey (0x5800 + 0x100 * g) 0x2

/-- G:03 DriverTemp S16; access HAL:r ENS:r OWN:r GST:r DBG:r; default —; IMMEDIATE. Driver die temperature, 0.1 °C (chapter 13) -/
abbrev hapDriverTemp (g : Nat) : Nat := okey (0x5800 + 0x100 * g) 0x3

/-- G:04 GroupPowerMw U32; access HAL:r ENS:r OWN:r GST:r DBG:r; default 0; IMMEDIATE. Average over 100 ms (chapter 13) -/
abbrev hapGroupPowerMw (g : Nat) : Nat := okey (0x5800 + 0x100 * g) 0x4

/-- G+0x10+b:01 Binding OCT(8); access HAL:rwc OWN:rwc ENS:r GST:r DBG:r; default 0xFF × 8; EFFECT. Port, head, target (layer 0–7, 0x80 + region, 0xFF any), channel, effect, strength, scale, phase (0 down, 1 up, 2 both); port 0xFF unused (chapter 13) -/
abbrev hapBinding (g : Nat) (b : Nat) : Nat := okey (0x5810 + 0x100 * g + b) 0x1

/-- C:01 Enable BOOL; access HAL:rwc OWN:rwc GST:rwc ENS:r DBG:r; default 0; EFFECT. Channel in use (chapter 13) -/
abbrev hapChEnable (g : Nat) (c : Nat) : Nat := okey (0x5820 + 0x100 * g + 0x10 * c) 0x1

/-- C:02 SenseMode U8; access HAL:rwc OWN:rwc GST:rwc ENS:r DBG:r; default 1; EFFECT. 0 open loop, 1 piezo sense, 2 accelerometer (chapter 13) -/
abbrev hapChSenseMode (g : Nat) (c : Nat) : Nat := okey (0x5820 + 0x100 * g + 0x10 * c) 0x2

/-- C:03 AccelFullScale U16; access HAL:rwc OWN:rwc GST:rwc ENS:r DBG:r; default 2,000; EFFECT. 0.01 m/s², 100 to 10,000 (chapter 13) -/
abbrev hapChAccelFullScale (g : Nat) (c : Nat) : Nat := okey (0x5820 + 0x100 * g + 0x10 * c) 0x3

/-- C:04 BoostMs U8; access HAL:rwc OWN:rwc GST:rwc ENS:r DBG:r; default 3; EFFECT. 0 to 10 (chapter 13) -/
abbrev hapChBoostMs (g : Nat) (c : Nat) : Nat := okey (0x5820 + 0x100 * g + 0x10 * c) 0x4

/-- C:05 BrakeMs U8; access HAL:rwc OWN:rwc GST:rwc ENS:r DBG:r; default 8; EFFECT. 0 to 20 (chapter 13) -/
abbrev hapChBrakeMs (g : Nat) (c : Nat) : Nat := okey (0x5820 + 0x100 * g + 0x10 * c) 0x5

/-- C:06 SenseGainUv U16; access HAL:rwc OWN:rwc GST:rwc ENS:r DBG:r; default 100; EFFECT. µV per m/s², SenseMode 2 (chapter 13) -/
abbrev hapChSenseGainUv (g : Nat) (c : Nat) : Nat := okey (0x5820 + 0x100 * g + 0x10 * c) 0x6

/-- C:07 PlayEffect OCT(4); access HAL:w ENS:w OWN:w GST:w; default —; IMMEDIATE. Effect, strength, scale, zero (chapter 13) -/
abbrev hapChPlayEffect (g : Nat) (c : Nat) : Nat := okey (0x5820 + 0x100 * g + 0x10 * c) 0x7

/-- C+0x01:01 ChannelState U8; access HAL:r ENS:r OWN:r GST:r DBG:r; default 0; IMMEDIATE. 0 idle, 1 playing, 2 braking, 3 FAULT, 4 disabled (chapter 13) -/
abbrev hapChChannelState (g : Nat) (c : Nat) : Nat := okey (0x5821 + 0x100 * g + 0x10 * c) 0x1

/-- C+0x01:02 EffectNow U8; access HAL:r ENS:r OWN:r GST:r DBG:r; default 0; IMMEDIATE. Effect playing (chapter 13) -/
abbrev hapChEffectNow (g : Nat) (c : Nat) : Nat := okey (0x5821 + 0x100 * g + 0x10 * c) 0x2

/-- C+0x01:03 SenseActive BOOL; access HAL:r ENS:r OWN:r GST:r DBG:r; default 0; IMMEDIATE. Closed loop in force (R330) (chapter 13) -/
abbrev hapChSenseActive (g : Nat) (c : Nat) : Nat := okey (0x5821 + 0x100 * g + 0x10 * c) 0x3

/-- C+0x01:04 LoadNf U16; access HAL:r ENS:r OWN:r GST:r DBG:r; default 0; IMMEDIATE. Measured load, nF (chapter 13) -/
abbrev hapChLoadNf (g : Nat) (c : Nat) : Nat := okey (0x5821 + 0x100 * g + 0x10 * c) 0x4

/-- C+0x01:05 ResonanceHz U16; access HAL:r ENS:r OWN:r GST:r DBG:r; default 0; IMMEDIATE. Measured resonance (chapter 13) -/
abbrev hapChResonanceHz (g : Nat) (c : Nat) : Nat := okey (0x5821 + 0x100 * g + 0x10 * c) 0x5

/-- C+0x01:06–08 Plays U32; access HAL:r ENS:r OWN:r GST:r DBG:r; default 0; IMMEDIATE. Modulo 2^32 (chapter 13) -/
abbrev hapChPlays (g : Nat) (c : Nat) : Nat := okey (0x5821 + 0x100 * g + 0x10 * c) 0x6

/-- C+0x01:06–08 Saturations U32; access HAL:r ENS:r OWN:r GST:r DBG:r; default 0; IMMEDIATE. Modulo 2^32 (chapter 13) -/
abbrev hapChSaturations (g : Nat) (c : Nat) : Nat := okey (0x5821 + 0x100 * g + 0x10 * c) 0x7

/-- C+0x01:06–08 Faults U32; access HAL:r ENS:r OWN:r GST:r DBG:r; default 0; IMMEDIATE. Modulo 2^32 (chapter 13) -/
abbrev hapChFaults (g : Nat) (c : Nat) : Nat := okey (0x5821 + 0x100 * g + 0x10 * c) 0x8

/-- 0x6000:01 SampleCount U64; access HAL:r ENS:r OWN:r DBG:r; default 0; IMMEDIATE. M samples since start-up (chapter 14) -/
abbrev sampleCount : Nat := okey (0x6000) 0x1

/-- 0x6000:02 PRate U32; access HAL:rwc OWN:rwc ENS:r DBG:r; default 48,000; SAMPLE. 44,100, 48,000 or 96,000 (R362) (chapter 14) -/
abbrev pRate : Nat := okey (0x6000) 0x2

/-- 0x6000:03 DuckDb S16; access HAL:rwc OWN:rwc ENS:r DBG:r; default −2,000; SAMPLE. 0.01 dB, −4,000 to −600 (chapter 14) -/
abbrev duckDb : Nat := okey (0x6000) 0x3

/-- 0x6000:04–05 DuckAttackMs U16; access HAL:rwc OWN:rwc ENS:r DBG:r; default 20; SAMPLE. 1 to 2,000 (chapter 14) -/
abbrev duckAttackMs : Nat := okey (0x6000) 0x4

/-- 0x6000:04–05 DuckReleaseMs U16; access HAL:rwc OWN:rwc ENS:r DBG:r; default 500; SAMPLE. 1 to 2,000 (chapter 14) -/
abbrev duckReleaseMs : Nat := okey (0x6000) 0x5

/-- 0x6000:06 AlarmFloorDb S16; access HAL:rwc OWN:rwc ENS:r DBG:r; default −600; SAMPLE. 0.01 dB, −3,000 to 0 (chapter 14) -/
abbrev alarmFloorDb : Nat := okey (0x6000) 0x6

/-- 0x6000:07 BackupSinks U8; access HAL:rwc OWN:rwc ENS:r DBG:r; default 0x0F; SAMPLE. Bit n: line output n (chapter 14) -/
abbrev backupSinks : Nat := okey (0x6000) 0x7

/-- 0x6000:08 SourceHoldMs U16; access HAL:rwc OWN:rwc ENS:r DBG:r; default 1,000; SAMPLE. 100 to 10,000 (chapter 14) -/
abbrev sourceHoldMs : Nat := okey (0x6000) 0x8

/-- 0x6000:09 TonesActive U8; access HAL:r ENS:r OWN:r DBG:r; default 0; IMMEDIATE. Bits 3:0 voices; bit 4 backup tone (chapter 14) -/
abbrev tonesActive : Nat := okey (0x6000) 0x9

/-- 0x6000:0A FifoFreeKiB U32; access HAL:r ENS:r OWN:r DBG:r; default 512; IMMEDIATE. Free AudioFifo (chapter 14) -/
abbrev fifoFreeKiB : Nat := okey (0x6000) 0xA

/-- 0x6010:— SourceTable table, 256 × OCT(8); access HAL:rwc OWN:rwc ENS:r DBG:r; default KIND 0; SAMPLE. Through a window (R69) (chapter 14) -/
abbrev sourceTable (j : Nat) : Nat := okey (0x6010) (0x0 + j)

/-- 0x6011:— SourceMeters table, 256 × OCT(8); access HAL:r ENS:r OWN:r DBG:r; default —; IMMEDIATE. Through a window (chapter 14) -/
abbrev sourceMeters (j : Nat) : Nat := okey (0x6011) (0x0 + j)

/-- 0x6100 + b:01 BusDomain U8; access HAL:rwc OWN:rwc ENS:r DBG:r; default 0; SAMPLE. 0 M, 1 V, 2 P (chapter 14) -/
abbrev busDomain (b : Nat) : Nat := okey (0x6100 + b) 0x1

/-- 0x6100 + b:02 BusGain S16; access HAL:rwc OWN:rwc ENS:r DBG:r; default 0; SAMPLE. 0.01 dB, −12,000 to +1,200 (chapter 14) -/
abbrev busGain (b : Nat) : Nat := okey (0x6100 + b) 0x2

/-- 0x6100 + b:03 BusMute BOOL; access HAL:rwc OWN:rwc ENS:r DBG:r; default 0; SAMPLE. Ramps to silence (chapter 14) -/
abbrev busMute (b : Nat) : Nat := okey (0x6100 + b) 0x3

/-- 0x6100 + b:04 RampMs U16; access HAL:rwc OWN:rwc ENS:r DBG:r; default 20; SAMPLE. 1 to 2,000 (chapter 14) -/
abbrev rampMs (b : Nat) : Nat := okey (0x6100 + b) 0x4

/-- 0x6100 + b:05 Sections OCT(240); access HAL:rwc OWN:rwc ENS:r DBG:r; default pass-through; SAMPLE. R344 (chapter 14) -/
abbrev sections (b : Nat) : Nat := okey (0x6100 + b) 0x5

/-- 0x6100 + b:06 SectionEnable U16; access HAL:rwc OWN:rwc ENS:r DBG:r; default 0; SAMPLE. Bits 11:0 (chapter 14) -/
abbrev sectionEnable (b : Nat) : Nat := okey (0x6100 + b) 0x6

/-- 0x6100 + b:07 BusSink U16; access HAL:rwc OWN:rwc ENS:r DBG:r; default 0; SAMPLE. Sink code (chapter 14) -/
abbrev busSink (b : Nat) : Nat := okey (0x6100 + b) 0x7

/-- 0x6100 + b:08 AlarmBus BOOL; access HAL:rwc OWN:rwc ENS:r DBG:r; default 0; SAMPLE. Receives Ensign voices (chapter 14) -/
abbrev alarmBus (b : Nat) : Nat := okey (0x6100 + b) 0x8

/-- 0x6100 + b:09 HoldMs U16; access HAL:rwc OWN:rwc ENS:r DBG:r; default 1,000; SAMPLE. 100 to 10,000 (chapter 14) -/
abbrev holdMs (b : Nat) : Nat := okey (0x6100 + b) 0x9

/-- 0x6100 + b:0A BusMeter OCT(8); access HAL:r ENS:r OWN:r DBG:r; default —; IMMEDIATE. R347 (chapter 14) -/
abbrev busMeter (b : Nat) : Nat := okey (0x6100 + b) 0xA

/-- 0x6140 + b:— CrossRow table, 256 × S16; access HAL:rwc OWN:rwc ENS:r DBG:r; default −12,000; SAMPLE. Through a window; elements 248 to 255 read-only (chapter 14) -/
abbrev crossRow (b : Nat) (j : Nat) : Nat := okey (0x6140 + b) (0x0 + j)

/-- 0x6180 + k:01–02 BridgeFrom U8; access HAL:rwc OWN:rwc ENS:r DBG:r; default 0xFF; SAMPLE. Side codes (chapter 14) -/
abbrev bridgeFrom (k : Nat) : Nat := okey (0x6180 + k) 0x1

/-- 0x6180 + k:01–02 BridgeTo U8; access HAL:rwc OWN:rwc ENS:r DBG:r; default 0xFF; SAMPLE. Side codes (chapter 14) -/
abbrev bridgeTo (k : Nat) : Nat := okey (0x6180 + k) 0x2

/-- 0x6180 + k:03 BridgeMap OCT(64); access HAL:rwc OWN:rwc ENS:r DBG:r; default 0xFF; SAMPLE. 32 input and output pairs (chapter 14) -/
abbrev bridgeMap (k : Nat) : Nat := okey (0x6180 + k) 0x3

/-- 0x6180 + k:04 BridgeState U8; access HAL:r ENS:r OWN:r DBG:r; default 0; IMMEDIATE. 0 off, 1 locking, 2 locked (chapter 14) -/
abbrev bridgeState (k : Nat) : Nat := okey (0x6180 + k) 0x4

/-- 0x6180 + k:05 BridgeRatio U32; access HAL:r ENS:r OWN:r DBG:r; default 0; IMMEDIATE. Output rate over input rate, 2^−24 units (chapter 14) -/
abbrev bridgeRatio (k : Nat) : Nat := okey (0x6180 + k) 0x5

/-- 0x6180 + k:06 Unlocks U32; access HAL:r ENS:r OWN:r DBG:r; default 0; IMMEDIATE. Modulo 2^32 (chapter 14) -/
abbrev unlocks (k : Nat) : Nat := okey (0x6180 + k) 0x6

/-- 0x61C0 + t:01 StreamWorld U8; access HAL:rwc OWN:rwc ENS:r DBG:r; default 0xFF; SAMPLE. Owner world; 0xFF unassigned (chapter 14) -/
abbrev streamWorld (t : Nat) : Nat := okey (0x61C0 + t) 0x1

/-- 0x61C0 + t:02–03 StreamDir U8; access HAL:rwc OWN:rwc ENS:r DBG:r; default 0; SAMPLE. 0 play, 1 capture; domain code (chapter 14) -/
abbrev streamDir (t : Nat) : Nat := okey (0x61C0 + t) 0x2

/-- 0x61C0 + t:02–03 StreamDomain U8; access HAL:rwc OWN:rwc ENS:r DBG:r; default 0; SAMPLE. 0 play, 1 capture; domain code (chapter 14) -/
abbrev streamDomain (t : Nat) : Nat := okey (0x61C0 + t) 0x3

/-- 0x61C0 + t:04–05 StreamChannels U8; access HAL:rwc OWN:rwc ENS:r DBG:r; default 2; SAMPLE. 1 to 8; first source or bus (chapter 14) -/
abbrev streamChannels (t : Nat) : Nat := okey (0x61C0 + t) 0x4

/-- 0x61C0 + t:04–05 StreamFirst U8; access HAL:rwc OWN:rwc ENS:r DBG:r; default 0; SAMPLE. 1 to 8; first source or bus (chapter 14) -/
abbrev streamFirst (t : Nat) : Nat := okey (0x61C0 + t) 0x5

/-- 0x61C0 + t:06 StreamFormat U8; access HAL:rwc OWN:rwc ENS:r DBG:r; default 0; SAMPLE. 0 S16, 1 S32 (chapter 14) -/
abbrev streamFormat (t : Nat) : Nat := okey (0x61C0 + t) 0x6

/-- 0x61C0 + t:07 StreamEndpoint U8; access HAL:rwc OWN:rwc ENS:r DBG:r; default 0xFF; SAMPLE. 0xFF graph; else TDM port (chapter 14) -/
abbrev streamEndpoint (t : Nat) : Nat := okey (0x61C0 + t) 0x7

/-- 0x61C0 + t:08 StreamState U8; access HAL:r ENS:r OWN:r DBG:r; default 0; IMMEDIATE. 0 unassigned, 1 stopped, 2 running, 3 starved (chapter 14) -/
abbrev streamState (t : Nat) : Nat := okey (0x61C0 + t) 0x8

/-- 0x61C0 + t:09 StreamFrames U64; access HAL:r ENS:r OWN:r DBG:r; default 0; IMMEDIATE. Frames moved (chapter 14) -/
abbrev streamFrames (t : Nat) : Nat := okey (0x61C0 + t) 0x9

/-- 0x61C0 + t:0A–0B StreamLatencyUs U32; access HAL:r ENS:r OWN:r DBG:r; default 10,000; IMMEDIATE. L in force; underruns and overruns, modulo 2^32 (chapter 14) -/
abbrev streamLatencyUs (t : Nat) : Nat := okey (0x61C0 + t) 0xA

/-- 0x61C0 + t:0A–0B Underruns U32; access HAL:r ENS:r OWN:r DBG:r; default 0; IMMEDIATE. L in force; underruns and overruns, modulo 2^32 (chapter 14) -/
abbrev underruns (t : Nat) : Nat := okey (0x61C0 + t) 0xB

/-- 0x6200 + p:01 TdmMode U8; access HAL:rwc OWN:rwc GST:rwc ENS:r DBG:r; default 0; SAMPLE. 0 off, 1 controller, 2 target (chapter 14) -/
abbrev tdmMode (p : Nat) : Nat := okey (0x6200 + p) 0x1

/-- 0x6200 + p:02–03 TdmSlots U8; access HAL:rwc OWN:rwc GST:rwc ENS:r DBG:r; default 8; SAMPLE. 2, 4, 8, 16; 0 I²S, 1 left-justified, 2 DSP (chapter 14) -/
abbrev tdmSlots (p : Nat) : Nat := okey (0x6200 + p) 0x2

/-- 0x6200 + p:02–03 TdmFormat U8; access HAL:rwc OWN:rwc GST:rwc ENS:r DBG:r; default 0; SAMPLE. 2, 4, 8, 16; 0 I²S, 1 left-justified, 2 DSP (chapter 14) -/
abbrev tdmFormat (p : Nat) : Nat := okey (0x6200 + p) 0x3

/-- 0x6200 + p:04 TdmState U8; access HAL:r ENS:r OWN:r GST:r DBG:r; default 0; IMMEDIATE. 0 off, 1 running, 2 clock lost (chapter 14) -/
abbrev tdmState (p : Nat) : Nat := okey (0x6200 + p) 0x4

/-- 0x6210 + m:01–02 PdmEnable BOOL; access HAL:rwc OWN:rwc ENS:r DBG:r; default 0; SAMPLE. Gain in 0.01 dB, 0 to +3,000 (chapter 14) -/
abbrev pdmEnable (m : Nat) : Nat := okey (0x6210 + m) 0x1

/-- 0x6210 + m:01–02 PdmGain S16; access HAL:rwc OWN:rwc ENS:r DBG:r; default 0; SAMPLE. Gain in 0.01 dB, 0 to +3,000 (chapter 14) -/
abbrev pdmGain (m : Nat) : Nat := okey (0x6210 + m) 0x2

/-- C:01 Assignment U8; access HAL:r ENS:r OWN:r GST:r DBG:r; default per core; IMMEDIATE. Assignment code (chapter 15) -/
abbrev coreAssignment (n : Nat) : Nat := okey (0x6800 + 0x40 * n) 0x1

/-- C:02 CoreState U8; access HAL:r ENS:r OWN:r GST:r DBG:r; default 0; IMMEDIATE. 0 idle, 1 running, 2 trial, 3 stopped in hold-up, 4 resetting (chapter 15) -/
abbrev coreState (n : Nat) : Nat := okey (0x6800 + 0x40 * n) 0x2

/-- C:03 ActiveBank U8; access HAL:rwc OWN:rwc GST:rwc DBG:r; default 0; PERIOD. 0 bank A, 1 bank B (chapter 15) -/
abbrev coreActiveBank (n : Nat) : Nat := okey (0x6800 + 0x40 * n) 0x3

/-- C:04 PeriodSource U8; access HAL:rwc OWN:rwc GST:rwc DBG:r; default 0; PERIOD. 0 internal, 1 edg0; owner cores only (chapter 15) -/
abbrev corePeriodSource (n : Nat) : Nat := okey (0x6800 + 0x40 * n) 0x4

/-- C:05 PeriodUs U32; access HAL:rwc OWN:rwc GST:rwc DBG:r; default 1,000; PERIOD. 10 to 1,000,000 (chapter 15) -/
abbrev corePeriodUs (n : Nat) : Nat := okey (0x6800 + 0x40 * n) 0x5

/-- C:06–07 PeriodCount U32; access HAL:r ENS:r OWN:r GST:r DBG:r; default 0; IMMEDIATE. Modulo 2^32 (chapter 15) -/
abbrev corePeriodCount (n : Nat) : Nat := okey (0x6800 + 0x40 * n) 0x6

/-- C:06–07 LateCount U32; access HAL:r ENS:r OWN:r GST:r DBG:r; default 0; IMMEDIATE. Modulo 2^32 (chapter 15) -/
abbrev coreLateCount (n : Nat) : Nat := okey (0x6800 + 0x40 * n) 0x7

/-- C:08 PeakInstr U32; access HAL:r ENS:r OWN:r GST:r DBG:r; default 0; IMMEDIATE. Longest period since start-up, instruction times (chapter 15) -/
abbrev corePeakInstr (n : Nat) : Nat := okey (0x6800 + 0x40 * n) 0x8

/-- C:09 Resets U32; access HAL:r ENS:r OWN:r GST:r DBG:r; default 0; IMMEDIATE. Modulo 2^32 (chapter 15) -/
abbrev coreResets (n : Nat) : Nat := okey (0x6800 + 0x40 * n) 0x9

/-- C+0x01:01 ProgramStage DOMAIN; access HAL:w OWN:w GST:w; default —; IMMEDIATE. Image into the inactive bank, up to 12,456 bytes (chapter 15) -/
abbrev coreProgramStage (n : Nat) : Nat := okey (0x6801 + 0x40 * n) 0x1

/-- C+0x01:02 ProgramOp U8; access HAL:w OWN:w GST:w; default —; IMMEDIATE. 1 verify, 2 empty the inactive bank (chapter 15) -/
abbrev coreProgramOp (n : Nat) : Nat := okey (0x6801 + 0x40 * n) 0x2

/-- C+0x01:03–04 ProgramStatus U16; access HAL:r OWN:r GST:r DBG:r; default 0; IMMEDIATE. R376 (chapter 15) -/
abbrev coreProgramStatus (n : Nat) : Nat := okey (0x6801 + 0x40 * n) 0x3

/-- C+0x01:03–04 ProgramDetail U32; access HAL:r OWN:r GST:r DBG:r; default 0; IMMEDIATE. R376 (chapter 15) -/
abbrev coreProgramDetail (n : Nat) : Nat := okey (0x6801 + 0x40 * n) 0x4

/-- C+0x01:05–06 BankStateA U8; access HAL:r ENS:r OWN:r GST:r DBG:r; default 0; IMMEDIATE. 0 empty, 1 staged, 2 verified, 3 active, 4 trial, 5 failed (chapter 15) -/
abbrev coreBankStateA (n : Nat) : Nat := okey (0x6801 + 0x40 * n) 0x5

/-- C+0x01:05–06 BankStateB U8; access HAL:r ENS:r OWN:r GST:r DBG:r; default 0; IMMEDIATE. 0 empty, 1 staged, 2 verified, 3 active, 4 trial, 5 failed (chapter 15) -/
abbrev coreBankStateB (n : Nat) : Nat := okey (0x6801 + 0x40 * n) 0x6

/-- C+0x01:07–08 BankVersionA U32; access HAL:r ENS:r OWN:r GST:r DBG:r; default 0; IMMEDIATE. VERSION of each bank (chapter 15) -/
abbrev coreBankVersionA (n : Nat) : Nat := okey (0x6801 + 0x40 * n) 0x7

/-- C+0x01:07–08 BankVersionB U32; access HAL:r ENS:r OWN:r GST:r DBG:r; default 0; IMMEDIATE. VERSION of each bank (chapter 15) -/
abbrev coreBankVersionB (n : Nat) : Nat := okey (0x6801 + 0x40 * n) 0x8

/-- C+0x02:01 MailboxIn U16; access HAL:w OWN:w GST:w; default —; IMMEDIATE. Queues MBX (R366) (chapter 15) -/
abbrev coreMailboxIn (n : Nat) : Nat := okey (0x6802 + 0x40 * n) 0x1

/-- C+0x02:02 MailboxOut U16; access HAL:r ENS:r OWN:r GST:r DBG:r; default 0; IMMEDIATE. Mirror of mbxout (chapter 15) -/
abbrev coreMailboxOut (n : Nat) : Nat := okey (0x6802 + 0x40 * n) 0x2

/-- C+0x02:03 TrialPeriods U16; access HAL:rwc OWN:rwc GST:rwc DBG:r; default 16; PERIOD. 1 to 60,000 (chapter 15) -/
abbrev coreTrialPeriods (n : Nat) : Nat := okey (0x6802 + 0x40 * n) 0x3

/-- K:01 CrcWidth U8; access HAL:rw OWN:rw ENS:rw GST:rw DBG:r; default 32; IMMEDIATE. 8, 16, 32 or 64 (chapter 16) -/
abbrev chkCrcWidth (u : Nat) : Nat := okey (0x7000 + 0x40 * u) 0x1

/-- K:02 Poly U32; access HAL:rw OWN:rw ENS:rw GST:rw DBG:r; default 0x04C1_1DB7; IMMEDIATE. Ignored for W = 64 (chapter 16) -/
abbrev chkPoly (u : Nat) : Nat := okey (0x7000 + 0x40 * u) 0x2

/-- K:03–04 Init U64; access HAL:rw OWN:rw ENS:rw GST:rw DBG:r; default 0xFFFF_FFFF; IMMEDIATE. R383 (chapter 16) -/
abbrev chkInit (u : Nat) : Nat := okey (0x7000 + 0x40 * u) 0x3

/-- K:03–04 XorOut U64; access HAL:rw OWN:rw ENS:rw GST:rw DBG:r; default 0xFFFF_FFFF; IMMEDIATE. R383 (chapter 16) -/
abbrev chkXorOut (u : Nat) : Nat := okey (0x7000 + 0x40 * u) 0x4

/-- K:05 Reflect U8; access HAL:rw OWN:rw ENS:rw GST:rw DBG:r; default 3; IMMEDIATE. Bit 0 REF_IN, bit 1 REF_OUT (chapter 16) -/
abbrev chkReflect (u : Nat) : Nat := okey (0x7000 + 0x40 * u) 0x5

/-- K:06 RunningValue U64; access HAL:rw OWN:rw ENS:rw GST:rw DBG:r; default Init; IMMEDIATE. Raw register (R385) (chapter 16) -/
abbrev chkRunningValue (u : Nat) : Nat := okey (0x7000 + 0x40 * u) 0x6

/-- K:07 Result U64; access HAL:r ENS:r OWN:r GST:r DBG:r; default —; IMMEDIATE. R383 (chapter 16) -/
abbrev chkResult (u : Nat) : Nat := okey (0x7000 + 0x40 * u) 0x7

/-- K:08 Expected U64; access HAL:rw OWN:rw ENS:rw GST:rw DBG:r; default 0; IMMEDIATE. Compare value (chapter 16) -/
abbrev chkExpected (u : Nat) : Nat := okey (0x7000 + 0x40 * u) 0x8

/-- K:09 CompareOp U8; access HAL:rw OWN:rw ENS:rw GST:rw DBG:r; default —; IMMEDIATE. 1 compare, 2 restart at Init, 3 resync all alive streams (chapter 16) -/
abbrev chkCompareOp (u : Nat) : Nat := okey (0x7000 + 0x40 * u) 0x9

/-- K:0A CompareResult U8; access HAL:r ENS:r OWN:r GST:r DBG:r; default 0; IMMEDIATE. 0 none, 1 match, 2 mismatch (chapter 16) -/
abbrev chkCompareResult (u : Nat) : Nat := okey (0x7000 + 0x40 * u) 0xA

/-- K:0B FeedSource U8; access HAL:rw OWN:rw ENS:rw GST:rw DBG:r; default 0xFF; IMMEDIATE. R386 (chapter 16) -/
abbrev chkFeedSource (u : Nat) : Nat := okey (0x7000 + 0x40 * u) 0xB

/-- K:0C FeedData DOMAIN; access HAL:rw OWN:rw ENS:rw GST:rw DBG:r; default —; IMMEDIATE. Up to 4,096 bytes, fed by bytes (chapter 16) -/
abbrev chkFeedData (u : Nat) : Nat := okey (0x7000 + 0x40 * u) 0xC

/-- K:0D RecordMode U8; access HAL:rw OWN:rw ENS:rw GST:rw DBG:r; default 0; IMMEDIATE. 0 stream, 1 record (chapter 16) -/
abbrev chkRecordMode (u : Nat) : Nat := okey (0x7000 + 0x40 * u) 0xD

/-- K:0E–0F CrcOffset U8; access HAL:rw OWN:rw ENS:rw GST:rw DBG:r; default 0; IMMEDIATE. Byte offset; 0 little-endian, 1 big-endian (chapter 16) -/
abbrev chkCrcOffset (u : Nat) : Nat := okey (0x7000 + 0x40 * u) 0xE

/-- K:0E–0F CrcOrder U8; access HAL:rw OWN:rw ENS:rw GST:rw DBG:r; default 0; IMMEDIATE. Byte offset; 0 little-endian, 1 big-endian (chapter 16) -/
abbrev chkCrcOrder (u : Nat) : Nat := okey (0x7000 + 0x40 * u) 0xF

/-- K:10 AliveWidth U8; access HAL:rw OWN:rw ENS:rw GST:rw DBG:r; default 0; IMMEDIATE. 0 off, 4 or 8 (chapter 16) -/
abbrev chkAliveWidth (u : Nat) : Nat := okey (0x7000 + 0x40 * u) 0x10

/-- K:11 AliveBit U16; access HAL:rw OWN:rw ENS:rw GST:rw DBG:r; default 0; IMMEDIATE. 0 to 511 (chapter 16) -/
abbrev chkAliveBit (u : Nat) : Nat := okey (0x7000 + 0x40 * u) 0x11

/-- K:12 AliveGap U8; access HAL:rw OWN:rw ENS:rw GST:rw DBG:r; default 1; IMMEDIATE. 1 to 2^w − 1 (chapter 16) -/
abbrev chkAliveGap (u : Nat) : Nat := okey (0x7000 + 0x40 * u) 0x12

/-- K:13 LastAlive OCT(8); access HAL:r ENS:r OWN:r GST:r DBG:r; default zeros; IMMEDIATE. p of streams 0 to 7 (chapter 16) -/
abbrev chkLastAlive (u : Nat) : Nat := okey (0x7000 + 0x40 * u) 0x13

/-- K:14–15 Records U32; access HAL:r ENS:r OWN:r GST:r DBG:r; default 0; IMMEDIATE. Modulo 2^32 (chapter 16) -/
abbrev chkRecords (u : Nat) : Nat := okey (0x7000 + 0x40 * u) 0x14

/-- K:14–15 Fails U32; access HAL:r ENS:r OWN:r GST:r DBG:r; default 0; IMMEDIATE. Modulo 2^32 (chapter 16) -/
abbrev chkFails (u : Nat) : Nat := okey (0x7000 + 0x40 * u) 0x15

/-- S:01 SlotKind U8; access HAL:r ENS:r OWN:r GST:r DBG:r; default 0; IMMEDIATE. 0 empty, 1 AES-256, 2 P-256 private, 3 P-384 private, 4 P-256 public, 5 P-384 public, 6 Ed25519 public (chapter 16) -/
abbrev slotKind (s : Nat) : Nat := okey (0x440 + s) 0x1

/-- S:02 SlotUsage U8; access HAL:r ENS:r OWN:r GST:r DBG:r; default 0; IMMEDIATE. Bits: 0 GCM, 1 CMAC, 2 XTS, 3 sign, 4 verify, 5 ECDH, 6 unwrap (chapter 16) -/
abbrev slotUsage (s : Nat) : Nat := okey (0x440 + s) 0x2

/-- S:03 SlotHolder U8; access HAL:r ENS:r OWN:r GST:r DBG:r; default 0; IMMEDIATE. World whose sessions may use the slot (chapter 16) -/
abbrev slotHolder (s : Nat) : Nat := okey (0x440 + s) 0x3

/-- S:04 Generation U32; access HAL:r ENS:r OWN:r GST:r DBG:r; default 0; IMMEDIATE. R400 (chapter 16) -/
abbrev generation (s : Nat) : Nat := okey (0x440 + s) 0x4

/-- S:05 SlotState U8; access HAL:r ENS:r OWN:r GST:r DBG:r; default 0; IMMEDIATE. 0 EMPTY, 1 LIVE, 2 ERASE_PENDING (chapter 16) -/
abbrev slotState (s : Nat) : Nat := okey (0x440 + s) 0x5

/-- S:06 Bound U8; access HAL:r ENS:r OWN:r GST:r DBG:r; default 0; IMMEDIATE. Operations bound to the slot (chapter 16) -/
abbrev bound (s : Nat) : Nat := okey (0x440 + s) 0x6

/-- S:07 PublicKey OCT(97); access HAL:r ENS:r OWN:r GST:r DBG:r; default zeros; IMMEDIATE. Public point of kinds 2 to 6 (chapter 16) -/
abbrev publicKey (s : Nat) : Nat := okey (0x440 + s) 0x7

/-- 0x0400:01 LifecycleState U8; access HAL:r ENS:r OWN:r GST:r DBG:r; default —; IMMEDIATE. Fuse count (chapter 16) -/
abbrev lifecycleState : Nat := okey (0x400) 0x1

/-- 0x0400:02–03 OwnerSlot U8; access HAL:r ENS:r OWN:r GST:r DBG:r; default —; IMMEDIATE. Live slots; 0xFF none (chapter 16) -/
abbrev ownerSlot : Nat := okey (0x400) 0x2

/-- 0x0400:02–03 AcdonSlot U8; access HAL:r ENS:r OWN:r GST:r DBG:r; default —; IMMEDIATE. Live slots; 0xFF none (chapter 16) -/
abbrev acdonSlot : Nat := okey (0x400) 0x3

/-- 0x0400:04 RollbackFloors OCT(8); access HAL:r ENS:r OWN:r GST:r DBG:r; default —; IMMEDIATE. Classes 0 to 7 (chapter 16) -/
abbrev rollbackFloors : Nat := okey (0x400) 0x4

/-- 0x0400:05 HoursInService U32; access HAL:r ENS:r OWN:r GST:r DBG:r; default 0; IMMEDIATE. Hours with VMAIN or VBAK present (chapter 16) -/
abbrev hoursInService : Nat := okey (0x400) 0x5

/-- 0x0400:06–07 IdentityPub OCT(97); access HAL:r ENS:r OWN:r GST:r FLD:r DBG:r; default —; IMMEDIATE. R395 (chapter 16) -/
abbrev identityPub : Nat := okey (0x400) 0x6

/-- 0x0400:06–07 IdentityCert DOMAIN; access HAL:r ENS:r OWN:r GST:r FLD:r DBG:r; default —; IMMEDIATE. R395 (chapter 16) -/
abbrev identityCert : Nat := okey (0x400) 0x7

/-- 0x0401:01–07 KeyHash OCT(48); access HAL:r ENS:r OWN:r GST:r DBG:r; default —; IMMEDIATE. Acdon slots 0 to 2, owner slots 0 to 3 (chapter 16) -/
abbrev keyHash (j : Nat) : Nat := okey (0x401) (0x1 + j)

/-- 0x0401:08 RevokeMask U8; access HAL:r ENS:r OWN:r GST:r DBG:r; default —; IMMEDIATE. Bits 2:0 Acdon, 7:4 owner (chapter 16) -/
abbrev revokeMask : Nat := okey (0x401) 0x8

/-- 0x0402:01–10 Measurement OCT(48); access HAL:r ENS:r OWN:r GST:r FLD:r DBG:r; default zeros; IMMEDIATE. Registers 0 to 15 (chapter 16) -/
abbrev measurement (j : Nat) : Nat := okey (0x402) (0x1 + j)

/-- 0x0410:01–04 AttestNonce OCT(32); access HAL:rw ENS:rw OWN:rw GST:rw FLD:rw DBG:rw; default —; IMMEDIATE. R404 (chapter 16) -/
abbrev attestNonce : Nat := okey (0x410) 0x1

/-- 0x0410:01–04 AttestOp U8; access HAL:rw ENS:rw OWN:rw GST:rw FLD:rw DBG:rw; default —; IMMEDIATE. R404 (chapter 16) -/
abbrev attestOp : Nat := okey (0x410) 0x2

/-- 0x0410:01–04 AttestReport DOMAIN; access HAL:rw ENS:rw OWN:rw GST:rw FLD:rw DBG:rw; default —; IMMEDIATE. R404 (chapter 16) -/
abbrev attestReport : Nat := okey (0x410) 0x3

/-- 0x0410:01–04 AttestStatus U16; access HAL:rw ENS:rw OWN:rw GST:rw FLD:rw DBG:rw; default —; IMMEDIATE. R404 (chapter 16) -/
abbrev attestStatus : Nat := okey (0x410) 0x4

/-- 0x0420:01–06 CryptoSlot U8; access HAL:rw ENS:rw OWN:rw GST:rw DBG:rw; default —; IMMEDIATE. R397 (chapter 16) -/
abbrev cryptoSlot : Nat := okey (0x420) 0x1

/-- 0x0420:01–06 CryptoGen U32; access HAL:rw ENS:rw OWN:rw GST:rw DBG:rw; default —; IMMEDIATE. R397 (chapter 16) -/
abbrev cryptoGen : Nat := okey (0x420) 0x2

/-- 0x0420:01–06 CryptoInput DOMAIN; access HAL:rw ENS:rw OWN:rw GST:rw DBG:rw; default —; IMMEDIATE. R397 (chapter 16) -/
abbrev cryptoInput : Nat := okey (0x420) 0x3

/-- 0x0420:01–06 CryptoOp U8; access HAL:rw ENS:rw OWN:rw GST:rw DBG:rw; default —; IMMEDIATE. R397 (chapter 16) -/
abbrev cryptoOp : Nat := okey (0x420) 0x4

/-- 0x0420:01–06 CryptoStatus U16; access HAL:rw ENS:rw OWN:rw GST:rw DBG:rw; default —; IMMEDIATE. R397 (chapter 16) -/
abbrev cryptoStatus : Nat := okey (0x420) 0x5

/-- 0x0420:01–06 CryptoOutput DOMAIN; access HAL:rw ENS:rw OWN:rw GST:rw DBG:rw; default —; IMMEDIATE. R397 (chapter 16) -/
abbrev cryptoOutput : Nat := okey (0x420) 0x6

/-- 0x0430:01–06 KeySlot U8; access HAL:rw OWN:rw DBG:rw; default —; IMMEDIATE. R400 (chapter 16) -/
abbrev keySlot : Nat := okey (0x430) 0x1

/-- 0x0430:01–06 KeyKind U8; access HAL:rw OWN:rw DBG:rw; default —; IMMEDIATE. R400 (chapter 16) -/
abbrev keyKind : Nat := okey (0x430) 0x2

/-- 0x0430:01–06 KeyUsage U8; access HAL:rw OWN:rw DBG:rw; default —; IMMEDIATE. R400 (chapter 16) -/
abbrev keyUsage : Nat := okey (0x430) 0x3

/-- 0x0430:01–06 KeyData DOMAIN; access HAL:rw OWN:rw DBG:rw; default —; IMMEDIATE. R400 (chapter 16) -/
abbrev keyData : Nat := okey (0x430) 0x4

/-- 0x0430:01–06 KeyOp U8; access HAL:rw OWN:rw DBG:rw; default —; IMMEDIATE. R400 (chapter 16) -/
abbrev keyOp : Nat := okey (0x430) 0x5

/-- 0x0430:01–06 KeyStatus U16; access HAL:rw OWN:rw DBG:rw; default —; IMMEDIATE. R400 (chapter 16) -/
abbrev keyStatus : Nat := okey (0x430) 0x6

/-- 0x0470:01–03 OwnerTicket DOMAIN; access HAL:rw OWN:rw FLD:rw DBG:rw; default —; IMMEDIATE. R394 (chapter 16) -/
abbrev ownerTicket : Nat := okey (0x470) 0x1

/-- 0x0470:01–03 OwnerOp U8; access HAL:rw OWN:rw FLD:rw DBG:rw; default —; IMMEDIATE. R394 (chapter 16) -/
abbrev ownerOp : Nat := okey (0x470) 0x2

/-- 0x0470:01–03 OwnerStatus U16; access HAL:rw OWN:rw FLD:rw DBG:rw; default —; IMMEDIATE. R394 (chapter 16) -/
abbrev ownerStatus : Nat := okey (0x470) 0x3

/-- 0x0480:01 DebugCertIn OCT(456); access DBG:w OWN:w; default —; IMMEDIATE. Debug certificate for a DTLS session (R30) (chapter 16) -/
abbrev debugCertIn : Nat := okey (0x480) 0x1

/-- 0x0500:01 UpdState U8; access HAL:r OWN:r DBG:r; default 0; IMMEDIATE. 0 IDLE, 1 RECEIVING, 2 STAGED, 3 SCHEDULED, 4 ACTIVATING, 5 TRIAL (chapter 17) -/
abbrev updState : Nat := okey (0x500) 0x1

/-- 0x0500:02 UpdHeader OCT(4096); access HAL:w OWN:w DBG:w; default —; IMMEDIATE. R408 (chapter 17) -/
abbrev updHeader : Nat := okey (0x500) 0x2

/-- 0x0500:03 UpdBody DOMAIN; access HAL:w OWN:w DBG:w; default —; IMMEDIATE. Up to 192 MiB less 4 KiB (R409) (chapter 17) -/
abbrev updBody : Nat := okey (0x500) 0x3

/-- 0x0500:04 UpdOp U8; access HAL:w OWN:w DBG:w; default —; IMMEDIATE. 1 schedule, 2 cancel, 3 confirm, 4 reject, 5 raise floor, 6 load from USB (chapter 17) -/
abbrev updOp : Nat := okey (0x500) 0x4

/-- 0x0500:05–06 UpdStatus U16; access HAL:r OWN:r DBG:r; default 0; IMMEDIATE. Result of the last write or UpdOp (chapter 17) -/
abbrev updStatus : Nat := okey (0x500) 0x5

/-- 0x0500:05–06 UpdDetail U32; access HAL:r OWN:r DBG:r; default 0; IMMEDIATE. Result of the last write or UpdOp (chapter 17) -/
abbrev updDetail : Nat := okey (0x500) 0x6

/-- 0x0500:07 UpdActivateAt TIME64; access HAL:rw OWN:rw DBG:r; default 0; IMMEDIATE. R411 (chapter 17) -/
abbrev updActivateAt : Nat := okey (0x500) 0x7

/-- 0x0500:08 UpdTrialHours U16; access HAL:rw OWN:rw DBG:r; default 24; IMMEDIATE. 0 manual only; else 1 to 8,760 (chapter 17) -/
abbrev updTrialHours : Nat := okey (0x500) 0x8

/-- 0x0500:09 UpdTrialLeftH U16; access HAL:r OWN:r DBG:r; default 0; IMMEDIATE. Hours of trial left (chapter 17) -/
abbrev updTrialLeftH : Nat := okey (0x500) 0x9

/-- 0x0500:0A–0B UpdStagedVersion U32; access HAL:r OWN:r DBG:r; default 0; IMMEDIATE. Package VERSION (chapter 17) -/
abbrev updStagedVersion : Nat := okey (0x500) 0xA

/-- 0x0500:0A–0B UpdActiveVersion U32; access HAL:r OWN:r DBG:r; default 0; IMMEDIATE. Package VERSION (chapter 17) -/
abbrev updActiveVersion : Nat := okey (0x500) 0xB

/-- 0x0500:0C–0D UpdFloorClass U8; access HAL:rw OWN:rw DBG:r; default 0; IMMEDIATE. R419 (chapter 17) -/
abbrev updFloorClass : Nat := okey (0x500) 0xC

/-- 0x0500:0C–0D UpdFloorStep U8; access HAL:rw OWN:rw DBG:r; default 0; IMMEDIATE. R419 (chapter 17) -/
abbrev updFloorStep : Nat := okey (0x500) 0xD

/-- 0x0500:0E UpdUsbPort HANDLE; access HAL:rw OWN:rw DBG:r; default 0xFFFF; IMMEDIATE. R410 (chapter 17) -/
abbrev updUsbPort : Nat := okey (0x500) 0xE

/-- 0x0510:— FirmwareItems table, OCT(16) per item; access HAL:r OWN:r DBG:r; default —; IMMEDIATE. Through a window: handle (2), class (1), active bank (1), version A (4), version B (4), bank state A and B (1 each: 0 empty, 1 written, 2 active, 3 trial, 4 failed), zero (2) (chapter 17) -/
abbrev firmwareItems (j : Nat) : Nat := okey (0x510) (0x0 + j)

/-- 0x0600:01 JnlNextSeq U64; access HAL:r OWN:r DBG:r; default —; IMMEDIATE. Next SEQ, bits 47:0 (chapter 18) -/
abbrev jnlNextSeq : Nat := okey (0x600) 0x1

/-- 0x0600:02 JnlOldestSeq U64; access HAL:r OWN:r DBG:r; default —; IMMEDIATE. Oldest record held (chapter 18) -/
abbrev jnlOldestSeq : Nat := okey (0x600) 0x2

/-- 0x0600:03 JnlLiveRecords U32; access HAL:r OWN:r DBG:r; default 0; IMMEDIATE. R428 (chapter 18) -/
abbrev jnlLiveRecords : Nat := okey (0x600) 0x3

/-- 0x0600:04 JnlRate U32; access HAL:r OWN:r DBG:r; default 0; IMMEDIATE. Records in the last second (chapter 18) -/
abbrev jnlRate : Nat := okey (0x600) 0x4

/-- 0x0600:05 JnlTailBytes U32; access HAL:r OWN:r DBG:r; default 0; IMMEDIATE. Bytes in the tail (chapter 18) -/
abbrev jnlTailBytes : Nat := okey (0x600) 0x5

/-- 0x0600:06 JnlRecordLimit U32; access HAL:r OWN:r DBG:r; default 64,000; IMMEDIATE. Records per second; fixed (chapter 18) -/
abbrev jnlRecordLimit : Nat := okey (0x600) 0x6

/-- 0x0600:07–08 LastFlushAt TIME64; access HAL:r OWN:r DBG:r; default 0; IMMEDIATE. Hoist time of the sample that began the last flush (R448); bytes of tail it wrote to MRAM (chapter 18) -/
abbrev lastFlushAt : Nat := okey (0x600) 0x7

/-- 0x0600:07–08 LastFlushBytes U32; access HAL:r OWN:r DBG:r; default 0; IMMEDIATE. Hoist time of the sample that began the last flush (R448); bytes of tail it wrote to MRAM (chapter 18) -/
abbrev lastFlushBytes : Nat := okey (0x600) 0x8

/-- 0x0600:09 SettingsUsedKiB U32; access HAL:r OWN:r DBG:r; default 0; IMMEDIATE. Settings store in use, of 5,120 (chapter 18) -/
abbrev settingsUsedKiB : Nat := okey (0x600) 0x9

/-- 0x0601:01 ExportFromSeq U64; access HAL:rw OWN:rw GST:rw DBG:rw; default 0; IMMEDIATE. First SEQ; per session (chapter 18) -/
abbrev exportFromSeq : Nat := okey (0x601) 0x1

/-- 0x0601:02 ExportCount U32; access HAL:rw OWN:rw GST:rw DBG:rw; default 4,096; IMMEDIATE. 1 to 65,536; per session (chapter 18) -/
abbrev exportCount : Nat := okey (0x601) 0x2

/-- 0x0601:03 ExportOp U8; access HAL:w OWN:w GST:w DBG:w; default —; IMMEDIATE. 1 build (chapter 18) -/
abbrev exportOp : Nat := okey (0x601) 0x3

/-- 0x0601:04 ExportStatus U16; access HAL:r OWN:r GST:r DBG:r; default 0x0000; IMMEDIATE. Per session (chapter 18) -/
abbrev exportStatus : Nat := okey (0x601) 0x4

/-- 0x0601:05 ExportData DOMAIN; access HAL:r OWN:r GST:r DBG:r; default —; IMMEDIATE. Export, up to 4 MiB plus 160 bytes (chapter 18) -/
abbrev exportData : Nat := okey (0x601) 0x5

/-- 0x0300:01 PowerState U8; access HAL:r ENS:r OWN:r GST:r FLD:r DBG:r; default —; IMMEDIATE. Power state code (chapter 19) -/
abbrev powerState : Nat := okey (0x300) 0x1

/-- 0x0300:02–03 VmainMv U16; access HAL:r ENS:r OWN:r GST:r FLD:r DBG:r; default —; IMMEDIATE. Measured, mV (chapter 19) -/
abbrev vmainMv : Nat := okey (0x300) 0x2

/-- 0x0300:02–03 VbakMv U16; access HAL:r ENS:r OWN:r GST:r FLD:r DBG:r; default —; IMMEDIATE. Measured, mV (chapter 19) -/
abbrev vbakMv : Nat := okey (0x300) 0x3

/-- 0x0300:04 InputPowerMw U32; access HAL:r ENS:r OWN:r GST:r FLD:r DBG:r; default —; IMMEDIATE. Averaged over 100 ms (chapter 19) -/
abbrev inputPowerMw : Nat := okey (0x300) 0x4

/-- 0x0300:05 ResetCause U8; access HAL:r ENS:r OWN:r GST:r FLD:r DBG:r; default —; IMMEDIATE. Reset source code (chapter 19) -/
abbrev resetCause : Nat := okey (0x300) 0x5

/-- 0x0300:06 LastReturn U8; access HAL:r ENS:r OWN:r GST:r FLD:r DBG:r; default —; IMMEDIATE. 0 cold, 1 without flush, 2 after flush (chapter 19) -/
abbrev lastReturn : Nat := okey (0x300) 0x6

/-- 0x0300:07–08 HoldupCount U32; access HAL:r ENS:r OWN:r GST:r FLD:r DBG:r; default 0; IMMEDIATE. Since manufacture, modulo 2^32 (chapter 19) -/
abbrev holdupCount : Nat := okey (0x300) 0x7

/-- 0x0300:07–08 FlushCount U32; access HAL:r ENS:r OWN:r GST:r FLD:r DBG:r; default 0; IMMEDIATE. Since manufacture, modulo 2^32 (chapter 19) -/
abbrev flushCount : Nat := okey (0x300) 0x8

/-- 0x0300:09 HoldupSince TIME64; access HAL:r ENS:r OWN:r GST:r FLD:r DBG:r; default 0; IMMEDIATE. Start of the present hold-up; 0 for none (chapter 19) -/
abbrev holdupSince : Nat := okey (0x300) 0x9

/-- 0x0301:01 HoldupHeads U8; access HAL:rw OWN:rw others r; default 0x01; IMMEDIATE. Bit n: head n; at most two (R445) (chapter 19) -/
abbrev holdupHeads : Nat := okey (0x301) 0x1

/-- 0x0301:02 VbakWarnMv U16; access HAL:rw OWN:rw others r; default 3,300; IMMEDIATE. 2,900 to 5,500 (chapter 19) -/
abbrev vbakWarnMv : Nat := okey (0x301) 0x2

/-- 0x0301:03 RemoteOffInput U8; access HAL:rw OWN:rw others r; default 0xFF; IMMEDIATE. Discrete input 0 to 31, or 0xFF (chapter 19) -/
abbrev remoteOffInput : Nat := okey (0x301) 0x3

/-- 0x0301:04 HoldupLinks U8; access HAL:rw OWN:rw others r; default 0x00; IMMEDIATE. Bit l: hoist link l stays live (chapter 19) -/
abbrev holdupLinks : Nat := okey (0x301) 0x4

/-- 0x7400:01 HoistId U32; access HAL:rw OWN:rw DBG:r; default 0; IMMEDIATE. Hoist identity (R456) (chapter 20) -/
abbrev hoistId : Nat := okey (0x7400) 0x1

/-- 0x7400:02 CfgRole U8; access HAL:rw OWN:rw DBG:r; default 0; IMMEDIATE. 0 lone, 1 manager, 2 worker, 3 deputy (chapter 20) -/
abbrev cfgRole : Nat := okey (0x7400) 0x2

/-- 0x7400:03 CfgDeviceId U8; access HAL:rw OWN:rw DBG:r; default 0; IMMEDIATE. 0 to 63 (chapter 20) -/
abbrev cfgDeviceId : Nat := okey (0x7400) 0x3

/-- 0x7400:04 DeputyId U8; access HAL:rw OWN:rw DBG:r; default 0xFF; IMMEDIATE. Deputy device, or 0xFF (chapter 20) -/
abbrev deputyId : Nat := okey (0x7400) 0x4

/-- 0x7400:05 HoistMembers U64; access HAL:rw OWN:rw DBG:r; default 0; IMMEDIATE. Bit d: device d configured (chapter 20) -/
abbrev hoistMembers : Nat := okey (0x7400) 0x5

/-- 0x7400:06–07 ManagerLossMs U16; access HAL:rw OWN:rw DBG:r; default 50; IMMEDIATE. 20 to 1,000 (chapter 20) -/
abbrev managerLossMs : Nat := okey (0x7400) 0x6

/-- 0x7400:06–07 WorkerLossMs U16; access HAL:rw OWN:rw DBG:r; default 50; IMMEDIATE. 20 to 1,000 (chapter 20) -/
abbrev workerLossMs : Nat := okey (0x7400) 0x7

/-- 0x7400:08 HoistOp U8; access HAL:w OWN:w; default —; IMMEDIATE. 1 join, 2 leave (chapter 20) -/
abbrev hoistOp : Nat := okey (0x7400) 0x8

/-- 0x7400:09 HoistOpStatus U16; access HAL:r ENS:r OWN:r DBG:r; default 0x0000; IMMEDIATE. Per session (chapter 20) -/
abbrev hoistOpStatus : Nat := okey (0x7400) 0x9

/-- 0x7400:0A–0B TimeSource U8; access HAL:rw OWN:rw DBG:r; default 0; IMMEDIATE. R461; manager only (chapter 20) -/
abbrev timeSource : Nat := okey (0x7400) 0xA

/-- 0x7400:0A–0B PtpPort U8; access HAL:rw OWN:rw DBG:r; default 0; IMMEDIATE. R461; manager only (chapter 20) -/
abbrev ptpPort : Nat := okey (0x7400) 0xB

/-- 0x7400:0C–0D PtpDomain U8; access HAL:rw OWN:rw DBG:r; default 0; IMMEDIATE. R460; manager only (chapter 20) -/
abbrev ptpDomain : Nat := okey (0x7400) 0xC

/-- 0x7400:0C–0D PtpTransport U8; access HAL:rw OWN:rw DBG:r; default 0; IMMEDIATE. R460; manager only (chapter 20) -/
abbrev ptpTransport : Nat := okey (0x7400) 0xD

/-- 0x7401:01 HoistState U8; access HAL:r ENS:r OWN:r DBG:r; default 0; IMMEDIATE. 0 lone, 1 joining, 2 member, 3 isolated (chapter 20) -/
abbrev hoistState : Nat := okey (0x7401) 0x1

/-- 0x7401:02 HoistTerm U32; access HAL:r ENS:r OWN:r DBG:r; default 0; IMMEDIATE. R471 (chapter 20) -/
abbrev hoistTerm : Nat := okey (0x7401) 0x2

/-- 0x7401:03–04 ManagerId U8; access HAL:r ENS:r OWN:r DBG:r; default 0; IMMEDIATE. Tree position (chapter 20) -/
abbrev managerId : Nat := okey (0x7401) 0x3

/-- 0x7401:03–04 HopsToManager U8; access HAL:r ENS:r OWN:r DBG:r; default 0; IMMEDIATE. Tree position (chapter 20) -/
abbrev hopsToManager : Nat := okey (0x7401) 0x4

/-- 0x7401:05 ParentLink U8; access HAL:r ENS:r OWN:r DBG:r; default 0xFF; IMMEDIATE. 0 to 3; 0xFF on the manager (chapter 20) -/
abbrev parentLink : Nat := okey (0x7401) 0x5

/-- 0x7401:06 TimeOffsetNs S32; access HAL:r ENS:r OWN:r DBG:r; default 0; IMMEDIATE. Last offset from the parent (chapter 20) -/
abbrev timeOffsetNs : Nat := okey (0x7401) 0x6

/-- 0x7401:07 MembersAlive U64; access HAL:r ENS:r OWN:r DBG:r; default 0; IMMEDIATE. Manager: bit d while slot d is ALIVE or TRIAL (chapter 20) -/
abbrev membersAlive : Nat := okey (0x7401) 0x7

/-- 0x7401:08 MissedSched U64; access HAL:rw OWN:rw DBG:r; default 0; IMMEDIATE. R466 (chapter 20) -/
abbrev missedSched : Nat := okey (0x7401) 0x8

/-- 0x7410 + l:01 LinkState U8; access HAL:r ENS:r OWN:r DBG:r; default 0; IMMEDIATE. 0 down, 1 training, 2 authenticating, 3 parent or child, 4 standby, 5 failed (chapter 20) -/
abbrev hoistLinkState (l : Nat) : Nat := okey (0x7410 + l) 0x1

/-- 0x7410 + l:02–03 PeerDevice U8; access HAL:r ENS:r OWN:r DBG:r; default 0xFF; IMMEDIATE. Peer (chapter 20) -/
abbrev hoistPeerDevice (l : Nat) : Nat := okey (0x7410 + l) 0x2

/-- 0x7410 + l:02–03 PeerSerial U64; access HAL:r ENS:r OWN:r DBG:r; default 0; IMMEDIATE. Peer (chapter 20) -/
abbrev hoistPeerSerial (l : Nat) : Nat := okey (0x7410 + l) 0x3

/-- 0x7410 + l:04 LinkRttNs U32; access HAL:r ENS:r OWN:r DBG:r; default 0; IMMEDIATE. Last round trip (chapter 20) -/
abbrev hoistLinkRttNs (l : Nat) : Nat := okey (0x7410 + l) 0x4

/-- 0x7410 + l:05 LinkErrors U32; access HAL:r ENS:r OWN:r DBG:r; default 0; IMMEDIATE. Modulo 2^32 (chapter 20) -/
abbrev hoistLinkErrors (l : Nat) : Nat := okey (0x7410 + l) 0x5

/-- 0x7410 + l:06 FeedAdmittedMBps U32; access HAL:r ENS:r OWN:r DBG:r; default 0; IMMEDIATE. Outbound feed rate (chapter 20) -/
abbrev hoistFeedAdmittedMBps (l : Nat) : Nat := okey (0x7410 + l) 0x6

/-- 0x7420 + f:01–02 FeedSourceDevice U8; access HAL:rw OWN:rw DBG:r; default 0xFF; IMMEDIATE. Source (chapter 20) -/
abbrev feedSourceDevice (f : Nat) : Nat := okey (0x7420 + f) 0x1

/-- 0x7420 + f:01–02 FeedExport U32; access HAL:rw OWN:rw DBG:r; default 0; IMMEDIATE. Source (chapter 20) -/
abbrev feedExport (f : Nat) : Nat := okey (0x7420 + f) 0x2

/-- 0x7420 + f:03–04 FeedHead U8; access HAL:rw OWN:rw DBG:r; default 0; IMMEDIATE. Target layer (chapter 20) -/
abbrev feedHead (f : Nat) : Nat := okey (0x7420 + f) 0x3

/-- 0x7420 + f:03–04 FeedLayer U8; access HAL:rw OWN:rw DBG:r; default 0; IMMEDIATE. Target layer (chapter 20) -/
abbrev feedLayer (f : Nat) : Nat := okey (0x7420 + f) 0x4

/-- 0x7420 + f:05–07 FeedFormat U8; access HAL:rw OWN:rw DBG:r; default 0x01; IMMEDIATE. Surface, block layout (chapter 20) -/
abbrev feedFormat (f : Nat) : Nat := okey (0x7420 + f) 0x5

/-- 0x7420 + f:05–07 FeedWidth U16; access HAL:rw OWN:rw DBG:r; default 0; IMMEDIATE. Surface, block layout (chapter 20) -/
abbrev feedWidth (f : Nat) : Nat := okey (0x7420 + f) 0x6

/-- 0x7420 + f:05–07 FeedHeight U16; access HAL:rw OWN:rw DBG:r; default 0; IMMEDIATE. Surface, block layout (chapter 20) -/
abbrev feedHeight (f : Nat) : Nat := okey (0x7420 + f) 0x7

/-- 0x7420 + f:08 FeedHoldMs U16; access HAL:rw OWN:rw DBG:r; default 500; IMMEDIATE. 0 to 10,000 (chapter 20) -/
abbrev feedHoldMs (f : Nat) : Nat := okey (0x7420 + f) 0x8

/-- 0x7420 + f:09 FeedOp U8; access HAL:w OWN:w; default —; IMMEDIATE. 1 enable, 2 disable (chapter 20) -/
abbrev feedOp (f : Nat) : Nat := okey (0x7420 + f) 0x9

/-- 0x7420 + f:0A FeedState U8; access HAL:r ENS:r OWN:r DBG:r; default 0; IMMEDIATE. 0 off, 1 running, 2 lost (chapter 20) -/
abbrev feedState (f : Nat) : Nat := okey (0x7420 + f) 0xA

/-- 0x7420 + f:0B FeedFrames U32; access HAL:r ENS:r OWN:r DBG:r; default 0; IMMEDIATE. Copies shown, modulo 2^32 (chapter 20) -/
abbrev feedFrames (f : Nat) : Nat := okey (0x7420 + f) 0xB

/-- 0x7800 + k:01–80 Counter U32; access HAL:r ENS:r OWN:r GST:r DBG:r; default 0; IMMEDIATE. Counter 128k + sub − 1, k = 0 to 5; 0x7805 ends at sub 0x50 (chapter 21) -/
abbrev counter (k : Nat) (j : Nat) : Nat := okey (0x7800 + k) (0x1 + j)

/-- 0x7806:01 ChainMask OCT(90); access HAL:rw OWN:rw DBG:rw; default zeros; IMMEDIATE. R475 (chapter 21) -/
abbrev chainMask : Nat := okey (0x7806) 0x1

/-- 0x7806:02 OverflowFlags OCT(90); access HAL:r ENS:r OWN:r GST:r DBG:r; default zeros; IMMEDIATE. Bit n set on wrap of counter n (chapter 21) -/
abbrev overflowFlags : Nat := okey (0x7806) 0x2

/-- 0x7806:03 OverflowClear OCT(90); access HAL:w OWN:w GST:w DBG:w; default —; IMMEDIATE. 1 clears the bit, within R477 (chapter 21) -/
abbrev overflowClear : Nat := okey (0x7806) 0x3

/-- 0x7807:01–02 PairSelect U16; access HAL:rw ENS:rw OWN:rw GST:rw DBG:rw; default 0; IMMEDIATE. R476; per session (chapter 21) -/
abbrev pairSelect : Nat := okey (0x7807) 0x1

/-- 0x7807:01–02 PairValue U64; access HAL:rw ENS:rw OWN:rw GST:rw DBG:rw; default 0; IMMEDIATE. R476; per session (chapter 21) -/
abbrev pairValue : Nat := okey (0x7807) 0x2

/-- 0x7808:01–03 SnapshotOp U8; access HAL:rw ENS:rw OWN:rw DBG:rw; default —; IMMEDIATE. R476; per session (chapter 21) -/
abbrev snapshotOp : Nat := okey (0x7808) 0x1

/-- 0x7808:01–03 SnapshotStatus U16; access HAL:rw ENS:rw OWN:rw DBG:rw; default —; IMMEDIATE. R476; per session (chapter 21) -/
abbrev snapshotStatus : Nat := okey (0x7808) 0x2

/-- 0x7808:01–03 SnapshotTime TIME64; access HAL:rw ENS:rw OWN:rw DBG:rw; default —; IMMEDIATE. R476; per session (chapter 21) -/
abbrev snapshotTime : Nat := okey (0x7808) 0x3

/-- 0x7809:— Snapshot table, 720 × U32; access HAL:rw ENS:rw OWN:rw DBG:rw; default —; IMMEDIATE. Session's bank, through a window (chapter 21) -/
abbrev snapshot (j : Nat) : Nat := okey (0x7809) (0x0 + j)

/-- 0x7820 + s:01–03 SampleCounter U16; access HAL:rw OWN:rw GST:rw DBG:rw; default 0xFFFF; IMMEDIATE. R480 (chapter 21) -/
abbrev sampleCounter (s : Nat) : Nat := okey (0x7820 + s) 0x1

/-- 0x7820 + s:01–03 SamplePeriod U32; access HAL:rw OWN:rw GST:rw DBG:rw; default 0; IMMEDIATE. R480 (chapter 21) -/
abbrev samplePeriod (s : Nat) : Nat := okey (0x7820 + s) 0x2

/-- 0x7820 + s:01–03 SampleOp U8; access HAL:rw OWN:rw GST:rw DBG:rw; default —; IMMEDIATE. R480 (chapter 21) -/
abbrev sampleOp (s : Nat) : Nat := okey (0x7820 + s) 0x3

/-- 0x7820 + s:04–05 SampleHolder U16; access HAL:r ENS:r OWN:r GST:r DBG:r; default 0; IMMEDIATE. Arming session; lost crossings, modulo 2^32 (chapter 21) -/
abbrev sampleHolder (s : Nat) : Nat := okey (0x7820 + s) 0x4

/-- 0x7820 + s:04–05 SamplesLost U32; access HAL:r ENS:r OWN:r GST:r DBG:r; default 0; IMMEDIATE. Arming session; lost crossings, modulo 2^32 (chapter 21) -/
abbrev samplesLost (s : Nat) : Nat := okey (0x7820 + s) 0x5

/-- 0x0020:01 RemapRowsLeft U32; access HAL:r OWN:r DBG:r; default 64; IMMEDIATE. Spare rows left in the channel with fewest (chapter 22) -/
abbrev remapRowsLeft : Nat := okey (0x20) 0x1

/-- 0x0020:02 RetireRowsLeft U32; access HAL:r OWN:r DBG:r; default 2,048; IMMEDIATE. Entries left in the retirement list (chapter 22) -/
abbrev retireRowsLeft : Nat := okey (0x20) 0x2

/-- 0x0020:03 TouchPortsWhole U32; access HAL:r OWN:r DBG:r; default 8; IMMEDIATE. Touch ports in service with Degraded 0 (chapter 22) -/
abbrev touchPortsWhole : Nat := okey (0x20) 0x3

/-- 0x0020:04 NorBlocksLeft U32; access HAL:r OWN:r DBG:r; default 64; IMMEDIATE. Spare erase blocks left in the bank with fewest (chapter 22) -/
abbrev norBlocksLeft : Nat := okey (0x20) 0x4

/-- 0x0020:05 RollbackStepsLeft U32; access HAL:r OWN:r DBG:r; default 64; IMMEDIATE. 64 less the highest floor of classes 0 to 5 (chapter 22) -/
abbrev rollbackStepsLeft : Nat := okey (0x20) 0x5

/-- 0x0020:06 OwnerSlotsLeft U32; access HAL:r OWN:r DBG:r; default 4; IMMEDIATE. Owner-key slots never used (chapter 22) -/
abbrev ownerSlotsLeft : Nat := okey (0x20) 0x6

/-- 0x0020:07 AcdonSlotsLive U32; access HAL:r OWN:r DBG:r; default 3; IMMEDIATE. Acdon key slots not revoked (chapter 22) -/
abbrev acdonSlotsLive : Nat := okey (0x20) 0x7

/-- 0x0020:08 HeadroomHours U32; access HAL:r OWN:r DBG:r; default 0xFFFF_FFFF; IMMEDIATE. ForecastHours (R91) (chapter 22) -/
abbrev headroomHours : Nat := okey (0x20) 0x8

/-- 0x0038 + p:01 EthInterface U8; access HAL:rw OWN:rw DBG:r; default 3; IMMEDIATE. 0 to 3, as the table above (chapter 23) -/
abbrev ethInterface (p : Nat) : Nat := okey (0x38 + p) 0x1

/-- 0x0038 + p:02 EthLinkUp BOOL; access HAL:r OWN:r DBG:r; default 0; IMMEDIATE. Link up (chapter 23) -/
abbrev ethLinkUp (p : Nat) : Nat := okey (0x38 + p) 0x2

/-- 0x0038 + p:03 EthSpeedMbps U16; access HAL:r OWN:r DBG:r; default 0; IMMEDIATE. 1,000, 2,500 or 10,000 while up; 0 while down (chapter 23) -/
abbrev ethSpeedMbps (p : Nat) : Nat := okey (0x38 + p) 0x3

/-- 0x003C + p:01 PcieSpeedMax U8; access HAL:rw OWN:rw DBG:r; default 5; IMMEDIATE. 3, 4 or 5: 8, 16 or 32 GT/s (chapter 23) -/
abbrev pcieSpeedMax (p : Nat) : Nat := okey (0x3C + p) 0x1

/-- 0x003C + p:02 PcieClocking U8; access HAL:rw OWN:rw DBG:r; default 0; IMMEDIATE. 0 common clock, 1 SRIS (chapter 23) -/
abbrev pcieClocking (p : Nat) : Nat := okey (0x3C + p) 0x2

/-- 0x003C + p:03–04 PcieLinkSpeed U8; access HAL:r OWN:r DBG:r; default 0; IMMEDIATE. Rate generation and lanes in use; 0 while down (chapter 23) -/
abbrev pcieLinkSpeed (p : Nat) : Nat := okey (0x3C + p) 0x3

/-- 0x003C + p:03–04 PcieLinkWidth U8; access HAL:r OWN:r DBG:r; default 0; IMMEDIATE. Rate generation and lanes in use; 0 while down (chapter 23) -/
abbrev pcieLinkWidth (p : Nat) : Nat := okey (0x3C + p) 0x4

/-- 0x0030:01 IoLevels U32; access HAL:r ENS:r OWN:r GST:r DBG:r; default —; IMMEDIATE. Bit n: level at DIOn (chapter 23) -/
abbrev ioLevels : Nat := okey (0x30) 0x1

/-- 0x0030:02 IoOutputs U32; access HAL:r ENS:r OWN:r GST:r DBG:r; default 0; IMMEDIATE. Bit n: DIOn acting as an output (chapter 23) -/
abbrev ioOutputs : Nat := okey (0x30) 0x2

/-- 0x0030:03 IoPolarity U32; access HAL:rw OWN:rw ENS:r DBG:r; default 0; IMMEDIATE. R501 (chapter 23) -/
abbrev ioPolarity : Nat := okey (0x30) 0x3

/-- 0x0031 + k:01 LightMode U8; access HAL:rw OWN:rw ENS:r DBG:r; default 0; IMMEDIATE. 0 off, 1 100 kHz, 2 400 kHz (chapter 23) -/
abbrev lightMode (k : Nat) : Nat := okey (0x31 + k) 0x1

/-- 0x0031 + k:02–03 LightAddr U8; access HAL:rw OWN:rw ENS:r DBG:r; default 0x29; IMMEDIATE. 7-bit address; register pointer (chapter 23) -/
abbrev lightAddr (k : Nat) : Nat := okey (0x31 + k) 0x2

/-- 0x0031 + k:02–03 LightReg U8; access HAL:rw OWN:rw ENS:r DBG:r; default 0x00; IMMEDIATE. 7-bit address; register pointer (chapter 23) -/
abbrev lightReg (k : Nat) : Nat := okey (0x31 + k) 0x3

/-- 0x0031 + k:04 LightScale U32; access HAL:rw OWN:rw ENS:r DBG:r; default 1,000; IMMEDIATE. Millilux per count, 1 to 1,000,000 (chapter 23) -/
abbrev lightScale (k : Nat) : Nat := okey (0x31 + k) 0x4

/-- 0x0031 + k:05–06 LightValid BOOL; access HAL:r ENS:r OWN:r DBG:r; default 0; IMMEDIATE. R503; fails modulo 2^32 (chapter 23) -/
abbrev lightValid (k : Nat) : Nat := okey (0x31 + k) 0x5

/-- 0x0031 + k:05–06 LightFails U32; access HAL:r ENS:r OWN:r DBG:r; default 0; IMMEDIATE. R503; fails modulo 2^32 (chapter 23) -/
abbrev lightFails (k : Nat) : Nat := okey (0x31 + k) 0x6

end Obj
end Sys2Proof.Machine
end

