-- ==== Sys2Proof/Machine/Tables.lean ====
section
/-!
DEFINITION. Machine/Tables.lean: the default contents that the spec gives by a formula or by a table: the scaler
coefficient sets, the sRGB tables, the dimming table, the night matrices and the pass-through sections.
A DOMAIN value is held as the number whose little-endian bytes are the value's bytes followed by one byte 0x01
(so the length is part of it); an OCT value as the little-endian number of its bytes.
-/
namespace Sys2Proof.Machine.Tables

/-- Default horizontal coefficient set of band 0 (R223, formula default_weight). -/
def coefHBand0 : Nat :=
  0x1FFFE0005FFF203FF000FFFFB00020000FFFD000AFFE403FE001EFFF600030000FFFC000FFFD703FB002EFFF000050000FFFA0013FFCB03F9003EFFEA00070000FFF90017FFBF03F4004FFFE500090000FFF8001BFFB403F00060FFDF000BFFFFFFF7001FFFA903EB0071FFD9000DFFFFFFF60023FF9F03E30084FFD3000FFFFFFFF50026FF9603DC0096FFCD0011FFFFFFF4002AFF8D03D400A9FFC70013FFFEFFF3002DFF8403CC00BCFFC10015FFFEFFF20030FF7D03C100D0FFBB0017FFFEFFF20032FF7603B700E4FFB4001AFFFDFFF10035FF6F03AC00F8FFAE001CFFFDFFF10037FF6903A0010DFFA8001EFFFCFFF10039FF6403930121FFA20020FFFCFFF0003BFF5F03870136FF9C0022FFFBFFF0003CFF5B0377014CFF960025FFFBFFF0003DFF5803690161FF900027FFFAFFF0003EFF5403590177FF8B0029FFFAFFF0003FFF52034A018CFF85002BFFF9FFF00040FF50033801A2FF80002DFFF9FFF00041FF4E032801B8FF7A002FFFF8FFF00041FF4E031501CEFF750031FFF8FFF00041FF4D030401E4FF700033FFF7FFF10041FF4D02F101F9FF6C0035FFF6FFF10041FF4D02DF020FFF670036FFF6FFF10040FF4E02CC0225FF630038FFF5FFF20040FF5002B6023AFF600039FFF5FFF2003FFF5102A30250FF5C003BFFF4FFF3003EFF54028D0265FF59003CFFF4FFF3003DFF56027A027AFF56003DFFF3FFF4003CFF590265028DFF54003EFFF3FFF4003BFF5C025002A3FF51003FFFF2FFF50039FF60023A02B6FF500040FFF2FFF50038FF63022502CCFF4E0040FFF1FFF60036FF67020F02DFFF4D0041FFF1FFF60035FF6C01F902F1FF4D0041FFF1FFF70033FF7001E40304FF4D0041FFF0FFF80031FF7501CE0315FF4E0041FFF0FFF8002FFF7A01B80328FF4E0041FFF0FFF9002DFF8001A20338FF500040FFF0FFF9002BFF85018C034AFF52003FFFF0FFFA0029FF8B01770359FF54003EFFF0FFFA0027FF9001610369FF58003DFFF0FFFB0025FF96014C0377FF5B003CFFF0FFFB0022FF9C01360387FF5F003BFFF0FFFC0020FFA201210393FF640039FFF1FFFC001EFFA8010D03A0FF690037FFF1FFFD001CFFAE00F803ACFF6F0035FFF1FFFD001AFFB400E403B7FF760032FFF2FFFE0017FFBB00D003C1FF7D0030FFF2FFFE0015FFC100BC03CCFF84002DFFF3FFFE0013FFC700A903D4FF8D002AFFF4FFFF0011FFCD009603DCFF960026FFF5FFFF000FFFD3008403E3FF9F0023FFF6FFFF000DFFD9007103EBFFA9001FFFF7FFFF000BFFDF006003F0FFB4001BFFF800000009FFE5004F03F4FFBF0017FFF900000007FFEA003E03F9FFCB0013FFFA00000005FFF0002E03FBFFD7000FFFFC00000003FFF6001E03FEFFE4000AFFFD00000002FFFB000F03FFFFF20005FFFE00000000000000000400000000000000

/-- Default horizontal coefficient set of band 1 (R223, formula default_weight). -/
def coefHBand1 : Nat :=
  0x1FFA7FFFC0148021901530004FFA6FFFFFFA8FFF90143021901590008FFA5FFFDFFA9FFF5013E0219015F000CFFA4FFFCFFA9FFF10138021C01640010FFA4FFFAFFAAFFEE0133021B016A0014FFA3FFF9FFABFFEB012E021901700018FFA3FFF8FFACFFE70128021C0175001CFFA2FFF6FFADFFE401230219017B0021FFA2FFF5FFAEFFE1011E021901810025FFA1FFF3FFAFFFDE011802180186002AFFA1FFF2FFB0FFDA01130219018B002EFFA1FFF0FFB1FFD8010D021701910033FFA1FFEEFFB2FFD50107021601960038FFA1FFEDFFB4FFD201020215019B003CFFA1FFEBFFB5FFCF00FC021301A10041FFA1FFEAFFB6FFCC00F6021301A60046FFA1FFE8FFB7FFCA00F1021101AB004BFFA1FFE6FFB9FFC700EB020F01B00050FFA1FFE5FFBAFFC500E5020F01B40055FFA1FFE3FFBBFFC200E0020D01B9005AFFA2FFE1FFBDFFC000DA020A01BE005FFFA2FFE0FFBEFFBE00D4020801C20065FFA3FFDEFFC0FFBC00CF020401C7006AFFA3FFDDFFC1FFBA00C9020301CB006FFFA4FFDBFFC3FFB800C301FF01D00075FFA5FFD9FFC4FFB600BD01FD01D4007AFFA6FFD8FFC6FFB400B801F901D80080FFA7FFD6FFC7FFB200B201F801DC0085FFA8FFD4FFC9FFB100AC01F301E0008BFFA9FFD3FFCAFFAF00A701F101E40090FFAAFFD1FFCCFFAE00A101EE01E70096FFABFFCFFFCEFFAC009B01EB01EB009BFFACFFCEFFCFFFAB009601E701EE00A1FFAEFFCCFFD1FFAA009001E401F100A7FFAFFFCAFFD3FFA9008B01E001F300ACFFB1FFC9FFD4FFA8008501DC01F800B2FFB2FFC7FFD6FFA7008001D801F900B8FFB4FFC6FFD8FFA6007A01D401FD00BDFFB6FFC4FFD9FFA5007501D001FF00C3FFB8FFC3FFDBFFA4006F01CB020300C9FFBAFFC1FFDDFFA3006A01C7020400CFFFBCFFC0FFDEFFA3006501C2020800D4FFBEFFBEFFE0FFA2005F01BE020A00DAFFC0FFBDFFE1FFA2005A01B9020D00E0FFC2FFBBFFE3FFA1005501B4020F00E5FFC5FFBAFFE5FFA1005001B0020F00EBFFC7FFB9FFE6FFA1004B01AB021100F1FFCAFFB7FFE8FFA1004601A6021300F6FFCCFFB6FFEAFFA1004101A1021300FCFFCFFFB5FFEBFFA1003C019B02150102FFD2FFB4FFEDFFA10038019602160107FFD5FFB2FFEEFFA1003301910217010DFFD8FFB1FFF0FFA1002E018B02190113FFDAFFB0FFF2FFA1002A018602180118FFDEFFAFFFF3FFA1002501810219011EFFE1FFAEFFF5FFA20021017B02190123FFE4FFADFFF6FFA2001C0175021C0128FFE7FFACFFF8FFA3001801700219012EFFEBFFABFFF9FFA30014016A021B0133FFEEFFAAFFFAFFA400100164021C0138FFF1FFA9FFFCFFA4000C015F0219013EFFF5FFA9FFFDFFA50008015902190143FFF9FFA8FFFFFFA60004015302190148FFFCFFA70000FFA70000014D0218014D0000FFA7

/-- Default horizontal coefficient set of band 2 (R223, formula default_weight). -/
def coefHBand2 : Nat :=
  0x1003E008900C600DF00C8008B00400001003D008800C600DE00C8008C00410002003C008700C500DE00C9008D00420002003A008500C400E000C9008E004300030039008400C300DE00CA008F004500040038008300C200DD00CB0090004600050037008200C100DD00CB0091004700060036008000C000DE00CC0092004800060035007F00BF00DE00CC0093004900070033007E00BF00DD00CD0094004A00080032007D00BE00DD00CD0095004B00090031007B00BD00DD00CE0096004C000A0030007A00BC00DC00CE0097004E000B002F007900BB00DB00CF0098004F000C002E007800BA00DC00CF00990050000C002D007700B900DC00CF009A0051000D002C007500B800DC00D0009B0052000E002B007400B700DC00D0009C0053000F002A007300B600DB00D1009D005400100029007200B500DB00D1009E005500110028007100B500D800D2009F005700120026006F00B400DA00D200A0005800130025006E00B300D900D300A1005900140024006D00B200D900D300A2005A00150023006C00B100D900D300A3005B00160022006B00B000D900D400A4005C00160021006900AF00D900D400A5005E00170020006800AE00D800D500A6005F0018001F006700AD00D800D500A700600019001E006600AC00D800D500A80061001A001D006500AB00D700D600A90062001B001C006300AA00D600D800AA0063001C001B006200A900D600D700AB0065001D001A006100A800D500D800AC0066001E0019006000A700D500D800AD0067001F0018005F00A600D500D800AE006800200017005E00A500D400D900AF006900210016005C00A400D400D900B0006B00220016005B00A300D300D900B1006C00230015005A00A200D300D900B2006D00240014005900A100D300D900B3006E00250013005800A000D200DA00B4006F002600120057009F00D200D800B50071002800110055009E00D100DB00B50072002900100054009D00D100DB00B60073002A000F0053009C00D000DC00B70074002B000E0052009B00D000DC00B80075002C000D0051009A00CF00DC00B90077002D000C0050009900CF00DC00BA0078002E000C004F009800CF00DB00BB0079002F000B004E009700CE00DC00BC007A0030000A004C009600CE00DD00BD007B00310009004B009500CD00DD00BE007D00320008004A009400CD00DD00BF007E003300070049009300CC00DE00BF007F003500060048009200CC00DE00C00080003600060047009100CB00DD00C10082003700050046009000CB00DD00C20083003800040045008F00CA00DE00C30084003900030043008E00C900E000C40085003A00020042008D00C900DE00C50087003C00020041008C00C800DE00C60088003D00010040008B00C800DF00C60089003E0000003F008A00C700E000C7008A003F

/-- Default horizontal coefficient set of band 3 (R223, formula default_weight). -/
def coefHBand3 : Nat :=
  0x10072008400900096009000850073005C0072008400900094009100850073005D0072008400900093009100850074005D0071008400900094009100850074005D00710083008F0094009100860074005E00710083008F0094009100860074005E00700083008F0094009100860075005E00700082008F0094009100860075005F006F0082008F0095009100860075005F006F0082008F00930091008700750060006F0082008E00930091008700760060006E0081008E00950091008700760060006E0081008E00940091008700760061006E0081008E00930091008700770061006D0080008E00940091008800770061006D0080008E00930091008800770062006D0080008D00930092008800770062006C0080008D00930092008800780062006C007F008D00930092008800780063006B007F008D00940092008800780063006B007F008D00920092008900790063006B007E008C00930092008900790064006A007E008C00940092008900790064006A007E008C00940092008900790064006A007E008C009200920089007A00650069007D008C00930092008A007A00650069007D008C00930092008A007A00650069007D008B00920092008A007B00660068007D008B00930092008A007B00660068007C008B00940092008A007B00660068007C008B00930092008A007B00670067007C008B00930091008B007C00670067007B008A00920093008B007C00680066007B008A00920094008B007C00680066007B008A00920093008B007D00680066007B008A00920092008B007D00690065007A008A00920093008C007D00690065007A008A00920093008C007D00690065007A008900920092008C007E006A00640079008900920094008C007E006A00640079008900920094008C007E006A00640079008900920093008C007E006B00630079008900920092008D007F006B00630078008800920094008D007F006B00630078008800920093008D007F006C00620078008800920093008D0080006C00620077008800920093008D0080006D00620077008800910093008E0080006D00610077008800910094008E0080006D00610077008700910093008E0081006E00610076008700910094008E0081006E00600076008700910095008E0081006E00600076008700910093008E0082006F00600075008700910093008F0082006F005F0075008600910095008F0082006F005F0075008600910094008F00820070005E0075008600910094008F00830070005E0074008600910094008F00830071005E0074008600910094008F00830071005D0074008500910094009000840071005D0074008500910093009000840072005D0073008500910094009000840072005C0073008500900096009000840072005C0073008500900094009000850073

/-- Default vertical coefficient set of band 0 (R223, formula default_weight). -/
def coefVBand0 : Nat :=
  0x10003FFF303FF000EFFFD00000006FFE703FE001CFFF900000009FFDB03FD002AFFF50000000CFFD003FA0039FFF10000000EFFC503F60049FFED00010011FFBB03F10059FFE900010013FFB203EB006AFFE500010015FFA903E3007CFFE100020017FFA103DD008DFFDC00020018FF9903D400A0FFD80003001AFF9203CB00B2FFD30004001BFF8C03C200C5FFCE0004001CFF8603B700D9FFC90005001DFF8003AC00EDFFC40006001EFF7C039F0101FFBF0007001FFF7803910116FFBA0008001FFF740386012AFFB500080020FF7103760140FFB000090020FF6E03670155FFAB000B0020FF6C0357016BFFA6000C0020FF6A03470180FFA2000D0020FF6903360196FF9D000E0020FF69032401ACFF98000F001FFF68031401C2FF930010001FFF6902FF01D9FF8F0011001EFF6902ED01EFFF8B0012001DFF6A02D90205FF870014001DFF6C02C4021BFF830015001CFF6E02B00231FF7F0016001BFF70029C0247FF7B0017001AFF720287025DFF7800180019FF7502720272FF7500190018FF78025D0287FF72001A0017FF7B0247029CFF70001B0016FF7F023102B0FF6E001C0015FF83021B02C4FF6C001D0014FF87020502D9FF6A001D0012FF8B01EF02EDFF69001E0011FF8F01D902FFFF69001F0010FF9301C20314FF68001F000FFF9801AC0324FF690020000EFF9D01960336FF690020000DFFA201800347FF6A0020000CFFA6016B0357FF6C0020000BFFAB01550367FF6E00200009FFB001400376FF7100200008FFB5012A0386FF74001F0008FFBA01160391FF78001F0007FFBF0101039FFF7C001E0006FFC400ED03ACFF80001D0005FFC900D903B7FF86001C0004FFCE00C503C2FF8C001B0004FFD300B203CBFF92001A0003FFD800A003D4FF9900180002FFDC008D03DDFFA100170002FFE1007C03E3FFA900150001FFE5006A03EBFFB200130001FFE9005903F1FFBB00110001FFED004903F6FFC5000E0000FFF1003903FAFFD0000C0000FFF5002A03FDFFDB00090000FFF9001C03FEFFE700060000FFFD000E03FFFFF30003000000000000040000000000

/-- Default vertical coefficient set of band 1 (R223, formula default_weight). -/
def coefVBand1 : Nat :=
  0x1FFFD012601ED01300003FFBDFFFA012101EC01360007FFBCFFF7011C01ED013B000AFFBBFFF4011701ED0140000DFFBBFFF1011201ED01450011FFBAFFEE010D01EC014B0014FFBAFFEB010801EC01500018FFB9FFE9010301EA0155001CFFB9FFE600FE01EA015A0020FFB8FFE400F901E9015F0023FFB8FFE100F301E901640027FFB8FFDF00EE01E80169002BFFB7FFDC00E901E8016D002FFFB7FFDA00E401E601720033FFB7FFD800DF01E301770038FFB7FFD600D901E2017C003CFFB7FFD400D401E101800040FFB7FFD200CF01DE01850045FFB7FFD000CA01DD01890049FFB7FFCE00C401DD018D004DFFB7FFCC00BF01DA01920052FFB7FFCB00BA01D701960056FFB8FFC900B501D5019A005BFFB8FFC800B001D2019E0060FFB8FFC600AA01D101A20064FFB9FFC500A501CE01A60069FFB9FFC300A001CB01AA006EFFBAFFC2009B01C701AE0073FFBBFFC1009601C501B10078FFBBFFC0009101C101B5007DFFBCFFBF008C01BE01B80082FFBDFFBE008701BC01BA0087FFBEFFBD008201B801BE008CFFBFFFBC007D01B501C10091FFC0FFBB007801B101C50096FFC1FFBB007301AE01C7009BFFC2FFBA006E01AA01CB00A0FFC3FFB9006901A601CE00A5FFC5FFB9006401A201D100AAFFC6FFB80060019E01D200B0FFC8FFB8005B019A01D500B5FFC9FFB80056019601D700BAFFCBFFB70052019201DA00BFFFCCFFB7004D018D01DD00C4FFCEFFB70049018901DD00CAFFD0FFB70045018501DE00CFFFD2FFB70040018001E100D4FFD4FFB7003C017C01E200D9FFD6FFB70038017701E300DFFFD8FFB70033017201E600E4FFDAFFB7002F016D01E800E9FFDCFFB7002B016901E800EEFFDFFFB80027016401E900F3FFE1FFB80023015F01E900F9FFE4FFB80020015A01EA00FEFFE6FFB9001C015501EA0103FFE9FFB90018015001EC0108FFEBFFBA0014014B01EC010DFFEEFFBA0011014501ED0112FFF1FFBB000D014001ED0117FFF4FFBB000A013B01ED011CFFF7FFBC0007013601EC0121FFFAFFBD0003013001ED0126FFFDFFBE0000012B01EC012B0000

/-- Default vertical coefficient set of band 2 (R223, formula default_weight). -/
def coefVBand2 : Nat :=
  0x1009100D500EF00D600930042008F00D400EF00D700940043008E00D300EF00D700950044008C00D100F000D800960045008B00D000EF00D800970047008A00CF00EE00D900980048008800CE00EF00D900990049008700CD00EE00DA009A004A008500CC00EE00DA009C004B008400CB00ED00DB009D004C008300CA00EC00DB009E004E008100C900EC00DC009F004F008000C800EC00DC00A00050007F00C700EB00DD00A10051007D00C600EC00DD00A20052007C00C500EB00DE00A30053007B00C400EA00DE00A40055007900C300EA00DF00A50056007800C200EA00DF00A60057007700C100E900E000A70058007500C000EA00E000A80059007400BF00E800E100A9005B007300BE00E800E100AA005C007100BC00E900E100AC005D007000BB00E800E200AD005E006F00BA00E700E200AE0060006D00B900E700E300AF0061006C00B800E700E300B00062006B00B700E600E400B10063006A00B600E500E400B20065006800B500E600E400B30066006700B400E500E500B40067006600B300E400E600B50068006500B200E400E500B6006A006300B100E400E600B7006B006200B000E300E700B8006C006100AF00E300E700B9006D006000AE00E200E700BA006F005E00AD00E200E800BB0070005D00AC00E100E900BC0071005C00AA00E100E800BE0073005B00A900E100E800BF0074005900A800E000EA00C00075005800A700E000E900C10077005700A600DF00EA00C20078005600A500DF00EA00C30079005500A400DE00EA00C4007B005300A300DE00EB00C5007C005200A200DD00EC00C6007D005100A100DD00EB00C7007F005000A000DC00EC00C80080004F009F00DC00EC00C90081004E009E00DB00EC00CA0083004C009D00DB00ED00CB0084004B009C00DA00EE00CC0085004A009A00DA00EE00CD00870049009900D900EF00CE00880048009800D900EE00CF008A0047009700D800EF00D0008B0045009600D800F000D1008C0044009500D700EF00D3008E0043009400D700EF00D4008F0042009300D600EF00D500910041009200D600EF00D60092

/-- Default vertical coefficient set of band 3 (R223, formula default_weight). -/
def coefVBand3 : Nat :=
  0x100A600B500BB00B500A6008F00A500B500BB00B500A7008F00A500B500B900B600A7009000A500B400BA00B600A7009000A400B400BB00B600A7009000A400B400B900B600A8009100A300B400BA00B600A8009100A300B300BB00B600A8009100A300B300BA00B600A8009200A200B300BB00B600A8009200A200B300B900B600A9009300A200B200BA00B600A9009300A100B200BB00B600A9009300A100B200B900B700A9009400A000B200B900B700AA009400A000B200B900B700AA009400A000B100B900B700AA0095009F00B100BA00B700AA0095009F00B100B900B700AB0095009F00B100B800B700AB0096009E00B000BA00B700AB0096009E00B000B900B700AB0097009E00B000B800B700AC0097009D00B000B900B700AC0097009D00AF00B900B700AC0098009C00AF00B900B800AC0098009C00AF00B800B800AD0098009C00AF00B800B700AD0099009B00AE00B800B900AD0099009B00AE00B800B900AD0099009B00AE00B800B800AD009A009A00AE00B800B800AE009A009A00AD00B800B800AE009B009900AD00B800B900AE009B009900AD00B800B900AE009B009900AD00B800B700AF009C009800AD00B800B800AF009C009800AC00B800B900AF009C009800AC00B700B900AF009D009700AC00B700B900B0009D009700AC00B700B800B0009E009700AB00B700B900B0009E009600AB00B700BA00B0009E009600AB00B700B800B1009F009500AB00B700B900B1009F009500AA00B700BA00B1009F009500AA00B700B900B100A0009400AA00B700B900B200A0009400AA00B700B900B200A0009400A900B700B900B200A1009300A900B600BB00B200A1009300A900B600BA00B200A2009300A900B600B900B300A2009200A800B600BB00B300A2009200A800B600BA00B300A3009100A800B600BB00B300A3009100A800B600BA00B400A3009100A800B600B900B400A4009000A700B600BB00B400A4009000A700B600BA00B400A5009000A700B600B900B500A5008F00A700B500BB00B500A5008F00A600B500BB00B500A6008F00A600B500BB00B500A6

/-- Horizontal coefficient sets of scaler quality 1, bands 0 to 3 (R224: 4 taps, Lanczos with a = 2, formula default_weight). -/
def coefReduced : Nat :=
  0x10104010c010400ec0103010d010400ec0103010c010400ed0102010c010500ed0102010c010500ed0102010b010500ee0101010c010500ee0101010b010500ef0100010c010500ef0100010c010500ef0100010b010500f000ff010b010600f000ff010b010600f000ff010a010600f100fe010b010600f100fe010a010600f200fd010b010600f200fd010b010600f200fd0109010700f300fc010a010700f300fc0109010700f400fc0109010700f400fb010a010700f400fb0109010700f500fa010a010700f500fa0109010800f500fa0108010800f600f90109010800f600f90108010800f700f80109010800f700f80108010900f700f80108010800f800f70108010900f800f70108010900f800f70108010800f900f60108010900f900f60108010800fa00f50108010900fa00f50107010a00fa00f50107010900fb00f40107010a00fb00f40107010900fc00f40107010900fc00f30107010a00fc00f30107010900fd00f20106010b00fd00f20106010b00fd00f20106010a00fe00f10106010b00fe00f10106010a00ff00f00106010b00ff00f00106010b00ff00f00105010b010000ef0105010c010000ef0105010c010000ef0105010b010100ee0105010c010100ee0105010b010200ed0105010c010200ed0105010c010200ed0104010c010300ec0104010d010300ec0104010c010400ec0104010c0104010c0133010f00b2010b0133010f00b301090132011000b501080131011100b601060132011100b701050130011200b901030130011300ba0102012f011300bc0100012f011400bd00ff012e011500be00fd012e011500c000fb012e011600c100fa012c011700c300f8012d011700c400f7012c011800c500f5012c011800c700f4012b011900c800f2012a011a00ca00f1012a011a00cb00ef012a011b00cc00ee0128011c00ce00ec0129011c00cf00eb0127011d00d100e90128011d00d200e80126011e00d400e70125011f00d500e50126011f00d600e40124012000d800e20125012000d900e10123012100db00df0123012200dc00de0122012200de00dc0122012300df00db0121012300e100d90120012500e200d80120012400e400d6011f012600e500d5011f012500e700d4011e012600e800d2011d012800e900d1011d012700eb00cf011c012900ec00ce011c012800ee00cc011b012a00ef00cb011a012a00f100ca011a012a00f200c80119012b00f400c70118012c00f500c50118012c00f700c40117012d00f800c30117012c00fa00c10116012e00fb00c00115012e00fd00be0115012e00ff00bd0114012f010000bc0113012f010200ba01130130010300b901120130010500b701110132010600b601110131010800b501100132010900b3010f0133010b00b2010f0133010c00b0010e0134010e010c01dc01160002010601da011b0005010001da011f000700fa01d80124000a00f501d60128000d00ef01d6012c000f00ea01d30131001200e401d20135001500de01d0013a001800d901ce013e001b00d401cc0142001e00ce01ca0147002100c901c8014b002400c301c7014f002700be01c40153002b00b901c20157002e00b401bf015b003200af01bc0160003500aa01b90164003900a501b70168003c00a001b4016c0040009b01b2016f0044009601b001730047009101ad0177004b008c01aa017b004f008701a7017f0053008301a401820057007e01a10186005b007a019e0189005f0075019a018d00640071019701900068006c01940194006c00680190019700710064018d019a0075005f0189019e007a005b018601a1007e0057018201a400830053017f01a70087004f017b01aa008c004b017701ad00910047017301b000960044016f01b2009b0040016c01b400a0003c016801b700a50039016401b900aa0035016001bc00af0032015b01bf00b4002e015701c200b9002b015301c400be0027014f01c700c30024014b01c800c90021014701ca00ce001e014201cc00d4001b013e01ce00d90018013a01d000de0015013501d200e40012013101d300ea000f012c01d600ef000d012801d600f5000a012401d800fa0007011f01da01000005011b01da01060002011601dc010c0000011101de0111fff603ff000b0000ffed03fd00160000ffe403fc0021ffffffdc03f7002effffffd503f2003bfffeffce03ec0048fffeffc803e40057fffdffc303dc0065fffcffbe03d30075fffaffb903c90085fff9ffb603bd0095fff8ffb203b200a6fff6ffb003a500b7fff4ffad039800c9fff2ffab038900dcfff0ffaa037900efffeeffa903690102ffecffa903590115ffe9ffa903480129ffe6ffa90335013effe4ffa903240152ffe1ffaa03110167ffdeffac02fd017cffdbffad02ea0191ffd8ffaf02d501a7ffd5ffb102c001bdffd2ffb302ac01d2ffcfffb5029701e8ffccffb8028101feffc9ffba026c0214ffc6ffbd0256022affc3ffc002400240ffc0ffc3022a0256ffbdffc60214026cffbaffc901fe0281ffb8ffcc01e80297ffb5ffcf01d202acffb3ffd201bd02c0ffb1ffd501a702d5ffafffd8019102eaffadffdb017c02fdffacffde01670311ffaaffe101520324ffa9ffe4013e0335ffa9ffe601290348ffa9ffe901150359ffa9ffec01020369ffa9ffee00ef0379ffaafff000dc0389ffabfff200c90398ffadfff400b703a5ffb0fff600a603b2ffb2fff8009503bdffb6fff9008503c9ffb9fffa007503d3ffbefffc006503dcffc3fffd005703e4ffc8fffe004803ecffcefffe003b03f2ffd5ffff002e03f7ffdcffff002103fcffe40000001603fdffed0000000b03fffff60000000004000000

/-- Default degamma table: sRGB decode, 3 tables of 257 nodes (R225); rounding to nearest is DEDUCED, log 9. -/
def srgbDecode : Nat :=
  0x10FFF0FDD0FB90F950F710F4E0F2A0F070EE40EC10E9F0E7C0E5A0E380E160DF40DD30DB10D900D6F0D4E0D2E0D0D0CED0CCD0CAD0C8E0C6E0C4F0C300C110BF20BD30BB50B970B780B5B0B3D0B1F0B020AE50AC80AAB0A8E0A720A560A390A1E0A0209E609CB09AF09940979095F0944092A091008F608DC08C208A8088F0876085D0844082B081307FB07E207CA07B2079B0783076C0755073E0727071006FA06E306CD06B706A1068C06760661064C06370622060D05F805E405D005BC05A805940580056D055A054605330521050E04FB04E904D704C504B304A10490047E046D045C044B043A04290419040803F803E803D803C803B903A9039A038B037C036D035E03500341033303250317030902FB02ED02E002D302C602B902AC029F02920286027A026D02610255024A023E02320227021C0211020601FB01F001E601DB01D101C701BD01B301A901A00196018D0183017A0171016801600157014E0146013E0136012E0126011E0116010F0107010000F900F200EB00E400DD00D700D000CA00C400BE00B800B200AC00A600A1009B00960091008C00870082007D00780074006F006B00660062005E005A00560053004F004B004800440041003E003B003800350032002F002D002A0028002500230021001F001C001B001900170015001300120010000F000E000C000B000A000900070006000500040002000100000FFF0FDD0FB90F950F710F4E0F2A0F070EE40EC10E9F0E7C0E5A0E380E160DF40DD30DB10D900D6F0D4E0D2E0D0D0CED0CCD0CAD0C8E0C6E0C4F0C300C110BF20BD30BB50B970B780B5B0B3D0B1F0B020AE50AC80AAB0A8E0A720A560A390A1E0A0209E609CB09AF09940979095F0944092A091008F608DC08C208A8088F0876085D0844082B081307FB07E207CA07B2079B0783076C0755073E0727071006FA06E306CD06B706A1068C06760661064C06370622060D05F805E405D005BC05A805940580056D055A054605330521050E04FB04E904D704C504B304A10490047E046D045C044B043A04290419040803F803E803D803C803B903A9039A038B037C036D035E03500341033303250317030902FB02ED02E002D302C602B902AC029F02920286027A026D02610255024A023E02320227021C0211020601FB01F001E601DB01D101C701BD01B301A901A00196018D0183017A0171016801600157014E0146013E0136012E0126011E0116010F0107010000F900F200EB00E400DD00D700D000CA00C400BE00B800B200AC00A600A1009B00960091008C00870082007D00780074006F006B00660062005E005A00560053004F004B004800440041003E003B003800350032002F002D002A0028002500230021001F001C001B001900170015001300120010000F000E000C000B000A000900070006000500040002000100000FFF0FDD0FB90F950F710F4E0F2A0F070EE40EC10E9F0E7C0E5A0E380E160DF40DD30DB10D900D6F0D4E0D2E0D0D0CED0CCD0CAD0C8E0C6E0C4F0C300C110BF20BD30BB50B970B780B5B0B3D0B1F0B020AE50AC80AAB0A8E0A720A560A390A1E0A0209E609CB09AF09940979095F0944092A091008F608DC08C208A8088F0876085D0844082B081307FB07E207CA07B2079B0783076C0755073E0727071006FA06E306CD06B706A1068C06760661064C06370622060D05F805E405D005BC05A805940580056D055A054605330521050E04FB04E904D704C504B304A10490047E046D045C044B043A04290419040803F803E803D803C803B903A9039A038B037C036D035E03500341033303250317030902FB02ED02E002D302C602B902AC029F02920286027A026D02610255024A023E02320227021C0211020601FB01F001E601DB01D101C701BD01B301A901A00196018D0183017A0171016801600157014E0146013E0136012E0126011E0116010F0107010000F900F200EB00E400DD00D700D000CA00C400BE00B800B200AC00A600A1009B00960091008C00870082007D00780074006F006B00660062005E005A00560053004F004B004800440041003E003B003800350032002F002D002A0028002500230021001F001C001B001900170015001300120010000F000E000C000B000A00090007000600050004000200010000

/-- Default gamma table: sRGB encode (R225); rounding to nearest is DEDUCED, log 9. -/
def srgbEncode : Nat :=
  0x10FFF0FF80FF10FEA0FE30FDC0FD50FCE0FC70FBF0FB80FB10FAA0FA30F9B0F940F8D0F850F7E0F770F6F0F680F610F590F520F4A0F430F3B0F340F2C0F250F1D0F160F0E0F060EFF0EF70EEF0EE80EE00ED80ED00EC90EC10EB90EB10EA90EA10E990E910E890E810E790E710E690E610E590E510E490E410E380E300E280E200E170E0F0E070DFE0DF60DED0DE50DDD0DD40DCB0DC30DBA0DB20DA90DA00D980D8F0D860D7D0D750D6C0D630D5A0D510D480D3F0D360D2D0D240D1B0D110D080CFF0CF60CEC0CE30CDA0CD00CC70CBD0CB40CAA0CA10C970C8D0C840C7A0C700C660C5D0C530C490C3F0C350C2B0C210C160C0C0C020BF80BED0BE30BD90BCE0BC40BB90BAE0BA40B990B8E0B840B790B6E0B630B580B4D0B420B360B2B0B200B140B090AFE0AF20AE60ADB0ACF0AC30AB70AAB0A9F0A930A870A7B0A6F0A620A560A490A3D0A300A240A170A0A09FD09F009E309D509C809BB09AD099F0992098409760968095A094C093D092F09200912090308F408E508D608C608B708A7089808880878086808570847083608250814080307F207E007CF07BD07AB0798078607730760074D07390725071106FD06E806D306BE06A90693067D0666064F06370620060705EE05D505BB05A10586056A054E0531051304F404D504B404930470044C042603FF03D603AB037E034E031A02E302A70265021B01C4015B00CB00000FFF0FF80FF10FEA0FE30FDC0FD50FCE0FC70FBF0FB80FB10FAA0FA30F9B0F940F8D0F850F7E0F770F6F0F680F610F590F520F4A0F430F3B0F340F2C0F250F1D0F160F0E0F060EFF0EF70EEF0EE80EE00ED80ED00EC90EC10EB90EB10EA90EA10E990E910E890E810E790E710E690E610E590E510E490E410E380E300E280E200E170E0F0E070DFE0DF60DED0DE50DDD0DD40DCB0DC30DBA0DB20DA90DA00D980D8F0D860D7D0D750D6C0D630D5A0D510D480D3F0D360D2D0D240D1B0D110D080CFF0CF60CEC0CE30CDA0CD00CC70CBD0CB40CAA0CA10C970C8D0C840C7A0C700C660C5D0C530C490C3F0C350C2B0C210C160C0C0C020BF80BED0BE30BD90BCE0BC40BB90BAE0BA40B990B8E0B840B790B6E0B630B580B4D0B420B360B2B0B200B140B090AFE0AF20AE60ADB0ACF0AC30AB70AAB0A9F0A930A870A7B0A6F0A620A560A490A3D0A300A240A170A0A09FD09F009E309D509C809BB09AD099F0992098409760968095A094C093D092F09200912090308F408E508D608C608B708A7089808880878086808570847083608250814080307F207E007CF07BD07AB0798078607730760074D07390725071106FD06E806D306BE06A90693067D0666064F06370620060705EE05D505BB05A10586056A054E0531051304F404D504B404930470044C042603FF03D603AB037E034E031A02E302A70265021B01C4015B00CB00000FFF0FF80FF10FEA0FE30FDC0FD50FCE0FC70FBF0FB80FB10FAA0FA30F9B0F940F8D0F850F7E0F770F6F0F680F610F590F520F4A0F430F3B0F340F2C0F250F1D0F160F0E0F060EFF0EF70EEF0EE80EE00ED80ED00EC90EC10EB90EB10EA90EA10E990E910E890E810E790E710E690E610E590E510E490E410E380E300E280E200E170E0F0E070DFE0DF60DED0DE50DDD0DD40DCB0DC30DBA0DB20DA90DA00D980D8F0D860D7D0D750D6C0D630D5A0D510D480D3F0D360D2D0D240D1B0D110D080CFF0CF60CEC0CE30CDA0CD00CC70CBD0CB40CAA0CA10C970C8D0C840C7A0C700C660C5D0C530C490C3F0C350C2B0C210C160C0C0C020BF80BED0BE30BD90BCE0BC40BB90BAE0BA40B990B8E0B840B790B6E0B630B580B4D0B420B360B2B0B200B140B090AFE0AF20AE60ADB0ACF0AC30AB70AAB0A9F0A930A870A7B0A6F0A620A560A490A3D0A300A240A170A0A09FD09F009E309D509C809BB09AD099F0992098409760968095A094C093D092F09200912090308F408E508D608C608B708A7089808880878086808570847083608250814080307F207E007CF07BD07AB0798078607730760074D07390725071106FD06E806D306BE06A90693067D0666064F06370620060705EE05D505BB05A10586056A054E0531051304F404D504B404930470044C042603FF03D603AB037E034E031A02E302A70265021B01C4015B00CB0000

/-- Default dimming table: duty of level L is 100 % times 0.0005 to the power (63 - L) / 63, gain 4,096 (R225). -/
def dimmingTable : Nat :=
  0x100001000000186A00000100000015A3A00001000000132E10000100000011000000010000000F116000010000000D5AF000010000000BD66000010000000A7DF00001000000094CB00001000000083E200001000000074E5000010000000679B0000100000005BD5000010000000516500001000000048250000100000003FF200001000000038AD000010000000323C0000100000002C87000010000000277700001000000022FB0000100000001F010000100000001B7B000010000000185B0000100000001597000010000000132300001000000010F60000100000000F080000100000000D530000100000000BCF0000100000000A7800001000000009470000100000000839000010000000074A000010000000067600001000000005BA0000100000000513000010000000048000001000000003FD0000100000000389000010000000032200001000000002C70000100000000276000010000000022E00001000000001EF00001000000001B7000010000000018500001000000001590000100000000131000010000000010F00001000000000F000001000000000D500001000000000BD00001000000000A70000100000000094000010000000008300001000000000740000100000000067000010000000005B00001000000000510000100000000048000010000000004000001000000000380000100000000032

/-- Default night matrices 0 to 3, row-major S16 (R226 table). -/
def nightMatrices : Nat :=
  0x9405B901B300000000000000000000000001280B71036708CD0000000000000D9A0000000000001000100000000000000010000000000000001000

/-- Twelve pass-through sections: b0 = 1.0 in Q3.28, the rest 0 (R344). -/
def passThroughSections : Nat :=
  0x1000000000000000000000000000000000000000100000000000000000000000000000000000000010000000000000000000000000000000000000001000000000000000000000000000000000000000100000000000000000000000000000000000000010000000000000000000000000000000000000001000000000000000000000000000000000000000100000000000000000000000000000000000000010000000000000000000000000000000000000001000000000000000000000000000000000000000100000000000000000000000000000000000000010000000

/-- Bytes of the identity 3D LUT (R225): node (r, g, b) at byte 6 * (289 r + 17 g + b), each component
`min 4095 (256 i)`, little-endian. -/
def identityLut : Nat :=
  let node (i : Nat) : Nat := min 4095 (256 * i)
  (List.range 4913).foldr
    (fun j acc => node (j / 289) + 65536 * node (j / 17 % 17) + 4294967296 * node (j % 17) + 281474976710656 * acc) 1

end Sys2Proof.Machine.Tables
end

