-- ==== Sys2Proof/Machine/Objects.lean ====
section
/-!
DEFINITION. Machine/Objects.lean: the object dictionary as a table (chapter 2 and the object tables of every chapter):
where each object lies, its data type (R28), its access rights (R31), whether it is shadowed (R32, R35), whether it is
kept per session (R27), the range it states and its default.
-/
namespace Sys2Proof.Machine

/-- Data types of the dictionary (R28, table Data types). -/
inductive VKind where
  | bool | u (bytes : Nat) | s (bytes : Nat) | time | str (n : Nat) | oct (n : Nat) | octUpTo (n : Nat)
  | domain (max : Nat) | handle | table
  deriving DecidableEq, Repr

/-- One row of an object table. The row covers index `base + stride * a + b` for `a < count`, `b < inner`, and the
sub-indices `subLo` to `subHi`. `r`, `w` and `c` are sets of session classes (bit 0 HAL, 1 ENS, 2 OWN, 3 GST, 4 FLD,
5 DBG). `rng` lists the closed ranges of values the object states; an empty list states none. -/
structure ObjRow where
  base : Nat
  stride : Nat
  count : Nat
  inner : Nat
  subLo : Nat
  subHi : Nat
  kind : VKind
  r : Nat
  w : Nat
  c : Nat
  shadowed : Bool
  perSession : Bool
  rng : List (Int × Int)
  dflt : Nat → Nat → Nat → Nat

/-- The row covers this index and sub-index. -/
def ObjRow.covers (o : ObjRow) (idx sub : Nat) : Bool :=
  decide (o.base ≤ idx) && decide ((idx - o.base) / o.stride < o.count) && decide ((idx - o.base) % o.stride < o.inner)
    && decide (o.subLo ≤ sub) && decide (sub ≤ o.subHi)

/-- The row's default at this index and sub-index. -/
def ObjRow.dfltAt (o : ObjRow) (idx sub : Nat) : Nat :=
  o.dflt ((idx - o.base) / o.stride) ((idx - o.base) % o.stride) (sub - o.subLo)

/-- Default service class of fabric requester `r` (R143 table Fabric requesters): 0 SC-ENS, 1 SC-SCAN, 2 SC-RT,
3 SC-BULK. Requesters 42 to 45 carry the originating device's class; the model holds SC-BULK there (log 8). -/
def reqDefaultClass (r : Nat) : Nat :=
  if r < 8 then 1 else if r = 8 then 0 else if r < 32 then 2 else if r = 32 then 3 else if r = 33 then 3
  else if r < 47 then 3 else 2

/-- Set of service classes requester `r` may use (table Fabric requesters), bit c for class c. Requesters 42 to 45
carry any class but SC-ENS (R149). -/
def reqAllowed (r : Nat) : Nat :=
  if r < 8 then 2 else if r = 8 then 1 else if r = 9 then 4 else if r ≤ 21 then 12 else if r = 22 then 4
  else if r ≤ 30 then 12 else if r = 31 then 4 else if r = 32 then 8 else if r = 33 then 12
  else if r ≤ 37 then 8 else if r ≤ 41 then 12 else if r ≤ 45 then 14 else if r = 46 then 8 else 12

/-- Assignment code of pennant core `n` (chapter 15, table Core assignment). -/
def coreAssignment (n : Nat) : Nat :=
  if n < 8 then 0 else if n < 16 then 1 else if n < 19 then 2 else if n < 21 then 3 else if n = 21 then 4
  else if n < 30 then 5 else 6

/-- Object rows of chapter 01, part a. -/
def rowsCh01a : List ObjRow := [
  ⟨0x100, 0x10000, 1, 1, 0x1, 0x1, .u 1, 63, 0, 0, false, false, [], fun _ _ _ => 1⟩ /- dirFormat -/,
  ⟨0x100, 0x10000, 1, 1, 0x2, 0x2, .u 4, 63, 0, 0, false, false, [], fun _ _ _ => 1⟩ /- dirEpoch -/,
  ⟨0x100, 0x10000, 1, 1, 0x3, 0x3, .u 2, 63, 0, 0, false, false, [], fun _ _ _ => 0xD2⟩ /- recordCount -/,
  ⟨0x100, 0x10000, 1, 1, 0x4, 0x4, .u 2, 63, 0, 0, false, false, [], fun _ _ _ => 0x600⟩ /- handleLimit -/,
  ⟨0x100, 0x10000, 1, 1, 0x5, 0x5, .u 2, 63, 0, 0, false, false, [], fun _ _ _ => 0⟩ /- rootHandle -/,
  ⟨0x100, 0x10000, 1, 1, 0x6, 0x6, .u 1, 63, 0, 0, false, false, [], fun _ _ _ => 0⟩ /- deviceId -/,
  ⟨0x100, 0x10000, 1, 1, 0x7, 0x7, .u 1, 63, 0, 0, false, false, [], fun _ _ _ => 0⟩ /- hoistRole -/,
  ⟨0x100, 0x10000, 1, 1, 0x8, 0x8, .u 4, 63, 0, 0, false, false, [], fun _ _ _ => 0x8800001⟩ /- hardwareType -/,
  ⟨0x100, 0x10000, 1, 1, 0x9, 0x9, .u 8, 47, 0, 0, false, false, [], fun _ _ _ => 0⟩ /- unitSerial -/,
  ⟨0x101, 0x10000, 1, 1, 0x1, 0x1, .str 48, 0, 47, 0, false, true, [], fun _ _ _ => 0⟩ /- queryPath -/,
  ⟨0x101, 0x10000, 1, 1, 0x2, 0x2, .u 2, 47, 0, 0, false, true, [], fun _ _ _ => 0xFFFF⟩ /- queryHandle -/,
  ⟨0x101, 0x10000, 1, 1, 0x3, 0x3, .u 2, 47, 0, 0, false, true, [], fun _ _ _ => 0⟩ /- queryStatus -/,
  ⟨0x1D0, 0x10000, 1, 18, 0x1, 0x1, .u 1, 47, 0, 0, false, false, [], fun _ b _ => if b = 1 then 3 else if b = 2 ∨ (10 ≤ b ∧ b ≤ 16) then 1 else if b = 0 then 0 else 2⟩ /- identSource -/,
  ⟨0x1D0, 0x10000, 1, 18, 0x2, 0x2, .str 10, 47, 0, 0, false, false, [], fun _ _ _ => 0⟩ /- identLot -/,
  ⟨0x1D0, 0x10000, 1, 18, 0x3, 0x3, .u 1, 47, 0, 0, false, false, [], fun _ _ _ => 0⟩ /- identWafer -/,
  ⟨0x1D0, 0x10000, 1, 18, 0x4, 0x4, .u 1, 47, 0, 0, false, false, [], fun _ _ _ => 0⟩ /- identDieX -/,
  ⟨0x1D0, 0x10000, 1, 18, 0x5, 0x5, .u 1, 47, 0, 0, false, false, [], fun _ _ _ => 0⟩ /- identDieY -/,
  ⟨0x1D0, 0x10000, 1, 18, 0x6, 0x6, .oct 16, 47, 0, 0, false, false, [], fun _ _ _ => 0⟩ /- identPartId -/,
  ⟨0x1D0, 0x10000, 1, 18, 0x7, 0x7, .str 16, 47, 0, 0, false, false, [], fun _ _ _ => 0⟩ /- identModuleSerial -/]

/-- Object rows of chapter 02, part a. -/
def rowsCh02a : List ObjRow := [
  ⟨0x200, 0x10000, 1, 1, 0x1, 0x1, .time, 63, 0, 0, false, false, [], fun _ _ _ => 0⟩ /- hoistTime -/,
  ⟨0x200, 0x10000, 1, 1, 0x2, 0x2, .bool, 63, 0, 0, false, false, [], fun _ _ _ => 1⟩ /- timeLocked -/,
  ⟨0x200, 0x10000, 1, 1, 0x3, 0x3, .u 4, 63, 0, 0, false, false, [], fun _ _ _ => 0⟩ /- lastEpoch -/,
  ⟨0x201, 0x10000, 1, 1, 0x1, 0x1, .u 4, 63, 5, 0, false, false, [(1000, 1000000)], fun _ _ _ => 0x1388⟩ /- schedLeadUs -/,
  ⟨0x201, 0x10000, 1, 1, 0x2, 0x2, .u 4, 63, 5, 0, false, false, [(60, 31536000)], fun _ _ _ => 0x278D00⟩ /- schedHorizonS -/,
  ⟨0x201, 0x10000, 1, 1, 0x3, 0x3, .u 2, 63, 5, 0, false, false, [(100, 60000)], fun _ _ _ => 0x7D0⟩ /- shadowHoldMs -/,
  ⟨0x210, 0x10000, 1, 1, 0x1, 0x1, .handle, 47, 47, 0, false, true, [], fun _ _ _ => 0xFFFF⟩ /- commitHandle -/,
  ⟨0x210, 0x10000, 1, 1, 0x2, 0x2, .time, 47, 47, 0, false, true, [], fun _ _ _ => 0⟩ /- commitAt -/,
  ⟨0x210, 0x10000, 1, 1, 0x3, 0x3, .u 1, 0, 47, 0, false, false, [(1, 3)], fun _ _ _ => 0⟩ /- commitOp -/,
  ⟨0x210, 0x10000, 1, 1, 0x4, 0x4, .u 4, 47, 0, 0, false, true, [], fun _ _ _ => 0⟩ /- commitEpoch -/,
  ⟨0x210, 0x10000, 1, 1, 0x5, 0x5, .u 2, 47, 0, 0, false, true, [], fun _ _ _ => 0⟩ /- commitStatus -/,
  ⟨0x210, 0x10000, 1, 1, 0x6, 0x6, .u 4, 47, 0, 0, false, true, [], fun _ _ _ => 0⟩ /- commitDetail -/,
  ⟨0x210, 0x10000, 1, 1, 0x7, 0x7, .u 2, 47, 0, 0, false, true, [], fun _ _ _ => 0⟩ /- commitReason -/,
  ⟨0x211, 0x10000, 1, 1, 0x1, 0x1, .u 1, 47, 47, 0, false, true, [(0, 16)], fun _ _ _ => 0⟩ /- setCount -/,
  ⟨0x211, 0x10000, 1, 1, 0x2, 0x11, .handle, 47, 47, 0, false, true, [], fun _ _ _ => 0xFFFF⟩ /- setHandle -/,
  ⟨0x212, 0x10000, 1, 1, 0x1, 0x1, .handle, 47, 47, 0, false, true, [], fun _ _ _ => 0xFFFF⟩ /- queryUnit -/,
  ⟨0x212, 0x10000, 1, 1, 0x2, 0x2, .u 4, 47, 0, 0, false, true, [], fun _ _ _ => 0⟩ /- activeEpoch -/,
  ⟨0x212, 0x10000, 1, 1, 0x3, 0x3, .u 4, 47, 0, 0, false, true, [], fun _ _ _ => 0⟩ /- pendingEpoch -/,
  ⟨0x212, 0x10000, 1, 1, 0x4, 0x4, .time, 47, 0, 0, false, true, [], fun _ _ _ => 0⟩ /- pendingAt -/,
  ⟨0x212, 0x10000, 1, 1, 0x5, 0x5, .u 4, 47, 0, 0, false, true, [], fun _ _ _ => 0⟩ /- boundaryCount -/,
  ⟨0x212, 0x10000, 1, 1, 0x6, 0x6, .u 2, 47, 0, 0, false, true, [], fun _ _ _ => 0⟩ /- holder -/,
  ⟨0x220, 0x10000, 1, 1, 0x1, 0x1, .octUpTo 54, 0, 61, 0, false, false, [], fun _ _ _ => 0⟩ /- authEnvelope -/,
  ⟨0x220, 0x10000, 1, 1, 0x2, 0x2, .u 1, 63, 5, 0, false, false, [(1, 127)], fun _ _ _ => 0xF⟩ /- permittedGap -/,
  ⟨0x220, 0x10000, 1, 1, 0x3, 0x6, .u 8, 37, 0, 0, false, false, [], fun _ _ _ => 0⟩ /- lastFreshness -/,
  ⟨0x7C00, 0x80, 4, 1, 0x1, 0x1, .u 1, 23, 5, 0, false, false, [(1, 127)], fun a _ _ => 0x10 + a⟩ /- nodeId -/,
  ⟨0x7C00, 0x80, 4, 1, 0x2, 0x2, .u 4, 23, 5, 0, false, false, [], fun _ _ _ => 0x7A120⟩ /- nominalRate -/,
  ⟨0x7C00, 0x80, 4, 1, 0x3, 0x3, .u 4, 23, 5, 0, false, false, [(0, 8000000)], fun _ _ _ => 0x1E8480⟩ /- dataRate -/,
  ⟨0x7C00, 0x80, 4, 1, 0x4, 0x4, .u 2, 23, 5, 0, false, false, [(0, 0), (10, 10000)], fun _ _ _ => 0x64⟩ /- hbProducerMs -/,
  ⟨0x7C00, 0x80, 4, 1, 0x5, 0x5, .u 2, 21, 0, 0, false, false, [], fun _ _ _ => 0⟩ /- lastStatus -/,
  ⟨0x7C01, 0x80, 4, 1, 0x1, 0x8, .u 4, 7, 5, 0, false, false, [], fun _ _ _ => 0⟩ /- hbConsumer -/,
  ⟨0x7C10, 0x80, 4, 32, 0x1, 0x1, .u 4, 7, 5, 0, false, false, [], fun _ _ _ => 0x80000000⟩ /- rxCobId -/,
  ⟨0x7C10, 0x80, 4, 32, 0x2, 0x2, .u 1, 7, 5, 0, false, false, [(1, 64)], fun _ _ _ => 8⟩ /- rxLength -/,
  ⟨0x7C10, 0x80, 4, 32, 0x3, 0x3, .handle, 7, 5, 0, false, false, [], fun _ _ _ => 0xFFFF⟩ /- checkUnit -/,
  ⟨0x7C10, 0x80, 4, 32, 0x4, 0x4, .u 2, 7, 5, 0, false, false, [(0, 0), (10, 60000)], fun _ _ _ => 0⟩ /- staleMs -/,
  ⟨0x7C10, 0x80, 4, 32, 0x5, 0x5, .oct 64, 23, 0, 0, false, false, [], fun _ _ _ => 0⟩ /- rxData -/,
  ⟨0x7C10, 0x80, 4, 32, 0x6, 0x6, .bool, 23, 0, 0, false, false, [], fun _ _ _ => 0⟩ /- rxValid -/,
  ⟨0x7C10, 0x80, 4, 32, 0x7, 0x7, .time, 23, 0, 0, false, false, [], fun _ _ _ => 0⟩ /- rxTime -/,
  ⟨0x7C10, 0x80, 4, 32, 0x8, 0x8, .u 4, 23, 0, 0, false, false, [], fun _ _ _ => 0⟩ /- rxCount -/,
  ⟨0x7C30, 0x80, 4, 8, 0x1, 0x1, .u 4, 7, 7, 0, false, false, [], fun _ _ _ => 0x80000000⟩ /- txCobId -/,
  ⟨0x7C30, 0x80, 4, 8, 0x2, 0x2, .u 4, 7, 7, 0, false, false, [], fun _ _ _ => 0⟩ /- txSource -/]

/-- Object rows of chapter 02, part b. -/
def rowsCh02b : List ObjRow := [
  ⟨0x7C30, 0x80, 4, 8, 0x3, 0x3, .u 2, 7, 7, 0, false, false, [], fun _ _ _ => 0⟩ /- txPeriodMs -/,
  ⟨0x7C40, 0x80, 4, 1, 0x1, 0x1, .u 4, 45, 8, 0, false, false, [(125000, 1000000)], fun _ _ _ => 0x7A120⟩ /- rawNominalRate -/,
  ⟨0x7C40, 0x80, 4, 1, 0x2, 0x2, .u 4, 45, 8, 0, false, false, [], fun _ _ _ => 0x1E8480⟩ /- rawDataRate -/,
  ⟨0x7C40, 0x80, 4, 1, 0x3, 0x3, .u 2, 45, 8, 0, false, false, [(700, 900)], fun _ _ _ => 0x320⟩ /- rawSamplePermille -/,
  ⟨0x7C40, 0x80, 4, 1, 0x4, 0x4, .u 1, 45, 8, 0, false, false, [(0, 1)], fun _ _ _ => 0⟩ /- rawMode -/,
  ⟨0x7C40, 0x80, 4, 1, 0x5, 0x5, .u 1, 45, 0, 0, false, false, [], fun _ _ _ => 0⟩ /- rawState -/,
  ⟨0x7C40, 0x80, 4, 1, 0x6, 0x6, .u 1, 45, 0, 0, false, false, [], fun _ _ _ => 0⟩ /- rawTec -/,
  ⟨0x7C40, 0x80, 4, 1, 0x7, 0x7, .u 1, 45, 0, 0, false, false, [], fun _ _ _ => 0⟩ /- rawRec -/,
  ⟨0x7C40, 0x80, 4, 1, 0x8, 0x8, .u 4, 45, 0, 0, false, false, [], fun _ _ _ => 0⟩ /- rawRxLost -/,
  ⟨0x7C40, 0x80, 4, 1, 0x9, 0x9, .u 1, 45, 0, 0, false, false, [], fun _ _ _ => 0⟩ /- rawTxQueued -/,
  ⟨0x7C41, 0x80, 4, 1, 0x1, 0x10, .u 8, 45, 8, 0, false, false, [], fun _ _ _ => 0⟩ /- rawFilter -/,
  ⟨0x7C42, 0x80, 4, 1, 0x1, 0x1, .domain 2560, 45, 0, 0, false, false, [], fun _ _ _ => 1⟩ /- rawRx -/,
  ⟨0x7C42, 0x80, 4, 1, 0x2, 0x2, .domain 1280, 0, 8, 0, false, false, [], fun _ _ _ => 1⟩ /- rawTx -/,
  ⟨0x7E00, 0x10, 2, 1, 0x1, 0x1, .u 1, 45, 0, 0, false, false, [], fun _ _ _ => 0⟩ /- usbPortState -/,
  ⟨0x7E00, 0x10, 2, 1, 0x2, 0x2, .u 1, 45, 12, 0, false, false, [(1, 1)], fun _ _ _ => 0⟩ /- usbPortOp -/,
  ⟨0x7E01, 0x10, 2, 1, 0x1, 0x8, .oct 8, 45, 0, 0, false, false, [], fun _ _ _ => 0⟩ /- usbDevice -/,
  ⟨0x7E02, 0x10, 2, 1, 0x1, 0x1, .domain 1216, 45, 0, 0, false, false, [], fun _ _ _ => 1⟩ /- hidIn -/,
  ⟨0x7E02, 0x10, 2, 1, 0x2, 0x2, .octUpTo 68, 45, 12, 0, false, false, [], fun _ _ _ => 0⟩ /- hidOut -/,
  ⟨0x7E02, 0x10, 2, 1, 0x3, 0x3, .u 4, 45, 0, 0, false, false, [], fun _ _ _ => 0⟩ /- hidInLost -/,
  ⟨0xF000, 0x2, 8, 1, 0x1, 0x1, .u 1, 63, 63, 0, false, true, [(0, 63), (255, 255)], fun _ _ _ => 0xFF⟩ /- targetDevice -/,
  ⟨0xF000, 0x2, 8, 1, 0x2, 0x2, .u 2, 63, 63, 0, false, true, [], fun _ _ _ => 0⟩ /- targetIndex -/,
  ⟨0xF000, 0x2, 8, 1, 0x3, 0x3, .u 4, 63, 63, 0, false, true, [], fun _ _ _ => 0⟩ /- elementBase -/,
  ⟨0xF000, 0x2, 8, 1, 0x4, 0x4, .bool, 63, 0, 0, false, true, [], fun _ _ _ => 0⟩ /- mapped -/,
  ⟨0x50, 0x10000, 1, 1, 0x1, 0x1, .u 4, 53, 0, 0, false, false, [], fun _ _ _ => 0⟩ /- ownerEvHead -/,
  ⟨0x50, 0x10000, 1, 1, 0x2, 0x2, .u 4, 53, 53, 0, false, true, [], fun _ _ _ => 0⟩ /- ownerEvFrom -/,
  ⟨0x50, 0x10000, 1, 1, 0x3, 0x3, .domain 1024, 53, 0, 0, false, true, [], fun _ _ _ => 1⟩ /- ownerEvData -/,
  ⟨0x50, 0x10000, 1, 1, 0x4, 0x4, .u 4, 37, 0, 0, false, false, [], fun _ _ _ => 0⟩ /- ownerEvLost -/,
  ⟨0x50, 0x10000, 1, 1, 0x5, 0x5, .bool, 53, 53, 0, false, true, [], fun _ _ _ => 0⟩ /- ownerEvPush -/,
  ⟨0x50, 0x10000, 1, 1, 0x6, 0x6, .u 1, 53, 5, 0, false, false, [], fun _ _ _ => 0x10⟩ /- fieldEventMask -/,
  ⟨0x50, 0x10000, 1, 1, 0x7, 0x7, .oct 32, 53, 0, 0, false, false, [], fun _ _ _ => 0⟩ /- ownerEvLast -/]

/-- Object rows of chapter 03, part a. -/
def rowsCh03a : List ObjRow := [
  ⟨0x700, 0x10000, 1, 1, 0x1, 0x1, .u 4, 63, 0, 0, false, false, [], fun _ _ _ => 0xFA0⟩ /- planPeriodUs -/,
  ⟨0x700, 0x10000, 1, 1, 0x2, 0x2, .u 4, 63, 0, 0, false, false, [], fun _ _ _ => 0⟩ /- planCount -/,
  ⟨0x700, 0x10000, 1, 1, 0x3, 0x3, .s 2, 63, 0, 0, false, false, [], fun _ _ _ => 0⟩ /- junctionTemp -/,
  ⟨0x700, 0x10000, 1, 1, 0x4, 0x4, .u 4, 37, 0, 0, false, false, [], fun _ _ _ => 0⟩ /- urgentRaises -/,
  ⟨0x710, 0x10000, 1, 5, 0x1, 0x1, .u 2, 47, 0, 0, false, false, [], fun _ b _ => if b = 4 then 800 else 900⟩ /- voltageMv -/,
  ⟨0x710, 0x10000, 1, 5, 0x2, 0x2, .u 4, 47, 0, 0, false, false, [], fun _ _ _ => 0⟩ /- speedNow -/,
  ⟨0x710, 0x10000, 1, 5, 0x3, 0x3, .u 4, 47, 0, 0, false, false, [], fun _ _ _ => 0⟩ /- demandRate -/,
  ⟨0x710, 0x10000, 1, 5, 0x4, 0x4, .u 4, 47, 0, 0, false, false, [], fun _ _ _ => 0⟩ /- ceilingRate -/,
  ⟨0x710, 0x10000, 1, 4, 0x5, 0x5, .u 2, 37, 5, 5, true, false, [], fun _ _ _ => 0x258⟩ /- voltMinMv -/,
  ⟨0x710, 0x10000, 1, 4, 0x6, 0x6, .u 2, 37, 5, 5, true, false, [], fun _ _ _ => 0x384⟩ /- voltMaxMv -/,
  ⟨0x720, 0x10000, 1, 1, 0x1, 0x1, .u 2, 47, 0, 0, false, false, [], fun _ _ _ => 0⟩ /- ageIndex -/,
  ⟨0x720, 0x10000, 1, 1, 0x2, 0x6, .u 2, 47, 0, 0, false, false, [], fun _ _ _ => 0⟩ /- domainAge -/,
  ⟨0x720, 0x10000, 1, 1, 0x7, 0x7, .u 2, 47, 0, 0, false, false, [], fun _ _ _ => 0x258⟩ /- guardBand -/,
  ⟨0x720, 0x10000, 1, 1, 0x8, 0x8, .u 2, 37, 0, 0, false, false, [], fun _ _ _ => 0⟩ /- ageRate -/,
  ⟨0x720, 0x10000, 1, 1, 0x9, 0x9, .u 4, 37, 0, 0, false, false, [], fun _ _ _ => 0xFFFFFFFF⟩ /- forecastHours -/,
  ⟨0x720, 0x10000, 1, 1, 0xA, 0xA, .u 4, 37, 0, 0, false, false, [], fun _ _ _ => 0xFFFFFFFF⟩ /- forecastFullHours -/,
  ⟨0x720, 0x10000, 1, 1, 0xB, 0xB, .u 4, 37, 0, 0, false, false, [], fun _ _ _ => 0⟩ /- monitorsValid -/,
  ⟨0x730, 0x10000, 1, 1, 0x1, 0x1, .u 1, 47, 0, 0, false, false, [], fun _ _ _ => 0⟩ /- shedLevel -/,
  ⟨0x730, 0x10000, 1, 1, 0x2, 0x2, .time, 47, 0, 0, false, false, [], fun _ _ _ => 0⟩ /- shedSince -/,
  ⟨0x730, 0x10000, 1, 1, 0x3, 0xA, .u 1, 63, 5, 5, true, false, [], fun _ _ _ => 0x80⟩ /- blankPriority -/]

/-- Object rows of chapter 04, part a. -/
def rowsCh04a : List ObjRow := [
  ⟨0x800, 0x10000, 1, 64, 0x1, 0x1, .u 1, 47, 0, 0, false, false, [], fun _ _ _ => 0⟩ /- worldState -/,
  ⟨0x800, 0x10000, 1, 64, 0x2, 0x2, .u 1, 47, 0, 0, false, false, [], fun _ b _ => if b < 3 then b else 0xFF⟩ /- worldKind -/,
  ⟨0x800, 0x10000, 1, 64, 0x3, 0x3, .u 2, 47, 0, 0, false, false, [], fun _ _ _ => 0⟩ /- worldGen -/,
  ⟨0x800, 0x10000, 1, 64, 0x4, 0x4, .u 4, 47, 0, 0, false, false, [], fun _ _ _ => 0⟩ /- memGrantedMiB -/,
  ⟨0x800, 0x10000, 1, 64, 0x5, 0x5, .u 1, 47, 0, 0, false, false, [], fun _ _ _ => 0⟩ /- blocksHeld -/,
  ⟨0x800, 0x10000, 1, 64, 0x6, 0x6, .u 1, 47, 0, 0, false, false, [], fun _ _ _ => 0⟩ /- keyState -/,
  ⟨0x800, 0x10000, 1, 64, 0x7, 0x7, .bool, 47, 0, 0, false, false, [], fun _ _ _ => 0⟩ /- debugMark -/,
  ⟨0x800, 0x10000, 1, 64, 0x8, 0x8, .u 4, 47, 0, 0, false, false, [], fun _ _ _ => 0⟩ /- faultCount -/,
  ⟨0x800, 0x10000, 1, 64, 0x9, 0x9, .u 4, 47, 0, 0, false, false, [], fun _ _ _ => 0⟩ /- faultsCoalesced -/,
  ⟨0x800, 0x10000, 1, 64, 0xA, 0xA, .bool, 45, 8, 0, false, false, [], fun _ _ _ => 0⟩ /- debugConsent -/,
  ⟨0x840, 0x10000, 1, 1, 0x1, 0x1, .u 1, 45, 0, 0, false, false, [], fun _ _ _ => 0x3C⟩ /- worldsFree -/,
  ⟨0x840, 0x10000, 1, 1, 0x2, 0x2, .u 2, 63, 5, 0, false, false, [(8, 256)], fun _ _ _ => 0x40⟩ /- faultEventLimit -/,
  ⟨0x840, 0x10000, 1, 1, 0x3, 0x3, .u 2, 63, 5, 0, false, false, [(10, 5000)], fun _ _ _ => 0x64⟩ /- graceMs -/,
  ⟨0x850, 0x10000, 1, 1, 0x1, 0x1, .handle, 37, 5, 0, false, true, [], fun _ _ _ => 0xFFFF⟩ /- hoBlock -/,
  ⟨0x850, 0x10000, 1, 1, 0x2, 0x2, .u 1, 37, 5, 0, false, true, [], fun _ _ _ => 0⟩ /- hoTarget -/,
  ⟨0x850, 0x10000, 1, 1, 0x3, 0x3, .u 1, 0, 5, 0, false, true, [(1, 2)], fun _ _ _ => 0⟩ /- hoOp -/,
  ⟨0x850, 0x10000, 1, 1, 0x4, 0x4, .u 2, 37, 0, 0, false, true, [], fun _ _ _ => 0⟩ /- hoStatus -/,
  ⟨0x851, 0x10000, 1, 1, 0x1, 0x1, .handle, 47, 47, 0, false, true, [], fun _ _ _ => 0xFFFF⟩ /- hqBlock -/,
  ⟨0x851, 0x10000, 1, 1, 0x2, 0x2, .u 1, 47, 0, 0, false, true, [], fun _ _ _ => 0⟩ /- hqWorld -/,
  ⟨0x851, 0x10000, 1, 1, 0x3, 0x3, .u 1, 47, 0, 0, false, true, [], fun _ _ _ => 0⟩ /- hqState -/,
  ⟨0x851, 0x10000, 1, 1, 0x4, 0x4, .u 2, 47, 0, 0, false, true, [], fun _ _ _ => 0⟩ /- hqWorldGen -/,
  ⟨0x860, 0x10000, 1, 1, 0x1, 0x1, .bool, 63, 0, 0, false, false, [], fun _ _ _ => 0⟩ /- debugActive -/,
  ⟨0x860, 0x10000, 1, 1, 0x2, 0x2, .u 8, 37, 0, 0, false, false, [], fun _ _ _ => 0⟩ /- debugWorlds -/]

/-- Object rows of chapter 05, part a. -/
def rowsCh05a : List ObjRow := [
  ⟨0x900, 0x10000, 1, 56, 0x1, 0x1, .u 1, 45, 0, 0, false, false, [], fun _ _ _ => 0⟩ /- instState -/,
  ⟨0x900, 0x10000, 1, 56, 0x2, 0x2, .u 1, 45, 0, 0, false, false, [], fun _ _ _ => 0xFF⟩ /- instWorld -/,
  ⟨0x900, 0x10000, 1, 56, 0x3, 0x3, .u 2, 37, 5, 0, false, false, [], fun _ _ _ => 0⟩ /- instGuestTag -/,
  ⟨0x900, 0x10000, 1, 56, 0x4, 0x4, .u 4, 45, 5, 0, false, false, [], fun _ _ _ => 0⟩ /- instMemLimitMiB -/,
  ⟨0x900, 0x10000, 1, 56, 0x5, 0x5, .u 4, 45, 5, 0, false, false, [], fun _ _ _ => 0⟩ /- instRendererGrant -/,
  ⟨0x900, 0x10000, 1, 56, 0x6, 0x6, .u 4, 45, 5, 0, false, false, [], fun _ _ _ => 0⟩ /- instBandwidthGrant -/,
  ⟨0x900, 0x10000, 1, 56, 0x7, 0x7, .u 4, 45, 5, 0, false, false, [(0, 0), (500, 100000)], fun _ _ _ => 0⟩ /- instAudioLatencyUs -/,
  ⟨0x900, 0x10000, 1, 56, 0x8, 0x8, .u 2, 45, 5, 0, false, false, [(0, 240)], fun _ _ _ => 0⟩ /- instTouchRateHz -/,
  ⟨0x900, 0x10000, 1, 56, 0x9, 0x9, .u 1, 0, 5, 0, false, false, [(1, 5)], fun _ _ _ => 0⟩ /- instOp -/,
  ⟨0x900, 0x10000, 1, 56, 0xA, 0xA, .u 2, 37, 0, 0, false, true, [], fun _ _ _ => 0⟩ /- instOpStatus -/,
  ⟨0x900, 0x10000, 1, 56, 0xB, 0xB, .oct 32, 37, 5, 0, false, false, [], fun _ _ _ => 0⟩ /- instPeerCertHash -/,
  ⟨0x900, 0x10000, 1, 56, 0xC, 0xC, .handle, 37, 5, 0, false, false, [], fun _ b _ => if 48 ≤ b then 0xC8 + (b - 48) else 0xFFFF⟩ /- instVideoUsbPort -/,
  ⟨0x900, 0x10000, 1, 56, 0xD, 0xD, .oct 14, 45, 0, 0, false, false, [], fun _ _ _ => 0⟩ /- instReserved -/,
  ⟨0x900, 0x10000, 1, 56, 0xE, 0xE, .u 4, 45, 0, 0, false, false, [], fun _ _ _ => 0⟩ /- instWorkInFlight -/,
  ⟨0x940, 0x10000, 1, 1, 0x1, 0x1, .u 1, 37, 0, 0, false, false, [], fun _ _ _ => 0x38⟩ /- instancesFree -/,
  ⟨0x940, 0x10000, 1, 1, 0x2, 0x2, .u 2, 63, 5, 0, false, false, [(10, 5000)], fun _ _ _ => 0x64⟩ /- quiesceLimitMs -/,
  ⟨0x940, 0x10000, 1, 1, 0x3, 0x3, .u 2, 63, 5, 0, false, false, [(1, 3600)], fun _ _ _ => 0x1E⟩ /- remoteHoldS -/,
  ⟨0x940, 0x10000, 1, 1, 0x4, 0x4, .u 2, 63, 5, 0, false, false, [(0, 10000)], fun _ _ _ => 0x1F4⟩ /- resizeGraceMs -/]

/-- Object rows of chapter 06, part a. -/
def rowsCh06a : List ObjRow := [
  ⟨0x1000, 0x10000, 1, 1, 0x1, 0x1, .u 1, 47, 0, 0, false, false, [], fun _ _ _ => 16⟩ /- installedGiB -/,
  ⟨0x1000, 0x10000, 1, 1, 0x2, 0x2, .u 4, 47, 0, 0, false, false, [], fun _ _ _ => 0x42AA0⟩ /- peakMBps -/,
  ⟨0x1000, 0x10000, 1, 1, 0x3, 0x3, .u 4, 47, 0, 0, false, false, [], fun _ _ _ => 0x27100⟩ /- admissibleMBps -/,
  ⟨0x1000, 0x10000, 1, 1, 0x4, 0x4, .u 4, 47, 5, 0, false, false, [], fun _ _ _ => 0x17700⟩ /- scanReservedMBps -/,
  ⟨0x1000, 0x10000, 1, 1, 0x5, 0x5, .u 4, 47, 5, 0, false, false, [], fun _ _ _ => 0x5DC0⟩ /- rtReservedMBps -/,
  ⟨0x1000, 0x10000, 1, 1, 0x6, 0x6, .u 4, 47, 0, 0, false, false, [], fun _ _ _ => 0x9C40⟩ /- bulkReservableMBps -/,
  ⟨0x1000, 0x10000, 1, 1, 0x7, 0x7, .u 4, 47, 0, 0, false, false, [], fun _ _ _ => 0x9C40⟩ /- declaredBulkMBps -/,
  ⟨0x1000, 0x10000, 1, 1, 0x8, 0x8, .u 4, 47, 0, 0, false, false, [], fun _ _ _ => 0⟩ /- bulkReservedMBps -/,
  ⟨0x1000, 0x10000, 1, 1, 0x9, 0x9, .u 2, 47, 0, 0, false, false, [], fun _ _ _ => 0⟩ /- retrainingMask -/,
  ⟨0x1001, 0x10000, 1, 1, 0x1, 0x1, .u 1, 37, 5, 0, false, false, [(4, 255)], fun _ _ _ => 0x20⟩ /- waitLimit -/,
  ⟨0x1001, 0x10000, 1, 1, 0x2, 0x2, .u 1, 37, 5, 0, false, false, [(0, 3)], fun _ _ _ => 3⟩ /- promoCap -/,
  ⟨0x1010, 0x10000, 1, 4, 0x1, 0x1, .u 2, 37, 5, 0, false, false, [(1, 1000)], fun _ b _ => [2, 8, 32, 128].getD b 0⟩ /- ageLimitUs -/,
  ⟨0x1010, 0x10000, 1, 3, 0x2, 0x2, .u 1, 37, 5, 0, false, false, [], fun _ b _ => [4, 40, 16].getD b 0⟩ /- quotaGrants -/,
  ⟨0x1020, 0x10000, 1, 1, 0x1, 0x1, .u 1, 37, 5, 0, false, false, [(10, 100)], fun _ _ _ => 0x19⟩ /- concentrationPct -/,
  ⟨0x1020, 0x10000, 1, 1, 0x2, 0x2, .u 2, 37, 5, 0, false, false, [(10, 10000)], fun _ _ _ => 0x64⟩ /- concentrationMinMBps -/,
  ⟨0x1030, 0x10000, 1, 1, 0x1, 0x1, .u 2, 37, 5, 0, false, false, [(256, 4096)], fun _ _ _ => 0x400⟩ /- rfmThreshold -/,
  ⟨0x1030, 0x10000, 1, 1, 0x2, 0x2, .u 1, 37, 5, 0, false, false, [(1, 16)], fun _ _ _ => 4⟩ /- throttleAfter -/,
  ⟨0x1030, 0x10000, 1, 1, 0x3, 0x3, .u 2, 37, 5, 0, false, false, [(200, 10000)], fun _ _ _ => 0x3E8⟩ /- throttleGapNs -/,
  ⟨0x1030, 0x10000, 1, 1, 0x4, 0x4, .u 2, 37, 5, 0, false, false, [(8, 1000)], fun _ _ _ => 0x20⟩ /- throttleMs -/,
  ⟨0x1030, 0x10000, 1, 1, 0x5, 0x5, .u 1, 37, 5, 0, false, false, [(4, 30)], fun _ _ _ => 0xA⟩ /- retrainDriftC -/,
  ⟨0x1040, 0x10000, 1, 48, 0x1, 0x1, .u 1, 37, 5, 0, false, false, [(0, 3)], fun _ b _ => reqDefaultClass b⟩ /- reqClass -/,
  ⟨0x1040, 0x10000, 1, 48, 0x2, 0x2, .u 1, 37, 0, 0, false, false, [], fun _ b _ => reqAllowed b⟩ /- reqClassesAllowed -/,
  ⟨0x1040, 0x10000, 1, 48, 0x3, 0x3, .u 4, 37, 0, 0, false, false, [], fun _ _ _ => 0⟩ /- reqGrants -/,
  ⟨0x1040, 0x10000, 1, 48, 0x4, 0x4, .u 4, 37, 0, 0, false, false, [], fun _ _ _ => 0⟩ /- reqForcedWins -/,
  ⟨0x1040, 0x10000, 1, 48, 0x5, 0x5, .bool, 37, 0, 0, false, false, [], fun _ _ _ => 0⟩ /- reqThrottled -/,
  ⟨0x1100, 0x10, 16, 1, 0x1, 0x1, .u 1, 37, 0, 0, false, false, [], fun _ _ _ => 0⟩ /- dramChannelState -/,
  ⟨0x1100, 0x10, 16, 1, 0x2, 0x2, .s 1, 37, 0, 0, false, false, [], fun _ _ _ => 0⟩ /- dramTempC -/,
  ⟨0x1100, 0x10, 16, 1, 0x3, 0x3, .u 2, 37, 5, 5, true, false, [(0, 2000)], fun _ _ _ => 0x78⟩ /- dramIdleCloseNs -/,
  ⟨0x1100, 0x10, 16, 1, 0x4, 0x4, .bool, 37, 5, 5, true, false, [], fun _ _ _ => 1⟩ /- dramPredictorOn -/,
  ⟨0x1100, 0x10, 16, 1, 0x5, 0x5, .u 2, 37, 0, 0, false, false, [], fun _ _ _ => 0⟩ /- dramEyeWidthPs -/,
  ⟨0x1100, 0x10, 16, 1, 0x6, 0x6, .u 4, 37, 0, 0, false, false, [], fun _ _ _ => 0⟩ /- dramRetrainCount -/,
  ⟨0x1100, 0x10, 16, 1, 0x7, 0x7, .u 4, 37, 0, 0, false, false, [], fun _ _ _ => 0⟩ /- dramLinkErrors -/,
  ⟨0x1100, 0x10, 16, 1, 0x8, 0x8, .u 4, 37, 0, 0, false, false, [], fun _ _ _ => 0⟩ /- dramCorrectedErrors -/,
  ⟨0x1100, 0x10, 16, 1, 0x9, 0x9, .u 4, 37, 0, 0, false, false, [], fun _ _ _ => 0⟩ /- dramRfmCount -/,
  ⟨0x1100, 0x10, 16, 1, 0xA, 0xA, .u 1, 37, 0, 0, false, false, [], fun _ _ _ => 0⟩ /- dramRemapUsed -/,
  ⟨0x1100, 0x10, 16, 1, 0xB, 0xB, .time, 37, 0, 0, false, false, [], fun _ _ _ => 0⟩ /- dramLastTrainedAt -/,
  ⟨0x1300, 0x10000, 1, 1, 0x1, 0x1, .u 2, 37, 0, 0, false, false, [], fun _ _ _ => 0⟩ /- retiredPages -/]

/-- Object rows of chapter 07, part a. -/
def rowsCh07a : List ObjRow := [
  ⟨0x2000, 0x10000, 1, 1, 0x1, 0x1, .u 1, 37, 0, 0, false, false, [], fun _ _ _ => 0x18⟩ /- clustersAlive -/,
  ⟨0x2000, 0x10000, 1, 1, 0x2, 0x2, .u 4, 37, 5, 5, true, false, [(100, 100000)], fun _ _ _ => 0x7D0⟩ /- binFaultTimeoutUs -/,
  ⟨0x2000, 0x10000, 1, 1, 0x3, 0x3, .u 1, 37, 5, 5, true, false, [(0, 8)], fun _ _ _ => 4⟩ /- l2RtWays -/,
  ⟨0x2000, 0x10000, 1, 1, 0x4, 0x4, .u 4, 37, 0, 0, false, false, [], fun _ _ _ => 0⟩ /- binFaults -/,
  ⟨0x2000, 0x10000, 1, 1, 0x5, 0x5, .u 4, 37, 0, 0, false, false, [], fun _ _ _ => 0⟩ /- partialFlushes -/,
  ⟨0x2000, 0x10000, 1, 1, 0x6, 0x6, .u 4, 37, 0, 0, false, false, [], fun _ _ _ => 0⟩ /- poolPeakKiB -/,
  ⟨0x2000, 0x10000, 1, 1, 0x7, 0x7, .u 4, 37, 0, 0, false, false, [], fun _ _ _ => 0⟩ /- metaErrors -/]

/-- Object rows of chapter 08, part a. -/
def rowsCh08a : List ObjRow := [
  ⟨0x2100, 0x10000, 1, 1, 0x1, 0x1, .u 2, 37, 0, 0, false, false, [], fun _ _ _ => 0⟩ /- contextsInUse -/,
  ⟨0x2100, 0x10000, 1, 1, 0x2, 0x2, .u 2, 47, 0, 0, false, false, [], fun _ _ _ => 0x800⟩ /- shaderStepLimit -/,
  ⟨0x2100, 0x10000, 1, 1, 0x3, 0x3, .u 4, 37, 5, 5, true, false, [(2000, 20000)], fun _ _ _ => 0x4E20⟩ /- tileGraceSteps -/,
  ⟨0x2100, 0x10000, 1, 1, 0x4, 0x4, .u 4, 37, 0, 0, false, false, [], fun _ _ _ => 0x1F40⟩ /- preemptSaveMBps -/,
  ⟨0x2100, 0x10000, 1, 1, 0x5, 0x5, .u 2, 37, 5, 5, true, false, [(250, 20000)], fun _ _ _ => 0x7D0⟩ /- timeSliceUs -/,
  ⟨0x2100, 0x10000, 1, 1, 0x6, 0x6, .u 4, 37, 5, 5, true, false, [(0, 0), (10, 600000)], fun _ _ _ => 0x1388⟩ /- fenceWaitTimeoutMs -/,
  ⟨0x2100, 0x10000, 1, 1, 0x7, 0x7, .u 2, 45, 0, 0, false, false, [], fun _ _ _ => 0x1000⟩ /- pipelinesPerWorld -/,
  ⟨0x2100, 0x10000, 1, 1, 0x8, 0x8, .u 4, 37, 0, 0, false, false, [], fun _ _ _ => 0⟩ /- preemptWorstNs -/,
  ⟨0x2110, 0x10000, 1, 8, 0x1, 0x1, .u 1, 63, 5, 5, true, false, [], fun _ _ _ => 0⟩ /- flattenWorld -/,
  ⟨0x2110, 0x10000, 1, 8, 0x2, 0x2, .u 1, 63, 5, 5, true, false, [(0, 47), (255, 255)], fun _ _ _ => 0xFF⟩ /- flattenInstance -/,
  ⟨0x2110, 0x10000, 1, 8, 0x3, 0x3, .u 1, 63, 5, 5, true, false, [(0, 3)], fun _ _ _ => 0⟩ /- flattenRing -/,
  ⟨0x2110, 0x10000, 1, 8, 0x4, 0x4, .u 4, 63, 5, 5, true, false, [], fun _ _ _ => 0⟩ /- flattenStepsPerFrame -/,
  ⟨0x2110, 0x10000, 1, 8, 0x5, 0x5, .u 4, 45, 0, 0, false, false, [], fun _ _ _ => 0⟩ /- flattenLate -/,
  ⟨0x2110, 0x10000, 1, 8, 0x6, 0x6, .u 4, 45, 0, 0, false, false, [], fun _ _ _ => 0⟩ /- flattenLastFrame -/]

/-- Object rows of chapter 09, part a. -/
def rowsCh09a : List ObjRow := [
  ⟨0x3000, 0x200, 8, 1, 0x1, 0x1, .u 1, 47, 5, 5, true, false, [(0, 1)], fun _ _ _ => 0⟩ /- layerMode -/,
  ⟨0x3000, 0x200, 8, 1, 0x2, 0x2, .u 4, 47, 5, 5, true, false, [], fun _ _ _ => 0⟩ /- bgColour -/,
  ⟨0x3000, 0x200, 8, 1, 0x3, 0x3, .bool, 47, 5, 5, true, false, [], fun _ _ _ => 0⟩ /- flattenOn -/,
  ⟨0x3000, 0x200, 8, 1, 0x4, 0x4, .u 4, 47, 0, 0, false, false, [], fun _ _ _ => 0⟩ /- fetchBudget -/,
  ⟨0x3000, 0x200, 8, 1, 0x5, 0x5, .u 4, 47, 0, 0, false, false, [], fun _ _ _ => 0⟩ /- fetchAdmitted -/,
  ⟨0x3000, 0x200, 8, 1, 0x6, 0x6, .u 4, 47, 0, 0, false, false, [], fun _ _ _ => 0⟩ /- fetchRateMBps -/,
  ⟨0x3000, 0x200, 8, 1, 0x7, 0x7, .u 1, 47, 0, 0, false, false, [], fun _ _ _ => 0⟩ /- scalerQuality -/,
  ⟨0x3000, 0x200, 8, 1, 0x8, 0x8, .u 1, 47, 0, 0, false, false, [], fun _ _ _ => 0⟩ /- headBlanked -/,
  ⟨0x3000, 0x200, 8, 1, 0x9, 0x9, .u 4, 47, 0, 0, false, false, [], fun _ _ _ => 0⟩ /- scanAdmittedMBps -/,
  ⟨0x3000, 0x200, 8, 1, 0xA, 0xA, .u 2, 47, 5, 5, true, false, [(0, 0), (50, 60000)], fun _ _ _ => 0x3E8⟩ /- acquireTimeoutMs -/,
  ⟨0x3010, 0x200, 8, 8, 0x1, 0x1, .bool, 47, 5, 5, true, false, [], fun _ _ _ => 0⟩ /- layerEnable -/,
  ⟨0x3010, 0x200, 8, 8, 0x2, 0x2, .u 1, 47, 5, 5, true, false, [(0, 0), (2, 2), (4, 63)], fun _ _ _ => 0⟩ /- layerOwnerWorld -/,
  ⟨0x3010, 0x200, 8, 8, 0x3, 0x3, .u 1, 47, 5, 5, true, false, [], fun _ _ _ => 1⟩ /- layerFormat -/,
  ⟨0x3010, 0x200, 8, 8, 0x4, 0x4, .u 2, 47, 5, 5, true, false, [(1, 16384)], fun _ _ _ => 0⟩ /- layerSrcWidth -/,
  ⟨0x3010, 0x200, 8, 8, 0x5, 0x5, .u 2, 47, 5, 5, true, false, [(1, 16384)], fun _ _ _ => 0⟩ /- layerSrcHeight -/,
  ⟨0x3010, 0x200, 8, 8, 0x6, 0x6, .u 2, 47, 5, 5, true, false, [], fun _ _ _ => 0⟩ /- layerCropX -/,
  ⟨0x3010, 0x200, 8, 8, 0x7, 0x7, .u 2, 47, 5, 5, true, false, [], fun _ _ _ => 0⟩ /- layerCropY -/,
  ⟨0x3010, 0x200, 8, 8, 0x8, 0x8, .u 2, 47, 5, 5, true, false, [], fun _ _ _ => 0⟩ /- layerCropW -/,
  ⟨0x3010, 0x200, 8, 8, 0x9, 0x9, .u 2, 47, 5, 5, true, false, [], fun _ _ _ => 0⟩ /- layerCropH -/,
  ⟨0x3010, 0x200, 8, 8, 0xA, 0xA, .u 2, 47, 5, 5, true, false, [], fun _ _ _ => 0⟩ /- layerDstX -/,
  ⟨0x3010, 0x200, 8, 8, 0xB, 0xB, .u 2, 47, 5, 5, true, false, [], fun _ _ _ => 0⟩ /- layerDstY -/,
  ⟨0x3010, 0x200, 8, 8, 0xC, 0xC, .u 2, 47, 5, 5, true, false, [], fun _ _ _ => 0⟩ /- layerDstW -/,
  ⟨0x3010, 0x200, 8, 8, 0xD, 0xD, .u 2, 47, 5, 5, true, false, [], fun _ _ _ => 0⟩ /- layerDstH -/,
  ⟨0x3010, 0x200, 8, 8, 0xE, 0xE, .u 1, 47, 5, 5, true, false, [(0, 7)], fun _ b _ => b⟩ /- layerZOrder -/,
  ⟨0x3010, 0x200, 8, 8, 0xF, 0xF, .u 1, 47, 5, 5, true, false, [], fun _ _ _ => 0xFF⟩ /- layerGlobalAlpha -/,
  ⟨0x3010, 0x200, 8, 8, 0x10, 0x10, .u 1, 47, 5, 5, true, false, [(0, 2)], fun _ _ _ => 0⟩ /- layerBlendMode -/,
  ⟨0x3010, 0x200, 8, 8, 0x11, 0x11, .u 1, 47, 5, 5, true, false, [], fun _ _ _ => 1⟩ /- layerColourMatrix -/,
  ⟨0x3010, 0x200, 8, 8, 0x12, 0x12, .u 4, 47, 5, 5, true, false, [], fun _ _ _ => 0⟩ /- layerPoolKiB -/,
  ⟨0x3010, 0x200, 8, 8, 0x13, 0x13, .u 8, 47, 0, 0, false, false, [], fun _ _ _ => 0⟩ /- layerPoolGsa -/,
  ⟨0x3010, 0x200, 8, 8, 0x14, 0x14, .u 4, 47, 0, 0, false, false, [], fun _ _ _ => 0⟩ /- layerFetch -/,
  ⟨0x3010, 0x200, 8, 8, 0x15, 0x15, .u 1, 47, 5, 5, true, false, [(0, 7), (255, 255)], fun _ _ _ => 0xFF⟩ /- layerSourceRx -/,
  ⟨0x3010, 0x200, 8, 8, 0x16, 0x16, .u 8, 47, 0, 0, false, false, [], fun _ _ _ => 0⟩ /- layerActiveSurface -/,
  ⟨0x3010, 0x200, 8, 8, 0x17, 0x17, .u 4, 47, 0, 0, false, false, [], fun _ _ _ => 0⟩ /- layerActiveFlipEpoch -/,
  ⟨0x3020, 0x200, 8, 1, 0x1, 0x4, .domain 1024, 47, 5, 5, true, false, [], fun _ _ j => [Tables.coefHBand0, Tables.coefHBand1, Tables.coefHBand2, Tables.coefHBand3].getD j 0⟩ /- coefH -/,
  ⟨0x3020, 0x200, 8, 1, 0x5, 0x8, .domain 768, 47, 5, 5, true, false, [], fun _ _ j => [Tables.coefVBand0, Tables.coefVBand1, Tables.coefVBand2, Tables.coefVBand3].getD j 0⟩ /- coefV -/,
  ⟨0x3030, 0x200, 8, 1, 0x1, 0x1, .u 1, 47, 5, 5, true, false, [], fun _ _ _ => 0x1F⟩ /- chainEnable -/,
  ⟨0x3030, 0x200, 8, 1, 0x2, 0x2, .domain 1542, 47, 5, 5, true, false, [], fun _ _ _ => Tables.srgbDecode⟩ /- degammaLut -/,
  ⟨0x3030, 0x200, 8, 1, 0x3, 0x3, .domain 29478, 47, 5, 5, true, false, [], fun _ _ _ => Tables.identityLut⟩ /- lut3d -/,
  ⟨0x3030, 0x200, 8, 1, 0x4, 0x4, .domain 1542, 47, 5, 5, true, false, [], fun _ _ _ => Tables.srgbEncode⟩ /- gammaLut -/,
  ⟨0x3030, 0x200, 8, 1, 0x5, 0x5, .u 1, 47, 5, 5, true, false, [(0, 2)], fun _ _ _ => 2⟩ /- ditherMode -/]

/-- Object rows of chapter 09, part b. -/
def rowsCh09b : List ObjRow := [
  ⟨0x3040, 0x200, 8, 1, 0x1, 0x1, .u 1, 47, 5, 5, true, false, [(0, 4)], fun _ _ _ => 0⟩ /- sunSource -/,
  ⟨0x3040, 0x200, 8, 1, 0x2, 0x2, .u 1, 47, 5, 5, true, false, [], fun _ _ _ => 0⟩ /- sunManual -/,
  ⟨0x3040, 0x200, 8, 1, 0x3, 0x3, .oct 40, 47, 5, 5, true, false, [], fun _ _ _ => 0⟩ /- sunCurve -/,
  ⟨0x3040, 0x200, 8, 1, 0x4, 0x4, .u 4, 47, 0, 0, false, false, [], fun _ _ _ => 0⟩ /- sunLux -/,
  ⟨0x3040, 0x200, 8, 1, 0x5, 0x5, .u 1, 47, 0, 0, false, false, [], fun _ _ _ => 0⟩ /- sunBoost -/,
  ⟨0x3050, 0x200, 8, 1, 0x1, 0x1, .u 1, 47, 5, 5, true, false, [(0, 3)], fun _ _ _ => 0⟩ /- nightPalette -/,
  ⟨0x3050, 0x200, 8, 1, 0x2, 0x2, .u 1, 47, 5, 5, true, false, [(0, 63)], fun _ _ _ => 0x3F⟩ /- dimLevel -/,
  ⟨0x3050, 0x200, 8, 1, 0x3, 0x3, .oct 72, 47, 5, 5, true, false, [], fun _ _ _ => Tables.nightMatrices⟩ /- nightMatrices -/,
  ⟨0x3050, 0x200, 8, 1, 0x4, 0x4, .domain 512, 47, 5, 5, true, false, [], fun _ _ _ => Tables.dimmingTable⟩ /- dimTable -/,
  ⟨0x3050, 0x200, 8, 1, 0x5, 0x5, .u 4, 47, 0, 0, false, false, [], fun _ _ _ => 0⟩ /- backlightDuty -/,
  ⟨0x3050, 0x200, 8, 1, 0x6, 0x6, .u 1, 47, 0, 0, false, false, [], fun _ _ _ => 0⟩ /- ensignSet -/,
  ⟨0x3060, 0x200, 8, 16, 0x1, 0x1, .bool, 47, 0, 0, false, false, [], fun _ _ _ => 0⟩ /- regionUsed -/,
  ⟨0x3060, 0x200, 8, 16, 0x2, 0x2, .u 2, 47, 0, 0, false, false, [], fun _ _ _ => 0⟩ /- regionX -/,
  ⟨0x3060, 0x200, 8, 16, 0x3, 0x3, .u 2, 47, 0, 0, false, false, [], fun _ _ _ => 0⟩ /- regionY -/,
  ⟨0x3060, 0x200, 8, 16, 0x4, 0x4, .u 2, 47, 0, 0, false, false, [], fun _ _ _ => 0⟩ /- regionW -/,
  ⟨0x3060, 0x200, 8, 16, 0x5, 0x5, .u 2, 47, 0, 0, false, false, [], fun _ _ _ => 0⟩ /- regionH -/,
  ⟨0x3060, 0x200, 8, 16, 0x6, 0x6, .bool, 47, 0, 0, false, false, [], fun _ _ _ => 0⟩ /- regionLive -/,
  ⟨0x3060, 0x200, 8, 16, 0x7, 0x7, .u 2, 47, 0, 0, false, false, [], fun _ _ _ => 0⟩ /- pageShown -/,
  ⟨0x3060, 0x200, 8, 16, 0x8, 0x8, .u 4, 47, 0, 0, false, false, [], fun _ _ _ => 0⟩ /- lastSwapFrame -/,
  ⟨0x3070, 0x200, 8, 1, 0x1, 0x1, .u 4, 37, 0, 0, false, false, [], fun _ _ _ => 0⟩ /- flipsApplied -/,
  ⟨0x3070, 0x200, 8, 1, 0x2, 0x2, .u 4, 37, 0, 0, false, false, [], fun _ _ _ => 0⟩ /- flipsWaited -/,
  ⟨0x3070, 0x200, 8, 1, 0x3, 0x3, .u 4, 37, 0, 0, false, false, [], fun _ _ _ => 0⟩ /- flipsRefused -/,
  ⟨0x3070, 0x200, 8, 1, 0x4, 0x4, .u 4, 37, 0, 0, false, false, [], fun _ _ _ => 0⟩ /- layerFaults -/,
  ⟨0x3070, 0x200, 8, 1, 0x5, 0x5, .u 4, 37, 0, 0, false, false, [], fun _ _ _ => 0⟩ /- fetchLate -/,
  ⟨0x4F00, 0x10000, 1, 1, 0x1, 0x1, .u 4, 47, 0, 0, false, false, [], fun _ _ _ => 0⟩ /- packageVersion -/,
  ⟨0x4F00, 0x10000, 1, 1, 0x2, 0x2, .u 1, 47, 0, 0, false, false, [], fun _ _ _ => 0⟩ /- packageState -/,
  ⟨0x4F00, 0x10000, 1, 1, 0x3, 0x3, .u 4, 47, 0, 0, false, false, [], fun _ _ _ => 0⟩ /- sramUsed -/,
  ⟨0x4F01, 0x10000, 1, 1, 0x1, 0x1, .domain 8388608, 0, 5, 0, false, false, [], fun _ _ _ => 1⟩ /- packageStage -/,
  ⟨0x4F01, 0x10000, 1, 1, 0x2, 0x2, .u 1, 0, 5, 0, false, false, [(1, 3)], fun _ _ _ => 0⟩ /- packageOp -/,
  ⟨0x4F01, 0x10000, 1, 1, 0x3, 0x3, .u 2, 37, 0, 0, false, false, [], fun _ _ _ => 0⟩ /- packageStatus -/,
  ⟨0x4F01, 0x10000, 1, 1, 0x4, 0x4, .u 4, 37, 0, 0, false, false, [], fun _ _ _ => 0⟩ /- packageDetail -/,
  ⟨0x4F02, 0x10000, 1, 1, 0x1, 0x1, .u 2, 39, 0, 0, false, false, [], fun _ _ _ => 0⟩ /- bindings -/,
  ⟨0x4F02, 0x10000, 1, 1, 0x2, 0x2, .u 2, 39, 0, 0, false, false, [], fun _ _ _ => 0⟩ /- bindingsStale -/,
  ⟨0x4F02, 0x10000, 1, 1, 0x3, 0x3, .u 2, 39, 0, 0, false, false, [], fun _ _ _ => 0⟩ /- alarmsActive -/,
  ⟨0x4F02, 0x10000, 1, 1, 0x4, 0x4, .u 2, 39, 0, 0, false, false, [], fun _ _ _ => 0⟩ /- alarmsUnacked -/]

/-- Object rows of chapter 10, part a. -/
def rowsCh10a : List ObjRow := [
  ⟨0x30FF, 0x200, 8, 1, 0x1, 0x1, .u 2, 47, 0, 0, false, false, [], fun a _ _ => 0x4000 + 0x100 * a⟩ /- scanoutBase -/,
  ⟨0x30FF, 0x200, 8, 1, 0x2, 0x2, .u 2, 47, 0, 0, false, false, [], fun _ _ _ => 0x40⟩ /- scanoutCount -/,
  ⟨0x4000, 0x100, 8, 1, 0x1, 0x1, .u 1, 47, 5, 5, true, false, [(0, 3)], fun _ _ _ => 3⟩ /- portMode -/,
  ⟨0x4000, 0x100, 8, 1, 0x2, 0x2, .u 4, 47, 5, 5, true, false, [(25000, 1200000)], fun _ _ _ => 0⟩ /- pixelClockKhz -/,
  ⟨0x4000, 0x100, 8, 1, 0x3, 0x3, .u 2, 47, 5, 5, true, false, [], fun _ _ _ => 0⟩ /- hActive -/,
  ⟨0x4000, 0x100, 8, 1, 0x4, 0x4, .u 2, 47, 5, 5, true, false, [], fun _ _ _ => 0⟩ /- hFrontPorch -/,
  ⟨0x4000, 0x100, 8, 1, 0x5, 0x5, .u 2, 47, 5, 5, true, false, [], fun _ _ _ => 0⟩ /- hSync -/,
  ⟨0x4000, 0x100, 8, 1, 0x6, 0x6, .u 2, 47, 5, 5, true, false, [], fun _ _ _ => 0⟩ /- hBackPorch -/,
  ⟨0x4000, 0x100, 8, 1, 0x7, 0x7, .u 2, 47, 5, 5, true, false, [], fun _ _ _ => 0⟩ /- vActive -/,
  ⟨0x4000, 0x100, 8, 1, 0x8, 0x8, .u 2, 47, 5, 5, true, false, [], fun _ _ _ => 0⟩ /- vFrontPorch -/,
  ⟨0x4000, 0x100, 8, 1, 0x9, 0x9, .u 2, 47, 5, 5, true, false, [], fun _ _ _ => 0⟩ /- vSync -/,
  ⟨0x4000, 0x100, 8, 1, 0xA, 0xA, .u 2, 47, 5, 5, true, false, [], fun _ _ _ => 0⟩ /- vBackPorch -/,
  ⟨0x4000, 0x100, 8, 1, 0xB, 0xB, .u 1, 47, 5, 5, true, false, [], fun _ _ _ => 0⟩ /- syncPolarity -/,
  ⟨0x4000, 0x100, 8, 1, 0xC, 0xC, .u 1, 47, 5, 5, true, false, [(6, 6), (8, 8), (10, 10)], fun _ _ _ => 8⟩ /- panelDepth -/,
  ⟨0x4000, 0x100, 8, 1, 0xD, 0xD, .u 2, 47, 5, 5, true, false, [], fun _ _ _ => 0⟩ /- commitLineOffset -/,
  ⟨0x4000, 0x100, 8, 1, 0xE, 0xE, .bool, 47, 5, 5, true, false, [], fun _ _ _ => 1⟩ /- splitSameRate -/,
  ⟨0x4001, 0x100, 8, 1, 0x1, 0x1, .u 1, 47, 5, 5, true, false, [(0, 3)], fun _ _ _ => 0⟩ /- frameLockSource -/,
  ⟨0x4001, 0x100, 8, 1, 0x2, 0x2, .u 1, 47, 5, 5, true, false, [], fun _ _ _ => 0⟩ /- lockHead -/,
  ⟨0x4001, 0x100, 8, 1, 0x3, 0x3, .u 4, 47, 5, 5, true, false, [], fun _ _ _ => 0⟩ /- lockPhaseNs -/,
  ⟨0x4001, 0x100, 8, 1, 0x4, 0x4, .u 8, 47, 5, 5, true, false, [], fun _ _ _ => 0⟩ /- lockPeriodPs -/,
  ⟨0x4001, 0x100, 8, 1, 0x5, 0x5, .bool, 47, 5, 5, true, false, [], fun _ _ _ => 1⟩ /- lockJump -/,
  ⟨0x4001, 0x100, 8, 1, 0x6, 0x6, .u 1, 47, 0, 0, false, false, [], fun _ _ _ => 0⟩ /- lockState -/,
  ⟨0x4001, 0x100, 8, 1, 0x7, 0x7, .s 4, 47, 0, 0, false, false, [], fun _ _ _ => 0⟩ /- lockErrorNs -/,
  ⟨0x4001, 0x100, 8, 1, 0x8, 0x8, .s 2, 47, 0, 0, false, false, [], fun _ _ _ => 0⟩ /- clockTrim -/,
  ⟨0x4002, 0x100, 8, 1, 0x1, 0x1, .bool, 47, 5, 5, true, false, [], fun _ _ _ => 0⟩ /- stratusEnable -/,
  ⟨0x4002, 0x100, 8, 1, 0x2, 0x2, .u 1, 47, 5, 5, true, false, [(1, 60)], fun _ _ _ => 2⟩ /- stratusIdleFrames -/,
  ⟨0x4002, 0x100, 8, 1, 0x3, 0x3, .bool, 47, 5, 5, true, false, [], fun _ _ _ => 0⟩ /- stratusLinkOff -/,
  ⟨0x4002, 0x100, 8, 1, 0x4, 0x4, .u 1, 47, 5, 5, true, false, [(0, 100)], fun _ _ _ => 0x19⟩ /- stratusSuMaxPct -/,
  ⟨0x4002, 0x100, 8, 1, 0x5, 0x5, .u 1, 47, 0, 0, false, false, [], fun _ _ _ => 0⟩ /- stratusState -/,
  ⟨0x4002, 0x100, 8, 1, 0x6, 0x6, .u 4, 47, 0, 0, false, false, [], fun _ _ _ => 0⟩ /- stratusEntries -/,
  ⟨0x4003, 0x100, 8, 1, 0x1, 0x1, .u 1, 47, 5, 5, true, false, [(0, 2)], fun _ _ _ => 0⟩ /- teUse -/,
  ⟨0x4003, 0x100, 8, 1, 0x2, 0x2, .u 1, 47, 5, 5, true, false, [(0, 1)], fun _ _ _ => 0⟩ /- teEdge -/,
  ⟨0x4003, 0x100, 8, 1, 0x3, 0x3, .u 4, 47, 0, 0, false, false, [], fun _ _ _ => 0⟩ /- teCount -/,
  ⟨0x4003, 0x100, 8, 1, 0x4, 0x4, .time, 47, 0, 0, false, false, [], fun _ _ _ => 0⟩ /- teLastTime -/,
  ⟨0x4004, 0x100, 8, 1, 0x1, 0x1, .u 4, 47, 5, 5, true, false, [(200, 50000)], fun _ _ _ => 0x4E20⟩ /- pwmHz -/,
  ⟨0x4004, 0x100, 8, 1, 0x2, 0x2, .u 2, 47, 5, 5, true, false, [(0, 2000)], fun _ _ _ => 0xC8⟩ /- panelOnMs -/,
  ⟨0x4004, 0x100, 8, 1, 0x3, 0x3, .u 2, 47, 5, 5, true, false, [(0, 2000)], fun _ _ _ => 0x32⟩ /- backlightDelayMs -/,
  ⟨0x4004, 0x100, 8, 1, 0x4, 0x4, .bool, 47, 0, 0, false, false, [], fun _ _ _ => 0⟩ /- panelFault -/,
  ⟨0x4004, 0x100, 8, 1, 0x5, 0x5, .bool, 47, 0, 0, false, false, [], fun _ _ _ => 0⟩ /- panelEnableOut -/,
  ⟨0x4005, 0x100, 8, 1, 0x1, 0x1, .u 1, 47, 0, 0, false, false, [], fun _ _ _ => 0⟩ /- headState -/]

/-- Object rows of chapter 10, part b. -/
def rowsCh10b : List ObjRow := [
  ⟨0x4005, 0x100, 8, 1, 0x2, 0x2, .u 4, 47, 0, 0, false, false, [], fun _ _ _ => 0⟩ /- headFrame -/,
  ⟨0x4005, 0x100, 8, 1, 0x3, 0x3, .u 2, 47, 0, 0, false, false, [], fun _ _ _ => 0⟩ /- scanLine -/,
  ⟨0x4005, 0x100, 8, 1, 0x4, 0x4, .u 4, 47, 0, 0, false, false, [], fun _ _ _ => 0⟩ /- frameRateMhz -/,
  ⟨0x4005, 0x100, 8, 1, 0x5, 0x5, .u 4, 47, 0, 0, false, false, [], fun _ _ _ => 0⟩ /- lineTimePs -/,
  ⟨0x4005, 0x100, 8, 1, 0x6, 0x6, .u 2, 47, 0, 0, false, false, [], fun _ _ _ => 4⟩ /- commitLeadLines -/,
  ⟨0x4005, 0x100, 8, 1, 0x7, 0x7, .u 4, 47, 0, 0, false, false, [], fun _ _ _ => 0⟩ /- devicePixelKhz -/,
  ⟨0x4005, 0x100, 8, 1, 0x8, 0x8, .u 1, 47, 0, 0, false, false, [], fun _ _ _ => 0⟩ /- darkReason -/,
  ⟨0x4040, 0x100, 8, 1, 0x1, 0x1, .u 1, 47, 5, 5, true, false, [(1, 2), (4, 4)], fun _ _ _ => 4⟩ /- laneCount -/,
  ⟨0x4060, 0x100, 8, 1, 0x1, 0x1, .u 1, 47, 5, 5, true, false, [(1, 2), (4, 4)], fun _ _ _ => 4⟩ /- laneCount -/,
  ⟨0x4040, 0x100, 8, 1, 0x2, 0x2, .u 2, 47, 5, 5, true, false, [(1620, 1620), (2700, 2700), (5400, 5400), (8100, 8100)], fun _ _ _ => 0x1FA4⟩ /- linkRateMbps -/,
  ⟨0x4060, 0x100, 8, 1, 0x2, 0x2, .u 2, 47, 5, 5, true, false, [(1620, 1620), (2700, 2700), (5400, 5400), (8100, 8100)], fun _ _ _ => 0x1FA4⟩ /- linkRateMbps -/,
  ⟨0x4040, 0x100, 8, 1, 0x3, 0x3, .u 2, 47, 5, 5, true, false, [], fun _ _ _ => 0⟩ /- dscBpp16 -/,
  ⟨0x4060, 0x100, 8, 1, 0x3, 0x3, .u 2, 47, 5, 5, true, false, [], fun _ _ _ => 0⟩ /- dscBpp16 -/,
  ⟨0x4040, 0x100, 8, 1, 0x4, 0x4, .bool, 47, 5, 5, true, false, [], fun _ _ _ => 1⟩ /- assr -/,
  ⟨0x4060, 0x100, 8, 1, 0x4, 0x4, .bool, 47, 5, 5, true, false, [], fun _ _ _ => 1⟩ /- assr -/,
  ⟨0x4041, 0x100, 8, 1, 0x1, 0x1, .u 1, 47, 0, 0, false, false, [], fun _ _ _ => 0⟩ /- portState -/,
  ⟨0x4061, 0x100, 8, 1, 0x1, 0x1, .u 1, 47, 0, 0, false, false, [], fun _ _ _ => 0⟩ /- portState -/,
  ⟨0x4041, 0x100, 8, 1, 0x2, 0x2, .u 1, 47, 0, 0, false, false, [], fun _ _ _ => 0⟩ /- sinkKind -/,
  ⟨0x4061, 0x100, 8, 1, 0x2, 0x2, .u 1, 47, 0, 0, false, false, [], fun _ _ _ => 0⟩ /- sinkKind -/,
  ⟨0x4041, 0x100, 8, 1, 0x3, 0x3, .u 1, 47, 0, 0, false, false, [], fun _ _ _ => 0⟩ /- trainedLanes -/,
  ⟨0x4061, 0x100, 8, 1, 0x3, 0x3, .u 1, 47, 0, 0, false, false, [], fun _ _ _ => 0⟩ /- trainedLanes -/,
  ⟨0x4041, 0x100, 8, 1, 0x4, 0x4, .u 2, 47, 0, 0, false, false, [], fun _ _ _ => 0⟩ /- trainedRateMbps -/,
  ⟨0x4061, 0x100, 8, 1, 0x4, 0x4, .u 2, 47, 0, 0, false, false, [], fun _ _ _ => 0⟩ /- trainedRateMbps -/,
  ⟨0x4041, 0x100, 8, 1, 0x5, 0x5, .u 1, 47, 0, 0, false, false, [], fun _ _ _ => 0⟩ /- trainOutcome -/,
  ⟨0x4061, 0x100, 8, 1, 0x5, 0x5, .u 1, 47, 0, 0, false, false, [], fun _ _ _ => 0⟩ /- trainOutcome -/,
  ⟨0x4041, 0x100, 8, 1, 0x6, 0x6, .u 4, 47, 0, 0, false, false, [], fun _ _ _ => 0⟩ /- sinkCaps -/,
  ⟨0x4061, 0x100, 8, 1, 0x6, 0x6, .u 4, 47, 0, 0, false, false, [], fun _ _ _ => 0⟩ /- sinkCaps -/,
  ⟨0x4041, 0x100, 8, 1, 0x7, 0x7, .u 1, 47, 0, 0, false, false, [], fun _ _ _ => 0⟩ /- suGranularity -/,
  ⟨0x4061, 0x100, 8, 1, 0x7, 0x7, .u 1, 47, 0, 0, false, false, [], fun _ _ _ => 0⟩ /- suGranularity -/,
  ⟨0x4041, 0x100, 8, 1, 0x8, 0x8, .u 4, 47, 0, 0, false, false, [], fun _ _ _ => 0⟩ /- hpdEvents -/,
  ⟨0x4061, 0x100, 8, 1, 0x8, 0x8, .u 4, 47, 0, 0, false, false, [], fun _ _ _ => 0⟩ /- hpdEvents -/,
  ⟨0x4041, 0x100, 8, 1, 0x9, 0x9, .u 4, 47, 0, 0, false, false, [], fun _ _ _ => 0⟩ /- retrains -/,
  ⟨0x4061, 0x100, 8, 1, 0x9, 0x9, .u 4, 47, 0, 0, false, false, [], fun _ _ _ => 0⟩ /- retrains -/,
  ⟨0x4042, 0x100, 8, 1, 0x1, 0x1, .domain 512, 47, 0, 0, false, false, [], fun _ _ _ => 1⟩ /- sinkEdid -/,
  ⟨0x4062, 0x100, 8, 1, 0x1, 0x1, .domain 512, 47, 0, 0, false, false, [], fun _ _ _ => 1⟩ /- sinkEdid -/,
  ⟨0x4080, 0x100, 8, 1, 0x1, 0x1, .domain 512, 47, 5, 5, true, false, [], fun _ _ _ => Config.acdonEdid⟩ /- rxEdid -/,
  ⟨0x4080, 0x100, 8, 1, 0x2, 0x2, .u 1, 47, 5, 5, true, false, [], fun _ _ _ => 4⟩ /- rxMaxLanes -/,
  ⟨0x4080, 0x100, 8, 1, 0x3, 0x3, .u 2, 47, 5, 5, true, false, [], fun _ _ _ => 0x1FA4⟩ /- rxMaxRateMbps -/,
  ⟨0x4080, 0x100, 8, 1, 0x4, 0x4, .u 2, 47, 5, 5, true, false, [(0, 10000)], fun _ _ _ => 0x1F4⟩ /- rxHoldMs -/,
  ⟨0x4080, 0x100, 8, 1, 0x5, 0x5, .bool, 47, 5, 5, true, false, [], fun _ _ _ => 1⟩ /- rxEnable -/]

/-- Object rows of chapter 10, part c. -/
def rowsCh10c : List ObjRow := [
  ⟨0x4081, 0x100, 8, 1, 0x1, 0x1, .u 1, 47, 0, 0, false, false, [], fun _ _ _ => 0⟩ /- rxState -/,
  ⟨0x4081, 0x100, 8, 1, 0x2, 0x2, .u 2, 47, 0, 0, false, false, [], fun _ _ _ => 0⟩ /- rxWidth -/,
  ⟨0x4081, 0x100, 8, 1, 0x3, 0x3, .u 2, 47, 0, 0, false, false, [], fun _ _ _ => 0⟩ /- rxHeight -/,
  ⟨0x4081, 0x100, 8, 1, 0x4, 0x4, .u 4, 47, 0, 0, false, false, [], fun _ _ _ => 0⟩ /- rxRateMhz -/,
  ⟨0x4081, 0x100, 8, 1, 0x5, 0x5, .u 4, 47, 0, 0, false, false, [], fun _ _ _ => 0⟩ /- rxPixelKhz -/,
  ⟨0x4081, 0x100, 8, 1, 0x6, 0x6, .u 1, 47, 0, 0, false, false, [], fun _ _ _ => 0⟩ /- rxColour -/,
  ⟨0x4081, 0x100, 8, 1, 0x7, 0x7, .u 4, 47, 0, 0, false, false, [], fun _ _ _ => 0⟩ /- rxFramesWritten -/,
  ⟨0x4081, 0x100, 8, 1, 0x8, 0x8, .u 4, 47, 0, 0, false, false, [], fun _ _ _ => 0⟩ /- rxFramesDropped -/,
  ⟨0x4081, 0x100, 8, 1, 0x9, 0x9, .u 4, 47, 0, 0, false, false, [], fun _ _ _ => 0⟩ /- rxFramesRepeated -/,
  ⟨0x4082, 0x100, 8, 1, 0x1, 0x1, .u 4, 47, 0, 0, false, false, [], fun _ _ _ => 0x24414⟩ /- rxMaxPixelKhz -/]

/-- Object rows of chapter 11, part a. -/
def rowsCh11a : List ObjRow := [
  ⟨0x4800, 0x80, 8, 1, 0x1, 0x1, .u 4, 47, 5, 5, true, false, [], fun _ _ _ => 0xFFFFFFFF⟩ /- fallbackChain -/,
  ⟨0x4800, 0x80, 8, 1, 0x2, 0x2, .u 1, 47, 5, 5, true, false, [], fun _ _ _ => 0⟩ /- fallbackRegion -/,
  ⟨0x4800, 0x80, 8, 1, 0x3, 0x3, .u 1, 47, 0, 0, false, false, [], fun _ _ _ => 0⟩ /- takenOver -/,
  ⟨0x4800, 0x80, 8, 1, 0x4, 0x4, .u 1, 47, 0, 0, false, false, [], fun _ _ _ => 0xFF⟩ /- carriedBy -/,
  ⟨0x4810, 0x80, 8, 16, 0x1, 0x1, .u 1, 47, 0, 0, false, false, [], fun _ _ _ => 0⟩ /- sigRegionKind -/,
  ⟨0x4810, 0x80, 8, 16, 0x2, 0x2, .bool, 47, 5, 5, true, false, [], fun _ _ _ => 0⟩ /- sigOwnerEnable -/,
  ⟨0x4810, 0x80, 8, 16, 0x3, 0x3, .u 2, 47, 5, 5, true, false, [], fun _ _ _ => 0⟩ /- sigX -/,
  ⟨0x4810, 0x80, 8, 16, 0x4, 0x4, .u 2, 47, 5, 5, true, false, [], fun _ _ _ => 0⟩ /- sigY -/,
  ⟨0x4810, 0x80, 8, 16, 0x5, 0x5, .u 2, 47, 5, 5, true, false, [], fun _ _ _ => 0⟩ /- sigW -/,
  ⟨0x4810, 0x80, 8, 16, 0x6, 0x6, .u 2, 47, 5, 5, true, false, [], fun _ _ _ => 0⟩ /- sigH -/,
  ⟨0x4810, 0x80, 8, 16, 0x7, 0x7, .u 1, 47, 5, 5, true, false, [], fun _ _ _ => 0xFF⟩ /- sigTagMask -/,
  ⟨0x4810, 0x80, 8, 16, 0x8, 0x8, .bool, 47, 5, 5, true, false, [], fun _ _ _ => 0⟩ /- sigExpectedOn -/,
  ⟨0x4810, 0x80, 8, 16, 0x9, 0x9, .u 4, 47, 5, 5, true, false, [], fun _ _ _ => 0⟩ /- sigExpectedCrc -/,
  ⟨0x4810, 0x80, 8, 16, 0xA, 0xA, .u 2, 47, 5, 5, true, false, [(0, 0), (50, 60000)], fun _ _ _ => 0⟩ /- sigLiveWindowMs -/,
  ⟨0x4810, 0x80, 8, 16, 0xB, 0xB, .u 1, 47, 0, 0, false, false, [], fun _ _ _ => 0⟩ /- sigRegionCheck -/,
  ⟨0x4810, 0x80, 8, 16, 0xC, 0xC, .u 4, 47, 0, 0, false, false, [], fun _ _ _ => 0⟩ /- sigLastCrc -/,
  ⟨0x4810, 0x80, 8, 16, 0xD, 0xD, .u 4, 47, 0, 0, false, false, [], fun _ _ _ => 0⟩ /- sigLastFrame -/,
  ⟨0x4810, 0x80, 8, 16, 0xE, 0xE, .u 4, 47, 0, 0, false, false, [], fun _ _ _ => 0⟩ /- sigProvCount -/,
  ⟨0x4810, 0x80, 8, 16, 0xF, 0xF, .u 4, 47, 0, 0, false, false, [], fun _ _ _ => 0⟩ /- sigMismatches -/,
  ⟨0x4C00, 0x10000, 1, 1, 0x1, 0x1, .u 1, 39, 5, 0, false, false, [(1, 8)], fun _ _ _ => 2⟩ /- mismatchFrames -/,
  ⟨0x4C00, 0x10000, 1, 1, 0x2, 0x2, .u 2, 39, 5, 0, false, false, [(1, 3600)], fun _ _ _ => 0x3C⟩ /- returnFrames -/,
  ⟨0x4C00, 0x10000, 1, 1, 0x3, 0x3, .u 1, 39, 5, 0, false, false, [(0, 31), (255, 255)], fun _ _ _ => 0xFF⟩ /- alarmOutNoScreen -/,
  ⟨0x4C00, 0x10000, 1, 1, 0x4, 0x4, .u 1, 39, 5, 0, false, false, [(0, 31), (255, 255)], fun _ _ _ => 0xFF⟩ /- alarmOutDegraded -/,
  ⟨0x4C00, 0x10000, 1, 1, 0x5, 0x5, .u 1, 39, 5, 0, false, false, [(64, 255)], fun _ _ _ => 0xC8⟩ /- backupToneLevel -/,
  ⟨0x4C00, 0x10000, 1, 1, 0x6, 0x6, .u 2, 47, 0, 0, false, false, [], fun _ _ _ => 0⟩ /- pagesNoScreen -/]

/-- Object rows of chapter 12, part a. -/
def rowsCh12a : List ObjRow := [
  ⟨0x5000, 0x100, 8, 1, 0x1, 0x1, .u 1, 47, 5, 5, true, false, [], fun _ _ _ => 0xFF⟩ /- portHead -/,
  ⟨0x5000, 0x100, 8, 1, 0x2, 0x2, .u 2, 47, 5, 5, true, false, [], fun _ _ _ => 0⟩ /- mapX -/,
  ⟨0x5000, 0x100, 8, 1, 0x3, 0x3, .u 2, 47, 5, 5, true, false, [], fun _ _ _ => 0⟩ /- mapY -/,
  ⟨0x5000, 0x100, 8, 1, 0x4, 0x4, .u 2, 47, 5, 5, true, false, [], fun _ _ _ => 0⟩ /- mapW -/,
  ⟨0x5000, 0x100, 8, 1, 0x5, 0x5, .u 2, 47, 5, 5, true, false, [], fun _ _ _ => 0⟩ /- mapH -/,
  ⟨0x5000, 0x100, 8, 1, 0x6, 0x6, .u 1, 47, 5, 5, true, false, [], fun _ _ _ => 0⟩ /- orientation -/,
  ⟨0x5000, 0x100, 8, 1, 0x7, 0x7, .u 2, 47, 5, 5, true, false, [(1000, 10000)], fun _ _ _ => 0x1388⟩ /- nodePitchUm -/,
  ⟨0x5000, 0x100, 8, 1, 0x8, 0x8, .u 1, 47, 5, 5, true, false, [], fun _ _ _ => 0⟩ /- touchPassMask -/,
  ⟨0x5001, 0x100, 8, 1, 0x1, 0x1, .oct 128, 47, 5, 5, true, false, [], fun _ _ _ => 0⟩ /- channelRole -/,
  ⟨0x5001, 0x100, 8, 1, 0x2, 0x2, .u 1, 47, 0, 0, false, false, [], fun _ _ _ => 0⟩ /- driveCount -/,
  ⟨0x5001, 0x100, 8, 1, 0x3, 0x3, .u 1, 47, 0, 0, false, false, [], fun _ _ _ => 0⟩ /- senseCount -/,
  ⟨0x5001, 0x100, 8, 1, 0x4, 0x4, .u 2, 47, 0, 0, false, false, [], fun _ _ _ => 0⟩ /- nodeCount -/,
  ⟨0x5002, 0x100, 8, 1, 0x1, 0x1, .u 2, 47, 13, 13, true, false, [(16, 8000)], fun _ _ _ => 0x190⟩ /- touchThreshold -/,
  ⟨0x5002, 0x100, 8, 1, 0x2, 0x2, .u 2, 47, 13, 13, true, false, [], fun _ _ _ => 0xFA⟩ /- releaseThreshold -/,
  ⟨0x5002, 0x100, 8, 1, 0x3, 0x3, .u 2, 47, 13, 13, true, false, [], fun _ _ _ => 0x78⟩ /- gloveThreshold -/,
  ⟨0x5002, 0x100, 8, 1, 0x4, 0x4, .u 2, 47, 13, 13, true, false, [(16, 8000)], fun _ _ _ => 0xC8⟩ /- selfThreshold -/,
  ⟨0x5002, 0x100, 8, 1, 0x5, 0x5, .u 2, 47, 13, 13, true, false, [(16, 8000)], fun _ _ _ => 0x96⟩ /- negThreshold -/,
  ⟨0x5002, 0x100, 8, 1, 0x6, 0x6, .u 2, 47, 13, 13, true, false, [(16, 8000)], fun _ _ _ => 0x12C⟩ /- coveredDelta -/,
  ⟨0x5002, 0x100, 8, 1, 0x7, 0x7, .u 2, 47, 13, 13, true, false, [(8, 2000)], fun _ _ _ => 0x3C⟩ /- hopNoise -/,
  ⟨0x5002, 0x100, 8, 1, 0x8, 0x8, .u 1, 47, 13, 13, true, false, [(4, 255)], fun _ _ _ => 0x18⟩ /- palmNodes -/,
  ⟨0x5002, 0x100, 8, 1, 0x9, 0x9, .u 1, 47, 13, 13, true, false, [(0, 2)], fun _ _ _ => 2⟩ /- gloveMode -/,
  ⟨0x5002, 0x100, 8, 1, 0xA, 0xA, .u 1, 47, 13, 13, true, false, [], fun _ _ _ => 1⟩ /- waterMode -/,
  ⟨0x5003, 0x100, 8, 1, 0x1, 0x1, .u 4, 47, 13, 13, true, false, [(100, 86400000)], fun _ _ _ => 0x7D0⟩ /- idleStep1Ms -/,
  ⟨0x5003, 0x100, 8, 1, 0x2, 0x2, .u 4, 47, 13, 13, true, false, [(100, 86400000)], fun _ _ _ => 0x7530⟩ /- idleStep2Ms -/,
  ⟨0x5003, 0x100, 8, 1, 0x3, 0x3, .u 4, 47, 13, 13, true, false, [(100, 86400000)], fun _ _ _ => 0x493E0⟩ /- idleStep3Ms -/,
  ⟨0x5003, 0x100, 8, 1, 0x4, 0x4, .u 1, 47, 13, 13, true, false, [], fun _ _ _ => 3⟩ /- wakeMode -/,
  ⟨0x5004, 0x100, 8, 1, 0x1, 0x1, .u 2, 47, 0, 0, false, false, [], fun _ _ _ => 0⟩ /- scanRateHz -/,
  ⟨0x5004, 0x100, 8, 1, 0x2, 0x2, .u 1, 47, 0, 0, false, false, [], fun _ _ _ => 0⟩ /- freqIndex -/,
  ⟨0x5004, 0x100, 8, 1, 0x3, 0x3, .oct 32, 47, 0, 0, false, false, [], fun _ _ _ => 0⟩ /- noiseLevel -/,
  ⟨0x5004, 0x100, 8, 1, 0x4, 0x4, .u 1, 47, 0, 0, false, false, [], fun _ _ _ => 0⟩ /- contacts -/,
  ⟨0x5004, 0x100, 8, 1, 0x5, 0x5, .u 1, 47, 0, 0, false, false, [], fun _ _ _ => 0⟩ /- suppressed -/,
  ⟨0x5004, 0x100, 8, 1, 0x6, 0x6, .u 1, 47, 0, 0, false, false, [], fun _ _ _ => 0⟩ /- wetGlove -/,
  ⟨0x5004, 0x100, 8, 1, 0x7, 0x7, .oct 16, 47, 0, 0, false, false, [], fun _ _ _ => 0⟩ /- maskedChannels -/,
  ⟨0x5004, 0x100, 8, 1, 0x8, 0x8, .bool, 47, 0, 0, false, false, [], fun _ _ _ => 0⟩ /- degraded -/,
  ⟨0x5004, 0x100, 8, 1, 0x9, 0x9, .bool, 47, 0, 0, false, false, [], fun _ _ _ => 0⟩ /- refValid -/,
  ⟨0x5004, 0x100, 8, 1, 0xA, 0xA, .time, 47, 0, 0, false, false, [], fun _ _ _ => 0⟩ /- lastIntegrityTime -/,
  ⟨0x5004, 0x100, 8, 1, 0xB, 0xB, .u 4, 47, 0, 0, false, false, [], fun _ _ _ => 0⟩ /- scanFrames -/,
  ⟨0x5005, 0x100, 8, 1, 0x1, 0x1, .u 4, 47, 0, 0, false, false, [], fun _ _ _ => 0⟩ /- hops -/,
  ⟨0x5005, 0x100, 8, 1, 0x2, 0x2, .u 4, 47, 0, 0, false, false, [], fun _ _ _ => 0⟩ /- rebaselines -/,
  ⟨0x5005, 0x100, 8, 1, 0x3, 0x3, .u 4, 47, 0, 0, false, false, [], fun _ _ _ => 0⟩ /- contactsDiscarded -/]

/-- Object rows of chapter 12, part b. -/
def rowsCh12b : List ObjRow := [
  ⟨0x5006, 0x100, 8, 1, 0x1, 0x1, .domain 16777216, 45, 0, 0, false, false, [], fun _ _ _ => 1⟩ /- baselines -/]

/-- Object rows of chapter 13, part a. -/
def rowsCh13a : List ObjRow := [
  ⟨0x5800, 0x100, 3, 1, 0x1, 0x1, .bool, 47, 5, 5, true, false, [], fun _ _ _ => 1⟩ /- hapTouchHaptics -/,
  ⟨0x5800, 0x100, 3, 1, 0x2, 0x2, .u 1, 47, 0, 0, false, false, [], fun _ _ _ => 0⟩ /- hapHvState -/,
  ⟨0x5800, 0x100, 3, 1, 0x3, 0x3, .s 2, 47, 0, 0, false, false, [], fun _ _ _ => 0⟩ /- hapDriverTemp -/,
  ⟨0x5800, 0x100, 3, 1, 0x4, 0x4, .u 4, 47, 0, 0, false, false, [], fun _ _ _ => 0⟩ /- hapGroupPowerMw -/,
  ⟨0x5810, 0x100, 3, 16, 0x1, 0x1, .oct 8, 47, 5, 5, true, false, [], fun _ _ _ => 0xFFFFFFFFFFFFFFFF⟩ /- hapBinding -/,
  ⟨0x5820, 0x10, 8, 1, 0x1, 0x1, .bool, 47, 13, 13, true, false, [], fun _ _ _ => 0⟩ /- hapChEnable -/,
  ⟨0x5920, 0x10, 8, 1, 0x1, 0x1, .bool, 47, 13, 13, true, false, [], fun _ _ _ => 0⟩ /- hapChEnable -/,
  ⟨0x5A20, 0x10, 8, 1, 0x1, 0x1, .bool, 47, 13, 13, true, false, [], fun _ _ _ => 0⟩ /- hapChEnable -/,
  ⟨0x5820, 0x10, 8, 1, 0x2, 0x2, .u 1, 47, 13, 13, true, false, [(0, 2)], fun _ _ _ => 1⟩ /- hapChSenseMode -/,
  ⟨0x5920, 0x10, 8, 1, 0x2, 0x2, .u 1, 47, 13, 13, true, false, [(0, 2)], fun _ _ _ => 1⟩ /- hapChSenseMode -/,
  ⟨0x5A20, 0x10, 8, 1, 0x2, 0x2, .u 1, 47, 13, 13, true, false, [(0, 2)], fun _ _ _ => 1⟩ /- hapChSenseMode -/,
  ⟨0x5820, 0x10, 8, 1, 0x3, 0x3, .u 2, 47, 13, 13, true, false, [(100, 10000)], fun _ _ _ => 0x7D0⟩ /- hapChAccelFullScale -/,
  ⟨0x5920, 0x10, 8, 1, 0x3, 0x3, .u 2, 47, 13, 13, true, false, [(100, 10000)], fun _ _ _ => 0x7D0⟩ /- hapChAccelFullScale -/,
  ⟨0x5A20, 0x10, 8, 1, 0x3, 0x3, .u 2, 47, 13, 13, true, false, [(100, 10000)], fun _ _ _ => 0x7D0⟩ /- hapChAccelFullScale -/,
  ⟨0x5820, 0x10, 8, 1, 0x4, 0x4, .u 1, 47, 13, 13, true, false, [(0, 10)], fun _ _ _ => 3⟩ /- hapChBoostMs -/,
  ⟨0x5920, 0x10, 8, 1, 0x4, 0x4, .u 1, 47, 13, 13, true, false, [(0, 10)], fun _ _ _ => 3⟩ /- hapChBoostMs -/,
  ⟨0x5A20, 0x10, 8, 1, 0x4, 0x4, .u 1, 47, 13, 13, true, false, [(0, 10)], fun _ _ _ => 3⟩ /- hapChBoostMs -/,
  ⟨0x5820, 0x10, 8, 1, 0x5, 0x5, .u 1, 47, 13, 13, true, false, [(0, 20)], fun _ _ _ => 8⟩ /- hapChBrakeMs -/,
  ⟨0x5920, 0x10, 8, 1, 0x5, 0x5, .u 1, 47, 13, 13, true, false, [(0, 20)], fun _ _ _ => 8⟩ /- hapChBrakeMs -/,
  ⟨0x5A20, 0x10, 8, 1, 0x5, 0x5, .u 1, 47, 13, 13, true, false, [(0, 20)], fun _ _ _ => 8⟩ /- hapChBrakeMs -/,
  ⟨0x5820, 0x10, 8, 1, 0x6, 0x6, .u 2, 47, 13, 13, true, false, [], fun _ _ _ => 0x64⟩ /- hapChSenseGainUv -/,
  ⟨0x5920, 0x10, 8, 1, 0x6, 0x6, .u 2, 47, 13, 13, true, false, [], fun _ _ _ => 0x64⟩ /- hapChSenseGainUv -/,
  ⟨0x5A20, 0x10, 8, 1, 0x6, 0x6, .u 2, 47, 13, 13, true, false, [], fun _ _ _ => 0x64⟩ /- hapChSenseGainUv -/,
  ⟨0x5820, 0x10, 8, 1, 0x7, 0x7, .oct 4, 0, 15, 0, false, false, [], fun _ _ _ => 0⟩ /- hapChPlayEffect -/,
  ⟨0x5920, 0x10, 8, 1, 0x7, 0x7, .oct 4, 0, 15, 0, false, false, [], fun _ _ _ => 0⟩ /- hapChPlayEffect -/,
  ⟨0x5A20, 0x10, 8, 1, 0x7, 0x7, .oct 4, 0, 15, 0, false, false, [], fun _ _ _ => 0⟩ /- hapChPlayEffect -/,
  ⟨0x5821, 0x10, 8, 1, 0x1, 0x1, .u 1, 47, 0, 0, false, false, [], fun _ _ _ => 0⟩ /- hapChChannelState -/,
  ⟨0x5921, 0x10, 8, 1, 0x1, 0x1, .u 1, 47, 0, 0, false, false, [], fun _ _ _ => 0⟩ /- hapChChannelState -/,
  ⟨0x5A21, 0x10, 8, 1, 0x1, 0x1, .u 1, 47, 0, 0, false, false, [], fun _ _ _ => 0⟩ /- hapChChannelState -/,
  ⟨0x5821, 0x10, 8, 1, 0x2, 0x2, .u 1, 47, 0, 0, false, false, [], fun _ _ _ => 0⟩ /- hapChEffectNow -/,
  ⟨0x5921, 0x10, 8, 1, 0x2, 0x2, .u 1, 47, 0, 0, false, false, [], fun _ _ _ => 0⟩ /- hapChEffectNow -/,
  ⟨0x5A21, 0x10, 8, 1, 0x2, 0x2, .u 1, 47, 0, 0, false, false, [], fun _ _ _ => 0⟩ /- hapChEffectNow -/,
  ⟨0x5821, 0x10, 8, 1, 0x3, 0x3, .bool, 47, 0, 0, false, false, [], fun _ _ _ => 0⟩ /- hapChSenseActive -/,
  ⟨0x5921, 0x10, 8, 1, 0x3, 0x3, .bool, 47, 0, 0, false, false, [], fun _ _ _ => 0⟩ /- hapChSenseActive -/,
  ⟨0x5A21, 0x10, 8, 1, 0x3, 0x3, .bool, 47, 0, 0, false, false, [], fun _ _ _ => 0⟩ /- hapChSenseActive -/,
  ⟨0x5821, 0x10, 8, 1, 0x4, 0x4, .u 2, 47, 0, 0, false, false, [], fun _ _ _ => 0⟩ /- hapChLoadNf -/,
  ⟨0x5921, 0x10, 8, 1, 0x4, 0x4, .u 2, 47, 0, 0, false, false, [], fun _ _ _ => 0⟩ /- hapChLoadNf -/,
  ⟨0x5A21, 0x10, 8, 1, 0x4, 0x4, .u 2, 47, 0, 0, false, false, [], fun _ _ _ => 0⟩ /- hapChLoadNf -/,
  ⟨0x5821, 0x10, 8, 1, 0x5, 0x5, .u 2, 47, 0, 0, false, false, [], fun _ _ _ => 0⟩ /- hapChResonanceHz -/,
  ⟨0x5921, 0x10, 8, 1, 0x5, 0x5, .u 2, 47, 0, 0, false, false, [], fun _ _ _ => 0⟩ /- hapChResonanceHz -/]

/-- Object rows of chapter 13, part b. -/
def rowsCh13b : List ObjRow := [
  ⟨0x5A21, 0x10, 8, 1, 0x5, 0x5, .u 2, 47, 0, 0, false, false, [], fun _ _ _ => 0⟩ /- hapChResonanceHz -/,
  ⟨0x5821, 0x10, 8, 1, 0x6, 0x6, .u 4, 47, 0, 0, false, false, [], fun _ _ _ => 0⟩ /- hapChPlays -/,
  ⟨0x5921, 0x10, 8, 1, 0x6, 0x6, .u 4, 47, 0, 0, false, false, [], fun _ _ _ => 0⟩ /- hapChPlays -/,
  ⟨0x5A21, 0x10, 8, 1, 0x6, 0x6, .u 4, 47, 0, 0, false, false, [], fun _ _ _ => 0⟩ /- hapChPlays -/,
  ⟨0x5821, 0x10, 8, 1, 0x7, 0x7, .u 4, 47, 0, 0, false, false, [], fun _ _ _ => 0⟩ /- hapChSaturations -/,
  ⟨0x5921, 0x10, 8, 1, 0x7, 0x7, .u 4, 47, 0, 0, false, false, [], fun _ _ _ => 0⟩ /- hapChSaturations -/,
  ⟨0x5A21, 0x10, 8, 1, 0x7, 0x7, .u 4, 47, 0, 0, false, false, [], fun _ _ _ => 0⟩ /- hapChSaturations -/,
  ⟨0x5821, 0x10, 8, 1, 0x8, 0x8, .u 4, 47, 0, 0, false, false, [], fun _ _ _ => 0⟩ /- hapChFaults -/,
  ⟨0x5921, 0x10, 8, 1, 0x8, 0x8, .u 4, 47, 0, 0, false, false, [], fun _ _ _ => 0⟩ /- hapChFaults -/,
  ⟨0x5A21, 0x10, 8, 1, 0x8, 0x8, .u 4, 47, 0, 0, false, false, [], fun _ _ _ => 0⟩ /- hapChFaults -/]

/-- Object rows of chapter 14, part a. -/
def rowsCh14a : List ObjRow := [
  ⟨0x6000, 0x10000, 1, 1, 0x1, 0x1, .u 8, 39, 0, 0, false, false, [], fun _ _ _ => 0⟩ /- sampleCount -/,
  ⟨0x6000, 0x10000, 1, 1, 0x2, 0x2, .u 4, 39, 5, 5, true, false, [(44100, 44100), (48000, 48000), (96000, 96000)], fun _ _ _ => 0xBB80⟩ /- pRate -/,
  ⟨0x6000, 0x10000, 1, 1, 0x3, 0x3, .s 2, 39, 5, 5, true, false, [(-4000, -600)], fun _ _ _ => 0xF830⟩ /- duckDb -/,
  ⟨0x6000, 0x10000, 1, 1, 0x4, 0x4, .u 2, 39, 5, 5, true, false, [(1, 2000)], fun _ _ _ => 0x14⟩ /- duckAttackMs -/,
  ⟨0x6000, 0x10000, 1, 1, 0x5, 0x5, .u 2, 39, 5, 5, true, false, [(1, 2000)], fun _ _ _ => 0x1F4⟩ /- duckReleaseMs -/,
  ⟨0x6000, 0x10000, 1, 1, 0x6, 0x6, .s 2, 39, 5, 5, true, false, [(-3000, 0)], fun _ _ _ => 0xFDA8⟩ /- alarmFloorDb -/,
  ⟨0x6000, 0x10000, 1, 1, 0x7, 0x7, .u 1, 39, 5, 5, true, false, [], fun _ _ _ => 0xF⟩ /- backupSinks -/,
  ⟨0x6000, 0x10000, 1, 1, 0x8, 0x8, .u 2, 39, 5, 5, true, false, [(100, 10000)], fun _ _ _ => 0x3E8⟩ /- sourceHoldMs -/,
  ⟨0x6000, 0x10000, 1, 1, 0x9, 0x9, .u 1, 39, 0, 0, false, false, [], fun _ _ _ => 0⟩ /- tonesActive -/,
  ⟨0x6000, 0x10000, 1, 1, 0xA, 0xA, .u 4, 39, 0, 0, false, false, [], fun _ _ _ => 0x200⟩ /- fifoFreeKiB -/,
  ⟨0x6010, 0x10000, 1, 1, 0x0, 0xFF, .table, 39, 5, 5, true, false, [], fun _ _ j => if 248 ≤ j ∧ j < 252 then 6 + 65536 * (j - 248) else 0⟩ /- sourceTable -/,
  ⟨0x6011, 0x10000, 1, 1, 0x0, 0xFF, .table, 39, 0, 0, false, false, [], fun _ _ _ => 0⟩ /- sourceMeters -/,
  ⟨0x6100, 0x10000, 1, 64, 0x1, 0x1, .u 1, 39, 5, 5, true, false, [(0, 2)], fun _ _ _ => 0⟩ /- busDomain -/,
  ⟨0x6100, 0x10000, 1, 64, 0x2, 0x2, .s 2, 39, 5, 5, true, false, [(-12000, 1200)], fun _ _ _ => 0⟩ /- busGain -/,
  ⟨0x6100, 0x10000, 1, 64, 0x3, 0x3, .bool, 39, 5, 5, true, false, [], fun _ _ _ => 0⟩ /- busMute -/,
  ⟨0x6100, 0x10000, 1, 64, 0x4, 0x4, .u 2, 39, 5, 5, true, false, [(1, 2000)], fun _ _ _ => 0x14⟩ /- rampMs -/,
  ⟨0x6100, 0x10000, 1, 64, 0x5, 0x5, .oct 240, 39, 5, 5, true, false, [], fun _ _ _ => Tables.passThroughSections⟩ /- sections -/,
  ⟨0x6100, 0x10000, 1, 64, 0x6, 0x6, .u 2, 39, 5, 5, true, false, [], fun _ _ _ => 0⟩ /- sectionEnable -/,
  ⟨0x6100, 0x10000, 1, 64, 0x7, 0x7, .u 2, 39, 5, 5, true, false,
    [(0, 0)] ++ (List.range 8).map (fun u => (0x1000 + 256 * (u : Int), 0x100F + 256 * (u : Int))) ++ (List.range 4).map (fun u => (0x2000 + 256 * (u : Int), 0x2000 + 256 * (u : Int)))
    ++ (List.range 8).map (fun u => (0x3000 + 256 * (u : Int), 0x3001 + 256 * (u : Int))), fun _ _ _ => 0⟩ /- busSink -/,
  ⟨0x6100, 0x10000, 1, 64, 0x8, 0x8, .bool, 39, 5, 5, true, false, [], fun _ _ _ => 0⟩ /- alarmBus -/,
  ⟨0x6100, 0x10000, 1, 64, 0x9, 0x9, .u 2, 39, 5, 5, true, false, [(100, 10000)], fun _ _ _ => 0x3E8⟩ /- holdMs -/,
  ⟨0x6100, 0x10000, 1, 64, 0xA, 0xA, .oct 8, 39, 0, 0, false, false, [], fun _ _ _ => 0⟩ /- busMeter -/,
  ⟨0x6140, 0x10000, 1, 64, 0x0, 0xFF, .table, 39, 5, 5, true, false, [], fun _ _ _ => 0xD120⟩ /- crossRow -/,
  ⟨0x6180, 0x10000, 1, 4, 0x1, 0x1, .u 1, 39, 5, 5, true, false, [], fun _ _ _ => 0xFF⟩ /- bridgeFrom -/,
  ⟨0x6180, 0x10000, 1, 4, 0x2, 0x2, .u 1, 39, 5, 5, true, false, [], fun _ _ _ => 0xFF⟩ /- bridgeTo -/,
  ⟨0x6180, 0x10000, 1, 4, 0x3, 0x3, .oct 64, 39, 5, 5, true, false, [], fun _ _ _ => 2 ^ 512 - 1⟩ /- bridgeMap -/,
  ⟨0x6180, 0x10000, 1, 4, 0x4, 0x4, .u 1, 39, 0, 0, false, false, [], fun _ _ _ => 0⟩ /- bridgeState -/,
  ⟨0x6180, 0x10000, 1, 4, 0x5, 0x5, .u 4, 39, 0, 0, false, false, [], fun _ _ _ => 0⟩ /- bridgeRatio -/,
  ⟨0x6180, 0x10000, 1, 4, 0x6, 0x6, .u 4, 39, 0, 0, false, false, [], fun _ _ _ => 0⟩ /- unlocks -/,
  ⟨0x61C0, 0x10000, 1, 32, 0x1, 0x1, .u 1, 39, 5, 5, true, false, [], fun _ _ _ => 0xFF⟩ /- streamWorld -/,
  ⟨0x61C0, 0x10000, 1, 32, 0x2, 0x2, .u 1, 39, 5, 5, true, false, [(0, 1)], fun _ _ _ => 0⟩ /- streamDir -/,
  ⟨0x61C0, 0x10000, 1, 32, 0x3, 0x3, .u 1, 39, 5, 5, true, false, [(0, 2)], fun _ _ _ => 0⟩ /- streamDomain -/,
  ⟨0x61C0, 0x10000, 1, 32, 0x4, 0x4, .u 1, 39, 5, 5, true, false, [(1, 8)], fun _ _ _ => 2⟩ /- streamChannels -/,
  ⟨0x61C0, 0x10000, 1, 32, 0x5, 0x5, .u 1, 39, 5, 5, true, false, [], fun _ _ _ => 0⟩ /- streamFirst -/,
  ⟨0x61C0, 0x10000, 1, 32, 0x6, 0x6, .u 1, 39, 5, 5, true, false, [(0, 1)], fun _ _ _ => 0⟩ /- streamFormat -/,
  ⟨0x61C0, 0x10000, 1, 32, 0x7, 0x7, .u 1, 39, 5, 5, true, false, [], fun _ _ _ => 0xFF⟩ /- streamEndpoint -/,
  ⟨0x61C0, 0x10000, 1, 32, 0x8, 0x8, .u 1, 39, 0, 0, false, false, [], fun _ _ _ => 0⟩ /- streamState -/,
  ⟨0x61C0, 0x10000, 1, 32, 0x9, 0x9, .u 8, 39, 0, 0, false, false, [], fun _ _ _ => 0⟩ /- streamFrames -/,
  ⟨0x61C0, 0x10000, 1, 32, 0xA, 0xA, .u 4, 39, 0, 0, false, false, [], fun _ _ _ => 0x2710⟩ /- streamLatencyUs -/,
  ⟨0x61C0, 0x10000, 1, 32, 0xB, 0xB, .u 4, 39, 0, 0, false, false, [], fun _ _ _ => 0⟩ /- underruns -/]

/-- Object rows of chapter 14, part b. -/
def rowsCh14b : List ObjRow := [
  ⟨0x6200, 0x10000, 1, 8, 0x1, 0x1, .u 1, 47, 13, 13, true, false, [(0, 2)], fun _ _ _ => 0⟩ /- tdmMode -/,
  ⟨0x6200, 0x10000, 1, 8, 0x2, 0x2, .u 1, 47, 13, 13, true, false, [(2, 2), (4, 4), (8, 8), (16, 16)], fun _ _ _ => 8⟩ /- tdmSlots -/,
  ⟨0x6200, 0x10000, 1, 8, 0x3, 0x3, .u 1, 47, 13, 13, true, false, [(0, 2)], fun _ _ _ => 0⟩ /- tdmFormat -/,
  ⟨0x6200, 0x10000, 1, 8, 0x4, 0x4, .u 1, 47, 0, 0, false, false, [], fun _ _ _ => 0⟩ /- tdmState -/,
  ⟨0x6210, 0x10000, 1, 4, 0x1, 0x1, .bool, 39, 5, 5, true, false, [], fun _ _ _ => 0⟩ /- pdmEnable -/,
  ⟨0x6210, 0x10000, 1, 4, 0x2, 0x2, .s 2, 39, 5, 5, true, false, [(0, 3000)], fun _ _ _ => 0⟩ /- pdmGain -/]

/-- Object rows of chapter 15, part a. -/
def rowsCh15a : List ObjRow := [
  ⟨0x6800, 0x40, 32, 1, 0x1, 0x1, .u 1, 47, 0, 0, false, false, [], fun a _ _ => coreAssignment a⟩ /- coreAssignment -/,
  ⟨0x6800, 0x40, 32, 1, 0x2, 0x2, .u 1, 47, 0, 0, false, false, [], fun _ _ _ => 0⟩ /- coreState -/,
  ⟨0x6800, 0x40, 32, 1, 0x3, 0x3, .u 1, 45, 13, 13, true, false, [(0, 1)], fun _ _ _ => 0⟩ /- coreActiveBank -/,
  ⟨0x6800, 0x40, 32, 1, 0x4, 0x4, .u 1, 45, 13, 13, true, false, [(0, 1)], fun _ _ _ => 0⟩ /- corePeriodSource -/,
  ⟨0x6800, 0x40, 32, 1, 0x5, 0x5, .u 4, 45, 13, 13, true, false, [(10, 1000000)], fun _ _ _ => 0x3E8⟩ /- corePeriodUs -/,
  ⟨0x6800, 0x40, 32, 1, 0x6, 0x6, .u 4, 47, 0, 0, false, false, [], fun _ _ _ => 0⟩ /- corePeriodCount -/,
  ⟨0x6800, 0x40, 32, 1, 0x7, 0x7, .u 4, 47, 0, 0, false, false, [], fun _ _ _ => 0⟩ /- coreLateCount -/,
  ⟨0x6800, 0x40, 32, 1, 0x8, 0x8, .u 4, 47, 0, 0, false, false, [], fun _ _ _ => 0⟩ /- corePeakInstr -/,
  ⟨0x6800, 0x40, 32, 1, 0x9, 0x9, .u 4, 47, 0, 0, false, false, [], fun _ _ _ => 0⟩ /- coreResets -/,
  ⟨0x6801, 0x40, 32, 1, 0x1, 0x1, .domain 12456, 0, 13, 0, false, false, [], fun _ _ _ => 1⟩ /- coreProgramStage -/,
  ⟨0x6801, 0x40, 32, 1, 0x2, 0x2, .u 1, 0, 13, 0, false, false, [(1, 2)], fun _ _ _ => 0⟩ /- coreProgramOp -/,
  ⟨0x6801, 0x40, 32, 1, 0x3, 0x3, .u 2, 45, 0, 0, false, false, [], fun _ _ _ => 0⟩ /- coreProgramStatus -/,
  ⟨0x6801, 0x40, 32, 1, 0x4, 0x4, .u 4, 45, 0, 0, false, false, [], fun _ _ _ => 0⟩ /- coreProgramDetail -/,
  ⟨0x6801, 0x40, 32, 1, 0x5, 0x5, .u 1, 47, 0, 0, false, false, [], fun _ _ _ => 0⟩ /- coreBankStateA -/,
  ⟨0x6801, 0x40, 32, 1, 0x6, 0x6, .u 1, 47, 0, 0, false, false, [], fun _ _ _ => 0⟩ /- coreBankStateB -/,
  ⟨0x6801, 0x40, 32, 1, 0x7, 0x7, .u 4, 47, 0, 0, false, false, [], fun _ _ _ => 0⟩ /- coreBankVersionA -/,
  ⟨0x6801, 0x40, 32, 1, 0x8, 0x8, .u 4, 47, 0, 0, false, false, [], fun _ _ _ => 0⟩ /- coreBankVersionB -/,
  ⟨0x6802, 0x40, 32, 1, 0x1, 0x1, .u 2, 0, 13, 0, false, false, [], fun _ _ _ => 0⟩ /- coreMailboxIn -/,
  ⟨0x6802, 0x40, 32, 1, 0x2, 0x2, .u 2, 47, 0, 0, false, false, [], fun _ _ _ => 0⟩ /- coreMailboxOut -/,
  ⟨0x6802, 0x40, 32, 1, 0x3, 0x3, .u 2, 45, 13, 13, true, false, [(1, 60000)], fun _ _ _ => 0x10⟩ /- coreTrialPeriods -/]

/-- Object rows of chapter 16, part a. -/
def rowsCh16a : List ObjRow := [
  ⟨0x7000, 0x40, 16, 1, 0x1, 0x1, .u 1, 47, 15, 0, false, false, [(8, 8), (16, 16), (32, 32), (64, 64)], fun _ _ _ => 0x20⟩ /- chkCrcWidth -/,
  ⟨0x7000, 0x40, 16, 1, 0x2, 0x2, .u 4, 47, 15, 0, false, false, [], fun _ _ _ => 0x4C11DB7⟩ /- chkPoly -/,
  ⟨0x7000, 0x40, 16, 1, 0x3, 0x3, .u 8, 47, 15, 0, false, false, [], fun _ _ _ => 0xFFFFFFFF⟩ /- chkInit -/,
  ⟨0x7000, 0x40, 16, 1, 0x4, 0x4, .u 8, 47, 15, 0, false, false, [], fun _ _ _ => 0xFFFFFFFF⟩ /- chkXorOut -/,
  ⟨0x7000, 0x40, 16, 1, 0x5, 0x5, .u 1, 47, 15, 0, false, false, [(0, 3)], fun _ _ _ => 3⟩ /- chkReflect -/,
  ⟨0x7000, 0x40, 16, 1, 0x6, 0x6, .u 8, 47, 15, 0, false, false, [], fun _ _ _ => 0xFFFFFFFF⟩ /- chkRunningValue -/,
  ⟨0x7000, 0x40, 16, 1, 0x7, 0x7, .u 8, 47, 0, 0, false, false, [], fun _ _ _ => 0⟩ /- chkResult -/,
  ⟨0x7000, 0x40, 16, 1, 0x8, 0x8, .u 8, 47, 15, 0, false, false, [], fun _ _ _ => 0⟩ /- chkExpected -/,
  ⟨0x7000, 0x40, 16, 1, 0x9, 0x9, .u 1, 47, 15, 0, false, false, [(1, 3)], fun _ _ _ => 0⟩ /- chkCompareOp -/,
  ⟨0x7000, 0x40, 16, 1, 0xA, 0xA, .u 1, 47, 0, 0, false, false, [], fun _ _ _ => 0⟩ /- chkCompareResult -/,
  ⟨0x7000, 0x40, 16, 1, 0xB, 0xB, .u 1, 47, 15, 0, false, false, [(0, 31), (64, 67), (255, 255)], fun _ _ _ => 0xFF⟩ /- chkFeedSource -/,
  ⟨0x7000, 0x40, 16, 1, 0xC, 0xC, .domain 4096, 47, 15, 0, false, false, [], fun _ _ _ => 1⟩ /- chkFeedData -/,
  ⟨0x7000, 0x40, 16, 1, 0xD, 0xD, .u 1, 47, 15, 0, false, false, [(0, 1)], fun _ _ _ => 0⟩ /- chkRecordMode -/,
  ⟨0x7000, 0x40, 16, 1, 0xE, 0xE, .u 1, 47, 15, 0, false, false, [], fun _ _ _ => 0⟩ /- chkCrcOffset -/,
  ⟨0x7000, 0x40, 16, 1, 0xF, 0xF, .u 1, 47, 15, 0, false, false, [(0, 1)], fun _ _ _ => 0⟩ /- chkCrcOrder -/,
  ⟨0x7000, 0x40, 16, 1, 0x10, 0x10, .u 1, 47, 15, 0, false, false, [(0, 0), (4, 4), (8, 8)], fun _ _ _ => 0⟩ /- chkAliveWidth -/,
  ⟨0x7000, 0x40, 16, 1, 0x11, 0x11, .u 2, 47, 15, 0, false, false, [(0, 511)], fun _ _ _ => 0⟩ /- chkAliveBit -/,
  ⟨0x7000, 0x40, 16, 1, 0x12, 0x12, .u 1, 47, 15, 0, false, false, [(1, 255)], fun _ _ _ => 1⟩ /- chkAliveGap -/,
  ⟨0x7000, 0x40, 16, 1, 0x13, 0x13, .oct 8, 47, 0, 0, false, false, [], fun _ _ _ => 0⟩ /- chkLastAlive -/,
  ⟨0x7000, 0x40, 16, 1, 0x14, 0x14, .u 4, 47, 0, 0, false, false, [], fun _ _ _ => 0⟩ /- chkRecords -/,
  ⟨0x7000, 0x40, 16, 1, 0x15, 0x15, .u 4, 47, 0, 0, false, false, [], fun _ _ _ => 0⟩ /- chkFails -/,
  ⟨0x440, 0x10000, 1, 32, 0x1, 0x1, .u 1, 47, 0, 0, false, false, [], fun _ _ _ => 0⟩ /- slotKind -/,
  ⟨0x440, 0x10000, 1, 32, 0x2, 0x2, .u 1, 47, 0, 0, false, false, [], fun _ _ _ => 0⟩ /- slotUsage -/,
  ⟨0x440, 0x10000, 1, 32, 0x3, 0x3, .u 1, 47, 0, 0, false, false, [], fun _ _ _ => 0⟩ /- slotHolder -/,
  ⟨0x440, 0x10000, 1, 32, 0x4, 0x4, .u 4, 47, 0, 0, false, false, [], fun _ _ _ => 0⟩ /- generation -/,
  ⟨0x440, 0x10000, 1, 32, 0x5, 0x5, .u 1, 47, 0, 0, false, false, [], fun _ _ _ => 0⟩ /- slotState -/,
  ⟨0x440, 0x10000, 1, 32, 0x6, 0x6, .u 1, 47, 0, 0, false, false, [], fun _ _ _ => 0⟩ /- bound -/,
  ⟨0x440, 0x10000, 1, 32, 0x7, 0x7, .oct 97, 47, 0, 0, false, false, [], fun _ _ _ => 0⟩ /- publicKey -/,
  ⟨0x400, 0x10000, 1, 1, 0x1, 0x1, .u 1, 47, 0, 0, false, false, [], fun _ _ _ => 0⟩ /- lifecycleState -/,
  ⟨0x400, 0x10000, 1, 1, 0x2, 0x2, .u 1, 47, 0, 0, false, false, [], fun _ _ _ => 0xFF⟩ /- ownerSlot -/,
  ⟨0x400, 0x10000, 1, 1, 0x3, 0x3, .u 1, 47, 0, 0, false, false, [], fun _ _ _ => 0⟩ /- acdonSlot -/,
  ⟨0x400, 0x10000, 1, 1, 0x4, 0x4, .oct 8, 47, 0, 0, false, false, [], fun _ _ _ => 0⟩ /- rollbackFloors -/,
  ⟨0x400, 0x10000, 1, 1, 0x5, 0x5, .u 4, 47, 0, 0, false, false, [], fun _ _ _ => 0⟩ /- hoursInService -/,
  ⟨0x400, 0x10000, 1, 1, 0x6, 0x6, .oct 97, 63, 0, 0, false, false, [], fun _ _ _ => 0⟩ /- identityPub -/,
  ⟨0x400, 0x10000, 1, 1, 0x7, 0x7, .domain 16777216, 63, 0, 0, false, false, [], fun _ _ _ => 1⟩ /- identityCert -/,
  ⟨0x401, 0x10000, 1, 1, 0x1, 0x7, .oct 48, 47, 0, 0, false, false, [], fun _ _ _ => 0⟩ /- keyHash -/,
  ⟨0x401, 0x10000, 1, 1, 0x8, 0x8, .u 1, 47, 0, 0, false, false, [], fun _ _ _ => 0⟩ /- revokeMask -/,
  ⟨0x402, 0x10000, 1, 1, 0x1, 0x10, .oct 48, 63, 0, 0, false, false, [], fun _ _ _ => 0⟩ /- measurement -/,
  ⟨0x410, 0x10000, 1, 1, 0x1, 0x1, .oct 32, 63, 63, 0, false, true, [], fun _ _ _ => 0⟩ /- attestNonce -/,
  ⟨0x410, 0x10000, 1, 1, 0x2, 0x2, .u 1, 63, 63, 0, false, true, [(1, 1)], fun _ _ _ => 0⟩ /- attestOp -/]

/-- Object rows of chapter 16, part b. -/
def rowsCh16b : List ObjRow := [
  ⟨0x410, 0x10000, 1, 1, 0x3, 0x3, .domain 16777216, 63, 0, 0, false, true, [], fun _ _ _ => 1⟩ /- attestReport -/,
  ⟨0x410, 0x10000, 1, 1, 0x4, 0x4, .u 2, 63, 0, 0, false, true, [], fun _ _ _ => 0⟩ /- attestStatus -/,
  ⟨0x420, 0x10000, 1, 1, 0x1, 0x1, .u 1, 47, 47, 0, false, true, [(0, 31), (255, 255)], fun _ _ _ => 0⟩ /- cryptoSlot -/,
  ⟨0x420, 0x10000, 1, 1, 0x2, 0x2, .u 4, 47, 47, 0, false, true, [], fun _ _ _ => 0⟩ /- cryptoGen -/,
  ⟨0x420, 0x10000, 1, 1, 0x3, 0x3, .domain 16777216, 47, 47, 0, false, true, [], fun _ _ _ => 1⟩ /- cryptoInput -/,
  ⟨0x420, 0x10000, 1, 1, 0x4, 0x4, .u 1, 47, 47, 0, false, true, [(1, 3), (16, 21), (32, 36), (48, 48)], fun _ _ _ => 0⟩ /- cryptoOp -/,
  ⟨0x420, 0x10000, 1, 1, 0x5, 0x5, .u 2, 47, 0, 0, false, true, [], fun _ _ _ => 0⟩ /- cryptoStatus -/,
  ⟨0x420, 0x10000, 1, 1, 0x6, 0x6, .domain 16777216, 47, 0, 0, false, true, [], fun _ _ _ => 1⟩ /- cryptoOutput -/,
  ⟨0x430, 0x10000, 1, 1, 0x1, 0x1, .u 1, 37, 37, 0, false, true, [(0, 31)], fun _ _ _ => 0⟩ /- keySlot -/,
  ⟨0x430, 0x10000, 1, 1, 0x2, 0x2, .u 1, 37, 37, 0, false, true, [(0, 6)], fun _ _ _ => 0⟩ /- keyKind -/,
  ⟨0x430, 0x10000, 1, 1, 0x3, 0x3, .u 1, 37, 37, 0, false, true, [(0, 127)], fun _ _ _ => 0⟩ /- keyUsage -/,
  ⟨0x430, 0x10000, 1, 1, 0x4, 0x4, .domain 16777216, 37, 37, 0, false, true, [], fun _ _ _ => 1⟩ /- keyData -/,
  ⟨0x430, 0x10000, 1, 1, 0x5, 0x5, .u 1, 37, 37, 0, false, true, [(1, 4)], fun _ _ _ => 0⟩ /- keyOp -/,
  ⟨0x430, 0x10000, 1, 1, 0x6, 0x6, .u 2, 37, 0, 0, false, true, [], fun _ _ _ => 0⟩ /- keyStatus -/,
  ⟨0x470, 0x10000, 1, 1, 0x1, 0x1, .domain 16777216, 53, 53, 0, false, false, [], fun _ _ _ => 1⟩ /- ownerTicket -/,
  ⟨0x470, 0x10000, 1, 1, 0x2, 0x2, .u 1, 53, 53, 0, false, false, [(1, 1)], fun _ _ _ => 0⟩ /- ownerOp -/,
  ⟨0x470, 0x10000, 1, 1, 0x3, 0x3, .u 2, 53, 0, 0, false, false, [], fun _ _ _ => 0⟩ /- ownerStatus -/,
  ⟨0x480, 0x10000, 1, 1, 0x1, 0x1, .oct 456, 0, 36, 0, false, true, [], fun _ _ _ => 0⟩ /- debugCertIn -/]

/-- Object rows of chapter 17, part a. -/
def rowsCh17a : List ObjRow := [
  ⟨0x500, 0x10000, 1, 1, 0x1, 0x1, .u 1, 37, 0, 0, false, false, [], fun _ _ _ => 0⟩ /- updState -/,
  ⟨0x500, 0x10000, 1, 1, 0x2, 0x2, .oct 4096, 0, 37, 0, false, false, [], fun _ _ _ => 0⟩ /- updHeader -/,
  ⟨0x500, 0x10000, 1, 1, 0x3, 0x3, .domain 201322496, 0, 37, 0, false, false, [], fun _ _ _ => 1⟩ /- updBody -/,
  ⟨0x500, 0x10000, 1, 1, 0x4, 0x4, .u 1, 0, 37, 0, false, false, [(1, 6)], fun _ _ _ => 0⟩ /- updOp -/,
  ⟨0x500, 0x10000, 1, 1, 0x5, 0x5, .u 2, 37, 0, 0, false, false, [], fun _ _ _ => 0⟩ /- updStatus -/,
  ⟨0x500, 0x10000, 1, 1, 0x6, 0x6, .u 4, 37, 0, 0, false, false, [], fun _ _ _ => 0⟩ /- updDetail -/,
  ⟨0x500, 0x10000, 1, 1, 0x7, 0x7, .time, 37, 5, 0, false, false, [], fun _ _ _ => 0⟩ /- updActivateAt -/,
  ⟨0x500, 0x10000, 1, 1, 0x8, 0x8, .u 2, 37, 5, 0, false, false, [(0, 8760)], fun _ _ _ => 0x18⟩ /- updTrialHours -/,
  ⟨0x500, 0x10000, 1, 1, 0x9, 0x9, .u 2, 37, 0, 0, false, false, [], fun _ _ _ => 0⟩ /- updTrialLeftH -/,
  ⟨0x500, 0x10000, 1, 1, 0xA, 0xA, .u 4, 37, 0, 0, false, false, [], fun _ _ _ => 0⟩ /- updStagedVersion -/,
  ⟨0x500, 0x10000, 1, 1, 0xB, 0xB, .u 4, 37, 0, 0, false, false, [], fun _ _ _ => 0⟩ /- updActiveVersion -/,
  ⟨0x500, 0x10000, 1, 1, 0xC, 0xC, .u 1, 37, 5, 0, false, false, [], fun _ _ _ => 0⟩ /- updFloorClass -/,
  ⟨0x500, 0x10000, 1, 1, 0xD, 0xD, .u 1, 37, 5, 0, false, false, [], fun _ _ _ => 0⟩ /- updFloorStep -/,
  ⟨0x500, 0x10000, 1, 1, 0xE, 0xE, .handle, 37, 5, 0, false, false, [], fun _ _ _ => 0xFFFF⟩ /- updUsbPort -/,
  ⟨0x510, 0x10000, 1, 1, 0x0, 0xFF, .table, 37, 0, 0, false, false, [], fun _ _ _ => 0⟩ /- firmwareItems -/]

/-- Object rows of chapter 18, part a. -/
def rowsCh18a : List ObjRow := [
  ⟨0x600, 0x10000, 1, 1, 0x1, 0x1, .u 8, 37, 0, 0, false, false, [], fun _ _ _ => 1⟩ /- jnlNextSeq -/,
  ⟨0x600, 0x10000, 1, 1, 0x2, 0x2, .u 8, 37, 0, 0, false, false, [], fun _ _ _ => 1⟩ /- jnlOldestSeq -/,
  ⟨0x600, 0x10000, 1, 1, 0x3, 0x3, .u 4, 37, 0, 0, false, false, [], fun _ _ _ => 0⟩ /- jnlLiveRecords -/,
  ⟨0x600, 0x10000, 1, 1, 0x4, 0x4, .u 4, 37, 0, 0, false, false, [], fun _ _ _ => 0⟩ /- jnlRate -/,
  ⟨0x600, 0x10000, 1, 1, 0x5, 0x5, .u 4, 37, 0, 0, false, false, [], fun _ _ _ => 0⟩ /- jnlTailBytes -/,
  ⟨0x600, 0x10000, 1, 1, 0x6, 0x6, .u 4, 37, 0, 0, false, false, [], fun _ _ _ => 0xFA00⟩ /- jnlRecordLimit -/,
  ⟨0x600, 0x10000, 1, 1, 0x7, 0x7, .time, 37, 0, 0, false, false, [], fun _ _ _ => 0⟩ /- lastFlushAt -/,
  ⟨0x600, 0x10000, 1, 1, 0x8, 0x8, .u 4, 37, 0, 0, false, false, [], fun _ _ _ => 0⟩ /- lastFlushBytes -/,
  ⟨0x600, 0x10000, 1, 1, 0x9, 0x9, .u 4, 37, 0, 0, false, false, [], fun _ _ _ => 0⟩ /- settingsUsedKiB -/,
  ⟨0x601, 0x10000, 1, 1, 0x1, 0x1, .u 8, 45, 45, 0, false, true, [], fun _ _ _ => 0⟩ /- exportFromSeq -/,
  ⟨0x601, 0x10000, 1, 1, 0x2, 0x2, .u 4, 45, 45, 0, false, true, [(1, 65536)], fun _ _ _ => 0x1000⟩ /- exportCount -/,
  ⟨0x601, 0x10000, 1, 1, 0x3, 0x3, .u 1, 0, 45, 0, false, true, [(1, 1)], fun _ _ _ => 0⟩ /- exportOp -/,
  ⟨0x601, 0x10000, 1, 1, 0x4, 0x4, .u 2, 45, 0, 0, false, true, [], fun _ _ _ => 0⟩ /- exportStatus -/,
  ⟨0x601, 0x10000, 1, 1, 0x5, 0x5, .domain 16777216, 45, 0, 0, false, true, [], fun _ _ _ => 1⟩ /- exportData -/]

/-- Object rows of chapter 19, part a. -/
def rowsCh19a : List ObjRow := [
  ⟨0x300, 0x10000, 1, 1, 0x1, 0x1, .u 1, 63, 0, 0, false, false, [], fun _ _ _ => 0⟩ /- powerState -/,
  ⟨0x300, 0x10000, 1, 1, 0x2, 0x2, .u 2, 63, 0, 0, false, false, [], fun _ _ _ => 0⟩ /- vmainMv -/,
  ⟨0x300, 0x10000, 1, 1, 0x3, 0x3, .u 2, 63, 0, 0, false, false, [], fun _ _ _ => 0⟩ /- vbakMv -/,
  ⟨0x300, 0x10000, 1, 1, 0x4, 0x4, .u 4, 63, 0, 0, false, false, [], fun _ _ _ => 0⟩ /- inputPowerMw -/,
  ⟨0x300, 0x10000, 1, 1, 0x5, 0x5, .u 1, 63, 0, 0, false, false, [], fun _ _ _ => 0⟩ /- resetCause -/,
  ⟨0x300, 0x10000, 1, 1, 0x6, 0x6, .u 1, 63, 0, 0, false, false, [], fun _ _ _ => 0⟩ /- lastReturn -/,
  ⟨0x300, 0x10000, 1, 1, 0x7, 0x7, .u 4, 63, 0, 0, false, false, [], fun _ _ _ => 0⟩ /- holdupCount -/,
  ⟨0x300, 0x10000, 1, 1, 0x8, 0x8, .u 4, 63, 0, 0, false, false, [], fun _ _ _ => 0⟩ /- flushCount -/,
  ⟨0x300, 0x10000, 1, 1, 0x9, 0x9, .time, 63, 0, 0, false, false, [], fun _ _ _ => 0⟩ /- holdupSince -/,
  ⟨0x301, 0x10000, 1, 1, 0x1, 0x1, .u 1, 63, 5, 0, false, false, [], fun _ _ _ => 1⟩ /- holdupHeads -/,
  ⟨0x301, 0x10000, 1, 1, 0x2, 0x2, .u 2, 63, 5, 0, false, false, [(2900, 5500)], fun _ _ _ => 0xCE4⟩ /- vbakWarnMv -/,
  ⟨0x301, 0x10000, 1, 1, 0x3, 0x3, .u 1, 63, 5, 0, false, false, [(0, 31), (255, 255)], fun _ _ _ => 0xFF⟩ /- remoteOffInput -/,
  ⟨0x301, 0x10000, 1, 1, 0x4, 0x4, .u 1, 63, 5, 0, false, false, [], fun _ _ _ => 0⟩ /- holdupLinks -/]

/-- Object rows of chapter 20, part a. -/
def rowsCh20a : List ObjRow := [
  ⟨0x7400, 0x10000, 1, 1, 0x1, 0x1, .u 4, 37, 5, 0, false, false, [], fun _ _ _ => 0⟩ /- hoistId -/,
  ⟨0x7400, 0x10000, 1, 1, 0x2, 0x2, .u 1, 37, 5, 0, false, false, [(0, 3)], fun _ _ _ => 0⟩ /- cfgRole -/,
  ⟨0x7400, 0x10000, 1, 1, 0x3, 0x3, .u 1, 37, 5, 0, false, false, [(0, 63)], fun _ _ _ => 0⟩ /- cfgDeviceId -/,
  ⟨0x7400, 0x10000, 1, 1, 0x4, 0x4, .u 1, 37, 5, 0, false, false, [(0, 63), (255, 255)], fun _ _ _ => 0xFF⟩ /- deputyId -/,
  ⟨0x7400, 0x10000, 1, 1, 0x5, 0x5, .u 8, 37, 5, 0, false, false, [], fun _ _ _ => 0⟩ /- hoistMembers -/,
  ⟨0x7400, 0x10000, 1, 1, 0x6, 0x6, .u 2, 37, 5, 0, false, false, [(20, 1000)], fun _ _ _ => 0x32⟩ /- managerLossMs -/,
  ⟨0x7400, 0x10000, 1, 1, 0x7, 0x7, .u 2, 37, 5, 0, false, false, [(20, 1000)], fun _ _ _ => 0x32⟩ /- workerLossMs -/,
  ⟨0x7400, 0x10000, 1, 1, 0x8, 0x8, .u 1, 0, 5, 0, false, false, [(1, 2)], fun _ _ _ => 0⟩ /- hoistOp -/,
  ⟨0x7400, 0x10000, 1, 1, 0x9, 0x9, .u 2, 39, 0, 0, false, false, [], fun _ _ _ => 0⟩ /- hoistOpStatus -/,
  ⟨0x7400, 0x10000, 1, 1, 0xA, 0xA, .u 1, 37, 5, 0, false, false, [], fun _ _ _ => 0⟩ /- timeSource -/,
  ⟨0x7400, 0x10000, 1, 1, 0xB, 0xB, .u 1, 37, 5, 0, false, false, [], fun _ _ _ => 0⟩ /- ptpPort -/,
  ⟨0x7400, 0x10000, 1, 1, 0xC, 0xC, .u 1, 37, 5, 0, false, false, [], fun _ _ _ => 0⟩ /- ptpDomain -/,
  ⟨0x7400, 0x10000, 1, 1, 0xD, 0xD, .u 1, 37, 5, 0, false, false, [], fun _ _ _ => 0⟩ /- ptpTransport -/,
  ⟨0x7401, 0x10000, 1, 1, 0x1, 0x1, .u 1, 39, 0, 0, false, false, [], fun _ _ _ => 0⟩ /- hoistState -/,
  ⟨0x7401, 0x10000, 1, 1, 0x2, 0x2, .u 4, 39, 0, 0, false, false, [], fun _ _ _ => 0⟩ /- hoistTerm -/,
  ⟨0x7401, 0x10000, 1, 1, 0x3, 0x3, .u 1, 39, 0, 0, false, false, [], fun _ _ _ => 0⟩ /- managerId -/,
  ⟨0x7401, 0x10000, 1, 1, 0x4, 0x4, .u 1, 39, 0, 0, false, false, [], fun _ _ _ => 0⟩ /- hopsToManager -/,
  ⟨0x7401, 0x10000, 1, 1, 0x5, 0x5, .u 1, 39, 0, 0, false, false, [], fun _ _ _ => 0xFF⟩ /- parentLink -/,
  ⟨0x7401, 0x10000, 1, 1, 0x6, 0x6, .s 4, 39, 0, 0, false, false, [], fun _ _ _ => 0⟩ /- timeOffsetNs -/,
  ⟨0x7401, 0x10000, 1, 1, 0x7, 0x7, .u 8, 39, 0, 0, false, false, [], fun _ _ _ => 0⟩ /- membersAlive -/,
  ⟨0x7401, 0x10000, 1, 1, 0x8, 0x8, .u 8, 37, 5, 0, false, false, [], fun _ _ _ => 0⟩ /- missedSched -/,
  ⟨0x7410, 0x10000, 1, 4, 0x1, 0x1, .u 1, 39, 0, 0, false, false, [], fun _ _ _ => 0⟩ /- hoistLinkState -/,
  ⟨0x7410, 0x10000, 1, 4, 0x2, 0x2, .u 1, 39, 0, 0, false, false, [], fun _ _ _ => 0xFF⟩ /- hoistPeerDevice -/,
  ⟨0x7410, 0x10000, 1, 4, 0x3, 0x3, .u 8, 39, 0, 0, false, false, [], fun _ _ _ => 0⟩ /- hoistPeerSerial -/,
  ⟨0x7410, 0x10000, 1, 4, 0x4, 0x4, .u 4, 39, 0, 0, false, false, [], fun _ _ _ => 0⟩ /- hoistLinkRttNs -/,
  ⟨0x7410, 0x10000, 1, 4, 0x5, 0x5, .u 4, 39, 0, 0, false, false, [], fun _ _ _ => 0⟩ /- hoistLinkErrors -/,
  ⟨0x7410, 0x10000, 1, 4, 0x6, 0x6, .u 4, 39, 0, 0, false, false, [], fun _ _ _ => 0⟩ /- hoistFeedAdmittedMBps -/,
  ⟨0x7420, 0x10000, 1, 16, 0x1, 0x1, .u 1, 37, 5, 0, false, false, [], fun _ _ _ => 0xFF⟩ /- feedSourceDevice -/,
  ⟨0x7420, 0x10000, 1, 16, 0x2, 0x2, .u 4, 37, 5, 0, false, false, [], fun _ _ _ => 0⟩ /- feedExport -/,
  ⟨0x7420, 0x10000, 1, 16, 0x3, 0x3, .u 1, 37, 5, 0, false, false, [], fun _ _ _ => 0⟩ /- feedHead -/,
  ⟨0x7420, 0x10000, 1, 16, 0x4, 0x4, .u 1, 37, 5, 0, false, false, [], fun _ _ _ => 0⟩ /- feedLayer -/,
  ⟨0x7420, 0x10000, 1, 16, 0x5, 0x5, .u 1, 37, 5, 0, false, false, [], fun _ _ _ => 1⟩ /- feedFormat -/,
  ⟨0x7420, 0x10000, 1, 16, 0x6, 0x6, .u 2, 37, 5, 0, false, false, [], fun _ _ _ => 0⟩ /- feedWidth -/,
  ⟨0x7420, 0x10000, 1, 16, 0x7, 0x7, .u 2, 37, 5, 0, false, false, [], fun _ _ _ => 0⟩ /- feedHeight -/,
  ⟨0x7420, 0x10000, 1, 16, 0x8, 0x8, .u 2, 37, 5, 0, false, false, [(0, 10000)], fun _ _ _ => 0x1F4⟩ /- feedHoldMs -/,
  ⟨0x7420, 0x10000, 1, 16, 0x9, 0x9, .u 1, 0, 5, 0, false, false, [(1, 2)], fun _ _ _ => 0⟩ /- feedOp -/,
  ⟨0x7420, 0x10000, 1, 16, 0xA, 0xA, .u 1, 39, 0, 0, false, false, [], fun _ _ _ => 0⟩ /- feedState -/,
  ⟨0x7420, 0x10000, 1, 16, 0xB, 0xB, .u 4, 39, 0, 0, false, false, [], fun _ _ _ => 0⟩ /- feedFrames -/]

/-- Object rows of chapter 21, part a. -/
def rowsCh21a : List ObjRow := [
  ⟨0x7800, 0x10000, 1, 5, 0x1, 0x80, .u 4, 47, 0, 0, false, false, [], fun _ _ _ => 0⟩ /- counter -/,
  ⟨0x7805, 0x10000, 1, 1, 0x1, 0x50, .u 4, 47, 0, 0, false, false, [], fun _ _ _ => 0⟩ /- counter, last index -/,
  ⟨0x7806, 0x10000, 1, 1, 0x1, 0x1, .oct 90, 37, 37, 0, false, false, [], fun _ _ _ => 0⟩ /- chainMask -/,
  ⟨0x7806, 0x10000, 1, 1, 0x2, 0x2, .oct 90, 47, 0, 0, false, false, [], fun _ _ _ => 0⟩ /- overflowFlags -/,
  ⟨0x7806, 0x10000, 1, 1, 0x3, 0x3, .oct 90, 0, 45, 0, false, false, [], fun _ _ _ => 0⟩ /- overflowClear -/,
  ⟨0x7807, 0x10000, 1, 1, 0x1, 0x1, .u 2, 47, 47, 0, false, true, [], fun _ _ _ => 0⟩ /- pairSelect -/,
  ⟨0x7807, 0x10000, 1, 1, 0x2, 0x2, .u 8, 47, 0, 0, false, true, [], fun _ _ _ => 0⟩ /- pairValue -/,
  ⟨0x7808, 0x10000, 1, 1, 0x1, 0x1, .u 1, 39, 39, 0, false, true, [], fun _ _ _ => 0⟩ /- snapshotOp -/,
  ⟨0x7808, 0x10000, 1, 1, 0x2, 0x2, .u 2, 39, 0, 0, false, true, [], fun _ _ _ => 0⟩ /- snapshotStatus -/,
  ⟨0x7808, 0x10000, 1, 1, 0x3, 0x3, .time, 39, 0, 0, false, true, [], fun _ _ _ => 0⟩ /- snapshotTime -/,
  ⟨0x7809, 0x10000, 1, 1, 0x0, 0xFF, .table, 39, 0, 0, false, true, [], fun _ _ _ => 0⟩ /- snapshot -/,
  ⟨0x7820, 0x10000, 1, 4, 0x1, 0x1, .u 2, 45, 45, 0, false, false, [], fun _ _ _ => 0xFFFF⟩ /- sampleCounter -/,
  ⟨0x7820, 0x10000, 1, 4, 0x2, 0x2, .u 4, 45, 45, 0, false, false, [], fun _ _ _ => 0⟩ /- samplePeriod -/,
  ⟨0x7820, 0x10000, 1, 4, 0x3, 0x3, .u 1, 45, 45, 0, false, false, [], fun _ _ _ => 0⟩ /- sampleOp -/,
  ⟨0x7820, 0x10000, 1, 4, 0x4, 0x4, .u 2, 47, 0, 0, false, false, [], fun _ _ _ => 0⟩ /- sampleHolder -/,
  ⟨0x7820, 0x10000, 1, 4, 0x5, 0x5, .u 4, 47, 0, 0, false, false, [], fun _ _ _ => 0⟩ /- samplesLost -/]

/-- Object rows of chapter 22, part a. -/
def rowsCh22a : List ObjRow := [
  ⟨0x20, 0x10000, 1, 1, 0x1, 0x1, .u 4, 37, 0, 0, false, false, [], fun _ _ _ => 0x40⟩ /- remapRowsLeft -/,
  ⟨0x20, 0x10000, 1, 1, 0x2, 0x2, .u 4, 37, 0, 0, false, false, [], fun _ _ _ => 0x800⟩ /- retireRowsLeft -/,
  ⟨0x20, 0x10000, 1, 1, 0x3, 0x3, .u 4, 37, 0, 0, false, false, [], fun _ _ _ => 8⟩ /- touchPortsWhole -/,
  ⟨0x20, 0x10000, 1, 1, 0x4, 0x4, .u 4, 37, 0, 0, false, false, [], fun _ _ _ => 0x40⟩ /- norBlocksLeft -/,
  ⟨0x20, 0x10000, 1, 1, 0x5, 0x5, .u 4, 37, 0, 0, false, false, [], fun _ _ _ => 0x40⟩ /- rollbackStepsLeft -/,
  ⟨0x20, 0x10000, 1, 1, 0x6, 0x6, .u 4, 37, 0, 0, false, false, [], fun _ _ _ => 4⟩ /- ownerSlotsLeft -/,
  ⟨0x20, 0x10000, 1, 1, 0x7, 0x7, .u 4, 37, 0, 0, false, false, [], fun _ _ _ => 3⟩ /- acdonSlotsLive -/,
  ⟨0x20, 0x10000, 1, 1, 0x8, 0x8, .u 4, 37, 0, 0, false, false, [], fun _ _ _ => 0xFFFFFFFF⟩ /- headroomHours -/]

/-- Object rows of chapter 23, part a. -/
def rowsCh23a : List ObjRow := [
  ⟨0x38, 0x10000, 1, 4, 0x1, 0x1, .u 1, 37, 5, 0, false, false, [(0, 3)], fun _ _ _ => 3⟩ /- ethInterface -/,
  ⟨0x38, 0x10000, 1, 4, 0x2, 0x2, .bool, 37, 0, 0, false, false, [], fun _ _ _ => 0⟩ /- ethLinkUp -/,
  ⟨0x38, 0x10000, 1, 4, 0x3, 0x3, .u 2, 37, 0, 0, false, false, [], fun _ _ _ => 0⟩ /- ethSpeedMbps -/,
  ⟨0x3C, 0x10000, 1, 4, 0x1, 0x1, .u 1, 37, 5, 0, false, false, [(3, 5)], fun _ _ _ => 5⟩ /- pcieSpeedMax -/,
  ⟨0x3C, 0x10000, 1, 4, 0x2, 0x2, .u 1, 37, 5, 0, false, false, [(0, 1)], fun _ _ _ => 0⟩ /- pcieClocking -/,
  ⟨0x3C, 0x10000, 1, 4, 0x3, 0x3, .u 1, 37, 0, 0, false, false, [], fun _ _ _ => 0⟩ /- pcieLinkSpeed -/,
  ⟨0x3C, 0x10000, 1, 4, 0x4, 0x4, .u 1, 37, 0, 0, false, false, [], fun _ _ _ => 0⟩ /- pcieLinkWidth -/,
  ⟨0x30, 0x10000, 1, 1, 0x1, 0x1, .u 4, 47, 0, 0, false, false, [], fun _ _ _ => 0⟩ /- ioLevels -/,
  ⟨0x30, 0x10000, 1, 1, 0x2, 0x2, .u 4, 47, 0, 0, false, false, [], fun _ _ _ => 0⟩ /- ioOutputs -/,
  ⟨0x30, 0x10000, 1, 1, 0x3, 0x3, .u 4, 39, 5, 0, false, false, [], fun _ _ _ => 0⟩ /- ioPolarity -/,
  ⟨0x31, 0x10000, 1, 4, 0x1, 0x1, .u 1, 39, 5, 0, false, false, [(0, 2)], fun _ _ _ => 0⟩ /- lightMode -/,
  ⟨0x31, 0x10000, 1, 4, 0x2, 0x2, .u 1, 39, 5, 0, false, false, [(0, 127)], fun _ _ _ => 0x29⟩ /- lightAddr -/,
  ⟨0x31, 0x10000, 1, 4, 0x3, 0x3, .u 1, 39, 5, 0, false, false, [], fun _ _ _ => 0⟩ /- lightReg -/,
  ⟨0x31, 0x10000, 1, 4, 0x4, 0x4, .u 4, 39, 5, 0, false, false, [(1, 1000000)], fun _ _ _ => 0x3E8⟩ /- lightScale -/,
  ⟨0x31, 0x10000, 1, 4, 0x5, 0x5, .bool, 39, 0, 0, false, false, [], fun _ _ _ => 0⟩ /- lightValid -/,
  ⟨0x31, 0x10000, 1, 4, 0x6, 0x6, .u 4, 39, 0, 0, false, false, [], fun _ _ _ => 0⟩ /- lightFails -/]

/-- Every object row of the dictionary, chapter by chapter. -/
def objRows : List ObjRow :=
  rowsCh01a ++
  rowsCh02a ++
  rowsCh02b ++
  rowsCh03a ++
  rowsCh04a ++
  rowsCh05a ++
  rowsCh06a ++
  rowsCh07a ++
  rowsCh08a ++
  rowsCh09a ++
  rowsCh09b ++
  rowsCh10a ++
  rowsCh10b ++
  rowsCh10c ++
  rowsCh11a ++
  rowsCh12a ++
  rowsCh12b ++
  rowsCh13a ++
  rowsCh13b ++
  rowsCh14a ++
  rowsCh14b ++
  rowsCh15a ++
  rowsCh16a ++
  rowsCh16b ++
  rowsCh17a ++
  rowsCh18a ++
  rowsCh19a ++
  rowsCh20a ++
  rowsCh21a ++
  rowsCh22a ++
  rowsCh23a

/-- The row that covers an object key, if any (R26). -/
def objRow (k : Nat) : Option ObjRow := objRows.find? (fun o => o.covers (k / 256) (k % 256))

/-- What an object reads when nothing has been stored in it: its default (R35); 0 where the table gives none
(log 1) or where no object lies. -/
def objDefault (k : Nat) : Nat :=
  match objRow k with
  | some o => o.dfltAt (k / 256) (k % 256)
  | none => 0

end Sys2Proof.Machine
end

