-- ==== Sys2Proof/Machine/Regs.lean ====
section
/-!
DEFINITION. Machine/Regs.lean: the registers and counters the spec gives the machine that are no dictionary objects: ring and
event queue control blocks, mailbox words, deadlines, counts, conditions. Each has a key above the dictionary's key
space, so that one table of words holds every register; the per-session copies of R27 lie above both.
A hoist time held as "plus 1" reads 0 for none.
-/
namespace Sys2Proof.Machine

/-- Key of register number `t` with indices `a` and `b` (both below 2^20). -/
abbrev ireg (t a b : Nat) : Nat := 0x10000000000 * (t + 1) + 0x100000 * a + b

/-- Key of session `n`'s own copy of the object with key `k` (R27). -/
abbrev skey (n k : Nat) : Nat := 0x1000000000000000 * (n + 1) + k

namespace Reg

/-- State code of unit h: 0 ABSENT, 1 ALIVE, 2 TRIAL, 3 QUIESCING, 4 QUIESCED, 5 DEAD (R20 chapter 1 Unit state codes). -/
abbrev unitState (h : Nat) : Nat := ireg 0 h 0

/-- 1 while session n is open (R29). -/
abbrev sessOpen (n : Nat) : Nat := ireg 1 n 0

/-- Class of session n: 0 HAL, 1 ENS, 2 OWN, 3 GST, 4 FLD, 5 DBG (R29). -/
abbrev sessClass (n : Nat) : Nat := ireg 2 n 0

/-- Transport of session n: 0 internal, 1 CAN FD, 2 plain UDP, 3 DTLS, 4 PCIe physical function, 5 PCIe virtual function, 6 hoist link, 7 remote transport (R29 table Session classes by transport). -/
abbrev sessTransport (n : Nat) : Nat := ireg 3 n 0

/-- Port, link or set-up mailbox number of session n on its transport (R29). -/
abbrev sessPort (n : Nat) : Nat := ireg 4 n 0

/-- World on whose behalf session n makes its requests (R98). -/
abbrev sessWorld (n : Nat) : Nat := ireg 5 n 0

/-- 1 while DTLS session n is pending (R30). -/
abbrev sessPending (n : Nat) : Nat := ireg 6 n 0

/-- Public key of the client certificate of a pending session (R30). -/
abbrev sessKey (n : Nat) : Nat := ireg 7 n 0

/-- Hoist time at which a plain UDP session without a request, or a pending session, closes (R29 R30). -/
abbrev sessDeadline (n : Nat) : Nat := ireg 8 n 0

/-- Number less one that the next opened session takes (log 10) (R59). -/
abbrev nextSession : Nat := ireg 9 0 0

/-- Object key plus 1 of the DOMAIN value session n is writing in segments; 0 for none (R58). -/
abbrev partKey (n : Nat) : Nat := ireg 10 n 0

/-- Bytes received of that value, held as a DOMAIN value (R58). -/
abbrev partValue (n : Nat) : Nat := ireg 11 n 0

/-- Hoist time at which the partial value is discarded (R58). -/
abbrev partDeadline (n : Nat) : Nat := ireg 12 n 0

/-- Session holding the shadow of unit h; 0 for none (R36). -/
abbrev holder (h : Nat) : Nat := ireg 13 h 0

/-- Hoist time at which that hold expires (R37). -/
abbrev holdDeadline (h : Nat) : Nat := ireg 14 h 0

/-- Destination code of the holder: 0 owner ring, 1 Ensign runtime, 2 + i queue of instance i (R513). -/
abbrev holdDest (h : Nat) : Nat := ireg 15 h 0

/-- Epoch of the active bank of unit h (R511). -/
abbrev activeEpoch (h : Nat) : Nat := ireg 16 h 0

/-- Epoch of the pending bank of unit h; 0 for none (R39). -/
abbrev pendEpoch (h : Nat) : Nat := ireg 17 h 0

/-- CommitAt of the pending bank (R48). -/
abbrev pendAt (h : Nat) : Nat := ireg 18 h 0

/-- Session that made the pending commit (R512). -/
abbrev pendSession (h : Nat) : Nat := ireg 19 h 0

/-- Destination code of that session (R513). -/
abbrev pendDest (h : Nat) : Nat := ireg 20 h 0

/-- Count of the boundary source of unit h at the last application (R41). -/
abbrev boundaryCount (h : Nat) : Nat := ireg 21 h 0

/-- Instants of the boundary source of unit h so far (R41). -/
abbrev sourceCount (h : Nat) : Nat := ireg 22 h 0

/-- Consecutive AUTH_FAIL refusals on key k (R56). -/
abbrev authFails (k : Nat) : Nat := ireg 23 k 0

/-- Length in seconds of the next lockout of key k; 0 stands for 1 (R56). -/
abbrev authLockS (k : Nat) : Nat := ireg 24 k 0

/-- Hoist time until which key k refuses envelopes (R56). -/
abbrev authLockUntil (k : Nat) : Nat := ireg 25 k 0

/-- Hoist time of the next heartbeat of CAN FD port p (R60). -/
abbrev nodeHbDue (p : Nat) : Nat := ireg 26 p 0

/-- 1 while a segmented USDO transfer is in progress on port p (R29). -/
abbrev usdoBusy (p : Nat) : Nat := ireg 27 p 0

/-- 1 while the heartbeat of consumer i of port p is lost (R64). -/
abbrev hbLost (p : Nat) (i : Nat) : Nat := ireg 28 p i

/-- Hoist time by which the next heartbeat of consumer i is due (R64). -/
abbrev hbDue (p : Nat) (i : Nat) : Nat := ireg 29 p i

/-- Hoist time at which mapping m of port p becomes stale (R63). -/
abbrev rxStaleDue (p : Nat) (m : Nat) : Nat := ireg 30 p m

/-- 1 after PUSH_STALE and until the next accepted frame (R63). -/
abbrev rxStale (p : Nat) (m : Nat) : Nat := ireg 31 p m

/-- Hoist time of the last frame of transmitted pushed object t (R71). -/
abbrev txLast (p : Nat) (t : Nat) : Nat := ireg 32 p t

/-- 1 while the raw controller restarts after the frame in transmission (R65). -/
abbrev rawRestart (p : Nat) : Nat := ireg 33 p 0

/-- Hoist time of the last CAN_RAW_RX event of port p, plus 1 (R66). -/
abbrev rawRxLast (p : Nat) : Nat := ireg 34 p 0

/-- Hoist time of the last USB_HID_REPORT event of host port h, plus 1 (R67). -/
abbrev usbRxLast (h : Nat) : Nat := ireg 35 h 0

/-- Hoist time of the last completed planning boundary (R85). -/
abbrev pmPlanTime : Nat := ireg 36 0 0

/-- 1 after the planner watchdog (R85). -/
abbrev planDead : Nat := ireg 37 0 0

/-- End of the hold of the present shed (R95). -/
abbrev shedUntil : Nat := ireg 38 0 0

/-- Domains short at the present shed, as a set (R93). -/
abbrev shedDomain : Nat := ireg 39 0 0

/-- Amount shed on domain d, k steps/s (R95). -/
abbrev shedAmount (d : Nat) : Nat := ireg 40 d 0

/-- M steps/s taken from the renderer reservation of world w (R95). -/
abbrev shedRenderer (w : Nat) : Nat := ireg 41 w 0

/-- Scaler quality level shed (0 none, 1, 2) (R93 step 2). -/
abbrev shedTaps : Nat := ireg 42 0 0

/-- 1 while head n is moved from 120 Hz to 60 Hz (R93 step 3). -/
abbrev shedSlowed (n : Nat) : Nat := ireg 43 n 0

/-- 1 while head n is blanked by shedding (R93 step 4). -/
abbrev shedBlank (n : Nat) : Nat := ireg 44 n 0

/-- Hoist time until which CEILING_REACHED is not raised again (R97). -/
abbrev ceilingHold : Nat := ireg 45 0 0

/-- Remaining PEN shortfall of the present hold, k instructions/s (R94). -/
abbrev penShort : Nat := ireg 46 0 0

/-- Hoist time of the last urgent raise of domain d, plus 1 (R84). -/
abbrev raiseLast (d : Nat) : Nat := ireg 47 d 0

/-- Target rate of domain d set at the last boundary (R82). -/
abbrev targetRate (d : Nat) : Nat := ireg 48 d 0

/-- Ageing monitors of domain d excluded, as a set of bits 0 to 15 (R88). -/
abbrev monExcluded (d : Nat) : Nat := ireg 49 d 0

/-- Guard band last reported, 0.01 % (R89). -/
abbrev guardReported : Nat := ireg 50 0 0

/-- Guard band applied from the next planning boundary (R89). -/
abbrev guardNext : Nat := ireg 51 0 0

/-- 1 after AGE_FLOOR_PASSED (R90). -/
abbrev ageFloorRaised : Nat := ireg 52 0 0

/-- 1 while domain d holds its age index with fewer than 8 valid monitors (R88). -/
abbrev ageAt (d : Nat) : Nat := ireg 53 d 0

/-- ForecastHours last reported (R91). -/
abbrev forecastReported : Nat := ireg 54 0 0

/-- 1 while the junction is above 115 °C (R92). -/
abbrev thermalAbove : Nat := ireg 55 0 0

/-- 1 while the boundary port of unit h is between steps 1 and 6 of its reset (R80). -/
abbrev portReset (h : Nat) : Nat := ireg 56 h 0

/-- Fabric physical address of the stage-2 root of world w (R104). -/
abbrev worldRoot (w : Nat) : Nat := ireg 57 w 0

/-- WorldGen under which the events of block h are routed (R120). -/
abbrev worldRoute (h : Nat) : Nat := ireg 58 h 0

/-- World holding assignable block h (R116). -/
abbrev blockHolder (h : Nat) : Nat := ireg 59 h 0

/-- Hand-over state of block h; FREE at start-up (Hand-over state codes). -/
abbrev blockState (h : Nat) : Nat := ireg 60 h 0

/-- World plus 1 to which block h is being granted (R116). -/
abbrev blockTo (h : Nat) : Nat := ireg 61 h 0

/-- World from which block h is being recalled (R116). -/
abbrev blockFrom (h : Nat) : Nat := ireg 62 h 0

/-- Session that requested the hand-over of block h (R517). -/
abbrev blockReq (h : Nat) : Nat := ireg 63 h 0

/-- Destination code of that session (R513). -/
abbrev blockReqDest (h : Nat) : Nat := ireg 64 h 0

/-- End of the grace or of the 10 ms drain of block h (R116). -/
abbrev blockDue (h : Nat) : Nat := ireg 65 h 0

/-- Scrub verifications failed in the present hand-over (R116). -/
abbrev blockScrubs (h : Nat) : Nat := ireg 66 h 0

/-- Hoist time from which the HPD of receiver n has been low, plus 1 (R116). -/
abbrev hpdLowSince (n : Nat) : Nat := ireg 67 n 0

/-- Millisecond of hoist time in which fault events of world w are counted (R112). -/
abbrev faultWindow (w : Nat) : Nat := ireg 68 w 0

/-- Fault events raised for world w in that millisecond (R112). -/
abbrev faultEvents (w : Nat) : Nat := ireg 69 w 0

/-- Faults of world w not reported since its last fault event (R112). -/
abbrev faultCoalesced (w : Nat) : Nat := ireg 70 w 0

/-- 1 while an invalidation of the translations of world w is under way (R110). -/
abbrev invalPending (w : Nat) : Nat := ireg 71 w 0

/-- Debug sessions that have world w open (R123). -/
abbrev dbgCount (w : Nat) : Nat := ireg 72 w 0

/-- GuestTag under which instance i was enabled (R125). -/
abbrev instKindTag (i : Nat) : Nat := ireg 73 i 0

/-- State of ring r of instance i: 0 NONE, 1 IDLE, 2 ACTIVE, 3 STOPPED, 4 HELD (RING_STATUS). -/
abbrev ringState (i : Nat) (r : Nat) : Nat := ireg 74 i r

/-- LAST_STATUS, the status that stopped the ring (RING_STATUS). -/
abbrev ringLast (i : Nat) (r : Nat) : Nat := ireg 75 i r

/-- RING_BASE (Ring control block). -/
abbrev ringBase (i : Nat) (r : Nat) : Nat := ireg 76 i r

/-- RING_SIZE_LOG2 (Ring control block). -/
abbrev ringLog2 (i : Nat) (r : Nat) : Nat := ireg 77 i r

/-- RING_VECTOR (Ring control block). -/
abbrev ringVector (i : Nat) (r : Nat) : Nat := ireg 78 i r

/-- RPTR, words the unit has taken (Ring control block). -/
abbrev ringRptr (i : Nat) (r : Nat) : Nat := ireg 79 i r

/-- WPTR_SEEN, last WPTR accepted (Ring control block). -/
abbrev ringWptr (i : Nat) (r : Nat) : Nat := ireg 80 i r

/-- Last value written to doorbell r (r = 8: the event queue consumer doorbell) (Instance window). -/
abbrev doorbellLast (i : Nat) (r : Nat) : Nat := ireg 81 i r

/-- 1 while the event queue of instance i exists (RING_STATUS EQ_CREATE). -/
abbrev eqExists (i : Nat) : Nat := ireg 82 i 0

/-- EQ_BASE (Event queue control). -/
abbrev eqBase (i : Nat) : Nat := ireg 83 i 0

/-- EQ_SIZE_LOG2 (Event queue control). -/
abbrev eqLog2 (i : Nat) : Nat := ireg 84 i 0

/-- EQ_VECTOR (Event queue control). -/
abbrev eqVector (i : Nat) : Nat := ireg 85 i 0

/-- EQ_HOLDOFF_US (Event queue control). -/
abbrev eqHoldoff (i : Nat) : Nat := ireg 86 i 0

/-- EQ_PROD (Event queue control). -/
abbrev eqProd (i : Nat) : Nat := ireg 87 i 0

/-- EQ_CONS (Event queue control). -/
abbrev eqCons (i : Nat) : Nat := ireg 88 i 0

/-- EQ_LOST (Event queue control). -/
abbrev eqLost (i : Nat) : Nat := ireg 89 i 0

/-- Next sequence number of the queue (R128). -/
abbrev eqSeq (i : Nat) : Nat := ireg 90 i 0

/-- 1 after the queue was found full and until EQ_OVERFLOW is written (R129). -/
abbrev eqFull (i : Nat) : Nat := ireg 91 i 0

/-- Info and notice events discarded since the last EQ_OVERFLOW (R129). -/
abbrev eqLostInfo (i : Nat) : Nat := ireg 92 i 0

/-- Other events discarded since the last EQ_OVERFLOW (R129). -/
abbrev eqLostOther (i : Nat) : Nat := ireg 93 i 0

/-- First lost sequence number since the last EQ_OVERFLOW (R129). -/
abbrev eqFirstLost (i : Nat) : Nat := ireg 94 i 0

/-- Hoist time of the last interrupt, plus 1 (R128). -/
abbrev eqIrqLast (i : Nat) : Nat := ireg 95 i 0

/-- 1 while EQ_PROD has advanced without an interrupt (R128). -/
abbrev eqIrqDue (i : Nat) : Nat := ireg 96 i 0

/-- Stage-1 root plus 1 of ring c of instance i (c = 8: event queue and mailbox); 0 with stage 1 off (R103). -/
abbrev s1Root (i : Nat) (c : Nat) : Nat := ireg 97 i c

/-- MB_SEQ of the request being answered or last answered (Set-up mailbox). -/
abbrev mbSeq (i : Nat) : Nat := ireg 98 i 0

/-- MB_DONE (Set-up mailbox). -/
abbrev mbDone (i : Nat) : Nat := ireg 99 i 0

/-- MB_STATUS; INSTANCE_ABSENT while ABSENT (R124). -/
abbrev mbStatus (i : Nat) : Nat := ireg 100 i 0

/-- MB_RESP, the data of the response, as a DOMAIN value (Set-up mailbox). -/
abbrev mbResp (i : Nat) : Nat := ireg 101 i 0

/-- 1 while a request is being answered (R130). -/
abbrev mbBusy (i : Nat) : Nat := ireg 102 i 0

/-- Guest space of world w mapped so far, in 2 MiB units (R115). -/
abbrev memPages (w : Nat) : Nat := ireg 103 w 0

/-- Renderer reservation of instance i, M steps/s (R131). -/
abbrev resRenderer (i : Nat) : Nat := ireg 104 i 0

/-- Bandwidth reservation of instance i, MB/s (R131). -/
abbrev resBandwidth (i : Nat) : Nat := ireg 105 i 0

/-- Audio latency reserved by instance i, µs; 0 for none (R131). -/
abbrev resAudio (i : Nat) : Nat := ireg 106 i 0

/-- Touch report rate reserved by instance i, Hz (R131). -/
abbrev resTouch (i : Nat) : Nat := ireg 107 i 0

/-- Hoist time at which QuiesceLimitMs passes for instance i (R136). -/
abbrev quiesceDue (i : Nat) : Nat := ireg 109 i 0

/-- Session that requested the quiesce; 0 for none (R136). -/
abbrev quiesceReq (i : Nat) : Nat := ireg 110 i 0

/-- Destination code of that session (R513). -/
abbrev quiesceDest (i : Nat) : Nat := ireg 111 i 0

/-- 1 while an association is bound to Ethernet instance i (R132). -/
abbrev remoteOn (i : Nat) : Nat := ireg 112 i 0

/-- Last SEQ sent to the guest of instance i (R133). -/
abbrev remoteTx (i : Nat) : Nat := ireg 113 i 0

/-- Highest guest SEQ delivered in order (R133). -/
abbrev remoteRx (i : Nat) : Nat := ireg 114 i 0

/-- Hoist time at which the last datagram arrived (R134). -/
abbrev remoteLast (i : Nat) : Nat := ireg 115 i 0

/-- Hoist time of the last datagram sent (R133). -/
abbrev remoteSent (i : Nat) : Nat := ireg 116 i 0

/-- Hoist time at which RemoteHoldS passes; 0 for none (R134). -/
abbrev remoteHold (i : Nat) : Nat := ireg 119 i 0

/-- Number the next surface export takes (Set-up operations). -/
abbrev nextExport : Nat := ireg 120 0 0

/-- Amount in force plus 1 of the open yield of number k for world w: its KIND plus 16 times what takes the capacity; 0 for no yield (R141). -/
abbrev yieldAmt (w : Nat) (k : Nat) : Nat := ireg 121 w k

/-- End of that yield; 0xFFFFFFFFFFFFFFFF until YIELD_END (R142). -/
abbrev yieldEnd (w : Nat) (k : Nat) : Nat := ireg 122 w k

/-- RANK of that yield (R141). -/
abbrev yieldRank (w : Nat) (k : Nat) : Nat := ireg 123 w k

/-- RESERVED of that yield (R141). -/
abbrev yieldRes (w : Nat) (k : Nat) : Nat := ireg 124 w k

/-- 1 while Halyard serves (R414). -/
abbrev halServing : Nat := ireg 125 0 0

/-- Hoist time by which the next Halyard serving heartbeat is due (ResetCause code 6). -/
abbrev halHbDue : Nat := ireg 126 0 0

/-- Number of the 100 ms window of hoist time in which records are counted (R427). -/
abbrev jnlWindow : Nat := ireg 127 0 0

/-- Records of other types accepted in that window (R427). -/
abbrev jnlCount : Nat := ireg 128 0 0

/-- Records of TYPE 0x20 to 0x22 accepted in that window (R427). -/
abbrev jnlReserve : Nat := ireg 129 0 0

/-- Hoist time of the last JNL_PRESSURE, plus 1 (R427). -/
abbrev jnlPressure : Nat := ireg 130 0 0

/-- 1 while units refuse new work items of rank 4 and 5 (R428). -/
abbrev jnlHold : Nat := ireg 131 0 0

/-- Day of hoist time of the last LIMIT_REACHED of the journal, plus 1 (R488). -/
abbrev jnlLimitDay : Nat := ireg 132 0 0

/-- Mode of 2 MiB frame f of local DRAM: 0 hashed, 1 striped, 2 protected (R155). -/
abbrev frameMode (f : Nat) : Nat := ireg 133 f 0

/-- SEQ of the EVENT record of that yield (R428). -/
abbrev yieldSeq (w : Nat) (k : Nat) : Nat := ireg 134 w k

/-- SEQ of the last HANDOVER record of block h (R428). -/
abbrev blockJnl (h : Nat) : Nat := ireg 135 h 0

/-- World plus 1 for which 2 MiB frame f of local DRAM is taken; 0 free (R115). -/
abbrev frameOwner (f : Nat) : Nat := ireg 136 f 0

/-- Next free table page of world w in its table frame; 0 for none (R104). -/
abbrev tblNext (w : Nat) : Nat := ireg 137 w 0

/-- End of the table pages of that frame (R104). -/
abbrev tblEnd (w : Nat) : Nat := ireg 138 w 0

/-- 1 while the mailbox of instance i waits for an invalidation of its world (R130). -/
abbrev mbWait (i : Nat) : Nat := ireg 139 i 0

/-- 1 after INSTANCE_RESET and until the next mailbox request (R137). -/
abbrev instOpen (i : Nat) : Nat := ireg 140 i 0

/-- Worlds debug session n has open, as a set (R123). -/
abbrev sessDbg (n : Nat) : Nat := ireg 141 n 0

/-- What follows when instance i is quiesced: bit 0 a reset, bit 1 a report of its link loss, bit 2 its removal (R134, R138). -/
abbrev flrReset (i : Nat) : Nat := ireg 142 i 0

/-- 1 while 2 MiB frame f of local DRAM holds a retired page and serves no new allocation (R170). -/
abbrev frameRetired (f : Nat) : Nat := ireg 143 f 0

/-- LOSSES of requester r at arbiter a (a node's number, or 0x100 plus the channel of a port) (R145). -/
abbrev arbLosses (a : Nat) (r : Nat) : Nat := ireg 144 a r

/-- WAIT of requester r at node a (R146). -/
abbrev arbWait (a : Nat) (r : Nat) : Nat := ireg 145 a r

/-- Round-robin pointer of arbiter a (R144). -/
abbrev arbPtr (a : Nat) : Nat := ireg 146 a 0

/-- Grants given in the present window of 64 at the port of channel c (R147). -/
abbrev portGrants (c : Nat) : Nat := ireg 147 c 0

/-- Grants of class k in that window (R147). -/
abbrev portUsed (c : Nat) (k : Nat) : Nat := ireg 148 c k

/-- Number of the hash key drawn at the last cold start (R156). -/
abbrev hashKey : Nat := ireg 149 0 0

/-- Open row plus 1 of bank b (16 times the channel plus the bank); 0 closed (R153). -/
abbrev rowOpen (b : Nat) : Nat := ireg 150 b 0

/-- Hoist time of the last access to the open row of bank b (R153). -/
abbrev rowHitAt (b : Nat) : Nat := ireg 151 b 0

/-- Two-bit predictor of bank b (R154). -/
abbrev rowPred (b : Nat) : Nat := ireg 152 b 0

/-- Row plus 1 of the last SC-SCAN or SC-ENS access of bank b not yet followed by another (R154). -/
abbrev rowPriv (b : Nat) : Nat := ireg 153 b 0

/-- Consecutive row hits chosen for class k at channel c (R152). -/
abbrev hitStreak (c : Nat) (k : Nat) : Nat := ireg 154 c k

/-- World after which the round robin of SC-BULK goes on at channel c (R152). -/
abbrev bulkTurn (c : Nat) : Nat := ireg 155 c 0

/-- Number of the 10 µs window in which credit of world w is counted (R159). -/
abbrev creditWin (w : Nat) : Nat := ireg 156 w 0

/-- Bytes of world w covered by its total credit in that window (R159). -/
abbrev creditUsed (w : Nat) : Nat := ireg 157 w 0

/-- Bytes of world w covered by its credit on channel c in that window (R159). -/
abbrev creditCh (w : Nat) (c : Nat) : Nat := ireg 158 w c

/-- SC-BULK bytes of world w on channel c in the present 10 ms interval (R161). -/
abbrev concBytes (w : Nat) (c : Nat) : Nat := ireg 159 w c

/-- Hoist time of the last MEM_CONCENTRATED of world w, plus 1 (R161). -/
abbrev concLast (w : Nat) : Nat := ireg 160 w 0

/-- Number of the 32 ms refresh window in which the tracker of bank b counts (R162). -/
abbrev trackWin (b : Nat) : Nat := ireg 161 b 0

/-- Channels waiting for a retrain, as a set (R165). -/
abbrev retrainWait : Nat := ireg 162 0 0

/-- DRAM temperature at the last training of channel c, as an S8 (R165). -/
abbrev trainedTemp (c : Nat) : Nat := ireg 163 c 0

/-- PHY drift sensor at the last training of channel c, °C (R165). -/
abbrev trainedPhy (c : Nat) : Nat := ireg 164 c 0

/-- Hoist time of the retry of a failed retrain of channel c; 0 for none (R166). -/
abbrev retrainRetry (c : Nat) : Nat := ireg 165 c 0

/-- 1 after MEM_SPARES_OUT of channel c (R170). -/
abbrev sparesOut (c : Nat) : Nat := ireg 166 c 0

/-- 1 while HPD of transmitter port p is high (R267). -/
abbrev hpd (p : Nat) : Nat := ireg 167 p 0

/-- Hoist time 100 ms after HPD of port p rose; 0 for none (R267). -/
abbrev hpdDue (p : Nat) : Nat := ireg 168 p 0

/-- Hoist time of the next training attempt of port p; 0 for none (R268). -/
abbrev trainRetry (p : Nat) : Nat := ireg 169 p 0

/-- Number of retries made: 0 for 1 s, 1 for 2 s and so on; 5 and above for 30 s (R268). -/
abbrev trainStep (p : Nat) : Nat := ireg 170 p 0

/-- 1 while port p lights at the next commit line (R267). -/
abbrev litNext (p : Nat) : Nat := ireg 171 p 0

/-- 1 where the sink of port p takes the committed DSC slices (R267). -/
abbrev dscSlices (p : Nat) : Nat := ireg 172 p 0

/-- 1 while the panel fault condition of head n holds (R277). -/
abbrev panelFaultDue (n : Nat) : Nat := ireg 173 n 0

/-- Panel sequence of head n: 0 off, 1 waiting PanelOnMs, 2 on, 3 waiting BacklightDelayMs, 4 backlight on, 5 turning off (backlight off), 6 turning off (links off) (R276). -/
abbrev panelStage (n : Nat) : Nat := ireg 174 n 0

/-- Hoist time at which that stage ends; 0 for none (R276). -/
abbrev panelDue (n : Nat) : Nat := ireg 175 n 0

/-- Consecutive frames of head n with an error within 100 ns (R264). -/
abbrev lockGood (n : Nat) : Nat := ireg 176 n 0

/-- Consecutive frames of head n without a change of pixels (R270). -/
abbrev stratusIdle (n : Nat) : Nat := ireg 177 n 0

/-- Hoist time until which head n does not enter Stratus mode (R273). -/
abbrev stratusBan (n : Nat) : Nat := ireg 178 n 0

/-- 1 while head n must exit Stratus mode at its next commit line (R273). -/
abbrev stratusErr (n : Nat) : Nat := ireg 179 n 0

/-- 1 while the main link of head n is off in Stratus mode (R271). -/
abbrev linkOff (n : Nat) : Nat := ireg 180 n 0

/-- 1 while that link wakes (R272). -/
abbrev linkWaking (n : Nat) : Nat := ireg 181 n 0

/-- 1 while a change waits for the link of head n to wake (R272). -/
abbrev pixelsDue (n : Nat) : Nat := ireg 182 n 0

/-- 1 after TE_LOST of head n (R275). -/
abbrev teLost (n : Nat) : Nat := ireg 183 n 0

/-- Measured TE period of head n, ns; 0 while not measured (R263). -/
abbrev tePeriod (n : Nat) : Nat := ireg 184 n 0

/-- Hoist time of the last commit line of head n, plus 1 (R258). -/
abbrev lineAt (n : Nat) : Nat := ireg 185 n 0

/-- 1 while receiver n has a complete frame not yet shown (R282). -/
abbrev rxFrame (n : Nat) : Nat := ireg 186 n 0

/-- Which of its three buffers receiver n wrote last, plus 1 (R282). -/
abbrev rxBuf (n : Nat) : Nat := ireg 187 n 0

/-- Buffer of receiver n the layer shows, plus 1 (R282). -/
abbrev rxShown (n : Nat) : Nat := ireg 188 n 0

/-- 1 while receiver n has lost its link or source (R283). -/
abbrev rxLost (n : Nat) : Nat := ireg 189 n 0

/-- Hoist time at which RxHoldMs passes; 0 for none (R283). -/
abbrev rxHoldDue (n : Nat) : Nat := ireg 190 n 0

/-- 1 while the layer fed by receiver n shows opaque black (R283). -/
abbrev rxBlack (n : Nat) : Nat := ireg 191 n 0

/-- 1 while layer l of head n is transparent after a fault (R239). -/
abbrev layerTransparent (n : Nat) (l : Nat) : Nat := ireg 192 n l

/-- Surface descriptor address plus 1 shown by layer l of head n; 0 for none (R230). -/
abbrev layerSurface (n : Nat) (l : Nat) : Nat := ireg 193 n l

/-- Release fence address of the surface shown, plus 1; 0 for none (R232). -/
abbrev layerRelease (n : Nat) (l : Nat) : Nat := ireg 194 n l

/-- Value of that release fence (R232). -/
abbrev layerReleaseVal (n : Nat) (l : Nat) : Nat := ireg 195 n l

/-- Instance through which that surface was flipped (R232). -/
abbrev layerReleaseInst (n : Nat) (l : Nat) : Nat := ireg 196 n l

/-- Release fence address, plus 1, of the surface replaced and still being fetched; 0 for none (R232). -/
abbrev oldRelease (n : Nat) (l : Nat) : Nat := ireg 197 n l

/-- Its value (R232). -/
abbrev oldReleaseVal (n : Nat) (l : Nat) : Nat := ireg 198 n l

/-- Its instance (R232). -/
abbrev oldReleaseInst (n : Nat) (l : Nat) : Nat := ireg 199 n l

/-- Frames of 2 MiB mapped as the pool of layer l of head n (R234). -/
abbrev poolSize (n : Nat) (l : Nat) : Nat := ireg 200 n l

/-- World plus 1 in which that pool is mapped (R234). -/
abbrev poolWorld (n : Nat) (l : Nat) : Nat := ireg 201 n l

/-- 1 after META_INVALID of layer l of head n in the present frame (R199). -/
abbrev layerMeta (n : Nat) (l : Nat) : Nat := ireg 202 n l

/-- HeadFrame plus 1 of the last FETCH_LATE of head n (R240). -/
abbrev fetchLateFrame (n : Nat) : Nat := ireg 203 n 0

/-- Blanking of head n due at its next commit line: 0 none, 1 shed, 2 hold-up (R241). -/
abbrev blankWant (n : Nat) : Nat := ireg 204 n 0

/-- k in use by head n (R226). -/
abbrev sunK (n : Nat) : Nat := ireg 205 n 0

/-- Flattened surface of head n shown, plus 1 (R215). -/
abbrev flatSurface (n : Nat) : Nat := ireg 206 n 0

/-- Flattened surface that waits for its commit line, plus 1; 0 for none (R215). -/
abbrev flatNext (n : Nat) : Nat := ireg 207 n 0

/-- Frame number of that present (R215). -/
abbrev flatNextFrame (n : Nat) : Nat := ireg 208 n 0

/-- 1 while that surface is late and governs from the next commit line (R216). -/
abbrev flatLate (n : Nat) : Nat := ireg 209 n 0

/-- Front buffer of Ensign region k of head n: 0 or 1 (R242). -/
abbrev regionFront (n : Nat) (k : Nat) : Nat := ireg 210 n k

/-- 1 while the back buffer of the region is drawn and signed (R245). -/
abbrev regionSigned (n : Nat) (k : Nat) : Nat := ireg 211 n k

/-- Page plus 1 drawn in the back buffer (R248). -/
abbrev regionPage (n : Nat) (k : Nat) : Nat := ireg 212 n k

/-- Hoist time at which drawing and signing finished (R244). -/
abbrev regionDrawn (n : Nat) (k : Nat) : Nat := ireg 213 n k

/-- 1 while the signature of the front buffer is not compared (R291). -/
abbrev regionResign (n : Nat) (k : Nat) : Nat := ireg 214 n k

/-- 1 while the front buffer shows a page taken over from another head (R292). -/
abbrev regionTaken (n : Nat) (k : Nat) : Nat := ireg 215 n k

/-- Consecutive mismatching sampled frames (R296). -/
abbrev sigCount (n : Nat) (k : Nat) : Nat := ireg 216 n k

/-- Consecutive passing sampled frames in PROBATION (R296). -/
abbrev sigPass (n : Nat) (k : Nat) : Nat := ireg 217 n k

/-- 1 after a sampled frame since freeze detection started (R294). -/
abbrev sigSeen (n : Nat) (k : Nat) : Nat := ireg 218 n k

/-- Signature of the last sampled frame before the window (R294). -/
abbrev sigFirst (n : Nat) (k : Nat) : Nat := ireg 219 n k

/-- Hoist time at which that signature was first sampled (R294). -/
abbrev sigWindow (n : Nat) (k : Nat) : Nat := ireg 220 n k

/-- Hoist time of the last OWNER_MISMATCH of the region, plus 1 (R293). -/
abbrev sigOwnerEv (n : Nat) (k : Nat) : Nat := ireg 221 n k

/-- Freeze window of an Ensign region, ms (R294). -/
abbrev sigFreeze (n : Nat) (k : Nat) : Nat := ireg 222 n k

/-- 1 while an enabled owner region is disabled by the package (R286). -/
abbrev ownerOff (n : Nat) (k : Nat) : Nat := ireg 223 n k

/-- 1 while ENSIGN_STALLED holds (R296). -/
abbrev stalled : Nat := ireg 224 0 0

/-- 1 while the backup tone plays (R302). -/
abbrev backupTone : Nat := ireg 225 0 0

/-- Level of AlarmOutNoScreen (R302). -/
abbrev noScreenOut : Nat := ireg 226 0 0

/-- Level of AlarmOutDegraded (R302). -/
abbrev degradedOut : Nat := ireg 227 0 0

/-- Renderer context ID of ring r of instance i; 0 for none (R210). -/
abbrev ringCtx (i : Nat) (r : Nat) : Nat := ireg 228 i r

/-- Context ID last assigned at RING_CREATE (R210). -/
abbrev ctxLast : Nat := ireg 229 0 0

/-- Priority of the context of ring r of instance i within its world (R211). -/
abbrev nimPrio (i : Nat) (r : Nat) : Nat := ireg 230 i r

/-- 1 while the context is between PASS_BEGIN and PASS_END (R175). -/
abbrev nimPass (i : Nat) (r : Nat) : Nat := ireg 231 i r

/-- Pass number (PASS_BEGIN). -/
abbrev passNum (i : Nat) (r : Nat) : Nat := ireg 232 i r

/-- SEQ of the ITEM_ACCEPT record of that pass (R430). -/
abbrev passItem (i : Nat) (r : Nat) : Nat := ireg 233 i r

/-- Address of its pass descriptor (R175). -/
abbrev passDesc (i : Nat) (r : Nat) : Nat := ireg 234 i r

/-- 1 where its PASS_BEGIN carried REPLAY_SAFE (R217). -/
abbrev passSafe (i : Nat) (r : Nat) : Nat := ireg 235 i r

/-- FLATTENING flag of the pass (Pass descriptor). -/
abbrev passFlat (i : Nat) (r : Nat) : Nat := ireg 236 i r

/-- T, tiles of the pass (Pass descriptor). -/
abbrev passTiles (i : Nat) (r : Nat) : Nat := ireg 237 i r

/-- Partial flushes made in the pass (R187). -/
abbrev passSeg (i : Nat) (r : Nat) : Nat := ireg 238 i r

/-- 1 after META_INVALID in the pass (R199). -/
abbrev passMeta (i : Nat) (r : Nat) : Nat := ireg 239 i r

/-- Next pool block to allocate; 0 while the segment has no header (R176). -/
abbrev poolNext (i : Nat) (r : Nat) : Nat := ireg 240 i r

/-- Block plus 1 of the draw record of the present draw in the present segment; 0 for none (R176). -/
abbrev drawRec (i : Nat) (r : Nat) : Nat := ireg 241 i r

/-- Bound pipeline handle plus 1; 0 for none (BIND_PIPELINE). -/
abbrev nimPipe (i : Nat) (r : Nat) : Nat := ireg 242 i r

/-- Bound state block address plus 1; 0 for none (BIND_STATE). -/
abbrev nimState (i : Nat) (r : Nat) : Nat := ireg 243 i r

/-- What the context waits for: 0 nothing, 1 a fence, 2 a pipeline, 3 the driver in a bin fault (R206 R209 R182). -/
abbrev nimWait (i : Nat) (r : Nat) : Nat := ireg 244 i r

/-- Hoist time at which FenceWaitTimeoutMs or BinFaultTimeoutUs passes; 0 for none (R206 R182). -/
abbrev nimWaitDue (i : Nat) (r : Nat) : Nat := ireg 245 i r

/-- 1 while a partial flush with reason 1 is due when the context next runs (R185). -/
abbrev nimFlush (i : Nat) (r : Nat) : Nat := ireg 246 i r

/-- Result address plus 1 of the open query; 0 for none (QUERY_BEGIN). -/
abbrev nimQuery (i : Nat) (r : Nat) : Nat := ireg 247 i r

/-- Kind of the open query (QUERY_BEGIN). -/
abbrev nimQueryKind (i : Nat) (r : Nat) : Nat := ireg 248 i r

/-- Primitives binned since it began (QUERY_BEGIN). -/
abbrev nimQueryCount (i : Nat) (r : Nat) : Nat := ireg 249 i r

/-- Ring (8 i + r) plus 1 whose context holds the renderer; 0 for none (R211). -/
abbrev nimCur : Nat := ireg 250 0 0

/-- NIM steps used by world w in the present 1 ms window (R211). -/
abbrev nimUsed (w : Nat) : Nat := ireg 251 w 0

/-- Number of that window (R211). -/
abbrev nimUsedWin (w : Nat) : Nat := ireg 252 w 0

/-- World served last in the round robin of rank 5 (R211). -/
abbrev nimTurn : Nat := ireg 253 0 0

/-- Ring (8 i + r) plus 1 of world w served last among equals (R211). -/
abbrev nimTurnIn (w : Nat) : Nat := ireg 254 w 0

/-- Hoist time plus 1 of the preemption under way; 0 for none (R213). -/
abbrev nimPreemptAt : Nat := ireg 255 0 0

/-- Hoist time plus 1 at which the waiting flattened surface became late (R216). -/
abbrev flatReady (n : Nat) : Nat := ireg 256 n 0

/-- Largest pool of any pass of instance i since its enable, KiB (Counter view page). -/
abbrev poolPeakInst (i : Nat) : Nat := ireg 257 i 0

/-- Performance counter k, 32 bits (chapter 21). -/
abbrev counter (k : Nat) : Nat := ireg 258 k 0

/-- Epoch of the pending flip group of world w on head n; 0 for none (R229). -/
abbrev flipEpoch (w : Nat) (n : Nat) : Nat := ireg 259 w n

/-- Hoist time of its acceptance (R230). -/
abbrev flipAt (w : Nat) (n : Nat) : Nat := ireg 260 w n

/-- Instance whose composition ring carried it (R512). -/
abbrev flipInst (w : Nat) (n : Nat) : Nat := ireg 261 w n

/-- Palette set that the active package maps night palette a and dim band b to (R243). -/
abbrev setMap (a : Nat) (b : Nat) : Nat := ireg 262 a b

/-- 1 while discrete output o is asserted (R500). -/
abbrev pinAsserted (o : Nat) : Nat := ireg 263 o 0

/-- Level at DIOo (R500). -/
abbrev pinLevel (o : Nat) : Nat := ireg 264 o 0

/-- 1 while output entry e of the active package is asserted (R250). -/
abbrev outOn (e : Nat) : Nat := ireg 265 e 0

/-- 1 while the lamp-test input DIOo is asserted (R250). -/
abbrev lampOn (o : Nat) : Nat := ireg 266 o 0

/-- 1 in the on half of the cycle of output entry e (R250). -/
abbrev flashOn (e : Nat) : Nat := ireg 267 e 0

/-- 1 while binding b is stale (R247). -/
abbrev bindStale (b : Nat) : Nat := ireg 268 b 0

/-- Last result of the condition of page p (R249). -/
abbrev pageCond (p : Nat) : Nat := ireg 269 p 0

/-- 1 while page p is active (R249). -/
abbrev pageActive (p : Nat) : Nat := ireg 270 p 0

/-- 1 while alarm page p is acknowledged (R249). -/
abbrev pageAcked (p : Nat) : Nat := ireg 271 p 0

/-- 1 while the condition of page p has stopped holding (R249). -/
abbrev pageEnded (p : Nat) : Nat := ireg 272 p 0

/-- 1 while page p holds a request for its tone (R249). -/
abbrev pageTone (p : Nat) : Nat := ireg 273 p 0

/-- SEQ of the live ENS_STATE record of page p (R428). -/
abbrev pageJnl (p : Nat) : Nat := ireg 274 p 0

/-- Page plus 1 to be drawn in the back buffer of the region; 0 for none (R248). -/
abbrev regionBackPage (n : Nat) (k : Nat) : Nat := ireg 275 n k

/-- Source head plus 1 of that page where it is taken over; 0 for an own page (R299). -/
abbrev regionBackFrom (n : Nat) (k : Nat) : Nat := ireg 276 n k

/-- Source head plus 1 of the page in the front buffer where it is taken over (R299). -/
abbrev regionFrontFrom (n : Nat) (k : Nat) : Nat := ireg 277 n k

/-- Head plus 1 that carries the pages of region k of head n; 0 for none (R299). -/
abbrev carrier (n : Nat) (k : Nat) : Nat := ireg 278 n k

/-- Head plus 1 that still shows them after their return; 0 for none (R301). -/
abbrev carrierOld (n : Nat) (k : Nat) : Nat := ireg 279 n k

/-- 1 while the carrying head shows them (R299). -/
abbrev carryShown (n : Nat) (k : Nat) : Nat := ireg 280 n k

/-- 1 while the pages of region k of head n have no screen (R300). -/
abbrev noScreen (n : Nat) (k : Nat) : Nat := ireg 281 n k

/-- 1 while head n has not switched to the new package (R246). -/
abbrev pkgDue (n : Nat) : Nat := ireg 282 n 0

/-- Consecutive period ticks the Ensign runtime missed (R381). -/
abbrev ensPeriodMissed : Nat := ireg 283 0 0

/-- 1 while session n carries out the inner request of a verified envelope with OWN rights (R57 R515). -/
abbrev sessAs (n : Nat) : Nat := ireg 284 n 0

/-- SEQ of the live COMMIT_PENDING record of unit h (R428). -/
abbrev pendJnl (h : Nat) : Nat := ireg 285 h 0

/-- 1 while channel c of haptic group g plays an effect (R42 R333). -/
abbrev hapBusy (g : Nat) (c : Nat) : Nat := ireg 286 g c

/-- Hoist time plus 1 at which the region was found frozen; 0 while it is not (R294 R296). -/
abbrev sigFrozenAt (n : Nat) (k : Nat) : Nat := ireg 287 n k

/-- Hoist time of the last sampled frame of the region (R294). -/
abbrev sigLastAt (n : Nat) (k : Nat) : Nat := ireg 288 n k

/-- 1 while the Ensign pair restarts (R381). -/
abbrev ensDown : Nat := ireg 289 0 0

/-- Hoist time plus 1 of the last restart of the Ensign pair (R382). -/
abbrev ensRestart1 : Nat := ireg 290 0 0

/-- Hoist time plus 1 of the restart before it (R382). -/
abbrev ensRestart2 : Nat := ireg 291 0 0

/-- 1 after the Ensign pair was halted (R382). -/
abbrev ensHalted : Nat := ireg 292 0 0

/-- 1 while port p is trained to a lower setting and waits for its partner (R267). -/
abbrev trainHeld (p : Nat) : Nat := ireg 293 p 0

/-- OP of the request of instance i that waits for invalidations (R110 R130). -/
abbrev mbOp (i : Nat) : Nat := ireg 294 i 0

/-- TAG of that request (R130). -/
abbrev mbTag (i : Nat) : Nat := ireg 295 i 0

/-- 1 while RESIZED is owed to instance i for memory above its new grant (R135). -/
abbrev resizeMem (i : Nat) : Nat := ireg 296 i 0

/-- 1 once the views of world w in teardown are removed and its invalidation has begun (R100). -/
abbrev tearPhase (w : Nat) : Nat := ireg 297 w 0

/-- Hoist time of the last daily patrol, plus 1; 0 for none (R167). -/
abbrev patrolAt : Nat := ireg 298 0 0

/-- SC-SCAN rate admitted, MB/s (R150). -/
abbrev scanAdmitted : Nat := ireg 299 0 0

/-- SC-RT rate admitted, MB/s; PreemptSaveMBps is always part of it (R212) (R150). -/
abbrev rtAdmitted : Nat := ireg 300 0 0

/-- 1 while touch port p reports, from the end of its start until it stops (R315). -/
abbrev touchRun (p : Nat) : Nat := ireg 301 p 0

/-- Hoist time at which the start under way of touch port p began, plus 1; 0 for none (R315). -/
abbrev touchStartAt (p : Nat) : Nat := ireg 302 p 0

/-- Junction temperature at which the reference of port p was taken, in 0.1 °C, plus 32768; 0 for no reference (R318). -/
abbrev touchRefTemp (p : Nat) : Nat := ireg 303 p 0

/-- ChannelRole when the reference of port p was taken (R318). -/
abbrev touchRefRole (p : Nat) : Nat := ireg 304 p 0

/-- 1 from a start of port p without a valid reference (R317). -/
abbrev touchUnref (p : Nat) : Nat := ireg 305 p 0

/-- 1 while more than 16 clusters are present at port p (R310). -/
abbrev touchLimit (p : Nat) : Nat := ireg 306 p 0

/-- Hoist time until which port p stays wet (R308). -/
abbrev touchWetUntil (p : Nat) : Nat := ireg 307 p 0

/-- Hoist time at which port p ends glove sensing without a further glove cluster (R309). -/
abbrev touchGloveUntil (p : Nat) : Nat := ireg 308 p 0

/-- 1 while glove sensing is in force at port p (R309). -/
abbrev touchGlove (p : Nat) : Nat := ireg 309 p 0

/-- ScanFrames plus 1 at the last hop of port p (R311). -/
abbrev touchHopFrame (p : Nat) : Nat := ireg 310 p 0

/-- 1 while port p runs at 120 Hz because every frequency is noisy (R312). -/
abbrev touchNoisy (p : Nat) : Nat := ireg 311 p 0

/-- Hoist time from which the quietest frequency of port p has stayed below HopNoise / 2, plus 1 (R312). -/
abbrev touchQuietAt (p : Nat) : Nat := ireg 312 p 0

/-- Hoist time at which the last contact of port p ended (R313). -/
abbrev touchLastAt (p : Nat) : Nat := ireg 313 p 0

/-- End of the gesture watch of port p, plus 1; 0 while none runs (R314). -/
abbrev touchWatch (p : Nat) : Nat := ireg 314 p 0

/-- Slow rate that port p returns to after its gesture watch (R314). -/
abbrev touchWatchRate (p : Nat) : Nat := ireg 315 p 0

/-- Touch-downs seen by the gesture watch of port p (R314). -/
abbrev touchDowns (p : Nat) : Nat := ireg 316 p 0

/-- 1 while a cluster confirmed by self signal is present in the slow frames of port p (R314). -/
abbrev touchSelf (p : Nat) : Nat := ireg 317 p 0

/-- Hoist time of the next node integrity scan of port p, plus 1 (R319). -/
abbrev touchIntegDue (p : Nat) : Nat := ireg 318 p 0

/-- 1 when the last node integrity scan of port p changed the masked channels (R318). -/
abbrev touchMaskMove (p : Nat) : Nat := ireg 319 p 0

/-- 1 while the digitizer of USB device port d has reported contacts not yet lifted (R324). -/
abbrev hidZero (d : Nat) : Nat := ireg 320 d 0

/-- Source of the effect playing: 1 Ensign, 2 touch binding, 3 ring packet, 4 PlayEffect write (R333). -/
abbrev hapSrc (g : Nat) (c : Nat) : Nat := ireg 321 g c

/-- World that started the effect, plus 1; 0 where no world did (R333). -/
abbrev hapSrcWorld (g : Nat) (c : Nat) : Nat := ireg 322 g c

/-- Strength of the effect playing (R331). -/
abbrev hapStr (g : Nat) (c : Nat) : Nat := ireg 323 g c

/-- Duration scale of the effect playing (R331). -/
abbrev hapScale (g : Nat) (c : Nat) : Nat := ireg 324 g c

/-- Hoist time at which the effect started (R331). -/
abbrev hapAt (g : Nat) (c : Nat) : Nat := ireg 325 g c

/-- Settings snapshot of the effect: SenseMode, AccelFullScale, BoostMs, BrakeMs, SenseGainUv in fields of 16 bits (R338). -/
abbrev hapSnap (g : Nat) (c : Nat) : Nat := ireg 326 g c

/-- Hoist time of the stop of the effect, plus 1; 0 for none (R331). -/
abbrev hapStopAt (g : Nat) (c : Nat) : Nat := ireg 327 g c

/-- Drive segments of the effect whose braking is complete (R329). -/
abbrev hapBraked (g : Nat) (c : Nat) : Nat := ireg 328 g c

/-- 1 after the sense check of the effect (R330). -/
abbrev hapChecked (g : Nat) (c : Nat) : Nat := ireg 329 g c

/-- 1 while the channel stays in open loop until the next group start (R330). -/
abbrev hapOpen (g : Nat) (c : Nat) : Nat := ireg 330 g c

/-- 1 while the load measurement of the channel is due (R327). -/
abbrev hapDue (g : Nat) (c : Nat) : Nat := ireg 331 g c

/-- Integrator of the loop, a free value (R329). -/
abbrev hapInt (g : Nat) (c : Nat) : Nat := ireg 332 g c

/-- Drive of the last loop period in mV, as an S32 (R329). -/
abbrev hapDrive (g : Nat) (c : Nat) : Nat := ireg 333 g c

/-- SEQ plus 1 of the journal item of the effect playing (R430). -/
abbrev hapItem (g : Nat) (c : Nat) : Nat := ireg 334 g c

/-- 1 while the targets of group g are limited to 50 %, 2 while its high voltage is off for heat (R339). -/
abbrev hapHot (g : Nat) : Nat := ireg 335 g 0

/-- Hoist time of the next retry of the high voltage of group g; 0 for none (R339). -/
abbrev hapRetry (g : Nat) : Nat := ireg 336 g 0

/-- 1 while group g is above its power limit (R339). -/
abbrev hapLimited (g : Nat) : Nat := ireg 337 g 0

/-- Scale that the power limit puts on targets, ppm, plus 1 (R339). -/
abbrev hapPower (g : Nat) : Nat := ireg 338 g 0

/-- 1 + 64 times the source device plus the source world of the feed that fills layer l of head n; 0 for none (R467). -/
abbrev feedIn (n : Nat) (l : Nat) : Nat := ireg 339 n l

/-- 1 after the LIMIT_REACHED warning of touch port p's masking, 2 after its fault (R489). -/
abbrev touchGap (p : Nat) : Nat := ireg 340 p 0

/-- Gain in effect when the ramp of the gain object at this index and sub-index began, 0.000001 dB as an S64 (R345). -/
abbrev gainFrom (idx : Nat) (sub : Nat) : Nat := ireg 341 idx sub

/-- Hoist time at which that ramp began, plus 1 (R345). -/
abbrev gainAt (idx : Nat) (sub : Nat) : Nat := ireg 342 idx sub

/-- Duck gain when it last changed direction, 0.000001 dB as an S64 (R359). -/
abbrev duckFrom : Nat := ireg 343 0 0

/-- Hoist time of that change, plus 1 (R359). -/
abbrev duckAt : Nat := ireg 344 0 0

/-- 1 while the duck gain moves to or stands at DuckDb (R359). -/
abbrev duckOn : Nat := ireg 345 0 0

/-- Page whose tone voice v plays, plus 1; 0 while free (R358). -/
abbrev voicePage (v : Nat) : Nat := ireg 346 v 0

/-- Number of the tone voice v plays (R358). -/
abbrev voiceTone (v : Nat) : Nat := ireg 347 v 0

/-- Hoist time at which voice v started (R358). -/
abbrev voiceAt (v : Nat) : Nat := ireg 348 v 0

/-- Hoist time at which voice v began to fade out, plus 1 (R358). -/
abbrev voiceFade (v : Nat) : Nat := ireg 349 v 0

/-- 1 after the tone that page p requests has played its repeats (R358). -/
abbrev toneDone (p : Nat) : Nat := ireg 350 p 0

/-- 1 while a voice plays with no alarm sink in service (R360). -/
abbrev backupPath : Nat := ireg 351 0 0

/-- 1 while the backup tone plays 1,000 Hz, 0 while it plays 800 Hz (R360). -/
abbrev backupHz : Nat := ireg 352 0 0

/-- Hoist time of the last change of the backup tone, plus 1 (R360). -/
abbrev backupAt : Nat := ireg 353 0 0

/-- Hoist time of the last AUD_ENGINE_LATE, plus 1 (R341). -/
abbrev engineLateAt : Nat := ireg 354 0 0

/-- Hoist time at which stream t starts, plus 1; 0 for none (R352). -/
abbrev audStart (t : Nat) : Nat := ireg 355 t 0

/-- Hoist time of the stop of stream t, plus 1; 0 for none (R352). -/
abbrev audStop (t : Nat) : Nat := ireg 356 t 0

/-- Largest sample of source (k 0) or bus (k 1) j since the last meter update (R347). -/
abbrev meterPeak (k : Nat) (j : Nat) : Nat := ireg 357 k j

/-- Sum of squares of those samples (R347). -/
abbrev meterSum (k : Nat) (j : Nat) : Nat := ireg 358 k j

/-- Number of those samples (R347). -/
abbrev meterCount (k : Nat) (j : Nat) : Nat := ireg 359 k j

/-- Hoist time at which the meter's HOLD was last exceeded, plus 1 (R347). -/
abbrev meterHoldAt (k : Nat) (j : Nat) : Nat := ireg 360 k j

/-- Hoist time at which bridge k last began to ramp to silence, plus 1 (R349). -/
abbrev bridgeOffAt (k : Nat) : Nat := ireg 361 k 0

/-- 1 while a reset of the audio island's boundary ports keeps the buses of domain d at zero (R362). -/
abbrev audMute (d : Nat) : Nat := ireg 362 d 0

/-- Hoist time from which the buses of domain d ramp in, plus 1 (R362). -/
abbrev audIn (d : Nat) : Nat := ireg 363 d 0

/-- Hoist time of the last change of PRate, plus 1 (R362). -/
abbrev pSwitch : Nat := ireg 364 0 0

/-- Register g(r) of core n (ch 15 Registers). -/
abbrev coreG (n : Nat) (r : Nat) : Nat := ireg 365 n r

/-- pc of core n (ch 15 Special registers). -/
abbrev corePc (n : Nat) : Nat := ireg 366 n 0

/-- flags of core n (ch 15 flags). -/
abbrev coreFlags (n : Nat) : Nat := ireg 367 n 0

/-- epc of core n (ch 15 Special registers). -/
abbrev coreEpc (n : Nat) : Nat := ireg 368 n 0

/-- eflags of core n (ch 15 Special registers). -/
abbrev coreEflags (n : Nat) : Nat := ireg 369 n 0

/-- evh of core n (ch 15 Special registers). -/
abbrev coreEvh (n : Nat) : Nat := ireg 370 n 0

/-- evmask of core n (ch 15 Special registers). -/
abbrev coreEvmask (n : Nat) : Nat := ireg 371 n 0

/-- Last MailboxIn word of core n (R366). -/
abbrev coreMbx (n : Nat) : Nat := ireg 372 n 0

/-- 1 while that word is unread (R366). -/
abbrev coreMbxNew (n : Nat) : Nat := ireg 373 n 0

/-- peer of core n (ch 15 Special registers). -/
abbrev corePeer (n : Nat) : Nat := ireg 374 n 0

/-- Last word received by SEND at core n (R366). -/
abbrev corePeerIn (n : Nat) : Nat := ireg 375 n 0

/-- 1 while that word is unread (R366). -/
abbrev corePeerNew (n : Nat) : Nat := ireg 376 n 0

/-- Count of timer t of core n when it was last evaluated (R364). -/
abbrev coreTmr (n : Nat) (t : Nat) : Nat := ireg 377 n t

/-- Hoist time of that evaluation (R364). -/
abbrev coreTmrAt (n : Nat) (t : Nat) : Nat := ireg 378 n t

/-- Reload of timer t of core n (R364). -/
abbrev coreTmrRl (n : Nat) (t : Nat) : Nat := ireg 379 n t

/-- Control of timer t of core n (R364). -/
abbrev coreTmrCtl (n : Nat) (t : Nat) : Nat := ireg 380 n t

/-- Settings of edge detector e of core n (R364). -/
abbrev coreEdge (n : Nat) (e : Nat) : Nat := ireg 381 n e

/-- Byte a of the data memory of core n (ch 15 Core address map). -/
abbrev coreMem (n : Nat) (a : Nat) : Nat := ireg 382 n a

/-- Byte j (256 times the port plus the offset) of the transmit frames core n has written (ch 15 Core address map). -/
abbrev coreCanTx (n : Nat) (j : Nat) : Nat := ireg 383 n j

/-- 1 while core n sleeps in WAIT, 2 while it sleeps in PWAIT (R369 R372). -/
abbrev coreWait (n : Nat) : Nat := ireg 384 n 0

/-- 1 while a handler entered from PWAIT runs on core n (R372). -/
abbrev coreInPwait (n : Nat) : Nat := ireg 385 n 0
/-- A block instruction of a core is under way (R371): 0 none, 1 an element done, 2 an element done with an event due. -/
abbrev coreBlk (n : Nat) : Nat := ireg 514 n 0
/-- 1 from hold-up that interrupts a cold start until the start-up is complete (R444). -/
abbrev startHeld : Nat := ireg 515 0 0

/-- Period ticks of core n since the last boundary (R373). -/
abbrev coreTicks (n : Nat) : Nat := ireg 386 n 0

/-- Instruction times of core n in the present period (R374). -/
abbrev coreInstr (n : Nat) : Nat := ireg 387 n 0

/-- Hoist time of the last PEN_PERIOD_LATE of core n, plus 1 (R373). -/
abbrev coreLateAt (n : Nat) : Nat := ireg 388 n 0

/-- Hoist time of the last PEN_OVERRUN of core n, plus 1 (R374). -/
abbrev coreOverAt (n : Nat) : Nat := ireg 389 n 0

/-- Periods of trial left on core n (R378). -/
abbrev coreTrial (n : Nat) : Nat := ireg 390 n 0

/-- 1 while core n swaps back to its other bank at its next tick (R378). -/
abbrev coreBack (n : Nat) : Nat := ireg 391 n 0

/-- 1 from the reset of core n until its next tick (R375). -/
abbrev coreReady (n : Nat) : Nat := ireg 392 n 0

/-- Queue entries discarded by the reset of core n and not yet reported (R375). -/
abbrev coreLost (n : Nat) : Nat := ireg 393 n 0

/-- State code that core n resumes with after hold-up (R379). -/
abbrev coreResume (n : Nat) : Nat := ireg 394 n 0

/-- Tag plus 1 of alive stream k of check unit u; 0 while unused (R388). -/
abbrev chkStream (u : Nat) (k : Nat) : Nat := ireg 395 u k

/-- 1 once alive stream k of check unit u has accepted a record (R388). -/
abbrev chkLast (u : Nat) (k : Nat) : Nat := ireg 396 u k

/-- Hoist time of the last CHK_MISMATCH of check unit u, plus 1 (R389). -/
abbrev chkEventAt (u : Nat) : Nat := ireg 397 u 0

/-- Key material of slot s: the AES key, the private scalar, or the public key as in PublicKey; no class can read it (R400). -/
abbrev slotKey (s : Nat) : Nat := ireg 398 s 0

/-- Destination code plus 1 of the session that asked for the erase of slot s (R402). -/
abbrev slotEraser (s : Nat) : Nat := ireg 399 s 0

/-- 1 while the random generator is stopped (R399). -/
abbrev rngStopped : Nat := ireg 400 0 0

/-- Identity private key; 0 before the first derivation (R395). -/
abbrev identityKey : Nat := ireg 401 0 0

/-- 1 while the identity of this cold start is unavailable (R395). -/
abbrev identityLost : Nat := ireg 402 0 0

/-- Sealing key (R395). -/
abbrev sealKey : Nat := ireg 403 0 0

/-- Public key of the live owner slot, 97 bytes (R394). -/
abbrev ownerPub : Nat := ireg 404 0 0

/-- SCOPE of the debug certificate that session n opened with (R405). -/
abbrev certScope (n : Nat) : Nat := ireg 405 n 0

/-- WORLDS of that certificate (R122). -/
abbrev certWorlds (n : Nat) : Nat := ireg 406 n 0

/-- HOURS_UNTIL of that certificate (R405). -/
abbrev certUntil (n : Nat) : Nat := ireg 407 n 0

/-- KEY_REF of that certificate (R405). -/
abbrev certRef (n : Nat) : Nat := ireg 408 n 0

/-- ISSUER of that certificate: 1 owner (R405). -/
abbrev certOwner (n : Nat) : Nat := ireg 409 n 0

/-- 1 while boundary scan is open (R406). -/
abbrev scanOpen : Nat := ireg 410 0 0

/-- 1 while step 1 of R93 is shed in full for the junction temperature (R454). -/
abbrev thermalShed : Nat := ireg 411 0 0

/-- Active bank of the firmware item of unit h (R407). -/
abbrev itemBank (h : Nat) : Nat := ireg 412 h 0

/-- Version in bank b of that item (R407). -/
abbrev itemVer (h : Nat) (b : Nat) : Nat := ireg 413 h b

/-- State of bank b of that item, plus 1; 0 for its state after manufacture: bank A active, bank B empty (ch 17 FirmwareItems). -/
abbrev itemBankState (h : Nat) (b : Nat) : Nat := ireg 414 h b

/-- 1 while the start check of the item of unit h on a new bank is due, 2 while that on the bank it returned to is (R415). -/
abbrev startCheck (h : Nat) : Nat := ireg 415 h 0

/-- Hours in service at which the trial began (R417). -/
abbrev updTrialFrom : Nat := ireg 416 0 0

/-- UpdActiveVersion before the package in trial (ch 17 UpdActiveVersion). -/
abbrev updPrevVersion : Nat := ireg 417 0 0

/-- Session that writes the package body, plus 1 (R58). -/
abbrev updSession : Nat := ireg 418 0 0

/-- Spare erase blocks left in NOR bank b (R491). -/
abbrev norSpare (b : Nat) : Nat := ireg 419 b 0

/-- Consecutive starts of Halyard from bank b that did not reach serving (R416). -/
abbrev halFails (b : Nat) : Nat := ireg 420 b 0

/-- 1 while a package installed in recovery boots as a new trial (R423). -/
abbrev updBoth : Nat := ireg 421 0 0

/-- ROLLBACK of the recovery package in the update unit, plus 1 (R418 R423). -/
abbrev updClass5 : Nat := ireg 422 0 0

/-- 1 while the package in the update unit has RAISE_FLOOR set (R418). -/
abbrev updFlags : Nat := ireg 423 0 0

/-- 1 while Halyard restarts for its watchdog (R414 R444). -/
abbrev halDog : Nat := ireg 424 0 0

/-- 1 from VMAIN valid until VMAIN fail (R444). -/
abbrev vmainOk : Nat := ireg 425 0 0

/-- 1 while VMAIN is disconnected after an over-voltage (R442). -/
abbrev vmainOver : Nat := ireg 426 0 0

/-- 1 while VBAK is below VbakWarnMv (R443). -/
abbrev vbakLow : Nat := ireg 427 0 0

/-- 1 while VBAK is below 2.7 V (R443). -/
abbrev vbakGone : Nat := ireg 428 0 0

/-- Cause of the present hold-up: 1 VMAIN fail, 2 heat (R444). -/
abbrev holdupCause : Nat := ireg 429 0 0

/-- Cause of the last flush: 1 supplies, 2 RESET_N, 3 remote off, 4 the junction at 145 °C; 0 for none (R444 R448). -/
abbrev flushCause : Nat := ireg 430 0 0

/-- 1 while the events of the last flush wait for the next start (R448). -/
abbrev flushTold : Nat := ireg 431 0 0

/-- 1 from a thermal shutdown until VMAIN fails (R444). -/
abbrev thermalLock : Nat := ireg 432 0 0

/-- 1 while RemoteOffInput is asserted (R444). -/
abbrev remoteOff : Nat := ireg 433 0 0

/-- 1 while RESET_N is held low (R444). -/
abbrev resetN : Nat := ireg 434 0 0

/-- ResetCause that the next start reports (ch 19 Resets). -/
abbrev nextCause : Nat := ireg 435 0 0

/-- Start under way: 0 cold, 1 warm return after flush (R449 R451). -/
abbrev bootKind : Nat := ireg 436 0 0

/-- 1 from PWR_THERMAL_HIGH until the junction falls below 118 °C (R454). -/
abbrev thermalHigh : Nat := ireg 437 0 0

/-- Bytes of the Ensign content package in force, as a DOMAIN value (R246 R396). -/
abbrev pkgImage : Nat := ireg 438 0 0

/-- 1 while UPD_SETTINGS_RESET waits for Halyard to serve (R421). -/
abbrev settingsReset : Nat := ireg 439 0 0

/-- State of the slot of hoist device d on the manager (table Unit state codes) (R470). -/
abbrev hoistSlot (d : Nat) : Nat := ireg 440 d 0

/-- Hoist time of the last heartbeat of worker d (R470). -/
abbrev hoistHb (d : Nat) : Nat := ireg 441 d 0

/-- Link that leads to hoist device d, plus 1; 0 where no path exists (R459). -/
abbrev hoistPath (d : Nat) : Nat := ireg 442 d 0

/-- Hops to hoist device d (R464). -/
abbrev hoistHops (d : Nat) : Nat := ireg 443 d 0

/-- Hoist time of the last heartbeat of the manager (R471). -/
abbrev mgrHb : Nat := ireg 444 0 0

/-- Key of hoist link l (R458). -/
abbrev linkKey (l : Nat) : Nat := ireg 445 l 0

/-- Frames of link l since its key was derived (R458). -/
abbrev linkFrames (l : Nat) : Nat := ireg 446 l 0

/-- SEQ of the last frame sent on link l (R458). -/
abbrev linkSeq (l : Nat) : Nat := ireg 447 l 0

/-- HopsToManager of the peer on link l, plus 256 × its ManagerId; 0xFF without a path to a manager (R459). -/
abbrev linkHops (l : Nat) : Nat := ireg 448 l 0

/-- Hoist time of the next bring-up of link l (R458). -/
abbrev linkRetry (l : Nat) : Nat := ireg 449 l 0

/-- Consecutive exchanges within 12 ns (R462). -/
abbrev timeGood : Nat := ireg 450 0 0

/-- Hoist time of the last exchange (R462). -/
abbrev timeLast : Nat := ireg 451 0 0

/-- Nanoseconds still to be slewed (R461 R463). -/
abbrev slewLeft : Nat := ireg 452 0 0

/-- 1 while the device's time is ahead and is held back (R461 R463). -/
abbrev slewAhead : Nat := ireg 453 0 0

/-- Nanoseconds in which one is slewed: 2,000 for 500 ppm, 20,000 for 50 ppm (R461 R463). -/
abbrev slewEvery : Nat := ireg 454 0 0

/-- Nanoseconds since the last one slewed (R461 R463). -/
abbrev slewCount : Nat := ireg 455 0 0

/-- 1 while a master is selected (R460). -/
abbrev ptpSel : Nat := ireg 456 0 0

/-- Hoist time since which none is (R460). -/
abbrev ptpSince : Nat := ireg 457 0 0

/-- 1 from HOIST_PTP_LOST until a master is selected again (R460). -/
abbrev ptpLost : Nat := ireg 458 0 0

/-- 1 once HOIST_PARTITION has been raised, until a manager is heard (R471). -/
abbrev hoistPart : Nat := ireg 459 0 0

/-- Buffer of feed f that is complete and not yet shown, plus 1 (R468). -/
abbrev feedNew (f : Nat) : Nat := ireg 460 f 0

/-- Buffer that the next copy of feed f fills (R468). -/
abbrev feedBuf (f : Nat) : Nat := ireg 461 f 0

/-- Buffer of feed f that the layer shows, plus 1 (R468). -/
abbrev feedShown (f : Nat) : Nat := ireg 462 f 0

/-- Bytes of the present copy of feed f that have arrived (R468). -/
abbrev feedFill (f : Nat) : Nat := ireg 463 f 0

/-- 1 while the layer of feed f shows opaque black (R469). -/
abbrev feedBlack (f : Nat) : Nat := ireg 464 f 0

/-- Hoist time at which the last frame of feed f stops being held, 0 for none (R469). -/
abbrev feedHoldDue (f : Nat) : Nat := ireg 465 f 0

/-- Rate admitted for feed f, MB/s rounded up (R467). -/
abbrev feedRate (f : Nat) : Nat := ireg 466 f 0

/-- Link by which feed f arrives (R467). -/
abbrev feedLink (f : Nat) : Nat := ireg 467 f 0

/-- PRESENT of export e as last copied for a feed elsewhere; f is 16 × target device + feed (R468). -/
abbrev srcPresent (e : Nat) (f : Nat) : Nat := ireg 468 e f

/-- PRESENT value of the copy in progress, plus 1; 0 for none (R468). -/
abbrev srcCopy (e : Nat) (f : Nat) : Nat := ireg 469 e f

/-- 1 while session n waits for the response of a hoist device (R464). -/
abbrev winWait (n : Nat) : Nat := ireg 470 n 0

/-- Originating device × 65,536 + forwarded session number of session n (R464). -/
abbrev sessFar (n : Nat) : Nat := ireg 471 n 0

/-- Events of counter k that do not yet fill its scale (R473). -/
abbrev counterRes (k : Nat) : Nat := ireg 472 k 0

/-- Microseconds of hoist time counted by counter 0 (R473). -/
abbrev usLast : Nat := ireg 473 0 0

/-- Slots of class j of the renderer (R479). -/
abbrev slotRaw (j : Nat) : Nat := ireg 474 j 0

/-- Session that holds snapshot bank b, 0 for none (R476). -/
abbrev snapHolder (b : Nat) : Nat := ireg 475 b 0

/-- Counter that sampler s is armed on, plus 1 (R480). -/
abbrev sampOn (s : Nat) : Nat := ireg 476 s 0

/-- Period it is armed with (R480). -/
abbrev sampPer (s : Nat) : Nat := ireg 477 s 0

/-- Counts since it was armed (R480). -/
abbrev sampCount (s : Nat) : Nat := ireg 478 s 0

/-- Crossings recorded or counted lost (R480). -/
abbrev sampDone (s : Nat) : Nat := ireg 479 s 0

/-- Hoist time of its last sample, plus 1 (R480). -/
abbrev sampLast (s : Nat) : Nat := ireg 480 s 0

/-- Destination of the arming session (R480). -/
abbrev sampDest (s : Nat) : Nat := ireg 481 s 0

/-- Latched words of the counter view of instance i (R478). -/
abbrev viewLatch (i : Nat) (j : Nat) : Nat := ireg 482 i j

/-- Consecutive bad reads of light-sensor port k (R503). -/
abbrev lightBad (k : Nat) : Nat := ireg 483 k 0

/-- Hoist time of the next read of port k (R503). -/
abbrev lightNext (k : Nat) : Nat := ireg 484 k 0

/-- 1 while the rest of a pass that was resolved as dropped is skipped (R430). -/
abbrev passSkip (i : Nat) (r : Nat) : Nat := ireg 485 i r

/-- Longest output report of device j of USB host port h (R67). -/
abbrev usbOutLen (h : Nat) (j : Nat) : Nat := ireg 486 h j

/-- Challenge of the JTAG port (R405). -/
abbrev jtagNonce : Nat := ireg 487 0 0

/-- Value that transmitted pushed object t of port p last sent, plus 1 (R71). -/
abbrev txSent (p : Nat) (t : Nat) : Nat := ireg 488 p t

/-- 1 for a session on the JTAG port (R405). -/
abbrev certPort (n : Nat) : Nat := ireg 489 n 0

/-- Handle that the next added unit takes (R9, R10). -/
abbrev nextHandle : Nat := ireg 490 0 0

/-- First index that the next added unit takes (R17, chapter 22, table Held identifiers). -/
abbrev nextIndex : Nat := ireg 491 0 0

/-- REVISION of the object set of unit h under the firmware of bank b, 0 for the type's of firmware 1.x (R510, R420). -/
abbrev itemRev (h : Nat) (b : Nat) : Nat := ireg 492 h b
/-- What TimeLocked read at CommitAt of the pending commit of unit `h` (R50): 0 CommitAt has not come or the lock has not changed since, 1 locked, 2 not locked. -/
abbrev pendLock (h : Nat) : Nat := ireg 493 h 0
/-- When the present period of transmitted pushed object `t` of CAN FD port `p` began (R71). -/
abbrev txFrom (p : Nat) (t : Nat) : Nat := ireg 494 p t
/-- Set point at which SpeedNow of domain `d` was measured, mV (R82). -/
abbrev speedMv (d : Nat) : Nat := ireg 495 d 0
/-- Part of the shortfall of domain `d` that no step closed at the present shed, k steps/s (R93). -/
abbrev shedRest (d : Nat) : Nat := ireg 496 d 0
/-- Time in service at the last measurement of the ageing monitors, ns (R87). -/
abbrev ageTime : Nat := ireg 497 0 0
/-- Time in service at the last forecast, ns (R91). -/
abbrev forecastTime : Nat := ireg 498 0 0
/-- 1 while touch port `p` runs at 120 Hz because its core falls behind (R94). -/
abbrev touchLate (p : Nat) : Nat := ireg 499 p 0

/-- Memory key of world `w`: the number that the true random number generator gave, 0 for none (R113). -/
abbrev memKey (w : Nat) : Nat := ireg 500 w 0
/-- Rounds at node `a` until the Ensign event path may issue again (R146). -/
abbrev ensGap (a : Nat) : Nat := ireg 501 a 0
/-- Number of the 10 ms interval in which `concBytes` of world `w` counts (R161). -/
abbrev concWin (w : Nat) : Nat := ireg 502 w 0
/-- Host window base of PCIe port `p`, which Halyard sets (R143). -/
abbrev hostBase (p : Nat) : Nat := ireg 503 p 0
/-- Object of the dictionary request that waits in the mailbox of instance `i` (R130). -/
abbrev mbKey (i : Nat) : Nat := ireg 504 i 0
/-- OFFSET of that request (R58). -/
abbrev mbOff (i : Nat) : Nat := ireg 505 i 0
/-- Instance whose ring last gave a packet of stream `t`, plus 1 (R514). -/
abbrev streamInst (t : Nat) : Nat := ireg 506 t 0
/-- First block of the broad list of the pass's segment, plus 1 (R178). -/
abbrev broadHead (i : Nat) (r : Nat) : Nat := ireg 507 i r
/-- Last block of the broad list of the pass's segment, plus 1 (R178). -/
abbrev broadTail (i : Nat) (r : Nat) : Nat := ireg 508 i r
/-- NIM steps that the flattening context of head `n` has used in the frame `flatUsedFrame` (R214). -/
abbrev flatUsed (n : Nat) : Nat := ireg 509 n 0
/-- Frame in which `flatUsed` counts. -/
abbrev flatUsedFrame (n : Nat) : Nat := ireg 510 n 0
/-- Hoist time at which the present context got the renderer (R211). -/
abbrev nimSince : Nat := ireg 511 0 0
/-- Start, plus 1, of the drive segment of channel c of group g whose rise is over: the sensed envelope has reached 90 % of its target, or BoostMs has passed (R329). -/
abbrev hapRisen (g : Nat) (c : Nat) : Nat := ireg 512 g c
/-- Length in ms of the present ramp of the gain held at an index and sub-index (R345). -/
abbrev gainMs (idx : Nat) (sub : Nat) : Nat := ireg 513 idx sub

end Reg

/-- Reset value of register number `t`. -/
def iregDefault (t : Nat) : Nat := match t with
  | 0 => 1
  | 9 => 6
  | 50 => 600
  | 51 => 600
  | 54 => 0xFFFFFFFF
  | 60 => 6
  | 94 => 0xFFFFFFFF
  | 100 => 0x0401
  | 120 => 1
  | 172 => 1
  | 230 => 1
  | 264 => 1
  | 272 => 1
  | 300 => 8000
  | 408 => 0xFF
  | 419 => 64
  | 425 => 1
  | 438 => 1
  | 448 => 0xFF
  | 490 => 0xD2
  | 491 => 0x8000
  | _ => 0

/-- What a key reads when nothing has been stored there: an object's default, a register's reset value, or, for a
session's own copy, the object's default (R27). -/
def regDefault (k : Nat) : Nat :=
  if k < 0x10000000000 then objDefault k
  else if k < 0x1000000000000000 then iregDefault (k / 0x10000000000 - 1)
  else objDefault (k % 0x1000000000000000)

end Sys2Proof.Machine
end

