-- ==== Sys2Proof/Machine/State.lean ====
section
/-!
DEFINITION. Machine/State.lean: the state of the block as plain data, the reasons a command can stop, and the state after
reset. Every word-sized register, dictionary object or not, lies in the table `regs` under its key (Machine/Keys.lean and
Machine/Regs.lean name them); queues, records and byte memory have fields of their own.
-/
namespace Sys2Proof.Machine

/-- An event record (R7). `seq` is the record's number at its destination; `payload` has 14 bytes. -/
structure Event where
  time : Nat
  unit : Nat
  status : Nat
  world : Nat
  severity : Nat
  seq : Nat
  payload : Bytes
  deriving DecidableEq, Repr

/-- A journal record (chapter 18, table Journal record). `live` is bit 1 of FLAGS, `tail` bit 0; the CRC field is a function
of the others and is not stored. -/
structure JRec where
  seq : Nat
  typ : Nat
  tail : Bool
  live : Bool
  time : Nat
  unit : Nat
  world : Nat
  inst : Nat
  body : Bytes
  deriving DecidableEq, Repr

/-- A work item a unit has taken and not ended (R430): its ITEM_ACCEPT record and what its class needs. `cls` is 0 for
class R, 1 for class D, 2 for class X; `ring` is 0 to 7, 0xFE for the mailbox, 0xFF for none. `fence` is the address plus 1 of its
completion fence, 0 without one, and `fval` the value it signals. -/
structure Item where
  seq : Nat
  unit : Nat
  world : Nat
  inst : Nat
  ring : Nat
  rptr : Nat
  opcode : Nat
  cls : Nat
  pass : Nat
  replays : Nat
  fence : Nat
  fval : Nat
  deriving DecidableEq, Repr

/-- The answer to the last request: its status and its data. -/
structure Answer where
  status : Nat
  data : Bytes
  deriving DecidableEq, Repr

/-- A kept response of an Ethernet session (R59): the datagram's SEQ, the record's place in it, and the answer given. -/
structure Kept where
  seq : Nat
  pos : Nat
  ans : Answer
  deriving DecidableEq, Repr

/-- An export of a surface (SURFACE_EXPORT): `pages` of 4 KiB from guest space address `addr` of `world`, for world `target`
(0xFF for the hoist, R467). -/
structure Export where
  num : Nat
  world : Nat
  addr : Nat
  pages : Nat
  target : Nat
  deriving DecidableEq, Repr

/-- A view made by SURFACE_IMPORT: export `num` mapped read-only into `world` at guest space address `addr`. -/
structure View where
  num : Nat
  world : Nat
  addr : Nat
  pages : Nat
  deriving DecidableEq, Repr

/-- An entry of a bank's activation tracker (R162): a row, its count in the present refresh window, and what each world and
requester contributed. -/
structure Track where
  row : Nat
  count : Nat
  by' : List (Nat × Nat × Nat)
  deriving DecidableEq, Repr

/-- A refresh-management action and the world and requester it is attributed to (R162, R163). -/
structure RfmAct where
  ch : Nat
  world : Nat
  req : Nat
  time : Nat
  deriving DecidableEq, Repr

/-- A row throttle (R163): a world and requester held to one activation per ThrottleGapNs in a bank until `until'`. `further` counts the
actions attributed since it began or was renewed, `raised` is the time of its last event, `last` that of its last activation. -/
structure Throttle where
  ch : Nat
  bank : Nat
  world : Nat
  req : Nat
  until' : Nat
  further : Nat
  raised : Nat
  last : Nat
  deriving DecidableEq, Repr

/-- A cluster that a touch port tracks (R308 to R322). `kind` is 0 for a cluster not yet confirmed, 1 a contact, 2 suppressed (R316), 3 a palm,
4 one seen by a gesture watch (R314). `frames` counts the consecutive frames held, `low` those below the release threshold. `cx`, `cy` are the
centroid in 1/256 of a node, `x0`, `y0` that of the touch-down; `x`, `y` the panel position in 1/16 pixel. `world` is the destination taken at
touch-down, 0xFF for none; `sig` is what R322 compares of its layer; `cov` the covered nodes the cluster included. -/
structure Contact where
  num : Nat
  kind : Nat
  frames : Nat
  low : Nat
  cx : Nat
  cy : Nat
  x0 : Nat
  y0 : Nat
  x : Nat
  y : Nat
  peak : Nat
  size : Nat
  world : Nat
  head : Nat
  layer : Nat
  glove : Bool
  sig : List Nat
  cov : List Nat
  deriving DecidableEq, Repr

/-- A stream buffer taken from ring 5 (R351): its address, frames, frames fetched and frames passed, fence and value, the instance whose ring carried it
and its journal item. -/
structure AudBuf where
  addr : Nat
  frames : Nat
  fetched : Nat
  passed : Nat
  fence : Nat
  fval : Nat
  inst : Nat
  seq : Nat
  deriving DecidableEq, Repr

/-- A job of the crypto engine (R397, R401): the session and its destination, its world, whether it is of class HAL or ENS, the operation, CryptoSlot and
CryptoGen as submitted, the input; `running` once it has started on a lane, then with the kind and the material of the key it is bound to. -/
structure Job where
  session : Nat
  world : Nat
  first : Bool
  op : Nat
  slot : Nat
  gen : Nat
  input : Bytes
  running : Bool
  bound : Bool
  kind : Nat
  key : Nat
  pub : Nat
  deriving DecidableEq, Repr

/-- Something the block sends out: an interrupt vector to an instance, a frame or datagram on a port of the unit with this
handle, a level on a pin. -/
inductive Out where
  | irq (inst vector value : Nat)
  | frame (unit : Nat) (bytes : Bytes)
  | pin (unit n level : Nat)
  deriving DecidableEq, Repr

/-- A unit added after the built-in ones (R9, R10, R17): its handle and the fields of its record. `item` is the unit whose firmware or program declared
it; 0xFFFF for //hoist and its children (chapter 1, A hoist as one unit). -/
structure AddedUnit where
  handle : Nat
  item : Nat
  typ : Nat
  rev : Nat
  inst : Nat
  parent : Nat
  first : Nat
  count : Nat
  boundary : Nat
  crit : Nat
  ident : Nat
  name : Bytes
  deriving DecidableEq, Repr

/-- A line of a texture cache (R194): `cache` is the cluster of an L1, or 24 for the L2, `line` the fabric physical address of its 64 bytes divided by 64,
`keyw` the KEYW tag, `flat` whether it holds a way that serves flattening contexts only (R196). -/
structure CacheLine where
  cache : Nat
  line : Nat
  keyw : Nat
  flat : Bool
  data : Bytes
  deriving DecidableEq, Repr

/-- The state of the block. -/
structure State where
  /-- Hoist time, ns (TIME64). -/
  now : Nat
  /-- The model's own: how many free values have been taken (log 5). -/
  freeCount : Nat
  /-- The model's own: commands waiting, first in, first out. -/
  pending : List Instr
  /-- Every register (Machine/Keys.lean, Machine/Regs.lean). -/
  regs : Kmap Nat
  /-- Shadow bank: the objects whose shadow value differs from the pending or active one (R35). -/
  shadow : Kmap (Option Nat)
  /-- Pending bank: the objects whose pending value differs from the active one (R39). -/
  pend : Kmap (Option Nat)
  /-- Queues and logs of byte records, oldest first (Machine/Ops.lean names them). -/
  fifos : Kmap (List Bytes)
  /-- Lists of numbers (Machine/Ops.lean names them). -/
  nums : Kmap (List Nat)
  /-- Byte memory by fabric physical address: DRAM, on-die SRAM, Ensign SRAM. -/
  mem : List Host.Cell
  /-- Owner event ring, newest first (R70). -/
  ownerRing : List Event
  /-- Events delivered to Halyard, newest first. -/
  halInbox : List Event
  /-- Events delivered to the Ensign runtime, newest first. -/
  ensInbox : List Event
  /-- Store of 32 events per event queue, oldest first (R129). -/
  eqStore : Kmap (List Event)
  /-- Journal records held, newest first (R424). -/
  journal : List JRec
  /-- Work items taken and not ended, oldest first. -/
  items : List Item
  /-- Units added after the built-in ones, in the order of their handles (R9, R10). -/
  addedUnits : List AddedUnit
  /-- Lines of the L1 and L2 texture caches of the renderer, oldest first (R194). -/
  lines : List CacheLine
  /-- Surface exports in force. -/
  exports : List Export
  /-- Views of exports in force. -/
  views : List View
  /-- Halyard's own committed settings of blocks that another world holds (R116 step 8). -/
  halSettings : Kmap Nat
  /-- Activation trackers by channel and bank. -/
  tracks : Kmap (List Track)
  /-- Refresh-management actions of the last 32 ms, newest first. -/
  rfmActs : List RfmAct
  /-- Row throttles in force. -/
  throttles : List Throttle
  /-- The staged Ensign content package: verified, not yet active (R246). -/
  stagedPkg : Option EnsPkg
  /-- The Ensign content package in force (R246). -/
  activePkg : Option EnsPkg
  /-- The package being switched to (PackageState 3). -/
  nextPkg : Option EnsPkg
  /-- Clusters each touch port tracks (R308, R310). -/
  contacts : Kmap (List Contact)
  /-- Buffers queued for each audio stream, oldest first (R351). -/
  audBufs : Kmap (List AudBuf)
  /-- Jobs of the crypto engine, in order of arrival. -/
  jobs : List Job
  /-- What the block has sent, newest first. -/
  out : List Out
  /-- Answer to the last request. -/
  answer : Answer
  /-- The records of the last 16 responses of each session, newest first (R59). -/
  kept : Kmap (List Kept)
  deriving DecidableEq, Repr

/-- Reasons a command stops with a fault. The spec gives every command of the table an effect in every state, so no meaning stops with one: what the part
reports as a fault is an event, a status or a register, which is part of the next state. -/
inductive Fault where
  /-- Raised by no command; it stands here so that the type has a constructor. Safe: a run that stopped with it would prove nothing about the part. -/
  | none
  deriving DecidableEq, Repr

/-- Reasons a command is refused. A request that the part refuses is answered with a status, which is part of the next state. -/
inductive Refusal where
  /-- An arm of exec whose command has no meaning yet. Every command has one, so nothing raises it. Safe: the run stops where the part would go on. -/
  | notModelled (mnemonic : String)
  deriving DecidableEq, Repr

/-- The block right after reset. -/
def State.reset : State where
  now := 0
  freeCount := 0
  pending := []
  regs := [(Obj.powerState, 1)]
  shadow := []
  pend := []
  fifos := []
  nums := []
  mem := []
  ownerRing := []
  halInbox := []
  ensInbox := []
  eqStore := []
  journal := []
  items := []
  addedUnits := []
  lines := []
  exports := []
  views := []
  halSettings := []
  tracks := []
  rfmActs := []
  throttles := []
  stagedPkg := none
  activePkg := none
  nextPkg := none
  contacts := []
  audBufs := []
  jobs := []
  out := []
  answer := ⟨0, []⟩
  kept := []

end Sys2Proof.Machine
end

