-- ==== Sys2Proof/Machine/Units.lean ====
section
/-!
DEFINITION. Machine/Units.lean: the built-in units of firmware 1.x (chapter 1, tables Type codes and Default index
ranges; chapter 0, table Principal unit paths): handles in depth-first order (R9), index ranges, boundary kinds,
criticality, identity references, names, and the path query (R12). The order of siblings follows the table of unit
paths, with /fj/io after the audio unit; it gives the handles of the spec's examples (log 7).
-/
namespace Sys2Proof.Machine

/-- Unit types (table Type codes). -/
abbrev typeGroup : Nat := 0x000F

/-- A run of `n` sibling units with consecutive handles from `lo`. `crit` holds the criticality of the type;
`identBase + (i >>> identShift)` is the identity reference of member `i`. -/
structure UnitRun where
  lo : Nat
  n : Nat
  typ : Nat
  parent : Nat
  first : Nat
  stride : Nat
  icount : Nat
  boundary : Nat
  crit : Nat
  identBase : Nat
  identShift : Nat
  name : String
  pad : Nat
  kids : Nat

/-- The unit runs of firmware 1.x, in handle order (R9, R14; the order of siblings is DEDUCED, log 7). CRITICALITY of a root, where the type table has a dash,
reads 0 (DESIGN CHOICE, log 7). -/
def unitRuns : List UnitRun := [
  ⟨0x00, 1, 0x0001, 0xFFFF, 0x7400, 0, 0x30, 0, 0, 1, 16, "fj", 0, 24⟩,
  ⟨0x01, 1, 0x0010, 0, 0x0800, 0, 0x800, 0, 2, 2, 16, "hal", 0, 0⟩,
  ⟨0x02, 1, 0x0011, 0, 0x4F00, 0, 0x100, 5, 3, 2, 16, "ens", 0, 0⟩,
  ⟨0x03, 1, 0x0020, 0, 0x1000, 0, 0x100, 0, 2, 2, 16, "fab", 0, 0⟩,
  ⟨0x04, 1, 0x000F, 0, 0x1300, 0, 1, 0, 2, 0, 16, "mem", 0, 16⟩,
  ⟨0x05, 16, 0x0021, 4, 0x1100, 0x10, 0x10, 7, 2, 3, 2, "ch", 2, 0⟩,
  ⟨0x15, 1, 0x0030, 0, 0x2000, 0, 0x200, 6, 1, 2, 16, "nim", 0, 24⟩,
  ⟨0x16, 24, 0x0031, 0x15, 0, 0, 0, 6, 1, 2, 16, "cl", 2, 0⟩,
  ⟨0x2E, 1, 0x000F, 0, 0, 0, 0, 0, 3, 0, 16, "bun", 0, 8⟩,
  ⟨0x2F, 8, 0x0040, 0x2E, 0x3000, 0x200, 0x200, 1, 3, 2, 16, "head", 1, 0⟩,
  ⟨0x37, 1, 0x000F, 0, 0, 0, 0, 0, 3, 0, 16, "dpt", 0, 16⟩,
  ⟨0x38, 16, 0x0041, 0x37, 0x4040, 0, 0x20, 1, 3, 2, 16, "p", 2, 0⟩,
  ⟨0x48, 1, 0x000F, 0, 0, 0, 0, 0, 0, 0, 16, "dpr", 0, 8⟩,
  ⟨0x49, 8, 0x0042, 0x48, 0x4080, 0x100, 0x20, 1, 0, 2, 16, "p", 1, 0⟩,
  ⟨0x51, 1, 0x000F, 0, 0, 0, 0, 0, 1, 0, 16, "tch", 0, 8⟩,
  ⟨0x52, 8, 0x0050, 0x51, 0x5000, 0x100, 0x100, 2, 1, 10, 1, "port", 1, 0⟩,
  ⟨0x5A, 1, 0x000F, 0, 0, 0, 0, 0, 1, 0, 16, "hap", 0, 3⟩,
  ⟨0x5B, 1, 0x0058, 0x5A, 0x5800, 0, 0x20, 4, 1, 14, 16, "grp0", 0, 8⟩,
  ⟨0x5C, 8, 0x0059, 0x5B, 0x5820, 0x10, 0x10, 4, 0, 14, 16, "ch", 1, 0⟩,
  ⟨0x64, 1, 0x0058, 0x5A, 0x5900, 0, 0x20, 4, 1, 15, 16, "grp1", 0, 8⟩,
  ⟨0x65, 8, 0x0059, 0x64, 0x5920, 0x10, 0x10, 4, 0, 15, 16, "ch", 1, 0⟩,
  ⟨0x6D, 1, 0x0058, 0x5A, 0x5A00, 0, 0x20, 4, 1, 16, 16, "grp2", 0, 8⟩,
  ⟨0x6E, 8, 0x0059, 0x6D, 0x5A20, 0x10, 0x10, 4, 0, 16, 16, "ch", 1, 0⟩,
  ⟨0x76, 1, 0x0060, 0, 0x6000, 0, 0x214, 3, 3, 2, 16, "aud", 0, 8⟩,
  ⟨0x77, 8, 0x0061, 0x76, 0x6200, 1, 1, 3, 0, 2, 16, "tdm", 1, 0⟩,
  ⟨0x7F, 1, 0x0095, 0, 0x0030, 0, 8, 0, 3, 2, 16, "io", 0, 0⟩,
  ⟨0x80, 1, 0x000F, 0, 0, 0, 0, 0, 3, 0, 16, "pen", 0, 32⟩,
  ⟨0x81, 32, 0x0068, 0x80, 0x6800, 0x40, 0x40, 5, 0, 2, 16, "core", 2, 0⟩,
  ⟨0xA1, 1, 0x000F, 0, 0, 0, 0, 0, 0, 0, 16, "chk", 0, 16⟩,
  ⟨0xA2, 16, 0x0070, 0xA1, 0x7000, 0x40, 0x40, 0, 0, 2, 16, "u", 2, 0⟩,
  ⟨0xB2, 1, 0x0080, 0, 0x0400, 0, 0x100, 0, 2, 2, 16, "sec", 0, 0⟩,
  ⟨0xB3, 1, 0x0081, 0, 0x0500, 0, 0x100, 0, 1, 8, 16, "upd", 0, 0⟩,
  ⟨0xB4, 1, 0x0082, 0, 0x0600, 0, 0x100, 0, 1, 7, 16, "jnl", 0, 0⟩,
  ⟨0xB5, 1, 0x0083, 0, 0x0300, 0, 0x100, 0, 2, 17, 16, "pwr", 0, 0⟩,
  ⟨0xB6, 1, 0x0084, 0, 0x0700, 0, 0x100, 7, 1, 2, 16, "plan", 0, 0⟩,
  ⟨0xB7, 1, 0x0096, 0, 0x7800, 0, 0x40, 0, 0, 2, 16, "pmc", 0, 0⟩,
  ⟨0xB8, 1, 0x000F, 0, 0, 0, 0, 0, 0, 0, 16, "pcie", 0, 4⟩,
  ⟨0xB9, 4, 0x0090, 0xB8, 0x003C, 1, 1, 0, 0, 2, 16, "p", 1, 0⟩,
  ⟨0xBD, 1, 0x000F, 0, 0, 0, 0, 0, 0, 0, 16, "eth", 0, 4⟩,
  ⟨0xBE, 4, 0x0091, 0xBD, 0x0038, 1, 1, 0, 0, 2, 16, "p", 1, 0⟩,
  ⟨0xC2, 1, 0x000F, 0, 0, 0, 0, 0, 0, 0, 16, "can", 0, 4⟩,
  ⟨0xC3, 4, 0x0092, 0xC2, 0x7C00, 0x80, 0x80, 0, 0, 2, 16, "p", 1, 0⟩,
  ⟨0xC7, 1, 0x000F, 0, 0, 0, 0, 0, 0, 0, 16, "usb", 0, 10⟩,
  ⟨0xC8, 8, 0x0093, 0xC7, 0, 0, 0, 0, 0, 2, 16, "d", 1, 0⟩,
  ⟨0xD0, 2, 0x0094, 0xC7, 0x7E00, 0x10, 0x10, 0, 0, 2, 16, "h", 1, 0⟩]

/-! Handles named in the text. -/
namespace U
/-- /fj. -/
abbrev fj : Nat := 0x00
/-- /fj/hal. -/
abbrev hal : Nat := 0x01
/-- /fj/ens. -/
abbrev ens : Nat := 0x02
/-- /fj/fab. -/
abbrev fab : Nat := 0x03
/-- /fj/mem. -/
abbrev mem : Nat := 0x04
/-- /fj/mem/chNN. -/
abbrev dram (c : Nat) : Nat := 0x05 + c
/-- /fj/nim. -/
abbrev nim : Nat := 0x15
/-- /fj/nim/clNN. -/
abbrev cluster (c : Nat) : Nat := 0x16 + c
/-- /fj/bun/headN. -/
abbrev head (n : Nat) : Nat := 0x2F + n
/-- /fj/dpt/pNN. -/
abbrev dpt (p : Nat) : Nat := 0x38 + p
/-- /fj/dpr/pN. -/
abbrev dpr (n : Nat) : Nat := 0x49 + n
/-- /fj/tch/portN. -/
abbrev touch (n : Nat) : Nat := 0x52 + n
/-- /fj/hap/grpG. -/
abbrev hapGroup (g : Nat) : Nat := 0x5B + 9 * g
/-- /fj/hap/grpG/chC. -/
abbrev hapChannel (g c : Nat) : Nat := 0x5C + 9 * g + c
/-- /fj/aud. -/
abbrev aud : Nat := 0x76
/-- /fj/aud/tdmP. -/
abbrev tdm (p : Nat) : Nat := 0x77 + p
/-- /fj/io. -/
abbrev io : Nat := 0x7F
/-- /fj/pen/coreNN. -/
abbrev core (n : Nat) : Nat := 0x81 + n
/-- /fj/chk/uNN. -/
abbrev check (u : Nat) : Nat := 0xA2 + u
/-- /fj/sec. -/
abbrev sec : Nat := 0xB2
/-- /fj/upd. -/
abbrev upd : Nat := 0xB3
/-- /fj/jnl. -/
abbrev jnl : Nat := 0xB4
/-- /fj/pwr. -/
abbrev pwr : Nat := 0xB5
/-- /fj/plan. -/
abbrev plan : Nat := 0xB6
/-- /fj/pmc. -/
abbrev pmc : Nat := 0xB7
/-- /fj/pcie/pN. -/
abbrev pcie (p : Nat) : Nat := 0xB9 + p
/-- /fj/eth/pN. -/
abbrev eth (p : Nat) : Nat := 0xBE + p
/-- /fj/can/pN. -/
abbrev can (p : Nat) : Nat := 0xC3 + p
/-- /fj/usb/dN. -/
abbrev usbDev (d : Nat) : Nat := 0xC8 + d
/-- /fj/usb/hN. -/
abbrev usbHost (h : Nat) : Nat := 0xD0 + h
end U

/-- Handles of firmware 1.x in use at start-up: the first free handle. -/
def handleEnd : Nat := 0xD2

/-- The run that holds handle `h`. -/
def unitRun (h : Nat) : Option UnitRun := unitRuns.find? (fun r => decide (r.lo ≤ h) && decide (h < r.lo + r.n))

/-- Some unit holds the handle. -/
def unitExists (h : Nat) : Bool := decide (h < handleEnd)

/-- Boundary kind of the unit with handle `h` (R41): 0 IMMEDIATE, 1 FRAME, 2 SCAN, 3 SAMPLE, 4 EFFECT, 5 PERIOD,
6 PASS, 7 PLAN, 8 HOIST. -/
def boundaryKind (h : Nat) : Nat := match unitRun h with
  | some r => r.boundary
  | none => 0

/-- Parent handle (R8); 0xFFFF for the root. -/
def unitParent (h : Nat) : Nat := match unitRun h with
  | some r => r.parent
  | none => 0xFFFF

/-- Type code. -/
def unitType (h : Nat) : Nat := match unitRun h with
  | some r => r.typ
  | none => 0

/-- Handles of the root's group units, in order: siblings of one type (R14). -/
def rootGroups : List Nat := [0x04, 0x2E, 0x37, 0x48, 0x51, 0x5A, 0x80, 0xA1, 0xB8, 0xBD, 0xC2, 0xC7]

/-- Instance number among siblings of the same type (R14). -/
def unitInst (h : Nat) : Nat := match unitRun h with
  | some r => if r.typ = 0x0058 then (h - 0x5B) / 9 else if r.typ = typeGroup then rootGroups.idxOf h else h - r.lo
  | none => 0

/-- First index and index count of a built-in unit (R14, R16, R508): the transmitter ports p(2n) and p(2n+1) begin at 0x4040 and 0x4060 + n * 0x100
(R252). -/
def unitIndices (h : Nat) : Nat × Nat :=
  if 0x38 ≤ h ∧ h < 0x48 then (0x4040 + 0x100 * ((h - 0x38) / 2) + 0x20 * ((h - 0x38) % 2), 0x20)
  else match unitRun h with
    | some r => if r.icount = 0 then (0, 0) else (r.first + r.stride * (h - r.lo), r.icount)
    | none => (0, 0)

/-- Identity reference of a unit. -/
def unitIdent (h : Nat) : Nat := match unitRun h with
  | some r => r.identBase + ((h - r.lo) >>> r.identShift)
  | none => 0

/-- The unit whose index range holds `idx` (R508). Head composition objects, scan-out objects and integrity objects of
head n all belong to head n, transmitter-port objects to the two ports of head n, receiver objects to receiver n
(R252); 0x4C00 belongs to /fj/ens and the PDM inputs to /fj/aud (log 7). -/
def unitOfIndex (idx : Nat) : Option Nat :=
  if 0x4000 ≤ idx ∧ idx < 0x4800 then
    let n := (idx - 0x4000) / 0x100
    let o := (idx - 0x4000) % 0x100
    if o < 0x40 then some (U.head n)
    else if o < 0x60 then some (U.dpt (2 * n))
    else if o < 0x80 then some (U.dpt (2 * n + 1))
    else if o < 0xA0 then some (U.dpr n)
    else none
  else if 0x4800 ≤ idx ∧ idx < 0x4C00 then some (U.head ((idx - 0x4800) / 0x80))
  else if 0x4C00 ≤ idx ∧ idx < 0x5000 then some U.ens
  else if 0x6200 ≤ idx ∧ idx < 0x6208 then some (U.tdm (idx - 0x6200))
  else match unitRuns.find? (fun r => decide (0 < r.icount) && decide (r.first ≤ idx)
      && decide (idx < r.first + (if r.n = 1 then r.icount else r.stride * (r.n - 1) + r.icount))
      && (r.n == 1 || decide ((idx - r.first) % r.stride < r.icount))) with
    | some r => some (if r.n = 1 then r.lo else r.lo + (idx - r.first) / r.stride)
    | none => none

/-- The unit an object key belongs to. -/
def unitOfKey (k : Nat) : Option Nat := unitOfIndex (k / 256)

/-- The fixed areas of the dictionary server, which belong to no unit (R508). -/
def fixedArea (idx : Nat) : Bool :=
  idx = 0x0020 || idx = 0x0050 || (decide (0x0100 ≤ idx) && decide (idx < 0x0300))
    || (decide (0xF000 ≤ idx) && decide (idx < 0xF010))

/-- The assignable blocks (chapter 4, Hand-over): CAN FD ports, USB device and host ports, TDM ports, touch ports,
haptic channels, check units other than u14, owner pennant cores, DP receivers. -/
def isBlock (h : Nat) : Bool :=
  (decide (0xC3 ≤ h) && decide (h ≤ 0xC6)) || (decide (0xC8 ≤ h) && decide (h ≤ 0xD1))
    || (decide (0x77 ≤ h) && decide (h ≤ 0x7E)) || (decide (0x52 ≤ h) && decide (h ≤ 0x59))
    || unitType h == 0x0059 || (decide (0xA2 ≤ h) && decide (h ≤ 0xB1) && h != 0xB0)
    || (decide (0x97 ≤ h) && decide (h ≤ 0x9E)) || (decide (0x49 ≤ h) && decide (h ≤ 0x50))

/-- Decimal digits of `n`, padded with zeros to `pad` digits (R12: the path name of a unit). -/
def decimal (pad n : Nat) : List Nat :=
  if pad = 2 then [48 + n / 10, 48 + n % 10] else if n < 10 then [48 + n] else [48 + n / 10, 48 + n % 10]

/-- Path name of the unit with handle `h`, as character codes. A run of one unit with no pad carries no number. -/
def unitName (h : Nat) : List Nat := match unitRun h with
  | some r => r.name.toList.map Char.toNat ++ (if r.pad = 0 then [] else decimal r.pad (h - r.lo))
  | none => []

/-- Split a path at its slashes. -/
def splitPath : List Nat → List Nat → List (List Nat)
  | [], cur => [cur.reverse]
  | c :: cs, cur => if c = 47 then cur.reverse :: splitPath cs [] else splitPath cs (c :: cur)

/-- A path component is well formed: lower-case letters and digits, at least one. -/
def pathWord (n : List Nat) : Bool :=
  !n.isEmpty && n.all (fun c => (decide (97 ≤ c) && decide (c ≤ 122)) || (decide (48 ≤ c) && decide (c ≤ 57)))

/-- A path is well formed when it is a slash, or two slashes before a hoist name, followed by names with single
slashes between them (R12 gives no grammar; log 7). -/
def pathWellFormed (p : List Nat) : Bool := match splitPath p [] with
  | [] :: [] :: ws => !ws.isEmpty && ws.all pathWord
  | [] :: ws => !ws.isEmpty && ws.all pathWord
  | _ => false

end Sys2Proof.Machine
end

