-- ==== Sys2Proof/Machine/Ops.lean ====
section
/-!
DEFINITION. Machine/Ops.lean: the named operations over registers, banks, queues, answers, byte memory, events and the
journal. Every meaning reads and writes the state through them.
-/
namespace Sys2Proof.Machine

namespace State

/-- Read a register or an object's active value. -/
def reg (s : State) (k : Nat) : Nat := Kmap.get (regDefault k) s.regs k

/-- Write a register or an object's active value. -/
def setReg (s : State) (k v : Nat) : State := { s with regs := Kmap.put s.regs k v }

/-- Write several registers in order. -/
def setRegs (s : State) (l : List (Nat × Nat)) : State := l.foldl (fun s p => s.setReg p.1 p.2) s

/-- The device is up: STARTING, SERVICE, HOLDUP or RETURNING (table Power states). -/
def up (s : State) : Bool := [2, 3, 4, 6].contains (s.reg Obj.powerState)

/-- Carry a command out while the device is up; off, booting, flushing or in recovery nothing is there that it could act on (log 28). -/
def whenUp (s : State) (f : State → Host.Outcome State Fault Refusal) : Host.Outcome State Fault Refusal := if s.up then f s else .next s

/-- Add 1 to a counter of `w` bits. -/
def bump (s : State) (k w : Nat) : State := s.setReg k ((s.reg k + 1) % 2 ^ w)

/-- Add `n` to a counter of `w` bits. -/
def addReg (s : State) (k w n : Nat) : State := s.setReg k ((s.reg k + n) % 2 ^ w)

/-- Events to one count of counter `k` (table Event catalogue). -/
def counterScale (k : Nat) : Nat :=
  if (1 ≤ k ∧ k ≤ 4) ∨ (440 ≤ k ∧ k < 472) ∨ (488 ≤ k ∧ k < 712 ∧ (k - 488) % 4 = 0) then 1024
  else if (168 ≤ k ∧ k < 216) ∨ (280 ≤ k ∧ k < 344 ∧ (k - 280) % 8 = 1) ∨ (488 ≤ k ∧ k < 712 ∧ (k - 488) % 4 = 1) then 256
  else if (216 ≤ k ∧ k < 222) ∨ (232 ≤ k ∧ k < 280 ∧ (k - 232) % 2 = 0) then 64
  else 1

/-- Add counts to counter `k`: it wraps and sets its overflow bit (R473); samplers armed on it count with it (R480). -/
def counterRaw (s : State) (k n : Nat) : State :=
  let v := s.reg (Reg.counter k) + n
  let s := s.setReg (Reg.counter k) (v % 0x100000000)
  let s := if v < 0x100000000 then s else s.setReg Obj.overflowFlags (s.reg Obj.overflowFlags ||| 2 ^ k)
  (List.range 4).foldl (fun s j => if s.reg (Reg.sampOn j) = k + 1 then s.setReg (Reg.sampCount j) (s.reg (Reg.sampCount j) + n) else s) s

/-- Counter `k + 1` counts the carries of counter `k` (R475). -/
def chained (s : State) (k : Nat) : Bool := bit (s.reg Obj.chainMask) k

/-- `n` events of counter `k` occur (R473, R475): the upper counter of a chain does not count its own. -/
def count (s : State) (k n : Nat) : State :=
  if n = 0 ∨ (0 < k ∧ s.chained (k - 1)) then s
  else
    let x := s.reg (Reg.counterRes k) + n
    let s := s.setReg (Reg.counterRes k) (x % counterScale k)
    let c := (s.reg (Reg.counter k) + x / counterScale k) / 0x100000000
    let s := s.counterRaw k (x / counterScale k)
    if c ≠ 0 ∧ s.chained k then s.counterRaw (k + 1) c else s

/-- Return a counter and its overflow bit to 0; samplers armed on it are disarmed (R478). -/
def counterZero (s : State) (k : Nat) : State :=
  let s := s.setRegs [(Reg.counter k, 0), (Reg.counterRes k, 0)]
  let s := if bit (s.reg Obj.overflowFlags) k then s.setReg Obj.overflowFlags (s.reg Obj.overflowFlags - 2 ^ k) else s
  (List.range 4).foldl (fun s j => if s.reg (Reg.sampOn j) = k + 1 then s.setRegs [(Reg.sampOn j, 0), (Obj.sampleHolder j, 0)] else s) s

/-- A queue of byte records. -/
def fifo (s : State) (k : Nat) : List Bytes := Kmap.get [] s.fifos k

/-- Replace a queue of byte records. -/
def setFifo (s : State) (k : Nat) (v : List Bytes) : State := { s with fifos := Kmap.set [] s.fifos k v }

/-- A list of numbers. -/
def num (s : State) (k : Nat) : List Nat := Kmap.get [] s.nums k

/-- Replace a list of numbers. -/
def setNum (s : State) (k : Nat) (v : List Nat) : State := { s with nums := Kmap.set [] s.nums k v }

/-- Send something out. -/
def emit (s : State) (o : Out) : State := { s with out := o :: s.out }

/-- Answer the request with a status. -/
def reply (s : State) (st : Nat) : State := { s with answer := ⟨st, []⟩ }

/-- Answer the request with OK and data. -/
def replyData (s : State) (d : Bytes) : State := { s with answer := ⟨St.ok, d⟩ }

/-- A free value (log 5): the number the opaque constant gives at the present count. -/
def fresh (s : State) : Nat := Config.freeValue s.freeCount

/-- The state after a free value has been taken. -/
def tick (s : State) : State := { s with freeCount := s.freeCount + 1 }

/-- Shadow value of an object: its shadow entry, else its pending entry, else its active value (R35, R39). -/
def shadowVal (s : State) (k : Nat) : Nat :=
  match Kmap.get none s.shadow k with
  | some v => v
  | none => match Kmap.get none s.pend k with
    | some v => v
    | none => s.reg k

/-- Pending value of an object: its pending entry, else its active value. -/
def pendVal (s : State) (k : Nat) : Nat :=
  match Kmap.get none s.pend k with
  | some v => v
  | none => s.reg k

/-- Write an object's shadow. -/
def setShadow (s : State) (k v : Nat) : State := { s with shadow := Kmap.set none s.shadow k (some v) }

/-- An entry of a bank belongs to unit `h`. -/
def keyOf (h k : Nat) : Bool := unitOfKey k == some h

/-- Revert the shadow of unit `h` to its pending bank, or to its active bank when nothing is pending (R37, R45). -/
def revertShadow (s : State) (h : Nat) : State := { s with shadow := s.shadow.filter (fun p => !keyOf h p.1) }

/-- Drop the pending bank of unit `h` whole. -/
def dropPend (s : State) (h : Nat) : State := { s with pend := s.pend.filter (fun p => !keyOf h p.1) }

/-- Byte of memory at a fabric physical address; memory that nothing has written reads 0 (R115, log 4). -/
def byte (s : State) (a : Nat) : Byte := Kmap.get 0 s.mem a

/-- Store one byte, keeping the canonical form of the memory list. -/
def setByte (s : State) (a : Nat) (b : Byte) : State := { s with mem := Kmap.set 0 s.mem a b }

/-- `n` bytes of memory from an address up. -/
def readBytes (s : State) (a n : Nat) : Bytes := (List.range n).map (fun i => s.byte (a + i))

/-- Store bytes from an address up. -/
def writeBytes (s : State) (a : Nat) : Bytes → State
  | [] => s
  | b :: bs => writeBytes (s.setByte a b) (a + 1) bs

/-- `n` bytes of memory as a little-endian number. -/
def readLe (s : State) (a n : Nat) : Nat := leNat (s.readBytes a n)

end State

/-- The canonical form of the memory list. -/
abbrev Memory.wf (m : List Host.Cell) : Prop := Kmap.Canon (0 : Byte) m

/-! Keys of the byte-record queues. -/
namespace Fifo
/-- Unacknowledged transport datagrams of Ethernet instance `i` (R133). -/
abbrev unacked (i : Nat) : Nat := 0x100 + i
/-- Receive FIFO of raw CAN FD port `p` (R65). -/
abbrev rawRx (p : Nat) : Nat := 0x200 + p
/-- Transmit queue of raw CAN FD port `p` (R65). -/
abbrev rawTx (p : Nat) : Nat := 0x210 + p
/-- Input report queue of USB host port `h` (R67). -/
abbrev hid (h : Nat) : Nat := 0x220 + h
end Fifo

/-! What the remote-instance transport keeps for Ethernet instance `i` beside `Fifo.unacked`. -/
namespace Num
/-- When each datagram not yet acknowledged was last sent (R133). -/
abbrev remoteTimes (i : Nat) : Nat := 0xB000002000 + i
/-- How often each has been sent again (R133). -/
abbrev remoteTries (i : Nat) : Nat := 0xB000002100 + i
end Num

/-- A response record (table Request and response record). -/
def respRecord (op idx sub off st tag : Nat) (d : Bytes) : Bytes :=
  record [(1, op + 0x80), (1, 0), (2, idx), (1, sub), (1, 0), (2, d.length), (4, off), (2, st), (2, tag)] ++ d ++ List.replicate ((4 - d.length % 4) % 4) 0

namespace State

/-- World kind is video (R514). -/
def videoWorld (s : State) (w : Nat) : Bool := s.reg (Obj.worldKind w) == 5

/-- Instances of a world. -/
def worldInsts (s : State) (w : Nat) : List Nat :=
  (List.range 56).filter (fun i => s.reg (Obj.instWorld i) == w && s.reg (Obj.instState i) != 0)

/-- Room for one more record in the ring of 163,840 (table MRAM layout): the oldest record that is not live gives way (R428). -/
def jnlTrim (l : List JRec) : List JRec := if l.length < 163840 then l else (l.reverse.eraseP (fun (r : JRec) => !r.live)).reverse

/-- Append a journal record with the next SEQ (R425, R426); the tail holds at most 256 KiB. `live` marks a record something depends on (R428). At
JnlNextSeq 2^48 - 1 only TYPE 0x20 to 0x22 and 0x50 are accepted (R488). -/
def jnl (s : State) (typ unit world inst : Nat) (live : Bool) (body : Bytes) : State :=
  let seq := s.reg Obj.jnlNextSeq
  if seq = 2 ^ 48 - 1 ∧ ¬ (typ = 0x20 ∨ typ = 0x21 ∨ typ = 0x22 ∨ typ = 0x50) then s
  else
    let win := s.now / 100000000
    let s := if s.reg Reg.jnlWindow = win then s else s.setRegs [(Reg.jnlWindow, win), (Reg.jnlCount, 0), (Reg.jnlReserve, 0)]
    let s := if typ = 0x20 ∨ typ = 0x21 ∨ typ = 0x22 then s.bump Reg.jnlReserve 32 else s.bump Reg.jnlCount 32
    let n := s.reg Obj.jnlLiveRecords + b2n live
    let s := s.setRegs [(Obj.jnlNextSeq, min (seq + 1) (2 ^ 48 - 1)), (Obj.jnlTailBytes, min 262144 (s.reg Obj.jnlTailBytes + 64)),
      (Obj.jnlLiveRecords, n), (Reg.jnlHold, if 81920 < n then 1 else s.reg Reg.jnlHold)]
    { s with journal := ⟨seq, typ, false, live, s.now, unit, world, inst, padTo 40 body⟩ :: jnlTrim s.journal }

/-- The journal accepts no record but TYPE 0x20 to 0x22 and 0x50, and new work items, commits and set-up operations are refused (R488). -/
def jnlFull (s : State) : Bool := decide (2 ^ 48 - 1 ≤ s.reg Obj.jnlNextSeq)

/-- SEQ that the next journal record takes. -/
def jnlSeq (s : State) : Nat := s.reg Obj.jnlNextSeq

/-- The record with this SEQ is no longer needed (R428). -/
def jnlDead (s : State) (seq : Nat) : State :=
  if s.journal.any (fun (r : JRec) => r.seq == seq && r.live) then
    { s with journal := s.journal.map (fun (r : JRec) => if r.seq = seq then { r with live := false } else r) }.setReg
      Obj.jnlLiveRecords (s.reg Obj.jnlLiveRecords - 1) |>.setReg Reg.jnlHold (if s.reg Obj.jnlLiveRecords ≤ 65536 then 0 else s.reg Reg.jnlHold)
  else s

/-- The 32 bytes of an event record (R7). -/
def eventBytes (e : Event) : Bytes :=
  record [(8, e.time), (2, e.unit), (2, e.status), (1, e.world), (1, e.severity), (4, e.seq)] ++ padTo 14 e.payload

end State

/-- Where an event is sent. `code` is a session's destination (R513): 0 the owner event ring, 1 the Ensign runtime, else what `State.instCode` gives for
an instance and its world. -/
inductive Dest where
  | hal | owner | ens | inst (i : Nat) | world (w : Nat) | code (c : Nat)
  deriving DecidableEq, Repr

namespace State

/-- Code of the event queue of instance `i` as a route to world `w` under its present WorldGen (R120). -/
def instCode (s : State) (i w : Nat) : Nat := 2 + i + 0x100 * (w + 0x100 * s.reg (Obj.worldGen w))

/-- The destinations an event goes to (R514): for a world every instance that has a queue; for a video world, its instances and the owner service world
the owner event ring; world 0 Halyard; world 1 the Ensign runtime. A session's route names a world and its WorldGen: a stale one delivers nothing (R120). -/
def expandDest (s : State) : Dest → List Dest
  | .code 0 => [.owner]
  | .code 1 => [.ens]
  | .code (c + 2) =>
    if s.reg (Obj.worldGen (c / 0x100 % 0x100)) ≠ c / 0x10000 then [] else if 48 ≤ c % 0x100 then [.owner] else [.inst (c % 0x100)]
  | .inst i => if 48 ≤ i then [.owner] else [.inst i]
  | .world 0 => [.hal]
  | .world 1 => [.ens]
  | .world 2 => [.owner]
  | .world w => if s.videoWorld w then [.owner]
      else ((s.worldInsts w).filter (fun i => s.reg (Reg.eqExists i) == 1)).map Dest.inst
  | d => [d]

end State

/-- A translation fault (R105 to R108): status, stage, level, whether it was met on a descriptor read of a stage-1 walk, and
the address reported. -/
structure XFault where
  status : Nat
  stage : Nat
  level : Nat
  walk : Bool
  addr : Nat
  deriving DecidableEq, Repr

/-- Kinds of access (R112 WHERE bits 2:0). -/
inductive Acc where
  | read | write | atomic | scan
  deriving DecidableEq, Repr

/-- Code of an access kind in a fault event. -/
def Acc.code : Acc → Nat
  | .read => 1
  | .write => 2
  | .atomic => 3
  | .scan => 4

/-- Rights `r`, `w` permit the access (R108). -/
def Acc.permits (a : Acc) (r w : Bool) : Bool := match a with
  | .read => r
  | .scan => r
  | .write => w
  | .atomic => r && w

/-- The address lies in the fabric range its stage-2 KIND names (table Stage-2 KIND codes, R143). -/
def kindRange (kind a : Nat) : Bool :=
  if kind < 3 then decide (a < 0x1000000000)
  else if kind = 3 then decide (0x1000000000 ≤ a) && decide (a < 0x2000000000)
  else if kind = 4 then decide (0x10000000000 ≤ a) && decide (a < 0x20000000000)
  else decide (0x400000000000 ≤ a) && decide (a < 0x800000000000)

/-- Address bits a leaf at this level maps: 1 GiB, 2 MiB or 4 KiB. -/
def leafBits (level : Nat) : Nat := if level = 1 then 30 else if level = 2 then 21 else 12

/-- What a descriptor says at a level. -/
inductive Desc where
  | fault (status : Nat) | table (addr : Nat) | leaf (addr : Nat) (r w : Bool) (kind : Nat)
  deriving DecidableEq, Repr

/-- Where a walk ends: the output address, the leaf's rights, its level and its KIND. -/
structure Leaf where
  addr : Nat
  r : Bool
  w : Bool
  level : Nat
  kind : Nat
  deriving DecidableEq, Repr

/-- Read a stage-1 descriptor (R105). TYPE 0b00 is reported before a reserved bit. -/
def s1Desc (d level : Nat) : Desc :=
  let typ := bits d 0 2
  let addr := bits d 12 40 * 4096
  let r := bit d 6
  let w := bit d 7
  if typ = 0 then .fault St.xlatInvalid
  else if bits d 52 7 ≠ 0 ∨ bits d 2 2 ≠ 0 ∨ typ = 2 then .fault St.xlatReserved
  else if typ = 3 ∧ level < 3 then .table addr
  else if typ = 1 ∧ (level = 0 ∨ level = 3) then .fault St.xlatReserved
  else if addr % 2 ^ leafBits level ≠ 0 ∨ (w ∧ ¬ r) then .fault St.xlatReserved
  else .leaf addr r w 0

namespace State

/-- Read a stage-2 descriptor for world `w` (R105 to R107). `a` is the guest space address translated, whose low bits
complete a block's output address. A view (R106) is a leaf of a DRAM kind whose KEYW is another world. -/
def s2Desc (s : State) (w d level a : Nat) : Desc :=
  let typ := bits d 0 2
  let addr := bits d 12 36 * 4096
  let r := bit d 6
  let wr := bit d 7
  let kind := bits d 54 3
  let keyw := bits d 57 6
  let fpa := addr + a % 2 ^ leafBits level
  if typ = 0 then .fault St.xlatInvalid
  else if bit d 63 ∨ bits d 48 6 ≠ 0 ∨ bits d 2 4 ≠ 0 ∨ typ = 2 then .fault St.xlatReserved
  else if typ = 3 ∧ level < 3 then .table addr
  else if typ = 1 ∧ (level = 0 ∨ level = 3) then .fault St.xlatReserved
  else if addr % 2 ^ leafBits level ≠ 0 ∨ (wr ∧ ¬ r) ∨ 6 ≤ kind then .fault St.xlatReserved
  else if ¬ kindRange kind fpa ∨ (kind = 2 ∧ keyw ≠ 0) then .fault St.xlatReserved
  else if w = 1 ∧ kind < 3 then .fault St.xlatEnsign
  else if kind < 3 ∧ keyw ≠ w ∧ (wr ∨ s.reg (Obj.keyState keyw) ≠ 1) then .fault St.xlatKey
  else if w ≠ 1 ∧ 0x1004000000 ≤ fpa ∧ fpa < 0x1004600000 then .fault St.xlatEnsign
  else .leaf fpa r wr kind

/-- Installed local DRAM in bytes. -/
def dramSize (s : State) : Nat := s.reg Obj.installedGiB * 0x40000000

/-- Whether the fabric carries out an access at a fabric physical address with a memory kind (R143, R155): OK, or the
status returned to the requester. -/
def fabricStatus (s : State) (kind a : Nat) : Nat :=
  if a < 0x1000000000 then
    if s.dramSize ≤ a + 0x200000 then St.memNoDram
    else if s.reg (Reg.frameMode (a / 0x200000)) ≠ kind then St.memMode
    else if kind = 2 ∧ 0x1F0000 ≤ a % 0x200000 then St.memMode
    else St.ok
  else if a < 0x2000000000 then St.ok
  else if 0x10000000000 ≤ a ∧ a < 0x20000000000 then
    if s.reg (Obj.pcieLinkWidth ((a - 0x10000000000) / 0x4000000000)) = 0 ∨ s.reg (Reg.portReset (U.pcie ((a - 0x10000000000) / 0x4000000000))) = 1 then St.memUnmapped
    else St.ok
  else if 0x400000000000 ≤ a ∧ a < 0x800000000000 then
    if s.reg (Reg.hoistPath ((a - 0x400000000000) / 0x10000000000)) ≠ 0 then St.ok else St.memUnmapped
  else St.memUnmapped

/-- Status of a read of a stage-2 descriptor at `a`: the walker reads with KIND protected only (R101, R143, R155). -/
def tableStatus (s : State) (a : Nat) : Nat := if a < 0x1000000000 then s.fabricStatus 2 a else St.memUnmapped

/-- A stage-2 walk from a table at `level`, with `fuel` levels left: the fabric physical address and the leaf's rights. A descriptor that lies in no
protected frame is not read (R101): the fabric refuses the access (stage 0). -/
def s2Walk (s : State) (w a : Nat) (walk : Bool) : Nat → Nat → Nat → Except XFault Leaf
  | 0, level, _ => .error ⟨St.xlatReserved, 2, level, walk, a⟩
  | fuel + 1, level, tbl =>
    let idx := if level = 0 then bits a 39 13 else bits a (39 - 9 * level) 9
    if s.tableStatus (tbl + 8 * idx) ≠ St.ok then .error ⟨s.tableStatus (tbl + 8 * idx), 0, level, walk, a⟩
    else match s.s2Desc w (s.readLe (tbl + 8 * idx) 8) level a with
    | .fault st => .error ⟨st, 2, level, walk, a⟩
    | .table t => s2Walk s w a walk fuel (level + 1) t
    | .leaf fpa r wr kind => .ok ⟨fpa, r, wr, level, kind⟩

/-- Translate a guest space address of world `w` through stage 2. -/
def s2 (s : State) (w a : Nat) (walk : Bool) : Except XFault Leaf :=
  s.s2Walk w a walk 4 0 (s.reg (Reg.worldRoot w))

/-- A stage-1 walk (R104, R108): every descriptor is read through stage 2 with WALK set. -/
def s1Walk (s : State) (w va : Nat) : Nat → Nat → Nat → Except XFault Leaf
  | 0, level, _ => .error ⟨St.xlatReserved, 1, level, false, va⟩
  | fuel + 1, level, tbl =>
    let da := tbl + 8 * bits va (39 - 9 * level) 9
    match s.s2 w da true with
    | .error e => .error e
    | .ok l =>
      if !l.r then .error ⟨St.xlatPermission, 2, l.level, true, da⟩
      else match s1Desc (s.readLe l.addr 8) level with
        | .fault st => .error ⟨st, 1, level, false, va⟩
        | .table t => s1Walk s w va fuel (level + 1) t
        | .leaf a r wr _ => .ok ⟨a + va % 2 ^ leafBits level, r, wr, level, 0⟩

/-- Translate one access of world `w` (R103 to R108) to its fabric physical address and KIND. `root` is the stage-1 root plus 1, or
0 with stage 1 off. -/
def translate (s : State) (w root va : Nat) (acc : Acc) : Except XFault (Nat × Nat) :=
  if va / 2 ^ 48 ≠ 0 then .error ⟨St.xlatAddrSize, 1, 0, false, va % 2 ^ 52⟩
  else
    match (if root = 0 then .ok ⟨va, true, true, 0, 0⟩ else s.s1Walk w va 4 0 (root - 1)) with
    | .error e => .error e
    | .ok g =>
      match s.s2 w g.addr false with
      | .error e => .error e
      | .ok l =>
        if !acc.permits g.r g.w then .error ⟨St.xlatPermission, 1, g.level, false, va⟩
        else if !acc.permits l.r l.w then .error ⟨St.xlatPermission, 2, l.level, false, g.addr⟩
        else .ok (l.addr, l.kind)

/-- Translate one byte and check that the fabric carries the access out; a refusal of the fabric is a fault of stage 0. -/
def xlateByte (s : State) (w root va : Nat) (acc : Acc) : Except XFault Nat :=
  match s.translate w root va acc with
  | .error e => .error e
  | .ok (fpa, kind) =>
    if s.fabricStatus kind fpa = St.ok then .ok fpa else .error ⟨s.fabricStatus kind fpa, 0, 0, false, va⟩

/-- Addresses of `n` bytes of guest memory from `va` up, or the first fault. -/
def xlateRange (s : State) (w root va : Nat) (acc : Acc) : Nat → Except XFault (List Nat)
  | 0 => .ok []
  | n + 1 => match s.xlateByte w root va acc with
    | .error e => .error e
    | .ok a => match s.xlateRange w root (va + 1) acc n with
      | .error e => .error e
      | .ok as => .ok (a :: as)

/-- What a byte of the fabric map reads as: memory of the device, or, in a host or hoist window, what the far side answers (log 5). -/
def fabricByte (s : State) (a : Nat) : Byte :=
  if 0x10000000000 ≤ a then BitVec.ofNat 8 (Config.windowByte a s.now) else s.byte a

/-- Something leaves in a host or hoist window (R143): a PCI Express request of port p at its host window base, or a request to hoist device n at the window
offset; `acc` 1 a read, 2 a write. -/
def windowOut (s : State) (acc : Nat) (x : Nat × Bytes) : State :=
  let p := (x.1 - 0x10000000000) / 0x4000000000
  if x.1 < 0x400000000000 then
    s.emit (.frame (U.pcie p) (record [(8, s.reg (Reg.hostBase p) + (x.1 - 0x10000000000) % 0x4000000000), (1, acc)] ++ x.2))
  else s.emit (.frame U.fab (record [(1, (x.1 - 0x400000000000) / 0x10000000000), (8, (x.1 - 0x400000000000) % 0x10000000000), (1, acc)] ++ x.2))

/-- Bytes to write gathered into runs of rising addresses. -/
def byteRuns : List (Nat × Byte) → List (Nat × Bytes)
  | [] => []
  | p :: l => match byteRuns l with
    | (a, bs) :: rs => if p.1 + 1 = a then (p.1, p.2 :: bs) :: rs else (p.1, [p.2]) :: (a, bs) :: rs
    | [] => [(p.1, [p.2])]

/-- Write bytes at addresses of the fabric map: in the device's memory, or out through a window. -/
def fabricPut (s : State) (l : List (Nat × Byte)) : State :=
  let s := (l.filter (fun p => decide (p.1 < 0x10000000000))).foldl (fun s p => s.setByte p.1 p.2) s
  (byteRuns (l.filter (fun p => decide (0x10000000000 ≤ p.1)))).foldl (fun s x => s.windowOut 2 x) s

/-- Read guest memory. -/
def gread (s : State) (w root va n : Nat) : Except XFault Bytes :=
  match s.xlateRange w root va .read n with
  | .error e => .error e
  | .ok as => .ok (as.map s.fabricByte)

/-- Write guest memory; a faulting access changes nothing (R111). -/
def gwrite (s : State) (w root va : Nat) (bs : Bytes) : Except XFault State :=
  match s.xlateRange w root va .write bs.length with
  | .error e => .error e
  | .ok as => .ok (s.fabricPut (as.zip bs))

/-- World of an instance. -/
def instWorld (s : State) (i : Nat) : Nat := s.reg (Obj.instWorld i)

/-- SEQ of a transport datagram. -/
def dgSeq (d : Bytes) : Nat := leNat ((d.drop 4).take 4)

/-- Send one transport datagram to the guest of Ethernet instance `i` (R132, R133). CHAN 0x06 and 0x07 carry SEQ 0 and are not kept for retransmission; one
beyond the 64 unacknowledged waits until an acknowledgement makes room. -/
def remoteSend (s : State) (i chan : Nat) (pl : Bytes) : State :=
  let numbered := chan ≠ 6 ∧ chan ≠ 7
  let seq := if numbered then s.reg (Reg.remoteTx i) + 1 else 0
  let d := record [(1, chan), (1, 0), (1, i - 32), (1, 0), (4, seq), (4, s.reg (Reg.remoteRx i)), (2, pl.length), (2, 0)] ++ pl
  let q := s.fifo (Fifo.unacked i)
  let s := if numbered ∧ 64 ≤ q.length then s else (s.setReg (Reg.remoteSent i) s.now).emit (.frame U.hal d)
  if numbered then
    (((s.setReg (Reg.remoteTx i) seq).setFifo (Fifo.unacked i) (q ++ [d])).setNum (Num.remoteTimes i) (s.num (Num.remoteTimes i) ++ [s.now])).setNum
      (Num.remoteTries i) (s.num (Num.remoteTries i) ++ [0])
  else s

/-- Release acknowledged datagrams (R133); those that then come within the 64 are sent. -/
def remoteAck (s : State) (i ack : Nat) : State :=
  let q := s.fifo (Fifo.unacked i)
  let k := (q.takeWhile (fun d => decide (dgSeq d ≤ ack))).length
  if k = 0 then s
  else
    let times := (s.num (Num.remoteTimes i)).drop k
    let s := ((s.setFifo (Fifo.unacked i) (q.drop k)).setNum (Num.remoteTimes i) (times.take (64 - k) ++ (times.drop (64 - k)).map (fun _ => s.now))).setNum
      (Num.remoteTries i) ((s.num (Num.remoteTries i)).drop k)
    ((q.drop 64).take k).foldl (fun s d => (s.setReg (Reg.remoteSent i) s.now).emit (.frame U.hal d)) s

/-- A datagram of the guest has been delivered (R133): its SEQ is the highest received in order, its ACK releases datagrams, and CHAN 0x06 acknowledges it. -/
def delivered (s : State) (i seq ack : Nat) : State :=
  (((s.setReg (Reg.remoteLast i) s.now).remoteAck i ack).setReg (Reg.remoteRx i) seq).remoteSend i 6 []

/-- A datagram that is not the next in order (R133): its ACK is taken and it is acknowledged anew. -/
def stray (s : State) (i ack : Nat) : State := ((s.setReg (Reg.remoteLast i) s.now).remoteAck i ack).remoteSend i 6 []

/-- A transport datagram arrives from a bound guest (R133): it is delivered once, in order. CHAN 0x06 and 0x07 carry SEQ 0. -/
def remoteIn (s : State) (i seq ack : Nat) (f : State → State) : State :=
  if i < 32 ∨ 47 < i ∨ s.reg (Reg.remoteOn i) = 0 then s
  else if seq = 0 then f ((s.setReg (Reg.remoteLast i) s.now).remoteAck i ack)
  else if seq = s.reg (Reg.remoteRx i) + 1 then f (s.delivered i seq ack)
  else s.stray i ack

/-- A command of the guest of instance `i` arrives: from a PCIe guest as it is, from an Ethernet guest in a numbered datagram of its association (R132, R133). -/
def arrives (s : State) (i : Nat) (dg : Dgram) (f : State → State) : State :=
  if i < 32 then f s else if dg.seq = 0 then s else s.remoteIn i dg.seq dg.ack f

/-- Raise an interrupt vector of an instance: MSI-X on PCIe, a CHAN 0x05 datagram on Ethernet (R132). -/
def raiseIrq (s : State) (i vector value : Nat) : State :=
  if i < 32 then s.emit (.irq i vector value)
  else if i < 48 then s.remoteSend i 5 (record [(1, vector), (4, value)])
  else s

/-- The event writer raises EQ_VECTOR when EQ_HOLDOFF_US has passed since the previous interrupt; otherwise the interrupt
stays due (R128). -/
def eqInterrupt (s : State) (i : Nat) : State :=
  let last := s.reg (Reg.eqIrqLast i)
  if last = 0 ∨ last - 1 + 1000 * s.reg (Reg.eqHoldoff i) ≤ s.now then
    (s.setRegs [(Reg.eqIrqLast i, s.now + 1), (Reg.eqIrqDue i, 0)]).raiseIrq i (s.reg (Reg.eqVector i)) (s.reg (Reg.eqProd i))
  else s.setReg (Reg.eqIrqDue i) 1

/-- Count one discarded event (R129). -/
def eqDiscard (s : State) (i : Nat) (e : Event) : State :=
  let s := s.bump (Reg.eqLost i) 32
  let s := s.bump (if e.severity < 2 then Reg.eqLostInfo i else Reg.eqLostOther i) 32
  if s.reg (Reg.eqFirstLost i) = 0xFFFFFFFF then s.setReg (Reg.eqFirstLost i) e.seq else s

/-- A record cannot be written into the event queue of instance `i` (R111, R112): the fault counts, its own event, meant for the same queue, with those not
reported; Halyard hears of a stage-2 fault and of a refusal of the fabric (log 43). -/
def eqFault (s : State) (i : Nat) (e : XFault) : State :=
  let w := s.instWorld i
  let pl := if e.stage = 0 then [] else
    [(7, e.addr), (1, 64 * e.stage + 16 * e.level + 8 * b2n e.walk + Acc.write.code), (2, 8), (1, i % 32), (1, s.reg (Obj.reqClass 10)), (2, 0)]
  let s := if e.stage = 0 then s
    else ((s.bump (Obj.faultCount w) 32).bump (Obj.faultsCoalesced w) 32).setReg (Reg.faultCoalesced w) (min 65535 (s.reg (Reg.faultCoalesced w) + 1))
  if e.stage = 1 then s else { s with halInbox := ⟨s.now, U.hal, e.status, w, 3, 0, padTo 14 (record pl)⟩ :: s.halInbox }

/-- Write one record into the event queue of instance `i` and then advance EQ_PROD (R128); a record that cannot be written is discarded. -/
def eqWrite (s : State) (i : Nat) (e : Event) : State :=
  let prod := s.reg (Reg.eqProd i)
  match s.gwrite (s.instWorld i) (s.reg (Reg.s1Root i 8)) (s.reg (Reg.eqBase i) + 32 * (prod % 2 ^ s.reg (Reg.eqLog2 i))) (eventBytes e) with
  | .ok s' => s'.setReg (Reg.eqProd i) ((prod + 1) % 2 ^ 32)
  | .error f => (s.eqFault i f).eqDiscard i e

/-- Records the event queue of instance `i` can still take. -/
def eqSpace (s : State) (i : Nat) : Nat :=
  2 ^ s.reg (Reg.eqLog2 i) - (s.reg (Reg.eqProd i) + 2 ^ 32 - s.reg (Reg.eqCons i)) % 2 ^ 32

/-- Events stored for instance `i` while its queue is full (R129). -/
def eqStored (s : State) (i : Nat) : List Event := Kmap.get [] s.eqStore i

/-- Replace the store. -/
def setEqStored (s : State) (i : Nat) (l : List Event) : State := { s with eqStore := Kmap.set [] s.eqStore i l }

/-- Deliver an event to the event queue of an instance (R128, R129, R514): it takes the next sequence number; it is written
where there is room, kept in the store of 32 when the queue is full and the severity is warning or above, and
discarded otherwise. An instance without a queue loses it. -/
def toInst (s : State) (i : Nat) (e : Event) : State :=
  if s.reg (Reg.eqExists i) = 0 then s
  else
    let e := { e with seq := s.reg (Reg.eqSeq i) }
    let s := s.bump (Reg.eqSeq i) 32
    if 0 < s.eqSpace i ∧ s.reg (Reg.eqFull i) = 0 then (s.eqWrite i e).eqInterrupt i
    else
      let s := s.setReg (Reg.eqFull i) 1
      if e.severity < 2 then s.eqDiscard i e
      else match s.eqStored i with
        | [] => s.setEqStored i [e]
        | o :: os => if os.length < 31 then s.setEqStored i ((o :: os) ++ [e])
            else (s.eqDiscard i o).setEqStored i (os ++ [e])

/-- A session's class may read an owner ring record (R70): HAL, OWN and DBG every record, FLD those whose severity bit is set
in FieldEventMask. -/
def ownerReads (s : State) (cls sev : Nat) : Bool :=
  cls == 0 || cls == 2 || cls == 5 || (cls == 4 && bit (s.reg Obj.fieldEventMask) sev)

/-- The datagram that pushes an owner ring record to an Ethernet session (R71). -/
def pushDatagram (n : Nat) (e : Event) : Bytes :=
  record [(1, 0x46), (1, 0x4A), (1, 1), (1, 1), (2, n), (2, 0), (1, 0x86), (1, 0), (2, 0x50), (1, 3), (1, 0), (2, 32), (4, 0),
    (2, 0), (2, 0)] ++ eventBytes e

/-- Sessions that receive pushed records: open Ethernet sessions with OwnerEvPush 1 whose class may read the record. -/
def pushSessions (s : State) (sev : Nat) : List Nat :=
  (List.range (s.reg Reg.nextSession + 1)).filter (fun n => s.reg (Reg.sessOpen n) == 1
    && s.reg (skey n Obj.ownerEvPush) == 1 && s.ownerReads (s.reg (Reg.sessClass n)) sev)

/-- Enter an event into the owner event ring of 4,096 records (R70, R71). -/
def toOwner (s : State) (e : Event) : State :=
  let e := { e with seq := s.reg Obj.ownerEvHead }
  let s := if s.ownerRing.length < 4096 then s else s.bump Obj.ownerEvLost 32
  let s := { s with ownerRing := e :: s.ownerRing.take 4095 }.bump Obj.ownerEvHead 32
  let s := if bit (s.reg Obj.fieldEventMask) e.severity then s.setReg Obj.ownerEvLast (leNat (eventBytes e)) else s
  (s.pushSessions e.severity).foldl (fun s n => s.emit (.frame U.hal (pushDatagram n e))) s

/-- Deliver an event to one expanded destination. -/
def deliver (e : Event) (s : State) : Dest → State
  | .hal => { s with halInbox := e :: s.halInbox }
  | .owner => s.toOwner e
  | .ens => { s with ensInbox := e :: s.ensInbox }
  | .inst i => s.toInst i e
  | .world _ => s
  | .code _ => s

/-- Raise an event (R7). It goes once to each destination; a fault or an alarm of any unit also enters the owner event ring
(R70); an alarm or a yield is journalled before it is delivered (table Record types, R141). SEQ is a number that the owner ring and each event queue give
(R70, R128); in a journal record, and for Halyard and the Ensign runtime, the spec gives it no value and the model writes 0 (DESIGN CHOICE, log 40). -/
def raise (s : State) (ds : List Dest) (unit st world sev : Nat) (pl : List (Nat × Nat)) : State :=
  let e : Event := ⟨s.now, unit, st, world, sev, 0, padTo 14 (record pl)⟩
  let s := if sev = 4 ∨ st = St.yielded then s.jnl 0x20 unit world 0xFF (st == St.yielded) (eventBytes e) else s
  let ds := (ds.flatMap s.expandDest ++ (if 3 ≤ sev then [Dest.owner] else [])).dedup
  ds.foldl (deliver e) s

end State
end Sys2Proof.Machine
end

