-- ==== Sys2Proof/Machine/HoistBase.lean ====
section
/-!
DEFINITION. Machine/HoistBase.lean: what other units need of the hoist (chapter 20): frames on the links, reports of dropped schedules, paths and the parent
link, the slewing of hoist time.
-/
namespace Sys2Proof.Machine

/-! Lists of numbers of the hoist. -/
namespace Num
/-- Dropped schedules (epoch or package) that wait for a path to the manager (R466). -/
abbrev hoistMissed : Nat := 0xB500000000
/-- Sessions that forward over link `l` (R464). -/
abbrev linkSessions (l : Nat) : Nat := 0xB500000010 + l
end Num

namespace Hst

/-- Name of hoist link `l` as a sender in what the block sends out; no handle (log 29). -/
abbrev linkUnit (l : Nat) : Nat := 0x10000 + l

end Hst

namespace State

/-- Send one frame on a link (table Hoist link frame): the header and the payload as they go into the link's cipher, which adds the TAG (log 29). -/
def linkSend (s : State) (l typ dst cls session : Nat) (pl : Bytes) : State :=
  if s.reg (Obj.hoistLinkState l) ≠ 3 ∧ s.reg (Obj.hoistLinkState l) ≠ 4 then s
  else
    let s := s.setRegs [(Reg.linkSeq l, (s.reg (Reg.linkSeq l) + 1) % 0x100000000), (Reg.linkFrames l, s.reg (Reg.linkFrames l) + 1)]
    s.emit (.frame (Hst.linkUnit l) (record [(1, typ), (1, s.reg Obj.deviceId), (1, dst), (1, cls), (2, session), (2, pl.length), (4, s.reg (Reg.linkSeq l)), (4, 0)] ++ pl))

/-- Send a frame towards a hoist device; nothing without a path. -/
def hoistSend (s : State) (typ dst cls session : Nat) (pl : Bytes) : State :=
  if s.reg (Reg.hoistPath dst) = 0 then s else s.linkSend (s.reg (Reg.hoistPath dst) - 1) typ dst cls session pl

/-- The manager learns that device `d` has dropped a scheduled item (R466). -/
def missedAt (s : State) (d what : Nat) : State :=
  (s.setReg Obj.missedSched (s.reg Obj.missedSched ||| 2 ^ d)).raise [.hal, .owner] U.fj St.hoistSchedMissed 0xFF 2 [(1, d), (4, what)]

/-- This device has dropped a scheduled item (R466): a member tells the manager once it has a path. -/
def hoistMissed (s : State) (what : Nat) : State :=
  if s.reg Obj.hoistRole = 0 then s
  else if s.reg Obj.hoistRole = 1 then s.missedAt (s.reg Obj.deviceId) what
  else if s.reg (Reg.hoistPath (s.reg Obj.managerId)) = 0 then s.setNum Num.hoistMissed (s.num Num.hoistMissed ++ [what])
  else s.hoistSend 0x06 (s.reg Obj.managerId) 3 0 (record [(1, 4), (1, s.reg Obj.deviceId), (4, what)])

/-- Tell the manager of the drops that waited for a path (R466). -/
def hoistTell (s : State) : State :=
  let l := s.num Num.hoistMissed
  if s.reg (Reg.hoistPath (s.reg Obj.managerId)) = 0 then s else l.foldl (fun s w => s.hoistMissed w) (s.setNum Num.hoistMissed [])

/-! Paths. -/

/-- A running feed whose source can no longer be reached holds its last frame (R469). -/
def feedHold (s : State) (f : Nat) : State :=
  if s.reg (Obj.feedState f) ≠ 1 ∨ s.reg (Reg.feedHoldDue f) ≠ 0 then s
  else s.setReg (Reg.feedHoldDue f) (s.now + 1000000 * s.reg (Obj.feedHoldMs f))

/-- The path to device `d` is lost. -/
def pathLost (s : State) (d : Nat) : State :=
  let s := (s.setRegs [(Reg.hoistPath d, 0), (Reg.hoistHops d, 0)])
  (List.range 16).foldl (fun s f => if s.reg (Obj.feedSourceDevice f) = d then s.feedHold f else s) s

/-- Device `d` is reached by link `l` over some hops. -/
def pathBy (s : State) (d l hops : Nat) : State :=
  let s := s.setRegs [(Reg.hoistPath d, l + 1), (Reg.hoistHops d, hops)]
  let s := (List.range 16).foldl (fun s f =>
    if s.reg (Obj.feedSourceDevice f) = d ∧ s.reg (Obj.feedState f) = 1 then s.setReg (Reg.feedHoldDue f) 0 else s) s
  if d = s.reg Obj.managerId then s.hoistTell else s

/-- A link is up. -/
def linkUp (s : State) (l : Nat) : Bool := s.reg (Obj.hoistLinkState l) == 3 || s.reg (Obj.hoistLinkState l) == 4

/-- HopsToManager and ManagerId of the peer on a link. -/
def peerHops (s : State) (l : Nat) : Nat := s.reg (Reg.linkHops l) % 256

/-- The standby link to take as parent (R459): the lowest HopsToManager, the lower peer device ID breaking ties. -/
def bestLink (s : State) : Option Nat :=
  (List.range 4).foldl (fun b l =>
    if s.reg (Obj.hoistLinkState l) ≠ 4 ∨ s.peerHops l = 0xFF then b
    else match b with
      | none => some l
      | some m => if 256 * s.peerHops l + s.reg (Obj.hoistPeerDevice l) < 256 * s.peerHops m + s.reg (Obj.hoistPeerDevice m) then some l else b) none

/-- Take link `l` as parent (R459): what other devices of the hoist have no path yet lie behind it. -/
def attach (s : State) (l : Nat) : State :=
  let s := s.setRegs [(Obj.hoistLinkState l, 3), (Obj.parentLink, l), (Obj.hopsToManager, s.peerHops l + 1), (Obj.managerId, s.reg (Reg.linkHops l) / 256),
    (Obj.hoistState, 2)]
  ((List.range 64).filter (fun d => d != s.reg Obj.deviceId && (bit (s.reg Obj.hoistMembers) d || d == s.reg Obj.managerId) && s.reg (Reg.hoistPath d) == 0)).foldl
    (fun s d => s.pathBy d l 0) s

/-- Take link `l` as parent and tell the manager over it that this device is there. -/
def attachTell (s : State) (l : Nat) : State :=
  let s := s.attach l
  s.linkSend l 0x06 (s.reg Obj.managerId) 3 0 (record [(1, 0), (1, s.reg Obj.deviceId), (4, s.reg Obj.hopsToManager)])

/-- Devices reached over link `l`. -/
def behind (s : State) (l : Nat) : List Nat := (List.range 64).filter (fun d => s.reg (Reg.hoistPath d) == l + 1)

/-- Link `l` is the parent no more (R459, R470): the best standby link takes its place, with the devices reached over it, where the manager lies within 6 hops;
else the device is isolated. -/
def parentLost (s : State) (l : Nat) : State :=
  let ds := s.behind l
  match s.bestLink with
  | some m => if s.peerHops m < 6 then (ds.foldl (fun s d => s.pathBy d m 0) (s.setReg Obj.parentLink 0xFF)).attachTell m
    else ds.foldl pathLost (s.setRegs [(Obj.parentLink, 0xFF), (Obj.hoistState, 3)])
  | none => ds.foldl pathLost (s.setRegs [(Obj.parentLink, 0xFF), (Obj.hoistState, 3)])

/-- A link goes down (R459, R470): its paths are lost, or move to a standby link where it was the parent. -/
def linkDown (s : State) (l : Nat) : State :=
  let parent := decide (s.reg Obj.parentLink = l) && decide (2 ≤ s.reg Obj.hoistState) && s.reg Obj.hoistRole != 1
  let s := s.setRegs [(Obj.hoistLinkState l, 0), (Obj.hoistPeerDevice l, 0xFF), (Obj.hoistPeerSerial l, 0), (Reg.linkHops l, 0xFF), (Reg.linkKey l, 0),
    (Reg.linkRetry l, s.now + 10000000000)]
  if !parent then (s.behind l).foldl pathLost s
  else (s.raise [.hal, .owner] U.fj St.hoistLinkDown 0xFF 2 [(1, l)]).parentLost l

/-- A worker in a hoist with a path tells the manager how it stands (R470): kind 2 as it enters hold-up, kind 0 as it returns. -/
def hoistReport (s : State) (kind : Nat) : State :=
  if s.reg Obj.hoistState ≠ 2 ∨ s.reg Obj.hoistRole = 1 then s
  else s.hoistSend 0x06 (s.reg Obj.managerId) 3 0 (record [(1, kind), (1, s.reg Obj.deviceId), (4, if kind = 0 then s.reg Obj.hopsToManager else 0)])

/-- A device that was in a hoist starts again (log 48): the manager with every worker's slot ABSENT, another device isolated until a link comes up. -/
def hoistRestart (s : State) : State :=
  if s.reg Obj.hoistState < 2 then s
  else if s.reg Obj.hoistRole = 1 then
    s.setRegs [(Reg.hoistSlot (s.reg Obj.deviceId), 1), (Obj.membersAlive, 2 ^ s.reg Obj.deviceId), (Obj.timeLocked, 1), (Reg.ptpSince, s.now)]
  else s.setRegs [(Obj.hoistState, 3), (Obj.parentLink, 0xFF), (Obj.hopsToManager, 0), (Reg.mgrHb, s.now)]

/-- One nanosecond passes (log 2). While hoist time is slewed, every `slewEvery`-th counts twice, or not at all on a device that is ahead (R461, R463). -/
def idleTick (s : State) : State :=
  if s.reg Reg.slewLeft = 0 then { s with now := s.now + 1 }
  else if s.reg Reg.slewCount + 1 < s.reg Reg.slewEvery then { s.setReg Reg.slewCount (s.reg Reg.slewCount + 1) with now := s.now + 1 }
  else
    { s.setRegs [(Reg.slewCount, 0), (Reg.slewLeft, s.reg Reg.slewLeft - 1)] with now := if s.reg Reg.slewAhead = 1 then s.now else s.now + 2 }

end State
end Sys2Proof.Machine
end

