-- ==== Sys2Proof/Machine/Directory.lean ====
section
/-!
DEFINITION. Machine/Directory.lean: unit records and unit states (chapter 1): built-in and added units (R9, R10, R17), the directory record (R14),
criticality, the state of a group (R20), a change of a unit's state with everything that follows from it (R19 to R21, R52), //hoist (R24), and the path
query (R12).
-/
namespace Sys2Proof.Machine

/-- Criticality codes. -/
abbrev critLeaf : Nat := 0

namespace State

/-- TimeLocked: always 1 on a lone device. -/
def locked (s : State) : Bool := s.reg Obj.hoistRole == 0 || s.reg Obj.timeLocked == 1

/-- The added unit with handle `h`. -/
def addedUnit (s : State) (h : Nat) : Option AddedUnit := s.addedUnits.find? (fun u => u.handle == h)

/-- Some unit holds the handle (R11). -/
def unitThere (s : State) (h : Nat) : Bool := unitExists h || (s.addedUnit h).isSome

/-- Handles in use, in ascending order. -/
def handles (s : State) : List Nat := List.range handleEnd ++ s.addedUnits.map AddedUnit.handle

/-- TimeLocked is about to change: the scheduled commits whose CommitAt has passed keep what it read then (R50). -/
def lockLatch (s : State) : State :=
  (s.handles.filter (fun h => s.reg (Reg.pendAt h) != 0 && decide (s.reg (Reg.pendAt h) < s.now) && s.reg (Reg.pendLock h) == 0)).foldl
    (fun t h => t.setReg (Reg.pendLock h) (if s.locked then 1 else 2)) s

/-- What TimeLocked read at CommitAt of the scheduled commit of unit `h`, where that has come; else what it reads now. -/
def lockedAt (s : State) (h : Nat) : Bool := if s.reg (Reg.pendLock h) = 0 then s.locked else s.reg (Reg.pendLock h) == 1

/-- Type code of a unit. -/
def typeOf (s : State) (h : Nat) : Nat := match s.addedUnit h with
  | some u => u.typ
  | none => unitType h

/-- Parent handle of a unit; 0xFFFF for a root. -/
def parentOf (s : State) (h : Nat) : Nat := match s.addedUnit h with
  | some u => u.parent
  | none => unitParent h

/-- Boundary kind of a unit. -/
def boundaryOf (s : State) (h : Nat) : Nat := match s.addedUnit h with
  | some u => u.boundary
  | none => boundaryKind h

/-- Identity reference of a unit. -/
def identOf (s : State) (h : Nat) : Nat := match s.addedUnit h with
  | some u => u.ident
  | none => unitIdent h

/-- Path name of a unit, as character codes. -/
def nameOf (s : State) (h : Nat) : List Nat := match s.addedUnit h with
  | some u => u.name.map BitVec.toNat
  | none => unitName h

/-- The unit derives its state from its children (R20, R24): a group, or //hoist. -/
def derivesState (s : State) (h : Nat) : Bool := s.typeOf h == typeGroup || s.typeOf h == 0x0002

/-- Handles of a unit's children. -/
def children (s : State) (p : Nat) : List Nat := s.handles.filter (fun h => s.parentOf h == p)

/-- How severe a criticality code is: ESSENTIAL, ENSIGN, DEGRADE, LEAF (R19). -/
def critRank (c : Nat) : Nat := if c = 2 then 3 else if c = 3 then 2 else c

/-- Criticality of a unit (table Type codes and the text below it): a core or check unit of the Ensign world carries ENSIGN, a
core that serves a unit that unit's criticality, any other core or check unit LEAF; a group the most severe code of its
children; an added unit its record's. The table gives the device root and //hoist no code: they read 0 (log 7). -/
def unitCrit (s : State) (h : Nat) : Nat :=
  match s.addedUnit h with
  | some u => u.crit
  | none =>
    let own := if 0x81 ≤ h ∧ h ≤ 0xA0 then
        let a := coreAssignment (h - 0x81)
        if a = 0 ∨ a = 3 ∨ a = 6 then 3 else if a = 1 ∨ a = 2 then 1
        else if s.reg (Reg.blockHolder h) = 1 then 3 else 0
      else if 0xA2 ≤ h ∧ h ≤ 0xB1 then (if s.reg (Reg.blockHolder h) = 1 then 3 else 0)
      else if h = 0xA1 then (if (List.range 16).any (fun u => s.reg (Reg.blockHolder (0xA2 + u)) == 1) then 3 else 0)
      else match unitRun h with
        | some r => r.crit
        | none => 0
    if unitType h ≠ typeGroup then own
    else (s.addedUnits.filter (fun u => u.parent == h)).foldl (fun c u => if critRank c < critRank u.crit then u.crit else c) own

/-- State of a group from its children (R20): the first rule that matches. -/
def groupState (s : State) (p : Nat) : Nat :=
  let sts := (s.children p).map (fun h => s.reg (Reg.unitState h))
  let here := sts.filter (fun x => x != 0)
  let live := here.filter (fun x => x != 5)
  if here.isEmpty then 0
  else if (s.children p).any (fun h => s.unitCrit h == 2 && s.reg (Reg.unitState h) == 5) || live.isEmpty then 5
  else if sts.any (· == 3) then 3
  else if live.all (· == 4) then 4
  else if sts.any (· == 2) then 2
  else 1

/-- Guest worlds that can read the record of a unit (R13, R21): all of them for the root and for groups, the holder of a
block, and the holders of a group's or haptic group's channels. -/
def recordReaders (s : State) (h : Nat) : List Nat :=
  ((List.range 64).filter (fun w => decide (4 ≤ w) && s.reg (Obj.worldState w) != 0 && s.reg (Obj.worldState w) != 5)).filter (fun w =>
    h == 0 || s.typeOf h == typeGroup || (isBlock h && s.reg (Reg.blockHolder h) == w)
    || (s.children h).any (fun c => isBlock c && s.reg (Reg.blockHolder c) == w))

/-- Write a unit's state and raise DIR_CHANGED for its record (R21); DirEpoch has already advanced. -/
def setRecordState (s : State) (h st : Nat) : State :=
  let old := s.reg (Reg.unitState h)
  (s.setReg (Reg.unitState h) st).raise (.hal :: .owner :: (s.recordReaders h).map Dest.world) h St.dirChanged 0xFF 1
    [(2, h), (1, old), (1, st), (4, s.reg Obj.dirEpoch)]

/-- A unit has become DEAD: its pending commit is dropped and the committing session told (R52). -/
def dropDead (s : State) (h : Nat) : State :=
  if s.reg (Reg.pendEpoch h) = 0 then s
  else
    let ep := s.reg (Reg.pendEpoch h)
    let s := ((s.dropPend h).setRegs [(Reg.pendEpoch h, 0), (Reg.pendAt h, 0)]).jnlDead (s.reg (Reg.pendJnl h))
    let s := s.jnl 0x12 h 0xFF 0xFF false (record [(4, ep), (2, St.unitDead)])
    s.raise [.code (s.reg (Reg.pendDest h))] h St.unitDead 0xFF 2 [(4, ep)]

/-- The unit on the manager that stands for device `d` of its hoist, below //hoist (chapter 1, A hoist as one unit). -/
def hoistSlotUnit (s : State) (d : Nat) : Option Nat :=
  (s.addedUnits.find? (fun u => u.item == 0xFFFF && u.typ == 0x0001 && u.inst == d)).map AddedUnit.handle

/-- What follows at the parents of a unit that has changed state (R19, R20): a dead child raises one UNIT_DEAD event at its
parent; a group takes its derived state; a dead ESSENTIAL child makes its parent DEAD, one level at a time. The device root of a manager has its slot
below //hoist follow it (R24). -/
def propagate (s : State) : Nat → Nat → State
  | 0, _ => s
  | fuel + 1, h =>
    let p := s.parentOf h
    if h = U.fj then
      match s.hoistSlotUnit (s.reg Obj.deviceId) with
      | none => s
      | some q => if s.reg (Reg.unitState q) = s.reg (Reg.unitState h) then s else (s.setRecordState q (s.reg (Reg.unitState h))).propagate fuel q
    else if p = 0xFFFF then s
    else
      let crit := s.unitCrit h
      let s := if s.reg (Reg.unitState h) = 5 then
          s.raise ([.hal, .owner] ++ (if isBlock h ∧ 4 ≤ s.reg (Reg.blockHolder h) then [.world (s.reg (Reg.blockHolder h))] else []))
            p St.unitDead 0xFF (if crit = 1 then 2 else 3) [(2, h), (1, crit), (2, s.identOf h)]
        else s
      let old := s.reg (Reg.unitState p)
      let new := if s.derivesState p then s.groupState p
        else if s.reg (Reg.unitState h) = 5 ∧ crit = 2 then 5 else old
      if new = old then s else (s.setRecordState p new).propagate fuel p

/-- Change the state of a unit (R21): DirEpoch advances once, one DIR_CHANGED is raised for each record that changed, and the
parents follow. A change to the same state changes nothing. -/
def setUnitState (s : State) (h st : Nat) : State :=
  if s.reg (Reg.unitState h) = st then s
  else
    let s := s.bump Obj.dirEpoch 32
    let s := s.setRecordState h st
    let s := if st = 5 then s.dropDead h else s
    s.propagate 5 h

/-- Change the world that holds a block. A check unit or core that enters or leaves the Ensign world changes its CRITICALITY, and
/fj/chk may follow: the records change (R21). -/
def setHolder (s : State) (h w : Nat) : State :=
  let t := s.setReg (Reg.blockHolder h) w
  let ch := [h, 0xA1].filter (fun u => t.unitCrit u != s.unitCrit u)
  if ch.isEmpty then t
  else ch.foldl (fun t u => t.setRecordState u (t.reg (Reg.unitState u))) (t.bump Obj.dirEpoch 32)

/-- First index and index count of a unit (R16). -/
def unitRange (s : State) (h : Nat) : Nat × Nat := match s.addedUnit h with
  | some u => if u.count = 0 then (0, 0) else (u.first, u.count)
  | none => unitIndices h

/-- Revision of the object set of a built-in unit under the firmware in bank `b` of its item (R510): the OBJECT_REV that an update gave (chapter 17, table
Element entry), else 2 for the touch port and 1 for every other type. -/
def bankRev (s : State) (h b : Nat) : Nat :=
  if s.reg (Reg.itemRev h b) ≠ 0 then s.reg (Reg.itemRev h b) else if unitType h = 0x50 then 2 else 1

/-- REVISION of a unit's object set (R510). -/
def unitRev (s : State) (h : Nat) : Nat := match s.addedUnit h with
  | some u => u.rev
  | none => s.bankRev h (s.reg (Reg.itemBank h))

/-- INSTANCE of a unit. -/
def instOf (s : State) (h : Nat) : Nat := match s.addedUnit h with
  | some u => u.inst
  | none => unitInst h

/-- The 32-byte directory record of a unit (R14). -/
def unitRecord (s : State) (h : Nat) : Bytes :=
  padTo 32 (record [(2, s.typeOf h), (1, s.unitRev h), (1, s.instOf h), (2, h), (2, s.parentOf h),
    (2, (s.unitRange h).1), (2, (s.unitRange h).2), (1, (s.children h).length), (1, s.reg (Reg.unitState h)),
    (1, s.boundaryOf h), (1, s.unitCrit h), (2, s.identOf h)])

/-! Added units (R9, R10, R17). -/

/-- The records that change when unit `h` comes or goes: its own, now with state `st`, and its parent's CHILD_COUNT; one change (R21). -/
def recordChange (s : State) (h p st : Nat) : State :=
  let s := (s.bump Obj.dirEpoch 32).setRecordState h st
  if !s.unitThere p then s
  else
    let new := if s.derivesState p then s.groupState p else s.reg (Reg.unitState p)
    let old := s.reg (Reg.unitState p)
    let s := s.setRecordState p new
    if new = old then s else s.propagate 4 p

/-- Add a unit below `p` (R9, R10): it takes the next handle, which lies above its parent's, and the next indices. Where no handle or too few indices are
free the addition is refused with LIMIT_REACHED and a warning that names the parent. -/
def addUnit (s : State) (item p st : Nat) (d : UnitDecl) : State × Option Nat :=
  let h := s.reg Reg.nextHandle
  let i := s.reg Reg.nextIndex
  if s.reg Obj.handleLimit ≤ h ∨ 0xF000 < i + d.count then
    (s.raise [.hal, .owner] p St.limitReached 0xFF 2 [], none)
  else
    let s := { s with addedUnits := s.addedUnits ++ [AddedUnit.mk h item d.typ d.rev d.inst p i d.count d.boundary d.crit d.ident d.name] }
    let s := s.setRegs [(Reg.nextHandle, h + 1), (Reg.nextIndex, i + d.count), (Obj.recordCount, s.reg Obj.recordCount + 1), (Reg.unitState h, 0)]
    (s.recordChange h p st, some h)

/-- Remove an added unit: its handle stays unused until the next cold start (R10). -/
def removeUnit (s : State) (u : AddedUnit) : State :=
  let s := (s.dropDead u.handle).setReg Obj.recordCount (s.reg Obj.recordCount - 1)
  ({ s with addedUnits := s.addedUnits.filter (fun v => v.handle != u.handle) }).recordChange u.handle u.parent 0

/-- The added unit of an item that a declaration describes. -/
def declared (s : State) (item : Nat) (d : UnitDecl) : Option AddedUnit :=
  s.addedUnits.find? (fun u => u.item == item && u.typ == d.typ && u.inst == d.inst && u.name == d.name && u.count == d.count)

/-- Add what an image declares beside the units that stand already; `hs` are the handles of the declarations before. A unit that is ABSENT is there
again. -/
def addDeclared (item : Nat) (s : State) (hs : List (Option Nat)) : List UnitDecl → State
  | [] => s
  | d :: ds =>
    match s.declared item d with
    | some u =>
      let s := if s.reg (Reg.unitState u.handle) = 0 then s.setUnitState u.handle 1 else s
      addDeclared item s (hs ++ [some u.handle]) ds
    | none =>
      match (if d.parent < 0x10000 then (if s.unitThere d.parent then some d.parent else none) else hs.getD (d.parent - 0x10000) none) with
      | none => addDeclared item s (hs ++ [none]) ds
      | some p => match s.addUnit item p 1 d with
        | (s, h) => addDeclared item s (hs ++ [h]) ds

/-- The firmware item or program of unit `item` is now this image (R9, R10): units that only the former image declared are removed, the others
added. -/
def redeclare (s : State) (item : Nat) (image : Bytes) : State :=
  let ds := if image = [] then [] else Config.declaredUnits image
  let gone := s.addedUnits.filter (fun u => u.item == item && !ds.any (fun d => s.declared item d == some u))
  addDeclared item (gone.reverse.foldl removeUnit s) [] ds

/-- The program of unit `item` has been removed: the units it declared are ABSENT (chapter 1, Unit state codes). -/
def programGone (s : State) (item : Nat) : State :=
  (s.addedUnits.filter (fun u => u.item == item)).foldl (fun s u => s.setUnitState u.handle 0) s

/-! A hoist as one unit (R24). -/

/-- Name of a device of a hoist: dev and two digits. -/
def devName (d : Nat) : List Nat := [100, 101, 118] ++ decimal 2 d

/-- On the manager //hoist and its 64 children stand in the directory; on any other device they do not. -/
def hoistUnits (s : State) : State :=
  let there := s.addedUnits.filter (fun u => u.item == 0xFFFF)
  if s.reg Obj.hoistRole ≠ 1 then there.reverse.foldl removeUnit s
  else if !there.isEmpty then s
  else match s.addUnit 0xFFFF 0xFFFF 0 ⟨0x0002, 1, 0, 0xFFFF, 0, 8, critLeaf, 0, [0x68, 0x6F, 0x69, 0x73, 0x74]⟩ with
    | (s, none) => s
    | (s, some h) => (List.range 64).foldl (fun s d =>
        (s.addUnit 0xFFFF h (if d = s.reg Obj.deviceId then s.reg (Reg.unitState U.fj) else s.reg (Reg.hoistSlot d))
          ⟨0x0001, 1, d, h, 0, 0, critLeaf, 1, (devName d).map (BitVec.ofNat 8)⟩).1) s

/-- The slot of device `d` on the manager takes a state; its child of //hoist follows (R24). -/
def hoistSlotTo (s : State) (d st : Nat) : State :=
  let s := s.setReg (Reg.hoistSlot d) st
  match s.hoistSlotUnit d with
  | some h => s.setUnitState h st
  | none => s

/-! The path query (R12). -/

/-- The child of `parent` with this name, if any. -/
def childNamed (s : State) (parent : Nat) (name : List Nat) : Option Nat :=
  s.handles.find? (fun h => s.parentOf h == parent && s.nameOf h == name)

/-- Walk names down from a unit. -/
def walkPath (s : State) : Nat → List (List Nat) → Option Nat
  | h, [] => some h
  | h, n :: ns => match s.childNamed h n with
    | some h' => s.walkPath h' ns
    | none => none

/-- The unit a well-formed path names on this device: /fj and what lies below it; //devNN/fj with the device's own DeviceId, the same (R24: a lone
device is its own hoist of one, with DeviceId 0); on the manager //hoist and //devNN. -/
def pathUnit (s : State) (p : List Nat) : Option Nat := match splitPath p [] with
  | [] :: [] :: dev :: [102, 106] :: ws => if dev = devName (s.reg Obj.deviceId) then s.walkPath U.fj ws else none
  | [] :: [] :: [n] =>
    match s.addedUnits.find? (fun u => u.item == 0xFFFF && u.name.map BitVec.toNat == n) with
    | some u => some u.handle
    | none => if n = devName (s.reg Obj.deviceId) then some U.fj else none
  | [] :: [102, 106] :: ws => s.walkPath U.fj ws
  | _ => none

/-- A block is held by world `w` with normal access (table Hand-over state codes: HELD and RECALLING). -/
def holdsBlock (s : State) (w h : Nat) : Bool :=
  isBlock h && s.reg (Reg.blockHolder h) == w && (s.reg (Reg.blockState h) == 0 || s.reg (Reg.blockState h) == 1)

/-- A unit that is stopped or off in hold-up (table Units in hold-up, R447). -/
def holdupStopped (s : State) (h : Nat) : Bool :=
  let hd := s.reg Obj.holdupHeads
  s.reg Obj.powerState == 4 &&
    (if 0x2F ≤ h ∧ h < 0x37 then !bit hd (h - 0x2F)
     else if 0x38 ≤ h ∧ h < 0x48 then !bit hd ((h - 0x38) / 2)
     else if 0x52 ≤ h ∧ h < 0x5A then s.reg (Reg.blockHolder h) != 0 || !bit hd (s.reg (Obj.portHead (h - 0x52)))
     else if isBlock h ∧ 4 ≤ s.reg (Reg.blockHolder h) then true
     else (decide (0x15 ≤ h) && decide (h < 0x2E)) || (decide (0x49 ≤ h) && decide (h < 0x51)) || (decide (0x5B ≤ h) && decide (h < 0x76))
       || (decide (0x97 ≤ h) && decide (h ≤ 0x9E)) || (decide (0xB9 ≤ h) && decide (h < 0xC2) && h != 0xBD) || (decide (0xC8 ≤ h) && decide (h < 0xD2)))

end State
end Sys2Proof.Machine
end

