-- ==== Sys2Proof/Machine/Access.lean ====
section
/-!
DEFINITION. Machine/Access.lean: what a session may reach and what a value must look like (R25 to R32, R36, R37): sessions, the checks a
request passes, the read of an object, and the write of an object's active or shadow value.
-/
namespace Sys2Proof.Machine

/-! Session classes. -/
namespace Cls
/-- Halyard. -/
abbrev hal : Nat := 0
/-- The Ensign runtime. -/
abbrev ens : Nat := 1
/-- The owner. -/
abbrev own : Nat := 2
/-- A guest. -/
abbrev gst : Nat := 3
/-- A field node. -/
abbrev fld : Nat := 4
/-- A debug session. -/
abbrev dbg : Nat := 5
end Cls

/-- The three rights of an Access column. -/
inductive Right where
  | r | w | c
  deriving DecidableEq, Repr

/-- The classes that hold a right on a row, as a set. -/
def ObjRow.rights (o : ObjRow) : Right → Nat
  | .r => o.r
  | .w => o.w
  | .c => o.c

/-- Size in bytes of a stored value of a fixed-size type. -/
def VKind.size : VKind → Nat
  | .bool => 1
  | .u n => n
  | .s n => n
  | .time => 8
  | .str n => n
  | .oct n => n
  | .octUpTo n => n
  | .domain _ => 0
  | .handle => 2
  | .table => 0

/-- The bytes of a value as they are carried (R28). -/
def VKind.encode (k : VKind) (v : Nat) : Bytes := match k with
  | .domain _ => decDomain v
  | _ => leBytes k.size v

/-- The stored number of bytes written. -/
def VKind.decode (k : VKind) (d : Bytes) : Nat := match k with
  | .domain _ => encDomain d
  | _ => leNat d

/-- Whether a length fits the type (R28). -/
def VKind.fits (k : VKind) (n : Nat) : Bool := match k with
  | .str m => decide (n ≤ m)
  | .octUpTo m => decide (n ≤ m)
  | .domain m => decide (n ≤ m)
  | .table => false
  | _ => n == k.size

/-- The value of the type as an integer, for its range. -/
def VKind.value (k : VKind) (v : Nat) : Int := match k with
  | .s n => toSigned n v
  | _ => (v : Int)

/-- Status of a value for a row (R28): TYPE_MISMATCH for a length that does not fit, VALUE_RANGE for a value outside the range. -/
def ObjRow.valueStatus (o : ObjRow) (d : Bytes) : Nat :=
  if !o.kind.fits d.length then St.typeMismatch
  else if o.kind = .bool ∧ 1 < leNat d then St.valueRange
  else if o.rng.isEmpty then St.ok
  else if o.rng.any (fun p => decide (p.1 ≤ o.kind.value (o.kind.decode d)) && decide (o.kind.value (o.kind.decode d) ≤ p.2)) then St.ok
  else St.valueRange

namespace State

/-- The server answers this session (R34, table Units in hold-up): every open session in SERVICE while Halyard serves; the
internal sessions also while starting, returning and in hold-up; CAN FD also in hold-up. A remote guest is heard over its association only (R132). -/
def serves (s : State) (n : Nat) : Bool :=
  let p := s.reg Obj.powerState
  let t := s.reg (Reg.sessTransport n)
  s.reg (Reg.sessOpen n) == 1 && s.reg Reg.halServing == 1
    && (p == 3 || (t == 0 && (p == 2 || p == 4 || p == 6)) || (t == 1 && p == 4)) && (t != 7 || s.reg (Reg.remoteOn (s.reg (Reg.sessPort n))) == 1)

/-- A request of a session has come: it keeps a plain UDP session open for another 60 s (R29), and it is the next datagram of a remote guest (R133). -/
def heard (s : State) (n : Nat) : State :=
  let i := s.reg (Reg.sessPort n)
  if s.reg (Reg.sessTransport n) = 2 then s.setReg (Reg.sessDeadline n) (s.now + 60000000000)
  else if s.reg (Reg.sessTransport n) = 7 then s.delivered i (s.reg (Reg.remoteRx i) + 1) 0
  else s

/-- The set-up mailbox of an instance carries the requests of session `n` (R130). -/
def mailboxed (s : State) (n : Nat) : Bool := s.reg (Reg.sessTransport n) == 5 || s.reg (Reg.sessTransport n) == 7

/-- The mailbox that would carry a request of session `n` has not answered the last one (R130). -/
def overruns (s : State) (n : Nat) : Bool := s.mailboxed n && s.reg (Reg.mbBusy (s.reg (Reg.sessPort n))) == 1

/-- A request on a busy mailbox is discarded and raises MAILBOX_OVERRUN (R130). -/
def overrun (s : State) (i : Nat) : State := s.raise [.inst i] U.hal St.mailboxOverrun (s.instWorld i) 2 []

/-- The request numbered `seq` of session `n` on object `key` has been carried out: where a mailbox carries it, MB_DONE, MB_STATUS and MB_RESP show the answer, and a
remote guest is sent it as CHAN 0x81 (R130, R132); a request forwarded to another device stays in the mailbox (R464). -/
def posted (s : State) (n op key off tag seq : Nat) : State :=
  if !s.mailboxed n then s
  else
    let i := s.reg (Reg.sessPort n)
    if s.reg (Reg.winWait n) = 1 then
      s.setRegs [(Reg.mbSeq i, seq), (Reg.mbBusy i, 1), (Reg.mbOp i, op), (Reg.mbTag i, tag), (Reg.mbKey i, key), (Reg.mbOff i, off), (Reg.instOpen i, 0)]
    else
      let r := respRecord op (key / 256) (key % 256) off s.answer.status tag s.answer.data
      let s := s.setRegs [(Reg.mbSeq i, seq), (Reg.mbDone i, seq), (Reg.mbStatus i, s.answer.status), (Reg.mbResp i, encDomain r), (Reg.mbBusy i, 0), (Reg.instOpen i, 0)]
      if 32 ≤ i then s.remoteSend i 0x81 r else s

/-- MB_SEQ that the next request of session `n`'s mailbox carries: one above the last (DESIGN CHOICE, log 43). -/
def nextMail (s : State) (n : Nat) : Nat := (s.reg (Reg.mbSeq (s.reg (Reg.sessPort n))) + 1) % 65536

/-- Carry out a request of row `op` on object `key` by a session that is served; nothing answers another. -/
def requested (s : State) (n op key : Nat) (f : State → State) : State :=
  if !s.serves n then s
  else if s.overruns n then (s.heard n).overrun (s.reg (Reg.sessPort n))
  else (f (s.heard n)).posted n op key 0 0 (s.nextMail n)

/-- As `requested`; a pending session may write its debug certificate and nothing else (R30). -/
def request (s : State) (n op key : Nat) (f : State → State) : State :=
  s.requested n op key (fun s => if s.reg (Reg.sessPending n) = 1 then s.reply St.accessDenied else f s)

/-- Class whose rights a session's request has: its own, or OWN for the inner request of a verified envelope (R57). -/
def cls (s : State) (n : Nat) : Nat := if s.reg (Reg.sessAs n) = 1 then Cls.own else s.reg (Reg.sessClass n)

/-- Destination of a session's events (R513). A GST session's instance is the set-up mailbox or association it uses. -/
def sessDest (s : State) (n : Nat) : Nat :=
  if s.reg (Reg.sessClass n) = Cls.gst then s.instCode (s.reg (Reg.sessPort n)) (s.reg (Reg.sessWorld n)) else if s.reg (Reg.sessClass n) = Cls.ens then 1 else 0

/-- An index at which some object lies. -/
def indexKnown (s : State) (idx : Nat) : Bool :=
  objRows.any (fun o => decide (o.base ≤ idx) && decide ((idx - o.base) / o.stride < o.count)
    && decide ((idx - o.base) % o.stride < o.inner)) || (decide (0x0110 ≤ idx) && decide (idx ≤ 0x01CF))
    || s.addedUnits.any (fun u => u.first == idx && u.count != 0)

/-- The index holds unit records (R11). -/
def recordIndex (idx : Nat) : Bool := decide (0x0110 ≤ idx) && decide (idx ≤ 0x01CF)

/-- The added unit whose index range holds `idx` (R17): their indices are 0x8000 to 0xEFFF (chapter 22, table Held identifiers). -/
def addedAt (s : State) (idx : Nat) : Option AddedUnit :=
  if idx < 0x8000 ∨ 0xF000 ≤ idx then none else s.addedUnits.find? (fun u => decide (u.first ≤ idx) && decide (idx < u.first + u.count))

/-- Highest sub-index in use at an index (R25). -/
def subMax (_ : State) (idx : Nat) : Nat :=
  if 0x0110 ≤ idx ∧ idx ≤ 0x01CF then 8
  else (objRows.filter (fun o => o.covers idx o.subLo)).foldl (fun m o => max m o.subHi) 0

/-- Class `c` holds a right on a row. Rights that the legends of the object tables tie to the holder of a block are decided
here: raw CAN FD and USB objects, check units (ENS and GST for the holder only) and pennant cores (OWN writes owner cores only). -/
def classRight (s : State) (c key : Nat) (o : ObjRow) (rt : Right) : Bool :=
  let h := (unitOfKey key).getD 0
  let holder := s.reg (Reg.blockHolder h)
  bit (o.rights rt) c &&
    (if 0x7C00 ≤ key / 256 ∧ key / 256 < 0x7E00 ∧ (key / 256) % 0x80 / 4 = 0x10 ∧ rt = .w then holder != 0
     else if 0x7E00 ≤ key / 256 ∧ key / 256 < 0x7E20 then (c != Cls.own || holder == 0)
     else if 0x7000 ≤ key / 256 ∧ key / 256 < 0x7400 then (c != Cls.ens || holder == 1)
     else if 0x6800 ≤ key / 256 ∧ key / 256 < 0x7000 ∧ o.shadowed then
       (rt == .r || c == Cls.hal || coreAssignment ((key / 256 - 0x6800) / 0x40) == 5)
     else if key / 256 = 0x430 then (c != Cls.dbg || s.reg Obj.lifecycleState == 0)
     else true)

/-- What a GST session of world `w` may address (R31, R13 and the legends of the object tables): the blocks its world holds,
its own world and instances, the layers its world owns, its own key slots; other units by their Access column. -/
def gstReaches (s : State) (w key : Nat) : Bool :=
  let idx := key / 256
  match unitOfKey key with
  | none => true
  | some h =>
    if isBlock h then s.holdsBlock w h
    else if 0x0800 ≤ idx ∧ idx < 0x0840 then idx - 0x0800 == w
    else if 0x0900 ≤ idx ∧ idx < 0x0938 then s.instWorld (idx - 0x0900) == w
    else if 0x0440 ≤ idx ∧ idx < 0x0460 then s.reg (Obj.slotHolder (idx - 0x0440)) == w
    else if 0x3000 ≤ idx ∧ idx < 0x4000 then
      let o := (idx - 0x3000) % 0x200
      if 0x10 ≤ o ∧ o < 0x18 then s.reg (Obj.layerOwnerWorld ((idx - 0x3000) / 0x200) (o - 0x10)) == w
      else o == 0 || (decide (0x60 ≤ o) && decide (o < 0x70)) || o == 0xFF
    else true

/-- Indices of identity references that name nothing (table Identity reference assignments): 0 and 18 to 31. -/
def noIdentity (idx : Nat) : Bool := idx == 0x01D0 || (decide (0x01E2 ≤ idx) && decide (idx ≤ 0x01EF))

/-- Status that the state of a unit gives to an access to its objects (table Unit state codes). -/
def stateStatus (s : State) (h : Nat) : Nat :=
  if s.reg (Reg.unitState h) = 0 then St.unitAbsent else if s.reg (Reg.unitState h) = 5 then St.unitDead else St.ok

/-- Status that the state of the unit at an index gives; the fixed areas belong to none (R508). -/
def unitStatus (s : State) (idx : Nat) : Nat := match unitOfIndex idx with
  | some h => if fixedArea idx then St.ok else s.stateStatus h
  | none => St.ok

/-- Status of a request on the objects of an added unit (R17): the first object of its range, sub-index 1, is its path name as STR(16), which every class but
FLD reads; whatever else an image declares lies outside the model (log 37). -/
def addedStatus (s : State) (n idx sub : Nat) (rt : Right) (u : AddedUnit) : Nat :=
  if s.stateStatus u.handle ≠ St.ok then s.stateStatus u.handle
  else if idx ≠ u.first then St.indexUnknown
  else if 1 < sub then St.subUnknown
  else if s.cls n = Cls.fld ∨ rt ≠ .r then St.accessDenied
  else if s.cls n = Cls.gst ∧ !(s.recordReaders u.handle).contains (s.reg (Reg.sessWorld n)) then St.notOwner
  else St.ok

/-- Status of a request on an object before its value is looked at (R26, R30, R31, unit state codes). A field node reads no
identity record; the others find none at reference 0 and the reserved ones. No class writes a unit record (R14). -/
def gate (s : State) (n key : Nat) (rt : Right) : Nat :=
  if s.reg (Reg.sessPending n) = 1 then St.accessDenied
  else if noIdentity (key / 256) then (if s.cls n = Cls.fld then St.accessDenied else St.identityUnknown)
  else if recordIndex (key / 256) then (if 8 < key % 256 then St.subUnknown else St.accessDenied)
  else if let some u := s.addedAt (key / 256) then s.addedStatus n (key / 256) (key % 256) rt u
  else match objRow key with
    | none => if s.indexKnown (key / 256) then St.subUnknown else St.indexUnknown
    | some o =>
      if s.unitStatus (key / 256) ≠ St.ok then s.unitStatus (key / 256)
      else if !s.classRight (s.cls n) key o rt then St.accessDenied
      else if s.cls n = Cls.gst ∧ !s.gstReaches (s.reg (Reg.sessWorld n)) key then St.notOwner
      else St.ok

/-- Status of a write of these bytes: the gate, then the value (R28). -/
def writeStatus (s : State) (n key : Nat) (d : Bytes) : Nat :=
  let g := s.gate n key .w
  if g ≠ St.ok then g
  else match objRow key with
    | none => St.indexUnknown
    | some o => o.valueStatus d

/-- Raise SHADOW_LOST to the holder of a unit's shadow (R512). -/
def shadowLost (s : State) (h cause : Nat) : State :=
  s.raise [.code (s.reg (Reg.holdDest h))] h St.shadowLost 0xFF 1 [(1, cause)]

/-- End a unit's hold with its shadow reverted and the holder told (R36, R37, R52); nothing without a holder. -/
def loseShadow (s : State) (h cause : Nat) : State :=
  if s.reg (Reg.holder h) = 0 then s
  else ((s.revertShadow h).shadowLost h cause).setReg (Reg.holder h) 0

/-- Take or keep the shadow hold of unit `h` for session `n` (R36). -/
def takeHold (s : State) (n h : Nat) : State :=
  s.setRegs [(Reg.holder h, n), (Reg.holdDest h, s.sessDest n), (Reg.holdDeadline h, s.now + 1000000 * s.reg Obj.shadowHoldMs)]

/-- Write an object's value where it belongs (R27, R32, R36): the session's own copy, the active value, or the shadow under the
hold rules. Sets the answer. -/
def store (s : State) (n key v : Nat) (o : ObjRow) : State :=
  if o.perSession then (s.setReg (skey n key) v).reply St.ok
  else if !o.shadowed then (s.setReg key v).reply St.ok
  else
    let h := (unitOfKey key).getD 0
    let hd := s.reg (Reg.holder h)
    if hd ≠ 0 ∧ hd ≠ n ∧ s.cls n ≠ Cls.hal then s.reply St.shadowHeld
    else
      let s := if hd ≠ 0 ∧ hd ≠ n then s.loseShadow h 1 else s
      ((s.takeHold n h).setShadow key v).reply St.ok

/-- Drop a session's own copies of per-session objects: they read their defaults again (R27). -/
def clearSession (s : State) (n : Nat) : State :=
  { s with regs := s.regs.filter (fun p => !(decide (skey n 0 ≤ p.1) && decide (p.1 < skey (n + 1) 0))) }

/-- Open a session (R29): it takes the next number; its own copies are at their defaults. -/
def openSession (s : State) (transport port cl world : Nat) : State :=
  let n := s.reg Reg.nextSession + 1
  let s := (s.clearSession n).setRegs [(Reg.nextSession, n), (Reg.sessOpen n, 1), (Reg.sessClass n, cl),
    (Reg.sessTransport n, transport), (Reg.sessPort n, port), (Reg.sessWorld n, world), (Reg.sessPending n, 0),
    (Reg.partKey n, 0)]
  { s with kept := Kmap.set [] s.kept n [] }.replyData (leBytes 2 n)

/-- Open sessions on a transport. -/
def openCount (s : State) (transport : Nat) (q : Nat → Bool) : Nat :=
  (List.range (s.reg Reg.nextSession + 1)).countP (fun n => s.reg (Reg.sessOpen n) == 1
    && s.reg (Reg.sessTransport n) == transport && q n)

end State
end Sys2Proof.Machine
end

