-- ==== Sys2Proof/Machine/JournalOps.lean ====
section
/-!
DEFINITION. Machine/JournalOps.lean: work items (R427 to R435), the records of set-up operations, and yields (R139 to R142).
-/
namespace Sys2Proof.Machine

/-- Command classes (chapter 18, table Command classes). -/
abbrev classR : Nat := 0
/-- Dropped with notice. -/
abbrev classD : Nat := 1
/-- Refused. -/
abbrev classX : Nat := 2

namespace State

/-- Raise JNL_PRESSURE at most once per second (R427, R428). -/
def jnlPress (s : State) : State :=
  if s.reg Reg.jnlPressure = 0 ∨ s.reg Reg.jnlPressure - 1 + 1000000000 ≤ s.now then
    (s.setReg Reg.jnlPressure (s.now + 1)).raise [.hal, .owner] U.jnl St.jnlPressure 0xFF 2 []
  else s

/-- Records of the ordinary types accepted so far in the present 100 ms. -/
def jnlUsed (s : State) : Nat := if s.reg Reg.jnlWindow = s.now / 100000000 then s.reg Reg.jnlCount else 0

/-- The writer takes another ordinary record in this 100 ms (R427): 6,400 less the 800 reserved. -/
def jnlRoom (s : State) : Bool := decide (s.jnlUsed < 5600)

/-- Live records hold new work of rank 4 and 5 (R428): from above 81,920 until below 65,536. -/
def jnlHolding (s : State) : Bool := s.reg Reg.jnlHold == 1

/-- A unit may take a work item: the journal accepts its record now (R427, R488), and an item of rank 4 or 5 is not held for live
records (R428). -/
def mayTake (s : State) (rank4 : Bool) : Bool := s.jnlRoom && !s.jnlFull && !(rank4 && s.jnlHolding)

/-- Within 2^32 records of the last, the journal tells so once a day (R488). -/
def jnlNear (s : State) : State :=
  let day := s.now / 86400000000000 + 1
  if !s.up ∨ s.reg Obj.jnlNextSeq < 2 ^ 48 - 2 ^ 32 ∨ s.reg Reg.jnlLimitDay = day then s
  else (s.setReg Reg.jnlLimitDay day).raise [.hal, .owner] U.jnl St.limitReached 0xFF 3 [(1, 0), (4, min 0xFFFFFFFF (2 ^ 48 - 1 - s.reg Obj.jnlNextSeq)), (1, 0xFF)]

/-- A ring holds at a packet whose item may not be taken: JNL_PRESSURE tells that the record waits (R427, R428). `free`: nothing else holds the ring. -/
def jnlWait (s : State) (rank4 free : Bool) : State := if free && !s.mayTake rank4 then s.jnlPress else s

/-- Items of instance `i` taken and not ended. -/
def inFlight (s : State) (i : Nat) : Nat := s.items.countP (fun (t : Item) => t.inst == i)

/-- Keep WorkInFlight (0x0900 + i:0E) equal to the items taken and not ended. -/
def countWork (s : State) (i : Nat) : State := if i < 56 then s.setReg (Obj.instWorkInFlight i) (s.inFlight i) else s

/-- Take a work item: its ITEM_ACCEPT record is journalled and it joins the items in flight. -/
def itemAccept (s : State) (unit world inst ring rptr opcode cls pass : Nat) (extra : List (Nat × Nat)) : State :=
  let seq := s.jnlSeq
  let s := s.jnl 0x01 unit world inst true (record ([(1, ring), (4, rptr), (1, opcode), (1, cls), (4, pass)] ++ extra))
  let t : Item := ⟨seq, unit, world, inst, ring, rptr, opcode, cls, pass, 0, 0, 0⟩
  State.countWork { s with items := s.items ++ [t] } inst

/-- Give the newest item a completion fence. -/
def itemFence (s : State) (seq fence val : Nat) : State :=
  { s with items := s.items.map (fun (x : Item) => if x.seq = seq then { x with fence := fence + 1, fval := val } else x) }

/-- Remove an item from those in flight. -/
def itemRemove (s : State) (t : Item) : State :=
  State.countWork { s with items := s.items.filter (fun (x : Item) => x.seq != t.seq) } t.inst

/-- End an item (R432): ITEM_END is journalled before its completion shows. -/
def itemEnd (s : State) (t : Item) (status : Nat) : State :=
  ((s.jnl 0x02 t.unit t.world t.inst false (record [(6, t.seq), (2, status)])).jnlDead t.seq).itemRemove t

/-- End the item with this SEQ, where one is taken (R432). -/
def itemEndSeq (s : State) (seq status : Nat) : State :=
  match s.items.find? (fun (x : Item) => x.seq == seq) with
  | some x => s.itemEnd x status
  | none => s

/-- Outcome event status: 1 REPLAYED, 2 JNL_DROPPED, 3 JNL_REFUSED (R434). -/
def outcomeStatus (outcome : Nat) : Nat :=
  if outcome = 1 then St.replayed else if outcome = 2 then St.jnlDropped else St.jnlRefused

/-- Destination of an event that concerns one instance, or the world where no instance is named (R514). -/
def itemDest (t : Item) : Dest := if t.inst < 56 then .inst t.inst else .world t.world

/-- Resolve an item: ITEM_OUTCOME and its event (R430, R434). A replayed item stays in flight with one more replay. -/
def itemOutcome (s : State) (t : Item) (outcome cause : Nat) : State :=
  let s := s.jnl 0x03 t.unit t.world t.inst false (record [(6, t.seq), (1, outcome), (1, cause)])
  let s := if outcome = 1 then
      { s with items := s.items.map (fun (x : Item) => if x.seq = t.seq then { x with replays := x.replays + 1 } else x) }
    else (s.jnlDead t.seq).itemRemove t
  s.raise [itemDest t] t.unit (outcomeStatus outcome) t.world (if outcome = 1 then 1 else 2)
    [(6, t.seq), (1, t.ring), (1, cause), (4, t.rptr), (1, t.opcode), (1, t.pass % 256)]

/-- Resolve an item by its class after a fault or return (R430, R435): class R runs again unless it has been replayed twice. -/
def itemResolve (s : State) (t : Item) (cause : Nat) : State :=
  if 2 ≤ t.replays then s.itemOutcome t 2 6
  else if t.cls = classR then s.itemOutcome t 1 cause
  else if t.cls = classD then s.itemOutcome t 2 cause
  else s.itemOutcome t 3 cause

/-- Resolve every item that satisfies `p` as dropped, whatever its class (R431). -/
def itemsDrop (s : State) (p : Item → Bool) (cause : Nat) : State :=
  (s.items.filter p).foldl (fun s t => s.itemOutcome t 2 cause) s

/-- Reduce reservations of one rank and kind in proportion so that they sum to at most `avail`, which is counted in `1/part` of the guarantee's
unit (R140). Each entry is a world and its reserved amount, in rising world order; whole units lost to rounding go back to the largest reduced
reservation, the lowest world among equals, and never lift it above its reserved amount. -/
def proportionOf (l : List (Nat × Nat)) (avail part : Nat) : List (Nat × Nat × Nat) :=
  let total := part * (l.map Prod.snd).foldl (· + ·) 0
  if total ≤ avail then l.map (fun p => (p.1, p.2, p.2))
  else
    let g := l.map (fun p => (p.1, p.2, p.2 * avail / total))
    giveBack l.length (avail / part - (g.map (fun p => p.2.2)).foldl (· + ·) 0) g
where
  /-- The largest reservation that is still reduced, the first among equals. -/
  topReduced (g : List (Nat × Nat × Nat)) : Option (Nat × Nat × Nat) :=
    g.foldl (fun b p => if p.2.1 ≤ p.2.2 then b else match b with
      | none => some p
      | some x => if x.2.1 < p.2.1 then some p else b) none
  /-- Hand whole units back: to the largest reduced reservation, and what it does not need to the next. -/
  giveBack : Nat → Nat → List (Nat × Nat × Nat) → List (Nat × Nat × Nat)
    | 0, _, g => g
    | k + 1, left, g => match topReduced g with
      | none => g
      | some x => giveBack k (left - (x.2.1 - x.2.2)) (g.map (fun p => if p.1 = x.1 then (p.1, p.2.1, min p.2.1 (p.2.2 + left)) else p))

/-- The same with the capacity in whole units. -/
def proportion (l : List (Nat × Nat)) (avail : Nat) : List (Nat × Nat × Nat) := proportionOf l avail 1

/-- What takes the capacity of a yield; each has yields of its own for a world and KIND. -/
inductive YieldBy where
  | plan | fab | cluster | holdup | touch | head (n : Nat)
  deriving DecidableEq, Repr

/-- Number of a yield of a KIND by what takes the capacity. -/
def YieldBy.key (b : YieldBy) (kind : Nat) : Nat := kind + 16 * (match b with
  | .plan => 0
  | .fab => 1
  | .cluster => 2
  | .holdup => 3
  | .touch => 4
  | .head n => 8 + n)

/-- Amounts in force by the open yields of KIND `kind` of world `w`. -/
def yieldAmounts (s : State) (w kind : Nat) : List Nat :=
  ((List.range 16).filter (fun b => s.reg (Reg.yieldAmt w (kind + 16 * b)) != 0)).map (fun b => s.reg (Reg.yieldAmt w (kind + 16 * b)) - 1)

/-- Amount in force of a guarantee whose full amount is `full`: the least that an open yield leaves; of a latency (KIND 3) the greatest. -/
def amountIn (s : State) (w kind full : Nat) : Nat := (s.yieldAmounts w kind).foldl (if kind = 3 then max else min) full

/-- Raise or renew a yield (R141, R142): the event is journalled before delivery and its record stays live while it is open. -/
def yieldOpen (s : State) (unit : Nat) (b : YieldBy) (w kind rank reserved granted ms : Nat) : State :=
  let k := b.key kind
  let s := if s.reg (Reg.yieldAmt w k) ≠ 0 then s.jnlDead (s.reg (Reg.yieldSeq w k)) else s
  let s := s.setRegs [(Reg.yieldSeq w k, s.jnlSeq), (Reg.yieldAmt w k, granted + 1), (Reg.yieldRank w k, rank), (Reg.yieldRes w k, reserved),
    (Reg.yieldEnd w k, if ms = 0xFFFFFFFF then 0xFFFFFFFFFFFFFFFF else s.now + 1000000 * ms)]
  s.raise [.world w] unit St.yielded w 2 [(1, kind), (1, rank), (4, reserved), (4, granted), (4, ms)]

/-- A yield by `b` of kind `kind` is open for world `w`. -/
def yieldIsOpen (s : State) (b : YieldBy) (w kind : Nat) : Bool := s.reg (Reg.yieldAmt w (b.key kind)) != 0

/-- End the yield of number `k` of world `w` (R142): YIELD_END closes an open-ended one and gives the amount in force from then; `full` is the
guarantee's full amount. -/
def yieldEnds (s : State) (unit w k full : Nat) : State :=
  if s.reg (Reg.yieldAmt w k) = 0 then s
  else
    let s := s.jnlDead (s.reg (Reg.yieldSeq w k))
    let e := s.reg (Reg.yieldEnd w k)
    let s := s.setRegs [(Reg.yieldAmt w k, 0), (Reg.yieldEnd w k, 0), (Reg.yieldSeq w k, 0)]
    if e = 0xFFFFFFFFFFFFFFFF then
      s.raise [.world w] unit St.yieldEnd w 1
        [(1, k % 16), (1, s.reg (Reg.yieldRank w k)), (4, s.reg (Reg.yieldRes w k)), (4, s.amountIn w (k % 16) full), (4, 0)]
    else s

/-- End the yield by `b` of kind `kind`. -/
def yieldClose (s : State) (unit : Nat) (b : YieldBy) (w kind full : Nat) : State := s.yieldEnds unit w (b.key kind) full

/-- End every yield of KIND `kind` of world `w` whose duration has passed: its guarantee returns without an event (R142). -/
def yieldsOver (s : State) (w kind : Nat) : State :=
  (List.range 16).foldl (fun s b =>
    let e := s.reg (Reg.yieldEnd w (kind + 16 * b))
    if e = 0xFFFFFFFFFFFFFFFF ∨ s.now < e then s else s.yieldEnds U.plan w (kind + 16 * b) 0) s

/-- Guest worlds that exist: their reservations stand until they are torn down. -/
def guestWorlds (s : State) : List Nat :=
  (List.range 64).filter (fun w => decide (4 ≤ w) && s.reg (Obj.worldState w) != 0 && s.reg (Obj.worldState w) != 5)

/-- Sum of a reservation over the instances of a world. -/
def worldSum (s : State) (k : Nat → Nat) (w : Nat) : Nat := ((s.worldInsts w).map (fun i => s.reg (k i))).foldl (· + ·) 0

/-- Worlds with a reservation and its amount, in rising world order. -/
def worldReserves (s : State) (k : Nat → Nat) : List (Nat × Nat) :=
  (s.guestWorlds.map (fun w => (w, s.worldSum k w))).filter (fun p => p.2 != 0)

/-- Reduce rank-4 reservations of one kind to `avail` and raise a yield for each world that loses (R139 to R141). -/
def yieldProportion (s : State) (unit : Nat) (b : YieldBy) (kind avail ms : Nat) (k : Nat → Nat) : State :=
  (proportion (s.worldReserves k) avail).foldl
    (fun s p => if p.2.2 < p.2.1 then s.yieldOpen unit b p.1 kind 4 p.2.1 p.2.2 ms else s) s

/-- BulkReservedMBps and DeclaredBulkMBps follow the reservations and the channels retraining (R150, R151). -/
def bulkDerive (s : State) : State :=
  let total := ((s.worldReserves Reg.resBandwidth).map Prod.snd).foldl (· + ·) 0
  let bulk := 160000 - s.reg Obj.scanReservedMBps - s.reg Obj.rtReservedMBps
  s.setRegs [(Obj.bulkReservedMBps, total), (Obj.bulkReservableMBps, bulk),
    (Obj.declaredBulkMBps, bulk - 4500 * popCount 16 (s.reg Obj.retrainingMask))]

/-- Yields of bandwidth while DeclaredBulkMBps is below the reservations (R151), for the worlds that satisfy `p`. -/
def bulkYieldOf (s : State) (p : Nat → Bool) : State :=
  let s := s.bulkDerive
  if s.reg Obj.declaredBulkMBps < s.reg Obj.bulkReservedMBps then
    ((proportion (s.worldReserves Reg.resBandwidth) (s.reg Obj.declaredBulkMBps)).filter (fun x => p x.1)).foldl
      (fun s x => if x.2.2 < x.2.1 then s.yieldOpen U.fab .fab x.1 2 4 x.2.1 x.2.2 40 else s) s
  else s

/-- Yields of bandwidth of every world (R151). -/
def bulkYield (s : State) : State := s.bulkYieldOf (fun _ => true)

end State
end Sys2Proof.Machine
end

