-- ==== Sys2Proof/Machine/BlockBase.lean ====
section
/-!
DEFINITION. Machine/BlockBase.lean: what touch ports and haptic channels do when they stop, start or change hands: contact records (R323, R324),
cancels (R322, R325), the start of a touch port (R315), the stop of a haptic effect (R331).
-/
namespace Sys2Proof.Machine

/-! Keys of the lists of numbers of a touch port. -/
namespace Num
/-- Baselines of the nodes of port `p`, row by row (R306, R307). -/
abbrev base (p : Nat) : Nat := 0x3000000000 + p
/-- Self baselines of the drive, then the sense channels of port `p`. -/
abbrev selfBase (p : Nat) : Nat := 0x3000000100 + p
/-- neg_frames of each node of port `p` (R307). -/
abbrev neg (p : Nat) : Nat := 0x3000000200 + p
/-- Frames still to come of the rebaseline of each node of port `p` (R307). -/
abbrev rebLeft (p : Nat) : Nat := 0x3000000300 + p
/-- Sum of raw counts of the rebaseline of each node of port `p`. -/
abbrev rebSum (p : Nat) : Nat := 0x3000000400 + p
/-- 1 for each covered node of port `p` (R316). -/
abbrev covered (p : Nat) : Nat := 0x3000000500 + p
/-- Stored empty reference of port `p` (R318). -/
abbrev ref (p : Nat) : Nat := 0x3000000600 + p
/-- Fine compensation code of each node of port `p` (R306). -/
abbrev fine (p : Nat) : Nat := 0x3000000900 + p
/-- Coarse compensation capacitor of each channel of port `p`, pF (R306). -/
abbrev coarse (p : Nat) : Nat := 0x3000000A00 + p
/-- Clusters the glove watch of port `p` follows: cx, cy and frames held of each (R309). -/
abbrev gloveWatch (p : Nat) : Nat := 0x3000000B00 + p
/-- Last four noise measurements of frequency `f` of port `p`, newest first (R311). -/
abbrev noise (p f : Nat) : Nat := 0x3000000700 + 16 * p + f
/-- Times of the OVERCURRENT events of the last 60 s of channel `c` of haptic group `g` (R339). -/
abbrev overcurrent (g c : Nat) : Nat := 0x3000000800 + 8 * g + c
end Num

namespace State

/-- Clusters a touch port tracks. -/
def tracked (s : State) (p : Nat) : List Contact := Kmap.get [] s.contacts p

/-- Replace the clusters of a port; Contacts and Suppressed follow. -/
def setTracked (s : State) (p : Nat) (l : List Contact) : State :=
  State.setRegs { s with contacts := Kmap.set [] s.contacts p l }
    [(Obj.contacts p, l.countP (fun (c : Contact) => c.kind == 1)),
     (Obj.suppressed p, l.countP (fun (c : Contact) => c.kind == 2 || c.kind == 3))]

/-- World that owns a layer of a head: of layer 7, while a flattening context fills it, that of the context. -/
def layerWorld (s : State) (n l : Nat) : Nat :=
  if l = 7 ∧ s.reg (Obj.flattenOn n) = 1 then s.reg (Obj.flattenWorld n) else s.reg (Obj.layerOwnerWorld n l)

/-- What R322 compares of a layer: enable, owner, format and source size. -/
def layerSig (s : State) (n l : Nat) : List Nat :=
  [s.reg (Obj.layerEnable n l),
   s.layerWorld n l,
   s.reg (Obj.layerFormat n l), s.reg (Obj.layerSrcWidth n l), s.reg (Obj.layerSrcHeight n l)]

/-- Position of a panel coordinate (1/16 pixel) on a layer, 1/16 source pixel (R321). -/
def layerPos (crop cropW dst dstW x : Nat) : Int :=
  16 * (crop : Int) + (((x : Int) - 16 * (dst : Int)) * (cropW : Int)) / (if dstW = 0 then 1 else (dstW : Int))

/-- Position of a contact in the coordinates of its destination, 1/16 pixel. -/
def contactXY (s : State) (c : Contact) : Int × Int :=
  if c.layer < 8 then
    let n := c.head
    let l := c.layer
    (layerPos (s.reg (Obj.layerCropX n l)) (s.reg (Obj.layerCropW n l)) (s.reg (Obj.layerDstX n l)) (s.reg (Obj.layerDstW n l)) c.x,
     layerPos (s.reg (Obj.layerCropY n l)) (s.reg (Obj.layerCropH n l)) (s.reg (Obj.layerDstY n l)) (s.reg (Obj.layerDstH n l)) c.y)
  else if c.layer = 0xFF then ((c.x : Int), (c.y : Int))
  else ((c.x : Int) - 16 * (s.reg (Obj.regionX c.head (c.layer - 0x80)) : Int),
        (c.y : Int) - 16 * (s.reg (Obj.regionY c.head (c.layer - 0x80)) : Int))

/-- A point in 1/16 pixel lies inside a rectangle in pixels. -/
def inBox (x y rx ry rw rh : Nat) : Bool :=
  decide (16 * rx ≤ x) && decide (x < 16 * (rx + rw)) && decide (16 * ry ≤ y) && decide (y < 16 * (ry + rh))

/-- A contact lies outside the layer or region it belongs to (R322). -/
def contactOutside (s : State) (c : Contact) : Bool :=
  let n := c.head
  if c.layer < 8 then
    !inBox c.x c.y (s.reg (Obj.layerDstX n c.layer)) (s.reg (Obj.layerDstY n c.layer)) (s.reg (Obj.layerDstW n c.layer)) (s.reg (Obj.layerDstH n c.layer))
  else if c.layer = 0xFF then false
  else !inBox c.x c.y (s.reg (Obj.regionX n (c.layer - 0x80))) (s.reg (Obj.regionY n (c.layer - 0x80)))
    (s.reg (Obj.regionW n (c.layer - 0x80))) (s.reg (Obj.regionH n (c.layer - 0x80)))

/-- Payload of a CONTACT record (table CONTACT payload); `layer` as sent. -/
def contactPayload (s : State) (p : Nat) (c : Contact) (phase layer : Nat) : List (Nat × Nat) :=
  let (x, y) := s.contactXY c
  [(1, c.num), (1, phase + 4 * b2n c.glove + 8 * (s.reg (Obj.wetGlove p) % 2) + 16 * b2n (s.contactOutside c)), (1, c.head), (1, layer),
   (2, ofSigned 2 (x / 16)), (2, ofSigned 2 (y / 16)), (1, 16 * (x % 16).toNat + (y % 16).toNat), (1, min 255 c.size), (2, c.peak),
   (2, s.reg (Obj.scanFrames p) % 65536)]

/-- The receiver that feeds the video layer of a contact, if any: a contact there leaves as a HID report (R324). -/
def contactRx (s : State) (c : Contact) : Option Nat :=
  if c.layer < 2 ∧ s.reg (Obj.layerMode c.head) = 1 ∧ s.reg (Obj.layerSourceRx c.head c.layer) < 8 then some (s.reg (Obj.layerSourceRx c.head c.layer)) else none

/-- USB device port (by number) that takes the contacts of a receiver's video instance. -/
def rxDigitizer (s : State) (r : Nat) : Nat := s.reg (Obj.instVideoUsbPort (48 + r)) - 0xC8

/-- Send one record of a contact to its destination (R323, R469): a contact on a feed layer leaves for the source device with LAYER 0xFF. -/
def contactSend (p phase : Nat) (s : State) (c : Contact) : State :=
  if c.world = 0xFF ∨ c.kind ≠ 1 then s
  else if (s.contactRx c).isSome then s
  else if c.layer < 8 ∧ s.reg (Reg.feedIn c.head c.layer) ≠ 0 then
    let f := s.reg (Reg.feedIn c.head c.layer) - 1
    let e : Event := ⟨s.now, U.touch p, St.contact, f % 64, 0, 0, padTo 14 (record (s.contactPayload p c phase 0xFF))⟩
    (s.count (377 + 4 * p) 1).hoistSend 0x05 (f / 64) 2 0 (record [(1, f % 64)] ++ eventBytes e)
  else (s.count (377 + 4 * p) 1).raise [.world c.world] (U.touch p) St.contact c.world 0 (s.contactPayload p c phase c.layer)

/-- Logical coordinate of a digitizer report: round(x × 32,767 / (size - 1)), clamped (R324). -/
def hidCoord (x : Int) (size : Nat) : Nat :=
  let d : Int := 16 * ((size : Int) - 1)
  if d ≤ 0 then 0 else (max 0 (min 32767 ((2 * x * 32767 + d) / (2 * d)))).toNat

/-- A HID digitizer report of the contacts of a receiver's layer: count, scan time, and ten contacts (R324). Contacts beyond ten are counted. -/
def hidReport (s : State) (p d : Nat) (cs : List Contact) : State :=
  let one := fun (c : Contact) =>
    let (x, y) := s.contactXY c
    record [(1, c.num), (1, 3), (2, hidCoord x (s.reg (Obj.layerSrcWidth c.head c.layer))), (2, hidCoord y (s.reg (Obj.layerSrcHeight c.head c.layer)))]
  let s := s.emit (.frame (U.usbDev d) (record [(1, min 10 cs.length), (2, s.now / 100000)] ++ (cs.take 10).flatMap one))
  (s.addReg (Obj.contactsDiscarded p) 32 (cs.length - 10)).count (379 + 4 * p) (cs.length - 10)

/-- Reports of one frame: one for each digitizer with a contact down, and one with a zero count after the last has gone (R324). -/
def hidFrame (s : State) (p : Nat) : State :=
  (List.range 8).foldl (fun s d =>
    let cs := (s.tracked p).filter (fun c => c.kind == 1 && c.world != 0xFF &&
      (match s.contactRx c with | some r => s.rxDigitizer r == d | none => false))
    if cs ≠ [] then (s.setReg (Reg.hidZero d) (p + 1)).hidReport p d cs
    else if s.reg (Reg.hidZero d) = p + 1 then (s.setReg (Reg.hidZero d) 0).hidReport p d []
    else s) s

/-- End the routing of the contacts of a port that satisfy `q`: the destination gets phase CANCEL, the contact stays tracked until it lifts (R322). -/
def contactCancel (s : State) (p : Nat) (q : Contact → Bool) : State :=
  let cs := s.tracked p
  let s := (cs.filter q).foldl (contactSend p 3) s
  s.setTracked p (cs.map (fun (c : Contact) => if q c then { c with world := 0xFF } else c))

/-- The cases of R322: the layer is disabled or changed, or the destination world has left RUNNING. -/
def contactCheck (s : State) (p : Nat) : State :=
  let q := fun (c : Contact) => c.kind == 1 && c.world != 0xFF && c.world != 1 &&
    (s.reg (Obj.worldState c.world) != 2 || (decide (c.layer < 8) && s.layerSig c.head c.layer != c.sig))
  if (s.tracked p).any q then s.contactCancel p q else s

/-- Stop a touch port: open contacts end with CANCEL and nothing more is reported. -/
def touchStop (s : State) (p : Nat) : State :=
  let s := ((s.contactCancel p (fun _ => true)).hidFrame p).setTracked p []
  s.setRegs [(Reg.touchRun p, 0), (Obj.scanRateHz p, 0), (Reg.touchWatch p, 0), (Reg.touchSelf p, 0)]

/-- Begin the start of a touch port (R315). -/
def touchStart (s : State) (p : Nat) : State :=
  if s.reg (Reg.unitState (U.touch p)) = 5 then s else (s.touchStop p).setReg (Reg.touchStartAt p) (s.now + 1)

/-- A playing effect is stopped: it brakes and then ends (R331). -/
def hapHalt (s : State) (g c : Nat) : State :=
  if s.reg (Reg.hapBusy g c) = 0 ∨ s.reg (Reg.hapStopAt g c) ≠ 0 then s
  else s.setRegs [(Reg.hapStopAt g c, s.now + 1), (Obj.hapChChannelState g c, 2)]

/-- A group starts (R327): the measurements of its enabled channels are due. -/
def hapGroupStart (s : State) (g : Nat) : State :=
  (List.range 8).foldl (fun s c => s.setRegs [(Reg.hapDue g c, s.reg (Obj.hapChEnable g c)), (Reg.hapOpen g c, 0)]) s

/-- Group and channel of a haptic channel's handle. -/
def hapOf (h : Nat) : Nat × Nat := ((h - 0x5B) / 9, (h - 0x5B) % 9 - 1)

/-- The raw controller of a port has a frame in transmission: the oldest of the queue, unless it is bus-off or only listens (R65, R66). A frame that was in
transmission when RawMode became listen-only ends before the restart. -/
def rawSending (s : State) (p : Nat) : Bool :=
  !(s.fifo (Fifo.rawTx p)).isEmpty && s.reg (Obj.rawState p) != 2 && (s.reg (Obj.rawMode p) == 0 || s.reg (Reg.rawRestart p) == 1)

/-- A block begins to drain (R116 step 4, table Drain and scrub): contacts are cancelled (R325), an effect is stopped, queued CAN frames go back. -/
def blockDrain (s : State) (h : Nat) : State :=
  if unitType h = 0x0050 then s.touchStop (h - 0x52)
  else if unitType h = 0x0059 then s.hapHalt (hapOf h).1 (hapOf h).2
  else if U.can 0 ≤ h ∧ h < U.can 0 + 4 then
    let p := h - U.can 0
    let q := (s.fifo (Fifo.rawTx p)).take (if s.rawSending p then 1 else 0)
    (s.setFifo (Fifo.rawTx p) q).setReg (Obj.rawTxQueued p) q.length
  else s

/-- A block starts for a new holder (R315, R327). -/
def blockStart (s : State) (h : Nat) : State :=
  if unitType h = 0x0050 then s.touchStart (h - 0x52)
  else if unitType h = 0x0059 then s.setRegs [(Reg.hapDue (hapOf h).1 (hapOf h).2, 1), (Reg.hapOpen (hapOf h).1 (hapOf h).2, 0)]
  else s

end State
end Sys2Proof.Machine
end

