-- ==== Sys2Proof/Machine/WorldOps.lean ====
section
/-!
DEFINITION. Machine/WorldOps.lean: what Halyard does with worlds (chapter 4): frames of local DRAM, stage-2 tables and mappings, views,
creation and teardown of a world, hand-over of blocks, and debug access.
-/
namespace Sys2Proof.Machine

/-! Lists of numbers of worlds. -/
namespace Num
/-- What waits to be unmapped from world `w` until its invalidation completes (R110), three numbers each: guest space address, leaves, and 0 for memory, 1 for
pages of a view, 2 for a scan-out pool. -/
abbrev unmapPend (w : Nat) : Nat := 0xB000002200 + w
/-- Numbers of exports that are being revoked: nobody imports them any more, and they end with the invalidations under way (R106, R110). -/
abbrev exportsEnding : Nat := 0xB000002600
end Num

/-- Bytes of a 2 MiB frame. -/
abbrev frameBytes : Nat := 0x200000

/-- A key of a dictionary object. -/
abbrev isObjKey (k : Nat) : Bool := decide (k < 0x10000000000)

/-- A key of register number `t`. -/
abbrev isReg (t k : Nat) : Bool := decide (0x10000000000 * (t + 1) ≤ k) && decide (k < 0x10000000000 * (t + 2))

/-- Stage-2 descriptor of a leaf: DRAM or other kind, with KEYW. -/
def leafDesc (level addr kind keyw : Nat) (r w : Bool) : Nat :=
  (if level = 3 then 3 else 1) + 64 * b2n r + 128 * b2n w + addr + kind * 2 ^ 54 + keyw * 2 ^ 57

/-- Address of the stage-2 descriptor for `gsa` in a table of a level. -/
def descAt (tbl gsa level : Nat) : Nat :=
  tbl + 8 * (if level = 0 then bits gsa 39 13 else bits gsa (39 - 9 * level) 9)

/-- A writable, readable object that is no session's own: a setting. -/
def isSetting (k : Nat) : Bool := match objRow k with
  | some o => (o.w != 0 || o.c != 0) && o.r != 0 && !o.perSession
  | none => false

namespace State

/-- Zero `n` bytes of memory from `a` up (R115): the canonical memory list then lists none of them. -/
def clearMem (s : State) (a n : Nat) : State :=
  { s with mem := s.mem.filter (fun c => !(decide (a ≤ c.1) && decide (c.1 < a + n))) }

/-- Frames of local DRAM that Halyard can hand out: all but the spare-row frame (R155). -/
def frameCount (s : State) : Nat := s.dramSize / frameBytes - 1

/-- A frame is free. -/
def frameFree (s : State) (f : Nat) : Bool := s.reg (Reg.frameOwner f) == 0 && s.reg (Reg.frameRetired f) == 0

/-- Take a free frame for world `w` in a mode, filled with zeros (R115, R155). Which free frame Halyard takes is open: a free
value chooses (log 5). -/
def frameTake (s : State) (w mode : Nat) : Option (Nat × State) :=
  let n := s.frameCount
  let start := s.fresh
  match (List.range n).find? (fun i => s.frameFree ((start + i) % n)) with
  | none => none
  | some i =>
    let f := (start + i) % n
    some (f, (s.tick.setRegs [(Reg.frameOwner f, w + 1), (Reg.frameMode f, mode)]).clearMem (f * frameBytes) frameBytes)

/-- Return a frame to the free pool. -/
def frameDrop (s : State) (f : Nat) : State := s.setReg (Reg.frameOwner f) 0

/-- Return every frame of world `w` to the free pool. -/
def frameDropAll (s : State) (w : Nat) : State :=
  { s with regs := s.regs.filter (fun p => !(isReg (Reg.frameOwner 0 / 0x10000000000 - 1) p.1 && p.2 == w + 1)) }

/-- A page for a stage-2 table of world `w`, from a protected frame (R101). -/
def tablePage (s : State) (w : Nat) : Option (Nat × State) :=
  let p := s.reg (Reg.tblNext w)
  if p ≠ s.reg (Reg.tblEnd w) then some (p, s.setReg (Reg.tblNext w) (p + 0x1000))
  else match s.frameTake w 2 with
    | none => none
    | some (f, s) => some (f * frameBytes, s.setRegs [(Reg.tblNext w, f * frameBytes + 0x1000), (Reg.tblEnd w, f * frameBytes + 0x1F0000)])

/-- The table a descriptor at address `a` leads to, made and entered where there is none. -/
def tableUnder (s : State) (w a : Nat) : Option (Nat × State) :=
  let d := s.readLe a 8
  if bits d 0 2 = 3 then some (bits d 12 36 * 4096, s)
  else if bits d 0 2 ≠ 0 then none
  else match s.tablePage w with
    | none => none
    | some (p, s) => some (p, s.writeBytes a (leBytes 8 (p + 3)))

/-- Enter a descriptor for `gsa` at a leaf level in the stage 2 of world `w`, going down from the table `tbl` at `level`. -/
def mapDown (s : State) (w gsa leaf d : Nat) : Nat → Nat → Nat → Option State
  | 0, _, _ => none
  | fuel + 1, level, tbl =>
    if level = leaf then some (s.writeBytes (descAt tbl gsa level) (leBytes 8 d))
    else match s.tableUnder w (descAt tbl gsa level) with
      | none => none
      | some (t, s) => s.mapDown w gsa leaf d fuel (level + 1) t

/-- Map a leaf at a level (2 for 2 MiB, 3 for 4 KiB). -/
def mapLeaf (s : State) (w gsa leaf d : Nat) : Option State := s.mapDown w gsa leaf d 4 0 (s.reg (Reg.worldRoot w))

/-- The descriptor found for `gsa` at a level of the stage 2 of world `w`: 0 where no table leads there. -/
def descOf (s : State) (w gsa leaf : Nat) : Nat → Nat → Nat → Nat
  | 0, _, _ => 0
  | fuel + 1, level, tbl =>
    let d := s.readLe (descAt tbl gsa level) 8
    if level = leaf then d
    else if bits d 0 2 = 3 then s.descOf w gsa leaf fuel (level + 1) (bits d 12 36 * 4096)
    else if bits d 0 2 = 1 then d else 0

/-- Descriptor of world `w` for `gsa` at a leaf level. -/
def leafOf (s : State) (w gsa leaf : Nat) : Nat := s.descOf w gsa leaf 4 0 (s.reg (Reg.worldRoot w))

/-- The 2 MiB of guest space at `gsa` hold no mapping: no descriptor, or a table of 4 KiB pages none of which is mapped. -/
def slotEmpty (s : State) (w gsa : Nat) : Bool :=
  let d := s.leafOf w gsa 2
  bits d 0 2 == 0 || (bits d 0 2 == 3 && (List.range 512).all (fun k => bits (s.readLe (bits d 12 36 * 4096 + 8 * k) 8) 0 2 == 0))

/-- The 4 KiB of guest space at `gsa` hold no mapping. -/
def pageEmpty (s : State) (w gsa : Nat) : Bool := bits (s.leafOf w gsa 3) 0 2 == 0

/-- The 2 MiB of guest space at `gsa` are one block. -/
def blockAt (s : State) (w gsa : Nat) : Bool := bits (s.leafOf w gsa 2) 0 2 == 1

/-- Map `n` zero-filled 2 MiB blocks from `gsa` up, read and write, hashed DRAM under the world's own key (R115). -/
def mapMemory (s : State) (w gsa : Nat) : Nat → Option State
  | 0 => some s
  | n + 1 => match s.frameTake w 0 with
    | none => none
    | some (f, s) => match s.mapLeaf w gsa 2 (leafDesc 2 (f * frameBytes) 0 w true true) with
      | none => none
      | some s => s.mapMemory w (gsa + frameBytes) n

/-- Unmap the blocks among `n` of 2 MiB and return their frames. -/
def unmapMemory (s : State) (w gsa : Nat) : Nat → State
  | 0 => s
  | n + 1 =>
    if !s.blockAt w gsa then s.unmapMemory w (gsa + frameBytes) n
    else
      let f := bits (s.leafOf w gsa 2) 12 36 * 4096 / frameBytes
      match s.mapLeaf w gsa 2 0 with
      | none => s
      | some s => (s.frameDrop f).unmapMemory w (gsa + frameBytes) n

/-- Map `n` pages of a view (R106): read only, KEYW the exporting world. -/
def mapView (s : State) (w gsa from' addr : Nat) : Nat → Option State
  | 0 => some s
  | n + 1 => match s.s2 from' addr false with
    | .error _ => none
    | .ok l =>
      match s.mapLeaf w gsa 3 (leafDesc 3 (l.addr / 4096 * 4096) l.kind from' true false) with
      | none => none
      | some s => s.mapView w (gsa + 4096) from' (addr + 4096) n

/-- Remove the pages of a view. -/
def unmapPages (s : State) (w gsa : Nat) : Nat → State
  | 0 => s
  | n + 1 => match s.mapLeaf w gsa 3 0 with
    | none => s
    | some s => s.unmapPages w (gsa + 4096) n

/-- Begin the invalidation of world `w` (R110). -/
def invalidate (s : State) (w : Nat) : State := s.setReg (Reg.invalPending w) 1

/-- Take `n` leaves from `gsa` up out of the stage 2 of world `w`: the change binds the world when its invalidation completes (R110). -/
def unmapLater (s : State) (w gsa n kind : Nat) : State :=
  State.invalidate (s.setNum (Num.unmapPend w) (s.num (Num.unmapPend w) ++ [gsa, n, kind])) w

/-- Memory among the `n` blocks of 2 MiB at `gsa` is being released. -/
def releasing (s : State) (w gsa n : Nat) : Bool :=
  let rec go : List Nat → Bool
    | g :: k :: kind :: l => (kind == 0 && decide (g < gsa + n * frameBytes) && decide (gsa < g + k * frameBytes)) || go l
    | _ => false
  go (s.num (Num.unmapPend w))

/-- Carry out what waited for the invalidation of world `w`: frames return, and memory released counts no more as mapped. -/
def unmapNow (s : State) (w : Nat) : List Nat → State
  | g :: n :: kind :: l =>
    let k := (List.range n).countP (fun j => s.blockAt w (g + j * frameBytes))
    let s := if kind = 1 then s.unmapPages w g n else s.unmapMemory w g n
    (if kind = 0 then s.setReg (Reg.memPages w) (s.reg (Reg.memPages w) - k) else s).unmapNow w l
  | _ => s

/-- Remove every view that satisfies `p` and invalidate the worlds that held one (R106, R100 step 2). -/
def dropViews (s : State) (p : View → Bool) : State :=
  let vs := s.views.filter p
  let s := vs.foldl (fun s (v : View) => s.unmapLater v.world v.addr v.pages 1) s
  { s with views := s.views.filter (fun v => !p v) }

/-- Export with this number that is not being revoked. -/
def exportOf (s : State) (num : Nat) : Option Export := s.exports.find? (fun e => e.num == num && !(s.num Num.exportsEnding).contains num)

/-- Begin to revoke exports (R106): their views go out of the stage 2 of the worlds that hold them. Answers these worlds. -/
def revoke (s : State) (nums : List Nat) : State × List Nat :=
  let vs := s.views.filter (fun v => nums.contains v.num)
  (vs.foldl (fun s (v : View) => s.unmapLater v.world v.addr v.pages 1) (s.setNum Num.exportsEnding (s.num Num.exportsEnding ++ nums)), (vs.map View.world).dedup)

/-- The exports are revoked: they and their views are gone. -/
def revoked (s : State) (nums : List Nat) : State :=
  { s with exports := s.exports.filter (fun e => !nums.contains e.num), views := s.views.filter (fun v => !nums.contains v.num) }.setNum Num.exportsEnding
    ((s.num Num.exportsEnding).filter (fun k => !nums.contains k))

/-- Take back one entry of what waits for the invalidation of world `w`. -/
def unmapCancel (s : State) (w gsa n kind : Nat) : State :=
  let rec go : List Nat → List Nat
    | g :: k :: j :: l => if g = gsa ∧ k = n ∧ j = kind then l else g :: k :: j :: go l
    | l => l
  s.setNum (Num.unmapPend w) (go (s.num (Num.unmapPend w)))

/-- A revocation is undone (R433): the views stay mapped. -/
def revokeUndo (s : State) (nums : List Nat) : State :=
  ((s.views.filter (fun v => nums.contains v.num)).foldl (fun s (v : View) => s.unmapCancel v.world v.addr v.pages 1) s).setNum Num.exportsEnding
    ((s.num Num.exportsEnding).filter (fun k => !nums.contains k))

/-- Give world `w` a stage-2 root in a protected frame, and the rest of the frame for its tables (R101, R104). -/
def rootSet (s : State) (w f : Nat) : State :=
  s.setRegs [(Reg.worldRoot w, f * frameBytes), (Reg.tblNext w, f * frameBytes + 0x10000), (Reg.tblEnd w, f * frameBytes + 0x1F0000)]

/-- A stage-2 root for a world that has none. -/
def needRoot (s : State) (w : Nat) : State :=
  if s.reg (Reg.tblEnd w) ≠ 0 then s
  else match s.frameTake w 2 with
    | none => s
    | some (f, s) => s.rootSet w f

/-- Fill the key of world `w` from the true random number generator (R113). -/
def memKeyFill (s : State) (w : Nat) : State := s.tick.setRegs [(Reg.memKey w, s.fresh % 2 ^ 512), (Obj.keyState w, 1)]

/-- Erase the key of world `w`; of a world that is neither QUIESCED nor in TEARDOWN it is refused (R114). The lines of the L2 texture
cache tagged with its KEYW go first (R196). -/
def memKeyErase (s : State) (w : Nat) : State × Nat :=
  if s.reg (Obj.worldState w) = 4 ∨ s.reg (Obj.worldState w) = 5 then
    ({ s.setRegs [(Reg.memKey w, 0), (Obj.keyState w, 2)] with lines := s.lines.filter (fun (l : CacheLine) => l.cache != 24 || l.keyw != w) }, St.ok)
  else (s, St.quiesceRequired)

/-- Map the Ensign SRAM into world 1's stage 2, guest space addresses equal to fabric physical ones (R107; DESIGN CHOICE, log 43). -/
def ensignMap (s : State) : State :=
  (List.range 3).foldl (fun s k =>
    let a := 0x1004000000 + k * frameBytes
    (s.mapLeaf 1 a 2 (leafDesc 2 a 3 1 true true)).getD s) s

/-- Build a guest world of a kind with the lowest FREE ID (R99, R113): its key is generated, its root allocated. -/
def createWorld (s : State) (kind : Nat) : Option (Nat × State) :=
  match (List.range 64).find? (fun w => decide (4 ≤ w) && s.reg (Obj.worldState w) == 0) with
  | none => none
  | some w => match s.frameTake w 2 with
    | none => none
    | some (f, s) =>
      some (w, ((s.memKeyFill w).setRegs [(Obj.worldState w, 1), (Obj.worldKind w, kind), (Obj.worldsFree, s.reg Obj.worldsFree - 1)]).rootSet w f)

/-! Hand-over (R116 to R121). -/

/-- Destination of the events a block raises (R116, R120): its holder while HELD or RECALLING and while the route's WorldGen is the
holder's, else Halyard. -/
def blockDest (s : State) (h : Nat) : Dest :=
  let w := s.reg (Reg.blockHolder h)
  if (s.reg (Reg.blockState h) = 0 ∨ s.reg (Reg.blockState h) = 1) ∧ s.reg (Reg.worldRoute h) = s.reg (Obj.worldGen w) then .world w
  else .hal

/-- Change a block's hand-over state and journal it (R121); the record is live unless the state is HELD or FREE. -/
def setBlockState (s : State) (h st : Nat) : State :=
  let s := s.jnlDead (s.reg (Reg.blockJnl h))
  let s := s.setRegs [(Reg.blockJnl h, s.jnlSeq), (Reg.blockState h, st)]
  s.jnl 0x31 h (s.reg (Reg.blockHolder h)) 0xFF (st ≠ 0 ∧ st ≠ 6)
    (record [(2, h), (1, st), (1, s.reg (Reg.blockHolder h)), (1, s.reg (Reg.blockTo h))])

/-- A unit's object of the dictionary. -/
def objOf (h k : Nat) : Bool := isObjKey k && unitOfKey k == some h

/-- Return every object of a unit to its Default in all banks (R116 step 6) and end its pending commit and shadow hold. -/
def defaultsOf (s : State) (h : Nat) : State :=
  let s := { s with regs := s.regs.filter (fun p => !objOf h p.1) }
  ((s.revertShadow h).dropPend h).setRegs [(Reg.holder h, 0), (Reg.pendEpoch h, 0), (Reg.pendAt h, 0)]

/-- Keep Halyard's own committed settings of a block before another world holds it. -/
def keepSettings (s : State) (h : Nat) : State :=
  { s with halSettings := (s.regs.filter (fun p => objOf h p.1 && isSetting p.1)).foldl (fun m p => Kmap.put m p.1 p.2) s.halSettings }

/-- Restore Halyard's own committed settings of a block (R116 step 8, R60). -/
def restoreSettings (s : State) (h : Nat) : State :=
  { s with regs := (s.halSettings.filter (fun p => objOf h p.1)).foldl (fun m p => Kmap.put m p.1 p.2) s.regs,
           halSettings := s.halSettings.filter (fun p => !objOf h p.1) }

/-- Blocks a world holds. -/
def heldBlocks (s : State) (w : Nat) : List Nat :=
  (List.range handleEnd).filter (fun h => isBlock h && s.reg (Reg.blockHolder h) == w && s.reg (Reg.blockState h) != 6)

/-- Put a block under way out of a holder's hands (R116 step 2): DRAINING, the unit QUIESCING, the drain limited to 10 ms. The HPD of a
DP receiver is driven low from here (table Drain and scrub). -/
def startDrain (s : State) (h : Nat) : State :=
  let s := ((s.setBlockState h 2).setReg (Reg.blockDue h) (s.now + 10000000)).blockDrain h
  let s := if unitType h = 0x0042 then (s.setReg (Reg.hpdLowSince (h - 0x49)) (s.now + 1)).emit (.pin h 0 0) else s
  s.setUnitState h 3

/-- Accept a recall of block `h` for a session (R116 step 1). -/
def startRecall (s : State) (h n grace : Nat) : State :=
  let a := s.reg (Reg.blockHolder h)
  let s := s.setRegs [(Reg.blockFrom h, a), (Reg.blockReq h, n), (Reg.blockReqDest h, s.sessDest n),
    (Reg.blockDue h, s.now + 1000000 * grace)]
  (s.setBlockState h 1).raise [.world a] h St.recallNotice a 1 [(2, h), (2, grace)]

/-- HELD by world `w` (R116 steps 9 and 10): the block starts from Defaults, its events are routed under the world's present WorldGen and the world is told. -/
def holdBlock (s : State) (h w : Nat) : State :=
  let s := (((s.keepSettings h).defaultsOf h).setHolder h w).setRegs [(Reg.blockTo h, 0), (Reg.worldRoute h, s.reg (Obj.worldGen w)),
    (Obj.blocksHeld w, s.reg (Obj.blocksHeld w) + 1)]
  let s := ((s.setBlockState h 0).setUnitState h 1).blockStart h
  s.raise [.world w, .code (s.reg (Reg.blockReqDest h))] h St.granted w 1 [(2, h), (2, s.reg (Obj.worldGen w))]

/-- Abandon a grant whose world has left RUNNING (R119). -/
def abandonGrant (s : State) (h : Nat) : State :=
  let w := s.reg (Reg.blockTo h) - 1
  let n := s.reg (Reg.blockReq h)
  let s := (s.setRegs [(Reg.blockTo h, 0), (skey n Obj.hoStatus, St.worldNotRunning)]).setBlockState h 6
  s.raise [.code (s.reg (Reg.blockReqDest h))] h St.worldNotRunning 0xFF 2 [(2, h), (1, w)]

/-- Abandon every grant under way to world `w`. -/
def abandonGrants (s : State) (w : Nat) : State :=
  ((List.range handleEnd).filter (fun h => isBlock h && s.reg (Reg.blockTo h) == w + 1)).foldl abandonGrant s

/-- Refusal of a hand-over request (R118); OK when it may go on. -/
def grantStatus (s : State) (h w : Nat) : Nat :=
  if !isBlock h then St.handoverNotBlock
  else if s.reg (Reg.unitState h) = 5 then St.unitDead
  else if w = 0 ∨ w = 3 ∨ 64 ≤ w then St.valueRange
  else if s.reg (Reg.blockState h) = 0 then St.handoverNotFree
  else if s.reg (Reg.blockState h) ≠ 6 ∨ s.reg (Reg.blockTo h) ≠ 0 then St.busy
  else if s.reg (Obj.worldState w) ≠ 2 then St.worldNotRunning
  else St.ok

/-- Refusal of a recall (R118). `halyard` marks a recall made by Halyard itself while it loads an Ensign content package. -/
def recallStatus (s : State) (h : Nat) (halyard : Bool) : Nat :=
  if !isBlock h then St.handoverNotBlock
  else if s.reg (Reg.unitState h) = 5 then St.unitDead
  else if s.reg (Reg.blockState h) = 6 ∧ s.reg (Reg.blockTo h) = 0 then St.ok
  else if s.reg (Reg.blockState h) ≠ 0 then St.busy
  else if s.reg (Reg.blockHolder h) = 1 ∧ !halyard then St.handoverEnsign
  else St.ok

/-- A DP receiver's HPD has been low for the 100 ms its grant waits for (R116 step 9). -/
def hpdWaited (s : State) (h : Nat) : Bool :=
  unitType h != 0x0042 || s.reg (Reg.hpdLowSince (h - 0x49)) == 0
    || decide (s.reg (Reg.hpdLowSince (h - 0x49)) - 1 + 100000000 ≤ s.now)

/-- Accept a grant of block `h` to world `w` for a session: HELD at once, or, for a DP receiver, when its HPD has been low for 100 ms. -/
def startGrant (s : State) (h w n : Nat) : State :=
  let s := s.setRegs [(Reg.blockTo h, w + 1), (Reg.blockReq h, n), (Reg.blockReqDest h, s.sessDest n)]
  if s.hpdWaited h then (s.setBlockState h 7).holdBlock h w else s

/-! Debug access (R122, R123). -/

/-- Keep DebugActive equal to whether any world is open. -/
def debugDerive (s : State) : State := s.setReg Obj.debugActive (b2n (s.reg Obj.debugWorlds != 0))

/-- Open world `w` to debug session `n` (R123). -/
def debugOpen (s : State) (n w : Nat) : State :=
  if bit (s.reg (Reg.sessDbg n)) w then s
  else
    let s := s.setRegs [(Reg.sessDbg n, setBit (s.reg (Reg.sessDbg n)) w), (Obj.debugMark w, 1),
      (Obj.debugWorlds, setBit (s.reg Obj.debugWorlds) w), (Reg.dbgCount w, s.reg (Reg.dbgCount w) + 1)]
    s.debugDerive.raise [.world w, .hal] U.hal St.debugOpen w 2 [(1, w)]

/-- Close world `w` to debug session `n`. -/
def debugClose (s : State) (n w : Nat) : State :=
  if !bit (s.reg (Reg.sessDbg n)) w then s
  else
    let c := s.reg (Reg.dbgCount w) - 1
    let s := s.setRegs [(Reg.sessDbg n, clearBit (s.reg (Reg.sessDbg n)) w), (Reg.dbgCount w, c)]
    let s := if c = 0 then s.setReg Obj.debugWorlds (clearBit (s.reg Obj.debugWorlds) w) else s
    s.debugDerive.raise [.world w, .hal] U.hal St.debugClosed w 1 [(1, w)]

/-- Close world `w` to every debug session. -/
def debugCloseWorld (s : State) (w : Nat) : State :=
  (List.range (s.reg Reg.nextSession + 2)).foldl (fun s n => s.debugClose n w) s

/-- Close every world open to session `n`. -/
def debugCloseAll (s : State) (n : Nat) : State := (List.range 64).foldl (fun s w => s.debugClose n w) s

end State
end Sys2Proof.Machine
end

