-- ==== Sys2Proof/Machine/FabricOps.lean ====
section
/-!
DEFINITION. Machine/FabricOps.lean: arbitration at fabric nodes and channel ports (R144 to R149), the channel scheduler (R152 to R154, R159),
row disturbance (R162, R163), spare rows and retired pages (R167 to R170), and translation fault events (R112).
-/
namespace Sys2Proof.Machine

/-! Keys of the lists of numbers. -/
namespace Num
/-- Times of the corrected errors of a row in the last 24 h (R167); `r` is 2^21 times the channel, plus 2^17 times the bank, plus the row. -/
abbrev rowErr (r : Nat) : Nat := 0x1000000000 + r
/-- Times of the link errors of a channel in the last second (R165). -/
abbrev linkErr (c : Nat) : Nat := 0x2000000000 + c
/-- Lines of check words that the 64 KiB check cache holds, by address (R158). -/
abbrev checkCache : Nat := 0x2000000100
/-- Remap entries of channel `c` (R169): the failing row of each spare in use, 2^17 times its bank plus the row. -/
abbrev remap (c : Nat) : Nat := 0xB200001000 + c
/-- Pages of 4 KiB retired since manufacture (R170). -/
abbrev retired : Nat := 0xB200001010
end Num

/-- Contenders in the order in which a round-robin pointer meets them; the first of the best is chosen by `better`. -/
def rrBest (ptr n : Nat) (cands : List Nat) (score : Nat → Nat) : Option Nat :=
  cands.foldl (fun b r => match b with
    | none => some r
    | some x => if score x < score r ∨ (score x = score r ∧ (r + n - ptr) % n < (x + n - ptr) % n) then some r else b) none

namespace State

/-- Service class of a fabric requester. -/
def classOf (s : State) (r : Nat) : Nat := s.reg (Obj.reqClass r)

/-- Level of a requester at an arbiter (R144): BASE plus its losses up to PromoCap; an SC-ENS request stands above every level, and
at a node one that has waited WaitLimit rounds next (R146). -/
def arbScore (s : State) (a r : Nat) (node : Bool) : Nat :=
  let c := s.classOf r
  if c = 0 then 1000
  else if node && decide (s.reg Obj.waitLimit ≤ s.reg (Reg.arbWait a r)) then 500
  else (if c = 1 then 8 else if c = 2 then 4 else 0) + min (s.reg (Reg.arbLosses a r)) (s.reg Obj.promoCap)

/-- A class is masked at a channel port (R147): its quota of the window is used and a request of a lower class waits. -/
def portMasked (s : State) (c r : Nat) (cands : List Nat) : Bool :=
  let k := s.classOf r
  decide (k < 3) && decide (s.reg (Obj.quotaGrants k) ≤ s.reg (Reg.portUsed c k)) && cands.any (fun x => decide (k < s.classOf x))

/-- Record a win and the losses of a round (R145, R146). -/
def arbSettle (s : State) (a win : Nat) (node : Bool) (cands : List Nat) : State :=
  let forced := node && s.classOf win != 0 && decide (s.reg Obj.waitLimit ≤ s.reg (Reg.arbWait a win))
  let s := (cands.filter (· != win)).foldl
    (fun s r => s.setRegs [(Reg.arbLosses a r, s.reg (Reg.arbLosses a r) + 1), (Reg.arbWait a r, s.reg (Reg.arbWait a r) + b2n node)]) s
  let s := s.setRegs [(Reg.arbLosses a win, 0), (Reg.arbWait a win, 0), (Reg.arbPtr a, (win + 1) % 48)]
  let s := s.bump (Obj.reqGrants win) 32
  if forced then s.bump (Obj.reqForcedWins win) 32 else s

/-- One round at a fabric node: the winner and the state after it. The Ensign event path issues at most one request in 16 rounds (R146): until then it stands
aside where others contend. -/
def nodeRound (s : State) (a : Nat) (cands : List Nat) : State × Nat :=
  let others := cands.filter (· != 8)
  let early := s.reg (Reg.ensGap a) ≠ 0 ∧ others ≠ []
  let cands := if early then others else cands
  let s := s.setReg (Reg.ensGap a) (if cands.contains 8 then 15 else s.reg (Reg.ensGap a) - 1)
  match rrBest (s.reg (Reg.arbPtr a)) 48 cands (fun r => s.arbScore a r true) with
  | none => (s, 48)
  | some w => (s.arbSettle a w true cands, w)

/-- One round at the port of channel `c`: masked classes stand aside, and the grant counts in the window of 64 (R147). -/
def portRound (s : State) (c : Nat) (cands : List Nat) : State × Nat :=
  let a := 0x100 + c
  let open' := cands.filter (fun r => !s.portMasked c r cands)
  match rrBest (s.reg (Reg.arbPtr a)) 48 open' (fun r => s.arbScore a r false) with
  | none => (s, 48)
  | some w =>
    let k := s.classOf w
    let s := s.arbSettle a w false cands
    let s := s.setRegs [(Reg.portGrants c, s.reg (Reg.portGrants c) + 1), (Reg.portUsed c k, s.reg (Reg.portUsed c k) + 1)]
    if s.reg (Reg.portGrants c) < 64 then (s, w)
    else (s.setRegs [(Reg.portGrants c, 0), (Reg.portUsed c 0, 0), (Reg.portUsed c 1, 0), (Reg.portUsed c 2, 0), (Reg.portUsed c 3, 0)], w)

/-- Contend until requester `r` wins: one round for each list of other contenders, then alone. -/
def contend (round : State → List Nat → State × Nat) (r : Nat) : List (List Nat) → State → State
  | [], s => (round s [r]).1
  | cs :: rest, s =>
    let (s', w) := round s (r :: cs.filter (· != r))
    if w = r then s' else contend round r rest s'

/-- Channel of a local DRAM address (R156, R157). -/
def channelOf (s : State) (a : Nat) : Nat :=
  if s.reg (Reg.frameMode (a / frameBytes)) = 1 then bits a 8 4
  else bits a 8 4 ^^^ (Config.hashHC (s.reg Reg.hashKey) (a / 4096) % 16)

/-- Bank of a local DRAM address by the mapping. -/
def mappedBank (s : State) (a : Nat) : Nat :=
  if s.reg (Reg.frameMode (a / frameBytes)) = 1 then bits a 12 4
  else bits a 12 4 ^^^ (Config.hashHB (s.reg Reg.hashKey) (a / 65536) % 16)

/-- Row of a local DRAM address by the mapping. -/
def mappedRow (a : Nat) : Nat := bits a 19 17

/-- Bank and row that serve a local DRAM address: those of its spare where the row is remapped (R169). The spares of a channel are the top four rows of each
bank; which of them a remap takes is open, and the model takes them in order, bank by bank (log 44). -/
def placeOf (s : State) (a : Nat) : Nat × Nat :=
  match (s.num (Num.remap (s.channelOf a))).findIdx? (· == 0x20000 * s.mappedBank a + mappedRow a) with
  | none => (s.mappedBank a, mappedRow a)
  | some k => (k / 4, s.dramSize / 0x80000 - 1 - k % 4)

/-- Bank that serves a local DRAM address. -/
def bankOf (s : State) (a : Nat) : Nat := (s.placeOf a).1

/-- Row that serves a local DRAM address. -/
def rowOf (s : State) (a : Nat) : Nat := (s.placeOf a).2


/-- Bandwidth reservation in force of a world, MB/s: its reservations, or the least amount that an open yield leaves. -/
def bandwidthOf (s : State) (w : Nat) : Nat :=
  s.amountIn w 2 (s.worldSum Reg.resBandwidth w)

/-- Bytes of world `w` already covered in the present 10 µs window. -/
def creditNow (s : State) (w k : Nat) : Nat := if s.reg (Reg.creditWin w) = s.now / 10000 then s.reg k else 0

/-- RES (R159): the world holds a reservation and both its credits cover the request. -/
def resOf (s : State) (w c len : Nat) : Bool :=
  let b := s.bandwidthOf w
  b != 0 && decide (s.creditNow w (Reg.creditUsed w) + len ≤ 10 * b)
    && decide (8 * (s.creditNow w (Reg.creditCh w c) + len) ≤ 10 * b)

/-- Spend credit of a request. -/
def creditSpend (s : State) (w c len : Nat) : State :=
  let s := if s.reg (Reg.creditWin w) = s.now / 10000 then s
    else (List.range 16).foldl (fun s x => s.setReg (Reg.creditCh w x) 0) (s.setRegs [(Reg.creditWin w, s.now / 10000), (Reg.creditUsed w, 0)])
  s.setRegs [(Reg.creditUsed w, s.reg (Reg.creditUsed w) + len), (Reg.creditCh w c, s.reg (Reg.creditCh w c) + len)]

/-- The regulator marks a request of channel `c` (R159): its RES, and the credit it takes. -/
def resMark (s : State) (c : Nat) (q : MemReq) : State × Bool :=
  if q.cls = 3 ∧ s.resOf q.world c q.len then (s.creditSpend q.world c q.len, true) else (s, false)

/-- The throttle of a world and requester in a bank. -/
def throttleOf (s : State) (c bank w r : Nat) : Option Throttle :=
  s.throttles.find? (fun t => t.ch == c && t.bank == bank && t.world == w && t.req == r)

/-- Keep the Throttled flag of a requester (0x1040 + r:05). -/
def throttledFlag (s : State) (r : Nat) : State := s.setReg (Obj.reqThrottled r) (b2n (s.throttles.any (fun t => t.req == r)))

/-- Raise MEM_ROW_THROTTLE. -/
def throttleEvent (s : State) (c bank w r st sev : Nat) : State :=
  s.raise [.world w, .hal, .owner] (U.dram c) st w sev [(1, c), (1, bank), (1, r), (1, w)]

/-- Attribute one refresh-management action and throttle the pair after ThrottleAfter of them in 32 ms (R163). -/
def rfmAction (s : State) (c bank w r : Nat) : State :=
  let s := (s.bump (Obj.dramRfmCount c) 32).count (8 + 10 * c + 5) 1
  let acts : List RfmAct := ⟨c, w, r, s.now⟩ :: s.rfmActs.filter (fun a => decide (s.now < a.time + 32000000))
  let s := { s with rfmActs := acts }
  match s.throttleOf c bank w r with
  | some t => { s with throttles := s.throttles.map (fun x => if x = t then { x with further := x.further + 1 } else x) }
  | none =>
    if s.reg Obj.throttleAfter ≤ acts.countP (fun a => a.ch == c && a.world == w && a.req == r) then
      let t : Throttle := ⟨c, bank, w, r, s.now + 1000000 * s.reg Obj.throttleMs, 0, s.now, s.now⟩
      (State.throttledFlag { s with throttles := s.throttles ++ [t] } r).throttleEvent c bank w r St.memRowThrottle 2
    else s

/-- Add one activation of a world and requester to a list of contributions. -/
def contribute (w r : Nat) : List (Nat × Nat × Nat) → List (Nat × Nat × Nat)
  | [] => [(w, r, 1)]
  | (w', r', n) :: l => if w' = w ∧ r' = r then (w, r, n + 1) :: l else (w', r', n) :: contribute w r l

/-- The largest contribution. -/
def topContributor (l : List (Nat × Nat × Nat)) : Nat × Nat :=
  let b := l.foldl (fun b p => if b.2.2 < p.2.2 then p else b) (0, 0, 0)
  (b.1, b.2.1)

/-- Count one activation of a row (R162). When the tracker has no room, the entry that gives way is open: a free value names it. -/
def activate (s : State) (c bank row w r : Nat) : State :=
  let b := 16 * c + bank
  let l := if s.reg (Reg.trackWin b) = s.now / 32000000 then Kmap.get [] s.tracks b else []
  let s := s.setReg (Reg.trackWin b) (s.now / 32000000)
  let old := l.find? (fun (t : Track) => t.row == row)
  let t : Track := match old with
    | some t => ⟨row, t.count + 1, contribute w r t.by'⟩
    | none => ⟨row, 1, [(w, r, 1)]⟩
  let rest := l.filter (fun (x : Track) => x.row != row)
  let (s, rest) := if old = none ∧ 32 ≤ rest.length then (s.tick, rest.eraseIdx (s.fresh % 32)) else (s, rest)
  if t.count < s.reg Obj.rfmThreshold then { s with tracks := Kmap.set [] s.tracks b (t :: rest) }
  else
    let (w', r') := topContributor t.by'
    State.rfmAction { s with tracks := Kmap.set [] s.tracks b (⟨row, 0, []⟩ :: rest) } c bank w' r'

/-- A request in a channel's queue with the mark RES that it carries (R159). -/
structure Marked where
  q : MemReq
  res : Bool
  deriving DecidableEq

/-- Requests come to a channel's queue and are marked, in order. -/
def markAll (c : Nat) : State → List MemReq → State × List Marked
  | s, [] => (s, [])
  | s, q :: l =>
    let m := s.resMark c q
    let x := markAll c m.1 l
    (x.1, ⟨q, m.2⟩ :: x.2)

/-- A request hits the open row of its bank. -/
def rowHit (s : State) (c a : Nat) : Bool := s.reg (Reg.rowOpen (16 * c + s.bankOf a)) == s.rowOf a + 1

/-- A request can be served: a throttled pair waits ThrottleGapNs between activations of the bank (R163). -/
def bankReady (s : State) (c : Nat) (q : MemReq) : Bool :=
  s.rowHit c q.addr || (match s.throttleOf c (s.bankOf q.addr) q.world q.req with
    | some t => decide (t.last + s.reg Obj.throttleGapNs ≤ s.now)
    | none => true)

/-- The 10 ms interval of world `w` in which bytes were counted has passed (R161): more than ConcentrationPct of them on one channel at more than
ConcentrationMinMBps is told, at most once a second, and the next interval counts from 0. -/
def concClose (s : State) (w : Nat) : State :=
  if s.now / 10000000 ≤ s.reg (Reg.concWin w) then s
  else
    let total := ((List.range 16).map (fun c => s.reg (Reg.concBytes w c))).foldl (· + ·) 0
    let (ch, top) := (List.range 16).foldl (fun (b : Nat × Nat) c => if b.2 < s.reg (Reg.concBytes w c) then (c, s.reg (Reg.concBytes w c)) else b) (0, 0)
    let told := s.reg Obj.concentrationPct * total < 100 * top ∧ s.reg Obj.concentrationMinMBps * 10000 < total
        ∧ (s.reg (Reg.concLast w) = 0 ∨ s.reg (Reg.concLast w) - 1 + 1000000000 ≤ s.now)
    let s := (List.range 16).foldl (fun s c => s.setReg (Reg.concBytes w c) 0) (s.setReg (Reg.concWin w) (s.now / 10000000))
    if told then (s.setReg (Reg.concLast w) (s.now + 1)).raise [.world w, .hal] U.fab St.memConcentrated w 1 [(1, ch), (1, 100 * top / total)] else s

/-- Serve one request of channel `c`: row state, predictor, activation, and the bytes counted for R161; counters (R473). -/
def serveReq (s : State) (c : Nat) (q : MemReq) : State :=
  let bank := s.bankOf q.addr
  let b := 16 * c + bank
  let row := s.rowOf q.addr
  let k := q.cls
  let hit := s.rowHit c q.addr
  let p := s.reg (Reg.rowPred b)
  let p := if s.reg (Reg.rowPriv b) = 0 then p else if s.reg (Reg.rowPriv b) = row + 1 then min 3 (p + 1) else p - 1
  let priv := decide (k < 2) && s.reg (Obj.dramPredictorOn c) == 1
  let delayed := !hit && (match s.throttleOf c bank q.world q.req with
    | some t => decide (q.arrival < t.last + s.reg Obj.throttleGapNs)
    | none => false)
  let aged := decide (q.arrival + 1000 * s.reg (Obj.ageLimitUs k) ≤ s.now)
  let s := ((s.count (8 + 10 * c + (if hit then 3 else 2)) 1).count (8 + 10 * c + 4) (b2n aged)).count (8 + 10 * c + 6) (b2n delayed)
  let s := if hit then s
    else
      let s := { s with throttles := s.throttles.map (fun (t : Throttle) =>
        if t.ch = c ∧ t.bank = bank ∧ t.world = q.world ∧ t.req = q.req then { t with last := s.now } else t) }
      s.activate c bank row q.world q.req
  let s := s.setRegs [(Reg.rowPred b, p), (Reg.rowPriv b, if k < 2 then row + 1 else 0),
    (Reg.rowOpen b, if priv && decide (p < 2) then 0 else row + 1), (Reg.rowHitAt b, s.now),
    (Reg.hitStreak c k, if hit then s.reg (Reg.hitStreak c k) + 1 else 0)]
  if k = 3 then
    let s := (s.setReg (Reg.bulkTurn c) q.world).concClose q.world
    s.addReg (Reg.concBytes q.world c) 64 q.len
  else s

/-- The oldest of some requests. -/
def oldest (l : List Marked) : Option Marked :=
  l.foldl (fun b m => match b with
    | none => some m
    | some x => if m.q.arrival < x.q.arrival then some m else b) none

/-- SC-BULK candidates (R152, R159): RES = 1 before RES = 0, then the next world in turn. -/
def bulkCands (s : State) (c : Nat) (l : List Marked) : List Marked :=
  let r := l.filter Marked.res
  let l := if r.isEmpty then l else r
  match rrBest (s.reg (Reg.bulkTurn c) + 1) 64 (l.map (fun m => m.q.world)) (fun _ => 0) with
  | some w => l.filter (fun m => m.q.world == w)
  | none => l

/-- The request of a class that the controller chooses, if the class has one ready. -/
def pickClass (s : State) (c : Nat) (queue : List Marked) (k : Nat) : Option Marked :=
  let cand := queue.filter (fun m => m.q.cls == k && s.bankReady c m.q)
  let cand := if k = 3 then s.bulkCands c cand else cand
  let hits := cand.filter (fun m => s.rowHit c m.q.addr)
  if hits.isEmpty ∨ 16 ≤ s.reg (Reg.hitStreak c k) then oldest cand else oldest hits

/-- One scheduling decision of a channel controller (R152). -/
def pickReq (s : State) (c : Nat) (queue : List Marked) : Option Marked :=
  match oldest (queue.filter (fun m => decide (m.q.arrival + 1000 * s.reg (Obj.ageLimitUs m.q.cls) ≤ s.now))) with
  | some q => some q
  | none => (s.pickClass c queue 0).or ((s.pickClass c queue 1).or ((s.pickClass c queue 2).or (s.pickClass c queue 3)))

/-- Serve a channel's queue until request `own` has been served: the state, and whether it was. A request of a throttled pair may have to wait (R163). -/
def serveUntil (s : State) (c : Nat) (own : MemReq) : Nat → List Marked → State × Bool
  | 0, _ => (s, false)
  | fuel + 1, queue => match s.pickReq c queue with
    | none => (s, false)
    | some m => if m.q = own then (s.serveReq c own, true) else (s.serveReq c m.q).serveUntil c own fuel (queue.erase m)

/-- Address of the line of check words of a protected data line (R158). -/
def checkLine (a : Nat) : Nat := a / frameBytes * frameBytes + 0x1F0000 + a % frameBytes / 64 * 2 / 64 * 64

/-- The check words of a line of a protected frame are needed (R158): a miss of the check cache of 1,024 lines reads one line of the frame's top 64 KiB. Which
line gives way is open: a free value names it (log 5). -/
def checkFetch (s : State) (q : MemReq) : State :=
  let x := checkLine q.addr
  let l := s.num Num.checkCache
  if s.reg (Reg.frameMode (q.addr / frameBytes)) ≠ 2 ∨ l.contains x then s
  else
    let s' := if l.length < 1024 then s.setNum Num.checkCache (x :: l) else s.tick.setNum Num.checkCache (x :: l.eraseIdx (s.fresh % 1024))
    s'.serveReq (s'.channelOf x) { q with addr := x, len := 64 }

/-! Errors and spares. -/

/-- LIMIT_REACHED of a spare (R489): a warning at its warning level, a fault when none is left. -/
def spareEvent (s : State) (unit code left warn elem : Nat) : State :=
  if left = 0 then s.raise [.hal, .owner] unit St.limitReached 0xFF 3 [(1, code), (4, 0), (1, elem)]
  else if left = warn then s.raise [.hal, .owner] unit St.limitReached 0xFF 2 [(1, code), (4, left), (1, elem)]
  else s

/-- Spare rows left in the channel with fewest. -/
def sparesLeft (s : State) : Nat := (List.range 16).foldl (fun m c => min m (64 - s.reg (Obj.dramRemapUsed c))) 64

/-- Pages of 4 KiB that a row of a hashed or protected frame holds (R170): one in each of the eight 64 KiB blocks of its 512 KiB region. -/
def rowPages (s : State) (bank row : Nat) : List Nat :=
  (List.range 8).map (fun j => (8 * row + j) * 16 + (bank ^^^ (Config.hashHB (s.reg Reg.hashKey) (8 * row + j) % 16)))

/-- Copy what memory lists from one place to another. -/
def copyMem (s : State) (from' to' n : Nat) : State :=
  (s.mem.filter (fun c => decide (from' ≤ c.1) && decide (c.1 < from' + n))).foldl (fun s c => s.setByte (c.1 - from' + to') c.2) s

/-- An address in frame `f` as it lies in frame `g`. -/
def moved (f g a : Nat) : Nat := if a / frameBytes = f then a - f * frameBytes + g * frameBytes else a

/-- Halyard moves the stage-2 tables of frame `f` to a fresh frame (R109, R170): their contents, every descriptor that leads to them, the root; the
invalidation of their world follows. Without a free frame they stay. -/
def tablesMove (s : State) (f : Nat) : State :=
  let w := s.reg (Reg.frameOwner f) - 1
  if s.reg (Reg.frameOwner f) = 0 then s
  else match s.frameTake w 2 with
    | none => s
    | some (g, s) =>
      let s := s.copyMem (f * frameBytes) (g * frameBytes) frameBytes
      let words := ((s.mem.map Prod.fst).filter (fun a => s.reg (Reg.frameOwner (a / frameBytes)) == w + 1 && s.reg (Reg.frameMode (a / frameBytes)) == 2)).map (· / 8)
      let s := words.dedup.foldl (fun s x =>
        let d := s.readLe (8 * x) 8
        let a := bits d 12 36 * 4096
        if bits d 0 2 = 3 ∧ a / frameBytes = f then s.writeBytes (8 * x) (leBytes 8 (d - a + moved f g a)) else s) s
      let s := s.setRegs [(Reg.worldRoot w, moved f g (s.reg (Reg.worldRoot w))), (Reg.tblNext w, moved f g (s.reg (Reg.tblNext w))),
        (Reg.tblEnd w, moved f g (s.reg (Reg.tblEnd w)))]
      ((s.frameDrop f).clearMem (f * frameBytes) frameBytes).invalidate w

/-- Retire the eight pages of a row (R170) while the retirement list has room (R490), and move what lies there. A frame with a retired page is given out no
more (log 44). -/
def retireRow (s : State) (bank row : Nat) : State :=
  let left := s.reg Obj.retireRowsLeft
  let f := row / 4
  if left = 0 then s
  else
    let s := s.setRegs [(Obj.retireRowsLeft, left - 1), (Obj.retiredPages, (s.reg Obj.retiredPages + 8) % 65536), (Reg.frameRetired f, 1)]
    let s := (s.setNum Num.retired (s.num Num.retired ++ s.rowPages bank row)).tablesMove f
    let s := s.raise [.hal, .owner] U.mem St.memPageRetired 0xFF 1 []
    s.spareEvent U.mem 2 (left - 1) 256 0xFF

/-- A failing row takes a spare (R169), or is retired when its channel has none (R170). `a` is an address that it serves. -/
def failRow (s : State) (a : Nat) : State :=
  let c := s.channelOf a
  let l := s.num (Num.remap c)
  if l.length < 64 then
    let s := (s.setNum (Num.remap c) (l ++ [0x20000 * s.mappedBank a + mappedRow a])).setReg (Obj.dramRemapUsed c) (l.length + 1)
    let s := s.setReg Obj.remapRowsLeft s.sparesLeft
    let s := s.raise [.hal] (U.dram c) St.memRowRemapped 0xFF 1 []
    s.spareEvent (U.dram c) 1 (63 - l.length) 8 c
  else
    let s := if s.reg (Reg.sparesOut c) = 1 then s
      else (s.setReg (Reg.sparesOut c) 1).raise [.hal] (U.dram c) St.memSparesOut 0xFF 2 []
    s.retireRow (s.mappedBank a) (mappedRow a)

/-- Post-package repair at a cold start (R169): the rows that the die repairs give their spares back; which these are is open: free values say (log 5). -/
def rowsRepair (s : State) : State :=
  let s := (List.range 16).foldl (fun s c =>
    let v := s.fresh
    let l := ((s.num (Num.remap c)).zipIdx.filter (fun p => !v.testBit p.2)).map Prod.fst
    if s.num (Num.remap c) = [] then s else (s.tick.setNum (Num.remap c) l).setReg (Obj.dramRemapUsed c) l.length) s
  s.setReg Obj.remapRowsLeft s.sparesLeft

/-- Count one corrected error of a row (R167); at 8 in 24 h the row is remapped. -/
def correctedError (s : State) (a : Nat) : State :=
  let c := s.channelOf a
  let k := Num.rowErr (0x200000 * c + 0x20000 * s.bankOf a + s.rowOf a)
  let s := (s.bump (Obj.dramCorrectedErrors c) 32).count (8 + 10 * c + 7) 1
  let l := s.now :: (s.num k).filter (fun t => decide (s.now < t + 86400000000000))
  if l.length < 8 then s.setNum k l else (s.setNum k []).failRow a

/-- A read whose link check failed twice (R166). -/
def linkError (s : State) (c : Nat) : State :=
  let s := s.setNum (Num.linkErr c) (s.now :: (s.num (Num.linkErr c)).filter (fun t => decide (s.now < t + 1000000000)))
  (s.bump (Obj.dramLinkErrors c) 32).raise [.hal] (U.dram c) St.memLinkError 0xFF 2 []

/-! Faults. -/

/-- Number of an instance within its world's kind (R112). -/
def instNumber (i : Nat) : Nat := if i < 32 then i else if i < 48 then i - 32 else if i < 56 then i - 48 else 0xFF

/-- Raise the event of a translation fault (R112): to the world's event queue, a stage-2 fault to Halyard too; at most FaultEventLimit in each
millisecond, the next event carrying the count of those not reported. -/
def faultEvent (s : State) (w inst field unit cls : Nat) (acc : Acc) (e : XFault) : State :=
  let s := s.bump (Obj.faultCount w) 32
  let ms := s.now / 1000000
  let n := if s.reg (Reg.faultWindow w) = ms then s.reg (Reg.faultEvents w) else 0
  if s.reg Obj.faultEventLimit ≤ n then
    (s.bump (Obj.faultsCoalesced w) 32).setRegs [(Reg.faultWindow w, ms), (Reg.faultEvents w, n),
      (Reg.faultCoalesced w, min 65535 (s.reg (Reg.faultCoalesced w) + 1))]
  else
    let co := s.reg (Reg.faultCoalesced w)
    let s := s.setRegs [(Reg.faultWindow w, ms), (Reg.faultEvents w, n + 1), (Reg.faultCoalesced w, 0)]
    s.raise ((if inst < 56 then Dest.inst inst else .world w) :: (if e.stage = 2 then [.hal] else [])) unit e.status w
      (if e.stage = 2 then 3 else 2)
      [(7, e.addr), (1, 64 * e.stage + 16 * e.level + 8 * b2n e.walk + acc.code), (2, field), (1, instNumber inst), (1, cls), (2, co)]

/-- Report a fault of any kind: a translation fault as R112 gives, a refusal of the fabric to Halyard (R143, R155). -/
def accessFault (s : State) (w inst field unit cls : Nat) (acc : Acc) (e : XFault) : State :=
  if e.stage ≠ 0 then s.faultEvent w inst field unit cls acc e
  else if e.status = St.memNoDram then s
  else s.raise [.hal] unit e.status w 3 []

/-- A unit writes into the pool of layer `l` of head `n` as requester `r`; a write that faults changes nothing and is reported (R111, R112). -/
def poolWrite (s : State) (unit r n l off : Nat) (bs : Bytes) : State :=
  let w := s.reg (Reg.poolWorld n l) - 1
  match s.gwrite w 0 (s.reg (Obj.layerPoolGsa n l) + off) bs with
  | .ok s' => s'
  | .error e => s.accessFault w 0xFF 0 unit (s.classOf r) .write e

end State
end Sys2Proof.Machine
end

