-- ==== Sys2Proof/Machine/HeadOps.lean ====
section
/-!
DEFINITION. Machine/HeadOps.lean: heads, transmitter ports and receivers (chapter 10): timing arithmetic, the checks of a timing, link or lock
commit, the states of heads and ports, and the derived objects. A check takes the values a commit would make active as a
function from object keys, and answers the commit reason and the key of the first object at fault.
-/
namespace Sys2Proof.Machine

/-- Result of a commit check: nothing at fault, or the reason and the key of the first object at fault (R38, R237). -/
abbrev Check := Option (Nat × Nat)

/-- A check that fails when its condition holds. -/
def failIf (c : Bool) (reason key : Nat) : Check := if c then some (reason, key) else none

/-- The first failure of several checks. -/
def firstOf : List Check → Check
  | [] => none
  | some f :: _ => some f
  | none :: cs => firstOf cs

/-- The first failure of a check over a list. -/
def firstIn {α : Type} (l : List α) (f : α → Check) : Check := firstOf (l.map f)

namespace Head

/-- HTotal (chapter 10, Timing and line arithmetic). -/
def hTotal (v : Nat → Nat) (n : Nat) : Nat := v (Obj.hActive n) + v (Obj.hFrontPorch n) + v (Obj.hSync n) + v (Obj.hBackPorch n)

/-- VTotal. -/
def vTotal (v : Nat → Nat) (n : Nat) : Nat := v (Obj.vActive n) + v (Obj.vFrontPorch n) + v (Obj.vSync n) + v (Obj.vBackPorch n)

/-- Pixels of a frame with its blanking. -/
def framePixels (v : Nat → Nat) (n : Nat) : Nat := hTotal v n * vTotal v n

/-- FrameRate in mHz, rounded down. -/
def rateMhz (v : Nat → Nat) (n : Nat) : Nat := v (Obj.pixelClockKhz n) * 1000000 / framePixels v n

/-- LineTime in ps, rounded down. -/
def lineTimePs (v : Nat → Nat) (n : Nat) : Nat := hTotal v n * 1000000000 / v (Obj.pixelClockKhz n)

/-- Frame period in ps, rounded down. -/
def periodPs (v : Nat → Nat) (n : Nat) : Nat := framePixels v n * 1000000000 / v (Obj.pixelClockKhz n)

/-- Split mode. -/
def split (v : Nat → Nat) (n : Nat) : Bool := v (Obj.portMode n) == 1

/-- CommitLeadLines (R258): the greater of 4 and 40,000 ns in lines, rounded up. A line takes HTotal × 1,000,000 / PixelClockKhz ns. -/
def leadLines (v : Nat → Nat) (n : Nat) : Nat :=
  let h := hTotal v n
  if h = 0 then 4 else max 4 ((v (Obj.pixelClockKhz n) + 25 * h - 1) / (25 * h))

/-- Transmitter ports in use (table Port modes). -/
def portsOf (v : Nat → Nat) (n : Nat) : List Nat :=
  if v (Obj.portMode n) = 0 then [2 * n] else if v (Obj.portMode n) = 3 then [] else [2 * n, 2 * n + 1]

/-- Active width of each port. -/
def portWidth (v : Nat → Nat) (n : Nat) : Nat := if split v n then v (Obj.hActive n) / 2 else v (Obj.hActive n)

/-- Timing objects of a head: the objects whose commit is a timing commit (R253). -/
def timingKeys (n : Nat) : List Nat :=
  [Obj.portMode n, Obj.pixelClockKhz n, Obj.hActive n, Obj.hFrontPorch n, Obj.hSync n, Obj.hBackPorch n, Obj.vActive n,
   Obj.vFrontPorch n, Obj.vSync n, Obj.vBackPorch n, Obj.syncPolarity n, Obj.panelDepth n, Obj.commitLineOffset n, Obj.splitSameRate n]

/-- DSC of a port is outside 16 × PanelDepth to 48 × PanelDepth - 1 (R256). -/
def dscBad (v : Nat → Nat) (n p : Nat) : Bool :=
  let d := v (Obj.dscBpp16 p)
  d != 0 && !(decide (16 * v (Obj.panelDepth n) ≤ d) && decide (d < 48 * v (Obj.panelDepth n)))

/-- The checks of R253, TIMING_INVALID. -/
def checkTiming (v : Nat → Nat) (n : Nat) : Check :=
  let m := if split v n then 8 else 4
  let bad := St.timingInvalid
  let hb := hTotal v n - v (Obj.hActive n)
  let pb := if split v n then hb / 2 else hb
  let px := framePixels v n
  let clk := v (Obj.pixelClockKhz n)
  firstOf [
    firstIn [Obj.hActive n, Obj.hFrontPorch n, Obj.hSync n, Obj.hBackPorch n] (fun k => failIf (v k % m != 0) bad k),
    failIf (decide (v (Obj.hSync n) < 8)) bad (Obj.hSync n),
    failIf (decide (pb < 64)) bad (Obj.hFrontPorch n),
    failIf (decide (portWidth v n < 640) || decide (4096 < portWidth v n)) bad (Obj.hActive n),
    failIf (decide (v (Obj.vActive n) < 480) || decide (4096 < v (Obj.vActive n))) bad (Obj.vActive n),
    failIf (v (Obj.vSync n) == 0) bad (Obj.vSync n),
    failIf (v (Obj.vBackPorch n) == 0) bad (Obj.vBackPorch n),
    failIf (decide (vTotal v n - v (Obj.vActive n) < leadLines v n + 2)) bad (Obj.vFrontPorch n),
    failIf (decide (clk * 10000 < 235 * px) || decide (1205 * px < clk * 10000)) bad (Obj.pixelClockKhz n),
    firstIn (portsOf v n) (fun p => failIf (v (Obj.dscBpp16 p) != 0 && v (Obj.vActive n) % 8 != 0) bad (Obj.vActive n)),
    firstIn (portsOf v n) (fun p => failIf (dscBad v n p) bad (Obj.dscBpp16 p))]

/-- Sum of PixelClockKhz over all heads whose PortMode is not off (R254). -/
def deviceKhz (v : Nat → Nat) : Nat :=
  (List.range 8).foldl (fun a n => if v (Obj.portMode n) = 3 then a else a + v (Obj.pixelClockKhz n)) 0

/-- The checks of R254. -/
def checkRates (v : Nat → Nat) (n : Nat) : Check :=
  firstOf [failIf (decide (1200000 < v (Obj.pixelClockKhz n))) St.pixelRateHead (Obj.pixelClockKhz n),
    failIf (v (Obj.portMode n) != 3 && decide (5000000 < deviceKhz v)) St.pixelRateDevice (Obj.pixelClockKhz n)]

/-- Taps of a scaler per output pixel at a scaler quality (R224). -/
def scalerTaps (q : Nat) : Nat := if q = 0 then 14 else if q = 1 then 7 else 4

/-- A layer is a video layer: layers 0 and 1 in Mode V (R218). -/
def videoLayer (v : Nat → Nat) (n l : Nat) : Bool := v (Obj.layerMode n) == 1 && decide (l < 2)

/-- BUN steps/s of a video layer's scaler, times 14 and times the frame's pixels (R255): compared without rounding. -/
def scalerDemand (v : Nat → Nat) (n l q : Nat) : Nat :=
  v (Obj.layerDstW n l) * v (Obj.layerDstH n l) * (v (Obj.pixelClockKhz n) * 1000) * scalerTaps q

/-- The check of R255, HEAD_BUN_DEMAND. -/
def checkBun (v : Nat → Nat) (n q : Nat) : Check :=
  firstOf [failIf (decide (1000000000 < v (Obj.pixelClockKhz n) * 1000 / 2)) St.headBunDemand (Obj.pixelClockKhz n),
    firstIn [0, 1] (fun l => failIf (videoLayer v n l && v (Obj.layerEnable n l) == 1
      && decide (1000000000 * 14 * framePixels v n < scalerDemand v n l q)) St.headBunDemand (Obj.layerDstW n l))]

/-- A link setting carries the timing of a head through port `p` (R256). -/
def linkFits (v : Nat → Nat) (n p lanes mbps : Nat) : Bool :=
  let rate := v (Obj.pixelClockKhz n)
  let b16 := if v (Obj.dscBpp16 p) = 0 then 48 * v (Obj.panelDepth n) else v (Obj.dscBpp16 p)
  let halves := if split v n then 2 else 1
  decide (rate * b16 ≤ halves * 16 * lanes * mbps * 776)

/-- The check of R256 at commit, LINK_BANDWIDTH. -/
def checkLink (v : Nat → Nat) (n : Nat) : Check :=
  firstIn (portsOf v n) (fun p => failIf (!linkFits v n p (v (Obj.laneCount p)) (v (Obj.linkRateMbps p))) St.linkBandwidth (Obj.laneCount p))

/-- The check of R258, COMMIT_LINE_RANGE. -/
def checkLine (v : Nat → Nat) (n : Nat) : Check :=
  failIf (decide (v (Obj.vFrontPorch n) + v (Obj.vSync n) + v (Obj.vBackPorch n) < v (Obj.commitLineOffset n) + leadLines v n))
    St.commitLineRange (Obj.commitLineOffset n)

/-- Two periods differ by more than 300 ppm of the second (R263). -/
def offPpm (a b : Nat) : Bool := decide (300 * b < 1000000 * (if a < b then b - a else a - b))

/-- The check of R263, LOCK_RANGE. `te` is the measured TE period in ns, 0 while not measured. -/
def checkLock (v : Nat → Nat) (n te : Nat) : Check :=
  let src := v (Obj.frameLockSource n)
  let bad := St.lockRange
  let per := periodPs v n
  let led := v (Obj.lockHead n)
  if src = 0 then none
  else firstOf [
    failIf (src == 1 && offPpm per (v (Obj.lockPeriodPs n))) bad (Obj.lockPeriodPs n),
    failIf (src == 2 && (led == n || decide (7 < led) || v (Obj.frameLockSource led) == 2)) bad (Obj.lockHead n),
    failIf (src == 2 && offPpm per (periodPs v led)) bad (Obj.lockHead n),
    failIf (src == 3 && te != 0 && offPpm per (1000 * te)) bad (Obj.frameLockSource n),
    failIf (decide (per ≤ 1000 * v (Obj.lockPhaseNs n))) bad (Obj.lockPhaseNs n),
    failIf (src == 3 && v (Obj.teUse n) != 2) bad (Obj.frameLockSource n)]

/-- The check of R73 on the frame rate of a flattened head: where a commit raises the NIM demand of FlattenStepsPerFrame, the `rate` in M steps/s must
carry the demand of every head by its timing with `reserved`, the renderer reservations. NIM_RESERVE_FULL is the renderer's own status (R516). -/
def checkNim (v a : Nat → Nat) (n rate reserved : Nat) : Check :=
  let load := fun (f : Nat → Nat) m => if f (Obj.portMode m) = 3 ∨ framePixels f m = 0 then 0 else f (Obj.flattenStepsPerFrame m) * rateMhz f m
  let sum := (List.range 8).foldl (fun t m => t + load v m) 0
  failIf (decide (load a n < load v n) && decide (1000000 * rate < 1000000 * reserved + sum)) St.nimReserveFull (Obj.pixelClockKhz n)

/-- A commit changes a timing object of a head. -/
def timingChanged (v a : Nat → Nat) (n : Nat) : Bool := (timingKeys n).any (fun k => v k != a k)

/-- A commit changes what makes it a mode change (R257): PortMode, or LaneCount, LinkRateMbps, DscBpp16 or Assr of a port. -/
def modeChange (v a : Nat → Nat) (n : Nat) : Bool :=
  v (Obj.portMode n) != a (Obj.portMode n) || ([2 * n, 2 * n + 1]).any (fun p =>
    v (Obj.laneCount p) != a (Obj.laneCount p) || v (Obj.linkRateMbps p) != a (Obj.linkRateMbps p)
      || v (Obj.dscBpp16 p) != a (Obj.dscBpp16 p) || v (Obj.assr p) != a (Obj.assr p))

/-- The head's own validation of its timing, rates, demand, link, commit line and lock. A head whose PortMode stays off is checked only when the
commit writes one of its timing objects (log 11). -/
def checkAll (v a : Nat → Nat) (n q te nim reserved : Nat) : Check :=
  if v (Obj.portMode n) = 3 ∧ !timingChanged v a n then none
  else if v (Obj.portMode n) = 3 ∧ framePixels v n = 0 then none
  else firstOf [checkTiming v n, checkRates v n, checkBun v n q, checkNim v a n nim reserved, checkLink v n, checkLine v n, checkLock v n te]

end Head

namespace State

/-- Worlds that own an enabled layer of a head. -/
def layerWorlds (s : State) (n : Nat) : List Nat :=
  ((List.range 8).filter (fun l => s.reg (Obj.layerEnable n l) == 1)).map (fun l => s.reg (Obj.layerOwnerWorld n l))

/-- Where events of a head go: Halyard, the owner, and the guest worlds that own its layers (log 12). -/
def headDests (s : State) (n : Nat) : List Dest :=
  [.hal, .owner] ++ ((s.layerWorlds n).filter (fun w => decide (4 ≤ w))).dedup.map Dest.world

/-- Raise an event of head `n`. -/
def headEvent (s : State) (n st sev : Nat) (pl : List (Nat × Nat)) : State := s.raise (s.headDests n) (U.head n) st 0xFF sev pl

/-- Raise an event of transmitter port `p`. -/
def portEvent (s : State) (p st sev : Nat) (pl : List (Nat × Nat)) : State :=
  s.raise [.hal, .owner] (U.dpt p) st 0xFF sev pl

/-- A port counts as lit: PortState is lit and the head's panel fault does not hold (R277). -/
def portLit (s : State) (p : Nat) : Bool :=
  s.reg (Obj.portState p) == 3 && s.reg (Reg.panelFaultDue (p / 2)) == 0 && s.reg (Reg.unitState (U.head (p / 2))) != 5 && s.reg (Reg.unitState (U.dpt p)) != 5

/-- HeadState from PortMode and the lit ports (tables Port modes and Head scan-out objects); a head outside HoldupHeads is off in hold-up (R446). -/
def headStateOf (s : State) (n : Nat) : Nat :=
  let ps := Head.portsOf s.reg n
  if ps.isEmpty ∨ s.holdupStopped (U.head n) then 0
  else if ps.all s.portLit then 1
  else if ps.any s.portLit then 2
  else 3

/-- A head is in service (R262). -/
def headLit (s : State) (n : Nat) : Bool := s.reg (Obj.headState n) == 1 || s.reg (Obj.headState n) == 2

/-- Objects derived from the timing in force (chapter 10, Timing and line arithmetic; R254, R258; chapter 9, R237 check 5). -/
def headDerive (s : State) (n : Nat) : State :=
  let off := s.reg (Obj.portMode n) = 3
  let s := s.setRegs [
    (Obj.frameRateMhz n, if off then 0 else Head.rateMhz s.reg n / (1 + s.reg (Reg.shedSlowed n))), (Obj.lineTimePs n, if off then 0 else Head.lineTimePs s.reg n),
    (Obj.commitLeadLines n, Head.leadLines s.reg n),
    (Obj.fetchBudget n, 3 * s.reg (Obj.hActive n) * s.reg (Obj.vActive n) * 4)]
  let sum := Head.deviceKhz s.reg
  (List.range 8).foldl (fun s m => s.setReg (Obj.devicePixelKhz m) sum) s

/-- A port trained to a lane count and rate carries the timing in force. -/
def trainedFits (s : State) (p : Nat) : Bool :=
  Head.linkFits s.reg (p / 2) p (s.reg (Obj.trainedLanes p)) (s.reg (Obj.trainedRateMbps p))

/-- Start the link sequence of a port whose HPD is high (R267): 100 ms until the sink is read. -/
def startLink (s : State) (p : Nat) : State :=
  s.setRegs [(Obj.portState p, 1), (Reg.hpdDue p, s.now + 100000000), (Reg.trainRetry p, 0), (Reg.trainStep p, 0), (Reg.litNext p, 0)]

/-- Seconds to the next training attempt (R268): 1, 2, 4, 8, 16, then every 30. -/
def retrySeconds (k : Nat) : Nat := if k < 5 then 2 ^ k else 30

/-- Rate admitted for the writes of a receiver, MB/s rounded up (R282). -/
def rxRate (v : Nat → Nat) (n : Nat) : Nat :=
  let fed := ((List.range 8).flatMap (fun h => [(h, 0), (h, 1)])).find? (fun p =>
    v (Obj.layerEnable p.1 p.2) == 1 && Head.videoLayer v p.1 p.2 && v (Obj.layerSourceRx p.1 p.2) == n)
  match fed with
  | none => 0
  | some (h, l) =>
    let f := v (Obj.layerFormat h l)
    let half := if f = 3 then 4 else if f = 0x10 then 3 else if f = 0x11 then 6 else 8
    (v (Obj.rxMaxPixelKhz n) * half + 1999) / 2000

/-- A video layer of some head takes its frames from receiver `n`: the head and the layer. -/
def rxLayer (s : State) (n : Nat) : Option (Nat × Nat) :=
  ((List.range 8).flatMap (fun h => [(h, 0), (h, 1)])).find? (fun p =>
    s.reg (Obj.layerEnable p.1 p.2) == 1 && Head.videoLayer s.reg p.1 p.2 && s.reg (Obj.layerSourceRx p.1 p.2) == n)

/-- SC-RT rate admitted with the values `v`: PreemptSaveMBps and the writes of every receiver that feeds a layer (R282). -/
def rtDemand (s : State) (v : Nat → Nat) : Nat :=
  (List.range 16).foldl (fun a f => a + s.reg (Reg.feedRate f)) ((List.range 8).foldl (fun a n => a + rxRate v n) (s.reg Obj.preemptSaveMBps))

/-- The check of R282 for the video layers of head `n`: a commit whose receivers' writes do not fit RtReservedMBps. -/
def checkFeeds (s : State) (v : Nat → Nat) (n : Nat) : Check :=
  firstIn ((List.range 2).filter (fun l => v (Obj.layerEnable n l) == 1 && Head.videoLayer v n l && decide (v (Obj.layerSourceRx n l) < 8))) (fun l =>
    failIf (decide (s.rtDemand s.reg < s.rtDemand v) && decide (v Obj.rtReservedMBps < s.rtDemand v)) St.rxBandwidth (Obj.layerSourceRx n l))

/-- Destination of a receiver's events: its holder under R116, with Halyard. -/
def rxEvent (s : State) (n st sev : Nat) (pl : List (Nat × Nat)) : State :=
  s.raise [s.blockDest (U.dpr n), .hal] (U.dpr n) st (s.reg (Reg.blockHolder (U.dpr n))) sev pl

end State

/-- Checksum of a 128-byte EDID block: its bytes sum to 0 modulo 256. -/
def edidBlockOk (b : Bytes) : Bool := (b.foldl (fun a x => a + x.toNat) 0) % 256 == 0

/-- Blocks of 128 bytes. -/
def blocks128 : Nat → Bytes → List Bytes
  | 0, _ => []
  | k + 1, b => if b.isEmpty then [] else b.take 128 :: blocks128 k (b.drop 128)

/-- Pixel clock in kHz of the detailed timing at a place of an EDID's base block, 0 where it is a display descriptor. -/
def edidTimingKhz (b : Bytes) (off : Nat) : Nat := 10 * bytesAt b off 2

/-- Highest pixel clock that the detailed timings of an EDID's base block advertise, at most 594,000 kHz (R281; log 13). -/
def edidMaxKhz (b : Bytes) : Nat :=
  min 594000 ([54, 72, 90, 108].foldl (fun m o => max m (edidTimingKhz b o)) 0)

namespace Head

/-- Checks of a receiver's commit (R281, R282): checksums, the sum of RxMaxPixelKhz over enabled receivers, and the rate of its writes against
RtReservedMBps. -/
def checkRx (s : State) (v a : Nat → Nat) (n : Nat) : Check :=
  let e := decDomain (v (Obj.rxEdid n))
  let changed := v (Obj.rxEdid n) != a (Obj.rxEdid n)
  let mx := fun m => if m = n ∧ changed then edidMaxKhz e else a (Obj.rxMaxPixelKhz m)
  let sum := (List.range 8).foldl (fun t m => if v (Obj.rxEnable m) = 1 then t + mx m else t) 0
  let v' := fun k => if k = Obj.rxMaxPixelKhz n then mx n else v k
  firstOf [
    failIf (changed && (decide (e.length < 128) || e.length % 128 != 0 || !(blocks128 4 e).all edidBlockOk)) St.rxRateLimit (Obj.rxEdid n),
    failIf (decide (2000000 < sum)) St.rxRateLimit (Obj.rxEdid n),
    failIf (decide (a Obj.rtReservedMBps < s.rtDemand v')) St.rxBandwidth (Obj.rxEdid n)]

end Head
end Sys2Proof.Machine
end

