-- ==== Sys2Proof/Machine/RingOps.lean ====
section
/-!
DEFINITION. Machine/RingOps.lean: rings as their units see them (R127, R202, R203): packets read from guest memory, the stop of a context,
surfaces and their layouts (R190 to R192), fences (R205, R206).
-/
namespace Sys2Proof.Machine

/-- A packet at a ring's RPTR (table Packet header word). -/
structure Pkt where
  op : Nat
  len : Nat
  rsv : Nat
  safe : Bool
  body : List Nat
  deriving DecidableEq, Repr

/-- Word `n` of a packet's body. -/
def Pkt.word (p : Pkt) (n : Nat) : Nat := p.body.getD n 0

/-- Words `n` and `n + 1` as one 64-bit value. -/
def Pkt.dword (p : Pkt) (n : Nat) : Nat := p.word n + 0x100000000 * p.word (n + 1)

/-- What a unit finds at a ring's RPTR: no whole packet, a fault on the fetch, or a packet. -/
inductive Fetched where
  | none
  | fault (e : XFault)
  | pkt (p : Pkt)

/-- One row of a packet table: opcode, LENGTH (`none` for any) and whether REPLAY_SAFE is allowed. -/
structure PktRow where
  op : Nat
  len : Option Nat
  safe : Bool

/-- Packets of renderer and copy rings (chapter 8, table Packets); REPLAY_SAFE is allowed only where the class is R or R*. -/
def rendererPackets : List PktRow := [
  ⟨0x00, none, true⟩, ⟨0x01, some 3, true⟩, ⟨0x02, some 0, false⟩, ⟨0x03, some 1, true⟩, ⟨0x04, some 2, true⟩,
  ⟨0x05, some 4, false⟩, ⟨0x06, some 7, false⟩, ⟨0x07, some 4, false⟩, ⟨0x08, some 3, true⟩, ⟨0x09, some 2, true⟩,
  ⟨0x0A, some 3, false⟩, ⟨0x0B, some 3, false⟩, ⟨0x0C, some 0, false⟩, ⟨0x10, some 4, true⟩, ⟨0x11, some 4, true⟩,
  ⟨0x12, some 1, true⟩, ⟨0x13, some 0, true⟩, ⟨0x14, some 3, false⟩, ⟨0x15, some 1, true⟩, ⟨0x16, some 2, true⟩,
  ⟨0x20, some 6, true⟩, ⟨0x21, some 8, true⟩, ⟨0x22, some 5, true⟩, ⟨0x30, some 3, false⟩]

/-- Packets of the composition ring (chapter 9, table Composition packets). -/
def compositionPackets : List PktRow := [⟨0x00, none, false⟩, ⟨0x50, some 11, false⟩, ⟨0x51, some 1, false⟩, ⟨0x52, some 1, false⟩]

/-- A ring is a renderer ring or the copy ring. -/
def rendererRing (r : Nat) : Bool := decide (r < 4) || r == 7

/-- The packets a ring's unit knows. Ring 5 is the audio ring (chapter 14), ring 6 the touch and haptic
ring (chapter 12). -/
def packetTable (r : Nat) : List PktRow :=
  if rendererRing r then rendererPackets
  else if r = 4 then compositionPackets
  else if r = 5 then [⟨0x00, none, false⟩, ⟨0x70, some 8, false⟩, ⟨0x71, some 8, false⟩, ⟨0x72, some 3, false⟩, ⟨0x73, some 1, false⟩]
  else [⟨0x00, none, false⟩, ⟨0x60, some 1, false⟩, ⟨0x61, some 1, false⟩]

/-- Status of a packet that a ring's table refuses. -/
def packetBad (r : Nat) : Nat :=
  if r = 4 then St.compPacketInvalid else if r = 5 then St.audPacketInvalid else if r = 6 then St.touchPacketInvalid
  else St.packetInvalid

/-- Unit that serves a ring: the renderer, Bunting, the audio unit, haptics. -/
def ringUnit (r : Nat) : Nat := if rendererRing r then U.nim else if r = 4 then 0x2E else if r = 5 then U.aud else 0x5A

namespace State

/-- Fabric requester of a ring's unit. -/
def ringReq (s : State) (i r : Nat) : Nat :=
  if r = 7 then 33 else if r < 4 then (if 0x3F8 ≤ s.reg (Reg.ringCtx i r) then 31 else 32) else if r = 5 then 22 else if r = 6 then 19 else 0

/-- CONTEXT of a fault event of a ring (R112): the renderer context ID, or the ring number. -/
def ringField (s : State) (i r : Nat) : Nat := if rendererRing r then s.reg (Reg.ringCtx i r) else r

/-- Read guest memory as the context of a ring. -/
def cread (s : State) (i r va n : Nat) : Except XFault Bytes := s.gread (s.instWorld i) (s.reg (Reg.s1Root i r)) va n

/-- Write guest memory as the context of a ring. -/
def cwrite (s : State) (i r va : Nat) (bs : Bytes) : Except XFault State := s.gwrite (s.instWorld i) (s.reg (Reg.s1Root i r)) va bs

/-- Address of word `n` of a ring; a packet may wrap from the end of the ring to its start. -/
def ringAddr (s : State) (i r n : Nat) : Nat := s.reg (Reg.ringBase i r) + 4 * (n % (2 ^ s.reg (Reg.ringLog2 i r) / 4))

/-- Words of a ring from word `n` on. -/
def ringWords (s : State) (i r n : Nat) : Nat → Except XFault (List Nat)
  | 0 => .ok []
  | k + 1 => match s.cread i r (s.ringAddr i r n) 4 with
    | .error e => .error e
    | .ok b => match s.ringWords i r (n + 1) k with
      | .error e => .error e
      | .ok ws => .ok (leNat b :: ws)

/-- Words waiting between RPTR and WPTR_SEEN. -/
def ringWaiting (s : State) (i r : Nat) : Nat := (s.reg (Reg.ringWptr i r) + 2 ^ 32 - s.reg (Reg.ringRptr i r)) % 2 ^ 32

/-- The packet at RPTR, when the whole packet lies between RPTR and WPTR_SEEN (R202). -/
def fetchPkt (s : State) (i r : Nat) : Fetched :=
  let n := s.reg (Reg.ringRptr i r)
  if s.ringWaiting i r = 0 then .none
  else match s.cread i r (s.ringAddr i r n) 4 with
    | .error e => .fault e
    | .ok b =>
      let h := leNat b
      if s.ringWaiting i r < 1 + bits h 8 16 then .none
      else match s.ringWords i r (n + 1) (bits h 8 16) with
        | .error e => .fault e
        | .ok ws => .pkt ⟨bits h 24 8, bits h 8 16, bits h 1 7, bit h 0, ws⟩

/-- The device serves guests: it is in SERVICE. -/
def inService (s : State) : Bool := s.reg Obj.powerState == 3

/-- The unit of a ring takes words: the instance RUNNING, the ring ACTIVE, the unit not held by a fault. -/
def ringRuns (s : State) (i r : Nat) : Bool :=
  s.inService && decide (i < 48) && decide (r < 8) && s.reg (Obj.instState i) == 1 && s.reg (Reg.ringState i r) == 2
    && (!rendererRing r || s.reg (Reg.unitState U.nim) == 1 || s.reg (Reg.unitState U.nim) == 2)

/-- Items of a context taken and not ended. -/
def ctxItems (s : State) (i r : Nat) : List Item := s.items.filter (fun t => t.inst == i && t.ring == r)

/-- Registers of a pass and its context return to none. -/
def passClear (s : State) (i r : Nat) : State :=
  { s.setRegs [(Reg.nimPass i r, 0), (Reg.passItem i r, 0), (Reg.nimWait i r, 0), (Reg.nimWaitDue i r, 0), (Reg.nimFlush i r, 0),
      (Reg.nimQuery i r, 0), (Reg.drawRec i r, 0), (Reg.poolNext i r, 0), (Reg.passSkip i r, 0), (Reg.broadHead i r, 0), (Reg.broadTail i r, 0)] with
    fifos := Kmap.erase s.fifos (0x1000 + 8 * i + r),
    nums := [0x4000000000, 0x5000000000, 0x6000000000, 0x9000000000, 0x9100000000].foldl (fun m k => Kmap.erase m (k + 8 * i + r)) s.nums }

/-- Stop a context (R203): the ring enters STOPPED with the status, RPTR stays at the packet, CONTEXT_STOPPED goes to the owning
world, a pass in progress is abandoned. -/
def stopRing (s : State) (i r st : Nat) : State :=
  let pass := if s.reg (Reg.nimPass i r) = 1 then s.reg (Reg.passNum i r) else 0xFFFFFFFF
  let it := s.reg (Reg.passItem i r)
  let s := match s.items.find? (fun (t : Item) => t.seq == it && t.inst == i && t.ring == r && it != 0) with
    | some t => s.itemEnd t st
    | none => s
  let s := (s.passClear i r).setRegs [(Reg.ringState i r, 3), (Reg.ringLast i r, st)]
  let s := if s.reg Reg.nimCur = 8 * i + r + 1 then s.setReg Reg.nimCur 0 else s
  s.raise [.inst i] (ringUnit r) St.contextStopped (s.instWorld i) 3
    [(2, s.reg (Reg.ringCtx i r)), (2, st), (4, s.reg (Reg.ringRptr i r)), (4, pass)]

/-- Stop a context for a translation fault (R111) or a refusal of the fabric, which is reported as R112 gives. -/
def stopFault (s : State) (i r : Nat) (acc : Acc) (e : XFault) : State :=
  (s.accessFault (s.instWorld i) i (s.ringField i r) (ringUnit r) (s.classOf (s.ringReq i r)) acc e).stopRing i r e.status

/-- Advance RPTR past a packet. -/
def ringTake (s : State) (i r : Nat) (p : Pkt) : State :=
  s.setReg (Reg.ringRptr i r) ((s.reg (Reg.ringRptr i r) + 1 + p.len) % 2 ^ 32)

/-- A ring whose words are all taken is IDLE again. -/
def ringIdle (s : State) (i r : Nat) : State :=
  if s.ringWaiting i r = 0 ∧ s.reg (Reg.ringState i r) = 2 then s.setReg (Reg.ringState i r) 1 else s

/-- Refusal of a packet by the ring's table (R202, R228): an unknown opcode, a wrong LENGTH, a set RSV bit, or REPLAY_SAFE where it
is not allowed. -/
def pktBad (_ : State) (r : Nat) (p : Pkt) : Bool :=
  match (packetTable r).find? (fun t => t.op == p.op) with
  | none => true
  | some t => t.len.any (· != p.len) || p.rsv != 0 || (p.safe && !t.safe)

/-- Look at the next packet: one that the table refuses stops the ring. -/
def lookAhead (s : State) (i r : Nat) : State :=
  if !s.ringRuns i r ∨ s.reg (Reg.nimWait i r) ≠ 0 then s
  else match s.fetchPkt i r with
    | .pkt p => if s.pktBad r p then s.stopRing i r (packetBad r) else s
    | .fault e => s.stopFault i r .read e
    | .none => s

/-- Finish a packet: RPTR moves past it, and the next packet is looked at. -/
def ringDone (s : State) (i r : Nat) (p : Pkt) : State := ((s.ringTake i r p).ringIdle i r).lookAhead i r

/-- A renderer ring at a packet whose item may not be taken: it waits for the record (R427, R428), or stops where the journal takes none any more (R488). -/
def ringHeld (s : State) (i r : Nat) (rank4 free : Bool) : State :=
  if free && s.jnlFull then s.stopRing i r St.limitReached else s.jnlWait rank4 free

/-- A unit meets the packet at a ring's RPTR and, when it is `op`, acts on it by `f`. Another packet is no matter of this command. -/
def onPacket (s : State) (i r op : Nat) (f : State → Pkt → State) : State :=
  if !s.ringRuns i r then s
  else match s.fetchPkt i r with
    | .none => s
    | .fault e => s.stopFault i r .read e
    | .pkt p =>
      if p.op ≠ op then s
      else if s.pktBad r p then s.stopRing i r (packetBad r)
      else f s p

end State

/-! Surfaces. -/

/-- A format of the renderer (table Format codes): bytes of a texel or block, its width and height in texels, 0 not renderable, 1 colour, 2 depth
or stencil, and whether it is compressible. -/
structure Format where
  bytes : Nat
  bw : Nat
  bh : Nat
  target : Nat
  comp : Bool

/-- ASTC footprints of codes 0x40 to 0x4D and 0x50 to 0x5D. -/
def astcBlocks : List (Nat × Nat) :=
  [(4, 4), (5, 4), (5, 5), (6, 5), (6, 6), (8, 5), (8, 6), (8, 8), (10, 5), (10, 6), (10, 8), (10, 10), (12, 10), (12, 12)]

/-- Bytes of the plain formats 0x01 to 0x0F. -/
def plainBytes : List Nat := [0, 1, 2, 4, 4, 4, 4, 2, 4, 4, 2, 4, 8, 4, 8, 16]

/-- Bytes of RED8, RG8, RGBA8, RED16, RG16, RGBA16, RED32 (codes 0x10 to 0x16 and 0x17 to 0x1D). -/
def intBytes : List Nat := [1, 2, 4, 2, 4, 8, 4]

/-- The format of a code, or none where the table has none. -/
def formatOf (c : Nat) : Option Format :=
  if 0x01 ≤ c ∧ c ≤ 0x0F then some ⟨plainBytes.getD c 0, 1, 1, 1, c ≠ 0x01 ∧ c ≠ 0x0F⟩
  else if 0x10 ≤ c ∧ c ≤ 0x1D then
    let b := intBytes.getD ((c - 0x10) % 7) 0
    some ⟨b, 1, 1, 1, b ≠ 1⟩
  else if c = 0x20 ∨ c = 0x21 then some ⟨4, 1, 1, 2, true⟩
  else if c = 0x22 then some ⟨1, 1, 1, 2, false⟩
  else if 0x30 ≤ c ∧ c ≤ 0x36 then some ⟨if c ≤ 0x32 ∨ c = 0x35 then 8 else 16, 4, 4, 0, false⟩
  else if (0x40 ≤ c ∧ c ≤ 0x4D) ∨ (0x50 ≤ c ∧ c ≤ 0x5D) then
    let b := astcBlocks.getD (c % 16) (4, 4)
    some ⟨16, b.1, b.2, 0, false⟩
  else none

/-- A surface descriptor (table Surface descriptor). -/
structure Surf where
  base : Nat
  meta' : Nat
  w : Nat
  h : Nat
  layers : Nat
  levels : Nat
  samples : Nat
  fmt : Nat
  layout : Nat
  pitch : Nat
  clear0 : Nat
  clear1 : Nat
  resolve : Nat
  deriving DecidableEq, Repr

/-- The surface that 64 descriptor bytes describe. -/
def surfOf (b : Bytes) : Surf :=
  ⟨bytesAt b 0 8, bytesAt b 8 8, bytesAt b 16 2, bytesAt b 18 2, bytesAt b 20 2, bytesAt b 22 1, bytesAt b 23 1, bytesAt b 24 2,
   bytesAt b 26 1, bytesAt b 28 4, bytesAt b 32 8, bytesAt b 40 8, bytesAt b 48 8⟩

/-- Width and height of a micro-block by bytes per texel (table Micro-block and page shape). -/
def microShape (bytes : Nat) : Nat × Nat :=
  if bytes = 1 then (8, 8) else if bytes = 2 then (8, 4) else if bytes = 4 then (4, 4) else if bytes = 8 then (4, 2) else (2, 2)

/-- Interleave three bits of a column and of a row (R190). -/
def interleave (mx my : Nat) : Nat :=
  bits mx 0 1 + 2 * bits my 0 1 + 4 * bits mx 1 1 + 8 * bits my 1 1 + 16 * bits mx 2 1 + 32 * bits my 2 1

/-- Division rounded up. -/
def ceilDiv (a b : Nat) : Nat := (a + b - 1) / b

namespace Surf

/-- Bytes of a texel or block. -/
def bytes (f : Surf) : Nat := ((formatOf f.fmt).map Format.bytes).getD 4

/-- Size of a level in texels or blocks. -/
def levelSize (f : Surf) (l : Nat) : Nat × Nat :=
  let (bw, bh) := ((formatOf f.fmt).map (fun (x : Format) => (x.bw, x.bh))).getD (1, 1)
  (max 1 (ceilDiv (max 1 (f.w >>> l)) bw), max 1 (ceilDiv (max 1 (f.h >>> l)) bh))

/-- Pages of a level. -/
def levelPages (f : Surf) (l : Nat) : Nat :=
  let (mw, mh) := microShape f.bytes
  ceilDiv (f.levelSize l).1 (8 * mw) * ceilDiv (f.levelSize l).2 (8 * mh)

/-- Bytes of one sample of one layer, all levels. -/
def planeBytes (f : Surf) : Nat := 4096 * ((List.range f.levels).map f.levelPages).foldl (· + ·) 0

/-- Byte offset of texel (x, y), level l, layer a, sample p of a block-layout surface (R190). -/
def offset (f : Surf) (x y l a p : Nat) : Nat :=
  let (mw, mh) := microShape f.bytes
  let (pw, ph) := (8 * mw, 8 * mh)
  let off := (a * f.samples + p) * f.planeBytes + 4096 * ((List.range l).map f.levelPages).foldl (· + ·) 0
  let page := (y / ph) * ceilDiv (f.levelSize l).1 pw + x / pw
  let mb := interleave (x % pw / mw) (y % ph / mh)
  off + page * 4096 + mb * 64 + ((y % ph % mh) * mw + x % pw % mw) * f.bytes

/-- Bytes that a surface spans from BASE. -/
def span (f : Surf) : Nat := if f.layout = 1 then f.pitch * f.h else f.layers * f.samples * f.planeBytes

/-- Address of a texel in either layout. -/
def addr (f : Surf) (x y l a p : Nat) : Nat :=
  if f.layout = 1 then f.base + y * f.pitch + x * f.bytes else f.base + f.offset x y l a p

/-- Refusal of a surface when a pass or draw first uses it (R191, R192); OK where there is none. `target` marks a render target,
`linear` a use that allows the linear layout. -/
def status (f : Surf) (target linear : Bool) : Nat :=
  match formatOf f.fmt with
  | none => St.formatUnsupported
  | some x =>
    if target && x.target == 0 then St.formatUnsupported
    else if f.meta' ≠ 0 ∧ x.comp = false then St.formatUnsupported
    else if (f.layout == 1 && !linear) || decide (1 < f.layout) then St.layoutInvalid
    else if f.base % 4096 ≠ 0 ∨ f.meta' % 256 ≠ 0 ∨ (1 < f.samples ∧ f.levels ≠ 1) then St.layoutInvalid
    else if f.w = 0 ∨ 16384 < f.w ∨ f.h = 0 ∨ 16384 < f.h ∨ f.layers = 0 ∨ 2048 < f.layers ∨ f.levels = 0 ∨ 15 < f.levels then St.layoutInvalid
    else if ¬ (f.samples = 1 ∨ f.samples = 2 ∨ f.samples = 4) then St.layoutInvalid
    else if f.layout = 1 ∧ (f.pitch % 256 ≠ 0 ∨ f.pitch < f.w * f.bytes) then St.layoutInvalid
    else if 2 ^ 52 < f.base + f.span then St.layoutInvalid
    else St.ok

end Surf

namespace State

/-- Read a surface descriptor as the context of a ring. -/
def surfAt (s : State) (i r va : Nat) : Except XFault Surf := (s.cread i r va 64).map surfOf

/-- Read a fence as a context. -/
def fenceRead (s : State) (w root va : Nat) : Except XFault Nat := (s.gread w root va 8).map leNat

/-- Atomic maximum of a value into a fence (R205). -/
def fenceMax (s : State) (w root va v : Nat) : Except XFault State :=
  match s.xlateRange w root va .atomic 8 with
  | .error e => .error e
  | .ok as =>
    let old := leNat (as.map s.fabricByte)
    .ok (s.fabricPut (as.zip (leBytes 8 (max old v))))

/-- Re-evaluate the fence wait of one context (R206): a satisfied FENCE_WAIT packet is taken; a fault stops the context. -/
def fenceCheck (s : State) (i r : Nat) : State :=
  if s.reg (Reg.nimWait i r) ≠ 1 ∨ !s.ringRuns i r then s
  else match s.fetchPkt i r with
    | .pkt p => match s.fenceRead (s.instWorld i) (s.reg (Reg.s1Root i r)) (p.dword 0) with
      | .error e => s.stopFault i r .read e
      | .ok v => if p.dword 2 ≤ v then (s.setRegs [(Reg.nimWait i r, 0), (Reg.nimWaitDue i r, 0)]).ringDone i r p else s
    | .fault e => s.stopFault i r .read e
    | .none => s

/-- Re-evaluate the fence waits of every context (R206). -/
def fenceCheckAll (s : State) : State :=
  (List.range 48).foldl (fun s i => (List.range 8).foldl (fun s r => s.fenceCheck i r) s) s

/-- Signal a fence on behalf of a unit (a release or buffer fence): a write without permission raises its fault and changes nothing. -/
def signalFence (s : State) (i r va v : Nat) : State :=
  match s.fenceMax (s.instWorld i) (s.reg (Reg.s1Root i r)) va v with
  | .ok s' => s'.fenceCheckAll
  | .error e => s.accessFault (s.instWorld i) i (s.ringField i r) (ringUnit r) (s.classOf (s.ringReq i r)) .atomic e

end State
end Sys2Proof.Machine
end

