-- ==== Sys2Proof/Machine/Caches.lean ====
section
/-!
DEFINITION. Machine/Caches.lean: the texture caches of the renderer (R194 to R196): reads of shaders through a cluster's L1 and the L2, stores of
shaders, tile stores.
-/
namespace Sys2Proof.Machine

/-- Number of the L2 among the caches; 0 to 23 are the L1s of the clusters. -/
abbrev l2 : Nat := 24

namespace State

/-- KEYW of a fabric physical address of DRAM: the world that its frame belongs to (R107). -/
def keywOf (s : State) (a : Nat) : Nat := s.reg (Reg.frameOwner (a / frameBytes)) - 1

/-- The line of cache `c` that holds address `a`, tagged by physical address and KEYW (R194). -/
def lineAt (s : State) (c a : Nat) : Option CacheLine :=
  s.lines.find? (fun l => l.cache == c && l.line == a / 64 && l.keyw == s.keywOf a)

/-- Lines that compete with `l` for the places of its cache: an L1 holds 512 lines; the L2 has 4,096 sets of 16 ways, of which L2RtWays serve flattening
contexts only (R172, R196; the choice of sets and of the line replaced is the model's, log 46). -/
def rivals (s : State) (l : CacheLine) : List CacheLine :=
  s.lines.filter (fun x => x.cache == l.cache && (l.cache != l2 || (x.line % 4096 == l.line % 4096 && x.flat == l.flat)))

/-- Places that `l` and its rivals share. -/
def linePlaces (s : State) (l : CacheLine) : Nat :=
  if l.cache ≠ l2 then 512 else if l.flat then s.reg Obj.l2RtWays else 16 - s.reg Obj.l2RtWays

/-- Enter a line; the oldest of its rivals go where there is no place. -/
def lineFill (s : State) (l : CacheLine) : State :=
  let gone := (s.rivals l).take ((s.rivals l).length + 1 - s.linePlaces l)
  { s with lines := s.lines.filter (fun x => !gone.contains x) ++ (if s.linePlaces l = 0 then [] else [l]) }

/-- The 64 bytes of the line of `a` in memory. -/
def lineBytes (s : State) (a : Nat) : Bytes := (List.range 64).map (fun k => s.byte (a / 64 * 64 + k))

/-- Bring the line of `a` into the L2 and into the L1 of cluster `c`, each where it lacks it (R194). A flattening context fills the ways set aside for it,
where there are any (R196). -/
def lineLoad (s : State) (c : Nat) (flatCtx : Bool) (a : Nat) : State :=
  if (s.lineAt c a).isSome then s
  else
    let flat := flatCtx && s.reg Obj.l2RtWays != 0
    let b := ((s.lineAt l2 a).map CacheLine.data).getD (s.lineBytes a)
    let s := if (s.lineAt l2 a).isSome then s else s.lineFill ⟨l2, a / 64, s.keywOf a, flat, b⟩
    s.lineFill ⟨c, a / 64, s.keywOf a, false, b⟩

/-- The byte that cluster `c` sees at `a` once its line is loaded; an address outside DRAM is not cached. -/
def lineByte (s : State) (c a : Nat) : Byte :=
  match s.lineAt c a with
  | some l => l.data.getD (a % 64) 0
  | none => s.fabricByte a

/-- A texture, image or buffer read of a shader on a cluster (R194): the bytes it gets, and the caches after it. -/
def shaderRead (s : State) (i r : Nat) (q : Nat × Nat × Nat) : Except XFault (State × Bytes) :=
  match s.xlateRange (s.instWorld i) (s.reg (Reg.s1Root i r)) q.2.1 .read q.2.2 with
  | .error e => .error e
  | .ok as =>
    let s := (as.filter (fun a => decide (a < 0x1000000000))).foldl (fun s a => s.lineLoad q.1 (decide (0x3F8 ≤ s.reg (Reg.ringCtx i r))) a) s
    .ok (s, as.map (s.lineByte q.1))

/-- The reads of a shader run in order, with what each got. -/
def shaderReads (s : State) (i r : Nat) : List (Nat × Nat × Nat) → Except XFault (State × List Bytes)
  | [] => .ok (s, [])
  | q :: l => match s.shaderRead i r q with
    | .error e => .error e
    | .ok (s, b) => match s.shaderReads i r l with
      | .error e => .error e
      | .ok (s, bs) => .ok (s, b :: bs)

/-- A line with the byte of address `a` replaced, where the line holds `a`. -/
def linePut (l : CacheLine) (p : Nat × Byte) : CacheLine :=
  if l.line = p.1 / 64 then { l with data := l.data.set (p.1 % 64) p.2 } else l

/-- A shader store (R195): it writes through to memory and updates the matching lines of the L2 and of the storing cluster's own L1. -/
def shaderStore (s : State) (i r : Nat) (q : Nat × Nat × Bytes) : Except XFault State :=
  match s.xlateRange (s.instWorld i) (s.reg (Reg.s1Root i r)) q.2.1 .write q.2.2.length with
  | .error e => .error e
  | .ok as =>
    .ok { s.fabricPut (as.zip q.2.2) with
      lines := s.lines.map (fun l => if l.cache = l2 ∨ l.cache = q.1 then (as.zip q.2.2).foldl linePut l else l) }

/-- Carry out the stores of a shader run in order; a fault ends them, with the stores made before it in place. -/
def shaderStores (s : State) (i r : Nat) : List (Nat × Nat × Bytes) → State × Option XFault
  | [] => (s, none)
  | q :: l => match s.shaderStore i r q with
    | .error e => (s, some e)
    | .ok s => s.shaderStores i r l

/-- Every L1 is invalidated (R195, R204). -/
def l1Drop (s : State) : State := { s with lines := s.lines.filter (fun l => l.cache == l2) }

/-- A tile store bypasses the caches and invalidates the lines of the L2 that hold an address it writes (R195). -/
def tileWrite (s : State) (i r va : Nat) (bs : Bytes) : Except XFault State :=
  match s.xlateRange (s.instWorld i) (s.reg (Reg.s1Root i r)) va .write bs.length with
  | .error e => .error e
  | .ok as =>
    .ok { s.fabricPut (as.zip bs) with lines := s.lines.filter (fun l => l.cache != l2 || !(as.any (fun a => a / 64 == l.line))) }

end State
end Sys2Proof.Machine
end

