-- ==== Sys2Proof/Machine/NimOps.lean ====
section
/-!
DEFINITION. Machine/NimOps.lean: the renderer (chapters 7 and 8): pass descriptors and their checks, the bin pool, binning, partial flushes,
pipelines, the choice of the next context, flattened surfaces.
-/
namespace Sys2Proof.Machine

/-! Lists of numbers of a renderer context. -/
namespace Num
/-- The surface layer `l` of head `n` shows: instance, ring, descriptor bytes as the flip read them. -/
abbrev shown (n l : Nat) : Nat := 0xB600000000 + 8 * n + l
/-- The flattened surface head `n` shows, likewise. -/
abbrev flatShown (n : Nat) : Nat := 0xB600000100 + n
/-- The flattened surface head `n` shows next. -/
abbrev flatNextShown (n : Nat) : Nat := 0xB600000200 + n
/-- Pool of the pass of a context (R176): base address and blocks of each part, in the order taken. -/
abbrev pool (i r : Nat) : Nat := 0x4000000000 + 8 * i + r
/-- Tiles that a primitive of the pass has touched. -/
abbrev drawn (i r : Nat) : Nat := 0x5000000000 + 8 * i + r
/-- CLEAR packets of the segment: attachment, select, x, y, width, height of each, and the next free block of the pool when it came. -/
abbrev clears (i r : Nat) : Nat := 0x6000000000 + 8 * i + r
/-- A pipeline handle (R207): world, state (1 compiling, 2 ready, 3 refused), samples, whether its shaders store or use atomics, depth
format, instance, then its colour formats. -/
abbrev pipe (h : Nat) : Nat := 0x7000000000 + h
/-- Pipeline handles of world `w`. -/
abbrev pipes (w : Nat) : Nat := 0x8000000000 + w
/-- Tiles that raster units had not finished when the preemption of ring (i, r)'s context was requested (R212). -/
abbrev tiles (i r : Nat) : Nat := 0x9000000000 + 8 * i + r
/-- Tiles that a preempted context of ring (i, r) has saved, each with the block of the next primitive to render (R212). -/
abbrev saved (i r : Nat) : Nat := 0x9100000000 + 8 * i + r
/-- Tile buffer `b` of raster unit `u` (R172): ring (as 8 i + r) and tile it was last loaded for, then the bytes of its samples. -/
abbrev tileBuf (u b : Nat) : Nat := 0xB600000500 + 2 * u + b
end Num

/-- Primitives of a draw not yet binned wait in this queue of ring (i, r). -/
abbrev Fifo.prims (i r : Nat) : Nat := 0x1000 + 8 * i + r

/-- An attachment entry of a pass descriptor: its surface, its spill surface if any, its RESOLVE target where it is resolved, its load and store
operations. -/
structure Attach where
  idx : Nat
  surf : Surf
  spill : Option Surf
  target : Option Surf
  load : Nat
  store : Nat

/-- A pass descriptor (table Pass descriptor) without its attachments. -/
structure PassDesc where
  w : Nat
  h : Nat
  samples : Nat
  colours : Nat
  flags : Nat
  dir : Nat
  pool : Nat
  poolSize : Nat
  ext : Nat

/-- The pass descriptor that 256 bytes describe. -/
def passDescOf (b : Bytes) : PassDesc :=
  ⟨bytesAt b 0 2, bytesAt b 2 2, bytesAt b 4 1, bytesAt b 5 1, bytesAt b 6 1, bytesAt b 8 8, bytesAt b 16 8, bytesAt b 24 4, bytesAt b 32 8⟩

/-- Tiles in a row of the target. -/
def PassDesc.cols (d : PassDesc) : Nat := ceilDiv d.w 32

/-- Tiles of the pass. -/
def PassDesc.tiles (d : PassDesc) : Nat := ceilDiv d.w 32 * ceilDiv d.h 32

/-- Bits per texel of colour attachments that a pass of `s` samples may have (R173). -/
def tileBudget (s : Nat) : Nat := 384 / s - 32

/-- Block 0xFF_FFFF, never allocated. -/
abbrev noBlock : Nat := 0xFFFFFF

namespace State

/-- Read a surface descriptor, or none at address 0. -/
def surfMaybe (s : State) (i r va : Nat) : Except XFault (Option Surf) := if va = 0 then .ok none else (s.surfAt i r va).map some

/-- Read attachment entry `n` of a pass descriptor, with its surfaces. -/
def attachAt (s : State) (i r : Nat) (desc : Bytes) (n : Nat) : Except XFault (Option Attach) :=
  let o := 40 + 24 * n
  let ops := bytesAt desc (o + 16) 1
  match s.surfMaybe i r (bytesAt desc o 8) with
  | .error e => .error e
  | .ok none => .ok none
  | .ok (some f) => match s.surfMaybe i r (bytesAt desc (o + 8) 8) with
    | .error e => .error e
    | .ok p => match s.surfMaybe i r (if bits ops 2 2 = 2 then f.resolve else 0) with
      | .error e => .error e
      | .ok g => .ok (some ⟨n, f, p, g, bits ops 0 2, bits ops 2 2⟩)

/-- Attachment entries that the pass uses: its colours, and entry 8 where the DEPTH flag is set. -/
def attachList (s : State) (i r : Nat) (desc : Bytes) : List Nat → Except XFault (List Attach)
  | [] => .ok []
  | n :: ns => match s.attachAt i r desc n with
    | .error e => .error e
    | .ok a => match s.attachList i r desc ns with
      | .error e => .error e
      | .ok as => .ok (a.toList ++ as)

/-- Attachments of a pass. -/
def attachments (s : State) (i r : Nat) (desc : Bytes) : Except XFault (List Attach) :=
  let d := passDescOf desc
  s.attachList i r desc (List.range (min 8 d.colours) ++ (if bit d.flags 0 then [8] else []))

/-- Extension table entry `n`: address, size, state. -/
def extEntry (s : State) (i r ext n : Nat) : Except XFault (Nat × Nat × Nat) :=
  (s.cread i r (ext + 16 * n) 16).map (fun b => (bytesAt b 0 8, bytesAt b 8 4, bytesAt b 12 4))

/-- The whole extension table. -/
def extTable (s : State) (i r ext : Nat) : List Nat → Except XFault (List (Nat × Nat × Nat))
  | [] => .ok []
  | n :: ns => match s.extEntry i r ext n with
    | .error e => .error e
    | .ok x => match s.extTable i r ext ns with
      | .error e => .error e
      | .ok xs => .ok (x :: xs)

/-- First status of a list that is not OK, or OK. -/
def firstBad (l : List Nat) : Nat := (l.find? (· != St.ok)).getD St.ok

/-- Check 3 of R175 for one attachment, with the refusals of R191 and R192 for its surface and its RESOLVE target. -/
def attachStatus (d : PassDesc) (a : Attach) : Nat :=
  firstBad [a.surf.status true false,
    if a.surf.w ≠ d.w ∨ a.surf.h ≠ d.h ∨ a.surf.samples ≠ d.samples then St.passDescInvalid
    else if ((formatOf a.surf.fmt).map Format.target).getD 0 ≠ (if a.idx = 8 then 2 else 1) then St.passDescInvalid
    else if a.load = 3 ∨ a.store = 3 then St.passDescInvalid
    else St.ok,
    (a.target.map (fun g => g.status true false)).getD St.ok]

/-- Check 5 of R175 for one attachment, with the refusals of R191 and R192 for its spill surface. -/
def spillStatus (a : Attach) : Nat :=
  if a.store = 0 ∧ a.surf.samples ≤ 1 then St.ok
  else match a.spill with
    | none => St.spillMissing
    | some p =>
      if p.fmt ≠ a.surf.fmt ∨ p.w ≠ a.surf.w ∨ p.h ≠ a.surf.h ∨ p.samples ≠ a.surf.samples then St.spillMissing
      else p.status true false

/-- Checks 1 and 2 of R175, which need the descriptor alone. -/
def passHead (d : PassDesc) (descAddr : Nat) : Nat :=
  if d.w = 0 ∨ 16384 < d.w ∨ d.h = 0 ∨ 16384 < d.h then St.targetTooLarge
  else if d.poolSize < 4 ∨ 16384 < d.poolSize ∨ descAddr % 256 ≠ 0 ∨ d.dir % 256 ≠ 0 ∨ d.pool % 65536 ≠ 0 ∨ d.ext % 256 ≠ 0 then St.poolTooSmall
  else St.ok

/-- Checks 3 to 5 of R175, which need the attachments. -/
def passAttach (d : PassDesc) (as : List Attach) : Nat :=
  firstBad [firstBad (as.map (attachStatus d)),
    if ¬ (d.samples = 1 ∨ d.samples = 2 ∨ d.samples = 4) ∨ 8 < d.colours
        ∨ tileBudget d.samples < ((as.filter (fun a => a.idx != 8)).map (fun a => 8 * a.surf.bytes)).foldl (· + ·) 0 then St.tileBudget else St.ok,
    firstBad (as.map spillStatus)]

/-- Check 6 of R175, which needs the extension table; then the FLATTENING flag and REPLAY_SAFE (R217). -/
def passRest (s : State) (i r : Nat) (d : PassDesc) (as : List Attach) (ext : List (Nat × Nat × Nat)) (safe : Bool) : Nat :=
  if ext.any (fun x => decide (1 < x.2.2)) then St.passDescInvalid
  else if bits d.flags 2 6 ≠ 0 ∨ (bit d.flags 1 ∧ s.reg (Reg.ringCtx i r) < 0x3F8) then St.passDescInvalid
  else if safe && as.any (fun a => a.load == 0 && a.store == 0) then St.replayMarkInvalid
  else St.ok

/-- The 16 bytes of an empty bin directory entry (R177); TAIL is written as "none". -/
def emptyEntry : Bytes := record [(4, 0xFFFFFFFF), (4, 0xFFFFFFFF), (4, noBlock), (4, noBlock)]

/-- Write the same bytes `n` times from an address up. -/
def cfill (s : State) (i r va : Nat) (b : Bytes) : Nat → Except XFault State
  | 0 => .ok s
  | n + 1 => match s.cwrite i r va b with
    | .error e => .error e
    | .ok s => s.cfill i r (va + b.length) b n

/-- Blocks of a pool. -/
def poolBlocks : List Nat → Nat
  | _ :: n :: rest => n + poolBlocks rest
  | _ => 0

/-- Address of a block of a pool (R176). -/
def blockAddr : List Nat → Nat → Nat
  | base :: n :: rest, b => if b < n then base + 64 * b else blockAddr rest (b - n)
  | _, _ => 0

/-- Blocks the renderer may allocate: block 0xFF_FFFF never is. -/
def poolLimit (s : State) (i r : Nat) : Nat := min noBlock (poolBlocks (s.num (Num.pool i r)))

/-- Pool size in KiB. -/
def poolKiB (s : State) (i r : Nat) : Nat := poolBlocks (s.num (Num.pool i r)) / 16

/-- Note the size of a pool (PoolPeakKiB, counter view). -/
def poolPeak (s : State) (i r : Nat) : State :=
  let k := s.poolKiB i r
  s.setRegs [(Obj.poolPeakKiB, max k (s.reg Obj.poolPeakKiB)), (Reg.poolPeakInst i, max k (s.reg (Reg.poolPeakInst i)))]

/-- Write a 64-byte block of the pool. -/
def blockWrite (s : State) (i r b off : Nat) (d : Bytes) : Except XFault State :=
  s.cwrite i r (blockAddr (s.num (Num.pool i r)) b + off) d

/-- A block whose layout is not architectural (a segment header or a draw record, R176): its bytes are free values. -/
def blockOpaque (s : State) (i r b : Nat) : Except XFault State := s.tick.blockWrite i r b 0 (leBytes 64 s.fresh)

/-- A bin directory entry: the two inline references, the tail block and the references in it. -/
structure Bin where
  in0 : Nat
  in1 : Nat
  head : Nat
  tail : Nat
  cnt : Nat

/-- Read a tile's directory entry. -/
def binAt (s : State) (i r dir t : Nat) : Except XFault Bin :=
  (s.cread i r (dir + 16 * t) 16).map (fun b =>
    ⟨bytesAt b 0 4, bytesAt b 4 4, bits (bytesAt b 8 4) 0 24, bits (bytesAt b 12 4) 0 24, bits (bytesAt b 12 4) 24 4⟩)

/-- A reference to this tile opens a bin block (R178). -/
def Bin.opens (b : Bin) : Bool := b.in0 != 0xFFFFFFFF && b.in1 != 0xFFFFFFFF && (b.head == noBlock || b.cnt == 15)

/-- Bin blocks that a primitive in these tiles opens. -/
def binsOpened (s : State) (i r dir : Nat) : List Nat → Except XFault Nat
  | [] => .ok 0
  | t :: ts => match s.binAt i r dir t with
    | .error e => .error e
    | .ok b => (s.binsOpened i r dir ts).map (fun n => n + b2n b.opens)

/-- Append a reference to a tile's bin (R178). -/
def binAppend (s : State) (i r dir t ref : Nat) : Except XFault State :=
  match s.binAt i r dir t with
  | .error e => .error e
  | .ok b =>
    let at' := dir + 16 * t
    if b.in0 = 0xFFFFFFFF then s.cwrite i r at' (leBytes 4 ref)
    else if b.in1 = 0xFFFFFFFF then s.cwrite i r (at' + 4) (leBytes 4 ref)
    else if !b.opens then
      match s.blockWrite i r b.tail (4 * b.cnt) (leBytes 4 ref) with
      | .error e => .error e
      | .ok s => s.cwrite i r (at' + 12) (leBytes 4 (b.tail + 0x1000000 * (b.cnt + 1)))
    else
      let n := s.reg (Reg.poolNext i r)
      let s := s.setReg (Reg.poolNext i r) (n + 1)
      match s.blockWrite i r n 0 (leBytes 4 ref ++ List.replicate 56 0xFF ++ leBytes 4 noBlock) with
      | .error e => .error e
      | .ok s =>
        match (if b.head = noBlock then s.cwrite i r (at' + 8) (leBytes 4 n) else s.blockWrite i r b.tail 60 (leBytes 4 n)) with
        | .error e => .error e
        | .ok s => s.cwrite i r (at' + 12) (leBytes 4 (n + 0x1000000))

/-- Append a reference to the bins of several tiles. -/
def binAll (s : State) (i r dir ref : Nat) : List Nat → Except XFault State
  | [] => .ok s
  | t :: ts => match s.binAppend i r dir t ref with
    | .error e => .error e
    | .ok s => s.binAll i r dir ref ts

/-- Position of vertex `n` in POS: X and Y in 1/256 pixel (table Primitive record). -/
def vertexAt (pos : Bytes) (n : Nat) : Int × Int := (toSigned 3 (bytesAt pos (14 * n) 3), toSigned 3 (bytesAt pos (14 * n + 3) 3))

/-- Least and greatest extent of points along a direction. -/
def extent (n : Int × Int) (l : List (Int × Int)) : Int × Int :=
  let v := l.map (fun p => n.1 * p.1 + n.2 * p.2)
  (v.foldl min (v.headD 0), v.foldl max (v.headD 0))

/-- The conservative test (Binning, R178): some part of the primitive touches tile (tx, ty), edges counted. No direction across a side of the tile or of the
primitive may separate the two. The reach of a line's width or a point's size is open (log 46). -/
def tileTouched (kind : Nat) (pos : Bytes) (tx ty : Nat) : Bool :=
  let vs := (List.range (3 - min kind 2)).map (vertexAt pos)
  let x : Int := 8192 * tx
  let y : Int := 8192 * ty
  let box := [(x, y), (x + 8192, y), (x, y + 8192), (x + 8192, y + 8192)]
  let sides := (vs.zip (vs.drop 1 ++ vs.take 1)).map (fun e => (e.2.2 - e.1.2, e.1.1 - e.2.1))
  ((1, 0) :: (0, 1) :: sides).all (fun n =>
    decide ((extent n vs).1 ≤ (extent n box).2) && decide ((extent n box).1 ≤ (extent n vs).2))
  || (kind != 0 && Config.wideTile pos tx ty)

/-- Tiles of a target of `cols` columns that a primitive covers, of the first `n`. -/
def coveredTiles (cols n kind : Nat) (pos : Bytes) : List Nat :=
  (List.range n).filter (fun t => tileTouched kind pos (t % cols) (t / cols))

/-- A primitive as it waits in the queue: whether it begins a draw, its record without LINK and DRAW, and the draw record. -/
def primBytes (seed : Nat) (first : Bool) (p : Prim) : Bytes :=
  record [(1, b2n first), (1, 2 * b2n p.back + 4 * p.kind), (4, p.vidx.getD 0 0), (4, p.vidx.getD 1 0), (4, p.vidx.getD 2 0)]
    ++ padTo 42 p.pos ++ leBytes 64 seed

/-- Link a broad primitive's block onto the segment's broad list (R178). -/
def broadLink (s : State) (i r b : Nat) : Except XFault State :=
  let tail := s.reg (Reg.broadTail i r)
  let s := s.setRegs [(Reg.broadHead i r, if tail = 0 then b + 1 else s.reg (Reg.broadHead i r)), (Reg.broadTail i r, b + 1)]
  if tail = 0 then .ok s else s.blockWrite i r (tail - 1) 0 (leBytes 3 b)

/-- Bin one primitive (R178, R180): `none` when the pool has no room for what it needs. -/
def binPrim (s : State) (i r : Nat) (d : PassDesc) (b : Bytes) : Except XFault (Option State) :=
  let ts := coveredTiles d.cols (s.reg (Reg.passTiles i r)) (bits (bytesAt b 1 1) 2 2) ((b.drop 14).take 42)
  let broad := decide (s.reg (Reg.passTiles i r) < 16 * ts.length)
  let s := if bytesAt b 0 1 = 1 then s.setReg (Reg.drawRec i r) 0 else s
  let head := b2n (s.reg (Reg.poolNext i r) == 0)
  let draw := b2n (s.reg (Reg.drawRec i r) == 0)
  match (if broad then .ok 0 else s.binsOpened i r d.dir ts) with
  | .error e => .error e
  | .ok opened =>
    if s.poolLimit i r < s.reg (Reg.poolNext i r) + head + draw + 1 + opened then .ok none
    else
      let n := s.reg (Reg.poolNext i r)
      match (if head = 1 then s.blockOpaque i r 0 else .ok s) with
      | .error e => .error e
      | .ok s => match (if draw = 1 then s.blockWrite i r (n + head) 0 ((b.drop 56).take 64) else .ok s) with
        | .error e => .error e
        | .ok s =>
          let rec' := if draw = 1 then n + head else s.reg (Reg.drawRec i r) - 1
          let ref := n + head + draw
          let s := s.setRegs [(Reg.drawRec i r, rec' + 1), (Reg.poolNext i r, ref + 1),
            (Reg.nimQueryCount i r, s.reg (Reg.nimQueryCount i r) + 1)]
          let s := (s.count 222 1).count 223 (b2n broad)
          let s := s.setNum (Num.drawn i r) ((s.num (Num.drawn i r)) ++ ts.filter (fun t => !(s.num (Num.drawn i r)).contains t))
          match s.blockWrite i r ref 0 (leBytes 3 noBlock ++ record [(1, bytesAt b 1 1 + b2n broad), (4, rec')]
              ++ (b.drop 2).take 54 ++ [0, 0]) with
          | .error e => .error e
          | .ok s => (if broad then s.broadLink i r ref else s.binAll i r d.dir ref ts).map some

/-- Bin the waiting primitives of a context until none is left or the pool is full. -/
def binQueue (s : State) (i r : Nat) (d : PassDesc) : List Bytes → Except XFault State
  | [] => .ok (s.setFifo (Fifo.prims i r) [])
  | b :: bs => match s.binPrim i r d b with
    | .error e => .error e
    | .ok none => .ok (s.setFifo (Fifo.prims i r) (b :: bs))
    | .ok (some s') => s'.binQueue i r d bs

/-- Address of the bin directory of the pass in progress: read from its descriptor. -/
def passDir (s : State) (i r : Nat) : Except XFault PassDesc := (s.cread i r (s.reg (Reg.passDesc i r)) 256).map passDescOf

/-- Bin what waits; a fault stops the context. -/
def binGo (s : State) (i r : Nat) : State :=
  match s.passDir i r with
  | .error e => s.stopFault i r .read e
  | .ok d => match s.binQueue i r d (s.fifo (Fifo.prims i r)) with
    | .error e => s.stopFault i r .write e
    | .ok s => s.ringIdle i r

/-! Rendered contents. -/

/-- Rectangle of a CLEAR packet contains a point. -/
def inRect (c : List Nat) (x y : Nat) : Bool :=
  decide (c.getD 2 0 ≤ x) && decide (x < c.getD 2 0 + c.getD 4 0) && decide (c.getD 3 0 ≤ y) && decide (y < c.getD 3 0 + c.getD 5 0)

/-- Something that a tile renders: a CLEAR packet, or a primitive with its record and its draw record. `ord` puts it in submission order: twice its block and
one more for a primitive, twice the next free block for a CLEAR. -/
structure TileItem where
  ord : Nat
  clear : List Nat
  prim : Bytes
  draw : Bytes

/-- An item is a primitive. -/
def TileItem.isPrim (it : TileItem) : Bool := it.ord % 2 == 1

/-- Group the list of CLEAR packets. -/
def clearGroups : Nat → List Nat → List TileItem
  | 0, _ => []
  | n + 1, l => if l.isEmpty then [] else ⟨2 * l.getD 6 0, l.take 6, [], []⟩ :: clearGroups n (l.drop 7)

/-- Put an item in its place in a list in rising order; equals keep their turn. -/
def itemPut (x : TileItem) : List TileItem → List TileItem
  | [] => [x]
  | y :: l => if x.ord < y.ord then x :: y :: l else y :: itemPut x l

/-- References of a chain of bin blocks, `fuel` blocks at most; the tail holds `cnt`. -/
def binChain (s : State) (i r tail cnt : Nat) : Nat → Nat → Except XFault (List Nat)
  | 0, _ => .ok []
  | fuel + 1, b =>
    if b = noBlock then .ok []
    else match s.cread i r (blockAddr (s.num (Num.pool i r)) b) 64 with
      | .error e => .error e
      | .ok d =>
        let refs := (List.range (if b = tail then cnt else 15)).map (fun k => bits (bytesAt d (4 * k) 4) 0 24)
        if b = tail then .ok refs else (s.binChain i r tail cnt fuel (bits (bytesAt d 60 4) 0 24)).map (refs ++ ·)

/-- References in the bin of tile `t`. -/
def binRefs (s : State) (i r dir t : Nat) : Except XFault (List Nat) :=
  match s.binAt i r dir t with
  | .error e => .error e
  | .ok b => (s.binChain i r b.tail b.cnt (s.reg (Reg.poolNext i r)) b.head).map
      (fun l => (if b.in0 = 0xFFFFFFFF then [] else [bits b.in0 0 24]) ++ (if b.in1 = 0xFFFFFFFF then [] else [bits b.in1 0 24]) ++ l)

/-- Blocks of the broad list from block `b` on. -/
def broadChain (s : State) (i r : Nat) : Nat → Nat → Except XFault (List Nat)
  | 0, _ => .ok []
  | fuel + 1, b =>
    if b = noBlock then .ok []
    else match s.cread i r (blockAddr (s.num (Num.pool i r)) b) 3 with
      | .error e => .error e
      | .ok d => (s.broadChain i r fuel (leNat d)).map (b :: ·)

/-- The segment's broad list. -/
def broadRefs (s : State) (i r : Nat) : Except XFault (List Nat) :=
  if s.reg (Reg.broadHead i r) = 0 then .ok [] else s.broadChain i r (s.reg (Reg.poolNext i r)) (s.reg (Reg.broadHead i r) - 1)

/-- Primitives of blocks, each with its draw record, those that touch tile (tx, ty) alone. -/
def primItems (s : State) (i r tx ty : Nat) : List Nat → Except XFault (List TileItem)
  | [] => .ok []
  | b :: bs => match s.cread i r (blockAddr (s.num (Num.pool i r)) b) 64 with
    | .error e => .error e
    | .ok p => match s.cread i r (blockAddr (s.num (Num.pool i r)) (bytesAt p 4 3)) 64 with
      | .error e => .error e
      | .ok d => (s.primItems i r tx ty bs).map (fun l =>
          if tileTouched (bits (bytesAt p 3 1) 2 2) ((p.drop 20).take 42) tx ty then ⟨2 * b + 1, [], p, d⟩ :: l else l)

/-- What tile `t` renders in this segment, in submission order (R179): its bin merged with the broad list by block number, and the CLEAR packets. A tile that a
preemption saved goes on from its next primitive (R212). -/
def tileItems (s : State) (i r : Nat) (d : PassDesc) (t : Nat) : Except XFault (List TileItem) :=
  match s.binRefs i r d.dir t, s.broadRefs i r with
  | .error e, _ => .error e
  | _, .error e => .error e
  | .ok bin, .ok broad =>
    let next := ((savedOf (s.num (Num.saved i r))).find? (fun p => p.1 == t)).map Prod.snd
    (s.primItems i r (t % d.cols) (t / d.cols) (bin ++ broad)).map (fun l =>
      ((clearGroups (s.num (Num.clears i r)).length (s.num (Num.clears i r)) ++ l).foldl (fun acc it => itemPut it acc) []).filter
        (fun it => decide (2 * next.getD 0 ≤ it.ord)))
where
  /-- The list of saved tiles as pairs. -/
  savedOf : List Nat → List (Nat × Nat)
    | t :: b :: l => (t, b) :: savedOf l
    | _ => []

/-- Metadata byte address of the compression unit that holds byte `off` of a surface, and the shift of its four bits (R197). -/
def metaAt (f : Surf) (off : Nat) : Nat × Nat := (f.meta' + off / 512, 4 * (off / 256 % 2))

/-- The metadata byte of the unit that holds byte `off` with the unit's code replaced. -/
def metaByte (s : State) (i r : Nat) (f : Surf) (off code : Nat) : Except XFault Bytes :=
  (s.cread i r (metaAt f off).1 1).map (fun b =>
    let sh := (metaAt f off).2
    [BitVec.ofNat 8 (leNat b - bits (leNat b) sh 4 * 2 ^ sh + code % 16 * 2 ^ sh)])

/-- Write the metadata code of the unit that holds byte `off` (a copy). -/
def metaWrite (s : State) (i r : Nat) (f : Surf) (off code : Nat) : Except XFault State :=
  match s.metaByte i r f off code with
  | .error e => .error e
  | .ok b => s.cwrite i r (metaAt f off).1 b

/-- Store the metadata code of the unit that holds byte `off` (a tile store). -/
def metaStore (s : State) (i r : Nat) (f : Surf) (off code : Nat) : Except XFault State :=
  match s.metaByte i r f off code with
  | .error e => .error e
  | .ok b => s.tileWrite i r (metaAt f off).1 b

/-- A texel as the renderer loads it (R198, R199): raw, a clear value, an open value of a compressed unit, or zero for a reserved code or a unit that does not
decode; and whether this is the first texel of such a unit. -/
def texelIn (s : State) (i r : Nat) (f : Surf) (x y l a p : Nat) : Except XFault (Bytes × Bool) :=
  let off := f.offset x y l a p
  match (if f.meta' = 0 then .ok 0 else (s.cread i r (metaAt f off).1 1).map (fun m => bits (leNat m) (metaAt f off).2 4)) with
  | .error e => .error e
  | .ok code =>
    if code = 0 then (s.cread i r (f.addr x y l a p) f.bytes).map (fun b => (b, false))
    else if code = 4 then .ok (leBytes f.bytes f.clear0, false)
    else if code = 5 then .ok (leBytes f.bytes f.clear1, false)
    else if 6 ≤ code then .ok (leBytes f.bytes 0, off % 256 == 0)
    else (s.cread i r (f.base + off / 256 * 256) (64 * code)).map (fun b =>
      if Config.unitDecodes code b then (leBytes f.bytes (Config.unitTexel code b (off % 256)), false) else (leBytes f.bytes 0, off % 256 == 0))

/-- Where an attachment is kept between segments (R187 steps 3 and 4): SURFACE when its store is 0 and it has one sample, SPILL otherwise. -/
def attachHome (a : Attach) : Option Surf := if a.store = 0 ∧ a.surf.samples = 1 then some a.surf else a.spill

/-- The load that a tile applies (R187 step 3): the attachment's own in the first segment, a load afterwards and for a tile that a preemption saved. -/
def tileLoad (s : State) (i r t : Nat) (a : Attach) : Nat :=
  if s.reg (Reg.passSeg i r) = 0 ∧ !((tileItems.savedOf (s.num (Num.saved i r))).any (fun p => p.1 == t)) then a.load else 0

/-- Surface that a tile loads an attachment from. -/
def tileSource (s : State) (i r t : Nat) (a : Attach) : Option Surf :=
  if s.reg (Reg.passSeg i r) = 0 ∧ !((tileItems.savedOf (s.num (Num.saved i r))).any (fun p => p.1 == t)) then some a.surf else attachHome a

/-- Load one sample of an attachment into the tile buffer. -/
def sampleIn (s : State) (i r t : Nat) (a : Attach) (x y p : Nat) : Except XFault (Bytes × Bool) :=
  if s.tileLoad i r t a = 1 then .ok (leBytes a.surf.bytes a.surf.clear0, false)
  else if s.tileLoad i r t a = 2 then .ok (leBytes a.surf.bytes (s.fresh / 2 ^ (128 * (65536 * a.idx + 65536 * 16 * (y * 16384 + x) + p))), false)
  else match s.tileSource i r t a with
    | some f => s.texelIn i r f x y 0 0 p
    | none => .ok (leBytes a.surf.bytes 0, false)

/-- Load one sample of every attachment. -/
def samplesIn (s : State) (i r t x y p : Nat) : List Attach → Except XFault (List Bytes × Nat)
  | [] => .ok ([], 0)
  | a :: as => match s.sampleIn i r t a x y p with
    | .error e => .error e
    | .ok (b, bad) => (s.samplesIn i r t x y p as).map (fun q => (b :: q.1, q.2 + b2n bad))

/-- One sample after an item: a CLEAR of its attachment over it, or the fragment work of a primitive, cut to the size of each attachment. -/
def sampleAfter (as : List Attach) (x y p : Nat) (old : List Bytes) (it : TileItem) : List Bytes :=
  let v := if it.isPrim then Config.shade it.draw it.prim x y p old else []
  as.zipIdx.map (fun q =>
    if it.isPrim then padTo q.1.surf.bytes (v.getD q.2 [])
    else if it.clear.getD 0 0 = q.1.idx ∧ inRect it.clear x y then
      leBytes q.1.surf.bytes (if it.clear.getD 1 0 = 0 then q.1.surf.clear0 else q.1.surf.clear1)
    else old.getD q.2 [])

/-- One sample of a tile as its buffer holds it: column, row, sample, and the bytes of each attachment. -/
abbrev TileSample : Type := Nat × Nat × Nat × List Bytes

/-- Samples of tile `t` inside a target, loaded and rendered, and how many compression units did not decode. -/
def samplesOf (s : State) (i r : Nat) (as : List Attach) (items : List TileItem) (t : Nat) : List (Nat × Nat × Nat) → Except XFault (List TileSample × Nat)
  | [] => .ok ([], 0)
  | (x, y, p) :: l => match s.samplesIn i r t x y p as with
    | .error e => .error e
    | .ok (v, bad) => (s.samplesOf i r as items t l).map (fun q => ((x, y, p, items.foldl (sampleAfter as x y p) v) :: q.1, q.2 + bad))

/-- Texels of tile `t` inside a target. -/
def tileTexels (w h cols t : Nat) : List (Nat × Nat) :=
  ((List.range 32).flatMap (fun y => (List.range 32).map (fun x => (32 * (t % cols) + x, 32 * (t / cols) + y)))).filter
    (fun p => decide (p.1 < w) && decide (p.2 < h))

/-- Compression units that did not decode (R199): each is counted, META_INVALID is raised once per pass. -/
def metaBad (s : State) (i r n : Nat) : State :=
  if n = 0 then s
  else
    let s := s.addReg Obj.metaErrors 32 n
    if s.reg (Reg.passMeta i r) = 1 then s
    else (s.setReg (Reg.passMeta i r) 1).raise [.inst i] U.nim St.metaInvalid (s.instWorld i) 2 []

/-- A texel to store: column, row, sample, bytes, and the clear value that is known to stand there, if any. -/
abbrev TexelOut : Type := Nat × Nat × Nat × Bytes × Option Nat

/-- Store one compression unit (R198): a clear code alone where every texel is cleared, else a free code and free bytes, for the encoding is not architectural;
nothing where its texels were loaded from it and not touched. -/
def unitOut (s : State) (i r : Nat) (f : Surf) (own drawn : Bool) (u : Nat) (l : List TexelOut) : Except XFault State :=
  let sels := (l.filter (fun q => f.offset q.1 q.2.1 0 0 q.2.2.1 / 256 == u)).map (fun q => q.2.2.2.2)
  match sels.headD none with
  | some c => if !drawn ∧ sels.all (· == some c) then s.metaStore i r f (256 * u) (4 + c) else free s
  | none => if !drawn ∧ own ∧ sels.all (· == none) then .ok s else free s
where
  /-- A free code that is no reserved one, and free bytes. -/
  free (s : State) : Except XFault State :=
    match s.metaStore i r f (256 * u) (s.fresh % 6) with
    | .error e => .error e
    | .ok s => s.tick.tileWrite i r (f.base + 256 * u) (leBytes 256 (s.fresh / 6))

/-- Store the units of a compressed surface. -/
def unitsOut (s : State) (i r : Nat) (f : Surf) (own drawn : Bool) (l : List TexelOut) : List Nat → Except XFault State
  | [] => .ok s
  | u :: us => match s.unitOut i r f own drawn u l with
    | .error e => .error e
    | .ok s => s.unitsOut i r f own drawn l us

/-- Store the texels of an uncompressed surface. -/
def rawOut (s : State) (i r : Nat) (f : Surf) : List TexelOut → Except XFault State
  | [] => .ok s
  | (x, y, p, b, _) :: l => match s.tileWrite i r (f.addr x y 0 0 p) b with
    | .error e => .error e
    | .ok s => s.rawOut i r f l

/-- Store texels to a surface. `own` says that they were loaded from it, `drawn` that a primitive touched the tile. -/
def texelsOut (s : State) (i r : Nat) (f : Surf) (own drawn : Bool) (l : List TexelOut) : Except XFault State :=
  if f.meta' = 0 then s.rawOut i r f l else s.unitsOut i r f own drawn l (l.map (fun q => f.offset q.1 q.2.1 0 0 q.2.2.1 / 256)).dedup

/-- The clear value that stands at a texel of an attachment after the tile's items: that of the last CLEAR over it, or CLEAR0 of a clear load. -/
def clearSel (items : List TileItem) (idx load x y : Nat) : Option Nat :=
  match (items.filter (fun it => !it.isPrim && it.clear.getD 0 0 == idx && inRect it.clear x y)).getLast? with
  | some c => some (b2n (c.clear.getD 1 0 != 0))
  | none => if load = 1 then some 0 else none

/-- Where a rendered tile goes: a surface, and whether its samples are resolved on the way. -/
abbrev StorePlan : Type := List (Surf × Bool)

/-- Store attachment number `k` of the pass's list from a rendered tile as a plan says. -/
def tileOut (s : State) (i r : Nat) (a : Attach) (k load : Nat) (src : Option Surf) (items : List TileItem) (v : List TileSample) : StorePlan → Except XFault State
  | [] => .ok s
  | (f, res) :: l =>
    let drawn := items.any TileItem.isPrim
    let plain := v.map (fun q => (q.1, q.2.1, q.2.2.1, q.2.2.2.getD k [],
      if f.clear0 = a.surf.clear0 ∧ f.clear1 = a.surf.clear1 then clearSel items a.idx load q.1 q.2.1 else none))
    let folded := (v.filter (fun q => q.2.2.1 == 0)).map (fun q => (q.1, q.2.1, 0,
      padTo f.bytes (Config.resolved a.surf.fmt ((v.filter (fun p => p.1 == q.1 && p.2.1 == q.2.1)).map (fun p => p.2.2.2.getD k []))), none))
    match s.texelsOut i r f (!res && load == 0 && src == some f) (res || drawn) (if res then folded else plain) with
    | .error e => .error e
    | .ok s => s.tileOut i r a k load src items v l

/-- Store every attachment of a rendered tile. -/
def tileOuts (s : State) (i r : Nat) (plan : Attach → StorePlan) (loads : Attach → Nat) (srcs : Attach → Option Surf) (items : List TileItem) (v : List TileSample) :
    List (Attach × Nat) → Except XFault State
  | [] => .ok s
  | (a, k) :: l => match s.tileOut i r a k (loads a) (srcs a) items v (plan a) with
    | .error e => .error e
    | .ok s => s.tileOuts i r plan loads srcs items v l

/-- One tile (R174, R179, R187): its buffer is loaded, every item up to block `upTo` is rendered in it in order, and it is stored. `n` is the tile's turn: the
raster units take tiles in turn, each in its two buffers by turns (the model's choice, log 46). -/
def renderTile (s : State) (i r : Nat) (d : PassDesc) (as : List Attach) (plan : Attach → StorePlan) (upTo : Option Nat) (n t : Nat) : Except (Acc × XFault) State :=
  match s.tileItems i r d t with
  | .error e => .error (.read, e)
  | .ok its =>
    let items := its.filter (fun it => match upTo with
      | some b => decide (it.ord < 2 * b)
      | none => true)
    let texels := (List.range (max 1 d.samples)).flatMap (fun p => (tileTexels d.w d.h d.cols t).map (fun q => (q.1, q.2, p)))
    match s.samplesOf i r as items t texels with
    | .error e => .error (.read, e)
    | .ok (v, bad) =>
      let loads := s.tileLoad i r t
      let srcs := s.tileSource i r t
      let s := (s.tick.metaBad i r bad).setNum (Num.tileBuf (n % 8) (n / 8 % 2)) ((8 * i + r) :: t :: v.flatMap (fun q => q.2.2.2.flatten.map BitVec.toNat))
      (s.tileOuts i r plan loads srcs items v as.zipIdx).mapError (fun e => (Acc.write, e))

/-- Render tiles in turn. -/
def renderTiles (s : State) (i r : Nat) (d : PassDesc) (as : List Attach) (plan : Nat → Attach → StorePlan) (upTo : Nat → Option Nat) :
    List (Nat × Nat) → Except (Acc × XFault) State
  | [] => .ok s
  | (t, n) :: l => match s.renderTile i r d as (plan t) (upTo t) n t with
    | .error e => .error e
    | .ok s => s.renderTiles i r d as plan upTo l

/-- Stores of a partial flush (R187 step 4): every attachment at full precision, with unresolved samples. -/
def flushPlan (a : Attach) : StorePlan := ((attachHome a).map (fun f => (f, false))).toList

/-- Stores at the end of a pass: store to SURFACE, nothing for discard, a resolve to the RESOLVE target. `rendered` says that the last segment renders the
tile; of another only what SPILL holds is still to be stored. -/
def endPlan (rendered : Bool) (a : Attach) : StorePlan :=
  if a.store = 0 then (if rendered ∨ a.surf.samples ≠ 1 then [(a.surf, false)] else [])
  else if a.store = 2 then (a.target.map (fun f => (f, true))).toList
  else []

/-- Tiles rendered by a segment: in the first every tile, later those whose bin holds a reference or that a broad primitive touches (`drawn` lists both), those
a CLEAR reaches and those a preemption saved. -/
def flushTiles (s : State) (i r : Nat) : List Nat :=
  if s.reg (Reg.passSeg i r) = 0 ∨ s.num (Num.clears i r) ≠ [] then List.range (s.reg (Reg.passTiles i r))
  else (List.range (s.reg (Reg.passTiles i r))).filter (fun t =>
    (s.num (Num.drawn i r)).contains t || (tileItems.savedOf (s.num (Num.saved i r))).any (fun p => p.1 == t))

/-- Empty the directory entries of tiles. -/
def emptyTiles (s : State) (i r dir : Nat) : List Nat → Except XFault State
  | [] => .ok s
  | t :: ts => match s.cwrite i r (dir + 16 * t) emptyEntry with
    | .error e => .error e
    | .ok s => s.emptyTiles i r dir ts

/-- The pass descriptor of the pass in progress and its attachments. -/
def passParts (s : State) (i r : Nat) : Except XFault (PassDesc × List Attach) :=
  match s.cread i r (s.reg (Reg.passDesc i r)) 256 with
  | .error e => .error e
  | .ok desc => (s.attachments i r desc).map (fun as => (passDescOf desc, as))

/-- A new segment opens: the pool is free, no tile is drawn, cleared or saved, no flush is due (R187 step 5). -/
def segmentOpen (s : State) (i r seg : Nat) : State :=
  (((s.setNum (Num.drawn i r) []).setNum (Num.clears i r) []).setNum (Num.saved i r) []).setRegs
    [(Reg.passSeg i r, seg), (Reg.poolNext i r, 0), (Reg.drawRec i r, 0), (Reg.broadHead i r, 0), (Reg.broadTail i r, 0),
      (Reg.nimWait i r, 0), (Reg.nimWaitDue i r, 0), (Reg.nimFlush i r, 0)]

/-- A partial flush (R187): render and store the tiles, empty their entries, free the pool, raise PARTIAL_FLUSH, and go on binning. -/
def partialFlush (s : State) (i r reason : Nat) : State :=
  match s.passParts i r with
  | .error e => s.stopFault i r .read e
  | .ok (d, as) =>
    let tiles := s.flushTiles i r
    match s.renderTiles i r d as (fun _ => flushPlan) (fun _ => none) tiles.zipIdx with
    | .error e => s.stopFault i r e.1 e.2
    | .ok s => match s.emptyTiles i r d.dir tiles with
      | .error e => s.stopFault i r .write e
      | .ok s =>
        let seg := s.reg (Reg.passSeg i r) + 1
        let s := ((((s.segmentOpen i r seg).bump Obj.partialFlushes 32).count (491 + 4 * i) 1).count 227 1).count 224 tiles.length
        let s := s.raise [.inst i] U.nim St.partialFlush (s.instWorld i) 1
          [(2, s.reg (Reg.ringCtx i r)), (4, s.reg (Reg.passNum i r)), (1, reason), (1, min 255 seg), (4, tiles.length), (2, 0)]
        s.binGo i r

/-- The stores at the end of a pass (R187): the last segment renders as a flush does, and each attachment's store operation applies to every tile. -/
def passStores (s : State) (i r : Nat) (d : PassDesc) (as : List Attach) : Except (Acc × XFault) State :=
  let last := s.flushTiles i r
  s.renderTiles i r d as (fun t => endPlan (last.contains t)) (fun _ => none) (List.range (s.reg (Reg.passTiles i r))).zipIdx

/-- The renderer carries out a partial flush now where it runs the context or none, else when it next runs the context, before any further binning (R185).
Until then the context waits, and what its driver offers stays OFFERED (R184). -/
def flushNow (s : State) (i r reason : Nat) : State :=
  if s.reg Reg.nimCur = 8 * i + r + 1 ∨ s.reg Reg.nimCur = 0 then (s.setReg Reg.nimCur (8 * i + r + 1)).partialFlush i r reason
  else s.setRegs [(Reg.nimWait i r, 4), (Reg.nimWaitDue i r, 0), (Reg.nimFlush i r, reason)]

/-- Payload of BIN_FAULT (R182). -/
def binPayload (s : State) (i r : Nat) (used : Nat) : List (Nat × Nat) :=
  [(2, s.reg (Reg.ringCtx i r)), (4, s.reg (Reg.passNum i r)), (4, s.poolKiB i r), (2, used), (2, min 65535 (s.reg (Reg.passSeg i r)))]

/-- Entries TAKEN or REJECTED. -/
def extUsed (l : List (Nat × Nat × Nat)) : Nat := l.countP (fun x => x.2.2 == 2 || x.2.2 == 3)

/-- Act on the OFFERED entries of the extension table in entry order (R181): the state after it and how many were taken. -/
def extTake (s : State) (i r ext : Nat) : Nat → List (Nat × Nat × Nat) → Except XFault (State × Nat)
  | _, [] => .ok (s, 0)
  | n, (a, sz, st) :: l =>
    if st ≠ 1 then s.extTake i r ext (n + 1) l
    else
      let bad := a % 65536 ≠ 0 ∨ sz = 0 ∨ 16384 < sz ∨ 0x1000000 < poolBlocks (s.num (Num.pool i r)) + 1024 * sz
      match s.cwrite i r (ext + 16 * n + 12) (leBytes 4 (if bad then 3 else 2)) with
      | .error e => .error e
      | .ok s =>
        if bad then
          (s.raise [.inst i] U.nim St.extensionInvalid (s.instWorld i) 2 []).extTake i r ext (n + 1) l
        else
          match ((s.setNum (Num.pool i r) (s.num (Num.pool i r) ++ [a, 1024 * sz])).poolPeak i r).extTake i r ext (n + 1) l with
          | .error e => .error e
          | .ok (s, k) => .ok (s, k + 1)

/-- Read the extension table of the pass and take what it offers. -/
def extRead (s : State) (i r : Nat) : Except XFault (State × Nat × List (Nat × Nat × Nat) × Nat) :=
  match s.passDir i r with
  | .error e => .error e
  | .ok d => match s.extTable i r d.ext (List.range 16) with
    | .error e => .error e
    | .ok t => match s.extTake i r d.ext 0 t with
      | .error e => .error e
      | .ok (s, k) => match s.extTable i r d.ext (List.range 16) with
        | .error e => .error e
        | .ok t' => .ok (s, k, t', d.ext)

/-- The pool has no block left (R181): extensions are taken, or a partial flush or a bin fault follows. -/
def poolFull (s : State) (i r : Nat) : State :=
  match s.extRead i r with
  | .error e => s.stopFault i r .read e
  | .ok (s, k, t, _) =>
    if 0 < k then s.binGo i r
    else if s.reg (Reg.passFlat i r) = 1 then s.partialFlush i r 5
    else if 0x100000 - 64 ≤ s.poolKiB i r ∨ extUsed t = 16 then s.partialFlush i r 3
    else
      let s := (s.bump Obj.binFaults 32).count (490 + 4 * i) 1
      let s := s.setRegs [(Reg.nimWait i r, 3), (Reg.nimWaitDue i r, s.now + 1000 * s.reg Obj.binFaultTimeoutUs)]
      s.raise [.inst i] U.nim St.binFault (s.instWorld i) 1 (s.binPayload i r (extUsed t))

/-- Re-read the table during a bin fault (R183): growth, a decline, or the pause goes on. `last` marks the read at the timer's expiry
(R184), after which the pass flushes with reason 1. Binning goes on when the renderer runs the context. -/
def extReread (s : State) (i r : Nat) (last : Bool) : State :=
  match s.extRead i r with
  | .error e => s.stopFault i r .read e
  | .ok (s, k, t, ext) =>
    if 0 < k then
      let s := s.setRegs [(Reg.nimWait i r, 0), (Reg.nimWaitDue i r, 0)]
      let s := s.raise [.inst i] U.nim St.binGrown (s.instWorld i) 0 (s.binPayload i r (extUsed t))
      if s.reg Reg.nimCur = 8 * i + r + 1 then s.binGo i r else s
    else match (List.range 16).find? (fun n => (t.getD n (0, 0, 0)).2.2 == 4) with
      | some n => match s.cwrite i r (ext + 16 * n + 12) (leBytes 4 0) with
        | .error e => s.stopFault i r .write e
        | .ok s => s.flushNow i r 2
      | none => if last then s.flushNow i r 1 else s

/-! Choice of the next context (R211). -/

/-- Renderer rings, as 8 i + r. -/
def nimRings : List Nat := (List.range 48).flatMap (fun i => (List.range 4).map (fun r => 8 * i + r))

/-- A context can use the renderer: words or primitives to take, and nothing it waits for. -/
def nimRunnable (s : State) (x : Nat) : Bool :=
  let i := x / 8
  let r := x % 8
  (s.ringRuns i r || (s.reg (Obj.instState i) == 1 && s.reg (Reg.ringState i r) == 1 && s.reg (Reg.nimPass i r) == 1))
    && (s.reg (Reg.nimWait i r) == 0 || s.reg (Reg.nimFlush i r) != 0)
    && (s.ringWaiting i r != 0 || !(s.fifo (Fifo.prims i r)).isEmpty || s.reg (Reg.nimFlush i r) != 0)

/-- Renderer reservation in force of a world, M steps/s: its reservations, or the least amount of an open yield. -/
def rendererOf (s : State) (w : Nat) : Nat :=
  s.amountIn w 1 (s.worldSum Reg.resRenderer w)

/-- Steps a world has used in the present 1 ms window. -/
def nimUsedNow (s : State) (w : Nat) : Nat := if s.reg (Reg.nimUsedWin w) = s.now / 1000000 then s.reg (Reg.nimUsed w) else 0

/-- Count steps of a world. -/
def nimUse (s : State) (w n : Nat) : State :=
  s.setRegs [(Reg.nimUsed w, s.nimUsedNow w + n), (Reg.nimUsedWin w, s.now / 1000000)]

/-- Steps the flattening context of head `n` has used in the head's present frame. -/
def flatUsedNow (s : State) (n : Nat) : Nat := if s.reg (Reg.flatUsedFrame n) = s.reg (Obj.headFrame n) then s.reg (Reg.flatUsed n) else 0

/-- Count steps of a flattening context in its head's frame. -/
def flatUse (s : State) (n k : Nat) : State :=
  s.setRegs [(Reg.flatUsed n, s.flatUsedNow n + k), (Reg.flatUsedFrame n, s.reg (Obj.headFrame n))]

/-- The context (8 i + r) belongs to a head. -/
def isFlat (s : State) (x : Nat) : Bool := decide (0x3F8 ≤ s.reg (Reg.ringCtx (x / 8) (x % 8)))

/-- A flattening context within FlattenStepsPerFrame; beyond it its work runs at rank 5 (R214). -/
def flatFirst (s : State) (x : Nat) : Bool :=
  let n := s.reg (Reg.ringCtx (x / 8) (x % 8)) - 0x3F8
  s.isFlat x && decide (s.flatUsedNow n < 1000 * s.reg (Obj.flattenStepsPerFrame n))

/-- Time of the next commit line of the head of a flattening context: its period after its last. -/
def flatDue (s : State) (x : Nat) : Nat :=
  let n := s.reg (Reg.ringCtx (x / 8) (x % 8)) - 0x3F8
  s.reg (Reg.lineAt n) + Head.periodPsOf s n / 1000
where
  /-- Frame period of a head, ps. -/
  Head.periodPsOf (s : State) (n : Nat) : Nat :=
    if s.reg (Obj.frameRateMhz n) = 0 then 0 else 1000000000000000 / s.reg (Obj.frameRateMhz n)

/-- The member of a list with the least measure, the first among equals. -/
def leastBy (f : Nat → Nat) (l : List Nat) : Option Nat :=
  l.foldl (fun b x => match b with
    | none => some x
    | some y => if f x < f y then some x else b) none

/-- Distance of `x` after `p` round a ring of `n`. -/
def after' (p x n : Nat) : Nat := (x + 2 * n - p - 1) % n

/-- The context that gets the renderer (R211): flattening contexts, the soonest commit line first; then worlds within their reservation; then the
rest in round robin; within a world the highest PRIORITY, equals in turn. -/
def nimChoose (s : State) : Option Nat :=
  let run := nimRings.filter s.nimRunnable
  let flat := run.filter s.flatFirst
  match leastBy s.flatDue flat with
  | some x => some x
  | none =>
    let world := fun x => s.instWorld (x / 8)
    let r4 := run.filter (fun x => !s.isFlat x && decide (s.nimUsedNow (world x) < 1000 * s.rendererOf (world x)))
    let l := if r4.isEmpty then run else r4
    match leastBy (fun x => after' (s.reg Reg.nimTurn) (world x) 64) l with
    | none => none
    | some y =>
      let w := world y
      let own := l.filter (fun x => world x == w)
      let top := own.foldl (fun m x => max m (s.reg (Reg.nimPrio (x / 8) (x % 8)))) 0
      leastBy (fun x => after' (s.reg (Reg.nimTurnIn w)) (x + 1) 1024)
        (own.filter (fun x => s.reg (Reg.nimPrio (x / 8) (x % 8)) == top))

/-- The preemption under way is over; PreemptWorstNs keeps the longest (R212). -/
def preempted (s : State) : State :=
  let t := s.reg Reg.nimPreemptAt
  if t = 0 then s else s.setRegs [(Obj.preemptWorstNs, max (s.reg Obj.preemptWorstNs) (s.now + 1 - t)), (Reg.nimPreemptAt, 0)]

/-- Give the renderer to the chosen context. A partial flush that fell due while the context was away is made before any further binning (R185); then what waits
to be binned is. -/
def nimSchedule (s : State) : State :=
  match s.nimChoose with
  | none => s.setReg Reg.nimCur 0
  | some x =>
    let w := s.instWorld (x / 8)
    let s := s.setRegs [(Reg.nimCur, x + 1), (Reg.nimTurn, w), (Reg.nimTurnIn w, x + 1), (Reg.nimSince, s.now)]
    if s.reg (Reg.nimFlush (x / 8) (x % 8)) ≠ 0 then s.partialFlush (x / 8) (x % 8) (s.reg (Reg.nimFlush (x / 8) (x % 8)))
    else if s.fifo (Fifo.prims (x / 8) (x % 8)) = [] then s else s.binGo (x / 8) (x % 8)

/-- What becomes of a packet after a pass that was resolved as dropped (R430): the packets of the pass are skipped up to its end, the others act. -/
def skipped (i r : Nat) (f : State → Pkt → State) (s : State) (p : Pkt) : State :=
  if p.op = 0x01 then s.stopRing i r St.packetOrder
  else if p.op = 0x02 then (s.setReg (Reg.passSkip i r) 0).ringDone i r p
  else if (0x05 ≤ p.op ∧ p.op ≤ 0x07) ∨ (0x0A ≤ p.op ∧ p.op ≤ 0x0C) then s.ringDone i r p
  else f s p

/-- A renderer packet of ring (i, r): the ring's kind allows the packet, and the context holds the renderer (a free renderer is taken). Copy rings
are served by the copy engine. `cp` and `rn` say on which kinds the packet is allowed. -/
def onNim (s : State) (i r op : Nat) (rn cp : Bool) (f : State → Pkt → State) : State :=
  if !rendererRing r then s
  else s.onPacket i r op (fun s p =>
    let f := if s.reg (Reg.passSkip i r) = 1 then skipped i r f else f
    if (r = 7 ∧ !cp) ∨ (r < 4 ∧ !rn) then s.stopRing i r St.packetContext
    else if r = 7 then f s p
    else if s.reg Reg.nimCur = 8 * i + r + 1 then f s p
    else if s.reg Reg.nimCur = 0 then f (s.setRegs [(Reg.nimCur, 8 * i + r + 1), (Reg.nimSince, s.now)]) p
    else s)

/-- The context waits for nothing and has no primitive left to bin. -/
def ctxFree (s : State) (i r : Nat) : Bool := s.reg (Reg.nimWait i r) == 0 && (s.fifo (Fifo.prims i r)).isEmpty

/-- Rank 4 and 5 work: every context but a flattening one. -/
def rank45 (s : State) (i r : Nat) : Bool := decide (s.reg (Reg.ringCtx i r) < 0x3F8)

/-- Copy `n` bytes in rising order; a fault ends the copy, with the bytes before it in place. Where the ranges overlap the result is
open: free values are written (log 5). -/
def copyBytes (i r src dst : Nat) (free : Option Nat) : Nat → State → State × Option (Acc × XFault)
  | 0, s => (s, none)
  | n + 1, s => match s.cread i r src 1 with
    | .error e => (s, some (.read, e))
    | .ok b => match s.cwrite i r dst (match free with
        | none => b
        | some x => leBytes 1 x) with
      | .error e => (s, some (.write, e))
      | .ok s => copyBytes i r (src + 1) (dst + 1) (free.map (· / 256)) n s

/-- Fill `n` bytes with the bytes of a 32-bit value, in rising order. -/
def fillBytes (i r dst v : Nat) : Nat → Nat → State → State × Option XFault
  | 0, _, s => (s, none)
  | n + 1, k, s => match s.cwrite i r dst (leBytes 1 (v / 256 ^ (k % 4))) with
    | .error e => (s, some e)
    | .ok s => fillBytes i r (dst + 1) v n (k + 1) s

/-- Copy one texel between surfaces (COPY_SURFACE), and count a unit of the source that does not decode (R199); a compressed destination's unit takes
code 0 (R198). -/
def copyTexel (s : State) (i r : Nat) (f g : Surf) (x y fl fa fp gl ga gp : Nat) : Except (Acc × XFault) State :=
  match s.texelIn i r f x y fl fa fp with
  | .error e => .error (.read, e)
  | .ok (b, bad) => match (s.metaBad i r (b2n bad)).cwrite i r (g.addr x y gl ga gp) b with
    | .error e => .error (.write, e)
    | .ok s => if g.meta' = 0 then .ok s else (s.metaWrite i r g (g.offset x y gl ga gp) 0).mapError (fun e => (Acc.write, e))

/-- Copy the texels of a rectangle in rows; a fault ends the copy. -/
def copyTexels (i r : Nat) (f g : Surf) (fs gs : Nat × Nat × Nat) : List (Nat × Nat) → State → State × Option (Acc × XFault)
  | [], s => (s, none)
  | (x, y) :: l, s => match s.copyTexel i r f g x y fs.1 fs.2.1 fs.2.2 gs.1 gs.2.1 gs.2.2 with
    | .error e => (s, some e)
    | .ok s => copyTexels i r f g fs gs l s

/-- Pipeline record of a handle. -/
def pipeOf (s : State) (h : Nat) : List Nat := s.num (Num.pipe h)

/-- A new pipeline handle of 32 bits, not in use: its value is open (log 5). -/
def newPipe (s : State) : Nat :=
  match (List.range 65536).find? (fun k => (s.pipeOf ((s.fresh + k) % 2 ^ 32)).isEmpty) with
  | some k => (s.fresh + k) % 2 ^ 32
  | none => s.fresh % 2 ^ 32

/-- NIM F rate in M steps/s carried by the clusters alive (R72, R516). -/
def nimRate (s : State) : Nat := 950 * s.reg Obj.clustersAlive / 24

/-- Flattening demand admitted, M steps/s rounded up: FlattenStepsPerFrame of every head at its frame rate (R516). -/
def flattenDemand (s : State) (v : Nat → Nat) : Nat :=
  ceilDiv ((List.range 8).foldl (fun a n => a + v (Obj.flattenStepsPerFrame n) * s.reg (Obj.frameRateMhz n)) 0) 1000000

/-- Renderer reservations of every world, M steps/s. -/
def rendererTotal (s : State) : Nat := (List.range 56).foldl (fun a i => a + s.reg (Reg.resRenderer i)) 0

/-- The renderer admits a reservation for instance `i` in place of its present one (R516). -/
def rendererAdmits (s : State) (i amount : Nat) : Bool :=
  decide (s.rendererTotal - s.reg (Reg.resRenderer i) + amount + s.flattenDemand s.reg ≤ s.nimRate)

/-! Flattening (R215, R216). -/

/-- Guest space address of a guest virtual address (the output of stage 1). -/
def gsaOf (s : State) (w root va : Nat) : Option Nat :=
  if root = 0 then some va
  else match s.s1Walk w va 4 0 (root - 1) with
    | .ok l => some l.addr
    | .error _ => none

/-- `len` bytes from `va` lie wholly within the scan-out pool of a layer, page by page. -/
def rangeInPool (s : State) (i r n l va len : Nat) : Bool :=
  let base := s.reg (Obj.layerPoolGsa n l)
  let size := frameBytes * s.reg (Reg.poolSize n l)
  (List.range (ceilDiv (va % 4096 + len) 4096)).all (fun k =>
    match s.gsaOf (s.instWorld i) (s.reg (Reg.s1Root i r)) (va / 4096 * 4096 + 4096 * k) with
    | some g => decide (base ≤ g) && decide (g < base + size)
    | none => false)

/-- A surface and its metadata lie wholly within the scan-out pool of a layer. -/
def inPool (s : State) (i r n l : Nat) (f : Surf) : Bool :=
  s.rangeInPool i r n l f.base f.span && (f.meta' == 0 || s.rangeInPool i r n l f.meta' (ceilDiv f.span 512))

/-- A surface can be flattened output of head `n` (R215): single-sampled, block layout, a format of layer 7, its size, and wholly inside the pool of
layer 7. -/
def flatUsable (s : State) (i r n : Nat) (f : Surf) : Bool :=
  let lf := s.reg (Obj.layerFormat n 7)
  let fmts := if lf = 1 ∨ lf = 2 then [5, 6] else if lf = 3 then [7] else if lf = 4 then [8] else []
  f.status false false == St.ok && f.samples == 1 && f.layout == 0 && fmts.contains f.fmt && s.inPool i r n 7 f

/-- A frame number `a` is at or before `b` by serial-number arithmetic. -/
def serialLe (a b : Nat) : Bool := decide ((b + 2 ^ 32 - a) % 2 ^ 32 < 2 ^ 31)

/-- What a head keeps of a surface it will show: instance, ring, and the descriptor's bytes. -/
def shownOf (s : State) (i r va : Nat) : List Nat := match s.cread i r va 64 with
  | .ok b => i :: r :: b.map BitVec.toNat
  | .error _ => []

/-- A flattened present of head `n` for frame `fr` completes (R215, R216). It is on time when it comes before the commit line that opens the frame. -/
def flatPresent (s : State) (n i r va fr : Nat) : State :=
  let s := s.setNum (Num.flatNextShown n) (s.shownOf i r va)
  let cur := s.reg (Obj.headFrame n)
  let w := s.instWorld i
  if !serialLe fr cur then
    let s := s.setRegs [(Reg.flatNext n, va + 1), (Reg.flatNextFrame n, fr), (Reg.flatLate n, 0)]
    s.yieldClose U.nim (.head n) w 5 (s.reg (Reg.yieldRes w (YieldBy.key (.head n) 5)))
  else
    let s := (s.setRegs [(Reg.flatNext n, va + 1), (Reg.flatNextFrame n, fr), (Reg.flatLate n, 1)]).bump (Obj.flattenLate n) 32
    let s := s.raise [.inst i] U.nim St.flattenLate w 2 []
    if s.yieldIsOpen (.head n) w 5 then s
    else
      let rate := s.reg (Obj.frameRateMhz n)
      let period := if rate = 0 then 0 else (1000000000 + rate / 2) / rate
      let late := (s.now - (s.reg (Reg.lineAt n) - 1)) / 1000 + period * ((cur + 2 ^ 32 - fr) % 2 ^ 32)
      s.yieldOpen U.nim (.head n) w 5 3 period late 0xFFFFFFFF

end State
end Sys2Proof.Machine
end

