-- ==== Sys2Proof/Machine/BuntingOps.lean ====
section
/-!
DEFINITION. Machine/BuntingOps.lean: composition (chapter 9): the checks of a head's configuration, fetch admission, scan-out pools, flip groups, faults
during scan-out, the sunlight boost.
-/
namespace Sys2Proof.Machine

/-! Queues of flips: records of layer, surface descriptor, acquire fence and value, release fence and value. -/
namespace Fifo
/-- Flips gathered by instance `i` for head `n` and not yet committed (R228). -/
abbrev flipOpen (i n : Nat) : Nat := 0x2000 + 8 * i + n
/-- Pending flip group of world `w` on head `n` (R231). -/
abbrev flipPend (w n : Nat) : Nat := 0x3000 + 8 * w + n
end Fifo

/-! Fields of a flip record. -/
namespace Flip
/-- Layer. -/
abbrev layer (b : Bytes) : Nat := bytesAt b 0 1
/-- Surface descriptor address. -/
abbrev surf (b : Bytes) : Nat := bytesAt b 1 8
/-- Acquire fence address. -/
abbrev acq (b : Bytes) : Nat := bytesAt b 9 8
/-- Acquire value. -/
abbrev acqVal (b : Bytes) : Nat := bytesAt b 17 8
/-- Release fence address. -/
abbrev rel (b : Bytes) : Nat := bytesAt b 25 8
/-- Release value. -/
abbrev relVal (b : Bytes) : Nat := bytesAt b 33 8
/-- A record. -/
def mk (layer surf acq acqVal rel relVal : Nat) : Bytes :=
  record [(1, layer), (8, surf), (8, acq), (8, acqVal), (8, rel), (8, relVal)]
end Flip

namespace Comp

/-- Round down to a multiple. -/
def down (a x : Nat) : Nat := x / a * a

/-- Round up to a multiple. -/
def up (a x : Nat) : Nat := ceilDiv x a * a

/-- Enabled layers of a head in ascending number. -/
def layers (v : Nat → Nat) (n : Nat) : List Nat := (List.range 8).filter (fun l => v (Obj.layerEnable n l) == 1)

/-- Layer formats that a kind of layer takes (table Layer formats). -/
def formatOk (f : Nat) (video : Bool) : Bool := (decide (1 ≤ f) && decide (f ≤ 4)) || (video && (f == 0x10 || f == 0x11))

/-- Bytes per pixel of the first plane. -/
def planeBpp (f : Nat) : Nat := if f = 3 then 2 else if f = 0x10 then 1 else if f = 0x11 then 2 else 4

/-- Crop of a layer as x, y, x end, y end, widened for a video layer by its taps (8 columns: 3 left, 4 right; 6 rows: 2 above, 3 below)
and clipped to the surface (R236). -/
def crop (v : Nat → Nat) (n l : Nat) : Nat × Nat × Nat × Nat :=
  let x := v (Obj.layerCropX n l)
  let y := v (Obj.layerCropY n l)
  let x' := x + v (Obj.layerCropW n l)
  let y' := y + v (Obj.layerCropH n l)
  if Head.videoLayer v n l then
    (x - 3, y - 2, min (x' + 4) (v (Obj.layerSrcWidth n l)), min (y' + 3) (v (Obj.layerSrcHeight n l)))
  else (x, y, x', y')

/-- Counted bytes of a block layout whose units are `a` by `b` pixels. -/
def countBlock (c : Nat × Nat × Nat × Nat) (a b bpp : Nat) : Nat :=
  (up a c.2.2.1 - down a c.1) * (up b c.2.2.2 - down b c.2.1) * bpp

/-- Counted bytes of a linear layout, with the chroma plane of NV12 and P010 (R236). -/
def countLinear (c : Nat × Nat × Nat × Nat) (f srcH : Nat) : Nat :=
  let bpp := planeBpp f
  let span := up 64 (c.2.2.1 * bpp) - down 64 (c.1 * bpp)
  let rows := c.2.2.2 - c.2.1
  span * rows + (if f = 0x10 ∨ f = 0x11 then span * min ((rows + 1) / 2) (srcH / 2) else 0)

/-- Counted bytes of one layer (R236). `lay` is the layout of the surface shown: 0 block, 1 linear, 2 compressed block; 3 for a layer without
a surface, which counts at the most its format allows. -/
def count (v : Nat → Nat) (n l lay : Nat) : Nat :=
  let f := v (Obj.layerFormat n l)
  let c := crop v n l
  let (mw, mh) := microShape (planeBpp f)
  let lin := countLinear c f (v (Obj.layerSrcHeight n l))
  let blk := countBlock c mw mh (planeBpp f)
  let cmp := countBlock c (2 * mw) (2 * mh) (planeBpp f)
  if f = 0x10 ∨ f = 0x11 then lin
  else if lay = 0 then blk else if lay = 1 then lin else if lay = 2 then cmp else max lin cmp

/-- The first two equal z-orders of enabled layers: the later layer. -/
def dupZ (v : Nat → Nat) (n : Nat) : Option Nat :=
  let ls := layers v n
  ls.find? (fun l => ls.any (fun m => decide (m < l) && v (Obj.layerZOrder n m) == v (Obj.layerZOrder n l)))

/-- Geometry of R219 of one layer. -/
def checkGeometry (v : Nat → Nat) (n l : Nat) : Check :=
  let bad := St.layerGeometry
  firstOf [
    failIf (v (Obj.layerSrcWidth n l) == 0 || decide (16384 < v (Obj.layerSrcWidth n l))) bad (Obj.layerSrcWidth n l),
    failIf (v (Obj.layerSrcHeight n l) == 0 || decide (16384 < v (Obj.layerSrcHeight n l))) bad (Obj.layerSrcHeight n l),
    failIf (v (Obj.layerCropW n l) == 0 || decide (v (Obj.layerSrcWidth n l) < v (Obj.layerCropX n l) + v (Obj.layerCropW n l))) bad (Obj.layerCropX n l),
    failIf (v (Obj.layerCropH n l) == 0 || decide (v (Obj.layerSrcHeight n l) < v (Obj.layerCropY n l) + v (Obj.layerCropH n l))) bad (Obj.layerCropY n l),
    failIf (v (Obj.layerDstW n l) == 0 || decide (v (Obj.hActive n) < v (Obj.layerDstX n l) + v (Obj.layerDstW n l))) bad (Obj.layerDstX n l),
    failIf (v (Obj.layerDstH n l) == 0 || decide (v (Obj.vActive n) < v (Obj.layerDstY n l) + v (Obj.layerDstH n l))) bad (Obj.layerDstY n l)]

/-- Scale of one layer (R218, R222). -/
def checkScale (v : Nat → Nat) (n l : Nat) : Check :=
  let off := fun (d c : Nat) => if Head.videoLayer v n l then decide (8 * d < c) || decide (8 * c < d) else d != c
  firstOf [
    failIf (off (v (Obj.layerDstW n l)) (v (Obj.layerCropW n l))) St.layerScale (Obj.layerDstW n l),
    failIf (off (v (Obj.layerDstH n l)) (v (Obj.layerCropH n l))) St.layerScale (Obj.layerDstH n l)]

/-- The flattened layer of a head (R235). -/
def checkFlatten (v : Nat → Nat) (n : Nat) : Check :=
  let bad := St.layerOwner
  if v (Obj.flattenOn n) = 0 then none
  else firstOf [
    failIf (v (Obj.layerOwnerWorld n 7) != v (Obj.flattenWorld n)) bad (Obj.layerOwnerWorld n 7),
    failIf (!formatOk (v (Obj.layerFormat n 7)) false) bad (Obj.layerFormat n 7),
    failIf (v (Obj.layerSrcWidth n 7) != v (Obj.hActive n)) bad (Obj.layerSrcWidth n 7),
    failIf (v (Obj.layerSrcHeight n 7) != v (Obj.vActive n)) bad (Obj.layerSrcHeight n 7),
    failIf (v (Obj.layerCropX n 7) != 0) bad (Obj.layerCropX n 7),
    failIf (v (Obj.layerCropY n 7) != 0) bad (Obj.layerCropY n 7),
    failIf (v (Obj.layerCropW n 7) != v (Obj.hActive n)) bad (Obj.layerCropW n 7),
    failIf (v (Obj.layerCropH n 7) != v (Obj.vActive n)) bad (Obj.layerCropH n 7),
    failIf (v (Obj.layerDstX n 7) != 0) bad (Obj.layerDstX n 7),
    failIf (v (Obj.layerDstY n 7) != 0) bad (Obj.layerDstY n 7),
    failIf (v (Obj.layerDstW n 7) != v (Obj.hActive n)) bad (Obj.layerDstW n 7),
    failIf (v (Obj.layerDstH n 7) != v (Obj.vActive n)) bad (Obj.layerDstH n 7)]

/-- One phase of a coefficient set: coefficients in range, sum 1,024 (R223). -/
def phaseOk (b : Bytes) (taps p : Nat) : Bool :=
  let c := (List.range taps).map (fun k => toSigned 2 (bytesAt b (2 * (taps * p + k)) 2))
  c.all (fun x => decide (-2048 ≤ x) && decide (x ≤ 2047)) && c.foldl (· + ·) 0 == 1024

/-- A coefficient set is sound. -/
def coefOk (b : Bytes) (taps : Nat) : Bool := b.length == 128 * taps && (List.range 64).all (phaseOk b taps)

/-- The coefficient sets that a commit changes (R223). -/
def checkCoef (v a : Nat → Nat) (n : Nat) : Check :=
  firstOf [
    firstIn (List.range 4) (fun b => failIf (v (Obj.coefH n b) != a (Obj.coefH n b) && !coefOk (decDomain (v (Obj.coefH n b))) 8) St.scalerCoef (Obj.coefH n b)),
    firstIn (List.range 4) (fun b => failIf (v (Obj.coefV n b) != a (Obj.coefV n b) && !coefOk (decDomain (v (Obj.coefV n b))) 6) St.scalerCoef (Obj.coefV n b))]

/-- The dimming table that a commit changes (R227): 64 entries of duty (0.001 %), gain and zero. -/
def checkDim (v a : Nat → Nat) (n : Nat) : Check :=
  let b := decDomain (v (Obj.dimTable n))
  failIf (v (Obj.dimTable n) != a (Obj.dimTable n) && (b.length != 512 || (List.range 64).any (fun e =>
    decide (bytesAt b (8 * e) 4 < 50) || decide (100000 < bytesAt b (8 * e) 4) || decide (4096 < bytesAt b (8 * e + 4) 2))))
    St.layerFormat (Obj.dimTable n)

end Comp

namespace State

/-- A layer keeps the surface it shows under new values: it stays enabled with the same owner, format and source size. -/
def layerKeeps (s : State) (v : Nat → Nat) (n l : Nat) : Bool :=
  [Obj.layerEnable n l, Obj.layerOwnerWorld n l, Obj.layerFormat n l, Obj.layerSrcWidth n l, Obj.layerSrcHeight n l].all (fun k => v k == s.reg k)

/-- Layout of the surface a layer shows: 0 block, 1 linear, 2 compressed, 3 none. -/
def layoutShown (s : State) (v : Nat → Nat) (n l : Nat) : Nat :=
  let sf := s.reg (Reg.layerSurface n l)
  if sf = 0 ∨ !s.layerKeeps v n l then 3
  else match s.num (Num.shown n l) with
    | _ :: _ :: b =>
      let f := surfOf (b.map (BitVec.ofNat 8))
      if f.layout = 1 then 1 else if f.meta' ≠ 0 then 2 else 0
    | _ => 3

/-- Counted bytes of one layer under new values. -/
def layerCount (s : State) (v : Nat → Nat) (n l : Nat) : Nat := Comp.count v n l (s.layoutShown v n l)

/-- Counted bytes of a head under new values; none while it is off. -/
def headCount (s : State) (v : Nat → Nat) (n : Nat) : Nat :=
  if v (Obj.portMode n) = 3 then 0 else (Comp.layers v n).foldl (fun a l => a + s.layerCount v n l) 0

/-- The first layer whose addition takes the count above a budget (R237 check 5). -/
def overBudget (s : State) (v : Nat → Nat) (n budget : Nat) : List Nat → Nat → Option Nat
  | [], _ => none
  | l :: ls, a =>
    let a := a + s.layerCount v n l
    if budget < a then some l else s.overBudget v n budget ls a

/-- Fetch rate of a head under new values, in bytes times mHz (R237): its counted bytes times its frame rate. -/
def headFetch (s : State) (v : Nat → Nat) (n : Nat) : Nat := s.headCount v n * (v (Obj.pixelClockKhz n) * 1000000) / Head.framePixels v n

/-- Device fetch under new values, in bytes times mHz. -/
def deviceFetch (s : State) (v : Nat → Nat) : Nat := (List.range 8).foldl (fun a n => a + s.headFetch v n) 0

/-- Check 3 of R237, repeated at the boundary (R238): owners and receivers. -/
def checkOwners (s : State) (v : Nat → Nat) (n : Nat) : Check :=
  firstIn (Comp.layers v n) (fun l =>
    let w := v (Obj.layerOwnerWorld n l)
    let rx := v (Obj.layerSourceRx n l)
    firstOf [
      failIf (!(w == 0 || w == 2 || (decide (4 ≤ w) && decide (w < 64) && s.reg (Obj.worldState w) == 2))) St.layerOwner (Obj.layerOwnerWorld n l),
      failIf (rx != 0xFF && (decide (7 < rx) || !s.holdsBlock w (U.dpr rx))) St.layerOwner (Obj.layerSourceRx n l)])

/-- The checks of R237 in order, then those of R223 and R227. -/
def checkComp (s : State) (v a : Nat → Nat) (n : Nat) : Check :=
  let ls := Comp.layers v n
  let budget := 3 * v (Obj.hActive n) * v (Obj.vActive n) * 4
  let px := Head.framePixels v n
  firstOf [
    firstIn ls (Comp.checkGeometry v n),
    (Comp.dupZ v n).map (fun l => (St.layerZorder, Obj.layerZOrder n l)),
    firstIn ls (fun l => failIf (!Comp.formatOk (v (Obj.layerFormat n l)) (Head.videoLayer v n l)) St.layerFormat (Obj.layerFormat n l)),
    firstIn ls (Comp.checkScale v n),
    s.checkOwners v n,
    Comp.checkFlatten v n,
    firstIn (List.range 16) (fun k => failIf (s.reg (Obj.regionUsed n k) == 1
      && (decide (v (Obj.hActive n) < s.reg (Obj.regionX n k) + s.reg (Obj.regionW n k))
        || decide (v (Obj.vActive n) < s.reg (Obj.regionY n k) + s.reg (Obj.regionH n k)))) St.ensignRegionOutside (Obj.hActive n)),
    (s.overBudget v n budget ls 0).map (fun l => (St.fetchHead, Obj.layerEnable n l)),
    firstIn ls (fun l =>
      let c := Comp.crop v n l
      failIf (Head.videoLayer v n l && decide (1000000 * px < (c.2.2.1 - c.1) * (c.2.2.2 - c.2.1) * v (Obj.pixelClockKhz n)))
        St.scalerRate (Obj.layerCropW n l)),
    failIf (decide (99 * v Obj.scanReservedMBps * 10000000 < s.deviceFetch v)) St.fetchDevice (Obj.layerEnable n (ls.headD 0)),
    Comp.checkCoef v a n,
    Comp.checkDim v a n]

/-- Objects that follow from a head's composition in force: LayerFetch, FetchAdmitted, FetchRateMBps, ScanAdmittedMBps of every head (R237), and
the SC-SCAN rate admitted (R150). -/
def compDerive (s : State) (n : Nat) : State :=
  let v := s.reg
  let s := (List.range 8).foldl (fun s' l => s'.setReg (Obj.layerFetch n l) (if s.reg (Obj.layerEnable n l) = 1 then s.layerCount v n l else 0)) s
  let c := s.headCount v n
  let s := s.setRegs [(Obj.fetchAdmitted n, c), (Obj.fetchRateMBps n, s.headFetch v n / 1000000000)]
  let total := s.deviceFetch v / 1000000000
  (List.range 8).foldl (fun s m => s.setReg (Obj.scanAdmittedMBps m) total) (s.setReg Reg.scanAdmitted total)

/-! Scan-out pools (R234). -/

/-- Map `k` striped frames, zero-filled, at `gsa` in world `w`. -/
def mapPool (s : State) (w gsa : Nat) : Nat → Option State
  | 0 => some s
  | k + 1 => match s.frameTake w 1 with
    | none => none
    | some (f, s) => match s.mapLeaf w gsa 2 (leafDesc 2 (f * frameBytes) 1 w true true) with
      | none => none
      | some s => s.mapPool w (gsa + frameBytes) k

/-- Take a layer's pool from the world it is mapped in; its frames return when the invalidation completes (R110). -/
def poolDrop (s : State) (n l : Nat) : State :=
  let w := s.reg (Reg.poolWorld n l) - 1
  if s.reg (Reg.poolWorld n l) = 0 then s
  else (s.unmapLater w (s.reg (Obj.layerPoolGsa n l)) (s.reg (Reg.poolSize n l)) 2).setRegs
    [(Reg.poolWorld n l, 0), (Reg.poolSize n l, 0), (Obj.layerPoolGsa n l, 0)]

/-- Where Halyard maps a pool of `k` frames is open: a free value names the first address tried (log 5). -/
def poolPlace (s : State) (w k : Nat) : Option Nat :=
  ((List.range 256).map (fun j => ((s.fresh + j * (k + 1)) % 2 ^ 20) * frameBytes)).find? (fun g =>
    (List.range k).all (fun m => s.slotEmpty w (g + m * frameBytes)))

/-- Give an enabled layer the pool its configuration asks for, when owner or size changed. -/
def poolSet (s : State) (n l : Nat) : State :=
  let w := s.reg (Obj.layerOwnerWorld n l)
  let k := if s.reg (Obj.layerEnable n l) = 1 then ceilDiv (s.reg (Obj.layerPoolKiB n l)) 2048 else 0
  if s.reg (Reg.poolWorld n l) = (if k = 0 then 0 else w + 1) ∧ s.reg (Reg.poolSize n l) = k then s
  else
    let s := s.poolDrop n l
    if k = 0 then s
    else match s.poolPlace w k with
      | none => s
      | some g => match s.tick.mapPool w g k with
        | none => s
        | some s => s.setRegs [(Reg.poolWorld n l, w + 1), (Reg.poolSize n l, k), (Obj.layerPoolGsa n l, g)]

/-! Flips. -/

/-- Signal the release fences of a list of flips. -/
def releaseAll (s : State) (i : Nat) (l : List Bytes) : State :=
  l.foldl (fun s b => if Flip.rel b = 0 then s else s.signalFence i 4 (Flip.rel b) (Flip.relVal b)) s

/-- Format code that a surface for a layer format has (table Layer formats, Stored as). -/
def storedAs (lf : Nat) : List Nat :=
  if lf = 1 ∨ lf = 2 then [5, 6] else if lf = 3 then [7] else if lf = 4 then [8] else if lf = 0x10 then [0x70] else if lf = 0x11 then [0x71] else []

/-- A surface suits a layer (R219, R229). -/
def flipSurfOk (s : State) (n l : Nat) (f : Surf) : Bool :=
  let lf := s.reg (Obj.layerFormat n l)
  (storedAs lf).contains f.fmt && f.w == s.reg (Obj.layerSrcWidth n l) && f.h == s.reg (Obj.layerSrcHeight n l) && f.samples == 1
    && (if lf = 0x10 ∨ lf = 0x11 then f.layout == 1 && f.pitch % 256 == 0 && f.meta' % 256 == 0
        else f.status false true == St.ok)

/-- A surface and its metadata, or its chroma plane, lie wholly within the layer's pool. -/
def flipInPool (s : State) (i n l : Nat) (f : Surf) : Bool :=
  if f.fmt = 0x70 ∨ f.fmt = 0x71 then
    s.rangeInPool i 4 n l f.base (f.pitch * f.h) && s.rangeInPool i 4 n l f.meta' (f.pitch * ((f.h + 1) / 2))
  else s.inPool i 4 n l f

/-- Refusal of one flip of a group (R229); OK where there is none. -/
def flipStatus (s : State) (i n : Nat) (b : Bytes) : Nat :=
  let l := Flip.layer b
  if 7 < l ∨ s.reg (Obj.layerEnable n l) = 0 ∨ s.reg (Obj.layerOwnerWorld n l) ≠ s.instWorld i then St.notOwner
  else match s.surfAt i 4 (Flip.surf b) with
    | .error _ => St.flipSurface
    | .ok f =>
      if !s.flipSurfOk n l f then St.flipSurface
      else if !s.flipInPool i n l f then St.flipPool
      else if (l = 7 ∧ s.reg (Obj.flattenOn n) = 1) ∨ (Head.videoLayer s.reg n l ∧ s.reg (Obj.layerSourceRx n l) ≠ 0xFF) ∨
          s.reg (Reg.feedIn n l) ≠ 0 then St.flipSurface
      else St.ok

/-- The first flip of a group that is refused: its layer and the reason. -/
def flipRefusal (s : State) (i n : Nat) (l : List Bytes) : Option (Nat × Nat) :=
  (l.find? (fun b => s.flipStatus i n b != St.ok)).map (fun b => (Flip.layer b, s.flipStatus i n b))

/-- Raise FLIP_REFUSED and signal the group's release fences. The payload's layout is the model's (head, layer, reason, epoch; log 14). -/
def flipRefuse (s : State) (i n : Nat) (l : List Bytes) (layer reason ep : Nat) : State :=
  let s := (s.bump (Obj.flipsRefused n) 32).raise [.inst i] (U.head n) St.flipRefused (s.instWorld i) 2
    [(1, n), (1, layer), (2, reason), (4, ep)]
  s.releaseAll i l

/-- Next commit epoch (R40): the counter adds 1 and skips 0. -/
def nextEpoch (s : State) : Nat := if (s.reg Obj.lastEpoch + 1) % 2 ^ 32 = 0 then 1 else (s.reg Obj.lastEpoch + 1) % 2 ^ 32

/-- Take the next commit epoch. -/
def takeEpoch (s : State) : State := s.setReg Obj.lastEpoch s.nextEpoch

/-- End the pending flip group of world `w` on head `n`. -/
def flipClear (s : State) (w n : Nat) : State := (s.setFifo (Fifo.flipPend w n) []).setReg (Reg.flipEpoch w n) 0

/-- A surface is replaced on a layer: its release fence waits for the last fetch (R232). -/
def surfaceOut (s : State) (n l : Nat) : State :=
  let s := if s.reg (Reg.oldRelease n l) = 0 then s
    else s.signalFence (s.reg (Reg.oldReleaseInst n l)) 4 (s.reg (Reg.oldRelease n l) - 1) (s.reg (Reg.oldReleaseVal n l))
  s.setRegs [(Reg.oldRelease n l, s.reg (Reg.layerRelease n l)), (Reg.oldReleaseVal n l, s.reg (Reg.layerReleaseVal n l)),
    (Reg.oldReleaseInst n l, s.reg (Reg.layerReleaseInst n l))]

/-- Show one flip's surface. -/
def flipShow (s : State) (i n ep : Nat) (b : Bytes) : State :=
  let l := Flip.layer b
  let s := s.setNum (Num.shown n l) (s.shownOf i 4 (Flip.surf b))
  (s.surfaceOut n l).setRegs [(Reg.layerSurface n l, Flip.surf b + 1), (Obj.layerActiveSurface n l, Flip.surf b),
    (Obj.layerActiveFlipEpoch n l, ep), (Reg.layerRelease n l, if Flip.rel b = 0 then 0 else Flip.rel b + 1),
    (Reg.layerReleaseVal n l, Flip.relVal b), (Reg.layerReleaseInst n l, i), (Reg.layerTransparent n l, 0)]

/-- Acquire fences of a group have all reached their values (R230). -/
def flipReady (s : State) (i : Nat) (l : List Bytes) : Bool :=
  l.all (fun b => Flip.acq b == 0 || (match s.fenceRead (s.instWorld i) (s.reg (Reg.s1Root i 4)) (Flip.acq b) with
    | .ok v => decide (Flip.acqVal b ≤ v)
    | .error _ => false))

/-- Deal with the pending group of world `w` at a commit line of head `n` (R230, R233). -/
def flipLine (s : State) (n w : Nat) : State :=
  let ep := s.reg (Reg.flipEpoch w n)
  let i := s.reg (Reg.flipInst w n)
  let l := s.fifo (Fifo.flipPend w n)
  if ep = 0 then s
  else if !s.flipReady i l then (s.bump (Obj.flipsWaited n) 32).count (283 + 8 * n) 1
  else match s.flipRefusal i n l with
    | some (layer, reason) => (s.flipClear w n).flipRefuse i n l layer reason ep
    | none =>
      let s := l.foldl (fun s b => s.flipShow i n ep b) (((s.flipClear w n).bump (Obj.flipsApplied n) 32).count (282 + 8 * n) 1)
      s.raise [.inst i] (U.head n) St.commitApplied w 0 [(4, ep), (1, 1), (4, s.reg (Reg.boundaryCount (U.head n)))]

/-- Drop a world's pending group on a head with an event of the commit family. -/
def flipDrop (s : State) (w n st sev : Nat) (pl : List (Nat × Nat)) : State :=
  let i := s.reg (Reg.flipInst w n)
  let l := s.fifo (Fifo.flipPend w n)
  if s.reg (Reg.flipEpoch w n) = 0 then s
  else ((s.flipClear w n).raise [.inst i] (U.head n) st w sev pl).releaseAll i l

/-- A configuration changed a layer's owner, format or source size, or disabled it: pending groups that flip it are dropped (R233) and it
shows no surface. -/
def layerChanged (s : State) (n l : Nat) : State :=
  let s := (List.range 64).foldl (fun s w =>
    if (s.fifo (Fifo.flipPend w n)).any (fun b => Flip.layer b == l) then
      let i := s.reg (Reg.flipInst w n)
      let g := s.fifo (Fifo.flipPend w n)
      let ep := s.reg (Reg.flipEpoch w n)
      (s.flipClear w n).flipRefuse i n g l (if s.reg (Obj.layerEnable n l) = 0 ∨ s.reg (Obj.layerOwnerWorld n l) ≠ w then St.notOwner else St.flipSurface) ep
    else s) s
  (s.surfaceOut n l).setRegs [(Reg.layerSurface n l, 0), (Obj.layerActiveSurface n l, 0), (Obj.layerActiveFlipEpoch n l, 0),
    (Reg.layerRelease n l, 0), (Reg.layerTransparent n l, 0), (Reg.flatSurface n, if l = 7 then 0 else s.reg (Reg.flatSurface n))]

/-! Faults during scan-out. -/

/-- A layer fetch faulted (R239). -/
def layerFault (s : State) (n l : Nat) : State :=
  ((s.count (284 + 8 * n) 1).setRegs [(Reg.layerTransparent n l, 1), (Obj.layerFaults n, (s.reg (Obj.layerFaults n) + 1) % 2 ^ 32)]).raise
    [.world (s.reg (Obj.layerOwnerWorld n l)), .hal] (U.head n) St.layerFault (s.reg (Obj.layerOwnerWorld n l)) 2 []

/-- A fetch returned too late (R240). -/
def fetchLate (s : State) (n : Nat) : State :=
  let s := (s.bump (Obj.fetchLate n) 32).count (285 + 8 * n) 1
  if s.reg (Reg.fetchLateFrame n) = s.reg (Obj.headFrame n) + 1 then s
  else (s.setReg (Reg.fetchLateFrame n) (s.reg (Obj.headFrame n) + 1)).raise [.hal, .owner] (U.head n) St.fetchLate 0xFF 3 []

/-- A layer met a compression unit that does not decode (R199). -/
def layerMetaError (s : State) (n l : Nat) : State :=
  let s := s.bump Obj.metaErrors 32
  if s.reg (Reg.layerMeta n l) = 1 then s
  else (s.setReg (Reg.layerMeta n l) 1).raise [.world (s.reg (Obj.layerOwnerWorld n l))] (U.head n) St.metaInvalid (s.reg (Obj.layerOwnerWorld n l)) 2 []

/-! The chain's derived values. -/

/-- Point `j` of a sunlight curve: lux and k. -/
def sunPoint (c j : Nat) : Nat × Nat := (c / 2 ^ (40 * j) % 2 ^ 32, c / 2 ^ (40 * j + 32) % 256)

/-- k at a lux value: linear between points, held at the ends (R225). -/
def sunInterp (c lux : Nat) : List Nat → Nat
  | [] => (sunPoint c 7).2
  | j :: js =>
    let (x0, y0) := sunPoint c j
    let (x1, y1) := sunPoint c (j + 1)
    if lux ≤ x0 then y0
    else if lux < x1 then
      (if y0 ≤ y1 then y0 + ((y1 - y0) * (lux - x0) + (x1 - x0) / 2) / (x1 - x0) else y0 - ((y0 - y1) * (lux - x0) + (x1 - x0) / 2) / (x1 - x0))
    else sunInterp c lux js

/-- k asked for (R226). -/
def sunTarget (s : State) (n : Nat) : Nat :=
  let src := s.reg (Obj.sunSource n)
  if src = 0 ∨ s.reg (Obj.lightValid (src - 1)) = 0 then s.reg (Obj.sunManual n) else sunInterp (s.reg (Obj.sunCurve n)) (s.reg (Obj.sunLux n)) (List.range 7)

/-- Move k by at most 4 in a frame. -/
def sunStep (s : State) (n : Nat) : State :=
  let k := s.reg (Reg.sunK n)
  let t := s.sunTarget n
  let k' := if k ≤ t then min t (k + 4) else max t (k - 4)
  s.setRegs [(Reg.sunK n, k'), (Obj.sunBoost n, k')]

/-- BacklightDuty and EnsignSet follow DimLevel and NightPalette (R225, R243); the duty is 0 while the backlight is off (R276). -/
def dimDerive (s : State) (n : Nat) : State :=
  let b := decDomain (s.reg (Obj.dimTable n))
  let d := s.reg (Obj.dimLevel n)
  s.setRegs [(Obj.backlightDuty n, if s.reg (Reg.panelStage n) = 4 then bytesAt b (8 * d) 4 else 0),
    (Obj.ensignSet n, s.reg (Reg.setMap (s.reg (Obj.nightPalette n)) (d / 8)))]

end State
end Sys2Proof.Machine
end

