-- ==== Sys2Proof/Machine/AudioBase.lean ====
section
/-!
DEFINITION. Machine/AudioBase.lean: domains, gains, sections and sinks of the audio unit, the checks of its commits (R350) and what follows them
(R345, R346, R353, R362).
-/
namespace Sys2Proof.Machine

namespace Num
/-- State of the 12 sections of bus `b`: x[n-1], x[n-2], y[n-1], y[n-2] of each, as S64 (R344, R346). -/
abbrev sect (b : Nat) : Nat := 0x4100000000 + b
/-- Samples of bus `b` on their way to its sink, newest first, as S32 (R341). -/
abbrev busPipe (b : Nat) : Nat := 0x4100000100 + b
/-- Samples fetched for stream `t`, oldest first, as S32 (R353). -/
abbrev audFifo (t : Nat) : Nat := 0x4100000200 + t
/-- Samples of the present frame of play stream `t`, as S32. -/
abbrev audNow (t : Nat) : Nat := 0x4100000300 + t
/-- Sums of squares and counts of the last 30 intervals of 10 ms of the meter of source (k 0) or bus (k 1) `j`, newest first (R347). -/
abbrev meterHist (k j : Nat) : Nat := 0x4100001000 + 0x400 * k + j
end Num

namespace Aud

/-- Rate in Hz of an audio domain (table Rate domains). -/
def rate (pRate d : Nat) : Nat := if d = 0 then 48000 else if d = 1 then 16000 else pRate

/-- Fields of a source table element. -/
def kind (e : Nat) : Nat := e % 256
/-- DOMAIN of a source table element. -/
def dom (e : Nat) : Nat := e / 256 % 256
/-- UNIT of a source table element. -/
def unit (e : Nat) : Nat := e / 65536 % 256
/-- CHANNEL of a source table element. -/
def chan (e : Nat) : Nat := e / 16777216 % 256
/-- TRIM of a source table element, 0.01 dB. -/
def trim (e : Nat) : Int := toSigned 2 (e / 2 ^ 32)

/-- Coefficient `j` of section `q` in Q3.28: b0, b1, b2, a1, a2 (R344). -/
def coef (v q j : Nat) : Int := toSigned 4 (v / 256 ^ (20 * q + 4 * j))

/-- An enabled section is stable (R344). -/
def stable (v q : Nat) : Bool :=
  decide (|coef v q 4| < 2 ^ 28) && decide (|coef v q 3| < 2 ^ 28 + coef v q 4)

/-- A play stream of the graph takes source `j` (R350 check 5). -/
def streamTakes (v : Nat → Nat) (t j : Nat) : Bool :=
  v (Obj.streamWorld t) != 0xFF && v (Obj.streamDir t) == 0 && v (Obj.streamEndpoint t) == 0xFF
    && decide (v (Obj.streamFirst t) ≤ j) && decide (j < v (Obj.streamFirst t) + v (Obj.streamChannels t))

/-- A bridge is on. -/
def bridgeOn (v : Nat → Nat) (k : Nat) : Bool := v (Obj.bridgeFrom k) != 0xFF && v (Obj.bridgeTo k) != 0xFF

/-- Input and output byte of channel `c` of a bridge. -/
def bridgePair (v : Nat → Nat) (k c : Nat) : Nat × Nat :=
  let m := v (Obj.bridgeMap k)
  (m / 256 ^ (2 * c) % 256, m / 256 ^ (2 * c + 1) % 256)

/-- Channels of a bridge in use. -/
def bridgeUsed (v : Nat → Nat) (k : Nat) : List (Nat × Nat) :=
  ((List.range 32).map (bridgePair v k)).filter (fun q => q.1 != 0xFF && q.2 != 0xFF)

/-- A bridge of the graph puts out source `j`. -/
def bridgePuts (v : Nat → Nat) (k j : Nat) : Bool :=
  bridgeOn v k && decide (v (Obj.bridgeTo k) < 3) && (bridgeUsed v k).any (fun q => q.2 == j)

/-- Kind and domain of source `j` with the values `v`: kinds 1 and 4 follow from the stream and bridge objects (R342). -/
def sourceOf (v : Nat → Nat) (j : Nat) : Nat × Nat :=
  match (List.range 32).find? (fun t => streamTakes v t j) with
  | some t => (1, v (Obj.streamDomain t))
  | none => match (List.range 4).find? (fun k => bridgePuts v k j) with
    | some k => (4, v (Obj.bridgeTo k))
    | none =>
      let e := v (Obj.sourceTable j)
      if kind e = 1 ∨ kind e = 4 then (0, 0) else if kind e = 7 then (7, dom e) else (kind e, 0)

/-- KIND, UNIT and SLOT of a bus sink (table BusSink). -/
def sinkKind (v : Nat) : Nat := v / 4096
/-- UNIT of a bus sink. -/
def sinkUnit (v : Nat) : Nat := v / 256 % 16
/-- SLOT of a bus sink. -/
def sinkSlot (v : Nat) : Nat := v % 16

/-- The side code names a TDM port in target mode. -/
def sideTdm (v : Nat → Nat) (c : Nat) : Bool := decide (0x20 ≤ c) && decide (c < 0x28) && v (Obj.tdmMode (c - 0x20)) == 2

/-- The element names no source of its own: unused, or a kind that follows from the stream and bridge objects (R342). -/
def freeKind (e : Nat) : Bool := kind e == 0 || kind e == 1 || kind e == 4

/-- A bridge is invalid (R350 check 4). -/
def bridgeBad (v : Nat → Nat) (k : Nat) : Bool :=
  let f := v (Obj.bridgeFrom k)
  let t := v (Obj.bridgeTo k)
  f == t
    || !(decide (f < 3) || (decide (0x10 ≤ f) && decide (f < 0x18)) || sideTdm v f)
    || !(decide (t < 3) || sideTdm v t)
    || (bridgeUsed v k).any (fun q =>
        (if f < 3 then decide (64 ≤ q.1) || v (Obj.busDomain q.1) != f
         else if f < 0x20 then decide (8 ≤ q.1) else decide (v (Obj.tdmSlots (f - 0x20)) ≤ q.1))
        || (if t < 3 then decide (248 ≤ q.2) || !freeKind (v (Obj.sourceTable q.2))
              || (List.range 32).any (fun x => streamTakes v x q.2)
              || (List.range 4).any (fun k' => k' != k && bridgePuts v k' q.2)
            else decide (v (Obj.tdmSlots (t - 0x20)) ≤ q.2)))

end Aud

namespace State

/-- Latency L in µs of the streams of a world: the shortest that its instances reserve, or 10,000 (R353). -/
def latencyOf (s : State) (res : Nat → Nat) (w : Nat) : Nat :=
  let l := (s.worldInsts w).foldl (fun a i => if res i = 0 then a else if a = 0 then res i else min a (res i)) 0
  if l = 0 then 10000 else l

/-- AudioFifo used by every stream assigned to a world, with reservations `res` (R353). -/
def fifoUse (s : State) (res : Nat → Nat) : Nat :=
  (List.range 32).foldl (fun a t =>
    let w := s.reg (Obj.streamWorld t)
    if w = 0xFF then a
    else a + ceilDiv (2 * s.latencyOf res w * Aud.rate (s.reg Obj.pRate) (s.reg (Obj.streamDomain t)) * s.reg (Obj.streamChannels t) * 4) 1000000) 0

/-- The audio unit admits a latency for instance `i` in place of its present one: the FIFO of 512 KiB holds every stream. -/
def audioAdmits (s : State) (i l : Nat) : Bool :=
  decide (s.fifoUse (fun j => if j = i then l else s.reg (Reg.resAudio j)) ≤ 524288)

/-- Objects derived from the reservations: FifoFreeKiB and the latency of every stream. -/
def audDerive (s : State) : State :=
  let s := s.setReg Obj.fifoFreeKiB ((524288 - s.fifoUse (fun j => s.reg (Reg.resAudio j))) / 1024)
  (List.range 32).foldl (fun s t => if s.reg (Obj.streamWorld t) = 0xFF then s
    else s.setReg (Obj.streamLatencyUs t) (s.latencyOf (fun j => s.reg (Reg.resAudio j)) (s.reg (Obj.streamWorld t)))) s

/-- Keys of the crosspoints that have been written. -/
def crossKeys (s : State) : List Nat :=
  let p := fun k => decide (0x614000 ≤ k) && decide (k < 0x618000)
  ((s.regs.map Prod.fst).filter p ++ (s.shadow.map Prod.fst).filter p ++ (s.pend.map Prod.fst).filter p).dedup

/-- Checks 6 and 7 of R350, which the unit repeats at the boundary. -/
def checkAudLate (s : State) (v : Nat → Nat) : Check :=
  firstOf [
    firstIn (List.range 32) (fun t =>
      let w := v (Obj.streamWorld t)
      failIf (w != 0xFF && (decide (63 < w) || s.reg (Obj.worldState w) != 2
        || (v (Obj.streamEndpoint t) != 0xFF && (decide (7 < v (Obj.streamEndpoint t)) || !s.holdsBlock w (U.tdm (v (Obj.streamEndpoint t)))))))
        St.audStreamOwner (Obj.streamWorld t)),
    failIf ((match s.activePkg with | some p => !p.tones.isEmpty | none => false)
      && !(List.range 64).any (fun b => v (Obj.alarmBus b) == 1 && v (Obj.busDomain b) == 0 && Aud.sinkKind (v (Obj.busSink b)) != 0))
      St.audAlarmRequired (Obj.alarmBus 0)]

/-- Checks of a commit of audio objects, in order (R350). -/
def checkAud (s : State) (v : Nat → Nat) : Check :=
  firstOf [
    firstIn s.crossKeys (fun k =>
      let b := k / 256 - 0x6140
      let q := Aud.sourceOf v (k % 256)
      failIf (v k != 0xD120 && q.1 != 0 && q.2 != v (Obj.busDomain b)) St.audDomain k),
    firstIn (List.range 64) (fun b => failIf (Aud.sinkKind (v (Obj.busSink b)) != 0 && v (Obj.busDomain b) != 0) St.audDomain (Obj.busSink b)),
    firstIn (List.range 64) (fun b => failIf ((List.range 12).any (fun q => bit (v (Obj.sectionEnable b)) q && !Aud.stable (v (Obj.sections b)) q))
      St.audSectionInvalid (Obj.sections b)),
    firstIn (List.range 64) (fun b => failIf (Aud.sinkKind (v (Obj.busSink b)) != 0
      && (List.range b).any (fun c => v (Obj.busSink c) == v (Obj.busSink b))) St.audSinkConflict (Obj.busSink b)),
    firstIn (List.range 4) (fun k => failIf (Aud.bridgeOn v k && Aud.bridgeBad v k) St.audBridgeInvalid (Obj.bridgeFrom k)),
    firstIn (List.range 32) (fun t => failIf ((List.range 264).any (fun j => Aud.streamTakes v t j
      && (decide (248 ≤ j) || !Aud.freeKind (v (Obj.sourceTable j))
        || (List.range 32).any (fun u => u != t && Aud.streamTakes v u j)))) St.audSourceBusy (Obj.streamFirst t)),
    s.checkAudLate v]

/-- Gain of a ramped object in effect, 0.000001 dB: linear in dB from where the ramp began (R345). `target` is in 0.01 dB. -/
def gainNow (s : State) (idx sub : Nat) (target : Int) : Int :=
  let a := s.reg (Reg.gainAt idx sub)
  let ms := s.reg (Reg.gainMs idx sub)
  let t := s.now - (a - 1)
  if a = 0 ∨ 1000000 * ms ≤ t then 10000 * target
  else
    let f := toSigned 8 (s.reg (Reg.gainFrom idx sub))
    f + (10000 * target - f) * (t : Int) / ((1000000 * ms : Nat) : Int)

/-- Target of a bus's gain: BusMute ramps to -120 dB (R345). -/
def busTarget (s : State) (b : Nat) : Int := if s.reg (Obj.busMute b) = 1 then -12000 else toSigned 2 (s.reg (Obj.busGain b))

/-- Gain of a bus in effect, without the alarm floor. -/
def busNow (s : State) (b : Nat) : Int := s.gainNow (0x6100 + b) 2 (s.busTarget b)

/-- Gain of a crosspoint in effect. -/
def crossNow (s : State) (b j : Nat) : Int := s.gainNow (0x6140 + b) j (toSigned 2 (s.reg (Obj.crossRow b j)))

/-- Trim of a source in effect; its changes ramp over 20 ms. -/
def trimNow (s : State) (j : Nat) : Int := s.gainNow 0x6010 j (Aud.trim (s.reg (Obj.sourceTable j)))

/-- Begin a ramp of `ms` of an object's gain from a gain in effect. -/
def gainRamp (s : State) (idx sub : Nat) (from' : Int) (ms : Nat) : State :=
  s.setRegs [(Reg.gainFrom idx sub, ofSigned 8 from'), (Reg.gainAt idx sub, s.now + 1), (Reg.gainMs idx sub, ms)]

/-- Ramps that a commit starts (R345). -/
def audRamps (s0 s : State) : State :=
  let s := (List.range 64).foldl (fun s b => if s0.busTarget b = s.busTarget b then s else s.gainRamp (0x6100 + b) 2 (s0.busNow b) (s.reg (Obj.rampMs b))) s
  let s := s.crossKeys.foldl (fun s k => if s0.reg k = s.reg k then s else s.gainRamp (k / 256) (k % 256) (s0.crossNow (k / 256 - 0x6140) (k % 256))
    (s.reg (Obj.rampMs (k / 256 - 0x6140)))) s
  (List.range 248).foldl (fun s j => if Aud.trim (s0.reg (Obj.sourceTable j)) = Aud.trim (s.reg (Obj.sourceTable j)) then s
    else s.gainRamp 0x6010 j (s0.trimNow j) 20) s

/-- Elements of the source table that follow from the stream and bridge objects (R342); TRIM stays. -/
def audSources (s : State) : State :=
  (List.range 248).foldl (fun s j =>
    let e := s.reg (Obj.sourceTable j)
    let tr := e / 2 ^ 32 % 2 ^ 16 * 2 ^ 32
    let e' := match (List.range 32).find? (fun t => Aud.streamTakes s.reg t j) with
      | some t => 1 + 256 * s.reg (Obj.streamDomain t) + 65536 * t + 16777216 * (j - s.reg (Obj.streamFirst t)) + tr
      | none => match (List.range 4).find? (fun k => Aud.bridgePuts s.reg k j) with
        | some k => 4 + 256 * s.reg (Obj.bridgeTo k) + 65536 * k + 16777216 * (((Aud.bridgeUsed s.reg k).find? (fun q => q.2 == j)).getD (0, 0)).1 + tr
        | none => if Aud.kind e = 1 ∨ Aud.kind e = 4 then tr else if Aud.kind e = 7 then e else e - 256 * Aud.dom e
    if e' = e then s else s.setReg (Obj.sourceTable j) e') s

/-- State of bridge `k` when it is set up anew: it locks, or is off. -/
def bridgeAnew (s : State) (k : Nat) : State := s.setRegs [(Obj.bridgeState k, b2n (Aud.bridgeOn s.reg k)), (Obj.bridgeRatio k, 0)]

/-- State of TDM port `p` by its mode: off, running, or, in target mode, waiting for good frames (R355). -/
def tdmAnew (s : State) (p : Nat) : State :=
  s.setReg (Obj.tdmState p) (if s.reg (Obj.tdmMode p) = 0 then 0 else if s.reg (Obj.tdmMode p) = 1 then 1 else 2)

/-- The audio unit starts on its committed settings (R361, R452): bridges lock, ports run, streams stay stopped. -/
def audStarts (s : State) : State :=
  let s := (List.range 32).foldl (fun s t => s.setReg (Obj.streamState t) (b2n (s.reg (Obj.streamWorld t) != 0xFF))) s
  let s := (List.range 8).foldl tdmAnew ((List.range 4).foldl bridgeAnew s)
  s.audSources.audDerive

/-- What follows when a commit of the audio unit or of a TDM port has become active (R341 to R346, R353, R355, R362). -/
def audApplied (s0 s : State) : State :=
  let s := audRamps s0 s
  let s := (List.range 64).foldl (fun s b =>
    let new := (List.range 12).filter (fun q => bit (s.reg (Obj.sectionEnable b)) q && !bit (s0.reg (Obj.sectionEnable b)) q)
    if new = [] then s
    else s.setNum (Num.sect b) ((List.range 48).map (fun x => if new.contains (x / 4) then 0 else (s.num (Num.sect b)).getD x 0))) s
  let s := (List.range 32).foldl (fun s t =>
    if s0.reg (Obj.streamWorld t) = s.reg (Obj.streamWorld t) then s
    else
      let s : State := { s with audBufs := Kmap.set [] s.audBufs t [] }
      (s.setNum (Num.audFifo t) []).setRegs
        [(Obj.streamState t, if s.reg (Obj.streamWorld t) = 0xFF then 0 else 1), (Reg.audStart t, 0), (Reg.audStop t, 0)]) s
  let s := (List.range 4).foldl (fun s k =>
    if !Aud.bridgeOn s.reg k then s.bridgeAnew k
    else if s0.reg (Obj.bridgeFrom k) = s.reg (Obj.bridgeFrom k) ∧ s0.reg (Obj.bridgeTo k) = s.reg (Obj.bridgeTo k) then s
    else s.bridgeAnew k) s
  let s := (List.range 8).foldl (fun s p =>
    if s0.reg (Obj.tdmMode p) = s.reg (Obj.tdmMode p) then s
    else s.tdmAnew p) s
  let s := (s.audSources).audDerive
  if s0.reg Obj.pRate = s.reg Obj.pRate then s
  else
    let ts := (List.range 32).filter (fun t => s.reg (Obj.streamWorld t) != 0xFF && s.reg (Obj.streamDomain t) == 2)
    let s := s.setReg Reg.pSwitch (s.now + 1)
    let s := ts.foldl (fun s t => if s.reg (Obj.streamState t) < 2 then s.setReg (Reg.audStart t) 0
      else s.setRegs [(Reg.audStop t, s.now + 1), (Reg.audStart t, 0)]) s
    s.raise ([.owner] ++ ts.map (fun t => Dest.world (s.reg (Obj.streamWorld t)))) U.aud St.audRateChanged 0xFF 1 [(4, s.reg Obj.pRate)]

end State
end Sys2Proof.Machine
end

