-- ==== Sys2Proof/Machine/UpdBase.lean ====
section
/-!
DEFINITION. Machine/UpdBase.lean: firmware items and their banks, start checks, trial and fall-back (R407, R415 to R417), as far as the units that run the
items need them.
-/
namespace Sys2Proof.Machine

namespace Fifo
/-- Body in bank `b` of the firmware item of unit `h`: one entry (R407). -/
abbrev item (h b : Nat) : Nat := 0x6000 + 2 * h + b
/-- Header of the package in the update unit: one entry (R408). -/
abbrev updHeader : Nat := 0x5F00
/-- Body bytes of that package received so far: one entry (R409). -/
abbrev updBody : Nat := 0x5F01
end Fifo

namespace Num
/-- Targets that the activation skipped (R413). -/
abbrev updSkipped : Nat := 0xB100000000
end Num

namespace Upd

/-- Unit handles with a firmware item (table Firmware items), in ascending order. -/
def items : List Nat :=
  [U.hal, U.ens] ++ (List.range 8).map (fun p => U.touch p) ++ (List.range 3).map (fun g => U.hapGroup g) ++ (List.range 22).map (fun n => U.core n)

/-- The unit has a firmware item. -/
def isItem (h : Nat) : Bool := items.contains h

end Upd

namespace State

/-- HoursInService (0x0400:05): the stored hours and those of hoist time, saturating. -/
def hoursNow (s : State) : Nat := min (s.reg Obj.hoursInService + s.now / 3600000000000) 0xFFFFFFFF

/-- State of bank `b` of an item (table Update objects): 0 empty, 1 written, 2 active, 3 trial, 4 failed. -/
def itemState (s : State) (h b : Nat) : Nat :=
  let v := s.reg (Reg.itemBankState h b)
  if v = 0 then (if b = 0 then 2 else 0) else v - 1

/-- Set the state of a bank of an item. -/
def setItemState (s : State) (h b st : Nat) : State := s.setReg (Reg.itemBankState h b) (st + 1)

/-- An item runs in trial. -/
def itemTrial (s : State) (h : Nat) : Bool := Upd.isItem h && s.itemState h (s.reg (Reg.itemBank h)) == 3

/-- Run an item from bank `b`: its state there becomes `st`, the bank it leaves reads `old`. The code banks of the Ensign pair follow. -/
def itemSwitch (s : State) (h b st old : Nat) : State :=
  let s := ((s.setItemState h (1 - b) old).setItemState h b st).setReg (Reg.itemBank h) b
  if h = U.ens then s.setRegs [(Obj.coreActiveBank 30, b), (Obj.coreActiveBank 31, b)] else s

/-- Journal the state of the update unit (record type 0x40): state, package version, activation time. -/
def updJnl (s : State) : State :=
  s.jnl 0x40 U.upd 0xFF 0xFF false (record [(1, s.reg Obj.updState), (4, s.reg Obj.updStagedVersion), (8, s.reg Obj.updActivateAt)])

/-- Set the state of the update unit and journal it. -/
def updTo (s : State) (st : Nat) : State := (s.setReg Obj.updState st).updJnl

/-- When every start check of an activation is over, the package is in TRIAL (R413, R417). The event names the targets that were skipped: their number
and the first six handles. -/
def updSettle (s : State) : State :=
  if s.reg Obj.updState ≠ 4 ∨ Upd.items.any (fun h => s.reg (Reg.startCheck h) != 0) then s
  else
    let skipped := s.num Num.updSkipped
    let s := s.raise [.hal, .owner] U.upd St.updActivated 0xFF 1 ((1, skipped.length) :: (skipped.take 6).map (fun h => (2, h)))
    (s.setRegs [(Reg.updTrialFrom, s.hoursNow), (Reg.updPrevVersion, s.reg Obj.updActiveVersion),
      (Obj.updActiveVersion, s.reg Obj.updStagedVersion)]).updTo 5

/-- An item passes its start check. -/
def startPassed (s : State) (h : Nat) : State :=
  if s.reg (Reg.startCheck h) = 0 then s else (s.setReg (Reg.startCheck h) 0).updSettle

/-- The committed settings of a unit in the format of the revision of bank `b` (R420): those of its objects that this revision has. While the item of the unit
runs in trial from the other bank, the journal holds both formats: a commit to an object of both revisions stands in both, one to an object of the new
revision alone only in the new format. -/
def settingsIn (s : State) (h b : Nat) : Kmap Nat :=
  s.regs.filter (fun p => isSetting p.1 && keyOf h p.1 && (s.bankRev h b == s.unitRev h || Config.objectIn (unitType h) (s.bankRev h b) p.1))

/-- The unit falls back to the revision of bank `b` (R420): its settings are those of that format; objects that only the new revision has are dropped. -/
def settingsBack (s : State) (h b : Nat) : State :=
  let keep := s.settingsIn h b
  let gone := fun (k : Nat) => isSetting k && keyOf h k && !keep.any (fun p => p.1 == k)
  { s with regs := s.regs.filter (fun p => !gone p.1), pend := s.pend.filter (fun p => !gone p.1) }

/-- A switched item fails its start check, or a fault meets it during trial (R415, R417): it goes back to its other bank, or its unit dies when that one
has failed as well. Its settings return to the former revision (R420) and its added units to those that image declares (R10). The number says which: 0 neither (no item in trial), 1 it starts again on the other bank, 2 DEAD. -/
def startFailed (s : State) (h : Nat) : State × Nat :=
  let b := s.reg (Reg.itemBank h)
  if s.reg (Reg.startCheck h) = 2 then
    let s := ((s.setItemState h b 4).setReg (Reg.startCheck h) 0).raise [.hal, .owner] U.upd St.updBothFailed 0xFF 3 [(2, h)]
    ((s.setUnitState h 5).updSettle, 2)
  else if s.itemTrial h then
    let s := (((s.settingsBack h (1 - b)).itemSwitch h (1 - b) 2 4).setReg (Reg.startCheck h) 2).redeclare h ((s.fifo (Fifo.item h (1 - b))).headD [])
    let s := s.raise [.hal, .owner] h St.updFallback 0xFF 2 [(1, 1 - b), (4, s.reg (Reg.itemVer h (1 - b)))]
    (if s.reg (Reg.unitState h) = 2 then s.setUnitState h 1 else s, 1)
  else (s, 0)

end State
end Sys2Proof.Machine
end

