-- ==== Sys2Proof/Machine/Derived.lean ====
section
/-!
DEFINITION. Machine/Derived.lean: what an object reads as (R27): the objects whose value follows from other state, the counters, and every other object's
active value. Sessions read them through the dictionary, the Ensign runtime through its bindings (R247).
-/
namespace Sys2Proof.Machine
namespace State

/-- Rings that hold a context ID (R210): rings 0 to 3 and 7 of every instance. -/
def ctxRings : List Nat := (List.range 56).flatMap (fun i => [0, 1, 2, 3, 7].map (fun r => 8 * i + r))

/-- ScanLine (log 49): lines since the last commit line, which falls at the start of line VActive + CommitLineOffset (R258); 0 while the timing generator
stands still. -/
def scanLine (s : State) (n : Nat) : Nat :=
  if s.reg (Obj.portMode n) = 3 ∨ s.reg (Reg.lineAt n) = 0 ∨ s.holdupStopped (U.head n) then 0
  else
    let ns := s.now - (s.reg (Reg.lineAt n) - 1)
    (s.reg (Obj.vActive n) + s.reg (Obj.commitLineOffset n) + ns * s.reg (Obj.pixelClockKhz n) / (Head.hTotal s.reg n * 1000000)) % Head.vTotal s.reg n

/-- RefValid (R318): a reference is stored, its role map stands, and the junction is within 20 °C of it. -/
def refHolds (s : State) (p : Nat) : Bool :=
  s.reg (Reg.touchRefTemp p) != 0 && s.reg (Reg.touchRefRole p) == s.reg (Obj.channelRole p)
    && decide ((toSigned 2 (s.reg Obj.junctionTemp) - ((s.reg (Reg.touchRefTemp p) : Int) - 32768)).natAbs ≤ 200)

/-- Objects whose value follows from other state, as session `n` reads them, but for `Mapped` of a window. -/
def derived (s : State) (n key : Nat) : Option Nat :=
  let q := s.reg (skey n Obj.queryUnit)
  let h := s.reg (skey n Obj.hqBlock)
  let banked := s.unitThere q && s.boundaryOf q != 0
  if key = Obj.hoistTime then some s.now
  else if key = Obj.timeLocked then some (b2n s.locked)
  else if key = Obj.activeEpoch then some (if banked then s.reg (Reg.activeEpoch q) else 0)
  else if key = Obj.pendingEpoch then some (if banked then s.reg (Reg.pendEpoch q) else 0)
  else if key = Obj.pendingAt then some (if banked then s.reg (Reg.pendAt q) else 0)
  else if key = Obj.boundaryCount then some (if banked then s.reg (Reg.boundaryCount q) else 0)
  else if key = Obj.holder then some (if banked then s.reg (Reg.holder q) else 0)
  else if key = Obj.hqWorld then some (if isBlock h then s.reg (Reg.blockHolder h) else 0)
  else if key = Obj.hqState then some (if isBlock h then s.reg (Reg.blockState h) else 0)
  else if key = Obj.hqWorldGen then some (if isBlock h then s.reg (Obj.worldGen (s.reg (Reg.blockHolder h))) else 0)
  else if key = Obj.contextsInUse then some (ctxRings.countP (fun x => s.reg (Reg.ringCtx (x / 8) (x % 8)) != 0))
  else if key = Obj.hoursInService then some s.hoursNow
  else if key = Obj.updTrialLeftH then
    some (if s.reg Obj.updState = 5 ∧ s.reg Obj.updTrialHours ≠ 0 then s.reg Reg.updTrialFrom + s.reg Obj.updTrialHours - s.hoursNow else 0)
  else if key = Obj.jnlOldestSeq then some (match s.journal.getLast? with | some r => r.seq | none => s.reg Obj.jnlNextSeq)
  else if key = Obj.jnlRate then some (s.journal.countP (fun (r : JRec) => decide (s.now < r.time + 1000000000)))
  else if key = Obj.acdonSlotsLive then some ((List.range 3).countP (fun k => s.reg (okey 0x401 (k + 1)) != 0 && !bit (s.reg Obj.revokeMask) k))
  else if 0x5006 ≤ key / 256 ∧ key / 256 < 0x5806 ∧ (key / 256) % 0x100 = 6 then
    some (encDomain ((s.num (Num.base ((key / 256 - 0x5006) / 0x100))).flatMap (leBytes 2)))
  else if 0x900 ≤ key / 256 ∧ key / 256 < 0x938 ∧ key % 256 = 0xC ∧ key / 256 < 0x930 then some 0xFFFF
  else if 0x4005 ≤ key / 256 ∧ key / 256 < 0x4805 ∧ (key / 256) % 0x100 = 5 ∧ key % 256 = 3 then some (s.scanLine ((key / 256 - 0x4005) / 0x100))
  else if 0x5004 ≤ key / 256 ∧ key / 256 < 0x5804 ∧ (key / 256) % 0x100 = 4 ∧ key % 256 = 9 then some (b2n (s.refHolds ((key / 256 - 0x5004) / 0x100)))
  else none

/-- The value of an object as session `n` reads it: a derived value, a counter, the session's own copy, or the active value. -/
def objValue (s : State) (n key : Nat) : Nat :=
  match s.derived n key with
  | some v => v
  | none =>
    if 0x7800 ≤ key / 256 ∧ key / 256 < 0x7806 ∧ 0 < key % 256 ∧ key % 256 ≤ 0x80 then s.reg (Reg.counter (128 * (key / 256 - 0x7800) + key % 256 - 1))
    else if perSessionKey key then s.reg (skey n key)
    else s.reg key
where
  /-- An object kept per session (R27). -/
  perSessionKey (key : Nat) : Bool := match objRow key with
    | some o => o.perSession
    | none => false

end State
end Sys2Proof.Machine
end

