-- ==== Sys2Proof/Machine/Sha.lean ====
section
/-!
DEFINITION. Machine/Sha.lean: the SHA-2 hash functions that the spec names (R396, R397, R440). Their definition is that of the published
standard (log 17).
-/
namespace Sys2Proof.Machine

namespace Sha

/-- The greatest number of `n` bits or fewer, `r` being its bits found above them, whose `e`-th power does not exceed `x`. -/
def rootFrom (e x : Nat) : Nat → Nat → Nat
  | 0, r => r
  | n + 1, r => rootFrom e x n (if (r + 2 ^ n) ^ e ≤ x then r + 2 ^ n else r)

/-- The first 64 fractional bits of the `e`-th root of a number below 2^12. -/
def rootBits (e p : Nat) : Nat := rootFrom e (p * 2 ^ (64 * e)) 70 0 % 2 ^ 64

/-- The primes below 410, 80 of them. -/
def primes : List Nat :=
  (List.range 410).filter (fun n => decide (2 ≤ n) && (List.range 21).all (fun d => decide (d < 2) || decide (n < d * d) || n % d != 0))

/-- Round constants of 64 bits: cube roots of the primes. Those of 32 bits are their upper halves, for the first 64 primes. -/
def roundConstants (w : Nat) : List Nat :=
  if w = 64 then primes.map (rootBits 3) else (primes.take 64).map (fun p => rootBits 3 p / 2 ^ 32)

/-- Initial values: square roots of eight primes from place `i` on, in words of `w` bits. -/
def initial (w i : Nat) : List Nat := ((primes.drop i).take 8).map (fun p => rootBits 2 p / 2 ^ (64 - w))

/-- A function of the family: word width, round constants, initial value, rotations and shifts, bytes of its result. -/
structure Kind where
  w : Nat
  k : List Nat
  iv : List Nat
  rot : List Nat
  out : Nat

/-- Rotations and shifts of the functions of 64-bit words. -/
def wideTurns : List Nat := [28, 34, 39, 14, 18, 41, 1, 8, 7, 19, 61, 6]

/-- SHA-256. -/
def s256 : Kind := ⟨32, roundConstants 32, initial 32 0, [2, 13, 22, 6, 11, 25, 7, 18, 3, 17, 19, 10], 32⟩
/-- SHA-384, whose initial value is that of the 9th to 16th prime. -/
def s384 : Kind := ⟨64, roundConstants 64, initial 64 8, wideTurns, 48⟩
/-- SHA-512. -/
def s512 : Kind := ⟨64, roundConstants 64, initial 64 0, wideTurns, 64⟩

/-- Rotate right. -/
def rotr (w n x : Nat) : Nat := (x >>> n ||| x <<< (w - n)) % 2 ^ w

/-- Exclusive or of three rotations taken from place `i` of the list. -/
def big (c : Kind) (i x : Nat) : Nat := rotr c.w (c.rot.getD i 0) x ^^^ rotr c.w (c.rot.getD (i + 1) 0) x ^^^ rotr c.w (c.rot.getD (i + 2) 0) x

/-- Exclusive or of two rotations and a shift. -/
def small (c : Kind) (i x : Nat) : Nat := rotr c.w (c.rot.getD i 0) x ^^^ rotr c.w (c.rot.getD (i + 1) 0) x ^^^ x >>> c.rot.getD (i + 2) 0

/-- Extend the message schedule, held newest first, by `n` words. -/
def schedule (c : Kind) : Nat → List Nat → List Nat
  | 0, ws => ws
  | n + 1, ws => schedule c n ((small c 9 (ws.getD 1 0) + ws.getD 6 0 + small c 6 (ws.getD 14 0) + ws.getD 15 0) % 2 ^ c.w :: ws)

/-- One round on the eight working words with constant plus schedule word `kw`. -/
def round (c : Kind) (v : List Nat) (kw : Nat) : List Nat := match v with
  | [a, b, d, e, f, g, h, i] =>
    let t1 := i + big c 3 f + ((f &&& g) ^^^ ((2 ^ c.w - 1 - f) &&& h)) + kw
    let t2 := big c 0 a + ((a &&& b) ^^^ (a &&& d) ^^^ (b &&& d))
    [(t1 + t2) % 2 ^ c.w, a, b, d, (e + t1) % 2 ^ c.w, f, g, h]
  | l => l

/-- Big-endian number of a byte string. -/
def beNat (b : Bytes) : Nat := leNat b.reverse

/-- The `n` big-endian bytes of a number. -/
def beBytes (n v : Nat) : Bytes := (leBytes n v).reverse

/-- One block. -/
def block (c : Kind) (hv : List Nat) (b : Bytes) : List Nat :=
  let w8 := c.w / 8
  let ws := (List.range 16).map (fun i => beNat ((b.drop (w8 * i)).take w8))
  let sched := (schedule c (c.k.length - 16) ws.reverse).reverse
  let v := (c.k.zip sched).foldl (fun v x => round c v (x.1 + x.2)) hv
  (hv.zip v).map (fun x => (x.1 + x.2) % 2 ^ c.w)

/-- All blocks of a padded message, `n` of them. -/
def blocks (c : Kind) : Nat → List Nat → Bytes → List Nat
  | 0, hv, _ => hv
  | n + 1, hv, b => blocks c n (block c hv (b.take (2 * c.w))) (b.drop (2 * c.w))

/-- The hash of a message. -/
def hash (c : Kind) (m : Bytes) : Bytes :=
  let bl := 2 * c.w
  let lenB := c.w / 4
  let z := (bl - (m.length + 1 + lenB) % bl) % bl
  let p := m ++ [0x80] ++ List.replicate z 0 ++ beBytes lenB (8 * m.length)
  ((blocks c (p.length / bl) c.iv p).flatMap (fun x => beBytes (c.w / 8) x)).take c.out

end Sha

/-- SHA-256 of a byte string. -/
def sha256 (m : Bytes) : Bytes := Sha.hash Sha.s256 m
/-- SHA-384 of a byte string. -/
def sha384 (m : Bytes) : Bytes := Sha.hash Sha.s384 m
/-- SHA-512 of a byte string. -/
def sha512 (m : Bytes) : Bytes := Sha.hash Sha.s512 m

end Sys2Proof.Machine
end

