-- ==== Sys2Proof/Machine/SecOps.lean ====
section
/-!
DEFINITION. Machine/SecOps.lean: measurement registers (R396) and the gate of the objects that start an operation when written.
-/
namespace Sys2Proof.Machine
namespace State

/-- Extend measurement register `j` with an item (R396): M = SHA-384(M, SHA-384(item)). -/
def measure (s : State) (j : Nat) (item : Bytes) : State :=
  s.setReg (Obj.measurement j) (leNat (sha384 (leBytes 48 (s.reg (Obj.measurement j)) ++ sha384 item)))

/-- Carry out the operation that a write of object `key` by session `n` starts, when the session is served and may write the object. -/
def gated (s : State) (n key : Nat) (f : State → State) : State :=
  s.request n 2 key (fun s => if s.gate n key .w = St.ok then f s else s.reply (s.gate n key .w))

/-- Carry out the write of bytes `d` to object `key` by session `n`, when the session is served and the write passes its checks. -/
def written (s : State) (n key : Nat) (d : Bytes) (f : State → State) : State :=
  s.request n 2 key (fun s => if s.writeStatus n key d = St.ok then f s else s.reply (s.writeStatus n key d))

/-- The slot that a KEY_REF byte names is the live one of its kind (R391). -/
def keyLive (s : State) (ref : Nat) : Bool :=
  if ref < 0x10 then s.reg Obj.acdonSlot != 0xFF && ref == s.reg Obj.acdonSlot
  else s.reg Obj.ownerSlot != 0xFF && ref == 0x10 + s.reg Obj.ownerSlot

/-- Floor of an anti-rollback class (R392). -/
def floorOf (s : State) (c : Nat) : Nat := bits (s.reg Obj.rollbackFloors) (8 * c) 8

end State
end Sys2Proof.Machine
end

