-- ==== Sys2Proof/Machine/EnsignOps.lean ====
section
/-!
DEFINITION. Machine/EnsignOps.lean: the Ensign plane (R242 to R250) and display integrity (chapter 11): discrete outputs, content packages,
bindings, pages, region buffers and signatures, region states, the fallback chain.
-/
namespace Sys2Proof.Machine

/-! Lists of numbers of the Ensign plane. -/
namespace Num
/-- Expected signatures of buffer `b` of region `k` of head `n` under the eight palette sets (R245). -/
abbrev sigExp (n k b : Nat) : Nat := 0xA000000000 + 32 * n + 2 * k + b
/-- Indices of region `k`'s front buffer as a package switch found them: shown until the head takes the new package (R246). -/
abbrev regionHeld (n k : Nat) : Nat := 0xB600000300 + 16 * n + k
end Num

/-- One step of a reflected CRC-32 over a byte: eight shifts. -/
def crcShift : Nat → Nat → Nat
  | 0, c => c
  | k + 1, c => crcShift k (if c % 2 = 1 then (c / 2) ^^^ 0xEDB88320 else c / 2)

/-- CRC-32 of R288: polynomial 0x04C1_1DB7, reflected, initial value and final XOR 0xFFFF_FFFF. -/
def crc32 (b : Bytes) : Nat := (b.foldl (fun c x => crcShift 8 (c ^^^ x.toNat)) 0xFFFFFFFF) ^^^ 0xFFFFFFFF

/-- The four bytes that a palette entry contributes at panel depth `d` (R288): R, G, B in 10 bits truncated to the depth. -/
def sigWord (e d : Nat) : Nat :=
  let c := fun (sh : Nat) => bits e sh 10 / 2 ^ (10 - min 10 d) * 2 ^ (10 - min 10 d) * 2 ^ sh
  c 20 + c 10 + c 0

/-- Base of the Ensign SRAM. -/
abbrev ensSram : Nat := 0x1004000000

namespace State

/-! Discrete outputs (R500, R501). -/

/-- Output entries of the active package with their numbers. -/
def outEntries (s : State) : List (Nat × EnsOutput) :=
  match s.activePkg with
  | none => []
  | some p => p.outputs.zipIdx.map (fun x => (x.2, x.1))

/-- Pins that act as outputs. -/
def pinIsOut (s : State) (o : Nat) : Bool :=
  s.reg Obj.alarmOutNoScreen == o || s.reg Obj.alarmOutDegraded == o || s.outEntries.any (fun e => e.2.out == o)

/-- A pin is asserted while any output that names it asserts it. -/
def pinWant (s : State) (o : Nat) : Bool :=
  (s.reg Obj.alarmOutNoScreen == o && s.reg Reg.noScreenOut == 1) || (s.reg Obj.alarmOutDegraded == o && s.reg Reg.degradedOut == 1)
    || s.outEntries.any (fun e => e.2.out == o && s.reg (Reg.outOn e.1) == 1)

/-- Drive one pin: it sinks current (level 0) while asserted, or while not asserted where its IoPolarity bit is set; in OFF, BOOT and
RECOVERY it is released; in FLUSHING it holds its level. -/
def pinDrive (s : State) (o : Nat) : State :=
  let p := s.reg Obj.powerState
  if p = 5 ∨ !s.pinIsOut o then s
  else
    let want := s.pinWant o
    let sink := (p != 0 && p != 1 && p != 7) && (want != bit (s.reg Obj.ioPolarity) o)
    let s' := s.setReg (Reg.pinAsserted o) (b2n want)
    if s.reg (Reg.pinLevel o) = b2n !sink then s'
    else
      let lv := s.reg Obj.ioLevels
      (s'.setRegs [(Reg.pinLevel o, b2n !sink), (Obj.ioLevels, if sink then clearBit lv o else setBit lv o)]).emit (.pin U.io o (b2n !sink))

/-- Drive every output pin and keep IoOutputs. -/
def ioDerive (s : State) : State :=
  let s := s.setReg Obj.ioOutputs ((List.range 32).foldl (fun a o => if s.pinIsOut o then setBit a o else a) 0)
  (List.range 32).foldl pinDrive s

/-! Packages (R246). -/

/-- Two regions of one head overlap. -/
def regionsOverlap (a b : EnsRegion) : Bool :=
  a.head == b.head && decide (a.x < b.x + b.w) && decide (b.x < a.x + a.w) && decide (a.y < b.y + b.h) && decide (b.y < a.y + a.h)

/-- Bytes of Ensign SRAM a package takes: two buffers for each region and the assets (R242). -/
def pkgSram (p : EnsPkg) : Nat := 2 * (p.regions.map (fun r => r.w * r.h)).foldl (· + ·) 0 + p.assetData.length

/-- A region of a package by head and number. -/
def pkgRegion (p : EnsPkg) (n k : Nat) : Option EnsRegion := p.regions.find? (fun r => r.head == n && r.region == k)

/-- The FallbackRegion of a head under a region table is placed and at least as wide and high as every region of the naming head (R298). -/
def fallbackFits (place : Nat → Nat → Option (Nat × Nat)) (n c fr : Nat) : Bool :=
  match place c fr with
  | none => false
  | some (w, h) => (List.range 16).all (fun k => match place n k with
    | none => true
    | some (w', h') => decide (w' ≤ w) && decide (h' ≤ h))

/-- The heads of a chain in order. -/
def chainOf (x : Nat) : List Nat := ([bits x 0 8, bits x 8 8, bits x 16 8]).filter (· != 0xFF)

/-- Check of R298 for head `n` with values `v`. -/
def checkFallback (v : Nat → Nat) (place : Nat → Nat → Option (Nat × Nat)) (n : Nat) : Check :=
  let ch := chainOf (v (Obj.fallbackChain n))
  let bad := St.fallbackInvalid
  firstOf [
    failIf (bits (v (Obj.fallbackChain n)) 24 8 != 0xFF || ch.any (fun c => c == n || decide (7 < c)) || !decide ch.Nodup) bad (Obj.fallbackChain n),
    firstIn ch (fun c => failIf (!fallbackFits place n c (v (Obj.fallbackRegion c))) bad (Obj.fallbackChain n)),
    firstIn (List.range 8) (fun m => failIf ((chainOf (v (Obj.fallbackChain m))).contains n
      && !fallbackFits place m n (v (Obj.fallbackRegion n))) bad (Obj.fallbackRegion n))]

/-- Regions in force: width and height of a placed region. -/
def placeNow (s : State) (n k : Nat) : Option (Nat × Nat) :=
  if s.reg (Obj.regionUsed n k) = 1 then some (s.reg (Obj.regionW n k), s.reg (Obj.regionH n k)) else none

/-- First record of a list that fails. -/
def badAt {α : Type} (l : List α) (f : α → Bool) : Option Nat := (l.zipIdx.find? (fun x => f x.1)).map Prod.snd

/-- Result of a verification: a status with section and record, or none where every check passes. -/
abbrev PkgFault := Option (Nat × Nat × Nat)

/-- A failure of section `sec`. -/
def pkgFail (st sec : Nat) (o : Option Nat) : PkgFault := o.map (fun r => (st, sec, r))

/-- First failure. -/
def pkgFirst : List PkgFault → PkgFault
  | [] => none
  | some f :: _ => some f
  | none :: l => pkgFirst l

/-- Object of a binding is readable by ENS. -/
def ensReads (idx sub : Nat) : Bool := match objRow (okey idx sub) with
  | some o => bit o.r 1
  | none => false

/-- Page of a package by number. -/
def pkgPage (p : EnsPkg) (n : Nat) : Option EnsPage := p.pages.find? (fun g => g.num == n)

/-- Record of the region that PackageDetail names for a chain of head `n` that the package's geometry breaks (R298): the first region of that head that is wider
or higher than the FallbackRegion of a head of its chain, else its first region. -/
def fallbackRecord (v : Nat → Nat) (p : EnsPkg) (n : Nat) : Nat :=
  ((badAt p.regions (fun r => r.head == n && (chainOf (v (Obj.fallbackChain n))).any (fun c =>
      (pkgRegion p c (v (Obj.fallbackRegion c))).any (fun q => decide (q.w < r.w) || decide (q.h < r.h))))).or
    (badAt p.regions (fun r => r.head == n))).getD 0

/-- The verification of a package, in the order of R246, with the record tests of R249, R250 and of the tone records. -/
def pkgVerify (s : State) (p : EnsPkg) : PkgFault :=
  let live := s.reg Obj.ownerSlot
  let place := fun n k => (pkgRegion p n k).map (fun r => (r.w, r.h))
  pkgFirst [
    pkgFail St.ensPackageSig 0 (if p.sigOk ∧ live ≠ 0xFF ∧ p.keyRef = 0x10 + live then none else some 0),
    pkgFail St.ensPackageType 0 (if p.magic = 0x4E454A46 ∧ p.format = 1 ∧ p.hwType = 0x08800001 then none else some 0),
    pkgFail St.ensPackageRollback 0 (if p.rollback < bits (s.reg Obj.rollbackFloors) 24 8 then some 0 else none),
    pkgFail St.ensPackageFormat 0 (if p.sections = 0 ∨ 16 < p.sections then some 0 else none),
    pkgFail St.ensRegionInvalid 1 (badAt p.regions (fun r => decide (7 < r.head) || decide (15 < r.region) || r.w == 0 || r.h == 0
      || decide (s.reg (Obj.hActive r.head) < r.x + r.w) || decide (s.reg (Obj.vActive r.head) < r.y + r.h)
      || p.regions.countP (fun q => regionsOverlap r q) != 1 || p.regions.countP (fun q => q.head == r.head && q.region == r.region) != 1)),
    pkgFail St.ensPackageFormat 1 (badAt p.regions (fun r => (r.live && (decide (r.freeze < 50) || decide (10000 < r.freeze)))
      || (pkgPage p r.page).isNone)),
    pkgFail St.ensRegionInvalid 1 (((List.range 8).find? (fun n => (checkFallback s.reg place n).isSome)).map (fallbackRecord s.reg p)),
    pkgFail St.ensSramFull 4 (if 6291456 < pkgSram p then some 0 else none),
    pkgFail St.ensBindingInvalid 6 (badAt p.bindings (fun b => !ensReads b.idx b.sub
      || (match b.valid with | some (i, u) => !ensReads i u | none => false))),
    pkgFail St.ensPackageFormat 2 (if p.palettes.length = 2048 then none else some 0),
    pkgFail St.ensPackageFormat 3 (if p.setMap.length = 32 ∧ p.setMap.all (fun x => decide (x < 8)) then none else some 0),
    pkgFail St.ensPackageFormat 5 (badAt p.pages (fun g => (pkgRegion p g.head g.region).isNone || decide (2 < g.kind)
      || g.assets.any (fun a => decide (p.assets ≤ a)) || g.binds.any (fun b => decide (p.bindings.length ≤ b))
      || (match g.cond with | some (b, t, _) => decide (p.bindings.length ≤ b) || decide (4 < t) | none => false)
      || (g.tone != 0xFF && !p.tones.any (fun t => t.num == g.tone)))),
    pkgFail St.ensPackageFormat 6 (badAt p.bindings (fun b => (pkgPage p b.lost).isNone)),
    pkgFail St.ensBindingInvalid 6 (badAt p.bindings.zipIdx (fun b => p.pages.any (fun g =>
      (g.binds.contains b.2 || (match g.cond with | some (x, _, _) => x == b.2 | none => false))
        && decide (((pkgPage p b.1.lost).map EnsPage.prio).getD 0 < g.prio)))),
    pkgFail St.ensPackageFormat 7 (badAt p.tones (fun t => decide (63 < t.num) || t.segs.isEmpty || decide (8 < t.segs.length)
      || t.segs.any (fun x => decide (x.f1 < 100) || decide (8000 < x.f1) || decide (x.ms < 10) || decide (10000 < x.ms)
        || decide (120 < x.level) || decide (3 < x.shape)))),
    pkgFail St.ensPackageFormat 8 (badAt p.acks (fun a => match pkgRegion p a.head a.region with
      | none => true
      | some r => a.input == 0xFF && (decide (r.w < a.x + a.w) || decide (r.h < a.y + a.h)))),
    pkgFail St.ensPackageFormat 9 (if p.period < 5 ∨ 100 < p.period then some 0 else none),
    pkgFail St.ensPackageFormat 10 (if 32 < p.outputs.length then some 32 else badAt p.outputs (fun o => decide (2 < o.source) || decide (2 < o.pattern))),
    pkgFail St.ensBindingInvalid 10 (badAt p.outputs (fun o => decide (31 < o.out) || s.reg Obj.remoteOffInput == o.out
      || p.acks.any (fun a => a.input == o.out) || p.outputs.any (fun q => q.lamp == o.out)
      || (o.source == 2 && (pkgPage p o.page).isNone)))]

/-- A package binds as an input a pin that acts as an output already (R502). -/
def pkgInputClash (s : State) (p : EnsPkg) : Bool :=
  (p.acks.map EnsAck.input ++ p.outputs.map EnsOutput.lamp).any (fun o => decide (o < 32) && s.pinIsOut o)

/-- The package whose regions are drawn: the new one while switching. -/
def drawPkg (s : State) : Option EnsPkg := if s.reg Obj.packageState = 3 then s.nextPkg else s.activePkg

/-- Offset of a buffer in the Ensign SRAM: the buffers of the regions in package order, two each (log 15). -/
def bufferOff : List EnsRegion → Nat → Nat → Nat → Option (Nat × EnsRegion)
  | [], _, _, _ => none
  | r :: rs, n, k, o => if r.head = n ∧ r.region = k then some (o, r) else bufferOff rs n k (o + 2 * r.w * r.h)

/-- Base address, width and height of buffer `b` of a region. -/
def buffer (s : State) (n k b : Nat) : Option (Nat × Nat × Nat) :=
  match s.drawPkg with
  | none => none
  | some p => (bufferOff p.regions n k 0).map (fun x => (ensSram + x.1 + b * x.2.w * x.2.h, x.2.w, x.2.h))

/-- Address of the assets of the package drawn. -/
def assetBase (s : State) : Nat :=
  match s.drawPkg with
  | none => ensSram
  | some p => ensSram + 2 * (p.regions.map (fun r => r.w * r.h)).foldl (· + ·) 0

/-- Back buffer of a region. -/
def backBuffer (s : State) (n k : Nat) : Option (Nat × Nat × Nat) := s.buffer n k (1 - s.reg (Reg.regionFront n k))

/-- Write a rectangle of a back buffer from a function of its pixels; drawing makes the buffer unsigned. -/
def drawRect (s : State) (n k x y w h : Nat) (f : Nat → Nat → Byte) : State :=
  match s.backBuffer n k with
  | none => s
  | some (a, bw, bh) =>
    if bw < x + w ∨ bh < y + h then s
    else
      let s := s.setReg (Reg.regionSigned n k) 0
      (List.range h).foldl (fun s j => (List.range w).foldl (fun s i => s.setByte (a + (y + j) * bw + x + i) (f i j)) s) s

/-- Expected signatures of buffer `b` of a region under every palette set (R245). -/
def signBuffer (s : State) (n k b : Nat) : List Nat :=
  match s.drawPkg, s.buffer n k b with
  | some p, some (a, w, h) =>
    let d := s.reg (Obj.panelDepth n)
    let px := (s.readBytes a (w * h)).map BitVec.toNat
    (List.range 8).map (fun set => crc32 (px.flatMap (fun i => leBytes 4 (sigWord (p.palettes.getD (256 * set + i) 0) d))))
  | _, _ => []

/-! The runtime (R247 to R250). -/

/-- The field of a binding's object that the binding names, as the runtime's own session reads the object (R247; log 10). -/
def bindField (s : State) (b : EnsBinding) : Nat := s.objValue 2 (okey b.idx b.sub) / 2 ^ (8 * b.byteOff + b.bitOff) % 2 ^ b.width

/-- Value of a binding's object. -/
def bindValue (s : State) (b : EnsBinding) : Int :=
  let v := s.bindField b
  if b.signed ∧ 0 < b.width ∧ 2 ^ (b.width - 1) ≤ v then (v : Int) - 2 ^ b.width else v

/-- Test of a condition (R249); the constant has the binding's width and type. -/
def condTest (v : Int) (t : Nat) (c : Int) : Bool :=
  if t = 0 then decide (v = c) else if t = 1 then decide (v ≠ c) else if t = 2 then decide (c < v) else if t = 3 then decide (v < c)
  else (v.toNat &&& c.toNat) != 0

/-- Result of a page's condition: the last one while its binding is stale. -/
def pageHolds (s : State) (p : EnsPkg) (g : EnsPage) : Bool :=
  match g.cond with
  | none => true
  | some (b, t, c) =>
    if s.reg (Reg.bindStale b) = 1 then s.reg (Reg.pageCond g.num) == 1
    else match p.bindings[b]? with
      | none => false
      | some x =>
        let c' : Int := if x.signed ∧ 0 < x.width ∧ 2 ^ (x.width - 1) ≤ c % 2 ^ x.width then (c % 2 ^ x.width : Nat) - 2 ^ x.width
          else (c % 2 ^ x.width : Nat)
        if t = 4 then (s.bindField x &&& c) != 0
        else condTest (s.bindValue x) t c'

/-- Raise an event of the Ensign runtime about a page (log 16). -/
def ensEvent (s : State) (st sev n k p : Nat) : State := s.raise [.hal, .owner] U.ens st 1 sev [(1, n), (1, k), (2, p)]

/-- Journal an ENS_STATE record (R428): it stays live while it says an active page or a stale binding. -/
def ensState (s : State) (n k p b st : Nat) : State :=
  s.jnl 0x21 U.ens 1 0xFF (st == 1) (record [(1, n), (1, k), (2, p), (2, b), (1, st)])

/-- A binding goes stale or valid (R247). -/
def bindStep (s : State) (p : EnsPkg) (x : EnsBinding × Nat) : State :=
  let b := x.2
  let stale := match x.1.valid with
    | some (i, u) => s.objValue 2 (okey i u) == 0
    | none => false
  if b2n stale = s.reg (Reg.bindStale b) then s
  else
    let lost := x.1.lost
    let nk := ((pkgPage p lost).map (fun g => (g.head, g.region))).getD (0, 0)
    let s := (s.setReg (Reg.bindStale b) (b2n stale)).ensState nk.1 nk.2 lost b (b2n stale)
    s.raise [.hal, .owner] U.ens (if stale then St.ensInputLost else St.ensInputBack) 1 (if stale then 4 else 1) [(2, b), (2, lost)]

/-- Make a page active or inactive, journalled. -/
def pageSet (s : State) (g : EnsPage) (on : Bool) : State :=
  if s.reg (Reg.pageActive g.num) = b2n on then s
  else
    let s := s.jnlDead (s.reg (Reg.pageJnl g.num))
    ((s.setRegs [(Reg.pageActive g.num, b2n on), (Reg.pageJnl g.num, s.jnlSeq)])).ensState g.head g.region g.num 0xFFFF (b2n on)

/-- Evaluate a page's condition (R249). -/
def pageStep (s : State) (p : EnsPkg) (g : EnsPage) : State :=
  let now := s.pageHolds p g
  let was := s.reg (Reg.pageCond g.num) == 1
  let s := s.setReg (Reg.pageCond g.num) (b2n now)
  if g.kind ≠ 2 then s.pageSet g now
  else if now && !was && s.reg (Reg.pageActive g.num) = 0 then
    (((s.pageSet g true).setRegs [(Reg.pageAcked g.num, 0), (Reg.pageTone g.num, b2n (g.tone != 0xFF))])).ensEvent St.ensAlarmOn 4 g.head g.region g.num
  else if !now && s.reg (Reg.pageActive g.num) = 1 && (!g.latch || s.reg (Reg.pageAcked g.num) == 1) then
    ((s.pageSet g false).setReg (Reg.pageTone g.num) 0).ensEvent St.ensAlarmOff 1 g.head g.region g.num
  else s

/-- Acknowledge the page shown in a region (R248, R249): a journalled acknowledge of an active alarm page. -/
def pageAck (s : State) (p : EnsPkg) (src : Nat) (g : EnsPage) : State :=
  if g.kind ≠ 2 ∨ s.reg (Reg.pageActive g.num) = 0 then s.jnl 0x22 U.ens 1 0xFF false (record [(1, src), (1, g.head), (1, g.region), (2, g.num)])
  else
    let s := s.jnl 0x22 U.ens 1 0xFF (s.reg (Reg.pageAcked g.num) == 0) (record [(1, src), (1, g.head), (1, g.region), (2, g.num)])
    let s := if s.reg (Reg.pageAcked g.num) = 1 then s
      else (s.setRegs [(Reg.pageAcked g.num, 1), (Reg.pageTone g.num, 0)]).ensEvent St.ensAlarmAck 1 g.head g.region g.num
    if g.latch ∧ !s.pageHolds p g then (s.pageSet g false).ensEvent St.ensAlarmOff 1 g.head g.region g.num else s

/-- Counts of the present bindings and alarms (0x4F02). -/
def ensCounts (s : State) (p : EnsPkg) : State :=
  let al := p.pages.filter (fun g => g.kind == 2 && s.reg (Reg.pageActive g.num) == 1)
  s.setRegs [(Obj.bindings, p.bindings.length), (Obj.bindingsStale, (List.range p.bindings.length).countP (fun b => s.reg (Reg.bindStale b) == 1)),
    (Obj.alarmsActive, al.length), (Obj.alarmsUnacked, al.countP (fun g => s.reg (Reg.pageAcked g.num) == 0))]

/-- Pages that region (n, k) offers of its own: its active pages and the INPUT LOST pages of stale bindings its pages use (R247, R248). -/
def ownPages (s : State) (p : EnsPkg) (n k : Nat) : List EnsPage :=
  let mine := p.pages.filter (fun g => g.head == n && g.region == k)
  let lost := p.bindings.zipIdx.filter (fun b => s.reg (Reg.bindStale b.2) == 1
    && mine.any (fun g => g.binds.contains b.2 || (match g.cond with | some (x, _, _) => x == b.2 | none => false)))
  mine.filter (fun g => s.reg (Reg.pageActive g.num) == 1) ++ lost.filterMap (fun b => pkgPage p b.1.lost)

/-- Candidates of region (n, k): its own pages, and, where it is the FallbackRegion, those of every region head `n` carries (R299). Each has its
source head plus 1, or 0 for an own page. -/
def candidates (s : State) (p : EnsPkg) (n k : Nat) : List (EnsPage × Nat) :=
  (s.ownPages p n k).map (fun g => (g, 0)) ++
    (if s.reg (Obj.fallbackRegion n) = k then
      (List.range 8).flatMap (fun m => (List.range 16).flatMap (fun j =>
        if s.reg (Reg.carrier m j) = n + 1 then (s.ownPages p m j).map (fun g => (g, m + 1)) else []))
    else [])

/-- The page shown: highest priority; among equals an own page, then the lower source head, then the lower number (R248, R299). -/
def bestPage (l : List (EnsPage × Nat)) : Option (EnsPage × Nat) :=
  l.foldl (fun b x => match b with
    | none => some x
    | some y =>
      if y.1.prio < x.1.prio ∨ (y.1.prio = x.1.prio ∧ (x.2 < y.2 ∨ (x.2 = y.2 ∧ x.1.num < y.1.num))) then some x else b) none

/-- Choose the page of a region; a page other than the one in front is to be drawn in the back buffer. -/
def regionChoose (s : State) (p : EnsPkg) (n k : Nat) : State :=
  match bestPage (s.candidates p n k) with
  | none => s
  | some (g, src) =>
    let back := s.reg (Reg.regionBackPage n k)
    if back = g.num + 1 ∧ s.reg (Reg.regionBackFrom n k) = src then s
    else if back = 0 ∧ s.reg (Obj.pageShown n k) = g.num ∧ s.reg (Reg.regionFrontFrom n k) = src then s
    else s.setRegs [(Reg.regionBackPage n k, g.num + 1), (Reg.regionBackFrom n k, src), (Reg.regionSigned n k, 0)]

/-- Choose the page of every placed region; during a switch the regions are drawn for the new package alone. -/
def regionsChoose (s : State) : State :=
  match s.activePkg with
  | none => s
  | some p => if s.reg Obj.packageState = 3 then s else p.regions.foldl (fun s r => s.regionChoose p r.head r.region) s

/-- An output entry is asserted (R250). -/
def outState (s : State) (p : EnsPkg) (e : Nat) (o : EnsOutput) : Bool :=
  let al := p.pages.filter (fun g => g.kind == 2 && s.reg (Reg.pageActive g.num) == 1)
  let src := if o.source = 0 then al.any (fun g => s.reg (Reg.pageAcked g.num) == 0)
    else if o.source = 1 then !al.isEmpty else s.reg (Reg.pageActive o.page) == 1
  (decide (o.lamp < 32) && s.reg (Reg.lampOn o.lamp) == 1) || (src && (o.pattern == 0 || s.reg (Reg.flashOn e) == 1))

/-- Phase of a flashing entry at a hoist time: on in the first half of each cycle from whole seconds. -/
def flashPhase (pattern now : Nat) : Bool :=
  if pattern = 2 then decide (now % 500000000 < 250000000) else decide (now % 1000000000 < 500000000)

/-- Outputs follow their sources. -/
def outsStep (s : State) : State :=
  match s.activePkg with
  | none => s
  | some p => ((p.outputs.zipIdx).foldl (fun s x =>
      let s := s.setReg (Reg.flashOn x.2) (b2n (flashPhase x.1.pattern s.now))
      s.setReg (Reg.outOn x.2) (b2n (s.outState p x.2 x.1))) s).ioDerive

/-! Region states and the fallback chain (R294 to R302). -/

/-- Raise an integrity event (R296). -/
def integrityEvent (s : State) (n k st sev obs exp : Nat) : State :=
  s.raise [.hal, .owner, .ens] (U.head n) st 0xFF sev [(1, n), (1, k), (4, s.reg (Obj.headFrame n)), (4, obs), (4, exp)]

/-- Region `k` of head `n` is of kind Ensign. -/
def isEnsign (s : State) (n k : Nat) : Bool := s.reg (Obj.regionUsed n k) == 1

/-- RegionKind and RegionCheck follow the package and the owner's settings. -/
def kindDerive (s : State) (n k : Nat) : State :=
  let kind := if s.isEnsign n k then 2 else if s.reg (Obj.sigOwnerEnable n k) = 1 then 1 else 0
  let c := s.reg (Obj.sigRegionCheck n k)
  s.setRegs [(Obj.sigRegionKind n k, kind), (Obj.sigRegionCheck n k, if kind = 0 then 0 else if c = 0 then 1 else if kind = 1 then 1 else c)]

/-- Whether a region's pixels are sent: the head is lit, and in split mode the halves it lies in are lit. A head whose core is DEAD counts as not
sending its regions, so that the fallback chain engages for it (R19, log 7). -/
def regionSent (s : State) (n k : Nat) : Bool :=
  s.reg (Reg.unitState (U.core n)) != 5 &&
  let half := s.reg (Obj.hActive n) / 2
  let x := if s.isEnsign n k then s.reg (Obj.regionX n k) else s.reg (Obj.sigX n k)
  let w := if s.isEnsign n k then s.reg (Obj.regionW n k) else s.reg (Obj.sigW n k)
  if s.reg (Obj.portMode n) = 1 then (s.portLit (2 * n) || decide (half ≤ x)) && (s.portLit (2 * n + 1) || decide (x + w ≤ half))
  else (Head.portsOf s.reg n).any s.portLit

/-- Alarm pages of a region, own or carried, not acknowledged. -/
def unackedIn (s : State) (n k : Nat) : Bool := match s.activePkg with
  | none => false
  | some p => p.pages.any (fun g => g.head == n && g.region == k && g.kind == 2 && s.reg (Reg.pageActive g.num) == 1 && s.reg (Reg.pageAcked g.num) == 0)

/-- Active pages of a region. -/
def activeIn (s : State) (n k : Nat) : Nat := match s.activePkg with
  | none => 0
  | some p => p.pages.countP (fun g => g.head == n && g.region == k && s.reg (Reg.pageActive g.num) == 1)

/-- Head that shows the pages of region (n, k), plus 1; 0 for none: from the commit line at which they appear to the one at which they leave. -/
def carryHead (s : State) (n k : Nat) : Nat :=
  if s.reg (Reg.carryShown n k) = 1 then s.reg (Reg.carrier n k) else s.reg (Reg.carrierOld n k)

/-- TakenOver, CarriedBy and PagesNoScreen follow what is shown. -/
def carryDerive (s : State) : State :=
  let at' := fun (n : Nat) => (List.range 16).filterMap (fun k => if s.carryHead n k = 0 then none else some (s.carryHead n k - 1))
  let s' := (List.range 8).foldl (fun (t : State) n => t.setRegs [(Obj.carriedBy n, (at' n).headD 0xFF),
    (Obj.takenOver n, (List.range 8).foldl (fun a m => if (at' m).contains n then setBit a m else a) 0)]) s
  s'.setReg Obj.pagesNoScreen ((List.range 8).foldl (fun a n => (List.range 16).foldl (fun a k =>
    if s.reg (Reg.noScreen n k) = 1 then a + s.activeIn n k else a) a) 0)

/-- Any page is taken over and shown. -/
def anyCarried (s : State) : Bool := (List.range 8).any (fun n => (List.range 16).any (fun k => s.reg (Reg.carrier n k) != 0 && s.reg (Reg.carryShown n k) == 1))

/-- Any page has no screen, or the plane is stalled. -/
def anyNoScreen (s : State) : Bool :=
  s.reg Reg.stalled == 1 || (List.range 8).any (fun n => (List.range 16).any (fun k => s.reg (Reg.noScreen n k) == 1))

/-- Assert the alarm outputs whose conditions hold; a release waits for a commit line (R302). -/
def alarmAssert (s : State) : State :=
  let s := if s.anyNoScreen then s.setReg Reg.noScreenOut 1 else s
  (if s.anyCarried then s.setReg Reg.degradedOut 1 else s).ioDerive

/-- Release the alarm outputs whose conditions have ended, at a commit line; the backup tone stops when every page has a screen and no stall
holds. -/
def alarmRelease (s : State) : State :=
  (s.setRegs [(Reg.noScreenOut, b2n s.anyNoScreen), (Reg.degradedOut, b2n s.anyCarried),
    (Reg.backupTone, if s.anyNoScreen then s.reg Reg.backupTone else 0)]).ioDerive

/-- The first head of a chain that can take pages, not visited before (R299, R300). -/
def walkChain (s : State) (visited : List Nat) (chain : List Nat) : Option Nat :=
  chain.find? (fun c => !visited.contains c && s.headLit c && s.reg (Obj.sigRegionCheck c (s.reg (Obj.fallbackRegion c))) == 1)

/-- Find a screen for the pages of region `k` of head `n` along the chain of head `c`. -/
def findScreen (s : State) (n k c : Nat) : State :=
  let old := s.reg (Reg.carrier n k)
  match s.walkChain [n, c] (chainOf (s.reg (Obj.fallbackChain c))) with
  | some d =>
    let s := if old = d + 1 then s
      else s.setRegs [(Reg.carrierOld n k, if s.reg (Reg.carryShown n k) = 1 then old else 0), (Reg.carryShown n k, 0)]
    (s.setRegs [(Reg.carrier n k, d + 1), (Reg.noScreen n k, 0)]).carryDerive.regionsChoose
  | none =>
    let s := s.setRegs [(Reg.carrier n k, 0), (Reg.carryShown n k, 0), (Reg.noScreen n k, 1)]
    let s := (s.carryDerive.raise [.hal, .owner, .ens] (U.head n) St.noScreen 0xFF 4 [(1, n), (1, k)])
    let s := if s.unackedIn n k then s.setReg Reg.backupTone 1 else s
    s.alarmAssert.regionsChoose

/-- Region `k` of head `n` is lost (R299, R300): its pages, and, where it is the FallbackRegion, those it carries, look for another head. -/
def fallback (s : State) (n k : Nat) : State :=
  let s := s.findScreen n k n
  if s.reg (Obj.fallbackRegion n) ≠ k then s
  else (List.range 8).foldl (fun s m => (List.range 16).foldl (fun s j =>
    if s.reg (Reg.carrier m j) = n + 1 then s.findScreen m j n else s) s) s

/-- An Ensign region enters FAILED or UNSEEN: freeze detection stops on it (R295) and the chain runs. -/
def regionLost (s : State) (n k st : Nat) : State :=
  (s.setRegs [(Obj.sigRegionCheck n k, st), (Reg.sigPass n k, 0), (Reg.sigCount n k, 0), (Reg.sigSeen n k, 0)]).fallback n k

/-- An Ensign region that is no longer sent becomes UNSEEN (R296, R297). -/
def regionUnseen (s : State) (n k : Nat) : State :=
  if !s.isEnsign n k ∨ s.reg (Obj.sigRegionCheck n k) = 4 ∨ s.regionSent n k then s
  else (s.integrityEvent n k St.regionUnseen 4 (s.reg (Obj.sigLastCrc n k)) 0).regionLost n k 4

/-- Every Ensign region of a head that is not sent any more becomes UNSEEN. -/
def regionsUnseen (s : State) (n : Nat) : State := (List.range 16).foldl (fun s k => s.regionUnseen n k) s

/-- Keep HeadState; a head that stops being lit, wholly or in part, raises HEAD_DARK where `port` says which port went, and its regions are
checked (R262, R297). -/
def headRefresh (s : State) (n : Nat) : State := (s.setReg (Obj.headState n) (s.headStateOf n)).regionsUnseen n

/-- Heads that a unit of criticality ENSIGN serves: a head itself, its transmitter ports, its core. -/
def headOfUnit (h : Nat) : Option Nat :=
  if 0x2F ≤ h ∧ h < 0x37 then some (h - 0x2F) else if 0x38 ≤ h ∧ h < 0x48 then some ((h - 0x38) / 2)
  else if 0x81 ≤ h ∧ h < 0x89 then some (h - 0x81) else none

/-- A unit becomes DEAD (R19): the directory follows, and for a child of criticality ENSIGN the fallback chain engages for the head it serves. -/
def unitDead (s : State) (h : Nat) : State :=
  let s := s.setUnitState h 5
  match headOfUnit h with
  | some n => s.headRefresh n
  | none => s

/-- A region is restored (R301): its pages leave the head that carried them. -/
def regionBack (s : State) (n k : Nat) : State :=
  let c := s.reg (Reg.carrier n k)
  (s.setRegs [(Reg.carrier n k, 0), (Reg.noScreen n k, 0),
    (Reg.carrierOld n k, if s.reg (Reg.carryShown n k) = 1 then c else 0), (Reg.carryShown n k, 0)]).carryDerive.regionsChoose

/-- Ensign regions that are live and placed. -/
def liveRegions (s : State) : List (Nat × Nat) :=
  (List.range 8).flatMap (fun n => ((List.range 16).filter (fun k => s.isEnsign n k && s.reg (Obj.regionLive n k) == 1)).map (fun k => (n, k)))

/-- Check of an integrity commit of head `n` (R285, R298). -/
def checkIntegrity (s : State) (v a : Nat → Nat) (n : Nat) : Check :=
  firstOf [
    firstIn (List.range 16) (fun k => firstIn [Obj.sigX n k, Obj.sigY n k, Obj.sigW n k, Obj.sigH n k, Obj.sigTagMask n k, Obj.sigExpectedCrc n k, Obj.sigLiveWindowMs n k]
      (fun key => failIf (s.isEnsign n k && v key != a key) St.regionKindEnsign key)),
    firstIn (List.range 16) (fun k => failIf (!s.isEnsign n k && v (Obj.sigOwnerEnable n k) == 1
      && (v (Obj.sigW n k) == 0 || v (Obj.sigH n k) == 0 || decide (v (Obj.hActive n) < v (Obj.sigX n k) + v (Obj.sigW n k))
        || decide (v (Obj.vActive n) < v (Obj.sigY n k) + v (Obj.sigH n k)))) St.sigRegionInvalid (Obj.sigX n k)),
    if v (Obj.fallbackChain n) = a (Obj.fallbackChain n) ∧ v (Obj.fallbackRegion n) = a (Obj.fallbackRegion n) then none
    else checkFallback v s.placeNow n]

/-! The lockstep pair (R380 to R382). -/

/-- The Ensign pair stops until the next start-up (R382). -/
def pairHalt (s : State) : State :=
  let s := s.setRegs [(Reg.ensHalted, 1), (Reg.ensDown, 1), (Reg.stalled, 1), (Reg.backupTone, 1)]
  ((if s.reg (Reg.unitState U.ens) = 5 then s else s.setUnitState U.ens 5).raise [.hal, .owner] U.ens St.ensPairHalted 1 4 []).alarmAssert

/-- The Ensign pair restarts (R381), a new runtime in trial after its failed start check on the other bank (R415); a third restart within 60 s halts
it (R382). -/
def pairRestart (s : State) : State :=
  if s.reg Reg.ensHalted = 1 then s
  else
    match s.startFailed U.ens with
    | (s, k) =>
      if k = 2 ∨ (s.reg Reg.ensRestart2 ≠ 0 ∧ s.now < s.reg Reg.ensRestart2 - 1 + 60000000000) then s.pairHalt
      else s.setRegs [(Reg.ensDown, 1), (Reg.ensRestart2, s.reg Reg.ensRestart1), (Reg.ensRestart1, s.now + 1), (Reg.ensPeriodMissed, 0)]

/-- The runtime runs. -/
def ensRuns (s : State) : Bool :=
  (s.reg (Reg.unitState U.ens) == 1 || s.reg (Reg.unitState U.ens) == 2) && s.reg Reg.ensDown == 0

/-! Commit lines of the Ensign plane. -/

/-- A head takes the geometry of the package being switched to (R246, R285, R286). -/
def pkgTake (s : State) (p : EnsPkg) (n : Nat) : State :=
  (List.range 16).foldl (fun s k =>
    let was := s.isEnsign n k
    match pkgRegion p n k with
    | some r =>
      let own := !was && s.reg (Obj.sigOwnerEnable n k) == 1
      let s := s.setRegs [(Obj.regionUsed n k, 1), (Obj.regionX n k, r.x), (Obj.regionY n k, r.y), (Obj.regionW n k, r.w), (Obj.regionH n k, r.h),
        (Obj.regionLive n k, b2n r.live), (Reg.sigFreeze n k, r.freeze), (Reg.sigSeen n k, 0), (Reg.ownerOff n k, b2n (own || s.reg (Reg.ownerOff n k) == 1))]
      let s := if own then s.integrityEvent n k St.regionRestored 1 (s.reg (Obj.sigLastCrc n k)) 0 else s
      s.kindDerive n k
    | none =>
      (s.setRegs [(Obj.regionUsed n k, 0), (Obj.regionX n k, 0), (Obj.regionY n k, 0), (Obj.regionW n k, 0), (Obj.regionH n k, 0),
        (Obj.regionLive n k, 0), (Reg.ownerOff n k, 0)]).kindDerive n k) s

/-- Every region of a head in the new package is drawn and signed. -/
def pkgReady (s : State) (p : EnsPkg) (n : Nat) : Bool :=
  (p.regions.filter (fun r => r.head == n)).all (fun r => s.reg (Reg.regionSigned n r.region) == 1)

/-- The states of pages, bindings and outputs of the package that ends. -/
def pagesClear (s : State) : State :=
  let s := match s.activePkg with
    | none => s
    | some p => p.pages.foldl (fun (s : State) (g : EnsPage) => s.jnlDead (s.reg (Reg.pageJnl g.num))) s
  { s with regs := s.regs.filter (fun x => !([Reg.bindStale 0, Reg.pageCond 0, Reg.pageActive 0, Reg.pageAcked 0, Reg.pageTone 0, Reg.pageJnl 0, Reg.outOn 0,
      Reg.flashOn 0].any (fun r => decide (x.1 / 0x10000000000 = r / 0x10000000000)))) }

/-- The switch is over when every head has switched (R246). -/
def pkgFinish (s : State) : State :=
  match s.nextPkg with
  | none => s
  | some p =>
    if (List.range 8).any (fun n => s.reg (Reg.pkgDue n) == 1) then s
    else
      let s := { (s.pagesClear) with activePkg := some p, nextPkg := none }
      let s := State.setRegs s ([(Obj.packageState, 1), (Obj.packageVersion, p.version), (Obj.sramUsed, pkgSram p)]
        ++ (List.range 4).flatMap (fun a => (List.range 8).map (fun b => (Reg.setMap a b, p.setMap.getD (8 * a + b) 0))))
      let s := (List.range 8).foldl dimDerive s
      ((s.ensCounts p).raise [.hal, .owner] U.ens St.ensPackageActive 1 1 [(4, p.version)]).outsStep

/-- A head switches to the new package at its commit line, when its regions are drawn and signed. -/
def pkgLine (s : State) (n : Nat) : State :=
  match s.nextPkg with
  | none => s
  | some p => if s.reg (Reg.pkgDue n) = 1 ∧ s.pkgReady p n then ((s.setReg (Reg.pkgDue n) 0).pkgTake p n).pkgFinish else s

/-- Swap of one region at its head's commit line, when drawing and signing have finished before the line's arrival (R244). Pages taken over appear
(R299) and leave (R301). -/
def regionSwap (s : State) (n k : Nat) : State :=
  if !s.isEnsign n k ∨ s.reg (Reg.regionSigned n k) = 0 ∨ s.reg (Reg.regionBackPage n k) = 0 ∨ s.reg (Reg.pkgDue n) = 1 then s
  else
    let src := s.reg (Reg.regionBackFrom n k)
    s.setRegs [(Reg.regionFront n k, 1 - s.reg (Reg.regionFront n k)), (Reg.regionSigned n k, 0), (Obj.pageShown n k, s.reg (Reg.regionBackPage n k) - 1),
      (Reg.regionFrontFrom n k, src), (Reg.regionTaken n k, b2n (src != 0)), (Reg.regionBackPage n k, 0), (Obj.lastSwapFrame n k, s.reg (Obj.headFrame n)),
      (Reg.regionResign n k, 0)]

/-- Announce pages that are taken over by or leave head `n` as a fallback head, at its first commit line at which none of them waits to be drawn:
a page its own page outranks is taken over without appearing (R299, R301). -/
def fallbackShow (s : State) (n : Nat) : State :=
  (List.range 8).foldl (fun s m => (List.range 16).foldl (fun s j =>
    let fr := s.reg (Obj.fallbackRegion n)
    let waits := s.reg (Reg.regionBackPage n fr) != 0 && s.reg (Reg.regionBackFrom n fr) == m + 1
    let s := if s.reg (Reg.carrier m j) = n + 1 ∧ s.reg (Reg.carryShown m j) = 0 ∧ !waits then
        ((s.setReg (Reg.carryShown m j) 1).carryDerive.raise [.hal, .owner, .ens] (U.head n) St.fallbackActive 0xFF 4 [(1, m), (1, n)]).alarmAssert
      else s
    if s.reg (Reg.carrierOld m j) = n + 1 ∧ s.reg (Reg.regionFrontFrom n fr) ≠ m + 1 then
      (s.setReg (Reg.carrierOld m j) 0).carryDerive.raise [.hal, .owner, .ens] (U.head n) St.fallbackEnded 0xFF 1 [(1, m), (1, n)]
    else s) s) s

/-- The Ensign plane's part of a commit line of head `n`. -/
def ensignLine (s : State) (n : Nat) : State :=
  ((((List.range 16).foldl (fun s k => s.regionSwap n k) (s.pkgLine n)).fallbackShow n).alarmRelease)

end State
end Sys2Proof.Machine
end

