-- ==== Sys2Proof/Machine/HapBase.lean ====
section
/-!
DEFINITION. Machine/HapBase.lean: the haptic effect library and its envelopes (R331, R332), the commit check of touch bindings, and what follows a
channel's commit (R327, R338).
-/
namespace Sys2Proof.Machine

namespace Hap

/-- Envelope shapes (table Envelope shapes). -/
inductive Shape where
  | k (n gap : Nat) | b | u | w | t (n on off : Nat) | m (hz : Nat) | c (hz2 : Nat)
  deriving DecidableEq, Repr

/-- An effect of the library: shape, carrier in Hz, base in ms, peak in percent. -/
structure Fx where
  shape : Shape
  hz : Nat
  ms : Nat
  peak : Nat
  deriving DecidableEq, Repr

/-- Effects 1 to 31 (table Effect library); effect 0 stops. -/
def lib1 : List Fx :=
  ([100, 75, 50, 25].map (fun p => ⟨.k 1 0, 250, 4, p⟩)) ++ ([100, 75, 50, 25].map (fun p => ⟨.k 1 0, 175, 6, p⟩))
  ++ ([100, 75, 50, 25].map (fun p => ⟨.k 1 0, 125, 8, p⟩))
  ++ [⟨.k 2 40, 250, 48, 100⟩, ⟨.k 2 40, 175, 51, 100⟩, ⟨.k 2 40, 125, 56, 100⟩, ⟨.k 3 40, 250, 92, 100⟩, ⟨.k 3 40, 175, 97, 100⟩,
      ⟨.k 1 0, 300, 3, 40⟩, ⟨.k 1 0, 300, 3, 20⟩, ⟨.k 1 0, 150, 7, 90⟩, ⟨.k 1 0, 150, 7, 45⟩, ⟨.k 1 0, 200, 5, 80⟩, ⟨.k 1 0, 300, 3, 40⟩,
      ⟨.k 1 0, 100, 10, 100⟩, ⟨.k 1 0, 100, 10, 50⟩, ⟨.k 2 40, 100, 60, 100⟩, ⟨.k 2 40, 100, 60, 50⟩, ⟨.k 2 16, 250, 24, 80⟩,
      ⟨.k 1 0, 200, 5, 30⟩, ⟨.k 1 0, 100, 10, 70⟩, ⟨.k 2 16, 175, 27, 90⟩]

/-- Effects 32 to 59. -/
def lib2 : List Fx :=
  ([150, 175, 200, 250].flatMap (fun hz => [50, 100, 200, 500].map (fun ms => (⟨.b, hz, ms, 80⟩ : Fx))))
  ++ ([150, 200, 250].flatMap (fun hz => [100, 300].map (fun ms => (⟨.u, hz, ms, 100⟩ : Fx))))
  ++ ([150, 200, 250].flatMap (fun hz => [100, 300].map (fun ms => (⟨.w, hz, ms, 100⟩ : Fx))))

/-- Effects 60 to 95. -/
def lib3 : List Fx :=
  [⟨.t 3 100 100, 175, 500, 100⟩, ⟨.t 5 100 100, 175, 900, 100⟩, ⟨.t 10 200 100, 175, 2900, 100⟩, ⟨.t 10 50 50, 200, 950, 100⟩,
   ⟨.t 2 150 150, 150, 450, 90⟩, ⟨.t 4 150 150, 150, 1050, 90⟩, ⟨.t 1 200 0, 150, 200, 70⟩, ⟨.t 2 40 80, 200, 160, 60⟩,
   ⟨.t 2 30 120, 125, 180, 70⟩, ⟨.t 2 40 200, 125, 280, 70⟩, ⟨.t 1 60 0, 250, 60, 80⟩, ⟨.t 3 40 60, 250, 240, 80⟩,
   ⟨.t 3 30 30, 100, 150, 100⟩, ⟨.t 4 30 30, 100, 210, 100⟩, ⟨.t 3 80 160, 150, 560, 70⟩, ⟨.t 2 20 60, 250, 100, 50⟩,
   ⟨.t 2 20 60, 125, 100, 50⟩, ⟨.t 3 60 200, 175, 580, 80⟩, ⟨.t 6 40 40, 100, 440, 100⟩, ⟨.t 2 200 100, 100, 500, 100⟩]
  ++ [⟨.m 40, 300, 1000, 30⟩, ⟨.m 25, 250, 1000, 40⟩, ⟨.m 15, 200, 1000, 50⟩, ⟨.m 10, 175, 1000, 60⟩, ⟨.m 5, 150, 1000, 60⟩,
      ⟨.m 8, 100, 1000, 80⟩, ⟨.m 8, 100, 1000, 40⟩, ⟨.b, 150, 1000, 25⟩, ⟨.b, 200, 1000, 25⟩, ⟨.b, 250, 1000, 25⟩,
      ⟨.m 20, 175, 1000, 35⟩, ⟨.m 20, 125, 1000, 60⟩, ⟨.c 300, 100, 200, 80⟩, ⟨.c 100, 300, 200, 80⟩, ⟨.m 3, 175, 1000, 70⟩,
      ⟨.b, 175, 1000, 50⟩]

/-- Effect number `e`, 1 to 95. -/
def fx (e : Nat) : Option Fx := if e = 0 then none else (lib1 ++ lib2 ++ lib3)[e - 1]?

/-- A duration in ms stretched by D / 64, in ns; a D of 0 counts as 64 (R331). -/
def stretch (d ms : Nat) : Nat := ms * (if d = 0 then 64 else d) * 1000000 / 64

/-- Drive segments of an effect as start and end in ns from its start, cut at 10 s (R329, R331). -/
def segments (f : Fx) (d : Nat) : List (Nat × Nat) :=
  let l := match f.shape with
    | .k n gap => (List.range n).map (fun j =>
        (j * (1000000000 / f.hz + gap * 1000000), j * (1000000000 / f.hz + gap * 1000000) + 1000000000 / f.hz))
    | .t n on off => (List.range n).map (fun j => (j * (stretch d on + stretch d off), j * (stretch d on + stretch d off) + stretch d on))
    | _ => [(0, stretch d f.ms)]
  (l.filter (fun p => decide (p.1 < 10000000000))).map (fun p => (p.1, min p.2 10000000000))

/-- Envelope of shape B in ppm: linear attack and release of 5 ms, stretched with the shape, around a sustain. -/
def envB (d dur t : Nat) : Nat :=
  let a := stretch d 5
  min 1000000 (min (t * 1000000 / a) ((dur - t) * 1000000 / a))

/-- Envelope of an effect in ppm of its target peak, `t` ns into a drive segment of `dur` ns. `mod` is the value of the sine of shape M, 300,000 to
1,000,000 (log 20). -/
def env (f : Fx) (d dur t mod : Nat) : Nat := match f.shape with
  | .k _ _ => 1000000
  | .b => envB d dur t
  | .t _ _ _ => envB d dur t
  | .c _ => envB d dur t
  | .m _ => envB d dur t * mod / 1000000
  | .u => if dur = 0 then 0 else t * 1000000 / dur
  | .w => if dur = 0 then 0 else 1000000 - t * 1000000 / dur

/-- Target peak acceleration in 0.00001 m/s²: Peak % × S / 255 × AccelFullScale (R331). -/
def peakOf (f : Fx) (str full : Nat) : Nat := f.peak * str * full * 1000 / 25500

/-- Byte of a touch binding: 0 port, 1 head, 2 target, 3 channel, 4 effect, 5 strength, 6 scale, 7 phase. -/
def bindByte (v j : Nat) : Nat := v / 256 ^ j % 256

/-- Check of a group's commit: a binding in use whose port, head or channel exceeds 7 or whose effect exceeds 95 (BINDING_INVALID). -/
def checkGroup (v : Nat → Nat) (g : Nat) : Check :=
  firstIn (List.range 16) (fun b =>
    let x := v (Obj.hapBinding g b)
    failIf (bindByte x 0 != 0xFF && (decide (7 < bindByte x 0) || decide (7 < bindByte x 1) || decide (7 < bindByte x 3) || decide (95 < bindByte x 4)))
      St.bindingInvalid (Obj.hapBinding g b))

end Hap

namespace State

/-- What follows when a commit of a haptic channel has become active (R327): Enable 0 disables it; Enable committed again as 1 ends a FAULT and has the
load measured. -/
def hapChApplied (s0 s : State) (g c : Nat) : State :=
  if s.reg (Obj.hapChEnable g c) = 0 then s.setRegs [(Obj.hapChChannelState g c, 4), (Reg.hapDue g c, 0)]
  else
    let s := s.setReg (Obj.hapChSenseActive g c) (b2n (s.reg (Obj.hapChSenseMode g c) != 0 && s.reg (Reg.hapOpen g c) == 0))
    if s0.reg (Obj.hapChEnable g c) = 0 ∨ Kmap.get none s0.pend (Obj.hapChEnable g c) ≠ none then
      s.setRegs [(Obj.hapChChannelState g c, 0), (Reg.hapDue g c, 1)]
    else s

end State
end Sys2Proof.Machine
end

