-- ==== Sys2Proof/Machine/TouchBase.lean ====
section
/-!
DEFINITION. Machine/TouchBase.lean: the node grid of a touch port (R303, R304), the check of its commits and what follows them.
-/
namespace Sys2Proof.Machine

namespace Touch

/-- Role of channel `c` in a role map (R303): 1 drive, 2 sense. -/
def role (m c : Nat) : Nat := m / 256 ^ c % 256

/-- Channels with a role, in ascending number. -/
def channels (m r : Nat) : List Nat := (List.range 128).filter (fun c => role m c == r)

/-- Check of a touch port's commit (R303, R304, R308, R313 and the text below table Touch port objects). -/
def check (v a : Nat → Nat) (p : Nat) : Check :=
  let m := v (Obj.channelRole p)
  let d := (channels m 1).length
  let e := (channels m 2).length
  let th := v (Obj.touchThreshold p)
  let h := v (Obj.portHead p)
  let bad := fun k lo hi => failIf (decide (v k < lo) || decide (hi < v k)) St.thresholdRange k
  firstOf [
    failIf (h != 0xFF && (decide (7 < h) || decide (v (Obj.hActive h) < v (Obj.mapX p) + v (Obj.mapW p))
      || decide (v (Obj.vActive h) < v (Obj.mapY p) + v (Obj.mapH p)))) St.mapInvalid (Obj.portHead p),
    failIf (m != a (Obj.channelRole p) && (decide (4096 < d * e) || decide (d < 2) || decide (e < 2))) St.nodeLimit (Obj.channelRole p),
    bad (Obj.nodePitchUm p) 1000 10000,
    bad (Obj.touchThreshold p) 16 8000,
    failIf (decide (th ≤ v (Obj.releaseThreshold p))) St.thresholdRange (Obj.releaseThreshold p),
    failIf (decide (th ≤ v (Obj.gloveThreshold p))) St.thresholdRange (Obj.gloveThreshold p),
    bad (Obj.selfThreshold p) 16 8000, bad (Obj.negThreshold p) 16 8000, bad (Obj.coveredDelta p) 16 8000, bad (Obj.hopNoise p) 8 2000,
    bad (Obj.palmNodes p) 4 255, bad (Obj.gloveMode p) 0 2, bad (Obj.waterMode p) 0 1,
    bad (Obj.idleStep1Ms p) 100 86400000, bad (Obj.idleStep2Ms p) 100 86400000, bad (Obj.idleStep3Ms p) 100 86400000,
    failIf (decide (v (Obj.idleStep2Ms p) ≤ v (Obj.idleStep1Ms p))) St.thresholdRange (Obj.idleStep2Ms p),
    failIf (decide (v (Obj.idleStep3Ms p) ≤ v (Obj.idleStep2Ms p))) St.thresholdRange (Obj.idleStep3Ms p)]

end Touch

namespace State

/-- Glove sensing and its flag. -/
def setGlove (s : State) (p g : Nat) : State :=
  s.setRegs [(Reg.touchGlove p, g), (Obj.wetGlove p, s.reg (Obj.wetGlove p) % 2 + 2 * g)]

/-- The wet state and its flag. -/
def setWet (s : State) (p : Nat) (w : Bool) : State := s.setReg (Obj.wetGlove p) (b2n w + 2 * (s.reg (Obj.wetGlove p) / 2 % 2))

/-- What follows when a commit of touch port `p` has become active: a role map restarts the port (R303), a glove mode takes effect (R309). -/
def touchApplied (s0 s : State) (p : Nat) : State :=
  let m := s.reg (Obj.channelRole p)
  let s :=
    if s0.reg (Obj.channelRole p) = m then s
    else
      let d := (Touch.channels m 1).length
      let e := (Touch.channels m 2).length
      let s := s.touchStop p
      (s.setRegs [(Obj.driveCount p, d), (Obj.senseCount p, e), (Obj.nodeCount p, d * e), (Obj.refValid p, 0)]).touchStart p
  if s0.reg (Obj.gloveMode p) = s.reg (Obj.gloveMode p) then s
  else s.setGlove p (if s.reg (Obj.gloveMode p) = 1 then 1 else 0)

end State
end Sys2Proof.Machine
end

