-- ==== Sys2Proof/Machine/LinkOps.lean ====
section
/-!
DEFINITION. Machine/LinkOps.lean: heads and ports going dark and lit (R262, R267, R268, R276 to R280), and what a commit applied to a head, a port, a
receiver or the renderer brings with it.
-/
namespace Sys2Proof.Machine
namespace State

/-- Lit ports of a head. -/
def litPorts (s : State) (n : Nat) : List Nat := (Head.portsOf s.reg n).filter s.portLit

/-- Mask of the ports of head `n` that are not lit: bit 0 for its first port, bit 1 for its second. -/
def darkMask (s : State) (n : Nat) : Nat :=
  (Head.portsOf s.reg n).foldl (fun a p => if s.portLit p then a else setBit a (p % 2)) 0

/-- Ports that were lit may no longer be (R262): HeadState and DarkReason follow, and HEAD_DARK is raised when one stopped. -/
def darkCheck (s : State) (n : Nat) (was : List Nat) (reason : Nat) : State :=
  let gone := was.filter (fun p => !(s.litPorts n).contains p)
  let s := (s.setReg (Obj.darkReason n) reason).headRefresh n
  if gone.isEmpty then s
  else s.headEvent n St.headDark 3 [(1, if s.darkMask n = 0 then gone.foldl (fun a p => setBit a (p % 2)) 0 else s.darkMask n), (1, reason)]

/-- A port becomes lit (R262, R267). The backlight follows BacklightDelayMs after the port first lights (R276). -/
def portLight (s : State) (p : Nat) : State :=
  let n := p / 2
  let s := s.setRegs [(Obj.portState p, 3), (Reg.litNext p, 0)]
  let s := s.setRegs [(Obj.darkReason n, if s.darkMask n = 0 then 0 else s.reg (Obj.darkReason n)), (Obj.headState n, s.headStateOf n)]
  let s := if s.reg (Reg.panelStage n) = 2 then
      s.setRegs [(Reg.panelStage n, 3), (Reg.panelDue n, s.now + 1000000 * s.reg (Obj.backlightDelayMs n))] else s
  s.headEvent n St.headLit 1 []

/-- A head with its main link off begins to wake it (R272). -/
def wakeLink (s : State) (n : Nat) : State := if s.reg (Reg.linkOff n) = 1 then s.setReg (Reg.linkWaking n) 1 else s

/-- Begin training of a port whose HPD is high. -/
def startTraining (s : State) (p : Nat) : State :=
  if s.reg (Reg.hpd p) = 0 then s.setReg (Obj.portState p) 0
  else s.setRegs [(Obj.portState p, 2), (Reg.trainRetry p, s.now), (Reg.trainStep p, 0), (Reg.litNext p, 0)]

/-- A port in use trains anew after a mode change: from the read of its sink where it has not been read (R267). -/
def restartPort (s : State) (p : Nat) : State :=
  if s.reg (Reg.hpd p) = 1 ∧ s.reg (Obj.sinkKind p) = 0 then s.startLink p else s.startTraining p

/-- A mode change of head `n` applies (R257, R276): `was` are the ports lit before, `old` the former PortMode. -/
def modeApply (s : State) (n : Nat) (was : List Nat) (old : Nat) : State :=
  let ps := Head.portsOf s.reg n
  let s := ([2 * n, 2 * n + 1]).foldl (fun s p => if ps.contains p then s else s.setRegs [(Obj.portState p, 0), (Reg.litNext p, 0), (Reg.trainRetry p, 0)]) s
  let s := if s.reg (Obj.portMode n) = 3 then
      s.setRegs [(Reg.panelStage n, 5), (Obj.backlightDuty n, 0), (Reg.panelDue n, s.now + 1000000 * s.reg (Obj.backlightDelayMs n))]
    else if old = 3 then
      s.setRegs [(Reg.panelStage n, 1), (Obj.panelEnableOut n, 1), (Reg.panelDue n, s.now + 1000000 * s.reg (Obj.panelOnMs n))]
    else if s.reg (Reg.panelStage n) < 2 then s
    else ps.foldl restartPort s
  s.darkCheck n was 4

/-- A commit to a head's timing or to a port restarts the training of its ports that are plugged and dark (R268, R279). -/
def retrainDark (s : State) (n : Nat) : State :=
  (Head.portsOf s.reg n).foldl (fun s p => if s.reg (Obj.portState p) = 4 ∧ s.reg (Reg.hpd p) = 1 then s.startTraining p else s) s

/-- What follows when a commit of head `n` or of its ports has become active; `s0` is the state before (R233, R234, R254 to R258, R276, R291). -/
def headApplied (s0 s : State) (n : Nat) : State :=
  let was := s0.litPorts n
  let s := (List.range 8).foldl (fun s l => if s0.layerKeeps s.reg n l then s else s.layerChanged n l) s
  let s := (List.range 8).foldl (fun s l => s.poolSet n l) s
  let s := (((s.headDerive n).compDerive n).dimDerive n).setReg Reg.rtAdmitted (s.rtDemand s.reg)
  let s := (List.range 16).foldl (fun s k => s.kindDerive n k) s
  let moved := [Obj.portMode n, Obj.hActive n, Obj.vActive n, Obj.panelDepth n].any (fun k => s.reg k != s0.reg k)
  let s := if moved then (List.range 16).foldl (fun s k => if s.isEnsign n k then s.setReg (Reg.regionResign n k) 1 else s) s else s
  if Head.modeChange s.reg s0.reg n then s.modeApply n was (s0.reg (Obj.portMode n))
  else if Head.timingChanged s.reg s0.reg n then s.retrainDark n else s

/-- What follows when a commit of receiver `n` has become active (R281, R282). -/
def rxApplied (s0 s : State) (n : Nat) : State :=
  let s := if s.reg (Obj.rxEdid n) = s0.reg (Obj.rxEdid n) then s
    else s.setReg (Obj.rxMaxPixelKhz n) (edidMaxKhz (decDomain (s.reg (Obj.rxEdid n))))
  s.setReg Reg.rtAdmitted (s.rtDemand s.reg)

/-- Check of R280: a port that is lit keeps its link when the commit is no mode change, so the trained setting must carry the new timing. -/
def checkTrained (s : State) (v : Nat → Nat) (n : Nat) : Check :=
  if Head.modeChange v s.reg n then none
  else firstIn (s.litPorts n) (fun p => failIf (!Head.linkFits v n p (s.reg (Obj.trainedLanes p)) (s.reg (Obj.trainedRateMbps p)))
    St.linkBandwidth (Obj.laneCount p))

/-- Check of the renderer's commits (R214, R516). -/
def checkNim (s : State) (v : Nat → Nat) : Check :=
  firstOf [
    firstIn (List.range 8) (fun n =>
      let w := v (Obj.flattenWorld n)
      let i := v (Obj.flattenInstance n)
      let changed := [Obj.flattenWorld n, Obj.flattenInstance n, Obj.flattenRing n].any (fun k => v k != s.reg k)
      firstOf [
        failIf (changed && (decide (63 < w) || s.reg (Obj.worldState w) != 2)) St.flattenOwner (Obj.flattenWorld n),
        failIf (changed && !(i == 0xFF && w == 0) && (decide (55 < i) || s.reg (Obj.instState i) == 0 || s.instWorld i != w)) St.flattenOwner (Obj.flattenInstance n),
        failIf (changed && decide (i < 56) && s.reg (Reg.ringState i (v (Obj.flattenRing n))) != 0) St.flattenOwner (Obj.flattenRing n)]),
    firstIn (List.range 8) (fun n => failIf (v (Obj.flattenStepsPerFrame n) != s.reg (Obj.flattenStepsPerFrame n)
      && decide (s.nimRate < s.rendererTotal + s.flattenDemand v)) St.nimReserveFull (Obj.flattenStepsPerFrame n))]

end State
end Sys2Proof.Machine
end

