-- ==== Sys2Proof/Machine/Operands.lean ====
section
/-!
DEFINITION. Machine/Operands.lean: the instruction words of the pennant cores (chapter 15, table Instruction encodings): which instruction a word is,
its fields, and the words that verification admits (R368).
-/
namespace Sys2Proof.Machine
namespace Pen

/-- The instructions of a pennant core. -/
inductive Op where
  | mov | add | sub | adc | sbc | and | or | xor | shl | shr | sra | cmp | tst | mul | mulh | not
  | addi | movi | movhi | cmpi | ldw | stw | ldb | stb | bcc | jmp | call
  | mfs | mts | jr | rete | wait | pwait | send | ei | di | nop
  | bmov | bfeed | bmac | waitv
  deriving DecidableEq, Repr

/-- Form 0x0 by fn. -/
def aluOps : List Op :=
  [.mov, .add, .sub, .adc, .sbc, .and, .or, .xor, .shl, .shr, .sra, .cmp, .tst, .mul, .mulh, .not]

/-- Forms 0x1 to 0x6 and 0x9, 0xA. -/
def plainOps : List (Nat × Op) :=
  [(1, .addi), (2, .movi), (3, .movhi), (4, .cmpi), (5, .ldw), (6, .stw), (9, .jmp), (10, .call)]

/-- Op 2 of form 0xB by sel. -/
def sysOps : List Op := [.jr, .rete, .wait, .pwait, .send, .ei, .di, .nop]

/-- Form 0xC by kind. -/
def blockOps : List Op := [.bmov, .bfeed, .bmac, .waitv]

/-- Major opcode, bits 15:12. -/
def form (w : Nat) : Nat := bits w 12 4
/-- Field rd, bits 11:8. -/
def rd (w : Nat) : Nat := bits w 8 4
/-- Field rs, bits 7:4. -/
def rs (w : Nat) : Nat := bits w 4 4
/-- Field imm8, bits 7:0. -/
def imm8 (w : Nat) : Nat := bits w 0 8
/-- Field imm8 as a signed value. -/
def simm8 (w : Nat) : Int := toSigned 1 (bits w 0 8)
/-- simm8 as a 16-bit word. -/
def simm16 (w : Nat) : Nat := ofSigned 2 (simm8 w)
/-- Field abs12, bits 11:0. -/
def abs12 (w : Nat) : Nat := bits w 0 12
/-- Field sel, bits 5:0. -/
def sel (w : Nat) : Nat := bits w 0 6

/-- A special register number of the table. -/
def special (n : Nat) : Bool := decide (n < 0x1C) || (decide (0x20 ≤ n) && decide (n < 0x28))

/-- The instruction a word is; none for the words that R368 refuses by themselves. -/
def op (w : Nat) : Option Op :=
  match form w with
  | 0 => aluOps[bits w 0 4]?
  | 7 => some (if bit w 3 then .stb else .ldb)
  | 8 => if rd w = 15 then none else some .bcc
  | 0xB =>
    if bits w 6 2 = 0 then (if special (sel w) then some .mfs else none)
    else if bits w 6 2 = 1 then (if special (sel w) then some .mts else none)
    else if bits w 6 2 = 2 then sysOps[sel w]?
    else none
  | 0xC => if rd w = 1 ∧ bits w 0 2 = 3 then none else blockOps[rd w]?
  | f => (plainOps.find? (fun x => x.1 == f)).map Prod.snd

/-- Target of a conditional branch at instruction index `i` (it may lie outside the code). -/
def branchTarget (i w : Nat) : Int := (i : Int) + 1 + simm8 w

/-- Verification of the word at index `i` of `n` code words (R368). -/
def wordOk (n i w : Nat) : Bool :=
  match op w with
  | none => false
  | some .bcc => decide (0 ≤ branchTarget i w) && decide (branchTarget i w < n)
  | some .jmp => decide (abs12 w < n)
  | some .call => decide (abs12 w < n)
  | some _ => true

/-- Width in bytes of a BFEED element. -/
def feedBytes (w : Nat) : Nat := if bits w 0 2 = 0 then 1 else if bits w 0 2 = 1 then 2 else 4

end Pen
end Sys2Proof.Machine
end

