-- ==== Sys2Proof/Machine/Flags.lean ====
section
/-!
DEFINITION. Machine/Flags.lean: the arithmetic and flags of the pennant cores (chapter 15, table flags) and the branch conditions.
-/
namespace Sys2Proof.Machine
namespace Pen

/-- A result: its value, carry or borrow and signed overflow where the instruction gives them. -/
structure Res where
  val : Nat
  cv : Option (Bool × Bool)
  deriving DecidableEq, Repr

/-- Outside the range of a signed 16-bit word. -/
def outS16 (x : Int) : Bool := decide (x < -32768) || decide (32767 < x)

/-- Addition with a carry in. -/
def addRes (a b c : Nat) : Res :=
  ⟨(a + b + c) % 65536, some (decide (65536 ≤ a + b + c), outS16 (toSigned 2 a + toSigned 2 b + c))⟩

/-- Subtraction with a borrow in. -/
def subRes (a b c : Nat) : Res :=
  ⟨(a + 131072 - b - c) % 65536, some (decide (a < b + c), outS16 (toSigned 2 a - toSigned 2 b - c))⟩

/-- A result that gives neither carry nor overflow. -/
def plain (v : Nat) : Res := ⟨v % 65536, none⟩

/-- Signed product of two words. -/
def product (a b : Nat) : Int := toSigned 2 a * toSigned 2 b

/-- The ALU function of form 0x0 on rd `a`, rs `b` and carry `c`. -/
def alu (o : Op) (a b c : Nat) : Res :=
  match o with
  | .mov => plain b
  | .add => addRes a b 0
  | .sub => subRes a b 0
  | .adc => addRes a b c
  | .sbc => subRes a b c
  | .and => plain (a &&& b)
  | .or => plain (a ||| b)
  | .xor => plain (a ^^^ b)
  | .shl => plain (a <<< (b % 16))
  | .shr => plain (a >>> (b % 16))
  | .sra => plain (ofSigned 2 (toSigned 2 a >>> (b % 16)))
  | .cmp => subRes a b 0
  | .tst => plain (a &&& b)
  | .mul => plain (ofSigned 2 (product a b))
  | .mulh => plain (ofSigned 2 (product a b >>> 16))
  | .not => plain (65535 - b)
  | _ => plain a

/-- flags after a result: Z and N follow it; C and V change where the instruction gives them; IE stays. -/
def flagsAfter (f : Nat) (r : Res) : Nat :=
  let zn := b2n (r.val == 0) + 2 * b2n (bit r.val 15)
  match r.cv with
  | some (c, v) => bits f 4 1 * 16 + 8 * b2n v + 4 * b2n c + zn
  | none => bits f 2 3 * 4 + zn

/-- flags with Z set or clear. -/
def withZ (f : Nat) (z : Bool) : Nat := f / 2 * 2 + b2n z

/-- Branch conditions 0x0 to 0xE on flags. -/
def cond (c f : Nat) : Bool :=
  let z := bit f 0
  let n := bit f 1
  let cy := bit f 2
  let v := bit f 3
  match c with
  | 0x0 => z
  | 0x1 => !z
  | 0x2 => cy
  | 0x3 => !cy
  | 0x4 => n
  | 0x5 => !n
  | 0x6 => v
  | 0x7 => !v
  | 0x8 => !cy && !z
  | 0x9 => cy || z
  | 0xA => n == v
  | 0xB => n != v
  | 0xC => !z && n == v
  | 0xD => z || n != v
  | _ => true

/-- Saturation of a BMAC sum to 32 bits (R370). -/
def sat32 (x : Int) : Int := max (-2147483648) (min 2147483647 x)

end Pen
end Sys2Proof.Machine
end

