-- ==== Sys2Proof/Machine/PenBase.lean ====
section
/-!
DEFINITION. Machine/PenBase.lean: the pennant cores outside their instructions (chapter 15): program images, event queue (R365), faults (R375), the swap of
programs (R377), the checks of their commits (R374, R377).
-/
namespace Sys2Proof.Machine

namespace Num
/-- Event queue of core `n`, oldest first (R365). -/
abbrev coreQ (n : Nat) : Nat := 0xB300000000 + n
/-- Times of the resets of core `n` in the last 60 s, newest first (R375). -/
abbrev coreResets (n : Nat) : Nat := 0xB300000100 + n
/-- Bytes of the record that check unit `u` is being fed by a core (R387). -/
abbrev chkRec (u : Nat) : Nat := 0xB300000200 + u
end Num

namespace Fifo
/-- Program image in bank `b` of core `n`: one entry, its bytes (R376). -/
abbrev image (n b : Nat) : Nat := 0x5000 + 2 * n + b
end Fifo

namespace Pen

/-- The core is an owner core (table Core assignment). -/
def isOwner (n : Nat) : Bool := decide (22 ≤ n) && decide (n < 30)

/-- Header fields of a program image (table Program image). -/
def keepData (m : Bytes) : Bool := bit (bytesAt m 6 2) 0
/-- VERSION. -/
def version (m : Bytes) : Nat := bytesAt m 12 4
/-- TIMERS. -/
def timers (m : Bytes) : Nat := bytesAt m 18 1
/-- ENTRY. -/
def entry (m : Bytes) : Nat := bytesAt m 20 2
/-- HANDLER. -/
def handler (m : Bytes) : Nat := bytesAt m 22 2
/-- CODE_WORDS. -/
def codeWords (m : Bytes) : Nat := bytesAt m 24 2
/-- DATA_BYTES. -/
def dataBytes (m : Bytes) : Nat := bytesAt m 26 2
/-- MAX_INSTR. -/
def maxInstr (m : Bytes) : Nat := bytesAt m 28 4
/-- MIN_PERIOD_US. -/
def minPeriod (m : Bytes) : Nat := bytesAt m 32 4
/-- EVMASK. -/
def evmask (m : Bytes) : Nat := bytesAt m 36 2
/-- Code word `i`; words beyond the code read 0. -/
def word (m : Bytes) (i : Nat) : Nat := if i < codeWords m then bytesAt m (64 + 2 * i) 2 else 0
/-- Byte `a` of the initial data. -/
def dataByte (m : Bytes) (a : Nat) : Nat := if a < dataBytes m then bytesAt m (64 + 2 * codeWords m + a) 1 else 0

/-- Length of an image by its header. -/
def imageLen (m : Bytes) : Nat := 64 + 2 * codeWords m + dataBytes m + 104

/-- Verification of an image after its signature (R376 checks 2 to 4, R363, R368): status and the byte offset at fault. `cls` is the core's assignment,
`floor` the floor of its rollback class. -/
def verify (m : Bytes) (cls floor : Nat) : Nat × Nat :=
  if bytesAt m 0 4 ≠ 0x4E504A46 then (St.penImageType, 0)
  else if bytesAt m 4 2 ≠ 1 then (St.penImageType, 4)
  else if bytesAt m 8 4 ≠ 0x08800001 then (St.penImageType, 8)
  else if bytesAt m 17 1 ≠ cls then (St.penImageType, 17)
  else if bytesAt m 16 1 < floor then (St.penImageRollback, 16)
  else if codeWords m = 0 ∨ 4096 < codeWords m then (St.penImageFormat, 24)
  else if 4096 < dataBytes m then (St.penImageFormat, 26)
  else if imageLen m ≠ m.length then (St.penImageFormat, 24)
  else if bytesAt m 6 2 / 2 ≠ 0 then (St.penImageFormat, 6)
  else if timers m / 16 ≠ 0 then (St.penImageFormat, 18)
  else if bytesAt m 19 1 ≠ 0 then (St.penImageFormat, 19)
  else if minPeriod m < 10 ∨ 1000000 < minPeriod m then (St.penImageFormat, 32)
  else if bytesAt m 38 26 ≠ 0 then (St.penImageFormat, 38)
  else if codeWords m ≤ entry m then (St.penImageFormat, 20)
  else if codeWords m ≤ handler m then (St.penImageFormat, 22)
  else match (List.range (codeWords m)).find? (fun i => !wordOk (codeWords m) i (word m i)) with
    | some i => (St.penImageFormat, 64 + 2 * i)
    | none => (St.ok, 0)

end Pen

namespace State

/-- The image in bank `b` of core `n`. -/
def image (s : State) (n b : Nat) : Bytes := (s.fifo (Fifo.image n b)).headD []

/-- Key of the state of bank `b`. -/
def bankKey (n b : Nat) : Nat := if b = 0 then Obj.coreBankStateA n else Obj.coreBankStateB n

/-- State of bank `b` of core `n`. -/
def bankState (s : State) (n b : Nat) : Nat := s.reg (bankKey n b)

/-- Bank that core `n` runs, and the image in it. -/
def coreBank (s : State) (n : Nat) : Nat := s.reg (Obj.coreActiveBank n)

/-- Image that core `n` runs. -/
def coreImage (s : State) (n : Nat) : Bytes := s.image n (s.coreBank n)

/-- World of core `n`: the holder of an owner core, the Ensign world for the Ensign pair, Halyard for the others. -/
def coreWorld (s : State) (n : Nat) : Nat := if Pen.isOwner n then s.reg (Reg.blockHolder (U.core n)) else if 30 ≤ n then 1 else 0

/-- Raise an event of core `n`; the first after a reset counts the entries that the reset discarded, in byte 13 (R375). -/
def coreRaise (s : State) (n st sev : Nat) (pl : List (Nat × Nat)) : State :=
  let used := (pl.map Prod.fst).foldl (· + ·) 0
  let lost := s.reg (Reg.coreLost n)
  (s.setReg (Reg.coreLost n) 0).raise ([.hal] ++ [if Pen.isOwner n then s.blockDest (U.core n) else .owner]) (U.core n) st
    (if Pen.isOwner n then s.coreWorld n else 0xFF) sev (pl ++ [(13 - used, 0), (1, min 255 lost)])

/-- Queue of a core. -/
def coreQueue (s : State) (n : Nat) : List Nat := s.num (Num.coreQ n)

/-- Some queued entry's source is enabled in evmask (R367). -/
def coreDue (s : State) (n : Nat) : Bool := (s.coreQueue n).any (fun e => bit (s.reg (Reg.coreEvmask n)) (e / 4096))

/-- IE is set. -/
def coreIe (s : State) (n : Nat) : Bool := bit (s.reg (Reg.coreFlags n)) 4

/-- A core that sleeps in WAIT goes on behind it when IE is clear and an enabled entry is queued (R369). -/
def coreWake (s : State) (n : Nat) : State :=
  if s.reg (Reg.coreWait n) = 1 ∧ s.coreDue n ∧ !s.coreIe n then s.setReg (Reg.coreWait n) 0 else s

/-- An occurrence of a source reaches the queue of core `n` (R365). -/
def coreEvent (s : State) (n src data : Nat) : State :=
  let q := s.coreQueue n
  let q' := if q.any (fun e => e / 4096 == src) then
      q.map (fun e => if e / 4096 = src then src * 4096 + min 15 (e / 256 % 16 + 1) * 256 + data % 256 else e)
    else q ++ [src * 4096 + 256 + data % 256]
  (s.setNum (Num.coreQ n) q').coreWake n

/-- Tick of a timer in ns. -/
def tmrTick (ctl : Nat) : Nat := 1000 * 10 ^ bits ctl 12 2

/-- Count of timer `t` now (R364): it falls by 1 at each tick of hoist time while it runs. -/
def tmrNow (s : State) (n t : Nat) : Nat :=
  let ctl := s.reg (Reg.coreTmrCtl n t)
  if bit ctl 15 ∧ s.reg (Obj.coreState n) ≠ 3 then s.reg (Reg.coreTmr n t) - (s.now / tmrTick ctl - s.reg (Reg.coreTmrAt n t) / tmrTick ctl) else s.reg (Reg.coreTmr n t)

/-- Evaluate a timer at this instant. -/
def tmrSettle (s : State) (n t : Nat) : State :=
  s.setRegs [(Reg.coreTmr n t, s.tmrNow n t), (Reg.coreTmrAt n t, s.now)]

/-- Load the data memory from an image: DATA, and the rest zero. -/
def coreLoad (s : State) (n : Nat) (m : Bytes) : State :=
  (List.range 4096).foldl (fun s a => if s.reg (Reg.coreMem n a) = Pen.dataByte m a then s else s.setReg (Reg.coreMem n a) (Pen.dataByte m a)) s

/-- Registers of core `n` that a new program finds at their start values: g0 to g15 and flags 0, pc at ENTRY, evh and evmask as the header says. -/
def coreStart (s : State) (n : Nat) (m : Bytes) : State :=
  let s := (List.range 16).foldl (fun s r => s.setReg (Reg.coreG n r) 0) s
  s.setRegs [(Reg.coreFlags n, 0), (Reg.corePc n, Pen.entry m), (Reg.coreEvh n, Pen.handler m), (Reg.coreEvmask n, Pen.evmask m),
    (Reg.coreWait n, 0), (Reg.coreInPwait n, 0), (Reg.coreBlk n, 0), (Reg.coreTicks n, 0), (Reg.coreInstr n, 0)]

/-- Swap core `n` to bank `b`, whose program runs in trial (R377, R378, R396). -/
def coreSwap (s : State) (n b : Nat) : State :=
  let m := s.image n b
  let s := s.coreStart n m
  let s := if Pen.keepData m then s else s.coreLoad n m
  let s := (List.range 4).foldl (fun s t => if bit (Pen.timers m) t then s
    else s.setRegs [(Reg.coreTmr n t, 0), (Reg.coreTmrRl n t, 0), (Reg.coreTmrCtl n t, 0), (Reg.coreTmrAt n t, s.now)]) s
  let s := s.setRegs [(Obj.coreActiveBank n, b), (bankKey n b, 4), (Obj.coreState n, 2), (Reg.coreTrial n, s.reg (Obj.coreTrialPeriods n)),
    (Reg.coreBack n, 0), (Reg.coreReady n, 0)]
  if Pen.isOwner n then (s.measure 4 m).redeclare (U.core n) m else s

/-- A program fault (R375, R378): the program stops. Outside trial the parent resets the core; in trial the bank fails and the core swaps back at its next
tick, or enters DEAD when the other bank cannot run. A core whose firmware item is in trial fails its start check (R415, R417). A fault of the Ensign pair
restarts the pair. -/
def coreFault (s : State) (n kind addr : Nat) : State :=
  let item := s.itemTrial (U.core n) || s.reg (Reg.startCheck (U.core n)) == 2
  let trial := s.reg (Obj.coreState n) == 2 || item
  let s := s.coreRaise n St.penFault 3 [(1, kind), (2, s.reg (Reg.corePc n)), (2, addr)]
  let s := s.setRegs [(Obj.coreState n, 4), (Reg.coreWait n, 0), (Reg.coreReady n, 0)]
  if 30 ≤ n then s.pairRestart
  else if trial then
    let b := s.coreBank n
    let s := (s.setReg (bankKey n b) 5).coreRaise n St.penFallback 2 [(1, b), (4, Pen.version (s.image n b))]
    let back := s.bankState n (1 - b) == 2
    if item then
      match s.startFailed (U.core n) with
      | (s, k) =>
        if k = 2 then s.unitDead (U.core n)
        else if k ≠ 1 then s
        else if back then s.setReg (Reg.coreBack n) 1
        else (s.setRegs [(Obj.coreActiveBank n, 1 - b), (Obj.coreState n, 0)]).startPassed (U.core n)
    else if back then s.setReg (Reg.coreBack n) 1 else s.unitDead (U.core n)
  else s

/-- Status of a commit of core `n` (R374, R377): a new bank must be verified, and the period must carry its demand at the F rate; an Ensign image
is held against 330 instruction times per µs. -/
def checkCore (s : State) (v : Nat → Nat) (n : Nat) : Check :=
  let b := v (Obj.coreActiveBank n)
  let m := s.image n b
  let us := v (Obj.corePeriodUs n)
  let moved := b != s.reg (Obj.coreActiveBank n)
  let runs := moved || s.bankState n b == 3 || s.bankState n b == 4
  let changed := moved || us != s.reg (Obj.corePeriodUs n) || v (Obj.corePeriodSource n) != s.reg (Obj.corePeriodSource n)
  firstOf [
    failIf (moved && s.bankState n b != 2) St.penNotVerified (Obj.coreActiveBank n),
    failIf (changed && runs && v (Obj.corePeriodSource n) == 0 && (decide ((if 30 ≤ n then 330 else 250) * us < Pen.maxInstr m) || decide (us < Pen.minPeriod m)))
      St.penDemand (if moved then Obj.coreActiveBank n else Obj.corePeriodUs n)]

/-- What follows a commit of core `n` that has become active: a new ActiveBank swaps the program in (R377). -/
def coreApplied (s0 s : State) (n : Nat) : State :=
  let old := s0.reg (Obj.coreActiveBank n)
  let new := s.reg (Obj.coreActiveBank n)
  if old = new then s
  else
    let s := if s.bankState n old = 3 ∨ s.bankState n old = 4 then s.setReg (bankKey n old) 2 else s
    s.coreSwap n new

/-- The unit of core `n` stops in hold-up (R379): its timers stop counting. -/
def coreStop (s : State) (n : Nat) : State :=
  if s.reg (Obj.coreState n) ≠ 1 ∧ s.reg (Obj.coreState n) ≠ 2 then s
  else
    let s := (List.range 4).foldl (fun s t => s.tmrSettle n t) s
    s.setRegs [(Reg.coreResume n, s.reg (Obj.coreState n)), (Obj.coreState n, 3)]

/-- The core resumes at its first tick after the warm return (R379). -/
def coreReturn (s : State) (n : Nat) : State :=
  if s.reg (Obj.coreState n) ≠ 3 then s
  else
    let s := (List.range 4).foldl (fun s t => s.setReg (Reg.coreTmrAt n t) s.now) s
    s.setReg (Obj.coreState n) (s.reg (Reg.coreResume n))

end State
end Sys2Proof.Machine
end

