-- ==== Sys2Proof/Machine/Commit.lean ====
section
/-!
DEFINITION. Machine/Commit.lean: commits (R38 to R53, R511, R512): the checks of a commit, its acceptance, boundaries, and what drops a pending
bank. The commands arrive in the order of time, so a boundary command that follows a commit is an instant strictly after its
acceptance (R41).
-/
namespace Sys2Proof.Machine

/-- The boundary source of a unit: units with one number share their instants (R41, R47). 0 for boundary kind IMMEDIATE. -/
def State.sourceOf (s : State) (h : Nat) : Nat :=
  let k := s.boundaryOf h
  if k = 1 then
    if handleEnd ≤ h then 0x1000 + h
    else if 0x2F ≤ h ∧ h < 0x37 then 0x100 + (h - 0x2F)
    else if 0x38 ≤ h ∧ h < 0x48 then 0x100 + (h - 0x38) / 2
    else match s.rxLayer (h - 0x49) with
      | some (n, _) => 0x100 + n
      | none => 0x180 + (h - 0x49)
  else if k = 3 then 0x300
  else if k = 6 then 0x600
  else if k = 7 then 0x700
  else if k = 0 then 0
  else 0x1000 + h

namespace State

/-- A boundary source is idle (R42, R260, R284): its boundary comes at once on acceptance. -/
def sourceIdle (s : State) (h : Nat) : Bool :=
  let k := s.boundaryOf h
  s.reg (Reg.unitState h) == 4
    || (k == 1 && decide (0x180 ≤ s.sourceOf h) && decide (h < handleEnd)) || (k == 1 && decide (s.sourceOf h < 0x180) && s.reg (Obj.portMode (s.sourceOf h - 0x100)) == 3)
    || (unitType h == 0x59 && s.reg (Reg.hapBusy (hapOf h).1 (hapOf h).2) == 0)
    || (unitType h == 0x58 && (List.range 8).all (fun c => s.reg (Reg.hapBusy ((h - 0x5B) / 9) c) == 0))
    || (k == 6 && !(List.range 56).any (fun i => (List.range 5).any (fun r => s.reg (Reg.nimPass i r) == 1)))
    || (unitType h == 0x68 && s.reg (Obj.coreState (h - 0x81)) == 0)

/-- Check of the planner's voltage limits (R86). -/
def checkPlan (v : Nat → Nat) : Check :=
  firstIn (List.range 4) (fun d =>
    let lo := v (Obj.voltMinMv d)
    let hi := v (Obj.voltMaxMv d)
    firstOf [failIf (decide (hi < 720) || decide (900 < hi) || hi % 5 != 0) St.planRange (Obj.voltMaxMv d),
      failIf (decide (lo < 600) || decide (hi < lo) || lo % 5 != 0) St.planRange (Obj.voltMinMv d)])

/-- The owning unit's own validation of values `v` (R38 check 7). -/
def checkUnit (s : State) (v : Nat → Nat) (h : Nat) : Check :=
  if 0x2F ≤ h ∧ h < 0x37 then
    let n := h - 0x2F
    firstOf [s.checkComp v s.reg n, s.checkFeeds v n, Head.checkAll v s.reg n (s.reg (Obj.scalerQuality n)) (s.reg (Reg.tePeriod n)) s.nimRate s.rendererTotal, s.checkIntegrity v s.reg n]
  else if 0x38 ≤ h ∧ h < 0x48 then
    let n := (h - 0x38) / 2
    if v (Obj.portMode n) = 3 then none
    else firstOf [Head.checkTiming v n, Head.checkLink v n]
  else if 0x49 ≤ h ∧ h < 0x51 then Head.checkRx s v s.reg (h - 0x49)
  else if h = U.nim then s.checkNim v
  else if h = U.aud ∨ unitType h = 0x61 then s.checkAud v
  else if unitType h = 0x50 then Touch.check v s.reg (h - 0x52)
  else if unitType h = 0x58 then Hap.checkGroup v ((h - 0x5B) / 9)
  else if unitType h = 0x68 then s.checkCore v (h - 0x81)
  else if h = U.plan then checkPlan v
  else none

/-- The check repeated at the boundary (R44): owners and receivers of a head (R238), the trained setting of lit ports (R280), for other units the whole
validation. -/
def recheckUnit (s : State) (v : Nat → Nat) (h : Nat) : Check :=
  if 0x2F ≤ h ∧ h < 0x37 then firstOf [s.checkOwners v (h - 0x2F), s.checkTrained v (h - 0x2F)]
  else if 0x38 ≤ h ∧ h < 0x48 then s.checkTrained v ((h - 0x38) / 2)
  else if h = U.aud ∨ unitType h = 0x61 then s.checkAudLate v
  else s.checkUnit v h

/-- What follows the application of commits of some units at one instant; `s0` is the state before. -/
def applied (s0 s : State) (hs : List Nat) : State :=
  let heads := (List.range 8).filter (fun n => hs.any (fun h => h == U.head n || h == U.dpt (2 * n) || h == U.dpt (2 * n + 1)))
  let s := heads.foldl (fun s n => headApplied s0 s n) s
  let s := (List.range 8).foldl (fun s n => if hs.contains (U.dpr n) then rxApplied s0 s n else s) s
  let s := if hs.any (fun h => h == U.aud || unitType h == 0x61) then State.audApplied s0 s else s
  hs.foldl (fun s h =>
    if unitType h = 0x50 then State.touchApplied s0 s (h - 0x52)
    else if unitType h = 0x59 then State.hapChApplied s0 s (State.hapOf h).1 (State.hapOf h).2
    else if unitType h = 0x68 then State.coreApplied s0 s (h - 0x81)
    else s) s

/-! Acceptance. -/

/-- Units that a commit request names: one handle, or the session's set (R38, 0x0211). -/
def targetsOf (s : State) (n hdl : Nat) : List Nat :=
  if hdl = 0xFFFE then ((List.range (s.reg (skey n Obj.setCount))).map (fun j => s.reg (skey n (Obj.setHandle j)))).dedup else [hdl]

/-- Value of an object in a commit of units `ts` by session `n`: the shadow of a unit whose shadow no other session holds, else the pending
value (R38 check 4). -/
def snapVal (s : State) (n : Nat) (ts : List Nat) (k : Nat) : Nat :=
  match unitOfKey k with
  | none => s.reg k
  | some h =>
    if ts.contains h ∧ (s.reg (Reg.holder h) = 0 ∨ s.reg (Reg.holder h) = n) then s.shadowVal k else s.pendVal k

/-- Keys of unit `h` that have an entry in the shadow or the pending bank. -/
def bankKeys (s : State) (h : Nat) : List Nat :=
  ((s.shadow.map Prod.fst ++ s.pend.map Prod.fst).filter (keyOf h)).dedup

/-- Index and sub-index of an object as CommitDetail gives them. -/
def detailOf (k : Nat) : Nat := (k / 256) * 65536 + (k % 256) * 256

/-- A session may commit an object (R38 check 5). -/
def mayCommit (s : State) (n k : Nat) : Bool := match objRow k with
  | none => false
  | some o => s.classRight (s.cls n) k o .c && (s.cls n != Cls.gst || s.gstReaches (s.reg (Reg.sessWorld n)) k)

/-- Refusal of a schedule (R49); OK where there is none. -/
def schedStatus (s : State) (at' : Nat) : Nat :=
  if at' = 0 then St.ok
  else if !s.locked then St.schedTimeLost
  else if at' < s.now + 1000 * s.reg Obj.schedLeadUs then St.schedTooLate
  else if s.now + 1000000000 * s.reg Obj.schedHorizonS < at' then St.schedTooFar
  else St.ok

/-- Checks 1 to 3 of R38 for one target. A GST session's target must be held by its world (R31). -/
def targetStatus (s : State) (n h : Nat) : Nat :=
  if s.reg (Reg.unitState h) = 0 then St.unitAbsent
  else if s.reg (Reg.unitState h) = 5 then St.unitDead
  else if (s.reg (Reg.unitState h) = 3 ∨ s.reg (Reg.unitState h) = 4) ∧ s.cls n ≠ Cls.hal then St.busy
  else if s.cls n = Cls.gst ∧ !s.holdsBlock (s.reg (Reg.sessWorld n)) h then St.notOwner
  else if s.holdupStopped h then St.pwrHoldup
  else St.ok

/-- The checks of a commit in the order of R38, after that of R488: status, CommitDetail, CommitReason. -/
def commitCheck (s : State) (n hdl at' : Nat) : Nat × Nat × Nat :=
  let ts := s.targetsOf n hdl
  if s.jnlFull then (St.limitReached, 0, 0)
  else if ts.any (fun h => !s.unitThere h) then (St.handleUnknown, 0, 0)
  else if ts.any (fun h => s.boundaryOf h == 0) then (St.noShadow, 0, 0)
  else if ts.isEmpty then (St.setTooLarge, 0, 0)
  else match ts.find? (fun h => s.targetStatus n h != St.ok) with
    | some h => (s.targetStatus n h, 0, 0)
    | none =>
      if s.cls n ≠ Cls.hal ∧ ts.any (fun h => s.reg (Reg.holder h) != 0 && s.reg (Reg.holder h) != n) then (St.shadowHeld, 0, 0)
      else
        let v := s.snapVal n ts
        match (ts.flatMap s.bankKeys).find? (fun k => v k != s.pendVal k && !s.mayCommit n k) with
        | some k => (St.accessDenied, detailOf k, 0)
        | none =>
          if s.schedStatus at' ≠ St.ok then (s.schedStatus at', 0, 0)
          else match firstIn ts (s.checkUnit v) with
            | some (reason, k) => (St.commitInvalid, detailOf k, reason)
            | none => (St.ok, 0, 0)

/-- The pending commit of a unit ends without applying: COMMIT_DROPPED is journalled and its record is live no more. -/
def pendEnd (s : State) (h st : Nat) : State :=
  ((s.jnl 0x12 h 0xFF 0xFF false (record [(4, s.reg (Reg.pendEpoch h)), (2, st)])).jnlDead (s.reg (Reg.pendJnl h))).setRegs
    [(Reg.pendEpoch h, 0), (Reg.pendAt h, 0)]

/-- Accept a commit for one unit (R39, R43, R52): its snapshot becomes the pending bank and its hold ends. -/
def acceptUnit (n at' ep : Nat) (s : State) (h : Nat) : State :=
  let s := if s.reg (Reg.holder h) ≠ 0 ∧ s.reg (Reg.holder h) ≠ n then s.loseShadow h 1 else s
  let es := (s.bankKeys h).map (fun k => (k, s.shadowVal k))
  let s := if s.reg (Reg.pendEpoch h) = 0 then s
    else
      let old := s.reg (Reg.pendEpoch h)
      (s.pendEnd h St.commitSuperseded).raise [.code (s.reg (Reg.pendDest h))] h St.commitSuperseded 0xFF 1 [(4, old), (4, ep)]
  let s := (s.revertShadow h).dropPend h
  let s := { s with pend := es.foldl (fun m (p : Nat × Nat) => if s.reg p.1 = p.2 then m else Kmap.put m p.1 (some p.2)) s.pend }
  let s := State.setRegs s [(Reg.holder h, 0), (Reg.pendJnl h, s.jnlSeq), (Reg.pendEpoch h, ep), (Reg.pendAt h, at'), (Reg.pendLock h, 0), (Reg.pendSession h, n),
    (Reg.pendDest h, s.sessDest n)]
  let s := s.jnl 0x10 h 0xFF 0xFF true (record [(4, ep), (8, at')])
  if 0x100 ≤ s.sourceOf h ∧ s.sourceOf h < 0x108 then s.wakeLink (s.sourceOf h - 0x100) else s

/-! Boundaries. -/

/-- Move the pending bank of a unit to its active bank. -/
def applyBank (s : State) (h : Nat) : State :=
  State.dropPend { s with regs := (s.pend.filter (fun p => keyOf h p.1)).foldl (fun m p => Kmap.put m p.1 (p.2.getD 0)) s.regs } h

/-- A void group (R44): the pending bank is dropped, the shadow keeps the snapshot without a holder of its own, and the committing session is told.
A session that has taken the hold since the acceptance keeps it, with its own entries over the snapshot's (DESIGN CHOICE, log 41). -/
def voidUnit (reason members : Nat) (s : State) (h : Nat) : State :=
  let ep := s.reg (Reg.pendEpoch h)
  let kept := (s.pend.filter (fun p => keyOf h p.1)).foldl (fun m (p : Nat × Option Nat) => if Kmap.get none m p.1 = none then Kmap.put m p.1 p.2 else m) s.shadow
  let s := (State.dropPend { s with shadow := kept } h).pendEnd h St.commitVoid
  s.raise [.code (s.reg (Reg.pendDest h))] h St.commitVoid 0xFF 2 [(4, ep), (2, reason), (1, members)]

/-- A unit whose pending bank has become active (R41): COMMIT_APPLIED. -/
def tellApplied (s : State) (h : Nat) : State :=
  let ep := s.reg (Reg.pendEpoch h)
  let c := s.reg (Reg.sourceCount h)
  let s := s.setRegs [(Reg.activeEpoch h, ep), (Reg.boundaryCount h, c), (Reg.pendEpoch h, 0), (Reg.pendAt h, 0)]
  let s := (s.jnl 0x11 h 0xFF 0xFF false (record [(4, ep), (4, c)])).jnlDead (s.reg (Reg.pendJnl h))
  s.raise [.code (s.reg (Reg.pendDest h))] h St.commitApplied 0xFF 0 [(4, ep), (1, s.boundaryOf h), (4, c)]

/-- A group of members at one instant (R44, R46): the check runs for all of them first, and all apply or none does. -/
def applyGroup (s : State) (hs : List Nat) : State :=
  let v := fun k => match unitOfKey k with
    | none => s.reg k
    | some h => if hs.contains h then s.pendVal k else s.reg k
  match firstIn hs (s.recheckUnit v) with
  | some (reason, _) => hs.foldl (voidUnit reason hs.length) s
  | none => hs.foldl tellApplied (applied s (hs.foldl applyBank s) hs)

/-- Drop a scheduled commit whose time cannot be reached (R50, R53). -/
def schedDrop (s : State) (h : Nat) : State :=
  let ep := s.reg (Reg.pendEpoch h)
  if ep = 0 then s
  else (((s.dropPend h).pendEnd h St.schedTimeLost).raise [.code (s.reg (Reg.pendDest h))] h St.schedTimeLost 0xFF 2 [(4, ep)]).hoistMissed ep

/-- Apply what is due among some units that share a boundary source: unscheduled commits, and scheduled ones whose CommitAt has come (R41, R48); those of
units stopped in hold-up stay pending (R447). A scheduled one at whose CommitAt TimeLocked read 0 never applies (R50). -/
def applyDue (s : State) (hs : List Nat) : State :=
  let due := hs.filter (fun h => s.reg (Reg.pendEpoch h) != 0 && !s.holdupStopped h && decide (s.reg (Reg.pendAt h) ≤ s.now) && (s.reg (Reg.pendAt h) == 0 || s.lockedAt h))
  ((due.map (fun h => s.reg (Reg.pendEpoch h))).dedup).foldl (fun s' ep => s'.applyGroup (due.filter (fun h => s.reg (Reg.pendEpoch h) == ep))) s

/-- Units that share a boundary source. -/
def unitsOn (s : State) (src : Nat) : List Nat := s.handles.filter (fun h => s.sourceOf h == src && src != 0)

/-- An instant of a boundary source (R41). -/
def boundary (s : State) (src : Nat) : State :=
  let hs := s.unitsOn src
  (hs.foldl (fun s h => s.bump (Reg.sourceCount h) 32) s).applyDue hs

/-- Accept a commit whole under one epoch (R39, R40, R46). Members whose source is idle apply at once, in groups by source (R42). -/
def accept (s : State) (n : Nat) (ts : List Nat) (at' : Nat) : State :=
  let s := s.takeEpoch
  let ep := s.reg Obj.lastEpoch
  let s := ts.foldl (acceptUnit n at' ep) s
  let s := s.setReg (skey n Obj.commitEpoch) ep
  let idle := if at' = 0 then ts.filter s.sourceIdle else []
  ((idle.map s.sourceOf).dedup).foldl (fun s' src => s'.applyGroup (idle.filter (fun h => s.sourceOf h == src))) s

/-- Set a session's commit results and answer with the status (R38). -/
def commitAnswer (s : State) (n st detail reason : Nat) : State :=
  (s.setRegs [(skey n Obj.commitStatus, st), (skey n Obj.commitDetail, detail), (skey n Obj.commitReason, reason)]).reply st

/-- CommitOp 1 with a target and a time (R38). -/
def commitOp (s : State) (n hdl at' : Nat) : State :=
  match s.commitCheck n hdl at' with
  | (st, detail, reason) =>
    if st = St.ok then (s.accept n (s.targetsOf n hdl) at').commitAnswer n St.ok 0 0
    else s.commitAnswer n st detail reason

/-- Refusal of a discard or cancel of a target before its own conditions: unknown handle, unit without banks (R38 check 1, R31). -/
def bankStatus (s : State) (n hdl : Nat) : Nat :=
  let ts := s.targetsOf n hdl
  if ts.any (fun h => !s.unitThere h) then St.handleUnknown
  else if ts.any (fun h => s.boundaryOf h == 0) then St.noShadow
  else if ts.isEmpty then St.setTooLarge
  else if s.cls n = Cls.gst ∧ ts.any (fun h => !s.holdsBlock (s.reg (Reg.sessWorld n)) h) then St.notOwner
  else St.ok

/-- CommitOp 2 (R45). -/
def discardOp (s : State) (n hdl : Nat) : State :=
  let ts := s.targetsOf n hdl
  let st := s.bankStatus n hdl
  if st ≠ St.ok then s.commitAnswer n st 0 0
  else if s.cls n ≠ Cls.hal ∧ ts.any (fun h => s.reg (Reg.holder h) != 0 && s.reg (Reg.holder h) != n) then s.commitAnswer n St.shadowHeld 0 0
  else (ts.foldl (fun s h =>
      if s.reg (Reg.holder h) = 0 then s
      else if s.reg (Reg.holder h) = n then (s.revertShadow h).setReg (Reg.holder h) 0
      else s.loseShadow h 1) s).commitAnswer n St.ok 0 0

/-- CommitOp 3 (R45): COMMIT_CANCELLED goes to the session that made the pending commit and to the cancelling one, once where they are one. A set of which some member
has nothing pending is refused whole with NOTHING_PENDING; a session that holds the reverted shadow keeps its hold, with no SHADOW_LOST (DESIGN CHOICE, log 41). -/
def cancelOp (s : State) (n hdl : Nat) : State :=
  let ts := s.targetsOf n hdl
  let st := s.bankStatus n hdl
  if st ≠ St.ok then s.commitAnswer n st 0 0
  else if ts.any (fun h => s.reg (Reg.pendEpoch h) == 0) then s.commitAnswer n St.nothingPending 0 0
  else match (ts.flatMap s.bankKeys).find? (fun k => s.pendVal k != s.reg k && !s.mayCommit n k) with
    | some k => s.commitAnswer n St.accessDenied (detailOf k) 0
    | none => (ts.foldl (fun s h =>
        let ep := s.reg (Reg.pendEpoch h)
        let s := (((s.revertShadow h).dropPend h).pendEnd h St.commitCancelled)
        let s := s.raise [.code (s.reg (Reg.pendDest h))] h St.commitCancelled 0xFF 1 [(4, ep)]
        if s.reg (Reg.pendSession h) = n then s else s.raise [.code (s.sessDest n)] h St.commitCancelled 0xFF 1 [(4, ep)]) s).commitAnswer n St.ok 0 0

/-- A unit reaches QUIESCED: its pending commit, a scheduled one too, applies at this instant (R51). -/
def quiesced (s : State) (h : Nat) : State :=
  let s := s.setUnitState h 4
  if s.reg (Reg.pendEpoch h) ≠ 0 then s.applyGroup [h] else s

/-- A unit restarted by its parent (R52): its shadow reverts and its holder is told; the pending commit waits for the first boundary. -/
def unitRestarted (s : State) (h : Nat) : State := (s.loseShadow h 4).revertShadow h

/-- Pending commits after a warm return (R53): those whose CommitAt passed are dropped. -/
def commitsReturn (s : State) : State :=
  (List.range handleEnd).foldl (fun s h =>
    let s := s.revertShadow h
    if s.reg (Reg.pendEpoch h) ≠ 0 ∧ s.reg (Reg.pendAt h) ≠ 0 ∧ s.reg (Reg.pendAt h) < s.now then s.schedDrop h else s) s

end State
end Sys2Proof.Machine
end

