-- ==== Sys2Proof/Machine/AudioOps.lean ====
section
/-!
DEFINITION. Machine/AudioOps.lean: the audio engine (chapter 14): streams and their buffers, voices, duck gain, one sample of a domain's graph, meters.
-/
namespace Sys2Proof.Machine

namespace Aud

/-- A sample after a gain in 0.000001 dB. -/
def amp (x g : Int) : Int := if x = 0 ∨ g = 0 then x else Config.scaled x g

/-- Saturation to S32 (R343). -/
def sat (x : Int) : Int := max (-2 ^ 31) (min (2 ^ 31 - 1) x)

/-- One section: input, its state x[n-1], x[n-2], y[n-1], y[n-2], and its coefficients in `v`; the output (R344). -/
def biquad (v q : Nat) (x : Int) (z : List Int) : Int :=
  let a := coef v q 0 * x + coef v q 1 * z.getD 0 0 + coef v q 2 * z.getD 1 0 - coef v q 3 * z.getD 2 0 - coef v q 4 * z.getD 3 0
  if a % 2 ^ 28 = 0 then a / 2 ^ 28 else Config.q28 a

/-- Length of a tone's segment list, ns. -/
def toneNs (t : EnsTone) : Nat := 1000000 * (t.segs.map EnsSegment.ms).foldl (· + ·) 0

/-- Segment of a tone sounding at `ns` into it, with the ns into the segment; none past its repeats. -/
def toneAt (t : EnsTone) (ns : Nat) : Option EnsSegment :=
  let len := toneNs t
  if len = 0 ∨ (t.rep ≠ 0 ∧ t.rep * len ≤ ns) then none
  else
    (t.segs.foldl (fun (a : Nat × Option EnsSegment) g =>
      if a.2.isNone ∧ ns % len < a.1 + 1000000 * g.ms then (a.1, some g) else (a.1 + 1000000 * g.ms, a.2)) (0, none)).2

/-- Sample of a frame read from memory (R343, Guest streams): S16 left-aligned, or S32 with data in bits 31:8. -/
def sampleIn (fmt : Nat) (b : Bytes) : Nat := if fmt = 0 then leNat b % 65536 * 65536 else leNat b / 256 % 2 ^ 24 * 256

/-- Bytes of a sample written to memory. -/
def sampleOut (fmt x : Nat) : Bytes := if fmt = 0 then leBytes 2 (x / 65536) else leBytes 4 (x / 256 * 256)

/-- Bytes of a sample. -/
def sampleBytes (fmt : Nat) : Nat := if fmt = 0 then 2 else 4

/-- Sample `x` cut into the samples of a frame of `c` channels. -/
def frameSamples (fmt c : Nat) (b : Bytes) : List Nat :=
  (List.range c).map (fun k => sampleIn fmt ((b.drop (k * sampleBytes fmt)).take (sampleBytes fmt)))

end Aud

namespace State

/-- A free sample, number `j` of those that one free value gives (log 22). -/
def freeSample (s : State) (j : Nat) : Int := toSigned 4 (s.fresh / 2 ^ (32 * j))

/-- The engine computes: `true` whole, in hold-up domain M and its alarm buses alone (R361). -/
def audWhole (s : State) : Bool := s.reg Obj.powerState == 3 || s.reg Obj.powerState == 2 || s.reg Obj.powerState == 6

/-- The engine runs at all. -/
def audRuns (s : State) : Bool :=
  (s.audWhole || s.reg Obj.powerState == 4) && (s.reg (Reg.unitState U.aud) == 1 || s.reg (Reg.unitState U.aud) == 2)

/-- A guest world holds TDM port `p` (R356). -/
def tdmHeld (s : State) (p : Nat) : Bool := decide (4 ≤ s.reg (Reg.blockHolder (U.tdm p)))

/-! Streams. -/

/-- Buffers queued for a stream. -/
def bufs (s : State) (t : Nat) : List AudBuf := Kmap.get [] s.audBufs t

/-- Replace them. -/
def setBufs (s : State) (t : Nat) (l : List AudBuf) : State := { s with audBufs := Kmap.set [] s.audBufs t l }

/-- Signal a completed buffer's fence and end its item (R351). -/
def bufComplete (s : State) (b : AudBuf) : State :=
  (s.itemEndSeq b.seq St.ok).signalFence b.inst 5 b.fence b.fval

/-- Buffers whose work item has gone (dropped with its instance or world, or ended by a fault) leave the queue, with the frames fetched from them. -/
def bufsPrune (s : State) (t : Nat) : State :=
  let live := fun (b : AudBuf) => s.items.any (fun (x : Item) => x.seq == b.seq)
  if (s.bufs t).all live then s
  else
    let c := s.reg (Obj.streamChannels t)
    let q := (s.bufs t).foldl (fun (a : List Nat × List Nat) b =>
      let n := c * (b.fetched - b.passed)
      (a.1 ++ (if live b then a.2.take n else []), a.2.drop n)) ([], s.num (Num.audFifo t))
    (s.setBufs t ((s.bufs t).filter live)).setNum (Num.audFifo t) q.1

/-- A fault of a stream's transfer (R111): it is reported, and the buffer's item ends with its status. -/
def bufFault (s : State) (acc : Acc) (b : AudBuf) (e : XFault) : State :=
  let s := s.accessFault (s.instWorld b.inst) b.inst 5 U.aud (s.classOf 22) acc e
  s.itemEndSeq b.seq e.status

/-- Replace the first buffer that satisfies `p` by `f` of it. -/
def bufChange (s : State) (t : Nat) (p : AudBuf → Bool) (f : AudBuf → AudBuf) : State :=
  let l := s.bufs t
  s.setBufs t (l.takeWhile (fun b => !p b) ++ (match l.dropWhile (fun b => !p b) with
    | [] => []
    | b :: bs => f b :: bs))

/-- Prefetch of a play stream (R353): frames are read in queue order until `n` more are held. -/
def prefetch (s : State) (t : Nat) : Nat → State
  | 0 => s
  | n + 1 =>
    let due := fun (b : AudBuf) => decide (b.fetched < b.frames)
    match (s.bufs t).find? due with
    | none => s
    | some b =>
      let fmt := s.reg (Obj.streamFormat t)
      let c := s.reg (Obj.streamChannels t)
      let len := c * Aud.sampleBytes fmt
      match s.cread b.inst 5 (b.addr + b.fetched * len) len with
      | .error e => (s.bufFault .read b e).bufsPrune t
      | .ok d => ((s.setNum (Num.audFifo t) (s.num (Num.audFifo t) ++ Aud.frameSamples fmt c d)).bufChange t due
          (fun b => { b with fetched := b.fetched + 1 })).prefetch t n

/-- Frames of the prefetch depth of a stream: ceil(L × rate). -/
def fifoDepth (s : State) (t : Nat) : Nat :=
  ceilDiv (s.reg (Obj.streamLatencyUs t) * Aud.rate (s.reg Obj.pRate) (s.reg (Obj.streamDomain t))) 1000000

/-- A stream starves (R354): once per episode, to the instance whose ring runs the stream (R514), or to its world where none has. -/
def audStarve (s : State) (t st : Nat) : State :=
  if s.reg (Obj.streamState t) ≠ 2 ∨ s.reg (Reg.audStop t) ≠ 0 then s
  else ((s.setReg (Obj.streamState t) 3).bump (Obj.underruns t) 32).raise
    [if s.reg (Reg.streamInst t) = 0 then .world (s.reg (Obj.streamWorld t)) else .inst (s.reg (Reg.streamInst t) - 1)] U.aud st (s.reg (Obj.streamWorld t)) 2 [(1, t)]

/-- A play stream at its sample: its next frame, or silence (R353, R354). -/
def playStep (s : State) (t : Nat) : State :=
  let c := s.reg (Obj.streamChannels t)
  let s := s.prefetch t (s.fifoDepth t - (s.num (Num.audFifo t)).length / c)
  let q := s.num (Num.audFifo t)
  if c = 0 ∨ q.length < c then ((if s.reg (Obj.streamState t) < 2 then s else s.count 435 1).setNum (Num.audNow t) []).audStarve t St.audUnderrun
  else
    let s := (s.setNum (Num.audNow t) (q.take c)).setNum (Num.audFifo t) (q.drop c)
    (s.bufChange t (fun b => decide (b.passed < b.frames)) (fun b => { b with passed := b.passed + 1 })).setRegs
      [(Obj.streamFrames t, (s.reg (Obj.streamFrames t) + 1) % 2 ^ 64), (Obj.streamState t, 2)]

/-- A capture stream at its sample: its frame goes to its buffer, or is discarded (R353, R354). -/
def captureStep (s : State) (t : Nat) (frame : List Nat) : State :=
  let due := fun (b : AudBuf) => decide (b.passed < b.frames)
  match (s.bufs t).find? due with
  | none => (if s.reg (Obj.streamState t) < 2 then s else s.count 436 1).audStarve t St.audOverrun
  | some b =>
    let fmt := s.reg (Obj.streamFormat t)
    let len := frame.length * Aud.sampleBytes fmt
    match s.cwrite b.inst 5 (b.addr + b.passed * len) (frame.flatMap (Aud.sampleOut fmt)) with
    | .error e => (s.bufFault .write b e).bufsPrune t
    | .ok s => (s.bufChange t due (fun b => { b with passed := b.passed + 1 })).setRegs
        [(Obj.streamFrames t, (s.reg (Obj.streamFrames t) + 1) % 2 ^ 64), (Obj.streamState t, 2)]

/-- A stream that has been stopped completes its buffers (R352). -/
def audStopped (s : State) (t : Nat) : State :=
  let bs := s.bufs t
  let s := ((s.setBufs t []).setNum (Num.audFifo t) []).setNum (Num.audNow t) []
  (bs.foldl bufComplete s).setRegs [(Obj.streamState t, 1), (Reg.audStop t, 0)]

/-- Starts and stops of a stream that are due at this sample (R352). -/
def audDue (s : State) (t : Nat) : State :=
  let s := s.bufsPrune t
  let s := if s.reg (Reg.audStop t) ≠ 0 ∧ s.reg (Reg.audStop t) - 1 + 2000000 ≤ s.now then s.audStopped t else s
  if s.reg (Reg.audStart t) ≠ 0 ∧ s.reg (Reg.audStart t) - 1 ≤ s.now ∧ s.reg (Obj.streamState t) = 1 then
    s.setRegs [(Obj.streamState t, 2), (Reg.audStart t, 0)]
  else s

/-- Streams of a domain that run; endpoint streams run on their port at domain M. -/
def running (s : State) (d dir : Nat) : List Nat :=
  (List.range 32).filter (fun t => s.reg (Obj.streamWorld t) != 0xFF && decide (2 ≤ s.reg (Obj.streamState t))
    && s.reg (Obj.streamDir t) == dir && s.reg (Obj.streamDomain t) == d)

/-! Voices and duck gain. -/

/-- A tone of the active package. -/
def toneOf (s : State) (k : Nat) : Option EnsTone :=
  match s.activePkg with
  | none => none
  | some p => p.tones.find? (fun t => t.num == k)

/-- Pages that request a tone and have not had it: page, tone, priority, the highest priority first. -/
def toneWaits (s : State) : List EnsPage :=
  match s.activePkg with
  | none => []
  | some p => (p.pages.filter (fun (g : EnsPage) => s.reg (Reg.pageTone g.num) == 1 && s.reg (Reg.toneDone g.num) == 0
      && !(List.range 4).any (fun v => s.reg (Reg.voicePage v) == g.num + 1))).mergeSort (fun a b => decide (b.prio ≤ a.prio))

/-- Some page requests a tone. -/
def toneWanted (s : State) : Bool :=
  match s.activePkg with
  | none => false
  | some p => p.pages.any (fun (g : EnsPage) => s.reg (Reg.pageTone g.num) == 1)

/-- Some voice plays. -/
def voicesOn (s : State) : Bool := (List.range 4).any (fun v => s.reg (Reg.voicePage v) != 0)

/-- Priority of the page whose tone a voice plays. -/
def voicePrio (s : State) (v : Nat) : Nat :=
  match s.activePkg with
  | none => 0
  | some p => ((pkgPage p (s.reg (Reg.voicePage v) - 1)).map EnsPage.prio).getD 0

/-- A voice ends after its repeats, and fades out over 2 ms when its request has gone (R358). -/
def voiceStep (s : State) (v : Nat) : State :=
  let g := s.reg (Reg.voicePage v)
  if g = 0 then s
  else
    let free := fun (s : State) => s.setRegs [(Reg.voicePage v, 0), (Reg.voiceFade v, 0)]
    if s.reg (Reg.voiceFade v) ≠ 0 then (if s.reg (Reg.voiceFade v) - 1 + 2000000 ≤ s.now then free s else s)
    else if s.reg (Reg.pageTone (g - 1)) = 0 then s.setReg (Reg.voiceFade v) (s.now + 1)
    else match s.toneOf (s.reg (Reg.voiceTone v)) with
      | none => free s
      | some t => if (Aud.toneAt t (s.now - s.reg (Reg.voiceAt v))).isNone then (free s).setReg (Reg.toneDone (g - 1)) 1 else s

/-- A tone request takes a free voice, or the voice of the page of lowest priority when that is below its own (R358). -/
def voiceTake (s : State) (g : EnsPage) : State :=
  let start := fun v => s.setRegs [(Reg.voicePage v, g.num + 1), (Reg.voiceTone v, g.tone), (Reg.voiceAt v, s.now), (Reg.voiceFade v, 0)]
  match (List.range 4).find? (fun v => s.reg (Reg.voicePage v) == 0) with
  | some v => start v
  | none =>
    let v := (List.range 4).foldl (fun a v => if s.voicePrio v < s.voicePrio a then v else a) 0
    if s.voicePrio v < g.prio then start v else s

/-- A physical sink is in service: a TDM slot of a port in controller mode that no guest holds, a line output, a USB port that a video world holds
(R348, R356). -/
def sinkServes (s : State) (k : Nat) : Bool :=
  let u := Aud.sinkUnit k
  if Aud.sinkKind k = 1 then decide (u < 8) && s.reg (Obj.tdmMode u) == 1 && decide (Aud.sinkSlot k < s.reg (Obj.tdmSlots u)) && !s.tdmHeld u
    && s.reg (Reg.unitState (U.tdm u)) != 5
  else if Aud.sinkKind k = 2 then decide (u < 4)
  else if Aud.sinkKind k = 3 then decide (u < 8) && decide (4 ≤ s.reg (Reg.blockHolder (U.usbDev u)))
  else false

/-- The backup tone plays (R302, R360). -/
def backupOn (s : State) : Bool :=
  s.reg Reg.backupTone == 1 || s.reg Reg.backupPath == 1 || (s.reg (Reg.unitState U.aud) == 5 && s.toneWanted)

/-- The duck gain in effect, 0.000001 dB: linear in dB over its attack or release (R359). -/
def duckNow (s : State) : Int :=
  let target : Int := if s.reg Reg.duckOn = 1 then 10000 * toSigned 2 (s.reg Obj.duckDb) else 0
  let ms := if s.reg Reg.duckOn = 1 then s.reg Obj.duckAttackMs else s.reg Obj.duckReleaseMs
  let a := s.reg Reg.duckAt
  let t := s.now - (a - 1)
  if a = 0 ∨ 1000000 * ms ≤ t then target
  else
    let f := toSigned 8 (s.reg Reg.duckFrom)
    f + (target - f) * (t : Int) / ((1000000 * ms : Nat) : Int)

/-- The duck gain turns towards DuckDb or back. -/
def duckTurn (s : State) : State :=
  let on := b2n (s.voicesOn || s.backupOn)
  if s.reg Reg.duckOn = on then s else s.setRegs [(Reg.duckFrom, ofSigned 8 s.duckNow), (Reg.duckAt, s.now + 1), (Reg.duckOn, on)]

/-- The alarm path (R356, R360): lost while a voice plays with no alarm bus on a sink in service. -/
def alarmPath (s : State) : State :=
  let lost := s.voicesOn && !(List.range 64).any (fun b => s.reg (Obj.alarmBus b) == 1 && s.sinkServes (s.reg (Obj.busSink b)))
  if b2n lost = s.reg Reg.backupPath then s
  else
    let s := s.setReg Reg.backupPath (b2n lost)
    if lost then s.raise [.hal, .owner, .ens] U.aud St.audAlarmPathLost 0xFF 4 [] else s

/-- TonesActive and the beginning of the backup tone follow. -/
def tonesDerive (s : State) : State :=
  let v := (List.range 4).foldl (fun a v => if s.reg (Reg.voicePage v) = 0 then a else setBit a v) (16 * b2n s.backupOn)
  let s := s.setReg Obj.tonesActive v
  if s.backupOn then (if s.reg Reg.backupAt = 0 then s.setRegs [(Reg.backupAt, s.now + 1), (Reg.backupHz, 0)] else s)
  else s.setReg Reg.backupAt 0

/-- Voices at an M sample (R358). -/
def voices (s : State) : State :=
  let s := (List.range 4).foldl voiceStep s
  let s := match s.activePkg with
    | none => s
    | some p => p.pages.foldl (fun (s : State) (g : EnsPage) =>
        if s.reg (Reg.pageTone g.num) = 0 ∧ s.reg (Reg.toneDone g.num) = 1 then s.setReg (Reg.toneDone g.num) 0 else s) s
  s.toneWaits.foldl voiceTake s

/-! One sample of the graph. -/

/-- Sample of voice `v`: silence where it plays none or its segment is silent; the tone generator's sines are free samples (log 22). -/
def voiceSample (s : State) (v : Nat) : Int :=
  if s.reg (Reg.voicePage v) = 0 then 0
  else match s.toneOf (s.reg (Reg.voiceTone v)) with
    | none => 0
    | some t => match Aud.toneAt t (s.now - s.reg (Reg.voiceAt v)) with
      | some g => if g.shape = 0 then 0 else s.freeSample (300 + v)
      | none => 0

/-- Sample of a physical input (R342, R348); absent ones read silence. -/
def inSample (ins : List (Nat × Nat)) (kind unit chan : Nat) : Int :=
  toSigned 4 (((ins.find? (fun x => x.1 == 256 * kind + 16 * unit + chan)).map Prod.snd).getD 0)

/-- Sample of source `j` before its trim (R342). -/
def sourceSample (s : State) (ins : List (Nat × Nat)) (j : Nat) : Int :=
  if 252 ≤ j then 0
  else if 248 ≤ j then s.voiceSample (j - 248)
  else
    let e := s.reg (Obj.sourceTable j)
    let u := Aud.unit e
    let c := Aud.chan e
    match Aud.kind e with
    | 1 => if s.reg (Reg.audStop u) ≠ 0 then s.freeSample j else toSigned 4 ((s.num (Num.audNow u)).getD c 0)
    | 2 => if 7 < u ∨ s.reg (Obj.tdmMode u) ≠ 1 ∨ s.tdmHeld u ∨ s.reg (Obj.tdmSlots u) ≤ c then 0 else inSample ins 2 u c
    | 3 => if 3 < u ∨ s.reg (Obj.pdmEnable u) = 0 then 0 else Aud.amp (inSample ins 3 u c) (10000 * toSigned 2 (s.reg (Obj.pdmGain u)))
    | 4 => if s.reg (Obj.bridgeState u) = 2 ∨ (s.reg (Reg.bridgeOffAt u) ≠ 0 ∧ s.now < s.reg (Reg.bridgeOffAt u) - 1 + 2000000) then s.freeSample j
        else 0
    | 5 => inSample ins 5 u c
    | 7 => s.freeSample j
    | _ => 0

/-- Note a sample in the meter of source (k 0) or bus (k 1) `j` (R347). -/
def meterNote (s : State) (k j : Nat) (x : Int) : State :=
  s.setRegs [(Reg.meterPeak k j, max (s.reg (Reg.meterPeak k j)) x.natAbs), (Reg.meterSum k j, s.reg (Reg.meterSum k j) + x.natAbs ^ 2),
    (Reg.meterCount k j, s.reg (Reg.meterCount k j) + 1)]

/-- Crosspoints of bus `b` that have been written, by source. -/
def crossRowOf (s : State) (b : Nat) : List Nat :=
  ((s.regs.map Prod.fst).filter (fun k => k / 256 == 0x6140 + b)).map (· % 256)

/-- A crosspoint is off: its gain stands at -120 dB (Crosspoints and buses, R345). -/
def crossOff (s : State) (b j : Nat) : Bool := decide (s.crossNow b j ≤ -120000000)

/-- Mix of bus `b` (R343, R358, R359): its crosspoints with trim, crosspoint and duck gain, and the voices at 0 dB on an alarm bus of domain M. -/
def mix (s : State) (ins : List (Nat × Nat)) (b : Nat) : Int :=
  let duck := s.duckNow
  let x := ((s.crossRowOf b).filter (fun j => decide (j < 248) && !s.crossOff b j)).foldl
    (fun a j => a + Aud.amp (s.sourceSample ins j) (s.trimNow j + s.crossNow b j + duck)) 0
  if s.reg (Obj.alarmBus b) = 1 ∧ s.reg (Obj.busDomain b) = 0 then (List.range 4).foldl (fun a v => a + s.voiceSample v) x else x

/-- Level of bus `b` on its filtered mix (R345, R359): an alarm bus ignores BusMute and keeps AlarmFloorDb while a voice plays; a muted bus outputs
zero at the end of its ramp. -/
def busLevel (s : State) (b : Nat) (x : Int) : Int :=
  if s.reg (Obj.alarmBus b) = 1 ∧ s.voicesOn then
    let g := if s.reg (Obj.busMute b) = 1 then 10000 * toSigned 2 (s.reg (Obj.busGain b)) else s.busNow b
    Aud.amp x (max g (10000 * toSigned 2 (s.reg Obj.alarmFloorDb)))
  else if s.reg (Obj.busMute b) = 1 ∧ s.busNow b = -120000000 then 0
  else Aud.amp x (s.busNow b)

/-- Enabled sections of bus `b` in order on a mix (R344, R346): the new section states and the result. -/
def filterBus (s : State) (b : Nat) (x : Int) : List Nat × Int :=
  (List.range 12).foldl (fun (a : List Nat × Int) q =>
    let z := ((List.range 4).map (fun k => toSigned 8 (a.1.getD (4 * q + k) 0)))
    if bit (s.reg (Obj.sectionEnable b)) q then
      let y := Aud.biquad (s.reg (Obj.sections b)) q a.2 z
      let n := [ofSigned 8 a.2, ofSigned 8 (z.getD 0 0), ofSigned 8 y, ofSigned 8 (z.getD 2 0)]
      ((List.range 48).map (fun k => if k / 4 = q then n.getD (k % 4) 0 else a.1.getD k 0), y)
    else a) (s.num (Num.sect b), x)

/-- The bus is ramping after a reset of the island's ports or a change of PRate (R362); zero while the ports are in reset. -/
def busGate (s : State) (b d : Nat) (x : Int) : Int :=
  if s.reg (Reg.audMute d) = 1 then 0
  else if s.reg (Reg.audIn d) ≠ 0 ∧ s.now < s.reg (Reg.audIn d) - 1 + 2000000 then s.freeSample (400 + b)
  else if d = 2 ∧ s.reg Reg.pSwitch ≠ 0 ∧ s.now < s.reg Reg.pSwitch - 1 + 2000000 then s.freeSample (400 + b)
  else x

/-- Count a saturated sample in CLIPS of a bus meter, which saturates (R343, R347). -/
def clip (s : State) (b : Nat) : State :=
  let v := s.reg (Obj.busMeter b)
  (s.setReg (Obj.busMeter b) (v % 2 ^ 48 + 2 ^ 48 * min 65535 (v / 2 ^ 48 + 1))).count 437 1

/-- One bus at one sample: mix, sections, gain, saturation, meter; the sample joins those on their way to the sink (R341 to R347). `t` is the state whose free
values the sample uses. -/
def busStep (ins : List (Nat × Nat)) (d : Nat) (late : Bool) (s : State) (b : Nat) : State :=
  let f := s.filterBus b (s.mix ins b)
  let lev := s.busGate b d (s.busLevel b f.2)
  let y := if late then 0 else Aud.sat lev
  let s := s.setNum (Num.sect b) f.1
  let s := if !late && y != lev then s.clip b else s
  (s.setNum (Num.busPipe b) ((ofSigned 4 y :: s.num (Num.busPipe b)).take 4)).meterNote 1 b y

/-- Sample that leaves bus `b` now: the one computed 3 samples ago (R341). -/
def busOut (s : State) (b : Nat) : Nat := (s.num (Num.busPipe b)).getD 3 0

/-- Level sent to a line output: the bus's sample, or the backup tone in its place (R360). -/
def lineSample (s : State) (n x : Nat) : Nat :=
  if s.backupOn && bit (s.reg Obj.backupSinks) n then ofSigned 4 (s.freeSample (480 + n)) else x

/-- Samples leave for the sinks of domain M (R348, R356, R360, R361). In hold-up only the sinks of alarm buses carry sound. -/
def sinksOut (s : State) : State :=
  let s := (List.range 64).foldl (fun s b =>
    let k := s.reg (Obj.busSink b)
    let x := if s.sinkServes k ∧ (s.audWhole ∨ s.reg (Obj.alarmBus b) = 1) then s.busOut b else 0
    if s.reg (Obj.busDomain b) ≠ 0 then s
    else match Aud.sinkKind k with
      | 1 => if s.tdmHeld (Aud.sinkUnit k) then s else s.emit (.pin (U.tdm (Aud.sinkUnit k)) (Aud.sinkSlot k) x)
      | 2 => s.emit (.pin U.aud (0x100 + Aud.sinkUnit k) (s.lineSample (Aud.sinkUnit k) x))
      | 3 => s.emit (.pin (U.usbDev (Aud.sinkUnit k)) (Aud.sinkSlot k) x)
      | _ => s) s
  (List.range 4).foldl (fun s n =>
    if (List.range 64).any (fun b => Aud.sinkKind (s.reg (Obj.busSink b)) == 2 && Aud.sinkUnit (s.reg (Obj.busSink b)) == n) then s
    else if s.backupOn ∧ bit (s.reg Obj.backupSinks) n then s.emit (.pin U.aud (0x100 + n) (s.lineSample n 0)) else s) s

/-- With the engine at a standstill the backup tone alone reaches the line outputs, at their converter inputs (R360). -/
def backupOut (s : State) : State :=
  if !s.backupOn then s
  else (((List.range 4).filter (fun n => bit (s.reg Obj.backupSinks) n)).foldl (fun s n => s.emit (.pin U.aud (0x100 + n) (s.lineSample n 0))) s).tick

/-- Streams of a domain at one sample (R352 to R354): endpoint streams move between memory and the slots of their port. -/
def playStreams (s : State) (d : Nat) : State :=
  let s := (List.range 32).foldl (fun s t =>
    if s.reg (Obj.streamWorld t) = 0xFF ∨ s.reg (Obj.streamDomain t) ≠ d then s else s.audDue t) s
  (s.running d 0).foldl (fun s t =>
    let s := s.playStep t
    let p := s.reg (Obj.streamEndpoint t)
    if p = 0xFF ∨ !s.holdsBlock (s.reg (Obj.streamWorld t)) (U.tdm p) then s
    else (List.range (s.reg (Obj.streamChannels t))).foldl (fun s c => s.emit (.pin (U.tdm p) c ((s.num (Num.audNow t)).getD c 0))) s) s

/-- Capture streams of a domain at one sample. -/
def captureStreams (s : State) (d : Nat) (ins : List (Nat × Nat)) : State :=
  (s.running d 1).foldl (fun s t =>
    let p := s.reg (Obj.streamEndpoint t)
    s.captureStep t ((List.range (s.reg (Obj.streamChannels t))).map (fun c =>
      if p = 0xFF then s.busOut (s.reg (Obj.streamFirst t) + c)
      else if s.holdsBlock (s.reg (Obj.streamWorld t)) (U.tdm p) then ofSigned 4 (inSample ins 2 p c) else 0))) s

/-- Meters of the sources of a domain, after trim (R347). -/
def sourceMeters (s : State) (d : Nat) (ins : List (Nat × Nat)) : State :=
  (List.range 252).foldl (fun s j =>
    let e := s.reg (Obj.sourceTable j)
    if Aud.kind e = 0 ∨ Aud.dom e ≠ d then s else s.meterNote 0 j (Aud.amp (s.sourceSample ins j) (s.trimNow j))) s

/-- The whole graph of domain `d` for one sample (R341). One free value serves the whole sample. -/
def graph (s : State) (d : Nat) (ins : List (Nat × Nat)) (late : Bool) : State :=
  let whole := s.audWhole
  let s := if whole then s.playStreams d else s
  let bs := (List.range 64).filter (fun b => s.reg (Obj.busDomain b) == d && (whole || s.reg (Obj.alarmBus b) == 1))
  let s := bs.foldl (busStep ins d late) s
  let s := s.sourceMeters d ins
  let s := if d = 0 then s.sinksOut else s
  let s := if whole then s.captureStreams d ins else s
  let s := s.tick
  if late ∧ (s.reg Reg.engineLateAt = 0 ∨ s.reg Reg.engineLateAt - 1 + 1000000000 ≤ s.now) then
    (s.setReg Reg.engineLateAt (s.now + 1)).raise [.hal, .owner] U.aud St.audEngineLate 0xFF 3 [(1, d)]
  else s

/-! Meters. -/

/-- 0.01 dBFS of an amount, at least -120 dBFS; full scale is 2^31 (R347). -/
def meterDb (a : Nat) : Int := if a = 0 then -12000 else if a = 2 ^ 31 then 0 else max (-12000) (Config.dbfs a)

/-- Update one meter held in object `key` (R347). -/
def meterSet (s : State) (key k j holdMs : Nat) : State :=
  let old := s.reg key
  let peak := meterDb (s.reg (Reg.meterPeak k j))
  let hold := if s.reg (Reg.meterHoldAt k j) = 0 then -12000 else toSigned 2 (old / 2 ^ 16)
  let up := decide (hold < peak) || s.reg (Reg.meterHoldAt k j) == 0 || decide (s.reg (Reg.meterHoldAt k j) - 1 + 1000000 * holdMs ≤ s.now)
  let hist := ([s.reg (Reg.meterSum k j), s.reg (Reg.meterCount k j)] ++ s.num (Num.meterHist k j)).take 60
  let sums := (hist.zipIdx.filter (fun x => x.2 % 2 == 0)).foldl (fun a x => a + x.1) 0
  let cnt := (hist.zipIdx.filter (fun x => x.2 % 2 == 1)).foldl (fun a x => a + x.1) 0
  let rms := meterDb (Nat.sqrt (sums / max 1 cnt))
  let h := if up then peak else hold
  ((s.setNum (Num.meterHist k j) hist).setRegs [(Reg.meterPeak k j, 0), (Reg.meterSum k j, 0), (Reg.meterCount k j, 0)]).setRegs
    [(key, ofSigned 2 peak + 2 ^ 16 * ofSigned 2 h + 2 ^ 32 * ofSigned 2 rms + 2 ^ 48 * (old / 2 ^ 48)),
     (Reg.meterHoldAt k j, if up then s.now + 1 else s.reg (Reg.meterHoldAt k j))]

/-! Ring 5. -/

/-- A ring 5 packet on a stream (R351): a stream above 31 or a set reserved bit stops the ring; a stream the world does not hold is skipped with
NOT_OWNER; a buffer direction that differs stops the ring; where the journal takes no item any more the packet is refused (R488). -/
def audPacket (s : State) (i op : Nat) (f : State → Pkt → Nat → State) : State :=
  s.onPacket i 5 op (fun s p =>
    let t := p.word 0
    if 31 < t then s.stopRing i 5 St.audPacketInvalid
    else if s.reg (Obj.streamWorld t) ≠ s.instWorld i then (s.raise [.inst i] U.aud St.notOwner (s.instWorld i) 2 [(1, t)]).ringDone i 5 p
    else if (op = 0x70 ∧ s.reg (Obj.streamDir t) ≠ 0) ∨ (op = 0x71 ∧ s.reg (Obj.streamDir t) ≠ 1) then s.stopRing i 5 St.audPacketInvalid
    else if !s.mayTake true then
      if s.jnlFull then (s.raise [.inst i] U.aud St.limitReached (s.instWorld i) 2 [(1, t)]).ringDone i 5 p else s.jnlWait true true
    else f (s.setReg (Reg.streamInst t) (i + 1)) p t)

/-- A buffer packet queues a buffer; with 64 queued the ring waits (R351). -/
def audBuffer (s : State) (i op : Nat) : State :=
  s.audPacket i op (fun s p t =>
    if 64 ≤ (s.bufs t).length then s
    else
      let seq := s.jnlSeq
      let s := (s.itemAccept U.aud (s.instWorld i) i 5 (s.reg (Reg.ringRptr i 5)) op classD 0 []).itemFence seq (p.dword 4) (p.dword 6)
      (s.setBufs t (s.bufs t ++ [⟨p.dword 2, p.word 1, 0, 0, p.dword 4, p.dword 6, i, seq⟩])).ringDone i 5 p)

/-- A packet whose effect is complete when it is taken. -/
def audInstant (s : State) (i op : Nat) (p : Pkt) (f : State → State) : State :=
  let seq := s.jnlSeq
  let s := f (s.itemAccept U.aud (s.instWorld i) i 5 (s.reg (Reg.ringRptr i 5)) op classD 0 [])
  (s.itemEndSeq seq St.ok).ringDone i 5 p

end State
end Sys2Proof.Machine
end

