-- ==== Sys2Proof/Machine/Audio.lean ====
section
/-!
DEFINITION. Machine/Audio.lean: the commands of the audio unit (chapter 14).
-/
namespace Sys2Proof.Machine

/-- What an M sample does before its graph (R341, R346, R352 to R361): commits of audio objects apply, then the voices, the alarm path, the tones and the
duck gain move, and the sample is counted. -/
def State.mSample (s : State) : State :=
  let s := if !s.audRuns then s
    else ((((s.setReg Obj.sampleCount ((s.reg Obj.sampleCount + 1) % 2 ^ 64)).boundary 0x300).voices).alarmPath)
  let s := (s.tonesDerive).duckTurn
  let s := if s.audRuns then s.count 432 1 else s
  if s.audRuns then s.count 439 (b2n s.voicesOn) else s

/-- SAMPLE_INSTANT (R341 to R346, R352 to R361): one sample of domain `d`. At an M sample commits of audio objects apply first, and the voices,
the alarm path and the duck gain move; then the graph of the domain is computed whole. -/
def execSampleInstant (d : Nat) (ins : List (Nat × Nat)) (late : Bool) (s : State) : Host.Outcome State Fault Refusal :=
  s.whenUp (fun s =>
    .next (if 2 < d then s
      else if s.reg (Reg.portReset U.aud) = 1 then (if d = 0 then s.backupOut else s)
      else if d = 0 then
        let s := s.mSample
        if s.audRuns then s.graph 0 ins late else s.backupOut
      else if s.audRuns then
        let s := s.count (432 + d) 1
        if s.audRuns && s.audWhole then s.graph d ins late else s
      else s))

/-- METER_UPDATE (R347): the meters of every source and bus. -/
def execMeterUpdate (s : State) : Host.Outcome State Fault Refusal :=
  s.whenUp (fun s =>
    .next (if !s.audRuns then s
      else
        let s := (List.range 252).foldl (fun s j => s.meterSet (Obj.sourceMeters j) 0 j (s.reg Obj.sourceHoldMs)) s
        (List.range 64).foldl (fun s b => s.meterSet (Obj.busMeter b) 1 b (s.reg (Obj.holdMs b))) s))

/-- BACKUP_TONE_SWITCH (R360): after 250 ms the backup tone changes between 800 and 1,000 Hz. -/
def execBackupToneSwitch (s : State) : Host.Outcome State Fault Refusal :=
  s.whenUp (fun s =>
    let s := s.tonesDerive
    .next (if s.reg Reg.backupAt = 0 ∨ s.now < s.reg Reg.backupAt - 1 + 250000000 then s
      else s.setRegs [(Reg.backupHz, 1 - s.reg Reg.backupHz), (Reg.backupAt, s.now + 1)]))

/-- AUD_BRIDGE_LOCKED (R349): bridge `k` locks at a ratio between 1/6 and 6. -/
def execAudBridgeLocked (k ratio : Nat) (s : State) : Host.Outcome State Fault Refusal :=
  s.whenUp (fun s =>
    .next (if 3 < k ∨ s.reg (Obj.bridgeState k) ≠ 1 ∨ 6 * 2 ^ 24 < ratio ∨ 6 * ratio < 2 ^ 24 ∨ !s.audWhole ∨ !s.audRuns then s
      else (s.setRegs [(Obj.bridgeState k, 2), (Obj.bridgeRatio k, ratio)]).raise [.hal, .owner] U.aud St.audBridgeLocked 0xFF 1 [(1, k)]))

/-- AUD_BRIDGE_UNLOCKED (R349): the input of bridge `k` stops or moves; its outputs ramp to silence. -/
def execAudBridgeUnlocked (k : Nat) (s : State) : Host.Outcome State Fault Refusal :=
  s.whenUp (fun s =>
    .next (if 3 < k ∨ s.reg (Obj.bridgeState k) ≠ 2 then s
      else (((s.setRegs [(Obj.bridgeState k, 1), (Reg.bridgeOffAt k, s.now + 1)]).bump (Obj.unlocks k) 32).count 438 1).raise [.hal, .owner] U.aud
        St.audBridgeUnlocked 0xFF 2 [(1, k)]))

/-- AUDIO_PLAY (R351, R353). -/
def execAudioPlay (i : Nat) (s : State) : Host.Outcome State Fault Refusal :=
  s.whenUp (fun s =>
    .next (s.audBuffer i 0x70))

/-- AUDIO_CAPTURE (R351, R353). -/
def execAudioCapture (i : Nat) (s : State) : Host.Outcome State Fault Refusal :=
  s.whenUp (fun s =>
    .next (s.audBuffer i 0x71))

/-- AUDIO_START (R352): the stream starts at the first sample at or after a hoist time, 0 for at once. -/
def execAudioStart (i : Nat) (s : State) : Host.Outcome State Fault Refusal :=
  s.whenUp (fun s =>
    .next (s.audPacket i 0x72 (fun s p t => s.audInstant i 0x72 p (fun s => s.setReg (Reg.audStart t) (max s.now (p.dword 1) + 1)))))

/-- AUDIO_STOP (R352): a running stream ramps to silence over 2 ms and completes its buffers; a stopped one completes them at once. -/
def execAudioStop (i : Nat) (s : State) : Host.Outcome State Fault Refusal :=
  s.whenUp (fun s =>
    .next (s.audPacket i 0x73 (fun s p t => s.audInstant i 0x73 p (fun s =>
      let s := s.setReg (Reg.audStart t) 0
      if s.reg (Obj.streamState t) < 2 then s.audStopped t
      else if s.reg (Reg.audStop t) = 0 then s.setReg (Reg.audStop t) (s.now + 1) else s))))

/-- AUDIO_BUFFER_DONE (R351): the first buffer of a stream, all its frames passed, signals its fence and leaves; a ring that waited for room goes on. -/
def execAudioBufferDone (t : Nat) (s : State) : Host.Outcome State Fault Refusal :=
  s.whenUp (fun s =>
    .next (match s.bufs t with
      | b :: bs => if b.passed < b.frames then s else (s.setBufs t bs).bufComplete b
      | [] => s))

/-- AUD_TDM_CLOCK_LOST (R355): the external clock of a target-mode port is absent or out of range. -/
def execAudTdmClockLost (p : Nat) (s : State) : Host.Outcome State Fault Refusal :=
  s.whenUp (fun s =>
    .next (if 7 < p ∨ s.reg (Obj.tdmMode p) ≠ 2 ∨ s.reg (Obj.tdmState p) ≠ 1 then s
      else (s.setReg (Obj.tdmState p) 2).raise [.hal, s.blockDest (U.tdm p)] (U.tdm p) St.audTdmClockLost 0xFF 2 []))

/-- TDM_CLOCK_RESUME (R355): 16 good frames have arrived. -/
def execTdmClockResume (p : Nat) (s : State) : Host.Outcome State Fault Refusal :=
  s.whenUp (fun s =>
    .next (if 7 < p ∨ s.reg (Obj.tdmMode p) ≠ 2 ∨ s.reg (Obj.tdmState p) ≠ 2 then s else s.setReg (Obj.tdmState p) 1))

end Sys2Proof.Machine
end

