-- ==== Sys2Proof/Machine/Bunting.lean ====
section
/-!
DEFINITION. Machine/Bunting.lean: composition packets and commit lines (chapters 9 and 10): flip groups, the commit line of a head with everything
that happens at it, frame lock, Stratus mode.
-/
namespace Sys2Proof.Machine

/-! Rectangles of a Stratus head that changed and are not yet sent. -/
namespace Num
/-- Four numbers for each rectangle: x, y, width, height. -/
abbrev suRects (n : Nat) : Nat := 0x7100000000 + n
end Num

/-! Parts of a commit line. -/
namespace Line

/-- The head fetches its layers (R241, R260, R270). -/
def fetches (s : State) (n : Nat) : Bool :=
  s.headLit n && s.reg (Obj.headBlanked n) == 0 && s.reg (Obj.stratusState n) != 2

/-- Ports trained since the last line light (R267). -/
def light (s : State) (n : Nat) : State :=
  (Head.portsOf s.reg n).foldl (fun s p => if s.reg (Reg.litNext p) = 1 then s.portLight p else s) s

/-- The flattened surface whose frame this line opens, or a late one (R215, R216). -/
def flatten (s : State) (n : Nat) : State :=
  if s.reg (Reg.flatNext n) = 0 then s
  else if s.reg (Reg.flatLate n) = 1 ∨ State.serialLe (s.reg (Reg.flatNextFrame n)) (s.reg (Obj.headFrame n)) then
    s.setRegs [(Reg.flatSurface n, s.reg (Reg.flatNext n)), (Obj.flattenLastFrame n, s.reg (Obj.headFrame n)), (Reg.flatNext n, 0), (Reg.flatLate n, 0)]
    |>.setNum (Num.flatShown n) (s.num (Num.flatNextShown n))
  else s

/-- A head that fetches nothing signals the release fences of replaced surfaces at the line that replaces them (R260). -/
def releases (s : State) (n : Nat) : State :=
  if fetches s n then s
  else (List.range 8).foldl (fun s l =>
    if s.reg (Reg.oldRelease n l) = 0 then s
    else (s.signalFence (s.reg (Reg.oldReleaseInst n l)) 4 (s.reg (Reg.oldRelease n l) - 1) (s.reg (Reg.oldReleaseVal n l))).setReg
      (Reg.oldRelease n l) 0) s

/-- Layers fed by receivers show the newest complete frame, or the last one again (R282, R283). -/
def receivers (s : State) (n : Nat) : State :=
  (List.range 8).foldl (fun s x =>
    match s.rxLayer x with
    | some (m, _) =>
      if m ≠ n then s
      else if s.reg (Reg.rxFrame x) = 1 then
        let s := s.setRegs [(Reg.rxShown x, s.reg (Reg.rxBuf x)), (Reg.rxFrame x, 0), (Reg.rxBlack x, 0)]
        if s.reg (Reg.rxLost x) = 1 then (s.setRegs [(Reg.rxLost x, 0), (Reg.rxHoldDue x, 0)]).rxEvent x St.rxSignalBack 1 [] else s
      else if s.reg (Obj.rxState x) = 2 then s.bump (Obj.rxFramesRepeated x) 32 else s
    | none => s) s

/-- Layers fed from other devices show the newest buffer whose last byte has arrived (R468). -/
def feeds (s : State) (n : Nat) : State :=
  (List.range 16).foldl (fun s f =>
    if s.reg (Obj.feedState f) = 0 ∨ s.reg (Obj.feedHead f) ≠ n ∨ s.reg (Reg.feedNew f) = 0 then s
    else (s.setRegs [(Reg.feedShown f, s.reg (Reg.feedNew f)), (Reg.feedNew f, 0), (Reg.feedBlack f, 0)]).bump (Obj.feedFrames f) 32) s

/-- LockState of a head that is pulling or locked, with the error measured at this line (R264). -/
def pull (s : State) (n : Nat) (err : Int) : State :=
  let st := s.reg (Obj.lockState n)
  let near := decide (-100 ≤ err) && decide (err ≤ 100)
  let good := if near then s.reg (Reg.lockGood n) + 1 else 0
  let s := s.setReg (Reg.lockGood n) good
  if st = 2 then
    (if err < -1000 ∨ 1000 < err then (s.setReg (Obj.lockState n) 1).headEvent n St.frameUnlocked 2 [] else s)
  else if 8 ≤ good then (s.setReg (Obj.lockState n) 2).headEvent n St.frameLocked 1 []
  else s.setReg (Obj.lockState n) 1

/-- A lock whose reference is gone holds its trim (R265, R266). -/
def holdover (s : State) (n : Nat) : State :=
  if s.reg (Obj.lockState n) = 3 then s
  else (s.setRegs [(Obj.lockState n, 3), (Reg.lockGood n, 0)]).headEvent n St.lockHoldover 2 []

/-- A trim within 500 ppm that moves by at most 20 ppm, in 0.1 ppm (R264). -/
def trimTo (old want : Int) : Int :=
  let x := if want < old - 200 then old - 200 else if old + 200 < want then old + 200 else want
  if x < -5000 then -5000 else if 5000 < x then 5000 else x

/-- A distance from one of the points of a grid of period `per`, to the nearest of them; `per` 0 or less names no grid. -/
def nearest (d per : Int) : Int :=
  let r := d % per
  if per ≤ 0 then d else if 2 * r ≤ per then r else r - per

/-- The commit line minus the nearest point of the grid of source 1 (R263): LockPhaseNs + k × LockPeriodPs / 1,000 for whole k from 0 up, in whole ns. -/
def gridError (now phase per : Nat) : Int :=
  if now < phase ∨ per = 0 then (now : Int) - phase
  else
    let k := 1000 * (now - phase) / per
    let a := now - phase - k * per / 1000
    let b := (k + 1) * per / 1000 + phase - now
    if a ≤ b then a else -(b : Int)

/-- LockErrorNs at a commit line (R263; log 49): the line minus its target. -/
def lockError (s : State) (n : Nat) : Int :=
  let src := s.reg (Obj.frameLockSource n)
  let led := s.reg (Obj.lockHead n)
  let phase := s.reg (Obj.lockPhaseNs n)
  if src = 1 then gridError s.now phase (s.reg (Obj.lockPeriodPs n))
  else if src = 2 then nearest ((s.now : Int) - (s.reg (Reg.lineAt led) - 1 : Nat) - phase) (Head.periodPs s.reg led / 1000 : Nat)
  else nearest ((s.now : Int) - s.reg (Obj.teLastTime n) - phase) (s.reg (Reg.tePeriod n))

/-- The own lock of a leader has failed (R266; log 49): it is off or in holdover, or its tearing-effect edges are lost. -/
def leaderGone (s : State) (led : Nat) : Bool :=
  s.reg (Obj.portMode led) == 3 || s.reg (Obj.lockState led) == 3 || (s.reg (Obj.frameLockSource led) == 3 && s.reg (Reg.teLost led) == 1)

/-- Frame lock at a commit line (R263 to R266, R275): `trim` is the trim asked for. A head whose tearing-effect edges are lost runs free on its present
trim (log 49). -/
def lock (s : State) (n : Nat) (trim : Int) : State :=
  let src := s.reg (Obj.frameLockSource n)
  let err := lockError s n
  let s' := fun (s : State) => s.setRegs [(Obj.lockErrorNs n, ofSigned 4 err), (Obj.clockTrim n, ofSigned 2 (trimTo (toSigned 2 (s.reg (Obj.clockTrim n))) trim))]
  if src = 0 then s.setRegs [(Obj.lockState n, 0), (Obj.lockErrorNs n, 0), (Reg.lockGood n, 0)]
  else if src = 1 then (if s.locked then pull (s' s) n err else holdover s n)
  else if src = 2 then
    (if leaderGone s (s.reg (Obj.lockHead n)) then holdover s n else pull (s' s) n err)
  else if s.reg (Reg.teLost n) = 1 then s.setRegs [(Obj.lockState n, 0), (Reg.lockGood n, 0)]
  else pull (s' s) n err

/-! Stratus mode (R270 to R273). -/

/-- Every port in use is on an eDP sink that reports self refresh. -/
def selfRefresh (s : State) (n b : Nat) : Bool :=
  (Head.portsOf s.reg n).all (fun p => s.reg (Obj.sinkKind p) == 2 && bit (s.reg (Obj.sinkCaps p)) b)

/-- The conditions of R270 but for idle frames. -/
def mayHold (s : State) (n : Nat) : Bool :=
  s.reg (Obj.stratusEnable n) == 1 && (s.reg (Obj.portMode n) == 0 || s.reg (Obj.portMode n) == 1) && selfRefresh s n 1
    && s.reg (Obj.headState n) == 1 && s.reg (Obj.flattenOn n) == 0 && decide (s.reg (Reg.stratusBan n) ≤ s.now)
    && !(List.range 2).any (fun l => s.reg (Obj.layerEnable n l) == 1 && Head.videoLayer s.reg n l && s.reg (Obj.layerSourceRx n l) != 0xFF)

/-- Rectangles that a line changes: layers flipped, regions swapped; the whole picture where a configuration or the sunlight boost changed. `s0` is
the state before the line. -/
def changes (s0 s : State) (n : Nat) : List Nat :=
  let all := s0.reg (Reg.activeEpoch (U.head n)) != s.reg (Reg.activeEpoch (U.head n)) || s0.reg (Reg.sunK n) != s.reg (Reg.sunK n)
    || s0.reg (Reg.flatSurface n) != s.reg (Reg.flatSurface n)
  if all then [0, 0, s.reg (Obj.hActive n), s.reg (Obj.vActive n)]
  else
    (List.range 8).flatMap (fun l => if s0.reg (Obj.layerActiveFlipEpoch n l) = s.reg (Obj.layerActiveFlipEpoch n l)
        ∧ !(List.range 16).any (fun f => s.reg (Obj.feedHead f) == n && s.reg (Obj.feedLayer f) == l && s0.reg (Obj.feedFrames f) != s.reg (Obj.feedFrames f)) then []
      else [s.reg (Obj.layerDstX n l), s.reg (Obj.layerDstY n l), s.reg (Obj.layerDstW n l), s.reg (Obj.layerDstH n l)])
    ++ (List.range 16).flatMap (fun k => if s0.reg (Reg.regionFront n k) = s.reg (Reg.regionFront n k) then []
      else [s.reg (Obj.regionX n k), s.reg (Obj.regionY n k), s.reg (Obj.regionW n k), s.reg (Obj.regionH n k)])

/-- Groups of four. -/
def quads : Nat → List Nat → List (Nat × Nat × Nat × Nat)
  | k + 1, x :: y :: w :: h :: l => (x, y, w, h) :: quads k l
  | _, _ => []

/-- Insert in rising order without repeats. -/
def insertUp (x : Nat) : List Nat → List Nat
  | [] => [x]
  | y :: l => if x < y then x :: y :: l else if x = y then y :: l else y :: insertUp x l

/-- Pixels that some rectangles cover together. -/
def unionArea (rs : List (Nat × Nat × Nat × Nat)) : Nat :=
  let xs := (rs.flatMap (fun q => [q.1, q.1 + q.2.2.1])).foldr insertUp []
  let ys := (rs.flatMap (fun q => [q.2.1, q.2.1 + q.2.2.2])).foldr insertUp []
  (xs.zip xs.tail).foldl (fun a x => (ys.zip ys.tail).foldl (fun a y =>
    if rs.any (fun q => decide (q.1 ≤ x.1) && decide (x.2 ≤ q.1 + q.2.2.1) && decide (q.2.1 ≤ y.1) && decide (y.2 ≤ q.2.1 + q.2.2.2))
    then a + (x.2 - x.1) * (y.2 - y.1) else a) a) 0

/-- Leave Stratus mode (R271, R273). -/
def stratusExit (s : State) (n reason : Nat) : State :=
  let s := (s.setRegs [(Obj.stratusState n, 0), (Reg.stratusIdle n, 0), (Reg.linkOff n, 0), (Reg.linkWaking n, 0), (Reg.pixelsDue n, 0),
    (Reg.stratusErr n, 0)]).setNum (Num.suRects n) []
  let s := if reason = 2 then s.setReg (Reg.stratusBan n) (s.now + 10000000000) else s
  s.headEvent n St.stratusExit 0 [(1, reason)]

/-- Stratus mode at a commit line that changes the rectangles `ch`. -/
def stratus (s : State) (n : Nat) (ch : List Nat) : State :=
  let st := s.reg (Obj.stratusState n)
  let idle := s.reg (Reg.stratusIdle n)
  let s := s.setReg (Reg.stratusIdle n) (if ch.isEmpty then idle + 1 else 0)
  if st = 0 then
    (if ch.isEmpty ∧ s.reg (Obj.stratusIdleFrames n) ≤ idle ∧ mayHold s n then s.setReg (Obj.stratusState n) 1 else s)
  else if st = 1 then
    (if !ch.isEmpty ∨ !mayHold s n then s.setReg (Obj.stratusState n) 0
     else ((s.setRegs [(Obj.stratusState n, 2), (Reg.linkOff n, s.reg (Obj.stratusLinkOff n)), (Reg.linkWaking n, 0), (Reg.pixelsDue n, 0)]).bump
      (Obj.stratusEntries n) 32).headEvent n St.stratusEnter 0 [])
  else if s.reg (Reg.stratusErr n) = 1 then stratusExit s n 2
  else if s.reg (Obj.headState n) ≠ 1 then stratusExit s n 1
  else
    let due := s.num (Num.suRects n) ++ ch
    if due.isEmpty then s.count (286 + 8 * n) 1
    else if s.reg (Reg.linkOff n) = 1 then (s.setRegs [(Reg.linkWaking n, 1), (Reg.pixelsDue n, 1)]).setNum (Num.suRects n) due
    else if selfRefresh s n 2 ∧ s.reg (Obj.stratusSuMaxPct n) ≠ 0
        ∧ 100 * unionArea (quads due.length due) ≤ s.reg (Obj.stratusSuMaxPct n) * s.reg (Obj.hActive n) * s.reg (Obj.vActive n) then
      ((s.count (287 + 8 * n) 1).setRegs [(Reg.linkOff n, s.reg (Obj.stratusLinkOff n)), (Reg.linkWaking n, 0), (Reg.pixelsDue n, 0)]).setNum (Num.suRects n) []
    else stratusExit s n 1

end Line

/-- The composition part of a commit line: configuration first (R233), then ready flip groups, the flattened surface, receivers, the Ensign plane, the
sunlight boost, blanking. -/
def State.linePixels (s : State) (n : Nat) : State :=
  let s := s.boundary (0x100 + n)
  let s := Line.light s n
  let s := s.setRegs [(Obj.headBlanked n, s.reg (Reg.blankWant n)), (Obj.scalerQuality n, s.reg Reg.shedTaps)]
  let s := (List.range 8).foldl (fun s l => s.setReg (Reg.layerMeta n l) 0) s
  let s := (List.range 64).foldl (fun s w => s.flipLine n w) s
  let s := Line.releases (Line.feeds (Line.receivers (Line.flatten s n) n) n) n
  let s := (List.range 8).foldl (fun s p => if s.reg (Obj.portHead p) = n then s.contactCheck p else s) s
  (s.sunStep n).ensignLine n

/-- HEAD_COMMIT_LINE (R259, R260): `trim` is the trim in 0.1 ppm that the timing generator asks for. -/
def execHeadCommitLine (n : Nat) (trim : Int) (s : State) : Host.Outcome State Fault Refusal :=
  s.whenUp (fun s =>
    .next (if 8 ≤ n ∨ s.reg (Obj.portMode n) = 3 ∨ s.reg (Reg.portReset (U.head n)) = 1 ∨ s.holdupStopped (U.head n) then s
      else
        let s := ((s.bump (Obj.headFrame n) 32).setReg (Reg.lineAt n) (s.now + 1)).count (280 + 8 * n) 1
        let s := s.count (347 + 4 * n) ((List.range 16).countP (fun k => s.reg (Obj.sigRegionKind n k) != 0 && s.reg (Obj.sigRegionCheck n k) == 4))
        let s' := s.linePixels n
        if s'.reg (Obj.portMode n) = 3 then s'
        else Line.stratus (Line.lock s' n trim) n (Line.changes s s' n)))

/-- FLIP_LAYER (R228): the flip joins its head's group in place of an earlier one for the same layer. -/
def execFlipLayer (i : Nat) (s : State) : Host.Outcome State Fault Refusal :=
  s.whenUp (fun s =>
    .next (s.onPacket i 4 0x50 (fun s p =>
      let n := bits (p.word 0) 0 8
      let l := bits (p.word 0) 8 8
      if 7 < n ∨ 0x10000 ≤ p.word 0 then s.stopRing i 4 St.compPacketInvalid
      else
        let b := Flip.mk l (p.dword 1) (p.dword 3) (p.dword 5) (p.dword 7) (p.dword 9)
        (s.setFifo (Fifo.flipOpen i n) ((s.fifo (Fifo.flipOpen i n)).filter (fun x => Flip.layer x != l) ++ [b])).ringDone i 4 p)))

/-- FLIP_COMMIT (R229, R231): the group is checked whole; an accepted one takes an epoch and replaces a pending one. -/
def execFlipCommit (i : Nat) (s : State) : Host.Outcome State Fault Refusal :=
  s.whenUp (fun s =>
    .next (s.onPacket i 4 0x51 (fun s p =>
      let n := p.word 0
      let w := s.instWorld i
      if 7 < n then s.stopRing i 4 St.compPacketInvalid
      else
        let g := s.fifo (Fifo.flipOpen i n)
        let s := s.setFifo (Fifo.flipOpen i n) []
        if g.isEmpty then s.ringDone i 4 p
        else match s.flipRefusal i n g with
          | some (l, reason) => (s.flipRefuse i n g l reason 0).ringDone i 4 p
          | none =>
            let s := s.takeEpoch
            let ep := s.reg Obj.lastEpoch
            let s := s.flipDrop w n St.commitSuperseded 1 [(4, s.reg (Reg.flipEpoch w n)), (4, ep)]
            let s := (s.setFifo (Fifo.flipPend w n) g).setRegs [(Reg.flipEpoch w n, ep), (Reg.flipAt w n, s.now), (Reg.flipInst w n, i)]
            (s.wakeLink n).ringDone i 4 p)))

/-- FLIP_CANCEL (R231). -/
def execFlipCancel (i : Nat) (s : State) : Host.Outcome State Fault Refusal :=
  s.whenUp (fun s =>
    .next (s.onPacket i 4 0x52 (fun s p =>
      let n := p.word 0
      let w := s.instWorld i
      if 7 < n then s.stopRing i 4 St.compPacketInvalid
      else (s.flipDrop w n St.commitCancelled 1 [(4, s.reg (Reg.flipEpoch w n))]).ringDone i 4 p)))

/-- ACQUIRE_TIMEOUT (R230): the pending group of world `w` on head `n` is dropped when AcquireTimeoutMs has passed since its acceptance. -/
def execAcquireTimeout (w n : Nat) (s : State) : Host.Outcome State Fault Refusal :=
  s.whenUp (fun s =>
    .next (if s.reg (Reg.flipEpoch w n) = 0 ∨ s.reg (Obj.acquireTimeoutMs n) = 0 ∨ s.now < s.reg (Reg.flipAt w n) + 1000000 * s.reg (Obj.acquireTimeoutMs n) then s
      else s.flipDrop w n St.commitVoid 2 [(4, s.reg (Reg.flipEpoch w n)), (2, St.acquireTimeout), (1, 1)]))

/-- LAST_FETCH_COMPLETE (R232): the last fetch from the surface that layer `l` of head `n` showed before has completed. -/
def execLastFetchComplete (n l : Nat) (s : State) : Host.Outcome State Fault Refusal :=
  s.whenUp (fun s =>
    .next (if s.reg (Reg.oldRelease n l) = 0 then s
      else (s.signalFence (s.reg (Reg.oldReleaseInst n l)) 4 (s.reg (Reg.oldRelease n l) - 1) (s.reg (Reg.oldReleaseVal n l))).setReg
        (Reg.oldRelease n l) 0))

end Sys2Proof.Machine
end

