-- ==== Sys2Proof/Machine/ChkOps.lean ====
section
/-!
DEFINITION. Machine/ChkOps.lean: the check units (R383 to R389): the CRC, records and alive counters, compares and their events.
-/
namespace Sys2Proof.Machine

namespace Chk

/-- A value of `w` bits with its bits in reverse order. -/
def reflect : Nat → Nat → Nat
  | 0, _ => 0
  | w + 1, v => (v % 2) * 2 ^ w + reflect w (v / 2)

/-- One shift of a raw register of `w` bits with polynomial `poly`. -/
def shift (w poly c : Nat) : Nat :=
  let d := c * 2 % 2 ^ w
  if bit c (w - 1) then d ^^^ poly else d

/-- `k` shifts. -/
def shifts (w poly : Nat) : Nat → Nat → Nat
  | 0, c => c
  | k + 1, c => shifts w poly k (shift w poly c)

/-- Feed one byte (R383). -/
def feed (w poly : Nat) (refIn : Bool) (c b : Nat) : Nat :=
  shifts w poly 8 (c ^^^ ((if refIn then reflect 8 b else b) * 2 ^ (w - 8)))

/-- The polynomial for W = 64 (ECMA-182). -/
abbrev ecma : Nat := 0x42F0E1EBA9EA3693

/-- Polynomial in use. -/
def polyOf (w p : Nat) : Nat := if w = 64 then ecma else p % 2 ^ w

/-- The result of a raw register. -/
def result (w : Nat) (refOut : Bool) (xor c : Nat) : Nat := (if refOut then reflect w c else c) ^^^ (xor % 2 ^ w)

/-- Step from the last accepted alive value (R388): 1 to 2^w. -/
def aliveStep (w v p : Nat) : Nat := (v + 2 * 2 ^ w - p - 1) % 2 ^ w + 1

end Chk

namespace State

/-- Width of the CRC of unit `u`. -/
def chkWidth (s : State) (u : Nat) : Nat := s.reg (Obj.chkCrcWidth u)

/-- Result of unit `u` from a raw register. -/
def chkResultOf (s : State) (u c : Nat) : Nat := Chk.result (s.chkWidth u) (bit (s.reg (Obj.chkReflect u)) 1) (s.reg (Obj.chkXorOut u)) c

/-- Result follows RunningValue, Reflect and XorOut. -/
def chkDerive (s : State) (u : Nat) : State := s.setReg (Obj.chkResult u) (s.chkResultOf u (s.reg (Obj.chkRunningValue u)))

/-- Raw register of unit `u` after some bytes. -/
def chkFeedFrom (s : State) (u c : Nat) (d : Bytes) : Nat :=
  let w := s.chkWidth u
  d.foldl (fun c b => Chk.feed w (Chk.polyOf w (s.reg (Obj.chkPoly u))) (bit (s.reg (Obj.chkReflect u)) 0) c b.toNat) c

/-- Set RunningValue. -/
def chkSet (s : State) (u c : Nat) : State := (s.setReg (Obj.chkRunningValue u) c).chkDerive u

/-- Restart at Init. -/
def chkRestart (s : State) (u : Nat) : State := s.chkSet u (s.reg (Obj.chkInit u) % 2 ^ s.chkWidth u)

/-- Feed bytes to unit `u` (R384). -/
def chkFeed (s : State) (u : Nat) (d : Bytes) : State := s.chkSet u (s.chkFeedFrom u (s.reg (Obj.chkRunningValue u)) d)

/-- A check unit tells the core that feeds it (R389): kind 1 match, 2 mismatch, 3 CRC failed, 4 alive gap, 5 alive repeat, 6 record short. -/
def chkTell (s : State) (u kind : Nat) : State :=
  let f := s.reg (Obj.chkFeedSource u)
  if f < 32 then s.coreEvent f 13 (16 * u + kind) else s

/-- Alive stream of a tag: the slot it uses, or the first free one; none when eight other tags use them. -/
def chkSlot (s : State) (u tag : Nat) : Option Nat :=
  match (List.range 8).find? (fun k => s.reg (Reg.chkStream u k) == tag + 1) with
  | some k => some k
  | none => (List.range 8).find? (fun k => s.reg (Reg.chkStream u k) == 0)

/-- Last accepted value of stream `k`. -/
def aliveLast (s : State) (u k : Nat) : Nat := bits (s.reg (Obj.chkLastAlive u)) (8 * k) 8

/-- The alive checker on a value `v` of `w` bits (R388): status and state. -/
def aliveCheck (s : State) (u tag w v : Nat) : State × Nat :=
  match s.chkSlot u tag with
  | none => (s, St.limitReached)
  | some k =>
    let p := s.aliveLast u k
    let d := Chk.aliveStep w v p
    let take := s.setRegs [(Reg.chkStream u k, tag + 1), (Reg.chkLast u k, 1),
      (Obj.chkLastAlive u, s.reg (Obj.chkLastAlive u) - p * 256 ^ k + v * 256 ^ k)]
    if s.reg (Reg.chkLast u k) = 0 then (take, St.ok)
    else if d ≤ s.reg (Obj.chkAliveGap u) then (take, St.ok)
    else if d = 2 ^ w then (s, St.chkAliveRepeat)
    else (s, St.chkAliveGap)

/-- Alive value of a record: bits AliveBit up to its width (R388). -/
def aliveValue (s : State) (u : Nat) (d : Bytes) : Nat := bits (leNat d) (s.reg (Obj.chkAliveBit u)) (s.reg (Obj.chkAliveWidth u))

/-- CRC field of a record as a number (CrcOffset, CrcOrder). -/
def chkField (s : State) (u : Nat) (d : Bytes) : Nat :=
  let b := (d.drop (s.reg (Obj.chkCrcOffset u))).take (s.chkWidth u / 8)
  if s.reg (Obj.chkCrcOrder u) = 0 then leNat b else leNat b.reverse

/-- Steps of one record before its counts (R387): status and state. -/
def chkRecordStep (s : State) (u tag : Nat) (d : Bytes) : State × Nat :=
  let n := s.chkWidth u / 8
  let off := s.reg (Obj.chkCrcOffset u)
  let w := s.reg (Obj.chkAliveWidth u)
  if d.length < off + n ∨ (w ≠ 0 ∧ 8 * d.length < s.reg (Obj.chkAliveBit u) + w) then (s, St.chkRecordShort)
  else
    let s := (s.chkRestart u).chkFeed u (d.take off ++ d.drop (off + n))
    if s.reg (Obj.chkResult u) ≠ s.chkField u d then (s, St.chkCrcFail)
    else if w = 0 then (s, St.ok)
    else s.aliveCheck u tag w (s.aliveValue u d)

/-- Kind that an event to a core carries for the status of a record. -/
def chkKind (st : Nat) : Nat :=
  if st = St.ok then 1 else if st = St.chkCrcFail then 3 else if st = St.chkAliveRepeat then 5 else if st = St.chkRecordShort then 6 else 4

/-- One record (R387 to R389): counts, the event to a feeding core, and the answer. -/
def chkRecord (s : State) (u tag : Nat) (d : Bytes) : State × Nat :=
  let (s, st) := s.chkRecordStep u tag d
  let s := (s.bump (Obj.chkRecords u) 32).count (472 + u) 1
  let s := if st = St.ok then s else s.bump (Obj.chkFails u) 32
  (s.chkTell u (chkKind st), st)

/-- Every alive stream of a unit returns to its first state (R388). -/
def aliveResync (s : State) (u : Nat) : State :=
  (List.range 8).foldl (fun s k => s.setRegs [(Reg.chkStream u k, 0), (Reg.chkLast u k, 0)]) s

/-- The stream of one tag returns to its first state (R63, R388). -/
def aliveForget (s : State) (u tag : Nat) : State :=
  (List.range 8).foldl (fun s k => if s.reg (Reg.chkStream u k) = tag + 1 then s.setRegs [(Reg.chkStream u k, 0), (Reg.chkLast u k, 0)] else s) s

/-- A feed of session bytes or of a core's element in stream mode, and of a whole record in record mode (R386, R387). -/
def chkDeliver (s : State) (u tag : Nat) (d : Bytes) : State × Nat :=
  if s.reg (Obj.chkRecordMode u) = 0 then (s.chkFeed u d, St.ok) else s.chkRecord u tag d

end State
end Sys2Proof.Machine
end

