-- ==== Sys2Proof/Machine/CanBase.lean ====
section
/-!
DEFINITION. Machine/CanBase.lean: raw access to CAN FD ports (R65, R66): frames, filters, the receive FIFO and the transmit queue that sessions and owner
cores share.
-/
namespace Sys2Proof.Machine

namespace Can

/-- Payload lengths that a DLC encodes (table Raw frame record). -/
def lenOk (n : Nat) : Bool := decide (n ≤ 8) || [12, 16, 20, 24, 32, 48, 64].contains n

/-- FLAGS of a raw record. -/
def flags (r : Bytes) : Nat := bytesAt r 12 1
/-- LEN of a raw record. -/
def len (r : Bytes) : Nat := bytesAt r 13 1
/-- ID of a raw record. -/
def ident (r : Bytes) : Nat := bytesAt r 8 4

/-- A record that RawTx refuses with VALUE_RANGE (R66). -/
def txBad (r : Bytes) : Bool :=
  !lenOk (len r) || (decide (8 < len r) && !bit (flags r) 0) || (bit (flags r) 1 && !bit (flags r) 0) || (bit (flags r) 2 && bit (flags r) 0)

/-- A raw record from its fields. -/
def rec' (time id fl n : Nat) (data : Bytes) : Bytes := record [(8, time), (4, id), (1, fl), (1, n), (2, 0)] ++ padTo 64 data

end Can

namespace State

/-- Raw access serves the port: a world other than 0 holds it (R65). -/
def rawServes (s : State) (p : Nat) : Bool :=
  s.reg (Reg.blockHolder (U.can p)) != 0 && decide (s.reg (Reg.blockState (U.can p)) < 2)

/-- A rate equals 80 MHz over a prescaler of 1 to 32 and 8 to 80 time quanta (R65). -/
def rawRateOk (r : Nat) : Bool :=
  (List.range 32).any (fun a => r * (a + 1) != 0 && 80000000 % (r * (a + 1)) == 0 && decide (8 ≤ 80000000 / (r * (a + 1)))
    && decide (80000000 / (r * (a + 1)) ≤ 80))

/-- RawTxQueued follows the queue. -/
def rawDerive (s : State) (p : Nat) : State := s.setReg (Obj.rawTxQueued p) (s.fifo (Fifo.rawTx p)).length

/-- Queue records for sending, all or none (R66). -/
def rawQueue (s : State) (p : Nat) (rs : List Bytes) : State × Nat :=
  let q := s.fifo (Fifo.rawTx p)
  if s.reg (Obj.rawMode p) = 1 ∨ rs.isEmpty ∨ 16 < rs.length ∨ rs.any Can.txBad then (s, St.valueRange)
  else if 32 < q.length + rs.length then (s, St.canRawTxFull)
  else ((s.setFifo (Fifo.rawTx p) (q ++ rs.map (fun r => padTo 8 [] ++ r.drop 8))).rawDerive p, St.ok)

/-- A received frame passes the filters (R66). -/
def rawPasses (s : State) (p id : Nat) : Bool :=
  let on := (List.range 16).filter (fun j => bit (s.reg (Obj.rawFilter p j)) 31)
  on.isEmpty || on.any (fun j =>
    let f := s.reg (Obj.rawFilter p j)
    let m := f / 2 ^ 32
    bit id 29 == bit f 29 && (bits id 0 29 &&& m) == (bits f 0 29 &&& m))

/-- A frame reaches the receive FIFO, or is counted lost (R66). -/
def rawReceive (s : State) (p : Nat) (r : Bytes) : State :=
  let q := s.fifo (Fifo.rawRx p)
  if !s.rawPasses p (Can.ident r) then s
  else if 64 ≤ q.length then s.bump (Obj.rawRxLost p) 32
  else
    let s := s.setFifo (Fifo.rawRx p) (q ++ [r])
    let last := s.reg (Reg.rawRxLast p)
    if q.isEmpty ∧ (last = 0 ∨ last - 1 + 1000000 ≤ s.now) then
      (s.setReg (Reg.rawRxLast p) (s.now + 1)).raise [s.blockDest (U.can p)] (U.can p) St.canRawRx (s.reg (Reg.blockHolder (U.can p))) 0 []
    else s

/-- Byte at offset `o` of the receive frame in a core's CAN page: ID with bit 31 valid, length, data. -/
def canPageRx (s : State) (p o : Nat) : Nat :=
  match s.fifo (Fifo.rawRx p) with
  | [] => 0
  | r :: _ => bytesAt (record [(4, Can.ident r + 2 ^ 31), (1, Can.len r), (3, 0)] ++ r.drop 16) o 1

/-- The transmit frame that core `n` has written for port `p`, as a raw record; a frame of more than 8 bytes has the FD format. -/
def canPageTx (s : State) (n p : Nat) : Bytes :=
  let b := (List.range 72).map (fun o => BitVec.ofNat 8 (s.reg (Reg.coreCanTx n (256 * p + 0x80 + o))))
  Can.rec' 0 (bytesAt b 0 4 % 2 ^ 30) (if 8 < bytesAt b 4 1 then 1 else 0) (bytesAt b 4 1) ((b.drop 8).take (bytesAt b 4 1))

end State
end Sys2Proof.Machine
end

