-- ==== Sys2Proof/Machine/PenOps.lean ====
section
/-!
DEFINITION. Machine/PenOps.lean: what pennant cores do: issue of an instruction, the core address map, special registers, period boundaries and ticks
(R364 to R375).
-/
namespace Sys2Proof.Machine
namespace State

/-- The core is awake: it executes its program or enters its handler. -/
def coreAwake (s : State) (n : Nat) : Bool :=
  decide (n < 32) && (s.reg (Obj.coreState n) == 1 || s.reg (Obj.coreState n) == 2) && s.reg (Reg.coreWait n) == 0
    && s.reg (Reg.unitState (U.core n)) != 5 && !s.holdupStopped (U.core n) && (decide (n < 30) || s.reg Reg.ensDown == 0)

/-- An event is due: with IE set and an enabled entry queued the core enters its handler before another instruction (R367). -/
def coreEnters (s : State) (n : Nat) : Bool := s.coreIe n && s.coreDue n

/-- The core executes instructions. -/
def coreRuns (s : State) (n : Nat) : Bool := s.coreAwake n && !s.coreEnters n

/-- Register g(r). -/
def g (s : State) (n r : Nat) : Nat := s.reg (Reg.coreG n r)

/-- Write register g(r). -/
def setG (s : State) (n r v : Nat) : State := s.setReg (Reg.coreG n r) (v % 65536)

/-- Instruction times spent (R369, R374). -/
def coreSpend (s : State) (n k : Nat) : State := (s.setReg (Reg.coreInstr n) (s.reg (Reg.coreInstr n) + k)).count (440 + n) k

/-- Continue at an instruction index. -/
def coreGo (s : State) (n pc : Nat) : State := s.setReg (Reg.corePc n) (pc % 4096)

/-- Continue at the next instruction. -/
def coreNext (s : State) (n : Nat) : State := s.coreGo n (s.reg (Reg.corePc n) + 1)

/-- The instruction word at the core's pc. -/
def coreWord (s : State) (n : Nat) : Nat := Pen.word (s.coreImage n) (s.reg (Reg.corePc n))

/-- A core issues the instruction at its pc when it is `o`; `f` carries it out, with the word and one instruction time spent. -/
def coreIssue (s : State) (n : Nat) (o : Pen.Op) (f : State → Nat → State) : State :=
  if s.coreRuns n ∧ Pen.op (s.coreWord n) = some o then f (s.coreSpend n 1) (s.coreWord n) else s

/-- Set flags and continue. -/
def coreFlag (s : State) (n : Nat) (r : Pen.Res) : State :=
  (s.setReg (Reg.coreFlags n) (Pen.flagsAfter (s.reg (Reg.coreFlags n)) r)).coreNext n

/-- An ALU instruction of form 0x0; `keep` marks CMP and TST, which write no register. -/
def coreAlu (s : State) (n : Nat) (o : Pen.Op) (keep : Bool) : State :=
  s.coreIssue n o (fun s w =>
    let r := Pen.alu o (s.g n (Pen.rd w)) (s.g n (Pen.rs w)) (bits (s.reg (Reg.coreFlags n)) 2 1)
    (if keep then s else s.setG n (Pen.rd w) r.val).coreFlag n r)

/-! The core address map. -/

/-- Where an address of a core leads. -/
inductive Place where
  | data | inputs | canRx (p o : Nat) | canTx (p o : Nat) | unit | fault (kind : Nat)
  deriving DecidableEq, Repr

/-- The place of an access of `size` bytes (table Core address map; fault kinds 1 to 3). -/
def corePlace (s : State) (n a size : Nat) : Place :=
  if size = 2 ∧ a % 2 = 1 then .fault 2
  else if a < 0x1000 then .data
  else if !Pen.isOwner n then (if 0x8000 ≤ a ∧ a < 0xC000 then .unit else .fault 1)
  else if 0x8000 ≤ a ∧ a < 0x8004 then .inputs
  else
    let p := (a - 0x9000) / 256
    let o := a % 256
    if a < 0x9000 ∨ 3 < p then .fault 1
    else if ¬ (o < 0x48 ∨ (0x80 ≤ o ∧ o < 0xC8)) then .fault 1
    else if !s.holdsBlock (s.coreWorld n) (U.can p) then .fault 3
    else if o < 0x48 then .canRx p o else .canTx p o

/-- The instruction times that an access to a CAN page or unit window takes beyond the first (R369: at most 16 in all), a free value. -/
def coreSlow (s : State) (n : Nat) : State := (s.coreSpend n (s.fresh % 16)).tick

/-- Read `size` bytes at an address: the state, and the value or the fault's kind. -/
def coreRead (s : State) (n a size : Nat) : State × Except Nat Nat :=
  let join := fun (f : Nat → Nat) => f 0 + (if size = 2 then 256 * f 1 else 0)
  match s.corePlace n a size with
  | .fault k => (s, .error k)
  | .data => (s, .ok (join (fun i => s.reg (Reg.coreMem n (a + i)))))
  | .inputs => (s, .ok (join (fun i => bits (s.reg Obj.ioLevels) (8 * (a + i - 0x8000)) 8)))
  | .canRx p o => (s.coreSlow n, .ok (join (fun i => s.canPageRx p (o + i))))
  | .canTx p o => (s.coreSlow n, .ok (join (fun i => s.reg (Reg.coreCanTx n (256 * p + o + i)))))
  | .unit => ((s.coreSlow n).tick, .ok ((s.coreSlow n).fresh % 256 ^ size))

/-- Write `size` bytes at an address: the state, or the fault's kind. A write to +0x00 of a CAN page releases the received frame; a write to +0x84 queues
the transmit frame. -/
def coreWrite (s : State) (n a size v : Nat) : Except Nat State :=
  let bytes := (List.range size).map (fun i => (i, v / 256 ^ i % 256))
  match s.corePlace n a size with
  | .fault k => .error k
  | .data => .ok (bytes.foldl (fun s b => s.setReg (Reg.coreMem n (a + b.1)) b.2) s)
  | .inputs => .error 3
  | .canRx p o =>
    let s := s.coreSlow n
    .ok (if o = 0 then s.setFifo (Fifo.rawRx p) (s.fifo (Fifo.rawRx p)).tail else s)
  | .canTx p o =>
    let s := bytes.foldl (fun s b => s.setReg (Reg.coreCanTx n (256 * p + o + b.1)) b.2) (s.coreSlow n)
    .ok (if o = 0x84 then (s.rawQueue p [s.canPageTx n p]).1 else s)
  | .unit => .ok (s.coreSlow n)

/-- A load into rd. -/
def coreLoadTo (s : State) (n r a size : Nat) : State :=
  match s.coreRead n a size with
  | (s, .error k) => s.coreFault n k a
  | (s, .ok v) => (s.setG n r v).coreNext n

/-- A store of rd. -/
def coreStoreFrom (s : State) (n r a size : Nat) : State :=
  match s.coreWrite n a size (s.g n r % 256 ^ size) with
  | .error k => s.coreFault n k a
  | .ok s => s.coreNext n

/-! Special registers. -/

/-- MFS: the value read and the state after reading (table Special registers). -/
def specialRead (s : State) (n k : Nat) : Nat × State :=
  let t := k % 4
  if k = 0x00 then (s.reg (Reg.corePc n), s)
  else if k = 0x01 then (s.reg (Reg.coreFlags n), s)
  else if k = 0x02 then (s.reg (Reg.coreEpc n), s)
  else if k = 0x03 then (s.reg (Reg.coreEflags n), s)
  else if k = 0x04 then (s.reg (Reg.coreEvh n), s)
  else if k = 0x05 then ((s.coreQueue n).headD 0, s.setNum (Num.coreQ n) (s.coreQueue n).tail)
  else if k = 0x06 then (s.reg (Reg.coreEvmask n), s)
  else if k = 0x07 then ((s.coreQueue n).length, s)
  else if k = 0x08 then (n, s)
  else if k = 0x09 then (s.coreWorld n, s)
  else if k = 0x0A then (s.reg (Obj.corePeriodCount n) % 65536, s)
  else if k = 0x0B then (s.reg (Reg.coreMbx n), s.setReg (Reg.coreMbxNew n) 0)
  else if k = 0x0C then (s.reg (Obj.coreMailboxOut n), s)
  else if k = 0x0D then (s.reg (Reg.corePeer n), s)
  else if k = 0x0E then (s.reg (Reg.corePeerIn n), s.setReg (Reg.corePeerNew n) 0)
  else if k = 0x0F then (s.now / 1000 % 65536, s)
  else if k < 0x14 then (s.tmrNow n t, s)
  else if k < 0x18 then (s.reg (Reg.coreTmrRl n t), s)
  else if k < 0x1C then (s.reg (Reg.coreTmrCtl n t), s)
  else (s.reg (Reg.coreEdge n (k % 8)), s)

/-- MTS: a write of a special register. A read-only one keeps its value; reserved bits stay zero. -/
def specialWrite (s : State) (n k v : Nat) : State :=
  let t := k % 4
  if k = 0x01 then s.setReg (Reg.coreFlags n) (v % 32)
  else if k = 0x02 then s.setReg (Reg.coreEpc n) (v % 4096)
  else if k = 0x03 then s.setReg (Reg.coreEflags n) (v % 32)
  else if k = 0x04 then s.setReg (Reg.coreEvh n) (v % 4096)
  else if k = 0x06 then s.setReg (Reg.coreEvmask n) v
  else if k = 0x0C then s.setReg (Obj.coreMailboxOut n) v
  else if k = 0x0D then s.setReg (Reg.corePeer n) v
  else if k < 0x10 then s
  else if k < 0x14 then s.setRegs [(Reg.coreTmr n t, v), (Reg.coreTmrAt n t, s.now)]
  else if k < 0x18 then s.setReg (Reg.coreTmrRl n t) v
  else if k < 0x1C then (s.tmrSettle n t).setReg (Reg.coreTmrCtl n t) (v / 4096 * 4096)
  else s.setReg (Reg.coreEdge n (k % 8)) (v / 0x2000 * 0x2000 + v % 256)

/-! Periods. -/

/-- At most one event a second: the register holds the time of the last, plus 1. -/
def oncePerSecond (s : State) (k : Nat) (f : State → State) : State :=
  if s.reg k = 0 ∨ s.reg k - 1 + 1000000000 ≤ s.now then f (s.setReg k (s.now + 1)) else s

/-- A period boundary of core `n` (R372 to R374, R378): its counts, the program goes on behind PWAIT, the trial advances, and commits
apply; a program that an update has installed swaps in (R413). -/
def coreBoundary (s : State) (n : Nat) (late : Bool) : State :=
  let used := s.reg (Reg.coreInstr n)
  let s := s.setRegs [(Obj.corePeakInstr n, max (s.reg (Obj.corePeakInstr n)) used % 2 ^ 32), (Reg.coreInstr n, 0), (Reg.coreTicks n, 0)]
  let s := if Pen.maxInstr (s.coreImage n) < used then s.oncePerSecond (Reg.coreOverAt n) (fun s => s.coreRaise n St.penOverrun 2 [(4, used)]) else s
  let s := s.bump (Obj.corePeriodCount n) 32
  let s := if late then
      (s.bump (Obj.coreLateCount n) 32).oncePerSecond (Reg.coreLateAt n) (fun s => s.coreRaise n St.penPeriodLate 1 [])
    else s
  let s := if s.reg (Reg.coreWait n) = 2 then (s.setReg (Reg.coreWait n) 0).coreNext n else s
  let left := s.reg (Reg.coreTrial n)
  let s := if s.reg (Obj.coreState n) ≠ 2 then s
    else if 1 < left then s.setReg (Reg.coreTrial n) (left - 1)
    else ((s.setRegs [(Reg.coreTrial n, 0), (Obj.coreState n, 1), (bankKey n (s.coreBank n), 3)]).coreRaise n St.penConfirmed 1
      [(1, s.coreBank n), (4, Pen.version (s.coreImage n))]).startPassed (U.core n)
  let s := s.boundary (0x1000 + U.core n)
  if s.reg (Reg.coreBack n) = 1 then s.coreSwap n (1 - s.coreBank n) else s

/-- A period tick of core `n` (R372, R373, R375, R378, R379). -/
def coreTick (s : State) (n : Nat) : State :=
  if 31 < n ∨ s.reg (Reg.unitState (U.core n)) = 5 ∨ s.holdupStopped (U.core n) then s
  else
    let s := s.coreReturn n
    let runs := s.reg (Obj.coreState n) == 1 || s.reg (Obj.coreState n) == 2
    if s.reg (Reg.coreBack n) = 1 ∧ !runs then s.coreSwap n (1 - s.coreBank n)
    else if s.reg (Reg.coreReady n) = 1 then s.setRegs [(Reg.coreReady n, 0), (Obj.coreState n, 1)]
    else if !runs then s
    else if s.reg (Reg.coreWait n) = 2 then s.coreBoundary n false
    else
      let t := s.reg (Reg.coreTicks n) + 1
      let s := s.setReg (Reg.coreTicks n) t
      if t < 4 then s else s.coreFault n 6 0

/-- Sleep in PWAIT; a tick that has already fallen makes the boundary now, late (R372, R373). -/
def corePwait (s : State) (n : Nat) : State :=
  let s := s.setReg (Reg.coreWait n) 2
  if s.reg (Reg.coreTicks n) = 0 then s else s.coreBoundary n true

/-- A block instruction under way performs one more element although an event is due (R371). -/
def coreMore (s : State) (n : Nat) : Bool := s.coreAwake n && s.coreEnters n && s.reg (Reg.coreBlk n) == 1

/-- A block instruction ends. -/
def coreBlockEnd (s : State) (n : Nat) : State := (s.setReg (Reg.coreBlk n) 0).coreNext n

/-- After an element of a block instruction its count falls, and at 0 it ends; `k` is how far the instruction is under way. -/
def coreElement (s : State) (n k : Nat) : State :=
  let s := if s.g n 14 = 0 then s else s.setG n 14 (s.g n 14 - 1)
  if s.g n 14 = 0 then s.coreBlockEnd n else s.setReg (Reg.coreBlk n) k

/-- What a block instruction does in a state where it issues (R370): `f` performs an element and answers the state, or the fault's kind and address. -/
def coreBlockRun (s : State) (n k w : Nat) (f : State → Nat → Except (Nat × Nat) State) : State :=
  if s.g n 14 = 0 then s.coreBlockEnd n
  else match f s w with
    | .error (k, a) => s.coreFault n k a
    | .ok t => t.coreElement n k

/-- One element of a block instruction (R370, R371). -/
def coreBlock (s : State) (n : Nat) (o : Pen.Op) (f : State → Nat → Except (Nat × Nat) State) : State :=
  if s.coreMore n ∧ Pen.op (s.coreWord n) = some o then (s.coreSpend n 1).coreBlockRun n 2 (s.coreWord n) f
  else s.coreIssue n o (fun s w => s.coreBlockRun n 1 w f)

/-- A word read as an element's operand. -/
def elemWord (s : State) (n a : Nat) : Except (Nat × Nat) (State × Nat) :=
  match s.coreRead n a 2 with
  | (_, .error k) => .error (k, a)
  | (s, .ok v) => .ok (s, v)

/-- Bytes fed by one BFEED element. -/
def elemBytes (s : State) (n a size : Nat) : Except (Nat × Nat) (State × Bytes) :=
  if size = 1 then
    match s.coreRead n a 1 with
    | (_, .error k) => .error (k, a)
    | (s, .ok v) => .ok (s, leBytes 1 v)
  else if size = 2 then (s.elemWord n a).map (fun x => (x.1, leBytes 2 x.2))
  else match s.elemWord n a with
    | .error e => .error e
    | .ok (s, lo) => (s.elemWord n ((a + 2) % 65536)).map (fun x => (x.1, leBytes 2 lo ++ leBytes 2 x.2))

/-- Core `n` may feed check unit `u` (R386, fault kind 4). -/
def coreMayFeed (s : State) (n u : Nat) : Bool :=
  s.reg (Obj.chkFeedSource u) == n && (!Pen.isOwner n || s.holdsBlock (s.coreWorld n) (U.check u))

/-- A core delivers bytes to a check unit. In record mode the elements of one BFEED are one record, checked when the count ends (R387). -/
def coreFeed (s : State) (n u : Nat) (d : Bytes) : State :=
  if s.reg (Obj.chkRecordMode u) = 0 then s.chkFeed u d
  else
    let r := s.num (Num.chkRec u) ++ d.map BitVec.toNat
    if 1 < s.g n 14 then s.setNum (Num.chkRec u) r
    else ((s.setNum (Num.chkRec u) []).chkRecord u (0x100 + n) (r.map (BitVec.ofNat 8))).1

end State
end Sys2Proof.Machine
end

