-- ==== Sys2Proof/Machine/Checks.lean ====
section
/-!
DEFINITION. Machine/Checks.lean: what sessions do with check units (R383 to R389): feeds, the running value, settings, compares.
-/
namespace Sys2Proof.Machine

namespace State

/-- A write of FeedData of unit `u` (R386, R387). The answer to a record is its result. -/
def feedWrite (s : State) (u : Nat) (d : Bytes) : State :=
  if s.reg (Obj.chkFeedSource u) ≠ 0xFF then s.reply St.chkFeedDenied
  else if s.reg (Obj.chkRecordMode u) = 1 ∧ (d.length = 0 ∨ 64 < d.length) then s.reply St.valueRange
  else
    let x := s.chkDeliver u 0x200 d
    x.1.reply x.2

/-- A write of RunningValue (R385): feeding goes on from its low W bits. -/
def runningWrite (s : State) (u v : Nat) : State := (s.chkSet u (v % 2 ^ s.chkWidth u)).reply St.ok

/-- A write of CrcWidth, Poly, Init, XorOut or Reflect, sub-index 01 to 05 (R383). -/
def crcSettingWrite (s : State) (u sub v : Nat) : State :=
  if (sub = 2 ∨ sub = 3 ∨ sub = 4) ∧ 2 ^ s.chkWidth u ≤ v then s.reply St.valueRange
  else
    let s := s.setReg (okey (0x7000 + 0x40 * u) sub) v
    (if sub = 4 then s.chkDerive u else s.chkRestart u).reply St.ok

/-- CompareOp 1 (R389). -/
def compareOp (s : State) (u : Nat) : State :=
  let h := 0xA2 + u
  let s := s.count (472 + u) 1
  if s.reg (Obj.chkResult u) = s.reg (Obj.chkExpected u) % 2 ^ s.chkWidth u then ((s.setReg (Obj.chkCompareResult u) 1).chkTell u 1).reply St.ok
  else
    let s := ((s.setReg (Obj.chkCompareResult u) 2).bump (Obj.chkFails u) 32).chkTell u 2
    (s.oncePerSecond (Reg.chkEventAt u) (fun s => s.raise [s.blockDest h] h St.chkMismatch (s.reg (Reg.blockHolder h)) 2
      [(8, s.reg (Obj.chkResult u))])).reply St.ok

/-- A write of CompareOp (R389). -/
def compareWrite (s : State) (u v : Nat) : State :=
  if v = 1 then s.compareOp u else if v = 2 then (s.chkRestart u).reply St.ok else (s.aliveResync u).reply St.ok

/-- A write of AliveGap or AliveWidth keeps the gap from 1 to 2^w - 1 (table Check unit objects). -/
def aliveWrite (s : State) (u sub v : Nat) : State :=
  let w := if sub = 0x10 then v else s.reg (Obj.chkAliveWidth u)
  if sub = 0x12 ∧ w ≠ 0 ∧ 2 ^ w ≤ v then s.reply St.valueRange else (s.setReg (okey (0x7000 + 0x40 * u) sub) v).reply St.ok

/-- A write of any object of a check unit that has passed its checks. -/
def chkWrite (s : State) (u sub : Nat) (d : Bytes) : State :=
  let v := leNat d
  if sub = 0xC then s.feedWrite u d
  else if sub = 6 then s.runningWrite u v
  else if sub ≤ 5 then s.crcSettingWrite u sub v
  else if sub = 9 then s.compareWrite u v
  else if sub = 0x10 ∨ sub = 0x12 then s.aliveWrite u sub v
  else (s.setReg (okey (0x7000 + 0x40 * u) sub) v).reply St.ok

end State

/-- FEED_DATA (R386, R387). -/
def execFeedData (n u : Nat) (v : List Byte) (s : State) : Host.Outcome State Fault Refusal :=
  s.whenUp (fun s =>
    .next (s.written n (Obj.chkFeedData u) v (fun s => s.chkWrite u 0xC v)))

/-- RUNNING_VALUE_WRITE (R385). -/
def execRunningValueWrite (n u : Nat) (v : List Byte) (s : State) : Host.Outcome State Fault Refusal :=
  s.whenUp (fun s =>
    .next (s.written n (Obj.chkRunningValue u) v (fun s => s.chkWrite u 6 v)))

/-- CRC_SETTING_WRITE (R383): `sub` 1 CrcWidth, 2 Poly, 3 Init, 4 XorOut, 5 Reflect. -/
def execCrcSettingWrite (n u sub : Nat) (v : List Byte) (s : State) : Host.Outcome State Fault Refusal :=
  s.whenUp (fun s =>
    .next (if sub = 0 ∨ 5 < sub then s else s.written n (okey (0x7000 + 0x40 * u) sub) v (fun s => s.chkWrite u sub v)))

/-- COMPARE (R389): CompareOp 1. -/
def execCompare (n u : Nat) (s : State) : Host.Outcome State Fault Refusal :=
  s.whenUp (fun s =>
    .next (s.written n (Obj.chkCompareOp u) [1] (fun s => s.compareWrite u 1)))

/-- RESTART_AT_INIT (R389): CompareOp 2. -/
def execRestartAtInit (n u : Nat) (s : State) : Host.Outcome State Fault Refusal :=
  s.whenUp (fun s =>
    .next (s.written n (Obj.chkCompareOp u) [2] (fun s => s.compareWrite u 2)))

/-- ALIVE_RESYNC (R388): CompareOp 3. -/
def execAliveResync (n u : Nat) (s : State) : Host.Outcome State Fault Refusal :=
  s.whenUp (fun s =>
    .next (s.written n (Obj.chkCompareOp u) [3] (fun s => s.compareWrite u 3)))

end Sys2Proof.Machine
end

