-- ==== Sys2Proof/Machine/Fabric.lean ====
section
/-!
DEFINITION. Machine/Fabric.lean: the commands of the fabric and the memory channels (chapter 6).
-/
namespace Sys2Proof.Machine

namespace Fab

/-- Access kind of a code. -/
def accOf (n : Nat) : Acc := if n = 2 then .write else if n = 3 then .atomic else if n = 4 then .scan else .read

/-- World whose ID an access carries (R98): that which a debug session names; for a scan-out fetch the owner of the layer; else the world of the instance, the
holder of the block, the Ensign world for its event path, Halyard for its own cores and engines. -/
def world (s : State) (a : FabAccess) : Nat :=
  if a.dbg ≠ 0 then a.dbgWorld
  else if a.acc = 4 then s.layerWorld a.head a.layer
  else if a.inst < 56 then s.instWorld a.inst
  else if isBlock a.unit then s.reg (Reg.blockHolder a.unit)
  else if a.req = 8 then 1 else 0

/-- Service class of an access: its requester's, or over a hoist link the class stamped by the originating device, which is never SC-ENS (R149). -/
def cls (s : State) (a : FabAccess) : Nat := if 42 ≤ a.req ∧ a.req < 46 then max 1 a.cls else s.classOf a.req

/-- What the requesting unit does on a fault (R111): a ring's context stops, a layer becomes transparent (R239), the fault is reported. -/
def fault (a : FabAccess) (s : State) (e : XFault) : State :=
  let s :=
    if a.dbg = 0 ∧ a.inst < 56 ∧ a.ctx < 8 ∧ a.acc ≠ 4 then s.stopFault a.inst a.ctx (accOf a.acc) e
    else s.accessFault (world s a) a.inst a.field a.unit (cls s a) (accOf a.acc) e
  let s := if a.acc = 4 then s.layerFault a.head a.layer else s
  s.reply e.status

/-- Data of an access that is carried out at these bytes. A read whose link check failed twice has no stated value (log 5). -/
def moveData (a : FabAccess) (as : List Nat) (s : State) : State :=
  let old := as.map s.fabricByte
  let s := if a.acc = 2 ∨ a.acc = 3 then s.fabricPut (as.zip a.data) else s
  if a.acc = 2 then s.reply St.ok
  else if a.link = 2 then (s.tick).replyData (leBytes old.length s.fresh)
  else s.replyData old

/-- An access at local DRAM: the channel port, the channel's queue, then what the memory reports (R147, R148, R152, R158, R166 to R168). It waits where the
channel serves nothing, or holds its world and requester throttled (R163). -/
def atDram (a : FabAccess) (w : Nat) (as : List Nat) (fpa : Nat) (s : State) : State :=
  let c := s.channelOf fpa
  if s.reg (Obj.dramChannelState c) = 0 ∨ s.reg (Obj.dramChannelState c) = 3 ∨ s.reg (Reg.portReset (U.dram c)) = 1 then s
  else
    let s := State.contend (fun s cs => s.portRound c cs) a.req a.portRounds s
    let own : MemReq := ⟨w, a.req, cls s a, fpa, a.len, min a.since s.now⟩
    let m := State.markAll c s (a.queue ++ [own])
    let x := m.1.serveUntil c own (a.queue.length + 1) m.2
    let s := x.1
    if !x.2 then s
    else
      let s := s.checkFetch own
      let s := s.count (8 + 10 * c + 8) a.link
      let s := if a.link = 2 ∧ a.acc ≠ 2 then s.linkError c else s
      let prot := s.reg (Reg.frameMode (fpa / frameBytes)) = 2
      if prot ∧ a.err = 2 then
        let s := (s.raise [.hal] (U.dram c) St.memUncorrectable w 3 []).reply St.memUncorrectable
        s.failRow fpa
      else
        let s := if prot ∧ a.err = 1 then s.correctedError fpa else s
        moveData a as s

/-- An access in a window (R143, R149): it leaves with its class as a PCI Express request at the port's host window base, or over the hoist to the device; a write
or an atomic leaves with its data as moveData sends it. SC-ENS leaves no device. -/
def atWindow (a : FabAccess) (as : List Nat) (fpa : Nat) (s : State) : State :=
  if 0x400000000000 ≤ fpa ∧ cls s a = 0 then s.reply St.memUnmapped
  else moveData a as (if a.acc = 2 ∨ a.acc = 3 then s else s.windowOut 1 (fpa, leBytes 4 a.len))

/-- The access after translation: its node, then the place its address names (R143, R144). -/
def carry (a : FabAccess) (as : List Nat) (s : State) : State :=
  match as with
  | [] => s.reply St.ok
  | fpa :: _ =>
    let w := world s a
    let s := (State.contend (fun s cs => s.nodeRound a.node cs) a.req a.rounds s).count (168 + a.req) a.len
    let s := if a.inst < 56 ∧ cls s a = 3 then s.count (489 + 4 * a.inst) a.len else s
    let s := if fpa < 0x1000000000 then atDram a w as fpa s
      else if fpa < 0x10000000000 then moveData a as s
      else atWindow a as fpa s
    if a.acc = 4 then
      let s := if a.late then s.fetchLate a.head else s
      if a.badMeta then s.layerMetaError a.head a.layer else s
    else s

/-- Root of the stage-1 context an access uses, plus 1; 0 with stage 1 off, as for a debug session. -/
def root (s : State) (a : FabAccess) : Nat := if a.dbg = 0 ∧ a.inst < 56 ∧ a.ctx < 9 then s.reg (Reg.s1Root a.inst a.ctx) else 0

/-! The walk in memory (R108, R109). -/

/-- A descriptor read of a walk: its stage and level, whether it serves a descriptor read of stage 1, the address translated, and where it lies. -/
structure DescRead where
  stage : Nat
  level : Nat
  walk : Bool
  gsa : Nat
  fpa : Nat
  deriving DecidableEq

/-- Descriptor reads of a stage-2 walk. -/
def s2Reads (s : State) (w a : Nat) (walk : Bool) : Nat → Nat → Nat → List DescRead
  | 0, _, _ => []
  | fuel + 1, level, tbl =>
    let p := tbl + 8 * (if level = 0 then bits a 39 13 else bits a (39 - 9 * level) 9)
    if s.tableStatus p ≠ St.ok then []
    else ⟨2, level, walk, a, p⟩ :: (match s.s2Desc w (s.readLe p 8) level a with
      | .table t => s2Reads s w a walk fuel (level + 1) t
      | _ => [])

/-- Descriptor reads of a translation from a stage-1 table on: every stage-1 descriptor by a stage-2 walk of its own, then the walk of the output. -/
def s1Reads (s : State) (w va : Nat) : Nat → Nat → Nat → List DescRead
  | 0, _, _ => []
  | fuel + 1, level, tbl =>
    let da := tbl + 8 * bits va (39 - 9 * level) 9
    s2Reads s w da true 4 0 (s.reg (Reg.worldRoot w)) ++ (match s.s2 w da true with
      | .error _ => []
      | .ok l =>
        if !l.r then []
        else ⟨1, level, true, da, l.addr⟩ :: (match s1Desc (s.readLe l.addr 8) level with
          | .table t => s1Reads s w va fuel (level + 1) t
          | .leaf g _ _ _ => s2Reads s w (g + va % 2 ^ leafBits level) false 4 0 (s.reg (Reg.worldRoot w))
          | .fault _ => []))

/-- Descriptor reads of a translation: at most 24 (R108). -/
def walkReads (s : State) (w root va : Nat) : List DescRead :=
  if va / 2 ^ 48 ≠ 0 then []
  else if root = 0 then s2Reads s w va false 4 0 (s.reg (Reg.worldRoot w))
  else s1Reads s w va 4 0 (root - 1)

/-- A descriptor read is an 8-byte DRAM read in the requester's class (R108): it is granted at the node and served by its channel. -/
def descServe (a : FabAccess) (w : Nat) (s : State) (d : DescRead) : State :=
  if 0x1000000000 ≤ d.fpa then s
  else
    let s := (s.nodeRound a.node [a.req]).1.count (168 + a.req) 8
    let c := s.channelOf d.fpa
    let q : MemReq := ⟨w, a.req, cls s a, d.fpa, 8, s.now⟩
    (((s.portRound c [a.req]).1.resMark c q).1.serveReq c q).checkFetch q

/-- The stage-2 descriptor whose read meets an uncorrectable error, if the walk reads one at that place. -/
def walkBad (s : State) (a : FabAccess) : Option DescRead :=
  if a.walkErr = 0 then none else ((walkReads s (world s a) (root s a) a.va).filter (fun d => d.stage == 2))[a.walkErr - 1]?

/-- An uncorrectable error on a stage-2 descriptor read (R109): the world and Halyard are told, the page is retired and the table rebuilt from Halyard's copy. -/
def walkError (a : FabAccess) (d : DescRead) (s : State) : State :=
  (fault a s ⟨St.xlatWalkEcc, 2, d.level, d.walk, d.gsa⟩).failRow d.fpa

/-- An access that a world makes (R103 to R112): where its walk reads memory the descriptor reads are served; it faults, or is carried out. -/
def access (a : FabAccess) (s : State) : State :=
  match walkBad s a with
  | some d => walkError a d s
  | none =>
    let w := world s a
    let s' := if a.miss then (walkReads s w (root s a) a.va).foldl (descServe a w) s else s
    match s.xlateRange w (root s a) a.va (accOf a.acc) a.len with
    | .error e => fault a s' e
    | .ok as => carry a as s'

/-! Registers that hold translation state (R101). -/

/-- Register of a number: the stage-2 root of a world, its memory key, the event route of a block, its holder. -/
def protReg (n : Nat) : Nat :=
  if n < 64 then Reg.worldRoot n else if n < 128 then Reg.memKey (n - 64) else if n < 0x1080 then Reg.worldRoute (n - 128) else Reg.blockHolder (n - 0x1080)

/-- An access to one of them: a write or an atomic by a world other than 0 is discarded and told to Halyard; nobody reads a key (R113). -/
def regAccess (a : FabAccess) (s : State) : State :=
  let w := world s a
  let k := protReg (a.reg - 1)
  if (a.acc = 2 ∨ a.acc = 3) ∧ w ≠ 0 then (s.raise [.hal] a.unit St.xlatPermission w 3 []).reply St.xlatPermission
  else if a.acc = 2 then (s.setReg k (leNat a.data)).reply St.ok
  else if 64 < a.reg ∧ a.reg ≤ 128 then s.reply St.xlatPermission
  else (if a.acc = 3 then s.setReg k (leNat a.data) else s).replyData (leBytes 8 (s.reg k))

/-! Debug sessions (R122). -/

/-- A debug session may make this access: the world is open to it; of world 1 it only reads, but in the manufacturing and factory-test states; nothing of another
world's memory is reached through a view. Raw access needs an Acdon certificate with the raw fabric scope in the manufacturing state. -/
def inScope (s : State) (a : FabAccess) : Bool :=
  s.reg (Reg.sessOpen a.dbg) == 1 && s.reg (Reg.sessClass a.dbg) == Cls.dbg && s.reg (Reg.sessPending a.dbg) == 0 &&
    (if a.dbgWorld = 64 then s.reg Obj.lifecycleState == 0 && s.reg (Reg.certOwner a.dbg) == 0 && bit (s.reg (Reg.certScope a.dbg)) 5
     else bit (s.reg (Reg.sessDbg a.dbg)) a.dbgWorld && (a.dbgWorld != 1 || a.acc == 1 || decide (s.reg Obj.lifecycleState < 2))
      && (List.range a.len).all (fun k =>
        let d := s.leafOf a.dbgWorld (a.va + k) 3
        bits d 0 2 == 0 || decide (3 ≤ bits d 54 3) || bits d 54 3 == 2 || bits d 57 6 == a.dbgWorld))

/-- A raw access at fabric physical addresses: in encrypted DRAM no key applies to it, so that what it reads, and what a world then reads where it wrote, are free
values (log 43). -/
def rawAccess (a : FabAccess) (s : State) : State :=
  let as := (List.range a.len).map (· + a.va)
  match as.find? (fun x => s.fabricStatus (s.reg (Reg.frameMode (x / frameBytes))) x != St.ok) with
  | some x => s.reply (s.fabricStatus (s.reg (Reg.frameMode (x / frameBytes))) x)
  | none =>
    if a.va < 0x1000000000 then
      if a.acc = 2 ∨ a.acc = 3 then (s.tick.fabricPut (as.zip (leBytes a.len s.fresh))).reply St.ok else s.tick.replyData (leBytes a.len s.fresh)
    else carry a as s

/-! What a hoist device asks for (R143). -/

/-- The feed engines hold a grant for a fabric physical address: it lies in the pool of a layer that a feed fills. -/
def feedGrant (s : State) (x : Nat) : Bool :=
  (List.range 16).any (fun f =>
    let n := s.reg (Obj.feedHead f)
    let l := s.reg (Obj.feedLayer f)
    s.reg (Obj.feedState f) != 0 && s.reg (Reg.poolWorld n l) != 0 && (List.range (s.reg (Reg.poolSize n l))).any (fun k =>
      match s.s2 (s.reg (Reg.poolWorld n l) - 1) (s.reg (Obj.layerPoolGsa n l) + k * frameBytes) false with
      | .ok y => y.addr / frameBytes == x / frameBytes
      | .error _ => false))

/-- An access that arrives over a hoist link: its window offset is a fabric physical address below 2^40, checked against the grants held here. The status of one
without a grant is open: XLAT_PERMISSION, and Halyard is told (log 43). -/
def inbound (a : FabAccess) (s : State) : State :=
  let as := (List.range a.len).map (· + a.va)
  if 0x10000000000 < a.va + a.len ∨ !as.all (feedGrant s) then (s.raise [.hal] a.unit St.xlatPermission 0xFF 3 []).reply St.xlatPermission
  else carry a as s

/-- Begin a retrain of channel `c` (R165), or let it wait while two others retrain. -/
def retrain (s : State) (c : Nat) : State :=
  let m := s.reg Obj.retrainingMask
  if 2 ≤ popCount 16 m then s.setReg Reg.retrainWait (setBit (s.reg Reg.retrainWait) c)
  else
    let s := s.setRegs [(Obj.retrainingMask, setBit m c), (Obj.dramChannelState c, 2), (Reg.retrainRetry c, 0),
      (Reg.retrainWait, clearBit (s.reg Reg.retrainWait) c)]
    (s.setNum (Num.linkErr c) []).raise [.hal] (U.dram c) St.memRetrain 0xFF 1 [(1, c)]

/-- Drift of a sensor since the last training exceeds RetrainDriftC. -/
def drifted (s : State) (now was : Nat) : Bool := decide (s.reg Obj.retrainDriftC < (toSigned 1 now - toSigned 1 was).natAbs)

end Fab

/-- FABRIC_ACCESS (R98, R101 to R112, R122, R143 to R149, R152 to R163, R166 to R168, R239, R240): one access is translated, arbitrated and carried out, or
faults. A channel that is in training or self-refresh leaves the request waiting. -/
def execFabricAccess (a : FabAccess) (s : State) : Host.Outcome State Fault Refusal :=
  s.whenUp (fun s =>
    .next (if a.reg ≠ 0 then Fab.regAccess a s
      else if a.dbg ≠ 0 ∧ !Fab.inScope s a then s.reply St.debugScope
      else if a.dbg ≠ 0 ∧ a.dbgWorld = 64 then Fab.rawAccess a s
      else if 42 ≤ a.req ∧ a.req < 46 then Fab.inbound a s
      else Fab.access a s))

/-- THROTTLE_EXPIRY (R163): a throttle renews when ThrottleAfter or more further actions were attributed, else it ends. -/
def execThrottleExpiry (c bank w r : Nat) (s : State) : Host.Outcome State Fault Refusal :=
  s.whenUp (fun s =>
    .next (match s.throttleOf c bank w r with
      | none => s
      | some t =>
        if s.now < t.until' then s
        else if s.reg Obj.throttleAfter ≤ t.further then
          let tell : Bool := decide (t.raised + 1000000000 ≤ s.now)
          let t' : Throttle := { t with until' := t.until' + 1000000 * s.reg Obj.throttleMs, further := 0, raised := if tell then s.now else t.raised }
          let s' : State := { s with throttles := s.throttles.map (fun x => if x = t then t' else x) }
          if tell then s'.throttleEvent c bank w r St.memRowThrottle 2 else s'
        else
          let s' : State := { s with throttles := s.throttles.filter (fun x => x != t) }
          (s'.throttledFlag r).throttleEvent c bank w r St.memThrottleEnd 1))

/-- ROW_IDLE_CLOSE (R153): an open row without a hit for IdleCloseNs closes. -/
def execRowIdleClose (c bank : Nat) (s : State) : Host.Outcome State Fault Refusal :=
  s.whenUp (fun s =>
    let b := 16 * c + bank
    .next (if s.reg (Reg.rowOpen b) = 0 ∨ s.now < s.reg (Reg.rowHitAt b) + s.reg (Obj.dramIdleCloseNs c) then s
      else s.setReg (Reg.rowOpen b) 0))

/-- CONCENTRATION_CHECK (R161): a 10 ms interval of hoist time has passed. -/
def execConcentrationCheck (w : Nat) (s : State) : Host.Outcome State Fault Refusal :=
  s.whenUp (fun s => .next (s.concClose w))

/-- RETRAIN_START (R165, R151): drift of the DRAM temperature or the PHY sensor beyond RetrainDriftC, or 16 link errors within 1 s, starts a
retrain; while two channels retrain the channel waits. -/
def execRetrainStart (c temp phy : Nat) (s : State) : Host.Outcome State Fault Refusal :=
  s.whenUp (fun s =>
    .next (if 15 < c ∨ s.reg (Obj.dramChannelState c) ≠ 1 then s
      else
        let s := s.setReg (Obj.dramTempC c) (temp % 256)
        let errs := (s.num (Num.linkErr c)).countP (fun t => decide (s.now < t + 1000000000))
        if Fab.drifted s temp (s.reg (Reg.trainedTemp c)) || Fab.drifted s phy (s.reg (Reg.trainedPhy c)) || decide (16 ≤ errs) then
          (Fab.retrain s c).bulkYield
        else s))

/-- RETRAIN_DONE (R165, R166): a retrain ends, or fails and leaves the previous settings to be tried again after 10 s; a waiting channel
follows in order of number. -/
def execRetrainDone (c : Nat) (ok : Bool) (eye temp phy : Nat) (s : State) : Host.Outcome State Fault Refusal :=
  s.whenUp (fun s =>
    .next (if 15 < c ∨ s.reg (Obj.dramChannelState c) ≠ 2 then s
      else
        let s := s.setRegs [(Obj.retrainingMask, clearBit (s.reg Obj.retrainingMask) c), (Obj.dramChannelState c, 1)]
        let s := if ok then
            ((s.setRegs [(Obj.dramEyeWidthPs c, eye), (Obj.dramLastTrainedAt c, s.now), (Reg.trainedTemp c, temp % 256),
              (Reg.trainedPhy c, phy % 256), (Obj.dramTempC c, temp % 256)]).bump (Obj.dramRetrainCount c) 32).raise [.hal] (U.dram c)
              St.memRetrainDone 0xFF 1 [(1, c)]
          else (s.setReg (Reg.retrainRetry c) (s.now + 10000000000)).raise [.hal] (U.dram c) St.memTrainFailed 0xFF 2 [(1, c)]
        let s := match (List.range 16).find? (fun x => bit (s.reg Reg.retrainWait) x) with
          | some x => Fab.retrain s x
          | none => s
        s.bulkYield))

/-- RETRAIN_RETRY (R166): 10 s after a failed retrain it is tried again. -/
def execRetrainRetry (c : Nat) (s : State) : Host.Outcome State Fault Refusal :=
  s.whenUp (fun s =>
    .next (if 15 < c ∨ s.reg (Reg.retrainRetry c) = 0 ∨ s.now < s.reg (Reg.retrainRetry c) ∨ s.reg (Obj.dramChannelState c) ≠ 1 then s
      else (Fab.retrain (s.setReg (Reg.retrainRetry c) 0) c).bulkYield))

/-- PATROL_SCRUB (R167 to R170): the daily patrol of every protected frame; each corrected error counts to its row, an uncorrectable one
makes the row fail. -/
def execPatrolScrub (errs : List (Nat × Bool)) (s : State) : Host.Outcome State Fault Refusal :=
  s.whenUp (fun s =>
    .next (if s.reg Reg.patrolAt ≠ 0 ∧ s.now < s.reg Reg.patrolAt - 1 + 86400000000000 then s
      else errs.foldl (fun s e =>
        if s.reg (Reg.frameMode (e.1 / frameBytes)) ≠ 2 then s
        else if e.2 then
          (s.raise [.hal] (U.dram (s.channelOf e.1)) St.memUncorrectable 0xFF 3 []).failRow e.1
        else s.correctedError e.1) (s.setReg Reg.patrolAt (s.now + 1))))

/-- CLASS_WRITE (R148, R149): a write of a requester's Class; LOSSES and WAIT are kept. -/
def execClassWrite (n r : Nat) (v : List Byte) (s : State) : Host.Outcome State Fault Refusal :=
  s.whenUp (fun s =>
    .next (s.request n 2 (Obj.reqClass r) (fun s =>
      let st := s.writeStatus n (Obj.reqClass r) v
      if st ≠ St.ok then s.reply st
      else if !bit (s.reg (Obj.reqClassesAllowed r)) (leNat v) then s.reply St.memClassFixed
      else (s.setReg (Obj.reqClass r) (leNat v)).reply St.ok)))

/-- RESERVE_RATE_WRITE (R150): a write of ScanReservedMBps (`sub` 4) or RtReservedMBps (`sub` 5) is refused with MEM_RESERVE_HELD in the three
cases of the rule. -/
def execReserveRateWrite (n sub : Nat) (v : List Byte) (s : State) : Host.Outcome State Fault Refusal :=
  s.whenUp (fun s =>
    .next (if sub ≠ 4 ∧ sub ≠ 5 then s
      else s.request n 2 (if sub = 4 then Obj.scanReservedMBps else Obj.rtReservedMBps) (fun s =>
        let key := if sub = 4 then Obj.scanReservedMBps else Obj.rtReservedMBps
        let st := s.writeStatus n key v
        if st ≠ St.ok then s.reply st
        else
          let x := leNat v
          let scan := if sub = 4 then x else s.reg Obj.scanReservedMBps
          let rt := if sub = 5 then x else s.reg Obj.rtReservedMBps
          let total := ((s.worldReserves Reg.resBandwidth).map Prod.snd).foldl (· + ·) 0
          if (sub = 4 ∧ x * 1000000000 < s.deviceFetch s.reg) ∨ (sub = 5 ∧ x < s.rtDemand s.reg) ∨ 160000 < scan + rt + total
              ∨ 151000 < scan + rt then s.reply St.memReserveHeld
          else ((s.setReg key x).bulkYield).reply St.ok)))

end Sys2Proof.Machine
end

