-- ==== Sys2Proof/Machine/Aes.lean ====
section
/-!
DEFINITION. Machine/Aes.lean: AES-256 and the modes that the crypto engine names (R397, R398): GCM, CMAC and XTS. Their definition is that of the
published standards (log 17).
-/
namespace Sys2Proof.Machine

namespace Aes

/-- Product with x in GF(2^8). -/
def xtime (a : Nat) : Nat := if a < 128 then 2 * a else (2 * a - 256) ^^^ 0x1B

/-- Product in GF(2^8); `k` bits of `b` are left. -/
def gmulAux : Nat → Nat → Nat → Nat
  | 0, _, _ => 0
  | k + 1, a, b => (if b % 2 = 1 then a else 0) ^^^ gmulAux k (xtime a) (b / 2)

/-- Product in GF(2^8). -/
def gmul (a b : Nat) : Nat := gmulAux 8 a b

/-- Inverse in GF(2^8), 0 for 0: the power 254. -/
def ginv (a : Nat) : Nat :=
  let sq := fun x => gmul x x
  let a2 := sq a
  let a4 := sq a2
  let a8 := sq a4
  let a16 := sq a8
  let a32 := sq a16
  let a64 := sq a32
  let a128 := sq a64
  gmul a2 (gmul a4 (gmul a8 (gmul a16 (gmul a32 (gmul a64 a128)))))

/-- Rotate a byte left. -/
def rotl8 (x n : Nat) : Nat := (x * 2 ^ n ||| x / 2 ^ (8 - n)) % 256

/-- The S-box. -/
def sub (x : Nat) : Nat :=
  let b := ginv x
  b ^^^ rotl8 b 1 ^^^ rotl8 b 2 ^^^ rotl8 b 3 ^^^ rotl8 b 4 ^^^ 0x63

/-- The inverse S-box. -/
def invSub (x : Nat) : Nat := ginv (rotl8 x 1 ^^^ rotl8 x 3 ^^^ rotl8 x 6 ^^^ 5)

/-- Exclusive or of two lists of bytes. -/
def xorL (a b : List Nat) : List Nat := List.zipWith (· ^^^ ·) a b

/-- Words of the key schedule still to come; `i` is the number of the next word, `ws` the words so far, newest first. -/
def expand : Nat → Nat → Nat → List (List Nat) → List (List Nat)
  | 0, _, _, ws => ws
  | n + 1, i, rcon, ws =>
    let t := ws.headD []
    let t := if i % 8 = 0 then
        match t.map sub with
        | [a, b, c, d] => [b ^^^ rcon, c, d, a]
        | l => l
      else if i % 8 = 4 then t.map sub else t
    expand n (i + 1) (if i % 8 = 0 then xtime rcon else rcon) (xorL (ws.getD 7 []) t :: ws)

/-- Cut a list into groups of four. -/
def quads : Nat → List Nat → List (List Nat)
  | 0, _ => []
  | n + 1, l => l.take 4 :: quads n (l.drop 4)

/-- The fifteen round keys of a 32-byte key. -/
def roundKeys (key : List Nat) : List (List Nat) :=
  let ws := (expand 52 8 1 (quads 8 key).reverse).reverse
  (List.range 15).map (fun r => ((ws.drop (4 * r)).take 4).flatten)

/-- ShiftRows of a block held column by column. -/
def shiftRows (b : List Nat) : List Nat := (List.range 16).map (fun i => b.getD ((i + 4 * (i % 4)) % 16) 0)

/-- Inverse of ShiftRows. -/
def invShiftRows (b : List Nat) : List Nat := (List.range 16).map (fun i => b.getD ((i + 12 * (i % 4)) % 16) 0)

/-- One column times the circulant of four coefficients. -/
def mixCol (m : List Nat) (c : List Nat) : List Nat :=
  (List.range 4).map (fun i => (List.range 4).foldl (fun a j => a ^^^ gmul (m.getD ((j + 4 - i) % 4) 0) (c.getD j 0)) 0)

/-- MixColumns with the coefficients given. -/
def mix (m : List Nat) (b : List Nat) : List Nat := (quads 4 b).flatMap (mixCol m)

/-- Encrypt one block of 16 bytes. -/
def encBlock (key b : List Nat) : List Nat :=
  match roundKeys key with
  | [] => b
  | k0 :: ks =>
    let x := (ks.take 13).foldl (fun x k => xorL (mix [2, 3, 1, 1] (shiftRows (x.map sub))) k) (xorL b k0)
    xorL (shiftRows (x.map sub)) (ks.getD 13 [])

/-- Decrypt one block of 16 bytes. -/
def decBlock (key b : List Nat) : List Nat :=
  match (roundKeys key).reverse with
  | [] => b
  | k14 :: ks =>
    let x := (ks.take 13).foldl (fun x k => mix [14, 11, 13, 9] (xorL ((invShiftRows x).map invSub) k)) (xorL b k14)
    xorL ((invShiftRows x).map invSub) (ks.getD 13 [])

/-- Bytes as numbers. -/
def nats (b : Bytes) : List Nat := b.map BitVec.toNat

/-- Numbers as bytes. -/
def octs (l : List Nat) : Bytes := l.map (BitVec.ofNat 8)

/-- Encrypt a block of bytes. -/
def enc (key b : Bytes) : Bytes := octs (encBlock (nats key) (nats b))

/-- Decrypt a block of bytes. -/
def dec (key b : Bytes) : Bytes := octs (decBlock (nats key) (nats b))

/-- Exclusive or of two byte strings, as long as the shorter. -/
def xorB (a b : Bytes) : Bytes := List.zipWith (· ^^^ ·) a b

/-- Cut a byte string into blocks of 16 bytes, the last one short. -/
def blocks16 : Nat → Bytes → List Bytes
  | 0, _ => []
  | n + 1, b => if b.isEmpty then [] else b.take 16 :: blocks16 n (b.drop 16)

/-- Blocks of a byte string. -/
def blocks (b : Bytes) : List Bytes := blocks16 (b.length / 16 + 1) b

/-! GCM. -/

/-- Product in GF(2^128) as GCM orders its bits; `k` bits of `x` are left, highest first. -/
def ghMul : Nat → Nat → Nat → Nat → Nat
  | 0, _, _, z => z
  | k + 1, x, v, z => ghMul k x (if v % 2 = 1 then v / 2 ^^^ 0xE1000000000000000000000000000000 else v / 2) (if bit x k then z ^^^ v else z)

/-- GHASH of blocks under hash key `h`. -/
def ghash (h : Nat) (bs : List Bytes) : Nat := bs.foldl (fun y b => ghMul 128 (y ^^^ Sha.beNat (padTo 16 b)) h 0) 0

/-- Counter mode from counter `c` of a 12-byte IV. -/
def ctr (key iv : Bytes) : Nat → List Bytes → Bytes
  | _, [] => []
  | c, b :: bs => xorB b (enc key (iv ++ Sha.beBytes 4 c)) ++ ctr key iv (c + 1) bs

/-- Counter mode as GCM uses it on data. -/
def gcmCrypt (key iv d : Bytes) : Bytes := ctr key iv 2 (blocks d)

/-- The tag over additional data and ciphertext. -/
def gcmTag (key iv aad ct : Bytes) : Bytes :=
  let h := Sha.beNat (enc key (List.replicate 16 0))
  let y := ghash h (blocks aad ++ blocks ct ++ [Sha.beBytes 8 (8 * aad.length) ++ Sha.beBytes 8 (8 * ct.length)])
  xorB (Sha.beBytes 16 y) (enc key (iv ++ Sha.beBytes 4 1))

/-! CMAC. -/

/-- Doubling in GF(2^128). -/
def dbl (x : Nat) : Nat := (2 * x % 2 ^ 128) ^^^ (if bit x 127 then 0x87 else 0)

/-- AES-256-CMAC of a message. -/
def cmac (key m : Bytes) : Bytes :=
  let k1 := dbl (Sha.beNat (enc key (List.replicate 16 0)))
  let bs := blocks m
  let last := bs.getLastD []
  let fin := if last.length = 16 then Sha.beNat last ^^^ k1 else Sha.beNat (padTo 16 (last ++ [0x80])) ^^^ dbl k1
  enc key (Sha.beBytes 16 (bs.dropLast.foldl (fun x b => Sha.beNat (enc key (Sha.beBytes 16 (x ^^^ Sha.beNat b)))) 0 ^^^ fin))

/-! XTS. -/

/-- Next tweak: times x, bytes in little-endian order. -/
def nextTweak (t : Nat) : Nat := (2 * t % 2 ^ 128) ^^^ (if bit t 127 then 0x87 else 0)

/-- XTS on whole blocks with the block cipher `f`. -/
def xts (f : Bytes → Bytes) : Nat → List Bytes → Bytes
  | _, [] => []
  | t, b :: bs => xorB (f (xorB b (leBytes 16 t))) (leBytes 16 t) ++ xts f (nextTweak t) bs

end Aes
end Sys2Proof.Machine
end

