-- ==== Sys2Proof/Machine/Ecc.lean ====
section
/-!
DEFINITION. Machine/Ecc.lean: the public-key arithmetic that the crypto engine names (R397, R398): ECDSA and ECDH on P-256 and P-384, Ed25519
verification. Curves and formulas are those of the published standards (log 17).
-/
namespace Sys2Proof.Machine

namespace Ecc

/-- `b ^ e mod m`, with `k` bits of `e` left, highest first. -/
def powMod (b m e : Nat) : Nat → Nat → Nat
  | 0, r => r
  | k + 1, r => powMod b m e k (if bit e k then r * r % m * b % m else r * r % m)

/-- Power modulo `m` of an exponent below 2^512. -/
def pow (m b e : Nat) : Nat := powMod (b % m) m e 512 (1 % m)

/-- Inverse modulo a prime. -/
def inv (p a : Nat) : Nat := pow p a (p - 2)

/-- Difference modulo `m` of two numbers below `m`. -/
def sub (m a b : Nat) : Nat := (a + (m - b % m)) % m

/-- A short Weierstrass curve y² = x³ − 3x + b of prime order. -/
structure Curve where
  size : Nat
  p : Nat
  b : Nat
  gx : Nat
  gy : Nat
  n : Nat
  deriving DecidableEq, Repr

/-- P-256. -/
def p256 : Curve :=
  ⟨32, 0xFFFFFFFF00000001000000000000000000000000FFFFFFFFFFFFFFFFFFFFFFFF, 0x5AC635D8AA3A93E7B3EBBD55769886BC651D06B0CC53B0F63BCE3C3E27D2604B,
   0x6B17D1F2E12C4247F8BCE6E563A440F277037D812DEB33A0F4A13945D898C296, 0x4FE342E2FE1A7F9B8EE7EB4A7C0F9E162BCE33576B315ECECBB6406837BF51F5,
   0xFFFFFFFF00000000FFFFFFFFFFFFFFFFBCE6FAADA7179E84F3B9CAC2FC632551⟩

/-- P-384. -/
def p384 : Curve :=
  ⟨48, 0xFFFFFFFFFFFFFFFFFFFFFFFFFFFFFFFFFFFFFFFFFFFFFFFFFFFFFFFFFFFFFFFEFFFFFFFF0000000000000000FFFFFFFF,
   0xB3312FA7E23EE7E4988E056BE3F82D19181D9C6EFE8141120314088F5013875AC656398D8A2ED19D2A85C8EDD3EC2AEF,
   0xAA87CA22BE8B05378EB1C71EF320AD746E1D3B628BA79B9859F741E082542A385502F25DBF55296C3A545E3872760AB7,
   0x3617DE4A96262C6F5D9E98BF9292DC29F8F41DBD289A147CE9DA3113B5F0B8C00A60B1CE1D7E819D7A431D7C90EA0E5F,
   0xFFFFFFFFFFFFFFFFFFFFFFFFFFFFFFFFFFFFFFFFFFFFFFFFC7634D81F4372DDF581A0DB248B0A77AECEC196ACCC52973⟩

/-- A point of a curve: none is the point at infinity. -/
abbrev Point := Option (Nat × Nat)

/-- A point given by coordinates lies on the curve. -/
def Curve.on (c : Curve) (x y : Nat) : Bool := (x * x % c.p * x + c.b + (c.p - 3) * x) % c.p == y * y % c.p

/-- Sum of two points. -/
def Curve.add (c : Curve) : Point → Point → Point
  | none, q => q
  | some a, none => some a
  | some (x1, y1), some (x2, y2) =>
    if x1 = x2 ∧ (y1 + y2) % c.p = 0 then none
    else
      let l := if x1 = x2 then sub c.p (3 * x1 * x1) 3 * inv c.p (2 * y1 % c.p) % c.p else sub c.p y2 y1 * inv c.p (sub c.p x2 x1) % c.p
      let x3 := sub c.p (sub c.p (l * l) x1) x2
      some (x3, sub c.p (l * sub c.p x1 x3) y1)

/-- Multiple of a point, with `k` bits of the scalar left, highest first. -/
def Curve.mulAux (c : Curve) (e : Nat) (q : Point) : Nat → Point → Point
  | 0, r => r
  | k + 1, r => mulAux c e q k (if bit e k then c.add (c.add r r) q else c.add r r)

/-- Multiple of a point. -/
def Curve.mul (c : Curve) (e : Nat) (q : Point) : Point := c.mulAux e q (8 * c.size) none

/-- The base point. -/
def Curve.g (c : Curve) : Point := some (c.gx, c.gy)

/-- The public point of a private key. -/
def Curve.pub (c : Curve) (d : Nat) : Nat × Nat := (c.mul d c.g).getD (0, 0)

/-- A well-formed signature (r, s) of a hash verifies under a public point. -/
def Curve.verify (c : Curve) (q : Nat × Nat) (e r s : Nat) : Bool :=
  let w := inv c.n s
  match c.add (c.mul (e * w % c.n) c.g) (c.mul (r * w % c.n) (some q)) with
  | none => false
  | some (x, _) => x % c.n == r

/-- The signature of a hash under private key `d` with nonce `k`. -/
def Curve.signWith (c : Curve) (d e k : Nat) : Nat × Nat :=
  let r := (c.pub k).1 % c.n
  (r, inv c.n k * (e + r * d) % c.n)

/-- The signature with the first nonce from `k` up that gives neither number zero. -/
def Curve.sign (c : Curve) (d e k : Nat) : Nat × Nat :=
  ((List.range 4).map (fun j => c.signWith d e ((k + j - 1) % (c.n - 1) + 1))).find? (fun x => x.1 != 0 && x.2 != 0) |>.getD (1, 1)

/-! Ed25519. -/

/-- The field prime 2^255 − 19. -/
def edP : Nat := 2 ^ 255 - 19

/-- The group order L. -/
def edL : Nat := 2 ^ 252 + 27742317777372353535851937790883648493

/-- The constant d. -/
def edD : Nat := (edP - 121665) * inv edP 121666 % edP

/-- Sum of two points of the twisted Edwards curve. -/
def edAdd (a b : Nat × Nat) : Nat × Nat :=
  let p := edP
  let t := edD * (a.1 * b.1 % p) % p * (a.2 * b.2 % p) % p
  ((a.1 * b.2 + b.1 * a.2) % p * inv p (1 + t) % p, (a.2 * b.2 + a.1 * b.1) % p * inv p (sub p 1 t) % p)

/-- Multiple of a point, with `k` bits of the scalar left. -/
def edMulAux (e : Nat) (q : Nat × Nat) : Nat → Nat × Nat → Nat × Nat
  | 0, r => r
  | k + 1, r => edMulAux e q k (if bit e k then edAdd (edAdd r r) q else edAdd r r)

/-- Multiple of a point. -/
def edMul (e : Nat) (q : Nat × Nat) : Nat × Nat := edMulAux e q 256 (0, 1)

/-- The x of a point with a given y and sign; none where there is no such point. -/
def edX (y sign : Nat) : Option Nat :=
  let p := edP
  let xx := sub p (y * y) 1 * inv p (edD * (y * y % p) + 1) % p
  let x := pow p xx ((p + 3) / 8)
  let x := if x * x % p = xx then x else x * pow p 2 ((p - 1) / 4) % p
  if x * x % p ≠ xx then none
  else if x = 0 ∧ sign = 1 then none
  else some (if x % 2 = sign then x else p - x)

/-- Decode 32 bytes to a point: none where they are not canonical or name no point. -/
def edDecode (b : Bytes) : Option (Nat × Nat) :=
  let v := leNat b
  let y := v % 2 ^ 255
  if edP ≤ y then none else (edX y (v / 2 ^ 255)).map (fun x => (x, y))

/-- The base point. -/
def edB : Nat × Nat :=
  let y := 4 * inv edP 5 % edP
  ((edX y 0).getD 0, y)

/-- [S]B = R + [k]A without cofactor (R398), with the decoded points and their bytes. -/
def edVerify (m ra aa : Bytes) (r a : Nat × Nat) (s : Nat) : Bool :=
  let k := leNat (sha512 (ra ++ aa ++ m)) % edL
  edMul s edB == edAdd r (edMul k a)

end Ecc
end Sys2Proof.Machine
end

