-- ==== Sys2Proof/Machine/KeyOps.lean ====
section
/-!
DEFINITION. Machine/KeyOps.lean: the key slots (R400 to R403): writes, erases, and the jobs that are bound to a slot.
-/
namespace Sys2Proof.Machine

namespace Key

/-- Curve of a slot kind: 2 and 4 P-256, else P-384. -/
def curve (kind : Nat) : Ecc.Curve := if kind = 2 ∨ kind = 4 then Ecc.p256 else Ecc.p384

/-- Uncompressed encoding of a point, padded with zeros to the 97 bytes of PublicKey. -/
def pointBytes (c : Ecc.Curve) (q : Nat × Nat) : Bytes := padTo 97 (4 :: (Sha.beBytes c.size q.1 ++ Sha.beBytes c.size q.2))

/-- The point that PublicKey of a slot holds. -/
def pointOf (c : Ecc.Curve) (pub : Nat) : Nat × Nat :=
  let b := (leBytes 97 pub).drop 1
  (Sha.beNat (b.take c.size), Sha.beNat ((b.drop c.size).take c.size))

/-- Checks 1 and 2 of R398 on a point. -/
def pointStatus (c : Ecc.Curve) (q : Nat × Nat) : Nat :=
  if c.p ≤ q.1 ∨ c.p ≤ q.2 then St.cryptoCoordRange else if !c.on q.1 q.2 then St.cryptoPointInvalid else St.ok

/-- Bytes of key data of a kind. -/
def size (kind : Nat) : Nat := if kind = 1 ∨ kind = 2 ∨ kind = 6 then 32 else if kind = 3 then 48 else if kind = 4 then 64 else 96

/-- An imported key (R398, R400): its status, its material and its public part. -/
def imported (kind : Nat) (d : Bytes) : Nat × Nat × Nat :=
  let c := curve kind
  let v := Sha.beNat d
  if kind = 0 ∨ d.length ≠ size kind then (St.cryptoInput, 0, 0)
  else if kind = 1 then (St.ok, v, 0)
  else if kind = 2 ∨ kind = 3 then
    if v = 0 ∨ c.n ≤ v then (St.cryptoScalarRange, 0, 0) else (St.ok, v, leNat (pointBytes c (c.pub v)))
  else if kind = 6 then (if (Ecc.edDecode d).isNone then (St.cryptoPointInvalid, 0, 0) else (St.ok, 0, leNat d))
  else
    let q := (Sha.beNat (d.take c.size), Sha.beNat (d.drop c.size))
    if pointStatus c q ≠ St.ok then (pointStatus c q, 0, 0) else (St.ok, 0, leNat (pointBytes c q))

/-- A key made from a free value: its material and its public part. -/
def generated (kind fr : Nat) : Nat × Nat :=
  if kind = 1 then (fr % 2 ^ 256, 0)
  else
    let d := fr % ((curve kind).n - 1) + 1
    (d, leNat (pointBytes (curve kind) ((curve kind).pub d)))

end Key

namespace State

/-- Extend register 6 with a slot's KIND, USAGE and generation (R396). -/
def slotMeasure (s : State) (k : Nat) : State :=
  s.measure 6 (record [(1, s.reg (Obj.slotKind k)), (1, s.reg (Obj.slotUsage k)), (4, s.reg (Obj.generation k))])

/-- Generation advances by 1 and is never reused. -/
def slotAge (s : State) (k : Nat) : State := s.setReg (Obj.generation k) (min (s.reg (Obj.generation k) + 1) 0xFFFFFFFF)

/-- The sealed slots 0 to 7 do not open without an identity (R395). -/
def slotSealed (s : State) (k : Nat) : Bool := s.reg Reg.identityLost == 1 && decide (k < 8)

/-- Refusal of a write to a slot (R395, R400, R402). -/
def slotWritable (s : State) (k : Nat) : Nat :=
  if s.slotSealed k then St.identityUnavailable
  else if s.reg (Obj.slotState k) = 2 then St.erasePending else if s.reg (Obj.generation k) = 0xFFFFFFFF then St.limitReached else St.ok

/-- A new owner dictionary key starts with no freshness accepted and no failure counted (R57). -/
def authFresh (s : State) (k : Nat) : State :=
  if 4 ≤ k then s else s.setRegs [(Obj.lastFreshness k, 0), (Reg.authFails k, 0), (Reg.authLockS k, 0), (Reg.authLockUntil k, 0)]

/-- Write a key into a slot of world `w` (R400, R401): bound jobs keep the key they have. -/
def slotPut (s : State) (k w kind usage key pub : Nat) : State :=
  (((s.authFresh k).setRegs [(Obj.slotKind k, kind), (Obj.slotUsage k, usage), (Obj.slotHolder k, w), (Obj.slotState k, 1), (Obj.publicKey k, pub),
    (Reg.slotKey k, key)]).slotAge k).slotMeasure k

/-- Zeroise a slot: it is EMPTY, and its holder and the requester of the erase are told (R402). -/
def slotZero (s : State) (k : Nat) : State :=
  let w := s.reg (Obj.slotHolder k)
  let e := s.reg (Reg.slotEraser k)
  let s := ((s.setRegs [(Obj.slotKind k, 0), (Obj.slotUsage k, 0), (Obj.slotHolder k, 0), (Obj.slotState k, 0), (Obj.publicKey k, 0),
    (Reg.slotKey k, 0), (Reg.slotEraser k, 0)]).slotAge k).slotMeasure k
  s.raise (Dest.world w :: (if e = 0 then [] else [.code (e - 1)])) U.sec St.keyErased w 1 [(1, k)]

/-- Bound follows the running jobs; an ERASE_PENDING slot that no job is bound to is zeroised (R402). -/
def slotBound (s : State) (k : Nat) : State :=
  let c := s.jobs.countP (fun (j : Job) => j.running && j.bound && j.slot == k)
  let s := s.setReg (Obj.bound k) c
  if s.reg (Obj.slotState k) = 2 ∧ c = 0 then s.slotZero k else s

/-- Erase a slot (R402); `code` is the requester's destination code plus 1. An EMPTY slot stays as it is. -/
def slotErase (s : State) (k code : Nat) : State :=
  if s.reg (Obj.slotState k) ≠ 1 then s else (s.setRegs [(Obj.slotState k, 2), (Reg.slotEraser k, code)]).slotBound k

/-- Erase the slots that satisfy `p`. -/
def slotsErase (s : State) (p : Nat → Bool) : State := ((List.range 32).filter p).foldl (fun s k => s.slotErase k 0) s

/-- Erase the slots of a world (R100, R403). -/
def worldSlots (s : State) (w : Nat) : State := s.slotsErase (fun k => decide (8 ≤ k) && s.reg (Obj.slotHolder k) == w)

end State
end Sys2Proof.Machine
end

