-- ==== Sys2Proof/Machine/InstOps.lean ====
section
/-!
DEFINITION. Machine/InstOps.lean: guest instances (chapter 5): the set-up mailbox, its operations' parts, quiesce, reset, removal, the teardown of a
world (R100), the end of a session.
-/
namespace Sys2Proof.Machine

/-! Lists of numbers of instances. -/
namespace Num
/-- Worlds whose invalidation the waiting mailbox request of instance `i` needs (R106, R110). -/
abbrev mbWorlds (i : Nat) : Nat := 0xB000000000 + i
/-- Worlds whose invalidation the teardown of world `w` needs (R100). -/
abbrev tearWorlds (w : Nat) : Nat := 0xB000001000 + w
/-- Export numbers that end when the waiting request of instance `i` is answered (R106). -/
abbrev mbEnds (i : Nat) : Nat := 0xB000002400 + i
/-- Memory that the waiting MEM_RELEASE of instance `i` releases: address and blocks of 2 MiB. -/
abbrev mbFrees (i : Nat) : Nat := 0xB000002500 + i
/-- Cuts to come of instance `i`, three numbers each (R135): when, the grant's sub-index, the grant. -/
abbrev resizeCuts (i : Nat) : Nat := 0xB000002300 + i
/-- The 720 counters of snapshot bank `b` (R476). -/
abbrev snapshot (b : Nat) : Nat := 0xB500000020 + b
end Num

namespace State

/-! Sessions. -/

/-- End a session (R37, R476, R480): its shadow holds end with a cause, its per-session objects, snapshot bank and samplers are released, its debug
access closes. -/
def closeSessionFor (s : State) (cause n : Nat) : State :=
  if s.reg (Reg.sessOpen n) = 0 then s
  else
    let s := s.handles.foldl (fun s h => if s.reg (Reg.holder h) = n then s.loseShadow h cause else s) s
    let s := (List.range 4).foldl (fun s b =>
      let s := if s.reg (Reg.snapHolder b) = n then (s.setReg (Reg.snapHolder b) 0).setNum (Num.snapshot b) [] else s
      if s.reg (Reg.sampOn b) ≠ 0 ∧ s.reg (Obj.sampleHolder b) = n then s.setRegs [(Reg.sampOn b, 0), (Obj.sampleHolder b, 0)] else s) s
    let s := (List.range 4).foldl (fun s l => s.setNum (Num.linkSessions l) ((s.num (Num.linkSessions l)).filter (fun m => m != n))) s
    (((s.debugCloseAll n).clearSession n)).setRegs [(Reg.sessOpen n, 0), (Reg.sessPending n, 0), (Reg.partKey n, 0), (Reg.partValue n, 0),
      (Reg.certScope n, 0), (Reg.certUntil n, 0), (Reg.certRef n, 0xFF), (Reg.certOwner n, 0), (Reg.certWorlds n, 0), (Reg.winWait n, 0)]

/-- End a session whose transport ends (R37). -/
def closeSession (s : State) (n : Nat) : State := s.closeSessionFor 3 n

/-- Close every session that satisfies `p`. -/
def closeSessions (s : State) (p : Nat → Bool) : State :=
  (List.range (s.reg Reg.nextSession + 1)).foldl (fun s n => if s.reg (Reg.sessOpen n) = 1 ∧ p n then s.closeSession n else s) s

/-- Sessions of an instance's guest. -/
def guestSession (s : State) (i n : Nat) : Bool :=
  (s.reg (Reg.sessTransport n) == 5 || s.reg (Reg.sessTransport n) == 7) && s.reg (Reg.sessPort n) == i

/-- Open the GST session of an instance; nothing is answered. -/
def openGuest (s : State) (i w : Nat) : State :=
  { s.openSession (if i < 32 then 5 else 7) i Cls.gst w with answer := s.answer }

/-! Work in flight. -/

/-- Drop items with notice and signal their completion fences (table Command classes, R431). -/
def dropItems (s : State) (p : Item → Bool) (cause : Nat) : State :=
  let gone := s.items.filter p
  let s := s.itemsDrop p cause
  gone.foldl (fun s (t : Item) => if t.fence = 0 then s else s.signalFence t.inst (if t.ring < 8 then t.ring else 8) (t.fence - 1) t.fval) s

/-- The pass in progress of a ring is the work of item `t`. -/
def passOf (s : State) (t : Item) : Bool :=
  rendererRing t.ring && s.reg (Reg.nimPass t.inst t.ring) == 1 && s.reg (Reg.passItem t.inst t.ring) == t.seq

/-- The unfinished part of an item is undone (R430): its buffer leaves its stream, a pass in progress is abandoned. A pass to run again starts at its
RPTR; one that is not is skipped to its end. -/
def itemUndo (s : State) (t : Item) (again : Bool) : State :=
  let s := if again then s else
    { s with
      audBufs := (s.audBufs.map (fun p => (p.1, p.2.filter (fun (b : AudBuf) => b.seq != t.seq)))).filter (fun p => !p.2.isEmpty) }
  if !s.passOf t then s
  else
    let s := s.passClear t.inst t.ring
    let s := if s.reg Reg.nimCur = 8 * t.inst + t.ring + 1 then s.setReg Reg.nimCur 0 else s
    if again then s.setRegs [(Reg.ringRptr t.inst t.ring, t.rptr), (Reg.ringState t.inst t.ring, 2)]
    else s.setReg (Reg.passSkip t.inst t.ring) 1

/-- Resolve an item after a fault of its unit or a return from hold-up (R430, R435): class R runs again unless it has been replayed twice; the fences
of a dropped one are signalled. `lost` marks an item whose ITEM_ACCEPT record was skipped (R429). -/
def itemReturn (s : State) (t : Item) (lost : Bool) (cause : Nat) : State :=
  let again := !lost && decide (t.replays < 2) && t.cls == classR
  let s := s.itemUndo t again
  let s := if lost then s.itemOutcome t 2 7 else s.itemResolve t cause
  if again ∨ t.cls = classX ∨ t.fence = 0 then s
  else s.signalFence t.inst (if t.ring < 8 then t.ring else 8) (t.fence - 1) t.fval

/-! The set-up mailbox. -/

/-- Answer a set-up request (R130, R433): the SETUP record, then MB_DONE; to an Ethernet guest the response record also travels as CHAN 0x81. -/
def mbAnswer (s : State) (i op seq tag st : Nat) (d : Bytes) : State :=
  let r := respRecord op 0 0 0 st tag d
  let s := s.jnl 0x30 U.hal (s.instWorld i) i false (record [(2, seq), (1, op), (2, st)] ++ r.take 28)
  let s := s.setRegs [(Reg.mbSeq i, seq), (Reg.mbDone i, seq), (Reg.mbStatus i, st), (Reg.mbResp i, encDomain r), (Reg.mbBusy i, 0), (Reg.mbWait i, 0)]
  let s := if 32 ≤ i then s.remoteSend i 0x81 r else s
  { s with answer := ⟨st, d⟩ }

/-- Carry out a set-up operation (R130 to R136, R488). `held` marks an operation that returns BUSY while the instance is quiescing or quiesced; every
operation does while Halyard restarts (R414). `f` answers the status and data, or none while the operation waits for invalidations. -/
def mbRequest (s : State) (i op : Nat) (m : Mail) (held : Bool) (f : State → State × Option (Nat × Bytes)) : State :=
  let st := s.reg (Obj.instState i)
  if 47 < i ∨ st = 0 ∨ !s.inService then s
  else s.arrives i m.dg (fun s =>
    if s.reg (Reg.mbBusy i) = 1 then s.overrun i
    else
      let s := s.setReg (Reg.instOpen i) 0
      if s.reg Reg.halServing = 0 ∨ 4 ≤ st ∨ (held ∧ st ≠ 1) then s.mbAnswer i op m.seq m.tag St.busy []
      else if s.jnlFull then s.mbAnswer i op m.seq m.tag St.limitReached []
      else match f s with
        | (s, some (st, d)) => s.mbAnswer i op m.seq m.tag st d
        | (s, none) => s.setRegs [(Reg.mbSeq i, m.seq), (Reg.mbBusy i, 1), (Reg.mbWait i, 1), (Reg.mbOp i, op), (Reg.mbTag i, m.tag)])

/-- The waiting request of instance `i` has what it waited for (R106, R110, R130): what it revokes is gone, and it is answered. -/
def mbFinish (s : State) (i : Nat) : State :=
  let s := ((s.revoked (s.num (Num.mbEnds i))).setNum (Num.mbEnds i) []).setNum (Num.mbFrees i) []
  s.mbAnswer i (s.reg (Reg.mbOp i)) (s.reg (Reg.mbSeq i)) (s.reg (Reg.mbTag i)) St.ok []

/-- Halyard has restarted while a request waited in the mailbox of instance `i` (R433, R434, command class X): it is undone, answered with JNL_REFUSED, and the
world is told. ITEM_SEQ is that of an item, and a request is none: it reads 0 (DESIGN CHOICE, log 43). -/
def mbRefused (s : State) (i : Nat) : State :=
  let op := s.reg (Reg.mbOp i)
  let seq := s.reg (Reg.mbSeq i)
  let s := match s.num (Num.mbFrees i) with
    | [a, n] => s.unmapCancel (s.instWorld i) a n 0
    | _ => s
  let s := (((s.revokeUndo (s.num (Num.mbEnds i))).setNum (Num.mbEnds i) []).setNum (Num.mbFrees i) []).setNum (Num.mbWorlds i) []
  let s := { s.mbAnswer i op seq (s.reg (Reg.mbTag i)) St.jnlRefused [] with answer := s.answer }
  s.raise [.inst i] U.hal St.jnlRefused (s.instWorld i) 2 [(6, 0), (1, 0xFE), (1, 1), (4, seq), (1, op), (1, 0)]

/-- A guest virtual address is mapped and readable in a context. -/
def mapped (s : State) (w root a : Nat) (acc : Acc) : Bool := match s.xlateByte w root a acc with
  | .ok _ => true
  | .error _ => false

/-- A guest space address lies in memory that the world may read. -/
def readable (s : State) (w a : Nat) : Bool := match s.s2 w a false with
  | .ok l => l.r && s.fabricStatus l.kind l.addr == St.ok
  | .error _ => false

/-- Own DRAM is mapped at `n` pages of guest space from `a` up: hashed DRAM under the world's own key, and none of it is being released. -/
def ownPagesAt (s : State) (w a n : Nat) : Bool :=
  !s.releasing w (a / frameBytes * frameBytes) (ceilDiv (a % frameBytes + 4096 * n) frameBytes) && (List.range n).all (fun k => match s.s2 w (a + 4096 * k) false with
    | .ok l => l.kind == 0 && l.w
    | .error _ => false)

/-- Context IDs in use (R210). -/
def ctxTaken (s : State) (c : Nat) : Bool := ctxRings.any (fun x => s.reg (Reg.ringCtx (x / 8) (x % 8)) == c)

/-- The next free context ID above the last one assigned (R210). -/
def nextCtx (s : State) : Option Nat :=
  ((List.range 1015).map (fun k => (s.reg Reg.ctxLast + k) % 1015 + 1)).find? (fun c => !s.ctxTaken c)

/-- A ring returns to state NONE and its context ID is released (RING_DESTROY). -/
def ringGone (s : State) (i r : Nat) : State :=
  let s := if s.reg Reg.nimCur = 8 * i + r + 1 then s.setReg Reg.nimCur 0 else s
  (s.passClear i r).setRegs [(Reg.ringState i r, 0), (Reg.ringLast i r, 0), (Reg.ringBase i r, 0), (Reg.ringLog2 i r, 0), (Reg.ringVector i r, 0),
    (Reg.ringRptr i r, 0), (Reg.ringWptr i r, 0), (Reg.ringCtx i r, 0), (Reg.nimPipe i r, 0), (Reg.nimState i r, 0), (Reg.nimPrio i r, 1)]

/-- The event queue of an instance ceases to exist. -/
def eqGone (s : State) (i : Nat) : State :=
  let s := s.setRegs [(Reg.eqExists i, 0), (Reg.eqBase i, 0), (Reg.eqLog2 i, 0), (Reg.eqVector i, 0), (Reg.eqHoldoff i, 0), (Reg.eqProd i, 0), (Reg.eqCons i, 0),
    (Reg.eqLost i, 0), (Reg.eqSeq i, 0), (Reg.eqFull i, 0), (Reg.eqLostInfo i, 0), (Reg.eqLostOther i, 0), (Reg.eqFirstLost i, 0xFFFFFFFF), (Reg.eqIrqLast i, 0),
    (Reg.eqIrqDue i, 0)]
  s.setEqStored i []

/-- Memory of world `w` mapped so far against its grant (R131, R135), in MiB. -/
def memLimit (s : State) (w : Nat) : Nat := (s.worldInsts w).foldl (fun a i => a + s.reg (Obj.instMemLimitMiB i)) 0

/-- Keep MemGrantedMiB and tell an instance whose world came within its new grant (R135). -/
def memDerive (s : State) (w : Nat) : State :=
  let s := s.setReg (Obj.memGrantedMiB w) (2 * s.reg (Reg.memPages w))
  (s.worldInsts w).foldl (fun s i =>
    if s.reg (Reg.resizeMem i) = 1 ∧ 2 * s.reg (Reg.memPages w) ≤ s.memLimit w then
      (s.setReg (Reg.resizeMem i) 0).raise [.inst i] U.hal St.resized w 1 [(1, 4), (4, s.reg (Obj.instMemLimitMiB i))]
    else s) s

/-! Reservations (R131, R135, R353). -/

/-- /fj/fab admits a bandwidth for instance `i` in place of its present one (R150). -/
def bulkAdmits (s : State) (i b : Nat) : Bool :=
  let total := ((s.worldReserves Reg.resBandwidth).map Prod.snd).foldl (· + ·) 0
  decide (total - s.reg (Reg.resBandwidth i) + b ≤ 160000 - s.reg Obj.scanReservedMBps - s.reg Obj.rtReservedMBps)

/-- Put reservations in force for an instance and keep the objects that show them. -/
def reserve (s : State) (i r b a t : Nat) : State :=
  let s := s.setRegs [(Reg.resRenderer i, r), (Reg.resBandwidth i, b), (Reg.resAudio i, a), (Reg.resTouch i, t),
    (Obj.instReserved i, leNat (record [(4, r), (4, b), (4, a), (2, t)]))]
  s.bulkYield.audDerive

/-! Teardown of a world (R100, R119). -/

/-- A block on its way out of the hands of world `w`, or held by it. -/
def blockBusyOf (s : State) (w h : Nat) : Bool :=
  isBlock h && s.reg (Reg.blockState h) != 6 && (s.reg (Reg.blockHolder h) == w || s.reg (Reg.blockFrom h) == w) && s.reg (Reg.unitState h) != 5

/-- The last steps of a teardown: the memory goes back to the free pool, the ID becomes FREE with its WorldGen advanced. -/
def worldFree (s : State) (w : Nat) : State :=
  let s := ((s.frameDropAll w).setNum (Num.pipes w) []).setNum (Num.unmapPend w) []
  s.setRegs [(Obj.worldState w, 0), (Obj.worldKind w, 0xFF), (Obj.worldGen w, (s.reg (Obj.worldGen w) + 1) % 65536),
    (Obj.memGrantedMiB w, 0), (Reg.memPages w, 0), (Obj.debugMark w, 0), (Obj.debugConsent w, 0), (Obj.blocksHeld w, 0), (Reg.worldRoot w, 0), (Reg.tblNext w, 0),
    (Reg.tblEnd w, 0), (Reg.tearPhase w, 0), (Obj.worldsFree, s.reg Obj.worldsFree + 1)]

/-- Blocks that a world still holds though they are DEAD: they pass to Halyard as they are, since nothing can drain or scrub them (R100 step 1; DESIGN CHOICE, log 43). -/
def deadBlocksGone (s : State) (w : Nat) : State :=
  ((List.range handleEnd).filter (fun h => isBlock h && s.reg (Reg.blockHolder h) == w && s.reg (Reg.unitState h) == 5)).foldl (fun s h => s.setHolder h 0) s

/-- Step 3 of R100: the world's own translations are invalidated. -/
def tearOwn (s : State) (w : Nat) : State :=
  let s := s.dropViews (fun v => v.world == w)
  ((State.invalidate s w).setNum (Num.tearWorlds w) [w]).setReg (Reg.tearPhase w) 2

/-- Carry a teardown as far as it can go (R100): blocks; then the views that others hold, and their invalidation; then the world's own invalidation; then the key;
then the memory. -/
def teardownNext (s : State) (w : Nat) : State :=
  if s.reg (Obj.worldState w) ≠ 5 then s
  else if (List.range handleEnd).any (fun h => s.blockBusyOf w h) then s
  else if s.reg (Reg.tearPhase w) = 0 then
    let s := s.deadBlocksGone w
    let mine := (s.exports.filter (fun e => e.world == w)).map Export.num
    let ws := (((s.views.filter (fun v => mine.contains v.num)).map View.world).dedup).filter (· != w)
    let s := s.dropViews (fun v => mine.contains v.num)
    let s := ({ s with exports := s.exports.filter (fun e => e.world != w) }.setNum (Num.tearWorlds w) ws).setReg (Reg.tearPhase w) 1
    if ws = [] then s.tearOwn w else s
  else if s.num (Num.tearWorlds w) ≠ [] then s
  else if s.reg (Reg.tearPhase w) = 1 then s.tearOwn w
  else (s.memKeyErase w).1.worldFree w

/-- Keys that hold a session's destination, and those of a block's route. -/
def routeKeys : List Nat := [Reg.pendDest 0, Reg.holdDest 0, Reg.sampDest 0, Reg.quiesceDest 0, Reg.blockReqDest 0].map (· / 0x10000000000)

/-- Every event route that names world `w` goes, whatever its WorldGen (R487): a destination kept for one of its sessions then delivers nothing, and what its
blocks raise goes to Halyard (R120). -/
def dropRoutes (s : State) (w : Nat) : State :=
  let s := { s with regs := s.regs.map (fun (p : Nat × Nat) =>
    if routeKeys.contains (p.1 / 0x10000000000) && decide (2 ≤ p.2) && (p.2 - 2) / 0x100 % 0x100 == w then (p.1, 2 + 0x100 * (w + 0x100 * 0x10000)) else p) }
  (s.heldBlocks w).foldl (fun s h => s.setReg (Reg.worldRoute h) 0x10000) s

/-- A world enters TEARDOWN: debug access closes, its event routes go (R487), its layers lose their pools, its flips are dropped, its blocks are recalled at once with no grace. -/
def teardown (s : State) (w : Nat) : State :=
  let s := ((s.debugCloseWorld w).setReg (Obj.worldState w) 5).dropRoutes w
  let s := (s.abandonGrants w).worldSlots w
  let s := (List.range 8).foldl (fun s n =>
    let s := s.flipClear w n
    (List.range 8).foldl (fun s l => if s.reg (Reg.poolWorld n l) = w + 1 then
      (s.poolDrop n l).setRegs [(Reg.layerSurface n l, 0), (Reg.layerRelease n l, 0), (Reg.oldRelease n l, 0), (Obj.layerActiveSurface n l, 0)] else s) s) s
  let s := (s.heldBlocks w).foldl (fun s h =>
    let s := if s.reg (Reg.blockState h) = 0 then s.startRecall h 1 0 else s
    if s.reg (Reg.blockState h) = 1 then s.startDrain h else s) s
  s.teardownNext w

/-! Quiesce, reset, removal (R136 to R138). -/

/-- State of a guest world from its instances (table World state codes): RUNNING while one runs, QUIESCED when all are, else QUIESCING. A world that leaves RUNNING has
its grants abandoned (R119). -/
def worldDerive (s : State) (w : Nat) : State :=
  let is := s.worldInsts w
  let was := s.reg (Obj.worldState w)
  if w < 4 ∨ was = 0 ∨ was = 5 ∨ is = [] then s
  else
    let now := if is.any (fun i => s.reg (Obj.instState i) == 1) then 2 else if is.all (fun i => s.reg (Obj.instState i) == 3) then 4 else 3
    let s := s.setReg (Obj.worldState w) now
    if was = 2 ∧ now ≠ 2 then s.abandonGrants w else s

/-- Raise an event about an instance (R137): to the requester, the owner, and every other instance of its world. -/
def instEvent (s : State) (i st w req code : Nat) : State :=
  s.raise ((if req = 0 then [] else [.code code]) ++ [.owner] ++ ((s.worldInsts w).filter (fun j => j != i)).map Dest.inst) U.hal st w 1 [(1, i)]

/-- Destroy what a reset destroys: rings, event queue, stage 1, mailbox, gathered flips, work not ended. -/
def instClear (s : State) (i : Nat) : State :=
  let s := s.dropItems (fun t => t.inst == i) 4
  let s := (List.range 8).foldl (fun s r => s.ringGone i r) s
  let s := (List.range 8).foldl (fun s n => s.setFifo (Fifo.flipOpen i n) []) s
  let s := (List.range 9).foldl (fun s c => s.setReg (Reg.s1Root i c) 0) s
  let s := (((s.revoked (s.num (Num.mbEnds i))).setNum (Num.mbEnds i) []).setNum (Num.mbFrees i) []).setNum (Num.mbWorlds i) []
  (s.eqGone i).setRegs [(Reg.mbSeq i, 0), (Reg.mbDone i, 0), (Reg.mbResp i, 0), (Reg.mbBusy i, 0), (Reg.mbWait i, 0), (Reg.quiesceDue i, 0)]

/-- Reset a QUIESCED instance (R137). -/
def instReset (s : State) (i req code : Nat) : State :=
  let s := ((s.instClear i).setRegs [(Reg.mbStatus i, St.instanceReset), (Reg.instOpen i, 1), (Obj.instState i, 1), (Reg.flrReset i, 0)]).worldDerive (s.instWorld i)
  s.instEvent i St.instanceReset (s.instWorld i) req code

/-- The doorbell page of an instance reads zeros again (R124). -/
def doorbellsClear (s : State) (i : Nat) : State := (List.range 9).foldl (fun s r => s.setReg (Reg.doorbellLast i r) 0) s

/-- Remove a QUIESCED instance (R137). -/
def instRemove (s : State) (i req code : Nat) : State :=
  let w := s.instWorld i
  let s := ((s.instClear i).reserve i 0 0 0 0).doorbellsClear i
  let s := s.closeSessions (fun n => s.guestSession i n)
  let s := (s.setRegs [(Obj.instState i, 0), (Obj.instWorld i, 0xFF), (Reg.instKindTag i, 0), (Obj.instancesFree, s.reg Obj.instancesFree + 1),
    (Reg.mbStatus i, St.instanceAbsent), (Reg.flrReset i, 0), (Reg.remoteOn i, 0), (Reg.remoteHold i, 0), (Reg.resizeMem i, 0)]).setNum (Num.resizeCuts i) []
  let s := s.instEvent i St.instanceRemoved w req code
  if (s.worldInsts w).isEmpty then s.teardown w else s.worldDerive w

/-- All work of a quiescing instance has ended or is paused at a preemption point (R136). -/
def workEnded (s : State) (i : Nat) : Bool :=
  s.items.all (fun (t : Item) => t.inst != i || (decide (t.ring < 8) && s.reg (Reg.nimPass i t.ring) == 1 && s.reg (Reg.passItem i t.ring) == t.seq))

/-- What an instance's quiesce was for (R134, R138): a removal, a reset, a report that its link is lost. -/
def afterQuiesce (s : State) (i : Nat) : State :=
  let why := s.reg (Reg.flrReset i)
  let s := s.setReg (Reg.flrReset i) 0
  let s := if bit why 1 then s.raise [.owner] U.hal St.linkLost (s.instWorld i) 2 [(1, i)] else s
  if bit why 2 then s.instRemove i 0 0 else if bit why 0 then s.instReset i 0 0 else s

/-- The instance becomes QUIESCED (R136): its rings are HELD, and what waited for it follows. -/
def quiesceEnd (s : State) (i : Nat) : State :=
  let s := (List.range 8).foldl (fun s r => if s.reg (Reg.ringState i r) = 1 ∨ s.reg (Reg.ringState i r) = 2 then s.setReg (Reg.ringState i r) 4 else s) s
  let s := if s.reg Reg.nimCur ≠ 0 ∧ (s.reg Reg.nimCur - 1) / 8 = i then s.setReg Reg.nimCur 0 else s
  let req := s.reg (Reg.quiesceReq i)
  let code := s.reg (Reg.quiesceDest i)
  let s := (s.setRegs [(Obj.instState i, 3), (Reg.quiesceDue i, 0), (Reg.quiesceReq i, 0)]).worldDerive (s.instWorld i)
  let s := s.raise ([.inst i] ++ (if req = 0 then [] else [.code code])) U.hal St.quiesceDone (s.instWorld i) 1 [(1, i)]
  s.afterQuiesce i

/-- An instance enters QUIESCING (R136). -/
def quiesceStart (s : State) (i n ms : Nat) : State :=
  (s.setRegs [(Obj.instState i, 2), (Reg.quiesceDue i, s.now + 1000000 * ms), (Reg.quiesceReq i, n), (Reg.quiesceDest i, s.sessDest n)]).worldDerive (s.instWorld i)

/-- Quiesce an instance for the device itself: bit `why` says what follows (0 a reset, 1 a report of a link loss, 2 a removal), beside what an earlier cause asked for. -/
def quiesceFor (s : State) (i why ms : Nat) : State :=
  let st := s.reg (Obj.instState i)
  if st = 0 ∨ 4 ≤ st then s
  else
    let s := s.setReg (Reg.flrReset i) (setBit (s.reg (Reg.flrReset i)) why)
    if st = 1 then s.quiesceStart i 0 ms
    else if st = 2 then s.setReg (Reg.quiesceDue i) (min (s.reg (Reg.quiesceDue i)) (s.now + 1000000 * ms))
    else s.afterQuiesce i

end State
end Sys2Proof.Machine
end

