-- ==== Sys2Proof/Machine/Instances.lean ====
section
/-!
DEFINITION. Machine/Instances.lean: the commands of chapter 5: doorbells, the event queue's consumer, set-up operations, the remote-instance transport,
resizing, quiesce, reset and removal, yields' ends.
-/
namespace Sys2Proof.Machine

/-! Parts of the instance commands. -/
namespace Inst

/-- A refusal of a set-up operation. -/
def no (s : State) (st : Nat) : State × Option (Nat × Bytes) := (s, some (st, []))

/-- A set-up operation that is done, with its data. -/
def ok (s : State) (d : Bytes) : State × Option (Nat × Bytes) := (s, some (St.ok, d))

/-- A set-up operation that waits for the invalidation of some worlds and then ends exports; at once done where there is none. -/
def waitFor (s : State) (i : Nat) (ends ws : List Nat) : State × Option (Nat × Bytes) :=
  if ws.isEmpty then ok (s.revoked ends) [] else ((s.setNum (Num.mbWorlds i) ws).setNum (Num.mbEnds i) ends, none)

/-- Write EQ_OVERFLOW once space frees (R129): it takes its sequence number now. -/
def overflow (s : State) (i : Nat) : State :=
  let pl := record [(4, s.reg (Reg.eqLostInfo i)), (4, s.reg (Reg.eqLostOther i)), (4, s.reg (Reg.eqFirstLost i))]
  let e : Event := ⟨s.now, U.hal, St.eqOverflow, s.instWorld i, 2, s.reg (Reg.eqSeq i), padTo 14 pl⟩
  ((s.bump (Reg.eqSeq i) 32).eqWrite i e).setRegs [(Reg.eqLostInfo i, 0), (Reg.eqLostOther i, 0), (Reg.eqFirstLost i, 0xFFFFFFFF), (Reg.eqFull i, 2)]

/-- Write stored events in order while there is space (R129). -/
def drainStore (s : State) (i : Nat) : List Event → State
  | [] => (s.setEqStored i []).setReg (Reg.eqFull i) 0
  | e :: es => if s.eqSpace i = 0 then (s.setEqStored i (e :: es)).setReg (Reg.eqFull i) 1 else drainStore (s.eqWrite i e) i es

/-- A ring that can run again looks at the packet at its RPTR. -/
def look (s : State) (i r : Nat) : State := if s.ringWaiting i r = 0 then s else s.lookAhead i r

/-- The requester of an InstOp is answered (R518). -/
def opAnswer (s : State) (n i st : Nat) : State := (s.setReg (skey n (Obj.instOpStatus i)) st).reply st

/-- An InstOp of a session on instance `i`. -/
def op (n i : Nat) (f : State → State × Nat) (s : State) : State :=
  if 55 < i then s
  else s.gated n (Obj.instOp i) (fun s =>
    let x := f s
    opAnswer x.1 n i x.2)

/-- World kind code of an instance (table Instance kinds). -/
def kind (i : Nat) : Nat := if i < 32 then 3 else if i < 48 then 4 else 5

/-- An enabled instance with the same non-zero GuestTag (R125). -/
def sameTag (s : State) (tag : Nat) : Option Nat :=
  if tag = 0 then none
  else (List.range 56).find? (fun j => s.reg (Obj.instState j) != 0 && s.reg (Reg.instKindTag j) == tag && s.reg (Obj.worldState (s.instWorld j)) != 5)

/-- The blocks that a video instance's enable grants to its world (R126). -/
def videoBlocks (s : State) (i : Nat) : List Nat := if i < 48 then [] else [U.dpr (i - 48), s.reg (Obj.instVideoUsbPort i)]

/-- A block that cannot be granted to a new world. -/
def notGrantable (s : State) (h : Nat) : Nat :=
  if !isBlock h then St.handoverNotBlock
  else if s.reg (Reg.unitState h) = 5 then St.unitDead
  else if s.reg (Reg.blockState h) = 0 then St.handoverNotFree
  else if s.reg (Reg.blockState h) ≠ 6 ∨ s.reg (Reg.blockTo h) ≠ 0 then St.busy
  else St.ok

/-- Put an instance into a world and make it RUNNING. -/
def start (s : State) (n i w tag : Nat) : State :=
  let s := s.setRegs [(Obj.instState i, 1), (Obj.instWorld i, w), (Reg.instKindTag i, tag), (Obj.instancesFree, s.reg Obj.instancesFree - 1), (Reg.mbStatus i, 0),
    (Reg.mbSeq i, 0), (Reg.mbDone i, 0), (Reg.mbResp i, 0), (Reg.mbBusy i, 0), (Reg.instOpen i, 0), (Reg.poolPeakInst i, 0)]
  let s := (s.doorbellsClear i).worldDerive w
  let s := (List.range 4).foldl (fun s j => s.counterZero (488 + 4 * i + j)) s
  let s := if i < 32 then s.openGuest i w else s
  (videoBlocks s i).foldl (fun s h => s.startGrant h w n) s

/-- Enable an instance (R99, R125, R126, R518). -/
def enable (s : State) (n i : Nat) : State × Nat :=
  let tag := s.reg (Obj.instGuestTag i)
  if s.reg Obj.lifecycleState = 4 then (s, St.lifecycleState)
  else if s.reg (Obj.instState i) ≠ 0 then (s, St.busy)
  else match (videoBlocks s i).find? (fun h => notGrantable s h != St.ok) with
    | some h => (s, notGrantable s h)
    | none => match sameTag s tag with
      | some j =>
        if s.reg (Obj.worldKind (s.instWorld j)) ≠ kind i ∨ 8 ≤ (s.worldInsts (s.instWorld j)).length then (s, St.tagConflict)
        else (start s n i (s.instWorld j) tag, St.ok)
      | none => if s.reg Reg.rngStopped = 1 then (s, St.cryptoRngFail) else match s.createWorld (kind i) with
        | none => (s.raise [.hal, .owner] U.hal St.limitReached 0xFF 2 [(1, i), (2, tag)], St.limitReached)
        | some (w, s) => (start s n i w tag, St.ok)

/-- Grants of an instance by sub-index 04 to 08, and what it holds against each (R135). -/
def held (s : State) (i sub : Nat) : Nat :=
  if sub = 4 then 2 * s.reg (Reg.memPages (s.instWorld i)) else if sub = 5 then s.reg (Reg.resRenderer i)
  else if sub = 6 then s.reg (Reg.resBandwidth i) else if sub = 7 then s.reg (Reg.resAudio i) else s.reg (Reg.resTouch i)

/-- A grant lies below what the instance holds (R135). A latency is above its grant when it is shorter than AudioLatencyUs. -/
def above (s : State) (i sub : Nat) : Bool :=
  let g := s.reg (okey (0x900 + i) sub)
  if sub = 4 then decide (s.memLimit (s.instWorld i) < held s i 4)
  else if sub = 7 then held s i 7 != 0 && (g == 0 || decide (held s i 7 < g))
  else decide (g < held s i sub)

/-- The new value `v` of grant `sub` is a decrease: a latency grant decreases as its shortest latency grows, or ends (R135). -/
def lowers (old sub v : Nat) : Bool := if sub = 7 then old != 0 && (v == 0 || decide (old < v)) else decide (v < old)

/-- Cut the reservation of instance `i` against grant `x.1` to `x.2`, or to the present grant where that is higher, and tell the instance (R135). -/
def cut (i : Nat) (s : State) (x : Nat × Nat) : State :=
  if !above s i x.1 then s
  else
    let g := s.reg (okey (0x900 + i) x.1)
    let lim := if x.1 = 7 then (if g = 0 ∧ x.2 = 0 then 0 else max (held s i 7) (if x.2 = 0 then g else if g = 0 then x.2 else min x.2 g)) else min (held s i x.1) (max x.2 g)
    let keep := fun (k : Nat) => if k = x.1 then lim else held s i k
    (s.reserve i (keep 5) (keep 6) (keep 7) (keep 8)).raise [.inst i] U.hal St.resized (s.instWorld i) 1 [(1, x.1), (4, g)]

/-- The cuts of a list that are due, and the others. -/
def cutsDue (now : Nat) : List Nat → List (Nat × Nat) × List Nat
  | due :: sub :: v :: l =>
    let r := cutsDue now l
    if now < due then (r.1, due :: sub :: v :: r.2) else ((sub, v) :: r.1, r.2)
  | _ => ([], [])

end Inst

/-- DOORBELL (R127, R136, R206, R183): a doorbell write to ring `r` of instance `i`. -/
def execDoorbell (i r wptr : Nat) (dg : Dgram) (s : State) : Host.Outcome State Fault Refusal :=
  s.whenUp (fun s =>
    .next (
      let st := s.reg (Obj.instState i)
      let w := wptr % 2 ^ 32
      if 47 < i ∨ 7 < r ∨ st = 0 ∨ 4 ≤ st ∨ !s.inService then s
      else s.arrives i dg (fun s =>
        let s := s.setReg (Reg.doorbellLast i r) w
        let rs := s.reg (Reg.ringState i r)
        if rs = 0 then s.raise [.inst i] U.hal St.ringState (s.instWorld i) 2 [(1, r), (4, w)]
        else if rs = 3 then s.setReg (Reg.ringWptr i r) w
        else if 2 ^ s.reg (Reg.ringLog2 i r) / 4 < (w + 2 ^ 32 - s.reg (Reg.ringRptr i r)) % 2 ^ 32 then
          (s.raise [.inst i] U.hal St.ringOverrun (s.instWorld i) 3 [(1, r), (4, w)]).stopRing i r St.ringOverrun
        else
          let s := s.setReg (Reg.ringWptr i r) w
          if st ≠ 1 ∨ rs = 4 then s
          else
            let s := if s.ringWaiting i r = 0 then s else s.setReg (Reg.ringState i r) 2
            let s := if s.reg (Reg.nimPass i r) = 1 ∧ s.reg (Reg.nimWait i r) = 3 then s.extReread i r false else s
            let s := if s.reg (Reg.nimWait i r) = 1 then s.fenceCheck i r else s
            Inst.look s i r)))

/-- EQ_CONS_DOORBELL (R129): the guest has consumed records; EQ_OVERFLOW and stored events follow where the queue was full. -/
def execEqConsDoorbell (i cons : Nat) (dg : Dgram) (s : State) : Host.Outcome State Fault Refusal :=
  s.whenUp (fun s =>
    .next (
      let st := s.reg (Obj.instState i)
      if 47 < i ∨ st = 0 ∨ 4 ≤ st ∨ !s.inService then s
      else s.arrives i dg (fun s =>
        let s := s.setReg (Reg.doorbellLast i 8) (cons % 2 ^ 32)
        if s.reg (Reg.eqExists i) = 0 then s
        else
          let s := s.setReg (Reg.eqCons i) (cons % 2 ^ 32)
          if s.reg (Reg.eqFull i) = 0 ∨ s.eqSpace i = 0 then s
          else
            let s := if s.reg (Reg.eqFull i) = 1 then Inst.overflow s i else s
            (Inst.drainStore s i (s.eqStored i)).eqInterrupt i)))

/-- EQ_HOLDOFF_EXPIRY (R128): the interrupt that waited for EQ_HOLDOFF_US is raised. -/
def execEqHoldoffExpiry (i : Nat) (s : State) : Host.Outcome State Fault Refusal :=
  s.whenUp (fun s =>
    .next (if s.reg (Reg.eqExists i) = 0 ∨ s.reg (Reg.eqIrqDue i) = 0 then s else s.eqInterrupt i))

/-- RING_CREATE (R131, R210). -/
def execRingCreate (i : Nat) (m : Mail) (r log2 vector base : Nat) (s : State) : Host.Outcome State Fault Refusal :=
  s.whenUp (fun s =>
    .next (s.mbRequest i 0x40 m true (fun s =>
      if 7 < r ∨ s.reg (Reg.ringState i r) ≠ 0 then Inst.no s St.ringState
      else if log2 < 12 ∨ 22 < log2 ∨ vector < 1 ∨ 63 < vector then Inst.no s St.valueRange
      else if base % 4096 ≠ 0 ∨ !s.mapped (s.instWorld i) (s.reg (Reg.s1Root i r)) base .read then Inst.no s St.badAlign
      else
        let s' := s.setRegs [(Reg.ringState i r, 1), (Reg.ringLast i r, 0), (Reg.ringBase i r, base), (Reg.ringLog2 i r, log2), (Reg.ringVector i r, vector),
          (Reg.ringRptr i r, 0), (Reg.ringWptr i r, 0)]
        if !rendererRing r then Inst.ok s' []
        else match s.nextCtx with
          | none => Inst.no s St.limitReached
          | some c => Inst.ok (s'.setRegs [(Reg.ringCtx i r, c), (Reg.ctxLast, c), (Reg.nimPrio i r, 1)]) [])))

/-- RING_DESTROY (R131): BUSY while RPTR differs from WPTR_SEEN, but for a STOPPED ring, which takes no further words (R127; log 19). -/
def execRingDestroy (i : Nat) (m : Mail) (r : Nat) (s : State) : Host.Outcome State Fault Refusal :=
  s.whenUp (fun s =>
    .next (s.mbRequest i 0x41 m false (fun s =>
      if 7 < r ∨ s.reg (Reg.ringState i r) = 0 then Inst.no s St.ringState
      else if s.ringWaiting i r ≠ 0 ∧ s.reg (Reg.ringState i r) ≠ 3 then Inst.no s St.busy
      else Inst.ok (s.ringGone i r) [])))

/-- EQ_CREATE (R131). -/
def execEqCreate (i : Nat) (m : Mail) (log2 vector holdoff base : Nat) (s : State) : Host.Outcome State Fault Refusal :=
  s.whenUp (fun s =>
    .next (s.mbRequest i 0x42 m false (fun s =>
      if log2 < 6 ∨ 16 < log2 ∨ 63 < vector ∨ 1000 < holdoff then Inst.no s St.valueRange
      else if base % 4096 ≠ 0 ∨ !s.mapped (s.instWorld i) (s.reg (Reg.s1Root i 8)) base .write then Inst.no s St.badAlign
      else Inst.ok ((s.eqGone i).setRegs [(Reg.eqExists i, 1), (Reg.eqBase i, base), (Reg.eqLog2 i, log2), (Reg.eqVector i, vector), (Reg.eqHoldoff i, holdoff)]) [])))

/-- S1_SET (R103): `cls` 0 sets every context of the instance, 1 to 8 that of ring `cls` - 1. -/
def execS1Set (i : Nat) (m : Mail) (cls base : Nat) (s : State) : Host.Outcome State Fault Refusal :=
  s.whenUp (fun s =>
    .next (s.mbRequest i 0x43 m false (fun s =>
      let off := base = 0xFFFFFFFFFFFFFFFF
      if 8 < cls then Inst.no s St.valueRange
      else if !off ∧ (base % 4096 ≠ 0 ∨ 2 ^ 52 ≤ base ∨ !s.readable (s.instWorld i) base) then Inst.no s St.badAlign
      else
        let v := if off then 0 else base + 1
        Inst.ok (if cls = 0 then (List.range 9).foldl (fun s c => s.setReg (Reg.s1Root i c) v) s else s.setReg (Reg.s1Root i (cls - 1)) v) [])))

/-- MB_S1_INVALIDATE (R110): answered when the invalidation of the guest's own translations completes. -/
def execMbS1Invalidate (i : Nat) (m : Mail) (s : State) : Host.Outcome State Fault Refusal :=
  s.whenUp (fun s =>
    .next (s.mbRequest i 0x44 m false (fun s => Inst.waitFor (State.invalidate s (s.instWorld i)) i [] [s.instWorld i])))

/-- MEM_REQUEST (R115, R131): `n` blocks of 2 MiB at guest space address `a`. -/
def execMemRequest (i : Nat) (m : Mail) (a n : Nat) (s : State) : Host.Outcome State Fault Refusal :=
  s.whenUp (fun s =>
    .next (s.mbRequest i 0x45 m true (fun s =>
      let w := s.instWorld i
      if s.memLimit w < 2 * (s.reg (Reg.memPages w) + n) then Inst.no s St.grantExceeded
      else if a % frameBytes ≠ 0 then Inst.no s St.badAlign
      else if 2 ^ 52 < a + n * frameBytes then Inst.no s St.valueRange
      else if !(List.range n).all (fun k => s.slotEmpty w (a + k * frameBytes)) then Inst.no s St.addrInUse
      else match s.mapMemory w a n with
        | none => Inst.no s St.limitReached
        | some s => Inst.ok ((s.setReg (Reg.memPages w) (s.reg (Reg.memPages w) + n)).memDerive w) [])))

/-- MEM_RELEASE (R110, R131): answered when the invalidations complete, which unmap the memory and return its frames. Exports that lie in it end with it. -/
def execMemRelease (i : Nat) (m : Mail) (a n : Nat) (s : State) : Host.Outcome State Fault Refusal :=
  s.whenUp (fun s =>
    .next (s.mbRequest i 0x46 m false (fun s =>
      let w := s.instWorld i
      if a % frameBytes ≠ 0 ∨ !s.ownPagesAt w a (512 * n) ∨ !(List.range n).all (fun k => s.blockAt w (a + k * frameBytes)) then Inst.no s St.badAlign
      else
        let gone := (s.exports.filter (fun e => e.world == w && decide (e.addr < a + n * frameBytes) && decide (a < e.addr + 4096 * e.pages)
          && !(s.num Num.exportsEnding).contains e.num)).map Export.num
        let x := s.revoke gone
        let s := (x.1.unmapLater w a n 0).setNum (Num.mbFrees i) [a, n]
        Inst.waitFor s i gone (w :: x.2.filter (· != w)))))

/-- SURFACE_EXPORT (R106): `n` pages of 4 KiB at guest space address `a`, for world `target`, or for the hoist (0xFF, R467). -/
def execSurfaceExport (i : Nat) (m : Mail) (a n target : Nat) (s : State) : Host.Outcome State Fault Refusal :=
  s.whenUp (fun s =>
    .next (s.mbRequest i 0x47 m false (fun s =>
      let w := s.instWorld i
      if target ≠ 0xFF ∧ (target < 2 ∨ target = 3 ∨ 63 < target) then Inst.no s St.valueRange
      else if a % 4096 ≠ 0 ∨ !s.ownPagesAt w a n then Inst.no s St.badAlign
      else
        let num := s.reg Reg.nextExport
        let e : Export := ⟨num, w, a, n, target⟩
        Inst.ok ({ s with exports := s.exports ++ [e] }.setReg Reg.nextExport ((num + 1) % 2 ^ 32)) (leBytes 4 num))))

/-- SURFACE_REVOKE (R106): answered when the worlds that hold views of it are invalidated. -/
def execSurfaceRevoke (i : Nat) (m : Mail) (num : Nat) (s : State) : Host.Outcome State Fault Refusal :=
  s.whenUp (fun s =>
    .next (s.mbRequest i 0x48 m false (fun s => match s.exportOf num with
      | none => Inst.no s St.exportUnknown
      | some e =>
        if e.world ≠ s.instWorld i then Inst.no s St.exportUnknown
        else
          let x := s.revoke [num]
          Inst.waitFor x.1 i [num] x.2)))

/-- SURFACE_IMPORT (R106): a read-only view of export `num` at guest space address `a`. -/
def execSurfaceImport (i : Nat) (m : Mail) (num a : Nat) (s : State) : Host.Outcome State Fault Refusal :=
  s.whenUp (fun s =>
    .next (s.mbRequest i 0x49 m false (fun s => match s.exportOf num with
      | none => Inst.no s St.exportUnknown
      | some e =>
        let w := s.instWorld i
        if e.target ≠ w then Inst.no s St.exportUnknown
        else if a % 4096 ≠ 0 ∨ 2 ^ 52 < a + 4096 * e.pages then Inst.no s St.badAlign
        else if !(List.range e.pages).all (fun k => s.pageEmpty w (a + 4096 * k)) then Inst.no s St.addrInUse
        else match s.mapView w a e.world e.addr e.pages with
          | none => Inst.no s St.limitReached
          | some s => Inst.ok { s with views := s.views ++ [⟨num, w, a, e.pages⟩] } [])))

/-- SHADER_ADMIT, action 1 (R207): the description at `addr` of `size` bytes is read; `reason` is 0 where every check that needs no compilation passes,
and the rest is what the description's fixed state says. -/
def execShaderAdmit (i : Nat) (m : Mail) (addr size reason offset samples stores depth : Nat) (colours : List Nat) (s : State) : Host.Outcome State Fault Refusal :=
  s.whenUp (fun s =>
    .next (s.mbRequest i 0x4A m false (fun s =>
      let w := s.instWorld i
      match s.gread w (s.reg (Reg.s1Root i 8)) addr size with
      | .error _ => (s, some (St.shaderRefused, record [(1, 1), (4, 0)]))
      | .ok _ =>
        if s.reg Obj.pipelinesPerWorld ≤ (s.num (Num.pipes w)).length then Inst.no s St.limitReached
        else if reason ≠ 0 then (s, some (St.shaderRefused, record [(1, reason), (4, offset)]))
        else
          let h := s.newPipe
          let s := (s.tick.setNum (Num.pipe h) (w :: 1 :: samples :: stores :: depth :: i :: colours)).setNum (Num.pipes w) (s.num (Num.pipes w) ++ [h])
          Inst.ok s (leBytes 4 h))))

/-- SHADER_RELEASE (R209). -/
def execShaderRelease (i : Nat) (m : Mail) (h : Nat) (s : State) : Host.Outcome State Fault Refusal :=
  s.whenUp (fun s =>
    .next (s.mbRequest i 0x4A m false (fun s =>
      let w := s.instWorld i
      if !(s.num (Num.pipes w)).contains h then Inst.no s St.pipelineUnknown
      else
        let rec' := s.pipeOf h
        Inst.ok ((s.setNum (Num.pipe h) (rec'.take 1 ++ 4 :: rec'.drop 2)).setNum (Num.pipes w) ((s.num (Num.pipes w)).filter (· != h))) [])))

/-- RESERVE (R131, R150, R353, R516): renderer M steps/s, bandwidth MB/s, audio latency µs, touch Hz. -/
def execReserve (i : Nat) (m : Mail) (r b a t : Nat) (s : State) : Host.Outcome State Fault Refusal :=
  s.whenUp (fun s =>
    .next (s.mbRequest i 0x4B m true (fun s =>
      let g := s.reg (Obj.instAudioLatencyUs i)
      if s.reg (Obj.instRendererGrant i) < r ∨ s.reg (Obj.instBandwidthGrant i) < b ∨ s.reg (Obj.instTouchRateHz i) < t ∨ (a ≠ 0 ∧ (g = 0 ∨ a < g)) then
        Inst.no s St.grantExceeded
      else if 100000 < a then Inst.no s St.valueRange
      else if !s.rendererAdmits i r then (s, some (St.reserveRefused, leBytes 2 St.nimReserveFull))
      else if !s.bulkAdmits i b then (s, some (St.reserveRefused, leBytes 2 St.memReserveFull))
      else if !s.audioAdmits i a then (s, some (St.reserveRefused, leBytes 2 St.audFifoFull))
      else Inst.ok (s.reserve i r b a t) [])))

/-- QUIESCE_SELF (R136). -/
def execQuiesceSelf (i : Nat) (m : Mail) (s : State) : Host.Outcome State Fault Refusal :=
  s.whenUp (fun s =>
    .next (s.mbRequest i 0x4C m false (fun s =>
      Inst.ok (if s.reg (Obj.instState i) = 1 then s.quiesceStart i 0 (s.reg Obj.quiesceLimitMs) else s) [])))

/-- Every access begun under the old mapping of world `w` has finished (R110): what was to be unmapped is, and its frames are free; scan-out pools that found none
are tried again (R234); requests and teardowns that waited go on (R100, R130). -/
def State.invalidated (s : State) (w : Nat) : State :=
  let todo := s.num (Num.unmapPend w)
  let s := ((s.setReg (Reg.invalPending w) 0).setNum (Num.unmapPend w) []).unmapNow w todo
  let s := if todo = [] then s
    else (List.range 64).foldl (fun s k => s.poolSet (k / 8) (k % 8)) (s.memDerive w)
  let s := (List.range 48).foldl (fun s i =>
    if s.reg (Reg.mbWait i) = 0 ∨ !(s.num (Num.mbWorlds i)).contains w then s
    else
      let l := (s.num (Num.mbWorlds i)).filter (· != w)
      let s := s.setNum (Num.mbWorlds i) l
      if l.isEmpty then s.mbFinish i else s) s
  (List.range 64).foldl (fun s v =>
    if (s.num (Num.tearWorlds v)).contains w then (s.setNum (Num.tearWorlds v) ((s.num (Num.tearWorlds v)).filter (· != w))).teardownNext v else s) s

/-- INVALIDATION_COMPLETE (R100, R110, R130). -/
def execInvalidationComplete (w : Nat) (s : State) : Host.Outcome State Fault Refusal :=
  s.whenUp (fun s =>
    .next (if s.reg (Reg.invalPending w) = 0 then s else s.invalidated w))

/-- REMOTE_ASSOCIATION (R132, R134): a DTLS association on port 20881 whose client certificate is `cert`. -/
def execRemoteAssociation (cert : List Byte) (s : State) : Host.Outcome State Fault Refusal :=
  s.whenUp (fun s =>
    .next (
      let hash := leNat (sha256 cert)
      match (List.range 48).find? (fun i => decide (32 ≤ i) && s.reg (Obj.instState i) != 0 && s.reg (Obj.instPeerCertHash i) == hash) with
      | none => s
      | some i =>
        if !s.inService ∨ s.reg Reg.identityLost = 1 then s
        else
          let back := s.reg (Reg.remoteHold i) ≠ 0
          let s := (s.closeSessions (fun n => s.guestSession i n)).openGuest i (s.instWorld i)
          let s := (((s.setRegs [(Reg.remoteOn i, 1), (Reg.remoteTx i, 0), (Reg.remoteRx i, 0), (Reg.remoteLast i, s.now), (Reg.remoteSent i, s.now),
            (Reg.remoteHold i, 0)]).setFifo (Fifo.unacked i) []).setNum (Num.remoteTimes i) []).setNum (Num.remoteTries i) []
          if back then s.raise [.inst i] U.hal St.linkBack (s.instWorld i) 1 [(1, i)] else s))

/-- REMOTE_MEMORY_WRITE (R132, R133): CHAN 0x03 with SEQ, ACK, address and data. -/
def execRemoteMemoryWrite (i seq ack a : Nat) (data : List Byte) (s : State) : Host.Outcome State Fault Refusal :=
  s.whenUp (fun s =>
    .next (s.remoteIn i seq ack (fun s =>
      match s.gwrite (s.instWorld i) (s.reg (Reg.s1Root i 8)) a data with
      | .ok s => s
      | .error e => s.accessFault (s.instWorld i) i 8 U.hal 3 .write e)))

/-- REMOTE_MEMORY_READ (R132, R133): CHAN 0x04; the data return in CHAN 0x84. -/
def execRemoteMemoryRead (i seq ack a len : Nat) (s : State) : Host.Outcome State Fault Refusal :=
  s.whenUp (fun s =>
    .next (s.remoteIn i seq ack (fun s =>
      match s.gread (s.instWorld i) (s.reg (Reg.s1Root i 8)) a (min len 1384) with
      | .ok b => s.remoteSend i 0x84 b
      | .error e => s.accessFault (s.instWorld i) i 8 U.hal 3 .read e)))

/-- REMOTE_ACK (R133): CHAN 0x06 releases datagrams. -/
def execRemoteAck (i ack : Nat) (s : State) : Host.Outcome State Fault Refusal :=
  s.whenUp (fun s =>
    .next (s.remoteIn i 0 ack id))

/-- REMOTE_KEEPALIVE (R133): CHAN 0x07. -/
def execRemoteKeepalive (i ack : Nat) (s : State) : Host.Outcome State Fault Refusal :=
  s.whenUp (fun s =>
    .next (s.remoteIn i 0 ack id))

/-- Datagrams of instance `i` sent and not acknowledged for 20 ms (R133), with how often each has been sent again; 64 at most are under way. -/
def Inst.overdue (s : State) (i : Nat) : List (Nat × Bytes × Nat) :=
  (((List.range 64).zip ((s.fifo (Fifo.unacked i)).zip ((s.num (Num.remoteTimes i)).zip (s.num (Num.remoteTries i))))).filter
    (fun x => decide (x.2.2.1 + 20000000 ≤ s.now))).map (fun x => (x.1, x.2.1, x.2.2.2))

/-- REMOTE_RETRANSMIT (R133): each datagram that has gone 20 ms unacknowledged is sent again, at most 10 times. -/
def execRemoteRetransmit (i : Nat) (s : State) : Host.Outcome State Fault Refusal :=
  s.whenUp (fun s =>
    .next (if s.reg (Reg.remoteOn i) = 0 then s
      else ((Inst.overdue s i).filter (fun x => decide (x.2.2 < 10))).foldl (fun s x =>
        (((s.setNum (Num.remoteTimes i) ((s.num (Num.remoteTimes i)).set x.1 s.now)).setNum (Num.remoteTries i) ((s.num (Num.remoteTries i)).set x.1 (x.2.2 + 1))).setReg
          (Reg.remoteSent i) s.now).emit (.frame U.hal x.2.1)) s))

/-- REMOTE_KEEPALIVE_SEND (R133): 100 ms without traffic. -/
def execRemoteKeepaliveSend (i : Nat) (s : State) : Host.Outcome State Fault Refusal :=
  s.whenUp (fun s =>
    .next (if s.reg (Reg.remoteOn i) = 0 ∨ s.now < max (s.reg (Reg.remoteSent i)) (s.reg (Reg.remoteLast i)) + 100000000 then s else s.remoteSend i 7 []))

/-- REMOTE_LINK_LOST (R134): nothing arrived for 1 s, or the last retransmission went unacknowledged. -/
def execRemoteLinkLost (i : Nat) (s : State) : Host.Outcome State Fault Refusal :=
  s.whenUp (fun s =>
    .next (
      let silent := decide (s.reg (Reg.remoteLast i) + 1000000000 ≤ s.now)
      let spent := (Inst.overdue s i).any (fun x => decide (10 ≤ x.2.2))
      if s.reg (Reg.remoteOn i) = 0 ∨ (!silent ∧ !spent) then s
      else (s.setRegs [(Reg.remoteOn i, 0), (Reg.remoteHold i, s.now + 1000000000 * s.reg Obj.remoteHoldS)]).raise [.inst i] U.hal St.linkLost (s.instWorld i) 2 [(1, i)]))

/-- REMOTE_HOLD_EXPIRY (R134): RemoteHoldS passes without an association; the instance is quiesced and removed. -/
def execRemoteHoldExpiry (i : Nat) (s : State) : Host.Outcome State Fault Refusal :=
  s.whenUp (fun s =>
    .next (if s.reg (Reg.remoteHold i) = 0 ∨ s.now < s.reg (Reg.remoteHold i) then s
      else (s.setReg (Reg.remoteHold i) 0).quiesceFor i 2 (s.reg Obj.quiesceLimitMs)))

/-- GRANT_WRITE (R135): a session writes grant `sub` (04 to 08) of instance `i`. -/
def execGrantWrite (n i sub v : Nat) (s : State) : Host.Outcome State Fault Refusal :=
  s.whenUp (fun s =>
    .next (if 55 < i ∨ sub < 4 ∨ 8 < sub then s
      else s.request n 2 (okey (0x900 + i) sub) (fun s =>
        let k := okey (0x900 + i) sub
        let size := if sub = 8 then 2 else 4
        let st := s.writeStatus n k (leBytes size v)
        if st ≠ St.ok ∨ 2 ^ (8 * size) ≤ v then s.reply (if st = St.ok then St.valueRange else st)
        else
          let down := Inst.lowers (s.reg k) sub v
          let s := (s.setReg k v).reply St.ok
          if s.reg (Obj.instState i) = 0 then s
          else if Inst.above s i sub ∧ down then
            let s := if sub = 4 then s.setReg (Reg.resizeMem i) 1
              else s.setNum (Num.resizeCuts i) (s.num (Num.resizeCuts i) ++ [s.now + 1000000 * s.reg Obj.resizeGraceMs, sub, v])
            s.raise [.inst i] U.hal St.resizeRequest (s.instWorld i) 1 [(1, sub), (4, v)]
          else if sub = 4 then s.memDerive (s.instWorld i)
          else s)))

/-- RESIZE_CUT (R135): the first planning boundary after ResizeGraceMs cuts reservations to their grants. -/
def execResizeCut (i : Nat) (s : State) : Host.Outcome State Fault Refusal :=
  s.whenUp (fun s =>
    .next (if s.now % 4000000 ≠ 0 then s
      else
        let d := Inst.cutsDue s.now (s.num (Num.resizeCuts i))
        d.1.foldl (Inst.cut i) (s.setNum (Num.resizeCuts i) d.2)))

/-- INST_ENABLE (R125). -/
def execInstEnable (n i : Nat) (s : State) : Host.Outcome State Fault Refusal :=
  s.whenUp (fun s =>
    .next (Inst.op n i (fun s => Inst.enable s n i) s))

/-- INST_QUIESCE (R136, R518). -/
def execInstQuiesce (n i : Nat) (s : State) : Host.Outcome State Fault Refusal :=
  s.whenUp (fun s =>
    .next (Inst.op n i (fun s => if s.reg (Obj.instState i) = 1 then (s.quiesceStart i n (s.reg Obj.quiesceLimitMs), St.ok) else (s, St.busy)) s))

/-- INST_RESUME (R136): a QUIESCED instance's rings return to ACTIVE from RPTR. -/
def execInstResume (n i : Nat) (s : State) : Host.Outcome State Fault Refusal :=
  s.whenUp (fun s =>
    .next (Inst.op n i (fun s => if s.reg (Obj.instState i) ≠ 3 then (s, St.busy)
      else
        let s := (s.setReg (Obj.instState i) 1).worldDerive (s.instWorld i)
        ((List.range 8).foldl (fun s r => if s.reg (Reg.ringState i r) ≠ 4 then s else Inst.look (s.setReg (Reg.ringState i r) 2) i r) s, St.ok)) s))

/-- INST_RESET (R137, R518). -/
def execInstReset (n i : Nat) (s : State) : Host.Outcome State Fault Refusal :=
  s.whenUp (fun s =>
    .next (Inst.op n i (fun s =>
      let st := s.reg (Obj.instState i)
      if st = 1 ∨ st = 2 then (s, St.quiesceRequired) else if st ≠ 3 then (s, St.busy) else (s.instReset i n (s.sessDest n), St.ok)) s))

/-- INST_REMOVE (R137, R518). -/
def execInstRemove (n i : Nat) (s : State) : Host.Outcome State Fault Refusal :=
  s.whenUp (fun s =>
    .next (Inst.op n i (fun s =>
      let st := s.reg (Obj.instState i)
      if st = 1 ∨ st = 2 then (s, St.quiesceRequired) else if st ≠ 3 then (s, St.busy) else (s.instRemove i n (s.sessDest n), St.ok)) s))

/-- QUIESCE_DONE (R136): all work that the instance's units had taken has ended. -/
def execQuiesceDone (i : Nat) (s : State) : Host.Outcome State Fault Refusal :=
  s.whenUp (fun s =>
    .next (if s.reg (Obj.instState i) ≠ 2 ∨ !s.workEnded i then s else s.quiesceEnd i))

/-- QUIESCE_LIMIT (R136, R431): work still running ends as dropped, whatever its class. -/
def execQuiesceLimit (i : Nat) (s : State) : Host.Outcome State Fault Refusal :=
  s.whenUp (fun s =>
    .next (if s.reg (Obj.instState i) ≠ 2 ∨ s.now < s.reg (Reg.quiesceDue i) then s
      else
        let paused := fun (t : Item) => decide (t.ring < 8) && s.reg (Reg.nimPass i t.ring) == 1 && s.reg (Reg.passItem i t.ring) == t.seq
        (s.dropItems (fun t => t.inst == i && !paused t) 4).quiesceEnd i))

/-- VF_FLR (R138): a function-level reset of a PCIe virtual function. -/
def execVfFlr (i : Nat) (s : State) : Host.Outcome State Fault Refusal :=
  s.whenUp (fun s =>
    .next (if 31 < i then s else s.quiesceFor i 0 (min 80 (s.reg Obj.quiesceLimitMs))))

/-- VF_LINK_LOSS (R138). -/
def execVfLinkLoss (i : Nat) (s : State) : Host.Outcome State Fault Refusal :=
  s.whenUp (fun s =>
    .next (if 31 < i then s else s.quiesceFor i 1 (min 80 (s.reg Obj.quiesceLimitMs))))

/-- YIELD_DURATION_END (R142): the yields of KIND `k` of world `w` whose duration has passed end and the guarantee returns, without an event; a yield of
bandwidth is renewed while the deduction of R151 lasts. -/
def execYieldDurationEnd (w k : Nat) (s : State) : Host.Outcome State Fault Refusal :=
  s.whenUp (fun s =>
    .next (
      let lapsed := s.reg (Reg.yieldAmt w (State.YieldBy.key .fab 2)) ≠ 0 ∧ s.reg (Reg.yieldEnd w (State.YieldBy.key .fab 2)) ≤ s.now
      let s := s.yieldsOver w k
      if k = 2 ∧ lapsed then s.bulkYieldOf (· == w) else s))

end Sys2Proof.Machine
end

