-- ==== Sys2Proof/Machine/Planner.lean ====
section
/-!
DEFINITION. Machine/Planner.lean: the Ceiling planner (R81 to R97): planning boundaries, urgent raises, ageing, the forecast, shedding; and the reset of
boundary ports (R80).
-/
namespace Sys2Proof.Machine

namespace Num
/-- Age index of domain `d` at the 6,000 measurements of the last 1,000 hours in service, newest first (AgeRate, R87, R91). -/
abbrev ageHist (d : Nat) : Nat := 0xB200000000 + d
end Num

namespace Plan

/-- Rate that carries a demand with a guard band in 0.01 %, rounded up. -/
def withGuard (demand g : Nat) : Nat := (demand * (10000 + g) + 9999) / 10000

/-- Demand that a rate carries with a guard band. -/
def carried (rate g : Nat) : Nat := rate * 10000 / (10000 + g)

/-- The lowest 5 mV step from `lo` up to `hi` whose rate `f` delivers a target; `hi` where none does (R82). -/
def lowest (f : Nat → Nat) (lo hi target : Nat) : Nat :=
  (((List.range 61).map (fun k => 600 + 5 * k)).find? (fun v => decide (lo ≤ v) && decide (v ≤ hi) && decide (target ≤ f v))).getD hi

/-- Rate that the admitted items of work of domain `d` need, k steps/s: of each the k steps left over the ns to its deadline, rounded up (R82). -/
def workRate (work : List (Nat × Nat × Nat)) (d : Nat) : Nat :=
  (work.filter (fun w => w.1 == d)).foldl (fun a w => a + ceilDiv (w.2.1 * 1000000000) w.2.2) 0

/-- Middle of a list, the mean of the two middle values where their number is even. -/
def median (l : List Nat) : Nat :=
  let m := l.mergeSort (· ≤ ·)
  if m = [] then 0
  else if m.length % 2 = 1 then m.getD (m.length / 2) 0
  else (m.getD (m.length / 2 - 1) 0 + m.getD (m.length / 2) 0) / 2

/-- F rate of a planned domain, k steps/s (R72). -/
def fRate (d : Nat) : Nat := if d = 0 then 1250000 else if d = 1 then 950000 else if d = 2 then 1000000 else 250000

/-- Hours until the rate `f` of a domain at an age index falls below a demand with its guard band, the index growing from `age` at `rate` 0.001 % in
1,000 h; 0xFFFFFFFF where it does not. -/
def hoursLeft (f : Nat → Nat) (demand g age rate : Nat) : Nat :=
  if f age < withGuard demand g then 0
  else if rate = 0 then 0xFFFFFFFF
  else match (List.range 10001).find? (fun k => decide (f (age + k) < withGuard demand g)) with
    | some k => min (10000 * k / rate) 0xFFFFFFFF
    | none => 0xFFFFFFFF

end Plan

namespace State

/-- Amounts short by domain after a step relieves some of them. -/
def relieve (short : List Nat) (f : Nat → Nat) : List Nat := short.zipIdx.map (fun p => p.1 - f p.2)

/-- Some of the domains a step relieves is still short. -/
def stillShort (short : List Nat) (ds : List Nat) : Bool := ds.any (fun d => decide (0 < short.getD d 0))

/-- Heads in the order in which they are shed (R93): ascending BlankPriority, among equals the highest number first. -/
def shedOrder (s : State) : List Nat :=
  ((List.range 8).reverse).mergeSort (fun a b => decide (s.reg (Obj.blankPriority a) ≤ s.reg (Obj.blankPriority b)))

/-- A head runs at 120 Hz by its timing. -/
def runs120 (s : State) (n : Nat) : Bool :=
  s.reg (Obj.portMode n) != 3 && decide (119000 ≤ Head.rateMhz s.reg n) && decide (Head.rateMhz s.reg n ≤ 121000)

/-- Worlds with a visible layer on a head. -/
def worldsOn (s : State) (n : Nat) : List Nat :=
  (((List.range 8).filter (fun l => s.reg (Obj.layerEnable n l) == 1)).map (s.layerWorld n)).dedup

/-- Yields of the content of head `n` to some worlds for one second (R95). -/
def contentYield (s : State) (n : Nat) (ws : List Nat) : State := ws.foldl (fun s w => s.yieldOpen U.plan .plan w 6 2 0 n 1000) s

/-- Yields of head content for one second (R95). -/
def headYield (s : State) (n : Nat) : State := s.contentYield n (s.worldsOn n)

/-- Worlds whose video layers a head scales (R95). -/
def videoWorlds (s : State) (n : Nat) : List Nat :=
  (((List.range 2).filter (fun l => s.reg (Obj.layerEnable n l) == 1 && Head.videoLayer s.reg n l)).map (fun l => s.reg (Obj.layerOwnerWorld n l))).dedup

/-- SHED for a step and its amount (R95). -/
def shedTell (s : State) (step amount : Nat) : State := s.raise [.hal, .owner] U.plan St.shed 0xFF 2 [(1, step), (4, amount)]

/-- Step 1 (R93, R95): k steps/s taken from guest renderer reservations. -/
def shedOne (s : State) (x : Nat) : State :=
  let total := ((s.worldReserves Reg.resRenderer).map Prod.snd).foldl (· + ·) 0
  let s := (proportionOf (s.worldReserves Reg.resRenderer) (1000 * total - x) 1000).foldl (fun s p =>
    if p.2.2 < p.2.1 then (s.setReg (Reg.shedRenderer p.1) (p.2.1 - p.2.2)).yieldOpen U.plan .plan p.1 1 4 p.2.1 p.2.2 1000 else s) s
  s.shedTell 1 x

/-- k steps/s that step 1 takes for a shortfall: that of NIM, and for FAB whole M steps/s by the relief of each. -/
def shedNeed (s : State) (short : List Nat) : Nat :=
  let total := ((s.worldReserves Reg.resRenderer).map Prod.snd).foldl (· + ·) 0
  let r := Config.relief 0 1 1
  if s.reg Reg.thermalShed = 1 then 1000 * total
  else min (1000 * total) (max (short.getD 1 0) (if r = 0 then 0 else 1000 * ((short.getD 0 0 + r - 1) / r)))

/-- Take heads one at a time while domains of steps 3 and 4 are short and the head relieves one of them. -/
def shedHeads (step : Nat) (f : State → Nat → State) : List Nat → State × List Nat → State × List Nat
  | [], x => x
  | n :: ns, (s, short) =>
    let r := fun d => Config.relief d step n
    if ([0, 2, 3].any (fun d => decide (0 < short.getD d 0) && decide (0 < r d))) then
      shedHeads step f ns (((f s n).headYield n).shedTell step ([0, 2, 3].foldl (fun a d => max a (min (r d) (short.getD d 0))) 0),
        relieve short (fun d => if d = 1 then 0 else r d))
    else shedHeads step f ns (s, short)

/-- Restore everything that is shed; the frame rates of slowed heads return. -/
def shedClear (s : State) : State :=
  let s := (List.range 8).foldl (fun s n => (s.setRegs [(Reg.shedSlowed n, 0), (Reg.shedBlank n, 0),
    (Reg.blankWant n, if s.reg (Reg.blankWant n) = 1 then 0 else s.reg (Reg.blankWant n))]).headDerive n) s
  let s := (List.range 64).foldl (fun s w => s.setReg (Reg.shedRenderer w) 0) s
  let s := (List.range 4).foldl (fun s d => s.setReg (Reg.shedAmount d) 0) s
  s.setRegs [(Reg.shedTaps, 0), (Reg.shedDomain, 0), (Reg.shedUntil, 0), (Reg.penShort, 0)]

/-- What a shed leaves: its level, its start, its hold, and what it could not close. SHED_RESTORED tells that nothing remains shed (R96); a PEN shortfall
that steps 3 and 4 leave begins a hold of its own and is told once in it (R94). -/
def shedHeld (s : State) (level since : Nat) (amounts short : List Nat) : State :=
  let hold := level ≠ 0 ∨ 0 < short.getD 3 0 ∨ s.reg Reg.thermalShed = 1
  let s := s.setRegs [(Obj.shedLevel, level), (Obj.shedSince, if level = 0 then 0 else if since = 0 then s.now else since),
    (Reg.shedUntil, if hold then s.now + 1000000000 else 0), (Reg.penShort, short.getD 3 0),
    (Reg.shedDomain, amounts.zipIdx.foldl (fun m p => if 0 < p.1 then setBit m p.2 else m) 0)]
  let s := short.zipIdx.foldl (fun s p => s.setReg (Reg.shedRest p.2) (if hold then p.1 else 0)) s
  let s := if hold then s else (List.range 4).foldl (fun s d => s.setReg (Reg.shedAmount d) 0) s
  let s := if level = 0 ∧ since ≠ 0 then s.raise [.hal, .owner] U.plan St.shedRestored 0xFF 1 [] else s
  if 0 < short.getD 3 0 then s.raise [.hal, .owner] U.plan St.planPenShort 0xFF 2 [(4, short.getD 3 0)] else s

/-- Shed load for amounts short by domain, k steps/s, in the order of R93, for one second. -/
def shedLoad (s : State) (amounts : List Nat) : State :=
  let since := s.reg Obj.shedSince
  let s := s.shedClear
  let s := amounts.zipIdx.foldl (fun s p => s.setReg (Reg.shedAmount p.2) p.1) s
  let short := amounts
  let x := s.shedNeed short
  let one := decide (0 < x) && (stillShort short [0, 1] || s.reg Reg.thermalShed == 1)
  let s := if one then s.shedOne x else s
  let short := if one then relieve short (fun d => if d = 1 then x else if d = 0 then Config.relief 0 1 1 * (x / 1000) else 0) else short
  let r1 := fun d => if d = 0 ∨ d = 2 then Config.relief d 2 1 else 0
  let r2 := fun d => if d = 0 ∨ d = 2 then Config.relief d 2 2 else 0
  let two := stillShort short [0, 2] && [0, 2].any (fun d => decide (0 < short.getD d 0) && decide (0 < r2 d))
  let level := if stillShort (relieve short r1) [0, 2] then 2 else 1
  let s := if two then (s.setReg Reg.shedTaps level).shedTell 2 ([0, 2].foldl (fun a d => max a (min (if level = 1 then r1 d else r2 d) (short.getD d 0))) 0) else s
  let s := if two then (List.range 8).foldl (fun s n => s.contentYield n (s.videoWorlds n)) s else s
  let short := if two then relieve short (if level = 1 then r1 else r2) else short
  let (s, short) := shedHeads 3 (fun s n => (s.setReg (Reg.shedSlowed n) 1).headDerive n) (s.shedOrder.filter s.runs120) (s, short)
  let (s, short) := shedHeads 4 (fun s n => s.setRegs [(Reg.shedBlank n, 1), (Reg.blankWant n, 1)])
    (s.shedOrder.filter (fun n => s.reg (Obj.portMode n) != 3)) (s, short)
  let level := if (List.range 8).any (fun n => s.reg (Reg.shedBlank n) == 1) then 4 else if (List.range 8).any (fun n => s.reg (Reg.shedSlowed n) == 1) then 3
    else if s.reg Reg.shedTaps ≠ 0 then 2 else if one then 1 else 0
  s.shedHeld level since amounts short

/-- Everything is restored, in the reverse order of R93 (R96). -/
def shedRestore (s : State) : State := s.shedClear.shedHeld 0 (s.reg Obj.shedSince) [] [0, 0, 0, 0]

/-! Demand and speed (R82). -/

/-- Reserved rate of a domain, k steps/s: the renderer reservations of every world as shedding leaves them, and the memory bandwidth reserved. -/
def reservedRate (s : State) (d : Nat) : Nat :=
  if d = 0 then Config.fabSteps (s.reg Obj.scanReservedMBps + s.reg Obj.rtReservedMBps + ((s.worldReserves Reg.resBandwidth).map Prod.snd).foldl (· + ·) 0)
  else if d = 1 then 1000 * ((s.worldReserves Reg.resRenderer).foldl (fun a p => a + (p.2 - s.reg (Reg.shedRenderer p.1))) 0)
  else 0

/-- Admitted demand of the planned domains: open work and reservations, those of FAB and BUN corrected by the least head slack. -/
def demandOf (s : State) (work : List (Nat × Nat × Nat)) (slack : Nat) : List Nat :=
  (List.range 4).map (fun d =>
    let x := Plan.workRate work d + s.reservedRate d
    if d = 0 ∨ d = 2 then ceilDiv (x * (10000 + min 1000 (Config.slackCorrection slack))) 10000 else x)

/-- Amount short of a domain at a rate. -/
def shortAt (s : State) (demand : List Nat) (rate : Nat → Nat) : List Nat :=
  (List.range 4).map (fun d => demand.getD d 0 - Plan.carried (rate d) (s.reg Obj.guardBand))

/-- Predicted rate of a domain at a voltage, by its age index and the last reading of its speed monitors. -/
def speedOf (s : State) (temp : Int) (d mv : Nat) : Nat :=
  Config.speedAt d mv temp (s.reg (Obj.domainAge d)) (s.reg (Obj.speedNow d)) (s.reg (Reg.speedMv d))

/-- Predicted rate of a domain at VoltMaxMv. -/
def ceilingOf (s : State) (temp : Int) (d : Nat) : Nat := s.speedOf temp d (s.reg (Obj.voltMaxMv d))

/-- Below 118 °C the shed for the junction's temperature ends (R454). -/
def thermalCool (s : State) (temp : Int) : State :=
  if temp < 1180 then s.setRegs [(Reg.thermalShed, 0), (Reg.thermalHigh, 0)] else s

/-- A junction temperature that the planner sees: above 115 °C it is told once (R92). -/
def thermalSeen (s : State) (temp : Int) : State :=
  let s := s.setReg Obj.junctionTemp (ofSigned 2 temp)
  if temp ≤ 1150 then s.setReg Reg.thermalAbove 0
  else if s.reg Reg.thermalAbove = 1 then s
  else (s.setReg Reg.thermalAbove 1).raise [.hal, .owner] U.plan St.thermalAboveFloor 0xFF 2 []

/-- Set point of a domain for a target (R82): PEN stays at VoltMaxMv while a hold for its shortfall runs (R94). -/
def setPoint (s : State) (temp : Int) (d target : Nat) : Nat :=
  let hi := s.reg (Obj.voltMaxMv d)
  if d = 3 ∧ s.reg Reg.penShort ≠ 0 then hi else Plan.lowest (s.speedOf temp d) (s.reg (Obj.voltMinMv d)) hi target

/-- The planner's computation at a boundary (R82, R92, R93, R95, R97). Within a hold what the shed could not close is no new shortfall; one that grows is
shed as a whole, for a second from then (log 42). -/
def plan (s : State) (temp : Int) (work : List (Nat × Nat × Nat)) (slack : Nat) (speed : List Nat) : State :=
  let s := (s.setRegs [(Obj.guardBand, s.reg Reg.guardNext), (Reg.pmPlanTime, s.now)]).thermalSeen temp
  let s := (List.range 5).foldl (fun s d => s.setRegs [(Obj.speedNow d, speed.getD d 0), (Reg.speedMv d, s.reg (Obj.voltageMv d))]) s
  let demand := s.demandOf work slack
  let s := (List.range 4).foldl (fun s d =>
    let target := Plan.withGuard (demand.getD d 0) (s.reg Obj.guardBand)
    s.setRegs [(Obj.voltageMv d, s.setPoint temp d target), (Obj.demandRate d, demand.getD d 0), (Obj.ceilingRate d, s.ceilingOf temp d),
      (Reg.targetRate d, target)]) s
  let s := if (List.range 4).any (fun d => s.reg (Obj.voltageMv d) == s.reg (Obj.voltMaxMv d)) ∧ s.reg Reg.ceilingHold ≤ s.now then
      (s.setReg Reg.ceilingHold (s.now + 1000000000)).raise [.hal, .owner] U.plan St.ceilingReached 0xFF 1 []
    else s
  let more := (s.shortAt demand (s.ceilingOf temp)).zipIdx.map (fun p => p.1 - s.reg (Reg.shedRest p.2))
  if more.all (· == 0) then s
  else s.shedLoad (more.zipIdx.map (fun p => p.1 + s.reg (Reg.shedAmount p.2)))

/-- An urgent raise is due (R84): the slack of a head that scans is below a quarter of its frame period, or the domain's monitor reads less than the
target over 1 + GuardBand / 2. -/
def raiseDue (s : State) (d : Nat) (slack : List Nat) (speed : Nat) : Bool :=
  slack.zipIdx.any (fun p => s.reg (Obj.portMode p.2) != 3 && decide (4000 * p.1 < Head.periodPs s.reg p.2 * (1 + s.reg (Reg.shedSlowed p.2))))
    || decide (speed * (20000 + s.reg Obj.guardBand) < 20000 * s.reg (Reg.targetRate d))

end State

/-- PLAN_BOUNDARY (R81, R82): at a whole multiple of 4,000,000 ns commits of kind PLAN apply, then the planner computes. -/
def execPlanBoundary (temp : Int) (work : List (Nat × Nat × Nat)) (slack : Nat) (speed : List Nat) (s : State) : Host.Outcome State Fault Refusal :=
  s.whenUp (fun s =>
    .next (if s.now % 4000000 ≠ 0 then s
      else
        let s := ((s.bump Obj.planCount 32).count 5 1).boundary 0x700
        let s := if s.reg Reg.planDead = 1 then s else (s.thermalCool temp).plan temp work slack speed
        if s.reg Obj.shedLevel = 0 then s else s.count 7 1))

/-- SHED_HOLD_END (R94, R96): a shed's second has passed: it is renewed with the rate at VoltMaxMv derated by 3 %, or restored. -/
def execShedHoldEnd (temp : Int) (work : List (Nat × Nat × Nat)) (slack : Nat) (s : State) : Host.Outcome State Fault Refusal :=
  s.whenUp (fun s =>
    .next (if s.reg Reg.planDead = 1 ∨ s.reg Reg.shedUntil = 0 ∨ s.now < s.reg Reg.shedUntil then s
      else
        let s := s.thermalCool temp
        let u := (List.range 64).foldl (fun s w => s.setReg (Reg.shedRenderer w) 0) s
        let short := s.shortAt (u.demandOf work slack) (fun d => s.ceilingOf temp d * 97 / 100)
        if short.all (· == 0) ∧ s.reg Reg.thermalShed = 0 then s.shedRestore else s.shedLoad short))

/-- PLAN_RAISE (R84): a head's slack or the speed monitor of domain `d` falls short. -/
def execPlanRaise (d : Nat) (slack : List Nat) (speed : Nat) (s : State) : Host.Outcome State Fault Refusal :=
  s.whenUp (fun s =>
    .next (
      let v := s.reg (Obj.voltageMv d)
      let hi := s.reg (Obj.voltMaxMv d)
      let last := s.reg (Reg.raiseLast d)
      if 3 < d ∨ s.reg Reg.planDead = 1 ∨ hi ≤ v ∨ (last ≠ 0 ∧ s.now < last - 1 + 100000) ∨ !s.raiseDue d slack speed then s
      else (((s.setRegs [(Obj.voltageMv d, min hi (v + 25)), (Reg.raiseLast d, s.now + 1)]).bump Obj.urgentRaises 32).count 6 1).raise
        [.hal, .owner] U.plan St.planRaise 0xFF 1 []))

/-- PLAN_WATCHDOG (R85): no planning boundary has completed for 12 ms. -/
def execPlanWatchdog (s : State) : Host.Outcome State Fault Refusal :=
  s.whenUp (fun s =>
    .next (if s.reg Reg.planDead = 1 ∨ s.now < s.reg Reg.pmPlanTime + 12000000 then s
      else
        let s := (List.range 4).foldl (fun s d => s.setReg (Obj.voltageMv d) 900) s
        let s := if s.reg Reg.shedUntil = 0 then s else s.shedRestore
        ((s.setReg Reg.planDead 1).raise [.hal, .owner] U.plan St.planWatchdog 0xFF 3 []).setUnitState U.plan 5))

/-! Ageing (R87 to R91). -/

namespace State

/-- Ageing monitors of a domain that are valid. -/
def monitors (s : State) (d : Nat) : List Nat := (List.range 16).filter (fun k => !bit (s.reg (Reg.monExcluded d)) k)

/-- One domain's measurement: the slowdowns of its 16 monitors, 0.01 % (R87, R88). -/
def ageDomain (slow : List Nat) (s : State) (d : Nat) : State :=
  let mid := Plan.median ((s.monitors d).map (fun k => slow.getD k 0))
  let bad := (s.monitors d).filter (fun k => decide (mid + 200 < slow.getD k 0) || decide (slow.getD k 0 + 200 < mid))
  let s := bad.foldl (fun s k => (s.setReg (Reg.monExcluded d) (setBit (s.reg (Reg.monExcluded d)) k)).raise
    [.hal, .owner] U.plan St.monitorFault 0xFF 2 [(1, d), (1, k)]) s
  let mid := Plan.median ((s.monitors d).map (fun k => slow.getD k 0))
  let last := s.reg (Obj.domainAge d)
  if (s.monitors d).length < 8 ∧ s.reg (Reg.ageAt d) = 0 then s.setRegs [(Reg.ageAt d, 1), (Obj.domainAge d, last + 400)]
  else s.setReg (Obj.domainAge d) (max last mid)

/-- Time in service, ns: HoursInService counts it across power losses. -/
def serviceTime (s : State) : Nat := 3600000000000 * s.reg Obj.hoursInService + s.now

/-- `ns` of service have passed since a moment that a register holds. -/
def serviceSince (s : State) (k ns : Nat) : Bool := decide (s.reg k + ns ≤ s.serviceTime)

/-- Objects derived from the ages; GUARD_REPLANNED and AGE_FLOOR_PASSED (R87, R89, R90). -/
def ageDerive (s : State) : State :=
  let worst := (List.range 5).foldl (fun a d => max a (s.reg (Obj.domainAge d))) 0
  let g := min 2000 (600 + worst / 2)
  let valid := (List.range 5).foldl (fun a d => a + min 15 (s.monitors d).length * 16 ^ d) 0
  let s := s.setRegs [(Obj.ageIndex, worst), (Obj.monitorsValid, valid), (Reg.guardNext, g)]
  let rep := s.reg Reg.guardReported
  let s := if rep + 25 ≤ g ∨ g + 25 ≤ rep then (s.setReg Reg.guardReported g).raise [.hal, .owner] U.plan St.guardReplanned 0xFF 1 [(2, g)] else s
  if 800 ≤ worst ∧ s.reg Reg.ageFloorRaised = 0 then (s.setReg Reg.ageFloorRaised 1).raise [.hal, .owner] U.plan St.ageFloorPassed 0xFF 2 [] else s

/-- Age growth of a domain over the last 1,000 h, 0.001 %: its oldest of 6,001 measurements lies 1,000 h back. -/
def ageRateOf (s : State) (d : Nat) : Nat := 10 * (s.reg (Obj.domainAge d) - (s.num (Num.ageHist d)).getLastD (s.reg (Obj.domainAge d)))

/-- The measurement joins the record of the last 1,000 h. -/
def ageRecord (s : State) : State :=
  (List.range 5).foldl (fun s d => s.setNum (Num.ageHist d) ((s.reg (Obj.domainAge d) :: s.num (Num.ageHist d)).take 6001)) s

/-- The forecast of every domain (R91). -/
def forecast (s : State) : State :=
  let s := s.setReg Reg.forecastTime s.serviceTime
  let rate := (List.range 5).foldl (fun a d => max a (s.ageRateOf d)) 0
  let hours := fun (f : Nat → Nat) => (List.range 4).foldl (fun a d =>
    min a (Plan.hoursLeft (fun age => Config.speedAt d (s.reg (Obj.voltMaxMv d)) 1150 age (s.reg (Obj.speedNow d)) (s.reg (Reg.speedMv d))) (f d)
      (s.reg Obj.guardBand) (s.reg (Obj.domainAge d)) (s.ageRateOf d))) 0xFFFFFFFF
  let h := hours (fun d => s.reg (Obj.demandRate d))
  let old := s.reg Reg.forecastReported
  let before := s.reg Obj.headroomHours
  let s := s.setRegs [(Obj.ageRate, rate), (Obj.forecastHours, h), (Obj.forecastFullHours, hours Plan.fRate), (Obj.headroomHours, h)]
  let s := if old / 10 < (if old ≤ h then h - old else old - h) then
      (s.setReg Reg.forecastReported h).raise [.hal, .owner] U.plan St.forecastChanged 0xFF (if h < 8760 then 2 else 1) [(4, h)] else s
  if h = 0 ∧ before ≠ 0 then s.raise [.hal, .owner] U.plan St.limitReached 0xFF 3 [(1, 8), (4, 0), (1, 0xFF)]
  else if h < 8760 ∧ 8760 ≤ before then s.raise [.hal, .owner] U.plan St.limitReached 0xFF 2 [(1, 8), (4, h), (1, 0xFF)]
  else s

end State

/-- AGE_MEASURE (R87 to R90): every 10 minutes in service; `slow` are the slowdowns of the 16 monitors of each of the five domains, 0.01 %. -/
def execAgeMeasure (slow : List (List Nat)) (s : State) : Host.Outcome State Fault Refusal :=
  s.whenUp (fun s =>
    .next (if !s.serviceSince Reg.ageTime 600000000000 then s
      else ((List.range 5).foldl (fun s d => State.ageDomain (slow.getD d []) s d) (s.setReg Reg.ageTime s.serviceTime)).ageRecord.ageDerive))

/-- FORECAST_UPDATE (R91): every 24 hours in service. -/
def execForecastUpdate (s : State) : Host.Outcome State Fault Refusal :=
  s.whenUp (fun s =>
    .next (if s.serviceSince Reg.forecastTime 86400000000000 then s.forecast else s))

/-- THERMAL_ABOVE_FLOOR (R92): the junction temperature, 0.1 °C, exceeds 115 °C. -/
def execThermalAboveFloor (temp : Int) (s : State) : Host.Outcome State Fault Refusal :=
  s.whenUp (fun s =>
    .next (if temp ≤ 1150 then s else s.thermalSeen temp))

/-! Boundary ports (R80). -/

/-- BOUNDARY_PORT_RESET (R80, R362): a side of the boundary port of unit `h` enters reset. What the other side had written and was not consumed goes back
to its requester with BOUNDARY_RESET and is resolved by class; the reset side restores its committed settings. The port's event counts return to zero: what
crosses afterwards is counted anew (R78). -/
def execBoundaryPortReset (h : Nat) (s : State) : Host.Outcome State Fault Refusal :=
  s.whenUp (fun s =>
    .next (if !s.unitThere h ∨ s.reg (Reg.portReset h) = 1 then s
      else
        let s := (s.setReg (Reg.portReset h) 1).unitRestarted h
        let back := s.items.filter (fun (t : Item) => t.unit == h)
        let s := back.foldl (fun s t => s.itemReturn t false 1) s
        let s := if back.isEmpty then s else s.reply St.boundaryReset
        if h = U.aud then (List.range 3).foldl (fun s d => s.setReg (Reg.audMute d) 1) s else s))

/-- BOUNDARY_PORT_RESUME (R80, R362): the reset side has left reset and the other side writes again. -/
def execBoundaryPortResume (h : Nat) (s : State) : Host.Outcome State Fault Refusal :=
  s.whenUp (fun s =>
    .next (if s.reg (Reg.portReset h) = 0 then s
      else
        let s := s.setReg (Reg.portReset h) 0
        if h = U.aud then (List.range 3).foldl (fun s d => s.setRegs [(Reg.audMute d, 0), (Reg.audIn d, s.now + 1)]) s else s))

end Sys2Proof.Machine
end

