-- ==== Sys2Proof/Machine/Programs.lean ====
section
/-!
DEFINITION. Machine/Programs.lean: what sessions do with pennant cores (R363, R366, R376), the restart of the Ensign pair (R380 to R382).
-/
namespace Sys2Proof.Machine

namespace State

/-- A write of MailboxIn of core `c` (R366). -/
def mailboxWrite (s : State) (c : Nat) (d : Bytes) : State :=
  if s.reg (Reg.coreMbxNew c) = 1 then s.reply St.busy
  else ((s.setRegs [(Reg.coreMbx c, leNat d), (Reg.coreMbxNew c, 1)]).coreEvent c 12 (leNat d % 256)).reply St.ok

/-- Bank of core `c` that sessions load: the inactive one. -/
def idleBank (s : State) (c : Nat) : Nat := 1 - s.reg (Obj.coreActiveBank c)

/-- Status of a change of the inactive bank (R363, R376). -/
def bankFree (s : State) (c : Nat) : Nat :=
  if coreAssignment c ≠ 5 then St.penAssigned
  else if s.pendVal (Obj.coreActiveBank c) = s.idleBank c then St.penBankBusy
  else St.ok

/-- Version that a bank shows. -/
def setVersion (s : State) (c b v : Nat) : State := s.setReg (if b = 0 then Obj.coreBankVersionA c else Obj.coreBankVersionB c) v

/-- A write of ProgramStage (R376): the image enters the inactive bank, staged. -/
def stageWrite (s : State) (c : Nat) (d : Bytes) : State :=
  if s.bankFree c ≠ St.ok then s.reply (s.bankFree c)
  else
    let b := s.idleBank c
    (((s.setFifo (Fifo.image c b) [d]).setReg (bankKey c b) 1).setVersion c b (Pen.version d)).reply St.ok

/-- The outcome of a verification (R376). -/
def verdict (s : State) (c st off : Nat) : State := (s.setRegs [(Obj.coreProgramStatus c, st), (Obj.coreProgramDetail c, off)]).reply st

/-- ProgramOp 1 (R376). `sigOk`: the signature verifies under the public key of the slot that KEY_REF names. -/
def verifyProgram (s : State) (c : Nat) (sigOk : Bool) : State :=
  if s.bankFree c ≠ St.ok then s.verdict c (s.bankFree c) 0
  else
    let b := s.idleBank c
    let m := s.image c b
    let key := bytesAt m (m.length - 104) 1
    if m.length < 104 ∨ !sigOk ∨ key < 0x10 ∨ !s.keyLive key then s.verdict c St.penImageSig (m.length - 96)
    else match Pen.verify m 5 (s.floorOf 4) with
      | (st, off) => if st = St.ok then (s.setReg (bankKey c b) 2).verdict c St.ok 0 else (s.setReg (bankKey c b) 1).verdict c st off

/-- Empty a bank of a core. -/
def emptyBank (s : State) (c b : Nat) : State := ((s.setFifo (Fifo.image c b) []).setReg (bankKey c b) 0).setVersion c b 0

/-- ProgramOp 2 (R376): a staged or verified bank that is not active becomes empty. -/
def emptyProgram (s : State) (c : Nat) : State :=
  if s.bankFree c ≠ St.ok then s.verdict c (s.bankFree c) 0
  else
    let b := s.idleBank c
    (if s.bankState c b = 1 ∨ s.bankState c b = 2 then s.emptyBank c b else s).verdict c St.ok 0

/-- A core of the Ensign pair starts again from its active bank (R381); it is idle where an update has loaded no runtime. -/
def pairCore (s : State) (c : Nat) : State :=
  let m := s.coreImage c
  if m = [] then s.setReg (Obj.coreState c) 0
  else
    let s := ((s.coreStart c m).coreLoad c m).setNum (Num.coreQ c) []
    (s.setReg (Obj.coreState c) 1).bump (Obj.coreResets c) 32

/-- The runtime runs: each placed region is to be redrawn, of the page in front where no other is chosen, and signed anew (R381). -/
def pairRun (s : State) : State :=
  let s := (s.setRegs [(Reg.ensDown, 0), (Reg.stalled, 0), (Reg.ensPeriodMissed, 0)]).pairCore 30 |>.pairCore 31
  let s := match s.activePkg with
    | none => s
    | some p => p.regions.foldl (fun (s : State) (r : EnsRegion) =>
        let n := r.head
        let k := r.region
        let s := if s.reg (Reg.regionBackPage n k) = 0 then
            s.setRegs [(Reg.regionBackPage n k, s.reg (Obj.pageShown n k) + 1), (Reg.regionBackFrom n k, s.reg (Reg.regionFrontFrom n k))] else s
        s.setRegs [(Reg.regionSigned n k, 0), (Reg.regionResign n k, 1)]) s
  s.regionsChoose

/-- The runtime runs again after a restart of the pair (R381). -/
def pairReady (s : State) : State := (s.pairRun.raise [.hal, .owner, .ens] U.ens St.ensPairRestarted 1 2 []).startPassed U.ens

end State

/-- MAILBOX_IN (R366). -/
def execMailboxIn (n c : Nat) (v : List Byte) (s : State) : Host.Outcome State Fault Refusal :=
  s.whenUp (fun s =>
    .next (s.written n (Obj.coreMailboxIn c) v (fun s => s.mailboxWrite c v)))

/-- PROGRAM_STAGE (R376). -/
def execProgramStage (n c : Nat) (v : List Byte) (s : State) : Host.Outcome State Fault Refusal :=
  s.whenUp (fun s =>
    .next (s.written n (Obj.coreProgramStage c) v (fun s => s.stageWrite c v)))

/-- PROGRAM_VERIFY (R376): ProgramOp 1. -/
def execProgramVerify (n c : Nat) (sigOk : Bool) (s : State) : Host.Outcome State Fault Refusal :=
  s.whenUp (fun s =>
    .next (s.written n (Obj.coreProgramOp c) [1] (fun s => s.verifyProgram c sigOk)))

/-- PROGRAM_EMPTY (R376): ProgramOp 2. -/
def execProgramEmpty (n c : Nat) (s : State) : Host.Outcome State Fault Refusal :=
  s.whenUp (fun s =>
    .next (s.written n (Obj.coreProgramOp c) [2] (fun s => s.emptyProgram c)))

/-- ENS_LOCKSTEP (R380): the comparator finds a difference between cores 30 and 31. -/
def execEnsLockstep (s : State) : Host.Outcome State Fault Refusal :=
  s.whenUp (fun s =>
    .next (if s.reg Reg.ensDown = 1 ∨ s.reg Reg.ensHalted = 1 then s
      else (s.coreRaise 30 St.ensLockstep 4 []).pairRestart))

/-- ENS_PAIR_RESTARTED (R381): the pair runs again; every region is redrawn and signed. -/
def execEnsPairRestarted (s : State) : Host.Outcome State Fault Refusal :=
  s.whenUp (fun s =>
    .next (if s.reg Reg.ensDown = 0 ∨ s.reg Reg.ensHalted = 1 then s else s.pairReady))

end Sys2Proof.Machine
end

