-- ==== Sys2Proof/Machine/Zenith.lean ====
section
/-!
DEFINITION. Machine/Zenith.lean: the security unit (R390 to R396, R404): ownership tickets, the lifecycle, signatures of the identity key, attestation.
-/
namespace Sys2Proof.Machine

namespace Ticket

/-- Length of an ownership ticket (R394). -/
abbrev size : Nat := 214
/-- HW_TYPE. -/
def hw (t : Bytes) : Nat := bytesAt t 4 4
/-- UNIT_SERIAL. -/
def serial (t : Bytes) : Nat := bytesAt t 8 8
/-- NEXT_SLOT. -/
def next (t : Bytes) : Nat := bytesAt t 16 1
/-- The new owner's public key. -/
def key (t : Bytes) : Bytes := (t.drop 20).take 97
/-- KEY_REF. -/
def ref (t : Bytes) : Nat := bytesAt t 117 1

/-- The new key is an uncompressed point of P-384 that passes R398. -/
def keyOk (t : Bytes) : Bool :=
  let k := key t
  bytesAt k 0 1 == 4 && Key.pointStatus Ecc.p384 (Sha.beNat ((k.drop 1).take 48), Sha.beNat (k.drop 49)) == St.ok

end Ticket

namespace State

/-- Journal a step of the security unit (record type 0x41): step, class, value. -/
def secJnl (s : State) (step cls v : Nat) : State := s.jnl 0x41 U.sec 0xFF 0xFF false (record [(1, step), (1, cls), (8, v)])

/-- Blow lifecycle fuses up to a state (R393). Entering RETIRED erases key slots 0 to 7. -/
def lifecycleTo (s : State) (st : Nat) : State :=
  let s := ((s.setReg Obj.lifecycleState st).secJnl 0x10 0xFF st).raise [.hal, .owner] U.sec St.lifecycleAdvanced 0xFF 1 [(1, st)]
  if st = 4 then (s.slotsErase (fun k => decide (k < 8))).setReg Obj.ownerSlot 0xFF else s

/-- Check of a ticket (R394 step 1). `sigOk`: its signature verifies under the public key of the slot that KEY_REF names. -/
def ticketStatus (s : State) (t : Bytes) (sigOk : Bool) : Nat :=
  let st := s.reg Obj.lifecycleState
  let claim := st == 2 && decide (Ticket.ref t < 0x10) && Ticket.next t == 0
  let own := s.reg Obj.ownerSlot
  let transfer := st == 3 && own != 0xFF && Ticket.ref t == 0x10 + own && Ticket.next t == own + 1
  if st = 4 then St.lifecycleState
  else if t.length ≠ Ticket.size ∨ bytesAt t 0 4 ≠ 0x544F4A46 ∨ bytesAt t 17 3 ≠ 0 ∨ Ticket.hw t ≠ s.reg Obj.hardwareType
    ∨ Ticket.serial t ≠ s.reg Obj.unitSerial ∨ !Ticket.keyOk t ∨ !sigOk ∨ !s.keyLive (Ticket.ref t) ∨ !(claim || transfer) then St.ownerTicketInvalid
  else if Ticket.next t = 4 then St.limitReached
  else St.ok

/-- Steps 2 to 5 of R394. -/
def ticketRun (s : State) (t : Bytes) : State :=
  let next := Ticket.next t
  let claim := s.reg Obj.lifecycleState == 2
  let s := (s.secJnl 2 0xFF next).secJnl 3 0xFF next
  let s := s.setRegs [(okey 0x401 (4 + next), leNat (sha384 (Ticket.key t))), (Obj.ownerSlot, next),
    (Obj.revokeMask, if next = 0 then s.reg Obj.revokeMask else setBit (s.reg Obj.revokeMask) (3 + next)),
    (Obj.ownerSlotsLeft, s.reg Obj.ownerSlotsLeft - 1)]
  let s := if claim then s.lifecycleTo 3 else s.closeSessions (fun n => s.reg (Reg.certRef n) == 0x0F + next)
  let s := (s.slotsErase (fun k => decide (k < 8))).setRegs [(Reg.sealKey, s.fresh % 2 ^ 256), (Reg.ownerPub, leNat (Ticket.key t))]
  let s := s.tick.raise [.hal, .owner] U.sec St.ownerChanged 0xFF 1 [(1, next)]
  let s := if next = 3 then s.raise [.hal, .owner] U.sec St.limitReached 0xFF 2 [(1, 6), (4, 0), (1, 0xFF)] else s
  if s.reg Obj.ownerSlotsLeft = 0 then s.spareEvent U.sec 6 0 0 0xFF else s

/-- OwnerOp 1 (R394). -/
def ownerWrite (s : State) (sigOk : Bool) : State :=
  let t := decDomain (s.reg Obj.ownerTicket)
  let st := s.ticketStatus t sigOk
  let s := if st = St.ok then s.ticketRun t else s
  (s.setReg Obj.ownerStatus st).reply st

/-! Identity (R395) and attestation (R404). -/

/-- A signature of the identity key over SHA-384 of some bytes, and the state after the free nonce has been taken. -/
def identitySign (s : State) (d : Bytes) : Bytes × State :=
  let c := Ecc.p384
  let x := c.sign (s.reg Reg.identityKey) (Sha.beNat (sha384 d)) (s.fresh % (c.n - 1) + 1)
  (Sha.beBytes 48 x.1 ++ Sha.beBytes 48 x.2, s.tick)

/-- What stands against a signature of the identity key: no identity (R395), or no randomness (R399). -/
def signStatus (s : State) : Nat :=
  if s.reg Reg.identityLost = 1 ∨ s.reg Reg.identityKey = 0 then St.identityUnavailable
  else if s.reg Reg.rngStopped = 1 then St.cryptoRngFail
  else St.ok

/-- The identity record of reference `r`, 46 bytes. -/
def identBytes (s : State) (r : Nat) : Bytes :=
  record [(1, s.reg (Obj.identSource r)), (10, s.reg (Obj.identLot r)), (1, s.reg (Obj.identWafer r)), (1, s.reg (Obj.identDieX r)),
    (1, s.reg (Obj.identDieY r)), (16, s.reg (Obj.identPartId r)), (16, s.reg (Obj.identModuleSerial r))]

/-- The report without its signature for session `n`. -/
def attestBody (s : State) (n : Nat) : Bytes :=
  let w := if s.cls n = Cls.fld then 0xFF else s.reg (Reg.sessWorld n)
  let flags := b2n (s.reg Obj.debugActive == 1 || s.reg (Obj.measurement 7) != 0)
    + 2 * b2n (w != 0xFF && s.reg (Obj.debugMark w) == 1)
    + 4 * b2n (s.handles.any (fun h => s.reg (Reg.unitState h) == 2))
  record [(4, 0x54414A46), (2, 1), (2, flags), (4, s.reg Obj.hardwareType), (1, s.reg Obj.lifecycleState), (1, s.reg Obj.ownerSlot), (1, w), (1, 0),
      (8, s.reg Obj.unitSerial), (32, s.reg (skey n Obj.attestNonce)), (8, s.now), (4, s.hoursNow), (8, s.reg Obj.rollbackFloors)]
    ++ (List.range 16).flatMap (fun j => leBytes 48 (s.reg (Obj.measurement j)))
    ++ (List.range 17).flatMap (fun r => s.identBytes (r + 1))

/-- AttestOp 1 (R404). -/
def attestWrite (s : State) (n : Nat) : State :=
  let st := s.signStatus
  if st ≠ St.ok then (s.setRegs [(skey n Obj.attestStatus, st), (skey n Obj.attestReport, 1)]).reply st
  else
    let d := s.attestBody n
    match s.identitySign d with
    | (sig, s) => (s.setRegs [(skey n Obj.attestStatus, St.ok), (skey n Obj.attestReport, encDomain (d ++ sig))]).reply St.ok

/-- The transition that session `n` may make (R393): an Acdon debug session with the lifecycle scope from MANUFACTURING and FACTORY_TEST; the live owner,
or such a session, from OWNED. -/
def lifecycleStatus (s : State) (n : Nat) : Nat :=
  let st := s.reg Obj.lifecycleState
  let acdon := s.reg (Reg.sessClass n) == Cls.dbg && s.reg (Reg.certOwner n) == 0 && bit (s.reg (Reg.certScope n)) 4
  if st = 0 ∨ st = 1 then (if acdon then St.ok else St.accessDenied)
  else if st = 3 then (if acdon || s.cls n == Cls.own then St.ok else St.accessDenied)
  else St.lifecycleState

end State

/-- OWNER_TICKET (R394): OwnerOp 1. -/
def execOwnerTicket (n : Nat) (sigOk : Bool) (s : State) : Host.Outcome State Fault Refusal :=
  s.whenUp (fun s =>
    .next (s.written n Obj.ownerOp [1] (fun s => s.ownerWrite sigOk)))

/-- LIFECYCLE_ADVANCE (R393): session `n` has a fuse blown. -/
def execLifecycleAdvance (n : Nat) (s : State) : Host.Outcome State Fault Refusal :=
  s.whenUp (fun s =>
    .next (s.request n 2 Obj.lifecycleState (fun s =>
      if s.lifecycleStatus n ≠ St.ok then s.reply (s.lifecycleStatus n) else (s.lifecycleTo (s.reg Obj.lifecycleState + 1)).reply St.ok)))

/-- ATTEST (R404): AttestOp 1. -/
def execAttest (n : Nat) (s : State) : Host.Outcome State Fault Refusal :=
  s.whenUp (fun s =>
    .next (s.written n Obj.attestOp [1] (fun s => s.attestWrite n)))

end Sys2Proof.Machine
end

