-- ==== Sys2Proof/Machine/Updates.lean ====
section
/-!
DEFINITION. Machine/Updates.lean: field update (chapter 17): the package header (R408), its body (R409, R491), activation (R411 to R413), the end of a
trial (R417, R420), anti-rollback floors (R418, R419).
-/
namespace Sys2Proof.Machine

namespace Upd

/-- FLAGS of a package header (table Package header). -/
def flags (d : Bytes) : Nat := bytesAt d 6 2
/-- The package is a recovery package. -/
def recovery (d : Bytes) : Bool := bit (flags d) 1
/-- VERSION. -/
def version (d : Bytes) : Nat := bytesAt d 12 4
/-- ISSUER. -/
def issuer (d : Bytes) : Nat := bytesAt d 16 1
/-- ELEMENTS. -/
def elements (d : Bytes) : Nat := bytesAt d 18 1
/-- ROLLBACK of the header. -/
def rollback (d : Bytes) : Nat := bytesAt d 19 1
/-- LENGTH. -/
def length (d : Bytes) : Nat := bytesAt d 20 4
/-- KEY_REF. -/
def keyRef (d : Bytes) : Nat := bytesAt d 3992 1
/-- Field of `n` bytes at offset `k` of element `e` (table Element entry). -/
def elem (d : Bytes) (e k n : Nat) : Nat := bytesAt d (256 + 80 * e + k) n
/-- TYPE of an element. -/
def typ (d : Bytes) (e : Nat) : Nat := elem d e 0 2
/-- Body offset of an element. -/
def off (d : Bytes) (e : Nat) : Nat := elem d e 8 4
/-- Body bytes of an element. -/
def len (d : Bytes) (e : Nat) : Nat := elem d e 12 4
/-- First byte behind the body of an element. -/
def ends (d : Bytes) (e : Nat) : Nat := off d e + len d e

/-- Units that can hold an item of a type, anti-rollback class of the type (table Firmware items). -/
def kind (t : Nat) : Option (Nat × Nat) :=
  if t = 0x0010 then some (1, 0) else if t = 0x0011 then some (1, 2) else if t = 0x0068 then some (22, 1)
  else if t = 0x0050 then some (8, 1) else if t = 0x0058 then some (3, 1) else none

/-- Handle of the unit of a type with instance number `i`. -/
def unitAt (t i : Nat) : Nat :=
  if t = 0x0010 then U.hal else if t = 0x0011 then U.ens else if t = 0x0068 then U.core i else if t = 0x0050 then U.touch i else U.hapGroup i

/-- Handles of the targets of an element. -/
def targets (d : Bytes) (e : Nat) : List Nat :=
  ((List.range 32).filter (fun i => bit (elem d e 4 4) i)).map (unitAt (typ d e))

/-- Handles of every target of a package. -/
def allTargets (d : Bytes) : List Nat := (List.range (elements d)).flatMap (targets d)

/-- The body of element `e` among the bytes that follow a header. -/
def body (d data : Bytes) (e : Nat) : Bytes := (data.drop (off d e - 4096)).take (len d e)

end Upd

namespace State

/-- Check 4 of R408 for one element of a package with RECOVERY clear. -/
def elementOk (s : State) (d : Bytes) (e : Nat) : Bool :=
  match Upd.kind (Upd.typ d e) with
  | none => false
  | some (count, cls) =>
    Upd.elem d e 2 1 == cls && decide (Upd.elem d e 4 4 < 2 ^ count)
      && (List.range e).all (fun e' => (Upd.targets d e').all (fun h => !(Upd.targets d e).contains h))
      && decide (4096 ≤ Upd.off d e) && Upd.off d e % 4096 == 0 && decide (Upd.ends d e ≤ Upd.length d)
      && (Upd.targets d e).all (fun h => decide (Upd.elem d e 20 4 ≤ s.reg (Reg.itemVer h (s.reg (Reg.itemBank h)))))

/-- Check 4 of R408 for the element of a recovery package. -/
def recoveryElementOk (d : Bytes) : Bool :=
  Upd.elements d == 1 && Upd.typ d 0 == 0 && Upd.elem d 0 2 1 == 5 && Upd.elem d 0 4 4 == 0 && Upd.elem d 0 3 1 == Upd.rollback d
    && decide (4096 ≤ Upd.off d 0) && Upd.off d 0 % 4096 == 0 && decide (Upd.ends d 0 ≤ Upd.length d)

/-- The checks of a header (R408): status and the element it names. `sigOk`: the signature verifies under the slot that KEY_REF names; `idle` stands for
check 6. -/
def headerStatus (s : State) (d : Bytes) (sigOk idle : Bool) : Nat × Nat :=
  let k := Upd.keyRef d
  let es := List.range (Upd.elements d)
  if d.length ≠ 4096 ∨ !sigOk ∨ !s.keyLive k ∨ (if Upd.issuer d = 0 then decide (0x10 ≤ k) else decide (k < 0x10)) then (St.updSigInvalid, 0)
  else if bytesAt d 0 4 ≠ 0x50554A46 ∨ bytesAt d 4 2 ≠ 1 ∨ bytesAt d 8 4 ≠ s.reg Obj.hardwareType ∨ Upd.issuer d ≠ b2n (Upd.recovery d) then
    (St.updType, 0)
  else if bytesAt d 17 1 ≠ 0 ∧ (16 < bytesAt d 17 1 ∨
      !(List.range (bytesAt d 17 1)).any (fun i => bytesAt d (128 + 8 * i) 8 == s.reg Obj.unitSerial)) then (St.updSerial, 0)
  else if Upd.elements d = 0 ∨ 32 < Upd.elements d ∨ 192 * 1024 * 1024 < Upd.length d then (St.updElementInvalid, 0)
  else
    let wrong := if Upd.recovery d then (if recoveryElementOk d then none else some 0) else es.find? (fun e => !s.elementOk d e)
    match wrong with
    | some e => (St.updElementInvalid, e)
    | none =>
      match es.find? (fun e => decide (Upd.elem d e 3 1 < s.floorOf (Upd.elem d e 2 1))) with
      | some e => (St.updRollback, e)
      | none => if idle then (St.ok, 0) else (St.updState, 0)

/-- The result of a write to the update unit or of an UpdOp. -/
def updAnswer (s : State) (st e : Nat) : State := (s.setRegs [(Obj.updStatus, st), (Obj.updDetail, 0x10000 * e)]).reply st

/-- The update unit returns to IDLE with nothing staged. -/
def updIdle (s : State) : State :=
  (((s.setFifo Fifo.updHeader []).setFifo Fifo.updBody []).setRegs [(Obj.updStagedVersion, 0), (Reg.updSession, 0), (Reg.updClass5, 0),
    (Reg.updFlags, 0)]).updTo 0

/-- A write of UpdHeader (R408). -/
def updHeaderWrite (s : State) (n : Nat) (d : Bytes) (sigOk : Bool) : State :=
  match s.headerStatus d sigOk (s.reg Obj.updState == 0) with
  | (st, e) =>
    if st ≠ St.ok then s.updAnswer st e
    else
      let s := (s.setFifo Fifo.updHeader [d]).setFifo Fifo.updBody [[]]
      ((s.setRegs [(Reg.updSession, n + 1), (Reg.updFlags, b2n (bit (Upd.flags d) 0)),
        (Reg.updClass5, if Upd.recovery d then Upd.rollback d + 1 else 0)]).updTo 1).updAnswer St.ok 0

/-- Header of the package in the update unit. -/
def updHeaderNow (s : State) : Bytes := (s.fifo Fifo.updHeader).headD []

/-- Bank an item is not running from. -/
def idleArea (s : State) (h : Nat) : Nat := 1 - s.reg (Reg.itemBank h)

/-- Empty a bank of an item. -/
def areaEmpty (s : State) (h b : Nat) : State := ((s.setFifo (Fifo.item h b) []).setItemState h b 0).setRegs [(Reg.itemVer h b, 0), (Reg.itemRev h b, 0)]

/-- Write the body of element `e` of package `d` to a bank of a target, with its VERSION and OBJECT_REV. -/
def areaWrite (s : State) (h b : Nat) (d data : Bytes) (e : Nat) : State :=
  ((s.setFifo (Fifo.item h b) [Upd.body d data e]).setItemState h b 1).setRegs
    [(Reg.itemVer h b, Upd.elem d e 16 4), (Reg.itemRev h b, Upd.elem d e 24 1)]

/-- Erase blocks that fail are replaced by spares of their bank (R491, R489). -/
def norFail (s : State) (bad : List Nat) : State :=
  bad.foldl (fun s b =>
    if s.reg (Reg.norSpare b) = 0 then s
    else
      let left := s.reg (Reg.norSpare b) - 1
      let s := s.setReg (Reg.norSpare b) left
      (s.setReg Obj.norBlocksLeft (min (s.reg (Reg.norSpare 0)) (s.reg (Reg.norSpare 1)))).spareEvent U.upd 4 left 8 b) s

/-- Elements whose bodies hold some byte from `a` up to `b`. -/
def touched (d : Bytes) (a b : Nat) : List Nat :=
  (List.range (Upd.elements d)).filter (fun e => decide (Upd.off d e < b) && decide (a < Upd.ends d e))

/-- Elements that begin among those bytes. -/
def begun (d : Bytes) (a b : Nat) : List Nat :=
  (List.range (Upd.elements d)).filter (fun e => decide (a ≤ Upd.off d e) && decide (Upd.off d e < b))

/-- Elements that end among those bytes. -/
def ended (d : Bytes) (a b : Nat) : List Nat :=
  (List.range (Upd.elements d)).filter (fun e => decide (Upd.off d e < b) && decide (Upd.ends d e ≤ b) && (decide (a < Upd.ends d e) || decide (a ≤ Upd.off d e)))

/-- The body of an element has its DIGEST. -/
def digestOk (d data : Bytes) (e : Nat) : Bool := leNat (sha384 (Upd.body d data e)) == Upd.elem d e 32 48

/-- A body that does not match (R409): the written areas are erased and the unit is IDLE. -/
def updMismatch (s : State) (d : Bytes) (st e : Nat) : State :=
  (((Upd.allTargets d).foldl (fun s h => s.areaEmpty h (s.idleArea h)) s).updIdle).updAnswer st e

/-- The package is staged (R409). -/
def updStaged (s : State) : State :=
  let s := (s.setRegs [(Obj.updStagedVersion, Upd.version s.updHeaderNow)]).updTo 2
  (s.raise [.hal, .owner] U.upd St.updStaged 0xFF 1 [(4, s.reg Obj.updStagedVersion)]).updAnswer St.ok 0

/-- The inner package of a recovery package, whole (R423): checked as if written on its own; its items go into both banks in recovery, else into the
inactive ones. -/
def updInner (s : State) (m : Bytes) (innerOk both : Bool) : State :=
  let d := m.take 4096
  let data := m.drop 4096
  match s.headerStatus d innerOk true with
  | (st, e) =>
    if st ≠ St.ok then s.updIdle.updAnswer st e
    else if Upd.recovery d then s.updIdle.updAnswer St.updType 0
    else match (List.range (Upd.elements d)).find? (fun e => decide (4096 + data.length < Upd.ends d e) || !digestOk d data e) with
      | some e => s.updIdle.updAnswer St.updDigest e
      | none =>
        let s := (List.range (Upd.elements d)).foldl (fun s e => (Upd.targets d e).foldl (fun s h =>
          let s := if both then s.areaWrite h (s.reg (Reg.itemBank h)) d data e else s
          s.areaWrite h (s.idleArea h) d data e) s) s
        ((s.setFifo Fifo.updHeader [d]).setReg Reg.updFlags (b2n (bit (Upd.flags d) 0))).updStaged

/-- The whole package is in (R409, R423). -/
def updLast (s : State) (d data : Bytes) (innerOk both : Bool) : State :=
  match (List.range (Upd.elements d)).find? (fun e => decide (4096 + data.length < Upd.ends d e)) with
  | some e => s.updMismatch d St.updDigest e
  | none => if Upd.recovery d then s.updInner (Upd.body d data 0) innerOk both else s.updStaged

/-- A segment of UpdBody (R409, R491). -/
def updBodyWrite (s : State) (n off : Nat) (last : Bool) (v : Bytes) (bad : List Nat) (innerOk : Bool) : State :=
  let d := s.updHeaderNow
  let old := (s.fifo Fifo.updBody).headD []
  let a := 4096 + old.length
  let b := a + v.length
  if s.reg Obj.updState ≠ 1 ∨ off < 4096 then s.updAnswer St.updState 0
  else if off ≠ a ∨ s.reg Reg.updSession ≠ n + 1 then s.updAnswer St.domainOrder 0
  else if Upd.length d < b then s.updAnswer St.valueRange 0
  else
    let worn := fun e => (Upd.targets d e).any (fun h => s.reg (Reg.norSpare (s.idleArea h)) == 0)
    match (touched d a b).find? worn with
    | some e => s.updAnswer St.limitReached e
    | none =>
      let data := old ++ v
      let s := s.norFail bad
      let s := (begun d a b).foldl (fun s e => (Upd.targets d e).foldl (fun s h => s.areaEmpty h (s.idleArea h)) s) s
      match (ended d a b).find? (fun e => !digestOk d data e) with
      | some e => s.updMismatch d St.updDigest e
      | none =>
        let s := (ended d a b).foldl (fun s e => (Upd.targets d e).foldl (fun s h =>
          s.areaWrite h (s.idleArea h) d data e) s) s
        let s := s.setFifo Fifo.updBody [data]
        if last then s.updLast d data innerOk false else s.updAnswer St.ok 0

/-! Activation (R411 to R413). -/

/-- Refusal of a schedule (R411). -/
def updScheduleStatus (s : State) : Nat :=
  let t := s.reg Obj.updActivateAt
  if s.reg Obj.updState ≠ 2 then St.updState
  else if t ≠ 0 ∧ t < s.now + 5000000000 then St.schedTooLate
  else if t ≠ 0 ∧ s.now + 1000000000 * s.reg Obj.schedHorizonS < t then St.schedTooFar
  else if !s.locked then St.schedTimeLost
  else St.ok

/-- The program of a core arrives in the bank it does not run, and the core swaps to it at its next period boundary (R377, R413). -/
def coreInstall (s : State) (c : Nat) (d : Bytes) : State :=
  let b := 1 - s.coreBank c
  let s := ((s.setFifo (Fifo.image c b) [d]).setReg (bankKey c b) 2).setReg (if b = 0 then Obj.coreBankVersionA c else Obj.coreBankVersionB c) (Pen.version d)
  let s := if s.bankState c (1 - b) = 3 ∨ s.bankState c (1 - b) = 4 then s.setReg (bankKey c (1 - b)) 2 else s
  s.setReg (Reg.coreBack c) 1

/-- The runtime goes into bank `b` of both cores of the Ensign pair. -/
def pairInstall (s : State) (b : Nat) (d : Bytes) : State :=
  [30, 31].foldl (fun s c => ((s.setFifo (Fifo.image c b) [d]).setReg (bankKey c b) 3).setReg
    (if b = 0 then Obj.coreBankVersionA c else Obj.coreBankVersionB c) (Pen.version d)) s

/-- Halyard stops serving while it restarts (R414): every dictionary session closes. -/
def halDown (s : State) : State := (s.closeSessions (fun _ => true)).setReg Reg.halServing 0

/-- A unit starts afresh on the bank its item now runs from, as the table Firmware items gives (R413); `back` where it returns to that bank. -/
def itemRestart (s : State) (h : Nat) (back : Bool) : State :=
  let b := s.reg (Reg.itemBank h)
  let d := (s.fifo (Fifo.item h b)).headD []
  if unitType h = 0x0050 then s.touchStart (h - U.touch 0)
  else if unitType h = 0x0058 then
    let g := (h - U.hapGroup 0) / 9
    ((List.range 8).foldl (fun s c => s.hapHalt g c) s).hapGroupStart g
  else if unitType h = 0x0068 then
    let c := h - U.core 0
    if !back then s.coreInstall c d
    else if s.bankState c (1 - s.coreBank c) = 2 then (s.setReg (bankKey c (s.coreBank c)) 2).setReg (Reg.coreBack c) 1
    else (s.setRegs [(Obj.coreActiveBank c, 1 - s.coreBank c), (Obj.coreState c, 0)]).startPassed h
  else if h = U.hal then s.halDown
  else s

/-- One target switches to its other bank and its start check begins (R413, R415, R396); the units are those that the new image declares (R9, R10). -/
def itemActivate (s : State) (h : Nat) : State :=
  let st := s.reg (Reg.unitState h)
  let b := s.idleArea h
  let d := (s.fifo (Fifo.item h b)).headD []
  let s := if h = U.ens ∧ st ≠ 0 ∧ st ≠ 5 then s.pairRestart else s
  if s.reg (Reg.unitState h) = 0 ∨ s.reg (Reg.unitState h) = 5 then s.setNum Num.updSkipped (s.num Num.updSkipped ++ [h])
  else
    let s := if h = U.ens then s.pairInstall b d else s
    let s := ((s.itemSwitch h b 3 1).setReg (Reg.startCheck h) 1).setUnitState h 2
    let s := s.measure (if h = U.hal then 0 else if h = U.ens then 2 else 1) d
    (s.redeclare h d).itemRestart h false

/-- Activation: the targets switch in ascending handle, Halyard last (R413). -/
def updActivate (s : State) : State :=
  let hs := Upd.allTargets s.updHeaderNow
  let s := (s.setNum Num.updSkipped []).updTo 4
  let s := (Upd.items.filter (fun h => h != U.hal && hs.contains h)).foldl (fun s h => s.itemActivate h) s
  (if hs.contains U.hal then s.itemActivate U.hal else s).updSettle

/-- UpdOp 1 (R411). -/
def updSchedule (s : State) : State :=
  let st := s.updScheduleStatus
  if st ≠ St.ok then s.updAnswer st 0
  else
    let s := (s.updTo 3).updAnswer St.ok 0
    if s.reg Obj.updActivateAt = 0 then s.updActivate else s

/-- UpdOp 2 (R411). -/
def updCancel (s : State) : State :=
  if s.reg Obj.updState ≠ 2 ∧ s.reg Obj.updState ≠ 3 then s.updAnswer St.updState 0 else s.updIdle.updAnswer St.ok 0

/-- The package missed its activation and is STAGED again (R412). -/
def updMissed (s : State) : State :=
  ((s.updTo 2).raise [.hal, .owner] U.upd St.updSchedMissed 0xFF 2 [(8, s.reg Obj.updActivateAt)]).hoistMissed (s.reg Obj.updStagedVersion)

/-- A schedule whose UpdActivateAt passed during a power loss is missed (R412). -/
def updOutage (s : State) : State :=
  if s.reg Obj.updState = 3 ∧ s.reg Obj.updActivateAt ≠ 0 ∧ s.reg Obj.updActivateAt < s.now then s.updMissed else s

/-- UpdActivateAt has come (R412, R413); in hold-up nothing activates. -/
def updDue (s : State) : State :=
  if s.reg Obj.updState ≠ 3 ∨ s.now < s.reg Obj.updActivateAt ∨ s.reg Obj.powerState = 4 then s
  else if !s.locked then s.updMissed
  else s.updActivate

/-! Floors (R418, R419). -/

/-- Raise the floor of a class fuse by fuse, each journalled before it blows; never above 64, never down (R418, R489). -/
def floorRaise (s : State) (c step : Nat) : State :=
  let old := s.floorOf c
  let new := min step 64
  if new ≤ old then s
  else
    let s := (List.range (new - old)).foldl (fun s i =>
      let f := old + i + 1
      let floors := s.reg Obj.rollbackFloors
      let s := (s.secJnl 5 c f).setReg Obj.rollbackFloors (floors + 2 ^ (8 * c))
      if f = 60 ∨ f = 64 then s.spareEvent U.sec 5 (64 - f) 4 c else s) s
    let top := (List.range 6).foldl (fun m c => max m (s.floorOf c)) 0
    (s.setReg Obj.rollbackStepsLeft (64 - top)).raise [.hal, .owner] U.sec St.updFloorRaised 0xFF 1 [(1, c), (1, new)]

/-- Highest ROLLBACK of the elements of a class in a package. -/
def topStep (d : Bytes) (c : Nat) : Nat :=
  (List.range (Upd.elements d)).foldl (fun m e => if Upd.elem d e 2 1 = c then max m (Upd.elem d e 3 1) else m) 0

/-- Confirm the package in trial (R417, R418, R420). -/
def updConfirm (s : State) : State :=
  let d := s.updHeaderNow
  let s := (Upd.items.filter (fun h => s.itemTrial h)).foldl (fun s h =>
    let s := s.itemSwitch h (s.reg (Reg.itemBank h)) 2 1
    if s.reg (Reg.unitState h) = 2 then s.setUnitState h 1 else s) s
  let s := if s.reg Reg.updFlags = 1 then (List.range 6).foldl (fun s c => s.floorRaise c (topStep d c)) s else s
  let s := if s.reg Reg.updClass5 = 0 then s else s.floorRaise 5 (s.reg Reg.updClass5 - 1)
  (s.raise [.hal, .owner] U.upd St.updConfirmed 0xFF 1 [(4, s.reg Obj.updActiveVersion)]).updIdle

/-- UpdOp 3. -/
def updConfirmOp (s : State) : State :=
  if s.reg Obj.updState ≠ 5 then s.updAnswer St.updState 0 else s.updConfirm.updAnswer St.ok 0

/-- UpdOp 4 (R417): every switched item returns to its previous bank under R415, with restarts as R413 gives. -/
def updRejectOp (s : State) : State :=
  if s.reg Obj.updState ≠ 5 then s.updAnswer St.updState 0
  else
    let hs := Upd.items.filter (fun h => s.itemTrial h)
    let s := (s.setReg Obj.updActiveVersion (s.reg Reg.updPrevVersion)).updIdle.updAnswer St.ok 0
    let s := (hs.filter (fun h => h != U.hal) ++ hs.filter (fun h => h == U.hal)).foldl (fun s h =>
      let s := if h = U.ens then s.setReg Reg.ensDown 1 else s
      match s.startFailed h with
      | (s, _) => (s.setItemState h (s.idleArea h) 1).itemRestart h true) s
    s

/-- UpdOp 5 (R419). -/
def updFloorOp (s : State) (n : Nat) : State :=
  let c := s.reg Obj.updFloorClass
  let step := s.reg Obj.updFloorStep
  let ok := if c = 3 then (match s.activePkg with | some p => decide (step ≤ p.rollback) | none => false)
    else ((List.range 8).map (· + 22)).all (fun k => (s.bankState k (s.coreBank k) != 3 && s.bankState k (s.coreBank k) != 4)
      || decide (step ≤ bytesAt (s.coreImage k) 16 1))
  if c ≠ 3 ∧ c ≠ 4 then s.updAnswer St.valueRange 0
  else if s.cls n ≠ Cls.own ∨ !ok then s.updAnswer St.updRollback 0
  else (s.floorRaise c step).updAnswer St.ok 0

/-- UpdOp 6 (R410): the file on the USB device at the port UpdUsbPort names, header first. -/
def updUsbOp (s : State) (n : Nat) (file : Bytes) (sigOk : Bool) (bad : List Nat) (innerOk : Bool) : State :=
  let h := s.reg Obj.updUsbPort
  if s.cls n ≠ Cls.own ∧ s.cls n ≠ Cls.dbg then s.updAnswer St.accessDenied 0
  else if file = [] ∨ h < U.usbHost 0 ∨ U.usbHost 0 + 1 < h then s.updAnswer St.updState 0
  else
    let s := s.updHeaderWrite n (file.take 4096) sigOk
    if s.reg Obj.updStatus ≠ St.ok then s else s.updBodyWrite n 4096 true (file.drop 4096) bad innerOk

end State

/-- UPD_HEADER (R408). -/
def execUpdHeader (n : Nat) (v : List Byte) (sigOk : Bool) (s : State) : Host.Outcome State Fault Refusal :=
  s.whenUp (fun s =>
    .next (s.written n Obj.updHeader v (fun s => s.updHeaderWrite n v sigOk)))

/-- UPD_BODY (R409, R491). -/
def execUpdBody (n off : Nat) (last : Bool) (v : List Byte) (bad : List Nat) (innerOk : Bool) (s : State) : Host.Outcome State Fault Refusal :=
  s.whenUp (fun s =>
    .next (s.gated n Obj.updBody (fun s => s.updBodyWrite n off last v bad innerOk)))

/-- UPD_SCHEDULE (R411). -/
def execUpdSchedule (n : Nat) (s : State) : Host.Outcome State Fault Refusal :=
  s.whenUp (fun s =>
    .next (s.written n Obj.updOp [1] (fun s => s.updSchedule)))

/-- UPD_CANCEL (R411). -/
def execUpdCancel (n : Nat) (s : State) : Host.Outcome State Fault Refusal :=
  s.whenUp (fun s =>
    .next (s.written n Obj.updOp [2] (fun s => s.updCancel)))

/-- UPD_CONFIRM (R417, R418). -/
def execUpdConfirm (n : Nat) (s : State) : Host.Outcome State Fault Refusal :=
  s.whenUp (fun s =>
    .next (s.written n Obj.updOp [3] (fun s => s.updConfirmOp)))

/-- UPD_REJECT (R417). -/
def execUpdReject (n : Nat) (s : State) : Host.Outcome State Fault Refusal :=
  s.whenUp (fun s =>
    .next (s.written n Obj.updOp [4] (fun s => s.updRejectOp)))

/-- UPD_RAISE_FLOOR (R419). -/
def execUpdRaiseFloor (n : Nat) (s : State) : Host.Outcome State Fault Refusal :=
  s.whenUp (fun s =>
    .next (s.written n Obj.updOp [5] (fun s => s.updFloorOp n)))

/-- UPD_LOAD_USB (R410). -/
def execUpdLoadUsb (n : Nat) (file : List Byte) (sigOk : Bool) (bad : List Nat) (innerOk : Bool) (s : State) : Host.Outcome State Fault Refusal :=
  s.whenUp (fun s =>
    .next (s.written n Obj.updOp [6] (fun s => s.updUsbOp n file sigOk bad innerOk)))

/-- UPD_ACTIVATION (R412, R413). -/
def execUpdActivation (s : State) : Host.Outcome State Fault Refusal :=
  s.whenUp (fun s =>
    .next s.updDue)

/-- UPD_TRIAL_EXPIRY (R417): UpdTrialHours of hours in service have passed. -/
def execUpdTrialExpiry (s : State) : Host.Outcome State Fault Refusal :=
  s.whenUp (fun s =>
    .next (if s.reg Obj.updState ≠ 5 ∨ s.reg Obj.updTrialHours = 0 ∨ s.hoursNow < s.reg Reg.updTrialFrom + s.reg Obj.updTrialHours then s else s.updConfirm))

end Sys2Proof.Machine
end

