-- ==== Sys2Proof/Machine/Counters.lean ====
section
/-!
DEFINITION. Machine/Counters.lean: performance counters, snapshots and samplers (chapter 21).
-/
namespace Sys2Proof.Machine

namespace Pmc

/-- Group and element of a counter (table Event catalogue). -/
def place (k : Nat) : Nat × Nat :=
  if k < 8 then (0, 0) else if k < 168 then (1, (k - 8) / 10) else if k < 216 then (2, k - 168) else if k < 232 then (3, 0)
  else if k < 280 then (4, (k - 232) / 2) else if k < 344 then (5, (k - 280) / 8) else if k < 376 then (6, (k - 344) / 4)
  else if k < 408 then (7, (k - 376) / 4) else if k < 432 then (8, k - 408) else if k < 440 then (9, 0) else if k < 472 then (10, k - 440)
  else if k < 488 then (11, k - 472) else if k < 712 then (12, (k - 488) / 4) else (13, 0)

/-- A counter with events inside units that no command shows one by one: monitor steps, bursts, other fabric traffic, tile loads and stores, caches,
clusters, bytes fetched. They advance by free values (log 5) while their unit works. -/
def inner (k : Nat) : Bool :=
  let (g, e) := place k
  (g == 0 && decide (1 ≤ k) && decide (k ≤ 4)) || (g == 1 && ((k - 8) % 10 == 0 || (k - 8) % 10 == 1 || (k - 8) % 10 == 9)) || g == 2
    || (g == 3 && (k == 225 || k == 226 || k == 229 || k == 230)) || g == 4 || (g == 5 && (k - 280 - 8 * e) == 1) || (g == 12 && (k - 488) % 4 == 1)

/-- Counters of an assignable block (R477, R478): those of a touch port, a haptic channel, a pennant core, a check unit. -/
def ofBlock (h : Nat) : List Nat :=
  if unitType h = 0x0050 then (List.range 4).map (fun j => 376 + 4 * (h - U.touch 0) + j)
  else if unitType h = 0x0059 then [408 + 8 * (State.hapOf h).1 + (State.hapOf h).2]
  else if unitType h = 0x0068 then [440 + (h - U.core 0)]
  else if 0xA2 ≤ h ∧ h < 0xB2 then [472 + (h - 0xA2)]
  else []

/-- Block a counter belongs to, if it belongs to one. -/
def blockOf (k : Nat) : Option Nat :=
  let (g, e) := place k
  if g = 7 then some (U.touch e) else if g = 8 then some (U.hapChannel (e / 8) (e % 8)) else if g = 10 then some (U.core e)
  else if g = 11 then some (0xA2 + e) else none

end Pmc

namespace State

/-- The unit of a counter works, so that its inner events occur (R473). -/
def pmcWorks (s : State) (k : Nat) : Bool :=
  let (g, e) := Pmc.place k
  if g = 1 then s.reg (Obj.dramChannelState e) == 1 else if g = 3 then s.reg Obj.powerState != 4
  else if g = 4 then s.reg Obj.powerState != 4 && s.reg (Reg.unitState (U.cluster e)) != 5
  else if g = 5 then s.headLit e else if g = 12 then s.reg (Obj.instState e) != 0 else true

/-- Bring a counter up to the present instant: counter 0 to hoist time, the renderer's slots by class (R479), inner events by free values (log 5). -/
def counterSync (s : State) (k : Nat) : State :=
  if k = 0 then (s.count 0 (s.now / 1000 - s.reg Reg.usLast)).setReg Reg.usLast (s.now / 1000)
  else if 216 ≤ k ∧ k < 222 then
    if !s.pmcWorks k then s else
    let v := s.fresh
    let ns := (List.range 5).map (fun j => v / 2 ^ (32 * j) % 2 ^ 32)
    let s := (ns.zipIdx).foldl (fun s x => s.count (217 + x.2) x.1) s.tick
    s.count 216 (ns.foldl (· + ·) 0)
  else if Pmc.inner k ∧ s.pmcWorks k then s.tick.count k s.fresh
  else s

/-- Bring every counter up to the present instant. -/
def counterSyncAll (s : State) : State :=
  (List.range 712).foldl (fun s k => if 217 ≤ k ∧ k < 222 then s else s.counterSync k) s

/-- Status of a read of a counter by session `n` (R477). -/
def counterStatus (s : State) (n k : Nat) : Nat :=
  let c := s.cls n
  let (g, e) := Pmc.place k
  if c = Cls.fld then St.accessDenied
  else if 719 < k then St.notOwner
  else if c = Cls.hal ∨ c = Cls.own ∨ c = Cls.dbg then St.ok
  else if c = Cls.ens then (if g = 0 ∨ g = 5 ∨ g = 6 ∨ g = 9 ∨ k = 470 ∨ k = 471 then St.ok else St.notOwner)
  else
    let w := s.reg (Reg.sessWorld n)
    if g = 12 then (if s.reg (Obj.instState e) ≠ 0 ∧ s.instWorld e = w then St.ok else St.notOwner)
    else match Pmc.blockOf k with
      | some h => if isBlock h && s.holdsBlock w h then St.ok else St.notOwner
      | none => St.notOwner

/-- Zero the upper counter of a chain (R475). -/
def chainZero (s : State) (k : Nat) (flag : Bool) : State :=
  let s := s.setRegs [(Reg.counter k, 0), (Reg.counterRes k, 0)]
  if flag ∧ bit (s.reg Obj.overflowFlags) k then s.setReg Obj.overflowFlags (s.reg Obj.overflowFlags - 2 ^ k) else s

/-- A mask of chains is refused (R475). -/
def chainBad (s : State) (n m : Nat) : Bool :=
  bit m 719 || (List.range 719).any (fun k => bit m k && (bit m (k + 1) || Pmc.place k != Pmc.place (k + 1) || s.counterStatus n k != St.ok
    || s.counterStatus n (k + 1) != St.ok))

/-- A write of ChainMask (R475). -/
def chainWrite (s : State) (n m : Nat) : State :=
  if s.chainBad n m then s.reply St.pmcChainInvalid
  else
    let s := s.counterSyncAll
    let old := s.reg Obj.chainMask
    let s := (List.range 719).foldl (fun s k => if bit m k = bit old k then s else s.chainZero (k + 1) (bit m k)) s
    (s.setReg Obj.chainMask m).reply St.ok

/-- A write of OverflowClear (R473): bits outside the session's access clear nothing. -/
def overflowClear (s : State) (n m : Nat) : State :=
  ((List.range 720).foldl (fun s k => if bit m k && bit (s.reg Obj.overflowFlags) k && s.counterStatus n k == St.ok
    then s.setReg Obj.overflowFlags (s.reg Obj.overflowFlags - 2 ^ k) else s) s).reply St.ok

/-- Snapshot bank a session holds. -/
def snapBank (s : State) (n : Nat) : Option Nat := (List.range 4).find? (fun b => s.reg (Reg.snapHolder b) == n)

/-- SnapshotOp 1 (R476). -/
def snapTake (s : State) (n : Nat) : State :=
  match (s.snapBank n).or ((List.range 4).find? (fun b => s.reg (Reg.snapHolder b) == 0)) with
  | none => (s.setReg (skey n Obj.snapshotStatus) St.pmcSnapshotBusy).reply St.pmcSnapshotBusy
  | some b =>
    let s := s.counterSyncAll
    ((s.setNum (Num.snapshot b) ((List.range 720).map (fun k => s.reg (Reg.counter k)))).setRegs [(Reg.snapHolder b, n), (skey n Obj.snapshotStatus, St.ok),
      (skey n Obj.snapshotTime, s.now)]).reply St.ok

/-- SnapshotOp 2 (R476). -/
def snapRelease (s : State) (n : Nat) : State :=
  let s := match s.snapBank n with
    | some b => (s.setReg (Reg.snapHolder b) 0).setNum (Num.snapshot b) []
    | none => s
  (s.setReg (skey n Obj.snapshotStatus) St.ok).reply St.ok

/-- SampleOp 1 (R480). -/
def sampArm (s : State) (n j : Nat) : State :=
  let k := s.reg (Obj.sampleCounter j)
  let p := s.reg (Obj.samplePeriod j)
  if (List.range 4).all (fun x => s.reg (Reg.sampOn x) != 0) then s.reply St.limitReached
  else if s.reg (Reg.sampOn j) ≠ 0 ∧ s.reg (Obj.sampleHolder j) ≠ n then s.reply St.busy
  else if s.counterStatus n k ≠ St.ok then s.reply St.notOwner
  else if p < 64 ∨ 0x80000000 < p then s.reply St.pmcPeriodRange
  else ((s.counterSync k).setRegs [(Reg.sampOn j, k + 1), (Reg.sampPer j, p), (Reg.sampCount j, 0), (Reg.sampDone j, 0), (Reg.sampLast j, 0),
    (Reg.sampDest j, s.sessDest n), (Obj.sampleHolder j, n), (Obj.samplesLost j, 0)]).reply St.ok

/-- SampleOp 2 (R480): a guest disarms only what it armed. -/
def sampDisarm (s : State) (n j : Nat) : State :=
  if s.reg (Reg.sampOn j) = 0 then s.reply St.ok
  else if s.cls n = Cls.gst ∧ s.reg (Obj.sampleHolder j) ≠ n then s.reply St.notOwner
  else (s.setRegs [(Reg.sampOn j, 0), (Obj.sampleHolder j, 0)]).reply St.ok

/-- Payload of PMC_SAMPLE by the kind of the counter (table PMC_SAMPLE payload). -/
def samplePayload (s : State) (k : Nat) (v : List Nat) : List (Nat × Nat) :=
  let (g, e) := Pmc.place k
  let x := fun j => v.getD j 0
  if g = 3 ∨ g = 4 ∨ g = 12 then [(2, k), (2, x 0), (4, x 1), (4, x 2), (1, min 255 (x 3)), (1, x 4)]
  else if g = 10 then [(2, k), (2, e), (2, x 0), (2, 0), (4, s.reg (Obj.corePeriodCount e) % 0x100000000), (1, min 255 (x 1)), (1, 0)]
  else if g = 1 then [(2, k), (1, e), (1, x 1), (1, x 2), (1, x 3), (2, 0), (4, 0), (1, min 255 (x 4)), (1, x 5)]
  else if g = 2 then [(2, k), (1, x 0), (1, 0xFF), (1, x 2), (1, x 3), (2, 0), (4, 0), (1, min 255 (x 4)), (1, x 5)]
  else [(2, k)]

end State

/-- CHAIN_MASK_WRITE (R475). -/
def execChainMaskWrite (n : Nat) (v : List Byte) (s : State) : Host.Outcome State Fault Refusal :=
  s.whenUp (fun s =>
    .next (s.written n Obj.chainMask v (fun s => s.chainWrite n (leNat v))))

/-- OVERFLOW_CLEAR (R473, R477). -/
def execOverflowClear (n : Nat) (v : List Byte) (s : State) : Host.Outcome State Fault Refusal :=
  s.whenUp (fun s =>
    .next (s.written n Obj.overflowClear v (fun s => s.overflowClear n (leNat v))))

/-- SNAPSHOT_TAKE (R476). -/
def execSnapshotTake (n : Nat) (s : State) : Host.Outcome State Fault Refusal :=
  s.whenUp (fun s =>
    .next (s.written n Obj.snapshotOp [1] (fun s => s.snapTake n)))

/-- SNAPSHOT_RELEASE (R476). -/
def execSnapshotRelease (n : Nat) (s : State) : Host.Outcome State Fault Refusal :=
  s.whenUp (fun s =>
    .next (s.written n Obj.snapshotOp [2] (fun s => s.snapRelease n)))

/-- SAMPLER_ARM (R480). -/
def execSamplerArm (n j : Nat) (s : State) : Host.Outcome State Fault Refusal :=
  s.whenUp (fun s =>
    .next (s.written n (Obj.sampleOp j) [1] (fun s => s.sampArm n j)))

/-- SAMPLER_DISARM (R480). -/
def execSamplerDisarm (n j : Nat) (s : State) : Host.Outcome State Fault Refusal :=
  s.whenUp (fun s =>
    .next (s.written n (Obj.sampleOp j) [2] (fun s => s.sampDisarm n j)))

/-- PMC_SAMPLE (R480, R481): sampler `j` has passed one or more whole multiples of its period: one sample at most in 10 µs, the other crossings are lost.
A counter of inner events has counted up to the next multiple (log 5). -/
def execPmcSample (j : Nat) (v : List Nat) (s : State) : Host.Outcome State Fault Refusal :=
  s.whenUp (fun s =>
    .next (
      let k := s.reg (Reg.sampOn j) - 1
      let per := s.reg (Reg.sampPer j)
      if 3 < j ∨ s.reg (Reg.sampOn j) = 0 then s
      else
        let s := if k = 0 then s.counterSync 0 else s
        let due := s.reg (Reg.sampCount j) / per - s.reg (Reg.sampDone j)
        let s := if due = 0 ∧ (Pmc.inner k ∨ (216 ≤ k ∧ k < 222)) ∧ s.pmcWorks k then
            s.count k ((per - s.reg (Reg.sampCount j) % per) * State.counterScale k - s.reg (Reg.counterRes k)) else s
        let due := s.reg (Reg.sampCount j) / per - s.reg (Reg.sampDone j)
        if due = 0 then s
        else
          let s := s.setReg (Reg.sampDone j) (s.reg (Reg.sampDone j) + due)
          if s.reg (Reg.sampLast j) ≠ 0 ∧ s.now < s.reg (Reg.sampLast j) - 1 + 10000 then s.addReg (Obj.samplesLost j) 32 due
          else
            let n := s.reg (Obj.sampleHolder j)
            ((s.addReg (Obj.samplesLost j) 32 (due - 1)).setReg (Reg.sampLast j) (s.now + 1)).raise [.code (s.reg (Reg.sampDest j))] U.fj St.pmcSample
              (if s.reg (Reg.sessClass n) = Cls.gst then s.reg (Reg.sessWorld n) else 0xFF) 0 (s.samplePayload k v)))

/-- COUNTER_VIEW_READ (R478): a guest reads a word of the counter view page of instance `i`; a read of offset 0 latches the others. -/
def execCounterViewRead (i off : Nat) (s : State) : Host.Outcome State Fault Refusal :=
  s.whenUp (fun s =>
    .next (if 31 < i ∨ s.reg (Obj.instState i) = 0 ∨ 0xFFF < off ∨ off % 4 ≠ 0 then s
      else
        let s := if off ≠ 0 then s
          else
            let s := (List.range 4).foldl (fun s j => s.counterSync (488 + 4 * i + j)) s
            s.setRegs ((List.range 4).map (fun j => (Reg.viewLatch i j, s.reg (Reg.counter (488 + 4 * i + j))))
              ++ [(Reg.viewLatch i 4, s.reg (Reg.poolPeakInst i)), (Reg.viewLatch i 5, s.now)])
        let v := if off < 0x14 then s.reg (Reg.viewLatch i (off / 4)) else if off = 0x18 then s.reg (Reg.viewLatch i 5)
          else if off = 0x1C then s.reg (Reg.viewLatch i 5) / 0x100000000 else 0
        s.replyData (leBytes 4 v)))

end Sys2Proof.Machine
end

