-- ==== Sys2Proof/Machine/Worlds.lean ====
section
/-!
DEFINITION. Machine/Worlds.lean: hand-over of assignable blocks between worlds (R116 to R121, R517) and the consent of a guest to debug access (R122).
-/
namespace Sys2Proof.Machine

namespace Hand

/-- Remove the entries of the register groups from that of `lo` to that of `hi` whose first number is `a`: they read their defaults. -/
def clearGroups (s : State) (lo hi a : Nat) : State :=
  { s with regs := s.regs.filter (fun p => !(decide (lo / 0x10000000000 ≤ p.1 / 0x10000000000) && decide (p.1 / 0x10000000000 ≤ hi / 0x10000000000)
      && p.1 / 0x100000 % 0x100000 == a)) }

/-- As `clearGroups`, with the second number `b` as well. -/
def clearPair (s : State) (lo hi a b : Nat) : State :=
  { s with regs := s.regs.filter (fun p => !(decide (lo / 0x10000000000 ≤ p.1 / 0x10000000000) && decide (p.1 / 0x10000000000 ≤ hi / 0x10000000000)
      && p.1 / 0x100000 % 0x100000 == a && p.1 % 0x100000 == b)) }

/-- Scrub of a pennant core: both banks, data memory, registers, timers, edge detectors, event queue. -/
def scrubCore (s : State) (n : Nat) : State :=
  let s := (clearGroups s (Reg.coreG 0 0) (Reg.coreResume 0) n).setNum (Num.coreQ n) []
  (List.range 2).foldl (fun s b => (s.setFifo (Fifo.image n b) []).setReg (State.bankKey n b) 0) (s.setNum (Num.coreResets n) [])

/-- Scrub of a touch port: baselines, compensation codes, node map, contact tables, its pennant core. -/
def scrubTouch (s : State) (p : Nat) : State :=
  let s := (clearGroups s (Reg.touchRun 0) (Reg.touchMaskMove 0) p).setTracked p []
  let s := [Num.base p, Num.selfBase p, Num.neg p, Num.rebLeft p, Num.rebSum p, Num.covered p, Num.ref p, Num.fine p, Num.coarse p, Num.gloveWatch p].foldl
    (fun s k => s.setNum k []) s
  scrubCore ((List.range 8).foldl (fun s f => s.setNum (Num.noise p f) []) s) p

/-- What a scrub clears beside a block's objects (table Drain and scrub). -/
def scrubState (s : State) (h : Nat) : State :=
  if U.can 0 ≤ h ∧ h < U.can 4 then
    let p := h - U.can 0
    ((s.setFifo (Fifo.rawRx p) []).setFifo (Fifo.rawTx p) []).setRegs [(Reg.rawRestart p, 0), (Reg.rawRxLast p, 0)]
  else if U.usbDev 0 ≤ h ∧ h < U.usbDev 8 then s.setReg (Reg.hidZero (h - U.usbDev 0)) 0
  else if U.usbHost 0 ≤ h ∧ h < U.usbHost 2 then
    let u := h - U.usbHost 0
    (clearGroups s (Reg.usbOutLen 0 0) (Reg.usbOutLen 0 0) u |>.setFifo (Fifo.hid u) []).setReg (Reg.usbRxLast u) 0
  else if unitType h = 0x0050 then scrubTouch s (h - 0x52)
  else if unitType h = 0x0059 then
    let s := (clearPair s (Reg.hapSrc 0 0) (Reg.hapItem 0 0) (State.hapOf h).1 (State.hapOf h).2).setReg (Reg.hapBusy (State.hapOf h).1 (State.hapOf h).2) 0
    s.setNum (Num.overcurrent (State.hapOf h).1 (State.hapOf h).2) []
  else if U.core 0 ≤ h ∧ h < U.core 32 then scrubCore (s.programGone h) (h - U.core 0)
  else if U.check 0 ≤ h ∧ h < U.check 16 then
    let u := h - U.check 0
    (((s.aliveResync u).setNum (Num.chkRec u) []).setReg (Reg.chkEventAt u) 0).chkDerive u
  else if unitType h = 0x0042 then
    let n := h - 0x49
    let s := (s.setRegs [(Reg.rxFrame n, 0), (Reg.rxBuf n, 0), (Reg.rxShown n, 0), (Reg.rxLost n, 0), (Reg.rxHoldDue n, 0), (Reg.rxBlack n, 0)]).setReg
      (Reg.hidZero (s.rxDigitizer n)) 0
    (List.range 8).foldl (fun s p => s.setTracked p ((s.tracked p).map (fun (c : Contact) => if s.contactRx c = some n then { c with world := 0xFF } else c))) s
  else if U.tdm 0 ≤ h ∧ h < U.tdm 8 then
    ((List.range 32).filter (fun t => s.reg (Obj.streamEndpoint t) == h - U.tdm 0)).foldl (fun s t => (s.setNum (Num.audFifo t) []).setNum (Num.audNow t) []) s
  else s

/-- Performance counters of a block go back to 0 (R478). -/
def scrubCounters (s : State) (h : Nat) : State := (Pmc.ofBlock h).foldl (fun s k => s.counterZero k) s

/-- The drain of a block has ended by itself (table Drain and scrub): no frame in transmission, no effect braking; the other drains end when they are
reported to end. -/
def drained (s : State) (h : Nat) : Bool :=
  if U.can 0 ≤ h ∧ h < U.can 4 then !s.rawSending (h - U.can 0)
  else if unitType h = 0x0059 then s.reg (Reg.hapBusy (State.hapOf h).1 (State.hapOf h).2) == 0
  else true

/-- A work item that a block has taken and not ended. -/
def itemOf (s : State) (h : Nat) (t : Item) : Bool :=
  t.unit == h || (unitType h == 0x0059 && s.reg (Reg.hapItem (State.hapOf h).1 (State.hapOf h).2) == t.seq + 1)

/-- Steps 5 to 7 of R116: the block is reset, scrubbed and goes to verification. -/
def resetScrub (s : State) (h : Nat) : State :=
  let s := ((s.setBlockState h 3).unitRestarted h).setBlockState h 4
  (scrubCounters (scrubState (s.defaultsOf h) h) h).setBlockState h 5

/-- Steps 4 to 7 of R116: what is unfinished goes back, the block reaches QUIESCED, is reset, scrubbed and goes to verification. -/
def drainEnd (s : State) (h : Nat) : State :=
  let a := s.reg (Reg.blockHolder h)
  let s := if s.items.any (itemOf s h) then (s.dropItems (itemOf s h) 3).raise [.world a] h St.boundaryReset a 2 [] else s
  resetScrub (s.quiesced h) h

/-- The CANopen node of a port stops (R60): its session closes, heartbeats and push mappings stop. -/
def nodeStop (s : State) (p : Nat) : State :=
  let s := (s.closeSession (3 + p)).setRegs [(Reg.nodeHbDue p, 0), (Reg.usdoBusy p, 0)]
  clearGroups s (Reg.hbLost 0 0) (Reg.rxStale 0 0) p

/-- The node of a port resumes (R60): its session opens, the boot-up message leaves, the consumed heartbeats and the push mappings run anew. -/
def nodeStart (s : State) (p : Nat) : State :=
  let n := 3 + p
  let s := (s.clearSession n).setRegs [(Reg.sessOpen n, 1), (Reg.sessClass n, Cls.fld), (Reg.sessTransport n, 1), (Reg.sessPort n, p), (Reg.sessWorld n, 0xFF),
    (Reg.nodeHbDue p, if s.reg (Obj.hbProducerMs p) = 0 then 0 else s.now + 1000000 * s.reg (Obj.hbProducerMs p))]
  let s := s.emit (.frame (U.can p) (record [(4, 0x700 + s.reg (Obj.nodeId p)), (1, 0)]))
  let s := (List.range 8).foldl (fun s i => s.setReg (Reg.hbDue p i) (s.now + 1000000 * (s.reg (Obj.hbConsumer p i) % 65536))) s
  let s := (List.range 8).foldl (fun s t => s.setRegs [(Reg.txSent p t, 0), (Reg.txFrom p t, s.now)]) s
  (List.range 32).foldl (fun s m => s.setReg (Reg.rxStaleDue p m) (s.now + 1000000 * s.reg (Obj.staleMs p m))) s

/-- A block that has entered HELD by another world than 0: the node of a CAN FD port stops (R60). -/
def held (s : State) (h : Nat) : State :=
  if U.can 0 ≤ h ∧ h < U.can 4 ∧ s.reg (Reg.blockState h) = 0 ∧ s.reg (Reg.blockHolder h) ≠ 0 then nodeStop s (h - U.can 0) else s

/-- Step 8 of R116: the block is FREE with Halyard's own settings, and A and the requester are told. -/
def freed (s : State) (h : Nat) : State :=
  let a := s.reg (Reg.blockHolder h)
  let s := (s.restoreSettings h).setRegs [(Reg.blockScrubs h, 0), (Reg.blockFrom h, 0), (Obj.blocksHeld a, s.reg (Obj.blocksHeld a) - 1)]
  let s := (((s.setHolder h 0).setBlockState h 6).setUnitState h 1).blockStart h
  let s := if U.can 0 ≤ h ∧ h < U.can 4 then nodeStart s (h - U.can 0) else s
  (s.raise [.world a, .code (s.reg (Reg.blockReqDest h))] h St.recallDone a 1 [(2, h), (1, a)]).teardownNext a

/-- The verification has failed (R116 step 7): steps 5 to 7 are repeated once; the second time the unit is DEAD. -/
def scrubFailed (s : State) (h : Nat) : State :=
  let a := s.reg (Reg.blockHolder h)
  if s.reg (Reg.blockScrubs h) = 0 then resetScrub (s.setReg (Reg.blockScrubs h) 1) h
  else
    ((s.setUnitState h 5).raise [.hal, .owner, .code (s.reg (Reg.blockReqDest h))] h St.scrubFailed a 3 [(2, h)]).teardownNext a

/-- Set the session's HoStatus and answer with it. -/
def answer (s : State) (n st : Nat) : State := (s.setReg (skey n Obj.hoStatus) st).reply st

/-- HoOp 1 of session `n` (R118, R517). -/
def grantOp (s : State) (n : Nat) : State :=
  let h := s.reg (skey n Obj.hoBlock)
  let w := s.reg (skey n Obj.hoTarget)
  let st := s.grantStatus h w
  answer (if st = St.ok then held (s.startGrant h w n) h else s) n st

/-- HoOp 2 of session `n` (R118, R403, R517). -/
def recallOp (s : State) (n : Nat) : State :=
  let h := s.reg (skey n Obj.hoBlock)
  let st := s.recallStatus h false
  answer (if st = St.ok ∧ s.reg (Reg.blockState h) = 0 then
      (s.worldSlots (s.reg (Reg.blockHolder h))).startRecall h n (s.reg Obj.graceMs) else s) n st

end Hand

/-- HO_GRANT (R116, R118, R517): HoOp 1. -/
def execHoGrant (n : Nat) (s : State) : Host.Outcome State Fault Refusal :=
  s.whenUp (fun s =>
    .next (s.written n Obj.hoOp [1] (fun s => Hand.grantOp s n)))

/-- HO_RECALL (R116, R118, R517): HoOp 2. -/
def execHoRecall (n : Nat) (s : State) : Host.Outcome State Fault Refusal :=
  s.whenUp (fun s =>
    .next (s.written n Obj.hoOp [2] (fun s => Hand.recallOp s n)))

/-- BLOCK_RELEASE (R116, R130): the guest of instance `i` releases block `h` through its mailbox before GraceMs has passed. -/
def execBlockRelease (i h : Nat) (dg : Dgram) (s : State) : Host.Outcome State Fault Refusal :=
  s.whenUp (fun s =>
    .next (if s.reg (Obj.instState i) = 0 ∨ !s.inService then s
      else s.arrives i dg (fun s =>
      if s.reg (Reg.mbBusy i) = 1 then s.overrun i
      else if !isBlock h then s.reply St.handoverNotBlock
      else if s.reg (Reg.blockHolder h) ≠ s.instWorld i ∨ 1 < s.reg (Reg.blockState h) then s.reply St.notOwner
      else if s.reg (Reg.blockState h) = 0 then s.reply St.ok
      else (s.startDrain h).reply St.ok)))

/-- RECALL_GRACE_EXPIRY (R116 step 2): GraceMs has passed. -/
def execRecallGraceExpiry (h : Nat) (s : State) : Host.Outcome State Fault Refusal :=
  s.whenUp (fun s =>
    .next (if isBlock h ∧ s.reg (Reg.blockState h) = 1 ∧ s.reg (Reg.blockDue h) ≤ s.now then s.startDrain h else s))

/-- DRAIN_COMPLETE (R116 steps 4 to 7): the drain has ended, or is cut at 10 ms. -/
def execDrainComplete (h : Nat) (s : State) : Host.Outcome State Fault Refusal :=
  s.whenUp (fun s =>
    .next (if isBlock h ∧ s.reg (Reg.blockState h) = 2 ∧ (Hand.drained s h ∨ s.reg (Reg.blockDue h) ≤ s.now) then Hand.drainEnd s h else s))

/-- SCRUB_VERIFY_DONE (R116 steps 7 and 8). -/
def execScrubVerifyDone (h : Nat) (ok : Bool) (s : State) : Host.Outcome State Fault Refusal :=
  s.whenUp (fun s =>
    .next (if !isBlock h ∨ s.reg (Reg.blockState h) ≠ 5 ∨ s.reg (Reg.unitState h) = 5 then s
      else if ok then Hand.freed s h else Hand.scrubFailed s h))

/-- HPD_LOW_WAIT_END (R116 step 9, R119): the grant of a DP receiver proceeds, or is abandoned when its world has left RUNNING. -/
def execHpdLowWaitEnd (h : Nat) (s : State) : Host.Outcome State Fault Refusal :=
  s.whenUp (fun s =>
    .next (if !isBlock h ∨ s.reg (Reg.blockTo h) = 0 ∨ s.reg (Reg.blockState h) ≠ 6 ∨ !s.hpdWaited h then s
      else if s.reg (Obj.worldState (s.reg (Reg.blockTo h) - 1)) ≠ 2 then s.abandonGrant h
      else (s.setBlockState h 7).holdBlock h (s.reg (Reg.blockTo h) - 1)))

/-- A debug session's certificate opens world `w` with the consent of its guest (table What a debug certificate opens). -/
def Hand.covers (s : State) (n w : Nat) : Bool :=
  s.reg (Reg.sessOpen n) == 1 && s.reg (Reg.sessClass n) == Cls.dbg && s.reg (Reg.sessPending n) == 0 && s.reg (Reg.certOwner n) == 1
    && bit (s.reg (Reg.certWorlds n)) w

/-- DEBUG_CONSENT (R122, R123): 0 closes every debug access to the world at once; 1 opens it to the debug sessions whose certificate names it. -/
def execDebugConsent (n w : Nat) (v : List Byte) (s : State) : Host.Outcome State Fault Refusal :=
  s.whenUp (fun s =>
    .next (s.written n (Obj.debugConsent w) v (fun s =>
      let s := s.setReg (Obj.debugConsent w) (leNat v)
      let s := if leNat v = 0 then s.debugCloseWorld w
        else if w < 4 then s
        else ((List.range (s.reg Reg.nextSession + 1)).filter (fun m => Hand.covers s m w)).foldl (fun s m => s.debugOpen m w) s
      s.reply St.ok)))

end Sys2Proof.Machine
end

