-- ==== Sys2Proof/Machine/PowOps.lean ====
section
/-!
DEFINITION. Machine/PowOps.lean: hold-up (R446), the flush (R448), what survives it (R437 to R439, R403), the return (R450) and the start (R390, R395,
R396, R452).
-/
namespace Sys2Proof.Machine

namespace Num
/-- Work lost in the last flush: instance, items of class R, items of class D (R439). -/
abbrev workLost : Nat := 0xB100000001
/-- Instances that were enabled when the power went. -/
abbrev instBoot : Nat := 0xB100000002
/-- Worlds 4 to 63 that held one of the key slots 8 to 31 when the power went. -/
abbrev keysLost : Nat := 0xB100000003
end Num

namespace Pow

/-- Number of the register group of a key. -/
def group (k : Nat) : Nat := k / 0x10000000000

/-- Register groups that MRAM, NOR, OTP or the sequencer keep across every start. -/
def kept : List Nat :=
  [Reg.unitState 0, Reg.itemRev 0 0, Reg.pendLock 0, Reg.activeEpoch 0, Reg.pendEpoch 0, Reg.pendAt 0, Reg.pendSession 0, Reg.pendDest 0, Reg.pendJnl 0, Reg.ageTime, Reg.forecastTime, Reg.guardReported, Reg.guardNext,
    Reg.ageFloorRaised, Reg.forecastReported, Reg.jnlLimitDay, Reg.frameRetired 0, Reg.sparesOut 0, Reg.patrolAt, Reg.touchRefTemp 0, Reg.touchRefRole 0,
    Reg.touchGap 0, Reg.identityKey, Reg.sealKey, Reg.ownerPub].map group
    ++ (List.range (group Reg.pkgImage + 2 - group (Reg.itemBank 0))).map (· + group (Reg.itemBank 0))

/-- Register groups that a warm return after a flush restores as well: hand-over, instances, yields, Ensign state, counters, pins (R121, R438, R439, R451,
R473). -/
def keptWarm : List Nat :=
  [Reg.nextHandle, Reg.nextIndex, Reg.blockHolder 0, Reg.blockState 0, Reg.blockReq 0, Reg.blockReqDest 0, Reg.blockTo 0, Reg.blockFrom 0, Reg.worldRoute 0, Reg.blockJnl 0, Reg.instKindTag 0, Reg.resRenderer 0, Reg.resBandwidth 0, Reg.resAudio 0,
    Reg.resTouch 0, Reg.nextExport, Reg.yieldAmt 0 0, Reg.yieldEnd 0 0, Reg.yieldRank 0 0, Reg.yieldRes 0 0, Reg.yieldSeq 0 0, Reg.hashKey,
    Reg.counter 0, Reg.bindStale 0, Reg.pageCond 0, Reg.pageActive 0, Reg.pageAcked 0, Reg.pageEnded 0, Reg.pageTone 0, Reg.pageJnl 0,
    Reg.pinAsserted 0, Reg.pinLevel 0, Reg.noScreenOut, Reg.degradedOut, Reg.outOn 0, Reg.lampOn 0, Reg.flashOn 0].map group

/-- A writable, readable object that is no session's own: a setting. -/
abbrev setting (k : Nat) : Bool := isSetting k

/-- Objects that survive every start beside the settings: identity, spares, freshness, power counts, security, key slots 0 to 7, update, journal, age,
remap and retirement counts, the placed Ensign regions, the package, the program banks. DirEpoch, which counts changes of the directory (R21), is kept over
every start too, since no rule sets it back (DESIGN CHOICE, log 7). -/
def keptObj (i sub : Nat) : Bool :=
  [0x20, 0x30, 0x100, 0x220, 0x300, 0x400, 0x401, 0x500, 0x510, 0x600, 0x720, 0x1300, 0x4F00, 0x7401].contains i
    || (decide (0x1D0 ≤ i) && decide (i < 0x1E2)) || (i == 0x200 && sub == 3) || (decide (0x440 ≤ i) && decide (i < 0x448))
    || (i == 0x1000 && sub == 1) || (decide (0x1100 ≤ i) && decide (i < 0x1200) && sub == 0xA)
    || (decide (0x3060 ≤ i) && decide (i < 0x4060) && decide ((i - 0x3060) % 0x200 < 16) && decide (sub ≤ 6))
    || (decide (0x6801 ≤ i) && decide (i < 0x7001) && (i - 0x6801) % 0x40 == 0 && decide (5 ≤ sub) && decide (sub ≤ 8))

/-- Objects that a warm return after a flush restores as well: worlds, instances, counters, Ensign state. -/
def keptObjWarm (i : Nat) : Bool :=
  (decide (0x800 ≤ i) && decide (i ≤ 0x840)) || (decide (0x900 ≤ i) && decide (i ≤ 0x940)) || (decide (0x7800 ≤ i) && decide (i ≤ 0x7806)) || i == 0x4F02

/-- A word that survives: `warm` in a warm return after a flush. -/
def survives (warm : Bool) (k : Nat) : Bool :=
  if isObjKey k then setting k || keptObj (k / 256) (k % 256) || (warm && keptObjWarm (k / 256))
  else decide (k < 0x1000000000000000)
    && (kept.contains (group k) || (warm && keptWarm.contains (group k)) || (group k == group (Reg.slotKey 0) && decide (k < Reg.slotKey 8)))

/-- Lists that survive: touch references, age history, what this file notes. -/
def keptNum (k : Nat) : Bool :=
  (decide (Num.ref 0 ≤ k) && decide (k < Num.ref 0 + 8)) || k / 0x100000000 == 0xB2 || k / 0x100000000 == 0xB1

end Pow

namespace State

/-- Change the power state (R444): a POWER record with its cause. -/
def powerTo (s : State) (st cause : Nat) : State :=
  (s.setReg Obj.powerState st).jnl 0x50 U.pwr 0xFF 0xFF false (record [(1, st), (1, cause)])

/-- What a sample of VBAK shows (R443): the events once per crossing, in STARTING and SERVICE. -/
def vbakSeen (s : State) (mv : Nat) : State :=
  let on := s.reg Obj.powerState == 2 || s.reg Obj.powerState == 3
  let low := decide (mv < s.reg Obj.vbakWarnMv)
  let gone := decide (mv < 2700)
  let s := s.setReg Obj.vbakMv (mv % 65536)
  let s := if on ∧ low ∧ s.reg Reg.vbakLow = 0 then s.raise [.hal, .owner] U.pwr St.pwrVbakLow 0xFF 2 [(2, mv)] else s
  let s := if on ∧ gone ∧ s.reg Reg.vbakGone = 0 then s.raise [.hal, .owner] U.pwr St.pwrVbakAbsent 0xFF 2 [(2, mv)] else s
  s.setRegs [(Reg.vbakLow, b2n (low && (on || s.reg Reg.vbakLow == 1))), (Reg.vbakGone, b2n (gone && (on || s.reg Reg.vbakGone == 1)))]

/-- A head goes off, links, panel enable and backlight at once (R446 step 4). -/
def headOff (s : State) (n : Nat) : State :=
  let was := s.litPorts n
  let s := [2 * n, 2 * n + 1].foldl (fun s p => s.setRegs [(Obj.portState p, 0), (Reg.litNext p, 0), (Reg.trainRetry p, 0)]) s
  (s.setRegs [(Reg.panelStage n, 0), (Obj.backlightDuty n, 0), (Obj.panelEnableOut n, 0), (Reg.panelDue n, 0)]).darkCheck n was 4

/-- A head whose PortMode is not off begins the panel sequence of R276. -/
def headOn (s : State) (n : Nat) : State :=
  if s.reg (Obj.portMode n) = 3 then s
  else s.setRegs [(Obj.headState n, s.headStateOf n), (Reg.panelStage n, 1), (Obj.panelEnableOut n, 1), (Reg.panelDue n, s.now + 1000000 * s.reg (Obj.panelOnMs n))]

/-- Every rank-4 reservation yields until the warm return (R142, R446). -/
def holdupYields (s : State) : State :=
  let s := [(1, Reg.resRenderer), (2, Reg.resBandwidth), (4, Reg.resTouch)].foldl (fun s p =>
    (s.worldReserves p.2).foldl (fun s q => s.yieldOpen U.pwr .holdup q.1 p.1 4 q.2 0 0xFFFFFFFF) s) s
  (s.worldReserves Reg.resAudio).foldl (fun s q => s.yieldOpen U.pwr .holdup q.1 3 4 (s.latencyOf (fun j => s.reg (Reg.resAudio j)) q.1) 0xFFFFFFFF 0xFFFFFFFF) s

/-- They end (R142). -/
def holdupYieldsEnd (s : State) : State :=
  let s := [(1, Reg.resRenderer), (2, Reg.resBandwidth), (4, Reg.resTouch)].foldl (fun s p =>
    (s.worldReserves p.2).foldl (fun s q => s.yieldClose U.pwr .holdup q.1 p.1 q.2) s) s
  (s.worldReserves Reg.resAudio).foldl (fun s q => s.yieldClose U.pwr .holdup q.1 3 (s.latencyOf (fun j => s.reg (Reg.resAudio j)) q.1)) s

/-- What takes the capacity of a yield still falls short (R438). -/
def fallsShort (s : State) (w : Nat) : YieldBy → Nat → Bool
  | .plan, k => if k = 1 then s.reg (Reg.shedRenderer w) != 0
      else s.reg Reg.shedTaps != 0 || (List.range 8).any (fun n => s.reg (Reg.shedSlowed n) != 0 || s.reg (Reg.shedBlank n) != 0)
  | .fab, _ => decide (s.reg Obj.declaredBulkMBps < s.reg Obj.bulkReservedMBps)
  | .cluster, _ => decide (s.reg Obj.clustersAlive < 24)
  | .touch, _ => (List.range 8).any (fun p => s.reg (Reg.touchNoisy p) == 1 || s.reg (Reg.touchLate p) == 1)
  | .head n, _ => s.reg (Reg.flatLate n) == 1
  | .holdup, _ => false

/-- Yields that units beside the power unit raise: unit, what takes the capacity, KIND, duration in ms. -/
def yieldSources : List (Nat × YieldBy × Nat × Nat) :=
  [(U.plan, .plan, 1, 1000), (U.plan, .plan, 6, 1000), (U.fab, .fab, 2, 40), (U.nim, .cluster, 1, 0xFFFFFFFF), (U.touch 0, .touch, 4, 0xFFFFFFFF)]
    ++ (List.range 8).map (fun n => (U.nim, .head n, 5, 0xFFFFFFFF))

/-- Open yields at a warm return (R438): those of hold-up end; a unit that still falls short renews its yield with a fresh YIELDED, and the others end with
YIELD_END. -/
def yieldsReturn (s : State) : State :=
  s.guestWorlds.foldl (fun s w => yieldSources.foldl (fun s (u, b, kind, ms) =>
    let k := b.key kind
    if s.reg (Reg.yieldAmt w k) = 0 then s
    else if s.fallsShort w b kind then s.yieldOpen u b w kind (s.reg (Reg.yieldRank w k)) (s.reg (Reg.yieldRes w k)) (s.reg (Reg.yieldAmt w k) - 1) ms
    else (s.setReg (Reg.yieldEnd w k) 0xFFFFFFFFFFFFFFFF).yieldEnds u w k (s.reg (Reg.yieldRes w k))) s) s.holdupYieldsEnd

/-- Enter hold-up (R446, R340, R361, R379, R470): cause 1 VMAIN fail, 2 heat. -/
def enterHoldup (s : State) (cause : Nat) : State :=
  let s := (s.setRegs [(Reg.holdupCause, cause), (Obj.holdupSince, s.now)]).bump Obj.holdupCount 32
  let s := ((s.powerTo 4 cause).raise [.hal, .owner] U.pwr St.pwrHoldupEnter 0xFF 2 [(1, cause)]).holdupYields
  let s := s.hoistReport 2
  let s := s.closeSessions (fun n => s.reg (Reg.sessTransport n) != 0 && s.reg (Reg.sessTransport n) != 1)
  let s := (List.range 8).foldl (fun s n =>
    if !bit (s.reg Obj.holdupHeads) n then s.headOff n else if s.headLit n then s.setReg (Reg.blankWant n) 2 else s) s
  let s := (List.range 8).foldl (fun s p => if s.holdupStopped (U.touch p) then s.touchStop p else s) s
  let s := (List.range 3).foldl (fun s g => ((List.range 8).foldl (fun s c => s.hapHalt g c) s).setReg (Obj.hapHvState g) 0) s
  let s := (List.range 32).foldl (fun s t => if s.reg (Obj.streamState t) = 0 then s
    else ((s.setRegs [(Obj.streamState t, 1), (Reg.audStart t, 0), (Reg.audStop t, 0)]).setNum (Num.audFifo t) []).setNum (Num.audNow t) []) s
  let s := (List.range 4).foldl bridgeAnew s
  let s := (List.range 30).foldl (fun s n => if s.holdupStopped (U.core n) then s.coreStop n else s) s
  let s := (List.range 4).foldl (fun s l => if bit (s.reg Obj.holdupLinks) l then s
    else if s.reg (Obj.hoistLinkState l) = 0 then s else s.linkDown l) s
  let s := (List.range 16).foldl (fun s c => if s.reg (Reg.unitState (U.dram c)) = 5 then s else s.setReg (Obj.dramChannelState c) 3) s
  ((s.setRegs [(Obj.retrainingMask, 0), (Reg.retrainWait, 0), (Reg.nimCur, 0)]).bulkDerive).ioDerive

/-- Items of each instance with work, by class R and D (R439). -/
def lostCounts (s : State) : List Nat :=
  (List.range 56).flatMap (fun i =>
    let mine := s.items.filter (fun t => t.inst == i)
    if mine.isEmpty then [] else [i, mine.countP (fun t => t.cls == classR), mine.countP (fun t => t.cls == classD)])

/-- Everything that does not survive reads its value after reset: DRAM, the memory keys, sessions, rings, the state of every unit; `warm` keeps what a
warm return after a flush restores. -/
def wipe (s : State) (warm : Bool) : State :=
  { s with
    regs := s.regs.filter (fun p => Pow.survives warm p.1)
    shadow := []
    fifos := s.fifos.filter (fun p => decide (0x5000 ≤ p.1))
    nums := s.nums.filter (fun p => Pow.keptNum p.1)
    mem := s.mem.filter (fun c => decide (s.dramSize ≤ c.1))
    ownerRing := []
    halInbox := []
    ensInbox := []
    eqStore := []
    items := []
    addedUnits := if warm then s.addedUnits else []
    lines := []
    exports := []
    views := []
    tracks := []
    rfmActs := []
    throttles := []
    nextPkg := none
    contacts := []
    audBufs := []
    jobs := []
    kept := [] }

/-- The flush begins (R448): the POWER record is the flush commit point; DRAM and the key table lose power, heads, audio and haptics go off, and nothing
runs. -/
def enterFlush (s : State) (cause : Nat) : State :=
  let s := ((s.setRegs [(Reg.flushCause, cause), (Obj.lastFlushAt, s.now), (Reg.flushTold, 1), (Obj.holdupSince, 0),
    (Reg.nextCause, if cause = 1 then 0 else cause)]).bump Obj.flushCount 32).powerTo 5 cause
  let s := (s.setNum Num.workLost s.lostCounts).setNum Num.instBoot ((List.range 56).filter (fun i => s.reg (Obj.instState i) != 0))
  let s := s.setNum Num.keysLost ((((List.range 24).map (· + 8)).filter (fun k => s.reg (Obj.slotState k) != 0)).map (fun k => s.reg (Obj.slotHolder k))).dedup
  { s.wipe true with answer := s.answer }

/-- VMAIN has failed at a sample (R444): what follows in each power state. -/
def vmainGone (s : State) (vbak : Nat) : State :=
  let p := s.reg Obj.powerState
  let s := s.setRegs [(Reg.vmainOk, 0), (Reg.thermalLock, 0)]
  if p = 1 ∨ p = 7 then (s.powerTo 0 0).ioDerive
  else if (p = 2 ∨ p = 3 ∨ p = 4 ∨ p = 6) ∧ vbak < 2900 then s.enterFlush 1
  else if p = 2 ∨ p = 3 ∨ p = 6 then (if p = 2 then s.setReg Reg.startHeld 1 else s).enterHoldup 1
  else s

/-- The module may leave OFF (R444). -/
def mayStart (s : State) : Bool :=
  s.reg Reg.vmainOk == 1 && s.reg Reg.remoteOff == 0 && s.reg Reg.thermalLock == 0 && s.reg Reg.resetN == 0

/-- OFF to BOOT where nothing holds the module off: a cold start. -/
def tryBoot (s : State) : State :=
  if s.reg Obj.powerState ≠ 0 ∨ !s.mayStart then s
  else ((s.setReg Reg.bootKind 0).powerTo 1 (s.reg Reg.nextCause)).ioDerive

/-- A return without a flush begins (R444, R450): DRAM leaves self-refresh, NIM powers up, stopped units resume, heads run their panel sequence. -/
def beginReturn (s : State) (drift : List Nat) : State :=
  let cause := s.reg Reg.holdupCause
  let s := (s.powerTo 6 cause).raise [.hal, .owner] U.pwr St.pwrHoldupExit 0xFF 1 [(1, cause)]
  let s := { s.updOutage with tracks := [] }
  let s := (List.range 16).foldl (fun s c => if s.reg (Obj.dramChannelState c) ≠ 3 then s
    else
      let s := s.setReg (Obj.dramChannelState c) 1
      if drift.contains c then Fab.retrain s c else s) s
  let s := s.bulkYield
  let s := (List.range 8).foldl (fun s n => if bit (s.reg Obj.holdupHeads) n then s.setReg (Reg.blankWant n) (b2n (s.reg (Reg.shedBlank n) == 1)) else s.headOn n) s
  let s := (List.range 8).foldl (fun s p => s.touchStart p) s
  (List.range 3).foldl (fun s g => (s.setReg (Obj.hapHvState g) 1).hapGroupStart g) s

/-- The return is complete (R438, R439, R450): items are resolved with cause 2, yields end, pending commits follow R53. -/
def returnDone (s : State) : State :=
  let s := (s.setRegs [(Obj.holdupSince, 0), (Obj.lastReturn, 1)]).powerTo 3 0
  let s := s.raise [.hal, .owner] U.pwr St.pwrWarmReturn 0xFF 1 [(1, 1)]
  let s := s.items.foldl (fun s t => s.itemReturn t false 2) s
  (s.yieldsReturn.commitsReturn.hoistReport 0).ioDerive

/-! The start. -/

/-- The sessions that exist from the start: Halyard's, the Ensign runtime's, and those of the CAN FD ports (log 10). -/
def openBuiltIn (s : State) : State :=
  let one := fun (s : State) (n t port cl w : Nat) => (s.clearSession n).setRegs [(Reg.sessOpen n, 1), (Reg.sessClass n, cl), (Reg.sessTransport n, t),
    (Reg.sessPort n, port), (Reg.sessWorld n, w), (Reg.sessPending n, 0), (Reg.partKey n, 0)]
  let s := one (one s 1 0 0 Cls.hal 0) 2 0 0 Cls.ens 1
  (List.range 4).foldl (fun s p => if s.reg (Reg.blockHolder (U.can p)) = 0 then one s (3 + p) 1 p Cls.fld 0xFF else s) s

/-- Identity and sealing keys from the PUF secret; 0 where its correction failed (R395). -/
def deriveIdentity (s : State) (puf : Nat) : State :=
  if puf = 0 then (s.setReg Reg.identityLost 1).raise [.hal, .owner] U.sec St.identityUnavailable 0xFF 3 []
  else
    let d := puf % (Ecc.p384.n - 1) + 1
    s.setRegs [(Reg.identityLost, 0), (Reg.identityKey, d), (Obj.identityPub, leNat (Key.pointBytes Ecc.p384 (Ecc.p384.pub d))),
      (Reg.sealKey, Config.sealing puf (s.reg Obj.ownerSlot))]

/-- Measurements of a cold start (R396). -/
def measureStart (s : State) : State :=
  let body := fun h => (s.fifo (Fifo.item h (s.reg (Reg.itemBank h)))).headD []
  let s := (List.range 16).foldl (fun s j => s.setReg (Obj.measurement j) 0) s
  let s := s.measure 0 (body U.hal)
  let s := (Upd.items.filter (fun h => h != U.hal && h != U.ens)).foldl (fun s h => if body h = [] then s else s.measure 1 (body h)) s
  let s := s.measure 2 (body U.ens)
  let s := match s.activePkg with
    | some _ => s.measure 3 (decDomain (s.reg Reg.pkgImage))
    | none => s
  let s := ((List.range 8).map (· + 22)).foldl (fun s c => if s.coreImage c = [] then s else s.measure 4 (s.coreImage c)) s
  s.measure 5 ((List.range 7).flatMap (fun j => leBytes 48 (s.reg (okey 0x401 (1 + j)))) ++ leBytes 1 (s.reg Obj.revokeMask)
    ++ leBytes 8 (s.reg Obj.rollbackFloors) ++ leBytes 1 (s.reg Obj.lifecycleState))

/-- Programs of the cores start from their active banks (R377 to R379). -/
def coresStart (s : State) : State :=
  (List.range 30).foldl (fun s c =>
    let b := s.coreBank c
    let st := s.bankState c b
    if st ≠ 3 ∧ st ≠ 4 then s
    else
      let m := s.coreImage c
      ((s.coreStart c m).coreLoad c m).setRegs [(Obj.coreState c, if st = 4 then 2 else 1), (Reg.coreTrial c, if st = 4 then s.reg (Obj.coreTrialPeriods c) else 0)]) s

/-- Return every setting to its Default (R421). -/
def settingsDefault (s : State) : State :=
  let s := { s with regs := s.regs.filter (fun p => !(isObjKey p.1 && Pow.setting p.1)), pend := [] }
  s.setReg Reg.settingsReset 1

/-- The boot ROM enters recovery (R416, R421, R422). -/
def enterRecovery (s : State) : State := ((s.wipe false).settingsDefault.powerTo 7 (s.reg Reg.nextCause)).ioDerive

/-- The world of an enabled instance is built again empty: no memory, a fresh root, a fresh key (R439). -/
def worldRebuild (s : State) (w : Nat) : State :=
  match s.frameTake w 2 with
  | none => s
  | some (f, s) => ((s.memKeyFill w).setRegs [(Obj.worldState w, 2), (Obj.memGrantedMiB w, 0), (Reg.memPages w, 0)]).rootSet w f

/-- Hand-overs after a warm return (R121): a block in any state other than HELD or FREE restarts at step 5; its verification makes it FREE and tells its requester. -/
def handoversReturn (s : State) : State :=
  ((List.range handleEnd).filter (fun h => isBlock h && s.reg (Reg.blockState h) != 0 && s.reg (Reg.blockState h) != 6)).foldl
    (fun s h => Hand.resetScrub (s.setReg (Reg.blockTo h) 0) h) s

/-- Both banks of the firmware item of a unit have failed. -/
def bothFailed (s : State) (h : Nat) : Bool :=
  Upd.isItem h && s.itemState h (s.reg (Reg.itemBank h)) == 4 && s.itemState h (s.idleArea h) != 1

/-- Unit states at a start (R20, R21): the units of the directory are ALIVE, TRIAL where their item is in trial, and the groups follow; a unit both of whose
banks have failed keeps its state. It is one change: DirEpoch, which survives every start (log 7), advances once, and each record that changed has its DIR_CHANGED. -/
def startStates (s : State) : State :=
  let own := s.handles.filter (fun h => !s.derivesState h && s.parentOf h != 0xFFFF && !s.bothFailed h && (!(s.addedUnit h).isSome || s.reg (Reg.unitState h) != 0))
  let t := own.foldl (fun t h => t.setReg (Reg.unitState h) (if s.itemTrial h then 2 else 1)) (s.setReg (Reg.unitState U.fj) 1)
  let t := (s.addedUnits.filter (fun u => u.item == 0xFFFF && u.typ == 0x0001)).foldl
    (fun t u => t.setReg (Reg.unitState u.handle) (if u.inst = s.reg Obj.deviceId then 1 else s.reg (Reg.hoistSlot u.inst))) t
  let t := (s.handles.filter s.derivesState).foldl (fun t h => t.setReg (Reg.unitState h) (t.groupState h)) t
  let ch := s.handles.filter (fun h => s.reg (Reg.unitState h) != t.reg (Reg.unitState h))
  if ch.isEmpty then s
  else ch.foldl (fun u h => u.setRecordState h (t.reg (Reg.unitState h))) (s.bump Obj.dirEpoch 32)

/-- Image of the firmware item that a unit runs. -/
def itemImage (s : State) (h : Nat) : Bytes := (s.fifo (Fifo.item h (s.reg (Reg.itemBank h)))).headD []

/-- Units that the firmware items and the owner programs of a start declare (R9, R10). -/
def declareAll (s : State) : State :=
  let s := (Upd.items.filter (fun h => s.reg (Reg.unitState h) != 5)).foldl (fun s h => s.redeclare h (s.itemImage h)) s
  let s := ((List.range 8).map (· + 22)).foldl (fun s c =>
    if s.bankState c (s.coreBank c) = 3 ∨ s.bankState c (s.coreBank c) = 4 then s.redeclare (U.core c) (s.coreImage c) else s) s
  s.hoistUnits

/-- Halyard runs (R452): settings are in force, the Ensign pair and the programs start, panels, touch ports and haptic groups begin. -/
def startUnits (s : State) : State :=
  let s := s.setRegs [(Reg.halServing, 1), (Obj.worldState 0, 2), (Obj.worldState 1, 2), (Obj.worldState 2, 2), (Obj.worldKind 0, 0), (Obj.worldKind 1, 1), (Obj.worldKind 2, 2)]
  let s := ((((((s.memKeyFill 0).memKeyFill 2).needRoot 0).needRoot 1).needRoot 2).ensignMap).bulkDerive
  let s := s.openBuiltIn
  let s := (List.range 4).foldl (fun s p => if s.reg (Reg.blockHolder (U.can p)) = 0 then Hand.nodeStart s p else s) s
  let s := (List.range 8).foldl (fun s n => (s.headDerive n).headOn n) s
  let s := (List.range 8).foldl (fun s n => (List.range 16).foldl (fun s k => s.kindDerive n k) s) s
  let s := (List.range 8).foldl (fun s p => s.touchStart p) s
  let s := (List.range 3).foldl (fun s g => (s.setReg (Obj.hapHvState g) 1).hapGroupStart g) s
  let s := (List.range 16).foldl (fun s u => s.chkDerive u) s
  (s.audStarts.coresStart.pairRun).ioDerive

/-- Blocks that worlds hold at a cold start: the eight owner cores, by the owner service world (table Worlds; chapter 15, Core assignment). -/
def blocksCold (s : State) : State :=
  ((List.range 8).map (fun k => U.core (22 + k))).foldl (fun s h => s.setRegs [(Reg.blockHolder h, 2), (Reg.blockState h, 0)]) s

end State
end Sys2Proof.Machine
end

