-- ==== Sys2Proof/Machine/Power.lean ====
section
/-!
DEFINITION. Machine/Power.lean: the commands of the power unit (chapter 19) and Halyard's restarts (R414, R416, R433).
-/
namespace Sys2Proof.Machine

namespace State

/-- Halyard could not be started from either bank or from none that verifies: recovery (R416). A Halyard that fails on the bank it is started from tries
again; the third failure in a row selects the other bank. -/
def halStartFailed (s : State) : State :=
  match s.startFailed U.hal with
  | (s, 1) => s
  | (s, 2) => s.enterRecovery
  | (s, _) =>
    let b := s.reg (Reg.itemBank U.hal)
    let s := s.setReg (Reg.halFails b) (s.reg (Reg.halFails b) + 1)
    if s.reg (Reg.halFails b) < 3 then s
    else if s.reg (Reg.halFails (1 - b)) < 3 ∧ s.itemState U.hal (1 - b) ≠ 0 then s.itemSwitch U.hal (1 - b) 2 4
    else s.enterRecovery

/-- Halyard serves (R414, R433): set-up operations without a SETUP record are answered with JNL_REFUSED, and the sessions open again. -/
def halServes (s : State) : State :=
  let s := (s.setRegs [(Reg.halServing, 1), (Reg.halFails (s.reg (Reg.itemBank U.hal)), 0)]).openBuiltIn
  let s := (List.range 56).foldl (fun s i =>
    if s.reg (Reg.mbBusy i) = 0 then s else s.mbRefused i) s
  let s := if s.reg Reg.halDog = 0 then s
    else ((s.setRegs [(Reg.halDog, 0), (Obj.resetCause, 6)]).raise [.hal, .owner] U.pwr St.pwrReset 0xFF 1 [(1, 6)])
  let s := if s.reg Reg.settingsReset = 0 then s
    else (s.setReg Reg.settingsReset 0).raise [.hal, .owner] U.upd St.updSettingsReset 0xFF 1 []
  s.startPassed U.hal

/-- A write of HoldupHeads (1), RemoteOffInput (3) or HoldupLinks (4) (R445, R502). -/
def holdupWrite (s : State) (sub v : Nat) : State :=
  let heads := (List.range 8).filter (fun n => bit v n)
  if s.reg Obj.powerState ≠ 3 then s.reply St.busy
  else if sub = 1 ∧ (2 < heads.length ∨ heads.any (fun n => decide (600000 < s.reg (Obj.pixelClockKhz n)))) then s.reply St.pwrHoldupBudget
  else if sub = 3 ∧ v ≠ 0xFF ∧ s.pinIsOut v then s.reply St.valueRange
  else (s.setReg (okey 0x301 sub) v).reply St.ok

/-- What the boot ROM leaves when it hands over (R390, R395, R396, R416, R437, R438, R451, R452); after a cold start hoist time begins 1 s after the newest
journal record (R461). -/
def handover (s : State) (puf : Nat) (lost corrupt : List Nat) : State :=
  let warm := s.reg Reg.bootKind == 1
  let s := if warm then s else match s.journal with
    | r :: _ => { s.wipe false with now := r.time + 1000000000 }
    | [] => s.wipe false
  let s := if warm then s.handoversReturn else ((s.tick.setRegs [(Reg.hashKey, s.fresh), (Obj.recordCount, handleEnd)]).rowsRepair).blocksCold
  let s := if s.reg Obj.updState = 1 then
      ((Upd.allTargets s.updHeaderNow).foldl (fun s h => if s.itemState h (s.idleArea h) = 2 then s else s.areaEmpty h (s.idleArea h)) s).updIdle
    else s
  let s := if warm then s else (s.deriveIdentity puf).measureStart
  let s := if s.reg Obj.lifecycleState < 2 then s.settingsDefault else s
  let s := lost.foldl (fun s h => (s.defaultsOf h).raise [.hal, .owner] U.jnl St.jnlSettingsLost 0xFF 3 [(2, h)]) s
  let s := corrupt.foldl (fun s q => s.raise [.hal, .owner] U.jnl St.jnlRecordCorrupt 0xFF 3 [(6, q)]) s
  let cause := if warm then 1 else s.reg Reg.nextCause
  let s := s.setRegs [(Obj.resetCause, cause), (Obj.lastReturn, if warm then 2 else 0), (Reg.nextCause, 0)]
  let s := ((s.powerTo (if warm then 6 else 2) cause).hoistRestart.startStates.declareAll).startUnits
  let s := Upd.items.foldl (fun s h =>
    if s.itemState h (s.reg (Reg.itemBank h)) = 3 then s.setUnitState h 2
    else if s.itemState h (s.reg (Reg.itemBank h)) ≠ 4 then s
    else if s.itemState h (s.idleArea h) = 1 then s.itemSwitch h (s.idleArea h) 2 4
    else s.unitDead h) s
  let s := s.raise [.hal, .owner] U.pwr (if warm then St.pwrWarmReturn else St.pwrColdStart) 0xFF 1 [(1, if warm then 2 else 0)]
  let s := s.raise [.hal, .owner] U.pwr St.pwrReset 0xFF 1 [(1, cause)]
  let s := if s.reg Reg.flushTold = 0 then s
    else ((s.setReg Reg.flushTold 0).raise [.hal, .owner] U.pwr St.pwrFlushBegin 0xFF 3 []).raise [.hal, .owner] U.pwr St.pwrFlushDone 0xFF 1 []
  let s := s.updOutage
  let s := if s.reg Reg.settingsReset = 0 then s
    else (s.setReg Reg.settingsReset 0).raise [.hal, .owner] U.upd St.updSettingsReset 0xFF 1 []
  (s.setReg (Reg.halFails (s.reg (Reg.itemBank U.hal))) 0).commitsReturn.startPassed U.hal

/-- One enabled instance returns after a flush (R137, R439): reset, with its world built again empty. -/
def instanceReturn (s : State) (i : Nat) : State :=
  let s := s.setRegs [(Obj.instState i, 1), (Obj.instWorkInFlight i, 0), (Reg.mbStatus i, St.instanceReset)]
  let s := if i < 32 then s.openGuest i (s.instWorld i) else s
  s.instEvent i St.instanceReset (s.instWorld i) 0 0

/-- JNL_WORK_LOST of one instance (R439): items of class R, of class D, and cause 5. -/
def tellLost (s : State) : List Nat → State
  | i :: r :: d :: l => (s.raise [.inst i, .owner, .hal] U.jnl St.jnlWorkLost (s.instWorld i) 2 [(4, r), (4, d), (1, 5)]).tellLost l
  | _ => s

/-- Identity records 1 to 17 as the dies, parts and the module report them at this start-up (R23, R509); those of `silent` references read Source 0 and
Defaults (R18). What they report is not the spec's to say (log 38). -/
def identityTaken (s : State) (silent : List Nat) : State :=
  ((List.range 17).map (· + 1)).foldl (fun s r =>
    let src := if silent.contains r then 0 else if r = 1 then 3 else if r = 2 ∨ (10 ≤ r ∧ r ≤ 16) then 1 else 2
    let v := fun (on : Bool) (f size : Nat) => if on then Config.identity r f % size else 0
    s.setRegs [(Obj.identSource r, src), (Obj.identLot r, v (src == 1) 2 (2 ^ 80)), (Obj.identWafer r, v (src == 1) 3 32),
      (Obj.identDieX r, v (src == 1) 4 256), (Obj.identDieY r, v (src == 1) 5 256), (Obj.identPartId r, v (src == 1 || src == 2) 6 (2 ^ 128)),
      (Obj.identModuleSerial r, v (src == 3) 7 (2 ^ 128))]) s

/-- Channel `c` has been trained at the start (R164): its eye and the temperature and drift reading of that moment are free values (R165, log 5). -/
def trained (s : State) (c : Nat) : State :=
  let x := s.fresh
  s.tick.setRegs [(Obj.dramChannelState c, 1), (Obj.dramEyeWidthPs c, x % 65536), (Obj.dramLastTrainedAt c, s.now), (Reg.trainedTemp c, x / 65536 % 256),
    (Reg.trainedPhy c, x / 16777216 % 256), (Obj.dramTempC c, x / 65536 % 256)]

/-- In RETURNING a start is under way: a warm return after a flush (R451), or a cold start that hold-up interrupted (R444). -/
def starting (s : State) : Bool := s.reg Reg.bootKind == 1 || s.reg Reg.startHeld == 1

/-- That start is complete. -/
def started (s : State) : State := s.setRegs [(Reg.bootKind, 0), (Reg.startHeld, 0)]

/-- Every unit is ALIVE or DEAD (R18, R164, R452): guest worlds and instances return (R439), and the device is in SERVICE. -/
def startUpDone (s : State) (silent untrained : List Nat) : State :=
  let warm := s.reg Reg.bootKind == 1
  let s := s.identityTaken silent
  let s := silent.foldl (fun s r => ((s.handles.filter (fun h => s.identOf h == r && s.reg (Reg.unitState h) != 5)).foldl (fun s h => s.unitDead h) s)) s
  let s := (List.range 16).foldl (fun s c =>
    if untrained.contains c then (s.raise [.hal, .owner] (U.dram c) St.memTrainFailed 0xFF 3 [(1, c)]).setUnitState (U.dram c) 5
    else s.trained c) s
  let s := s.powerTo 3 0
  let boot := s.num Num.instBoot
  let s := if warm then
      let s := ((List.range 60).map (· + 4)).foldl (fun s w =>
        if (s.worldInsts w).isEmpty then (if s.reg (Obj.worldState w) = 0 then s else (s.setReg (Obj.worldState w) 5).teardownNext w) else s.worldRebuild w) s
      let s := boot.foldl (fun s i => s.instanceReturn i) s
      (s.num Num.keysLost).foldl (fun s w => s.raise [.world w] U.sec St.keyLost w 2 []) s
    else boot.foldl (fun s i => (Inst.enable s 1 i).1) s
  let s := (s.tellLost (s.num Num.workLost)).yieldsReturn
  ((((s.setNum Num.instBoot []).setNum Num.workLost []).setNum Num.keysLost []).bulkDerive).ioDerive

end State

/-- VMAIN_FAIL (R441, R444, R446, R448): VMAIN below 8.4 V at two samples. -/
def execVmainFail (vmain vbak : Nat) (s : State) : Host.Outcome State Fault Refusal :=
  .next (if 8400 ≤ vmain then s else ((s.setReg Obj.vmainMv vmain).vbakSeen vbak).vmainGone vbak)

/-- VMAIN_VALID (R441, R442, R444, R449): VMAIN above 8.8 V at every sample for 10 ms, and below 36.0 V after an over-voltage. -/
def execVmainValid (vmain : Nat) (drift : List Nat) (s : State) : Host.Outcome State Fault Refusal :=
  .next (if vmain ≤ 8800 ∨ (s.reg Reg.vmainOver = 1 ∧ 36000 ≤ vmain) then s
    else
      let s := s.setRegs [(Obj.vmainMv, vmain % 65536), (Reg.vmainOk, 1), (Reg.vmainOver, 0)]
      if s.reg Obj.powerState = 4 ∧ s.reg Reg.holdupCause = 1 then s.beginReturn drift else s.tryBoot)

/-- VMAIN_OVER (R442): VMAIN above 38.0 V is disconnected and counts as failed. -/
def execVmainOver (vmain vbak : Nat) (s : State) : Host.Outcome State Fault Refusal :=
  .next (if vmain ≤ 38000 ∨ s.reg Reg.vmainOver = 1 then s
    else
      let s := s.setRegs [(Obj.vmainMv, vmain % 65536), (Reg.vmainOver, 1)]
      let s := if s.reg Obj.powerState = 0 then s else s.raise [.hal, .owner] U.pwr St.pwrVmainOver 0xFF 3 [(2, vmain)]
      (s.vbakSeen vbak).vmainGone vbak)

/-- VBAK_FLUSH_TRIGGER (R444, R448): VBAK below 2.9 V in hold-up. -/
def execVbakFlushTrigger (vbak : Nat) (s : State) : Host.Outcome State Fault Refusal :=
  .next (if 2900 ≤ vbak then s
    else
      let s := s.vbakSeen vbak
      if s.reg Obj.powerState = 4 then s.enterFlush 1 else s)

/-- VBAK_LOW (R443). -/
def execVbakLow (vbak : Nat) (s : State) : Host.Outcome State Fault Refusal := .next (s.vbakSeen vbak)

/-- VBAK_ABSENT (R443). -/
def execVbakAbsent (vbak : Nat) (s : State) : Host.Outcome State Fault Refusal := .next (s.vbakSeen vbak)

/-- REMOTE_OFF (R444): RemoteOffInput asserted for 100 ms. -/
def execRemoteOff (s : State) : Host.Outcome State Fault Refusal :=
  .next (if s.reg Obj.remoteOffInput = 0xFF then s
    else
      let p := s.reg Obj.powerState
      let s := s.setReg Reg.remoteOff 1
      if p = 2 ∨ p = 3 ∨ p = 4 ∨ p = 6 then s.enterFlush 3 else s)

/-- REMOTE_OFF_RELEASE (R444). -/
def execRemoteOffRelease (s : State) : Host.Outcome State Fault Refusal := .next ((s.setReg Reg.remoteOff 0).tryBoot)

/-- RESET_N (chapter 19, Reset sources): the pin held low for 1 ms flushes; in BOOT, RECOVERY and under boundary scan nothing is there to flush. -/
def execResetN (s : State) : Host.Outcome State Fault Refusal :=
  .next (
    let p := s.reg Obj.powerState
    let s := s.setReg Reg.resetN 1
    if p = 2 ∨ p = 3 ∨ p = 4 ∨ p = 6 then s.enterFlush 2
    else if p = 1 ∨ p = 7 then ((s.setRegs [(Reg.nextCause, if s.reg Reg.scanOpen = 1 then 5 else 2), (Reg.scanOpen, 0)]).powerTo 0 2).ioDerive
    else s)

/-- RESET_N_RELEASE (chapter 19, Reset sources): the cold start after the flush. -/
def execResetNRelease (s : State) : Host.Outcome State Fault Refusal := .next ((s.setReg Reg.resetN 0).tryBoot)

/-- THERMAL_HIGH (R454): at or above 125 °C step 1 of R93 is shed in full until the junction falls below 118 °C. -/
def execThermalHigh (temp : Int) (s : State) : Host.Outcome State Fault Refusal :=
  .next (if temp < 1250 ∨ s.reg Obj.powerState = 0 ∨ s.reg Obj.powerState = 1 ∨ s.reg Obj.powerState = 5 ∨ s.reg Obj.powerState = 7 then s
    else
      let s := if s.reg Reg.thermalHigh = 1 then s else (s.setReg Reg.thermalHigh 1).raise [.hal, .owner] U.pwr St.pwrThermalHigh 0xFF 2 []
      if s.reg Reg.thermalShed = 1 then s else (s.setReg Reg.thermalShed 1).shedLoad ((List.range 4).map (fun d => s.reg (Reg.shedAmount d))))

/-- THERMAL_TRIP (R444, R454): at or above 135 °C in SERVICE the device enters hold-up on VMAIN. -/
def execThermalTrip (temp : Int) (s : State) : Host.Outcome State Fault Refusal :=
  .next (if temp < 1350 ∨ s.reg Obj.powerState ≠ 3 then s else (s.enterHoldup 2).raise [.hal, .owner] U.pwr St.pwrThermalTrip 0xFF 3 [])

/-- THERMAL_SHUTDOWN (R444, R454): at or above 145 °C the device flushes and goes OFF until VMAIN has failed and become valid. -/
def execThermalShutdown (temp : Int) (s : State) : Host.Outcome State Fault Refusal :=
  .next (
    let p := s.reg Obj.powerState
    if temp < 1450 ∨ !(p == 2 || p == 3 || p == 4 || p == 6) then s else (s.enterFlush 4).setReg Reg.thermalLock 1)

/-- THERMAL_RECOVER (R444): below 110 °C for 10 s, hold-up for heat ends where it is on VMAIN. -/
def execThermalRecover (drift : List Nat) (s : State) : Host.Outcome State Fault Refusal :=
  .next (if s.reg Obj.powerState ≠ 4 ∨ s.reg Reg.holdupCause ≠ 2 ∨ s.reg Reg.vmainOk = 0 then s else s.beginReturn drift)

/-- FLUSH_COMPLETE (R444, R448, R449): the tail is in MRAM, closed by a POWER record flagged TAIL. With VMAIN valid, and no other cause than the supplies,
a warm return after flush begins; else the device is OFF, from which a released RESET_N or RemoteOffInput starts it cold. -/
def execFlushComplete (s : State) : Host.Outcome State Fault Refusal :=
  .next (if s.reg Obj.powerState ≠ 5 then s
    else
      let warm := s.reg Reg.vmainOk == 1 && s.reg Reg.flushCause == 1
      let s := s.setRegs [(Obj.lastFlushBytes, s.reg Obj.jnlTailBytes), (Reg.bootKind, b2n warm)]
      let s := s.powerTo (b2n warm) (s.reg Reg.flushCause)
      let s := { s with journal := s.journal.modifyHead (fun r => { r with tail := true }) }
      (s.setReg Obj.jnlTailBytes 0).ioDerive.tryBoot)

/-- RETURN_COMPLETE (R437 to R439, R444, R450, R451): every unit has resumed after a return; a start that hold-up interrupted, or that follows a flush, is complete. -/
def execReturnComplete (s : State) : Host.Outcome State Fault Refusal :=
  .next (if s.reg Obj.powerState ≠ 6 then s else if s.starting then (s.startUpDone [] []).started else s.returnDone)

/-- BOOT_HANDOVER (R390, R395, R396, R416, R418, R421, R437, R444, R452): the boot ROM hands over to the Halyard image of the selected bank, or of the
other where that one does not verify, or enters recovery. -/
def execBootHandover (otpOk : Bool) (puf : Nat) (imageA imageB : Bool) (lost corrupt : List Nat) (s : State) : Host.Outcome State Fault Refusal :=
  .next (if s.reg Obj.powerState ≠ 1 ∨ s.reg Reg.scanOpen = 1 then s
    else if !otpOk then s.enterRecovery.raise [.owner] U.sec St.otpMismatch 0xFF 3 []
    else
      let b := s.reg (Reg.itemBank U.hal)
      let ok := fun b => if b = 0 then imageA else imageB
      if ok b then s.handover puf lost corrupt
      else if ok (1 - b) ∧ s.itemState U.hal (1 - b) ≠ 0 then
        ((match s.startFailed U.hal with
          | (s, 0) => s.itemSwitch U.hal (1 - b) 2 4
          | (s, _) => s).handover puf lost corrupt)
      else s.enterRecovery)

/-- START_UP_COMPLETE (R18, R164, R439, R444, R452): full service. -/
def execStartUpComplete (silent untrained : List Nat) (s : State) : Host.Outcome State Fault Refusal :=
  .next (if s.reg Obj.powerState = 2 then s.startUpDone silent untrained
    else if s.reg Obj.powerState = 6 ∧ s.starting then (s.startUpDone silent untrained).started
    else s)

/-- HALYARD_WATCHDOG (R414, reset source 6): no serving heartbeat for 2 s restarts Halyard without a new image. -/
def execHalyardWatchdog (s : State) : Host.Outcome State Fault Refusal :=
  .next (if s.reg Reg.halServing = 0 then s else (s.setReg Reg.halDog 1).halDown)

/-- HALYARD_RESTART_DONE (R414 to R416, R433): Halyard serves again, or its start has failed. -/
def execHalyardRestartDone (ok : Bool) (s : State) : Host.Outcome State Fault Refusal :=
  .next (
    let p := s.reg Obj.powerState
    if s.reg Reg.halServing = 1 ∨ !(p == 2 || p == 3 || p == 4 || p == 6) then s
    else if ok then s.halServes else s.halStartFailed)

/-- HOLDUP_CONFIG_WRITE (R445, R502): HoldupHeads, RemoteOffInput, HoldupLinks. -/
def execHoldupConfigWrite (n sub : Nat) (v : List Byte) (s : State) : Host.Outcome State Fault Refusal :=
  .next (if sub ≠ 1 ∧ sub ≠ 3 ∧ sub ≠ 4 then s else s.written n (okey 0x301 sub) v (fun s => s.holdupWrite sub (leNat v)))

/-- BOUNDARY_SCAN_OPEN (R406): under SCOPE bit 1, through a reset, into a state in which no world runs; it closes by a further reset. -/
def execBoundaryScanOpen (n : Nat) (s : State) : Host.Outcome State Fault Refusal :=
  .next (s.request n 2 0 (fun s =>
    if s.reg (Reg.sessClass n) ≠ Cls.dbg ∧ s.reg Obj.lifecycleState ≠ 0 then s.reply St.accessDenied
    else if !bit (s.reg (Reg.certScope n)) 1 ∧ s.reg Obj.lifecycleState ≠ 0 then s.reply St.debugScope
    else
      let s := s.setRegs [(Reg.scanOpen, 1), (Reg.nextCause, 5), (Reg.bootKind, 0)]
      let s := s.setNum Num.instBoot ((List.range 56).filter (fun i => s.reg (Obj.instState i) != 0))
      (((s.wipe false).powerTo 1 5).ioDerive).reply St.ok))

end Sys2Proof.Machine
end

