-- ==== Sys2Proof/Machine/Connectors.lean ====
section
/-!
DEFINITION. Machine/Connectors.lean: Ethernet MACs, PCIe ports, discrete I/O and light-sensor ports (chapter 23).
-/
namespace Sys2Proof.Machine

namespace Con

/-- MAC speed of an interface, Mb/s (table Ethernet interfaces). -/
def ethMbps (i : Nat) : Nat := if i = 2 then 2500 else if i = 3 then 10000 else 1000

/-- Lanes a link trains to: 4, 2 or 1. -/
def lanes (w : Nat) : Nat := if 4 ≤ w then 4 else if 2 ≤ w then 2 else 1

end Con

/-- A write of EthInterface (R498): the MAC restarts, with its link down until it comes up in the new interface. -/
def State.ethWrite (s : State) (p v : Nat) : State :=
  (s.setRegs [(Obj.ethInterface p, v), (Obj.ethLinkUp p, 0), (Obj.ethSpeedMbps p, 0)]).reply St.ok

/-- Lux of a sensor word, rounded down (R503). -/
def State.lightLux (s : State) (k word : Nat) : Nat := word % 65536 * s.reg (Obj.lightScale k) / 1000

/-- ETH_INTERFACE_WRITE (R498). -/
def execEthInterfaceWrite (n p : Nat) (v : List Byte) (s : State) : Host.Outcome State Fault Refusal :=
  s.whenUp (fun s =>
    .next (s.written n (Obj.ethInterface p) v (fun s => s.ethWrite p (leNat v))))

/-- PCIE_LINK_TRAINING (R498): the link trains to the highest rate within PcieSpeedMax and the lanes that the partner and the channel allow. -/
def execPcieLinkTraining (p : Nat) (up : Bool) (gen width : Nat) (s : State) : Host.Outcome State Fault Refusal :=
  s.whenUp (fun s =>
    .next (if 3 < p then s
      else if !up ∨ gen < 3 ∨ width = 0 then s.setRegs [(Obj.pcieLinkSpeed p, 0), (Obj.pcieLinkWidth p, 0)]
      else s.setRegs [(Obj.pcieLinkSpeed p, min gen (min 5 (s.reg (Obj.pcieSpeedMax p)))), (Obj.pcieLinkWidth p, Con.lanes width)]))

/-- REMOTE_OFF_INPUT_WRITE (R445, R502). -/
def execRemoteOffInputWrite (n : Nat) (v : List Byte) (s : State) : Host.Outcome State Fault Refusal :=
  s.whenUp (fun s =>
    .next (s.written n Obj.remoteOffInput v (fun s => s.holdupWrite 3 (leNat v))))

/-- LIGHT_SENSOR_READ (R503): three bad reads in a row clear LightValid, one good read sets it; the heads whose SunSource names the port take its lux. -/
def execLightSensorRead (k : Nat) (ok : Bool) (word : Nat) (s : State) : Host.Outcome State Fault Refusal :=
  s.whenUp (fun s =>
    .next (if 3 < k ∨ s.reg (Obj.lightMode k) = 0 ∨ s.now < s.reg (Reg.lightNext k) then s
      else
        let s := s.setReg (Reg.lightNext k) (s.now + 100000000)
        if ok then
          let s := s.setRegs [(Reg.lightBad k, 0), (Obj.lightValid k, 1)]
          (List.range 8).foldl (fun s n => if s.reg (Obj.sunSource n) = k + 1 then s.setReg (Obj.sunLux n) (s.lightLux k word) else s) s
        else
          let b := s.reg (Reg.lightBad k) + 1
          if b < 3 then s.setReg (Reg.lightBad k) b
          else ((s.setRegs [(Reg.lightBad k, 0), (Obj.lightValid k, 0)]).bump (Obj.lightFails k) 32)))

/-- ETH_LINK_CHANGE (R498): in SGMII any speed but 1 Gb/s leaves the link down. -/
def execEthLinkChange (p : Nat) (up : Bool) (mbps : Nat) (s : State) : Host.Outcome State Fault Refusal :=
  s.whenUp (fun s =>
    .next (
      let i := s.reg (Obj.ethInterface p)
      if 3 < p then s
      else if !up ∨ (i = 0 ∧ mbps ≠ 1000) then s.setRegs [(Obj.ethLinkUp p, 0), (Obj.ethSpeedMbps p, 0)]
      else s.setRegs [(Obj.ethLinkUp p, 1), (Obj.ethSpeedMbps p, Con.ethMbps i)]))

end Sys2Proof.Machine
end

