-- ==== Sys2Proof/Machine/Crypto.lean ====
section
/-!
DEFINITION. Machine/Crypto.lean: the crypto engine (R397 to R401): jobs, lanes, checks and results; the key operations of sessions (R400, R402).
-/
namespace Sys2Proof.Machine

namespace Crypto

/-- The operation runs on a public-key lane. -/
def isPublic (op : Nat) : Bool := decide (0x20 ≤ op) && decide (op < 0x30)

/-- The operation needs randomness (R399). -/
def isRandom (op : Nat) : Bool := op == 0x20 || op == 0x23 || op == 0x30

/-- The operation works with the key of a slot, or with an inline key. -/
def isKeyed (op : Nat) : Bool := decide (0x10 ≤ op) && decide (op < 0x30)

/-- Bit of SlotUsage that an operation needs; key generation needs none. -/
def usage (op : Nat) : Option Nat :=
  if op = 0x10 ∨ op = 0x11 then some 0 else if op = 0x12 ∨ op = 0x13 then some 1 else if op = 0x14 ∨ op = 0x15 then some 2
  else if op = 0x20 then some 3 else if op = 0x21 ∨ op = 0x24 then some 4 else if op = 0x22 then some 5 else none

/-- The slot kind fits the operation. -/
def kindOk (op kind : Nat) : Bool :=
  if op < 0x20 then kind == 1
  else if op = 0x20 ∨ op = 0x23 then kind == 2 || kind == 3
  else if op = 0x21 then decide (2 ≤ kind) && decide (kind ≤ 5)
  else if op = 0x22 then kind == 3
  else kind == 6

/-- Length and format of an input (table Operations and times). `kind` is the slot's, 0 for an inline key. -/
def inputOk (op kind : Nat) (d : Bytes) : Bool :=
  let n := d.length
  let z := (Key.curve kind).size
  if op ≤ 3 then decide (n ≤ 65536)
  else if op = 0x10 ∨ op = 0x11 then
    let aad := Sha.beNat ((d.drop 12).take 2)
    let tag := if op = 0x11 then 16 else 0
    decide (14 + aad + tag ≤ n) && decide (n ≤ 65536 + 14 + aad + tag)
  else if op = 0x12 then decide (n ≤ 65536)
  else if op = 0x13 then decide (16 ≤ n) && decide (n ≤ 65552)
  else if op = 0x14 ∨ op = 0x15 then n % 16 == 0 && decide (32 ≤ n) && decide (n ≤ 65552)
  else if op = 0x20 then n == z
  else if op = 0x21 then (if kind = 0 then n == 160 || n == 240 else n == 3 * z)
  else if op = 0x22 then n == 96
  else if op = 0x23 then n == 0
  else if op = 0x24 then decide ((if kind = 0 then 96 else 64) ≤ n) && decide (n ≤ 65536)
  else n == 2 && decide (1 ≤ Sha.beNat d) && decide (Sha.beNat d ≤ 4096)

/-- ECDSA verify with a public point (R398 checks 1, 2 and 4). -/
def ecdsa (c : Ecc.Curve) (q : Nat × Nat) (d : Bytes) : Nat :=
  let r := Sha.beNat ((d.drop c.size).take c.size)
  let t := Sha.beNat ((d.drop (2 * c.size)).take c.size)
  if Key.pointStatus c q ≠ St.ok then Key.pointStatus c q
  else if r = 0 ∨ c.n ≤ r ∨ t = 0 ∨ c.n ≤ t then St.cryptoSigInvalid
  else if c.verify q (Sha.beNat (d.take c.size)) r t then St.ok else St.cryptoSigInvalid

/-- Ed25519 verify of a message with R, S and the key's 32 bytes. -/
def ed25519 (m rs key : Bytes) : Nat :=
  match Ecc.edDecode (rs.take 32), Ecc.edDecode key with
  | some r, some a =>
    let v := leNat (rs.drop 32)
    if Ecc.edL ≤ v then St.cryptoSigInvalid
    else if Ecc.edVerify m (rs.take 32) key r a v then St.ok else St.cryptoSigInvalid
  | _, _ => St.cryptoPointInvalid

/-- Status and output of a job with the kind, material and public part of its key; `fr` is the free value of a job that needs randomness. -/
def result (op kind key pub : Nat) (d : Bytes) (fr : Nat) : Nat × Bytes :=
  let c := Key.curve kind
  let k := Sha.beBytes 32 key
  let n := d.length
  if op = 1 then (St.ok, sha256 d)
  else if op = 2 then (St.ok, sha384 d)
  else if op = 3 then (St.ok, sha512 d)
  else if op = 0x10 ∨ op = 0x11 then
    let iv := d.take 12
    let la := Sha.beNat ((d.drop 12).take 2)
    let aad := (d.drop 14).take la
    let body := d.drop (14 + la)
    if op = 0x10 then
      let ct := Aes.gcmCrypt k iv body
      (St.ok, ct ++ Aes.gcmTag k iv aad ct)
    else
      let ct := body.take (body.length - 16)
      if Aes.gcmTag k iv aad ct = body.drop (body.length - 16) then (St.ok, Aes.gcmCrypt k iv ct) else (St.cryptoTagFail, [])
  else if op = 0x12 then (St.ok, Aes.cmac k d)
  else if op = 0x13 then (if Aes.cmac k (d.take (n - 16)) = d.drop (n - 16) then St.ok else St.cryptoTagFail, [])
  else if op = 0x14 ∨ op = 0x15 then
    (St.ok, Aes.xts (if op = 0x14 then Aes.enc k else Aes.dec k) (Config.xtsTweak key (leNat (d.take 16)) % 2 ^ 128) (Aes.blocks (d.drop 16)))
  else if op = 0x20 then
    let x := c.sign key (Sha.beNat d) (fr % (c.n - 1) + 1)
    (St.ok, Sha.beBytes c.size x.1 ++ Sha.beBytes c.size x.2)
  else if op = 0x21 then
    if kind = 0 then
      let c := if n = 160 then Ecc.p256 else Ecc.p384
      let q := d.drop (3 * c.size)
      (ecdsa c (Sha.beNat (q.take c.size), Sha.beNat (q.drop c.size)) d, [])
    else (ecdsa c (Key.pointOf c pub) d, [])
  else if op = 0x22 then
    let q := (Sha.beNat (d.take 48), Sha.beNat (d.drop 48))
    if Key.pointStatus c q ≠ St.ok then (Key.pointStatus c q, []) else (St.ok, Sha.beBytes 48 ((c.mul key (some q)).getD (0, 0)).1)
  else if op = 0x23 then
    let x := Key.generated kind fr
    (St.ok, ((leBytes 97 x.2).drop 1).take (2 * c.size))
  else if op = 0x24 then
    (if kind = 0 then ed25519 (d.take (n - 96)) ((d.drop (n - 96)).take 64) (d.drop (n - 32)) else ed25519 (d.take (n - 64)) (d.drop (n - 64)) (leBytes 32 pub), [])
  else (St.ok, leBytes (Sha.beNat d) fr)

end Crypto

namespace State

/-- A job uses a slot. -/
def jobSlotted (op slot : Nat) : Bool := Crypto.isKeyed op && !(slot == 0xFF && (op == 0x21 || op == 0x24))

/-- What stands against a job that names a slot (R400): an EMPTY slot, another holder, a missing usage, a kind that does not fit. -/
def slotStatus (s : State) (w op slot : Nat) : Nat :=
  if 32 ≤ slot then St.cryptoInput
  else if s.slotSealed slot then St.identityUnavailable
  else if s.reg (Obj.slotState slot) = 0 then St.keyEmpty
  else if s.reg (Obj.slotHolder slot) ≠ w then St.keyUsage
  else if !(match Crypto.usage op with | some b => bit (s.reg (Obj.slotUsage slot)) b | none => true) || !Crypto.kindOk op (s.reg (Obj.slotKind slot)) then St.keyUsage
  else St.ok

/-- Kind of the key that a job would use now; 0 without a slot. -/
def jobKind (s : State) (op slot : Nat) : Nat := if jobSlotted op slot then s.reg (Obj.slotKind slot) else 0

/-- Set a session's job result. -/
def jobResult (s : State) (n st : Nat) (d : Bytes) : State :=
  if s.reg (Reg.sessOpen n) = 0 then s else s.setRegs [(skey n Obj.cryptoStatus, st), (skey n Obj.cryptoOutput, encDomain d)]

/-- End the job of a session. -/
def jobEnd (s : State) (j : Job) (st : Nat) (d : Bytes) : State :=
  let s := State.jobResult { s with jobs := s.jobs.filter (fun (x : Job) => x.session != j.session) } j.session st d
  if j.running ∧ j.bound then s.slotBound j.slot else s

/-- Refusal of a job as it starts (R401, R402): the slot is looked at now. -/
def startStatus (s : State) (j : Job) : Nat :=
  if Crypto.isRandom j.op ∧ s.reg Reg.rngStopped = 1 then St.cryptoRngFail
  else if !jobSlotted j.op j.slot then St.ok
  else if s.reg (Obj.slotState j.slot) = 2 then St.erasePending
  else if s.slotStatus j.world j.op j.slot ≠ St.ok then s.slotStatus j.world j.op j.slot
  else if j.gen ≠ 0 ∧ j.gen ≠ s.reg (Obj.generation j.slot) then St.keyGenChanged
  else if !Crypto.inputOk j.op (s.reg (Obj.slotKind j.slot)) j.input then St.cryptoInput
  else St.ok

/-- Start a job on a lane: it binds to its slot's key, or ends at once with no work. -/
def jobStart (s : State) (j : Job) : State :=
  if s.startStatus j ≠ St.ok then s.jobEnd j (s.startStatus j) []
  else
    let b := jobSlotted j.op j.slot
    let j' : Job := { j with running := true, bound := b, kind := s.jobKind j.op j.slot, key := if b then s.reg (Reg.slotKey j.slot) else 0,
                             pub := if b then s.reg (Obj.publicKey j.slot) else 0 }
    let s := { s with jobs := s.jobs.map (fun (x : Job) => if x.session = j.session then j' else x) }
    if b then State.slotBound s j.slot else s

/-- The next job for a kind of lane (R397): HAL and ENS jobs first, each in order of arrival; none while both lanes are taken. -/
def jobNext (s : State) (pub : Bool) : Option Job :=
  let mine := s.jobs.filter (fun (j : Job) => Crypto.isPublic j.op == pub)
  if 2 ≤ mine.countP (fun (j : Job) => j.running) then none
  else
    let q := mine.filter (fun (j : Job) => !j.running)
    match q.find? (fun (j : Job) => j.first) with
    | some j => some j
    | none => q.head?

/-- Start jobs while lanes are free. -/
def jobsStart : Nat → State → State
  | 0, s => s
  | k + 1, s => match s.jobNext true with
    | some j => jobsStart k (s.jobStart j)
    | none => match s.jobNext false with
      | some j => jobsStart k (s.jobStart j)
      | none => s

/-- A job of session `n` that is running or waits. -/
def jobOf (s : State) (n : Nat) : Option Job := s.jobs.find? (fun (j : Job) => j.session == n)

/-- Submit a job (R397 to R400). A session has one job at a time. -/
def cryptoWrite (s : State) (n op : Nat) : State :=
  let slot := s.reg (skey n Obj.cryptoSlot)
  let d := decDomain (s.reg (skey n Obj.cryptoInput))
  let w := s.reg (Reg.sessWorld n)
  let b := jobSlotted op slot
  let st := if b then s.slotStatus w op slot else St.ok
  let no := fun (t : State) (st : Nat) => (if (t.jobOf n).isSome then t else t.jobResult n st []).reply st
  if (s.jobOf n).isSome then no s St.busy
  else if st ≠ St.ok then no s st
  else if !Crypto.inputOk op (s.jobKind op slot) d then no s St.cryptoInput
  else if Crypto.isRandom op ∧ s.reg Reg.rngStopped = 1 then no s St.cryptoRngFail
  else if 64 ≤ s.jobs.countP (fun (j : Job) => !j.running) then no s St.busy
  else
    let c := s.cls n
    let j : Job := ⟨n, w, c == Cls.hal || c == Cls.ens, op, slot, s.reg (skey n Obj.cryptoGen), d, false, false, 0, 0, 0⟩
    let s := State.jobResult { s with jobs := s.jobs ++ [j] } n St.busy []
    (jobsStart 2 s).reply St.ok

/-- The job of session `n` completes on its lane with the key it is bound to (R401). A generated key pair is written into its slot. -/
def jobDone (s : State) (n : Nat) : State :=
  match s.jobOf n with
  | none => s
  | some j =>
    if !j.running then s
    else
      let fr := s.fresh
      let s := if Crypto.isRandom j.op then s.tick else s
      let x := Crypto.result j.op j.kind j.key j.pub j.input fr
      let s := if j.op = 0x23 then
          if s.slotWritable j.slot ≠ St.ok then s.jobEnd j (s.slotWritable j.slot) []
          else
            let g := Key.generated j.kind fr
            (s.slotPut j.slot (s.reg (Obj.slotHolder j.slot)) j.kind (s.reg (Obj.slotUsage j.slot)) g.1 g.2).jobEnd j x.1 x.2
        else s.jobEnd j x.1 x.2
      jobsStart (s.jobs.length + 2) s

/-! Key operations. -/

/-- Set a session's KeyStatus and answer. -/
def keyAnswer (s : State) (n st : Nat) : State := (s.setReg (skey n Obj.keyStatus) st).reply st

/-- The holder of a slot as it is written: `w` for a slot that is EMPTY, the present holder for another. -/
def slotOwner (s : State) (k w : Nat) : Nat := if s.reg (Obj.slotState k) = 0 then w else s.reg (Obj.slotHolder k)

/-- Write the result of a key operation into the slot that session `n` names. -/
def keyPut (s : State) (n w st key pub : Nat) : State :=
  let k := s.reg (skey n Obj.keySlot)
  if s.slotWritable k ≠ St.ok then s.keyAnswer n (s.slotWritable k)
  else if st ≠ St.ok then s.keyAnswer n st
  else (s.slotPut k (s.slotOwner k w) (s.reg (skey n Obj.keyKind)) (s.reg (skey n Obj.keyUsage)) key pub).keyAnswer n St.ok

/-- KeyOp 1 (R400): kinds 1 to 3 are made inside the engine. -/
def keyGenerate (s : State) (n w : Nat) : State :=
  let kind := s.reg (skey n Obj.keyKind)
  if kind = 0 ∨ 3 < kind then s.keyPut n w St.cryptoInput 0 0
  else if s.reg Reg.rngStopped = 1 then s.keyPut n w St.cryptoRngFail 0 0
  else
    let g := Key.generated kind s.fresh
    s.tick.keyPut n w St.ok g.1 g.2

/-- A session may import a key in plaintext (R400). -/
def mayPlain (s : State) (n : Nat) : Bool :=
  s.cls n == Cls.hal || (s.cls n == Cls.own && s.reg (Reg.sessTransport n) == 3) || (s.cls n == Cls.dbg && s.reg Obj.lifecycleState == 0)

/-- KeyOp 2 (R400). -/
def keyPlain (s : State) (n w : Nat) : State :=
  if !s.mayPlain n then s.keyAnswer n St.accessDenied
  else
    let x := Key.imported (s.reg (skey n Obj.keyKind)) (decDomain (s.reg (skey n Obj.keyData)))
    s.keyPut n w x.1 x.2.1 x.2.2

/-- KeyOp 3 (R400): KeyData holds what operation 0x11 takes as input, CryptoSlot names the slot it is wrapped under. -/
def keyWrapped (s : State) (n w : Nat) : State :=
  let u := s.reg (skey n Obj.cryptoSlot)
  let d := decDomain (s.reg (skey n Obj.keyData))
  if s.slotSealed u then s.keyAnswer n St.identityUnavailable
  else if 32 ≤ u ∨ s.reg (Obj.slotState u) = 0 then s.keyAnswer n St.keyEmpty
  else if s.reg (Obj.slotState u) = 2 then s.keyAnswer n St.erasePending
  else if s.reg (Obj.slotHolder u) ≠ s.reg (Reg.sessWorld n) ∨ s.reg (Obj.slotKind u) ≠ 1 ∨ !bit (s.reg (Obj.slotUsage u)) 6 then s.keyAnswer n St.keyUsage
  else if !Crypto.inputOk 0x11 1 d then s.keyAnswer n St.cryptoInput
  else
    let r := Crypto.result 0x11 1 (s.reg (Reg.slotKey u)) 0 d 0
    if r.1 ≠ St.ok then s.keyAnswer n r.1
    else
      let x := Key.imported (s.reg (skey n Obj.keyKind)) r.2
      s.keyPut n w x.1 x.2.1 x.2.2

/-- KeyOp 4 (R402). -/
def keyErase (s : State) (n : Nat) : State :=
  let k := s.reg (skey n Obj.keySlot)
  if s.slotSealed k then s.keyAnswer n St.identityUnavailable
  else if s.reg (Obj.slotState k) = 0 then s.keyAnswer n St.keyEmpty else (s.slotErase k (s.sessDest n + 1)).keyAnswer n St.ok

/-- A write of KeyOp; `w` is the world a slot from 8 up is granted to, slots 0 to 3 are the owner's and 4 to 7 Halyard's. -/
def keyOpWrite (s : State) (n w op : Nat) : State :=
  let k := s.reg (skey n Obj.keySlot)
  let w := if k < 4 then 2 else if k < 8 then 0 else w
  if op = 1 then s.keyGenerate n w else if op = 2 then s.keyPlain n w else if op = 3 then s.keyWrapped n w else s.keyErase n

end State

/-- A command that submits a job of session `n`. -/
def cryptoOp (n op : Nat) (s : State) : State := s.written n Obj.cryptoOp (leBytes 1 op) (fun s => s.cryptoWrite n op)

/-- A command that carries out a key operation of session `n`. -/
def keyOperation (n w op : Nat) (s : State) : State := s.written n Obj.keyOp (leBytes 1 op) (fun s => s.keyOpWrite n w op)

/-- SHA_256 (R397). -/
def execSha256 (n : Nat) (s : State) : Host.Outcome State Fault Refusal :=
  s.whenUp (fun s =>
    .next (cryptoOp n 0x01 s))

/-- SHA_384 (R397). -/
def execSha384 (n : Nat) (s : State) : Host.Outcome State Fault Refusal :=
  s.whenUp (fun s =>
    .next (cryptoOp n 0x02 s))

/-- SHA_512 (R397). -/
def execSha512 (n : Nat) (s : State) : Host.Outcome State Fault Refusal :=
  s.whenUp (fun s =>
    .next (cryptoOp n 0x03 s))

/-- AES_GCM_ENCRYPT (R397). -/
def execAesGcmEncrypt (n : Nat) (s : State) : Host.Outcome State Fault Refusal :=
  s.whenUp (fun s =>
    .next (cryptoOp n 0x10 s))

/-- AES_GCM_DECRYPT (R397, R398). -/
def execAesGcmDecrypt (n : Nat) (s : State) : Host.Outcome State Fault Refusal :=
  s.whenUp (fun s =>
    .next (cryptoOp n 0x11 s))

/-- CMAC_GENERATE (R397). -/
def execCmacGenerate (n : Nat) (s : State) : Host.Outcome State Fault Refusal :=
  s.whenUp (fun s =>
    .next (cryptoOp n 0x12 s))

/-- CMAC_VERIFY (R397, R398). -/
def execCmacVerify (n : Nat) (s : State) : Host.Outcome State Fault Refusal :=
  s.whenUp (fun s =>
    .next (cryptoOp n 0x13 s))

/-- XTS_ENCRYPT (R397). -/
def execXtsEncrypt (n : Nat) (s : State) : Host.Outcome State Fault Refusal :=
  s.whenUp (fun s =>
    .next (cryptoOp n 0x14 s))

/-- XTS_DECRYPT (R397). -/
def execXtsDecrypt (n : Nat) (s : State) : Host.Outcome State Fault Refusal :=
  s.whenUp (fun s =>
    .next (cryptoOp n 0x15 s))

/-- ECDSA_SIGN (R397). -/
def execEcdsaSign (n : Nat) (s : State) : Host.Outcome State Fault Refusal :=
  s.whenUp (fun s =>
    .next (cryptoOp n 0x20 s))

/-- ECDSA_VERIFY (R397, R398). -/
def execEcdsaVerify (n : Nat) (s : State) : Host.Outcome State Fault Refusal :=
  s.whenUp (fun s =>
    .next (cryptoOp n 0x21 s))

/-- ECDH (R397, R398). -/
def execEcdh (n : Nat) (s : State) : Host.Outcome State Fault Refusal :=
  s.whenUp (fun s =>
    .next (cryptoOp n 0x22 s))

/-- KEY_GENERATION (R397). -/
def execKeyGeneration (n : Nat) (s : State) : Host.Outcome State Fault Refusal :=
  s.whenUp (fun s =>
    .next (cryptoOp n 0x23 s))

/-- ED25519_VERIFY (R397, R398). -/
def execEd25519Verify (n : Nat) (s : State) : Host.Outcome State Fault Refusal :=
  s.whenUp (fun s =>
    .next (cryptoOp n 0x24 s))

/-- RANDOM_BYTES (R397, R399). -/
def execRandomBytes (n : Nat) (s : State) : Host.Outcome State Fault Refusal :=
  s.whenUp (fun s =>
    .next (cryptoOp n 0x30 s))

/-- CRYPTO_JOB_DONE (R401): the job of session `n` completes. -/
def execCryptoJobDone (n : Nat) (s : State) : Host.Outcome State Fault Refusal :=
  s.whenUp (fun s =>
    .next (s.jobDone n))

/-- CRYPTO_RNG_FAIL (R399): a health test fails and the generator stops. -/
def execCryptoRngFail (s : State) : Host.Outcome State Fault Refusal :=
  .next (if s.reg Reg.rngStopped = 1 then s else (s.setReg Reg.rngStopped 1).raise [.hal, .owner] U.sec St.cryptoRngFail 0xFF 3 [])

/-- RNG_STARTUP_TEST_PASS (R399): the source has passed its start-up test of 1,024 samples. -/
def execRngStartupTestPass (s : State) : Host.Outcome State Fault Refusal := .next (s.setReg Reg.rngStopped 0)

/-- KEYOP_GENERATE (R400). -/
def execKeyopGenerate (n w : Nat) (s : State) : Host.Outcome State Fault Refusal :=
  s.whenUp (fun s =>
    .next (keyOperation n w 1 s))

/-- KEYOP_IMPORT_PLAIN (R400). -/
def execKeyopImportPlain (n w : Nat) (s : State) : Host.Outcome State Fault Refusal :=
  s.whenUp (fun s =>
    .next (keyOperation n w 2 s))

/-- KEYOP_IMPORT_WRAPPED (R400). -/
def execKeyopImportWrapped (n w : Nat) (s : State) : Host.Outcome State Fault Refusal :=
  s.whenUp (fun s =>
    .next (keyOperation n w 3 s))

/-- KEYOP_ERASE (R402). -/
def execKeyopErase (n : Nat) (s : State) : Host.Outcome State Fault Refusal :=
  s.whenUp (fun s =>
    .next (keyOperation n 0 4 s))

end Sys2Proof.Machine
end

