-- ==== Sys2Proof/Machine/CanNode.lean ====
section
/-!
DEFINITION. Machine/CanNode.lean: what writes and reads of the objects of CAN FD and USB host ports and of the owner event ring do beside storing a
value (R60 to R67, R70, R386).
-/
namespace Sys2Proof.Machine

namespace Can

/-! Settings of Halyard's node. -/

/-- A write of HbProducerMs (R60): the producer starts a new period, or stops at 0. -/
def producerWrite (s : State) (p v : Nat) : State :=
  (s.setRegs [(Obj.hbProducerMs p, v), (Reg.nodeHbDue p, if v = 0 then 0 else s.now + 1000000 * v)]).reply St.ok

/-- A write of HbConsumer `i` (R64): node-ID in bits 23:16, time in bits 15:0. Before the first heartbeat the time counts from here, or from the start of the node
(DESIGN CHOICE, log 41). -/
def consumerWrite (s : State) (p i v : Nat) : State :=
  (s.setRegs [(Obj.hbConsumer p i, v), (Reg.hbLost p i, 0), (Reg.hbDue p i, s.now + 1000000 * (v % 65536))]).reply St.ok

/-- A write of StaleMs of mapping `m` (R63). Before the first accepted frame it counts from here, or from the start of the node (DESIGN CHOICE, log 41). -/
def staleWrite (s : State) (p m v : Nat) : State :=
  (s.setRegs [(Obj.staleMs p m, v), (Reg.rxStaleDue p m, s.now + 1000000 * v)]).reply St.ok

/-- What stands against a write of CheckUnit of mapping `m` (R386, R388). -/
def checkUnitStatus (s : State) (p m v : Nat) : Nat :=
  if v = 0xFFFF then St.ok
  else if !s.unitThere v then St.handleUnknown
  else if v < U.check 0 ∨ U.check 16 ≤ v then St.valueRange
  else if 1 < s.reg (Reg.blockHolder v) ∨ s.reg (Obj.chkFeedSource (v - U.check 0)) ≠ 0x40 + p then St.notOwner
  else if 8 ≤ (List.range 32).countP (fun j => j != m && s.reg (Obj.checkUnit p j) == v) then St.limitReached
  else St.ok

/-- A write of CheckUnit of mapping `m` (R386). -/
def checkUnitWrite (s : State) (p m v : Nat) : State :=
  if checkUnitStatus s p m v = St.ok then (s.setReg (Obj.checkUnit p m) v).reply St.ok else s.reply (checkUnitStatus s p m v)

/-! The raw controller. -/

/-- Set the error counters of a raw controller; the error state follows them (R66, ISO 11898-1, log 34), and a change is told to the holder. -/
def errors (s : State) (p tec rec' : Nat) : State :=
  let st := if 256 ≤ tec then 2 else if 128 ≤ tec ∨ 128 ≤ rec' then 1 else 0
  let old := s.reg (Obj.rawState p)
  let s := s.setRegs [(Obj.rawTec p, min 255 tec), (Obj.rawRec p, min 255 rec'), (Obj.rawState p, st)]
  if st = old then s
  else s.raise [s.blockDest (U.can p)] (U.can p) St.canRawState (s.reg (Reg.blockHolder (U.can p))) (if st = 0 then 1 else 2) [(1, st)]

/-- The controller restarts (R65): both error counters return to 0. -/
def restart (s : State) (p : Nat) : State := errors (s.setReg (Reg.rawRestart p) 0) p 0 0

/-- The frame in transmission has ended: a restart that waits for it happens now. -/
def frameEnded (s : State) (p : Nat) : State := if s.reg (Reg.rawRestart p) = 1 then restart s p else s

/-- What stands against a value of RawNominalRate, RawDataRate, RawSamplePermille or RawMode, sub-index 01 to 04 (R65). A nominal rate
above the present data rate is refused as a data rate below the nominal one is (DESIGN CHOICE, log 41). -/
def rawConfigOk (s : State) (p sub v : Nat) : Bool :=
  if sub = 1 then decide (125000 ≤ v) && decide (v ≤ 1000000) && decide (v ≤ s.reg (Obj.rawDataRate p)) && State.rawRateOk v
  else if sub = 2 then decide (s.reg (Obj.rawNominalRate p) ≤ v) && decide (v ≤ 8000000) && State.rawRateOk v
  else if sub = 3 then decide (700 ≤ v) && decide (v ≤ 900)
  else decide (v ≤ 1)

/-- A write of a raw rate, the sample point or the mode (R65). -/
def rawConfig (s : State) (p sub v : Nat) : State :=
  if !rawConfigOk s p sub v then s.reply St.valueRange
  else
    let sending := s.rawSending p
    let s := s.setReg (okey (0x7C40 + 0x80 * p) sub) v
    (if sending then s.setReg (Reg.rawRestart p) 1 else restart s p).reply St.ok

/-- The 80-byte records of a write of RawTx. -/
def records : Nat → Bytes → List Bytes
  | 0, _ => []
  | n + 1, d => d.take 80 :: records n (d.drop 80)

/-- A write of RawTx (R66). A length that is no whole number of records does not fit the type: TYPE_MISMATCH (DEDUCED, log 41). -/
def rawTxWrite (s : State) (p : Nat) (d : Bytes) : State :=
  if d.length % 80 ≠ 0 then s.reply St.typeMismatch
  else match s.rawQueue p (records (d.length / 80) d) with
    | (s, st) => s.reply st

/-- A read of RawRx: up to the 32 oldest frames, which leave the FIFO (R66). -/
def takeRx (s : State) (p : Nat) : State × Bytes :=
  let q := s.fifo (Fifo.rawRx p)
  (s.setFifo (Fifo.rawRx p) (q.drop 32), (q.take 32).flatten)

/-! USB host ports. -/

/-- Address of the device in entry `j` of a host port's list; 0 for none. -/
def usbAddr (s : State) (h j : Nat) : Nat := s.reg (Obj.usbDevice h j) % 256
/-- Its class. -/
def usbClass (s : State) (h j : Nat) : Nat := s.reg (Obj.usbDevice h j) / 256 % 256
/-- Entry of the device with this address. -/
def usbFind (s : State) (h addr : Nat) : Option Nat := (List.range 8).find? (fun j => usbAddr s h j == addr && s.reg (Obj.usbDevice h j) != 0)

/-- Forget every device of a host port. -/
def usbClear (s : State) (h : Nat) : State :=
  (List.range 8).foldl (fun s j => s.setRegs [(Obj.usbDevice h j, 0), (Reg.usbOutLen h j, 0)]) s

/-- UsbPortOp 1 (R67): the port is reset and powered, and its devices are enumerated again. -/
def portOp (s : State) (h : Nat) : State :=
  let st := if (List.range 8).any (fun j => s.reg (Obj.usbDevice h j) != 0) then 2 else 1
  ((usbClear s h).setReg (Obj.usbPortState h) st).reply St.ok

/-- A read of HidIn: up to the 16 oldest reports, which leave the queue (R67). -/
def takeHid (s : State) (h : Nat) : State × Bytes :=
  let q := s.fifo (Fifo.hid h)
  (s.setFifo (Fifo.hid h) (q.drop 16), (q.take 16).flatten)

/-- Destinations of the events of a host port: its holder; while Halyard holds it, the owner, whose class reads it, as well. -/
def usbDests (s : State) (h : Nat) : List Dest :=
  if s.reg (Reg.blockHolder (U.usbHost h)) = 0 then [.hal, .owner] else [s.blockDest (U.usbHost h)]

/-- A write of HidOut (R67): device, report ID, LEN, zero, data. -/
def hidOutWrite (s : State) (h : Nat) (d : Bytes) : State :=
  let n := bytesAt d 2 1
  match usbFind s h (bytesAt d 0 1) with
  | none => s.reply St.valueRange
  | some j =>
    if d.length < 4 + n ∨ s.reg (Reg.usbOutLen h j) < n ∨ usbClass s h j ≠ 3 ∨ s.reg (Obj.usbPortState h) ≠ 3 then s.reply St.valueRange
    else (s.emit (.frame (U.usbHost h) (d.take (4 + n)))).reply St.ok

/-! The owner event ring. -/

/-- SEQ `a` is not before `b`, modulo 2^32. -/
def seqFrom (a b : Nat) : Bool := decide ((a + 2 ^ 32 - b % 2 ^ 32) % 2 ^ 32 < 2 ^ 31)

/-- A read of OwnerEvData (R70): up to 32 records from OwnerEvFrom that the session's class may read. -/
def takeOwner (s : State) (n : Nat) : State × Bytes :=
  let evs := (s.ownerRing.reverse.filter (fun (e : Event) => seqFrom e.seq (s.reg (skey n Obj.ownerEvFrom)) && s.ownerReads (s.cls n) e.severity)).take 32
  let next := match evs.getLast? with
    | some e => if evs.length = 32 then (e.seq + 1) % 2 ^ 32 else s.reg Obj.ownerEvHead
    | none => s.reg Obj.ownerEvHead
  (s.setReg (skey n Obj.ownerEvFrom) next, evs.flatMap State.eventBytes)

end Can
end Sys2Proof.Machine
end

