-- ==== Sys2Proof/Machine/HapPlay.lean ====
section
/-!
DEFINITION. Machine/HapPlay.lean: plays, stops and ends of haptic effects (R331, R333 to R338), and the protection of channels and groups (R339).
-/
namespace Sys2Proof.Machine

namespace State

/-- Destinations of an event of a haptic channel: its holder, with Halyard and the owner. -/
def hapChEvent (s : State) (g c st sev : Nat) (pl : List (Nat × Nat)) : State :=
  s.raise [s.blockDest (U.hapChannel g c), .hal] (U.hapChannel g c) st (s.reg (Reg.blockHolder (U.hapChannel g c))) sev pl

/-- Raise an event of a haptic group: to Halyard, the owner and the worlds that hold its channels. -/
def hapGroupEvent (s : State) (g st sev : Nat) (pl : List (Nat × Nat)) : State :=
  let ws := ((List.range 8).map (fun c => s.blockDest (U.hapChannel g c))).dedup
  s.raise (ws ++ [.hal, .owner]) (U.hapGroup g) st 0xFF sev pl

/-- The instants of a channel's and its group's boundary source at an effect's end or replacement (R338). -/
def hapBoundary (s : State) (g c : Nat) : State := (s.boundary (s.sourceOf (U.hapChannel g c))).boundary (s.sourceOf (U.hapGroup g))

/-- The journal item of the effect playing ends. -/
def hapItemEnd (s : State) (g c status : Nat) : State :=
  match s.items.find? (fun t => t.seq + 1 == s.reg (Reg.hapItem g c)) with
  | some t => (s.itemEnd t status).setReg (Reg.hapItem g c) 0
  | none => s.setReg (Reg.hapItem g c) 0

/-- An effect ends (R331): the channel is idle, or disabled, and an EFFECT boundary falls. -/
def hapEnd (s : State) (g c status : Nat) : State :=
  if s.reg (Reg.hapBusy g c) = 0 then s
  else
    let s := s.hapItemEnd g c status
    let s := s.setRegs [(Reg.hapBusy g c, 0), (Reg.hapStopAt g c, 0), (Reg.hapDrive g c, 0), (Obj.hapChEffectNow g c, 0),
      (Obj.hapChChannelState g c, if s.reg (Obj.hapChEnable g c) = 0 then 4 else 0)]
    s.hapBoundary g c

/-- Refusal of a play or stop (R331, R333, R337); OK where there is none. A stop is refused only by rank. -/
def hapRefusal (s : State) (g c src e : Nat) : Nat :=
  if 95 < e then St.effectUnknown
  else if s.reg (Reg.hapBusy g c) = 1 ∧ s.reg (Reg.hapSrc g c) < src then St.hapBusy
  else if e = 0 then St.ok
  else if src ≠ 1 ∧ s.reg (Obj.hapChEnable g c) = 0 then St.hapDisabled
  else if s.reg (Obj.hapChChannelState g c) = 3 ∨ s.reg (Obj.hapHvState g) = 2 ∨ s.reg (Reg.hapHot g) = 2 then St.loadFault
  else if s.reg Obj.powerState = 4 ∨ s.reg Obj.powerState = 5 then St.hapHoldup
  else St.ok

/-- Settings snapshot of a channel (R338). -/
def hapSnapshot (s : State) (g c : Nat) : Nat :=
  s.reg (Obj.hapChSenseMode g c) + 2 ^ 16 * s.reg (Obj.hapChAccelFullScale g c) + 2 ^ 32 * s.reg (Obj.hapChBoostMs g c)
    + 2 ^ 48 * s.reg (Obj.hapChBrakeMs g c) + 2 ^ 64 * s.reg (Obj.hapChSenseGainUv g c)

/-- Play an effect on a channel, or stop it with effect 0 (R331, R333, R338). `w` is the world that plays, plus 1, or 0. Answers the status too. -/
def hapPlay (s : State) (g c src w e str d : Nat) : State × Nat :=
  let st := s.hapRefusal g c src e
  if st ≠ St.ok then (s, st)
  else if e = 0 then (s.hapHalt g c, St.ok)
  else
    let s :=
      if s.reg (Reg.hapBusy g c) = 0 then s
      else
        let old := s.reg (Reg.hapSrcWorld g c)
        let s := s.hapItemEnd g c St.hapReplaced
        let s := if old = 0 then s
          else s.raise [.world (old - 1)] (U.hapChannel g c) St.hapReplaced (old - 1) 0 [(1, 8 * g + c), (1, s.reg (Obj.hapChEffectNow g c))]
        s.hapBoundary g c
    let s := s.setRegs [(Reg.hapBusy g c, 1), (Reg.hapSrc g c, src), (Reg.hapSrcWorld g c, w), (Reg.hapStr g c, str), (Reg.hapScale g c, d),
      (Reg.hapAt g c, s.now), (Reg.hapSnap g c, s.hapSnapshot g c), (Reg.hapStopAt g c, 0), (Reg.hapBraked g c, 0), (Reg.hapChecked g c, 0), (Reg.hapRisen g c, 0),
      (Reg.hapInt g c, 0), (Obj.hapChEffectNow g c, e), (Obj.hapChChannelState g c, 1)]
    ((s.bump (Obj.hapChPlays g c) 32).count (408 + 8 * g + c) 1, St.ok)

/-- A field of the settings snapshot: 0 SenseMode, 1 AccelFullScale, 2 BoostMs, 3 BrakeMs. -/
def hapField (s : State) (g c j : Nat) : Nat := bits (s.reg (Reg.hapSnap g c)) (16 * j) 16

/-- Drive segments of the effect playing; a stop cuts them. -/
def hapSegments (s : State) (g c : Nat) : List (Nat × Nat) :=
  match Hap.fx (s.reg (Obj.hapChEffectNow g c)) with
  | none => []
  | some f =>
    let l := Hap.segments f (s.reg (Reg.hapScale g c))
    let stop := s.reg (Reg.hapStopAt g c)
    if stop = 0 then l
    else
      let e := stop - 1 - s.reg (Reg.hapAt g c)
      (l.filter (fun p => decide (p.1 < e))).map (fun p => (p.1, min p.2 e))

/-- The channel runs in closed loop: its snapshot has a sense input and no sense fault holds (R330). -/
def hapClosed (s : State) (g c : Nat) : Bool := s.hapField g c 0 != 0 && s.reg (Reg.hapOpen g c) == 0

/-- Scale of the targets of a group in ppm: the power limit, and 50 % while the driver is hot (R339). -/
def hapLimit (s : State) (g : Nat) : Nat :=
  let p := if s.reg (Reg.hapPower g) = 0 then 1000000 else s.reg (Reg.hapPower g) - 1
  if s.reg (Reg.hapHot g) = 1 then p / 2 else p

/-- Target peak of the effect playing, 0.00001 m/s². -/
def hapPeak (s : State) (g c : Nat) : Nat :=
  match Hap.fx (s.reg (Obj.hapChEffectNow g c)) with
  | none => 0
  | some f => Hap.peakOf f (s.reg (Reg.hapStr g c)) (s.hapField g c 1) * s.hapLimit g / 1000000

/-- Target at `t` ns into the effect: the envelope of the segment there. The sine of shape M has a free value between 30 % and 100 % (log 20). -/
def hapTarget (s : State) (g c t : Nat) : Nat :=
  match Hap.fx (s.reg (Obj.hapChEffectNow g c)), (s.hapSegments g c).find? (fun p => decide (p.1 ≤ t) && decide (t < p.2)) with
  | some f, some p =>
    let full := (Hap.segments f (s.reg (Reg.hapScale g c))).find? (fun q => q.1 == p.1)
    let dur := match full with | some q => q.2 - q.1 | none => p.2 - p.1
    s.hapPeak g c * Hap.env f (s.reg (Reg.hapScale g c)) dur (t - p.1) (300000 + s.fresh % 700001) / 1000000
  | _, _ => 0

/-- Braking of an effect is complete after its last segment, or 10 s have passed (R331). -/
def hapFinished (s : State) (g c : Nat) : Bool :=
  let l := s.hapSegments g c
  let t := s.now - s.reg (Reg.hapAt g c)
  let last := match l.getLast? with | some p => p.2 | none => 0
  decide (10000000000 ≤ t) || (decide (last ≤ t) && (decide (l.length ≤ s.reg (Reg.hapBraked g c)) || decide (last + 1000000 * s.hapField g c 3 ≤ t)))

/-- A channel stops at once, without braking. -/
def hapCut (s : State) (g c status : Nat) : State := s.hapEnd g c status

/-- A channel enters FAULT (R327). -/
def hapFault (s : State) (g c : Nat) : State :=
  let s := (s.setReg (Obj.hapChChannelState g c) 3).bump (Obj.hapChFaults g c) 32
  s.hapChEvent g c St.loadFault 3 [(2, s.reg (Obj.hapChLoadNf g c))]

/-- Every channel of a group stops at once. -/
def hapGroupCut (s : State) (g status : Nat) : State := (List.range 8).foldl (fun s c => s.hapCut g c status) s

/-- A contact has been routed (R335): bindings of every group that match its port, head, target and phase play. -/
def hapTouch (s : State) (p phase : Nat) (c : Contact) : State :=
  (List.range 3).foldl (fun s g =>
    if s.reg (Obj.hapTouchHaptics g) = 0 then s
    else
      ((List.range 16).foldl (fun (x : State × List Nat) b =>
        let v := x.1.reg (Obj.hapBinding g b)
        let ch := Hap.bindByte v 3
        let hold := x.1.reg (Reg.blockHolder (U.hapChannel g ch))
        if Hap.bindByte v 0 = p ∧ Hap.bindByte v 1 = c.head ∧ (Hap.bindByte v 2 = 0xFF ∨ Hap.bindByte v 2 = c.layer)
            ∧ (Hap.bindByte v 7 = 2 ∨ Hap.bindByte v 7 = (if phase = 0 then 0 else 1)) ∧ (hold = 0 ∨ hold = c.world ∨ c.world = 1)
            ∧ !x.2.contains ch then
          ((x.1.hapPlay g ch 2 0 (Hap.bindByte v 4) (Hap.bindByte v 5) (Hap.bindByte v 6)).1, ch :: x.2)
        else x) (s, [])).1) s

end State
end Sys2Proof.Machine
end

