-- ==== Sys2Proof/Machine/Pixels.lean ====
section
/-!
DEFINITION. Machine/Pixels.lean: what a head sends for one pixel and the tag beside it: layers and their surfaces (R218 to R221), video scaling (R222 to
R224), blending, the post-blend chain (R225), the Ensign overlay (R243), provenance tags (R251); and the signature and provenance count of a region
(R287, R288, R292). Rounding that the spec leaves open is a free value (log 36).
-/
namespace Sys2Proof.Machine

/-- A pixel of 12-bit components. -/
structure Pix where
  a : Nat
  r : Nat
  g : Nat
  b : Nat
  deriving DecidableEq, Repr

/-- Where a layer's pixels come from: nothing, opaque black (R283, R469), or a surface read by world and stage-1 root. -/
inductive PixSrc where
  | none
  | black
  | surf (w root : Nat) (f : Surf)
  deriving DecidableEq, Repr

/-! Arithmetic of the pipeline. -/
namespace Px

/-- Clamp to 12 bits. -/
def clamp (x : Int) : Nat := min 4095 x.toNat

/-- Quotient rounded to the nearest whole number. -/
def nearest (a : Int) (d : Nat) : Int :=
  if 2 * (a % d) = d then a / d + (if Config.tieUp a d then 1 else 0) else (2 * a + d) / (2 * d)

/-- Quotient of a stage whose rounding the spec does not state: the whole number below or above an inexact one. -/
def about (a : Int) (d : Nat) : Int := if a % d = 0 then a / d else a / d + (if Config.roundUp a d then 1 else 0)

/-- Widen a component of `b` bits to 12 by replicating its top bits (R220). -/
def widen (b v : Nat) : Nat := v * ((List.range 6).foldl (fun a j => a + 2 ^ (b * j)) 0) / 2 ^ (6 * b - 12)

/-- The pixel that a stored texel of a graphic format gives (table Layer formats, R220). -/
def ofTexel (lf v : Nat) : Pix :=
  if lf = 3 then ⟨4095, widen 5 (bits v 11 5), widen 6 (bits v 5 6), widen 5 (bits v 0 5)⟩
  else if lf = 4 then ⟨widen 2 (bits v 30 2), widen 10 (bits v 20 10), widen 10 (bits v 10 10), widen 10 (bits v 0 10)⟩
  else ⟨if lf = 2 then 4095 else widen 8 (bits v 24 8), widen 8 (bits v 16 8), widen 8 (bits v 8 8), widen 8 (bits v 0 8)⟩

/-- Red and blue luma weights, in 0.0001, of a ColourMatrix: BT.601, BT.709, BT.2020. -/
def weights (m : Nat) : Nat × Nat :=
  if m % 4 = 0 then (2990, 1140) else if m % 4 = 1 then (2126, 722) else if m % 4 = 2 then (2627, 593) else Config.weights3

/-- R′G′B′ of scaled Y′CbCr in 12 bits that were widened from `depth` bits, under a ColourMatrix (R220). -/
def ofYuv (m depth y cb cr : Nat) : Pix :=
  let k := weights m
  let kg : Int := 10000 - k.1 - k.2
  let u : Int := 2 ^ (depth - 8)
  let top : Int := 2 ^ depth - 1
  let full := bit m 2
  let yn : Int := if full then y else top * y - 16 * u * 4095
  let yd : Int := if full then 4095 else 219 * u * 4095
  let c := fun (x : Nat) => top * (x : Int) - 128 * u * 4095
  let cd : Int := if full then top * 4095 else 224 * u * 4095
  let r := 4095 * (yn * cd * 10000 + 2 * (10000 - k.1) * c cr * yd)
  let b := 4095 * (yn * cd * 10000 + 2 * (10000 - k.2) * c cb * yd)
  let g := 4095 * (yn * cd * 10000 * kg - 2 * k.2 * (10000 - k.2) * c cb * yd - 2 * k.1 * (10000 - k.1) * c cr * yd)
  ⟨4095, clamp (about r (yd * cd * 10000).toNat), clamp (about g (yd * cd * 10000 * kg).toNat), clamp (about b (yd * cd * 10000).toNat)⟩

/-- One component blended over the result below (R221): mode, GlobalAlpha, the layer's alpha and colour. -/
def blend (mode g a c d : Nat) : Nat :=
  let one : Int := 255 * 4095
  if mode = 2 then clamp (nearest (g * c + (255 - g) * d) 255)
  else clamp (nearest ((if mode = 0 then g * c * 4095 else g * a * c) + (one - g * a) * d) (255 * 4095))

/-- The layer's effective alpha is not zero (R251). -/
def shows (mode g a : Nat) : Bool := if mode = 2 then g != 0 else g * a != 0

/-! Scaling. -/

/-- Ratio band (R222). -/
def band (dst crop : Nat) : Nat := if crop ≤ dst then 0 else if crop ≤ 2 * dst then 1 else if crop ≤ 4 * dst then 2 else 3

/-- Step in U16.16 (R222). -/
def step (dst crop : Nat) : Nat := (2 * 65536 * crop + dst) / (2 * dst)

/-- Source index and phase of a position in `unit`s of a pixel. -/
def at' (q : Int) (unit : Nat) : Int × Nat := (q / unit, (q % unit).toNat * 64 / unit)

/-- Source index and phase of output pixel `i` of a luma or colour plane whose crop begins at `c0` (R222). -/
def lumaAt (c0 st i : Nat) : Int × Nat := at' ((c0 : Int) * 131072 + ((2 * i + 1) * st : Nat) - 65536) 131072

/-- The same in a chroma plane of half size. -/
def chromaAt (vert : Bool) (c0 st i : Nat) : Int × Nat :=
  at' ((c0 : Int) * 131072 + ((2 * i + 1) * st : Nat) - 131072 + Config.chromaSiting vert) 262144

/-- Coefficient `j` of a stored set. -/
def coef (set j : Nat) : Int := toSigned 2 (set / 256 ^ (2 * j))

/-- Taps of the horizontal filter at phase `p` in band `b`: offsets from the source index, and coefficients of 1,024 (R222 to R224). -/
def tapsH (quality set b p : Nat) : List (Int × Int) :=
  if quality = 0 then (List.range 8).map (fun (k : Nat) => ((k : Int) - 3, coef set (8 * p + k)))
  else if quality = 1 then (List.range 4).map (fun (k : Nat) => ((k : Int) - 1, coef Tables.coefReduced (256 * b + 4 * p + k)))
  else [(0, 1024 - 16 * p), (1, 16 * p)]

/-- Taps of the vertical filter. -/
def tapsV (quality set b p : Nat) : List (Int × Int) :=
  if quality = 0 then (List.range 6).map (fun (k : Nat) => ((k : Int) - 2, coef set (6 * p + k)))
  else if quality = 1 then (List.range 3).map (fun (k : Nat) => ((k : Int) - 1 + (if 32 ≤ p then 1 else 0), Config.reducedV b p k))
  else [(0, 1024 - 16 * p), (1, 16 * p)]

/-- One filtered value: samples beyond the edges repeat the edge (R223). -/
def filter (taps : List (Int × Int)) (ip : Int) (lo hi : Nat) (get : Nat → Option Nat) : Option Nat :=
  (taps.foldl (fun (acc : Option Int) t =>
    match acc, get (max lo (min hi (ip + t.1).toNat)) with
    | some a, some v => some (a + t.2 * v)
    | _, _ => none) (some 0)).map (fun a => clamp (nearest a 1024))

/-- A value filtered in both directions: `hx`, `vx` are index and phase, the rectangles bound the crop in samples. -/
def filter2 (th tv : List (Int × Int)) (hx vx : Int) (x0 x1 y0 y1 : Nat) (get : Nat → Nat → Option Nat) : Option Nat :=
  if Config.verticalFirst then filter th hx x0 x1 (fun x => filter tv vx y0 y1 (fun y => get x y))
  else filter tv vx y0 y1 (fun y => filter th hx x0 x1 (fun x => get x y))

/-! The post-blend chain (R225). -/

/-- Table node: component `c`, node `i`. -/
def node (t c i : Nat) : Nat := t / 256 ^ (2 * (257 * c + i)) % 4096

/-- Degamma or gamma of one component. -/
def curve (t c x : Nat) : Nat :=
  let i := x / 16
  let len : Nat := if i = 255 then 15 else 16
  clamp (about ((node t c i : Int) * len + ((node t c (i + 1) : Int) - node t c i) * ((x - 16 * i : Nat) : Int)) len)

/-- 3D LUT value of output component `c` at node (r, g, b). -/
def lutNode (t c r g b : Nat) : Int := ((t / 256 ^ (6 * (289 * r + 17 * g + b) + 2 * c) % 65536 : Nat) : Int)

/-- Tetrahedral interpolation: the path from the cell's low corner to its high one, in falling order of the fractions. -/
def lut3 (t c : Nat) (p : Pix) : Nat :=
  let cell := fun (x : Nat) => min 15 (x / 256)
  let fr := fun (x : Nat) => (x - 256 * cell x) * (if cell x = 15 then 256 else 255)
  let (i, j, k) := (cell p.r, cell p.g, cell p.b)
  let n := fun (dr dg db : Nat) => lutNode t c (i + dr) (j + dg) (k + db)
  let (x, y, z) := (fr p.r, fr p.g, fr p.b)
  let one : Int := 65280
  let path := fun (f1 f2 f3 : Nat) (v1 v2 : Int) =>
    clamp (about (n 0 0 0 * (one - f1) + v1 * ((f1 : Int) - f2) + v2 * ((f2 : Int) - f3) + n 1 1 1 * f3) 65280)
  if y ≤ x ∧ z ≤ y then path x y z (n 1 0 0) (n 1 1 0)
  else if y ≤ x ∧ z ≤ x then path x z y (n 1 0 0) (n 1 0 1)
  else if y ≤ x then path z x y (n 0 0 1) (n 1 0 1)
  else if z ≤ x then path y x z (n 0 1 0) (n 1 1 0)
  else if z ≤ y then path y z x (n 0 1 0) (n 0 1 1)
  else path z y x (n 0 0 1) (n 0 1 1)

/-- Sunlight boost with k/255: x + (k / 255)(√x - x) in fractions of 4,095. -/
def boost (k x : Nat) : Nat :=
  let q := k * k * 4095 * x
  let m := (255 - k) * x + Nat.sqrt q
  if Nat.sqrt q * Nat.sqrt q = q then clamp (about m 255)
  else min 4095 (m / 255 + (if Config.roundUp (m : Int) 255 then 1 else 0))

/-- Night palette `j` of a set of matrices: output component `c`. -/
def night (m j c : Nat) (p : Pix) : Nat :=
  let e := fun (col : Nat) => toSigned 2 (m / 256 ^ (18 * j + 6 * c + 2 * col))
  if j = 0 then (if c = 0 then p.r else if c = 1 then p.g else p.b)
  else clamp (about (e 0 * p.r + e 1 * p.g + e 2 * p.b) 4096)

/-- Every component through a function of component number and value. -/
def each (f : Nat → Nat → Nat) (p : Pix) : Pix := ⟨p.a, f 0 p.r, f 1 p.g, f 2 p.b⟩

/-- The pixel word of three components at panel depth `d` (table Pixel word). -/
def word (d : Nat) (p : Pix) : Nat :=
  let c := fun (v : Nat) => min 4095 v / 2 ^ (12 - d) * 2 ^ (10 - d)
  c p.r * 2 ^ 20 + c p.g * 2 ^ 10 + c p.b

end Px

namespace State

/-- Unit and texel of a surface as Bunting reads them (R199, R200): raw texels, the two clear values, zero for a reserved code or a unit that does
not decode; a compressed unit's texels are open. None on a fault. -/
def surfTexel (s : State) (w root : Nat) (f : Surf) (x y : Nat) : Option Nat :=
  let off := f.offset x y 0 0 0
  let code := if f.meta' = 0 then some 0 else match s.gread w root (metaAt f off).1 1 with
    | .ok m => some (bits (leNat m) (metaAt f off).2 4)
    | .error _ => none
  match code with
  | none => none
  | some 0 => match s.gread w root (f.addr x y 0 0 0) f.bytes with
    | .ok b => some (leNat b)
    | .error _ => none
  | some 4 => some (f.clear0 % 256 ^ f.bytes)
  | some 5 => some (f.clear1 % 256 ^ f.bytes)
  | some c => if 6 ≤ c then some 0 else match s.gread w root (f.base + off / 256 * 256) 256 with
    | .ok b => some (if Config.unitDecodes c (b.take (64 * c)) then Config.unitTexel c (b.take (64 * c)) (off % 256) else 0)
    | .error _ => none

/-- A linear buffer of layer `l`'s format at offset `off` of its pool, as a surface (receivers and feeds; log 36). -/
def poolSurf (s : State) (n l off : Nat) : PixSrc :=
  let lf := s.reg (Obj.layerFormat n l)
  let (w, h) := (s.reg (Obj.layerSrcWidth n l), s.reg (Obj.layerSrcHeight n l))
  let pitch := w * (if lf = 0x10 then 1 else if lf = 0x11 ∨ lf = 3 then 2 else 4)
  let base := s.reg (Obj.layerPoolGsa n l) + off
  .surf (s.reg (Reg.poolWorld n l) - 1) 0 ⟨base, if 0x10 ≤ lf then base + pitch * h else 0, w, h, 1, 1, 1, (storedAs lf).headD 5, 1, pitch, 0, 0, 0⟩

/-- A surface shown: instance, ring and descriptor bytes as they were taken. -/
def shownSurf (s : State) (k : Nat) : PixSrc := match s.num k with
  | i :: r :: b => .surf (s.instWorld i) (s.reg (Reg.s1Root i r)) (surfOf (b.map (BitVec.ofNat 8)))
  | _ => .none

/-- Where layer `l` of head `n` takes its pixels from. -/
def pixSrc (s : State) (n l : Nat) : PixSrc :=
  let third := s.reg (Reg.poolSize n l) * frameBytes / 3
  let rx := s.reg (Obj.layerSourceRx n l)
  if s.reg (Obj.layerEnable n l) = 0 ∨ s.reg (Reg.layerTransparent n l) = 1 then .none
  else if Head.videoLayer s.reg n l ∧ rx ≠ 0xFF then
    (if s.reg (Reg.rxBlack rx) = 1 then .black
     else if s.reg (Reg.rxShown rx) = 0 then .none else s.poolSurf n l ((s.reg (Reg.rxShown rx) - 1) * third))
  else match (List.range 16).find? (fun f => s.reg (Obj.feedState f) != 0 && s.reg (Obj.feedHead f) == n && s.reg (Obj.feedLayer f) == l) with
    | some f => if s.reg (Reg.feedBlack f) = 1 then .black
      else if s.reg (Reg.feedShown f) = 0 then .none else s.poolSurf n l ((s.reg (Reg.feedShown f) - 1) * third)
    | none =>
      if l = 7 ∧ s.reg (Obj.flattenOn n) = 1 then (if s.reg (Reg.flatSurface n) = 0 then .none else s.shownSurf (Num.flatShown n))
      else if s.reg (Reg.layerSurface n l) = 0 then .none else s.shownSurf (Num.shown n l)

/-- Sample of a video plane: `chroma` none for luma, else 0 for Cb and 1 for Cr; widened to 12 bits (R220). -/
def yuvSample (s : State) (w root : Nat) (f : Surf) (wide : Bool) (chroma : Option Nat) (x y : Nat) : Option Nat :=
  let k := if wide then 2 else 1
  let a := match chroma with
    | none => f.base + y * f.pitch + x * k
    | some c => f.meta' + y * f.pitch + (2 * x + c) * k
  match s.gread w root a k with
  | .ok b => some (if wide then Px.widen 10 (leNat b / 64) else Px.widen 8 (leNat b))
  | .error _ => none

/-- The colour a layer shows at panel position (x, y) inside its destination (R218 to R224); none where it is transparent. -/
def layerPix (s : State) (n l x y : Nat) : Option Pix :=
  let lf := s.reg (Obj.layerFormat n l)
  let (cx, cy) := (s.reg (Obj.layerCropX n l), s.reg (Obj.layerCropY n l))
  let (cw, ch) := (s.reg (Obj.layerCropW n l), s.reg (Obj.layerCropH n l))
  let (dx, dy) := (s.reg (Obj.layerDstX n l), s.reg (Obj.layerDstY n l))
  let (dw, dh) := (s.reg (Obj.layerDstW n l), s.reg (Obj.layerDstH n l))
  if x < dx ∨ dx + dw ≤ x ∨ y < dy ∨ dy + dh ≤ y then none
  else match s.pixSrc n l with
    | .none => none
    | .black => some ⟨4095, 0, 0, 0⟩
    | .surf w root f =>
      if !Head.videoLayer s.reg n l then (s.surfTexel w root f (cx + x - dx) (cy + y - dy)).map (Px.ofTexel lf)
      else
        let q := s.reg (Obj.scalerQuality n)
        let (bh, bv) := (Px.band dw cw, Px.band dh ch)
        let (sh, sv) := (s.reg (Obj.coefH n bh), s.reg (Obj.coefV n bv))
        let go := fun (h v : Int × Nat) (x0 x1 y0 y1 : Nat) (get : Nat → Nat → Option Nat) =>
          Px.filter2 (Px.tapsH q sh bh h.2) (Px.tapsV q sv bv v.2) h.1 v.1 x0 x1 y0 y1 get
        let luma := go (Px.lumaAt cx (Px.step dw cw) (x - dx)) (Px.lumaAt cy (Px.step dh ch) (y - dy)) cx (cx + cw - 1) cy (cy + ch - 1)
        if lf < 0x10 then
          let part := fun (c : Pix → Nat) => luma (fun x y => (s.surfTexel w root f x y).map (fun v => c (Px.ofTexel lf v)))
          match part Pix.a, part Pix.r, part Pix.g, part Pix.b with
          | some a, some r, some g, some b => some ⟨a, r, g, b⟩
          | _, _, _, _ => none
        else
          let wide := lf == 0x11
          let chroma := fun (c : Nat) => go (Px.chromaAt false cx (Px.step dw cw) (x - dx)) (Px.chromaAt true cy (Px.step dh ch) (y - dy))
            (cx / 2) ((cx + cw - 1) / 2) (cy / 2) ((cy + ch - 1) / 2) (s.yuvSample w root f wide (some c))
          match luma (s.yuvSample w root f wide none), chroma 0, chroma 1 with
          | some yy, some cb, some cr => some (Px.ofYuv (s.reg (Obj.layerColourMatrix n l)) (if wide then 10 else 8) yy cb cr)
          | _, _, _ => none

/-- Tag of a layer's pixels (table Provenance tags): a flattened layer, a video layer, a graphic layer; the black of a lost feed counts as video (R469). -/
def layerTag (s : State) (n l : Nat) : Nat :=
  if l = 7 ∧ s.reg (Obj.flattenOn n) = 1 then 3 else if Head.videoLayer s.reg n l ∨ s.pixSrc n l = .black then 2 else 1

/-- The blended pixel of head `n` at (x, y) and its tag (R221, R251). -/
def blended (s : State) (n x y : Nat) : Pix × Nat :=
  let bg := s.reg (Obj.bgColour n)
  let order := (List.range 8).flatMap (fun z => (List.range 8).filter (fun l => s.reg (Obj.layerEnable n l) == 1 && s.reg (Obj.layerZOrder n l) == z))
  order.foldl (fun d l =>
    match s.layerPix n l x y with
    | none => d
    | some p =>
      let m := s.reg (Obj.layerBlendMode n l)
      let g := s.reg (Obj.layerGlobalAlpha n l)
      (⟨4095, Px.blend m g p.a p.r d.1.r, Px.blend m g p.a p.g d.1.g, Px.blend m g p.a p.b d.1.b⟩, if Px.shows m g p.a then s.layerTag n l else d.2))
    (⟨4095, Px.widen 10 (bits bg 20 10), Px.widen 10 (bits bg 10 10), Px.widen 10 (bits bg 0 10)⟩, 0)

/-- The post-blend chain (R225) up to dithering; the pixel at panel depth as the word of R288. -/
def chain (s : State) (n x y : Nat) (p : Pix) : Nat :=
  let on := fun (b : Nat) => bit (s.reg (Obj.chainEnable n)) b
  let p := if on 0 then Px.each (Px.curve (s.reg (Obj.degammaLut n))) p else p
  let p := if on 1 then Px.each (fun c _ => Px.lut3 (s.reg (Obj.lut3d n)) c p) p else p
  let p := if on 2 then Px.each (fun _ v => Px.boost (s.reg (Obj.sunBoost n)) v) p else p
  let p := if on 3 then Px.each (fun c _ => Px.night (s.reg (Obj.nightMatrices n)) (s.reg (Obj.nightPalette n)) c p) p else p
  let gain := s.reg (Obj.dimTable n) / 256 ^ (8 * s.reg (Obj.dimLevel n) + 4) % 65536
  let p := Px.each (fun _ v => Px.clamp (Px.about ((v * gain : Nat) : Int) 4096)) p
  let p := if on 4 then Px.each (Px.curve (s.reg (Obj.gammaLut n))) p else p
  let d := s.reg (Obj.panelDepth n)
  let mode := s.reg (Obj.ditherMode n)
  let off := if mode = 0 then 0 else Config.ditherOffset (x % 4) (y % 4) (if mode = 2 then s.reg (Obj.headFrame n) % 4 else 0) % 2 ^ (12 - d)
  Px.word d (Px.each (fun _ v => v + off) p)

/-- The Ensign overlay at (x, y): palette word and tag of the region there (R243, R251). A head that still waits for a new package shows what
its regions held before. -/
def overlay (s : State) (n x y : Nat) : Option (Nat × Nat) :=
  match (List.range 16).find? (fun k => s.reg (Obj.regionUsed n k) == 1 && decide (s.reg (Obj.regionX n k) ≤ x) && decide (s.reg (Obj.regionY n k) ≤ y)
      && decide (x < s.reg (Obj.regionX n k) + s.reg (Obj.regionW n k)) && decide (y < s.reg (Obj.regionY n k) + s.reg (Obj.regionH n k))) with
  | none => none
  | some k =>
    let at' := (y - s.reg (Obj.regionY n k)) * s.reg (Obj.regionW n k) + (x - s.reg (Obj.regionX n k))
    let old := s.reg Obj.packageState == 3 && s.reg (Reg.pkgDue n) == 1
    let idx := if old then (s.num (Num.regionHeld n k)).getD at' 0
      else match s.buffer n k (s.reg (Reg.regionFront n k)) with
        | some (a, _, _) => (s.byte (a + at')).toNat
        | none => 0
    match (if old then s.activePkg else s.drawPkg) with
    | none => none
    | some p => some (sigWord (p.palettes.getD (256 * s.reg (Obj.ensignSet n) + idx) 0) (s.reg (Obj.panelDepth n)),
        if s.reg (Reg.regionFrontFrom n k) = 0 then 4 else 5)

/-- The pixel word that head `n` sends at panel position (x, y), and its tag (R218, R241, R251, R288). -/
def sentPixel (s : State) (n x y : Nat) : Nat × Nat :=
  match s.overlay n x y with
  | some w => w
  | none =>
    if s.reg (Obj.headBlanked n) ≠ 0 then (0, 7)
    else match s.blended n x y with
      | (p, t) => (s.chain n x y p, t)

/-- Pixels of signature region `k` in raster order (R287): column, row. -/
def sigPixels (s : State) (n k : Nat) : List (Nat × Nat) :=
  let e := s.isEnsign n k
  let x := s.reg (if e then Obj.regionX n k else Obj.sigX n k)
  let y := s.reg (if e then Obj.regionY n k else Obj.sigY n k)
  let w := s.reg (if e then Obj.regionW n k else Obj.sigW n k)
  let h := s.reg (if e then Obj.regionH n k else Obj.sigH n k)
  (List.range h).flatMap (fun j => (List.range w).map (fun i => (x + i, y + j)))

/-- Tags a region may hold, as a mask (R292). -/
def sigTags (s : State) (n k : Nat) : Nat :=
  if s.isEnsign n k then (if s.reg (Reg.regionFrontFrom n k) = 0 then 0x10 else 0x20) else s.reg (Obj.sigTagMask n k)

/-- Signature and provenance count of region `k` over the pixels the head sends (R288, R292). -/
def sigValues (s : State) (n k : Nat) : Nat × Nat :=
  let px := (s.sigPixels n k).map (fun q => s.sentPixel n q.1 q.2)
  (crc32 (px.flatMap (fun q => leBytes 4 q.1)), px.countP (fun q => !bit (s.sigTags n k) q.2))

end State
end Sys2Proof.Machine
end

