-- ==== Sys2Proof/Machine/Ensign.lean ====
section
/-!
DEFINITION. Machine/Ensign.lean: the commands of the Ensign plane (R242 to R250), content packages (R246) and the integrity checker (R287 to R302).
-/
namespace Sys2Proof.Machine

/-! Parts of the Ensign commands. -/
namespace Ens

/-- The runtime's counts, choices and outputs follow the states of its pages. -/
def settle (s : State) (p : EnsPkg) : State := ((s.ensCounts p).regionsChoose).outsStep

/-- Drawing in a region whose page has not changed draws the page shown again. -/
def redraw (s : State) (n k : Nat) : State :=
  if s.reg (Reg.regionBackPage n k) ≠ 0 then s
  else s.setRegs [(Reg.regionBackPage n k, s.reg (Obj.pageShown n k) + 1), (Reg.regionBackFrom n k, s.reg (Reg.regionFrontFrom n k))]

/-- A drawing operation in the back buffer of a region of the package drawn. -/
def paint (s : State) (n k x y w h : Nat) (f : Nat → Nat → Byte) : State :=
  match s.backBuffer n k with
  | none => s
  | some (_, bw, bh) => if !s.ensRuns ∨ bw < x + w ∨ bh < y + h then s else (redraw s n k).drawRect n k x y w h f

/-- The region in which an acknowledge source acts: its own, or the FallbackRegion of the head that shows its region's pages (R301). -/
def ackRegion (s : State) (a : EnsAck) : Nat × Nat :=
  let c := s.reg (Reg.carrier a.head a.region)
  if c ≠ 0 ∧ s.reg (Reg.carryShown a.head a.region) = 1 then (c - 1, s.reg (Obj.fallbackRegion (c - 1))) else (a.head, a.region)

/-- Effects that an acknowledge source plays for the Ensign world (R337): group, channel, effect, strength, duration scale. -/
def ackPlays (s : State) (l : List (Nat × Nat × Nat × Nat × Nat)) : State :=
  l.foldl (fun s q => if 2 < q.1 ∨ 7 < q.2.1 then s else (s.hapPlay q.1 q.2.1 1 2 q.2.2.1 q.2.2.2.1 q.2.2.2.2).1) s

/-- PackageState without a staged package. -/
def restState (s : State) : Nat := if s.activePkg.isSome then 1 else 0

/-- End a PackageOp with its status and detail. -/
def opDone (s : State) (st detail : Nat) : State := (s.setRegs [(Obj.packageStatus, st), (Obj.packageDetail, detail)]).reply st

/-- A package names a head that is off in hold-up (R447). -/
def pkgHeld (s : State) (p : EnsPkg) : Bool := p.regions.any (fun r => s.holdupStopped (U.head r.head))

/-- Load a verified package (R246): world 1's blocks are recalled, what every region shows is held for the switch, the package is measured (R396), its assets enter the Ensign SRAM, every region is to
be drawn with its default page, and every head waits for its commit line; a head that is off switches at once. -/
def load (s : State) (p : EnsPkg) : State :=
  let s := (s.heldBlocks 1).foldl (fun s h => if s.recallStatus h true = St.ok ∧ s.reg (Reg.blockState h) = 0 then s.startRecall h 1 (s.reg Obj.graceMs) else s) s
  let s := (List.range 128).foldl (fun s x => match s.buffer (x / 16) (x % 16) (s.reg (Reg.regionFront (x / 16) (x % 16))) with
    | some (a, w, h) => s.setNum (Num.regionHeld (x / 16) (x % 16)) ((s.readBytes a (w * h)).map BitVec.toNat)
    | none => s) s
  let s := (s.measure 3 (decDomain (s.reg Obj.packageStage))).setReg Reg.pkgImage (s.reg Obj.packageStage)
  let s := State.setReg { s with nextPkg := some p, stagedPkg := none } Obj.packageState 3
  let s := s.writeBytes s.assetBase p.assetData
  let s := p.regions.foldl (fun s r => s.setRegs [(Reg.regionBackPage r.head r.region, r.page + 1), (Reg.regionBackFrom r.head r.region, 0),
    (Reg.regionSigned r.head r.region, 0)]) s
  let s := (List.range 8).foldl (fun s n => if s.reg (Obj.portMode n) = 3 then s.pkgTake p n else s.setReg (Reg.pkgDue n) 1) s
  s.pkgFinish

/-- Failure of an Ensign region's check: the region becomes FAILED with an alarm. -/
def fail (s : State) (n k st crc other : Nat) : State := (s.integrityEvent n k st 4 crc other).regionLost n k 3

/-- A sampled frame whose signature differs (R296). A mismatch in PROBATION returns the region to FAILED, its pages still taken over (log 18). -/
def mismatch (s : State) (n k crc exp : Nat) : State :=
  let st := s.reg (Obj.sigRegionCheck n k)
  let c := s.reg (Reg.sigCount n k) + 1
  let s := (s.bump (Obj.sigMismatches n k) 32).count (345 + 4 * n) 1
  if st = 3 ∨ st = 4 then s
  else if s.reg Obj.mismatchFrames ≤ c then fail s n k St.regionFailed crc exp
  else if st = 5 then (s.setRegs [(Obj.sigRegionCheck n k, 3), (Reg.sigPass n k, 0), (Reg.sigCount n k, c)]).integrityEvent n k St.sigMismatch 2 crc exp
  else (redraw ((s.setRegs [(Obj.sigRegionCheck n k, 2), (Reg.sigCount n k, c)]).integrityEvent n k St.sigMismatch 2 crc exp) n k).setReg
    (Reg.regionSigned n k) 0

/-- A passing sampled frame (R296, R297, R301). -/
def pass (s : State) (n k crc exp : Nat) : State :=
  let st := s.reg (Obj.sigRegionCheck n k)
  let s := s.setReg (Reg.sigCount n k) 0
  if st ≤ 2 then s.setReg (Obj.sigRegionCheck n k) 1
  else
    let c := if st = 5 then s.reg (Reg.sigPass n k) + 1 else 1
    if s.reg Obj.returnFrames ≤ c then
      ((s.setRegs [(Obj.sigRegionCheck n k, 1), (Reg.sigPass n k, 0), (Reg.sigSeen n k, 0), (Reg.sigFrozenAt n k, 0)]).integrityEvent n k
        St.regionRestored 1 crc exp).regionBack n k
    else s.setRegs [(Obj.sigRegionCheck n k, 5), (Reg.sigPass n k, c)]

/-- The freeze window of a region in ms; 0 where it is not live (R294). -/
def window (s : State) (n k : Nat) : Nat :=
  let kind := s.reg (Obj.sigRegionKind n k)
  if kind = 2 then (if s.reg (Obj.regionLive n k) = 1 then s.reg (Reg.sigFreeze n k) else 0)
  else if kind = 1 then s.reg (Obj.sigLiveWindowMs n k) else 0

/-- Freeze detection runs on a region (R295). -/
def watching (s : State) (n k : Nat) : Bool :=
  window s n k != 0 && (s.reg (Obj.sigRegionKind n k) == 1
    || (s.reg Obj.packageState != 3 && (s.reg (Obj.sigRegionCheck n k) == 1 || s.reg (Obj.sigRegionCheck n k) == 2)))

/-- Freeze detection takes note of a sampled frame (R294, R295). -/
def track (s : State) (n k crc : Nat) : State :=
  let s := s.setReg (Reg.sigLastAt n k) s.now
  let moved := crc != s.reg (Reg.sigFirst n k)
  let s := if moved then s.setReg (Reg.sigFrozenAt n k) 0 else s
  if !watching s n k then s.setRegs [(Reg.sigSeen n k, 0), (Reg.sigFirst n k, crc)]
  else if s.reg (Reg.sigSeen n k) = 0 ∨ moved then s.setRegs [(Reg.sigSeen n k, 1), (Reg.sigFirst n k, crc), (Reg.sigWindow n k, s.now)]
  else s

/-- Heads that have a live Ensign region which is sent. -/
def liveHeads (s : State) : List Nat := ((s.liveRegions.filter (fun x => s.reg (Obj.sigRegionCheck x.1 x.2) != 4)).map Prod.fst).dedup

/-- Every head with a live region has one found frozen within a freeze window of `w` ms (R296); a single head is a freeze on one head only. -/
def stallNow (s : State) (w : Nat) : Bool :=
  let hs := liveHeads s
  decide (1 < hs.length) && hs.all (fun m => s.liveRegions.any (fun x => x.1 == m && s.reg (Reg.sigFrozenAt x.1 x.2) != 0
    && decide (s.now ≤ s.reg (Reg.sigFrozenAt x.1 x.2) - 1 + 1000000 * w)))

end Ens

namespace Ens

/-- Bring what the bindings read up to the present instant (R247): counters (R476), and objects whose value the spec leaves to the moment (log 33). -/
def bindSync (s : State) (p : EnsPkg) : State :=
  (p.bindings.flatMap (fun b => okey b.idx b.sub :: (b.valid.map (fun v => okey v.1 v.2)).toList)).foldl (fun s key =>
    let idx := key / 256
    if 0x7800 ≤ idx ∧ idx < 0x7806 then s.counterSync (128 * (idx - 0x7800) + key % 256 - 1)
    else if key = Obj.inputPowerMw ∨ key = Obj.settingsUsedKiB then s.tick.setReg key (s.fresh % 2 ^ 32)
    else s) s

end Ens

/-- ENSIGN_PERIOD (R41, R247 to R250): the runtime reads its bindings, evaluates its pages, drives its outputs; the period boundary of /fj/ens. -/
def execEnsignPeriod (s : State) : Host.Outcome State Fault Refusal :=
  s.whenUp (fun s =>
    .next (if !s.ensRuns then s
      else
        let s := (s.setReg Reg.ensPeriodMissed 0).boundary (0x1000 + U.ens)
        match s.activePkg with
        | none => s
        | some p =>
          let s := p.bindings.zipIdx.foldl (fun s x => s.bindStep p x) (Ens.bindSync s p)
          Ens.settle (p.pages.foldl (fun s g => s.pageStep p g) s) p))

/-- ENSIGN_ACKNOWLEDGE (R248, R249, R301, R302): acknowledge source `src` of the active package acts on the page shown in its region. An acknowledge by
a discrete input stops the backup tone. -/
def execEnsignAcknowledge (src : Nat) (plays : List (Nat × Nat × Nat × Nat × Nat)) (s : State) : Host.Outcome State Fault Refusal :=
  s.whenUp (fun s =>
    .next (match s.activePkg with
      | none => s
      | some p => match p.acks[src]? with
        | none => s
        | some a =>
          if !s.ensRuns then s
          else
            let s := Ens.ackPlays s plays
            let nk := Ens.ackRegion s a
            match State.pkgPage p (s.reg (Obj.pageShown nk.1 nk.2)) with
            | none => s
            | some g =>
              let s := s.pageAck p src g
              Ens.settle (if a.input ≠ 0xFF then s.setReg Reg.backupTone 0 else s) p))

/-- FLASH_HALF_CYCLE (R250): flashing outputs follow the hoist time. -/
def execFlashHalfCycle (s : State) : Host.Outcome State Fault Refusal :=
  s.whenUp (fun s =>
    .next s.outsStep)

/-- LAMP_TEST_INPUT_CHANGE (R250): lamp-test input DIOo is asserted (1) or released (0). -/
def execLampTestInputChange (o on : Nat) (s : State) : Host.Outcome State Fault Refusal :=
  s.whenUp (fun s =>
    .next (if 31 < o then s else (s.setReg (Reg.lampOn o) (b2n (on != 0))).outsStep))

/-- ENSIGN_FILL (R244): a rectangle of a back buffer is set to one index. -/
def execEnsignFill (n k x y w h idx : Nat) (s : State) : Host.Outcome State Fault Refusal :=
  s.whenUp (fun s =>
    .next (Ens.paint s n k x y w h (fun _ _ => BitVec.ofNat 8 idx)))

/-- ENSIGN_BLIT (R244): a rectangle copied from the assets at `src` with rows `stride` apart; `remap` maps indices where it has 256 entries. -/
def execEnsignBlit (n k x y w h src stride : Nat) (remap : List Byte) (s : State) : Host.Outcome State Fault Refusal :=
  s.whenUp (fun s =>
    .next (
      let a := s.assetBase
      Ens.paint s n k x y w h (fun i j =>
        let b := s.byte (a + src + j * stride + i)
        if remap.length = 256 then remap.getD b.toNat 0 else b)))

/-- ENSIGN_GLYPH (R244): a glyph of 1 bit per pixel in the assets at `off`, rows of whole bytes, most significant bit first, drawn as foreground and
background. -/
def execEnsignGlyph (n k x y w h off fg bg : Nat) (s : State) : Host.Outcome State Fault Refusal :=
  s.whenUp (fun s =>
    .next (
      let a := s.assetBase
      Ens.paint s n k x y w h (fun i j =>
        BitVec.ofNat 8 (if (s.byte (a + off + j * ((w + 7) / 8) + i / 8)).toNat.testBit (7 - i % 8) then fg else bg))))

/-- ENSIGN_SIGN (R245, R272, R291): the expected signatures of a region's back buffer, and of its front buffer where that is to be signed again. -/
def execEnsignSign (n k : Nat) (s : State) : Host.Outcome State Fault Refusal :=
  s.whenUp (fun s =>
    .next (if !s.ensRuns ∨ (s.backBuffer n k).isNone then s
      else
        let f := s.reg (Reg.regionFront n k)
        let s := if s.reg (Reg.regionResign n k) = 1 then (s.setNum (Num.sigExp n k f) (s.signBuffer n k f)).setReg (Reg.regionResign n k) 0 else s
        (((s.setNum (Num.sigExp n k (1 - f)) (s.signBuffer n k (1 - f))).setRegs [(Reg.regionSigned n k, 1), (Reg.regionDrawn n k, s.now)]).wakeLink n)))

/-- PACKAGE_VERIFY (R246, R391, R392, R447): `pkg` is what the sections of the staged package hold. -/
def execPackageVerify (n : Nat) (pkg : EnsPkg) (s : State) : Host.Outcome State Fault Refusal :=
  s.whenUp (fun s =>
    .next (s.gated n Obj.packageOp (fun s =>
      if s.reg Obj.packageState = 3 then s.reply St.busy
      else if Ens.pkgHeld s pkg then s.reply St.pwrHoldup
      else match State.pkgVerify s pkg with
        | some (st, sec, r) => Ens.opDone ({ s with stagedPkg := none }.setReg Obj.packageState (Ens.restState s)) st (sec * 0x10000 + r % 0x10000)
        | none => Ens.opDone ({ s with stagedPkg := some pkg }.setReg Obj.packageState 2) St.ok 0)))

/-- PACKAGE_ACTIVATE (R246, R447, R502). -/
def execPackageActivate (n : Nat) (s : State) : Host.Outcome State Fault Refusal :=
  s.whenUp (fun s =>
    .next (s.gated n Obj.packageOp (fun s =>
      if s.reg Obj.packageState = 3 then s.reply St.busy
      else match s.stagedPkg with
        | none => Ens.opDone s St.ensPackageFormat 0
        | some p =>
          if Ens.pkgHeld s p then s.reply St.pwrHoldup
          else if State.pkgInputClash s p then s.reply St.valueRange
          else Ens.opDone (Ens.load s p) St.ok 0)))

/-- PACKAGE_DISCARD (R246). -/
def execPackageDiscard (n : Nat) (s : State) : Host.Outcome State Fault Refusal :=
  s.whenUp (fun s =>
    .next (s.gated n Obj.packageOp (fun s =>
      if s.reg Obj.packageState = 3 then s.reply St.busy
      else Ens.opDone ({ s with stagedPkg := none }.setReg Obj.packageState (Ens.restState s)) St.ok 0)))

/-- SIGNATURE_SAMPLE (R287 to R297): the signature and provenance count of region `k` of head `n` in one frame. They are those of the pixels the head
sends (`seen` none), or what the unit found where a fault of the hardware, or of a fetch within the frame, altered them. `sent` says whether
a head in Stratus mode sent every line of the region. -/
def execSignatureSample (n k : Nat) (seen : Option (Nat × Nat)) (sent : Bool) (s : State) : Host.Outcome State Fault Refusal :=
  s.whenUp (fun s =>
    .next (
      let kind := s.reg (Obj.sigRegionKind n k)
      if 7 < n ∨ 15 < k ∨ kind = 0 ∨ !s.headLit n ∨ !s.regionSent n k ∨ (s.reg (Obj.stratusState n) = 2 ∧ !sent) then s
      else
        let v := seen.getD (s.sigValues n k)
        let crc := v.1
        let prov := if kind = 1 ∧ s.reg (Obj.sigTagMask n k) = 0xFF then 0 else v.2
        let s := s.setRegs [(Obj.sigLastCrc n k, crc), (Obj.sigLastFrame n k, s.reg (Obj.headFrame n)), (Obj.sigProvCount n k, prov)]
        let s := (s.count (344 + 4 * n) 1).count (346 + 4 * n) prov
        if kind = 1 then
          let bad := s.reg (Obj.sigExpectedOn n k) == 1 && crc != s.reg (Obj.sigExpectedCrc n k)
          let s := if bad then (s.bump (Obj.sigMismatches n k) 32).count (345 + 4 * n) 1 else s
          let s := if (bad ∨ prov ≠ 0) ∧ (s.reg (Reg.sigOwnerEv n k) = 0 ∨ s.reg (Reg.sigOwnerEv n k) - 1 + 1000000000 ≤ s.now) then
              (s.setReg (Reg.sigOwnerEv n k) (s.now + 1)).integrityEvent n k St.ownerMismatch 2 crc (if prov = 0 then s.reg (Obj.sigExpectedCrc n k) else prov)
            else s
          Ens.track s n k crc
        else
          let exp := (s.num (Num.sigExp n k (s.reg (Reg.regionFront n k)))).getD (s.reg (Obj.ensignSet n)) 0
          let s := if prov ≠ 0 then (if s.reg (Obj.sigRegionCheck n k) = 3 then s else Ens.fail s n k St.provViolation crc prov)
            else if s.reg (Reg.regionResign n k) = 1 then s
            else if crc ≠ exp then Ens.mismatch s n k crc exp
            else Ens.pass s n k crc exp
          Ens.track s n k crc))

/-- FREEZE_WINDOW_EXPIRY (R294 to R296, R381): the freeze window of a region has passed with one signature in every sampled frame, and at least one. -/
def execFreezeWindowExpiry (n k : Nat) (s : State) : Host.Outcome State Fault Refusal :=
  s.whenUp (fun s =>
    .next (
      let w := Ens.window s n k
      let crc := s.reg (Obj.sigLastCrc n k)
      if !Ens.watching s n k ∨ s.reg (Reg.sigSeen n k) = 0 ∨ s.reg (Reg.sigFrozenAt n k) ≠ 0 ∨ s.now < s.reg (Reg.sigWindow n k) + 1000000 * w
          ∨ s.reg (Reg.sigLastAt n k) + 1000000 * w < s.now then s
      else
        let s := s.setReg (Reg.sigFrozenAt n k) (s.now + 1)
        if s.reg (Obj.sigRegionKind n k) = 1 then s.integrityEvent n k St.ownerFrozen 2 crc (s.reg (Obj.sigExpectedCrc n k))
        else if Ens.stallNow s w then
          let s := (s.integrityEvent n k St.ensignStalled 4 crc crc).setRegs [(Obj.sigRegionCheck n k, 3), (Reg.sigPass n k, 0), (Reg.sigCount n k, 0),
            (Reg.sigSeen n k, 0), (Reg.stalled, 1), (Reg.backupTone, 1)]
          s.alarmAssert.pairRestart
        else Ens.fail s n k St.regionFrozen crc crc))

end Sys2Proof.Machine
end

