-- ==== Sys2Proof/Machine/Export.lean ====
section
/-!
DEFINITION. Machine/Export.lean: the reset of a unit by its parent (R430, R435 to R437), the drain of the journal's tail (R426) and journal exports (R440).
-/
namespace Sys2Proof.Machine

namespace Jnl

/-- The 64 bytes of a journal record as stored (table Journal record). -/
def recBytes (r : JRec) : Bytes :=
  let b := record [(6, r.seq), (1, r.typ), (1, b2n r.tail + 2 * b2n r.live), (8, r.time), (2, r.unit), (1, r.world), (1, r.inst)] ++ padTo 40 r.body
  b ++ leBytes 4 (crc32 b)

/-- SEQ of the oldest record held. -/
def oldest (s : State) : Nat := match s.journal.getLast? with
  | some r => r.seq
  | none => s.reg Obj.jnlNextSeq

/-- World whose records session `n` exports: its own for a GST session, 0xFF for all. -/
def filter (s : State) (n : Nat) : Nat := if s.cls n = Cls.gst then s.reg (Reg.sessWorld n) else 0xFF

/-- Records of an export in SEQ order. -/
def chosen (s : State) (n : Nat) : List JRec :=
  (s.journal.reverse.filter (fun (r : JRec) => decide (s.reg (skey n Obj.exportFromSeq) ≤ r.seq) && (filter s n == 0xFF || r.world == filter s n))).take
    (s.reg (skey n Obj.exportCount))

/-- The export of session `n` without its signature (table Export layout). -/
def body (s : State) (n : Nat) : Bytes :=
  let rs := chosen s n
  let first := match rs with
    | r :: _ => r.seq
    | [] => s.reg (skey n Obj.exportFromSeq)
  record [(4, 0x4C4A4A46), (2, 1), (1, filter s n), (1, 0), (8, s.reg Obj.unitSerial), (8, first), (4, rs.length), (8, s.now), (28, 0)] ++ rs.flatMap recBytes

/-- Set ExportStatus and answer with it. -/
def answer (s : State) (n st : Nat) : State := (s.setReg (skey n Obj.exportStatus) st).reply st

/-- ExportOp 1 (R440). -/
def exportBuild (s : State) (n : Nat) : State :=
  let from' := s.reg (skey n Obj.exportFromSeq)
  if from' < oldest s ∨ s.reg Obj.jnlNextSeq < from' then answer s n St.jnlExportRange
  else if s.signStatus ≠ St.ok then answer s n s.signStatus
  else
    let b := body s n
    match s.identitySign b with
    | (g, s) => answer (s.setReg (skey n Obj.exportData) (encDomain (b ++ g))) n St.ok

/-- The record of an item is among the corrupt ones. -/
def lost (v : List Nat) (t : Item) : Bool := v.contains t.seq

/-- Raise JNL_RECORD_CORRUPT for each record held whose CRC fails, and skip it (R429). -/
def corrupt (s : State) (v : List Nat) : State :=
  (v.filter (fun q => s.journal.any (fun (r : JRec) => r.seq == q))).foldl
    (fun (s : State) q => s.raise [.hal, .owner] U.jnl St.jnlRecordCorrupt 0xFF 3 [(6, q)]) s

/-- Settings of a unit return to their Defaults (R437): both copies have failed. -/
def settingsLost (s : State) (h : Nat) : State :=
  let s := { s with regs := s.regs.filter (fun p => !(State.objOf h p.1 && isSetting p.1)) }
  s.raise [.hal, .owner] U.jnl St.jnlSettingsLost 0xFF 3 [(2, h)]

/-- An item of a unit: an item of a haptic group is that of the channel it plays on. -/
def ofUnit (h : Nat) (t : Item) : Bool := t.unit == h

/-- Reset of unit `h` by its parent (R430): settings, shadow, items; then the unit begins anew. -/
def unitReset (s : State) (h : Nat) (copyOk : Bool) (v : List Nat) : State :=
  let s := if copyOk then s else settingsLost s h
  let s := corrupt (s.unitRestarted h) v
  let s := (s.items.filter (ofUnit h)).foldl (fun (s : State) t => s.itemReturn t (lost v t) 1) s
  if unitType h = 0x0050 then ((s.touchStop (h - 0x52)).blockStart h)
  else if unitType h = 0x0059 then ((s.hapHalt (State.hapOf h).1 (State.hapOf h).2).blockStart h)
  else s

end Jnl

/-- UNIT_RESET (R429, R430, R434 to R437): the parent of unit `h` resets it. `copyOk` a copy of its settings passes its CRC; `v` SEQ of the records whose
CRC fails. -/
def execUnitReset (h : Nat) (copyOk : Bool) (v : List Nat) (s : State) : Host.Outcome State Fault Refusal :=
  s.whenUp (fun s =>
    .next (if !s.unitThere h ∨ s.reg (Reg.unitState h) = 0 ∨ s.reg (Reg.unitState h) = 5 then s else Jnl.unitReset s h copyOk v))

/-- JOURNAL_DRAIN (R426, R488): MRAM has accepted `k` bytes of the tail. -/
def execJournalDrain (k : Nat) (s : State) : Host.Outcome State Fault Refusal :=
  .next (s.setReg Obj.jnlTailBytes (s.reg Obj.jnlTailBytes - k)).jnlNear

/-- EXPORT_BUILD (R440): ExportOp 1 of session `n`. -/
def execExportBuild (n : Nat) (s : State) : Host.Outcome State Fault Refusal :=
  s.whenUp (fun s =>
    .next (s.written n Obj.exportOp [1] (fun s => Jnl.exportBuild s n)))

end Sys2Proof.Machine
end

