-- ==== Sys2Proof/Machine/Haptics.lean ====
section
/-!
DEFINITION. Machine/Haptics.lean: the commands of the haptic groups (chapter 13).
-/
namespace Sys2Proof.Machine

namespace Hap

/-- Carry out a ring 6 packet on a channel: a channel the world does not hold is skipped with NOT_OWNER; a refusal arrives as an event; the ring goes
on (R326, R333). -/
def ringOp (i op : Nat) (e str d : Nat → Nat) (s : State) : State :=
  s.onPacket i 6 op (fun s p =>
    let x := p.word 0
    let ch := x % 256
    let w := s.instWorld i
    if 23 < ch ∨ (op = 0x61 ∧ x / 256 ≠ 0) then s.stopRing i 6 St.touchPacketInvalid
    else
      let g := ch / 8
      let c := ch % 8
      let h := U.hapChannel g c
      if !s.holdsBlock w h then (s.raise [.inst i] h St.notOwner w 2 [(1, ch)]).ringDone i 6 p
      else if !s.mayTake true then
        if s.jnlFull then (s.raise [.inst i] h St.limitReached w 2 [(1, ch)]).ringDone i 6 p else s.jnlWait true true
      else
        let seq := s.jnlSeq
        let s := s.itemAccept h w i 6 (s.reg (Reg.ringRptr i 6)) op classD 0 []
        let (s, st) := s.hapPlay g c 3 (w + 1) (e x) (str x) (d x)
        let s :=
          if st = St.ok ∧ e x ≠ 0 then s.setReg (Reg.hapItem g c) (seq + 1)
          else s.itemEndSeq seq st
        let s := if st = St.ok then s else s.raise [.inst i] h st w 2 [(1, ch), (1, e x)]
        s.ringDone i 6 p)

/-- Source rank, world plus 1 and status of a PlayEffect write (R333, R334): the Ensign runtime plays on any channel, a guest on a channel it holds,
the owner while Halyard holds the channel. -/
def source (s : State) (n g c : Nat) : Nat × Nat × Nat :=
  let hold := s.reg (Reg.blockHolder (U.hapChannel g c))
  if s.cls n = Cls.ens then (1, 2, St.ok)
  else if s.cls n = Cls.gst then (4, s.reg (Reg.sessWorld n) + 1, St.ok)
  else if hold = 0 ∨ s.cls n = Cls.hal then (4, 0, St.ok)
  else (4, 0, St.notOwner)

/-- Set the target of a segment's drive: 100 V while boosting, free values under the loop's gains (log 20), clamped to ±100 V. -/
def drive (s : State) (g c : Nat) (mv : Int) : State := (s.setReg (Reg.hapDrive g c) (ofSigned 4 mv)).emit (.pin (U.hapChannel g c) 0 (ofSigned 4 mv))

/-- One loop period inside a drive segment that began at `st` (R329). Once the boost of its rise is over it does not come back. -/
def inSegment (s : State) (g c t st a : Nat) : State :=
  let target := s.hapTarget g c t
  let boost := s.reg (Reg.hapRisen g c) != st + 1 && decide (t - st < 1000000 * s.hapField g c 2) && (!s.hapClosed g c || decide (a * 10 < 9 * target))
  let v : Int := if boost then 100000 else (s.tick.fresh % 200001 : Nat) - 100000
  let hit := boost || decide (v = 100000) || decide (v = -100000)
  let s := if boost then s.tick else (s.tick.tick).setRegs [(Reg.hapInt g c, s.tick.fresh), (Reg.hapRisen g c, st + 1)]
  let s := if hit && decide (a < target) then s.bump (Obj.hapChSaturations g c) 32 else s
  drive (s.setReg (Obj.hapChChannelState g c) 1) g c v

/-- One loop period after segment number `k` ended at `e`: braking until the sensed envelope is below 5 % of the peak target, or BrakeMs has passed; in
open loop BrakeMs alone (R329). -/
def afterSegment (s : State) (g c t k e a : Nat) : State :=
  if k < s.reg (Reg.hapBraked g c) then drive s g c 0
  else if e + 1000000 * s.hapField g c 3 ≤ t ∨ (s.hapClosed g c ∧ a * 20 < s.hapPeak g c) then drive (s.setReg (Reg.hapBraked g c) (k + 1)) g c 0
  else drive ((s.tick).setReg (Obj.hapChChannelState g c) 2) g c ((s.fresh % 200001 : Nat) - 100000)

/-- The group's power (R339): above 6 W the targets are scaled in proportion. -/
def power (s : State) (g mw : Nat) : State :=
  let s := s.setReg (Obj.hapGroupPowerMw g) mw
  if mw ≤ 6000 then s.setRegs [(Reg.hapLimited g, 0), (Reg.hapPower g, 0)]
  else
    let tell := s.reg (Reg.hapLimited g) == 0
    let s := s.setRegs [(Reg.hapLimited g, 1), (Reg.hapPower g, 6000 * 1000000 / mw + 1)]
    if tell then s.hapGroupEvent g St.powerLimited 1 [(4, mw)] else s

/-- A group's high voltage comes on and its start begins (R327, R339). -/
def restart (s : State) (g : Nat) : State := (s.setRegs [(Obj.hapHvState g, 1), (Reg.hapRetry g, 0)]).hapGroupStart g

end Hap

/-- HAPTIC_PLAY (R326, R333, R334): a ring 6 packet plays an effect. -/
def execHapticPlay (i : Nat) (s : State) : Host.Outcome State Fault Refusal :=
  s.whenUp (fun s =>
    .next (Hap.ringOp i 0x60 (fun x => bits x 8 8) (fun x => bits x 16 8) (fun x => bits x 24 8) s))

/-- HAPTIC_STOP (R326, R333): a ring 6 packet stops a channel with braking. -/
def execHapticStop (i : Nat) (s : State) : Host.Outcome State Fault Refusal :=
  s.whenUp (fun s =>
    .next (Hap.ringOp i 0x61 (fun _ => 0) (fun _ => 0) (fun _ => 0) s))

/-- PLAY_EFFECT (R333, R334, R337): a write of PlayEffect; its fourth byte is zero. -/
def execPlayEffect (n g c : Nat) (d : List Byte) (s : State) : Host.Outcome State Fault Refusal :=
  s.whenUp (fun s =>
    .next (if 2 < g ∨ 7 < c then s
      else s.request n 2 (Obj.hapChPlayEffect g c) (fun s =>
        let st := s.writeStatus n (Obj.hapChPlayEffect g c) d
        let (src, w, own) := Hap.source s n g c
        if st ≠ St.ok then s.reply st
        else if own ≠ St.ok then s.reply own
        else if bytesAt d 3 1 ≠ 0 then s.reply St.valueRange
        else
          let (s, st) := s.hapPlay g c src w (bytesAt d 0 1) (bytesAt d 1 1) (bytesAt d 2 1)
          s.reply st)))

/-- LOAD_MEASURE (R18, R327): the measurements of a group start, or of channels that are to be measured again: channel, load in nF, a short found, the
resonance in Hz. A driver die that does not answer makes the group and its channels DEAD. -/
def execLoadMeasure (g : Nat) (answers : Bool) (meas : List (Nat × Nat × Bool × Nat)) (s : State) : Host.Outcome State Fault Refusal :=
  s.whenUp (fun s =>
    .next (if 2 < g then s
      else if !answers then
        match s.startFailed (U.hapGroup g) with
        | (s, k) =>
          if k = 1 then s.hapGroupStart g
          else (List.range 8).foldl (fun s c => s.setUnitState (U.hapChannel g c) 5) (if k = 2 then s else s.setUnitState (U.hapGroup g) 5)
      else
        let s := if s.reg (Obj.hapHvState g) = 0 ∧ s.reg (Reg.hapHot g) < 2 then s.setReg (Obj.hapHvState g) 1 else s
        let s := meas.foldl (fun s m =>
          let c := m.1
          if 7 < c ∨ s.reg (Reg.hapDue g c) = 0 then s
          else
            let s := s.setRegs [(Reg.hapDue g c, 0), (Obj.hapChLoadNf g c, m.2.1 % 65536), (Obj.hapChResonanceHz g c, m.2.2.2 % 65536)]
            if m.2.2.1 ∨ m.2.1 < 18 ∨ 550 < m.2.1 then (s.hapCut g c St.loadFault).hapFault g c
            else s.setRegs [(Obj.hapChSenseActive g c, b2n (s.reg (Obj.hapChSenseMode g c) != 0 && s.reg (Reg.hapOpen g c) == 0)),
              (Obj.hapChChannelState g c, if s.reg (Reg.hapBusy g c) = 1 then s.reg (Obj.hapChChannelState g c)
                else if s.reg (Obj.hapChEnable g c) = 0 then 4 else 0)]) s
        if (List.range 8).any (fun c => s.reg (Reg.hapDue g c) == 1) then s else s.startPassed (U.hapGroup g)))

/-- HAPTIC_LOOP_PERIOD (R329, R339): a 50 µs period of a channel; `a` is the sensed envelope in 0.00001 m/s², `mw` the group's power averaged over
100 ms. -/
def execHapticLoopPeriod (g c a mw : Nat) (s : State) : Host.Outcome State Fault Refusal :=
  s.whenUp (fun s =>
    .next (if 2 < g ∨ 7 < c ∨ s.reg (Reg.portReset (U.hapGroup g)) = 1 then s
      else
        let s := Hap.power s g mw
        if s.reg (Reg.hapBusy g c) = 0 then s
        else
          let t := s.now - s.reg (Reg.hapAt g c)
          let l := s.hapSegments g c
          match l.find? (fun p => decide (p.1 ≤ t) && decide (t < p.2)) with
          | some p => Hap.inSegment s g c t p.1 a
          | none =>
            let done := l.filter (fun p => decide (p.2 ≤ t))
            match done.getLast? with
            | some p => Hap.afterSegment s g c t (done.length - 1) p.2 a
            | none => Hap.drive s g c 0))

/-- SENSE_CHECK (R330): at BoostMs + 2 ms into an effect a closed-loop channel whose sensed envelope is below 10 % or above 400 % of the target goes on
in open loop until the next group start. Between drive segments there is no target to hold the envelope to (DEDUCED, log 20). -/
def execSenseCheck (g c a : Nat) (s : State) : Host.Outcome State Fault Refusal :=
  s.whenUp (fun s =>
    let t := s.now - s.reg (Reg.hapAt g c)
    .next (if 2 < g ∨ 7 < c ∨ s.reg (Reg.hapBusy g c) = 0 ∨ s.reg (Reg.hapChecked g c) = 1 ∨ t < 1000000 * (s.hapField g c 2 + 2) then s
      else
        let target := s.hapTarget g c t
        let s' := (s.tick).setReg (Reg.hapChecked g c) 1
        if s.hapClosed g c ∧ 0 < target ∧ (a * 10 < target ∨ 4 * target < a) then
          (s'.setRegs [(Reg.hapOpen g c, 1), (Obj.hapChSenseActive g c, 0)]).hapChEvent g c St.senseFault 2 [(1, c)]
        else s'))

/-- EFFECT_END (R331, R338): braking is complete or 10 s have passed. -/
def execEffectEnd (g c : Nat) (s : State) : Host.Outcome State Fault Refusal :=
  s.whenUp (fun s =>
    .next (if 2 < g ∨ 7 < c ∨ s.reg (Reg.hapBusy g c) = 0 ∨ !s.hapFinished g c then s else s.hapEnd g c St.ok))

/-- OVERCURRENT (R339): the channel stops at once without braking and its load is measured again; the third within 60 s puts it in FAULT. -/
def execOvercurrent (g c : Nat) (s : State) : Host.Outcome State Fault Refusal :=
  s.whenUp (fun s =>
    .next (if 2 < g ∨ 7 < c then s
      else
        let s := s.hapCut g c St.overcurrent
        let l := s.now :: (s.num (Num.overcurrent g c)).filter (fun t => decide (s.now < t + 60000000000))
        let s := ((s.setReg (Reg.hapDue g c) 1).bump (Obj.hapChFaults g c) 32).hapChEvent g c St.overcurrent 3 [(1, c)]
        if l.length < 3 then s.setNum (Num.overcurrent g c) l
        else ((s.setNum (Num.overcurrent g c) []).setReg (Reg.hapDue g c) 0).hapFault g c))

/-- DRIVER_HOT (R339): above 110 °C the targets are halved, above 125 °C the group's high voltage goes off. `temp` is in 0.1 °C. -/
def execDriverHot (g temp : Nat) (s : State) : Host.Outcome State Fault Refusal :=
  s.whenUp (fun s =>
    let t := toSigned 2 temp
    .next (if 2 < g then s
      else
        let s := s.setReg (Obj.hapDriverTemp g) (temp % 65536)
        if 1250 < t ∧ s.reg (Reg.hapHot g) ≠ 2 then
          ((s.hapGroupCut g St.driverHot).setRegs [(Reg.hapHot g, 2), (Obj.hapHvState g, 0)]).hapGroupEvent g St.driverHot 3 [(2, temp)]
        else if 1100 < t ∧ s.reg (Reg.hapHot g) = 0 then (s.setReg (Reg.hapHot g) 1).hapGroupEvent g St.driverHot 2 [(2, temp)]
        else s))

/-- DRIVER_COOLED (R339): below 100 °C the limit of targets ends, or the group's high voltage restarts. -/
def execDriverCooled (g temp : Nat) (s : State) : Host.Outcome State Fault Refusal :=
  s.whenUp (fun s =>
    .next (if 2 < g ∨ 1000 ≤ toSigned 2 temp then s
      else
        let was := s.reg (Reg.hapHot g)
        let s := s.setRegs [(Obj.hapDriverTemp g, temp % 65536), (Reg.hapHot g, 0)]
        if was = 2 then Hap.restart s g else s))

/-- HV_FAULT (R339): the high-voltage rail has been out of range for 1 ms; the group stops and is retried every 1 s. -/
def execHvFault (g : Nat) (s : State) : Host.Outcome State Fault Refusal :=
  s.whenUp (fun s =>
    .next (if 2 < g then s
      else ((s.hapGroupCut g St.hvFault).setRegs [(Obj.hapHvState g, 2), (Reg.hapRetry g, s.now + 1000000000)]).hapGroupEvent g St.hvFault 3 []))

/-- HV_RETRY (R339): the rail is tried again; in range, the group starts. -/
def execHvRetry (g : Nat) (ok : Bool) (s : State) : Host.Outcome State Fault Refusal :=
  s.whenUp (fun s =>
    .next (if 2 < g ∨ s.reg (Reg.hapRetry g) = 0 ∨ s.now < s.reg (Reg.hapRetry g) then s
      else if ok then Hap.restart s g else s.setReg (Reg.hapRetry g) (s.now + 1000000000)))

end Sys2Proof.Machine
end

