-- ==== Sys2Proof/Machine/Hoist.lean ====
section
/-!
DEFINITION. Machine/Hoist.lean: hoists of several devices (chapter 20): joining and leaving, links and the tree, hoist time, feeds, the loss of a worker or the
manager.
-/
namespace Sys2Proof.Machine

namespace State

/-- Every scheduled commit and update schedule is dropped before the device's time changes (R457). -/
def dropSchedules (s : State) : State :=
  let s := (s.handles.filter (fun h => s.reg (Reg.pendAt h) != 0)).foldl schedDrop s
  if s.reg Obj.updState = 3 ∧ s.reg Obj.updActivateAt ≠ 0 then s.updMissed else s

/-! Membership. -/

/-- Answer a HoistOp. -/
def hoistAnswer (s : State) (n st : Nat) : State := (s.setReg (skey n Obj.hoistOpStatus) st).reply st

/-- MembersAlive and the slot of device `d` on the manager (R470, R24). -/
def slotTo (s : State) (d st : Nat) : State :=
  let m := s.reg Obj.membersAlive
  let s := s.hoistSlotTo d st
  s.setReg Obj.membersAlive (if st = 1 ∨ st = 2 then m ||| 2 ^ d else if bit m d then m - 2 ^ d else m)

/-- The device is a member (R455, R457). -/
def becomeMember (s : State) : State :=
  let s := s.dropSchedules
  s.lockLatch.setRegs [(Obj.hoistState, 2), (Obj.hoistRole, s.reg Obj.cfgRole), (Obj.deviceId, s.reg Obj.cfgDeviceId), (Reg.mgrHb, s.now), (Reg.timeGood, 0),
    (Obj.timeLocked, if s.reg Obj.cfgRole = 1 then 1 else 0), (Reg.timeLast, s.now), (Reg.ptpSince, s.now)]

/-- Refusal of a join by the tree as it is known (R456, R459); OK where there is none. -/
def joinStatus (s : State) (l : Nat) (held : Bool) : Nat :=
  if held then St.hoistIdConflict else if 6 < s.peerHops l + 1 then St.hoistDepth else St.ok

/-- Join through link `l` (R455 to R459); a refused device stays lone. -/
def joinVia (s : State) (l : Nat) (held : Bool) : State :=
  let st := s.joinStatus l held
  if st = St.hoistIdConflict then (s.setReg Obj.hoistState 0).raise [.hal, .owner] U.fj st 0xFF 2 []
  else if st ≠ St.ok then s.setReg Obj.hoistState 0
  else
    s.becomeMember.attachTell l

/-- HoistOp 1 (R455, R456). -/
def hoistJoin (s : State) (n : Nat) (held : Bool) : State :=
  if s.reg Obj.hoistState ≠ 0 ∨ s.reg Obj.cfgRole = 0 then s.hoistAnswer n St.hoistState
  else if s.reg Obj.cfgRole = 1 then
    (if held then (s.raise [.hal, .owner] U.fj St.hoistIdConflict 0xFF 2 []).hoistAnswer n St.hoistIdConflict
     else
      let s := s.becomeMember.setRegs [(Obj.managerId, s.reg Obj.cfgDeviceId), (Obj.hopsToManager, 0), (Obj.parentLink, 0xFF)]
      (s.hoistUnits.slotTo (s.reg Obj.deviceId) 1).hoistAnswer n St.ok)
  else match s.bestLink with
    | none => (s.setReg Obj.hoistState 1).hoistAnswer n St.ok
    | some l => (s.joinVia l held).hoistAnswer n (s.joinStatus l held)

/-- Sessions that reach this device over its hoist links close (R37, R472). -/
def forwardedClose (s : State) (p : Nat → Bool) : State :=
  (List.range (s.reg Reg.nextSession + 1)).foldl (fun s n =>
    if s.reg (Reg.sessOpen n) = 1 ∧ s.reg (Reg.sessTransport n) = 6 ∧ p n then s.closeSessionFor 5 n else s) s

/-- The parent is the link whose peer has the lowest HopsToManager (R459): a better standby link takes its place, and a parent whose peer has lost the manager is
left. Where another manager lies behind the parent, the sessions of the lost one close (R472). -/
def settleParent (s : State) : State :=
  let p := s.reg Obj.parentLink
  if s.reg Obj.hoistState ≠ 2 ∨ s.reg Obj.hoistRole = 1 ∨ 3 < p then s
  else
    let leave := match s.bestLink with
      | some m => decide (256 * s.peerHops m + s.reg (Obj.hoistPeerDevice m) < 256 * s.peerHops p + s.reg (Obj.hoistPeerDevice p))
      | none => false
    let old := s.reg Obj.managerId
    let s := if s.peerHops p = 0xFF then (s.setReg (Obj.hoistLinkState p) 4).parentLost p
      else if leave then (s.parentLost p).setReg (Obj.hoistLinkState p) 4
      else s.setRegs [(Obj.hopsToManager, s.peerHops p + 1), (Obj.managerId, s.reg (Reg.linkHops p) / 256)]
    if s.reg Obj.managerId = old then s else s.forwardedClose (fun n => s.reg (Reg.sessFar n) / 65536 == old)

/-- HoistOp 2 (R455): the device is lone again. -/
def hoistLeave (s : State) (n : Nat) : State :=
  if s.reg Obj.hoistState = 0 then s.hoistAnswer n St.hoistState
  else
    let s := s.hoistSend 0x06 (s.reg Obj.managerId) 3 0 (record [(1, 1), (1, s.reg Obj.deviceId), (4, 0)])
    let s := s.forwardedClose (fun _ => true)
    let s := (List.range 64).foldl (fun s d => s.setReg (Reg.hoistSlot d) 0) s
    let s := (List.range 64).foldl pathLost s
    let s := (List.range 4).foldl (fun s l => if s.reg (Obj.hoistLinkState l) = 3 then s.setReg (Obj.hoistLinkState l) 4 else s) s
    ((s.lockLatch.setNum Num.hoistMissed []).setRegs [(Obj.hoistState, 0), (Obj.hoistRole, 0), (Obj.deviceId, 0), (Obj.managerId, 0), (Obj.hopsToManager, 0),
      (Obj.parentLink, 0xFF), (Obj.membersAlive, 0), (Obj.timeLocked, 0), (Reg.timeGood, 0), (Reg.slewLeft, 0), (Reg.hoistPart, 0)]).hoistUnits.hoistAnswer n St.ok

/-- A term is met on a link (R472): a manager that meets a higher one becomes deputy. -/
def termMet (s : State) (l term : Nat) : State :=
  if term ≤ s.reg Obj.hoistTerm then s
  else
    let s := s.setReg Obj.hoistTerm term
    if s.reg Obj.hoistRole ≠ 1 then s
    else
      let s := ((s.lockLatch.setRegs [(Obj.hoistRole, 3), (Reg.mgrHb, s.now), (Obj.timeLocked, 0), (Reg.timeGood, 0), (Obj.membersAlive, 0)]).raise [.hal, .owner] U.fj St.hoistDemoted 0xFF 1
        [(4, term)]).hoistUnits
      if s.peerHops l = 0xFF then s else (s.setReg (Obj.hoistLinkState l) 4).attachTell l

/-- The manager learns of a device (R470). -/
def deviceJoined (s : State) (d : Nat) : State :=
  let was := s.reg (Reg.hoistSlot d)
  let s := (s.slotTo d 1).setReg (Reg.hoistHb d) s.now
  if was = 1 then s else s.raise [.hal, .owner] U.fj St.hoistDeviceJoined 0xFF 1 [(1, d)]

/-- What a membership frame reports; a device other than the manager passes it on towards the manager. -/
def membership (s : State) (l kind a b : Nat) : State :=
  let mgr := s.reg Obj.hoistRole == 1
  let s := if kind = 0 then
      let s := s.pathBy a l b
      if a = s.reg (Obj.hoistPeerDevice l) ∧ s.reg (Obj.hoistLinkState l) = 4 then s.setReg (Obj.hoistLinkState l) 3 else s
    else if kind = 1 ∨ kind = 3 then s.pathLost a
    else s
  let s := if kind = 5 then s.termMet l b else if kind = 6 then s.setReg (Obj.hoistFeedAdmittedMBps l) a else s
  if 63 < a ∨ 4 < kind then s
  else if !mgr then
    (if s.reg Obj.parentLink = l then s
     else s.hoistSend 0x06 (s.reg Obj.managerId) 3 0 (record [(1, kind), (1, a), (4, if kind = 0 then b + 1 else b)]))
  else if kind = 0 then s.deviceJoined a
  else if kind = 1 then (s.slotTo a 0).raise [.hal, .owner] U.fj St.hoistDeviceLeft 0xFF 1 [(1, a)]
  else if kind = 2 then s.slotTo a 4
  else if kind = 4 then s.missedAt a b
  else s

/-- A frame arrives on a link (R458): counted; one whose tag fails is discarded. -/
def linkFrame (s : State) (l : Nat) (ok : Bool) (f : State → State) : State :=
  if 3 < l ∨ !s.linkUp l then s
  else
    let s := s.setReg (Reg.linkFrames l) (s.reg (Reg.linkFrames l) + 1)
    if ok then f s else s.bump (Obj.hoistLinkErrors l) 32

/-- A link's island runs in this power state (R445, R447). -/
def linkPowered (s : State) (l : Nat) : Bool :=
  let p := s.reg Obj.powerState
  p == 2 || p == 3 || p == 6 || (p == 4 && bit (s.reg Obj.holdupLinks) l)

/-- A bring-up that fails leaves the link failed until the next (R458). -/
def linkFail (s : State) (l : Nat) : State := s.setRegs [(Obj.hoistLinkState l, 5), (Reg.linkRetry l, s.now + 10000000000)]

/-- Both sides derive a new link key by ECDH (R458); its value is a free value (log 5). -/
def linkRekey (s : State) (l : Nat) : State := s.tick.setRegs [(Reg.linkKey l, s.fresh % 2 ^ 256), (Reg.linkFrames l, 0)]

/-! Feeds. -/

/-- Bytes of a frame of feed `f`. -/
def feedBytes (s : State) (f : Nat) : Nat :=
  let fmt := s.reg (Obj.feedFormat f)
  s.reg (Obj.feedWidth f) * s.reg (Obj.feedHeight f) * (if fmt = 3 then 4 else if fmt = 0x10 then 3 else if fmt = 0x11 then 6 else 8) / 2

/-- Rate of feed `f`, MB/s rounded up (R467): frame bytes times the target head's frame rate. -/
def feedRateOf (s : State) (f : Nat) : Nat := (s.feedBytes f * Head.rateMhz s.reg (s.reg (Obj.feedHead f)) + 999999999) / 1000000000

/-- Refusal of the enable of feed `f` (R467); OK where there is none. -/
def feedStatus (s : State) (f src : Nat) (pathFits : Bool) : Nat :=
  let n := s.reg (Obj.feedHead f)
  let l := s.reg (Obj.feedLayer f)
  let d := s.reg (Obj.feedSourceDevice f)
  let video := Head.videoLayer s.reg n l
  if s.reg (Obj.feedState f) ≠ 0 then St.busy
  else if 63 < d ∨ s.reg (Reg.hoistPath d) = 0 ∨ src = 0 then St.hoistFeedInvalid
  else if 7 < n ∨ 7 < l ∨ s.reg (Obj.layerEnable n l) = 0 ∨ s.reg (Reg.feedIn n l) ≠ 0 then St.hoistFeedInvalid
  else if video ∧ (s.reg (Obj.layerCropW n l) ≠ s.reg (Obj.layerDstW n l) ∨ s.reg (Obj.layerCropH n l) ≠ s.reg (Obj.layerDstH n l)
    ∨ s.reg (Obj.layerSourceRx n l) ≠ 0xFF) then St.hoistFeedInvalid
  else if s.reg (Obj.feedFormat f) ≠ s.reg (Obj.layerFormat n l) ∨ s.reg (Obj.feedWidth f) ≠ s.reg (Obj.layerSrcWidth n l)
    ∨ s.reg (Obj.feedHeight f) ≠ s.reg (Obj.layerSrcHeight n l) then St.hoistFeedInvalid
  else if 1024 * s.reg (Obj.layerPoolKiB n l) < 3 * s.feedBytes f then St.hoistFeedInvalid
  else
    let link := s.reg (Reg.hoistPath d)
    let sum := (List.range 16).foldl (fun a g => if s.reg (Reg.feedLink g) = link then a + s.reg (Reg.feedRate g) else a) 0
    if s.reg Obj.rtReservedMBps < s.rtDemand s.reg + s.feedRateOf f ∨ 9600 < sum + s.feedRateOf f ∨ !pathFits then St.hoistFeedBandwidth
    else St.ok

/-- The next buffer for a copy: the next of the three that is not the one shown (R468). -/
def feedNext (s : State) (f : Nat) : Nat :=
  let b := (s.reg (Reg.feedBuf f) + 1) % 3
  if s.reg (Reg.feedShown f) = b + 1 then (b + 1) % 3 else b

/-- Feed `f` stops and its layer is free. -/
def feedOff (s : State) (f : Nat) : State :=
  let s := s.setReg (Reg.feedIn (s.reg (Obj.feedHead f)) (s.reg (Obj.feedLayer f))) 0
  let s := s.setRegs [(Obj.feedState f, 0), (Reg.feedRate f, 0), (Reg.feedLink f, 0), (Reg.feedHoldDue f, 0), (Reg.feedNew f, 0), (Reg.feedShown f, 0),
    (Reg.feedFill f, 0), (Reg.feedBlack f, 0)]
  s.setReg Reg.rtAdmitted (s.rtDemand s.reg)

/-- Bytes of a copy arrive in the present buffer of feed `f` (R468); the last completes it. -/
def feedArrive (s : State) (f : Nat) (last : Bool) (v : Bytes) : State :=
  let n := s.reg (Obj.feedHead f)
  let l := s.reg (Obj.feedLayer f)
  let fill := s.reg (Reg.feedFill f)
  let third := s.reg (Reg.poolSize n l) * frameBytes / 3
  let b := s.reg (Reg.feedBuf f)
  let v := v.take (s.feedBytes f - fill)
  let s := s.poolWrite U.fab (42 + s.reg (Reg.feedLink f) % 4) n l (b * third + fill) v
  let s := s.setReg (Reg.feedFill f) (fill + v.length)
  if !last then s
  else if s.reg (Reg.feedFill f) < s.feedBytes f then s.setReg (Reg.feedFill f) 0
  else
    let s := s.setRegs [(Reg.feedNew f, b + 1), (Reg.feedFill f, 0), (Reg.feedHoldDue f, 0)]
    let s := s.setReg (Reg.feedBuf f) (s.feedNext f)
    if s.reg (Obj.feedState f) = 2 then (s.setReg (Obj.feedState f) 1).raise [.hal, .owner] U.fj St.hoistFeedBack 0xFF 1 [(1, f)] else s

/-- Parts of a copy as link frames carry them: at most 2,048 bytes each. -/
def feedFrames : Nat → Bytes → List Bytes
  | 0, _ => []
  | k + 1, b => if b.isEmpty then [] else b.take 2048 :: feedFrames k (b.drop 2048)

/-- The export `e` may be fed (R467, R469): offered to the hoist by a world that is RUNNING. -/
def feedSource (s : State) (e : Nat) : Option Export :=
  match s.exportOf e with
  | some x => if x.target = 0xFF ∧ s.reg (Obj.worldState x.world) = 2 then some x else none
  | none => none

/-! Hoist time. -/

/-- Slew hoist time by an offset: `ahead` holds it back; one nanosecond in `every` (R460, R461, R463). -/
def slew (s : State) (ofs : Int) (every : Nat) : State :=
  s.setRegs [(Reg.slewLeft, ofs.natAbs), (Reg.slewAhead, if 0 < ofs then 1 else 0), (Reg.slewEvery, every), (Reg.slewCount, 0)]

/-- A head locked to hoist time loses it (R265). -/
def timeUnlock (s : State) : State :=
  let s := s.lockLatch.setRegs [(Obj.timeLocked, 0), (Reg.timeGood, 0)]
  (List.range 8).foldl (fun s n => if s.reg (Obj.frameLockSource n) = 1 ∧ s.reg (Obj.portMode n) ≠ 3 then Line.holdover s n else s) s

end State

/-- HOIST_JOIN (R455 to R457). -/
def execHoistJoin (n : Nat) (held : Bool) (s : State) : Host.Outcome State Fault Refusal :=
  s.whenUp (fun s =>
    .next (s.written n Obj.hoistOp [1] (fun s => s.hoistJoin n held)))

/-- HOIST_LEAVE (R455). -/
def execHoistLeave (n : Nat) (s : State) : Host.Outcome State Fault Refusal :=
  s.whenUp (fun s =>
    .next (s.written n Obj.hoistOp [2] (fun s => s.hoistLeave n)))

/-- HOIST_LINK_UP (R456, R458): a bring-up of link `l` ends. A device that is joining joins through it; an isolated one takes it as parent. -/
def execHoistLinkUp (l : Nat) (trained authOk : Bool) (peer serial hid : Nat) (sameOwner : Bool) (hops mgr : Nat) (held : Bool) (s : State) :
    Host.Outcome State Fault Refusal :=
  s.whenUp (fun s =>
    .next (if 3 < l ∨ s.linkUp l ∨ !s.linkPowered l then s
      else if !trained then s.linkFail l
      else if s.reg Reg.identityLost = 1 ∨ !authOk ∨ hid ≠ s.reg Obj.hoistId ∨ !sameOwner then
        (s.linkFail l).raise [.hal, .owner] U.fj St.hoistLinkAuth 0xFF 2 [(1, l)]
      else
        let s := (s.linkRekey l).setRegs [(Reg.linkSeq l, 0), (Obj.hoistLinkState l, 4), (Obj.hoistPeerDevice l, peer), (Obj.hoistPeerSerial l, serial),
          (Reg.linkHops l, if hops = 0xFF then 0xFF else hops + 256 * mgr), (Reg.linkRetry l, 0)]
        if hops = 0xFF then s
        else if s.reg Obj.hoistState = 1 then s.joinVia l held
        else if s.reg Obj.hoistState = 3 ∧ hops < 6 then s.attachTell l
        else s.settleParent))

/-- HOIST_LINK_RETRY (R458): bring-up begins again. -/
def execHoistLinkRetry (l : Nat) (s : State) : Host.Outcome State Fault Refusal :=
  s.whenUp (fun s =>
    .next (if 3 < l ∨ !s.linkPowered l ∨ (s.reg (Obj.hoistLinkState l) ≠ 5 ∧ s.reg (Obj.hoistLinkState l) ≠ 0) ∨ s.now < s.reg (Reg.linkRetry l) then s
      else s.setRegs [(Obj.hoistLinkState l, 1), (Reg.linkRetry l, s.now + 10000000000)]))

/-- LINK_REKEY (R458). -/
def execLinkRekey (l : Nat) (s : State) : Host.Outcome State Fault Refusal :=
  s.whenUp (fun s =>
    .next (if 3 < l ∨ !s.linkUp l ∨ s.reg (Reg.linkFrames l) < 0x100000000 then s else s.linkRekey l))

/-- HOIST_FEED_DATA (R468, R469): data for another device is passed on. -/
def execHoistFeedData (l : Nat) (ok : Bool) (dst f : Nat) (last : Bool) (v : List Byte) (s : State) : Host.Outcome State Fault Refusal :=
  s.whenUp (fun s =>
    .next (s.linkFrame l ok (fun s =>
      if s.reg (Obj.hoistLinkState l) ≠ 3 then s
      else if dst ≠ s.reg Obj.deviceId then s.hoistSend 0x02 dst 2 f v
      else if 15 < f ∨ s.reg (Obj.feedState f) = 0 then s
      else if v = [] then s.feedHold f
      else s.feedArrive f last v)))

/-- TIME_EXCHANGE (R462, R463): the device's time less the parent's is half the sum of both legs' differences. -/
def execTimeExchange (t1 t2 t3 t4 : Nat) (s : State) : Host.Outcome State Fault Refusal :=
  s.whenUp (fun s =>
    .next (if s.reg Obj.hoistState ≠ 2 ∨ s.reg Obj.hoistRole = 1 then s
      else
        let ofs : Int := -((((t2 : Int) - t1) + ((t3 : Int) - t4)) / 2)
        let rtt := (t4 - t1) - (t3 - t2)
        let s := s.setRegs [(Obj.timeOffsetNs, ofSigned 4 ofs), (Obj.hoistLinkRttNs (s.reg Obj.parentLink), rtt % 0x100000000)]
        if 1000000 < ofs.natAbs then
          let s := { s.dropSchedules with now := ((s.now : Int) - ofs).toNat }
          (s.setRegs [(Reg.timeLast, s.now), (Reg.timeGood, 0), (Reg.slewLeft, 0), (Reg.mgrHb, s.now)]).raise [.hal, .owner] U.fj St.hoistTimeStepped 0xFF 1 []
        else
          let good := if ofs.natAbs ≤ 12 then s.reg Reg.timeGood + 1 else 0
          let s := (s.slew ofs 2000).setRegs [(Reg.timeLast, s.now), (Reg.timeGood, good)]
          if 16 ≤ good then s.lockLatch.setReg Obj.timeLocked 1 else s))

/-- TIME_LOCK_TIMEOUT (R462, R265). -/
def execTimeLockTimeout (s : State) : Host.Outcome State Fault Refusal :=
  s.whenUp (fun s =>
    .next (if s.reg Obj.hoistRole = 0 ∨ s.reg Obj.hoistRole = 1 ∨ s.reg Obj.timeLocked = 0 ∨ s.now < s.reg Reg.timeLast + 100000000 then s
      else s.timeUnlock))

/-- HOIST_HEARTBEAT (R459, R470, R472). -/
def execHoistHeartbeat (l : Nat) (ok : Bool) (src : Nat) (fromMgr : Bool) (hops mgr term : Nat) (s : State) : Host.Outcome State Fault Refusal :=
  s.whenUp (fun s =>
    .next (s.linkFrame l ok (fun s =>
      let s := s.setReg (Reg.linkHops l) (if hops = 0xFF then 0xFF else hops + 256 * mgr)
      let s := (s.termMet l term).settleParent
      if s.reg Obj.hoistRole = 1 then (if src < 64 then s.setReg (Reg.hoistHb src) s.now else s)
      else if !fromMgr then s
      else
        let s := s.setRegs [(Reg.mgrHb, s.now), (Reg.hoistPart, 0)]
        if s.reg Obj.hoistState = 3 ∧ hops < 6 ∧ s.reg (Obj.hoistLinkState l) = 4 then s.attachTell l else s)))

/-- CONTACT_FORWARD (R469): a contact on a feed layer elsewhere reaches the source world. -/
def execContactForward (l : Nat) (ok : Bool) (dst u w : Nat) (v : List Byte) (s : State) : Host.Outcome State Fault Refusal :=
  s.whenUp (fun s =>
    .next (s.linkFrame l ok (fun s =>
      if s.reg (Obj.hoistLinkState l) ≠ 3 then s
      else if dst ≠ s.reg Obj.deviceId then s.hoistSend 0x05 dst 2 0 (record [(1, w)] ++ State.eventBytes ⟨s.now, u, St.contact, w, 0, 0, padTo 14 v⟩)
      else if 63 < w ∨ s.reg (Obj.worldState w) ≠ 2 then s
      else s.raise [.world w] u St.contact w 0 ((v.take 14).map (fun b => (1, b.toNat))))))

/-- MEMBERSHIP (R466, R470, R472). -/
def execMembership (l : Nat) (ok : Bool) (kind a b : Nat) (s : State) : Host.Outcome State Fault Refusal :=
  s.whenUp (fun s =>
    .next (s.linkFrame l ok (fun s => if s.reg Obj.hoistState < 2 then s else s.membership l kind a b)))

/-- PTP_MESSAGE (R460, R461): only a manager with TimeSource 1 takes it, on its port, domain and transport. -/
def execPtpMessage (p domain transport : Nat) (selected : Bool) (offset : Int) (s : State) : Host.Outcome State Fault Refusal :=
  s.whenUp (fun s =>
    .next (if s.reg Obj.hoistRole ≠ 1 ∨ s.reg Obj.timeSource ≠ 1 ∨ p ≠ s.reg Obj.ptpPort ∨ domain ≠ s.reg Obj.ptpDomain ∨ transport ≠ s.reg Obj.ptpTransport then s
      else if !selected then
        (if s.reg Reg.ptpSel = 0 then s else s.setRegs [(Reg.ptpSel, 0), (Reg.ptpSince, s.now), (Reg.slewLeft, 0)])
      else
        let s := (s.setReg Reg.ptpSel 1).slew offset 20000
        if s.reg Reg.ptpLost = 0 then s else (s.setReg Reg.ptpLost 0).raise [.hal, .owner] U.fj St.hoistPtpBack 0xFF 1 []))

/-- HOIST_PTP_LOST (R460): hoist time runs on from the manager's oscillator. -/
def execHoistPtpLost (s : State) : Host.Outcome State Fault Refusal :=
  s.whenUp (fun s =>
    .next (if s.reg Obj.hoistRole ≠ 1 ∨ s.reg Obj.timeSource ≠ 1 ∨ s.reg Reg.ptpSel = 1 ∨ s.reg Reg.ptpLost = 1
        ∨ s.now < s.reg Reg.ptpSince + 10000000000 then s
      else (s.setReg Reg.ptpLost 1).raise [.hal, .owner] U.fj St.hoistPtpLost 0xFF 2 []))

/-- HOIST_LINK_DOWN (R459). -/
def execHoistLinkDown (l : Nat) (s : State) : Host.Outcome State Fault Refusal :=
  s.whenUp (fun s =>
    .next (if 3 < l ∨ s.reg (Obj.hoistLinkState l) = 0 ∨ s.reg (Obj.hoistLinkState l) = 5 then s else s.linkDown l))

/-- HOIST_DEVICE_LOST (R470): WorkerLossMs without a heartbeat of worker `d`. -/
def execHoistDeviceLost (d : Nat) (s : State) : Host.Outcome State Fault Refusal :=
  s.whenUp (fun s =>
    .next (if 63 < d ∨ s.reg Obj.hoistRole ≠ 1 ∨ d = s.reg Obj.deviceId ∨ (s.reg (Reg.hoistSlot d) ≠ 1 ∧ s.reg (Reg.hoistSlot d) ≠ 2)
        ∨ s.now < s.reg (Reg.hoistHb d) + 1000000 * s.reg Obj.workerLossMs then s
      else ((s.slotTo d 5).pathLost d).raise [.hal, .owner] U.fj St.hoistDeviceLost 0xFF 2 [(1, d)]))

/-- HOIST_TAKEOVER (R471, R472): ManagerLossMs without a heartbeat of the manager, at the deputy. -/
def execHoistTakeover (reach : Nat) (s : State) : Host.Outcome State Fault Refusal :=
  s.whenUp (fun s =>
    .next (if s.reg Obj.hoistRole ≠ 3 ∨ s.reg Obj.hoistState < 2 ∨ s.reg Obj.deviceId ≠ s.reg Obj.deputyId
        ∨ s.now < s.reg Reg.mgrHb + 1000000 * s.reg Obj.managerLossMs then s
      else
        let ms := s.reg Obj.hoistMembers
        let r := (reach ||| 2 ^ s.reg Obj.deviceId) &&& ms
        if 2 * popCount 64 r ≤ popCount 64 ms then
          (if s.reg Reg.hoistPart = 1 then s else (s.setReg Reg.hoistPart 1).raise [.hal, .owner] U.fj St.hoistPartition 0xFF 3 [])
        else
          let old := s.reg Obj.managerId
          let s := s.forwardedClose (fun n => s.reg (Reg.sessFar n) / 65536 == old)
          let s := s.lockLatch.setRegs [(Obj.hoistRole, 1), (Obj.hoistState, 2), (Obj.managerId, s.reg Obj.deviceId), (Obj.hoistTerm, (s.reg Obj.hoistTerm + 1) % 0x100000000),
            (Obj.hopsToManager, 0), (Obj.parentLink, 0xFF), (Obj.timeLocked, 1), (Reg.hoistPart, 0), (Reg.slewLeft, 0), (Reg.ptpSince, s.now)]
          let s := (List.range 64).foldl (fun s d =>
            if !bit ms d then s
            else if bit r d then (s.slotTo d 1).setReg (Reg.hoistHb d) s.now
            else (s.slotTo d 5).pathLost d) s
          s.hoistUnits.raise [.hal, .owner] U.fj St.hoistTakeover 0xFF 2 [(4, s.reg Obj.hoistTerm)]))

/-- FEED_ENABLE (R467). -/
def execFeedEnable (n f src : Nat) (pathFits : Bool) (s : State) : Host.Outcome State Fault Refusal :=
  s.whenUp (fun s =>
    .next (s.written n (Obj.feedOp f) [1] (fun s =>
      let st := s.feedStatus f src pathFits
      if st ≠ St.ok then s.reply st
      else
        let d := s.reg (Obj.feedSourceDevice f)
        let s := s.setRegs [(Obj.feedState f, 1), (Reg.feedRate f, s.feedRateOf f), (Reg.feedLink f, s.reg (Reg.hoistPath d)), (Reg.feedBuf f, 0), (Reg.feedFill f, 0),
          (Reg.feedNew f, 0), (Reg.feedShown f, 0), (Reg.feedBlack f, 0), (Reg.feedIn (s.reg (Obj.feedHead f)) (s.reg (Obj.feedLayer f)), 1 + 64 * d + (src - 1))]
        (s.setReg Reg.rtAdmitted (s.rtDemand s.reg)).reply St.ok)))

/-- FEED_DISABLE (R467). -/
def execFeedDisable (n f : Nat) (s : State) : Host.Outcome State Fault Refusal :=
  s.whenUp (fun s =>
    .next (s.written n (Obj.feedOp f) [2] (fun s => if s.reg (Obj.feedState f) = 0 then s.reply St.ok else (s.feedOff f).reply St.ok)))

/-- FEED_POLL (R468, R469): the feed engine reads PRESENT of export `e`, acting for its world, for feed `f` of device `d`. -/
def execFeedPoll (e d f : Nat) (s : State) : Host.Outcome State Fault Refusal :=
  s.whenUp (fun s =>
    .next (if 63 < d ∨ 15 < f ∨ s.now % 250000 ≠ 0 ∨ s.reg (Reg.hoistPath d) = 0 ∨ s.reg (Reg.srcCopy e (16 * d + f)) ≠ 0 then s
      else match s.feedSource e with
        | none => (s.setReg (Reg.srcPresent e (16 * d + f)) 0).hoistSend 0x02 d 2 f []
        | some x => match s.gread x.world 0 x.addr 8 with
          | .error q => s.accessFault x.world 0xFF 0 U.fj 2 .read q
          | .ok b => if leNat b ≤ s.reg (Reg.srcPresent e (16 * d + f)) then s else s.setReg (Reg.srcCopy e (16 * d + f)) (leNat b + 1)))

/-- FEED_COPY_DONE (R468): the copy of `k` bytes has gone out, and COPIED takes the PRESENT value copied. -/
def execFeedCopyDone (e d f k : Nat) (s : State) : Host.Outcome State Fault Refusal :=
  s.whenUp (fun s =>
    .next (let c := s.reg (Reg.srcCopy e (16 * d + f))
      if 63 < d ∨ 15 < f ∨ c = 0 then s
      else
        let s := s.setReg (Reg.srcCopy e (16 * d + f)) 0
        match s.feedSource e with
        | none => s.hoistSend 0x02 d 2 f []
        | some x => match s.gread x.world 0 (x.addr + 256) (min k (4096 * x.pages - 256)) with
          | .error q => s.accessFault x.world 0xFF 0 U.fj 2 .read q
          | .ok b =>
            let s := (State.feedFrames b.length b).foldl (fun s v => s.hoistSend 0x02 d 2 f v) s
            match s.gwrite x.world 0 (x.addr + 8) (leBytes 8 (c - 1)) with
            | .error q => s.accessFault x.world 0xFF 0 U.fj 2 .write q
            | .ok s => s.setReg (Reg.srcPresent e (16 * d + f)) (c - 1)))

/-- HOIST_FEED_LOST (R469): FeedHoldMs has passed: the layer shows opaque black with tag 2. -/
def execHoistFeedLost (f : Nat) (s : State) : Host.Outcome State Fault Refusal :=
  s.whenUp (fun s =>
    .next (if 15 < f ∨ s.reg (Reg.feedHoldDue f) = 0 ∨ s.now < s.reg (Reg.feedHoldDue f) then s
      else (s.setRegs [(Obj.feedState f, 2), (Reg.feedHoldDue f, 0), (Reg.feedBlack f, 1), (Reg.feedNew f, 0)]).raise [.hal, .owner] U.fj St.hoistFeedLost 0xFF 2
        [(1, f)]))

end Sys2Proof.Machine
end

