-- ==== Sys2Proof/Machine/Sessions.lean ====
section
/-!
DEFINITION. Machine/Sessions.lean: dictionary sessions on each transport (R29, R30, R37), debug certificates (R405, R122) and recovery (R422, R423).
-/
namespace Sys2Proof.Machine

/-! Fields of a debug certificate (table Debug certificate). -/
namespace Cert

/-- ISSUER: 1 owner. -/
def issuer (d : Bytes) : Nat := bytesAt d 6 1
/-- KEY_REF. -/
def keyRef (d : Bytes) : Nat := bytesAt d 7 1
/-- WORLDS. -/
def worlds (d : Bytes) : Nat := bytesAt d 144 8
/-- SCOPE. -/
def scope (d : Bytes) : Nat := bytesAt d 152 2
/-- HOURS_FROM. -/
def hoursFrom (d : Bytes) : Nat := bytesAt d 156 4
/-- HOURS_UNTIL. -/
def hoursUntil (d : Bytes) : Nat := bytesAt d 160 4
/-- HOLDER_KEY. -/
def holderKey (d : Bytes) : Nat := bytesAt d 164 97

end Cert

namespace State

/-- The server takes new sessions. -/
def accepts (s : State) : Bool := s.reg Obj.powerState == 3 && s.reg Reg.halServing == 1

/-- Limit of sessions on a transport, and whether they count for each port (table Session classes by transport). -/
def sessionRoom (s : State) (tr port : Nat) : Bool :=
  if tr = 2 then decide (s.openCount 2 (fun _ => true) < 16)
  else if tr = 3 then decide (s.openCount 3 (fun _ => true) < 8)
  else if tr = 6 then decide (s.openCount 6 (fun n => s.reg (Reg.sessPort n) == port) < 4)
  else decide (s.openCount tr (fun n => s.reg (Reg.sessPort n) == port) < 1)

/-- A client opens a session (R29). -/
def clientOpens (s : State) (tr port cl w : Nat) : State :=
  if tr = 1 then
    if 4 ≤ port ∨ s.reg (Reg.blockHolder (U.can port)) ≠ 0 then s
    else (if s.reg (Reg.sessOpen (3 + port)) = 1 then s else Hand.nodeStart s port).replyData (leBytes 2 (3 + port))
  else if !(tr == 2 || tr == 4 || tr == 5 || tr == 6) ∨ (tr ≠ 2 ∧ tr ≠ 5 ∧ 4 ≤ port) ∨ (tr = 5 ∧ (32 ≤ port ∨ s.reg (Obj.instState port) = 0))
      ∨ (tr = 6 ∧ s.reg (Obj.hoistLinkState port) < 3) then s
  else if !s.sessionRoom tr port then s.reply St.sessionLimit
  else if tr = 5 then s.openSession 5 port Cls.gst (s.instWorld port)
  else if tr = 6 then s.openSession 6 port (cl % 6) w
  else
    let n := s.reg Reg.nextSession + 1
    (s.openSession tr port Cls.fld 0xFF).setReg (Reg.sessDeadline n) (s.now + 60000000000)

/-- A DTLS handshake on port 20880 completes (R30); without an identity none does (R395). A certificate that the owner key has signed but whose validity period is over opens a pending session, as any
other verifiable certificate does (DESIGN CHOICE, log 41). -/
def handshake (s : State) (ownerSigned inValidity : Bool) (key : Nat) : State :=
  let n := s.reg Reg.nextSession + 1
  if s.reg Reg.identityLost = 1 then s.reply St.identityUnavailable
  else if !s.sessionRoom 3 0 then s.reply St.sessionLimit
  else if ownerSigned ∧ s.reg Obj.ownerSlot ≠ 0xFF ∧ (s.reg Obj.timeSource ≠ 1 ∨ inValidity) then s.openSession 3 0 Cls.own 2
  else (s.openSession 3 0 Cls.dbg 0xFF).setRegs [(Reg.sessPending n, 1), (Reg.sessKey n, key), (Reg.sessDeadline n, s.now + 10000000000)]

/-! Debug certificates. -/

/-- Status of a debug certificate (R405). -/
def certStatus (s : State) (d : Bytes) (sigOk cosignOk holderOk : Bool) : Nat :=
  let k := Cert.keyRef d
  if d.length ≠ 456 ∨ bytesAt d 0 4 ≠ 0x43444A46 ∨ bytesAt d 4 2 ≠ 1 ∨ 1 < Cert.issuer d ∨ !sigOk ∨ !s.keyLive k
      ∨ (if Cert.issuer d = 0 then decide (0x10 ≤ k) else decide (k < 0x10)) then St.debugCertInvalid
  else if bytesAt d 8 4 ≠ s.reg Obj.hardwareType ∨ 16 < bytesAt d 12 1
      ∨ !(List.range (bytesAt d 12 1)).any (fun i => bytesAt d (16 + 8 * i) 8 == s.reg Obj.unitSerial) then St.debugCertSerial
  else if s.hoursNow < Cert.hoursFrom d ∨ Cert.hoursUntil d < s.hoursNow then St.debugCertExpired
  else if s.reg Obj.lifecycleState = 3 ∧ Cert.issuer d = 0 ∧ (!cosignOk ∨ s.reg Obj.ownerSlot = 0xFF) then St.debugCosignRequired
  else if !holderOk then St.debugCertInvalid
  else St.ok

/-- A certificate opens world `w` (table What a debug certificate opens). -/
def certOpens (s : State) (d : Bytes) (w : Nat) : Bool :=
  let owner := Cert.issuer d == 1
  bit (Cert.worlds d) w && s.reg (Obj.worldState w) != 0
    && (if w = 0 then !owner else if w = 1 then (!owner || bit (Cert.scope d) 2) else if w = 2 then owner
      else owner && decide (4 ≤ w) && s.reg (Obj.debugConsent w) == 1)

/-- Session `n` is a debug session under a certificate (R122, R123, R396). -/
def certTake (s : State) (n : Nat) (d : Bytes) : State :=
  let s := s.setRegs [(Reg.sessPending n, 0), (Reg.sessClass n, Cls.dbg), (Reg.certScope n, Cert.scope d), (Reg.certWorlds n, Cert.worlds d),
    (Reg.certUntil n, Cert.hoursUntil d), (Reg.certRef n, Cert.keyRef d), (Reg.certOwner n, Cert.issuer d)]
  let s := s.measure 7 d
  ((List.range 64).filter (fun w => s.certOpens d w)).foldl (fun s w => s.debugOpen n w) s

/-- A pending session writes a debug certificate (R30). -/
def certIn (s : State) (n : Nat) (d : Bytes) (sigOk cosignOk : Bool) : State :=
  if s.reg (Reg.sessPending n) = 0 ∨ d.length ≠ 456 then s.reply St.accessDenied
  else
    let st := s.certStatus d sigOk cosignOk (Cert.holderKey d == s.reg (Reg.sessKey n))
    if st ≠ St.ok then (s.closeSession n).reply st
    else ((s.setReg (skey n Obj.debugCertIn) (leNat d)).certTake n d).reply St.ok

/-- A certificate on the JTAG port; the challenge is drawn anew for the next one. -/
def certJtag (s : State) (d : Bytes) (sigOk cosignOk holderOk : Bool) : State :=
  let st := s.certStatus d sigOk cosignOk holderOk
  let s := (s.setReg Reg.jtagNonce (s.fresh % 2 ^ 256)).tick
  let n := s.reg Reg.nextSession + 1
  if st ≠ St.ok then s.reply st
  else if !bit (Cert.scope d) 0 then s.reply St.debugScope
  else ((s.openSession 8 0 Cls.dbg 0xFF).setReg (Reg.certPort n) 1).certTake n d

/-! Recovery. -/

/-- An owner recovery package in recovery (R423): its items go into both banks, which boot as a new trial. -/
def recoveryPackage (s : State) (m : Bytes) (sigOk innerOk : Bool) : State :=
  let d := m.take 4096
  if (s.headerStatus d sigOk true).1 ≠ St.ok ∨ !Upd.recovery d ∨ Upd.ends d 0 ≠ m.length ∨ !digestOk d (m.drop 4096) 0 then s.reply St.updRecovery
  else
    let s' := s.setReg Reg.updClass5 (Upd.rollback d + 1)
    let s' := s'.updInner (Upd.body d (m.drop 4096) 0) innerOk true
    if s'.reg Obj.updState ≠ 2 then s.reply St.updRecovery
    else
      let hs := Upd.allTargets s'.updHeaderNow
      let s := hs.foldl (fun s h => ((s.setItemState h (s.reg (Reg.itemBank h)) 3).setReg (Reg.startCheck h) 1)) s'
      let s := (s.setNum Num.updSkipped []).updTo 4
      ((s.setRegs [(Reg.updBoth, 1), (Reg.bootKind, 0)]).powerTo 1 (s.reg Reg.nextCause)).reply St.ok

/-- A debug certificate in recovery (R422): SCOPE bit 3, under R405. -/
def recoveryCert (s : State) (d : Bytes) (sigOk cosignOk holderOk : Bool) : State :=
  if s.certStatus d sigOk cosignOk holderOk ≠ St.ok then s.reply (s.certStatus d sigOk cosignOk holderOk)
  else if !bit (Cert.scope d) 3 then s.reply St.updRecovery
  else
    let n := s.reg Reg.nextSession + 1
    (s.openSession 3 0 Cls.dbg 0xFF).certTake n d

end State

/-- SESSION_OPEN (R29); in recovery the boot ROM refuses a client on Ethernet port 0 (R422). -/
def execSessionOpen (tr port cl w : Nat) (s : State) : Host.Outcome State Fault Refusal :=
  .next (if s.accepts then s.clientOpens tr port cl w else if s.reg Obj.powerState = 7 ∧ tr = 2 then s.reply St.updRecovery else s)

/-- SESSION_CLOSE (R37): the transport of the session ends. The internal and CAN FD sessions have none that ends by itself. -/
def execSessionClose (n : Nat) (s : State) : Host.Outcome State Fault Refusal :=
  .next (if s.reg (Reg.sessTransport n) < 2 then s else s.closeSession n)

/-- UDP_SESSION_TIMEOUT (R29): 60 s without a request. -/
def execUdpSessionTimeout (n : Nat) (s : State) : Host.Outcome State Fault Refusal :=
  .next (if s.reg (Reg.sessOpen n) = 1 ∧ s.reg (Reg.sessTransport n) = 2 ∧ s.reg (Reg.sessDeadline n) ≤ s.now then s.closeSession n else s)

/-- DTLS_HANDSHAKE (R30, R422). -/
def execDtlsHandshake (params verifies ownerSigned inValidity : Bool) (key : Nat) (s : State) : Host.Outcome State Fault Refusal :=
  .next (if s.reg Obj.powerState = 7 then s.reply St.updRecovery else if !s.accepts ∨ !params ∨ !verifies then s else s.handshake ownerSigned inValidity key)

/-- DEBUG_CERT_IN (R30, R405). -/
def execDebugCertIn (n : Nat) (v : List Byte) (sigOk cosignOk : Bool) (s : State) : Host.Outcome State Fault Refusal :=
  .next (s.requested n 2 Obj.debugCertIn (fun s => s.certIn n v sigOk cosignOk))

/-- PENDING_SESSION_TIMEOUT (R30): 10 s have passed and the session is not DBG. -/
def execPendingSessionTimeout (n : Nat) (s : State) : Host.Outcome State Fault Refusal :=
  .next (if s.reg (Reg.sessOpen n) = 1 ∧ s.reg (Reg.sessPending n) = 1 ∧ s.reg (Reg.sessDeadline n) ≤ s.now then s.closeSession n else s)

/-- JTAG_DEBUG_OPEN (R405, R122). -/
def execJtagDebugOpen (v : List Byte) (sigOk cosignOk holderOk : Bool) (s : State) : Host.Outcome State Fault Refusal :=
  .next (if s.accepts then s.certJtag v sigOk cosignOk holderOk else s)

/-- DEBUG_CERT_EXPIRY (R405): HoursInService has passed HOURS_UNTIL. -/
def execDebugCertExpiry (n : Nat) (s : State) : Host.Outcome State Fault Refusal :=
  .next (if s.reg (Reg.sessOpen n) = 1 ∧ s.reg (Reg.certRef n) ≠ 0xFF ∧ s.reg (Reg.certUntil n) < s.hoursNow then s.closeSession n else s)

/-- RECOVERY_REQUEST (R422, R423). -/
def execRecoveryRequest (cert : Bool) (v : List Byte) (sigOk cosignOk holderOk innerOk : Bool) (s : State) : Host.Outcome State Fault Refusal :=
  .next (if s.reg Obj.powerState ≠ 7 then s
    else if cert then s.recoveryCert v sigOk cosignOk holderOk
    else s.recoveryPackage v sigOk innerOk)

end Sys2Proof.Machine
end

