-- ==== Sys2Proof/Machine/Dictionary.lean ====
section
/-!
DEFINITION. Machine/Dictionary.lean: the dictionary server (chapter 2): reads and writes of any object by any session, authenticated envelopes, windows,
segments, commits, the owner event ring, the record transports.
-/
namespace Sys2Proof.Machine

namespace Dict

/-! Reads. -/

/-- Element count and size of a table object (R69). -/
def table (idx : Nat) : Option (Nat × Nat) :=
  if idx = 0x6010 ∨ idx = 0x6011 then some (256, 8)
  else if 0x6140 ≤ idx ∧ idx < 0x6180 then some (256, 2)
  else if idx = 0x510 then some (Upd.items.length, 16)
  else if idx = 0x7809 then some (720, 4)
  else none

/-- An element of FirmwareItems (table Update objects). -/
def itemBytes (s : State) (e : Nat) : Bytes :=
  let h := Upd.items.getD e 0
  record [(2, h), (1, if h = U.hal then 0 else if h = U.ens then 2 else 1), (1, s.reg (Reg.itemBank h)), (4, s.reg (Reg.itemVer h 0)), (4, s.reg (Reg.itemVer h 1)),
    (1, s.itemState h 0), (1, s.itemState h 1), (2, 0)]

/-- Bytes of element `e` of a table object. -/
def element (s : State) (n idx e : Nat) : Bytes :=
  if idx = 0x510 then itemBytes s e
  else if idx = 0x7809 then
    leBytes 4 (match s.snapBank n with
      | some b => if s.counterStatus n e = St.ok then (s.num (Num.snapshot b)).getD e 0 else 0
      | none => 0)
  else leBytes (match table idx with | some (_, z) => z | none => 0) (s.reg (okey idx e))

/-- The target index of window `w` lies outside the windows and holds objects. -/
def localIndex (s : State) (n w : Nat) : Bool :=
  decide (s.reg (skey n (Obj.targetIndex w)) < 0xF000) && s.indexKnown (s.reg (skey n (Obj.targetIndex w)))

/-- A window of session `n` reaches this device. -/
def windowLocal (s : State) (n w : Nat) : Bool :=
  s.reg (skey n (Obj.targetDevice w)) == 0xFF || (s.reg Obj.hoistRole == 1 && s.reg (skey n (Obj.targetDevice w)) == s.reg Obj.deviceId)

/-- Mapped (R69, R464). -/
def mapped (s : State) (n w : Nat) : Bool :=
  let d := s.reg (skey n (Obj.targetDevice w))
  if windowLocal s n w then localIndex s n w
  else s.reg Obj.hoistRole == 1 && decide (d < 64) && (s.reg (Reg.hoistSlot d) == 1 || s.reg (Reg.hoistSlot d) == 2) && s.reg (Reg.hoistPath d) != 0

/-- Objects whose value follows from other state: those of every reader, and `Mapped` of the session's windows. -/
def derived (s : State) (n key : Nat) : Option Nat :=
  if 0xF000 ≤ key / 256 ∧ key / 256 < 0xF010 ∧ key % 512 = 4 then some (b2n (mapped s n ((key / 256 - 0xF000) / 2))) else s.derived n key

/-- Objects whose value the spec leaves to the moment (log 33): the input power and the settings store in use. -/
def measured (key : Nat) : Bool := key == Obj.inputPowerMw || key == Obj.settingsUsedKiB

/-- The number an object reads as: the session's own copy, the shadow value, a derived or the active value (R27, R35). -/
def number (s : State) (n key : Nat) (shadow : Bool) (o : ObjRow) : Nat :=
  match derived s n key with
  | some v => v
  | none => if o.perSession then s.reg (skey n key) else if shadow ∧ o.shadowed then s.shadowVal key else s.reg key

/-- Source of transmitted pushed object `t`: index in bits 31:16, sub-index in bits 15:8. -/
def pushSource (s : State) (p t : Nat) : Nat := okey (s.reg (Obj.txSource p t) / 65536) (s.reg (Obj.txSource p t) / 256 % 256)

/-- The bytes of the source, when it is a readable object of at most 64 bytes. -/
def pushValue (s : State) (p t : Nat) : Option (Nat × Bytes) := match objRow (pushSource s p t) with
  | none => none
  | some o =>
    let x := number s (3 + p) (pushSource s p t) false o
    let d := o.kind.encode x
    if o.r = 0 ∨ 64 < d.length then none else some (x, d)

/-- A write of TxCobId, TxSource or TxPeriodMs of pushed object `t` (sub-index 01 to 03): its period begins anew, and a change of the source counts from here. -/
def pushConfig (s : State) (p t sub v : Nat) : State :=
  let s := s.setReg (okey (0x7C30 + 0x80 * p + t) sub) v
  (s.setRegs [(Reg.txSent p t, match pushValue s p t with | some (x, _) => x + 1 | none => 0), (Reg.txFrom p t, s.now)]).reply St.ok

/-- What stands against a read beside the gate: the unit QueryUnit names (R511), the block HqBlock names (R118), the counters of a session (R477). -/
def readBar (s : State) (n key : Nat) : Nat :=
  let q := s.reg (skey n Obj.queryUnit)
  let h := s.reg (skey n Obj.hqBlock)
  if Obj.activeEpoch ≤ key ∧ key ≤ Obj.holder then
    if q = 0xFFFF then St.ok
    else if !s.unitThere q then St.handleUnknown
    else if s.cls n = Cls.gst ∧ !s.holdsBlock (s.reg (Reg.sessWorld n)) q then St.notOwner
    else St.ok
  else if Obj.hqWorld ≤ key ∧ key ≤ Obj.hqWorldGen then (if isBlock h ∨ h = U.check 14 then St.ok else St.handoverNotBlock)
  else if 0x7800 ≤ key / 256 ∧ key / 256 < 0x7806 ∧ key % 256 ≤ 0x80 then s.counterStatus n (128 * (key / 256 - 0x7800) + key % 256 - 1)
  else if key = Obj.pairValue then
    let k := s.reg (skey n Obj.pairSelect)
    if s.counterStatus n k ≠ St.ok then s.counterStatus n k else s.counterStatus n (k + 1)
  else St.ok

/-- Reads that change something (R66, R67, R70) or that take counters as they are now (R476). -/
def taken (s : State) (n key : Nat) (o : ObjRow) : Option (State × Bytes) :=
  let idx := key / 256
  if 0x7C00 ≤ idx ∧ idx < 0x7E00 ∧ idx % 0x80 = 0x42 ∧ key % 256 = 1 then some (Can.takeRx s ((idx - 0x7C00) / 0x80))
  else if idx = 0x7E02 ∨ idx = 0x7E12 then
    if key % 256 = 1 then some (Can.takeHid s ((idx - 0x7E00) / 0x10)) else none
  else if key = Obj.ownerEvData then some (Can.takeOwner s n)
  else if 0x7800 ≤ idx ∧ idx < 0x7806 then
    let k := 128 * (idx - 0x7800) + key % 256 - 1
    let s := s.counterSync k
    some (s, leBytes 4 (s.reg (Reg.counter k)))
  else if key = Obj.pairValue then
    let k := s.reg (skey n Obj.pairSelect)
    let s := (s.counterSync k).counterSync (k + 1)
    some (s, leBytes 8 (s.reg (Reg.counter k) + 0x100000000 * s.reg (Reg.counter (k + 1))))
  else if measured key then some (s.tick, leBytes o.kind.size (s.fresh % 2 ^ (8 * o.kind.size)))
  else none

/-- A directory record (R11, R13). -/
def dirRead (s : State) (n key : Nat) : Nat × Bytes :=
  let h := 8 * (key / 256 - 0x110) + key % 256 - 1
  if s.cls n = Cls.fld then (St.accessDenied, [])
  else if key % 256 = 0 then (St.ok, [8])
  else if 8 < key % 256 then (St.subUnknown, [])
  else if !s.unitThere h then (St.handleUnknown, [])
  else if s.cls n = Cls.gst ∧ !(s.recordReaders h).contains (s.reg (Reg.sessWorld n)) then (St.notOwner, [])
  else (St.ok, s.unitRecord h)

/-- A read of an object of an added unit. -/
def addedRead (s : State) (n idx sub : Nat) (u : AddedUnit) : Nat × Bytes :=
  let st := s.addedStatus n idx sub .r u
  if st ≠ St.ok then (st, []) else (St.ok, if sub = 0 then [1] else padTo 16 u.name)

/-- Sub-index 0 of an index (R25): a class that can read some sub-index reads it, a GST session only where its world holds the unit (R31). -/
def subZero (s : State) (n idx : Nat) : Nat × Bytes :=
  let rows := (objRows.filter (fun o => o.covers idx o.subLo)).filter (fun o => s.classRight (s.cls n) (okey idx o.subLo) o .r)
  if State.noIdentity idx then (s.gate n (okey idx 0) .r, [])
  else if !s.indexKnown idx then (St.indexUnknown, [])
  else if s.unitStatus idx ≠ St.ok then (s.unitStatus idx, [])
  else if rows.isEmpty then (St.accessDenied, [])
  else if s.cls n = Cls.gst ∧ !rows.any (fun o => s.gstReaches (s.reg (Reg.sessWorld n)) (okey idx o.subLo)) then (St.notOwner, [])
  else (St.ok, leBytes 1 (if (table idx).isSome then 0 else s.subMax idx))

/-- A read of an object that is no window's data (R26 to R31, R35): the state after it, the status and the bytes. -/
def read (s : State) (n key : Nat) (shadow : Bool) : State × Nat × Bytes :=
  let idx := key / 256
  if s.reg (Reg.sessPending n) = 1 then (s, St.accessDenied, [])
  else if 0x110 ≤ idx ∧ idx ≤ 0x1CF then (s, dirRead s n key)
  else if let some u := s.addedAt idx then (s, addedRead s n idx (key % 256) u)
  else if key % 256 = 0 then (s, subZero s n idx)
  else if (table idx).isSome then (s, St.subUnknown, [])
  else
    let st := s.gate n key .r
    if st ≠ St.ok then (s, st, [])
    else if readBar s n key ≠ St.ok then (s, readBar s n key, [])
    else match objRow key with
      | none => (s, St.subUnknown, [])
      | some o => match taken s n key o with
        | some (s, d) => (s, St.ok, d)
        | none => (s, St.ok, o.kind.encode (number s n key shadow o))

/-! Writes. -/

/-- The state after a command that a write carries out; a write of an object that has a command of its own is that command. -/
def after (s : State) (o : Host.Outcome State Fault Refusal) : State := match o with
  | .next t => t
  | _ => s

/-- A free truth value that the world outside supplies (log 33). -/
def free (s : State) (f : Bool → State → State) : State := f (s.fresh % 2 == 1) s.tick

/-- Blocks of NOR that fail while a segment is written: a free value (log 33). -/
def badBlocks (s : State) : List Nat := if s.fresh % 3 = 0 then [] else [s.fresh % 3 - 1]

/-- UpdOp values (R411 to R419). -/
def updOp (s : State) (n x : Nat) : State :=
  if x = 1 then after s (execUpdSchedule n s) else if x = 2 then after s (execUpdCancel n s) else if x = 3 then after s (execUpdConfirm n s)
  else if x = 4 then after s (execUpdReject n s) else if x = 5 then after s (execUpdRaiseFloor n s)
  else
    let file := decDomain s.fresh
    after s (execUpdLoadUsb n file (Config.signed (file.take 4096)) (badBlocks s.tick) (Config.signed (file.drop 4096)) s.tick)

/-- InstOp values. -/
def instOp (s : State) (n i x : Nat) : State :=
  if x = 1 then after s (execInstEnable n i s) else if x = 2 then after s (execInstQuiesce n i s) else if x = 3 then after s (execInstResume n i s)
  else if x = 4 then after s (execInstReset n i s) else after s (execInstRemove n i s)

/-- PackageOp values (R246). -/
def packageOp (s : State) (n x : Nat) : State :=
  if x = 1 then after s (execPackageVerify n (Config.ensPackage (decDomain (s.reg Obj.packageStage))) s)
  else if x = 2 then after s (execPackageActivate n s) else after s (execPackageDiscard n s)

/-- FeedOp values (R467): whether the source offers the export, and whether the path carries it, is free. -/
def feedOp (s : State) (n f x : Nat) : State :=
  if x = 1 then after s (execFeedEnable n f (s.fresh % 65) (s.fresh / 128 % 2 == 1) s.tick) else after s (execFeedDisable n f s)

/-- Objects of a guest instance that R518 guards: GuestTag, PeerCertHash, VideoUsbPort. -/
def instObject (s : State) (i sub v : Nat) : State :=
  let set := (s.setReg (okey (0x900 + i) sub) v).reply St.ok
  if sub = 3 then (if s.reg (Obj.instState i) = 0 then set else s.reply St.busy)
  else if sub = 0xB then (if 32 ≤ i ∧ i < 48 then set else s.reply St.valueRange)
  else if 48 ≤ i then set else s.reply St.valueRange

/-- Objects of the fabric whose values bear on each other (R147, R152). -/
def fabricObject (s : State) (c sub v : Nat) : State :=
  let key := okey (0x1010 + c) sub
  let w := fun k => if k = key then v else s.reg k
  let bad := if sub = 1 then (List.range 3).any (fun k => decide (w (Obj.ageLimitUs (k + 1)) < w (Obj.ageLimitUs k)))
    else decide (60 < w (Obj.quotaGrants 0) + w (Obj.quotaGrants 1) + w (Obj.quotaGrants 2))
  if bad then s.reply St.valueRange else (s.setReg key v).reply St.ok

/-- A pin that acts as an input: RemoteOffInput, or bound by the package in force (R502). -/
def pinIsIn (s : State) (o : Nat) : Bool :=
  o != 0xFF && (s.reg Obj.remoteOffInput == o || match s.activePkg with
    | some p => (p.acks.map EnsAck.input ++ p.outputs.map EnsOutput.lamp).contains o
    | none => false)

/-- Objects of the hoist (R455, R456, R460, R466). -/
def hoistObject (s : State) (key v : Nat) : State :=
  if (key = Obj.hoistId ∨ key = Obj.cfgRole ∨ key = Obj.cfgDeviceId ∨ key = Obj.deputyId) ∧ s.reg Obj.hoistState ≠ 0 then s.reply St.hoistState
  else if key = Obj.missedSched ∧ v ≠ 0 then s.reply St.valueRange
  else (s.setReg key v).reply St.ok

/-- TargetDevice of a window (R69, R464). -/
def targetWrite (s : State) (n key v : Nat) : State :=
  if v ≠ 0xFF ∧ (s.cls n = Cls.gst ∨ s.cls n = Cls.fld) then s.reply St.accessDenied
  else if v ≠ 0xFF ∧ (s.reg Obj.hoistRole ≠ 1 ∨ 63 < v) then s.reply St.valueRange
  else (s.setReg (skey n key) v).reply St.ok

/-- OwnerEvPush (R71). -/
def pushWrite (s : State) (n v : Nat) : State :=
  if v = 1 ∧ s.reg (Reg.sessTransport n) ≠ 2 ∧ s.reg (Reg.sessTransport n) ≠ 3 then s.reply St.valueRange
  else (s.setReg (skey n Obj.ownerEvPush) v).reply St.ok

/-- FieldEventMask (R70): OwnerEvLast is the newest record of the ring that a field session may now read (R71); zeros where there is none. -/
def fieldMaskWrite (s : State) (v : Nat) : State :=
  let s := s.setReg Obj.fieldEventMask v
  (s.setReg Obj.ownerEvLast (match s.ownerRing.find? (fun (e : Event) => bit v e.severity) with
    | some e => leNat (State.eventBytes e)
    | none => 0)).reply St.ok

/-- CommitOp values (R38, R45). -/
def commitWrite (s : State) (n x : Nat) : State :=
  let h := s.reg (skey n Obj.commitHandle)
  if x = 1 then s.commitOp n h (s.reg (skey n Obj.commitAt)) else if x = 2 then s.discardOp n h else s.cancelOp n h

/-- QueryPath (R12): a malformed path, a path that names no unit, or its handle. -/
def queryWrite (s : State) (n : Nat) (d : Bytes) : State :=
  let p := (d.map BitVec.toNat)
  let s := s.setReg (skey n Obj.queryPath) (leNat d)
  (if !pathWellFormed p then s.setRegs [(skey n Obj.queryHandle, 0xFFFF), (skey n Obj.queryStatus, St.pathSyntax)]
    else match s.pathUnit p with
      | some h => s.setRegs [(skey n Obj.queryHandle, h), (skey n Obj.queryStatus, St.ok)]
      | none => s.setRegs [(skey n Obj.queryHandle, 0xFFFF), (skey n Obj.queryStatus, St.pathUnknown)]).reply St.ok

/-- Operations of chapters 2 to 9 that a write carries out. -/
def special1 (s : State) (n key : Nat) (d : Bytes) : Option State :=
  let idx := key / 256
  let sub := key % 256
  let v := leNat d
  if key = Obj.queryPath then some (queryWrite s n d)
  else if key = Obj.commitOp then some (commitWrite s n v)
  else if key = Obj.ownerEvPush then some (pushWrite s n v)
  else if key = Obj.fieldEventMask then some (fieldMaskWrite s v)
  else if key = Obj.hoOp then some (if v = 1 then Hand.grantOp s n else Hand.recallOp s n)
  else if 0x800 ≤ idx ∧ idx < 0x840 ∧ sub = 0xA then some (after s (execDebugConsent n (idx - 0x800) d s))
  else if 0x900 ≤ idx ∧ idx < 0x938 then
    let i := idx - 0x900
    if sub = 3 ∨ sub = 0xB ∨ sub = 0xC then some (instObject s i sub v)
    else if 4 ≤ sub ∧ sub ≤ 8 then some (after s (execGrantWrite n i sub v s))
    else if sub = 9 then some (instOp s n i v)
    else none
  else if key = Obj.scanReservedMBps ∨ key = Obj.rtReservedMBps then some (after s (execReserveRateWrite n sub d s))
  else if 0x1010 ≤ idx ∧ idx < 0x1014 then some (fabricObject s (idx - 0x1010) sub v)
  else if 0x1040 ≤ idx ∧ idx < 0x1070 ∧ sub = 1 then some (after s (execClassWrite n (idx - 0x1040) d s))
  else if key = Obj.packageOp then some (packageOp s n v)
  else if key = Obj.alarmOutNoScreen ∨ key = Obj.alarmOutDegraded then
    some (if pinIsIn s v then s.reply St.valueRange else ((s.setReg key v).ioDerive).reply St.ok)
  else if 0xF000 ≤ idx ∧ idx < 0xF010 ∧ idx % 2 = 0 ∧ sub = 1 then some (targetWrite s n key v)
  else none

/-- Operations of the CAN FD and USB host ports that a write carries out (R60 to R67). -/
def special2 (s : State) (key : Nat) (d : Bytes) : Option State :=
  let idx := key / 256
  let sub := key % 256
  let v := leNat d
  if 0x7C00 ≤ idx ∧ idx < 0x7E00 then
    let p := (idx - 0x7C00) / 0x80
    let o := (idx - 0x7C00) % 0x80
    if o = 0 ∧ sub = 4 then some (Can.producerWrite s p v)
    else if o = 1 then some (Can.consumerWrite s p (sub - 1) v)
    else if 0x10 ≤ o ∧ o < 0x30 ∧ sub = 3 then some (Can.checkUnitWrite s p (o - 0x10) v)
    else if 0x10 ≤ o ∧ o < 0x30 ∧ sub = 4 then some (Can.staleWrite s p (o - 0x10) v)
    else if 0x30 ≤ o ∧ o < 0x38 then some (pushConfig s p (o - 0x30) sub v)
    else if o = 0x40 ∧ sub ≤ 4 then some (Can.rawConfig s p sub v)
    else if o = 0x42 ∧ sub = 2 then some (Can.rawTxWrite s p d)
    else none
  else if 0x7E00 ≤ idx ∧ idx < 0x7E20 then
    let h := (idx - 0x7E00) / 0x10
    let o := (idx - 0x7E00) % 0x10
    if o = 0 ∧ sub = 2 then some (Can.portOp s h)
    else if o = 2 ∧ sub = 2 then some (Can.hidOutWrite s h d)
    else some (s.reply St.accessDenied)
  else none

/-- Operations of the haptic channels, cores, check units, the security and the update unit that a write carries out. -/
def special3 (s : State) (n key : Nat) (d : Bytes) : Option State :=
  let idx := key / 256
  let sub := key % 256
  let v := leNat d
  if 0x6801 ≤ idx ∧ idx < 0x7000 ∧ (idx - 0x6801) % 0x40 = 0 ∧ sub ≤ 2 then
    let c := (idx - 0x6801) / 0x40
    some (if sub = 1 then s.stageWrite c d else if v = 1 then s.verifyProgram c (Config.signed (s.image c (s.idleBank c))) else s.emptyProgram c)
  else if 0x6802 ≤ idx ∧ idx < 0x7000 ∧ (idx - 0x6802) % 0x40 = 0 ∧ sub = 1 then some (s.mailboxWrite ((idx - 0x6802) / 0x40) d)
  else if 0x7000 ≤ idx ∧ idx < 0x7400 ∧ idx % 0x40 = 0 then some (s.chkWrite ((idx - 0x7000) / 0x40) sub d)
  else if key = Obj.attestOp then some (s.attestWrite n)
  else if key = Obj.cryptoOp then some (s.cryptoWrite n v)
  else if key = Obj.keyOp then some (s.tick.keyOpWrite n (s.fresh % 64) v)
  else if key = Obj.ownerOp then some (s.ownerWrite (Config.signed (decDomain (s.reg Obj.ownerTicket))))
  else if key = Obj.debugCertIn then some (s.reply St.accessDenied)
  else if key = Obj.updHeader then some (s.updHeaderWrite n d (Config.signed d))
  else if key = Obj.updOp then some (updOp s n v)
  else match (List.range 24).find? (fun x => decide (key = Obj.hapChPlayEffect (x / 8) (x % 8))) with
    | some x => some (after s (execPlayEffect n (x / 8) (x % 8) d s))
    | none => none

/-- Operations of chapters 18 to 23 that a write carries out. -/
def special4 (s : State) (n key : Nat) (d : Bytes) : Option State :=
  let idx := key / 256
  let sub := key % 256
  let v := leNat d
  if key = Obj.exportOp then some (Jnl.exportBuild s n)
  else if idx = 0x301 ∧ (sub = 1 ∨ sub = 3 ∨ sub = 4) then some (s.holdupWrite sub v)
  else if key = Obj.hoistOp then some (if v = 1 then free s (fun b s => s.hoistJoin n b) else s.hoistLeave n)
  else if idx = 0x7400 ∨ key = Obj.missedSched then some (hoistObject s key v)
  else if 0x7420 ≤ idx ∧ idx < 0x7430 ∧ sub = 9 then some (feedOp s n (idx - 0x7420) v)
  else if key = Obj.chainMask then some (s.chainWrite n v)
  else if key = Obj.overflowClear then some (s.overflowClear n v)
  else if key = Obj.snapshotOp then some (if v = 1 then s.snapTake n else s.snapRelease n)
  else if 0x7820 ≤ idx ∧ idx < 0x7824 ∧ sub = 3 then some (if v = 1 then s.sampArm n (idx - 0x7820) else s.sampDisarm n (idx - 0x7820))
  else if 0x38 ≤ idx ∧ idx < 0x3C ∧ sub = 1 then some (s.ethWrite (idx - 0x38) v)
  else if key = Obj.ioPolarity then some (((s.setReg key v).ioDerive).reply St.ok)
  else none

/-- The value that a write stores: a zero-length coefficient set stands for the default one (R223). -/
def stored (key : Nat) (o : ObjRow) (d : Bytes) : Nat :=
  if 0x3020 ≤ key / 256 ∧ key / 256 < 0x4020 ∧ (key / 256 - 0x3020) % 0x200 = 0 ∧ d = [] then objDefault key else o.kind.decode d

/-- A write of an object that is neither AuthEnvelope nor a window's data. -/
def writePlain (s : State) (n key : Nat) (d : Bytes) : State :=
  if key % 256 = 0 then s.reply (if s.indexKnown (key / 256) then St.accessDenied else St.indexUnknown)
  else if (table (key / 256)).isSome ∨ key = Obj.voltMinMv 4 ∨ key = Obj.voltMaxMv 4 then s.reply St.subUnknown
  else
    let st := s.writeStatus n key d
    if st ≠ St.ok then s.reply st
    else match ((special1 s n key d).or (special2 s key d)).or ((special3 s n key d).or (special4 s n key d)) with
      | some t => t
      | none => match objRow key with
        | some o => s.store n key (stored key o d) o
        | none => s.reply St.indexUnknown

/-- A write of element `e` of a table object through a window (R342 and the tables of chapter 14): a KIND outside 0 to 7, a derived KIND, a domain of the test sine outside 0 to 2, or a TRIM outside -12,000 to
+1,200 is VALUE_RANGE. -/
def elementWrite (s : State) (n idx e : Nat) (d : Bytes) : State :=
  let key := okey idx e
  let st := s.gate n key .w
  match table idx, objRow key with
  | some (count, z), some o =>
    if count ≤ e then s.reply St.subUnknown
    else if st ≠ St.ok then s.reply st
    else if d.length ≠ z then s.reply St.typeMismatch
    else if 248 ≤ e then s.reply St.accessDenied
    else if idx = 0x6010 ∧ (Aud.kind (leNat d) = 1 ∨ Aud.kind (leNat d) = 4 ∨ 7 < Aud.kind (leNat d) ∨ (Aud.kind (leNat d) = 7 ∧ 2 < Aud.dom (leNat d))
        ∨ toSigned 2 (bytesAt d 4 2) < -12000 ∨ 1200 < toSigned 2 (bytesAt d 4 2)) then
      s.reply St.valueRange
    else s.store n key (leNat d) o
  | _, _ => s.reply St.indexUnknown

/-! Windows (R68, R69, R464). -/

/-- Window whose data index this is. -/
def windowOf (idx : Nat) : Option Nat := if 0xF000 ≤ idx ∧ idx < 0xF010 ∧ idx % 2 = 1 then some ((idx - 0xF000) / 2) else none

/-- What an index and sub-index name for a session (R68, R69): an object of this device, an element of a table object, an object of another device of the hoist
behind window `w`, or nothing that can be reached, with its status. -/
inductive Place where
  | here (key : Nat) | element (idx e : Nat) | far (w : Nat) | barred (st : Nat)
  deriving DecidableEq, Repr

/-- The place of a key for session `n`. Data sub-index k of a window on a table object reaches element ElementBase + k - 1; sub-index 0 keeps its own meaning. -/
def place (s : State) (n key : Nat) : Place := match windowOf (key / 256) with
  | none => .here key
  | some w =>
    let idx := s.reg (skey n (Obj.targetIndex w))
    if !mapped s n w then .barred St.windowUnmapped
    else if !windowLocal s n w then .far w
    else if (table idx).isNone ∨ key % 256 = 0 then .here (okey idx (key % 256))
    else .element idx (s.reg (skey n (Obj.elementBase w)) + key % 256 - 1)

/-- Forward a record of session `n` to the device that window `w` names (R464): its OP, FLAGS, OFFSET and LEN as they are (R35, R58). -/
def forward (s : State) (n w op flags sub off len : Nat) (d : Bytes) : State :=
  let dev := s.reg (skey n (Obj.targetDevice w))
  let l := s.reg (Reg.hoistPath dev) - 1
  let on := s.num (Num.linkSessions l)
  if !on.contains n ∧ 4 ≤ on.length then s.reply St.sessionLimit
  else
    let s := (s.setNum (Num.linkSessions l) (if on.contains n then on else on ++ [n])).setReg (Reg.winWait n) 1
    s.hoistSend 0x01 dev 3 n (record [(1, op), (1, flags), (2, s.reg (skey n (Obj.targetIndex w))), (1, sub), (1, 0), (2, len), (4, off), (2, 0), (2, 0)]
      ++ d ++ List.replicate ((4 - d.length % 4) % 4) 0)

/-- The unit of the object that a key names for a session: none where it lies on another device. -/
def placeUnit (s : State) (n key : Nat) : Option Nat := match place s n key with
  | .here k => unitOfKey k
  | .element idx _ => unitOfIndex idx
  | _ => none

/-! Authenticated envelopes (R54 to R57, R515). -/

/-- FLAGS bit 0: full freshness. -/
def full (d : Bytes) : Bool := bit (bytesAt d 1 1) 0
/-- OP. -/
def envOp (d : Bytes) : Nat := bytesAt d 3 1
/-- LEN. -/
def envLen (d : Bytes) : Nat := bytesAt d 7 1
/-- Offset of DATA. -/
def envAt (d : Bytes) : Nat := if full d then 14 else 9
/-- DATA. -/
def envData (d : Bytes) : Bytes := (d.drop (envAt d)).take (envLen d)

/-- The envelope cannot be parsed (R515 step 1). -/
def malformed (d : Bytes) : Bool :=
  let op := envOp d
  d.length < 9 || bytesAt d 0 1 != 1 || decide (3 < bytesAt d 1 1) || decide (3 < bytesAt d 2 1) || op == 0 || decide (4 < op) || decide (32 < envLen d)
    || (op == 2 && envLen d != 0 && envLen d != 8) || (decide (2 < op) && envLen d != 0) || (decide (1 < op) && bytesAt d 6 1 != 0)
    || d.length != envAt d + envLen d + 8

/-- The freshness an envelope carries, a short one reconstructed (R55). -/
def freshness (last : Nat) (d : Bytes) : Nat :=
  if full d then bytesAt d 8 6 else last + Chk.aliveStep 8 (bytesAt d 8 1) (last % 256)

/-- The TAG that an envelope must carry (R54). -/
def envTag (s : State) (k fr : Nat) (d : Bytes) : Bytes :=
  (Aes.cmac (Sha.beBytes 32 (s.reg (Reg.slotKey k))) (leBytes 8 (s.reg Obj.unitSerial) ++ d.take 8 ++ leBytes 6 fr ++ envData d)).take 8

/-- Refusal of an envelope by its form, key and freshness (R515 steps 1 to 5), and before them in RETIRED (R393); without an identity the owner keys are
sealed (R395). -/
def envStatus (s : State) (d : Bytes) : Nat :=
  let k := bytesAt d 2 1
  let last := s.reg (Obj.lastFreshness k)
  let fr := freshness last d
  if s.reg Obj.lifecycleState = 4 then St.lifecycleState
  else if malformed d then St.malformed
  else if s.slotSealed k then St.identityUnavailable
  else if s.reg (Obj.slotState k) ≠ 1 ∨ s.reg (Obj.slotKind k) ≠ 1 then St.keyEmpty
  else if s.now < s.reg (Reg.authLockUntil k) then St.authLockout
  else if last = 2 ^ 48 - 1 then St.limitReached
  else if full d then (if fr ≤ last then St.freshnessStale else St.ok)
  else if s.reg Obj.permittedGap < fr - last ∨ 2 ^ 48 - 1 < fr then St.freshnessGap
  else St.ok

/-- A TAG that does not match (R56). -/
def authFail (s : State) (k : Nat) : State :=
  let f := s.reg (Reg.authFails k) + 1
  let len := if s.reg (Reg.authLockS k) = 0 then 1 else s.reg (Reg.authLockS k)
  let s := s.setReg (Reg.authFails k) f
  let s := if f % 8 = 0 then s.setRegs [(Reg.authLockUntil k, s.now + 1000000000 * len), (Reg.authLockS k, min 64 (2 * len))] else s
  (s.raise [.hal, .owner] U.sec St.authFail 0xFF 2 [(1, k), (1, min 255 f)]).reply St.authFail

/-- The inner request of a verified envelope (R57, R515), with OWN rights; `write` carries out its write. -/
def envInner (write : State → Nat → Bytes → State) (s : State) (n : Nat) (d : Bytes) : State :=
  let op := envOp d
  let target := bytesAt d 4 2
  let s := s.setReg (Reg.sessAs n) 1
  let s :=
    if op = 2 then s.commitOp n target (leNat (envData d))
    else if op = 3 then s.discardOp n target
    else if op = 4 then s.cancelOp n target
    else
      let key := okey target (bytesAt d 6 1)
      let s := write s key (envData d)
      if !bit (bytesAt d 1 1) 1 ∨ s.answer.status ≠ St.ok then s
      else match placeUnit s n key with
        | some h => if s.boundaryOf h = 0 then s else s.commitOp n h 0
        | none => s
  s.setReg (Reg.sessAs n) 0

/-- A write of AuthEnvelope (R515). The freshness is journalled before the answer. -/
def envelope (write : State → Nat → Bytes → State) (s : State) (n : Nat) (d : Bytes) : State :=
  let k := bytesAt d 2 1
  let fr := freshness (s.reg (Obj.lastFreshness k)) d
  let st := envStatus s d
  if st ≠ St.ok then s.reply st
  else if d.drop (envAt d + envLen d) ≠ envTag s k fr d then authFail s k
  else
    let s := s.setRegs [(Obj.lastFreshness k, fr), (Reg.authFails k, 0), (Reg.authLockS k, 0)]
    envInner write (s.jnl 0x32 U.sec 0xFF 0xFF false (record [(1, k), (6, fr)])) n d

/-- A read of an element of a table object through a window (R69). -/
def elementRead (s : State) (n idx e : Nat) (shadow : Bool) : Nat × Bytes := match table idx with
  | none => (St.indexUnknown, [])
  | some (count, z) =>
    let st := s.gate n (okey idx (min e 255)) .r
    if st ≠ St.ok then (st, [])
    else if count ≤ e then (St.subUnknown, [])
    else if shadow ∧ idx ≠ 0x510 ∧ idx ≠ 0x7809 ∧ idx ≠ 0x6011 then (St.ok, leBytes z (s.shadowVal (okey idx e)))
    else (St.ok, element s n idx e)

/-- Sub-index 0 of a window's data index on a table object (R69): the lesser of 254 and the elements from ElementBase on. -/
def elementCount (s : State) (n w idx : Nat) : Nat × Bytes := match table idx with
  | none => subZero s n idx
  | some (count, _) =>
    let st := s.gate n (okey idx 0) .r
    if st ≠ St.ok then (st, []) else (St.ok, leBytes 1 (min 254 (count - s.reg (skey n (Obj.elementBase w)))))

/-- A read of any object; one that goes to another device answers later. -/
def readAny (s : State) (n key : Nat) (shadow : Bool) : State × Option (Nat × Bytes) :=
  match place s n key with
  | .barred st => (s, some (st, []))
  | .far w => (forward s n w 1 (b2n shadow) (key % 256) 0 0 [], none)
  | .element idx e => (s, some (elementRead s n idx e shadow))
  | .here k =>
    if k ≠ key ∧ k % 256 = 0 ∧ (table (k / 256)).isSome then (s, some (elementCount s n (((key / 256) - 0xF000) / 2) (k / 256)))
    else match read s n k shadow with
      | (s, r) => (s, some r)

/-- A write of any object. `fuel` bounds envelopes within envelopes, which the 32 bytes of DATA allow once. -/
def write : Nat → State → Nat → Nat → Bytes → State
  | 0, s, _, _, _ => s.reply St.malformed
  | fuel + 1, s, n, key, d => match place s n key with
    | .barred st => s.reply st
    | .far w => forward s n w 2 0 (key % 256) 0 d.length d
    | .element idx e => elementWrite s n idx e d
    | .here k =>
      if k = Obj.authEnvelope then
        let st := s.writeStatus n k d
        if st ≠ St.ok then s.reply st else envelope (fun s k d => write fuel s n k d) s n d
      else writePlain s n k d

/-- A write of an object by a session. -/
abbrev writeObject (s : State) (n key : Nat) (d : Bytes) : State := write 4 s n key d

/-- Answer a read. -/
def readObject (s : State) (n key : Nat) (shadow : Bool) : State :=
  match readAny s n key shadow with
  | (s, some (st, d)) => { s with answer := ⟨st, d⟩ }
  | (s, none) => s

/-! Records and segments (R58, R59). -/

/-- The session's responses are kept (R59): it runs over Ethernet. -/
def keeps (s : State) (n : Nat) : Bool := s.reg (Reg.sessTransport n) == 2 || s.reg (Reg.sessTransport n) == 3

/-- The datagram of a record can be parsed (R59). -/
def datagramOk (r : Rec) : Bool :=
  r.magic == 0x4A46 && r.version == 1 && decide (1 ≤ r.count) && decide (r.count ≤ 16) && decide (r.size ≤ 1472) && decide (r.pos < r.count)

/-- The record can be parsed (R58): no reserved bit of FLAGS, RSV and STATUS zero, LEN at most 1,024, OP that of a request. -/
def recordOk (r : Rec) (len : Nat) : Bool :=
  decide (1 ≤ r.op) && decide (r.op ≤ 5) && decide (r.flags < 4) && r.rsv == 0 && r.status == 0 && decide (len ≤ 1024)

/-- Keep an answer: those to the records of the last 16 datagrams stay (R59). -/
def keepAnswer (l : List Kept) (k : Kept) : List Kept :=
  (k :: l).filter (fun (x : Kept) => ((((k :: l).map Kept.seq).eraseDups).take 16).contains x.seq)

/-- The record is one that has not come before on a remote guest's association (R133): SEQ is the next. -/
def inOrder (s : State) (n : Nat) (r : Rec) : Bool := s.reg (Reg.sessTransport n) != 7 || r.seq == s.reg (Reg.remoteRx (s.reg (Reg.sessPort n))) + 1

/-- Carry out a record of session `n` on object `key` whose row has code `op` and `len` data bytes: a record of another row is not this command; a datagram or record
that cannot be parsed is MALFORMED (R58); a record answered before receives the kept response (R59). -/
def recorded (s : State) (n : Nat) (r : Rec) (op key off len : Nat) (f : State → State) : State :=
  if !s.serves n ∨ (r.op ≠ op ∧ 1 ≤ r.op ∧ r.op ≤ 5) then s
  else if !inOrder s n r then s.stray (s.reg (Reg.sessPort n)) 0
  else if s.overruns n then (s.heard n).overrun (s.reg (Reg.sessPort n))
  else if keeps s n ∧ !datagramOk r then (s.heard n).reply St.malformed
  else
    let once := fun (s : State) => (if recordOk r len then f s else s.reply St.malformed).posted n r.op key off r.tag (r.seq % 65536)
    if !keeps s n then once (s.heard n)
    else match (Kmap.get [] s.kept n).find? (fun (k : Kept) => k.seq == r.seq && k.pos == r.pos) with
      | some k => { s.heard n with answer := k.ans }
      | none =>
        let s := once (s.heard n)
        { s with kept := Kmap.set [] s.kept n (keepAnswer (Kmap.get [] s.kept n) ⟨r.seq, r.pos, s.answer⟩) }

/-- End the partial value of session `n`. -/
def partEnd (s : State) (n : Nat) : State := s.setRegs [(Reg.partKey n, 0), (Reg.partValue n, 0), (Reg.partDeadline n, 0)]

/-- A write segment of an object of this device (R58). A segment at offset 0 begins a new value; the one partial value a session holds gives way to it (DESIGN CHOICE,
log 41). -/
def segmentHere (s : State) (n key off : Nat) (last : Bool) (d : Bytes) : State :=
  let st := s.gate n key .w
  let old := if off = 0 then [] else decDomain (s.reg (Reg.partValue n))
  if st ≠ St.ok then s.reply st
  else if key = Obj.updBody then s.tick.updBodyWrite n off last d (badBlocks s) (Config.signed ((s.fifo Fifo.updBody).headD [] ++ d))
  else match objRow key with
    | some ⟨_, _, _, _, _, _, .domain m, _, _, _, _, _, _, _⟩ =>
      if off ≠ 0 ∧ (s.reg (Reg.partKey n) ≠ key + 1 ∨ off ≠ old.length) then s.reply St.domainOrder
      else if m < off + d.length then (partEnd s n).reply St.typeMismatch
      else if last then writeObject (partEnd s n) n key (old ++ d)
      else (s.setRegs [(Reg.partKey n, key + 1), (Reg.partValue n, encDomain (old ++ d)), (Reg.partDeadline n, s.now + 2000000000)]).reply St.ok
    | _ => s.reply St.typeMismatch

/-- A write segment (R58), through a window too (R69). -/
def segment (s : State) (n key off : Nat) (last : Bool) (d : Bytes) : State := match place s n key with
  | .barred st => s.reply st
  | .far w => forward s n w 4 (2 * b2n last) (key % 256) off d.length d
  | .element idx _ => s.reply (if s.gate n (okey idx 0) .w = St.ok then St.typeMismatch else s.gate n (okey idx 0) .w)
  | .here k => segmentHere s n k off last d

/-- A read of the object removes what it returns (R66, R67, R70). -/
def removes (key : Nat) : Bool :=
  ((key / 256) % 0x80 == 0x42 && decide (0x7C00 ≤ key / 256) && decide (key / 256 < 0x7E00)) || key == Obj.hidIn 0 || key == Obj.hidIn 1 || key == Obj.ownerEvData

/-- A read segment, through a window too. A value that a read removes is taken at offset 0 and read on from the session's own copy. -/
def readSegment (s : State) (n key : Nat) (shadow : Bool) (off len : Nat) : State := match place s n key with
  | .far w => forward s n w 3 (b2n shadow) (key % 256) off len []
  | .here k =>
    if removes k ∧ off ≠ 0 then
      { s with answer := ⟨s.gate n k .r, if s.gate n k .r = St.ok then ((decDomain (s.reg (skey n k))).drop off).take len else []⟩ }
    else
      let s := readObject s n key shadow
      let d := s.answer.data
      let s := if removes k ∧ s.answer.status = St.ok then s.setReg (skey n k) (encDomain d) else s
      { s with answer := ⟨s.answer.status, (d.drop off).take len⟩ }
  | _ =>
    let s := readObject s n key shadow
    { s with answer := ⟨s.answer.status, (s.answer.data.drop off).take len⟩ }

/-- A write of a session that may be pending (R30): the debug certificate is the one write that a pending session may make. -/
def writeAny (s : State) (n key : Nat) (d : Bytes) : State :=
  if s.reg (Reg.sessPending n) = 0 then writeObject s n key d
  else if key = Obj.debugCertIn then s.certIn n d (Config.signed d) (Config.signed (d.take 360))
  else s.reply St.accessDenied

/-- What a session that may be pending reads or aborts: nothing while it is (R30). -/
def unlessPending (s : State) (n : Nat) (f : State → State) : State := if s.reg (Reg.sessPending n) = 1 then s.reply St.accessDenied else f s

end Dict

/-- QUERY_PATH (R12). -/
def execQueryPath (n : Nat) (v : List Byte) (s : State) : Host.Outcome State Fault Refusal :=
  s.whenUp (fun s =>
    .next (s.written n Obj.queryPath v (fun s => Dict.queryWrite s n v)))

/-- OBJECT_WRITE (R26 to R32, R36). -/
def execObjectWrite (n idx sub : Nat) (v : List Byte) (s : State) : Host.Outcome State Fault Refusal :=
  s.whenUp (fun s =>
    .next (s.requested n 2 (okey idx (sub % 256)) (fun s => Dict.writeAny s n (okey idx (sub % 256)) v)))

/-- RECORD_READ (R35, R59): FLAGS bit 0 SHADOW. -/
def execRecordRead (n : Nat) (r : Rec) (idx sub : Nat) (s : State) : Host.Outcome State Fault Refusal :=
  s.whenUp (fun s =>
    .next (Dict.recorded s n r 1 (okey idx (sub % 256)) 0 0 (fun s => Dict.unlessPending s n (fun s => Dict.readObject s n (okey idx (sub % 256)) (bit r.flags 0)))))

/-- RECORD_WRITE (R28, R30, R59). -/
def execRecordWrite (n : Nat) (r : Rec) (idx sub : Nat) (v : List Byte) (s : State) : Host.Outcome State Fault Refusal :=
  s.whenUp (fun s =>
    .next (Dict.recorded s n r 2 (okey idx (sub % 256)) 0 v.length (fun s => Dict.writeAny s n (okey idx (sub % 256)) v)))

/-- READ_SEGMENT (R58, R59). -/
def execReadSegment (n : Nat) (r : Rec) (idx sub off len : Nat) (s : State) : Host.Outcome State Fault Refusal :=
  s.whenUp (fun s =>
    .next (Dict.recorded s n r 3 (okey idx (sub % 256)) off len (fun s => Dict.unlessPending s n (fun s => Dict.readSegment s n (okey idx (sub % 256)) (bit r.flags 0) off len))))

/-- WRITE_SEGMENT (R58, R59): FLAGS bit 1 LAST. -/
def execWriteSegment (n : Nat) (r : Rec) (idx sub off : Nat) (v : List Byte) (s : State) : Host.Outcome State Fault Refusal :=
  s.whenUp (fun s =>
    .next (Dict.recorded s n r 4 (okey idx (sub % 256)) off v.length (fun s => Dict.unlessPending s n (fun s => Dict.segment s n (okey idx (sub % 256)) off (bit r.flags 1) v))))

/-- RECORD_ABORT (R58). -/
def execRecordAbort (n : Nat) (r : Rec) (s : State) : Host.Outcome State Fault Refusal :=
  s.whenUp (fun s =>
    .next (Dict.recorded s n r 5 0 0 0 (fun s => Dict.unlessPending s n (fun s => (Dict.partEnd s n).reply St.transferTimeout))))

/-- TRANSFER_TIMEOUT (R58): 2 s without a further segment. -/
def execTransferTimeout (n : Nat) (s : State) : Host.Outcome State Fault Refusal :=
  s.whenUp (fun s =>
    .next (if s.reg (Reg.partKey n) = 0 ∨ s.now < s.reg (Reg.partDeadline n) then s else (Dict.partEnd s n).reply St.transferTimeout))

/-- COMMIT (R38): CommitOp 1. -/
def execCommit (n : Nat) (s : State) : Host.Outcome State Fault Refusal :=
  s.whenUp (fun s =>
    .next (s.written n Obj.commitOp [1] (fun s => Dict.commitWrite s n 1)))

/-- DISCARD_SHADOW (R45): CommitOp 2. -/
def execDiscardShadow (n : Nat) (s : State) : Host.Outcome State Fault Refusal :=
  s.whenUp (fun s =>
    .next (s.written n Obj.commitOp [2] (fun s => Dict.commitWrite s n 2)))

/-- CANCEL_PENDING (R45): CommitOp 3. -/
def execCancelPending (n : Nat) (s : State) : Host.Outcome State Fault Refusal :=
  s.whenUp (fun s =>
    .next (s.written n Obj.commitOp [3] (fun s => Dict.commitWrite s n 3)))

/-- `k` events of one source cross to unit `h` (R78): each is an instant; of more than 15 the receiver delivers 15 and raises EVENT_OVERRUN. -/
def State.crossings (s : State) (h k : Nat) : State :=
  let s := (List.range (min 15 k)).foldl (fun s _ => s.boundary (s.sourceOf h)) s
  if k ≤ 15 then s else s.raise [.hal, .owner] h St.eventOverrun 0xFF 3 []

/-- BOUNDARY_APPLY (R41, R44, R46, R48, R78, R79): the boundary source of unit `h` has reached its instant, `k` times since the unit took the last. Nothing
crosses a boundary port between steps 1 and 6 of its reset (R80). -/
def execBoundaryApply (h k : Nat) (s : State) : Host.Outcome State Fault Refusal :=
  s.whenUp (fun s =>
    .next (if !s.unitThere h ∨ s.sourceOf h = 0 ∨ s.reg (Reg.portReset h) = 1 then s else s.crossings h k))

/-- SCHED_TIME_LOST (R50): CommitAt has come and TimeLocked reads 0. -/
def execSchedTimeLost (h : Nat) (s : State) : Host.Outcome State Fault Refusal :=
  s.whenUp (fun s =>
    .next (if s.reg (Reg.pendAt h) = 0 ∨ s.now < s.reg (Reg.pendAt h) ∨ s.lockedAt h then s else s.schedDrop h))

/-- SHADOW_HOLD_EXPIRY (R37): ShadowHoldMs has passed without a write from the holder. -/
def execShadowHoldExpiry (h : Nat) (s : State) : Host.Outcome State Fault Refusal :=
  s.whenUp (fun s =>
    .next (if s.reg (Reg.holder h) = 0 ∨ s.now < s.reg (Reg.holdDeadline h) then s else s.loseShadow h 2))

/-- AUTH_WRITE (R515): an envelope with OP 0x01. -/
def execAuthWrite (n : Nat) (v : List Byte) (s : State) : Host.Outcome State Fault Refusal :=
  s.whenUp (fun s =>
    .next (if !Dict.malformed v ∧ Dict.envOp v ≠ 1 then s else s.request n 2 Obj.authEnvelope (fun s => Dict.writeObject s n Obj.authEnvelope v)))

/-- AUTH_COMMIT (R515): an envelope with OP 0x02. -/
def execAuthCommit (n : Nat) (v : List Byte) (s : State) : Host.Outcome State Fault Refusal :=
  s.whenUp (fun s =>
    .next (if !Dict.malformed v ∧ Dict.envOp v ≠ 2 then s else s.request n 2 Obj.authEnvelope (fun s => Dict.writeObject s n Obj.authEnvelope v)))

/-- AUTH_DISCARD (R515): an envelope with OP 0x03. -/
def execAuthDiscard (n : Nat) (v : List Byte) (s : State) : Host.Outcome State Fault Refusal :=
  s.whenUp (fun s =>
    .next (if !Dict.malformed v ∧ Dict.envOp v ≠ 3 then s else s.request n 2 Obj.authEnvelope (fun s => Dict.writeObject s n Obj.authEnvelope v)))

/-- AUTH_CANCEL (R515): an envelope with OP 0x04. -/
def execAuthCancel (n : Nat) (v : List Byte) (s : State) : Host.Outcome State Fault Refusal :=
  s.whenUp (fun s =>
    .next (if !Dict.malformed v ∧ Dict.envOp v ≠ 4 then s else s.request n 2 Obj.authEnvelope (fun s => Dict.writeObject s n Obj.authEnvelope v)))

/-- AUTH_LOCKOUT_END (R56): the lockout of key `k` is over. -/
def execAuthLockoutEnd (k : Nat) (s : State) : Host.Outcome State Fault Refusal :=
  s.whenUp (fun s =>
    .next (if s.now < s.reg (Reg.authLockUntil k) then s else s.setReg (Reg.authLockUntil k) 0))

/-- WINDOW_ACCESS (R69, R464): sub-index `sub` of the data index of window `w`. -/
def execWindowAccess (n w sub : Nat) (wr : Bool) (v : List Byte) (s : State) : Host.Outcome State Fault Refusal :=
  s.whenUp (fun s =>
    .next (if 7 < w then s
      else s.request n (if wr then 2 else 1) (okey (0xF001 + 2 * w) (sub % 256)) (fun s =>
        if wr then Dict.writeObject s n (okey (0xF001 + 2 * w) (sub % 256)) v else Dict.readObject s n (okey (0xF001 + 2 * w) (sub % 256)) false)))

/-- OWNER_EV_READ (R70). -/
def execOwnerEvRead (n : Nat) (s : State) : Host.Outcome State Fault Refusal :=
  s.whenUp (fun s =>
    .next (s.request n 1 Obj.ownerEvData (fun s => Dict.readObject s n Obj.ownerEvData false)))

/-- OWNER_EV_PUSH (R71). -/
def execOwnerEvPush (n : Nat) (v : List Byte) (s : State) : Host.Outcome State Fault Refusal :=
  s.whenUp (fun s =>
    .next (s.written n Obj.ownerEvPush v (fun s => Dict.pushWrite s n (leNat v))))

/-- Session that serves the forwarded session `sess` of device `src` on link `l`. -/
def Dict.farSession (s : State) (l src sess : Nat) : Option Nat :=
  (List.range (s.reg Reg.nextSession + 1)).find? (fun n => s.reg (Reg.sessOpen n) == 1 && s.reg (Reg.sessTransport n) == 6 && s.reg (Reg.sessPort n) == l
    && s.reg (Reg.sessFar n) == src * 65536 + sess)

/-- Carry out a forwarded record as session `n` and answer it to its device (R464): its OP, FLAGS, OFFSET and LEN have the meaning they have on this device. -/
def Dict.farServe (s : State) (n src sess op flags idx sub off len : Nat) (v : Bytes) : State :=
  let key := okey idx (sub % 256)
  let s := if op < 1 ∨ 5 < op ∨ 4 ≤ flags ∨ 1024 < len then s.reply St.malformed
    else if op = 1 then Dict.readObject s n key (bit flags 0)
    else if op = 2 then Dict.writeObject s n key v
    else if op = 3 then Dict.readSegment s n key (bit flags 0) off len
    else if op = 4 then Dict.segment s n key off (bit flags 1) v
    else (Dict.partEnd s n).reply St.transferTimeout
  s.hoistSend 0x81 src 3 sess (respRecord op idx sub off s.answer.status 0 (if op = 1 ∨ op = 3 then s.answer.data else []))

/-- HOIST_DICT_REQUEST (R464). -/
def execHoistDictRequest (l : Nat) (ok : Bool) (src sess cl w op flags idx sub off len : Nat) (v : List Byte) (s : State) :
    Host.Outcome State Fault Refusal :=
  s.whenUp (fun s =>
    .next (s.linkFrame l ok (fun s =>
      if !s.accepts then s
      else match Dict.farSession s l src sess with
        | some n => Dict.farServe s n src sess op flags idx sub off len v
        | none =>
          if !s.sessionRoom 6 l then s.hoistSend 0x81 src 3 sess (respRecord op idx sub off St.sessionLimit 0 [])
          else
            let n := s.reg Reg.nextSession + 1
            Dict.farServe ((s.openSession 6 l (cl % 6) w).setReg (Reg.sessFar n) (src * 65536 + sess)) n src sess op flags idx sub off len v)))

/-- HOIST_DICT_RESPONSE (R464): the response of a hoist device to session `sess`. -/
def execHoistDictResponse (l : Nat) (ok : Bool) (sess st : Nat) (v : List Byte) (s : State) : Host.Outcome State Fault Refusal :=
  s.whenUp (fun s =>
    .next (s.linkFrame l ok (fun s =>
      if s.reg (Reg.winWait sess) = 0 then s
      else
        let i := s.reg (Reg.sessPort sess)
        { s.setReg (Reg.winWait sess) 0 with answer := ⟨st, v⟩ }.posted sess (s.reg (Reg.mbOp i)) (s.reg (Reg.mbKey i)) (s.reg (Reg.mbOff i)) (s.reg (Reg.mbTag i)) (s.reg (Reg.mbSeq i)))))

end Sys2Proof.Machine
end

