-- ==== Sys2Proof/Machine/Field.lean ====
section
/-!
DEFINITION. Machine/Field.lean: CAN FD and USB host ports (chapter 2): USDO transfers, heartbeats, pushed objects, the raw controller, HID devices.
-/
namespace Sys2Proof.Machine

/-! USDO transfers (R29, R58, R61). -/
namespace Usdo

/-- Abort code of a status (R61). -/
def abortCode (st : Nat) : Nat :=
  if st = St.indexUnknown then 0x06020000
  else if st = St.subUnknown then 0x06090011
  else if st = St.accessDenied ∨ st = St.notOwner then 0x06010000
  else if st = St.typeMismatch then 0x06070010
  else if st = St.valueRange then 0x06090030
  else if st = St.transferTimeout then 0x05040000
  else 0x08000000

/-- The request has been answered: LastStatus keeps its status, and one that failed is aborted with its code as the data. -/
def done (s : State) (p : Nat) : State :=
  let a := s.answer
  { s.setReg (Obj.lastStatus p) a.status with
    answer := if a.status = St.ok then a else ⟨a.status, leBytes 4 (abortCode a.status)⟩ }

/-- The transfer in progress ends. -/
def ended (s : State) (p : Nat) : State := (Dict.partEnd s (3 + p)).setReg (Reg.usdoBusy p) 0

/-- A transfer of one frame. -/
def whole (s : State) (p : Nat) (wr : Bool) (key : Nat) (v : Bytes) : State :=
  done (if wr then Dict.writeObject s (3 + p) key v else Dict.readObject s (3 + p) key false) p

/-- The start of a segmented transfer; `v` is what a write brings with it. A read takes the value at its start. -/
def start (s : State) (p : Nat) (wr : Bool) (key : Nat) (v : Bytes) : State :=
  let st := s.gate (3 + p) key .w
  if wr ∧ st ≠ St.ok then done (s.reply st) p
  else
    let s := if wr then (s.setRegs [(Reg.partKey (3 + p), key + 1), (Reg.partValue (3 + p), encDomain v)]).reply St.ok
      else Dict.readObject s (3 + p) key false
    let s := if s.answer.status = St.ok then
        s.setRegs [(Reg.usdoBusy p, 1), (Reg.partDeadline (3 + p), s.now + 2000000000)] else s
    done s p

/-- The last segment of the transfer in progress: a write is carried out. -/
def last (s : State) (p : Nat) (wr : Bool) (key : Nat) (v : Bytes) : State :=
  let d := decDomain (s.reg (Reg.partValue (3 + p)))
  let same := s.reg (Reg.partKey (3 + p)) = key + 1
  let s := ended s p
  if !wr then done (s.reply St.ok) p
  else if same then whole s p true key (d ++ v)
  else done (s.reply St.domainOrder) p

end Usdo

/-- USDO_REQUEST (R29, R58, R61, R414). While Halyard restarts every request aborts with code 0x08000000, and LastStatus reads BUSY. -/
def execUsdoRequest (p phase : Nat) (wr : Bool) (idx sub : Nat) (v : List Byte) (s : State) : Host.Outcome State Fault Refusal :=
  s.whenUp (fun s =>
    .next (
      let key := okey idx (sub % 256)
      let busy := s.reg (Reg.usdoBusy p) = 1
      let abort : Answer := ⟨St.busy, leBytes 4 0x08000000⟩
      if 3 < p ∨ s.reg (Reg.blockHolder (U.can p)) ≠ 0 ∨ (s.reg Obj.powerState ≠ 3 ∧ s.reg Obj.powerState ≠ 4) then s
      else if s.reg Reg.halServing = 0 then { s.setReg (Obj.lastStatus p) St.busy with answer := abort }
      else if s.reg (Reg.sessOpen (3 + p)) = 0 then s
      else if phase = 0 ∨ phase = 1 then
        if busy then { s.setReg (Obj.lastStatus p) St.busy with answer := abort }
        else if phase = 0 then Usdo.whole s p wr key v else Usdo.start s p wr key v
      else if !busy then s
      else if phase = 2 then Usdo.last s p wr key v
      else if phase = 3 then Usdo.done ((Usdo.ended s p).reply St.transferTimeout) p
      else if s.now < s.reg (Reg.partDeadline (3 + p)) then s
      else Usdo.done ((Usdo.ended s p).reply St.transferTimeout) p))

/-! Heartbeats (R60, R64). -/

/-- Halyard's node of a port runs (R60, R414, table Units in hold-up): Halyard holds the port and the device is not off, booting or flushing. -/
def State.nodeRuns (s : State) (p : Nat) : Bool :=
  decide (p < 4) && s.reg (Reg.blockHolder (U.can p)) == 0 && [2, 3, 4, 6].contains (s.reg Obj.powerState)

/-- HEARTBEAT_PRODUCE (R60): the producer's time has come; NMT state 0x05. -/
def execHeartbeatProduce (p : Nat) (s : State) : Host.Outcome State Fault Refusal :=
  s.whenUp (fun s =>
    .next (let due := s.reg (Reg.nodeHbDue p)
      if !s.nodeRuns p ∨ due = 0 ∨ s.now < due then s
      else (s.setReg (Reg.nodeHbDue p) (due + 1000000 * s.reg (Obj.hbProducerMs p))).emit
        (.frame (U.can p) (record [(4, 0x700 + s.reg (Obj.nodeId p)), (1, 5)]))))

/-- Node that consumer `i` of a port watches, and its time in ms; a time of 0 is unused. -/
def State.hbNode (s : State) (p i : Nat) : Nat × Nat := (s.reg (Obj.hbConsumer p i) / 65536 % 256, s.reg (Obj.hbConsumer p i) % 65536)

/-- HEARTBEAT_RECEIVE (R64): a heartbeat of node `node` arrives. -/
def execHeartbeatReceive (p node : Nat) (s : State) : Host.Outcome State Fault Refusal :=
  s.whenUp (fun s =>
    .next (if !s.nodeRuns p then s
      else ((List.range 8).filter (fun i => (s.hbNode p i).1 == node && (s.hbNode p i).2 != 0)).foldl (fun (s : State) i =>
        let lost := s.reg (Reg.hbLost p i) = 1
        let s := s.setRegs [(Reg.hbDue p i, s.now + 1000000 * (s.hbNode p i).2), (Reg.hbLost p i, 0)]
        if lost then s.raise [.hal, .owner] (U.can p) St.heartbeatBack 0 1 [(1, node)] else s) s))

/-- HEARTBEAT_LOST (R64): the time of consumer `i` has passed without a heartbeat. -/
def execHeartbeatLost (p i : Nat) (s : State) : Host.Outcome State Fault Refusal :=
  s.whenUp (fun s =>
    .next (if !s.nodeRuns p ∨ 7 < i ∨ (s.hbNode p i).2 = 0 ∨ s.reg (Reg.hbLost p i) = 1 ∨ s.now < s.reg (Reg.hbDue p i) then s
      else (s.setReg (Reg.hbLost p i) 1).raise [.hal, .owner] (U.can p) St.heartbeatLost 0 2 [(1, (s.hbNode p i).1)]))

/-! Pushed objects (R62, R63, R71). -/
namespace Push

/-- Tag of the alive stream of mapping `m` (R388). -/
def tag (p m : Nat) : Nat := 32 * p + m

/-- The mapping takes frames with this identifier: bits 31 and 29 of RxCobId. -/
def takes (s : State) (p id m : Nat) : Bool := !bit (s.reg (Obj.rxCobId p m)) 31 && s.reg (Obj.rxCobId p m) % 2 ^ 30 == id

/-- The check unit of a mapping judges a frame (R62, R386). A DEAD check unit passes none. -/
def checked (s : State) (p m : Nat) (v : Bytes) : State × Bool :=
  let h := s.reg (Obj.checkUnit p m)
  let u := h - U.check 0
  if h = 0xFFFF then (s, true)
  else if h < U.check 0 ∨ U.check 16 ≤ h ∨ 1 < s.reg (Reg.blockHolder h) ∨ s.reg (Reg.unitState h) = 5 ∨ s.reg (Obj.chkFeedSource u) ≠ 0x40 + p
    then (s, false)
  else match s.chkRecord u (tag p m) v with
    | (s, st) => (s, st == St.ok)

/-- An accepted frame of mapping `m` (R62, R63). -/
def accepted (s : State) (p m : Nat) (v : Bytes) : State :=
  let fresh := s.reg (Reg.rxStale p m) = 1
  let s := (s.setRegs [(Obj.rxData p m, leNat v), (Obj.rxTime p m, s.now), (Obj.rxValid p m, 1), (Reg.rxStale p m, 0),
    (Reg.rxStaleDue p m, s.now + 1000000 * s.reg (Obj.staleMs p m))]).bump (Obj.rxCount p m) 32
  if fresh then s.raise [.hal, .owner] (U.can p) St.pushFresh 0 1 [] else s

/-- A frame for mapping `m`. -/
def receive (s : State) (p m : Nat) (v : Bytes) : State :=
  let no := fun (s : State) => s.raise [.hal, .owner] (U.can p) St.pushRejected 0 2 []
  if v.length ≠ s.reg (Obj.rxLength p m) then no s
  else match checked s p m v with
    | (s, true) => accepted s p m v
    | (s, false) => no s

/-- Payload length of a frame that carries `n` bytes: the least that a DLC encodes. -/
def lengthFor (n : Nat) : Nat := (([0, 1, 2, 3, 4, 5, 6, 7, 8, 12, 16, 20, 24, 32, 48, 64] : List Nat).find? (fun l => decide (n ≤ l))).getD 64

/-- Transmitted pushed object `t` is due: its period has passed since the last frame, or its source has changed and 10 ms have passed. The period and the changes
count from the write of one of its objects or the start of the node (log 41). -/
def due (s : State) (p t x : Nat) : Bool :=
  let period := s.reg (Obj.txPeriodMs p t)
  let last := s.reg (Reg.txLast p t)
  if period = 0 then s.reg (Reg.txSent p t) != 0 && s.reg (Reg.txSent p t) != x + 1 && (last == 0 || decide (last - 1 + 10000000 ≤ s.now))
  else decide (s.reg (Reg.txFrom p t) + 1000000 * period ≤ s.now)

end Push

/-- PUSH_RECEIVE (R62, R63): a frame with identifier `id` and payload `v`. -/
def execPushReceive (p id : Nat) (v : List Byte) (s : State) : Host.Outcome State Fault Refusal :=
  s.whenUp (fun s =>
    .next (if !s.nodeRuns p then s
      else ((List.range 32).filter (Push.takes s p id)).foldl (fun s m => Push.receive s p m v) s))

/-- PUSH_STALE (R63, R388): StaleMs of mapping `m` has passed without an accepted frame. -/
def execPushStale (p m : Nat) (s : State) : Host.Outcome State Fault Refusal :=
  s.whenUp (fun s =>
    .next (if !s.nodeRuns p ∨ 31 < m ∨ bit (s.reg (Obj.rxCobId p m)) 31 ∨ s.reg (Obj.staleMs p m) = 0 ∨ s.reg (Reg.rxStale p m) = 1
          ∨ s.now < s.reg (Reg.rxStaleDue p m) then s
      else
        let h := s.reg (Obj.checkUnit p m)
        let s := if U.check 0 ≤ h ∧ h < U.check 16 then s.aliveForget (h - U.check 0) (Push.tag p m) else s
        (s.setRegs [(Obj.rxValid p m, 0), (Reg.rxStale p m, 1)]).raise [.hal, .owner] (U.can p) St.pushStale 0 2 []))

/-- PUSH_TRANSMIT (R60, R71): transmitted pushed object `t` is sent. -/
def execPushTransmit (p t : Nat) (s : State) : Host.Outcome State Fault Refusal :=
  s.whenUp (fun s =>
    .next (if !s.nodeRuns p ∨ 7 < t ∨ bit (s.reg (Obj.txCobId p t)) 31 then s
      else match Dict.pushValue s p t with
        | none => s
        | some (x, d) =>
          if !Push.due s p t x then (if s.reg (Reg.txSent p t) = 0 then s.setReg (Reg.txSent p t) (x + 1) else s)
          else (s.setRegs [(Reg.txSent p t, x + 1), (Reg.txLast p t, s.now + 1), (Reg.txFrom p t, s.now)]).emit
            (.frame (U.can p) (record [(4, s.reg (Obj.txCobId p t) % 2 ^ 30), (1, Push.lengthFor d.length)] ++ padTo (Push.lengthFor d.length) d))))

/-! The raw controller (R65, R66). -/

/-- RAW_CONFIG_WRITE (R65): sub-index 01 RawNominalRate, 02 RawDataRate, 03 RawSamplePermille, 04 RawMode. -/
def execRawConfigWrite (n p sub : Nat) (v : List Byte) (s : State) : Host.Outcome State Fault Refusal :=
  s.whenUp (fun s =>
    .next (if 3 < p ∨ sub = 0 ∨ 4 < sub then s
      else s.written n (okey (0x7C40 + 0x80 * p) sub) v (fun s => Can.rawConfig s p sub (leNat v))))

/-- Error counters after a frame received with or without an error (R66, ISO 11898-1, log 34): an error adds 1, or 8 where the standard says so. A count above
127 that a good frame lowers lands from 119 to 127: which is open. -/
def Can.receiveCount (s : State) (p err : Nat) : State :=
  let tec := s.reg (Obj.rawTec p)
  let rc := s.reg (Obj.rawRec p)
  if s.reg (Obj.rawMode p) = 1 then s
  else if err ≠ 0 then Can.errors s p tec (rc + if err = 1 then 1 else 8)
  else if rc < 128 then Can.errors s p tec (rc - 1)
  else Can.errors s.tick p tec (119 + s.fresh % 9)

/-- RAW_FRAME_RECEIVE (R66): a frame on the bus of a port that serves a guest. -/
def execRawFrameReceive (p err id fl : Nat) (v : List Byte) (s : State) : Host.Outcome State Fault Refusal :=
  s.whenUp (fun s =>
    .next (if 3 < p ∨ !s.inService ∨ !s.rawServes p ∨ s.reg (Obj.rawState p) = 2 then s
      else if err ≠ 0 then Can.receiveCount s p err
      else
        let r := Can.rec' s.now (id % 2 ^ 30) (fl % 8 + (if s.reg (Obj.rawState p) = 1 then 8 else 0)) v.length v
        if Can.txBad r then s else (Can.receiveCount s p 0).rawReceive p r))

/-- RAW_RX (R66): a read of RawRx. -/
def execRawRx (n p : Nat) (s : State) : Host.Outcome State Fault Refusal :=
  s.whenUp (fun s =>
    .next (if 3 < p then s else s.request n 1 (Obj.rawRx p) (fun s => Dict.readObject s n (Obj.rawRx p) false)))

/-- RAW_TX (R65, R66): a write of RawTx. -/
def execRawTx (n p : Nat) (v : List Byte) (s : State) : Host.Outcome State Fault Refusal :=
  s.whenUp (fun s =>
    .next (if 3 < p then s else s.written n (Obj.rawTx p) v (fun s => Can.rawTxWrite s p v)))

/-- RAW_TX_DONE (R65, R66): the frame in transmission has left, or an error has ended it and it is sent again. ISO 11898-1 adds 8 to the transmit error counter for an
error, but nothing for a missing acknowledge of an error-passive sender and nothing for a stuff error during arbitration (log 34). -/
def execRawTxDone (p err : Nat) (s : State) : Host.Outcome State Fault Refusal :=
  s.whenUp (fun s =>
    .next (if 3 < p ∨ !s.inService ∨ s.reg (Reg.blockHolder (U.can p)) = 0 ∨ 2 < s.reg (Reg.blockState (U.can p)) ∨ !s.rawSending p then s
      else match s.fifo (Fifo.rawTx p) with
        | [] => s
        | r :: q =>
          let tec := s.reg (Obj.rawTec p)
          let rc := s.reg (Obj.rawRec p)
          if err = 0 then
            let s := ((s.setFifo (Fifo.rawTx p) q).rawDerive p).emit (.frame (U.can p) r)
            Can.frameEnded (Can.errors s p (tec - 1) rc) p
          else Can.frameEnded (Can.errors s p (if err = 3 ∨ (err = 2 ∧ s.reg (Obj.rawState p) = 1) then tec else tec + 8) rc) p))

/-- BUS_OFF_RECOVERY (R66): 128 occurrences of 11 recessive bits. -/
def execBusOffRecovery (p : Nat) (s : State) : Host.Outcome State Fault Refusal :=
  s.whenUp (fun s =>
    .next (if 3 < p ∨ s.reg (Obj.rawState p) ≠ 2 then s else Can.errors s p 0 0))

/-! USB host ports (R67). -/
namespace Usb

/-- The port is powered. -/
def on (s : State) (h : Nat) : Bool :=
  decide (h < 2) && s.inService && (s.reg (Obj.usbPortState h) == 1 || s.reg (Obj.usbPortState h) == 2 || s.reg (Obj.usbPortState h) == 3)

/-- Payload of USB_ATTACHED and USB_DETACHED: address, class, VID, PID. -/
def payload (dev : Nat) : List (Nat × Nat) := [(6, dev % 2 ^ 48)]

/-- UsbDevice of a device (table USB host port objects): class 3, 8, 9, or 0xFF for any other. -/
def device (s : State) (h addr cls vid pid : Nat) : Nat :=
  let cls := if cls = 3 ∨ cls = 8 ∨ cls = 9 then cls else 0xFF
  let served := b2n (cls == 3 || (cls == 8 && s.reg (Reg.blockHolder (U.usbHost h)) == 0))
  leNat (record [(1, addr), (1, cls), (2, vid), (2, pid), (1, served), (1, 0)])

end Usb

/-- USB_ATTACHED (R67): the port has enumerated a device; at most 8 are supported. -/
def execUsbAttached (h addr cls vid pid outLen : Nat) (s : State) : Host.Outcome State Fault Refusal :=
  s.whenUp (fun s =>
    .next (if !Usb.on s h ∨ addr = 0 ∨ 127 < addr ∨ (Can.usbFind s h addr).isSome then s
      else match (List.range 8).find? (fun j => s.reg (Obj.usbDevice h j) == 0) with
        | none => s
        | some j =>
          let d := Usb.device s h addr cls vid pid
          (s.setRegs [(Obj.usbDevice h j, d), (Reg.usbOutLen h j, outLen), (Obj.usbPortState h, 3)]).raise (Can.usbDests s h) (U.usbHost h) St.usbAttached
            (s.reg (Reg.blockHolder (U.usbHost h))) 1 (Usb.payload d)))

/-- USB_DETACHED (R67). -/
def execUsbDetached (h addr : Nat) (s : State) : Host.Outcome State Fault Refusal :=
  s.whenUp (fun s =>
    .next (if !Usb.on s h then s
      else match Can.usbFind s h addr with
        | none => s
        | some j =>
          let d := s.reg (Obj.usbDevice h j)
          let s := s.setRegs [(Obj.usbDevice h j, 0), (Reg.usbOutLen h j, 0)]
          let s := if (List.range 8).all (fun k => s.reg (Obj.usbDevice h k) == 0) then s.setReg (Obj.usbPortState h) 1 else s
          s.raise (Can.usbDests s h) (U.usbHost h) St.usbDetached (s.reg (Reg.blockHolder (U.usbHost h))) 1 (Usb.payload d)))

/-- HID_REPORT_RECEIVE (R67): an input report of the HID device at address `addr`. -/
def execHidReportReceive (h addr id : Nat) (v : List Byte) (s : State) : Host.Outcome State Fault Refusal :=
  s.whenUp (fun s =>
    .next (if !Usb.on s h ∨ v.isEmpty ∨ 64 < v.length then s
      else match Can.usbFind s h addr with
        | none => s
        | some j =>
          if Can.usbClass s h j ≠ 3 then s
          else
            let q := s.fifo (Fifo.hid h)
            if 64 ≤ q.length then s.bump (Obj.hidInLost h) 32
            else
              let r := record [(8, s.now), (1, addr), (1, id), (1, v.length), (1, 0)] ++ padTo 64 v
              let s := s.setFifo (Fifo.hid h) (q ++ [r])
              let last := s.reg (Reg.usbRxLast h)
              if q.isEmpty ∧ (last = 0 ∨ last - 1 + 1000000 ≤ s.now) then
                (s.setReg (Reg.usbRxLast h) (s.now + 1)).raise (Can.usbDests s h) (U.usbHost h) St.usbHidReport (s.reg (Reg.blockHolder (U.usbHost h))) 0 []
              else s))

/-- HID_IN (R67): a read of HidIn. -/
def execHidIn (n h : Nat) (s : State) : Host.Outcome State Fault Refusal :=
  s.whenUp (fun s =>
    .next (if 1 < h then s else s.request n 1 (Obj.hidIn h) (fun s => Dict.readObject s n (Obj.hidIn h) false)))

/-- HID_OUT (R67): a write of HidOut. -/
def execHidOut (n h : Nat) (v : List Byte) (s : State) : Host.Outcome State Fault Refusal :=
  s.whenUp (fun s =>
    .next (if 1 < h then s else s.written n (Obj.hidOut h) v (fun s => Can.hidOutWrite s h v)))

/-- USB_OVERCURRENT (R67): OC_N has been asserted for 1 ms; the port powers off. -/
def execUsbOvercurrent (h : Nat) (s : State) : Host.Outcome State Fault Refusal :=
  s.whenUp (fun s =>
    .next (if !Usb.on s h then s
      else ((Can.usbClear s h).setReg (Obj.usbPortState h) 4).raise (Can.usbDests s h) (U.usbHost h) St.usbOvercurrent
        (s.reg (Reg.blockHolder (U.usbHost h))) 2 []))

/-- USB_PORT_OP (R67): UsbPortOp 1. -/
def execUsbPortOp (n h : Nat) (v : List Byte) (s : State) : Host.Outcome State Fault Refusal :=
  s.whenUp (fun s =>
    .next (if 1 < h then s else s.written n (Obj.usbPortOp h) v (fun s => Can.portOp s h)))

end Sys2Proof.Machine
end

