-- ==== Sys2Proof/Machine/Heads.lean ====
section
/-!
DEFINITION. Machine/Heads.lean: hot plug and link training of transmitter ports (R267 to R269, R278, R279), link wake (R272), panel control (R276, R277),
receivers (R281 to R284).
-/
namespace Sys2Proof.Machine

/-! Parts of the head commands. -/
namespace Hd

/-- The partner of a port in split mode whose halves keep one rate (R261, R267). -/
def sameRate (s : State) (p : Nat) : Bool := s.reg (Obj.portMode (p / 2)) == 1 && s.reg (Obj.splitSameRate (p / 2)) == 1

/-- The other port of a head. -/
def partner (p : Nat) : Nat := if p % 2 = 0 then p + 1 else p - 1

/-- Two ports are trained to one setting. -/
def sameSetting (s : State) (p q : Nat) : Bool :=
  s.reg (Obj.trainedLanes p) == s.reg (Obj.trainedLanes q) && s.reg (Obj.trainedRateMbps p) == s.reg (Obj.trainedRateMbps q)

/-- Train a port again. -/
def retrain (s : State) (p reason : Nat) : State :=
  let was := s.litPorts (p / 2)
  (((s.bump (Obj.retrains p) 32).setRegs [(Obj.portState p, 2), (Reg.litNext p, 0), (Reg.trainHeld p, 0), (Reg.trainRetry p, 0)])).darkCheck (p / 2) was reason

/-- The sink does not take the committed settings (table Training outcomes). -/
def unfit (s : State) (p : Nat) : Bool :=
  (s.reg (Obj.dscBpp16 p) != 0 && (!bit (s.reg (Obj.sinkCaps p)) 0 || s.reg (Reg.dscSlices p) == 0))
    || (s.reg (Obj.assr p) == 1 && s.reg (Obj.sinkKind p) == 2 && !bit (s.reg (Obj.sinkCaps p)) 3)

/-- Outcome of a training that ended at `lanes` and `rate`; no lanes where no setting trained. -/
def outcome (s : State) (p lanes rate : Nat) : Nat :=
  if unfit s p then 3
  else if lanes = 0 then 4
  else if lanes = s.reg (Obj.laneCount p) ∧ rate = s.reg (Obj.linkRateMbps p) then 0
  else if Head.linkFits s.reg (p / 2) p lanes rate then 1
  else 2

/-- A port that is trained lights at the next commit line, after its partner where the two keep one rate. -/
def ready (s : State) (p o : Nat) : State :=
  let q := partner p
  if !sameRate s p then s.setReg (Reg.litNext p) 1
  else if s.reg (Reg.trainHeld q) = 1 then
    (if sameSetting s p q then s.setRegs [(Reg.litNext p, 1), (Reg.litNext q, 1), (Reg.trainHeld q, 0)]
     else if o = 1 then (retrain s q 2).setReg (Reg.trainHeld p) 1
     else retrain s p 2)
  else if o = 0 then s.setReg (Reg.litNext p) 1
  else if s.reg (Obj.portState q) = 2 ∧ s.reg (Reg.litNext q) = 0 then s.setReg (Reg.trainHeld p) 1
  else if (s.reg (Obj.portState q) = 3 ∨ s.reg (Reg.litNext q) = 1) ∧ !sameSetting s p q then (retrain s q 2).setReg (Reg.trainHeld p) 1
  else s.setReg (Reg.litNext p) 1

/-- A port that could not be trained stays dark; a partner that waited for it lights alone. -/
def failed (s : State) (p : Nat) : State :=
  let q := partner p
  let s := s.setRegs [(Obj.portState p, 4), (Obj.darkReason (p / 2), 2)]
  if s.reg (Reg.trainHeld q) = 1 then s.setRegs [(Reg.trainHeld q, 0), (Reg.litNext q, 1)] else s

/-- A receiver is driven: RxEnable is set and it is held by a RUNNING world or by Halyard (R281), and it is not stopped in hold-up. -/
def rxOn (s : State) (n : Nat) : Bool :=
  let h := U.dpr n
  s.reg (Obj.rxEnable n) == 1 && !s.holdupStopped h
    && (s.reg (Reg.blockState h) == 6 || s.reg (Reg.blockHolder h) == 0 || (s.reg (Reg.blockState h) == 0 && s.reg (Obj.worldState (s.reg (Reg.blockHolder h))) == 2))

/-- The next of a receiver's three buffers in turn, past the one the layer shows: a shown frame is never one still being written (R282). -/
def nextBuf (b shown : Nat) : Nat := if b % 3 + 1 = shown then (b + 1) % 3 + 1 else b % 3 + 1

end Hd

/-- The HPD of a port is ignored: port B of a head in single mode (table Port modes). -/
def State.hpdIgnored (s : State) (p : Nat) : Bool := s.reg (Obj.portMode (p / 2)) == 0 && p % 2 == 1

/-- HPD_RISE (R267, R279): HPD of transmitter port `p` rises. -/
def execHpdRise (p : Nat) (s : State) : Host.Outcome State Fault Refusal :=
  s.whenUp (fun s =>
    .next (if 15 < p ∨ s.reg (Reg.hpd p) = 1 then s
      else if s.hpdIgnored p then s.setReg (Reg.hpd p) 1
      else
        let s := ((s.setReg (Reg.hpd p) 1).bump (Obj.hpdEvents p) 32).portEvent p St.panelPlugged 1 []
        if (Head.portsOf s.reg (p / 2)).contains p ∧ 2 ≤ s.reg (Reg.panelStage (p / 2)) then s.startLink p else s))

/-- HPD_WAIT_END (R267): the sink is read; `slices` says whether it takes the committed DSC slices. Training begins. -/
def execHpdWaitEnd (p kind caps su : Nat) (edid : List Byte) (slices : Bool) (s : State) : Host.Outcome State Fault Refusal :=
  s.whenUp (fun s =>
    .next (if s.reg (Obj.portState p) ≠ 1 ∨ s.reg (Reg.hpdDue p) = 0 ∨ s.now < s.reg (Reg.hpdDue p) then s
      else s.setRegs [(Reg.hpdDue p, 0), (Obj.sinkKind p, kind), (Obj.sinkCaps p, caps), (Obj.suGranularity p, su),
        (Obj.sinkEdid p, encDomain (edid.take 512)), (Reg.dscSlices p, b2n slices), (Obj.portState p, 2)]))

/-- LINK_TRAINED (R267, R268): training of port `p` ends at a setting; `lanes` 0 where none trained. -/
def execLinkTrained (p lanes rate : Nat) (s : State) : Host.Outcome State Fault Refusal :=
  s.whenUp (fun s =>
    .next (if s.reg (Obj.portState p) ≠ 2 ∨ s.reg (Reg.litNext p) = 1 ∨ s.reg (Reg.trainHeld p) = 1 then s
      else
        let o := Hd.outcome s p lanes rate
        let s := s.setRegs [(Obj.trainOutcome p, o), (Obj.trainedLanes p, lanes), (Obj.trainedRateMbps p, rate), (Reg.trainRetry p, 0)]
        if o ≤ 1 then Hd.ready ((s.setReg (Reg.trainStep p) 0).portEvent p St.linkTrained (if o = 0 then 1 else 2) [(1, o), (1, lanes), (2, rate)]) p o
        else if o ≤ 3 then (Hd.failed s p).portEvent p St.panelMismatch 3 [(1, o)]
        else (Hd.failed s p).setReg (Reg.trainRetry p) (s.now + 1000000000 * State.retrySeconds (s.reg (Reg.trainStep p)))))

/-- TRAIN_RETRY (R268). -/
def execTrainRetry (p : Nat) (s : State) : Host.Outcome State Fault Refusal :=
  s.whenUp (fun s =>
    .next (if s.reg (Obj.portState p) ≠ 4 ∨ s.reg (Reg.hpd p) = 0 ∨ s.reg (Reg.trainRetry p) = 0 ∨ s.now < s.reg (Reg.trainRetry p) then s
      else (s.bump (Obj.retrains p) 32).setRegs [(Obj.portState p, 2), (Reg.trainStep p, s.reg (Reg.trainStep p) + 1), (Reg.trainRetry p, 0)]))

/-- IRQ_HPD (R269, R273): the sink's link status says whether lock was lost and whether an eDP sink reports a self-refresh error. -/
def execIrqHpd (p : Nat) (lost psrError : Bool) (s : State) : Host.Outcome State Fault Refusal :=
  s.whenUp (fun s =>
    .next (if s.reg (Reg.hpd p) = 0 ∨ s.hpdIgnored p then s
      else
        let n := p / 2
        let s := s.bump (Obj.hpdEvents p) 32
        let s := if psrError ∧ s.reg (Obj.sinkKind p) = 2 ∧ s.reg (Obj.stratusState n) ≠ 0 then s.setReg (Reg.stratusErr n) 1 else s
        if lost ∧ (s.reg (Obj.portState p) = 3 ∨ s.reg (Reg.litNext p) = 1 ∨ s.reg (Reg.trainHeld p) = 1) then
          Hd.retrain (s.portEvent p St.linkLost0814 2 []) p 5
        else s))

/-- PANEL_UNPLUGGED (R278, R262): HPD of port `p` stayed low for more than 2 ms. -/
def execPanelUnplugged (p : Nat) (s : State) : Host.Outcome State Fault Refusal :=
  s.whenUp (fun s =>
    .next (if s.reg (Reg.hpd p) = 0 then s
      else if s.hpdIgnored p then s.setRegs [(Reg.hpd p, 0), (Obj.sinkKind p, 0), (Obj.sinkCaps p, 0)]
      else
        let n := p / 2
        let was := s.litPorts n
        let q := Hd.partner p
        let s := s.bump (Obj.hpdEvents p) 32
        let s := s.setRegs [(Reg.hpd p, 0), (Obj.portState p, 0), (Reg.litNext p, 0), (Reg.trainHeld p, 0), (Reg.trainRetry p, 0), (Reg.hpdDue p, 0),
          (Obj.sinkKind p, 0), (Obj.sinkCaps p, 0)]
        let s := if s.reg (Reg.trainHeld q) = 1 then s.setRegs [(Reg.trainHeld q, 0), (Reg.litNext q, 1)] else s
        let s := s.portEvent p St.panelUnplugged 2 []
        if (Head.portsOf s.reg n).contains p then s.darkCheck n was 1 else s))

/-- LINK_WAKE_DONE (R272). -/
def execLinkWakeDone (n : Nat) (s : State) : Host.Outcome State Fault Refusal :=
  s.whenUp (fun s =>
    .next (if s.reg (Reg.linkWaking n) = 0 then s else s.setRegs [(Reg.linkWaking n, 0), (Reg.linkOff n, 0)]))

/-- TE_LOST (R275): no tearing-effect edge for two frame periods. -/
def execTeLost (n : Nat) (s : State) : Host.Outcome State Fault Refusal :=
  s.whenUp (fun s =>
    .next (if s.reg (Obj.teUse n) ≠ 2 ∨ s.reg (Reg.teLost n) = 1 ∨ 1000 * s.now < 1000 * s.reg (Obj.teLastTime n) + 2 * Head.periodPs s.reg n * (1 + s.reg (Reg.shedSlowed n)) then s
      else (s.setRegs [(Reg.teLost n, 1), (Reg.tePeriod n, 0)]).headEvent n St.teLost 2 []))

/-- TE_EDGE (R274, R275): a tearing-effect edge of the selected polarity, filtered; `level` is the level after it. Edges count with TeUse 1 or 2, reach
the head's pennant core, and end a loss. -/
def execTeEdge (n : Nat) (level : Bool) (s : State) : Host.Outcome State Fault Refusal :=
  s.whenUp (fun s =>
    .next (
      if 7 < n ∨ s.reg (Reg.portReset (U.head n)) = 1 ∨ s.reg (Obj.teUse n) = 0 ∨ s.reg (Obj.teUse n) > 2 ∨ level = (s.reg (Obj.teEdge n) == 1) then s
      else
        let last := s.reg (Obj.teLastTime n)
        let seen := s.reg (Obj.teCount n) != 0 && s.reg (Reg.teLost n) == 0
        let s := (s.bump (Obj.teCount n) 32).setRegs [(Obj.teLastTime n, s.now), (Reg.tePeriod n, if seen then s.now - last else s.reg (Reg.tePeriod n))]
        let s := s.coreEvent n 4 (b2n level)
        if s.reg (Obj.teUse n) = 2 ∧ s.reg (Reg.teLost n) = 1 then (s.setReg (Reg.teLost n) 0).headEvent n St.teBack 1 [] else s))

/-- PANEL_ON_DELAY_END (R276): PanelOnMs has passed since panel enable, or since the links went off when the head turns off. -/
def execPanelOnDelayEnd (n : Nat) (s : State) : Host.Outcome State Fault Refusal :=
  s.whenUp (fun s =>
    .next (
      let st := s.reg (Reg.panelStage n)
      if s.now < s.reg (Reg.panelDue n) then s
      else if st = 1 then
        (Head.portsOf s.reg n).foldl (fun s p => if s.reg (Reg.hpd p) = 1 then s.startLink p else s) (s.setRegs [(Reg.panelStage n, 2), (Reg.panelDue n, 0)])
      else if st = 6 then s.setRegs [(Reg.panelStage n, 0), (Reg.panelDue n, 0), (Obj.panelEnableOut n, 0)]
      else s))

/-- BACKLIGHT_DELAY_END (R276): BacklightDelayMs has passed since the port lit, or since the backlight went off when the head turns off. -/
def execBacklightDelayEnd (n : Nat) (s : State) : Host.Outcome State Fault Refusal :=
  s.whenUp (fun s =>
    .next (
      let st := s.reg (Reg.panelStage n)
      if s.now < s.reg (Reg.panelDue n) then s
      else if st = 3 then (s.setRegs [(Reg.panelStage n, 4), (Reg.panelDue n, 0)]).dimDerive n
      else if st = 5 then s.setRegs [(Reg.panelStage n, 6), (Reg.panelDue n, s.now + 1000000 * s.reg (Obj.panelOnMs n))]
      else s))

/-- PANEL_FAULT (R277): the panel fault input has stayed asserted for 10 ms. -/
def execPanelFault (n : Nat) (s : State) : Host.Outcome State Fault Refusal :=
  s.whenUp (fun s =>
    .next (if 7 < n ∨ s.reg (Reg.panelFaultDue n) = 1 then s
      else
        let was := s.litPorts n
        ((s.setRegs [(Reg.panelFaultDue n, 1), (Obj.panelFault n, 1)]).headEvent n St.panelFault 3 []).darkCheck n was 3))

/-- PANEL_FAULT_CLEAR (R277): the input has stayed released for 100 ms. -/
def execPanelFaultClear (n : Nat) (s : State) : Host.Outcome State Fault Refusal :=
  s.whenUp (fun s =>
    .next (if s.reg (Reg.panelFaultDue n) = 0 then s
      else
        let s := s.setRegs [(Reg.panelFaultDue n, 0), (Obj.panelFault n, 0)]
        let s := s.setRegs [(Obj.headState n, s.headStateOf n), (Obj.darkReason n, if s.darkMask n = 0 then 0 else s.reg (Obj.darkReason n))]
        s.headEvent n St.headLit 1 []))

/-- RX_LINK_TRAINING (R281): a source begins (0) or completes (1) link training on receiver `n`. -/
def execRxLinkTraining (n done : Nat) (s : State) : Host.Outcome State Fault Refusal :=
  s.whenUp (fun s =>
    .next (if 7 < n ∨ !Hd.rxOn s n then s
      else if done = 0 then s.setReg (Obj.rxState n) 1
      else if s.reg (Obj.rxState n) = 1 then s.setReg (Obj.rxState n) 2 else s))

/-- RX_FRAME (R282, R283): receiver `n` has received a frame of `w` by `h` pixels; `data` is the frame in the format of the layer it feeds. -/
def execRxFrame (n w h rate khz colour : Nat) (data : List Byte) (s : State) : Host.Outcome State Fault Refusal :=
  s.whenUp (fun s =>
    .next (if 7 < n ∨ s.reg (Reg.portReset (U.dpr n)) = 1 ∨ !Hd.rxOn s n ∨ s.reg (Obj.rxState n) < 2 then s
      else
        let s := s.setRegs [(Obj.rxWidth n, w), (Obj.rxHeight n, h), (Obj.rxRateMhz n, rate), (Obj.rxPixelKhz n, khz), (Obj.rxColour n, colour)]
        match s.rxLayer n with
        | none => s.setReg (Obj.rxState n) 2
        | some (m, l) =>
          if w ≠ s.reg (Obj.layerSrcWidth m l) ∨ h ≠ s.reg (Obj.layerSrcHeight m l) then
            let s' := s.setRegs [(Obj.rxState n, 3), (Reg.rxBlack n, 1), (Reg.rxFrame n, 0)]
            if s.reg (Obj.rxState n) = 3 then s' else s'.rxEvent n St.rxModeChanged 2 [(2, w), (2, h)]
          else
            let b := Hd.nextBuf (s.reg (Reg.rxBuf n)) (s.reg (Reg.rxShown n))
            let third := s.reg (Reg.poolSize m l) * frameBytes / 3
            let s := s.poolWrite (U.dpr n) (23 + n) m l ((b - 1) * third) (data.take third)
            let s := if s.reg (Reg.rxFrame n) = 1 then s.bump (Obj.rxFramesDropped n) 32 else s
            (s.bump (Obj.rxFramesWritten n) 32).setRegs [(Obj.rxState n, 2), (Reg.rxBuf n, b), (Reg.rxFrame n, 1)]))

/-- RX_SIGNAL_LOST (R283): receiver `n` loses its link or its source. -/
def execRxSignalLost (n : Nat) (s : State) : Host.Outcome State Fault Refusal :=
  s.whenUp (fun s =>
    .next (if 7 < n ∨ s.reg (Obj.rxState n) = 0 then s
      else ((s.setRegs [(Obj.rxState n, 0), (Reg.rxFrame n, 0), (Reg.rxLost n, 1), (Reg.rxHoldDue n, s.now + 1000000 * s.reg (Obj.rxHoldMs n))])).rxEvent n
        St.rxSignalLost 2 []))

/-- RX_HOLD_EXPIRY (R283): the layer shows opaque black. -/
def execRxHoldExpiry (n : Nat) (s : State) : Host.Outcome State Fault Refusal :=
  s.whenUp (fun s =>
    .next (if s.reg (Reg.rxLost n) = 0 ∨ s.reg (Reg.rxHoldDue n) = 0 ∨ s.now < s.reg (Reg.rxHoldDue n) then s
      else s.setRegs [(Reg.rxHoldDue n, 0), (Reg.rxBlack n, 1)]))

end Sys2Proof.Machine
end

