-- ==== Sys2Proof/Machine/Nimbus.lean ====
section
/-!
DEFINITION. Machine/Nimbus.lean: the commands of the renderer and the copy engine (chapters 7 and 8): ring packets, fences, bin faults, pipelines,
the choice of contexts, work items. A packet command names the ring (instance `i`, ring `r`) whose packet at RPTR it carries out.
-/
namespace Sys2Proof.Machine

/-! Shared parts of the packets. -/
namespace Nim

/-- The pipeline bound to a context fits the pass: sample count, depth format, colour formats (R209). -/
def pipeFits (rec' : List Nat) (d : PassDesc) (as : List Attach) : Bool :=
  rec'.getD 2 0 == d.samples && rec'.getD 4 0 == ((as.find? (fun a => a.idx == 8)).map (fun a => a.surf.fmt)).getD 0
    && rec'.drop 6 == (as.filter (fun a => a.idx != 8)).map (fun a => a.surf.fmt)

/-- What a draw of a context meets before it runs: OK, or the status that stops the context. -/
def drawStatus (s : State) (i r : Nat) (d : PassDesc) (as : List Attach) (run : ShaderRun) : Nat :=
  let rec' := s.pipeOf (s.reg (Reg.nimPipe i r) - 1)
  if s.reg (Reg.nimPipe i r) = 0 ∨ s.reg (Reg.nimState i r) = 0 ∨ !pipeFits rec' d as then St.packetOrder
  else if s.reg (Reg.passSafe i r) = 1 ∧ rec'.getD 3 0 = 1 then St.replayMarkInvalid
  else if run.limit then St.shaderStepLimit
  else St.ok

/-- Surfaces that the shaders sample, read from their descriptors. -/
def surfs (s : State) (i r : Nat) : List Nat → Except XFault (List Surf)
  | [] => .ok []
  | va :: l => match s.surfAt i r va with
    | .error e => .error e
    | .ok f => (surfs s i r l).map (f :: ·)

/-- What the shaders of a draw or dispatch do beside their attachments: sampled surfaces that the renderer refuses stop the context (R191, R192); then the
reads, then the stores. -/
def shade (i r : Nat) (run : ShaderRun) (s : State) (f : State → List Bytes → State) : State :=
  match surfs s i r run.surfs with
  | .error e => s.stopFault i r .read e
  | .ok l =>
    let st := State.firstBad (l.map (fun q => q.status false false))
    if st ≠ St.ok then s.stopRing i r st
    else match s.shaderReads i r run.reads with
      | .error e => s.stopFault i r .read e
      | .ok (s, bs) => match s.shaderStores i r run.stores with
        | (s, some e) => s.stopFault i r .write e
        | (s, none) => f s bs

/-- Queue the primitives of draws that cover a tile of the pass, the first of each draw with a new draw record. -/
def queuePrims (s : State) (i r : Nat) (cols : Nat) (bs : List Bytes) (draws : List (List Prim)) : State :=
  let seed := Config.drawRecord s.fresh bs
  let l := draws.flatMap (fun ps => (ps.filter (fun p => !(State.coveredTiles cols (s.reg (Reg.passTiles i r)) p.kind (padTo 42 p.pos)).isEmpty)).zipIdx.map
    (fun p => State.primBytes seed (p.2 == 0) p.1))
  s.tick.setFifo (Fifo.prims i r) (s.fifo (Fifo.prims i r) ++ l)

/-- The first fault that the reads of the bound state block and of a packet's arguments meet. -/
def readFault (s : State) (i r : Nat) (args : List (Nat × Nat)) : Option XFault :=
  ((s.reg (Reg.nimState i r) - 1, 256) :: args).findSome? (fun a => match s.cread i r a.1 a.2 with
    | .error e => some e
    | .ok _ => none)

/-- A draw packet: its conditions, the reads of its state block and of its arguments, the stores of its shaders, then binning. -/
def draw (i r op : Nat) (draws : List (List Prim)) (run : ShaderRun) (args : Pkt → List (Nat × Nat)) (s : State) : State :=
  s.onNim i r op true false (fun s p =>
    if s.reg (Reg.nimPass i r) = 0 then s.stopRing i r St.packetOrder
    else if !s.ctxFree i r then s
    else match s.cread i r (s.reg (Reg.passDesc i r)) 256 with
      | .error e => s.stopFault i r .read e
      | .ok desc => match s.attachments i r desc with
        | .error e => s.stopFault i r .read e
        | .ok as =>
          let st := drawStatus s i r (passDescOf desc) as run
          if st ≠ St.ok then s.stopRing i r st
          else match readFault s i r (args p) with
            | some e => s.stopFault i r .read e
            | none => shade i r run s (fun s bs => ((queuePrims (s.ringTake i r p) i r (passDescOf desc).cols bs draws).binGo i r).lookAhead i r))

/-- A dispatch packet. -/
def dispatch (i r op : Nat) (run : ShaderRun) (args : Pkt → List (Nat × Nat)) (s : State) : State :=
  s.onNim i r op true false (fun s p =>
    if s.reg (Reg.nimPass i r) = 1 ∨ s.reg (Reg.nimPipe i r) = 0 ∨ s.reg (Reg.nimState i r) = 0 then s.stopRing i r St.packetOrder
    else if !s.ctxFree i r ∨ !s.mayTake (s.rank45 i r) then s.ringHeld i r (s.rank45 i r) (s.ctxFree i r)
    else if p.safe ∧ (s.pipeOf (s.reg (Reg.nimPipe i r) - 1)).getD 3 0 = 1 then s.stopRing i r St.replayMarkInvalid
    else if run.limit then s.stopRing i r St.shaderStepLimit
    else match readFault s i r (args p) with
      | some e => s.stopFault i r .read e
      | none => shade i r run s (fun s _ =>
          (s.itemAccept U.nim (s.instWorld i) i r (s.reg (Reg.ringRptr i r)) op (if p.safe then classR else classD) 0
            [(4, s.reg (Reg.nimPipe i r) - 1), (8, s.reg (Reg.nimState i r) - 1)]).ringDone i r p))

/-- A context (`x` is 8 i + r) that waits for pipeline `h` goes on with it, or stops where it was refused (R209). -/
def goesOn (h reason : Nat) (s : State) (x : Nat) : State :=
  if s.reg (Reg.nimWait (x / 8) (x % 8)) ≠ 2 then s
  else match s.fetchPkt (x / 8) (x % 8) with
    | .pkt p => if p.op ≠ 0x03 ∨ p.word 0 ≠ h then s
      else if reason = 0 then (s.setRegs [(Reg.nimWait (x / 8) (x % 8), 0), (Reg.nimPipe (x / 8) (x % 8), h + 1)]).ringDone (x / 8) (x % 8) p
      else s.stopRing (x / 8) (x % 8) St.pipelineUnknown
    | _ => s

/-- The pass at RPTR that is to run again (R430): its item is still open. -/
def replayed (s : State) (i r : Nat) : Option Item :=
  (s.ctxItems i r).find? (fun t => t.opcode == 0x01 && t.rptr == s.reg (Reg.ringRptr i r) && t.replays != 0)

/-- Items of a context taken before the packet at hand: a pass still in progress, or about to run again, is not one of them. -/
def earlier (s : State) (i r : Nat) : List Item :=
  (s.ctxItems i r).filter (fun t => (t.seq != s.reg (Reg.passItem i r) || s.reg (Reg.nimPass i r) == 0) && some t != replayed s i r)

/-- Accept a copy or fill as a work item of the copy engine. -/
def accept (s : State) (i r : Nat) (p : Pkt) : State :=
  s.itemAccept U.nim (s.instWorld i) i r (s.reg (Reg.ringRptr i r)) p.op (if p.safe then classR else classD) 0 []

/-- Two byte ranges overlap. -/
def overlap (a b n : Nat) : Bool := decide (a < b + n) && decide (b < a + n) && decide (0 < n)

/-- End of a copy or fill: a fault stops the context, else the item is taken. -/
def copyEnd (i r : Nat) (p : Pkt) (x : State × Option (Acc × XFault)) : State := match x with
  | (s, some (a, e)) => s.stopFault i r a e
  | (s, none) => (accept s i r p).ringDone i r p

end Nim

/-- NOP (R202): a ring NOP packet is taken and ignored. -/
def execNop (i r : Nat) (s : State) : Host.Outcome State Fault Refusal :=
  s.whenUp (fun s =>
    .next (if rendererRing r then s.onNim i r 0x00 true true (fun s p => if s.reg (Reg.nimWait i r) = 0 then s.ringDone i r p else s)
      else s.onPacket i r 0x00 (fun s p => s.ringDone i r p)))

/-- PASS_BEGIN (R175, R176, R177, R217): the descriptor's checks, an empty bin directory, a new pool, the pass as a work item. -/
def execPassBegin (i r : Nat) (s : State) : Host.Outcome State Fault Refusal :=
  s.whenUp (fun s =>
    .next (s.onNim i r 0x01 true false (fun s p =>
      let da := p.dword 0
      if s.reg (Reg.nimPass i r) = 1 then s.stopRing i r St.packetOrder
      else if !s.ctxFree i r ∨ !s.mayTake (s.rank45 i r) then s.ringHeld i r (s.rank45 i r) (s.ctxFree i r)
      else match s.cread i r da 256 with
        | .error e => s.stopFault i r .read e
        | .ok desc =>
          let d := passDescOf desc
          if State.passHead d da ≠ St.ok then s.stopRing i r (State.passHead d da)
          else match s.attachments i r desc with
            | .error e => s.stopFault i r .read e
            | .ok as =>
              if State.passAttach d as ≠ St.ok then s.stopRing i r (State.passAttach d as)
              else match s.extTable i r d.ext (List.range 16) with
              | .error e => s.stopFault i r .read e
              | .ok ext =>
                let st := s.passRest i r d as ext p.safe
                if st ≠ St.ok then s.stopRing i r st
                else match s.cfill i r d.dir State.emptyEntry d.tiles with
                  | .error e => s.stopFault i r .write e
                  | .ok s =>
                    let old := Nim.replayed s i r
                    let s := s.setRegs [(Reg.passItem i r, match old with | some t => t.seq | none => s.jnlSeq), (Reg.nimPass i r, 1), (Reg.passNum i r, p.word 2), (Reg.passDesc i r, da),
                      (Reg.passSafe i r, b2n p.safe), (Reg.passFlat i r, b2n (bit d.flags 1)), (Reg.passTiles i r, d.tiles),
                      (Reg.passMeta i r, 0), (Reg.nimQuery i r, 0)]
                    let s := (((s.segmentOpen i r 0).setNum (Num.pool i r) [d.pool, 1024 * d.poolSize]).poolPeak i r).l1Drop
                    let s := if old.isSome then s
                      else s.itemAccept U.nim (s.instWorld i) i r (s.reg (Reg.ringRptr i r)) 0x01 (if p.safe then classR else classD) (p.word 2)
                        [(4, s.reg (Reg.nimPipe i r) - 1), (8, s.reg (Reg.nimState i r) - 1)]
                    s.ringDone i r p)))

/-- PASS_END (R187, R41): the last segment is rendered and the store operations apply; the pass boundary follows. -/
def execPassEnd (i r : Nat) (s : State) : Host.Outcome State Fault Refusal :=
  s.whenUp (fun s =>
    .next (s.onNim i r 0x02 true false (fun s p =>
      if s.reg (Reg.nimPass i r) = 0 then s.stopRing i r St.packetOrder
      else if !s.ctxFree i r then s
      else match s.passParts i r with
        | .error e => s.stopFault i r .read e
        | .ok (d, as) => match s.passStores i r d as with
          | .error e => s.stopFault i r e.1 e.2
          | .ok s => (((s.passClear i r).l1Drop).ringDone i r p).boundary 0x600)))

/-- BIND_PIPELINE (R209). -/
def execBindPipeline (i r : Nat) (s : State) : Host.Outcome State Fault Refusal :=
  s.whenUp (fun s =>
    .next (s.onNim i r 0x03 true false (fun s p =>
      let rec' := s.pipeOf (p.word 0)
      if !s.ctxFree i r ∧ s.reg (Reg.nimWait i r) ≠ 2 then s
      else if rec'.isEmpty ∨ rec'.getD 0 0 ≠ s.instWorld i ∨ 2 < rec'.getD 1 0 then s.stopRing i r St.pipelineUnknown
      else if rec'.getD 1 0 = 1 then (s.setReg (Reg.nimWait i r) 2).setReg Reg.nimCur 0
      else (s.setRegs [(Reg.nimWait i r, 0), (Reg.nimPipe i r, p.word 0 + 1)]).ringDone i r p)))

/-- BIND_STATE (table Packets): the state block's address is aligned to 256 bytes. -/
def execBindState (i r : Nat) (s : State) : Host.Outcome State Fault Refusal :=
  s.whenUp (fun s =>
    .next (s.onNim i r 0x04 true false (fun s p =>
      if !s.ctxFree i r then s
      else if p.dword 0 % 256 ≠ 0 then s.stopRing i r St.packetInvalid
      else (s.setReg (Reg.nimState i r) (p.dword 0 + 1)).ringDone i r p)))

/-- DRAW (R178, R204). -/
def execDraw (i r : Nat) (prims : List Prim) (run : ShaderRun) (s : State) : Host.Outcome State Fault Refusal :=
  s.whenUp (fun s =>
    .next (Nim.draw i r 0x05 [prims] run (fun _ => []) s))

/-- DRAW_INDEXED (R178): the indices it uses are read from the index buffer. -/
def execDrawIndexed (i r : Nat) (prims : List Prim) (run : ShaderRun) (s : State) : Host.Outcome State Fault Refusal :=
  s.whenUp (fun s =>
    .next (Nim.draw i r 0x06 [prims] run (fun p =>
      let sz := if p.word 6 / 0x40000000 = 1 then 4 else 2
      [(p.dword 0 + sz * p.word 4, sz * p.word 2)]) s))

/-- DRAW_INDIRECT (R178): one list of primitives for each draw its arguments give. -/
def execDrawIndirect (i r : Nat) (draws : List (List Prim)) (run : ShaderRun) (s : State) : Host.Outcome State Fault Refusal :=
  s.whenUp (fun s =>
    .next (Nim.draw i r 0x07 draws run (fun p => (List.range (p.word 2)).map (fun n => (p.dword 0 + n * p.word 3, 16))) s))

/-- DISPATCH (R202, R208, R217). -/
def execDispatch (i r : Nat) (run : ShaderRun) (s : State) : Host.Outcome State Fault Refusal :=
  s.whenUp (fun s =>
    .next (Nim.dispatch i r 0x08 run (fun _ => []) s))

/-- DISPATCH_INDIRECT (R202, R208, R217): the workgroup counts are read from the argument address. -/
def execDispatchIndirect (i r : Nat) (run : ShaderRun) (s : State) : Host.Outcome State Fault Refusal :=
  s.whenUp (fun s =>
    .next (Nim.dispatch i r 0x09 run (fun p => [(p.dword 0, 12)]) s))

/-- CLEAR (table Packets, R198). -/
def execClear (i r : Nat) (s : State) : Host.Outcome State Fault Refusal :=
  s.whenUp (fun s =>
    .next (s.onNim i r 0x0A true false (fun s p =>
      let a := bits (p.word 0) 0 8
      if s.reg (Reg.nimPass i r) = 0 then s.stopRing i r St.packetOrder
      else if !s.ctxFree i r then s
      else if 8 < a then s.stopRing i r St.packetInvalid
      else (s.setNum (Num.clears i r) (s.num (Num.clears i r) ++ [a, bits (p.word 0) 8 1, bits (p.word 1) 0 16, bits (p.word 1) 16 16,
        bits (p.word 2) 0 16, bits (p.word 2) 16 16, s.reg (Reg.poolNext i r)])).ringDone i r p)))

/-- QUERY_BEGIN (table Packets). -/
def execQueryBegin (i r : Nat) (s : State) : Host.Outcome State Fault Refusal :=
  s.whenUp (fun s =>
    .next (s.onNim i r 0x0B true false (fun s p =>
      if s.reg (Reg.nimPass i r) = 0 ∨ s.reg (Reg.nimQuery i r) ≠ 0 then s.stopRing i r St.packetOrder
      else if !s.ctxFree i r then s
      else if p.word 2 = 0 ∨ 2 < p.word 2 then s.stopRing i r St.packetInvalid
      else (s.setRegs [(Reg.nimQuery i r, p.dword 0 + 1), (Reg.nimQueryKind i r, p.word 2), (Reg.nimQueryCount i r, 0)]).ringDone i r p)))

/-- QUERY_END (table Packets): the count of primitives binned, or a free value for an occlusion query, whose samples the model does not
compute (log 5). -/
def execQueryEnd (i r : Nat) (s : State) : Host.Outcome State Fault Refusal :=
  s.whenUp (fun s =>
    .next (s.onNim i r 0x0C true false (fun s p =>
      if s.reg (Reg.nimQuery i r) = 0 then s.stopRing i r St.packetOrder
      else if !s.ctxFree i r then s
      else
        let occ := s.reg (Reg.nimQueryKind i r) = 1
        match (if occ then s.tick else s).cwrite i r (s.reg (Reg.nimQuery i r) - 1) (leBytes 8 (if occ then s.fresh else s.reg (Reg.nimQueryCount i r))) with
        | .error e => s.stopFault i r .write e
        | .ok s => (s.setReg (Reg.nimQuery i r) 0).ringDone i r p)))

/-- FENCE_SIGNAL (R205). -/
def execFenceSignal (i r : Nat) (s : State) : Host.Outcome State Fault Refusal :=
  s.whenUp (fun s =>
    .next (s.onNim i r 0x10 true true (fun s p =>
      if !s.ctxFree i r ∨ !(Nim.earlier s i r).isEmpty then s
      else if p.dword 0 % 8 ≠ 0 then s.stopRing i r St.packetInvalid
      else match s.fenceMax (s.instWorld i) (s.reg (Reg.s1Root i r)) (p.dword 0) (p.dword 2) with
        | .error e => s.stopFault i r .atomic e
        | .ok s => (s.ringDone i r p).fenceCheckAll)))

/-- FENCE_WAIT (R206). -/
def execFenceWait (i r : Nat) (s : State) : Host.Outcome State Fault Refusal :=
  s.whenUp (fun s =>
    .next (s.onNim i r 0x11 true true (fun s p =>
      if s.reg (Reg.nimWait i r) = 1 then s.fenceCheck i r
      else if !s.ctxFree i r then s
      else if p.dword 0 % 8 ≠ 0 then s.stopRing i r St.packetInvalid
      else match s.fenceRead (s.instWorld i) (s.reg (Reg.s1Root i r)) (p.dword 0) with
        | .error e => s.stopFault i r .read e
        | .ok v =>
          if p.dword 2 ≤ v then s.ringDone i r p
          else
            let ms := s.reg Obj.fenceWaitTimeoutMs
            s.setRegs [(Reg.nimWait i r, 1), (Reg.nimWaitDue i r, if ms = 0 then 0 else s.now + 1000000 * ms),
              (Reg.nimCur, if s.reg Reg.nimCur = 8 * i + r + 1 then 0 else s.reg Reg.nimCur)])))

/-- FENCE_REEVALUATE (R206). -/
def execFenceReevaluate (s : State) : Host.Outcome State Fault Refusal :=
  s.whenUp (fun s =>
    .next s.fenceCheckAll)

/-- FENCE_TIMEOUT (R206): it acts when the time has passed and the wait is still not satisfied. -/
def execFenceTimeout (i r : Nat) (s : State) : Host.Outcome State Fault Refusal :=
  s.whenUp (fun s =>
    .next (if s.reg (Reg.nimWait i r) ≠ 1 ∨ s.reg (Reg.nimWaitDue i r) = 0 ∨ s.now < s.reg (Reg.nimWaitDue i r) then s
      else
        let s := s.fenceCheck i r
        if s.reg (Reg.nimWait i r) = 1 then s.stopRing i r St.fenceTimeout else s))

/-- BARRIER (R195, R204): bit 0 waits for the memory writes of every earlier packet; bit 1 also invalidates the L1s; bits 31:2 are reserved. -/
def execBarrier (i r : Nat) (s : State) : Host.Outcome State Fault Refusal :=
  s.whenUp (fun s =>
    .next (s.onNim i r 0x12 true true (fun s p =>
      if !s.ctxFree i r then s
      else if 3 < p.word 0 then s.stopRing i r St.packetInvalid
      else if bit (p.word 0) 0 ∧ !(Nim.earlier s i r).isEmpty then s
      else (if bit (p.word 0) 1 then s.l1Drop else s).ringDone i r p)))

/-- S1_INVALIDATE (R204, R110): accesses begun under the old mapping are those of items taken; the packet ends when they have. -/
def execS1Invalidate (i r : Nat) (s : State) : Host.Outcome State Fault Refusal :=
  s.whenUp (fun s =>
    .next (s.onNim i r 0x13 true true (fun s p =>
      if !s.ctxFree i r ∨ !(Nim.earlier s i r).isEmpty then s else s.ringDone i r p)))

/-- EVENT (R202, table Packets): RING_EVENT with the packet's 12 bytes. -/
def execEvent (i r : Nat) (s : State) : Host.Outcome State Fault Refusal :=
  s.whenUp (fun s =>
    .next (s.onNim i r 0x14 true true (fun s p =>
      if !s.ctxFree i r then s
      else (s.raise [.inst i] U.nim St.ringEvent (s.instWorld i) 0 [(4, p.word 0), (4, p.word 1), (4, p.word 2)]).ringDone i r p)))

/-- PRIORITY (R211): 0 to 3. -/
def execPriority (i r : Nat) (s : State) : Host.Outcome State Fault Refusal :=
  s.whenUp (fun s =>
    .next (s.onNim i r 0x15 true true (fun s p =>
      if !s.ctxFree i r then s
      else if 3 < p.word 0 then s.stopRing i r St.packetInvalid
      else (s.setReg (Reg.nimPrio i r) (p.word 0)).ringDone i r p)))

/-- TIMESTAMP (table Packets). -/
def execTimestamp (i r : Nat) (s : State) : Host.Outcome State Fault Refusal :=
  s.whenUp (fun s =>
    .next (s.onNim i r 0x16 true true (fun s p =>
      if !s.ctxFree i r then s
      else match s.cwrite i r (p.dword 0) (leBytes 8 s.now) with
        | .error e => s.stopFault i r .write e
        | .ok s => s.ringDone i r p)))

/-- COPY_BUFFER (R217). -/
def execCopyBuffer (i r : Nat) (s : State) : Host.Outcome State Fault Refusal :=
  s.whenUp (fun s =>
    .next (s.onNim i r 0x20 false true (fun s p =>
      let ov := Nim.overlap (p.dword 0) (p.dword 2) (p.dword 4)
      if !s.ctxFree i r ∨ !s.mayTake (s.rank45 i r) then s.ringHeld i r (s.rank45 i r) (s.ctxFree i r)
      else if p.safe ∧ ov then s.stopRing i r St.replayMarkInvalid
      else Nim.copyEnd i r p (State.copyBytes i r (p.dword 0) (p.dword 2) (if ov then some s.fresh else none) (p.dword 4) (if ov then s.tick else s)))))

/-- COPY_SURFACE (R190, R191, R198, R217): both surfaces have texels of one size and hold the rectangle. -/
def execCopySurface (i r : Nat) (s : State) : Host.Outcome State Fault Refusal :=
  s.whenUp (fun s =>
    .next (s.onNim i r 0x21 false true (fun s p =>
      if !s.ctxFree i r ∨ !s.mayTake (s.rank45 i r) then s.ringHeld i r (s.rank45 i r) (s.ctxFree i r)
      else match s.surfAt i r (p.dword 0), s.surfAt i r (p.dword 2) with
        | .error e, _ => s.stopFault i r .read e
        | _, .error e => s.stopFault i r .read e
        | .ok f, .ok g =>
          let x := bits (p.word 4) 0 16
          let y := bits (p.word 4) 16 16
          let w := bits (p.word 5) 0 16
          let h := bits (p.word 5) 16 16
          let sel := fun n => (bits (p.word n) 0 8, bits (p.word n) 8 8, bits (p.word n) 16 8)
          let fits := fun (q : Surf) (l : Nat × Nat × Nat) => decide (l.1 < q.levels) && decide (l.2.1 < max 1 q.layers) && decide (l.2.2 < q.samples)
            && decide (x + w ≤ (q.levelSize l.1).1) && decide (y + h ≤ (q.levelSize l.1).2)
          if f.status false true ≠ St.ok then s.stopRing i r (f.status false true)
          else if g.status false true ≠ St.ok then s.stopRing i r (g.status false true)
          else if f.bytes ≠ g.bytes ∨ !fits f (sel 6) ∨ !fits g (sel 7) then s.stopRing i r St.packetInvalid
          else if p.safe ∧ Nim.overlap f.base g.base (max f.span g.span) then s.stopRing i r St.replayMarkInvalid
          else Nim.copyEnd i r p (State.copyTexels i r f g (sel 6) (sel 7)
            ((List.range h).flatMap (fun dy => (List.range w).map (fun dx => (x + dx, y + dy)))) (s.setReg (Reg.passMeta i r) 0)))))

/-- FILL (table Packets). -/
def execFill (i r : Nat) (s : State) : Host.Outcome State Fault Refusal :=
  s.whenUp (fun s =>
    .next (s.onNim i r 0x22 false true (fun s p =>
      if !s.ctxFree i r ∨ !s.mayTake (s.rank45 i r) then s.ringHeld i r (s.rank45 i r) (s.ctxFree i r)
      else match State.fillBytes i r (p.dword 0) (p.word 4) (p.dword 2) 0 s with
        | (s, some e) => s.stopFault i r .write e
        | (s, none) => (Nim.accept s i r p).ringDone i r p)))

/-- FLATTEN_PRESENT (R215, R216). -/
def execFlattenPresent (i r : Nat) (s : State) : Host.Outcome State Fault Refusal :=
  s.whenUp (fun s =>
    .next (s.onNim i r 0x30 true false (fun s p =>
      let c := s.reg (Reg.ringCtx i r)
      let n := c - 0x3F8
      if c < 0x3F8 then s.stopRing i r St.packetContext
      else if s.reg (Reg.nimPass i r) = 1 then s.stopRing i r St.packetOrder
      else if !s.ctxFree i r ∨ !(Nim.earlier s i r).isEmpty then s
      else match s.surfAt i r (p.dword 0) with
        | .error e => s.stopFault i r .read e
        | .ok f => if !s.flatUsable i r n f then s.stopRing i r St.flattenSurface
          else (s.flatPresent n i r (p.dword 0) (p.word 2)).ringDone i r p)))

/-- BIN_POOL_FULL (R181, R182): primitives wait and the pool has no block for the next. -/
def execBinPoolFull (i r : Nat) (s : State) : Host.Outcome State Fault Refusal :=
  s.whenUp (fun s =>
    .next (if s.reg (Reg.nimPass i r) = 1 ∧ s.reg (Reg.nimWait i r) = 0 ∧ s.fifo (Fifo.prims i r) ≠ [] ∧ s.reg Reg.nimCur = 8 * i + r + 1 then
        s.poolFull i r else s))

/-- EXTENSION_REREAD (R183): during a bin fault a doorbell makes the renderer read the table again. -/
def execExtensionReread (i r : Nat) (s : State) : Host.Outcome State Fault Refusal :=
  s.whenUp (fun s =>
    .next (if s.reg (Reg.nimPass i r) = 1 ∧ s.reg (Reg.nimWait i r) = 3 then s.extReread i r false else s))

/-- BIN_FAULT_TIMEOUT (R184, R185): a last read, then a partial flush with reason 1, at once or, while the context is preempted, when it next runs. -/
def execBinFaultTimeout (i r : Nat) (s : State) : Host.Outcome State Fault Refusal :=
  s.whenUp (fun s =>
    .next (if s.reg (Reg.nimPass i r) = 0 ∨ s.reg (Reg.nimWait i r) ≠ 3 ∨ s.now < s.reg (Reg.nimWaitDue i r) then s
      else s.extReread i r true))

/-- PIPELINE_COMPILED (R207, R209): `reason` 0 for a pipeline that is READY, else why it is refused, with the SPIR-V word offset. Contexts that wait
for the handle go on or stop. -/
def execPipelineCompiled (h reason offset : Nat) (s : State) : Host.Outcome State Fault Refusal :=
  s.whenUp (fun s =>
    .next (match s.pipeOf h with
      | w :: 1 :: rest =>
        let s := s.setNum (Num.pipe h) (w :: (if reason = 0 then 2 else 3) :: rest)
        let s := if reason = 0 then s.raise [.inst (rest.getD 3 0)] U.nim St.pipelineReady w 0 [(4, h)]
          else (s.setNum (Num.pipes w) ((s.num (Num.pipes w)).filter (· != h))).raise [.inst (rest.getD 3 0)] U.nim St.pipelineRefused w 2
            [(4, h), (1, reason), (4, offset)]
        State.nimRings.foldl (Nim.goesOn h reason) s
      | _ => s))

/-- CONTEXT_SCHEDULE (R211, R212): `steps` are the NIM steps used since the last choice. -/
def execContextSchedule (steps : Nat) (s : State) : Host.Outcome State Fault Refusal :=
  s.whenUp (fun s =>
    .next (
      let c := s.reg Reg.nimCur - 1
      let s := if s.reg Reg.nimCur = 0 then s
        else if s.isFlat c then (s.flatUse (s.reg (Reg.ringCtx (c / 8) (c % 8)) - 0x3F8) steps).count (488 + 4 * (c / 8)) steps
        else (s.nimUse (s.instWorld (c / 8)) steps).count (488 + 4 * (c / 8)) steps
      s.preempted.nimSchedule))

/-- PREEMPT_REQUEST (R212): `phase` 0 binning, 1 fragment, 2 compute; `tiles` are the tiles raster units have not finished. Outside the
fragment phase, and with no tile unfinished, the context gives the renderer up at once. -/
def execPreemptRequest (phase : Nat) (tiles : List Nat) (s : State) : Host.Outcome State Fault Refusal :=
  s.whenUp (fun s =>
    .next (if s.reg Reg.nimCur = 0 then s
      else
        let c := s.reg Reg.nimCur - 1
        if phase = 1 ∧ tiles ≠ [] then (s.setReg Reg.nimPreemptAt (s.now + 1)).setNum (Num.tiles (c / 8) (c % 8)) tiles
        else
          let s := s.preempted.nimSchedule
          if s.reg Reg.nimCur = c + 1 then s else s.count 228 1))

/-- TILE_GRACE_EXPIRY (R212): the tiles `saved` are rendered up to the next primitive of each and stored at full precision as step 4 of R187 gives, with that
primitive recorded, and the renderer goes to the next context. -/
def execTileGraceExpiry (saved : List (Nat × Nat)) (s : State) : Host.Outcome State Fault Refusal :=
  s.whenUp (fun s =>
    .next (if s.reg Reg.nimCur = 0 ∨ s.reg Reg.nimPreemptAt = 0 then s
      else
        let i := (s.reg Reg.nimCur - 1) / 8
        let r := (s.reg Reg.nimCur - 1) % 8
        let saved := saved.filter (fun t => (s.num (Num.tiles i r)).contains t.1)
        let s := s.preempted
        match s.passParts i r with
        | .error e => s.stopFault i r .read e
        | .ok (d, as) =>
          match s.renderTiles i r d as (fun _ => State.flushPlan) (fun t => (saved.find? (fun p => p.1 == t)).map Prod.snd) (saved.map Prod.fst).zipIdx with
          | .error e => s.stopFault i r e.1 e.2
          | .ok s => (s.setNum (Num.saved i r) (saved.flatMap (fun t => [t.1, t.2])
              ++ ((State.tileItems.savedOf (s.num (Num.saved i r))).filter (fun p => !(saved.map Prod.fst).contains p.1)).flatMap (fun t => [t.1, t.2]))).nimSchedule.count 228 1))

/-- TIME_SLICE_EXPIRY (R211): the slice of TimeSliceUs has passed, equal contexts rotate. -/
def execTimeSliceExpiry (s : State) : Host.Outcome State Fault Refusal :=
  s.whenUp (fun s =>
    .next (if s.reg Reg.nimCur = 0 ∨ s.now < s.reg Reg.nimSince + 1000 * s.reg Obj.timeSliceUs then s else s.nimSchedule))

/-- CLUSTER_LOST (R201): the renderer goes on with the clusters that remain and reduces the rank-4 reservations in proportion. -/
def execClusterLost (c : Nat) (s : State) : Host.Outcome State Fault Refusal :=
  s.whenUp (fun s =>
    .next (if 24 ≤ c ∨ s.reg (Reg.unitState (U.cluster c)) = 5 then s
      else
        let s := (s.setUnitState (U.cluster c) 5).setReg Obj.clustersAlive (s.reg Obj.clustersAlive - 1)
        let s := s.raise [.hal, .owner] U.nim St.clusterLost 0xFF 3 [(1, c)]
        s.yieldProportion U.nim .cluster 1 (s.nimRate - s.flattenDemand s.reg) 0xFFFFFFFF Reg.resRenderer))

/-- WORK_ITEM_COMPLETE (R432): the oldest taken item of the ring whose work is done; its ITEM_END is journalled. A pass still in progress is not
complete. -/
def execWorkItemComplete (i r : Nat) (s : State) : Host.Outcome State Fault Refusal :=
  s.whenUp (fun s =>
    .next (match Nim.earlier s i r with
      | [] => s
      | t :: _ => if rendererRing r then s.itemEnd t St.ok else s))

end Sys2Proof.Machine
end

