-- ==== Sys2Proof/Machine/Pennant.lean ====
section
/-!
DEFINITION. Machine/Pennant.lean: the instructions of the pennant cores (chapter 15, table Instruction encodings). Each command is core `c` meeting that instruction
at its pc; a core that does not run, meets another instruction there, or has a handler to enter first (R367), does nothing.
-/
namespace Sys2Proof.Machine

/-- MOV (R369): rd = rs. -/
def execMov (c : Nat) (s : State) : Host.Outcome State Fault Refusal :=
  s.whenUp (fun s =>
    .next (s.coreAlu c .mov false))

/-- ADD (R369): rd = rd + rs. -/
def execAdd (c : Nat) (s : State) : Host.Outcome State Fault Refusal :=
  s.whenUp (fun s =>
    .next (s.coreAlu c .add false))

/-- SUB (R369): rd = rd - rs. -/
def execSub (c : Nat) (s : State) : Host.Outcome State Fault Refusal :=
  s.whenUp (fun s =>
    .next (s.coreAlu c .sub false))

/-- ADC (R369): rd = rd + rs + C. -/
def execAdc (c : Nat) (s : State) : Host.Outcome State Fault Refusal :=
  s.whenUp (fun s =>
    .next (s.coreAlu c .adc false))

/-- SBC (R369): rd = rd - rs - C. -/
def execSbc (c : Nat) (s : State) : Host.Outcome State Fault Refusal :=
  s.whenUp (fun s =>
    .next (s.coreAlu c .sbc false))

/-- AND (R369): bitwise and. -/
def execAnd (c : Nat) (s : State) : Host.Outcome State Fault Refusal :=
  s.whenUp (fun s =>
    .next (s.coreAlu c .and false))

/-- OR (R369): bitwise or. -/
def execOr (c : Nat) (s : State) : Host.Outcome State Fault Refusal :=
  s.whenUp (fun s =>
    .next (s.coreAlu c .or false))

/-- XOR (R369): bitwise exclusive or. -/
def execXor (c : Nat) (s : State) : Host.Outcome State Fault Refusal :=
  s.whenUp (fun s =>
    .next (s.coreAlu c .xor false))

/-- SHL (R369): shift left by rs bits 3:0. -/
def execShl (c : Nat) (s : State) : Host.Outcome State Fault Refusal :=
  s.whenUp (fun s =>
    .next (s.coreAlu c .shl false))

/-- SHR (R369): logical shift right by rs bits 3:0. -/
def execShr (c : Nat) (s : State) : Host.Outcome State Fault Refusal :=
  s.whenUp (fun s =>
    .next (s.coreAlu c .shr false))

/-- SRA (R369): arithmetic shift right by rs bits 3:0. -/
def execSra (c : Nat) (s : State) : Host.Outcome State Fault Refusal :=
  s.whenUp (fun s =>
    .next (s.coreAlu c .sra false))

/-- CMP (R369): flags of rd - rs. -/
def execCmp (c : Nat) (s : State) : Host.Outcome State Fault Refusal :=
  s.whenUp (fun s =>
    .next (s.coreAlu c .cmp true))

/-- TST (R369): flags of rd AND rs. -/
def execTst (c : Nat) (s : State) : Host.Outcome State Fault Refusal :=
  s.whenUp (fun s =>
    .next (s.coreAlu c .tst true))

/-- MUL (R369): low 16 bits of the signed product. -/
def execMul (c : Nat) (s : State) : Host.Outcome State Fault Refusal :=
  s.whenUp (fun s =>
    .next (s.coreAlu c .mul false))

/-- MULH (R369): high 16 bits of the signed product. -/
def execMulh (c : Nat) (s : State) : Host.Outcome State Fault Refusal :=
  s.whenUp (fun s =>
    .next (s.coreAlu c .mulh false))

/-- NOT (R369): rd = NOT rs. -/
def execNot (c : Nat) (s : State) : Host.Outcome State Fault Refusal :=
  s.whenUp (fun s =>
    .next (s.coreAlu c .not false))

/-- ADDI (R369): rd = rd + simm8. -/
def execAddi (c : Nat) (s : State) : Host.Outcome State Fault Refusal :=
  s.whenUp (fun s =>
    .next (s.coreIssue c .addi (fun s w =>
      let r := Pen.addRes (s.g c (Pen.rd w)) (Pen.simm16 w) 0
      (s.setG c (Pen.rd w) r.val).coreFlag c r)))

/-- MOVI (R369): rd = imm8; flags stay. -/
def execMovi (c : Nat) (s : State) : Host.Outcome State Fault Refusal :=
  s.whenUp (fun s =>
    .next (s.coreIssue c .movi (fun s w => (s.setG c (Pen.rd w) (Pen.imm8 w)).coreNext c)))

/-- MOVHI (R369): rd = imm8 × 256 + the low byte of rd; flags stay. -/
def execMovhi (c : Nat) (s : State) : Host.Outcome State Fault Refusal :=
  s.whenUp (fun s =>
    .next (s.coreIssue c .movhi (fun s w => (s.setG c (Pen.rd w) (Pen.imm8 w * 256 + s.g c (Pen.rd w) % 256)).coreNext c)))

/-- CMPI (R369): flags of rd - simm8. -/
def execCmpi (c : Nat) (s : State) : Host.Outcome State Fault Refusal :=
  s.whenUp (fun s =>
    .next (s.coreIssue c .cmpi (fun s w => s.coreFlag c (Pen.subRes (s.g c (Pen.rd w)) (Pen.simm16 w) 0))))

/-- LDW (R369, R375): rd = word at rs + 2 × imm4. -/
def execLdw (c : Nat) (s : State) : Host.Outcome State Fault Refusal :=
  s.whenUp (fun s =>
    .next (s.coreIssue c .ldw (fun s w => s.coreLoadTo c (Pen.rd w) ((s.g c (Pen.rs w) + 2 * bits w 0 4) % 65536) 2)))

/-- STW (R369, R375): word at rs + 2 × imm4 = rd. -/
def execStw (c : Nat) (s : State) : Host.Outcome State Fault Refusal :=
  s.whenUp (fun s =>
    .next (s.coreIssue c .stw (fun s w => s.coreStoreFrom c (Pen.rd w) ((s.g c (Pen.rs w) + 2 * bits w 0 4) % 65536) 2)))

/-- LDB (R369, R375): rd = byte at rs + imm3, zero-extended. -/
def execLdb (c : Nat) (s : State) : Host.Outcome State Fault Refusal :=
  s.whenUp (fun s =>
    .next (s.coreIssue c .ldb (fun s w => s.coreLoadTo c (Pen.rd w) ((s.g c (Pen.rs w) + bits w 0 3) % 65536) 1)))

/-- STB (R369, R375): byte at rs + imm3 = the low byte of rd. -/
def execStb (c : Nat) (s : State) : Host.Outcome State Fault Refusal :=
  s.whenUp (fun s =>
    .next (s.coreIssue c .stb (fun s w => s.coreStoreFrom c (Pen.rd w) ((s.g c (Pen.rs w) + bits w 0 3) % 65536) 1)))

/-- BCC (R369): a branch to pc + 1 + soff8 when its condition holds; taken, it takes two instruction times. -/
def execBcc (c : Nat) (s : State) : Host.Outcome State Fault Refusal :=
  s.whenUp (fun s =>
    .next (s.coreIssue c .bcc (fun s w =>
      if Pen.cond (Pen.rd w) (s.reg (Reg.coreFlags c)) then
        (s.coreSpend c 1).coreGo c (Pen.branchTarget (s.reg (Reg.corePc c)) w % 4096).toNat
      else s.coreNext c)))

/-- JMP (R369): pc = abs12. -/
def execJmp (c : Nat) (s : State) : Host.Outcome State Fault Refusal :=
  s.whenUp (fun s =>
    .next (s.coreIssue c .jmp (fun s w => (s.coreSpend c 1).coreGo c (Pen.abs12 w))))

/-- CALL (R369): g15 = pc + 1; pc = abs12. -/
def execCall (c : Nat) (s : State) : Host.Outcome State Fault Refusal :=
  s.whenUp (fun s =>
    .next (s.coreIssue c .call (fun s w => ((s.coreSpend c 1).setG c 15 (s.reg (Reg.corePc c) + 1)).coreGo c (Pen.abs12 w))))

/-- MFS (R369): rd = a special register; reading evq pops it, reading mbx or peerin marks the word read. -/
def execMfs (c : Nat) (s : State) : Host.Outcome State Fault Refusal :=
  s.whenUp (fun s =>
    .next (s.coreIssue c .mfs (fun s w =>
      let (v, s) := s.specialRead c (Pen.sel w)
      (s.setG c (Pen.rd w) v).coreNext c)))

/-- MTS (R369): a special register = rd. A write of flags sets them, and the program goes on behind it. -/
def execMts (c : Nat) (s : State) : Host.Outcome State Fault Refusal :=
  s.whenUp (fun s =>
    .next (s.coreIssue c .mts (fun s w => (s.specialWrite c (Pen.sel w) (s.g c (Pen.rd w))).coreNext c)))

/-- JR (R369): pc = rd; RET is JR g15. -/
def execJr (c : Nat) (s : State) : Host.Outcome State Fault Refusal :=
  s.whenUp (fun s =>
    .next (s.coreIssue c .jr (fun s w => (s.coreSpend c 1).coreGo c (s.g c (Pen.rd w)))))

/-- RETE (R367, R371, R372): flags from eflags, on at epc. Back at a PWAIT from which the handler was entered the program sleeps again, and a tick that fell
during the handler makes the boundary now. -/
def execRete (c : Nat) (s : State) : Host.Outcome State Fault Refusal :=
  s.whenUp (fun s =>
    .next (s.coreIssue c .rete (fun s _ =>
      let s := ((s.coreSpend c 1).setReg (Reg.coreFlags c) (s.reg (Reg.coreEflags c))).coreGo c (s.reg (Reg.coreEpc c))
      if s.reg (Reg.coreInPwait c) = 1 ∧ Pen.op (s.coreWord c) = some .pwait then (s.setReg (Reg.coreInPwait c) 0).corePwait c else s)))

/-- WAIT (R369): sleep until an enabled event is queued; the program then goes on behind it. -/
def execWait (c : Nat) (s : State) : Host.Outcome State Fault Refusal :=
  s.whenUp (fun s =>
    .next (s.coreIssue c .wait (fun s _ => ((s.coreNext c).setReg (Reg.coreWait c) 1).coreWake c)))

/-- PWAIT (R372, R373): ends the work of the period. -/
def execPwait (c : Nat) (s : State) : Host.Outcome State Fault Refusal :=
  s.whenUp (fun s =>
    .next (s.coreIssue c .pwait (fun s _ => s.corePwait c)))

/-- SEND (R366): g[rd] to the core that peer names; Z tells whether it was sent. A core of another world is fault 5. -/
def execSend (c : Nat) (s : State) : Host.Outcome State Fault Refusal :=
  s.whenUp (fun s =>
    .next (s.coreIssue c .send (fun s w =>
      let p := s.reg (Reg.corePeer c)
      let f := s.reg (Reg.coreFlags c)
      if 31 < p ∨ s.coreWorld p ≠ s.coreWorld c then s.coreFault c 5 p
      else if s.reg (Reg.corePeerNew p) = 1 then (s.setReg (Reg.coreFlags c) (Pen.withZ f false)).coreNext c
      else
        let v := s.g c (Pen.rd w)
        ((((s.setRegs [(Reg.corePeerIn p, v), (Reg.corePeerNew p, 1)]).coreEvent p 15 (v % 256)).setReg (Reg.coreFlags c) (Pen.withZ f true)).coreNext c))))

/-- EI (R367): IE = 1. -/
def execEi (c : Nat) (s : State) : Host.Outcome State Fault Refusal :=
  s.whenUp (fun s =>
    .next (s.coreIssue c .ei (fun s _ => (s.setReg (Reg.coreFlags c) (setBit (s.reg (Reg.coreFlags c)) 4)).coreNext c)))

/-- DI (R367): IE = 0. -/
def execDi (c : Nat) (s : State) : Host.Outcome State Fault Refusal :=
  s.whenUp (fun s =>
    .next (s.coreIssue c .di (fun s _ => (s.setReg (Reg.coreFlags c) (clearBit (s.reg (Reg.coreFlags c)) 4)).coreNext c)))

/-- SYS_NOP (R369): the SYS no-operation. -/
def execSysNop (c : Nat) (s : State) : Host.Outcome State Fault Refusal :=
  s.whenUp (fun s =>
    .next (s.coreIssue c .nop (fun s _ => s.coreNext c)))

/-- BMOV (R370, R371): one element: word(g13) = word(g12), both pointers on by 2. -/
def execBmov (c : Nat) (s : State) : Host.Outcome State Fault Refusal :=
  s.whenUp (fun s =>
    .next (s.coreBlock c .bmov (fun s _ =>
      match s.elemWord c (s.g c 12) with
      | .error e => .error e
      | .ok (s, v) => match s.coreWrite c (s.g c 13) 2 v with
        | .error k => .error (k, s.g c 13)
        | .ok s => .ok ((s.setG c 12 (s.g c 12 + 2)).setG c 13 (s.g c 13 + 2)))))

/-- BFEED (R370, R371, R386): one element: memory at g12 to a check unit. A unit that is not bound to the core is fault 4. -/
def execBfeed (c : Nat) (s : State) : Host.Outcome State Fault Refusal :=
  s.whenUp (fun s =>
    .next (s.coreBlock c .bfeed (fun s w =>
      let u := bits w 4 4
      let n := Pen.feedBytes w
      if !s.coreMayFeed c u then .error (4, s.g c 12)
      else match s.elemBytes c (s.g c 12) n with
        | .error e => .error e
        | .ok (s, d) => .ok (((s.coreSpend c (if n = 4 then 1 else 0)).coreFeed c u d).setG c 12 (s.g c 12 + n)))))

/-- BMAC (R370, R371): one element: the accumulator in g10 and g11 plus s16(word(g12)) × s16(word(g13)), saturated to 32 bits. -/
def execBmac (c : Nat) (s : State) : Host.Outcome State Fault Refusal :=
  s.whenUp (fun s =>
    .next (s.coreBlock c .bmac (fun s _ =>
      match s.elemWord c (s.g c 12) with
      | .error e => .error e
      | .ok (s, a) => match s.elemWord c (s.g c 13) with
        | .error e => .error e
        | .ok (s, b) =>
          let acc := ofSigned 4 (Pen.sat32 (toSigned 4 (65536 * s.g c 10 + s.g c 11) + Pen.product a b))
          .ok ((((s.setG c 10 (acc / 65536)).setG c 11 acc).setG c 12 (s.g c 12 + 2)).setG c 13 (s.g c 13 + 2)))))

/-- WAITV (R370, R371): one poll: on a match of the word at g12 under mask g13 with g11 the instruction ends with Z set; when the count runs out, with
Z clear. -/
def execWaitv (c : Nat) (s : State) : Host.Outcome State Fault Refusal :=
  s.whenUp (fun s =>
    .next (s.coreBlock c .waitv (fun s _ =>
      match s.elemWord c (s.g c 12) with
      | .error e => .error e
      | .ok (s, v) =>
        let f := s.reg (Reg.coreFlags c)
        if (v &&& s.g c 13) = s.g c 11 then .ok ((s.setG c 14 0).setReg (Reg.coreFlags c) (Pen.withZ f true))
        else if s.g c 14 = 1 then .ok (s.setReg (Reg.coreFlags c) (Pen.withZ f false))
        else .ok s)))

/-- HANDLER_ENTRY (R367, R371): with IE set and an enabled entry queued the core saves pc and flags, clears IE and goes on at evh. -/
def execHandlerEntry (c : Nat) (s : State) : Host.Outcome State Fault Refusal :=
  s.whenUp (fun s =>
    .next (
      let w := s.reg (Reg.coreWait c)
      let t := s.setReg (Reg.coreWait c) 0
      if !t.coreAwake c ∨ !s.coreEnters c then s
      else (t.setRegs [(Reg.coreBlk c, 0), (Reg.coreInPwait c, if w = 2 then 1 else s.reg (Reg.coreInPwait c)), (Reg.coreEpc c, s.reg (Reg.corePc c)),
        (Reg.coreEflags c, s.reg (Reg.coreFlags c)), (Reg.coreFlags c, clearBit (s.reg (Reg.coreFlags c)) 4)]).coreGo c (s.reg (Reg.coreEvh c))))

/-- TIMER_EXPIRY (R364): a running timer reaches 0: its event is queued; it reloads, or stops. -/
def execTimerExpiry (c t : Nat) (s : State) : Host.Outcome State Fault Refusal :=
  s.whenUp (fun s =>
    .next (
      let ctl := s.reg (Reg.coreTmrCtl c t)
      if 31 < c ∨ 3 < t ∨ !bit ctl 15 ∨ s.reg (Obj.coreState c) = 3 ∨ s.tmrNow c t ≠ 0 then s
      else
        let tick := State.tmrTick ctl
        let at' := (s.reg (Reg.coreTmrAt c t) / tick + s.reg (Reg.coreTmr c t)) * tick
        let s := if bit ctl 14 then s.setRegs [(Reg.coreTmr c t, s.reg (Reg.coreTmrRl c t)), (Reg.coreTmrAt c t, at')]
          else s.setRegs [(Reg.coreTmr c t, 0), (Reg.coreTmrAt c t, s.now), (Reg.coreTmrCtl c t, clearBit ctl 15)]
        s.coreEvent c t 0))

/-- EDGE_DETECT (R364, R372): an enabled detector whose MODE takes the edge queues its event with the level; edg0 of a core with PeriodSource 1 ticks the
period instead. -/
def execEdgeDetect (c e : Nat) (level : Bool) (s : State) : Host.Outcome State Fault Refusal :=
  s.whenUp (fun s =>
    .next (
      let v := s.reg (Reg.coreEdge c e)
      let mode := bits v 13 2
      let s := if Pen.isOwner c ∧ e < 8 ∧ v % 256 < 32 ∧ !s.pinIsOut (v % 256) then
          s.setReg Obj.ioLevels (if level then setBit (s.reg Obj.ioLevels) (v % 256) else clearBit (s.reg Obj.ioLevels) (v % 256)) else s
      if 31 < c ∨ 7 < e ∨ !bit v 15 ∨ !(mode == 2 || (mode == 0 && level) || (mode == 1 && !level)) then s
      else if e = 0 ∧ s.reg (Obj.corePeriodSource c) = 1 then s.coreTick c
      else s.coreEvent c (4 + e) (b2n level)))

/-- PERIOD_TICK (R372, R373): the tick of a core's period source. The internal source ticks at whole multiples of the period. -/
def execPeriodTick (c : Nat) (s : State) : Host.Outcome State Fault Refusal :=
  s.whenUp (fun s =>
    .next (
      let us := if Pen.isOwner c then s.reg (Obj.corePeriodUs c) else if 16 ≤ c ∧ c < 22 then 1000 else 0
      if (Pen.isOwner c ∧ s.reg (Obj.corePeriodSource c) = 1) ∨ (us ≠ 0 ∧ s.now % (1000 * us) ≠ 0) then s else s.coreTick c))

/-- CORE_RESET (R375): the parent resets a core stopped by a fault; a third reset within 60 s makes it DEAD. -/
def execCoreReset (c : Nat) (s : State) : Host.Outcome State Fault Refusal :=
  s.whenUp (fun s =>
    .next (
      if 29 < c ∨ s.reg (Obj.coreState c) ≠ 4 ∨ s.reg (Reg.coreBack c) = 1 ∨ s.reg (Reg.coreReady c) = 1 ∨ s.reg (Reg.unitState (U.core c)) = 5 then s
      else
        let recent := (s.num (Num.coreResets c)).filter (fun t => decide (s.now < t + 60000000000))
        if 2 ≤ recent.length then s.unitDead (U.core c)
        else
          let lost := (s.coreQueue c).length
          let s := (s.setNum (Num.coreResets c) (s.now :: recent)).setNum (Num.coreQ c) []
          let s := (List.range 4).foldl (fun s t => s.setRegs [(Reg.coreTmr c t, 0), (Reg.coreTmrRl c t, 0), (Reg.coreTmrCtl c t, 0), (Reg.coreTmrAt c t, 0)]) s
          let s := (List.range 8).foldl (fun s e => s.setReg (Reg.coreEdge c e) 0) s
          let s := s.setRegs [(Reg.coreEpc c, 0), (Reg.coreEflags c, 0), (Reg.coreMbx c, 0), (Reg.coreMbxNew c, 0), (Obj.coreMailboxOut c, 0), (Reg.corePeer c, 0),
            (Reg.corePeerIn c, 0), (Reg.corePeerNew c, 0), (Reg.coreLost c, s.reg (Reg.coreLost c) + lost)]
          let m := s.coreImage c
          (((s.coreStart c m).coreLoad c m).setReg (Reg.coreReady c) 1).bump (Obj.coreResets c) 32))

end Sys2Proof.Machine
end

