-- ==== Sys2Proof/Machine/TouchOps.lean ====
section
/-!
DEFINITION. Machine/TouchOps.lean: the port program of a touch port: signals, clusters, contacts, routing, baselines, noise, rates and waking
(R304 to R325).
-/
namespace Sys2Proof.Machine

namespace Touch

/-- A cluster of one frame: its nodes, peak signal, centroid in 1/256 node, panel position in 1/16 pixel, self confirmation. -/
structure Cluster where
  nodes : List Nat
  peak : Nat
  cx : Nat
  cy : Nat
  x : Nat
  y : Nat
  self : Bool
  deriving DecidableEq, Repr

/-- Two nodes of a grid with `d` columns touch, or are the same. -/
def near (d a b : Nat) : Bool :=
  decide (a % d ≤ b % d + 1) && decide (b % d ≤ a % d + 1) && decide (a / d ≤ b / d + 1) && decide (b / d ≤ a / d + 1)

/-- Two nodes lie within 2 nodes of each other (R317). -/
def near2 (d a b : Nat) : Bool :=
  decide (a % d ≤ b % d + 2) && decide (b % d ≤ a % d + 2) && decide (a / d ≤ b / d + 2) && decide (b / d ≤ a / d + 2)

/-- Grow a cluster from its nodes by those of the rest that touch it. -/
def grow (d : Nat) : Nat → List Nat → List Nat → List Nat × List Nat
  | 0, c, rest => (c, rest)
  | n + 1, c, rest =>
    let add := rest.filter (fun x => c.any (near d x))
    if add = [] then (c, rest) else grow d n (c ++ add) (rest.filter (fun x => !c.any (near d x)))

/-- Clusters of nodes that touch each other (R308; log 21). -/
def groups (d : Nat) : Nat → List Nat → List (List Nat)
  | 0, _ => []
  | _, [] => []
  | n + 1, x :: xs =>
    let (c, rest) := grow d (xs.length + 1) [x] xs
    c :: groups d n rest

/-- Value of a masked line: interpolated between the lines on either side, across at most two; 0 in a band beyond that (R320). -/
def lineInterp (masked : List Bool) (f : Nat → Int) (i : Nat) : Int :=
  if masked.getD i false then
    match ((List.range i).reverse).find? (fun j => !masked.getD j false),
          ((List.range masked.length).drop (i + 1)).find? (fun j => !masked.getD j false) with
    | some l, some r => if r ≤ l + 3 then f l + (f r - f l) * ((i : Int) - l) / ((r : Int) - l) else 0
    | _, _ => 0
  else f i

/-- Gaps of masked lines: the longest run of adjacent masked lines between two good ones, and whether a band cannot be sensed (a run of 3, or a masked
line at the edge; R320). -/
def gaps : List Bool → Bool → Nat → Nat × Bool
  | [], edge, run => (0, decide (0 < run) || edge && false)
  | true :: l, edge, run => gaps l edge (run + 1)
  | false :: l, edge, run =>
    let (g, b) := gaps l false 0
    (max g run, b || decide (3 ≤ run) || (edge && decide (0 < run)))

/-- Squared distance of two points in 1/256 node. -/
def dist2 (ax ay bx by' : Nat) : Nat := (((ax : Int) - bx) ^ 2 + ((ay : Int) - by') ^ 2).toNat

end Touch

namespace State

open Touch (Cluster)

/-- Columns and rows of port `p`. -/
def tDim (s : State) (p : Nat) : Nat × Nat := (s.reg (Obj.driveCount p), s.reg (Obj.senseCount p))

/-- Masked flags of the drive (`r` 1) or sense (`r` 2) lines. -/
def tMasked (s : State) (p r : Nat) : List Bool := (Touch.channels (s.reg (Obj.channelRole p)) r).map (fun c => bit (s.reg (Obj.maskedChannels p)) c)

/-- Mutual signal of a node (R306), with the nodes of masked channels interpolated (R320). -/
def tSignal (s : State) (p : Nat) (raw : List Nat) (node : Nat) : Int :=
  let d := (s.tDim p).1
  let base := s.num (Num.base p)
  let one := fun c r => (base.getD (r * d + c) 0 : Int) - (raw.getD (r * d + c) (base.getD (r * d + c) 0) : Int)
  Touch.lineInterp (s.tMasked p 2) (fun r => Touch.lineInterp (s.tMasked p 1) (fun c => one c r) (node % d)) (node / d)

/-- Self signal of line `j`, drives first (R306). -/
def tSelf (s : State) (p : Nat) (self : List Nat) (j : Nat) : Int :=
  (self.getD j ((s.num (Num.selfBase p)).getD j 0) : Int) - ((s.num (Num.selfBase p)).getD j 0 : Int)

/-- Panel position in 1/16 pixel of a centroid `ux / w`, `uy / w` in nodes (R304). -/
def tPanel (s : State) (p ux uy w : Nat) : Nat × Nat :=
  let (d, e) := s.tDim p
  let o := s.reg (Obj.orientation p)
  let (ax, ay, nx, ny) := if bit o 0 then (uy, ux, e, d) else (ux, uy, d, e)
  let mw := s.reg (Obj.mapW p)
  let mh := s.reg (Obj.mapH p)
  let x := (2 * ax + w) * 16 * mw / (2 * w * nx)
  let y := (2 * ay + w) * 16 * mh / (2 * w * ny)
  (16 * s.reg (Obj.mapX p) + (if bit o 1 then 16 * mw - x else x), 16 * s.reg (Obj.mapY p) + (if bit o 2 then 16 * mh - y else y))

/-- Describe a cluster (R308): peak, signal-weighted centroid of the peak node and its eight neighbours, self confirmation. -/
def tCluster (s : State) (p : Nat) (sig : Nat → Int) (self : List Nat) (nodes : List Nat) : Cluster :=
  let (d, e) := s.tDim p
  let top := nodes.foldl (fun b x => if sig b < sig x then x else b) (nodes.headD 0)
  let w9 := ((List.range (d * e)).filter (Touch.near d top)).map (fun x => (x, (max 0 (sig x)).toNat))
  let w := max 1 (w9.foldl (fun t q => t + q.2) 0)
  let ux := w9.foldl (fun t q => t + q.2 * (q.1 % d)) 0
  let uy := w9.foldl (fun t q => t + q.2 * (q.1 / d)) 0
  let (x, y) := s.tPanel p ux uy w
  let th : Int := s.reg (Obj.selfThreshold p)
  let ok := nodes.any (fun x => decide (th ≤ s.tSelf p self (x % d))) && nodes.any (fun x => decide (th ≤ s.tSelf p self (d + x / d)))
  ⟨nodes, (max 0 (sig top)).toNat, 256 * ux / w, 256 * uy / w, x, y, ok⟩

/-- Clusters of a frame above a release threshold. -/
def tClusters (s : State) (p : Nat) (sig : Nat → Int) (self : List Nat) (rel : Nat) : List Cluster :=
  let (d, e) := s.tDim p
  let up := (List.range (d * e)).filter (fun x => decide ((rel : Int) < sig x))
  (Touch.groups d up.length up).map (s.tCluster p sig self)

/-- Down and release thresholds (R308). -/
def tThresholds (s : State) (p : Nat) (glove : Bool) : Nat × Nat :=
  let t := s.reg (Obj.touchThreshold p)
  let g := s.reg (Obj.gloveThreshold p)
  if glove then (g, s.reg (Obj.releaseThreshold p) * g / t) else (t, s.reg (Obj.releaseThreshold p))

/-- The Ensign region of head `n` that holds a panel position. -/
def ensRegionAt (s : State) (n x y : Nat) : Option Nat :=
  (List.range 16).find? (fun k => s.reg (Obj.regionUsed n k) == 1
    && inBox x y (s.reg (Obj.regionX n k)) (s.reg (Obj.regionY n k)) (s.reg (Obj.regionW n k)) (s.reg (Obj.regionH n k)))

/-- The topmost enabled layer at a position whose bit in TouchPassMask is clear (R321). -/
def layerAt (s : State) (p n x y : Nat) : Option Nat :=
  let ls := (List.range 8).filter (fun l => s.reg (Obj.layerEnable n l) == 1 && !bit (s.reg (Obj.touchPassMask p)) l
    && inBox x y (s.reg (Obj.layerDstX n l)) (s.reg (Obj.layerDstY n l)) (s.reg (Obj.layerDstW n l)) (s.reg (Obj.layerDstH n l)))
  ls.foldl (fun b l => match b with
    | none => some l
    | some m => if s.reg (Obj.layerZOrder n m) < s.reg (Obj.layerZOrder n l) then some l else b) none

/-- The position lies on a part of the head that is shown: not OFF or DARK, not the dark half of a PARTIAL split head, inside the active area. -/
def shownAt (s : State) (n x y : Nat) : Bool :=
  let half := if 2 * x < 16 * s.reg (Obj.hActive n) then 0 else 1
  s.headLit n && inBox x y 0 0 (s.reg (Obj.hActive n)) (s.reg (Obj.vActive n))
    && (!Head.split s.reg n || s.reg (Obj.headState n) == 1 || (match (Head.portsOf s.reg n)[half]? with | some q => s.portLit q | none => false))

/-- Route a contact at touch-down (R304, R321, R325): its world, 0xFF where it is discarded, and its LAYER. -/
def tRoute (s : State) (p x y : Nat) : Nat × Nat :=
  let n := s.reg (Obj.portHead p)
  let hold := s.reg (Reg.blockHolder (U.touch p))
  match (if n < 8 then s.ensRegionAt n x y else none) with
  | some k => (1, 0x80 + k)
  | none =>
    if 7 < n then (0xFF, 0xFF)
    else if hold ≠ 0 then (if inBox x y 0 0 (s.reg (Obj.hActive n)) (s.reg (Obj.vActive n)) then hold else 0xFF, 0xFF)
    else if !s.shownAt n x y then (0xFF, 0xFF)
    else match s.layerAt p n x y with
      | none => (0xFF, 0xFF)
      | some l =>
        let w := (s.layerSig n l).getD 1 0
        if w = 0 then (0xFF, l) else (w, l)

/-- Take a contact for reporting with the lowest free ID, and send phase down (R310, R321, R323, R335). -/
def tOpen (s : State) (p : Nat) (c : Contact) (used : List Nat) : State × Contact :=
  let n := s.reg (Obj.portHead p)
  let (w, l) := s.tRoute p c.x c.y
  let num := ((List.range 16).find? (fun j => !used.contains j)).getD 0
  let c : Contact := { c with
    num := num, kind := 1, world := w, head := n, layer := l, glove := decide (c.peak < s.reg (Obj.touchThreshold p)),
    sig := if l < 8 then s.layerSig n l else [] }
  if w = 0xFF then (if n = 0xFF then s else (s.bump (Obj.contactsDiscarded p) 32).count (379 + 4 * p) 1, c)
  else ((contactSend p 0 s c).hapTouch p 0 c, c)

/-- Suppress a cluster (R316): the holder and the owner are told once. -/
def tSuppress (s : State) (p : Nat) (c : Contact) : State × Contact :=
  ((s.count (379 + 4 * p) 1).raise [s.blockDest (U.touch p), .owner] (U.touch p) St.contactSuppressed (s.reg (Reg.blockHolder (U.touch p))) 1
    [(1, 0), (1, min 255 c.size)], { c with kind := 2 })

/-- A slow or watched touch wakes the port (R314). -/
def tWake (s : State) (p : Nat) : State :=
  let s := s.setRegs [(Reg.touchWatch p, 0), (Reg.touchDowns p, 0), (Reg.touchLastAt p, s.now),
    (Obj.scanRateHz p, if s.reg (Reg.touchNoisy p) = 1 ∨ s.reg (Reg.touchLate p) = 1 then 120 else 240)]
  s.raise [s.blockDest (U.touch p)] (U.touch p) St.wake (s.reg (Reg.blockHolder (U.touch p))) 0 []

/-- Decide on a cluster not yet confirmed (R308, R310, R314, R316, R317). `neg` are the nodes at or below -NegThreshold, `used` the IDs in use. -/
def tConfirm (s : State) (p : Nat) (neg used : List Nat) (k : Cluster) (c : Contact) : State × Contact :=
  let d := (s.tDim p).1
  let water := s.reg (Obj.waterMode p) == 1
  let watch := s.reg (Reg.touchWatch p) ≠ 0
  let ens := decide (s.reg (Obj.portHead p) < 8) && (s.ensRegionAt (s.reg (Obj.portHead p)) c.x c.y).isSome
  if c.cov ≠ [] ∨ (s.reg (Reg.touchUnref p) = 1 ∧ k.nodes.any (fun x => neg.any (Touch.near2 d x))) then s.tSuppress p c
  else if s.reg (Obj.palmNodes p) < k.nodes.length then ((s.bump (Obj.contactsDiscarded p) 32).count (379 + 4 * p) 1, { c with kind := 3 })
  else if water && !k.self then (s, c)
  else if c.frames < (if s.reg (Obj.wetGlove p) % 2 = 1 then 2 else 1) then (s, c)
  else if watch ∧ !ens then
    let s := s.bump (Reg.touchDowns p) 8
    (if 2 ≤ s.reg (Reg.touchDowns p) ∧ bit (s.reg (Obj.wakeMode p)) 0 then s.tWake p else s, { c with kind := 4 })
  else if 16 ≤ used.length then
    (if s.reg (Reg.touchLimit p) = 1 then s
     else (s.setReg (Reg.touchLimit p) 1).raise [s.blockDest (U.touch p)] (U.touch p) St.contactLimit (s.reg (Reg.blockHolder (U.touch p))) 1 [], c)
  else
    let s := if watch then s.tWake p else s
    s.tOpen p c used

/-- The cluster that continues a contact: the nearest within 1.5 node pitches (R310). -/
def tMatch (c : Contact) (ks : List Cluster) : Option Cluster :=
  let l := ks.filter (fun k => decide (Touch.dist2 c.cx c.cy k.cx k.cy ≤ 147456))
  l.foldl (fun b k => match b with
    | none => some k
    | some m => if Touch.dist2 c.cx c.cy k.cx k.cy < Touch.dist2 c.cx c.cy m.cx m.cy then some k else b) none

/-- Pair the contacts of the previous frame with the clusters of this one; the clusters left over are new. -/
def tPair : List Contact → List Cluster → List (Contact × Option Cluster) × List Cluster
  | [], ks => ([], ks)
  | c :: cs, ks => match tMatch c ks with
    | some k => let (l, r) := tPair cs (ks.erase k); ((c, some k) :: l, r)
    | none => let (l, r) := tPair cs ks; ((c, none) :: l, r)

/-- A contact with what this frame shows of it. -/
def tSeen (s : State) (p : Nat) (c : Contact) : Option Cluster → Contact
  | none => { c with frames := 0, low := c.low + 1 }
  | some k => { c with
      frames := c.frames + 1, low := 0, cx := k.cx, cy := k.cy, x := k.x, y := k.y, peak := k.peak, size := k.nodes.length,
      cov := (c.cov ++ k.nodes.filter (fun n => (s.num (Num.covered p)).getD n 0 == 1)).dedup }

/-- Begin the rebaseline of some nodes over the next 8 frames (R307). -/
def rebaseline (s : State) (p : Nat) (ns : List Nat) : State :=
  let n := s.reg (Obj.nodeCount p)
  let left := s.num (Num.rebLeft p)
  let sum := s.num (Num.rebSum p)
  (s.setNum (Num.rebLeft p) ((List.range n).map (fun i => if ns.contains i then 8 else left.getD i 0))).setNum
    (Num.rebSum p) ((List.range n).map (fun i => if ns.contains i then 0 else sum.getD i 0))

/-- What a frame makes of one tracked contact: the state and the contact while it lasts (R308, R316, R323). -/
def tStep (s : State) (p : Nat) (neg used : List Nat) (k : Option Cluster) (c : Contact) : State × Option Contact :=
  if c.kind = 0 then match k with
    | none => (s, none)
    | some k => let (s, c) := s.tConfirm p neg used k c; (s, some c)
  else if c.kind = 1 then
    if c.low < 2 then (contactSend p 1 s c, some c)
    else
      let s := contactSend p 2 s c
      (if c.world = 0xFF then s else s.hapTouch p 1 c, none)
  else if c.low < 2 then (s, some c)
  else if c.kind = 2 ∧ c.cov ≠ [] then
    let cov := s.num (Num.covered p)
    let n := s.reg (Obj.nodeCount p)
    ((s.setNum (Num.covered p) ((List.range n).map (fun i => if c.cov.contains i then 0 else cov.getD i 0))).rebaseline p c.cov, none)
  else (s, none)

/-- A contact seen for the first time. -/
def tNew (s : State) (p : Nat) (k : Cluster) : Contact :=
  tSeen s p ⟨0xFF, 0, 0, 0, k.cx, k.cy, k.cx, k.cy, k.x, k.y, k.peak, k.nodes.length, 0xFF, 0xFF, 0xFF, false, [], []⟩ (some k)

/-- IDs in use. -/
def tUsed (l : List Contact) : List Nat := (l.filter (fun (c : Contact) => c.kind == 1)).map (fun (c : Contact) => c.num)

/-- Follow every contact through a frame. -/
def tFollow (s : State) (p : Nat) (neg : List Nat) : List (Contact × Option Cluster) → List Contact → State × List Contact
  | [], acc => (s, acc)
  | (c, k) :: l, acc =>
    let rest := l.map Prod.fst
    match s.tStep p neg (tUsed (acc ++ rest)) k c with
    | (s', some c') => tFollow s' p neg l (acc ++ [c'])
    | (s', none) => tFollow s' p neg l acc

/-- Track the baselines of a frame (R307): quiet nodes follow with a time constant of 256 frames; nodes long below -NegThreshold, or whose raw count has left
the window, are rebaselined; rebaselines under way go on. A new fine code is a free value (log 21). -/
def tBaseline (s : State) (p : Nat) (raw : List Nat) (sig : Nat → Int) (busy : List Nat) : State :=
  let (d, e) := s.tDim p
  let n := d * e
  let base := s.num (Num.base p)
  let neg := s.num (Num.neg p)
  let left := s.num (Num.rebLeft p)
  let sum := s.num (Num.rebSum p)
  let th : Int := s.reg (Obj.touchThreshold p)
  let ng : Int := s.reg (Obj.negThreshold p)
  let quiet := fun i => left.getD i 0 == 0 && !busy.contains i && (s.num (Num.covered p)).getD i 0 == 0
    && (List.range n).all (fun j => !Touch.near d i j || decide (2 * sig j ≤ th))
  let low := fun i => quiet i && decide (sig i ≤ -ng)
  let r := fun i => raw.getD i (base.getD i 0)
  let out := fun i => quiet i && (decide (r i < 8192) || decide (57344 < r i))
  let start := (List.range n).filter (fun i => (low i && decide (7 ≤ neg.getD i 0)) || out i)
  let done := (List.range n).filter (fun i => left.getD i 0 == 1)
  let s := s.setNum (Num.base p) ((List.range n).map (fun i =>
    if left.getD i 0 = 1 then (sum.getD i 0 + r i) / 8
    else if quiet i && !low i then ((base.getD i 0 : Int) + ((r i : Int) - base.getD i 0) / 256).toNat
    else base.getD i 0))
  let s := s.setNum (Num.neg p) ((List.range n).map (fun i => if low i then (if 7 ≤ neg.getD i 0 then 0 else neg.getD i 0 + 1)
    else if quiet i then 0 else neg.getD i 0))
  let s := s.setNum (Num.rebLeft p) ((List.range n).map (fun i => left.getD i 0 - 1))
  let s := s.setNum (Num.rebSum p) ((List.range n).map (fun i => if left.getD i 0 = 0 then 0 else sum.getD i 0 + r i))
  let s := if (List.range n).any out then
      (s.tick).setNum (Num.fine p) ((List.range n).map (fun i => if out i then s.fresh % 32 else (s.num (Num.fine p)).getD i 0))
    else s
  let s := s.rebaseline p start
  if done = [] then s
  else
    let s := s.addReg (Obj.rebaselines p) 32 done.length
    let s := if (List.range n).all (fun i => !decide (sig i ≤ -ng) || done.contains i) then s.setReg (Reg.touchUnref p) 0 else s
    s.raise [s.blockDest (U.touch p)] (U.touch p) St.rebaselined (s.reg (Reg.blockHolder (U.touch p))) 0 [(2, done.length)]

/-- The self baselines follow while nothing touches the port (log 21). -/
def tSelfBaseline (s : State) (p : Nat) (self : List Nat) : State :=
  if s.tracked p ≠ [] then s
  else s.setNum (Num.selfBase p) ((s.num (Num.selfBase p)).zipIdx.map (fun q =>
    ((q.1 : Int) + ((self.getD q.2 q.1 : Int) - q.1) / 256).toNat))

/-- The glove watch of GloveMode 2 (R309). -/
def tGlove (s : State) (p : Nat) (sig : Nat → Int) (self : List Nat) : State :=
  if s.reg (Obj.gloveMode p) ≠ 2 then s
  else
    let (down, rel) := s.tThresholds p true
    let ks := (s.tClusters p sig self rel).filter (fun k => k.self && decide (down ≤ k.peak) && decide (k.peak < s.reg (Obj.touchThreshold p)))
    if s.reg (Reg.touchGlove p) = 1 then
      if ks = [] then s else s.setReg (Reg.touchGloveUntil p) (s.now + 10000000000)
    else
      let old := s.num (Num.gloveWatch p)
      let held := fun (k : Cluster) => ((List.range (old.length / 3)).find? (fun j =>
        decide (Touch.dist2 (old.getD (3 * j) 0) (old.getD (3 * j + 1) 0) k.cx k.cy ≤ 147456))).map (fun j => old.getD (3 * j + 2) 0)
      let now := ks.map (fun k => (k, (held k).getD 0 + 1))
      let s := s.setNum (Num.gloveWatch p) (now.flatMap (fun q => [q.1.cx, q.1.cy, q.2]))
      if now.any (fun q => decide (3 ≤ q.2)) then
        let s := ((s.setGlove p 1).setReg (Reg.touchGloveUntil p) (s.now + 10000000000)).setNum (Num.gloveWatch p) []
        let new := (now.filter (fun q => decide (3 ≤ q.2) && (s.tracked p).all (fun (c : Contact) =>
          decide (147456 < Touch.dist2 c.cx c.cy q.1.cx q.1.cy)))).map (fun q => { s.tNew p q.1 with frames := q.2 })
        s.setTracked p (s.tracked p ++ new)
      else s

/-- Noise of a frequency: the mean of its last four measurements. -/
def tNoiseOf (s : State) (p f : Nat) : Nat := bits (s.reg (Obj.noiseLevel p)) (16 * f) 16

/-- A cause holds the port at 120 Hz: noise (R312), or a core that falls behind (R94). -/
def tHeld (s : State) (p : Nat) : Bool := s.reg (Reg.touchNoisy p) == 1 || s.reg (Reg.touchLate p) == 1

/-- The active rate. -/
def tActive (s : State) (p : Nat) : Nat := if s.tHeld p then 120 else 240

/-- The port begins to be held at 120 Hz by the cause of register `c`. -/
def tSlowed (s : State) (p : Nat) (c : Nat → Nat) : State :=
  let s := s.setReg (c p) 1
  if s.reg (Obj.scanRateHz p) = 240 then s.setReg (Obj.scanRateHz p) 120 else s

/-- That cause has gone. -/
def tFast (s : State) (p : Nat) (c : Nat → Nat) : State :=
  let s := s.setReg (c p) 0
  if s.tracked p ≠ [] ∧ s.reg (Obj.scanRateHz p) = 120 then s.setReg (Obj.scanRateHz p) (s.tActive p) else s

/-- Worlds that hold a report rate reservation above 120 Hz yield while some port is held (R94, R312). -/
def tYield (s : State) (p : Nat) : State :=
  ((s.worldReserves Reg.resTouch).filter (fun q => decide (120 < q.2))).foldl (fun s q => s.yieldOpen (U.touch p) .touch q.1 4 4 q.2 120 0xFFFFFFFF) s

/-- Their yields end with the last such port. -/
def tYieldEnd (s : State) (p : Nat) : State :=
  if (List.range 8).any s.tHeld then s
  else (List.range 64).foldl (fun s w => s.yieldClose (U.touch p) .touch w 4 (s.worldSum Reg.resTouch w)) s

/-- Noise and hopping of a frame (R311, R312): two frequencies are measured; the port hops, degrades or clears. -/
def tNoise (s : State) (p : Nat) (m : Nat × Nat) : State :=
  let f := 2 * (s.reg (Obj.scanFrames p) % 8)
  let s := (s.setNum (Num.noise p f) ((m.1 :: s.num (Num.noise p f)).take 4)).setNum (Num.noise p (f + 1)) ((m.2 :: s.num (Num.noise p (f + 1))).take 4)
  let lv := fun (s : State) f => let l := s.num (Num.noise p f); min 65535 (l.foldl (· + ·) 0 / max 1 l.length)
  let s := s.setReg (Obj.noiseLevel p) ((List.range 16).foldl (fun t f => t + lv s f * 65536 ^ f) 0)
  let hop := s.reg (Obj.hopNoise p)
  let cur := s.reg (Obj.freqIndex p)
  let best := (List.range 16).foldl (fun b f => if s.tNoiseOf p f < s.tNoiseOf p b then f else b) 0
  let free := s.reg (Reg.touchHopFrame p) = 0 ∨ s.reg (Reg.touchHopFrame p) - 1 + 8 ≤ s.reg (Obj.scanFrames p)
  let s := if hop < s.tNoiseOf p cur ∧ best ≠ cur ∧ 2 * s.tNoiseOf p best < s.tNoiseOf p cur ∧ free then
      (((s.setRegs [(Obj.freqIndex p, best), (Reg.touchHopFrame p, s.reg (Obj.scanFrames p) + 1)]).bump (Obj.hops p) 32).count (378 + 4 * p) 1).raise
        [s.blockDest (U.touch p)] (U.touch p) St.freqHop (s.reg (Reg.blockHolder (U.touch p))) 0 [(1, cur), (1, best)]
    else s
  let s := s.setReg (Reg.touchQuietAt p) (if 2 * s.tNoiseOf p best < hop then
    (if s.reg (Reg.touchQuietAt p) = 0 then s.now + 1 else s.reg (Reg.touchQuietAt p)) else 0)
  if s.reg (Reg.touchNoisy p) = 0 then
    if hop < s.tNoiseOf p best then
      let s := s.tSlowed p Reg.touchNoisy
      let s := s.raise [s.blockDest (U.touch p), .hal] (U.touch p) St.noiseDegraded (s.reg (Reg.blockHolder (U.touch p))) 2 []
      s.tYield p
    else s
  else if s.reg (Reg.touchQuietAt p) ≠ 0 ∧ s.reg (Reg.touchQuietAt p) - 1 + 1000000000 ≤ s.now then
    let s := s.tFast p Reg.touchNoisy
    let s := s.raise [s.blockDest (U.touch p), .hal] (U.touch p) St.noiseCleared (s.reg (Reg.blockHolder (U.touch p))) 1 []
    s.tYieldEnd p
  else s

/-- A frame of a port whose core is still at work on the frame before (R94): while a PEN shortfall stands the port drops to 120 Hz and its worlds yield,
until the hold has ended. -/
def tLate (s : State) (p : Nat) : State :=
  if s.reg (Reg.touchLate p) = 0 then
    if s.reg Reg.penShort = 0 ∨ s.reg (Reg.coreTicks (8 + p)) = 0 then s
    else (s.tSlowed p Reg.touchLate).tYield p
  else if s.reg Reg.penShort = 0 then (s.tFast p Reg.touchLate).tYieldEnd p
  else s

/-- A mutual frame: clusters, contacts, baselines (R307 to R310, R316 to R325). -/
def tMutual (s : State) (p : Nat) (raw self : List Nat) : State :=
  let s := s.contactCheck p
  let arr := (List.range (s.reg (Obj.nodeCount p))).map (s.tSignal p raw)
  let sig := fun i => arr.getD i 0
  let (down, rel) := s.tThresholds p (s.reg (Reg.touchGlove p) == 1)
  let ks := s.tClusters p sig self rel
  let (pairs, new) := tPair (s.tracked p) ks
  let new := new.filter (fun k => decide (down ≤ k.peak))
  let water := s.reg (Obj.waterMode p) == 1 && (new ++ pairs.filterMap (fun q => if q.1.kind = 1 then none else q.2)).any (fun k => decide (down ≤ k.peak) && !k.self)
  let s := if water then s.setReg (Reg.touchWetUntil p) (s.now + 1000000000) else s
  let s := s.setWet p (s.reg (Obj.waterMode p) == 1 && (water || decide (s.now < s.reg (Reg.touchWetUntil p))))
  let neg := (List.range arr.length).filter (fun i => decide (sig i ≤ -(s.reg (Obj.negThreshold p) : Int)))
  let all := pairs.map (fun q => (s.tSeen p q.1 q.2, q.2)) ++ new.map (fun k => (s.tNew p k, some k))
  let (s, l) := s.tFollow p neg all []
  let s := s.setTracked p l
  let s := if (tUsed l).length < 16 then s.setReg (Reg.touchLimit p) 0 else s
  let slide := s.reg (Reg.touchWatch p) ≠ 0 ∧ bit (s.reg (Obj.wakeMode p)) 1 ∧ l.any (fun (c : Contact) => c.kind == 4
    && decide ((40000 * 256) ^ 2 ≤ Touch.dist2 c.x0 c.y0 c.cx c.cy * s.reg (Obj.nodePitchUm p) ^ 2))
  let s := if slide then s.tWake p else s
  let busy := (pairs.filterMap Prod.snd ++ new).flatMap (fun k => k.nodes)
  let s := (s.tBaseline p raw sig busy).tSelfBaseline p self
  let s := s.tGlove p sig self
  if l.any (fun (c : Contact) => c.kind == 1 || c.kind == 2 || c.kind == 3) then
    s.setRegs [(Reg.touchLastAt p, s.now), (Obj.scanRateHz p, s.tActive p)]
  else s

/-- A slow frame (R314): the self scan alone; a cluster confirmed by self signal wakes the port inside an Ensign region or with WakeMode 0, and else begins
a gesture watch. -/
def tSlow (s : State) (p : Nat) (self : List Nat) : State :=
  let (d, e) := s.tDim p
  let th : Int := s.reg (Obj.selfThreshold p)
  let best := fun lo n => (List.range n).foldl (fun b j => if s.tSelf p self (lo + b) < s.tSelf p self (lo + j) then j else b) 0
  let c := best 0 d
  let r := best d e
  if s.tSelf p self c < th ∨ s.tSelf p self (d + r) < th then s.setReg (Reg.touchSelf p) 0
  else if s.reg (Reg.touchSelf p) = 1 then s
  else
    let s := s.setReg (Reg.touchSelf p) 1
    if (s.num (Num.covered p)).getD (r * d + c) 0 = 1 then s
    else
      let (x, y) := s.tPanel p c r 1
      let n := s.reg (Obj.portHead p)
      if s.reg (Obj.wakeMode p) = 0 ∨ (n < 8 ∧ (s.ensRegionAt n x y).isSome) then s.tWake p
      else
        let rate := s.reg (Obj.scanRateHz p)
        let s := s.setRegs [(Reg.touchWatch p, s.now + 400000000 + 1), (Reg.touchWatchRate p, rate), (Reg.touchDowns p, 1), (Obj.scanRateHz p, s.tActive p)]
        s.setTracked p [⟨0xFF, 4, 1, 0, 256 * c, 256 * r, 256 * c, 256 * r, x, y, 0, 1, 0xFF, 0xFF, 0xFF, false, [], []⟩]

/-- LIMIT_REACHED of a port's masking (R489, code 3): a warning with a gap of 2, a fault with a band that cannot be sensed. -/
def tSpare (s : State) (p gap : Nat) (band : Bool) : State :=
  let level := if band then 2 else if gap = 2 then 1 else 0
  let old := s.reg (Reg.touchGap p)
  let s := s.setReg (Reg.touchGap p) level
  if level ≤ old then s
  else s.raise [.hal, .owner] (U.touch p) St.limitReached 0xFF (if level = 2 then 3 else 2) [(1, 3), (4, 0), (1, p)]

/-- TouchPortsWhole (0x0020:03). -/
def tWhole (s : State) : State := s.setReg Obj.touchPortsWhole
  ((List.range 8).countP (fun p => s.reg (Reg.unitState (U.touch p)) != 0 && s.reg (Reg.unitState (U.touch p)) != 5 && s.reg (Obj.degraded p) == 0))

/-- Take the result of a node integrity scan (R319, R320): `bad` are the channels found open or shorted. Masks of channels that pass end only at a start. -/
def tIntegrity (s : State) (p : Nat) (bad : List Nat) (start : Bool) : State :=
  let m := s.reg (Obj.channelRole p)
  let used := Touch.channels m 1 ++ Touch.channels m 2
  let old := s.reg (Obj.maskedChannels p)
  let found := bad.filter (fun c => used.contains c)
  let new := found.filter (fun c => !bit old c)
  let s := s.setReg (Obj.maskedChannels p) (found.foldl setBit (if start then 0 else old))
  let s := s.setReg (Reg.touchMaskMove p) (b2n (s.reg (Obj.maskedChannels p) != old))
  let s := new.foldl (fun s c => s.raise [s.blockDest (U.touch p), .hal] (U.touch p) St.channelMasked (s.reg (Reg.blockHolder (U.touch p))) 2 [(1, c)]) s
  let (g1, b1) := Touch.gaps (s.tMasked p 1) true 0
  let (g2, b2) := Touch.gaps (s.tMasked p 2) true 0
  let was := s.reg (Obj.degraded p)
  let s := s.setReg (Obj.degraded p) (b2n (b1 || b2))
  let s := if (b1 || b2) && was == 0 then
      s.raise [s.blockDest (U.touch p), .hal] (U.touch p) St.touchDegraded (s.reg (Reg.blockHolder (U.touch p))) 2 [(16, s.reg (Obj.maskedChannels p))]
    else s
  let s := (s.tSpare p (max g1 g2) (b1 || b2)).tWhole
  let s := s.setRegs [(Obj.lastIntegrityTime p, s.now), (Reg.touchIntegDue p, s.now + 600000000000 + 1)]
  s.raise [s.blockDest (U.touch p)] (U.touch p) St.integrityDone (s.reg (Reg.blockHolder (U.touch p))) 0 []

/-- Store the empty reference (R318): only while Halyard holds the port, with no contact, no wet state and no change of masked channels. -/
def tReference (s : State) (p : Nat) : State :=
  if s.reg (Reg.blockHolder (U.touch p)) ≠ 0 ∨ s.tracked p ≠ [] ∨ s.reg (Obj.wetGlove p) % 2 = 1 ∨ s.reg (Reg.touchMaskMove p) = 1 then s
  else
    let s := (s.setNum (Num.ref p) (s.num (Num.base p))).setRegs
      [(Reg.touchRefTemp p, (toSigned 2 (s.reg Obj.junctionTemp) + 32768).toNat), (Reg.touchRefRole p, s.reg (Obj.channelRole p))]
    s.setReg (Obj.refValid p) 1

/-- Median of a list. -/
def median (l : List Int) : Int := (l.mergeSort (fun a b => decide (a ≤ b))).getD (l.length / 2) 0

/-- Baselines and covered nodes at a start with a valid reference (R316): a node beyond CoveredDelta of its corrected reference is covered and takes that
reference as its baseline. `first` are the first raw counts, `cap` the captured baselines. -/
def tCover (s : State) (p : Nat) (first cap : List Nat) : State :=
  let ref := s.num (Num.ref p)
  let n := s.reg (Obj.nodeCount p)
  let diff := fun i => (first.getD i 0 : Int) - ref.getD i 0
  let med := median (((List.range n).map diff).filter (fun x => decide (x.natAbs ≤ 1000)))
  let fixed := fun i => (ref.getD i 0 : Int) + med
  let cov := fun i => decide ((s.reg (Obj.coveredDelta p) : Int) < fixed i - first.getD i 0)
  (s.setNum (Num.covered p) ((List.range n).map (fun i => b2n (cov i)))).setNum (Num.base p)
    ((List.range n).map (fun i => if cov i then (fixed i).toNat else cap.getD i 0))

end State
end Sys2Proof.Machine
end

