-- ==== Sys2Proof/Machine/Touch.lean ====
section
/-!
DEFINITION. Machine/Touch.lean: the commands of the touch ports (chapter 12).
-/
namespace Sys2Proof.Machine

/-- SCAN_FRAME_END (R304 to R314, R316 to R325): a scan frame of port `p` ends. `raw` are the raw mutual counts node by node, row by row, `self` the raw self
counts of the drive, then the sense lines, `noise` the RMS noise at the two frequencies of the listen slot. -/
def execScanFrameEnd (p : Nat) (raw self : List Nat) (noise : Nat × Nat) (s : State) : Host.Outcome State Fault Refusal :=
  s.whenUp (fun s =>
    .next (if 7 < p ∨ s.reg (Reg.touchRun p) = 0 ∨ s.reg (Reg.portReset (U.touch p)) = 1 then s
      else
        let slow := s.reg (Obj.scanRateHz p) = 30 ∨ s.reg (Obj.scanRateHz p) = 8
        let s := if slow then (s.tSlow p self).tSelfBaseline p self else s.tMutual p raw self
        let s := (s.tNoise p noise).tLate p
        let s := ((s.hidFrame p).bump (Obj.scanFrames p) 32).count (376 + 4 * p) 1
        s.boundary (s.sourceOf (U.touch p))))

/-- IDLE_STEP (R313): after the last contact the scan rate steps down with IdleStep1Ms, IdleStep2Ms and IdleStep3Ms. -/
def execIdleStep (p : Nat) (s : State) : Host.Outcome State Fault Refusal :=
  s.whenUp (fun s =>
    let idle := s.now - s.reg (Reg.touchLastAt p)
    let rate := if 1000000 * s.reg (Obj.idleStep3Ms p) ≤ idle then 8
      else if 1000000 * s.reg (Obj.idleStep2Ms p) ≤ idle then 30
      else if 1000000 * s.reg (Obj.idleStep1Ms p) ≤ idle then 120 else 240
    .next (if 7 < p ∨ s.reg (Reg.touchRun p) = 0 ∨ s.tracked p ≠ [] ∨ s.reg (Reg.touchWatch p) ≠ 0 ∨ s.reg (Obj.scanRateHz p) ≤ rate then s
      else (s.setReg (Obj.scanRateHz p) rate).setReg (Reg.touchSelf p) 0))

/-- GESTURE_WATCH_END (R314): 400 ms without a gesture; the port returns to its slow rate and the idle time runs on. -/
def execGestureWatchEnd (p : Nat) (s : State) : Host.Outcome State Fault Refusal :=
  s.whenUp (fun s =>
    .next (if 7 < p ∨ s.reg (Reg.touchWatch p) = 0 ∨ s.now + 1 < s.reg (Reg.touchWatch p) then s
      else
        let s := s.setRegs [(Reg.touchWatch p, 0), (Reg.touchDowns p, 0), (Obj.scanRateHz p, s.reg (Reg.touchWatchRate p)), (Reg.touchSelf p, 1)]
        s.setTracked p ((s.tracked p).filter (fun (c : Contact) => c.kind != 4 && c.kind != 0))))

/-- GLOVE_TIMEOUT (R309): 10 s without a glove cluster end glove sensing under GloveMode 2. -/
def execGloveTimeout (p : Nat) (s : State) : Host.Outcome State Fault Refusal :=
  s.whenUp (fun s =>
    .next (if 7 < p ∨ s.reg (Obj.gloveMode p) ≠ 2 ∨ s.reg (Reg.touchGlove p) = 0 ∨ s.now < s.reg (Reg.touchGloveUntil p) then s
      else s.setGlove p 0))

/-- WET_TIMEOUT (R308): 1 s after the last water cluster the port is dry. -/
def execWetTimeout (p : Nat) (s : State) : Host.Outcome State Fault Refusal :=
  s.whenUp (fun s =>
    .next (if 7 < p ∨ s.now < s.reg (Reg.touchWetUntil p) then s else s.setWet p false))

/-- TOUCH_PORT_START (R306, R315 to R318, R494): the steps of a start are complete. `fpc` is the flex-present pin; `bad` the channels found open or shorted;
`placed` the channels whose median calibration placed; `coarse`, `fine` the compensation codes; `first` the first raw counts; `cap`,
`selfCap` the captured baselines. -/
def execTouchPortStart (p : Nat) (fpc : Bool) (bad : List Nat) (placed : Nat) (coarse fine first cap selfCap : List Nat) (s : State) :
    Host.Outcome State Fault Refusal :=
  s.whenUp (fun s =>
    .next (if 7 < p ∨ s.reg (Reg.touchStartAt p) = 0 ∨ s.now + 1 < s.reg (Reg.touchStartAt p) + 103333333 then s
      else
        let s := s.setReg (Reg.touchStartAt p) 0
        if !fpc then ((s.setUnitState (U.touch p) 0).tWhole).startPassed (U.touch p)
        else
          let s := if s.reg (Reg.unitState (U.touch p)) = 0 then s.setUnitState (U.touch p) 1 else s
          let s := s.tIntegrity p bad true
          let m := s.reg (Obj.channelRole p)
          let lines := (Touch.channels m 1 ++ Touch.channels m 2).length
          if 2 * placed ≤ lines ∧ 0 < lines then
            let s := s.raise [s.blockDest (U.touch p), .hal] (U.touch p) St.calibrationFailed (s.reg (Reg.blockHolder (U.touch p))) 3 []
            match s.startFailed (U.touch p) with
            | (s, k) => (if k = 0 then s.setUnitState (U.touch p) 5 else if k = 1 then s.touchStart p else s).tWhole
          else
            let n := s.reg (Obj.nodeCount p)
            let zeros := List.replicate n 0
            let s := (((((s.setNum (Num.coarse p) coarse).setNum (Num.fine p) fine).setNum (Num.neg p) zeros).setNum (Num.rebLeft p) zeros).setNum
              (Num.rebSum p) zeros).setNum (Num.selfBase p) selfCap
            let s := s.setReg (Obj.refValid p) (b2n (s.refHolds p))
            let s := if s.reg (Obj.refValid p) = 1 then (s.tCover p first cap).setReg (Reg.touchUnref p) 0
              else (((s.setNum (Num.covered p) zeros).setNum (Num.base p) cap).setReg (Reg.touchUnref p) 1).raise [s.blockDest (U.touch p)] (U.touch p)
                St.pwrupUnreferenced (s.reg (Reg.blockHolder (U.touch p))) 1 []
            let s := s.tReference p
            ((s.setTracked p []).setRegs [(Reg.touchRun p, 1), (Obj.scanRateHz p, s.tActive p), (Reg.touchLastAt p, s.now),
              (Reg.touchHopFrame p, 0)]).startPassed (U.touch p)))

/-- INTEGRITY_SCAN (R318 to R320): the 10-minute node integrity scan, at 30 Hz or below; a touch-down during it aborts it until the next mark. -/
def execIntegrityScan (p : Nat) (bad : List Nat) (aborted : Bool) (s : State) : Host.Outcome State Fault Refusal :=
  s.whenUp (fun s =>
    .next (if 7 < p ∨ s.reg (Reg.touchRun p) = 0 ∨ 30 < s.reg (Obj.scanRateHz p) ∨ s.now + 1 < s.reg (Reg.touchIntegDue p) then s
      else if aborted then s.setReg (Reg.touchIntegDue p) (s.now + 600000000000 + 1)
      else (s.tIntegrity p bad false).tReference p))

end Sys2Proof.Machine
end

