-- ==== Sys2Proof/Machine/Dispatch.lean ====
section
/-!
DEFINITION. Machine/Dispatch.lean: which meaning each command has, one arm for each constructor.
-/
namespace Sys2Proof.Machine

def exec (i : Instr) (s : State) : Host.Outcome State Fault Refusal :=
  match i with
  | .sessionOpen tr port cl w => Sys2Proof.Machine.execSessionOpen tr port cl w s
  | .sessionClose n => Sys2Proof.Machine.execSessionClose n s
  | .udpSessionTimeout n => Sys2Proof.Machine.execUdpSessionTimeout n s
  | .dtlsHandshake params verifies ownerSigned inValidity key => Sys2Proof.Machine.execDtlsHandshake params verifies ownerSigned inValidity key s
  | .debugCertIn n v sigOk cosignOk => Sys2Proof.Machine.execDebugCertIn n v sigOk cosignOk s
  | .pendingSessionTimeout n => Sys2Proof.Machine.execPendingSessionTimeout n s
  | .queryPath n v => Sys2Proof.Machine.execQueryPath n v s
  | .objectWrite n idx sub v => Sys2Proof.Machine.execObjectWrite n idx sub v s
  | .recordRead n r idx sub => Sys2Proof.Machine.execRecordRead n r idx sub s
  | .recordWrite n r idx sub v => Sys2Proof.Machine.execRecordWrite n r idx sub v s
  | .readSegment n r idx sub off len => Sys2Proof.Machine.execReadSegment n r idx sub off len s
  | .writeSegment n r idx sub off v => Sys2Proof.Machine.execWriteSegment n r idx sub off v s
  | .recordAbort n r => Sys2Proof.Machine.execRecordAbort n r s
  | .transferTimeout n => Sys2Proof.Machine.execTransferTimeout n s
  | .commit n => Sys2Proof.Machine.execCommit n s
  | .discardShadow n => Sys2Proof.Machine.execDiscardShadow n s
  | .cancelPending n => Sys2Proof.Machine.execCancelPending n s
  | .boundaryApply h k => Sys2Proof.Machine.execBoundaryApply h k s
  | .schedTimeLost h => Sys2Proof.Machine.execSchedTimeLost h s
  | .shadowHoldExpiry h => Sys2Proof.Machine.execShadowHoldExpiry h s
  | .authWrite n v => Sys2Proof.Machine.execAuthWrite n v s
  | .authCommit n v => Sys2Proof.Machine.execAuthCommit n v s
  | .authDiscard n v => Sys2Proof.Machine.execAuthDiscard n v s
  | .authCancel n v => Sys2Proof.Machine.execAuthCancel n v s
  | .authLockoutEnd k => Sys2Proof.Machine.execAuthLockoutEnd k s
  | .usdoRequest p phase wr idx sub v => Sys2Proof.Machine.execUsdoRequest p phase wr idx sub v s
  | .heartbeatProduce p => Sys2Proof.Machine.execHeartbeatProduce p s
  | .heartbeatReceive p node => Sys2Proof.Machine.execHeartbeatReceive p node s
  | .heartbeatLost p i0 => Sys2Proof.Machine.execHeartbeatLost p i0 s
  | .pushReceive p id v => Sys2Proof.Machine.execPushReceive p id v s
  | .pushStale p m => Sys2Proof.Machine.execPushStale p m s
  | .pushTransmit p t => Sys2Proof.Machine.execPushTransmit p t s
  | .rawConfigWrite n p sub v => Sys2Proof.Machine.execRawConfigWrite n p sub v s
  | .rawFrameReceive p err id fl v => Sys2Proof.Machine.execRawFrameReceive p err id fl v s
  | .rawRx n p => Sys2Proof.Machine.execRawRx n p s
  | .rawTx n p v => Sys2Proof.Machine.execRawTx n p v s
  | .rawTxDone p err => Sys2Proof.Machine.execRawTxDone p err s
  | .busOffRecovery p => Sys2Proof.Machine.execBusOffRecovery p s
  | .usbAttached h addr cls vid pid outLen => Sys2Proof.Machine.execUsbAttached h addr cls vid pid outLen s
  | .usbDetached h addr => Sys2Proof.Machine.execUsbDetached h addr s
  | .hidReportReceive h addr id v => Sys2Proof.Machine.execHidReportReceive h addr id v s
  | .hidIn n h => Sys2Proof.Machine.execHidIn n h s
  | .hidOut n h v => Sys2Proof.Machine.execHidOut n h v s
  | .usbOvercurrent h => Sys2Proof.Machine.execUsbOvercurrent h s
  | .usbPortOp n h v => Sys2Proof.Machine.execUsbPortOp n h v s
  | .windowAccess n w sub wr v => Sys2Proof.Machine.execWindowAccess n w sub wr v s
  | .ownerEvRead n => Sys2Proof.Machine.execOwnerEvRead n s
  | .ownerEvPush n v => Sys2Proof.Machine.execOwnerEvPush n v s
  | .planBoundary temp work slack speed => Sys2Proof.Machine.execPlanBoundary temp work slack speed s
  | .shedHoldEnd temp work slack => Sys2Proof.Machine.execShedHoldEnd temp work slack s
  | .planRaise d slack speed => Sys2Proof.Machine.execPlanRaise d slack speed s
  | .planWatchdog => Sys2Proof.Machine.execPlanWatchdog s
  | .ageMeasure slow => Sys2Proof.Machine.execAgeMeasure slow s
  | .forecastUpdate => Sys2Proof.Machine.execForecastUpdate s
  | .thermalAboveFloor temp => Sys2Proof.Machine.execThermalAboveFloor temp s
  | .boundaryPortReset h => Sys2Proof.Machine.execBoundaryPortReset h s
  | .boundaryPortResume h => Sys2Proof.Machine.execBoundaryPortResume h s
  | .fabricAccess a => Sys2Proof.Machine.execFabricAccess a s
  | .throttleExpiry c bank w r => Sys2Proof.Machine.execThrottleExpiry c bank w r s
  | .rowIdleClose c bank => Sys2Proof.Machine.execRowIdleClose c bank s
  | .concentrationCheck w => Sys2Proof.Machine.execConcentrationCheck w s
  | .retrainStart c temp phy => Sys2Proof.Machine.execRetrainStart c temp phy s
  | .retrainDone c ok eye temp phy => Sys2Proof.Machine.execRetrainDone c ok eye temp phy s
  | .retrainRetry c => Sys2Proof.Machine.execRetrainRetry c s
  | .patrolScrub errs => Sys2Proof.Machine.execPatrolScrub errs s
  | .classWrite n r v => Sys2Proof.Machine.execClassWrite n r v s
  | .reserveRateWrite n sub v => Sys2Proof.Machine.execReserveRateWrite n sub v s
  | .invalidationComplete w => Sys2Proof.Machine.execInvalidationComplete w s
  | .hoGrant n => Sys2Proof.Machine.execHoGrant n s
  | .hoRecall n => Sys2Proof.Machine.execHoRecall n s
  | .blockRelease i0 h dg => Sys2Proof.Machine.execBlockRelease i0 h dg s
  | .recallGraceExpiry h => Sys2Proof.Machine.execRecallGraceExpiry h s
  | .drainComplete h => Sys2Proof.Machine.execDrainComplete h s
  | .scrubVerifyDone h ok => Sys2Proof.Machine.execScrubVerifyDone h ok s
  | .hpdLowWaitEnd h => Sys2Proof.Machine.execHpdLowWaitEnd h s
  | .debugConsent n w v => Sys2Proof.Machine.execDebugConsent n w v s
  | .doorbell i0 r wptr dg => Sys2Proof.Machine.execDoorbell i0 r wptr dg s
  | .eqConsDoorbell i0 cons dg => Sys2Proof.Machine.execEqConsDoorbell i0 cons dg s
  | .ringCreate i0 m r log2 vector base => Sys2Proof.Machine.execRingCreate i0 m r log2 vector base s
  | .ringDestroy i0 m r => Sys2Proof.Machine.execRingDestroy i0 m r s
  | .eqCreate i0 m log2 vector holdoff base => Sys2Proof.Machine.execEqCreate i0 m log2 vector holdoff base s
  | .s1Set i0 m cls base => Sys2Proof.Machine.execS1Set i0 m cls base s
  | .mbS1Invalidate i0 m => Sys2Proof.Machine.execMbS1Invalidate i0 m s
  | .memRequest i0 m a n => Sys2Proof.Machine.execMemRequest i0 m a n s
  | .memRelease i0 m a n => Sys2Proof.Machine.execMemRelease i0 m a n s
  | .surfaceExport i0 m a n target => Sys2Proof.Machine.execSurfaceExport i0 m a n target s
  | .surfaceRevoke i0 m num => Sys2Proof.Machine.execSurfaceRevoke i0 m num s
  | .surfaceImport i0 m num a => Sys2Proof.Machine.execSurfaceImport i0 m num a s
  | .shaderAdmit i0 m addr size reason offset samples stores depth colours => Sys2Proof.Machine.execShaderAdmit i0 m addr size reason offset samples stores depth colours s
  | .shaderRelease i0 m h => Sys2Proof.Machine.execShaderRelease i0 m h s
  | .reserve i0 m r b a t => Sys2Proof.Machine.execReserve i0 m r b a t s
  | .quiesceSelf i0 m => Sys2Proof.Machine.execQuiesceSelf i0 m s
  | .remoteAssociation cert => Sys2Proof.Machine.execRemoteAssociation cert s
  | .remoteMemoryWrite i0 seq ack a data => Sys2Proof.Machine.execRemoteMemoryWrite i0 seq ack a data s
  | .remoteMemoryRead i0 seq ack a len => Sys2Proof.Machine.execRemoteMemoryRead i0 seq ack a len s
  | .remoteAck i0 ack => Sys2Proof.Machine.execRemoteAck i0 ack s
  | .remoteKeepalive i0 ack => Sys2Proof.Machine.execRemoteKeepalive i0 ack s
  | .remoteRetransmit i0 => Sys2Proof.Machine.execRemoteRetransmit i0 s
  | .remoteKeepaliveSend i0 => Sys2Proof.Machine.execRemoteKeepaliveSend i0 s
  | .remoteLinkLost i0 => Sys2Proof.Machine.execRemoteLinkLost i0 s
  | .remoteHoldExpiry i0 => Sys2Proof.Machine.execRemoteHoldExpiry i0 s
  | .grantWrite n i0 sub v => Sys2Proof.Machine.execGrantWrite n i0 sub v s
  | .resizeCut i0 => Sys2Proof.Machine.execResizeCut i0 s
  | .instEnable n i0 => Sys2Proof.Machine.execInstEnable n i0 s
  | .instQuiesce n i0 => Sys2Proof.Machine.execInstQuiesce n i0 s
  | .instResume n i0 => Sys2Proof.Machine.execInstResume n i0 s
  | .instReset n i0 => Sys2Proof.Machine.execInstReset n i0 s
  | .instRemove n i0 => Sys2Proof.Machine.execInstRemove n i0 s
  | .quiesceDone i0 => Sys2Proof.Machine.execQuiesceDone i0 s
  | .quiesceLimit i0 => Sys2Proof.Machine.execQuiesceLimit i0 s
  | .vfFlr i0 => Sys2Proof.Machine.execVfFlr i0 s
  | .vfLinkLoss i0 => Sys2Proof.Machine.execVfLinkLoss i0 s
  | .yieldDurationEnd w k => Sys2Proof.Machine.execYieldDurationEnd w k s
  | .nop i0 r => Sys2Proof.Machine.execNop i0 r s
  | .passBegin i0 r => Sys2Proof.Machine.execPassBegin i0 r s
  | .passEnd i0 r => Sys2Proof.Machine.execPassEnd i0 r s
  | .bindPipeline i0 r => Sys2Proof.Machine.execBindPipeline i0 r s
  | .bindState i0 r => Sys2Proof.Machine.execBindState i0 r s
  | .draw i0 r prims run => Sys2Proof.Machine.execDraw i0 r prims run s
  | .drawIndexed i0 r prims run => Sys2Proof.Machine.execDrawIndexed i0 r prims run s
  | .drawIndirect i0 r draws run => Sys2Proof.Machine.execDrawIndirect i0 r draws run s
  | .dispatch i0 r run => Sys2Proof.Machine.execDispatch i0 r run s
  | .dispatchIndirect i0 r run => Sys2Proof.Machine.execDispatchIndirect i0 r run s
  | .clear i0 r => Sys2Proof.Machine.execClear i0 r s
  | .queryBegin i0 r => Sys2Proof.Machine.execQueryBegin i0 r s
  | .queryEnd i0 r => Sys2Proof.Machine.execQueryEnd i0 r s
  | .fenceSignal i0 r => Sys2Proof.Machine.execFenceSignal i0 r s
  | .fenceWait i0 r => Sys2Proof.Machine.execFenceWait i0 r s
  | .fenceReevaluate => Sys2Proof.Machine.execFenceReevaluate s
  | .fenceTimeout i0 r => Sys2Proof.Machine.execFenceTimeout i0 r s
  | .barrier i0 r => Sys2Proof.Machine.execBarrier i0 r s
  | .s1Invalidate i0 r => Sys2Proof.Machine.execS1Invalidate i0 r s
  | .event i0 r => Sys2Proof.Machine.execEvent i0 r s
  | .priority i0 r => Sys2Proof.Machine.execPriority i0 r s
  | .timestamp i0 r => Sys2Proof.Machine.execTimestamp i0 r s
  | .copyBuffer i0 r => Sys2Proof.Machine.execCopyBuffer i0 r s
  | .copySurface i0 r => Sys2Proof.Machine.execCopySurface i0 r s
  | .fill i0 r => Sys2Proof.Machine.execFill i0 r s
  | .flattenPresent i0 r => Sys2Proof.Machine.execFlattenPresent i0 r s
  | .binPoolFull i0 r => Sys2Proof.Machine.execBinPoolFull i0 r s
  | .extensionReread i0 r => Sys2Proof.Machine.execExtensionReread i0 r s
  | .binFaultTimeout i0 r => Sys2Proof.Machine.execBinFaultTimeout i0 r s
  | .pipelineCompiled h reason offset => Sys2Proof.Machine.execPipelineCompiled h reason offset s
  | .contextSchedule steps => Sys2Proof.Machine.execContextSchedule steps s
  | .preemptRequest phase tiles => Sys2Proof.Machine.execPreemptRequest phase tiles s
  | .tileGraceExpiry saved => Sys2Proof.Machine.execTileGraceExpiry saved s
  | .timeSliceExpiry => Sys2Proof.Machine.execTimeSliceExpiry s
  | .clusterLost c => Sys2Proof.Machine.execClusterLost c s
  | .flipLayer i0 => Sys2Proof.Machine.execFlipLayer i0 s
  | .flipCommit i0 => Sys2Proof.Machine.execFlipCommit i0 s
  | .flipCancel i0 => Sys2Proof.Machine.execFlipCancel i0 s
  | .headCommitLine n trim => Sys2Proof.Machine.execHeadCommitLine n trim s
  | .acquireTimeout w n => Sys2Proof.Machine.execAcquireTimeout w n s
  | .ensignPeriod => Sys2Proof.Machine.execEnsignPeriod s
  | .ensignAcknowledge src plays => Sys2Proof.Machine.execEnsignAcknowledge src plays s
  | .flashHalfCycle => Sys2Proof.Machine.execFlashHalfCycle s
  | .ensignFill n k x y w h idx => Sys2Proof.Machine.execEnsignFill n k x y w h idx s
  | .ensignBlit n k x y w h src stride remap => Sys2Proof.Machine.execEnsignBlit n k x y w h src stride remap s
  | .ensignGlyph n k x y w h off fg bg => Sys2Proof.Machine.execEnsignGlyph n k x y w h off fg bg s
  | .ensignSign n k => Sys2Proof.Machine.execEnsignSign n k s
  | .packageVerify n pkg => Sys2Proof.Machine.execPackageVerify n pkg s
  | .packageActivate n => Sys2Proof.Machine.execPackageActivate n s
  | .packageDiscard n => Sys2Proof.Machine.execPackageDiscard n s
  | .hpdRise p => Sys2Proof.Machine.execHpdRise p s
  | .hpdWaitEnd p kind caps su edid slices => Sys2Proof.Machine.execHpdWaitEnd p kind caps su edid slices s
  | .linkTrained p lanes rate => Sys2Proof.Machine.execLinkTrained p lanes rate s
  | .trainRetry p => Sys2Proof.Machine.execTrainRetry p s
  | .irqHpd p lost psrError => Sys2Proof.Machine.execIrqHpd p lost psrError s
  | .panelUnplugged p => Sys2Proof.Machine.execPanelUnplugged p s
  | .linkWakeDone n => Sys2Proof.Machine.execLinkWakeDone n s
  | .teEdge n level => Sys2Proof.Machine.execTeEdge n level s
  | .teLost n => Sys2Proof.Machine.execTeLost n s
  | .panelOnDelayEnd n => Sys2Proof.Machine.execPanelOnDelayEnd n s
  | .backlightDelayEnd n => Sys2Proof.Machine.execBacklightDelayEnd n s
  | .panelFault n => Sys2Proof.Machine.execPanelFault n s
  | .panelFaultClear n => Sys2Proof.Machine.execPanelFaultClear n s
  | .rxFrame n w h rate khz colour data => Sys2Proof.Machine.execRxFrame n w h rate khz colour data s
  | .rxSignalLost n => Sys2Proof.Machine.execRxSignalLost n s
  | .rxHoldExpiry n => Sys2Proof.Machine.execRxHoldExpiry n s
  | .signatureSample n k seen sent => Sys2Proof.Machine.execSignatureSample n k seen sent s
  | .freezeWindowExpiry n k => Sys2Proof.Machine.execFreezeWindowExpiry n k s
  | .backupToneSwitch => Sys2Proof.Machine.execBackupToneSwitch s
  | .scanFrameEnd p raw self noise => Sys2Proof.Machine.execScanFrameEnd p raw self noise s
  | .idleStep p => Sys2Proof.Machine.execIdleStep p s
  | .gestureWatchEnd p => Sys2Proof.Machine.execGestureWatchEnd p s
  | .gloveTimeout p => Sys2Proof.Machine.execGloveTimeout p s
  | .wetTimeout p => Sys2Proof.Machine.execWetTimeout p s
  | .touchPortStart p fpc bad placed coarse fine first cap selfCap => Sys2Proof.Machine.execTouchPortStart p fpc bad placed coarse fine first cap selfCap s
  | .integrityScan p bad aborted => Sys2Proof.Machine.execIntegrityScan p bad aborted s
  | .hapticPlay i0 => Sys2Proof.Machine.execHapticPlay i0 s
  | .hapticStop i0 => Sys2Proof.Machine.execHapticStop i0 s
  | .playEffect n g c d => Sys2Proof.Machine.execPlayEffect n g c d s
  | .loadMeasure g answers meas => Sys2Proof.Machine.execLoadMeasure g answers meas s
  | .hapticLoopPeriod g c a mw => Sys2Proof.Machine.execHapticLoopPeriod g c a mw s
  | .senseCheck g c a => Sys2Proof.Machine.execSenseCheck g c a s
  | .effectEnd g c => Sys2Proof.Machine.execEffectEnd g c s
  | .overcurrent g c => Sys2Proof.Machine.execOvercurrent g c s
  | .driverHot g temp => Sys2Proof.Machine.execDriverHot g temp s
  | .hvFault g => Sys2Proof.Machine.execHvFault g s
  | .hvRetry g ok => Sys2Proof.Machine.execHvRetry g ok s
  | .sampleInstant d ins late => Sys2Proof.Machine.execSampleInstant d ins late s
  | .meterUpdate => Sys2Proof.Machine.execMeterUpdate s
  | .audBridgeLocked k ratio => Sys2Proof.Machine.execAudBridgeLocked k ratio s
  | .audBridgeUnlocked k => Sys2Proof.Machine.execAudBridgeUnlocked k s
  | .audioPlay i0 => Sys2Proof.Machine.execAudioPlay i0 s
  | .audioCapture i0 => Sys2Proof.Machine.execAudioCapture i0 s
  | .audioStart i0 => Sys2Proof.Machine.execAudioStart i0 s
  | .audioStop i0 => Sys2Proof.Machine.execAudioStop i0 s
  | .audioBufferDone t => Sys2Proof.Machine.execAudioBufferDone t s
  | .audTdmClockLost p => Sys2Proof.Machine.execAudTdmClockLost p s
  | .tdmClockResume p => Sys2Proof.Machine.execTdmClockResume p s
  | .mov c => Sys2Proof.Machine.execMov c s
  | .add c => Sys2Proof.Machine.execAdd c s
  | .sub c => Sys2Proof.Machine.execSub c s
  | .adc c => Sys2Proof.Machine.execAdc c s
  | .sbc c => Sys2Proof.Machine.execSbc c s
  | .and c => Sys2Proof.Machine.execAnd c s
  | .or c => Sys2Proof.Machine.execOr c s
  | .xor c => Sys2Proof.Machine.execXor c s
  | .shl c => Sys2Proof.Machine.execShl c s
  | .shr c => Sys2Proof.Machine.execShr c s
  | .sra c => Sys2Proof.Machine.execSra c s
  | .cmp c => Sys2Proof.Machine.execCmp c s
  | .tst c => Sys2Proof.Machine.execTst c s
  | .mul c => Sys2Proof.Machine.execMul c s
  | .mulh c => Sys2Proof.Machine.execMulh c s
  | .not c => Sys2Proof.Machine.execNot c s
  | .addi c => Sys2Proof.Machine.execAddi c s
  | .movi c => Sys2Proof.Machine.execMovi c s
  | .movhi c => Sys2Proof.Machine.execMovhi c s
  | .cmpi c => Sys2Proof.Machine.execCmpi c s
  | .ldw c => Sys2Proof.Machine.execLdw c s
  | .stw c => Sys2Proof.Machine.execStw c s
  | .ldb c => Sys2Proof.Machine.execLdb c s
  | .stb c => Sys2Proof.Machine.execStb c s
  | .bcc c => Sys2Proof.Machine.execBcc c s
  | .jmp c => Sys2Proof.Machine.execJmp c s
  | .call c => Sys2Proof.Machine.execCall c s
  | .mfs c => Sys2Proof.Machine.execMfs c s
  | .mts c => Sys2Proof.Machine.execMts c s
  | .jr c => Sys2Proof.Machine.execJr c s
  | .rete c => Sys2Proof.Machine.execRete c s
  | .wait c => Sys2Proof.Machine.execWait c s
  | .pwait c => Sys2Proof.Machine.execPwait c s
  | .send c => Sys2Proof.Machine.execSend c s
  | .ei c => Sys2Proof.Machine.execEi c s
  | .di c => Sys2Proof.Machine.execDi c s
  | .sysNop c => Sys2Proof.Machine.execSysNop c s
  | .bmov c => Sys2Proof.Machine.execBmov c s
  | .bfeed c => Sys2Proof.Machine.execBfeed c s
  | .bmac c => Sys2Proof.Machine.execBmac c s
  | .waitv c => Sys2Proof.Machine.execWaitv c s
  | .handlerEntry c => Sys2Proof.Machine.execHandlerEntry c s
  | .timerExpiry c t => Sys2Proof.Machine.execTimerExpiry c t s
  | .edgeDetect c e level => Sys2Proof.Machine.execEdgeDetect c e level s
  | .periodTick c => Sys2Proof.Machine.execPeriodTick c s
  | .coreReset c => Sys2Proof.Machine.execCoreReset c s
  | .mailboxIn n c v => Sys2Proof.Machine.execMailboxIn n c v s
  | .programStage n c v => Sys2Proof.Machine.execProgramStage n c v s
  | .programVerify n c sigOk => Sys2Proof.Machine.execProgramVerify n c sigOk s
  | .programEmpty n c => Sys2Proof.Machine.execProgramEmpty n c s
  | .ensLockstep => Sys2Proof.Machine.execEnsLockstep s
  | .ensPairRestarted => Sys2Proof.Machine.execEnsPairRestarted s
  | .feedData n u v => Sys2Proof.Machine.execFeedData n u v s
  | .runningValueWrite n u v => Sys2Proof.Machine.execRunningValueWrite n u v s
  | .crcSettingWrite n u sub v => Sys2Proof.Machine.execCrcSettingWrite n u sub v s
  | .compare n u => Sys2Proof.Machine.execCompare n u s
  | .restartAtInit n u => Sys2Proof.Machine.execRestartAtInit n u s
  | .aliveResync n u => Sys2Proof.Machine.execAliveResync n u s
  | .ownerTicket n sigOk => Sys2Proof.Machine.execOwnerTicket n sigOk s
  | .lifecycleAdvance n => Sys2Proof.Machine.execLifecycleAdvance n s
  | .sha256 n => Sys2Proof.Machine.execSha256 n s
  | .sha384 n => Sys2Proof.Machine.execSha384 n s
  | .sha512 n => Sys2Proof.Machine.execSha512 n s
  | .aesGcmEncrypt n => Sys2Proof.Machine.execAesGcmEncrypt n s
  | .aesGcmDecrypt n => Sys2Proof.Machine.execAesGcmDecrypt n s
  | .cmacGenerate n => Sys2Proof.Machine.execCmacGenerate n s
  | .cmacVerify n => Sys2Proof.Machine.execCmacVerify n s
  | .xtsEncrypt n => Sys2Proof.Machine.execXtsEncrypt n s
  | .xtsDecrypt n => Sys2Proof.Machine.execXtsDecrypt n s
  | .ecdsaSign n => Sys2Proof.Machine.execEcdsaSign n s
  | .ecdsaVerify n => Sys2Proof.Machine.execEcdsaVerify n s
  | .ecdh n => Sys2Proof.Machine.execEcdh n s
  | .keyGeneration n => Sys2Proof.Machine.execKeyGeneration n s
  | .ed25519Verify n => Sys2Proof.Machine.execEd25519Verify n s
  | .randomBytes n => Sys2Proof.Machine.execRandomBytes n s
  | .cryptoJobDone n => Sys2Proof.Machine.execCryptoJobDone n s
  | .cryptoRngFail => Sys2Proof.Machine.execCryptoRngFail s
  | .keyopGenerate n w => Sys2Proof.Machine.execKeyopGenerate n w s
  | .keyopImportPlain n w => Sys2Proof.Machine.execKeyopImportPlain n w s
  | .keyopImportWrapped n w => Sys2Proof.Machine.execKeyopImportWrapped n w s
  | .keyopErase n => Sys2Proof.Machine.execKeyopErase n s
  | .attest n => Sys2Proof.Machine.execAttest n s
  | .jtagDebugOpen v sigOk cosignOk holderOk => Sys2Proof.Machine.execJtagDebugOpen v sigOk cosignOk holderOk s
  | .debugCertExpiry n => Sys2Proof.Machine.execDebugCertExpiry n s
  | .boundaryScanOpen n => Sys2Proof.Machine.execBoundaryScanOpen n s
  | .updHeader n v sigOk => Sys2Proof.Machine.execUpdHeader n v sigOk s
  | .updBody n off last v bad innerOk => Sys2Proof.Machine.execUpdBody n off last v bad innerOk s
  | .updSchedule n => Sys2Proof.Machine.execUpdSchedule n s
  | .updCancel n => Sys2Proof.Machine.execUpdCancel n s
  | .updConfirm n => Sys2Proof.Machine.execUpdConfirm n s
  | .updReject n => Sys2Proof.Machine.execUpdReject n s
  | .updRaiseFloor n => Sys2Proof.Machine.execUpdRaiseFloor n s
  | .updLoadUsb n file sigOk bad innerOk => Sys2Proof.Machine.execUpdLoadUsb n file sigOk bad innerOk s
  | .updActivation => Sys2Proof.Machine.execUpdActivation s
  | .halyardRestartDone ok => Sys2Proof.Machine.execHalyardRestartDone ok s
  | .updTrialExpiry => Sys2Proof.Machine.execUpdTrialExpiry s
  | .recoveryRequest cert v sigOk cosignOk holderOk innerOk => Sys2Proof.Machine.execRecoveryRequest cert v sigOk cosignOk holderOk innerOk s
  | .unitReset h copyOk v => Sys2Proof.Machine.execUnitReset h copyOk v s
  | .journalDrain k => Sys2Proof.Machine.execJournalDrain k s
  | .exportBuild n => Sys2Proof.Machine.execExportBuild n s
  | .vmainFail vmain vbak => Sys2Proof.Machine.execVmainFail vmain vbak s
  | .vmainValid vmain drift => Sys2Proof.Machine.execVmainValid vmain drift s
  | .vmainOver vmain vbak => Sys2Proof.Machine.execVmainOver vmain vbak s
  | .vbakFlushTrigger vbak => Sys2Proof.Machine.execVbakFlushTrigger vbak s
  | .vbakLow vbak => Sys2Proof.Machine.execVbakLow vbak s
  | .vbakAbsent vbak => Sys2Proof.Machine.execVbakAbsent vbak s
  | .remoteOff => Sys2Proof.Machine.execRemoteOff s
  | .resetN => Sys2Proof.Machine.execResetN s
  | .thermalHigh temp => Sys2Proof.Machine.execThermalHigh temp s
  | .thermalTrip temp => Sys2Proof.Machine.execThermalTrip temp s
  | .thermalShutdown temp => Sys2Proof.Machine.execThermalShutdown temp s
  | .thermalRecover drift => Sys2Proof.Machine.execThermalRecover drift s
  | .flushComplete => Sys2Proof.Machine.execFlushComplete s
  | .returnComplete => Sys2Proof.Machine.execReturnComplete s
  | .bootHandover otpOk puf imageA imageB lost corrupt => Sys2Proof.Machine.execBootHandover otpOk puf imageA imageB lost corrupt s
  | .startUpComplete silent untrained => Sys2Proof.Machine.execStartUpComplete silent untrained s
  | .halyardWatchdog => Sys2Proof.Machine.execHalyardWatchdog s
  | .holdupConfigWrite n sub v => Sys2Proof.Machine.execHoldupConfigWrite n sub v s
  | .hoistJoin n held => Sys2Proof.Machine.execHoistJoin n held s
  | .hoistLeave n => Sys2Proof.Machine.execHoistLeave n s
  | .hoistLinkUp l trained authOk peer serial hid sameOwner hops mgr held => Sys2Proof.Machine.execHoistLinkUp l trained authOk peer serial hid sameOwner hops mgr held s
  | .hoistLinkRetry l => Sys2Proof.Machine.execHoistLinkRetry l s
  | .linkRekey l => Sys2Proof.Machine.execLinkRekey l s
  | .hoistDictRequest l ok src sess cl w op flags idx sub off len v => Sys2Proof.Machine.execHoistDictRequest l ok src sess cl w op flags idx sub off len v s
  | .hoistDictResponse l ok sess st v => Sys2Proof.Machine.execHoistDictResponse l ok sess st v s
  | .hoistFeedData l ok dst f last v => Sys2Proof.Machine.execHoistFeedData l ok dst f last v s
  | .timeExchange t1 t2 t3 t4 => Sys2Proof.Machine.execTimeExchange t1 t2 t3 t4 s
  | .timeLockTimeout => Sys2Proof.Machine.execTimeLockTimeout s
  | .hoistHeartbeat l ok src fromMgr hops mgr term => Sys2Proof.Machine.execHoistHeartbeat l ok src fromMgr hops mgr term s
  | .contactForward l ok dst u w v => Sys2Proof.Machine.execContactForward l ok dst u w v s
  | .membership l ok kind a b => Sys2Proof.Machine.execMembership l ok kind a b s
  | .ptpMessage p domain transport selected offset => Sys2Proof.Machine.execPtpMessage p domain transport selected offset s
  | .hoistPtpLost => Sys2Proof.Machine.execHoistPtpLost s
  | .hoistLinkDown l => Sys2Proof.Machine.execHoistLinkDown l s
  | .hoistDeviceLost d => Sys2Proof.Machine.execHoistDeviceLost d s
  | .hoistTakeover reach => Sys2Proof.Machine.execHoistTakeover reach s
  | .feedEnable n f src pathFits => Sys2Proof.Machine.execFeedEnable n f src pathFits s
  | .feedDisable n f => Sys2Proof.Machine.execFeedDisable n f s
  | .feedPoll e d f => Sys2Proof.Machine.execFeedPoll e d f s
  | .feedCopyDone e d f k => Sys2Proof.Machine.execFeedCopyDone e d f k s
  | .hoistFeedLost f => Sys2Proof.Machine.execHoistFeedLost f s
  | .chainMaskWrite n v => Sys2Proof.Machine.execChainMaskWrite n v s
  | .overflowClear n v => Sys2Proof.Machine.execOverflowClear n v s
  | .snapshotTake n => Sys2Proof.Machine.execSnapshotTake n s
  | .snapshotRelease n => Sys2Proof.Machine.execSnapshotRelease n s
  | .samplerArm n j => Sys2Proof.Machine.execSamplerArm n j s
  | .samplerDisarm n j => Sys2Proof.Machine.execSamplerDisarm n j s
  | .pmcSample j v => Sys2Proof.Machine.execPmcSample j v s
  | .counterViewRead i0 off => Sys2Proof.Machine.execCounterViewRead i0 off s
  | .ethInterfaceWrite n p v => Sys2Proof.Machine.execEthInterfaceWrite n p v s
  | .pcieLinkTraining p up gen width => Sys2Proof.Machine.execPcieLinkTraining p up gen width s
  | .remoteOffInputWrite n v => Sys2Proof.Machine.execRemoteOffInputWrite n v s
  | .lightSensorRead k ok word => Sys2Proof.Machine.execLightSensorRead k ok word s
  | .eqHoldoffExpiry i0 => Sys2Proof.Machine.execEqHoldoffExpiry i0 s
  | .workItemComplete i0 r => Sys2Proof.Machine.execWorkItemComplete i0 r s
  | .lastFetchComplete n l => Sys2Proof.Machine.execLastFetchComplete n l s
  | .resetNRelease => Sys2Proof.Machine.execResetNRelease s
  | .remoteOffRelease => Sys2Proof.Machine.execRemoteOffRelease s
  | .driverCooled g temp => Sys2Proof.Machine.execDriverCooled g temp s
  | .lampTestInputChange o on => Sys2Proof.Machine.execLampTestInputChange o on s
  | .ethLinkChange p up mbps => Sys2Proof.Machine.execEthLinkChange p up mbps s
  | .rngStartupTestPass => Sys2Proof.Machine.execRngStartupTestPass s
  | .rxLinkTraining n done => Sys2Proof.Machine.execRxLinkTraining n done s

end Sys2Proof.Machine
end

