-- ==== Sys2Proof/Machine/Step.lean ====
section
/-!
DEFINITION. Machine/Step.lean: one step of the block: the command at the front of its queue takes effect; on an empty queue the block
idles while hoist time passes.
-/
namespace Sys2Proof.Machine

/-- One step. On an empty queue one nanosecond passes, the resolution of TIME64 (DESIGN CHOICE, log 2): everything the spec ties
to a time is a command of its own. -/
def step (s : State) : Host.Outcome State Fault Refusal :=
  match s.pending with
  | [] => .next s.idleTick
  | c :: cs => exec c { s with pending := cs }

/-- The state with the command that a table word spells at the front of its queue. The opcode table gives no row any bits, so no word
spells a command and the state is unchanged (log 3). -/
def State.withFetchWord (s : State) (nbits w : Nat) : State :=
  match Sys2Proof.decodeTableWord nbits w with
  | some c => { s with pending := c :: s.pending }
  | none => s

end Sys2Proof.Machine
end

