-- ==== Sys2Proof/Safety.lean ====
section
/-!
DEFINITION. Safety.lean: what a safe run of the block is, and the conditions on the state and the operands alone under which the statements say that a
command completes.
-/
namespace Sys2Proof.Safety

open Sys2Proof.Machine

/-- The step answers a next state: it neither faults nor is refused. -/
def Goes (s : State) : Prop := ∃ t, step s = .next t

/-- The invariant of the memory: its list of cells is in canonical form. -/
abbrev MemoryWf (s : State) : Prop := Memory.wf s.mem

/-- The device is up and serves session `n`, whose mailbox, if it has one, has answered its last request (R130). -/
abbrev Serves (s : State) (n : Nat) : Prop := s.up = true ∧ s.serves n = true ∧ s.overruns n = false

/-- The state once the request of row `op` on object `key` that session `n` sends at `s` has been carried out to `t`: a mailbox shows its answer (R130). -/
abbrev answered (s : State) (n op key : Nat) (t : State) : State := t.posted n op key 0 0 (s.nextMail n)

/-- The number of session `n` is one that sessions have (R29), and its port one that the device has. -/
abbrev Numbered (s : State) (n : Nat) : Prop := n < 0x10000 ∧ s.reg (Reg.sessPort n) < 64

/-- The device serves session `n`, and a write of `v` to object `key` passes every check of the dictionary (R26 to R29). -/
abbrev Takes (s : State) (n key : Nat) (v : Bytes) : Prop := Serves s n ∧ (s.heard n).writeStatus n key v = St.ok

/-- The device serves session `n`, which may write object `key` (R26). -/
abbrev Passes (s : State) (n key : Nat) : Prop := Serves s n ∧ (s.heard n).gate n key .w = St.ok

/-- The device serves session `n`, its record is the next in order, it and its datagram can be parsed, its OP is `op`, and no answer is kept for it (R58, R59). -/
abbrev FirstSeen (s : State) (n : Nat) (r : Rec) (op len : Nat) : Prop :=
  Serves s n ∧ r.op = op ∧ Dict.inOrder s n r = true ∧ Dict.recordOk r len = true
    ∧ (Dict.keeps s n = true → Dict.datagramOk r = true ∧ (Kmap.get [] s.kept n).find? (fun k => k.seq == r.seq && k.pos == r.pos) = none)

/-- The state once the answer to a record of session `n` is kept, where its transport keeps answers (R59). -/
def keptAs (s : State) (n : Nat) (r : Rec) (keeps : Bool) : State :=
  if keeps then { s with kept := Kmap.set [] s.kept n (Dict.keepAnswer (Kmap.get [] s.kept n) ⟨r.seq, r.pos, s.answer⟩) } else s

/-- The device is up, its hoist link `l` is up, and a frame of it is taken (R464). -/
abbrev Hears (s : State) (l : Nat) : Prop := s.up = true ∧ l ≤ 3 ∧ s.linkUp l = true

/-- The state once the frame is counted. -/
def framed (s : State) (l : Nat) : State := s.setReg (Reg.linkFrames l) (s.reg (Reg.linkFrames l) + 1)

/-- Ring `r` of instance `i` runs and its next packet is `p`, of opcode `op` and well formed (R202). -/
abbrev Holds (s : State) (i r op : Nat) (p : Pkt) : Prop :=
  s.up = true ∧ s.ringRuns i r = true ∧ s.fetchPkt i r = .pkt p ∧ p.op = op ∧ s.pktBad r p = false

/-- The renderer runs the context of ring `r`, whose next packet is `p` (R202, R211). -/
abbrev Renders (s : State) (i r op : Nat) (p : Pkt) : Prop :=
  Holds s i r op p ∧ r < 4 ∧ s.reg (Reg.passSkip i r) = 0 ∧ s.reg Reg.nimCur = 8 * i + r + 1 ∧ s.ctxFree i r = true

/-- The copy engine's ring 7 holds packet `p`. -/
abbrev Copies (s : State) (i op : Nat) (p : Pkt) : Prop :=
  Holds s i 7 op p ∧ s.reg (Reg.passSkip i 7) = 0 ∧ s.ctxFree i 7 = true

/-- A command of instance `i`'s guest arrives in order: of a PCIe guest as it is, of an Ethernet guest over its association (R133). -/
abbrev InOrder (s : State) (i : Nat) (dg : Dgram) : Prop :=
  i < 32 ∨ (i ≤ 47 ∧ s.reg (Reg.remoteOn i) ≠ 0 ∧ dg.seq = s.reg (Reg.remoteRx i) + 1)

/-- The state once that command has arrived. -/
def arrived (s : State) (i : Nat) (dg : Dgram) : State := if i < 32 then s else s.delivered i dg.seq dg.ack

/-- A mailbox request of an enabled instance is received (R131). -/
abbrev Asks (s : State) (i : Nat) (m : Mail) : Prop :=
  s.up = true ∧ i < 48 ∧ s.reg (Obj.instState i) = 1 ∧ s.inService = true ∧ s.reg (Reg.mbBusy i) = 0 ∧ s.reg Reg.halServing = 1 ∧ s.jnlFull = false ∧ InOrder s i m.dg

/-- The state once the mailbox has taken the request. -/
def asked (s : State) (i : Nat) (m : Mail) : State := (arrived s i m.dg).setReg (Reg.instOpen i) 0

/-- Pennant core `c` runs and the instruction at its pc is `o` (R369). -/
abbrev Issues (s : State) (c : Nat) (o : Pen.Op) : Prop := s.up = true ∧ s.coreRuns c = true ∧ Pen.op (s.coreWord c) = some o

/-- The frame of a command that touches neither memory nor a register: every register, byte and bank reads as before. -/
def SameRegs (s t : State) : Prop := (∀ k, t.reg k = s.reg k) ∧ ∀ a, t.byte a = s.byte a

/-- The state once the set-up operation `op` of instance `i` has ended (R130): it is answered with the status and data it gives, or it waits for invalidations. -/
def settled (i op : Nat) (m : Mail) (x : State × Option (Nat × Bytes)) : State :=
  match x with
  | (s, some (st, d)) => s.mbAnswer i op m.seq m.tag st d
  | (s, none) => s.setRegs [(Reg.mbSeq i, m.seq), (Reg.mbBusy i, 1), (Reg.mbWait i, 1), (Reg.mbOp i, op), (Reg.mbTag i, m.tag)]

/-- A datagram of the guest of instance `i` arrives while its association stands (R133). -/
abbrev Linked (s : State) (i : Nat) : Prop := s.up = true ∧ 32 ≤ i ∧ i ≤ 47 ∧ s.reg (Reg.remoteOn i) ≠ 0

/-- The state once a datagram has been heard: its acknowledgement is taken. -/
def heardFrom (s : State) (i ack : Nat) : State := (s.setReg (Reg.remoteLast i) s.now).remoteAck i ack

/-- Instance `i` may be operated on by session `n` (R518). -/
abbrev Operates (s : State) (n i : Nat) : Prop := i ≤ 55 ∧ Passes s n (Obj.instOp i)

/-- The context of ring `r` runs, in the renderer or, for ring 7, in the copy engine, and its next packet is `p`. -/
abbrev Runs (s : State) (i r op : Nat) (p : Pkt) : Prop := Renders s i r op p ∨ (r = 7 ∧ Copies s i op p)

/-- The pass of a context is open, its descriptor reads as `desc` and its attachments as `as`. -/
abbrev PassOpen (s : State) (i r : Nat) (desc : Bytes) (as : List Attach) : Prop :=
  s.reg (Reg.nimPass i r) = 1 ∧ s.cread i r (s.reg (Reg.passDesc i r)) 256 = .ok desc ∧ s.attachments i r desc = .ok as

/-- What the shaders of a draw or dispatch do faults nowhere: the surfaces they sample can be sampled, they read `bs`, and `t` is the state after their stores. -/
abbrev Shades (s : State) (i r : Nat) (run : ShaderRun) (bs : List Bytes) (t : State) : Prop :=
  ∃ l u, Nim.surfs s i r run.surfs = .ok l ∧ State.firstBad (l.map (fun q => q.status false false)) = St.ok ∧ s.shaderReads i r run.reads = .ok (u, bs)
    ∧ u.shaderStores i r run.stores = (t, none)

/-- A draw completes: its pass, of descriptor `desc`, is open, what is bound fits it, its reads and its shaders fault nowhere, and `t` is the state after the shaders' stores. -/
abbrev Draws (s : State) (i r : Nat) (run : ShaderRun) (args : List (Nat × Nat)) (desc : Bytes) (bs : List Bytes) (t : State) : Prop :=
  ∃ as, PassOpen s i r desc as ∧ Nim.drawStatus s i r (passDescOf desc) as run = St.ok ∧ Nim.readFault s i r args = none ∧ Shades s i r run bs t

/-- A dispatch completes: no pass is open, a pipeline and a state block are bound, the unit may take it, and its reads and shaders fault nowhere. -/
abbrev Dispatches (s : State) (i r : Nat) (p : Pkt) (run : ShaderRun) (args : List (Nat × Nat)) (bs : List Bytes) (t : State) : Prop :=
  s.reg (Reg.nimPass i r) ≠ 1 ∧ s.reg (Reg.nimPipe i r) ≠ 0 ∧ s.reg (Reg.nimState i r) ≠ 0 ∧ s.mayTake (s.rank45 i r) = true
    ∧ ¬ (p.safe = true ∧ (s.pipeOf (s.reg (Reg.nimPipe i r) - 1)).getD 3 0 = 1) ∧ run.limit = false ∧ Nim.readFault s i r args = none
    ∧ Shades s i r run bs t

/-- Ring 5 of instance `i` holds packet `p`, of opcode `op`, for a stream `t` that its world holds, and the unit may take it (R351). -/
abbrev Streams (s : State) (i op t : Nat) (p : Pkt) : Prop :=
  Holds s i 5 op p ∧ p.word 0 = t ∧ t ≤ 31 ∧ s.reg (Obj.streamWorld t) = s.instWorld i ∧ s.mayTake true = true

/-- Ring 6 of instance `i` holds haptic packet `p` for channel `8 g + c`, which its world holds, and the unit may take it (R326). -/
abbrev Plays (s : State) (i op g c : Nat) (p : Pkt) : Prop :=
  Holds s i 6 op p ∧ p.word 0 % 256 = 8 * g + c ∧ g ≤ 2 ∧ c ≤ 7 ∧ (op = 0x61 → p.word 0 / 256 = 0) ∧ s.holdsBlock (s.instWorld i) (U.hapChannel g c) = true
    ∧ s.mayTake true = true

/-- Core `c` meets instruction `o` at its pc, its word `w`; `u` is the state with one instruction time spent. -/
abbrev Meets (s : State) (c : Nat) (o : Pen.Op) (w : Nat) (u : State) : Prop := Issues s c o ∧ s.coreWord c = w ∧ s.coreSpend c 1 = u

/-- Session `n` submits a job of operation `op` that the crypto engine takes (R397 to R400): it has none, its slot and its input fit, randomness is there if needed, and fewer than 64 jobs wait. -/
abbrev Submits (s : State) (n op : Nat) : Prop :=
  Takes s n Obj.cryptoOp (leBytes 1 op) ∧ (s.heard n).jobOf n = none
    ∧ (State.jobSlotted op ((s.heard n).reg (skey n Obj.cryptoSlot)) = true → (s.heard n).slotStatus ((s.heard n).reg (Reg.sessWorld n)) op ((s.heard n).reg (skey n Obj.cryptoSlot)) = St.ok)
    ∧ Crypto.inputOk op ((s.heard n).jobKind op ((s.heard n).reg (skey n Obj.cryptoSlot))) (decDomain ((s.heard n).reg (skey n Obj.cryptoInput))) = true
    ∧ (Crypto.isRandom op = true → (s.heard n).reg Reg.rngStopped ≠ 1) ∧ (s.heard n).jobs.countP (fun (j : Job) => !j.running) < 64

/-- The job that session `n` submits: it waits, its result BUSY, and a free lane starts it. -/
def submitted (t : State) (n op : Nat) : State :=
  let j : Job := ⟨n, t.reg (Reg.sessWorld n), t.cls n == Cls.hal || t.cls n == Cls.ens, op, t.reg (skey n Obj.cryptoSlot), t.reg (skey n Obj.cryptoGen),
    decDomain (t.reg (skey n Obj.cryptoInput)), false, false, 0, 0, 0⟩
  (State.jobsStart 2 (State.jobResult { t with jobs := t.jobs ++ [j] } n St.busy [])).reply St.ok

/-- Session `n` writes KeyOp `op` (R400, R402). -/
abbrev Keys (s : State) (n op : Nat) : Prop := Takes s n Obj.keyOp (leBytes 1 op)

/-- World that a key operation grants an EMPTY slot `k` to: the owner's for slots 0 to 3, Halyard's for 4 to 7, the world named for the others (R400). -/
def slotWorld (k w : Nat) : Nat := if k < 4 then 2 else if k < 8 then 0 else w

/-- Commands that act also while the device is off, booting, flushing or in recovery: its supplies, pins and temperatures, its start, the journal's tail,
the random source and the sessions (chapters 16, 18 and 19). -/
def Standing : Instr → Bool
  | .sessionOpen .. | .sessionClose .. | .udpSessionTimeout .. | .dtlsHandshake .. | .debugCertIn .. | .pendingSessionTimeout .. | .cryptoRngFail ..
  | .jtagDebugOpen .. | .debugCertExpiry .. | .boundaryScanOpen .. | .halyardRestartDone .. | .recoveryRequest .. | .journalDrain .. | .vmainFail ..
  | .vmainValid .. | .vmainOver .. | .vbakFlushTrigger .. | .vbakLow .. | .vbakAbsent .. | .remoteOff .. | .resetN .. | .thermalHigh ..
  | .thermalTrip .. | .thermalShutdown .. | .thermalRecover .. | .flushComplete .. | .returnComplete .. | .bootHandover .. | .startUpComplete ..
  | .halyardWatchdog .. | .holdupConfigWrite .. | .resetNRelease .. | .remoteOffRelease .. | .rngStartupTestPass .. => true
  | _ => false

/-! What commands leave as it was. -/

/-- The session whose request a command of the dictionary is, for those commands that leave memory as it was: on a busy mailbox it would raise an event (R130). -/
def requester : Instr → Option Nat
  | .queryPath n .. | .recordRead n .. | .readSegment n .. | .recordAbort n .. | .rawRx n .. | .rawTx n .. | .hidIn n .. | .hidOut n .. | .usbPortOp n ..
  | .ownerEvRead n .. | .ownerEvPush n .. | .classWrite n .. | .packageVerify n .. | .packageDiscard n .. | .mailboxIn n .. | .programStage n ..
  | .programVerify n .. | .programEmpty n .. | .attest n .. | .updHeader n .. | .updCancel n .. | .exportBuild n .. | .holdupConfigWrite n ..
  | .feedEnable n .. | .feedDisable n .. | .chainMaskWrite n .. | .overflowClear n .. | .snapshotTake n .. | .snapshotRelease n .. | .samplerArm n ..
  | .samplerDisarm n .. | .ethInterfaceWrite n .. | .remoteOffInputWrite n .. => some n
  | _ => none

/-- Commands that write no byte of memory, not even through an event that they raise; a request of a session does so when its mailbox is free. -/
def leavesMemory : Instr → Bool
  | .sessionOpen .. | .dtlsHandshake .. | .queryPath .. | .recordRead .. | .readSegment .. | .recordAbort .. | .transferTimeout ..
  | .authLockoutEnd .. | .heartbeatProduce .. | .pushTransmit .. | .rawRx .. | .rawTx .. | .hidIn .. | .hidOut .. | .usbPortOp .. | .ownerEvRead ..
  | .ownerEvPush .. | .boundaryPortResume .. | .rowIdleClose .. | .classWrite .. | .remoteAck .. | .remoteKeepalive .. | .remoteRetransmit ..
  | .remoteKeepaliveSend .. | .flashHalfCycle .. | .ensignSign .. | .packageVerify .. | .packageDiscard .. | .hpdWaitEnd ..
  | .trainRetry .. | .linkWakeDone .. | .panelOnDelayEnd .. | .backlightDelayEnd .. | .rxHoldExpiry .. | .backupToneSwitch .. | .idleStep ..
  | .gestureWatchEnd .. | .gloveTimeout .. | .wetTimeout .. | .hvRetry .. | .meterUpdate .. | .tdmClockResume .. | .mov .. | .add .. | .sub ..
  | .adc .. | .sbc .. | .and .. | .or .. | .xor .. | .shl .. | .shr .. | .sra .. | .cmp .. | .tst .. | .mul .. | .mulh .. | .not .. | .addi ..
  | .movi .. | .movhi .. | .cmpi .. | .bcc .. | .jmp .. | .call .. | .mfs .. | .mts .. | .jr .. | .wait .. | .ei .. | .di .. | .sysNop ..
  | .handlerEntry .. | .timerExpiry .. | .mailboxIn .. | .programStage .. | .programVerify .. | .programEmpty .. | .attest .. | .updHeader ..
  | .updCancel .. | .journalDrain .. | .exportBuild .. | .flushComplete .. | .holdupConfigWrite .. | .hoistLinkRetry .. | .linkRekey ..
  | .hoistDictResponse .. | .feedEnable .. | .feedDisable .. | .chainMaskWrite .. | .overflowClear .. | .snapshotTake .. | .snapshotRelease ..
  | .samplerArm .. | .samplerDisarm .. | .counterViewRead .. | .ethInterfaceWrite .. | .pcieLinkTraining .. | .remoteOffInputWrite ..
  | .lightSensorRead .. | .eqHoldoffExpiry .. | .workItemComplete .. | .resetNRelease .. | .remoteOffRelease .. | .driverCooled ..
  | .lampTestInputChange .. | .ethLinkChange .. | .rngStartupTestPass .. | .rxLinkTraining .. => true
  | _ => false

/-- Commands that neither write nor move a shadow or pending bank. -/
def leavesBanks : Instr → Bool
  | .sessionOpen .. | .dtlsHandshake .. | .queryPath .. | .recordRead .. | .readSegment .. | .recordAbort .. | .transferTimeout ..
  | .authLockoutEnd .. | .heartbeatProduce .. | .heartbeatReceive .. | .heartbeatLost .. | .pushReceive .. | .pushStale .. | .pushTransmit ..
  | .rawConfigWrite .. | .rawFrameReceive .. | .rawRx .. | .rawTx .. | .rawTxDone .. | .busOffRecovery .. | .usbAttached .. | .usbDetached ..
  | .hidReportReceive .. | .hidIn .. | .hidOut .. | .usbOvercurrent .. | .usbPortOp .. | .ownerEvRead .. | .ownerEvPush .. | .shedHoldEnd ..
  | .planRaise .. | .ageMeasure .. | .forecastUpdate .. | .thermalAboveFloor .. | .boundaryPortResume .. | .fabricAccess .. | .throttleExpiry ..
  | .rowIdleClose .. | .concentrationCheck .. | .retrainStart .. | .retrainDone .. | .retrainRetry .. | .patrolScrub .. | .classWrite ..
  | .reserveRateWrite .. | .invalidationComplete .. | .hoRecall .. | .debugConsent .. | .doorbell .. | .eqConsDoorbell .. | .ringCreate ..
  | .ringDestroy .. | .eqCreate .. | .s1Set .. | .mbS1Invalidate .. | .memRequest .. | .memRelease .. | .surfaceExport .. | .surfaceRevoke ..
  | .surfaceImport .. | .shaderAdmit .. | .shaderRelease .. | .reserve .. | .quiesceSelf .. | .remoteMemoryWrite .. | .remoteMemoryRead ..
  | .remoteAck .. | .remoteKeepalive .. | .remoteRetransmit .. | .remoteKeepaliveSend .. | .remoteLinkLost .. | .grantWrite .. | .resizeCut ..
  | .instQuiesce .. | .instResume .. | .instReset .. | .yieldDurationEnd .. | .nop .. | .passBegin .. | .bindPipeline .. | .bindState .. | .draw ..
  | .drawIndexed .. | .drawIndirect .. | .dispatch .. | .dispatchIndirect .. | .clear .. | .queryBegin .. | .queryEnd .. | .fenceSignal ..
  | .fenceWait .. | .fenceReevaluate .. | .fenceTimeout .. | .barrier .. | .s1Invalidate .. | .event .. | .priority .. | .timestamp ..
  | .copyBuffer .. | .copySurface .. | .fill .. | .flattenPresent .. | .binPoolFull .. | .extensionReread .. | .binFaultTimeout ..
  | .pipelineCompiled .. | .contextSchedule .. | .preemptRequest .. | .tileGraceExpiry .. | .timeSliceExpiry .. | .flipLayer .. | .flipCommit ..
  | .flipCancel .. | .acquireTimeout .. | .flashHalfCycle .. | .ensignFill .. | .ensignBlit .. | .ensignGlyph .. | .ensignSign .. | .packageVerify ..
  | .packageActivate .. | .packageDiscard .. | .hpdRise .. | .hpdWaitEnd .. | .linkTrained .. | .trainRetry .. | .irqHpd .. | .panelUnplugged ..
  | .linkWakeDone .. | .teEdge .. | .teLost .. | .panelOnDelayEnd .. | .backlightDelayEnd .. | .panelFault .. | .panelFaultClear .. | .rxFrame ..
  | .rxSignalLost .. | .rxHoldExpiry .. | .signatureSample .. | .backupToneSwitch .. | .idleStep .. | .gestureWatchEnd .. | .gloveTimeout ..
  | .wetTimeout .. | .integrityScan .. | .hapticLoopPeriod .. | .senseCheck .. | .hvRetry .. | .meterUpdate .. | .audBridgeLocked ..
  | .audBridgeUnlocked .. | .audioPlay .. | .audioCapture .. | .audioStart .. | .audioStop .. | .audioBufferDone .. | .audTdmClockLost ..
  | .tdmClockResume .. | .mov .. | .add .. | .sub .. | .adc .. | .sbc .. | .and .. | .or .. | .xor .. | .shl .. | .shr .. | .sra .. | .cmp ..
  | .tst .. | .mul .. | .mulh .. | .not .. | .addi .. | .movi .. | .movhi .. | .cmpi .. | .bcc .. | .jmp .. | .call .. | .mfs .. | .mts .. | .jr ..
  | .wait .. | .ei .. | .di .. | .sysNop .. | .handlerEntry .. | .timerExpiry .. | .mailboxIn .. | .programStage .. | .programVerify ..
  | .programEmpty .. | .ensPairRestarted .. | .feedData .. | .runningValueWrite .. | .crcSettingWrite .. | .compare .. | .restartAtInit ..
  | .aliveResync .. | .lifecycleAdvance .. | .sha256 .. | .sha384 .. | .sha512 .. | .aesGcmEncrypt .. | .aesGcmDecrypt .. | .cmacGenerate ..
  | .cmacVerify .. | .xtsEncrypt .. | .xtsDecrypt .. | .ecdsaSign .. | .ecdsaVerify .. | .ecdh .. | .keyGeneration .. | .ed25519Verify ..
  | .randomBytes .. | .cryptoJobDone .. | .cryptoRngFail .. | .keyopGenerate .. | .keyopImportPlain .. | .keyopImportWrapped .. | .keyopErase ..
  | .attest .. | .jtagDebugOpen .. | .updHeader .. | .updBody .. | .updCancel .. | .updRaiseFloor .. | .updLoadUsb .. | .recoveryRequest ..
  | .journalDrain .. | .exportBuild .. | .vmainValid .. | .vbakLow .. | .vbakAbsent .. | .thermalHigh .. | .thermalRecover .. | .flushComplete ..
  | .holdupConfigWrite .. | .hoistLinkRetry .. | .linkRekey .. | .hoistDictResponse .. | .hoistFeedData .. | .timeLockTimeout .. 
  | .contactForward .. | .ptpMessage .. | .hoistPtpLost .. | .hoistLinkDown .. | .feedEnable ..
  | .feedDisable .. | .feedPoll .. | .feedCopyDone .. | .hoistFeedLost .. | .chainMaskWrite .. | .overflowClear .. | .snapshotTake ..
  | .snapshotRelease .. | .samplerArm .. | .samplerDisarm .. | .pmcSample .. | .counterViewRead .. | .ethInterfaceWrite .. | .pcieLinkTraining ..
  | .remoteOffInputWrite .. | .lightSensorRead .. | .eqHoldoffExpiry .. | .workItemComplete .. | .lastFetchComplete .. | .resetNRelease ..
  | .remoteOffRelease .. | .driverCooled .. | .lampTestInputChange .. | .ethLinkChange .. | .rngStartupTestPass .. | .rxLinkTraining .. => true
  | _ => false

/-- Commands that set hoist time. -/
def setsTime : Instr → Bool
  | .bootHandover .. | .timeExchange .. => true
  | _ => false

/-- Commands that count activations or throttle rows. -/
def movesTrackers : Instr → Bool
  | .fabricAccess .. | .throttleExpiry .. | .boundaryScanOpen .. | .halyardRestartDone .. | .vmainFail .. | .vmainValid .. | .vmainOver ..
  | .vbakFlushTrigger .. | .remoteOff .. | .resetN .. | .thermalShutdown .. | .thermalRecover .. | .bootHandover .. => true
  | _ => false

/-- Commands that stage, switch or drop a content package of the Ensign runtime, or write any object. -/
def movesPackages : Instr → Bool
  | .objectWrite .. | .recordWrite .. | .writeSegment .. | .authWrite .. | .authCommit .. | .authDiscard .. | .authCancel .. | .usdoRequest ..
  | .windowAccess .. | .headCommitLine .. | .packageVerify .. | .packageActivate .. | .packageDiscard .. | .boundaryScanOpen ..
  | .halyardRestartDone .. | .vmainFail .. | .vmainOver .. | .vbakFlushTrigger .. | .remoteOff .. | .resetN .. | .thermalShutdown ..
  | .bootHandover .. | .hoistDictRequest .. => true
  | _ => false

/-- Commands that make or end exports and views. -/
def movesExports : Instr → Bool
  | .objectWrite .. | .recordWrite .. | .writeSegment .. | .authWrite .. | .authCommit .. | .authDiscard .. | .authCancel .. | .usdoRequest ..
  | .windowAccess .. | .invalidationComplete .. | .scrubVerifyDone .. | .memRelease .. | .surfaceExport .. | .surfaceRevoke .. | .surfaceImport ..
  | .remoteHoldExpiry .. | .instReset .. | .mbS1Invalidate .. | .returnComplete .. | .startUpComplete .. | .instRemove .. | .quiesceDone .. | .quiesceLimit .. | .vfFlr .. | .vfLinkLoss .. | .boundaryScanOpen ..
  | .halyardRestartDone .. | .vmainFail .. | .vmainOver .. | .vbakFlushTrigger .. | .remoteOff .. | .resetN .. | .thermalShutdown ..
  | .bootHandover .. | .hoistDictRequest .. => true
  | _ => false

/-- Commands that submit, end or drop jobs of the crypto engine. -/
def movesJobs : Instr → Bool
  | .objectWrite .. | .recordWrite .. | .writeSegment .. | .authWrite .. | .authCommit .. | .authDiscard .. | .authCancel .. | .usdoRequest ..
  | .windowAccess .. | .sha256 .. | .sha384 .. | .sha512 .. | .aesGcmEncrypt .. | .aesGcmDecrypt .. | .cmacGenerate .. | .cmacVerify ..
  | .xtsEncrypt .. | .xtsDecrypt .. | .ecdsaSign .. | .ecdsaVerify .. | .ecdh .. | .keyGeneration .. | .ed25519Verify .. | .randomBytes ..
  | .cryptoJobDone .. | .boundaryScanOpen .. | .halyardRestartDone .. | .vmainFail .. | .vmainOver .. | .vbakFlushTrigger .. | .remoteOff ..
  | .resetN .. | .thermalShutdown .. | .bootHandover .. | .hoistDictRequest .. => true
  | _ => false

/-- Commands that keep an answer under its SEQ, or end a session's kept answers. -/
def movesAnswers : Instr → Bool
  | .sessionOpen .. | .dtlsHandshake .. | .objectWrite .. | .recordRead .. | .recordWrite .. | .readSegment .. | .writeSegment .. | .recordAbort ..
  | .authWrite .. | .authCommit .. | .authDiscard .. | .authCancel .. | .usdoRequest .. | .windowAccess .. | .remoteAssociation .. | .instEnable ..
  | .jtagDebugOpen .. | .boundaryScanOpen .. | .halyardRestartDone .. | .recoveryRequest .. | .vmainFail .. | .vmainOver .. | .vbakFlushTrigger ..
  | .remoteOff .. | .resetN .. | .thermalShutdown .. | .returnComplete .. | .bootHandover .. | .startUpComplete .. | .hoistDictRequest .. => true
  | _ => false

/-- Commands that fill, write or drop lines of the renderer's caches, or write any object. -/
def movesCaches : Instr → Bool
  | .objectWrite .. | .recordWrite .. | .writeSegment .. | .authWrite .. | .authCommit .. | .authDiscard .. | .authCancel .. | .usdoRequest ..
  | .windowAccess .. | .invalidationComplete .. | .scrubVerifyDone .. | .doorbell .. | .remoteHoldExpiry .. | .instRemove .. | .quiesceDone ..
  | .quiesceLimit .. | .vfFlr .. | .vfLinkLoss .. | .passBegin .. | .passEnd .. | .draw .. | .drawIndexed .. | .drawIndirect .. | .dispatch ..
  | .dispatchIndirect .. | .barrier .. | .binPoolFull .. | .extensionReread .. | .binFaultTimeout .. | .contextSchedule .. | .preemptRequest ..
  | .tileGraceExpiry .. | .timeSliceExpiry .. | .boundaryScanOpen .. | .halyardRestartDone .. | .vmainFail .. | .vmainOver ..
  | .vbakFlushTrigger .. | .remoteOff .. | .resetN .. | .thermalShutdown .. | .returnComplete .. | .bootHandover .. | .startUpComplete ..
  | .hoistDictRequest .. => true
  | _ => false

end Sys2Proof.Safety
end

