-- ==== Sys2Proof/Certificates/Slice0/Obligations.lean ====
section
/-!
DEFINITION. Certificates/Slice0/Obligations.lean: the statements for the provers, chapter by chapter. Each names the rules of spec/ it rests on. A
command's result is stated as the next state that the named operations of the model give; the conditions are on the state and the operands alone.
-/
open Sys2Proof Sys2Proof.Machine Sys2Proof.Safety

/-! ## The block as a whole -/

/-- A step with a command at the front of the queue is exec of it on the state with the queue's rest. The queue is the form of the model (log 24). -/
def Obligations.StepRunsFront : Prop :=
  ∀ (s : State) (c : Instr) (cs : List Instr), s.pending = c :: cs → step s = exec c { s with pending := cs }

/-- With no command waiting hoist time alone moves on (the model's choice, log 2): by 1 ns, or, while it is slewed, now and then by 2 or by none; no
register but the slew's own changes. -/
def Obligations.IdleStepPassesTime : Prop :=
  ∀ s : State, s.pending = [] →
    ∃ t, step s = .next t ∧ s.now ≤ t.now ∧ t.now ≤ s.now + 2 ∧ (s.reg Reg.slewLeft = 0 → t = { s with now := s.now + 1 })
      ∧ (∀ k, k ≠ Reg.slewCount → k ≠ Reg.slewLeft → t.reg k = s.reg k) ∧ t.reg Reg.slewLeft ≤ s.reg Reg.slewLeft
      ∧ t.mem = s.mem ∧ t.pending = [] ∧ t.shadow = s.shadow ∧ t.pend = s.pend ∧ t.fifos = s.fifos ∧ t.journal = s.journal

/-- Every command, in every state, runs to a next state: none faults and none is refused. -/
def Obligations.EveryCommandCompletes : Prop :=
 ∀ (c : Instr) (s : State), ∃ t, exec c s = .next t

/-- The queue moves on by exactly one command at each step: the command at its front leaves it, and no command's effect puts one in, takes one out or
changes their order. The queue is the form of the model (log 24). -/
def Obligations.QueueMovesByOne : Prop :=
 ∀ s t : State, step s = .next t → t.pending = s.pending.tail

/-- The memory's list of cells stays in canonical form through every step of every command: addresses rise strictly and no cell holds what an unlisted
address reads as. That an unlisted address reads as 0 is the model's choice (log 4). -/
def Obligations.MemoryStaysCanonical : Prop :=
 ∀ s t : State, MemoryWf s → step s = .next t → MemoryWf t

/-- The state after reset: its memory is canonical and lists nothing, no command waits, hoist time is 0, nothing is sent or in the journal, no bank differs
from its active value, no unit is added, no cache line is filled, and every register but PowerState, which reads BOOT, holds its default. Where the spec
states no value it is the model's choice: memory (log 4), objects without a default (log 1), inner registers (log 23), hoist time and the empty queue
(logs 27 and 24). -/
def Obligations.ResetState : Prop :=
  MemoryWf State.reset ∧ (∀ a, State.reset.byte a = 0) ∧ State.reset.pending = [] ∧ State.reset.now = 0 ∧ State.reset.out = [] ∧ State.reset.journal = []
    ∧ State.reset.reg Obj.powerState = 1 ∧ (∀ k, k ≠ Obj.powerState → State.reset.reg k = regDefault k) ∧ State.reset.shadow = [] ∧ State.reset.pend = []
    ∧ State.reset.addedUnits = [] ∧ State.reset.lines = []

/-- Off, booting, flushing or in recovery (R444), a command other than a supply's, a pin's, a temperature's, a start's, a journal drain, a random source's
or a session's changes nothing (the model's reading, log 28). -/
def Obligations.NothingRunsWhileDown : Prop :=
 ∀ (c : Instr) (s : State), s.up = false → Standing c = false → exec c s = .next s

/-- Commands that store nothing leave every byte of memory as it was: the cores but for what they raise, register reads and writes, timers, connectors and
the others that Safety names; a request of a session where its mailbox has answered the last one (R130). -/
def Obligations.MemoryIsLeft : Prop :=
 ∀ (c : Instr) (s t : State), leavesMemory c = true → (∀ n, requester c = some n → s.overruns n = false) → exec c s = .next t → ∀ a, t.byte a = s.byte a

/-- Hoist time stands but where it is set (R470); the banks stand but at the commands that write, drop or apply them; so do the activation trackers and
throttles, the content packages, the exports and views, the jobs of the crypto engine, the kept answers and the cache lines. That no other command moves hoist time is
the model's choice (log 2). -/
def Obligations.PartsAreLeft : Prop :=
  ∀ (c : Instr) (s t : State), exec c s = .next t →
    (setsTime c = false → t.now = s.now) ∧ (leavesBanks c = true → t.shadow = s.shadow ∧ t.pend = s.pend)
    ∧ (movesTrackers c = false → t.tracks = s.tracks ∧ t.throttles = s.throttles ∧ t.rfmActs = s.rfmActs)
    ∧ (movesPackages c = false → t.stagedPkg = s.stagedPkg ∧ t.activePkg = s.activePkg ∧ t.nextPkg = s.nextPkg)
    ∧ (movesExports c = false → t.exports = s.exports ∧ t.views = s.views) ∧ (movesJobs c = false → t.jobs = s.jobs)
    ∧ (movesAnswers c = false → t.kept = s.kept) ∧ (movesCaches c = false → t.lines = s.lines)

/-! ## Chapter 2: the object dictionary -/

/-- R29: a session opens on its transport, takes the next number and the class the transport gives it; beyond the limit of its transport the open is
answered SESSION_LIMIT and nothing else changes. The one session of a CAN FD port is never refused. R30: a completed handshake opens an OWN session
for a certificate of the live owner key whose validity holds while it is checked, and a pending session for any other certificate that verifies;
without the parameters or a certificate that verifies no session opens, nor does one without an identity (R395); in recovery a client is refused with
UPD_RECOVERY (R422). The numbers of sessions are the model's (log 10). -/
def Obligations.SessionsOpen : Prop :=
  ((∀ (s : State) (tr port cl w : Nat), s.accepts = true → s.sessionRoom tr port = true →
    (tr = 2 ∨ (tr = 4 ∧ port < 4) ∨ (tr = 5 ∧ port < 32 ∧ s.reg (Obj.instState port) ≠ 0) ∨ (tr = 6 ∧ port < 4 ∧ 3 ≤ s.reg (Obj.hoistLinkState port))) →
    ∃ t, exec (.sessionOpen tr port cl w) s = .next t ∧ t.answer = ⟨St.ok, leBytes 2 (s.reg Reg.nextSession + 1)⟩
      ∧ t.reg (Reg.sessOpen (s.reg Reg.nextSession + 1)) = 1 ∧ t.reg (Reg.sessTransport (s.reg Reg.nextSession + 1)) = tr
      ∧ t.reg (Reg.sessClass (s.reg Reg.nextSession + 1)) = (if tr = 5 then Cls.gst else if tr = 6 then cl % 6 else Cls.fld)
      ∧ t.mem = s.mem ∧ t.shadow = s.shadow ∧ t.pend = s.pend)
  ∧ (∀ (s : State) (tr port cl w : Nat), s.accepts = true → s.sessionRoom tr port = false →
    (tr = 2 ∨ (tr = 4 ∧ port < 4) ∨ (tr = 5 ∧ port < 32 ∧ s.reg (Obj.instState port) ≠ 0) ∨ (tr = 6 ∧ port < 4 ∧ 3 ≤ s.reg (Obj.hoistLinkState port))) →
    exec (.sessionOpen tr port cl w) s = .next (s.reply St.sessionLimit))
  ∧ ∀ (s : State) (port cl w : Nat), s.accepts = true → port < 4 → s.reg (Reg.blockHolder (U.can port)) = 0 → s.reg (Reg.sessOpen (3 + port)) = 1 →
    exec (.sessionOpen 1 port cl w) s = .next (s.replyData (leBytes 2 (3 + port))))
  ∧ ((∀ (s : State) (owner valid : Bool) (key : Nat), s.accepts = true → s.reg Reg.identityLost ≠ 1 → s.sessionRoom 3 0 = true →
    ∃ t, exec (.dtlsHandshake true true owner valid key) s = .next t ∧ t.reg (Reg.sessOpen (s.reg Reg.nextSession + 1)) = 1
      ∧ (owner = true ∧ s.reg Obj.ownerSlot ≠ 0xFF ∧ (s.reg Obj.timeSource ≠ 1 ∨ valid = true) →
          t.reg (Reg.sessClass (s.reg Reg.nextSession + 1)) = Cls.own ∧ t.reg (Reg.sessPending (s.reg Reg.nextSession + 1)) = 0)
      ∧ (owner = false ∨ s.reg Obj.ownerSlot = 0xFF ∨ (s.reg Obj.timeSource = 1 ∧ valid = false) →
          t.reg (Reg.sessPending (s.reg Reg.nextSession + 1)) = 1 ∧ t.reg (Reg.sessKey (s.reg Reg.nextSession + 1)) = key
          ∧ t.reg (Reg.sessDeadline (s.reg Reg.nextSession + 1)) = s.now + 10000000000))
  ∧ (∀ (s : State) (owner valid : Bool) (key : Nat), s.accepts = true →
    (s.reg Reg.identityLost = 1 → exec (.dtlsHandshake true true owner valid key) s = .next (s.reply St.identityUnavailable))
    ∧ (s.reg Reg.identityLost ≠ 1 → s.sessionRoom 3 0 = false → exec (.dtlsHandshake true true owner valid key) s = .next (s.reply St.sessionLimit)))
  ∧ (∀ (s : State) (tr port cl w : Nat) (params verifies owner valid : Bool) (key : Nat), s.reg Obj.powerState = 7 →
    (tr = 2 → exec (.sessionOpen tr port cl w) s = .next (s.reply St.updRecovery))
    ∧ (tr ≠ 2 → exec (.sessionOpen tr port cl w) s = .next s)
    ∧ exec (.dtlsHandshake params verifies owner valid key) s = .next (s.reply St.updRecovery))
  ∧ ∀ (s : State) (params verifies owner valid : Bool) (key : Nat), params = false ∨ verifies = false → s.reg Obj.powerState ≠ 7 →
    exec (.dtlsHandshake params verifies owner valid key) s = .next s)

/-- R29, R30, R37: a session is closed with its transport, when a plain UDP session's 60 s or a pending session's 10 s have run, and when its certificate's
validity is over (R405); before its deadline neither of the first two acts. A closed session is open and pending no more, and holds no part of a value and no
certificate. R30, R405, R406, R422, R423: a certificate that passes its checks makes a pending session a debug session, one that fails closes it, and a
session that is not pending is refused; the JTAG port opens a session under SCOPE bit 0, recovery one under SCOPE bit 3, boundary scan needs bit 1
or manufacturing and begins with a reset; in recovery a package whose header fails is answered UPD_RECOVERY. A deadline acts when its command comes (the
model's choice, log 30); that certificates verify is an operand (log 33). -/
def Obligations.SessionsEnd : Prop :=
  ((∀ (s : State) (n : Nat), s.reg (Reg.sessOpen n) = 1 → 2 ≤ s.reg (Reg.sessTransport n) →
    exec (.sessionClose n) s = .next (s.closeSession n) ∧ (s.closeSession n).reg (Reg.sessOpen n) = 0 ∧ (s.closeSession n).reg (Reg.sessPending n) = 0
      ∧ (s.closeSession n).reg (Reg.partKey n) = 0 ∧ (s.closeSession n).reg (Reg.certRef n) = 0xFF)
  ∧ (∀ (s : State) (n : Nat), s.reg (Reg.sessOpen n) = 1 → s.reg (Reg.sessTransport n) = 2 → s.reg (Reg.sessDeadline n) ≤ s.now →
    exec (.udpSessionTimeout n) s = .next (s.closeSession n))
  ∧ (∀ (s : State) (n : Nat), s.reg (Reg.sessOpen n) = 1 → s.reg (Reg.sessPending n) = 1 → s.reg (Reg.sessDeadline n) ≤ s.now →
    exec (.pendingSessionTimeout n) s = .next (s.closeSession n))
  ∧ (∀ (s : State) (n : Nat), s.reg (Reg.sessOpen n) = 1 → s.reg (Reg.certRef n) ≠ 0xFF → s.reg (Reg.certUntil n) < s.hoursNow →
    exec (.debugCertExpiry n) s = .next (s.closeSession n))
  ∧ ∀ (s : State) (n : Nat), s.now < s.reg (Reg.sessDeadline n) → exec (.udpSessionTimeout n) s = .next s ∧ exec (.pendingSessionTimeout n) s = .next s)
  ∧ ((∀ (s : State) (n : Nat) (d : Bytes) (sigOk cosignOk : Bool), Serves s n →
    let t := s.heard n
    let st := t.certStatus d sigOk cosignOk (Cert.holderKey d == t.reg (Reg.sessKey n))
    (t.reg (Reg.sessPending n) = 0 → exec (.debugCertIn n d sigOk cosignOk) s = .next (answered s n 2 Obj.debugCertIn (t.reply St.accessDenied)))
    ∧ (t.reg (Reg.sessPending n) ≠ 0 → d.length = 456 → st ≠ St.ok → exec (.debugCertIn n d sigOk cosignOk) s = .next (answered s n 2 Obj.debugCertIn ((t.closeSession n).reply st)))
    ∧ (t.reg (Reg.sessPending n) ≠ 0 → d.length = 456 → st = St.ok →
      exec (.debugCertIn n d sigOk cosignOk) s = .next (answered s n 2 Obj.debugCertIn (((t.setReg (skey n Obj.debugCertIn) (leNat d)).certTake n d).reply St.ok))))
  ∧ (∀ (s : State) (d : Bytes) (sigOk cosignOk holderOk : Bool), s.accepts = true →
    let t := (s.setReg Reg.jtagNonce (s.fresh % 2 ^ 256)).tick
    (s.certStatus d sigOk cosignOk holderOk ≠ St.ok → exec (.jtagDebugOpen d sigOk cosignOk holderOk) s = .next (t.reply (s.certStatus d sigOk cosignOk holderOk)))
    ∧ (s.certStatus d sigOk cosignOk holderOk = St.ok → bit (Cert.scope d) 0 = false → exec (.jtagDebugOpen d sigOk cosignOk holderOk) s = .next (t.reply St.debugScope))
    ∧ (s.certStatus d sigOk cosignOk holderOk = St.ok → bit (Cert.scope d) 0 = true → exec (.jtagDebugOpen d sigOk cosignOk holderOk) s
      = .next (((t.openSession 8 0 Cls.dbg 0xFF).setReg (Reg.certPort (t.reg Reg.nextSession + 1)) 1).certTake (t.reg Reg.nextSession + 1) d)))
  ∧ (∀ (s : State) (n : Nat), Serves s n → (s.heard n).reg (Reg.sessPending n) ≠ 1 →
    let t := s.heard n
    let u := t.setRegs [(Reg.scanOpen, 1), (Reg.nextCause, 5), (Reg.bootKind, 0)]
    (t.reg (Reg.sessClass n) ≠ Cls.dbg → t.reg Obj.lifecycleState ≠ 0 → exec (.boundaryScanOpen n) s = .next (answered s n 2 0 (t.reply St.accessDenied)))
    ∧ (t.reg (Reg.sessClass n) = Cls.dbg → bit (t.reg (Reg.certScope n)) 1 = false → t.reg Obj.lifecycleState ≠ 0 → exec (.boundaryScanOpen n) s = .next (answered s n 2 0 (t.reply St.debugScope)))
    ∧ ((t.reg (Reg.sessClass n) = Cls.dbg ∧ bit (t.reg (Reg.certScope n)) 1 = true) ∨ t.reg Obj.lifecycleState = 0 → exec (.boundaryScanOpen n) s
      = .next (answered s n 2 0 ((((u.setNum Num.instBoot ((List.range 56).filter (fun i => u.reg (Obj.instState i) != 0))).wipe false).powerTo 1 5).ioDerive.reply St.ok))))
  ∧ (∀ (s : State) (d : Bytes) (sigOk cosignOk holderOk innerOk : Bool), s.reg Obj.powerState = 7 →
    let n := s.reg Reg.nextSession + 1
    (s.certStatus d sigOk cosignOk holderOk = St.ok → bit (Cert.scope d) 3 = true →
      exec (.recoveryRequest true d sigOk cosignOk holderOk innerOk) s = .next ((s.openSession 3 0 Cls.dbg 0xFF).certTake n d))
    ∧ (s.certStatus d sigOk cosignOk holderOk ≠ St.ok → exec (.recoveryRequest true d sigOk cosignOk holderOk innerOk) s = .next (s.reply (s.certStatus d sigOk cosignOk holderOk)))
    ∧ ((s.headerStatus (d.take 4096) sigOk true).1 ≠ St.ok → exec (.recoveryRequest false d sigOk cosignOk holderOk innerOk) s = .next (s.reply St.updRecovery))))

/-- R12: a write of QueryPath that fits STR(48) sets QueryHandle and QueryStatus of the writing session, before it is answered, and no object of another session:
the handle with OK, or 0xFFFF with PATH_UNKNOWN where no unit has the path and PATH_SYNTAX where it is malformed. A path longer than 48 bytes is refused
with TYPE_MISMATCH, and both keep their values. -/
def Obligations.PathQuery : Prop :=
  (∀ (s : State) (n : Nat) (v : Bytes), Numbered s n → Takes s n Obj.queryPath v →
    let path := v.map BitVec.toNat
    ∃ t, exec (.queryPath n v) s = .next t ∧ t.answer = ⟨St.ok, []⟩
      ∧ t.reg (skey n Obj.queryHandle) = (if pathWellFormed path = true then ((s.heard n).pathUnit path).getD 0xFFFF else 0xFFFF)
      ∧ t.reg (skey n Obj.queryStatus)
        = (if pathWellFormed path = false then St.pathSyntax else if (s.heard n).pathUnit path = none then St.pathUnknown else St.ok)
      ∧ ∀ m k, m ≠ n → k < 0x10000000000 → t.reg (skey m k) = s.reg (skey m k))
  ∧ ∀ (s : State) (n : Nat) (v : Bytes), Numbered s n → Passes s n Obj.queryPath → 48 < v.length →
    ∃ t, exec (.queryPath n v) s = .next t ∧ t.answer = ⟨St.typeMismatch, []⟩ ∧ ∀ m k, k < 0x10000000000 → t.reg (skey m k) = s.reg (skey m k)

/-- R26 to R32, R35, R58: a record seen for the first time is carried out on the state that has heard it, posted, and its answer kept where the transport keeps
answers: reads, writes, segments and aborts. R59: a record that the session has already had
answered receives the kept response and is not carried out again. R58: a partial value that no segment follows for 2 s ends with TRANSFER_TIMEOUT. -/
def Obligations.Records : Prop :=
  (∀ (s : State) (n idx sub : Nat) (r : Rec), FirstSeen s n r 1 0 → (s.heard n).reg (Reg.sessPending n) ≠ 1 →
    exec (.recordRead n r idx sub) s
      = .next (keptAs ((Dict.readObject (s.heard n) n (okey idx (sub % 256)) (bit r.flags 0)).posted n 1 (okey idx (sub % 256)) 0 r.tag (r.seq % 65536)) n r (Dict.keeps s n)))
  ∧ (∀ (s : State) (n idx sub : Nat) (r : Rec) (v : Bytes), FirstSeen s n r 2 v.length → (s.heard n).reg (Reg.sessPending n) = 0 →
    exec (.recordWrite n r idx sub v) s
      = .next (keptAs ((Dict.writeObject (s.heard n) n (okey idx (sub % 256)) v).posted n 2 (okey idx (sub % 256)) 0 r.tag (r.seq % 65536)) n r (Dict.keeps s n)))
  ∧ (∀ (s : State) (n idx sub off len : Nat) (r : Rec), FirstSeen s n r 3 len → (s.heard n).reg (Reg.sessPending n) ≠ 1 →
    exec (.readSegment n r idx sub off len) s
      = .next (keptAs ((Dict.readSegment (s.heard n) n (okey idx (sub % 256)) (bit r.flags 0) off len).posted n 3 (okey idx (sub % 256)) off r.tag (r.seq % 65536)) n r
        (Dict.keeps s n)))
  ∧ (∀ (s : State) (n idx sub off : Nat) (r : Rec) (v : Bytes), FirstSeen s n r 4 v.length → (s.heard n).reg (Reg.sessPending n) ≠ 1 →
    exec (.writeSegment n r idx sub off v) s
      = .next (keptAs ((Dict.segment (s.heard n) n (okey idx (sub % 256)) off (bit r.flags 1) v).posted n 4 (okey idx (sub % 256)) off r.tag (r.seq % 65536)) n r
        (Dict.keeps s n)))
  ∧ (∀ (s : State) (n : Nat) (r : Rec), FirstSeen s n r 5 0 → (s.heard n).reg (Reg.sessPending n) ≠ 1 →
    exec (.recordAbort n r) s
      = .next (keptAs (((Dict.partEnd (s.heard n) n).reply St.transferTimeout).posted n 5 0 0 r.tag (r.seq % 65536)) n r (Dict.keeps s n)))
  ∧ (∀ (s : State) (n : Nat), s.up = true → s.reg (Reg.partKey n) ≠ 0 → s.reg (Reg.partDeadline n) ≤ s.now →
    exec (.transferTimeout n) s = .next ((Dict.partEnd s n).reply St.transferTimeout))
  ∧ (∀ (s : State) (n idx sub : Nat) (v : Bytes), Serves s n → (s.heard n).reg (Reg.sessPending n) = 0 →
    exec (.objectWrite n idx sub v) s = .next (answered s n 2 (okey idx (sub % 256)) (Dict.writeObject (s.heard n) n (okey idx (sub % 256)) v)))
  ∧ ∀ (s : State) (n : Nat) (r : Rec) (k : Kept), Serves s n → Dict.inOrder s n r = true → Dict.keeps s n = true → Dict.datagramOk r = true →
    (Kmap.get [] s.kept n).find? (fun k => k.seq == r.seq && k.pos == r.pos) = some k →
    (r.op = 1 → ∀ idx sub, exec (.recordRead n r idx sub) s = .next { s.heard n with answer := k.ans })
    ∧ (r.op = 2 → ∀ idx sub v, exec (.recordWrite n r idx sub v) s = .next { s.heard n with answer := k.ans })
    ∧ (r.op = 3 → ∀ idx sub off len, exec (.readSegment n r idx sub off len) s = .next { s.heard n with answer := k.ans })
    ∧ (r.op = 4 → ∀ idx sub off v, exec (.writeSegment n r idx sub off v) s = .next { s.heard n with answer := k.ans })
    ∧ (r.op = 5 → exec (.recordAbort n r) s = .next { s.heard n with answer := k.ans })

/-- R38, R45: CommitOp 1, 2 and 3 act on the unit or set that CommitHandle names, and the write of CommitOp is answered with the status that CommitStatus
reads. R41, R48, R50, R37, R56, R78: the instants at which banks move. Each event of a unit's boundary source, at most 15 of those that wait, counts and
applies what is due on the source's units, and more raise EVENT_OVERRUN; at CommitAt with TimeLocked 0 the pending bank is dropped whole; a hold that
expires reverts the shadow and tells its holder; a lockout ends. That the events come as one command is the model's form (log 24). -/
def Obligations.CommitsAndInstants : Prop :=
  (∀ (s : State) (n : Nat), Numbered s n → Takes s n Obj.commitOp [1] →
    exec (.commit n) s = .next (answered s n 2 Obj.commitOp ((s.heard n).commitOp n ((s.heard n).reg (skey n Obj.commitHandle)) ((s.heard n).reg (skey n Obj.commitAt))))
    ∧ ∃ t, exec (.commit n) s = .next t ∧ t.answer = ⟨t.reg (skey n Obj.commitStatus), []⟩)
  ∧ (∀ (s : State) (n : Nat), Numbered s n → Takes s n Obj.commitOp [2] →
    exec (.discardShadow n) s = .next (answered s n 2 Obj.commitOp ((s.heard n).discardOp n ((s.heard n).reg (skey n Obj.commitHandle))))
    ∧ ∃ t, exec (.discardShadow n) s = .next t ∧ t.answer = ⟨t.reg (skey n Obj.commitStatus), []⟩)
  ∧ (∀ (s : State) (n : Nat), Numbered s n → Takes s n Obj.commitOp [3] →
    exec (.cancelPending n) s = .next (answered s n 2 Obj.commitOp ((s.heard n).cancelOp n ((s.heard n).reg (skey n Obj.commitHandle))))
    ∧ ∃ t, exec (.cancelPending n) s = .next t ∧ t.answer = ⟨t.reg (skey n Obj.commitStatus), []⟩)
  ∧ (∀ (s : State) (h k : Nat), s.up = true → s.unitThere h = true → s.sourceOf h ≠ 0 → s.reg (Reg.portReset h) ≠ 1 →
    let t := (List.range (min 15 k)).foldl (fun s _ => s.boundary (s.sourceOf h)) s
    exec (.boundaryApply h k) s = .next (if k ≤ 15 then t else t.raise [.hal, .owner] h St.eventOverrun 0xFF 3 []))
  ∧ (∀ (s : State) (h : Nat), s.up = true → s.reg (Reg.pendAt h) ≠ 0 → s.reg (Reg.pendAt h) ≤ s.now → s.lockedAt h = false →
    exec (.schedTimeLost h) s = .next (s.schedDrop h))
  ∧ (∀ (s : State) (h : Nat), s.reg (Reg.pendEpoch h) ≠ 0 →
    s.schedDrop h = (((s.dropPend h).pendEnd h St.schedTimeLost).raise [.code (s.reg (Reg.pendDest h))] h
      St.schedTimeLost 0xFF 2 [(4, s.reg (Reg.pendEpoch h))]).hoistMissed (s.reg (Reg.pendEpoch h)))
  ∧ (∀ (s : State) (h : Nat), s.up = true → s.reg (Reg.holder h) ≠ 0 → s.reg (Reg.holdDeadline h) ≤ s.now →
    exec (.shadowHoldExpiry h) s
      = .next (((s.revertShadow h).raise [.code (s.reg (Reg.holdDest h))] h St.shadowLost 0xFF 1 [(1, 2)]).setReg (Reg.holder h) 0))
  ∧ ∀ (s : State) (k : Nat), s.up = true → s.reg (Reg.authLockUntil k) ≤ s.now → exec (.authLockoutEnd k) s = .next (s.setReg (Reg.authLockUntil k) 0)

/-- R38: a refused commit changes nothing but the session's CommitStatus, CommitDetail and CommitReason: every bank, every hold and every other register
reads as before. -/
def Obligations.RefusedCommitChangesNothing : Prop :=
  ∀ (s : State) (n hdl at' : Nat), (s.commitCheck n hdl at').1 ≠ St.ok →
    (s.commitOp n hdl at').shadow = s.shadow ∧ (s.commitOp n hdl at').pend = s.pend ∧ (s.commitOp n hdl at').mem = s.mem
    ∧ (s.commitOp n hdl at').journal = s.journal ∧ (s.commitOp n hdl at').answer.status = (s.commitCheck n hdl at').1
    ∧ (s.commitOp n hdl at').reg (skey n Obj.commitStatus) = (s.commitCheck n hdl at').1
    ∧ (s.commitOp n hdl at').reg (skey n Obj.commitDetail) = (s.commitCheck n hdl at').2.1
    ∧ ∀ k, k ≠ skey n Obj.commitStatus → k ≠ skey n Obj.commitDetail → k ≠ skey n Obj.commitReason → (s.commitOp n hdl at').reg k = s.reg k

/-- R515, R56, R57: an envelope that passes the checks before its TAG, and whose TAG matches, has its inner request carried out with the freshness taken and
journalled first; one whose TAG does not match is refused with AUTH_FAIL; one refused earlier changes nothing. For the envelope of every OP. R69, R70,
R71: an access to a window that is not mapped is answered WINDOW_UNMAPPED; one to an object of this device reads or writes it as the session itself
would; a read of OwnerEvData takes the records the class may read; OwnerEvPush keeps its value, but 1 only on an Ethernet session. -/
def Obligations.EnvelopesAndWindows : Prop :=
  (∀ (s : State) (n : Nat) (v : Bytes), Takes s n Obj.authEnvelope v →
    let u := s.heard n
    let k := bytesAt v 2 1
    let fr := Dict.freshness (u.reg (Obj.lastFreshness k)) v
    let t := answered s n 2 Obj.authEnvelope (if Dict.envStatus u v ≠ St.ok then u.reply (Dict.envStatus u v)
      else if v.drop (Dict.envAt v + Dict.envLen v) ≠ Dict.envTag u k fr v then Dict.authFail u k
      else Dict.envInner (fun s k d => Dict.write 3 s n k d)
        ((u.setRegs [(Obj.lastFreshness k, fr), (Reg.authFails k, 0), (Reg.authLockS k, 0)]).jnl 0x32 U.sec 0xFF 0xFF false (record [(1, k), (6, fr)])) n v)
    (Dict.envOp v = 1 ∨ Dict.malformed v = true → exec (.authWrite n v) s = .next t)
    ∧ (Dict.envOp v = 2 ∨ Dict.malformed v = true → exec (.authCommit n v) s = .next t)
    ∧ (Dict.envOp v = 3 ∨ Dict.malformed v = true → exec (.authDiscard n v) s = .next t)
    ∧ (Dict.envOp v = 4 ∨ Dict.malformed v = true → exec (.authCancel n v) s = .next t))
  ∧ (∀ (s : State) (n w sub : Nat) (wr : Bool) (v : Bytes), Serves s n → w < 8 → (s.heard n).reg (Reg.sessPending n) ≠ 1 → Dict.mapped (s.heard n) n w = false →
    exec (.windowAccess n w sub wr v) s
      = .next (answered s n (if wr then 2 else 1) (okey (0xF001 + 2 * w) (sub % 256)) ((s.heard n).reply St.windowUnmapped)))
  ∧ (∀ (s : State) (n w sub : Nat) (v : Bytes), Serves s n → w < 8 → (s.heard n).reg (Reg.sessPending n) ≠ 1 → Dict.mapped (s.heard n) n w = true →
    Dict.windowLocal (s.heard n) n w = true → Dict.table ((s.heard n).reg (skey n (Obj.targetIndex w))) = none →
    (s.heard n).reg (skey n (Obj.targetIndex w)) < 0xF000 → 1 ≤ sub → sub ≤ 255 →
    let key := okey ((s.heard n).reg (skey n (Obj.targetIndex w))) sub
    exec (.windowAccess n w sub true v) s = .next (answered s n 2 (okey (0xF001 + 2 * w) sub) (Dict.writeObject (s.heard n) n key v))
    ∧ exec (.windowAccess n w sub false v) s = .next (answered s n 1 (okey (0xF001 + 2 * w) sub) (Dict.readObject (s.heard n) n key false)))
  ∧ (∀ (s : State) (n : Nat), Serves s n → (s.heard n).reg (Reg.sessPending n) ≠ 1 → (s.heard n).gate n Obj.ownerEvData .r = St.ok →
    exec (.ownerEvRead n) s
      = .next (answered s n 1 Obj.ownerEvData { (Can.takeOwner (s.heard n) n).1 with answer := ⟨St.ok, (Can.takeOwner (s.heard n) n).2⟩ }))
  ∧ (∀ (s : State) (n : Nat) (v : Bytes), Takes s n Obj.ownerEvPush v → s.reg (Reg.sessTransport n) = 2 ∨ s.reg (Reg.sessTransport n) = 3 ∨ leNat v ≠ 1 →
    exec (.ownerEvPush n v) s = .next (answered s n 2 Obj.ownerEvPush (((s.heard n).setReg (skey n Obj.ownerEvPush) (leNat v)).reply St.ok)))
  ∧ ∀ (s : State) (n : Nat) (v : Bytes), Numbered s n → Takes s n Obj.ownerEvPush v → s.reg (Reg.sessTransport n) ≠ 2 → s.reg (Reg.sessTransport n) ≠ 3 → leNat v = 1 →
    exec (.ownerEvPush n v) s = .next (answered s n 2 Obj.ownerEvPush ((s.heard n).reply St.valueRange))

/-- R55: a short freshness value is reconstructed as the smallest value greater than the last accepted one whose low 8 bits equal FRESH. -/
def Obligations.FreshnessIsTheNext : Prop :=
  ∀ (last : Nat) (d : Bytes), Dict.full d = false →
    last < Dict.freshness last d ∧ Dict.freshness last d % 256 = bytesAt d 8 1 ∧ ∀ x, last < x → x % 256 = bytesAt d 8 1 → Dict.freshness last d ≤ x

/-- R61: a USDO request that fails is aborted with the code of its status, and LastStatus reads the status: of a transfer of one frame (phase 0), of the start
(1), the end (2) and the abort (3) of a segmented one and of one whose time has passed (4). A transfer that would begin while another is in progress is
aborted with 0x0800_0000 and LastStatus BUSY, and so is every request while Halyard restarts. -/
def Obligations.UsdoTransfers : Prop :=
  (∀ (s : State) (p phase idx sub : Nat) (wr : Bool) (v : Bytes), s.reg Obj.powerState = 3 ∨ s.reg Obj.powerState = 4 → p < 4 → s.reg (Reg.blockHolder (U.can p)) = 0 →
    s.reg (Reg.sessOpen (3 + p)) ≠ 0 → s.reg Reg.halServing ≠ 0 → (phase < 2 → s.reg (Reg.usdoBusy p) ≠ 1) → (2 ≤ phase → s.reg (Reg.usdoBusy p) = 1) →
    (4 ≤ phase → s.reg (Reg.partDeadline (3 + p)) ≤ s.now) →
    ∃ t, exec (.usdoRequest p phase wr idx sub v) s = .next t ∧ t.reg (Obj.lastStatus p) = t.answer.status
      ∧ (t.answer.status ≠ St.ok → t.answer.data = leBytes 4 (Usdo.abortCode t.answer.status)))
  ∧ (∀ (s : State) (p idx sub : Nat) (wr : Bool) (v : Bytes), s.reg Obj.powerState = 3 ∨ s.reg Obj.powerState = 4 → p < 4 → s.reg (Reg.blockHolder (U.can p)) = 0 →
    s.reg (Reg.sessOpen (3 + p)) ≠ 0 → s.reg Reg.halServing ≠ 0 → s.reg (Reg.usdoBusy p) ≠ 1 →
    let r := if wr then Dict.writeObject s (3 + p) (okey idx (sub % 256)) v else Dict.readObject s (3 + p) (okey idx (sub % 256)) false
    ∃ t, exec (.usdoRequest p 0 wr idx sub v) s = .next t ∧ t.answer.status = r.answer.status ∧ t.mem = r.mem ∧ (r.answer.status = St.ok → t.answer = r.answer))
  ∧ (∀ (s : State) (p phase idx sub : Nat) (wr : Bool) (v : Bytes), s.reg Obj.powerState = 3 ∨ s.reg Obj.powerState = 4 → p < 4 → s.reg (Reg.blockHolder (U.can p)) = 0 →
    s.reg Reg.halServing = 0 ∨ (s.reg (Reg.sessOpen (3 + p)) ≠ 0 ∧ s.reg (Reg.usdoBusy p) = 1 ∧ phase < 2) →
    exec (.usdoRequest p phase wr idx sub v) s
      = .next { s.setReg (Obj.lastStatus p) St.busy with answer := ⟨St.busy, leBytes 4 0x08000000⟩ })
  ∧ Usdo.abortCode St.indexUnknown = 0x06020000 ∧ Usdo.abortCode St.subUnknown = 0x06090011 ∧ Usdo.abortCode St.accessDenied = 0x06010000
  ∧ Usdo.abortCode St.notOwner = 0x06010000 ∧ Usdo.abortCode St.typeMismatch = 0x06070010 ∧ Usdo.abortCode St.valueRange = 0x06090030
  ∧ Usdo.abortCode St.transferTimeout = 0x05040000
  ∧ ∀ st, st ≠ St.indexUnknown → st ≠ St.subUnknown → st ≠ St.accessDenied → st ≠ St.notOwner → st ≠ St.typeMismatch → st ≠ St.valueRange →
      st ≠ St.transferTimeout → Usdo.abortCode st = 0x08000000

/-- R60, R64: the node sends its heartbeat when its period is over, and its next period begins; a consumed heartbeat that does not come in its time raises
HEARTBEAT_LOST naming the node, once; one that comes restarts the time of every consumer of its node, and one that was lost raises HEARTBEAT_BACK. R62,
R63: a pushed frame whose length does not fit is refused with PUSH_REJECTED and nothing else changes; one that its check unit refuses changes what the
check unit records and raises PUSH_REJECTED; one that passes sets RxData, RxTime and RxValid and counts in RxCount, with PUSH_FRESH after staleness;
StaleMs without one makes RxValid 0 with PUSH_STALE. R71: a transmitted object that is due leaves the port. A deadline acts when its command comes
(the model's choice, log 30). -/
def Obligations.NodeObjects : Prop :=
  (∀ (s : State) (p : Nat), s.up = true → s.nodeRuns p = true → s.reg (Reg.nodeHbDue p) ≠ 0 → s.reg (Reg.nodeHbDue p) ≤ s.now →
    exec (.heartbeatProduce p) s = .next ((s.setReg (Reg.nodeHbDue p) (s.reg (Reg.nodeHbDue p) + 1000000 * s.reg (Obj.hbProducerMs p))).emit
      (.frame (U.can p) (record [(4, 0x700 + s.reg (Obj.nodeId p)), (1, 5)]))))
  ∧ (∀ (s : State) (p i : Nat), s.up = true → s.nodeRuns p = true → i < 8 → (s.hbNode p i).2 ≠ 0 → s.reg (Reg.hbDue p i) ≤ s.now →
    (s.reg (Reg.hbLost p i) ≠ 1 →
      exec (.heartbeatLost p i) s = .next ((s.setReg (Reg.hbLost p i) 1).raise [.hal, .owner] (U.can p) St.heartbeatLost 0 2 [(1, (s.hbNode p i).1)]))
    ∧ (s.reg (Reg.hbLost p i) = 1 → exec (.heartbeatLost p i) s = .next s))
  ∧ (∀ (s : State) (p node : Nat), s.up = true → s.nodeRuns p = true →
    exec (.heartbeatReceive p node) s = .next (((List.range 8).filter (fun i => (s.hbNode p i).1 == node && (s.hbNode p i).2 != 0)).foldl (fun (s : State) i =>
      let u := s.setRegs [(Reg.hbDue p i, s.now + 1000000 * (s.hbNode p i).2), (Reg.hbLost p i, 0)]
      if s.reg (Reg.hbLost p i) = 1 then u.raise [.hal, .owner] (U.can p) St.heartbeatBack 0 1 [(1, node)] else u) s))
  ∧ (∀ (s : State) (p id : Nat) (v : Bytes), s.up = true → s.nodeRuns p = true →
    exec (.pushReceive p id v) s = .next (((List.range 32).filter (Push.takes s p id)).foldl (fun s m =>
      if v.length ≠ s.reg (Obj.rxLength p m) then s.raise [.hal, .owner] (U.can p) St.pushRejected 0 2 []
      else if (Push.checked s p m v).2 = false then (Push.checked s p m v).1.raise [.hal, .owner] (U.can p) St.pushRejected 0 2 []
      else Push.accepted (Push.checked s p m v).1 p m v) s))
  ∧ (∀ (s : State) (p m : Nat) (v : Bytes), p < 4 → m < 32 →
    let u := (s.setRegs [(Obj.rxData p m, leNat v), (Obj.rxTime p m, s.now), (Obj.rxValid p m, 1), (Reg.rxStale p m, 0),
      (Reg.rxStaleDue p m, s.now + 1000000 * s.reg (Obj.staleMs p m))]).bump (Obj.rxCount p m) 32
    Push.accepted s p m v = (if s.reg (Reg.rxStale p m) = 1 then u.raise [.hal, .owner] (U.can p) St.pushFresh 0 1 [] else u))
  ∧ (∀ (s : State) (p m : Nat), s.up = true → s.nodeRuns p = true → m < 32 → bit (s.reg (Obj.rxCobId p m)) 31 = false → s.reg (Obj.staleMs p m) ≠ 0 →
    s.reg (Reg.rxStale p m) ≠ 1 → s.reg (Reg.rxStaleDue p m) ≤ s.now →
    let h := s.reg (Obj.checkUnit p m)
    let u := if U.check 0 ≤ h ∧ h < U.check 16 then s.aliveForget (h - U.check 0) (Push.tag p m) else s
    exec (.pushStale p m) s = .next ((u.setRegs [(Obj.rxValid p m, 0), (Reg.rxStale p m, 1)]).raise [.hal, .owner] (U.can p) St.pushStale 0 2 []))
  ∧ ∀ (s : State) (p k x : Nat) (d : Bytes), s.up = true → s.nodeRuns p = true → k < 8 → bit (s.reg (Obj.txCobId p k)) 31 = false →
    Dict.pushValue s p k = some (x, d) → Push.due s p k x = true →
    exec (.pushTransmit p k) s = .next ((s.setRegs [(Reg.txSent p k, x + 1), (Reg.txLast p k, s.now + 1), (Reg.txFrom p k, s.now)]).emit
      (.frame (U.can p) (record [(4, s.reg (Obj.txCobId p k) % 2 ^ 30), (1, Push.lengthFor d.length)] ++ padTo (Push.lengthFor d.length) d)))

/-- R65, R66: the raw controller. A setting within its range is stored and restarts the controller, now or after the frame in transmission; another is
refused with VALUE_RANGE. Frames queue whole or not at all; up to 32 leave the FIFO with a read; a sent frame leaves the queue, and one that an error ended
stays in it; frames received with and without an error move the receive counter; bus-off ends with both counters at 0. R67: a USB host port. A device
that attaches is listed and told; one that detaches is forgotten; a report of a HID device is queued behind the others, or counted lost behind 64; up
to 16 leave with a read; an output report leaves for the device named, and one for an unknown device is refused; over-current powers the port off until
UsbPortOp. The error counts are those of ISO 11898-1 (presumed, log 34). -/
def Obligations.FieldPorts : Prop :=
  ((∀ (s : State) (n p sub : Nat) (v : Bytes), p < 4 → 1 ≤ sub → sub ≤ 4 → Takes s n (okey (0x7C40 + 0x80 * p) sub) v →
    let u := (s.heard n).setReg (okey (0x7C40 + 0x80 * p) sub) (leNat v)
    exec (.rawConfigWrite n p sub v) s = .next (answered s n 2 (okey (0x7C40 + 0x80 * p) sub)
      (if Can.rawConfigOk (s.heard n) p sub (leNat v) = false then (s.heard n).reply St.valueRange
      else if (s.heard n).rawSending p = true then (u.setReg (Reg.rawRestart p) 1).reply St.ok
      else (Can.restart u p).reply St.ok)))
  ∧ (∀ (s : State) (n p : Nat) (v : Bytes), p < 4 → Takes s n (Obj.rawTx p) v → v.length % 80 = 0 →
    let x := (s.heard n).rawQueue p (Can.records (v.length / 80) v)
    exec (.rawTx n p v) s = .next (answered s n 2 (Obj.rawTx p) (x.1.reply x.2)) ∧ (x.2 ≠ St.ok → x.1.fifos = (s.heard n).fifos))
  ∧ (∀ (s : State) (n p : Nat), p < 4 → Serves s n → (s.heard n).reg (Reg.sessPending n) ≠ 1 → (s.heard n).gate n (Obj.rawRx p) .r = St.ok →
    let q := (s.heard n).fifo (Fifo.rawRx p)
    exec (.rawRx n p) s = .next (answered s n 1 (Obj.rawRx p) { (s.heard n).setFifo (Fifo.rawRx p) (q.drop 32) with answer := ⟨St.ok, (q.take 32).flatten⟩ }))
  ∧ (∀ (s : State) (p err : Nat) (r : Bytes) (q : List Bytes), s.up = true → p < 4 → s.inService = true → s.reg (Reg.blockHolder (U.can p)) ≠ 0 →
    s.reg (Reg.blockState (U.can p)) ≤ 2 → s.rawSending p = true → s.fifo (Fifo.rawTx p) = r :: q →
    exec (.rawTxDone p 0) s = .next (Can.frameEnded (Can.errors (((s.setFifo (Fifo.rawTx p) q).rawDerive p).emit (.frame (U.can p) r)) p
      (s.reg (Obj.rawTec p) - 1) (s.reg (Obj.rawRec p))) p)
    ∧ (err ≠ 0 → exec (.rawTxDone p err) s = .next (Can.frameEnded (Can.errors s p
      (if err = 3 ∨ (err = 2 ∧ s.reg (Obj.rawState p) = 1) then s.reg (Obj.rawTec p) else s.reg (Obj.rawTec p) + 8) (s.reg (Obj.rawRec p))) p)))
  ∧ (∀ (s : State) (p err id fl : Nat) (v : Bytes), s.up = true → p < 4 → s.inService = true → s.rawServes p = true → s.reg (Obj.rawState p) ≠ 2 →
    s.reg (Obj.rawMode p) ≠ 1 →
    let r := Can.rec' s.now (id % 2 ^ 30) (fl % 8 + (if s.reg (Obj.rawState p) = 1 then 8 else 0)) v.length v
    (err ≠ 0 → exec (.rawFrameReceive p err id fl v) s = .next (Can.errors s p (s.reg (Obj.rawTec p)) (s.reg (Obj.rawRec p) + if err = 1 then 1 else 8)))
    ∧ (Can.txBad r = false → s.reg (Obj.rawRec p) < 128 →
      exec (.rawFrameReceive p 0 id fl v) s = .next ((Can.errors s p (s.reg (Obj.rawTec p)) (s.reg (Obj.rawRec p) - 1)).rawReceive p r)))
  ∧ ∀ (s : State) (p : Nat), s.up = true → p < 4 → s.reg (Obj.rawState p) = 2 → exec (.busOffRecovery p) s = .next (Can.errors s p 0 0))
  ∧ ((∀ (s : State) (h j addr cls vid pid n : Nat), s.up = true → Usb.on s h = true → addr ≠ 0 → addr ≤ 127 → Can.usbFind s h addr = none →
    (List.range 8).find? (fun j => s.reg (Obj.usbDevice h j) == 0) = some j →
    exec (.usbAttached h addr cls vid pid n) s = .next ((s.setRegs [(Obj.usbDevice h j, Usb.device s h addr cls vid pid), (Reg.usbOutLen h j, n),
      (Obj.usbPortState h, 3)]).raise (Can.usbDests s h) (U.usbHost h) St.usbAttached (s.reg (Reg.blockHolder (U.usbHost h))) 1 (Usb.payload (Usb.device s h addr cls vid pid))))
  ∧ (∀ (s : State) (h j addr : Nat), s.up = true → Usb.on s h = true → Can.usbFind s h addr = some j →
    let u := s.setRegs [(Obj.usbDevice h j, 0), (Reg.usbOutLen h j, 0)]
    let u := if (List.range 8).all (fun k => u.reg (Obj.usbDevice h k) == 0) then u.setReg (Obj.usbPortState h) 1 else u
    exec (.usbDetached h addr) s
      = .next (u.raise (Can.usbDests u h) (U.usbHost h) St.usbDetached (u.reg (Reg.blockHolder (U.usbHost h))) 1 (Usb.payload (s.reg (Obj.usbDevice h j)))))
  ∧ (∀ (s : State) (h j addr id : Nat) (v : Bytes), s.up = true → Usb.on s h = true → v ≠ [] → v.length ≤ 64 → Can.usbFind s h addr = some j →
    Can.usbClass s h j = 3 → 64 ≤ (s.fifo (Fifo.hid h)).length → exec (.hidReportReceive h addr id v) s = .next (s.bump (Obj.hidInLost h) 32))
  ∧ (∀ (s : State) (h j addr id : Nat) (v : Bytes), s.up = true → Usb.on s h = true → v ≠ [] → v.length ≤ 64 → Can.usbFind s h addr = some j →
    Can.usbClass s h j = 3 → (s.fifo (Fifo.hid h)).length < 64 →
    let u := s.setFifo (Fifo.hid h) (s.fifo (Fifo.hid h) ++ [record [(8, s.now), (1, addr), (1, id), (1, v.length), (1, 0)] ++ padTo 64 v])
    (s.fifo (Fifo.hid h) ≠ [] → exec (.hidReportReceive h addr id v) s = .next u)
    ∧ (s.fifo (Fifo.hid h) = [] → s.reg (Reg.usbRxLast h) = 0 ∨ s.reg (Reg.usbRxLast h) - 1 + 1000000 ≤ s.now →
      exec (.hidReportReceive h addr id v) s = .next ((u.setReg (Reg.usbRxLast h) (s.now + 1)).raise (Can.usbDests s h) (U.usbHost h) St.usbHidReport
        (s.reg (Reg.blockHolder (U.usbHost h))) 0 [])))
  ∧ (∀ (s : State) (n h : Nat), h < 2 → Serves s n → (s.heard n).reg (Reg.sessPending n) ≠ 1 → (s.heard n).gate n (Obj.hidIn h) .r = St.ok →
    let q := (s.heard n).fifo (Fifo.hid h)
    exec (.hidIn n h) s = .next (answered s n 1 (Obj.hidIn h) { (s.heard n).setFifo (Fifo.hid h) (q.drop 16) with answer := ⟨St.ok, (q.take 16).flatten⟩ }))
  ∧ (∀ (s : State) (n h : Nat) (v : Bytes), h < 2 → Takes s n (Obj.hidOut h) v → Can.usbFind (s.heard n) h (bytesAt v 0 1) = none →
    exec (.hidOut n h v) s = .next (answered s n 2 (Obj.hidOut h) ((s.heard n).reply St.valueRange)))
  ∧ (∀ (s : State) (n h j : Nat) (v : Bytes), h < 2 → Takes s n (Obj.hidOut h) v → Can.usbFind (s.heard n) h (bytesAt v 0 1) = some j →
    4 + bytesAt v 2 1 ≤ v.length → bytesAt v 2 1 ≤ (s.heard n).reg (Reg.usbOutLen h j) → Can.usbClass (s.heard n) h j = 3 → (s.heard n).reg (Obj.usbPortState h) = 3 →
    exec (.hidOut n h v) s = .next (answered s n 2 (Obj.hidOut h) (((s.heard n).emit (.frame (U.usbHost h) (v.take (4 + bytesAt v 2 1)))).reply St.ok)))
  ∧ (∀ (s : State) (h : Nat), s.up = true → Usb.on s h = true →
    exec (.usbOvercurrent h) s = .next (((Can.usbClear s h).setReg (Obj.usbPortState h) 4).raise (Can.usbDests s h) (U.usbHost h) St.usbOvercurrent
      (s.reg (Reg.blockHolder (U.usbHost h))) 2 []))
  ∧ ∀ (s : State) (n h : Nat) (v : Bytes), h < 2 → Takes s n (Obj.usbPortOp h) v →
    exec (.usbPortOp n h v) s = .next (answered s n 2 (Obj.usbPortOp h) (((Can.usbClear (s.heard n) h).setReg (Obj.usbPortState h)
      (if (List.range 8).any (fun j => (s.heard n).reg (Obj.usbDevice h j) != 0) then 2 else 1)).reply St.ok)))

/-! ## Chapters 3 and 4: timing, worlds, translation -/

/-- R81 to R85, R92, R96: the planner computes at a whole multiple of 4 ms and at no other time; a domain that falls short is raised by 25 mV, at most to
its VoltMaxMv, and not again within 100 us; 12 ms without a boundary set every domain to 900 mV and end the planner; a shed whose second has passed is
renewed or restored; the junction above 115 °C is told once. R80, R87 to R91, R362: ageing is measured on every domain 10 minutes in service after
the last measurement, and the forecast computed 24 hours after the last; a side of a boundary port that resets has its items returned, and the panels'
audio is muted until the port resumes. The speed table and what a step of shedding relieves are free (log 26). -/
def Obligations.PlannerAndPorts : Prop :=
  ((∀ (s : State) (temp : Int) (work : List (Nat × Nat × Nat)) (slack : Nat) (speed : List Nat), s.up = true → s.now % 4000000 = 0 →
    let u := ((s.bump Obj.planCount 32).count 5 1).boundary 0x700
    let t := if u.reg Reg.planDead = 1 then u else (u.thermalCool temp).plan temp work slack speed
    exec (.planBoundary temp work slack speed) s = .next (if t.reg Obj.shedLevel = 0 then t else t.count 7 1))
  ∧ (∀ (s : State) (temp : Int) (work : List (Nat × Nat × Nat)) (slack : Nat) (speed : List Nat), s.up = true → s.now % 4000000 ≠ 0 →
    exec (.planBoundary temp work slack speed) s = .next s)
  ∧ (∀ (s : State) (temp : Int) (work : List (Nat × Nat × Nat)) (slack : Nat), s.up = true → s.reg Reg.planDead ≠ 1 → s.reg Reg.shedUntil ≠ 0 →
    s.reg Reg.shedUntil ≤ s.now →
    let u := s.thermalCool temp
    let open' := (List.range 64).foldl (fun s w => s.setReg (Reg.shedRenderer w) 0) u
    let short := u.shortAt (open'.demandOf work slack) (fun d => u.ceilingOf temp d * 97 / 100)
    exec (.shedHoldEnd temp work slack) s = .next (if short.all (· == 0) ∧ u.reg Reg.thermalShed = 0 then u.shedRestore else u.shedLoad short))
  ∧ (∀ (s : State) (d : Nat) (slack : List Nat) (speed : Nat), s.up = true → d ≤ 3 → s.reg Reg.planDead ≠ 1 → s.reg (Obj.voltageMv d) < s.reg (Obj.voltMaxMv d) →
    s.reg (Reg.raiseLast d) = 0 ∨ s.reg (Reg.raiseLast d) - 1 + 100000 ≤ s.now → s.raiseDue d slack speed = true →
    exec (.planRaise d slack speed) s = .next ((((s.setRegs [(Obj.voltageMv d, min (s.reg (Obj.voltMaxMv d)) (s.reg (Obj.voltageMv d) + 25)),
      (Reg.raiseLast d, s.now + 1)]).bump Obj.urgentRaises 32).count 6 1).raise [.hal, .owner] U.plan St.planRaise 0xFF 1 []))
  ∧ (∀ (s : State) (d : Nat) (slack : List Nat) (speed : Nat), s.up = true →
    (s.reg (Reg.raiseLast d) ≠ 0 ∧ s.now < s.reg (Reg.raiseLast d) - 1 + 100000) ∨ s.raiseDue d slack speed = false →
    exec (.planRaise d slack speed) s = .next s)
  ∧ (∀ (s : State), s.up = true → s.reg Reg.planDead ≠ 1 → s.reg Reg.pmPlanTime + 12000000 ≤ s.now →
    let u := (List.range 4).foldl (fun s d => s.setReg (Obj.voltageMv d) 900) s
    exec .planWatchdog s = .next ((((if u.reg Reg.shedUntil = 0 then u else u.shedRestore).setReg Reg.planDead 1).raise [.hal, .owner] U.plan
      St.planWatchdog 0xFF 3 []).setUnitState U.plan 5))
  ∧ (∀ (s : State), s.up = true → s.now < s.reg Reg.pmPlanTime + 12000000 → exec .planWatchdog s = .next s)
  ∧ (∀ (s : State) (temp : Int), s.up = true → 1150 < temp →
    let u := s.setReg Obj.junctionTemp (ofSigned 2 temp)
    exec (.thermalAboveFloor temp) s = .next (if u.reg Reg.thermalAbove = 1 then u
      else (u.setReg Reg.thermalAbove 1).raise [.hal, .owner] U.plan St.thermalAboveFloor 0xFF 2 []))
  ∧ ∀ (s : State) (temp : Int), s.up = true → temp ≤ 1150 → exec (.thermalAboveFloor temp) s = .next s)
  ∧ ((∀ (s : State) (slow : List (List Nat)), s.up = true →
    (s.serviceSince Reg.ageTime 600000000000 = true →
      exec (.ageMeasure slow) s = .next ((((List.range 5).foldl (fun s d => State.ageDomain (slow.getD d []) s d) (s.setReg Reg.ageTime s.serviceTime)).ageRecord).ageDerive))
    ∧ (s.serviceSince Reg.ageTime 600000000000 = false → exec (.ageMeasure slow) s = .next s))
  ∧ (∀ (s : State), s.up = true →
    (s.serviceSince Reg.forecastTime 86400000000000 = true → exec .forecastUpdate s = .next s.forecast)
    ∧ (s.serviceSince Reg.forecastTime 86400000000000 = false → exec .forecastUpdate s = .next s))
  ∧ (∀ (s : State) (h : Nat), s.up = true → s.unitThere h = true → s.reg (Reg.portReset h) ≠ 1 →
    let u := (s.setReg (Reg.portReset h) 1).unitRestarted h
    let back := u.items.filter (fun (i : Item) => i.unit == h)
    let v := back.foldl (fun s i => s.itemReturn i false 1) u
    let t := if back.isEmpty then v else v.reply St.boundaryReset
    exec (.boundaryPortReset h) s = .next (if h = U.aud then (List.range 3).foldl (fun s d => s.setReg (Reg.audMute d) 1) t else t))
  ∧ ∀ (s : State) (h : Nat), s.up = true → s.reg (Reg.portReset h) ≠ 0 →
    exec (.boundaryPortResume h) s = .next (if h = U.aud then
        (List.range 3).foldl (fun s d => s.setRegs [(Reg.audMute d, 0), (Reg.audIn d, s.now + 1)]) (s.setReg (Reg.portReset h) 0)
      else s.setReg (Reg.portReset h) 0))

/-- R116 to R119, R517: the hand-over of a block. HoOp 1 and 2 answer with the status that HoStatus reads; a release, or a grace that has passed, starts
the drain; a drain that has ended quiesces, resets and scrubs the block; a scrub that verifies frees it, one that does not is repeated once and then
the unit is DEAD; a grant that waited for hot-plug low proceeds, or is abandoned where its world no longer runs. R100, R110, R122, R123, R130: consent
0 closes every debug access to the world at once, and 1 opens it to the debug sessions whose certificate names it; an invalidation that completes
unmaps what waited for it, and the set-up operations and teardowns that waited for it alone go on. A grace or wait acts when its command comes (the
model's choice, log 30). -/
def Obligations.HandOverAndConsent : Prop :=
  (∀ (s : State) (n : Nat), Numbered s n → Takes s n Obj.hoOp [1] →
    exec (.hoGrant n) s = .next (answered s n 2 Obj.hoOp (Hand.grantOp (s.heard n) n))
    ∧ ∃ t, exec (.hoGrant n) s = .next t ∧ t.reg (skey n Obj.hoStatus) = (s.heard n).grantStatus ((s.heard n).reg (skey n Obj.hoBlock)) ((s.heard n).reg (skey n Obj.hoTarget))
      ∧ t.answer = ⟨t.reg (skey n Obj.hoStatus), []⟩)
  ∧ (∀ (s : State) (n : Nat), Numbered s n → Takes s n Obj.hoOp [2] →
    exec (.hoRecall n) s = .next (answered s n 2 Obj.hoOp (Hand.recallOp (s.heard n) n))
    ∧ ∃ t, exec (.hoRecall n) s = .next t ∧ t.reg (skey n Obj.hoStatus) = (s.heard n).recallStatus ((s.heard n).reg (skey n Obj.hoBlock)) false
      ∧ t.answer = ⟨t.reg (skey n Obj.hoStatus), []⟩)
  ∧ (∀ (s : State) (i h : Nat) (dg : Dgram), s.up = true → s.reg (Obj.instState i) ≠ 0 → s.inService = true → InOrder s i dg →
    let u := arrived s i dg
    u.reg (Reg.mbBusy i) ≠ 1 →
    (isBlock h = true → u.reg (Reg.blockHolder h) = u.instWorld i → u.reg (Reg.blockState h) = 1 → exec (.blockRelease i h dg) s = .next ((u.startDrain h).reply St.ok))
    ∧ (isBlock h = true → u.reg (Reg.blockHolder h) = u.instWorld i → u.reg (Reg.blockState h) = 0 → exec (.blockRelease i h dg) s = .next (u.reply St.ok))
    ∧ (isBlock h = false → exec (.blockRelease i h dg) s = .next (u.reply St.handoverNotBlock))
    ∧ (isBlock h = true → u.reg (Reg.blockHolder h) ≠ u.instWorld i ∨ 1 < u.reg (Reg.blockState h) → exec (.blockRelease i h dg) s = .next (u.reply St.notOwner)))
  ∧ (∀ (s : State) (h : Nat), s.up = true → isBlock h = true → s.reg (Reg.blockState h) = 1 → s.reg (Reg.blockDue h) ≤ s.now →
    exec (.recallGraceExpiry h) s = .next (s.startDrain h))
  ∧ (∀ (s : State) (h : Nat), s.up = true → isBlock h = true → s.reg (Reg.blockState h) = 2 → Hand.drained s h = true ∨ s.reg (Reg.blockDue h) ≤ s.now →
    exec (.drainComplete h) s = .next (Hand.drainEnd s h))
  ∧ (∀ (s : State) (h : Nat), s.up = true → isBlock h = true → s.reg (Reg.blockState h) = 5 → s.reg (Reg.unitState h) ≠ 5 →
    let a := s.reg (Reg.blockHolder h)
    exec (.scrubVerifyDone h true) s = .next (Hand.freed s h)
    ∧ exec (.scrubVerifyDone h false) s = .next (if s.reg (Reg.blockScrubs h) = 0 then Hand.resetScrub (s.setReg (Reg.blockScrubs h) 1) h
      else ((s.setUnitState h 5).raise [.hal, .owner, .code (s.reg (Reg.blockReqDest h))] h St.scrubFailed a 3 [(2, h)]).teardownNext a))
  ∧ (∀ (s : State) (h : Nat), s.up = true → isBlock h = true → s.reg (Reg.blockTo h) ≠ 0 → s.reg (Reg.blockState h) = 6 → s.hpdWaited h = true →
    (s.reg (Obj.worldState (s.reg (Reg.blockTo h) - 1)) = 2 → exec (.hpdLowWaitEnd h) s = .next ((s.setBlockState h 7).holdBlock h (s.reg (Reg.blockTo h) - 1)))
    ∧ (s.reg (Obj.worldState (s.reg (Reg.blockTo h) - 1)) ≠ 2 → exec (.hpdLowWaitEnd h) s = .next (s.abandonGrant h)))
  ∧ (∀ (s : State) (n w : Nat) (v : Bytes), Takes s n (Obj.debugConsent w) v → leNat v = 0 →
    exec (.debugConsent n w v) s = .next (answered s n 2 (Obj.debugConsent w) ((((s.heard n).setReg (Obj.debugConsent w) 0).debugCloseWorld w).reply St.ok)))
  ∧ (∀ (s : State) (n w : Nat) (v : Bytes), Takes s n (Obj.debugConsent w) v → leNat v ≠ 0 → 4 ≤ w →
    let u := (s.heard n).setReg (Obj.debugConsent w) (leNat v)
    exec (.debugConsent n w v) s = .next (answered s n 2 (Obj.debugConsent w)
      ((((List.range (u.reg Reg.nextSession + 1)).filter (fun m => Hand.covers u m w)).foldl (fun s m => s.debugOpen m w) u).reply St.ok)))
  ∧ ∀ (s : State) (w : Nat), s.up = true → s.reg (Reg.invalPending w) ≠ 0 →
    let todo := s.num (Num.unmapPend w)
    let u := ((s.setReg (Reg.invalPending w) 0).setNum (Num.unmapPend w) []).unmapNow w todo
    let u := if todo = [] then u else (List.range 64).foldl (fun s k => s.poolSet (k / 8) (k % 8)) (u.memDerive w)
    let u := (List.range 48).foldl (fun s i =>
      if s.reg (Reg.mbWait i) = 0 ∨ !(s.num (Num.mbWorlds i)).contains w then s
      else
        let l := (s.num (Num.mbWorlds i)).filter (· != w)
        let s := s.setNum (Num.mbWorlds i) l
        if l.isEmpty then s.mbFinish i else s) u
    exec (.invalidationComplete w) s = .next ((List.range 64).foldl (fun s v =>
      if (s.num (Num.tearWorlds v)).contains w then (s.setNum (Num.tearWorlds v) ((s.num (Num.tearWorlds v)).filter (· != w))).teardownNext v else s) u)

/-! ## Chapter 5: guest instances -/

/-- R127 to R129, R136: a doorbell of a ring that does not exist, or one that overruns its ring, is told; otherwise the write pointer is taken, and a ring
that is not stopped looks at its next packet unless its instance is held. The event queue's consumer takes what waited; a held-off interrupt is
raised. R132 to R134: the transport of a remote instance. An association of the bound certificate starts it anew; a datagram in order has its effect
once and is acknowledged, and another is acknowledged again; each datagram unacknowledged for 20 ms is sent again, at most 10 times; 100 ms without
traffic send a keepalive; silence of 1 s, or a datagram unacknowledged after its last time, loses the link, and RemoteHoldS without an association
quiesces the instance to be removed. A deadline acts when its command comes (the model's choice, log 30). -/
def Obligations.DoorbellsAndTransport : Prop :=
  ((∀ (s : State) (i r wptr : Nat) (dg : Dgram), s.up = true → i ≤ 47 → r ≤ 7 → s.reg (Obj.instState i) ≠ 0 → s.reg (Obj.instState i) < 4 → s.inService = true →
    InOrder s i dg →
    let w := wptr % 2 ^ 32
    let u := (arrived s i dg).setReg (Reg.doorbellLast i r) w
    let far := 2 ^ u.reg (Reg.ringLog2 i r) / 4 < (w + 2 ^ 32 - u.reg (Reg.ringRptr i r)) % 2 ^ 32
    let v := u.setReg (Reg.ringWptr i r) w
    (u.reg (Reg.ringState i r) = 0 → exec (.doorbell i r wptr dg) s = .next (u.raise [.inst i] U.hal St.ringState (u.instWorld i) 2 [(1, r), (4, w)]))
    ∧ (u.reg (Reg.ringState i r) = 3 → exec (.doorbell i r wptr dg) s = .next v)
    ∧ (u.reg (Reg.ringState i r) ≠ 0 → u.reg (Reg.ringState i r) ≠ 3 → far →
      exec (.doorbell i r wptr dg) s = .next ((u.raise [.inst i] U.hal St.ringOverrun (u.instWorld i) 3 [(1, r), (4, w)]).stopRing i r St.ringOverrun))
    ∧ (u.reg (Reg.ringState i r) ≠ 0 → u.reg (Reg.ringState i r) ≠ 3 → ¬ far → s.reg (Obj.instState i) ≠ 1 ∨ u.reg (Reg.ringState i r) = 4 →
      exec (.doorbell i r wptr dg) s = .next v)
    ∧ (u.reg (Reg.ringState i r) = 1 ∨ u.reg (Reg.ringState i r) = 2 → ¬ far → s.reg (Obj.instState i) = 1 →
      let v := if v.ringWaiting i r = 0 then v else v.setReg (Reg.ringState i r) 2
      let v := if v.reg (Reg.nimPass i r) = 1 ∧ v.reg (Reg.nimWait i r) = 3 then v.extReread i r false else v
      let v := if v.reg (Reg.nimWait i r) = 1 then v.fenceCheck i r else v
      exec (.doorbell i r wptr dg) s = .next (Inst.look v i r)))
  ∧ (∀ (s : State) (i cons : Nat) (dg : Dgram), s.up = true → i ≤ 47 → s.reg (Obj.instState i) ≠ 0 → s.reg (Obj.instState i) < 4 → s.inService = true → InOrder s i dg →
    let d := (arrived s i dg).setReg (Reg.doorbellLast i 8) (cons % 2 ^ 32)
    let u := d.setReg (Reg.eqCons i) (cons % 2 ^ 32)
    (d.reg (Reg.eqExists i) = 0 → exec (.eqConsDoorbell i cons dg) s = .next d)
    ∧ (d.reg (Reg.eqExists i) ≠ 0 → u.reg (Reg.eqFull i) = 0 ∨ u.eqSpace i = 0 → exec (.eqConsDoorbell i cons dg) s = .next u)
    ∧ (d.reg (Reg.eqExists i) ≠ 0 → u.reg (Reg.eqFull i) ≠ 0 → u.eqSpace i ≠ 0 →
      let v := if u.reg (Reg.eqFull i) = 1 then Inst.overflow u i else u
      exec (.eqConsDoorbell i cons dg) s = .next ((Inst.drainStore v i (v.eqStored i)).eqInterrupt i)))
  ∧ ∀ (s : State) (i : Nat), s.up = true → s.reg (Reg.eqExists i) ≠ 0 → s.reg (Reg.eqIrqDue i) ≠ 0 → exec (.eqHoldoffExpiry i) s = .next (s.eqInterrupt i))
  ∧ ((∀ (s : State) (cert : Bytes) (i : Nat), s.up = true → s.inService = true → s.reg Reg.identityLost ≠ 1 →
    (List.range 48).find? (fun i => decide (32 ≤ i) && s.reg (Obj.instState i) != 0 && s.reg (Obj.instPeerCertHash i) == leNat (sha256 cert)) = some i →
    let u := (s.closeSessions (fun n => s.guestSession i n)).openGuest i (s.instWorld i)
    let u := (((u.setRegs [(Reg.remoteOn i, 1), (Reg.remoteTx i, 0), (Reg.remoteRx i, 0), (Reg.remoteLast i, u.now), (Reg.remoteSent i, u.now),
      (Reg.remoteHold i, 0)]).setFifo (Fifo.unacked i) []).setNum (Num.remoteTimes i) []).setNum (Num.remoteTries i) []
    exec (.remoteAssociation cert) s = .next (if s.reg (Reg.remoteHold i) ≠ 0 then u.raise [.inst i] U.hal St.linkBack (u.instWorld i) 1 [(1, i)] else u))
  ∧ (∀ (s : State) (i ack a len : Nat) (data : Bytes), Linked s i →
    let seq := s.reg (Reg.remoteRx i) + 1
    let u := s.delivered i seq ack
    exec (.remoteMemoryWrite i seq ack a data) s = .next (match u.gwrite (u.instWorld i) (u.reg (Reg.s1Root i 8)) a data with
        | .ok t => t
        | .error e => u.accessFault (u.instWorld i) i 8 U.hal 3 .write e)
    ∧ exec (.remoteMemoryRead i seq ack a len) s = .next (match u.gread (u.instWorld i) (u.reg (Reg.s1Root i 8)) a (min len 1384) with
        | .ok b => u.remoteSend i 0x84 b
        | .error e => u.accessFault (u.instWorld i) i 8 U.hal 3 .read e))
  ∧ (∀ (s : State) (i seq ack a len : Nat) (data : Bytes), Linked s i → seq ≠ 0 → seq ≠ s.reg (Reg.remoteRx i) + 1 →
    exec (.remoteMemoryWrite i seq ack a data) s = .next (s.stray i ack) ∧ exec (.remoteMemoryRead i seq ack a len) s = .next (s.stray i ack))
  ∧ (∀ (s : State) (i ack : Nat), Linked s i →
    exec (.remoteAck i ack) s = .next (heardFrom s i ack) ∧ exec (.remoteKeepalive i ack) s = .next (heardFrom s i ack))
  ∧ (∀ (s : State) (i : Nat), s.up = true → s.reg (Reg.remoteOn i) ≠ 0 →
    exec (.remoteRetransmit i) s = .next (((Inst.overdue s i).filter (fun x => decide (x.2.2 < 10))).foldl (fun s x =>
      (((s.setNum (Num.remoteTimes i) ((s.num (Num.remoteTimes i)).set x.1 s.now)).setNum (Num.remoteTries i) ((s.num (Num.remoteTries i)).set x.1 (x.2.2 + 1))).setReg
        (Reg.remoteSent i) s.now).emit (.frame U.hal x.2.1)) s))
  ∧ (∀ (s : State) (i : Nat), s.up = true → s.reg (Reg.remoteOn i) ≠ 0 → max (s.reg (Reg.remoteSent i)) (s.reg (Reg.remoteLast i)) + 100000000 ≤ s.now →
    exec (.remoteKeepaliveSend i) s = .next (s.remoteSend i 7 []))
  ∧ (∀ (s : State) (i : Nat), s.up = true → s.reg (Reg.remoteOn i) ≠ 0 →
    s.reg (Reg.remoteLast i) + 1000000000 ≤ s.now ∨ (Inst.overdue s i).any (fun x => decide (10 ≤ x.2.2)) = true →
    exec (.remoteLinkLost i) s = .next ((s.setRegs [(Reg.remoteOn i, 0), (Reg.remoteHold i, s.now + 1000000000 * s.reg Obj.remoteHoldS)]).raise [.inst i] U.hal St.linkLost
      (s.instWorld i) 2 [(1, i)]))
  ∧ ∀ (s : State) (i : Nat), s.up = true → s.reg (Reg.remoteHold i) ≠ 0 → s.reg (Reg.remoteHold i) ≤ s.now →
    exec (.remoteHoldExpiry i) s = .next ((s.setReg (Reg.remoteHold i) 0).quiesceFor i 2 (s.reg Obj.quiesceLimitMs)))

/-- R103, R110, R131, R150, R353, R516: the set-up operations on rings, event queues, contexts and reservations. Each is answered through the mailbox: a
ring or queue that its rules admit exists afterwards, one they do not admit is answered with the status the rules name and nothing else. R106, R110,
R115, R131, R207, R209: the set-up operations on memory, surfaces and shaders. Memory that the grant, the alignment and the space admit is mapped;
memory that is released, and the views of an export that is revoked, wait for the invalidations, and the request is answered when they complete; an
export takes the next number and its data name it; an import of an export made for the world maps a view of it; a shader that reads and passes its
checks takes a new handle. A STOPPED ring is destroyed with words left (the model's reading, log 19); the first export number is the model's (log 23). -/
def Obligations.MailboxOperations : Prop :=
  ((∀ (s : State) (m : Mail) (i r log2 vector base : Nat), Asks s i m →
    let u := asked s i m
    let v := u.setRegs [(Reg.ringState i r, 1), (Reg.ringLast i r, 0), (Reg.ringBase i r, base), (Reg.ringLog2 i r, log2), (Reg.ringVector i r, vector),
      (Reg.ringRptr i r, 0), (Reg.ringWptr i r, 0)]
    let fits := 12 ≤ log2 ∧ log2 ≤ 22 ∧ 1 ≤ vector ∧ vector ≤ 63
    let lies := base % 4096 = 0 ∧ u.mapped (u.instWorld i) (u.reg (Reg.s1Root i r)) base .read = true
    (7 < r ∨ u.reg (Reg.ringState i r) ≠ 0 → exec (.ringCreate i m r log2 vector base) s = .next (u.mbAnswer i 0x40 m.seq m.tag St.ringState []))
    ∧ (r ≤ 7 → u.reg (Reg.ringState i r) = 0 → ¬ fits → exec (.ringCreate i m r log2 vector base) s = .next (u.mbAnswer i 0x40 m.seq m.tag St.valueRange []))
    ∧ (r ≤ 7 → u.reg (Reg.ringState i r) = 0 → fits → ¬ lies → exec (.ringCreate i m r log2 vector base) s = .next (u.mbAnswer i 0x40 m.seq m.tag St.badAlign []))
    ∧ (r ≤ 7 → u.reg (Reg.ringState i r) = 0 → fits → lies → rendererRing r = false →
      exec (.ringCreate i m r log2 vector base) s = .next (v.mbAnswer i 0x40 m.seq m.tag St.ok []))
    ∧ (∀ c, r ≤ 7 → u.reg (Reg.ringState i r) = 0 → fits → lies → rendererRing r = true → u.nextCtx = some c →
      exec (.ringCreate i m r log2 vector base) s
        = .next ((v.setRegs [(Reg.ringCtx i r, c), (Reg.ctxLast, c), (Reg.nimPrio i r, 1)]).mbAnswer i 0x40 m.seq m.tag St.ok []))
    ∧ (r ≤ 7 → u.reg (Reg.ringState i r) = 0 → fits → lies → rendererRing r = true → u.nextCtx = none →
      exec (.ringCreate i m r log2 vector base) s = .next (u.mbAnswer i 0x40 m.seq m.tag St.limitReached [])))
  ∧ (∀ (s : State) (m : Mail) (i r : Nat), Asks s i m →
    let u := asked s i m
    (7 < r ∨ u.reg (Reg.ringState i r) = 0 → exec (.ringDestroy i m r) s = .next (u.mbAnswer i 0x41 m.seq m.tag St.ringState []))
    ∧ (r ≤ 7 → u.reg (Reg.ringState i r) ≠ 0 → u.reg (Reg.ringState i r) ≠ 3 → u.ringWaiting i r ≠ 0 →
      exec (.ringDestroy i m r) s = .next (u.mbAnswer i 0x41 m.seq m.tag St.busy []))
    ∧ (r ≤ 7 → u.reg (Reg.ringState i r) ≠ 0 → u.ringWaiting i r = 0 ∨ u.reg (Reg.ringState i r) = 3 →
      exec (.ringDestroy i m r) s = .next ((u.ringGone i r).mbAnswer i 0x41 m.seq m.tag St.ok [])))
  ∧ (∀ (s : State) (m : Mail) (i log2 vector holdoff base : Nat), Asks s i m →
    let u := asked s i m
    let fits := 6 ≤ log2 ∧ log2 ≤ 16 ∧ vector ≤ 63 ∧ holdoff ≤ 1000
    let lies := base % 4096 = 0 ∧ u.mapped (u.instWorld i) (u.reg (Reg.s1Root i 8)) base .write = true
    (¬ fits → exec (.eqCreate i m log2 vector holdoff base) s = .next (u.mbAnswer i 0x42 m.seq m.tag St.valueRange []))
    ∧ (fits → ¬ lies → exec (.eqCreate i m log2 vector holdoff base) s = .next (u.mbAnswer i 0x42 m.seq m.tag St.badAlign []))
    ∧ (fits → lies → exec (.eqCreate i m log2 vector holdoff base) s = .next (((u.eqGone i).setRegs [(Reg.eqExists i, 1), (Reg.eqBase i, base),
        (Reg.eqLog2 i, log2), (Reg.eqVector i, vector), (Reg.eqHoldoff i, holdoff)]).mbAnswer i 0x42 m.seq m.tag St.ok [])))
  ∧ (∀ (s : State) (m : Mail) (i cls base : Nat), Asks s i m →
    let u := asked s i m
    (8 < cls → exec (.s1Set i m cls base) s = .next (u.mbAnswer i 0x43 m.seq m.tag St.valueRange []))
    ∧ (1 ≤ cls → cls ≤ 8 → exec (.s1Set i m cls 0xFFFFFFFFFFFFFFFF) s = .next ((u.setReg (Reg.s1Root i (cls - 1)) 0).mbAnswer i 0x43 m.seq m.tag St.ok []))
    ∧ (1 ≤ cls → cls ≤ 8 → base ≠ 0xFFFFFFFFFFFFFFFF → base % 4096 = 0 → base < 2 ^ 52 → u.readable (u.instWorld i) base = true →
      exec (.s1Set i m cls base) s = .next ((u.setReg (Reg.s1Root i (cls - 1)) (base + 1)).mbAnswer i 0x43 m.seq m.tag St.ok []))
    ∧ (base ≠ 0xFFFFFFFFFFFFFFFF → base % 4096 = 0 → base < 2 ^ 52 → u.readable (u.instWorld i) base = true →
      exec (.s1Set i m 0 base) s
        = .next (((List.range 9).foldl (fun s c => s.setReg (Reg.s1Root i c) (base + 1)) u).mbAnswer i 0x43 m.seq m.tag St.ok []))
    ∧ (cls ≤ 8 → base ≠ 0xFFFFFFFFFFFFFFFF → base % 4096 ≠ 0 ∨ 2 ^ 52 ≤ base ∨ u.readable (u.instWorld i) base = false → exec (.s1Set i m cls base) s = .next (u.mbAnswer i 0x43 m.seq m.tag St.badAlign [])))
  ∧ (∀ (s : State) (m : Mail) (i : Nat), Asks s i m →
    exec (.mbS1Invalidate i m) s = .next (settled i 0x44 m (Inst.waitFor (State.invalidate (asked s i m) ((asked s i m).instWorld i)) i [] [(asked s i m).instWorld i])))
  ∧ (∀ (s : State) (m : Mail) (i r b a t : Nat), Asks s i m →
    let u := asked s i m
    let grant := r ≤ u.reg (Obj.instRendererGrant i) ∧ b ≤ u.reg (Obj.instBandwidthGrant i) ∧ t ≤ u.reg (Obj.instTouchRateHz i)
      ∧ (a = 0 ∨ (u.reg (Obj.instAudioLatencyUs i) ≠ 0 ∧ u.reg (Obj.instAudioLatencyUs i) ≤ a))
    (¬ grant → exec (.reserve i m r b a t) s = .next (u.mbAnswer i 0x4B m.seq m.tag St.grantExceeded []))
    ∧ (grant → a ≤ 100000 → u.rendererAdmits i r = true → u.bulkAdmits i b = true → u.audioAdmits i a = true →
      exec (.reserve i m r b a t) s = .next ((u.reserve i r b a t).mbAnswer i 0x4B m.seq m.tag St.ok []))
    ∧ (grant → a ≤ 100000 → u.rendererAdmits i r = false →
      exec (.reserve i m r b a t) s = .next (u.mbAnswer i 0x4B m.seq m.tag St.reserveRefused (leBytes 2 St.nimReserveFull))))
  ∧ (∀ (s : State) (m : Mail) (i : Nat), s.up = true → i < 48 → s.reg (Obj.instState i) = 1 → s.inService = true → s.reg (Reg.mbBusy i) = 0 →
    s.reg Reg.halServing = 1 → InOrder s i m.dg → s.jnlFull = true →
    exec (.quiesceSelf i m) s = .next ((asked s i m).mbAnswer i 0x4C m.seq m.tag St.limitReached []))
  ∧ ∀ (s : State) (m : Mail) (i : Nat), Asks s i m →
    exec (.quiesceSelf i m) s = .next ((if (asked s i m).reg (Obj.instState i) = 1 then (asked s i m).quiesceStart i 0 ((asked s i m).reg Obj.quiesceLimitMs)
      else asked s i m).mbAnswer i 0x4C m.seq m.tag St.ok []))
  ∧ ((∀ (s : State) (m : Mail) (i a n : Nat), Asks s i m →
    let u := asked s i m
    let w := u.instWorld i
    (u.memLimit w < 2 * (u.reg (Reg.memPages w) + n) → exec (.memRequest i m a n) s = .next (u.mbAnswer i 0x45 m.seq m.tag St.grantExceeded []))
    ∧ (2 * (u.reg (Reg.memPages w) + n) ≤ u.memLimit w → a % frameBytes ≠ 0 →
      exec (.memRequest i m a n) s = .next (u.mbAnswer i 0x45 m.seq m.tag St.badAlign []))
    ∧ ∀ v, 2 * (u.reg (Reg.memPages w) + n) ≤ u.memLimit w → a % frameBytes = 0 → a + n * frameBytes ≤ 2 ^ 52 →
      (List.range n).all (fun k => u.slotEmpty w (a + k * frameBytes)) = true → u.mapMemory w a n = some v →
      exec (.memRequest i m a n) s = .next (((v.setReg (Reg.memPages w) (v.reg (Reg.memPages w) + n)).memDerive w).mbAnswer i 0x45 m.seq m.tag St.ok []))
  ∧ (∀ (s : State) (m : Mail) (i a n : Nat), Asks s i m →
    let u := asked s i m
    let w := u.instWorld i
    a % frameBytes = 0 → u.ownPagesAt w a (512 * n) = true → (List.range n).all (fun k => u.blockAt w (a + k * frameBytes)) = true →
    let gone := (u.exports.filter (fun e => e.world == w && decide (e.addr < a + n * frameBytes) && decide (a < e.addr + 4096 * e.pages)
      && !(u.num Num.exportsEnding).contains e.num)).map Export.num
    exec (.memRelease i m a n) s = .next (settled i 0x46 m (Inst.waitFor (((u.revoke gone).1.unmapLater w a n 0).setNum (Num.mbFrees i) [a, n]) i gone
      (w :: (u.revoke gone).2.filter (· != w)))))
  ∧ (∀ (s : State) (m : Mail) (i a n target : Nat), Asks s i m → target = 0xFF ∨ target = 2 ∨ (4 ≤ target ∧ target ≤ 63) →
    a % 4096 = 0 → (asked s i m).ownPagesAt ((asked s i m).instWorld i) a n = true →
    let u := asked s i m
    exec (.surfaceExport i m a n target) s = .next ((State.setReg { u with exports := u.exports ++ [⟨u.reg Reg.nextExport, u.instWorld i, a, n, target⟩] } Reg.nextExport
      ((u.reg Reg.nextExport + 1) % 2 ^ 32)).mbAnswer i 0x47 m.seq m.tag St.ok (leBytes 4 (u.reg Reg.nextExport))))
  ∧ (∀ (s : State) (m : Mail) (i num : Nat) (e : Export), Asks s i m → (asked s i m).exportOf num = some e → e.world = (asked s i m).instWorld i →
    let y := (asked s i m).revoke [num]
    exec (.surfaceRevoke i m num) s = .next (settled i 0x48 m (Inst.waitFor y.1 i [num] y.2)))
  ∧ (∀ (s : State) (m : Mail) (i num a : Nat) (e : Export) (v : State), Asks s i m → (asked s i m).exportOf num = some e → e.target = (asked s i m).instWorld i →
    a % 4096 = 0 → a + 4096 * e.pages ≤ 2 ^ 52 → (List.range e.pages).all (fun k => (asked s i m).pageEmpty ((asked s i m).instWorld i) (a + 4096 * k)) = true →
    (asked s i m).mapView ((asked s i m).instWorld i) a e.world e.addr e.pages = some v →
    exec (.surfaceImport i m num a) s
      = .next (State.mbAnswer { v with views := v.views ++ [⟨num, (asked s i m).instWorld i, a, e.pages⟩] } i 0x49 m.seq m.tag St.ok []))
  ∧ (∀ (s : State) (m : Mail) (i num a : Nat), Asks s i m → (asked s i m).exportOf num = none →
    exec (.surfaceRevoke i m num) s = .next ((asked s i m).mbAnswer i 0x48 m.seq m.tag St.exportUnknown [])
    ∧ exec (.surfaceImport i m num a) s = .next ((asked s i m).mbAnswer i 0x49 m.seq m.tag St.exportUnknown []))
  ∧ (∀ (s : State) (m : Mail) (i addr size reason offset samples stores depth : Nat) (colours : List Nat) (b : Bytes), Asks s i m →
    let u := asked s i m
    let w := u.instWorld i
    u.gread w (u.reg (Reg.s1Root i 8)) addr size = .ok b → (u.num (Num.pipes w)).length < u.reg Obj.pipelinesPerWorld →
    (reason ≠ 0 → exec (.shaderAdmit i m addr size reason offset samples stores depth colours) s
      = .next (u.mbAnswer i 0x4A m.seq m.tag St.shaderRefused (record [(1, reason), (4, offset)])))
    ∧ (reason = 0 → exec (.shaderAdmit i m addr size reason offset samples stores depth colours) s
      = .next (((u.tick.setNum (Num.pipe u.newPipe) (w :: 1 :: samples :: stores :: depth :: i :: colours)).setNum (Num.pipes w) (u.num (Num.pipes w) ++ [u.newPipe])).mbAnswer i 0x4A m.seq m.tag St.ok (leBytes 4 u.newPipe))))
  ∧ ∀ (s : State) (m : Mail) (i h : Nat), Asks s i m →
    let u := asked s i m
    let w := u.instWorld i
    ((u.num (Num.pipes w)).contains h = false → exec (.shaderRelease i m h) s = .next (u.mbAnswer i 0x4A m.seq m.tag St.pipelineUnknown []))
    ∧ ((u.num (Num.pipes w)).contains h = true → exec (.shaderRelease i m h) s
      = .next (((u.setNum (Num.pipe h) ((u.pipeOf h).take 1 ++ 4 :: (u.pipeOf h).drop 2)).setNum (Num.pipes w) ((u.num (Num.pipes w)).filter (· != h))).mbAnswer i 0x4A m.seq m.tag St.ok [])))

/-- R125, R135 to R138, R142, R518: the operations on an instance, its grants and its ends. An operation is answered with the status that InstOpStatus
reads; a grant that is lowered below what is held asks for it, and the reservation is cut at the first planning boundary after ResizeGraceMs; a quiesce
ends with its work or at its limit; a function-level reset and a link loss quiesce within 80 ms; a yield that has run its time returns. A limit acts
when its command comes (the model's choice, log 30). -/
def Obligations.InstanceOperations : Prop :=
  (∀ (s : State) (n i : Nat), Operates s n i →
    exec (.instEnable n i) s = .next (answered s n 2 (Obj.instOp i) (Inst.opAnswer (Inst.enable (s.heard n) n i).1 n i (Inst.enable (s.heard n) n i).2)))
  ∧ (∀ (s : State) (n i : Nat), Operates s n i →
    let u := s.heard n
    let busy := answered s n 2 (Obj.instOp i) (Inst.opAnswer u n i St.busy)
    (u.reg (Obj.instState i) = 1 →
      exec (.instQuiesce n i) s = .next (answered s n 2 (Obj.instOp i) (Inst.opAnswer (u.quiesceStart i n (u.reg Obj.quiesceLimitMs)) n i St.ok)))
    ∧ (u.reg (Obj.instState i) ≠ 1 → exec (.instQuiesce n i) s = .next busy)
    ∧ (u.reg (Obj.instState i) = 3 →
      exec (.instResume n i) s = .next (answered s n 2 (Obj.instOp i) (Inst.opAnswer ((List.range 8).foldl (fun s r => if s.reg (Reg.ringState i r) ≠ 4 then s
        else Inst.look (s.setReg (Reg.ringState i r) 2) i r) ((u.setReg (Obj.instState i) 1).worldDerive (u.instWorld i))) n i St.ok))
      ∧ exec (.instReset n i) s = .next (answered s n 2 (Obj.instOp i) (Inst.opAnswer (u.instReset i n (u.sessDest n)) n i St.ok))
      ∧ exec (.instRemove n i) s = .next (answered s n 2 (Obj.instOp i) (Inst.opAnswer (u.instRemove i n (u.sessDest n)) n i St.ok)))
    ∧ (u.reg (Obj.instState i) ≠ 3 → exec (.instResume n i) s = .next busy)
    ∧ (u.reg (Obj.instState i) = 1 ∨ u.reg (Obj.instState i) = 2 →
      exec (.instReset n i) s = .next (answered s n 2 (Obj.instOp i) (Inst.opAnswer u n i St.quiesceRequired))
      ∧ exec (.instRemove n i) s = .next (answered s n 2 (Obj.instOp i) (Inst.opAnswer u n i St.quiesceRequired)))
    ∧ (u.reg (Obj.instState i) = 0 ∨ 4 ≤ u.reg (Obj.instState i) → exec (.instReset n i) s = .next busy ∧ exec (.instRemove n i) s = .next busy))
  ∧ (∀ (s : State) (n i sub v : Nat), i ≤ 55 → 4 ≤ sub → sub ≤ 8 → Takes s n (okey (0x900 + i) sub) (leBytes (if sub = 8 then 2 else 4) v) →
    v < 2 ^ (8 * (if sub = 8 then 2 else 4)) →
    let lowered := Inst.lowers ((s.heard n).reg (okey (0x900 + i) sub)) sub v
    let u := ((s.heard n).setReg (okey (0x900 + i) sub) v).reply St.ok
    (u.reg (Obj.instState i) = 0 → exec (.grantWrite n i sub v) s = .next (answered s n 2 (okey (0x900 + i) sub) u))
    ∧ (u.reg (Obj.instState i) ≠ 0 → Inst.above u i sub = true → lowered = true →
      let x := if sub = 4 then u.setReg (Reg.resizeMem i) 1
        else u.setNum (Num.resizeCuts i) (u.num (Num.resizeCuts i) ++ [u.now + 1000000 * u.reg Obj.resizeGraceMs, sub, v])
      exec (.grantWrite n i sub v) s
        = .next (answered s n 2 (okey (0x900 + i) sub) (x.raise [.inst i] U.hal St.resizeRequest (x.instWorld i) 1 [(1, sub), (4, v)])))
    ∧ (u.reg (Obj.instState i) ≠ 0 → Inst.above u i sub = false ∨ lowered = false →
      exec (.grantWrite n i sub v) s = .next (answered s n 2 (okey (0x900 + i) sub) (if sub = 4 then u.memDerive (u.instWorld i) else u))))
  ∧ (∀ (s : State) (i : Nat), s.up = true →
    (s.now % 4000000 = 0 →
      exec (.resizeCut i) s = .next ((Inst.cutsDue s.now (s.num (Num.resizeCuts i))).1.foldl (Inst.cut i)
        (s.setNum (Num.resizeCuts i) (Inst.cutsDue s.now (s.num (Num.resizeCuts i))).2)))
    ∧ (s.now % 4000000 ≠ 0 → exec (.resizeCut i) s = .next s))
  ∧ (∀ (s : State) (i : Nat), s.up = true → s.reg (Obj.instState i) = 2 →
    (s.workEnded i = true → exec (.quiesceDone i) s = .next (s.quiesceEnd i))
    ∧ (s.reg (Reg.quiesceDue i) ≤ s.now → exec (.quiesceLimit i) s = .next ((s.dropItems (fun t => t.inst == i
        && !(decide (t.ring < 8) && s.reg (Reg.nimPass i t.ring) == 1 && s.reg (Reg.passItem i t.ring) == t.seq)) 4).quiesceEnd i)))
  ∧ (∀ (s : State) (i : Nat), s.up = true → i ≤ 31 →
    exec (.vfFlr i) s = .next (s.quiesceFor i 0 (min 80 (s.reg Obj.quiesceLimitMs))) ∧ exec (.vfLinkLoss i) s = .next (s.quiesceFor i 1 (min 80 (s.reg Obj.quiesceLimitMs))))
  ∧ ∀ (s : State) (w k : Nat), s.up = true →
    let fab := State.YieldBy.key .fab 2
    exec (.yieldDurationEnd w k) s = .next (if k = 2 ∧ s.reg (Reg.yieldAmt w fab) ≠ 0 ∧ s.reg (Reg.yieldEnd w fab) ≤ s.now then (s.yieldsOver w k).bulkYieldOf (· == w)
      else s.yieldsOver w k)

/-! ## Chapter 6: fabric and memory -/

/-- R98, R101 to R112, R122, R143 to R147: a write to a register of translation state by another world than 0 is refused and told, and one by world 0 is
done; an access of a debug session outside its scope is refused; an access of a world is translated byte by byte, and is carried out at the addresses
the walk gives or faults with what the walk met; one whose descriptor read meets an uncorrectable error faults and its row fails. R153, R161, R163: a
throttle that has run its time is renewed when enough further actions were attributed, else it ends; an idle row closes; a world whose traffic
concentrates on one channel in an interval is told, at most once a second, and the next interval counts from 0. What a host or hoist window answers
is free (log 5); memory that nothing has written reads 0 (log 4). -/
def Obligations.FabricAccesses : Prop :=
  ((∀ (s : State) (a : FabAccess), s.up = true → a.reg ≠ 0 → a.acc = 2 ∨ a.acc = 3 → Fab.world s a ≠ 0 →
    exec (.fabricAccess a) s = .next ((s.raise [.hal] a.unit St.xlatPermission (Fab.world s a) 3 []).reply St.xlatPermission))
  ∧ (∀ (s : State) (a : FabAccess), s.up = true → a.reg ≠ 0 → a.acc = 2 → Fab.world s a = 0 →
    exec (.fabricAccess a) s = .next ((s.setReg (Fab.protReg (a.reg - 1)) (leNat a.data)).reply St.ok))
  ∧ (∀ (s : State) (a : FabAccess), s.up = true → a.reg = 0 → a.dbg ≠ 0 → Fab.inScope s a = false →
    exec (.fabricAccess a) s = .next (s.reply St.debugScope))
  ∧ (∀ (s : State) (a : FabAccess), s.up = true → a.reg = 0 → (a.dbg = 0 ∨ (Fab.inScope s a = true ∧ a.dbgWorld ≠ 64)) → ¬ (42 ≤ a.req ∧ a.req < 46) →
    let w := Fab.world s a
    let u := if a.miss = true then (Fab.walkReads s w (Fab.root s a) a.va).foldl (Fab.descServe a w) s else s
    (∀ d, Fab.walkBad s a = some d → exec (.fabricAccess a) s = .next ((Fab.fault a s ⟨St.xlatWalkEcc, 2, d.level, d.walk, d.gsa⟩).failRow d.fpa))
    ∧ (∀ as, Fab.walkBad s a = none → s.xlateRange w (Fab.root s a) a.va (Fab.accOf a.acc) a.len = .ok as →
      exec (.fabricAccess a) s = .next (Fab.carry a as u))
    ∧ (∀ e, Fab.walkBad s a = none → s.xlateRange w (Fab.root s a) a.va (Fab.accOf a.acc) a.len = .error e →
      exec (.fabricAccess a) s = .next (Fab.fault a u e)))
  ∧ ∀ (s : State) (a : FabAccess), s.up = true → a.reg = 0 → a.dbg = 0 → 42 ≤ a.req → a.req < 46 →
    let as := (List.range a.len).map (· + a.va)
    (a.va + a.len ≤ 0x10000000000 → as.all (Fab.feedGrant s) = true → exec (.fabricAccess a) s = .next (Fab.carry a as s))
    ∧ (0x10000000000 < a.va + a.len ∨ as.all (Fab.feedGrant s) = false →
      exec (.fabricAccess a) s = .next ((s.raise [.hal] a.unit St.xlatPermission 0xFF 3 []).reply St.xlatPermission)))
  ∧ ((∀ (s : State) (c bank w r : Nat) (t : Throttle), s.up = true → s.throttleOf c bank w r = some t → t.until' ≤ s.now → s.reg Obj.throttleAfter ≤ t.further →
    s.now < t.raised + 1000000000 →
    exec (.throttleExpiry c bank w r) s = .next { s with throttles := s.throttles.map (fun x => if x = t then
      { t with until' := t.until' + 1000000 * s.reg Obj.throttleMs, further := 0 } else x) })
  ∧ (∀ (s : State) (c bank w r : Nat) (t : Throttle), s.up = true → s.throttleOf c bank w r = some t → t.until' ≤ s.now → s.reg Obj.throttleAfter ≤ t.further →
    t.raised + 1000000000 ≤ s.now →
    exec (.throttleExpiry c bank w r) s = .next (State.throttleEvent { s with throttles := s.throttles.map (fun x => if x = t then
      { t with until' := t.until' + 1000000 * s.reg Obj.throttleMs, further := 0, raised := s.now } else x) } c bank w r St.memRowThrottle 2))
  ∧ (∀ (s : State) (c bank w r : Nat) (t : Throttle), s.up = true → s.throttleOf c bank w r = some t → t.until' ≤ s.now → t.further < s.reg Obj.throttleAfter →
    exec (.throttleExpiry c bank w r) s = .next ((State.throttledFlag { s with throttles := s.throttles.filter (fun x => x != t) } r).throttleEvent c bank w r
      St.memThrottleEnd 1))
  ∧ (∀ (s : State) (c bank : Nat), s.up = true → s.reg (Reg.rowOpen (16 * c + bank)) ≠ 0 → s.reg (Reg.rowHitAt (16 * c + bank)) + s.reg (Obj.dramIdleCloseNs c) ≤ s.now →
    exec (.rowIdleClose c bank) s = .next (s.setReg (Reg.rowOpen (16 * c + bank)) 0))
  ∧ ∀ (s : State) (w : Nat), s.up = true →
    let total := ((List.range 16).map (fun c => s.reg (Reg.concBytes w c))).foldl (· + ·) 0
    let m := (List.range 16).foldl (fun (b : Nat × Nat) c => if b.2 < s.reg (Reg.concBytes w c) then (c, s.reg (Reg.concBytes w c)) else b) (0, 0)
    let u := (List.range 16).foldl (fun s c => s.setReg (Reg.concBytes w c) 0) (s.setReg (Reg.concWin w) (s.now / 10000000))
    (s.now / 10000000 ≤ s.reg (Reg.concWin w) → exec (.concentrationCheck w) s = .next s)
    ∧ (s.reg (Reg.concWin w) < s.now / 10000000 → exec (.concentrationCheck w) s = .next (
      if s.reg Obj.concentrationPct * total < 100 * m.2 ∧ s.reg Obj.concentrationMinMBps * 10000 < total
          ∧ (s.reg (Reg.concLast w) = 0 ∨ s.reg (Reg.concLast w) - 1 + 1000000000 ≤ s.now)
        then (u.setReg (Reg.concLast w) (s.now + 1)).raise [.world w, .hal] U.fab St.memConcentrated w 1 [(1, m.1), (1, 100 * m.2 / total)] else u)))

/-- R151, R165 to R170: drift beyond RetrainDriftC starts a retrain of the channel; it ends with what was measured, or failed to be tried again after 10
s; the patrol counts each corrected error of a protected frame and fails the row of an uncorrectable one. R148 to R150: a requester takes a class that
ClassesAllowed admits and no other; a reserved rate is written unless it is below what is in use or the sums exceed their limits. -/
def Obligations.RetrainAndClasses : Prop :=
  ((∀ (s : State) (c temp phy : Nat), s.up = true → c ≤ 15 → s.reg (Obj.dramChannelState c) = 1 →
    let u := s.setReg (Obj.dramTempC c) (temp % 256)
    (Fab.drifted u temp (u.reg (Reg.trainedTemp c)) || Fab.drifted u phy (u.reg (Reg.trainedPhy c))
      || decide (16 ≤ (u.num (Num.linkErr c)).countP (fun t => decide (u.now < t + 1000000000)))) = true →
    exec (.retrainStart c temp phy) s = .next (Fab.retrain u c).bulkYield)
  ∧ (∀ (s : State) (c eye temp phy : Nat), s.up = true → c ≤ 15 → s.reg (Obj.dramChannelState c) = 2 →
    let u := s.setRegs [(Obj.retrainingMask, clearBit (s.reg Obj.retrainingMask) c), (Obj.dramChannelState c, 1)]
    let next := fun (s : State) => match (List.range 16).find? (fun x => bit (s.reg Reg.retrainWait) x) with
      | some x => Fab.retrain s x
      | none => s
    exec (.retrainDone c true eye temp phy) s = .next (next (((u.setRegs [(Obj.dramEyeWidthPs c, eye), (Obj.dramLastTrainedAt c, u.now),
        (Reg.trainedTemp c, temp % 256), (Reg.trainedPhy c, phy % 256), (Obj.dramTempC c, temp % 256)]).bump (Obj.dramRetrainCount c) 32).raise [.hal] (U.dram c)
        St.memRetrainDone 0xFF 1 [(1, c)])).bulkYield
    ∧ exec (.retrainDone c false eye temp phy) s = .next (next ((u.setReg (Reg.retrainRetry c) (u.now + 10000000000)).raise [.hal] (U.dram c) St.memTrainFailed
        0xFF 2 [(1, c)])).bulkYield)
  ∧ (∀ (s : State) (c : Nat), s.up = true → c ≤ 15 → s.reg (Reg.retrainRetry c) ≠ 0 → s.reg (Reg.retrainRetry c) ≤ s.now → s.reg (Obj.dramChannelState c) = 1 →
    exec (.retrainRetry c) s = .next (Fab.retrain (s.setReg (Reg.retrainRetry c) 0) c).bulkYield)
  ∧ ∀ (s : State) (errs : List (Nat × Bool)), s.up = true → s.reg Reg.patrolAt = 0 ∨ s.reg Reg.patrolAt - 1 + 86400000000000 ≤ s.now →
    exec (.patrolScrub errs) s = .next (errs.foldl (fun s e =>
      if s.reg (Reg.frameMode (e.1 / frameBytes)) ≠ 2 then s
      else if e.2 then (s.raise [.hal] (U.dram (s.channelOf e.1)) St.memUncorrectable 0xFF 3 []).failRow e.1
      else s.correctedError e.1) (s.setReg Reg.patrolAt (s.now + 1))))
  ∧ ((∀ (s : State) (n r : Nat) (v : Bytes), Takes s n (Obj.reqClass r) v → bit ((s.heard n).reg (Obj.reqClassesAllowed r)) (leNat v) = true →
    exec (.classWrite n r v) s = .next (answered s n 2 (Obj.reqClass r) (((s.heard n).setReg (Obj.reqClass r) (leNat v)).reply St.ok)))
  ∧ (∀ (s : State) (n r : Nat) (v : Bytes), Takes s n (Obj.reqClass r) v → bit ((s.heard n).reg (Obj.reqClassesAllowed r)) (leNat v) = false →
    exec (.classWrite n r v) s = .next (answered s n 2 (Obj.reqClass r) ((s.heard n).reply St.memClassFixed)))
  ∧ (∀ (s : State) (n : Nat) (v : Bytes), Takes s n Obj.scanReservedMBps v →
    let u := s.heard n
    let total := ((u.worldReserves Reg.resBandwidth).map Prod.snd).foldl (· + ·) 0
    (u.deviceFetch u.reg ≤ leNat v * 1000000000 ∧ leNat v + u.reg Obj.rtReservedMBps + total ≤ 160000 ∧ leNat v + u.reg Obj.rtReservedMBps ≤ 151000 →
      exec (.reserveRateWrite n 4 v) s = .next (answered s n 2 Obj.scanReservedMBps (((u.setReg Obj.scanReservedMBps (leNat v)).bulkYield).reply St.ok)))
    ∧ (leNat v * 1000000000 < u.deviceFetch u.reg ∨ 160000 < leNat v + u.reg Obj.rtReservedMBps + total ∨ 151000 < leNat v + u.reg Obj.rtReservedMBps →
      exec (.reserveRateWrite n 4 v) s = .next (answered s n 2 Obj.scanReservedMBps (u.reply St.memReserveHeld))))
  ∧ ∀ (s : State) (n : Nat) (v : Bytes), Takes s n Obj.rtReservedMBps v →
    let u := s.heard n
    let total := ((u.worldReserves Reg.resBandwidth).map Prod.snd).foldl (· + ·) 0
    (u.rtDemand u.reg ≤ leNat v ∧ u.reg Obj.scanReservedMBps + leNat v + total ≤ 160000 ∧ u.reg Obj.scanReservedMBps + leNat v ≤ 151000 →
      exec (.reserveRateWrite n 5 v) s = .next (answered s n 2 Obj.rtReservedMBps (((u.setReg Obj.rtReservedMBps (leNat v)).bulkYield).reply St.ok)))
    ∧ (leNat v < u.rtDemand u.reg ∨ 160000 < u.reg Obj.scanReservedMBps + leNat v + total ∨ 151000 < u.reg Obj.scanReservedMBps + leNat v →
      exec (.reserveRateWrite n 5 v) s = .next (answered s n 2 Obj.rtReservedMBps (u.reply St.memReserveHeld))))

/-! ## Chapters 7 and 8: Nimbus -/

/-- R195, R202, R204 to R206, R211: the packets that both engines take. A NOP is passed over on every ring; a fence is signalled once the earlier items of
the context have ended, and waited for until its value is reached or its time has passed; a fence address that is not aligned to 8 stops the ring; a barrier
with bit 0 waits for the earlier items, one with bit 1 drops the L1s, and one with a reserved bit stops the ring; an invalidation waits for the earlier
items; an event is told with the packet's 12 bytes; a priority of 0 to 3 is taken, another stops the ring; a timestamp is written. R178, R202, R204, R208,
R217: a draw whose pass is open, whose bindings fit it and whose reads and shaders fault nowhere carries out its shaders' stores and queues its primitives
for binning; a dispatch outside a pass carries out its stores and is taken as a work item; a draw outside a pass and a dispatch inside one stop their ring
with PACKET_ORDER. What a shader stores and computes is an operand or free (log 5). -/
def Obligations.PacketsAndDraws : Prop :=
  ((∀ (s : State) (i r : Nat) (p : Pkt), Runs s i r 0x00 p ∨ (Holds s i r 0x00 p ∧ 4 ≤ r ∧ r ≤ 6) → exec (.nop i r) s = .next (s.ringDone i r p))
  ∧ (∀ (s t : State) (i r : Nat) (p : Pkt), Runs s i r 0x10 p → (Nim.earlier s i r).isEmpty = true →
    (p.dword 0 % 8 = 0 → s.fenceMax (s.instWorld i) (s.reg (Reg.s1Root i r)) (p.dword 0) (p.dword 2) = .ok t →
      exec (.fenceSignal i r) s = .next (t.ringDone i r p).fenceCheckAll)
    ∧ (p.dword 0 % 8 ≠ 0 → exec (.fenceSignal i r) s = .next (s.stopRing i r St.packetInvalid)))
  ∧ (∀ (s : State) (i r : Nat) (p : Pkt), Runs s i r 0x11 p → p.dword 0 % 8 ≠ 0 → exec (.fenceWait i r) s = .next (s.stopRing i r St.packetInvalid))
  ∧ (∀ (s : State) (i r v : Nat) (p : Pkt), Runs s i r 0x11 p → p.dword 0 % 8 = 0 → s.fenceRead (s.instWorld i) (s.reg (Reg.s1Root i r)) (p.dword 0) = .ok v →
    (p.dword 2 ≤ v → exec (.fenceWait i r) s = .next (s.ringDone i r p))
    ∧ (v < p.dword 2 → exec (.fenceWait i r) s = .next (s.setRegs [(Reg.nimWait i r, 1),
        (Reg.nimWaitDue i r, if s.reg Obj.fenceWaitTimeoutMs = 0 then 0 else s.now + 1000000 * s.reg Obj.fenceWaitTimeoutMs),
        (Reg.nimCur, if s.reg Reg.nimCur = 8 * i + r + 1 then 0 else s.reg Reg.nimCur)])))
  ∧ (∀ (s : State), s.up = true → exec .fenceReevaluate s = .next s.fenceCheckAll)
  ∧ (∀ (s : State) (i r : Nat), s.up = true → s.reg (Reg.nimWait i r) = 1 → s.reg (Reg.nimWaitDue i r) ≠ 0 → s.reg (Reg.nimWaitDue i r) ≤ s.now →
    exec (.fenceTimeout i r) s = .next (if (s.fenceCheck i r).reg (Reg.nimWait i r) = 1 then (s.fenceCheck i r).stopRing i r St.fenceTimeout else s.fenceCheck i r))
  ∧ (∀ (s : State) (i r : Nat) (p : Pkt), Runs s i r 0x12 p →
    (p.word 0 ≤ 3 → bit (p.word 0) 0 = false ∨ (Nim.earlier s i r).isEmpty = true → exec (.barrier i r) s = .next ((if bit (p.word 0) 1 then s.l1Drop else s).ringDone i r p))
    ∧ (p.word 0 ≤ 3 → bit (p.word 0) 0 = true → (Nim.earlier s i r).isEmpty = false → exec (.barrier i r) s = .next s)
    ∧ (3 < p.word 0 → exec (.barrier i r) s = .next (s.stopRing i r St.packetInvalid)))
  ∧ (∀ (s : State) (i r : Nat) (p : Pkt), Runs s i r 0x13 p → (Nim.earlier s i r).isEmpty = true → exec (.s1Invalidate i r) s = .next (s.ringDone i r p))
  ∧ (∀ (s : State) (i r : Nat) (p : Pkt), Runs s i r 0x14 p →
    exec (.event i r) s = .next ((s.raise [.inst i] U.nim St.ringEvent (s.instWorld i) 0 [(4, p.word 0), (4, p.word 1), (4, p.word 2)]).ringDone i r p))
  ∧ (∀ (s : State) (i r : Nat) (p : Pkt), Runs s i r 0x15 p →
    (p.word 0 ≤ 3 → exec (.priority i r) s = .next ((s.setReg (Reg.nimPrio i r) (p.word 0)).ringDone i r p))
    ∧ (3 < p.word 0 → exec (.priority i r) s = .next (s.stopRing i r St.packetInvalid)))
  ∧ ∀ (s t : State) (i r : Nat) (p : Pkt), Runs s i r 0x16 p → s.cwrite i r (p.dword 0) (leBytes 8 s.now) = .ok t →
    exec (.timestamp i r) s = .next (t.ringDone i r p))
  ∧ ((∀ (s t : State) (i r : Nat) (p : Pkt) (prims : List Prim) (run : ShaderRun) (desc : Bytes) (bs : List Bytes), Renders s i r 0x05 p →
    Draws s i r run [] desc bs t →
    exec (.draw i r prims run) s = .next (((Nim.queuePrims (t.ringTake i r p) i r (passDescOf desc).cols bs [prims]).binGo i r).lookAhead i r))
  ∧ (∀ (s t : State) (i r : Nat) (p : Pkt) (prims : List Prim) (run : ShaderRun) (desc : Bytes) (bs : List Bytes), Renders s i r 0x06 p →
    Draws s i r run [(p.dword 0 + (if p.word 6 / 0x40000000 = 1 then 4 else 2) * p.word 4, (if p.word 6 / 0x40000000 = 1 then 4 else 2) * p.word 2)] desc bs t →
    exec (.drawIndexed i r prims run) s = .next (((Nim.queuePrims (t.ringTake i r p) i r (passDescOf desc).cols bs [prims]).binGo i r).lookAhead i r))
  ∧ (∀ (s t : State) (i r : Nat) (p : Pkt) (draws : List (List Prim)) (run : ShaderRun) (desc : Bytes) (bs : List Bytes), Renders s i r 0x07 p →
    Draws s i r run ((List.range (p.word 2)).map (fun n => (p.dword 0 + n * p.word 3, 16))) desc bs t →
    exec (.drawIndirect i r draws run) s = .next (((Nim.queuePrims (t.ringTake i r p) i r (passDescOf desc).cols bs draws).binGo i r).lookAhead i r))
  ∧ (∀ (s : State) (i r : Nat) (p : Pkt) (prims : List Prim) (draws : List (List Prim)) (run : ShaderRun), s.reg (Reg.nimPass i r) = 0 →
    (Renders s i r 0x05 p → exec (.draw i r prims run) s = .next (s.stopRing i r St.packetOrder))
    ∧ (Renders s i r 0x06 p → exec (.drawIndexed i r prims run) s = .next (s.stopRing i r St.packetOrder))
    ∧ (Renders s i r 0x07 p → exec (.drawIndirect i r draws run) s = .next (s.stopRing i r St.packetOrder)))
  ∧ (∀ (s t : State) (i r : Nat) (p : Pkt) (run : ShaderRun) (bs : List Bytes), Renders s i r 0x08 p → Dispatches s i r p run [] bs t →
    exec (.dispatch i r run) s = .next ((t.itemAccept U.nim (t.instWorld i) i r (t.reg (Reg.ringRptr i r)) 0x08 (if p.safe then classR else classD) 0
      [(4, t.reg (Reg.nimPipe i r) - 1), (8, t.reg (Reg.nimState i r) - 1)]).ringDone i r p))
  ∧ (∀ (s t : State) (i r : Nat) (p : Pkt) (run : ShaderRun) (bs : List Bytes), Renders s i r 0x09 p → Dispatches s i r p run [(p.dword 0, 12)] bs t →
    exec (.dispatchIndirect i r run) s = .next ((t.itemAccept U.nim (t.instWorld i) i r (t.reg (Reg.ringRptr i r)) 0x09 (if p.safe then classR else classD) 0
      [(4, t.reg (Reg.nimPipe i r) - 1), (8, t.reg (Reg.nimState i r) - 1)]).ringDone i r p))
  ∧ ∀ (s : State) (i r : Nat) (p : Pkt) (run : ShaderRun), s.reg (Reg.nimPass i r) = 1 →
    (Renders s i r 0x08 p → exec (.dispatch i r run) s = .next (s.stopRing i r St.packetOrder))
    ∧ (Renders s i r 0x09 p → exec (.dispatchIndirect i r run) s = .next (s.stopRing i r St.packetOrder)))

/-- R175 to R177, R187, R195, R198, R202, R209, R215 to R217: the renderer's passes and what they bind. A pass opens on a descriptor that passes its checks,
with an empty bin directory and, unless it runs again, its item taken; it ends with its last segment's stores, and either boundary drops the L1s; a pipeline
of the world that is ready is bound, one that still compiles is waited for; an aligned state block is bound, another stops the ring; a clear is noted for
its attachment; a query begins with a count of 0 and ends with its count written; a flattening context presents a surface that is usable, and stops on
another. Samples that an occlusion query counts are a free value, as are rendered pixels (log 5). -/
def Obligations.RendererPasses : Prop :=
  (∀ (s u : State) (i r : Nat) (p : Pkt) (desc : Bytes) (as : List Attach) (ext : List (Nat × Nat × Nat)), Renders s i r 0x01 p → s.reg (Reg.nimPass i r) ≠ 1 →
    s.mayTake (s.rank45 i r) = true → s.cread i r (p.dword 0) 256 = .ok desc →
    let d := passDescOf desc
    State.passHead d (p.dword 0) = St.ok → s.attachments i r desc = .ok as → State.passAttach d as = St.ok → s.extTable i r d.ext (List.range 16) = .ok ext →
    s.passRest i r d as ext p.safe = St.ok → s.cfill i r d.dir State.emptyEntry d.tiles = .ok u →
    let old := Nim.replayed u i r
    let v := u.setRegs [(Reg.passItem i r, match old with | some t => t.seq | none => u.jnlSeq), (Reg.nimPass i r, 1), (Reg.passNum i r, p.word 2),
      (Reg.passDesc i r, p.dword 0), (Reg.passSafe i r, b2n p.safe), (Reg.passFlat i r, b2n (bit d.flags 1)), (Reg.passTiles i r, d.tiles),
      (Reg.passMeta i r, 0), (Reg.nimQuery i r, 0)]
    let v := (((v.segmentOpen i r 0).setNum (Num.pool i r) [d.pool, 1024 * d.poolSize]).poolPeak i r).l1Drop
    exec (.passBegin i r) s = .next ((if old.isSome then v else v.itemAccept U.nim (v.instWorld i) i r (v.reg (Reg.ringRptr i r)) 0x01
      (if p.safe then classR else classD) (p.word 2) [(4, v.reg (Reg.nimPipe i r) - 1), (8, v.reg (Reg.nimState i r) - 1)]).ringDone i r p))
  ∧ (∀ (s t : State) (i r : Nat) (p : Pkt) (d : PassDesc) (as : List Attach), Renders s i r 0x02 p → s.reg (Reg.nimPass i r) ≠ 0 → s.passParts i r = .ok (d, as) →
    s.passStores i r d as = .ok t → exec (.passEnd i r) s = .next ((((t.passClear i r).l1Drop).ringDone i r p).boundary 0x600))
  ∧ (∀ (s : State) (i r : Nat) (p : Pkt), Renders s i r 0x02 p → s.reg (Reg.nimPass i r) = 0 → exec (.passEnd i r) s = .next (s.stopRing i r St.packetOrder))
  ∧ (∀ (s : State) (i r : Nat) (p : Pkt), Renders s i r 0x03 p → (s.pipeOf (p.word 0)).isEmpty = false → (s.pipeOf (p.word 0)).getD 0 0 = s.instWorld i →
    ((s.pipeOf (p.word 0)).getD 1 0 = 2 → exec (.bindPipeline i r) s = .next ((s.setRegs [(Reg.nimWait i r, 0), (Reg.nimPipe i r, p.word 0 + 1)]).ringDone i r p))
    ∧ ((s.pipeOf (p.word 0)).getD 1 0 = 1 → exec (.bindPipeline i r) s = .next ((s.setReg (Reg.nimWait i r) 2).setReg Reg.nimCur 0)))
  ∧ (∀ (s : State) (i r : Nat) (p : Pkt), Renders s i r 0x04 p →
    (p.dword 0 % 256 = 0 → exec (.bindState i r) s = .next ((s.setReg (Reg.nimState i r) (p.dword 0 + 1)).ringDone i r p))
    ∧ (p.dword 0 % 256 ≠ 0 → exec (.bindState i r) s = .next (s.stopRing i r St.packetInvalid)))
  ∧ (∀ (s : State) (i r : Nat) (p : Pkt), Renders s i r 0x0A p →
    (s.reg (Reg.nimPass i r) ≠ 0 → bits (p.word 0) 0 8 ≤ 8 → exec (.clear i r) s = .next ((s.setNum (Num.clears i r) (s.num (Num.clears i r)
      ++ [bits (p.word 0) 0 8, bits (p.word 0) 8 1, bits (p.word 1) 0 16, bits (p.word 1) 16 16, bits (p.word 2) 0 16, bits (p.word 2) 16 16,
      s.reg (Reg.poolNext i r)])).ringDone i r p))
    ∧ (s.reg (Reg.nimPass i r) ≠ 0 → 8 < bits (p.word 0) 0 8 → exec (.clear i r) s = .next (s.stopRing i r St.packetInvalid))
    ∧ (s.reg (Reg.nimPass i r) = 0 → exec (.clear i r) s = .next (s.stopRing i r St.packetOrder)))
  ∧ (∀ (s : State) (i r : Nat) (p : Pkt), Renders s i r 0x0B p → s.reg (Reg.nimPass i r) ≠ 0 → s.reg (Reg.nimQuery i r) = 0 →
    (p.word 2 = 1 ∨ p.word 2 = 2 → exec (.queryBegin i r) s = .next ((s.setRegs [(Reg.nimQuery i r, p.dword 0 + 1), (Reg.nimQueryKind i r, p.word 2),
      (Reg.nimQueryCount i r, 0)]).ringDone i r p))
    ∧ (p.word 2 = 0 ∨ 2 < p.word 2 → exec (.queryBegin i r) s = .next (s.stopRing i r St.packetInvalid)))
  ∧ (∀ (s t : State) (i r : Nat) (p : Pkt), Renders s i r 0x0C p → s.reg (Reg.nimQuery i r) ≠ 0 → s.reg (Reg.nimQueryKind i r) = 1 →
    s.tick.cwrite i r (s.reg (Reg.nimQuery i r) - 1) (leBytes 8 s.fresh) = .ok t →
    exec (.queryEnd i r) s = .next ((t.setReg (Reg.nimQuery i r) 0).ringDone i r p))
  ∧ (∀ (s t : State) (i r : Nat) (p : Pkt), Renders s i r 0x0C p → s.reg (Reg.nimQuery i r) ≠ 0 → s.reg (Reg.nimQueryKind i r) ≠ 1 →
    s.cwrite i r (s.reg (Reg.nimQuery i r) - 1) (leBytes 8 (s.reg (Reg.nimQueryCount i r))) = .ok t →
    exec (.queryEnd i r) s = .next ((t.setReg (Reg.nimQuery i r) 0).ringDone i r p))
  ∧ ∀ (s : State) (i r : Nat) (p : Pkt) (f : Surf), Renders s i r 0x30 p → 0x3F8 ≤ s.reg (Reg.ringCtx i r) → s.reg (Reg.nimPass i r) ≠ 1 → (Nim.earlier s i r).isEmpty = true →
    s.surfAt i r (p.dword 0) = .ok f →
    (s.flatUsable i r (s.reg (Reg.ringCtx i r) - 0x3F8) f = true →
      exec (.flattenPresent i r) s = .next ((s.flatPresent (s.reg (Reg.ringCtx i r) - 0x3F8) i r (p.dword 0) (p.word 2)).ringDone i r p))
    ∧ (s.flatUsable i r (s.reg (Reg.ringCtx i r) - 0x3F8) f = false → exec (.flattenPresent i r) s = .next (s.stopRing i r St.flattenSurface))

/-- R190, R191, R198, R217: the copy engine carries a copy or fill out and takes it as a work item; a copy marked safe to replay whose ranges overlap
stops its ring; what a copy between overlapping ranges writes otherwise is free (log 5). R181 to R185, R201, R207, R209, R211, R212, R432: bin faults, compiled
pipelines and the choice of contexts. A full pool acts on the extension table, and a doorbell or the end of the wait reads it again; a compiled pipeline is
told and the contexts that wait for it go on or stop; the contexts are chosen anew after steps are counted, at the end of a slice, on preemption outside the
fragment phase, and when the tiles in progress have been saved; a lost cluster is told and the reservations yield in proportion; a completed item ends. -/
def Obligations.CopiesAndEvents : Prop :=
  ((∀ (s t : State) (i : Nat) (p : Pkt), Safety.Copies s i 0x20 p → s.mayTake (s.rank45 i 7) = true →
    (Nim.overlap (p.dword 0) (p.dword 2) (p.dword 4) = false → State.copyBytes i 7 (p.dword 0) (p.dword 2) none (p.dword 4) s = (t, none) →
      exec (.copyBuffer i 7) s = .next ((Nim.accept t i 7 p).ringDone i 7 p))
    ∧ (Nim.overlap (p.dword 0) (p.dword 2) (p.dword 4) = true → p.safe = false →
      State.copyBytes i 7 (p.dword 0) (p.dword 2) (some s.fresh) (p.dword 4) s.tick = (t, none) → exec (.copyBuffer i 7) s = .next ((Nim.accept t i 7 p).ringDone i 7 p))
    ∧ (Nim.overlap (p.dword 0) (p.dword 2) (p.dword 4) = true → p.safe = true → exec (.copyBuffer i 7) s = .next (s.stopRing i 7 St.replayMarkInvalid)))
  ∧ (∀ (s t : State) (i : Nat) (p : Pkt) (f g : Surf), Safety.Copies s i 0x21 p → s.mayTake (s.rank45 i 7) = true → s.surfAt i 7 (p.dword 0) = .ok f →
    s.surfAt i 7 (p.dword 2) = .ok g → f.status false true = St.ok → g.status false true = St.ok →
    let x := bits (p.word 4) 0 16
    let y := bits (p.word 4) 16 16
    let w := bits (p.word 5) 0 16
    let h := bits (p.word 5) 16 16
    let sel := fun n => (bits (p.word n) 0 8, bits (p.word n) 8 8, bits (p.word n) 16 8)
    let fits := fun (q : Surf) (l : Nat × Nat × Nat) => decide (l.1 < q.levels) && decide (l.2.1 < max 1 q.layers) && decide (l.2.2 < q.samples)
      && decide (x + w ≤ (q.levelSize l.1).1) && decide (y + h ≤ (q.levelSize l.1).2)
    (f.bytes = g.bytes → fits f (sel 6) = true → fits g (sel 7) = true → ¬ (p.safe = true ∧ Nim.overlap f.base g.base (max f.span g.span) = true) →
      State.copyTexels i 7 f g (sel 6) (sel 7) ((List.range h).flatMap (fun dy => (List.range w).map (fun dx => (x + dx, y + dy))))
        (s.setReg (Reg.passMeta i 7) 0) = (t, none) →
      exec (.copySurface i 7) s = .next ((Nim.accept t i 7 p).ringDone i 7 p))
    ∧ (f.bytes ≠ g.bytes → exec (.copySurface i 7) s = .next (s.stopRing i 7 St.packetInvalid)))
  ∧ ∀ (s t : State) (i : Nat) (p : Pkt), Safety.Copies s i 0x22 p → s.mayTake (s.rank45 i 7) = true →
    State.fillBytes i 7 (p.dword 0) (p.word 4) (p.dword 2) 0 s = (t, none) → exec (.fill i 7) s = .next ((Nim.accept t i 7 p).ringDone i 7 p))
  ∧ ((∀ (s : State) (i r : Nat), s.up = true → s.reg (Reg.nimPass i r) = 1 →
    (s.reg (Reg.nimWait i r) = 0 → s.fifo (Fifo.prims i r) ≠ [] → s.reg Reg.nimCur = 8 * i + r + 1 → exec (.binPoolFull i r) s = .next (s.poolFull i r))
    ∧ (s.reg (Reg.nimWait i r) = 3 → exec (.extensionReread i r) s = .next (s.extReread i r false))
    ∧ (s.reg (Reg.nimWait i r) = 3 → s.reg (Reg.nimWaitDue i r) ≤ s.now →
      exec (.binFaultTimeout i r) s = .next (s.extReread i r true)))
  ∧ (∀ (s : State) (h w reason offset : Nat) (rest : List Nat), s.up = true → s.pipeOf h = w :: 1 :: rest →
    (reason = 0 → exec (.pipelineCompiled h reason offset) s
      = .next (State.nimRings.foldl (Nim.goesOn h reason) ((s.setNum (Num.pipe h) (w :: 2 :: rest)).raise [.inst (rest.getD 3 0)] U.nim St.pipelineReady w 0 [(4, h)])))
    ∧ (reason ≠ 0 → exec (.pipelineCompiled h reason offset) s
      = .next (State.nimRings.foldl (Nim.goesOn h reason) (((s.setNum (Num.pipe h) (w :: 3 :: rest)).setNum (Num.pipes w) (((s.setNum (Num.pipe h) (w :: 3 :: rest)).num (Num.pipes w)).filter
        (· != h))).raise [.inst (rest.getD 3 0)] U.nim St.pipelineRefused w 2 [(4, h), (1, reason), (4, offset)]))))
  ∧ (∀ (s : State) (steps : Nat), s.up = true → s.reg Reg.nimCur ≠ 0 →
    let c := s.reg Reg.nimCur - 1
    exec (.contextSchedule steps) s = .next (((if s.isFlat c = true then s.flatUse (s.reg (Reg.ringCtx (c / 8) (c % 8)) - 0x3F8) steps
      else s.nimUse (s.instWorld (c / 8)) steps).count (488 + 4 * (c / 8)) steps).preempted.nimSchedule))
  ∧ (∀ (s : State) (steps : Nat), s.up = true → s.reg Reg.nimCur = 0 → exec (.contextSchedule steps) s = .next s.preempted.nimSchedule)
  ∧ (∀ (s : State) (phase : Nat) (tiles : List Nat), s.up = true → s.reg Reg.nimCur ≠ 0 →
    (phase = 1 → tiles ≠ [] → exec (.preemptRequest phase tiles) s = .next ((s.setReg Reg.nimPreemptAt (s.now + 1)).setNum
      (Num.tiles ((s.reg Reg.nimCur - 1) / 8) ((s.reg Reg.nimCur - 1) % 8)) tiles))
    ∧ (phase ≠ 1 ∨ tiles = [] → exec (.preemptRequest phase tiles) s = .next (if s.preempted.nimSchedule.reg Reg.nimCur = s.reg Reg.nimCur - 1 + 1 then s.preempted.nimSchedule
        else s.preempted.nimSchedule.count 228 1)))
  ∧ (∀ (s t : State) (saved : List (Nat × Nat)) (d : PassDesc) (as : List Attach), s.up = true → s.reg Reg.nimCur ≠ 0 → s.reg Reg.nimPreemptAt ≠ 0 →
    let i := (s.reg Reg.nimCur - 1) / 8
    let r := (s.reg Reg.nimCur - 1) % 8
    let kept := saved.filter (fun t => (s.num (Num.tiles i r)).contains t.1)
    s.preempted.passParts i r = .ok (d, as) →
    s.preempted.renderTiles i r d as (fun _ => State.flushPlan) (fun t => (kept.find? (fun p => p.1 == t)).map Prod.snd) (kept.map Prod.fst).zipIdx = .ok t →
    let older := (State.tileItems.savedOf (t.num (Num.saved i r))).filter (fun p => !(kept.map Prod.fst).contains p.1)
    exec (.tileGraceExpiry saved) s
      = .next ((t.setNum (Num.saved i r) (kept.flatMap (fun t => [t.1, t.2]) ++ older.flatMap (fun t => [t.1, t.2]))).nimSchedule.count 228 1))
  ∧ (∀ (s : State), s.up = true → s.reg Reg.nimCur ≠ 0 → s.reg Reg.nimSince + 1000 * s.reg Obj.timeSliceUs ≤ s.now → exec .timeSliceExpiry s = .next s.nimSchedule)
  ∧ (∀ (s : State) (c : Nat), s.up = true → c < 24 → s.reg (Reg.unitState (U.cluster c)) ≠ 5 →
    let u := (s.setUnitState (U.cluster c) 5).setReg Obj.clustersAlive (s.reg Obj.clustersAlive - 1)
    let u := u.raise [.hal, .owner] U.nim St.clusterLost 0xFF 3 [(1, c)]
    exec (.clusterLost c) s = .next (u.yieldProportion U.nim .cluster 1 (u.nimRate - u.flattenDemand u.reg) 0xFFFFFFFF Reg.resRenderer))
  ∧ ∀ (s : State) (i r : Nat) (t : Item) (l : List Item), s.up = true → rendererRing r = true → Nim.earlier s i r = t :: l →
    exec (.workItemComplete i r) s = .next (s.itemEnd t St.ok))

/-! ## Chapters 9 and 10: composition, heads, scan-out -/

/-- R228 to R233, R259, R260: a commit line counts its frame and applies what is due on its head; a flip joins its head's open group; a group that passes
its checks whole takes an epoch and replaces a pending one, a refused one changes no layer; a cancelled group, or one whose acquire fences did not
signal in time, is dropped; the release fence of a surface is signalled after its last fetch. The payload of FLIP_REFUSED is the model's (log 14), as
are the destinations of head events (log 12). -/
def Obligations.Composition : Prop :=
  (∀ (s : State) (n : Nat) (trim : Int), s.up = true → n < 8 → s.reg (Obj.portMode n) ≠ 3 → s.reg (Reg.portReset (U.head n)) ≠ 1 → s.holdupStopped (U.head n) = false →
    let u := ((s.bump (Obj.headFrame n) 32).setReg (Reg.lineAt n) (s.now + 1)).count (280 + 8 * n) 1
    let u := u.count (347 + 4 * n) ((List.range 16).countP (fun k => u.reg (Obj.sigRegionKind n k) != 0 && u.reg (Obj.sigRegionCheck n k) == 4))
    let v := u.linePixels n
    exec (.headCommitLine n trim) s = .next (if v.reg (Obj.portMode n) = 3 then v else Line.stratus (Line.lock v n trim) n (Line.changes u v n)))
  ∧ (∀ (s : State) (i : Nat) (p : Pkt), Holds s i 4 0x50 p →
    let n := bits (p.word 0) 0 8
    let l := bits (p.word 0) 8 8
    (n ≤ 7 → p.word 0 < 0x10000 → exec (.flipLayer i) s = .next ((s.setFifo (Fifo.flipOpen i n) ((s.fifo (Fifo.flipOpen i n)).filter (fun x => Flip.layer x != l)
      ++ [Flip.mk l (p.dword 1) (p.dword 3) (p.dword 5) (p.dword 7) (p.dword 9)])).ringDone i 4 p))
    ∧ (7 < n ∨ 0x10000 ≤ p.word 0 → exec (.flipLayer i) s = .next (s.stopRing i 4 St.compPacketInvalid)))
  ∧ (∀ (s : State) (i : Nat) (p : Pkt), Holds s i 4 0x51 p →
    let n := p.word 0
    let g := s.fifo (Fifo.flipOpen i n)
    let u := s.setFifo (Fifo.flipOpen i n) []
    (7 < n → exec (.flipCommit i) s = .next (s.stopRing i 4 St.compPacketInvalid))
    ∧ (n ≤ 7 → g.isEmpty = true → exec (.flipCommit i) s = .next (u.ringDone i 4 p))
    ∧ (∀ l reason, n ≤ 7 → g.isEmpty = false → u.flipRefusal i n g = some (l, reason) → exec (.flipCommit i) s = .next ((u.flipRefuse i n g l reason 0).ringDone i 4 p))
    ∧ (n ≤ 7 → g.isEmpty = false → u.flipRefusal i n g = none →
      let w := s.instWorld i
      let v := u.takeEpoch
      let ep := v.reg Obj.lastEpoch
      let v := v.flipDrop w n St.commitSuperseded 1 [(4, v.reg (Reg.flipEpoch w n)), (4, ep)]
      exec (.flipCommit i) s = .next ((((v.setFifo (Fifo.flipPend w n) g).setRegs [(Reg.flipEpoch w n, ep), (Reg.flipAt w n, v.now), (Reg.flipInst w n, i)]).wakeLink
        n).ringDone i 4 p)))
  ∧ (∀ (s : State) (i : Nat) (p : Pkt), Holds s i 4 0x52 p →
    (p.word 0 ≤ 7 → exec (.flipCancel i) s = .next ((s.flipDrop (s.instWorld i) (p.word 0) St.commitCancelled 1
      [(4, s.reg (Reg.flipEpoch (s.instWorld i) (p.word 0)))]).ringDone i 4 p))
    ∧ (7 < p.word 0 → exec (.flipCancel i) s = .next (s.stopRing i 4 St.compPacketInvalid)))
  ∧ (∀ (s : State) (w n : Nat), s.up = true → s.reg (Reg.flipEpoch w n) ≠ 0 → s.reg (Obj.acquireTimeoutMs n) ≠ 0 → s.reg (Reg.flipAt w n) + 1000000 * s.reg (Obj.acquireTimeoutMs n) ≤ s.now →
    exec (.acquireTimeout w n) s = .next (s.flipDrop w n St.commitVoid 2 [(4, s.reg (Reg.flipEpoch w n)), (2, St.acquireTimeout), (1, 1)]))
  ∧ ∀ (s : State) (n l : Nat), s.up = true → s.reg (Reg.oldRelease n l) ≠ 0 →
    exec (.lastFetchComplete n l) s = .next ((s.signalFence (s.reg (Reg.oldReleaseInst n l)) 4 (s.reg (Reg.oldRelease n l) - 1) (s.reg (Reg.oldReleaseVal n l))).setReg
      (Reg.oldRelease n l) 0)

/-- R262, R267 to R269, R272, R273, R278, R279: a transmitter port. A panel that is plugged is counted and told; its sink is read when HPD has been
stable; training ends at its outcome, is tried again after its time, or leaves the port dark; an HPD interrupt with a lost lock trains again; a panel
unplugged darkens its port; a link that woke is on; the HPD of port B in single mode is ignored. A wait acts when its command comes (the model's choice, log 30). -/
def Obligations.TransmitterPorts : Prop :=
  (∀ (s : State) (p : Nat), s.up = true → p ≤ 15 → s.reg (Reg.hpd p) ≠ 1 →
    let u := ((s.setReg (Reg.hpd p) 1).bump (Obj.hpdEvents p) 32).portEvent p St.panelPlugged 1 []
    exec (.hpdRise p) s = .next (if s.hpdIgnored p = true then s.setReg (Reg.hpd p) 1
      else if (Head.portsOf u.reg (p / 2)).contains p = true ∧ 2 ≤ u.reg (Reg.panelStage (p / 2)) then u.startLink p else u))
  ∧ (∀ (s : State) (p kind caps su : Nat) (edid : Bytes) (slices : Bool), s.up = true → s.reg (Obj.portState p) = 1 → s.reg (Reg.hpdDue p) ≠ 0 → s.reg (Reg.hpdDue p) ≤ s.now →
    exec (.hpdWaitEnd p kind caps su edid slices) s = .next (s.setRegs [(Reg.hpdDue p, 0), (Obj.sinkKind p, kind), (Obj.sinkCaps p, caps), (Obj.suGranularity p, su),
      (Obj.sinkEdid p, encDomain (edid.take 512)), (Reg.dscSlices p, b2n slices), (Obj.portState p, 2)]))
  ∧ (∀ (s : State) (p lanes rate : Nat), s.up = true → s.reg (Obj.portState p) = 2 → s.reg (Reg.litNext p) ≠ 1 → s.reg (Reg.trainHeld p) ≠ 1 →
    let o := Hd.outcome s p lanes rate
    let u := s.setRegs [(Obj.trainOutcome p, o), (Obj.trainedLanes p, lanes), (Obj.trainedRateMbps p, rate), (Reg.trainRetry p, 0)]
    (o ≤ 1 → exec (.linkTrained p lanes rate) s
      = .next (Hd.ready ((u.setReg (Reg.trainStep p) 0).portEvent p St.linkTrained (if o = 0 then 1 else 2) [(1, o), (1, lanes), (2, rate)]) p o))
    ∧ (o = 2 ∨ o = 3 → exec (.linkTrained p lanes rate) s = .next ((Hd.failed u p).portEvent p St.panelMismatch 3 [(1, o)]))
    ∧ (3 < o → exec (.linkTrained p lanes rate) s
      = .next ((Hd.failed u p).setReg (Reg.trainRetry p) (u.now + 1000000000 * State.retrySeconds (u.reg (Reg.trainStep p))))))
  ∧ (∀ (s : State) (p : Nat), s.up = true → s.reg (Obj.portState p) = 4 → s.reg (Reg.hpd p) ≠ 0 → s.reg (Reg.trainRetry p) ≠ 0 → s.reg (Reg.trainRetry p) ≤ s.now →
    exec (.trainRetry p) s = .next ((s.bump (Obj.retrains p) 32).setRegs [(Obj.portState p, 2), (Reg.trainStep p, s.reg (Reg.trainStep p) + 1), (Reg.trainRetry p, 0)]))
  ∧ (∀ (s : State) (p : Nat) (lost psrError : Bool), s.up = true → s.reg (Reg.hpd p) ≠ 0 →
    let u := s.bump (Obj.hpdEvents p) 32
    let u := if psrError = true ∧ u.reg (Obj.sinkKind p) = 2 ∧ u.reg (Obj.stratusState (p / 2)) ≠ 0 then u.setReg (Reg.stratusErr (p / 2)) 1 else u
    exec (.irqHpd p lost psrError) s = .next (if s.hpdIgnored p = true then s
      else if lost = true ∧ (u.reg (Obj.portState p) = 3 ∨ u.reg (Reg.litNext p) = 1 ∨ u.reg (Reg.trainHeld p) = 1) then
      Hd.retrain (u.portEvent p St.linkLost0814 2 []) p 5 else u))
  ∧ (∀ (s : State) (p : Nat), s.up = true → s.reg (Reg.hpd p) ≠ 0 →
    let u := (s.bump (Obj.hpdEvents p) 32).setRegs [(Reg.hpd p, 0), (Obj.portState p, 0), (Reg.litNext p, 0), (Reg.trainHeld p, 0), (Reg.trainRetry p, 0), (Reg.hpdDue p, 0),
      (Obj.sinkKind p, 0), (Obj.sinkCaps p, 0)]
    let u := if u.reg (Reg.trainHeld (Hd.partner p)) = 1 then u.setRegs [(Reg.trainHeld (Hd.partner p), 0), (Reg.litNext (Hd.partner p), 1)] else u
    let u := u.portEvent p St.panelUnplugged 2 []
    exec (.panelUnplugged p) s = .next (if s.hpdIgnored p = true then s.setRegs [(Reg.hpd p, 0), (Obj.sinkKind p, 0), (Obj.sinkCaps p, 0)]
      else if (Head.portsOf u.reg (p / 2)).contains p = true then u.darkCheck (p / 2) (s.litPorts (p / 2)) 1 else u))
  ∧ ∀ (s : State) (n : Nat), s.up = true → s.reg (Reg.linkWaking n) ≠ 0 → exec (.linkWakeDone n) s = .next (s.setRegs [(Reg.linkWaking n, 0), (Reg.linkOff n, 0)])

/-- R274 to R277: a panel. A tearing-effect edge counts, reaches the head's core and ends a loss, which two frame periods without one raise; the panel
comes on and goes off by its delays; a panel fault darkens its head until the input is released. R281 to R284: a receiver. Link training is followed;
a frame of its layer's size goes into the next of three buffers, one that waits is counted dropped; a frame of another size is told and the layer is
black; a lost signal is told, and the layer is black when RxHoldMs has passed. A delay acts when its command comes (the model's choice, log 30); the
destinations of head events are the model's reading (log 12). -/
def Obligations.PanelsAndReceivers : Prop :=
  ((∀ (s : State) (n : Nat) (level : Bool), s.up = true → n ≤ 7 → s.reg (Reg.portReset (U.head n)) ≠ 1 → s.reg (Obj.teUse n) = 1 ∨ s.reg (Obj.teUse n) = 2 →
    level ≠ (s.reg (Obj.teEdge n) == 1) →
    let seen := s.reg (Obj.teCount n) != 0 && s.reg (Reg.teLost n) == 0
    let u := s.bump (Obj.teCount n) 32
    let u := (u.setRegs [(Obj.teLastTime n, s.now), (Reg.tePeriod n, if seen then s.now - s.reg (Obj.teLastTime n) else s.reg (Reg.tePeriod n))]).coreEvent n 4 (b2n level)
    exec (.teEdge n level) s = .next (if u.reg (Obj.teUse n) = 2 ∧ u.reg (Reg.teLost n) = 1 then (u.setReg (Reg.teLost n) 0).headEvent n St.teBack 1 [] else u))
  ∧ (∀ (s : State) (n : Nat), s.up = true → s.reg (Obj.teUse n) = 2 → s.reg (Reg.teLost n) ≠ 1 →
    1000 * s.reg (Obj.teLastTime n) + 2 * Head.periodPs s.reg n * (1 + s.reg (Reg.shedSlowed n)) ≤ 1000 * s.now →
    exec (.teLost n) s = .next ((s.setRegs [(Reg.teLost n, 1), (Reg.tePeriod n, 0)]).headEvent n St.teLost 2 []))
  ∧ (∀ (s : State) (n : Nat), s.up = true → s.reg (Reg.panelDue n) ≤ s.now →
    (s.reg (Reg.panelStage n) = 1 → exec (.panelOnDelayEnd n) s = .next ((Head.portsOf s.reg n).foldl
      (fun s p => if s.reg (Reg.hpd p) = 1 then s.startLink p else s) (s.setRegs [(Reg.panelStage n, 2), (Reg.panelDue n, 0)])))
    ∧ (s.reg (Reg.panelStage n) = 6 → exec (.panelOnDelayEnd n) s = .next (s.setRegs [(Reg.panelStage n, 0), (Reg.panelDue n, 0), (Obj.panelEnableOut n, 0)]))
    ∧ (s.reg (Reg.panelStage n) = 3 → exec (.backlightDelayEnd n) s = .next ((s.setRegs [(Reg.panelStage n, 4), (Reg.panelDue n, 0)]).dimDerive n))
    ∧ (s.reg (Reg.panelStage n) = 5 → exec (.backlightDelayEnd n) s
      = .next (s.setRegs [(Reg.panelStage n, 6), (Reg.panelDue n, s.now + 1000000 * s.reg (Obj.panelOnMs n))])))
  ∧ (∀ (s : State) (n : Nat), s.up = true → n ≤ 7 → s.reg (Reg.panelFaultDue n) ≠ 1 →
    exec (.panelFault n) s = .next (((s.setRegs [(Reg.panelFaultDue n, 1), (Obj.panelFault n, 1)]).headEvent n St.panelFault 3 []).darkCheck n (s.litPorts n) 3))
  ∧ ∀ (s : State) (n : Nat), s.up = true → s.reg (Reg.panelFaultDue n) ≠ 0 →
    let u := s.setRegs [(Reg.panelFaultDue n, 0), (Obj.panelFault n, 0)]
    exec (.panelFaultClear n) s = .next ((u.setRegs [(Obj.headState n, u.headStateOf n), (Obj.darkReason n, if u.darkMask n = 0 then 0 else u.reg (Obj.darkReason n))]).headEvent n
      St.headLit 1 []))
  ∧ ((∀ (s : State) (n done : Nat), s.up = true → n ≤ 7 → Hd.rxOn s n = true →
    (done = 0 → exec (.rxLinkTraining n done) s = .next (s.setReg (Obj.rxState n) 1))
    ∧ (done ≠ 0 → s.reg (Obj.rxState n) = 1 → exec (.rxLinkTraining n done) s = .next (s.setReg (Obj.rxState n) 2)))
  ∧ (∀ (s : State) (n w h rate khz colour : Nat) (data : Bytes), s.up = true → n ≤ 7 → s.reg (Reg.portReset (U.dpr n)) ≠ 1 → Hd.rxOn s n = true → 2 ≤ s.reg (Obj.rxState n) →
    let u := s.setRegs [(Obj.rxWidth n, w), (Obj.rxHeight n, h), (Obj.rxRateMhz n, rate), (Obj.rxPixelKhz n, khz), (Obj.rxColour n, colour)]
    (u.rxLayer n = none → exec (.rxFrame n w h rate khz colour data) s = .next (u.setReg (Obj.rxState n) 2))
    ∧ (∀ m l, u.rxLayer n = some (m, l) → w = u.reg (Obj.layerSrcWidth m l) → h = u.reg (Obj.layerSrcHeight m l) →
      let b := Hd.nextBuf (u.reg (Reg.rxBuf n)) (u.reg (Reg.rxShown n))
      let third := u.reg (Reg.poolSize m l) * frameBytes / 3
      let v := u.poolWrite (U.dpr n) (23 + n) m l ((b - 1) * third) (data.take third)
      let v := if v.reg (Reg.rxFrame n) = 1 then v.bump (Obj.rxFramesDropped n) 32 else v
      exec (.rxFrame n w h rate khz colour data) s = .next ((v.bump (Obj.rxFramesWritten n) 32).setRegs [(Obj.rxState n, 2), (Reg.rxBuf n, b), (Reg.rxFrame n, 1)]))
    ∧ ∀ m l, u.rxLayer n = some (m, l) → w ≠ u.reg (Obj.layerSrcWidth m l) ∨ h ≠ u.reg (Obj.layerSrcHeight m l) → u.reg (Obj.rxState n) ≠ 3 →
      exec (.rxFrame n w h rate khz colour data) s = .next ((u.setRegs [(Obj.rxState n, 3), (Reg.rxBlack n, 1), (Reg.rxFrame n, 0)]).rxEvent n St.rxModeChanged 2
        [(2, w), (2, h)]))
  ∧ (∀ (s : State) (n : Nat), s.up = true → n ≤ 7 → s.reg (Obj.rxState n) ≠ 0 →
    exec (.rxSignalLost n) s = .next ((s.setRegs [(Obj.rxState n, 0), (Reg.rxFrame n, 0), (Reg.rxLost n, 1), (Reg.rxHoldDue n, s.now + 1000000 * s.reg (Obj.rxHoldMs n))]).rxEvent n
      St.rxSignalLost 2 []))
  ∧ ∀ (s : State) (n : Nat), s.up = true → s.reg (Reg.rxLost n) ≠ 0 → s.reg (Reg.rxHoldDue n) ≠ 0 → s.reg (Reg.rxHoldDue n) ≤ s.now →
    exec (.rxHoldExpiry n) s = .next (s.setRegs [(Reg.rxHoldDue n, 0), (Reg.rxBlack n, 1)]))

/-! ## Chapters 11 and 12: display integrity, touch -/

/-- R41, R244 to R250, R272, R291, R301, R302, R391, R392, R447, R502: the Ensign runtime. A period reads its bindings, steps its pages and drives its
outputs; an acknowledge acts on the page its region shows and, by a discrete input, stops the backup tone; a drawing operation inside the back buffer
draws, one outside it does not; a back buffer is signed; a package is verified, activated and discarded by PackageOp, whose status PackageStatus
keeps. The place of the buffers (log 15) and the payload of page events (log 16) are the model's; that a signature verifies is an operand (log 33). -/
def Obligations.EnsignRuntime : Prop :=
  (∀ (s : State), s.up = true → s.ensRuns = true →
    let u := (s.setReg Reg.ensPeriodMissed 0).boundary (0x1000 + U.ens)
    (u.activePkg = none → exec .ensignPeriod s = .next u)
    ∧ ∀ p, u.activePkg = some p →
      exec .ensignPeriod s = .next (Ens.settle (p.pages.foldl (fun s g => s.pageStep p g) (p.bindings.zipIdx.foldl (fun s x => s.bindStep p x) (Ens.bindSync u p))) p))
  ∧ (∀ (s : State) (src : Nat) (plays : List (Nat × Nat × Nat × Nat × Nat)) (p : EnsPkg) (a : EnsAck) (g : EnsPage), s.up = true → s.activePkg = some p → p.acks[src]? = some a →
    s.ensRuns = true →
    let u := Ens.ackPlays s plays
    State.pkgPage p (u.reg (Obj.pageShown (Ens.ackRegion u a).1 (Ens.ackRegion u a).2)) = some g →
    exec (.ensignAcknowledge src plays) s = .next (Ens.settle (if a.input ≠ 0xFF then (u.pageAck p src g).setReg Reg.backupTone 0 else u.pageAck p src g) p))
  ∧ (∀ (s : State), s.up = true → exec .flashHalfCycle s = .next s.outsStep)
  ∧ (∀ (s : State) (o on : Nat), s.up = true → o ≤ 31 → exec (.lampTestInputChange o on) s = .next ((s.setReg (Reg.lampOn o) (b2n (on != 0))).outsStep))
  ∧ (∀ (s : State) (n k x y w h a bw bh idx src stride off fg bg : Nat) (remap : Bytes), s.up = true → s.backBuffer n k = some (a, bw, bh) → s.ensRuns = true → x + w ≤ bw → y + h ≤ bh →
    exec (.ensignFill n k x y w h idx) s = .next ((Ens.redraw s n k).drawRect n k x y w h (fun _ _ => BitVec.ofNat 8 idx))
    ∧ exec (.ensignBlit n k x y w h src stride remap) s = .next ((Ens.redraw s n k).drawRect n k x y w h (fun i j =>
        if remap.length = 256 then remap.getD (s.byte (s.assetBase + src + j * stride + i)).toNat 0 else s.byte (s.assetBase + src + j * stride + i)))
    ∧ exec (.ensignGlyph n k x y w h off fg bg) s = .next ((Ens.redraw s n k).drawRect n k x y w h (fun i j =>
        BitVec.ofNat 8 (if (s.byte (s.assetBase + off + j * ((w + 7) / 8) + i / 8)).toNat.testBit (7 - i % 8) then fg else bg))))
  ∧ (∀ (s : State) (n k x y w h a bw bh idx : Nat), s.up = true → s.backBuffer n k = some (a, bw, bh) → bw < x + w ∨ bh < y + h →
    exec (.ensignFill n k x y w h idx) s = .next s)
  ∧ (∀ (s : State) (n k : Nat), s.up = true → s.ensRuns = true → (s.backBuffer n k).isNone = false →
    let f := s.reg (Reg.regionFront n k)
    let u := if s.reg (Reg.regionResign n k) = 1 then (s.setNum (Num.sigExp n k f) (s.signBuffer n k f)).setReg (Reg.regionResign n k) 0 else s
    exec (.ensignSign n k) s = .next (((u.setNum (Num.sigExp n k (1 - f)) (u.signBuffer n k (1 - f))).setRegs [(Reg.regionSigned n k, 1), (Reg.regionDrawn n k, u.now)]).wakeLink n))
  ∧ (∀ (s : State) (n : Nat) (pkg : EnsPkg), Passes s n Obj.packageOp → (s.heard n).reg Obj.packageState ≠ 3 →
    let u := s.heard n
    (Ens.pkgHeld u pkg = false → State.pkgVerify u pkg = none →
      exec (.packageVerify n pkg) s = .next (answered s n 2 Obj.packageOp (Ens.opDone (State.setReg { u with stagedPkg := some pkg } Obj.packageState 2) St.ok 0)))
    ∧ (∀ st sec r, Ens.pkgHeld u pkg = false → State.pkgVerify u pkg = some (st, sec, r) →
      exec (.packageVerify n pkg) s = .next (answered s n 2 Obj.packageOp (Ens.opDone (State.setReg { u with stagedPkg := none } Obj.packageState (Ens.restState u)) st (sec * 0x10000 + r % 0x10000))))
    ∧ (∀ p, u.stagedPkg = some p → Ens.pkgHeld u p = false → State.pkgInputClash u p = false →
      exec (.packageActivate n) s = .next (answered s n 2 Obj.packageOp (Ens.opDone (Ens.load u p) St.ok 0)))
    ∧ (u.stagedPkg = none → exec (.packageActivate n) s = .next (answered s n 2 Obj.packageOp (Ens.opDone u St.ensPackageFormat 0)))
    ∧ exec (.packageDiscard n) s = .next (answered s n 2 Obj.packageOp (Ens.opDone (State.setReg { u with stagedPkg := none } Obj.packageState (Ens.restState u)) St.ok 0)))
  ∧ ∀ (s : State) (n : Nat) (pkg : EnsPkg), Passes s n Obj.packageOp → (s.heard n).reg Obj.packageState = 3 →
    exec (.packageVerify n pkg) s = .next (answered s n 2 Obj.packageOp ((s.heard n).reply St.busy)) ∧ exec (.packageActivate n) s = .next (answered s n 2 Obj.packageOp ((s.heard n).reply St.busy))
    ∧ exec (.packageDiscard n) s = .next (answered s n 2 Obj.packageOp ((s.heard n).reply St.busy))

/-- R287 to R297: a sampled frame of an owner region is compared with the owner's value, and one of an Ensign region with the expected signature, where
each mismatch and each pass moves the region's check, and none is compared until a region is signed anew for its setting; a region that shows one signature for its whole freeze window is frozen. A mismatch in PROBATION
returns the region to FAILED (the model's reading, log 18). -/
def Obligations.IntegrityChecks : Prop :=
  (∀ (s : State) (n k : Nat) (seen : Option (Nat × Nat)) (sent : Bool), s.up = true → n ≤ 7 → k ≤ 15 → s.reg (Obj.sigRegionKind n k) ≠ 0 → s.headLit n = true → s.regionSent n k = true →
    s.reg (Obj.stratusState n) ≠ 2 ∨ sent = true →
    let v := seen.getD (s.sigValues n k)
    let crc := v.1
    let prov := if s.reg (Obj.sigRegionKind n k) = 1 ∧ s.reg (Obj.sigTagMask n k) = 0xFF then 0 else v.2
    let u := s.setRegs [(Obj.sigLastCrc n k, crc), (Obj.sigLastFrame n k, s.reg (Obj.headFrame n)), (Obj.sigProvCount n k, prov)]
    let u := (u.count (344 + 4 * n) 1).count (346 + 4 * n) prov
    let bad := u.reg (Obj.sigExpectedOn n k) == 1 && crc != u.reg (Obj.sigExpectedCrc n k)
    let b := if bad = true then (u.bump (Obj.sigMismatches n k) 32).count (345 + 4 * n) 1 else u
    let exp := (u.num (Num.sigExp n k (u.reg (Reg.regionFront n k)))).getD (u.reg (Obj.ensignSet n)) 0
    (s.reg (Obj.sigRegionKind n k) = 1 →
      exec (.signatureSample n k seen sent) s = .next (Ens.track (if (bad = true ∨ prov ≠ 0) ∧ (b.reg (Reg.sigOwnerEv n k) = 0 ∨ b.reg (Reg.sigOwnerEv n k) - 1 + 1000000000 ≤ b.now) then
          (b.setReg (Reg.sigOwnerEv n k) (b.now + 1)).integrityEvent n k St.ownerMismatch 2 crc (if prov = 0 then b.reg (Obj.sigExpectedCrc n k) else prov)
        else b) n k crc))
    ∧ (s.reg (Obj.sigRegionKind n k) ≠ 1 → prov ≠ 0 → u.reg (Obj.sigRegionCheck n k) ≠ 3 →
      exec (.signatureSample n k seen sent) s = .next (Ens.track (Ens.fail u n k St.provViolation crc prov) n k crc))
    ∧ (s.reg (Obj.sigRegionKind n k) ≠ 1 → prov = 0 → u.reg (Reg.regionResign n k) ≠ 1 → crc ≠ exp →
      exec (.signatureSample n k seen sent) s = .next (Ens.track (Ens.mismatch u n k crc exp) n k crc))
    ∧ (s.reg (Obj.sigRegionKind n k) ≠ 1 → prov = 0 → u.reg (Reg.regionResign n k) = 1 → exec (.signatureSample n k seen sent) s = .next (Ens.track u n k crc))
    ∧ (s.reg (Obj.sigRegionKind n k) ≠ 1 → prov = 0 → u.reg (Reg.regionResign n k) ≠ 1 → crc = exp →
      exec (.signatureSample n k seen sent) s = .next (Ens.track (Ens.pass u n k crc exp) n k crc)))
  ∧ ∀ (s : State) (n k : Nat), s.up = true → Ens.watching s n k = true → s.reg (Reg.sigSeen n k) ≠ 0 → s.reg (Reg.sigFrozenAt n k) = 0 →
    s.reg (Reg.sigWindow n k) + 1000000 * Ens.window s n k ≤ s.now → s.now ≤ s.reg (Reg.sigLastAt n k) + 1000000 * Ens.window s n k →
    let crc := s.reg (Obj.sigLastCrc n k)
    let u := s.setReg (Reg.sigFrozenAt n k) (s.now + 1)
    (u.reg (Obj.sigRegionKind n k) = 1 → exec (.freezeWindowExpiry n k) s = .next (u.integrityEvent n k St.ownerFrozen 2 crc (u.reg (Obj.sigExpectedCrc n k))))
    ∧ (u.reg (Obj.sigRegionKind n k) ≠ 1 → Ens.stallNow u (Ens.window s n k) = false → exec (.freezeWindowExpiry n k) s = .next (Ens.fail u n k St.regionFrozen crc crc))
    ∧ (u.reg (Obj.sigRegionKind n k) ≠ 1 → Ens.stallNow u (Ens.window s n k) = true →
      exec (.freezeWindowExpiry n k) s = .next (((u.integrityEvent n k St.ensignStalled 4 crc crc).setRegs [(Obj.sigRegionCheck n k, 3), (Reg.sigPass n k, 0), (Reg.sigCount n k, 0),
        (Reg.sigSeen n k, 0), (Reg.stalled, 1), (Reg.backupTone, 1)]).alarmAssert.pairRestart))

/-- R304 to R325, R494: a touch port. A scan frame is read at the port's rate, whole or self only, counted and told; the rate steps down with the idle
times; a gesture watch, glove sensing and wetness end with their times; a start whose steps have passed begins the port, or finds its flex absent or
its calibration failed; the 10-minute integrity scan runs, or is put off by a touch. Clusters and the rounding of baselines are the model's reading
(log 21). -/
def Obligations.TouchPorts : Prop :=
  (∀ (s : State) (p : Nat) (raw self : List Nat) (noise : Nat × Nat), s.up = true → p ≤ 7 → s.reg (Reg.touchRun p) ≠ 0 → s.reg (Reg.portReset (U.touch p)) ≠ 1 →
    let u := if s.reg (Obj.scanRateHz p) = 30 ∨ s.reg (Obj.scanRateHz p) = 8 then (s.tSlow p self).tSelfBaseline p self else s.tMutual p raw self
    let u := ((((u.tNoise p noise).tLate p).hidFrame p).bump (Obj.scanFrames p) 32).count (376 + 4 * p) 1
    exec (.scanFrameEnd p raw self noise) s = .next (u.boundary (u.sourceOf (U.touch p))))
  ∧ (∀ (s : State) (p : Nat), s.up = true → p ≤ 7 → s.reg (Reg.touchRun p) ≠ 0 → s.tracked p = [] → s.reg (Reg.touchWatch p) = 0 →
    let idle := s.now - s.reg (Reg.touchLastAt p)
    let rate := if 1000000 * s.reg (Obj.idleStep3Ms p) ≤ idle then 8 else if 1000000 * s.reg (Obj.idleStep2Ms p) ≤ idle then 30
      else if 1000000 * s.reg (Obj.idleStep1Ms p) ≤ idle then 120 else 240
    (rate < s.reg (Obj.scanRateHz p) → exec (.idleStep p) s = .next ((s.setReg (Obj.scanRateHz p) rate).setReg (Reg.touchSelf p) 0))
    ∧ (s.reg (Obj.scanRateHz p) ≤ rate → exec (.idleStep p) s = .next s))
  ∧ (∀ (s : State) (p : Nat), s.up = true → p ≤ 7 → s.reg (Reg.touchWatch p) ≠ 0 → s.reg (Reg.touchWatch p) ≤ s.now + 1 →
    let u := s.setRegs [(Reg.touchWatch p, 0), (Reg.touchDowns p, 0), (Obj.scanRateHz p, s.reg (Reg.touchWatchRate p)), (Reg.touchSelf p, 1)]
    exec (.gestureWatchEnd p) s = .next (u.setTracked p ((u.tracked p).filter (fun (c : Contact) => c.kind != 4 && c.kind != 0))))
  ∧ (∀ (s : State) (p : Nat), s.up = true → p ≤ 7 → s.reg (Obj.gloveMode p) = 2 → s.reg (Reg.touchGlove p) ≠ 0 → s.reg (Reg.touchGloveUntil p) ≤ s.now →
    exec (.gloveTimeout p) s = .next (s.setGlove p 0))
  ∧ (∀ (s : State) (p : Nat), s.up = true → p ≤ 7 → s.reg (Reg.touchWetUntil p) ≤ s.now → exec (.wetTimeout p) s = .next (s.setWet p false))
  ∧ (∀ (s : State) (p placed : Nat) (bad coarse fine first cap selfCap : List Nat), s.up = true → p ≤ 7 → s.reg (Reg.touchStartAt p) ≠ 0 →
    s.reg (Reg.touchStartAt p) + 103333333 ≤ s.now + 1 →
    let u := s.setReg (Reg.touchStartAt p) 0
    let v := (if u.reg (Reg.unitState (U.touch p)) = 0 then u.setUnitState (U.touch p) 1 else u).tIntegrity p bad true
    let lines := (Touch.channels (v.reg (Obj.channelRole p)) 1 ++ Touch.channels (v.reg (Obj.channelRole p)) 2).length
    (exec (.touchPortStart p false bad placed coarse fine first cap selfCap) s = .next (((u.setUnitState (U.touch p) 0).tWhole).startPassed (U.touch p)))
    ∧ (¬ (2 * placed ≤ lines ∧ 0 < lines) →
      let zeros := List.replicate (v.reg (Obj.nodeCount p)) 0
      let w := (((((v.setNum (Num.coarse p) coarse).setNum (Num.fine p) fine).setNum (Num.neg p) zeros).setNum (Num.rebLeft p) zeros).setNum (Num.rebSum p) zeros).setNum
        (Num.selfBase p) selfCap
      let w := w.setReg (Obj.refValid p) (b2n (w.refHolds p))
      let w := if w.reg (Obj.refValid p) = 1 then (w.tCover p first cap).setReg (Reg.touchUnref p) 0
        else (((w.setNum (Num.covered p) zeros).setNum (Num.base p) cap).setReg (Reg.touchUnref p) 1).raise [w.blockDest (U.touch p)] (U.touch p)
          St.pwrupUnreferenced (w.reg (Reg.blockHolder (U.touch p))) 1 []
      let w := w.tReference p
      exec (.touchPortStart p true bad placed coarse fine first cap selfCap) s = .next (((w.setTracked p []).setRegs [(Reg.touchRun p, 1), (Obj.scanRateHz p, w.tActive p),
        (Reg.touchLastAt p, w.now), (Reg.touchHopFrame p, 0)]).startPassed (U.touch p))))
  ∧ ∀ (s : State) (p : Nat) (bad : List Nat), s.up = true → p ≤ 7 → s.reg (Reg.touchRun p) ≠ 0 → s.reg (Obj.scanRateHz p) ≤ 30 → s.reg (Reg.touchIntegDue p) ≤ s.now + 1 →
    exec (.integrityScan p bad true) s = .next (s.setReg (Reg.touchIntegDue p) (s.now + 600000000000 + 1))
    ∧ exec (.integrityScan p bad false) s = .next ((s.tIntegrity p bad false).tReference p)

/-! ## Chapters 13 and 14: haptics, audio -/

/-- R326, R331, R333, R334, R337, R338: playing effects. A ring packet for a channel its world holds is taken as a work item and plays; for another
channel it is skipped with NOT_OWNER; one that names no channel stops its ring; a write of PlayEffect plays as its source may; a finished effect ends.
R18, R327, R329, R330, R339: driving a group. Its loads are measured and a channel that fails faults; every 50 us a running effect is driven by its
segment or brakes; a sense check that fails opens the loop; an over-current cuts the channel, and the third within 60 s faults it; a hot driver is
limited and then cut until it has cooled; a high-voltage fault is retried each second. Voltages inside the loop are free values (log 20). -/
def Obligations.Haptics : Prop :=
  ((∀ (s : State) (i g c : Nat) (p : Pkt), Plays s i 0x60 g c p →
    let e := bits (p.word 0) 8 8
    let x := (s.itemAccept (U.hapChannel g c) (s.instWorld i) i 6 (s.reg (Reg.ringRptr i 6)) 0x60 classD 0 []).hapPlay g c 3 (s.instWorld i + 1) e (bits (p.word 0) 16 8) (bits (p.word 0) 24 8)
    (x.2 = St.ok → e ≠ 0 → exec (.hapticPlay i) s = .next ((x.1.setReg (Reg.hapItem g c) (s.jnlSeq + 1)).ringDone i 6 p))
    ∧ (x.2 ≠ St.ok → exec (.hapticPlay i) s
      = .next (((x.1.itemEndSeq s.jnlSeq x.2).raise [.inst i] (U.hapChannel g c) x.2 (s.instWorld i) 2 [(1, 8 * g + c), (1, e)]).ringDone i 6 p)))
  ∧ (∀ (s : State) (i g c : Nat) (p : Pkt), Plays s i 0x61 g c p →
    let x := (s.itemAccept (U.hapChannel g c) (s.instWorld i) i 6 (s.reg (Reg.ringRptr i 6)) 0x61 classD 0 []).hapPlay g c 3 (s.instWorld i + 1) 0 0 0
    exec (.hapticStop i) s = .next ((if x.2 = St.ok then x.1.itemEndSeq s.jnlSeq x.2
      else (x.1.itemEndSeq s.jnlSeq x.2).raise [.inst i] (U.hapChannel g c) x.2 (s.instWorld i) 2 [(1, 8 * g + c), (1, 0)]).ringDone i 6 p))
  ∧ (∀ (s : State) (i : Nat) (p : Pkt), Holds s i 6 0x60 p →
    (23 < p.word 0 % 256 → exec (.hapticPlay i) s = .next (s.stopRing i 6 St.touchPacketInvalid))
    ∧ (p.word 0 % 256 ≤ 23 → s.holdsBlock (s.instWorld i) (U.hapChannel (p.word 0 % 256 / 8) (p.word 0 % 256 % 8)) = false →
      exec (.hapticPlay i) s = .next ((s.raise [.inst i] (U.hapChannel (p.word 0 % 256 / 8) (p.word 0 % 256 % 8)) St.notOwner (s.instWorld i) 2 [(1, p.word 0 % 256)]).ringDone i 6 p)))
  ∧ (∀ (s : State) (n g c : Nat) (d : Bytes), g ≤ 2 → c ≤ 7 → Takes s n (Obj.hapChPlayEffect g c) d →
    let u := s.heard n
    let x := u.hapPlay g c (Hap.source u n g c).1 (Hap.source u n g c).2.1 (bytesAt d 0 1) (bytesAt d 1 1) (bytesAt d 2 1)
    ((Hap.source u n g c).2.2 = St.ok → bytesAt d 3 1 = 0 → exec (.playEffect n g c d) s = .next (answered s n 2 (Obj.hapChPlayEffect g c) (x.1.reply x.2)))
    ∧ ((Hap.source u n g c).2.2 = St.ok → bytesAt d 3 1 ≠ 0 → exec (.playEffect n g c d) s = .next (answered s n 2 (Obj.hapChPlayEffect g c) (u.reply St.valueRange)))
    ∧ ((Hap.source u n g c).2.2 ≠ St.ok → exec (.playEffect n g c d) s = .next (answered s n 2 (Obj.hapChPlayEffect g c) (u.reply (Hap.source u n g c).2.2))))
  ∧ ∀ (s : State) (g c : Nat), s.up = true → g ≤ 2 → c ≤ 7 → s.reg (Reg.hapBusy g c) ≠ 0 → s.hapFinished g c = true →
    exec (.effectEnd g c) s = .next (s.hapEnd g c St.ok))
  ∧ ((∀ (s : State) (g : Nat) (meas : List (Nat × Nat × Bool × Nat)), s.up = true → g ≤ 2 →
    let u := if s.reg (Obj.hapHvState g) = 0 ∧ s.reg (Reg.hapHot g) < 2 then s.setReg (Obj.hapHvState g) 1 else s
    let u := meas.foldl (fun s m =>
      let c := m.1
      if 7 < c ∨ s.reg (Reg.hapDue g c) = 0 then s
      else
        let s := s.setRegs [(Reg.hapDue g c, 0), (Obj.hapChLoadNf g c, m.2.1 % 65536), (Obj.hapChResonanceHz g c, m.2.2.2 % 65536)]
        if m.2.2.1 ∨ m.2.1 < 18 ∨ 550 < m.2.1 then (s.hapCut g c St.loadFault).hapFault g c
        else s.setRegs [(Obj.hapChSenseActive g c, b2n (s.reg (Obj.hapChSenseMode g c) != 0 && s.reg (Reg.hapOpen g c) == 0)),
          (Obj.hapChChannelState g c, if s.reg (Reg.hapBusy g c) = 1 then s.reg (Obj.hapChChannelState g c)
            else if s.reg (Obj.hapChEnable g c) = 0 then 4 else 0)]) u
    exec (.loadMeasure g true meas) s = .next (if (List.range 8).any (fun c => u.reg (Reg.hapDue g c) == 1) = true then u else u.startPassed (U.hapGroup g)))
  ∧ (∀ (s : State) (g c a mw : Nat), s.up = true → g ≤ 2 → c ≤ 7 → s.reg (Reg.portReset (U.hapGroup g)) ≠ 1 →
    let u := Hap.power s g mw
    let t := u.now - u.reg (Reg.hapAt g c)
    (u.reg (Reg.hapBusy g c) = 0 → exec (.hapticLoopPeriod g c a mw) s = .next u)
    ∧ (∀ p, u.reg (Reg.hapBusy g c) ≠ 0 → (u.hapSegments g c).find? (fun p => decide (p.1 ≤ t) && decide (t < p.2)) = some p →
      exec (.hapticLoopPeriod g c a mw) s = .next (Hap.inSegment u g c t p.1 a))
    ∧ (∀ p, u.reg (Reg.hapBusy g c) ≠ 0 → (u.hapSegments g c).find? (fun p => decide (p.1 ≤ t) && decide (t < p.2)) = none →
      ((u.hapSegments g c).filter (fun p => decide (p.2 ≤ t))).getLast? = some p →
      exec (.hapticLoopPeriod g c a mw) s = .next (Hap.afterSegment u g c t (((u.hapSegments g c).filter (fun p => decide (p.2 ≤ t))).length - 1) p.2 a)))
  ∧ (∀ (s : State) (g c a : Nat), s.up = true → g ≤ 2 → c ≤ 7 → s.reg (Reg.hapBusy g c) ≠ 0 → s.reg (Reg.hapChecked g c) ≠ 1 →
    1000000 * (s.hapField g c 2 + 2) ≤ s.now - s.reg (Reg.hapAt g c) →
    let target := s.hapTarget g c (s.now - s.reg (Reg.hapAt g c))
    let u := (s.tick).setReg (Reg.hapChecked g c) 1
    exec (.senseCheck g c a) s = .next (if s.hapClosed g c ∧ 0 < target ∧ (a * 10 < target ∨ 4 * target < a) then
      (u.setRegs [(Reg.hapOpen g c, 1), (Obj.hapChSenseActive g c, 0)]).hapChEvent g c St.senseFault 2 [(1, c)] else u))
  ∧ (∀ (s : State) (g c : Nat), s.up = true → g ≤ 2 → c ≤ 7 →
    let u := s.hapCut g c St.overcurrent
    let l := u.now :: (u.num (Num.overcurrent g c)).filter (fun t => decide (u.now < t + 60000000000))
    let v := ((u.setReg (Reg.hapDue g c) 1).bump (Obj.hapChFaults g c) 32).hapChEvent g c St.overcurrent 3 [(1, c)]
    exec (.overcurrent g c) s = .next (if l.length < 3 then v.setNum (Num.overcurrent g c) l
      else ((v.setNum (Num.overcurrent g c) []).setReg (Reg.hapDue g c) 0).hapFault g c))
  ∧ (∀ (s : State) (g temp : Nat), s.up = true → g ≤ 2 →
    let u := s.setReg (Obj.hapDriverTemp g) (temp % 65536)
    (1250 < toSigned 2 temp → u.reg (Reg.hapHot g) ≠ 2 → exec (.driverHot g temp) s
      = .next (((u.hapGroupCut g St.driverHot).setRegs [(Reg.hapHot g, 2), (Obj.hapHvState g, 0)]).hapGroupEvent g St.driverHot 3 [(2, temp)]))
    ∧ (1100 < toSigned 2 temp → toSigned 2 temp ≤ 1250 → u.reg (Reg.hapHot g) = 0 →
      exec (.driverHot g temp) s = .next ((u.setReg (Reg.hapHot g) 1).hapGroupEvent g St.driverHot 2 [(2, temp)]))
    ∧ (toSigned 2 temp ≤ 1100 → exec (.driverHot g temp) s = .next u)
    ∧ (toSigned 2 temp < 1000 → exec (.driverCooled g temp) s = .next (if s.reg (Reg.hapHot g) = 2 then
        Hap.restart (s.setRegs [(Obj.hapDriverTemp g, temp % 65536), (Reg.hapHot g, 0)]) g else s.setRegs [(Obj.hapDriverTemp g, temp % 65536), (Reg.hapHot g, 0)])))
  ∧ (∀ (s : State) (g : Nat), s.up = true → g ≤ 2 →
    let u := s.hapGroupCut g St.hvFault
    exec (.hvFault g) s = .next ((u.setRegs [(Obj.hapHvState g, 2), (Reg.hapRetry g, s.now + 1000000000)]).hapGroupEvent g St.hvFault 3 []))
  ∧ ∀ (s : State) (g : Nat), s.up = true → g ≤ 2 → s.reg (Reg.hapRetry g) ≠ 0 → s.reg (Reg.hapRetry g) ≤ s.now →
    exec (.hvRetry g true) s = .next (Hap.restart s g) ∧ exec (.hvRetry g false) s = .next (s.setReg (Reg.hapRetry g) (s.now + 1000000000)))

/-- R341 to R347, R349, R351 to R361: the audio unit. An M sample counts, applies commits and computes its graph; meters and the backup tone move with
their times; a bridge locks and unlocks; a stream queues the buffers of its packets and starts and stops with them; a passed buffer is signalled; a
port loses and regains its clock. Samples whose rounding the spec leaves open are free values (log 22). -/
def Obligations.Audio : Prop :=
  (∀ (s : State) (ins : List (Nat × Nat)) (late : Bool), s.up = true → s.reg (Reg.portReset U.aud) ≠ 1 →
    (s.mSample.audRuns = true → exec (.sampleInstant 0 ins late) s = .next (s.mSample.graph 0 ins late))
    ∧ (s.mSample.audRuns = false → exec (.sampleInstant 0 ins late) s = .next s.mSample.backupOut))
  ∧ (∀ (s : State) (d : Nat) (ins : List (Nat × Nat)) (late : Bool), s.up = true → d = 1 ∨ d = 2 → s.reg (Reg.portReset U.aud) ≠ 1 → s.audRuns = true →
    (s.count (432 + d) 1).audRuns = true → (s.count (432 + d) 1).audWhole = true → exec (.sampleInstant d ins late) s = .next ((s.count (432 + d) 1).graph d ins late))
  ∧ (∀ (s : State), s.up = true → s.audRuns = true →
    let u := (List.range 252).foldl (fun s j => s.meterSet (Obj.sourceMeters j) 0 j (s.reg Obj.sourceHoldMs)) s
    exec .meterUpdate s = .next ((List.range 64).foldl (fun s b => s.meterSet (Obj.busMeter b) 1 b (s.reg (Obj.holdMs b))) u))
  ∧ (∀ (s : State), s.up = true →
    let u := s.tonesDerive
    (u.reg Reg.backupAt ≠ 0 → u.reg Reg.backupAt - 1 + 250000000 ≤ u.now →
      exec .backupToneSwitch s = .next (u.setRegs [(Reg.backupHz, 1 - u.reg Reg.backupHz), (Reg.backupAt, u.now + 1)]))
    ∧ (u.reg Reg.backupAt = 0 ∨ u.now < u.reg Reg.backupAt - 1 + 250000000 → exec .backupToneSwitch s = .next u))
  ∧ (∀ (s : State) (k ratio : Nat), s.up = true → k ≤ 3 → s.reg (Obj.bridgeState k) = 1 → ratio ≤ 6 * 2 ^ 24 → 2 ^ 24 ≤ 6 * ratio → s.audWhole = true → s.audRuns = true →
    exec (.audBridgeLocked k ratio) s = .next ((s.setRegs [(Obj.bridgeState k, 2), (Obj.bridgeRatio k, ratio)]).raise [.hal, .owner] U.aud St.audBridgeLocked 0xFF 1 [(1, k)]))
  ∧ (∀ (s : State) (k : Nat), s.up = true → k ≤ 3 → s.reg (Obj.bridgeState k) = 2 →
    exec (.audBridgeUnlocked k) s = .next ((((s.setRegs [(Obj.bridgeState k, 1), (Reg.bridgeOffAt k, s.now + 1)]).bump (Obj.unlocks k) 32).count 438 1).raise [.hal, .owner] U.aud
      St.audBridgeUnlocked 0xFF 2 [(1, k)]))
  ∧ (∀ (s : State) (i t : Nat) (p : Pkt), (s.bufs t).length < 64 →
    let go := fun (op : Nat) =>
      let v := s.setReg (Reg.streamInst t) (i + 1)
      let u := (v.itemAccept U.aud (v.instWorld i) i 5 (v.reg (Reg.ringRptr i 5)) op classD 0 []).itemFence v.jnlSeq (p.dword 4) (p.dword 6)
      (u.setBufs t (u.bufs t ++ [⟨p.dword 2, p.word 1, 0, 0, p.dword 4, p.dword 6, i, v.jnlSeq⟩])).ringDone i 5 p
    (Streams s i 0x70 t p → s.reg (Obj.streamDir t) = 0 → exec (.audioPlay i) s = .next (go 0x70))
    ∧ (Streams s i 0x71 t p → s.reg (Obj.streamDir t) = 1 → exec (.audioCapture i) s = .next (go 0x71)))
  ∧ (∀ (s : State) (i t : Nat) (p : Pkt), Streams s i 0x72 t p →
    exec (.audioStart i) s = .next ((s.setReg (Reg.streamInst t) (i + 1)).audInstant i 0x72 p (fun s => s.setReg (Reg.audStart t) (max s.now (p.dword 1) + 1))))
  ∧ (∀ (s : State) (i t : Nat) (p : Pkt), Streams s i 0x73 t p →
    exec (.audioStop i) s = .next ((s.setReg (Reg.streamInst t) (i + 1)).audInstant i 0x73 p (fun s =>
      let s := s.setReg (Reg.audStart t) 0
      if s.reg (Obj.streamState t) < 2 then s.audStopped t
      else if s.reg (Reg.audStop t) = 0 then s.setReg (Reg.audStop t) (s.now + 1) else s)))
  ∧ (∀ (s : State) (t : Nat) (b : AudBuf) (bs : List AudBuf), s.up = true → s.bufs t = b :: bs → b.frames ≤ b.passed →
    exec (.audioBufferDone t) s = .next ((s.setBufs t bs).bufComplete b))
  ∧ ∀ (s : State) (p : Nat), s.up = true → p ≤ 7 → s.reg (Obj.tdmMode p) = 2 →
    (s.reg (Obj.tdmState p) = 1 → exec (.audTdmClockLost p) s = .next ((s.setReg (Obj.tdmState p) 2).raise [.hal, s.blockDest (U.tdm p)] (U.tdm p) St.audTdmClockLost 0xFF 2 []))
    ∧ (s.reg (Obj.tdmState p) = 2 → exec (.tdmClockResume p) s = .next (s.setReg (Obj.tdmState p) 1))

/-! ## Chapter 15: pennant cores -/

/-- R369: the register instructions. An ALU instruction writes rd with its result and sets its flags, CMP and TST set flags alone; ADDI and CMPI take the
signed immediate, MOVI and MOVHI leave the flags; the core goes on at the next instruction, with one instruction time spent. -/
def Obligations.PennantAlu : Prop :=
  ∀ (s u : State) (c w : Nat),
    let a := u.g c (Pen.rd w)
    let b := u.g c (Pen.rs w)
    let cy := bits (u.reg (Reg.coreFlags c)) 2 1
    let done := fun (v : Nat) (r : Pen.Res) => Host.Outcome.next (φ := Fault) (ρ := Refusal) (((u.setG c (Pen.rd w) v).setReg (Reg.coreFlags c) (Pen.flagsAfter ((u.setG c (Pen.rd w) v).reg (Reg.coreFlags c)) r)).coreNext c)
    let kept := fun (r : Pen.Res) => Host.Outcome.next (φ := Fault) (ρ := Refusal) ((u.setReg (Reg.coreFlags c) (Pen.flagsAfter (u.reg (Reg.coreFlags c)) r)).coreNext c)
    (Meets s c .mov w u → exec (.mov c) s = done (b % 65536) (Pen.plain b))
    ∧ (Meets s c .add w u → exec (.add c) s = done ((a + b) % 65536) (Pen.addRes a b 0))
    ∧ (Meets s c .sub w u → exec (.sub c) s = done ((a + 131072 - b) % 65536) (Pen.subRes a b 0))
    ∧ (Meets s c .adc w u → exec (.adc c) s = done ((a + b + cy) % 65536) (Pen.addRes a b cy))
    ∧ (Meets s c .sbc w u → exec (.sbc c) s = done ((a + 131072 - b - cy) % 65536) (Pen.subRes a b cy))
    ∧ (Meets s c .and w u → exec (.and c) s = done ((a &&& b) % 65536) (Pen.plain (a &&& b)))
    ∧ (Meets s c .or w u → exec (.or c) s = done ((a ||| b) % 65536) (Pen.plain (a ||| b)))
    ∧ (Meets s c .xor w u → exec (.xor c) s = done ((a ^^^ b) % 65536) (Pen.plain (a ^^^ b)))
    ∧ (Meets s c .shl w u → exec (.shl c) s = done ((a <<< (b % 16)) % 65536) (Pen.plain (a <<< (b % 16))))
    ∧ (Meets s c .shr w u → exec (.shr c) s = done ((a >>> (b % 16)) % 65536) (Pen.plain (a >>> (b % 16))))
    ∧ (Meets s c .sra w u → exec (.sra c) s = done (ofSigned 2 (toSigned 2 a >>> (b % 16)) % 65536) (Pen.plain (ofSigned 2 (toSigned 2 a >>> (b % 16)))))
    ∧ (Meets s c .mul w u → exec (.mul c) s = done (ofSigned 2 (toSigned 2 a * toSigned 2 b) % 65536) (Pen.plain (ofSigned 2 (toSigned 2 a * toSigned 2 b))))
    ∧ (Meets s c .mulh w u → exec (.mulh c) s
      = done (ofSigned 2 ((toSigned 2 a * toSigned 2 b) >>> 16) % 65536) (Pen.plain (ofSigned 2 ((toSigned 2 a * toSigned 2 b) >>> 16))))
    ∧ (Meets s c .not w u → exec (.not c) s = done ((65535 - b) % 65536) (Pen.plain (65535 - b)))
    ∧ (Meets s c .cmp w u → exec (.cmp c) s = kept (Pen.subRes a b 0))
    ∧ (Meets s c .tst w u → exec (.tst c) s = kept (Pen.plain (a &&& b)))
    ∧ (Meets s c .addi w u → exec (.addi c) s = done ((a + Pen.simm16 w) % 65536) (Pen.addRes a (Pen.simm16 w) 0))
    ∧ (Meets s c .cmpi w u → exec (.cmpi c) s = kept (Pen.subRes a (Pen.simm16 w) 0))
    ∧ (Meets s c .movi w u → exec (.movi c) s = .next ((u.setG c (Pen.rd w) (Pen.imm8 w)).coreNext c))
    ∧ (Meets s c .movhi w u → exec (.movhi c) s = .next ((u.setG c (Pen.rd w) (Pen.imm8 w * 256 + a % 256)).coreNext c))

/-- Table flags: after a result Z tells that it is zero, N is its bit 15, C and V are the carry or borrow and the signed overflow where the instruction
gives them and stay where it does not, and IE stays. -/
def Obligations.PennantFlags : Prop :=
  ∀ (f v : Nat) (r : Pen.Res),
    bit (Pen.flagsAfter f r) 0 = (r.val == 0) ∧ bit (Pen.flagsAfter f r) 1 = bit r.val 15 ∧ bit (Pen.flagsAfter f r) 4 = bit f 4
    ∧ (∀ c o, r.cv = some (c, o) → bit (Pen.flagsAfter f r) 2 = c ∧ bit (Pen.flagsAfter f r) 3 = o)
    ∧ (r.cv = none → bit (Pen.flagsAfter f r) 2 = bit f 2 ∧ bit (Pen.flagsAfter f r) 3 = bit f 3)
    ∧ Pen.flagsAfter f r < 32 ∧ bit (Pen.withZ f true) 0 = true ∧ bit (Pen.withZ f false) 0 = false ∧ ∀ k, 0 < k → bit (Pen.withZ f (v == 0)) k = bit f k

/-- R369, R375: loads and stores. In the data memory a load reads and a store writes exactly the bytes at its address, low byte first; an access with a
fault is a program fault of its kind at its address. -/
def Obligations.PennantLoadsAndStores : Prop :=
  ∀ (s u : State) (c w : Nat),
    let a2 := (u.g c (Pen.rs w) + 2 * bits w 0 4) % 65536
    let a1 := (u.g c (Pen.rs w) + bits w 0 3) % 65536
    let d := u.g c (Pen.rd w)
    (Meets s c .ldw w u → u.corePlace c a2 2 = .data →
      exec (.ldw c) s = .next ((u.setG c (Pen.rd w) (u.reg (Reg.coreMem c a2) + 256 * u.reg (Reg.coreMem c (a2 + 1)))).coreNext c))
    ∧ (Meets s c .ldb w u → u.corePlace c a1 1 = .data → exec (.ldb c) s = .next ((u.setG c (Pen.rd w) (u.reg (Reg.coreMem c a1))).coreNext c))
    ∧ (Meets s c .stw w u → u.corePlace c a2 2 = .data →
      ∃ t, exec (.stw c) s = .next t ∧ t.reg (Reg.coreMem c a2) = d % 256 ∧ t.reg (Reg.coreMem c (a2 + 1)) = d / 256 % 256
        ∧ (∀ x, x < 65536 → x ≠ a2 → x ≠ a2 + 1 → t.reg (Reg.coreMem c x) = s.reg (Reg.coreMem c x)) ∧ (∀ r, r < 16 → t.g c r = s.g c r)
        ∧ (∀ b, t.byte b = s.byte b) ∧ t.reg (Reg.coreFlags c) = s.reg (Reg.coreFlags c))
    ∧ (Meets s c .stb w u → u.corePlace c a1 1 = .data →
      ∃ t, exec (.stb c) s = .next t ∧ t.reg (Reg.coreMem c a1) = d % 256
        ∧ (∀ x, x < 65536 → x ≠ a1 → t.reg (Reg.coreMem c x) = s.reg (Reg.coreMem c x)) ∧ (∀ r, r < 16 → t.g c r = s.g c r)
        ∧ (∀ b, t.byte b = s.byte b) ∧ t.reg (Reg.coreFlags c) = s.reg (Reg.coreFlags c))
    ∧ (∀ k, u.corePlace c a2 2 = .fault k →
      (Meets s c .ldw w u → exec (.ldw c) s = .next (u.coreFault c k a2)) ∧ (Meets s c .stw w u → exec (.stw c) s = .next (u.coreFault c k a2)))
    ∧ ∀ k, u.corePlace c a1 1 = .fault k →
      (Meets s c .ldb w u → exec (.ldb c) s = .next (u.coreFault c k a1)) ∧ (Meets s c .stb w u → exec (.stb c) s = .next (u.coreFault c k a1))

/-- R367, R369, R372, R373: control and special registers. A branch goes to its target when its condition holds, and a taken branch, JMP, CALL, JR and
RETE spend one instruction time more; RETE restores the flags; MFS and MTS read and write what the table names; WAIT and PWAIT sleep; EI and DI move
IE alone. R364, R367, R371 to R373, R375: the events of a core. With IE set and an enabled entry queued the core saves pc and flags, clears IE and
goes on at evh; a timer that reaches 0 queues its event and reloads or stops; an edge its detector takes queues its event; a period tick; a parent's
reset, of which the third within 60 s makes the core DEAD. -/
def Obligations.PennantControl : Prop :=
  (∀ (s u : State) (c w : Nat),
    let f := u.reg (Reg.coreFlags c)
    let pc := u.reg (Reg.corePc c)
    (Meets s c .bcc w u → Pen.cond (Pen.rd w) f = true → exec (.bcc c) s = .next ((u.coreSpend c 1).coreGo c (Pen.branchTarget pc w % 4096).toNat))
    ∧ (Meets s c .bcc w u → Pen.cond (Pen.rd w) f = false → exec (.bcc c) s = .next (u.coreNext c))
    ∧ (Meets s c .jmp w u → exec (.jmp c) s = .next ((u.coreSpend c 1).coreGo c (Pen.abs12 w)))
    ∧ (Meets s c .call w u → exec (.call c) s = .next (((u.coreSpend c 1).setG c 15 (pc + 1)).coreGo c (Pen.abs12 w)))
    ∧ (Meets s c .jr w u → exec (.jr c) s = .next ((u.coreSpend c 1).coreGo c (u.g c (Pen.rd w))))
    ∧ (Meets s c .rete w u → let t := ((u.coreSpend c 1).setReg (Reg.coreFlags c) (u.reg (Reg.coreEflags c))).coreGo c (u.reg (Reg.coreEpc c))
      exec (.rete c) s = .next (if t.reg (Reg.coreInPwait c) = 1 ∧ Pen.op (t.coreWord c) = some .pwait then (t.setReg (Reg.coreInPwait c) 0).corePwait c else t))
    ∧ (Meets s c .mfs w u → exec (.mfs c) s = .next (((u.specialRead c (Pen.sel w)).2.setG c (Pen.rd w) (u.specialRead c (Pen.sel w)).1).coreNext c))
    ∧ (Meets s c .mts w u → exec (.mts c) s = .next ((u.specialWrite c (Pen.sel w) (u.g c (Pen.rd w))).coreNext c))
    ∧ (Meets s c .wait w u → exec (.wait c) s = .next (((u.coreNext c).setReg (Reg.coreWait c) 1).coreWake c))
    ∧ (Meets s c .pwait w u → exec (.pwait c) s = .next (u.corePwait c))
    ∧ (Meets s c .ei w u → exec (.ei c) s = .next ((u.setReg (Reg.coreFlags c) (setBit f 4)).coreNext c))
    ∧ (Meets s c .di w u → exec (.di c) s = .next ((u.setReg (Reg.coreFlags c) (clearBit f 4)).coreNext c))
    ∧ (Meets s c .nop w u → exec (.sysNop c) s = .next (u.coreNext c)))
  ∧ ((∀ (s : State) (c : Nat), s.up = true → (s.setReg (Reg.coreWait c) 0).coreAwake c = true → s.coreIe c = true → s.coreDue c = true → c < 32 →
    ∃ t, exec (.handlerEntry c) s = .next t ∧ t.reg (Reg.coreEpc c) = s.reg (Reg.corePc c) ∧ t.reg (Reg.coreEflags c) = s.reg (Reg.coreFlags c)
      ∧ t.reg (Reg.coreFlags c) = clearBit (s.reg (Reg.coreFlags c)) 4 ∧ t.reg (Reg.corePc c) = s.reg (Reg.coreEvh c) % 4096
      ∧ t.coreQueue c = s.coreQueue c ∧ t.mem = s.mem ∧ ∀ r, r < 16 → t.g c r = s.g c r)
  ∧ (∀ (s : State) (c t : Nat), s.up = true → c ≤ 31 → t ≤ 3 → bit (s.reg (Reg.coreTmrCtl c t)) 15 = true → s.reg (Obj.coreState c) ≠ 3 → s.tmrNow c t = 0 →
    let ctl := s.reg (Reg.coreTmrCtl c t)
    let at' := (s.reg (Reg.coreTmrAt c t) / State.tmrTick ctl + s.reg (Reg.coreTmr c t)) * State.tmrTick ctl
    exec (.timerExpiry c t) s = .next ((if bit ctl 14 = true then s.setRegs [(Reg.coreTmr c t, s.reg (Reg.coreTmrRl c t)), (Reg.coreTmrAt c t, at')]
      else s.setRegs [(Reg.coreTmr c t, 0), (Reg.coreTmrAt c t, s.now), (Reg.coreTmrCtl c t, clearBit ctl 15)]).coreEvent c t 0))
  ∧ (∀ (s : State) (c e : Nat) (level : Bool), s.up = true → c ≤ 31 → e ≤ 7 → bit (s.reg (Reg.coreEdge c e)) 15 = true →
    (bits (s.reg (Reg.coreEdge c e)) 13 2 = 2 ∨ (bits (s.reg (Reg.coreEdge c e)) 13 2 = 0 ∧ level = true) ∨ (bits (s.reg (Reg.coreEdge c e)) 13 2 = 1 ∧ level = false)) →
    Pen.isOwner c = false ∨ 32 ≤ s.reg (Reg.coreEdge c e) % 256 →
    exec (.edgeDetect c e level) s = .next (if e = 0 ∧ s.reg (Obj.corePeriodSource c) = 1 then s.coreTick c else s.coreEvent c (4 + e) (b2n level)))
  ∧ (∀ (s : State) (c : Nat), s.up = true → s.reg (Obj.corePeriodSource c) ≠ 1 ∨ Pen.isOwner c = false →
    (if Pen.isOwner c then s.reg (Obj.corePeriodUs c) else if 16 ≤ c ∧ c < 22 then 1000 else 0) = 0
      ∨ s.now % (1000 * (if Pen.isOwner c then s.reg (Obj.corePeriodUs c) else if 16 ≤ c ∧ c < 22 then 1000 else 0)) = 0 →
    exec (.periodTick c) s = .next (s.coreTick c))
  ∧ (∀ (s : State) (c : Nat), s.up = true → c ≤ 29 → s.reg (Obj.coreState c) = 4 → s.reg (Reg.coreBack c) ≠ 1 → s.reg (Reg.coreReady c) ≠ 1 → s.reg (Reg.unitState (U.core c)) ≠ 5 →
    let recent := (s.num (Num.coreResets c)).filter (fun t => decide (s.now < t + 60000000000))
    let u := (s.setNum (Num.coreResets c) (s.now :: recent)).setNum (Num.coreQ c) []
    let u := (List.range 4).foldl (fun s t => s.setRegs [(Reg.coreTmr c t, 0), (Reg.coreTmrRl c t, 0), (Reg.coreTmrCtl c t, 0), (Reg.coreTmrAt c t, 0)]) u
    let u := (List.range 8).foldl (fun s e => s.setReg (Reg.coreEdge c e) 0) u
    let u := u.setRegs [(Reg.coreEpc c, 0), (Reg.coreEflags c, 0), (Reg.coreMbx c, 0), (Reg.coreMbxNew c, 0), (Obj.coreMailboxOut c, 0), (Reg.corePeer c, 0),
      (Reg.corePeerIn c, 0), (Reg.corePeerNew c, 0), (Reg.coreLost c, u.reg (Reg.coreLost c) + (s.coreQueue c).length)]
    (2 ≤ recent.length → exec (.coreReset c) s = .next (s.unitDead (U.core c)))
    ∧ (recent.length < 2 → exec (.coreReset c) s
      = .next ((((u.coreStart c (u.coreImage c)).coreLoad c (u.coreImage c)).setReg (Reg.coreReady c) 1).bump (Obj.coreResets c) 32))))

/-- R370, R371: the block instructions, element by element. With g14 at 0 none is performed. An element moves, feeds, accumulates or polls as its kind
says, g14 falls by 1, and at 0 the core goes on; a fault in an element leaves the registers as they stood before it. With an event due no element is
performed beyond one more of an instruction under way. -/
def Obligations.PennantBlocks : Prop :=
  (∀ (s u : State) (c w : Nat), u.g c 14 = 0 →
    (Meets s c .bmov w u → exec (.bmov c) s = .next (u.coreBlockEnd c)) ∧ (Meets s c .bfeed w u → exec (.bfeed c) s = .next (u.coreBlockEnd c))
    ∧ (Meets s c .bmac w u → exec (.bmac c) s = .next (u.coreBlockEnd c)) ∧ (Meets s c .waitv w u → exec (.waitv c) s = .next (u.coreBlockEnd c)))
  ∧ (∀ (s u t : State) (c w : Nat), u.g c 14 ≠ 0 →
    let ends := fun (t : State) =>
      let t := if t.g c 14 = 0 then t else t.setG c 14 (t.g c 14 - 1)
      if t.g c 14 = 0 then (t.setReg (Reg.coreBlk c) 0).coreNext c else t.setReg (Reg.coreBlk c) 1
    (∀ v x, Meets s c .bmov w u → u.elemWord c (u.g c 12) = .ok (x, v) → x.coreWrite c (x.g c 13) 2 v = .ok t →
      exec (.bmov c) s = .next (ends ((t.setG c 12 (t.g c 12 + 2)).setG c 13 (t.g c 13 + 2))))
    ∧ (∀ d x, Meets s c .bfeed w u → u.coreMayFeed c (bits w 4 4) = true → u.elemBytes c (u.g c 12) (Pen.feedBytes w) = .ok (x, d) →
      exec (.bfeed c) s = .next (ends (((x.coreSpend c (if Pen.feedBytes w = 4 then 1 else 0)).coreFeed c (bits w 4 4) d).setG c 12 (x.g c 12 + Pen.feedBytes w))))
    ∧ (∀ x y a b, Meets s c .bmac w u → u.elemWord c (u.g c 12) = .ok (x, a) → x.elemWord c (x.g c 13) = .ok (y, b) →
      let acc := ofSigned 4 (Pen.sat32 (toSigned 4 (65536 * y.g c 10 + y.g c 11) + Pen.product a b))
      exec (.bmac c) s = .next (ends ((((y.setG c 10 (acc / 65536)).setG c 11 acc).setG c 12 (y.g c 12 + 2)).setG c 13 (y.g c 13 + 2))))
    ∧ (∀ x v, Meets s c .waitv w u → u.elemWord c (u.g c 12) = .ok (x, v) →
      ((v &&& x.g c 13) = x.g c 11 → exec (.waitv c) s = .next (ends ((x.setG c 14 0).setReg (Reg.coreFlags c) (Pen.withZ (x.reg (Reg.coreFlags c)) true))))
      ∧ ((v &&& x.g c 13) ≠ x.g c 11 → x.g c 14 = 1 → exec (.waitv c) s = .next (ends (x.setReg (Reg.coreFlags c) (Pen.withZ (x.reg (Reg.coreFlags c)) false))))
      ∧ ((v &&& x.g c 13) ≠ x.g c 11 → x.g c 14 ≠ 1 → exec (.waitv c) s = .next (ends x))))
  ∧ (∀ (s u : State) (c w k a : Nat), u.g c 14 ≠ 0 → u.elemWord c (u.g c 12) = .error (k, a) →
    (Meets s c .bmov w u → exec (.bmov c) s = .next (u.coreFault c k a)) ∧ (Meets s c .bmac w u → exec (.bmac c) s = .next (u.coreFault c k a))
    ∧ (Meets s c .waitv w u → exec (.waitv c) s = .next (u.coreFault c k a)))
  ∧ (∀ (s : State) (c : Nat), s.coreEnters c = true → s.reg (Reg.coreBlk c) ≠ 1 →
    exec (.bmov c) s = .next s ∧ exec (.bfeed c) s = .next s ∧ exec (.bmac c) s = .next s ∧ exec (.waitv c) s = .next s)
  ∧ ∀ (s u : State) (c w : Nat), u.g c 14 ≠ 0 → u.coreMayFeed c (bits w 4 4) = false → Meets s c .bfeed w u → exec (.bfeed c) s = .next (u.coreFault c 4 (u.g c 12))

/-- R363, R376, R380, R381: programs. An image is staged in the inactive bank of an owner core, verified and emptied by ProgramOp with the status that
ProgramStatus keeps; a lockstep difference restarts the Ensign pair, which is ready once it has. -/
def Obligations.Programs : Prop :=
  (∀ (s : State) (n c : Nat) (v : Bytes), Takes s n (Obj.coreProgramStage c) v →
    let u := s.heard n
    (u.bankFree c = St.ok → exec (.programStage n c v) s = .next (answered s n 2 (Obj.coreProgramStage c) ((((u.setFifo (Fifo.image c (u.idleBank c)) [v]).setReg (State.bankKey c (u.idleBank c)) 1).setVersion c (u.idleBank c)
      (Pen.version v)).reply St.ok)))
    ∧ (u.bankFree c ≠ St.ok → exec (.programStage n c v) s = .next (answered s n 2 (Obj.coreProgramStage c) (u.reply (u.bankFree c)))))
  ∧ (∀ (s : State) (n c : Nat) (sigOk : Bool), Takes s n (Obj.coreProgramOp c) [1] →
    let u := s.heard n
    let m := u.image c (u.idleBank c)
    (u.bankFree c ≠ St.ok → exec (.programVerify n c sigOk) s = .next (answered s n 2 (Obj.coreProgramOp c) (u.verdict c (u.bankFree c) 0)))
    ∧ (u.bankFree c = St.ok → sigOk = false → exec (.programVerify n c sigOk) s = .next (answered s n 2 (Obj.coreProgramOp c) (u.verdict c St.penImageSig (m.length - 96))))
    ∧ (u.bankFree c = St.ok → sigOk = true → 104 ≤ m.length → 0x10 ≤ bytesAt m (m.length - 104) 1 → u.keyLive (bytesAt m (m.length - 104) 1) = true →
      ∀ st off, Pen.verify m 5 (u.floorOf 4) = (st, off) →
      exec (.programVerify n c sigOk) s = .next (answered s n 2 (Obj.coreProgramOp c) (if st = St.ok then (u.setReg (State.bankKey c (u.idleBank c)) 2).verdict c St.ok 0
        else (u.setReg (State.bankKey c (u.idleBank c)) 1).verdict c st off))))
  ∧ (∀ (s : State) (n c : Nat), Takes s n (Obj.coreProgramOp c) [2] →
    let u := s.heard n
    u.bankFree c = St.ok → exec (.programEmpty n c) s
      = .next (answered s n 2 (Obj.coreProgramOp c) ((if u.bankState c (u.idleBank c) = 1 ∨ u.bankState c (u.idleBank c) = 2 then u.emptyBank c (u.idleBank c) else u).verdict c St.ok 0)))
  ∧ (∀ (s : State), s.up = true → s.reg Reg.ensHalted ≠ 1 →
    (s.reg Reg.ensDown ≠ 1 → exec .ensLockstep s = .next (s.coreRaise 30 St.ensLockstep 4 []).pairRestart)
    ∧ (s.reg Reg.ensDown ≠ 0 → exec .ensPairRestarted s = .next s.pairReady))

/-- R365: the event queue of a core. Each source holds at most one entry; an occurrence whose source has an entry adds 1 to its COUNT, which saturates at
15, and replaces its DATA, and the entry keeps its place; another occurrence queues afresh at the end; so with 16 sources the queue holds at most 16
entries and drops none. -/
def Obligations.EventQueue : Prop :=
  ∀ (s : State) (c src data : Nat), src < 16 →
    let q : List Nat := s.coreQueue c
    let q' : List Nat := (s.coreEvent c src data).coreQueue c
    ((∀ e, e ∈ q → e / 4096 ≠ src) → q' = q ++ [4096 * src + 256 + data % 256])
    ∧ ((∃ e, e ∈ q ∧ e / 4096 = src) → q'.map (fun e => e / 4096) = q.map (fun e => e / 4096)
      ∧ ∀ (i e : Nat), (s.coreQueue c)[i]? = some e → ((s.coreEvent c src data).coreQueue c)[i]? = some (if e / 4096 = src then 4096 * src + 256 * min 15 (e / 256 % 16 + 1) + data % 256 else e))
    ∧ ((q.map (fun e => e / 4096)).Nodup → (∀ e, e ∈ q → e / 4096 < 16) →
      (q'.map (fun e => e / 4096)).Nodup ∧ (∀ e, e ∈ q' → e / 4096 < 16) ∧ q'.length ≤ 16)

/-- R366: words between sessions and cores. MailboxIn is answered BUSY and changes nothing while mbx holds an unread word, and is taken otherwise; SEND to
a core of another world is fault 5, to one whose peerin holds an unread word sends nothing and clears Z, and otherwise writes g[rd] to its peerin and
sets Z. -/
def Obligations.CoreMessages : Prop :=
  (∀ (s : State) (n c : Nat) (v : Bytes), Takes s n (Obj.coreMailboxIn c) v →
    ((s.heard n).reg (Reg.coreMbxNew c) = 1 → exec (.mailboxIn n c v) s = .next (answered s n 2 (Obj.coreMailboxIn c) ((s.heard n).reply St.busy)))
    ∧ ((s.heard n).reg (Reg.coreMbxNew c) ≠ 1 →
      exec (.mailboxIn n c v) s = .next (answered s n 2 (Obj.coreMailboxIn c) (((((s.heard n).setRegs [(Reg.coreMbx c, leNat v), (Reg.coreMbxNew c, 1)]).coreEvent c 12 (leNat v % 256))).reply St.ok))))
  ∧ ∀ (s u : State) (c w : Nat), Meets s c .send w u → let p := u.reg (Reg.corePeer c)
    let f := u.reg (Reg.coreFlags c)
    (p ≤ 31 → u.coreWorld p = u.coreWorld c → u.reg (Reg.corePeerNew p) ≠ 1 → exec (.send c) s = .next ((((u.setRegs [(Reg.corePeerIn p, u.g c (Pen.rd w)), (Reg.corePeerNew p, 1)]).coreEvent p 15
      (u.g c (Pen.rd w) % 256)).setReg (Reg.coreFlags c) (Pen.withZ f true)).coreNext c))
    ∧ (p ≤ 31 → u.coreWorld p = u.coreWorld c → u.reg (Reg.corePeerNew p) = 1 → exec (.send c) s = .next ((u.setReg (Reg.coreFlags c) (Pen.withZ f false)).coreNext c))
    ∧ (31 < p ∨ u.coreWorld p ≠ u.coreWorld c → exec (.send c) s = .next (u.coreFault c 5 p))
    ∧ bit (Pen.withZ f true) 0 = true ∧ bit (Pen.withZ f false) 0 = false

/-! ## Chapters 16 and 17: checks, trust, update -/

/-- R383 to R389: check units. FeedData is taken with FeedSource 0xFF: in stream mode it feeds the running value, in record mode it is one record whose
result is the answer; RunningValue and the settings restart or re-derive the result; a compare tells whether Result equals Expected and counts a
mismatch; a restart returns to Init, a resync returns the alive streams to their first state. -/
def Obligations.CheckUnits : Prop :=
  ∀ (s : State) (n u : Nat),
    let t := s.heard n
    (∀ v, Takes s n (Obj.chkFeedData u) v →
      (t.reg (Obj.chkFeedSource u) ≠ 0xFF → exec (.feedData n u v) s = .next (answered s n 2 (Obj.chkFeedData u) (t.reply St.chkFeedDenied)))
      ∧ (t.reg (Obj.chkFeedSource u) = 0xFF → t.reg (Obj.chkRecordMode u) = 0 → exec (.feedData n u v) s = .next (answered s n 2 (Obj.chkFeedData u) ((t.chkFeed u v).reply St.ok)))
      ∧ (t.reg (Obj.chkFeedSource u) = 0xFF → t.reg (Obj.chkRecordMode u) = 1 → 0 < v.length → v.length ≤ 64 →
        exec (.feedData n u v) s = .next (answered s n 2 (Obj.chkFeedData u) ((t.chkRecord u 0x200 v).1.reply (t.chkRecord u 0x200 v).2))))
    ∧ (∀ v, Takes s n (Obj.chkRunningValue u) v → exec (.runningValueWrite n u v) s = .next (answered s n 2 (Obj.chkRunningValue u) ((t.chkSet u (leNat v % 2 ^ t.chkWidth u)).reply St.ok)))
    ∧ (∀ sub v, 1 ≤ sub → sub ≤ 5 → Takes s n (okey (0x7000 + 0x40 * u) sub) v →
      ((sub = 1 ∨ sub = 5 ∨ leNat v < 2 ^ t.chkWidth u) → exec (.crcSettingWrite n u sub v) s
        = .next (answered s n 2 (okey (0x7000 + 0x40 * u) sub) ((if sub = 4 then (t.setReg (okey (0x7000 + 0x40 * u) sub) (leNat v)).chkDerive u else (t.setReg (okey (0x7000 + 0x40 * u) sub) (leNat v)).chkRestart u).reply St.ok)))
      ∧ (2 ≤ sub → sub ≤ 4 → 2 ^ t.chkWidth u ≤ leNat v → exec (.crcSettingWrite n u sub v) s = .next (answered s n 2 (okey (0x7000 + 0x40 * u) sub) (t.reply St.valueRange))))
    ∧ (Takes s n (Obj.chkCompareOp u) [1] → let c := t.count (472 + u) 1
      (c.reg (Obj.chkResult u) = c.reg (Obj.chkExpected u) % 2 ^ c.chkWidth u →
        exec (.compare n u) s = .next (answered s n 2 (Obj.chkCompareOp u) (((c.setReg (Obj.chkCompareResult u) 1).chkTell u 1).reply St.ok)))
      ∧ (c.reg (Obj.chkResult u) ≠ c.reg (Obj.chkExpected u) % 2 ^ c.chkWidth u → exec (.compare n u) s
        = .next (answered s n 2 (Obj.chkCompareOp u) (((((c.setReg (Obj.chkCompareResult u) 2).bump (Obj.chkFails u) 32).chkTell u 2).oncePerSecond (Reg.chkEventAt u)
          (fun x => x.raise [x.blockDest (0xA2 + u)] (0xA2 + u) St.chkMismatch (x.reg (Reg.blockHolder (0xA2 + u))) 2 [(8, x.reg (Obj.chkResult u))])).reply St.ok))))
    ∧ (Takes s n (Obj.chkCompareOp u) [2] → exec (.restartAtInit n u) s = .next (answered s n 2 (Obj.chkCompareOp u) ((t.chkSet u (t.reg (Obj.chkInit u) % 2 ^ t.chkWidth u)).reply St.ok)))
    ∧ (Takes s n (Obj.chkCompareOp u) [3] → exec (.aliveResync n u) s = .next (answered s n 2 (Obj.chkCompareOp u) ((t.aliveResync u).reply St.ok)))

/-- R387, R388: the alive checker. The first value of a stream is accepted, then a step from 1 to AliveGap; a value that repeats the last accepted one and
a step beyond the gap are refused and leave the last value as it was; with eight other tags in use no ninth is taken. -/
def Obligations.AliveChecks : Prop :=
  ∀ (s : State) (u tag w v k : Nat),
    (s.chkSlot u tag = none → s.aliveCheck u tag w v = (s, St.limitReached))
    ∧ (s.chkSlot u tag = some k → v < 2 ^ w → s.aliveLast u k < 2 ^ w →
      (s.reg (Reg.chkLast u k) = 0 → (s.aliveCheck u tag w v).2 = St.ok)
      ∧ (s.reg (Reg.chkLast u k) ≠ 0 → s.reg (Obj.chkAliveGap u) < 2 ^ w →
        ((v = s.aliveLast u k → s.aliveCheck u tag w v = (s, St.chkAliveRepeat))
        ∧ ∀ d, 1 ≤ d → d < 2 ^ w → v = (s.aliveLast u k + d) % 2 ^ w →
          (d ≤ s.reg (Obj.chkAliveGap u) → (s.aliveCheck u tag w v).2 = St.ok) ∧ (s.reg (Obj.chkAliveGap u) < d → s.aliveCheck u tag w v = (s, St.chkAliveGap)))))

/-- R397 to R401: the crypto engine. A job that the engine takes waits with result BUSY and starts on a free lane; a session that has a job is answered
BUSY; a running job ends with the result of its operation under the key it was bound to as it started, a generated key pair entering its slot. A
failed health test stops the generator until its start-up test passes (R399). The algorithms are those of the published standards (presumed, log 17),
the tweak of XTS is free (log 25). -/
def Obligations.CryptoJobs : Prop :=
  (∀ (s : State) (n : Nat), let t := s.heard n
    (Submits s n 0x01 → exec (.sha256 n) s = .next (answered s n 2 Obj.cryptoOp (submitted t n 0x01))) ∧ (Submits s n 0x02 → exec (.sha384 n) s = .next (answered s n 2 Obj.cryptoOp (submitted t n 0x02)))
    ∧ (Submits s n 0x03 → exec (.sha512 n) s = .next (answered s n 2 Obj.cryptoOp (submitted t n 0x03))) ∧ (Submits s n 0x10 → exec (.aesGcmEncrypt n) s = .next (answered s n 2 Obj.cryptoOp (submitted t n 0x10)))
    ∧ (Submits s n 0x11 → exec (.aesGcmDecrypt n) s = .next (answered s n 2 Obj.cryptoOp (submitted t n 0x11))) ∧ (Submits s n 0x12 → exec (.cmacGenerate n) s = .next (answered s n 2 Obj.cryptoOp (submitted t n 0x12)))
    ∧ (Submits s n 0x13 → exec (.cmacVerify n) s = .next (answered s n 2 Obj.cryptoOp (submitted t n 0x13))) ∧ (Submits s n 0x14 → exec (.xtsEncrypt n) s = .next (answered s n 2 Obj.cryptoOp (submitted t n 0x14)))
    ∧ (Submits s n 0x15 → exec (.xtsDecrypt n) s = .next (answered s n 2 Obj.cryptoOp (submitted t n 0x15))) ∧ (Submits s n 0x20 → exec (.ecdsaSign n) s = .next (answered s n 2 Obj.cryptoOp (submitted t n 0x20)))
    ∧ (Submits s n 0x21 → exec (.ecdsaVerify n) s = .next (answered s n 2 Obj.cryptoOp (submitted t n 0x21))) ∧ (Submits s n 0x22 → exec (.ecdh n) s = .next (answered s n 2 Obj.cryptoOp (submitted t n 0x22)))
    ∧ (Submits s n 0x23 → exec (.keyGeneration n) s = .next (answered s n 2 Obj.cryptoOp (submitted t n 0x23))) ∧ (Submits s n 0x24 → exec (.ed25519Verify n) s = .next (answered s n 2 Obj.cryptoOp (submitted t n 0x24)))
    ∧ (Submits s n 0x30 → exec (.randomBytes n) s = .next (answered s n 2 Obj.cryptoOp (submitted t n 0x30))))
  ∧ (∀ (s : State) (n op : Nat), Takes s n Obj.cryptoOp (leBytes 1 op) → (s.heard n).jobOf n ≠ none → cryptoOp n op s = (s.heard n).reply St.busy)
  ∧ (∀ (s : State) (n : Nat) (j : Job), s.up = true → s.jobOf n = some j → j.running = true →
    let u := if Crypto.isRandom j.op then s.tick else s
    let x := Crypto.result j.op j.kind j.key j.pub j.input s.fresh
    (j.op ≠ 0x23 → exec (.cryptoJobDone n) s = .next (State.jobsStart ((u.jobEnd j x.1 x.2).jobs.length + 2) (u.jobEnd j x.1 x.2)))
    ∧ (j.op = 0x23 → u.slotWritable j.slot = St.ok →
      let g := Key.generated j.kind s.fresh
      let e := (u.slotPut j.slot (u.reg (Obj.slotHolder j.slot)) j.kind (u.reg (Obj.slotUsage j.slot)) g.1 g.2).jobEnd j x.1 x.2
      exec (.cryptoJobDone n) s = .next (State.jobsStart (e.jobs.length + 2) e)))
  ∧ (∀ s : State, (s.reg Reg.rngStopped ≠ 1 → exec .cryptoRngFail s = .next ((s.setReg Reg.rngStopped 1).raise [.hal, .owner] U.sec St.cryptoRngFail 0xFF 3 []))
    ∧ exec .rngStartupTestPass s = .next (s.setReg Reg.rngStopped 0))

/-- R391, R393, R394, R404: the security unit. A ticket that its checks pass changes the owner, and OwnerStatus keeps the status of every ticket; the
lifecycle advances one state for a session that may; a report of the measurements is signed with the identity key. R400, R402: key operations. A
generated or imported key enters the slot that KeySlot names, under the holder the slot has or is granted, with its generation one further; an
occupied slot is erased at once, or when the jobs bound to it have ended; an EMPTY one is answered KEY_EMPTY. The algorithms are those of the
published standards (presumed, log 17); that a signature verifies is an operand (log 33). -/
def Obligations.SecurityUnit : Prop :=
  ((∀ (s : State) (n : Nat) (sigOk : Bool), Takes s n Obj.ownerOp [1] →
    let t := s.heard n
    let d := decDomain (t.reg Obj.ownerTicket)
    (t.ticketStatus d sigOk = St.ok → exec (.ownerTicket n sigOk) s = .next (answered s n 2 Obj.ownerOp (((t.ticketRun d).setReg Obj.ownerStatus St.ok).reply St.ok)))
    ∧ (t.ticketStatus d sigOk ≠ St.ok → exec (.ownerTicket n sigOk) s = .next (answered s n 2 Obj.ownerOp ((t.setReg Obj.ownerStatus (t.ticketStatus d sigOk)).reply (t.ticketStatus d sigOk))))
    ∧ (sigOk = false → t.reg Obj.lifecycleState ≠ 4 → t.ticketStatus d sigOk = St.ownerTicketInvalid))
  ∧ (∀ (s : State) (n : Nat), Serves s n → (s.heard n).reg (Reg.sessPending n) ≠ 1 →
    ((s.heard n).lifecycleStatus n = St.ok → exec (.lifecycleAdvance n) s = .next (answered s n 2 Obj.lifecycleState (((s.heard n).lifecycleTo ((s.heard n).reg Obj.lifecycleState + 1)).reply St.ok)))
    ∧ ((s.heard n).lifecycleStatus n ≠ St.ok → exec (.lifecycleAdvance n) s = .next (answered s n 2 Obj.lifecycleState ((s.heard n).reply ((s.heard n).lifecycleStatus n)))))
  ∧ (∀ (s : State) (n : Nat), Takes s n Obj.attestOp [1] →
    let t := s.heard n
    let x := t.identitySign (t.attestBody n)
    t.signStatus = St.ok →
      exec (.attest n) s = .next (answered s n 2 Obj.attestOp ((x.2.setRegs [(skey n Obj.attestStatus, St.ok), (skey n Obj.attestReport, encDomain (t.attestBody n ++ x.1))]).reply St.ok))))
  ∧ (∀ (s : State) (n w : Nat),
    let t := s.heard n
    let k := t.reg (skey n Obj.keySlot)
    let kind := t.reg (skey n Obj.keyKind)
    let put := fun (t : State) (key pub : Nat) =>
      (t.slotPut (t.reg (skey n Obj.keySlot)) (t.slotOwner (t.reg (skey n Obj.keySlot)) (slotWorld k w)) (t.reg (skey n Obj.keyKind)) (t.reg (skey n Obj.keyUsage)) key pub).keyAnswer n St.ok
    (Keys s n 1 → 1 ≤ kind → kind ≤ 3 → t.reg Reg.rngStopped ≠ 1 → t.tick.slotWritable (t.tick.reg (skey n Obj.keySlot)) = St.ok →
      exec (.keyopGenerate n w) s = .next (answered s n 2 Obj.keyOp (put t.tick (Key.generated kind t.fresh).1 (Key.generated kind t.fresh).2)))
    ∧ (Keys s n 2 → t.mayPlain n = true → t.slotWritable k = St.ok → ∀ key pub, Key.imported kind (decDomain (t.reg (skey n Obj.keyData))) = (St.ok, key, pub) →
      exec (.keyopImportPlain n w) s = .next (answered s n 2 Obj.keyOp (put t key pub)))
    ∧ (Keys s n 2 → t.mayPlain n = false → exec (.keyopImportPlain n w) s = .next (answered s n 2 Obj.keyOp (t.keyAnswer n St.accessDenied)))
    ∧ (Keys s n 3 → let u := t.reg (skey n Obj.cryptoSlot)
      u < 32 → t.slotSealed u = false → t.reg (Obj.slotState u) = 1 → t.reg (Obj.slotHolder u) = t.reg (Reg.sessWorld n) → t.reg (Obj.slotKind u) = 1 → bit (t.reg (Obj.slotUsage u)) 6 = true →
      Crypto.inputOk 0x11 1 (decDomain (t.reg (skey n Obj.keyData))) = true → t.slotWritable k = St.ok →
      ∀ d key pub, Crypto.result 0x11 1 (t.reg (Reg.slotKey u)) 0 (decDomain (t.reg (skey n Obj.keyData))) 0 = (St.ok, d) → Key.imported kind d = (St.ok, key, pub) →
      exec (.keyopImportWrapped n w) s = .next (answered s n 2 Obj.keyOp (put t key pub)))
    ∧ (Keys s n 4 → t.slotSealed k = true → exec (.keyopErase n) s = .next (answered s n 2 Obj.keyOp (t.keyAnswer n St.identityUnavailable)))
    ∧ (Keys s n 4 → t.slotSealed k = false →
      (t.reg (Obj.slotState k) = 0 → exec (.keyopErase n) s = .next (answered s n 2 Obj.keyOp (t.keyAnswer n St.keyEmpty)))
      ∧ (t.reg (Obj.slotState k) ≠ 0 → exec (.keyopErase n) s = .next (answered s n 2 Obj.keyOp ((t.slotErase k (t.sessDest n + 1)).keyAnswer n St.ok)))))

/-- R408, R409, R411 to R413, R417 to R420: the update unit. A header that passes its checks is kept and the unit receives; segments of the body follow in
order; UpdOp is answered UPD_STATE in a wrong state; a schedule at 0 activates at once, a cancel empties the unit, a trial ends by UpdOp 3 or 4 or by
its hours; floors rise only for the owner, within what runs. That a signature verifies is an operand (log 33); a deadline acts when its command comes
(the model's choice, log 30). -/
def Obligations.Updates : Prop :=
  (∀ (s : State) (n : Nat) (v : Bytes) (sigOk : Bool) (st e : Nat), Takes s n Obj.updHeader v →
    let t := s.heard n
    t.headerStatus v sigOk (t.reg Obj.updState == 0) = (st, e) →
    (st ≠ St.ok → exec (.updHeader n v sigOk) s = .next (answered s n 2 Obj.updHeader (t.updAnswer st e)))
    ∧ (st = St.ok → exec (.updHeader n v sigOk) s = .next (answered s n 2 Obj.updHeader ((((((t.setFifo Fifo.updHeader [v]).setFifo Fifo.updBody [[]]).setRegs [(Reg.updSession, n + 1),
      (Reg.updFlags, b2n (bit (Upd.flags v) 0)), (Reg.updClass5, if Upd.recovery v then Upd.rollback v + 1 else 0)])).updTo 1).updAnswer St.ok 0))))
  ∧ (∀ (s : State) (n off : Nat) (last : Bool) (v : Bytes) (bad : List Nat) (innerOk : Bool), Passes s n Obj.updBody →
    let t := s.heard n
    let old := (t.fifo Fifo.updBody).headD []
    let d := t.updHeaderNow
    (t.reg Obj.updState ≠ 1 → exec (.updBody n off last v bad innerOk) s = .next (answered s n 2 Obj.updBody (t.updAnswer St.updState 0)))
    ∧ (t.reg Obj.updState = 1 → 4096 ≤ off → off ≠ 4096 + old.length → exec (.updBody n off last v bad innerOk) s = .next (answered s n 2 Obj.updBody (t.updAnswer St.domainOrder 0)))
    ∧ (t.reg Obj.updState = 1 → off = 4096 + old.length → t.reg Reg.updSession = n + 1 → 4096 + old.length + v.length ≤ Upd.length d → last = false →
      State.touched d (4096 + old.length) (4096 + old.length + v.length) = [] → State.begun d (4096 + old.length) (4096 + old.length + v.length) = [] →
      State.ended d (4096 + old.length) (4096 + old.length + v.length) = [] → bad = [] →
      exec (.updBody n off last v bad innerOk) s = .next (answered s n 2 Obj.updBody ((t.setFifo Fifo.updBody [old ++ v]).updAnswer St.ok 0))))
  ∧ (∀ (s : State) (n : Nat), let t := s.heard n
    (Takes s n Obj.updOp [1] →
      (t.updScheduleStatus ≠ St.ok → exec (.updSchedule n) s = .next (answered s n 2 Obj.updOp (t.updAnswer t.updScheduleStatus 0)))
      ∧ (t.updScheduleStatus = St.ok → exec (.updSchedule n) s
        = .next (answered s n 2 Obj.updOp (if ((t.updTo 3).updAnswer St.ok 0).reg Obj.updActivateAt = 0 then ((t.updTo 3).updAnswer St.ok 0).updActivate else (t.updTo 3).updAnswer St.ok 0))))
    ∧ (Takes s n Obj.updOp [2] →
      ((t.reg Obj.updState = 2 ∨ t.reg Obj.updState = 3) → exec (.updCancel n) s = .next (answered s n 2 Obj.updOp (t.updIdle.updAnswer St.ok 0)))
      ∧ (t.reg Obj.updState ≠ 2 → t.reg Obj.updState ≠ 3 → exec (.updCancel n) s = .next (answered s n 2 Obj.updOp (t.updAnswer St.updState 0))))
    ∧ (Takes s n Obj.updOp [3] →
      (t.reg Obj.updState = 5 → exec (.updConfirm n) s = .next (answered s n 2 Obj.updOp (t.updConfirm.updAnswer St.ok 0))) ∧ (t.reg Obj.updState ≠ 5 → exec (.updConfirm n) s = .next (answered s n 2 Obj.updOp (t.updAnswer St.updState 0))))
    ∧ (Takes s n Obj.updOp [4] →
      (t.reg Obj.updState = 5 → exec (.updReject n) s = .next (answered s n 2 Obj.updOp t.updRejectOp)) ∧ (t.reg Obj.updState ≠ 5 → exec (.updReject n) s = .next (answered s n 2 Obj.updOp (t.updAnswer St.updState 0))))
    ∧ (Takes s n Obj.updOp [5] → t.reg Obj.updFloorClass = 3 →
      (∀ p, t.activePkg = some p → t.cls n = Cls.own → t.reg Obj.updFloorStep ≤ p.rollback →
        exec (.updRaiseFloor n) s = .next (answered s n 2 Obj.updOp ((t.floorRaise 3 (t.reg Obj.updFloorStep)).updAnswer St.ok 0)))
      ∧ (t.cls n ≠ Cls.own → exec (.updRaiseFloor n) s = .next (answered s n 2 Obj.updOp (t.updAnswer St.updRollback 0))))
    ∧ (∀ file sigOk bad innerOk, Takes s n Obj.updOp [6] → file ≠ [] → U.usbHost 0 ≤ t.reg Obj.updUsbPort → t.reg Obj.updUsbPort ≤ U.usbHost 0 + 1 → t.cls n = Cls.own →
      let h := t.updHeaderWrite n (file.take 4096) sigOk
      exec (.updLoadUsb n file sigOk bad innerOk) s = .next (answered s n 2 Obj.updOp (if h.reg Obj.updStatus ≠ St.ok then h else h.updBodyWrite n 4096 true (file.drop 4096) bad innerOk))))
  ∧ (∀ s : State, s.up = true →
    (s.reg Obj.updState = 3 → s.reg Obj.updActivateAt ≤ s.now → s.reg Obj.powerState ≠ 4 → s.locked = true → exec .updActivation s = .next s.updActivate)
    ∧ (s.reg Obj.updState = 3 → s.reg Obj.updActivateAt ≤ s.now → s.reg Obj.powerState ≠ 4 → s.locked = false → exec .updActivation s
      = .next (((s.updTo 2).raise [.hal, .owner] U.upd St.updSchedMissed 0xFF 2 [(8, s.reg Obj.updActivateAt)]).hoistMissed (s.reg Obj.updStagedVersion)))
    ∧ (s.reg Obj.updState ≠ 3 ∨ s.now < s.reg Obj.updActivateAt ∨ s.reg Obj.powerState = 4 → exec .updActivation s = .next s)
    ∧ (s.reg Obj.updState = 5 → s.reg Obj.updTrialHours ≠ 0 → s.reg Reg.updTrialFrom + s.reg Obj.updTrialHours ≤ s.hoursNow → exec .updTrialExpiry s = .next s.updConfirm)
    ∧ (s.reg Obj.updState ≠ 5 ∨ s.reg Obj.updTrialHours = 0 ∨ s.hoursNow < s.reg Reg.updTrialFrom + s.reg Obj.updTrialHours → exec .updTrialExpiry s = .next s))

/-! ## Chapters 18 and 19: journal, power -/

/-- R426, R430, R435, R440, R488: the journal. Its tail shrinks by what MRAM has accepted; near its last SEQ it tells so once a day, and at the last a
commit is refused; a live unit that its parent resets begins anew, its items resolved;
an export holds the records from ExportFromSeq on, signed with the identity key, and is refused outside the records held. R390, R414 to R416, R421,
R444, R448 to R452: the power unit and Halyard. A flush ends in a warm start where VMAIN is valid and the supplies were its cause, else OFF; the boot
ROM hands over, or enters recovery where OTP or no image verifies; a return and a start end in SERVICE; a watchdog restarts Halyard, which serves
again once it is done. A deadline acts when its command comes (the model's choice, log 30). -/
def Obligations.JournalAndPower : Prop :=
  ((∀ (s : State) (k : Nat),
    let t := s.setReg Obj.jnlTailBytes (s.reg Obj.jnlTailBytes - k)
    let day := s.now / 86400000000000 + 1
    (s.up = false ∨ s.reg Obj.jnlNextSeq < 2 ^ 48 - 2 ^ 32 ∨ s.reg Reg.jnlLimitDay = day → exec (.journalDrain k) s = .next t)
    ∧ (s.up = true → 2 ^ 48 - 2 ^ 32 ≤ s.reg Obj.jnlNextSeq → s.reg Reg.jnlLimitDay ≠ day →
      exec (.journalDrain k) s = .next ((t.setReg Reg.jnlLimitDay day).raise [.hal, .owner] U.jnl St.limitReached 0xFF 3
        [(1, 0), (4, min 0xFFFFFFFF (2 ^ 48 - 1 - s.reg Obj.jnlNextSeq)), (1, 0xFF)])))
  ∧ (∀ (s : State) (n hdl at' : Nat), s.jnlFull = true → s.commitCheck n hdl at' = (St.limitReached, 0, 0))
  ∧ (∀ (s : State) (h : Nat) (ok : Bool) (v : List Nat), s.up = true → s.unitThere h = true → s.reg (Reg.unitState h) ≠ 0 → s.reg (Reg.unitState h) ≠ 5 →
    let r := Jnl.corrupt ((if ok then s else Jnl.settingsLost s h).unitRestarted h) v
    let u := (r.items.filter (Jnl.ofUnit h)).foldl (fun (s : State) i => s.itemReturn i (Jnl.lost v i) 1) r
    exec (.unitReset h ok v) s = .next (if unitType h = 0x0050 then (u.touchStop (h - 0x52)).blockStart h
      else if unitType h = 0x0059 then (u.hapHalt (State.hapOf h).1 (State.hapOf h).2).blockStart h else u))
  ∧ (∀ (s : State) (h : Nat) (ok : Bool) (v : List Nat), s.up = true → s.unitThere h = false → exec (.unitReset h ok v) s = .next s)
  ∧ (∀ (s : State) (h : Nat) (ok : Bool) (v : List Nat), s.up = true → s.reg (Reg.unitState h) = 0 ∨ s.reg (Reg.unitState h) = 5 → exec (.unitReset h ok v) s = .next s)
  ∧ (∀ (s : State) (n : Nat), Takes s n Obj.exportOp [1] →
    let t := s.heard n
    let q := t.reg (skey n Obj.exportFromSeq)
    (q < Jnl.oldest t ∨ t.reg Obj.jnlNextSeq < q → exec (.exportBuild n) s = .next (answered s n 2 Obj.exportOp (Jnl.answer t n St.jnlExportRange)))
    ∧ (Jnl.oldest t ≤ q → q ≤ t.reg Obj.jnlNextSeq → t.signStatus = St.ok →
      let x := t.identitySign (Jnl.body t n)
      exec (.exportBuild n) s = .next (answered s n 2 Obj.exportOp (Jnl.answer (x.2.setReg (skey n Obj.exportData) (encDomain (Jnl.body t n ++ x.1))) n St.ok)))))
  ∧ ((∀ s : State, s.reg Obj.powerState = 5 →
    let warm := s.reg Reg.vmainOk == 1 && s.reg Reg.flushCause == 1
    let u := s.setRegs [(Obj.lastFlushBytes, s.reg Obj.jnlTailBytes), (Reg.bootKind, b2n warm)]
    let t := u.powerTo (b2n warm) (u.reg Reg.flushCause)
    exec .flushComplete s = .next ((State.setReg { t with journal := t.journal.modifyHead (fun r => { r with tail := true }) } Obj.jnlTailBytes 0).ioDerive.tryBoot))
  ∧ (∀ s : State, s.reg Obj.powerState = 6 →
    (s.starting = false → exec .returnComplete s = .next s.returnDone) ∧ (s.starting = true → exec .returnComplete s = .next (s.startUpDone [] []).started))
  ∧ (∀ (s : State) (puf : Nat) (a b : Bool) (lost corrupt : List Nat), s.reg Obj.powerState = 1 → s.reg Reg.scanOpen ≠ 1 →
    exec (.bootHandover false puf a b lost corrupt) s = .next (s.enterRecovery.raise [.owner] U.sec St.otpMismatch 0xFF 3 [])
    ∧ exec (.bootHandover true puf false false lost corrupt) s = .next s.enterRecovery
    ∧ exec (.bootHandover true puf true true lost corrupt) s = .next (s.handover puf lost corrupt))
  ∧ (∀ (s : State) (silent untrained : List Nat),
    (s.reg Obj.powerState = 2 → exec (.startUpComplete silent untrained) s = .next (s.startUpDone silent untrained))
    ∧ (s.reg Obj.powerState = 6 → s.starting = true → exec (.startUpComplete silent untrained) s = .next (s.startUpDone silent untrained).started))
  ∧ (∀ s : State, (s.reg Reg.halServing ≠ 0 → exec .halyardWatchdog s = .next (s.setReg Reg.halDog 1).halDown)
    ∧ (s.reg Reg.halServing ≠ 1 → s.up = true → exec (.halyardRestartDone true) s = .next s.halServes ∧ exec (.halyardRestartDone false) s = .next s.halStartFailed)))

/-- R441 to R444, R446, R448, R449, R454: the supplies and the temperature. VMAIN that fails, is over or becomes valid, VBAK at its thresholds,
RemoteOffInput, RESET_N and the junction temperature lead from each power state to the one the table gives. -/
def Obligations.Supplies : Prop :=
  (∀ (s : State) (v b : Nat),
    (v < 8400 → exec (.vmainFail v b) s = .next (((s.setReg Obj.vmainMv v).vbakSeen b).vmainGone b)) ∧ (8400 ≤ v → exec (.vmainFail v b) s = .next s)
    ∧ (38000 < v → s.reg Reg.vmainOver ≠ 1 → s.reg Obj.powerState = 0 → exec (.vmainOver v b) s = .next (((s.setRegs [(Obj.vmainMv, v % 65536), (Reg.vmainOver, 1)]).vbakSeen b).vmainGone b))
    ∧ (38000 < v → s.reg Reg.vmainOver ≠ 1 → s.reg Obj.powerState ≠ 0 →
      exec (.vmainOver v b) s = .next ((((s.setRegs [(Obj.vmainMv, v % 65536), (Reg.vmainOver, 1)]).raise [.hal, .owner] U.pwr St.pwrVmainOver 0xFF 3 [(2, v)]).vbakSeen b).vmainGone b))
    ∧ (v ≤ 38000 → exec (.vmainOver v b) s = .next s)
    ∧ exec (.vbakLow b) s = .next (s.vbakSeen b) ∧ exec (.vbakAbsent b) s = .next (s.vbakSeen b))
  ∧ (∀ (s : State) (v : Nat) (drift : List Nat),
    let t := s.setRegs [(Obj.vmainMv, v % 65536), (Reg.vmainOk, 1), (Reg.vmainOver, 0)]
    (v ≤ 8800 → exec (.vmainValid v drift) s = .next s)
    ∧ (8800 < v → v < 36000 → s.reg Obj.powerState = 4 → s.reg Reg.holdupCause = 1 → exec (.vmainValid v drift) s = .next (t.beginReturn drift))
    ∧ (8800 < v → v < 36000 → s.reg Obj.powerState ≠ 4 → exec (.vmainValid v drift) s = .next t.tryBoot))
  ∧ (∀ (s : State) (b : Nat), (2900 ≤ b → exec (.vbakFlushTrigger b) s = .next s)
    ∧ (b < 2900 → exec (.vbakFlushTrigger b) s = .next (if (s.vbakSeen b).reg Obj.powerState = 4 then (s.vbakSeen b).enterFlush 1 else s.vbakSeen b)))
  ∧ (∀ s : State, let p := s.reg Obj.powerState
    (s.reg Obj.remoteOffInput ≠ 0xFF → (p = 2 ∨ p = 3 ∨ p = 4 ∨ p = 6) → exec .remoteOff s = .next ((s.setReg Reg.remoteOff 1).enterFlush 3))
    ∧ (s.reg Obj.remoteOffInput = 0xFF → exec .remoteOff s = .next s) ∧ exec .remoteOffRelease s = .next (s.setReg Reg.remoteOff 0).tryBoot
    ∧ ((p = 2 ∨ p = 3 ∨ p = 4 ∨ p = 6) → exec .resetN s = .next ((s.setReg Reg.resetN 1).enterFlush 2)) ∧ exec .resetNRelease s = .next (s.setReg Reg.resetN 0).tryBoot)
  ∧ (∀ (s : State) (k : Int), let p := s.reg Obj.powerState
    (1250 ≤ k → (p = 2 ∨ p = 3 ∨ p = 4 ∨ p = 6) → s.reg Reg.thermalHigh = 1 → s.reg Reg.thermalShed ≠ 1 →
      exec (.thermalHigh k) s = .next ((s.setReg Reg.thermalShed 1).shedLoad ((List.range 4).map (fun d => s.reg (Reg.shedAmount d)))))
    ∧ (k < 1250 → exec (.thermalHigh k) s = .next s)
    ∧ (1350 ≤ k → p = 3 → exec (.thermalTrip k) s = .next ((s.enterHoldup 2).raise [.hal, .owner] U.pwr St.pwrThermalTrip 0xFF 3 []))
    ∧ (k < 1350 → exec (.thermalTrip k) s = .next s)
    ∧ (1450 ≤ k → (p = 2 ∨ p = 3 ∨ p = 4 ∨ p = 6) → exec (.thermalShutdown k) s = .next ((s.enterFlush 4).setReg Reg.thermalLock 1))
    ∧ (k < 1450 → exec (.thermalShutdown k) s = .next s)
    ∧ ∀ drift, p = 4 → s.reg Reg.holdupCause = 2 → s.reg Reg.vmainOk ≠ 0 → exec (.thermalRecover drift) s = .next (s.beginReturn drift))

/-- R445: a write of HoldupHeads that names more than two heads, or a head whose pixel clock exceeds 600,000 kHz, is refused with PWR_HOLDUP_BUDGET, and
nothing changes; any write to HoldupHeads, RemoteOffInput or HoldupLinks while PowerState is not SERVICE is answered BUSY; another write of
HoldupHeads, of HoldupLinks and of a free pin as RemoteOffInput takes effect. -/
def Obligations.HoldupConfiguration : Prop :=
  ∀ (s : State) (n sub : Nat) (v : Bytes), (sub = 1 ∨ sub = 3 ∨ sub = 4) → Takes s n (okey 0x301 sub) v →
    let t := s.heard n
    let heads := (List.range 8).filter (fun k => bit (leNat v) k)
    let tooFast := heads.any (fun k => decide (600000 < t.reg (Obj.pixelClockKhz k)))
    (t.reg Obj.powerState ≠ 3 → exec (.holdupConfigWrite n sub v) s = .next (answered s n 2 (okey 0x301 sub) (t.reply St.busy)))
    ∧ (t.reg Obj.powerState = 3 → sub = 1 → 2 < heads.length ∨ tooFast = true → exec (.holdupConfigWrite n sub v) s = .next (answered s n 2 (okey 0x301 sub) (t.reply St.pwrHoldupBudget)))
    ∧ (t.reg Obj.powerState = 3 → sub = 1 → heads.length ≤ 2 → tooFast = false → exec (.holdupConfigWrite n sub v) s = .next (answered s n 2 (okey 0x301 sub) ((t.setReg Obj.holdupHeads (leNat v)).reply St.ok)))
    ∧ (t.reg Obj.powerState = 3 → sub = 4 → exec (.holdupConfigWrite n sub v) s = .next (answered s n 2 (okey 0x301 sub) ((t.setReg Obj.holdupLinks (leNat v)).reply St.ok)))
    ∧ (t.reg Obj.powerState = 3 → sub = 3 → leNat v = 0xFF ∨ t.pinIsOut (leNat v) = false →
      exec (.holdupConfigWrite n sub v) s = .next (answered s n 2 (okey 0x301 sub) ((t.setReg Obj.remoteOffInput (leNat v)).reply St.ok))
      ∧ exec (.remoteOffInputWrite n v) s = .next (answered s n 2 Obj.remoteOffInput ((t.setReg Obj.remoteOffInput (leNat v)).reply St.ok)))
    ∧ (sub = 3 → t.reg Obj.powerState ≠ 3 → exec (.remoteOffInputWrite n v) s = .next (answered s n 2 Obj.remoteOffInput (t.reply St.busy)))

/-! ## Chapters 20 to 23: hoist, counters, connectors -/

/-- R455 to R459, R470 to R472: membership and links. A lone device joins, as manager, through the best standby link or later through the one that comes
up, unless its ID is held or the tree is too deep; it leaves and is lone again. A link that fails its bring-up stays failed until its retry; one of
another hoist or owner is refused; a link that is down loses its paths. R460 to R464, R470, R472: hoist time and frames. A member measures its offset
against its parent and slews by it, steps beyond 1 ms and locks after 16 exchanges within 12 ns; the manager slews to a selected time source; a frame
whose tag fails is counted and discarded; dictionary frames, heartbeats and contacts that arrive are taken. The cipher of the links is left out, so
that a tag holds is an operand (the model's choice, log 29). -/
def Obligations.Hoist : Prop :=
  ((∀ (s : State) (n : Nat) (held : Bool), Takes s n Obj.hoistOp [1] →
    let t := s.heard n
    (t.reg Obj.hoistState ≠ 0 ∨ t.reg Obj.cfgRole = 0 → exec (.hoistJoin n held) s = .next (answered s n 2 Obj.hoistOp (t.hoistAnswer n St.hoistState)))
    ∧ (t.reg Obj.hoistState = 0 → t.reg Obj.cfgRole = 1 → held = true →
      exec (.hoistJoin n held) s = .next (answered s n 2 Obj.hoistOp ((t.raise [.hal, .owner] U.fj St.hoistIdConflict 0xFF 2 []).hoistAnswer n St.hoistIdConflict)))
    ∧ (t.reg Obj.hoistState = 0 → t.reg Obj.cfgRole = 1 → held = false →
      let u := t.becomeMember.setRegs [(Obj.managerId, t.reg Obj.cfgDeviceId), (Obj.hopsToManager, 0), (Obj.parentLink, 0xFF)]
      exec (.hoistJoin n held) s = .next (answered s n 2 Obj.hoistOp ((u.hoistUnits.slotTo (u.reg Obj.deviceId) 1).hoistAnswer n St.ok)))
    ∧ (t.reg Obj.hoistState = 0 → 2 ≤ t.reg Obj.cfgRole → t.bestLink = none → exec (.hoistJoin n held) s = .next (answered s n 2 Obj.hoistOp ((t.setReg Obj.hoistState 1).hoistAnswer n St.ok)))
    ∧ (∀ l, t.reg Obj.hoistState = 0 → 2 ≤ t.reg Obj.cfgRole → t.bestLink = some l →
      exec (.hoistJoin n held) s = .next (answered s n 2 Obj.hoistOp ((t.joinVia l held).hoistAnswer n (t.joinStatus l held)))))
  ∧ (∀ (s : State) (n : Nat), Takes s n Obj.hoistOp [2] →
    ((s.heard n).reg Obj.hoistState = 0 → exec (.hoistLeave n) s = .next (answered s n 2 Obj.hoistOp ((s.heard n).hoistAnswer n St.hoistState)))
    ∧ ((s.heard n).reg Obj.hoistState ≠ 0 → exec (.hoistLeave n) s = .next (answered s n 2 Obj.hoistOp ((s.heard n).hoistLeave n))))
  ∧ (∀ (s : State) (l : Nat), s.up = true → l ≤ 3 → s.linkUp l = false → s.linkPowered l = true →
    (∀ auth peer serial hid same hops mgr held, exec (.hoistLinkUp l false auth peer serial hid same hops mgr held) s = .next (s.linkFail l))
    ∧ (∀ auth peer serial hid same hops mgr held, s.reg Reg.identityLost = 1 ∨ auth = false ∨ hid ≠ s.reg Obj.hoistId ∨ same = false →
      exec (.hoistLinkUp l true auth peer serial hid same hops mgr held) s = .next ((s.linkFail l).raise [.hal, .owner] U.fj St.hoistLinkAuth 0xFF 2 [(1, l)]))
    ∧ (∀ peer serial mgr held, s.reg Reg.identityLost ≠ 1 →
      exec (.hoistLinkUp l true true peer serial (s.reg Obj.hoistId) true 0xFF mgr held) s = .next ((s.linkRekey l).setRegs [(Reg.linkSeq l, 0), (Obj.hoistLinkState l, 4),
        (Obj.hoistPeerDevice l, peer), (Obj.hoistPeerSerial l, serial), (Reg.linkHops l, 0xFF), (Reg.linkRetry l, 0)])))
  ∧ (∀ (s : State) (l : Nat), s.up = true → l ≤ 3 →
    (s.linkPowered l = true → s.reg (Obj.hoistLinkState l) = 5 ∨ s.reg (Obj.hoistLinkState l) = 0 → s.reg (Reg.linkRetry l) ≤ s.now →
      exec (.hoistLinkRetry l) s = .next (s.setRegs [(Obj.hoistLinkState l, 1), (Reg.linkRetry l, s.now + 10000000000)]))
    ∧ (s.linkUp l = true → 0x100000000 ≤ s.reg (Reg.linkFrames l) → exec (.linkRekey l) s = .next (s.linkRekey l))
    ∧ (s.reg (Obj.hoistLinkState l) ≠ 0 → s.reg (Obj.hoistLinkState l) ≠ 5 → exec (.hoistLinkDown l) s = .next (s.linkDown l))
    ∧ ∀ kind a b, Hears s l → 2 ≤ (framed s l).reg Obj.hoistState → exec (.membership l true kind a b) s = .next ((framed s l).membership l kind a b))
  ∧ (∀ (s : State) (d : Nat), s.up = true → d ≤ 63 → s.reg Obj.hoistRole = 1 → d ≠ s.reg Obj.deviceId → s.reg (Reg.hoistSlot d) = 1 ∨ s.reg (Reg.hoistSlot d) = 2 →
    s.reg (Reg.hoistHb d) + 1000000 * s.reg Obj.workerLossMs ≤ s.now →
    exec (.hoistDeviceLost d) s = .next (((s.slotTo d 5).pathLost d).raise [.hal, .owner] U.fj St.hoistDeviceLost 0xFF 2 [(1, d)]))
  ∧ ∀ (s : State) (reach : Nat), s.up = true → s.reg Obj.hoistRole = 3 → 2 ≤ s.reg Obj.hoistState → s.reg Obj.deviceId = s.reg Obj.deputyId →
    s.reg Reg.mgrHb + 1000000 * s.reg Obj.managerLossMs ≤ s.now →
    let ms := s.reg Obj.hoistMembers
    let r := (reach ||| 2 ^ s.reg Obj.deviceId) &&& ms
    (popCount 64 ms < 2 * popCount 64 r →
      let t := s.forwardedClose (fun n => s.reg (Reg.sessFar n) / 65536 == s.reg Obj.managerId)
      let u := t.lockLatch.setRegs [(Obj.hoistRole, 1), (Obj.hoistState, 2), (Obj.managerId, t.reg Obj.deviceId), (Obj.hoistTerm, (t.reg Obj.hoistTerm + 1) % 0x100000000),
        (Obj.hopsToManager, 0), (Obj.parentLink, 0xFF), (Obj.timeLocked, 1), (Reg.hoistPart, 0), (Reg.slewLeft, 0), (Reg.ptpSince, t.now)]
      let v := (List.range 64).foldl (fun s d => if !bit ms d then s else if bit r d then (s.slotTo d 1).setReg (Reg.hoistHb d) s.now else (s.slotTo d 5).pathLost d) u
      exec (.hoistTakeover reach) s = .next (v.hoistUnits.raise [.hal, .owner] U.fj St.hoistTakeover 0xFF 2 [(4, v.reg Obj.hoistTerm)]))
    ∧ (2 * popCount 64 r ≤ popCount 64 ms → s.reg Reg.hoistPart ≠ 1 →
    exec (.hoistTakeover reach) s = .next ((s.setReg Reg.hoistPart 1).raise [.hal, .owner] U.fj St.hoistPartition 0xFF 3 [])))
  ∧ ((∀ (s : State) (t1 t2 t3 t4 : Nat), s.up = true → s.reg Obj.hoistState = 2 → s.reg Obj.hoistRole ≠ 1 →
    let ofs : Int := -((((t2 : Int) - t1) + ((t3 : Int) - t4)) / 2)
    let u := s.setRegs [(Obj.timeOffsetNs, ofSigned 4 ofs), (Obj.hoistLinkRttNs (s.reg Obj.parentLink), ((t4 - t1) - (t3 - t2)) % 0x100000000)]
    (12 < ofs.natAbs → ofs.natAbs ≤ 1000000 → exec (.timeExchange t1 t2 t3 t4) s = .next ((u.slew ofs 2000).setRegs [(Reg.timeLast, u.now), (Reg.timeGood, 0)]))
    ∧ (ofs.natAbs ≤ 12 → u.reg Reg.timeGood + 1 < 16 →
      exec (.timeExchange t1 t2 t3 t4) s = .next ((u.slew ofs 2000).setRegs [(Reg.timeLast, u.now), (Reg.timeGood, u.reg Reg.timeGood + 1)]))
    ∧ (ofs.natAbs ≤ 12 → 16 ≤ u.reg Reg.timeGood + 1 → exec (.timeExchange t1 t2 t3 t4) s
      = .next (((u.slew ofs 2000).setRegs [(Reg.timeLast, u.now), (Reg.timeGood, u.reg Reg.timeGood + 1)]).lockLatch.setReg Obj.timeLocked 1))
    ∧ (1000000 < ofs.natAbs →
      let v : State := { u.dropSchedules with now := ((u.now : Int) - ofs).toNat }
      exec (.timeExchange t1 t2 t3 t4) s = .next ((v.setRegs [(Reg.timeLast, v.now), (Reg.timeGood, 0), (Reg.slewLeft, 0), (Reg.mgrHb, v.now)]).raise [.hal, .owner] U.fj
        St.hoistTimeStepped 0xFF 1 [])))
  ∧ (∀ s : State, s.up = true →
    (s.reg Obj.hoistRole ≠ 0 → s.reg Obj.hoistRole ≠ 1 → s.reg Obj.timeLocked ≠ 0 → s.reg Reg.timeLast + 100000000 ≤ s.now → exec .timeLockTimeout s = .next s.timeUnlock)
    ∧ (s.reg Obj.hoistRole = 1 → s.reg Obj.timeSource = 1 → s.reg Reg.ptpSel ≠ 1 → s.reg Reg.ptpLost ≠ 1 → s.reg Reg.ptpSince + 10000000000 ≤ s.now →
      exec .hoistPtpLost s = .next ((s.setReg Reg.ptpLost 1).raise [.hal, .owner] U.fj St.hoistPtpLost 0xFF 2 []))
    ∧ ∀ ofs : Int, s.reg Obj.hoistRole = 1 → s.reg Obj.timeSource = 1 →
      (((s.setReg Reg.ptpSel 1).slew ofs 20000).reg Reg.ptpLost = 0 →
        exec (.ptpMessage (s.reg Obj.ptpPort) (s.reg Obj.ptpDomain) (s.reg Obj.ptpTransport) true ofs) s = .next ((s.setReg Reg.ptpSel 1).slew ofs 20000))
      ∧ (s.reg Reg.ptpSel ≠ 0 → exec (.ptpMessage (s.reg Obj.ptpPort) (s.reg Obj.ptpDomain) (s.reg Obj.ptpTransport) false ofs) s
        = .next (s.setRegs [(Reg.ptpSel, 0), (Reg.ptpSince, s.now), (Reg.slewLeft, 0)])))
  ∧ (∀ (s : State) (l src hops mgr term : Nat), Hears s l →
    let u := (((framed s l).setReg (Reg.linkHops l) (if hops = 0xFF then 0xFF else hops + 256 * mgr)).termMet l term).settleParent
    (u.reg Obj.hoistRole = 1 → src < 64 → exec (.hoistHeartbeat l true src true hops mgr term) s = .next (u.setReg (Reg.hoistHb src) u.now))
    ∧ (u.reg Obj.hoistRole ≠ 1 → exec (.hoistHeartbeat l true src false hops mgr term) s = .next u)
    ∧ (∀ dst w v, (framed s l).reg (Obj.hoistLinkState l) = 3 → dst = (framed s l).reg Obj.deviceId → w ≤ 63 → (framed s l).reg (Obj.worldState w) = 2 →
      exec (.contactForward l true dst src w v) s = .next ((framed s l).raise [.world w] src St.contact w 0 ((v.take 14).map (fun b => (1, b.toNat)))))
    ∧ (∀ sess cl w op flags idx sub off len v, (framed s l).accepts = true →
      let f := framed s l
      (∀ n, Dict.farSession f l src sess = some n →
        exec (.hoistDictRequest l true src sess cl w op flags idx sub off len v) s = .next (Dict.farServe f n src sess op flags idx sub off len v))
      ∧ (Dict.farSession f l src sess = none → f.sessionRoom 6 l = true →
        exec (.hoistDictRequest l true src sess cl w op flags idx sub off len v) s
          = .next (Dict.farServe ((f.openSession 6 l (cl % 6) w).setReg (Reg.sessFar (f.reg Reg.nextSession + 1)) (src * 65536 + sess)) (f.reg Reg.nextSession + 1) src sess op flags
            idx sub off len v))
      ∧ (Dict.farSession f l src sess = none → f.sessionRoom 6 l = false →
        exec (.hoistDictRequest l true src sess cl w op flags idx sub off len v) s = .next (f.hoistSend 0x81 src 3 sess (respRecord op idx sub off St.sessionLimit 0 []))))
    ∧ (∀ sess st v, (framed s l).reg (Reg.winWait sess) ≠ 0 →
      let i := (framed s l).reg (Reg.sessPort sess)
      exec (.hoistDictResponse l true sess st v) s = .next (State.posted { (framed s l).setReg (Reg.winWait sess) 0 with answer := ⟨st, v⟩ } sess ((framed s l).reg (Reg.mbOp i))
        ((framed s l).reg (Reg.mbKey i)) ((framed s l).reg (Reg.mbOff i)) ((framed s l).reg (Reg.mbTag i)) ((framed s l).reg (Reg.mbSeq i))))
    ∧ ∀ kind a b, exec (.membership l false kind a b) s = .next ((framed s l).bump (Obj.hoistLinkErrors l) 32)))

/-- R467 to R469: feeds. A feed that passes its checks runs and its layer shows it, and a refused one is answered with the reason; its source's engine
polls PRESENT and sends a copy when it has risen; data for the feed enters its present buffer, data for another device is passed on; after FeedHoldMs
without data the layer is black. The cipher of the links is left out (the model's choice, log 29); a deadline acts when its command comes (log 30). -/
def Obligations.Feeds : Prop :=
  (∀ (s : State) (n f src : Nat) (fits : Bool), Takes s n (Obj.feedOp f) [1] →
    let t := s.heard n
    let d := t.reg (Obj.feedSourceDevice f)
    (t.feedStatus f src fits ≠ St.ok → exec (.feedEnable n f src fits) s = .next (answered s n 2 (Obj.feedOp f) (t.reply (t.feedStatus f src fits))))
    ∧ (t.feedStatus f src fits = St.ok →
      let u := t.setRegs [(Obj.feedState f, 1), (Reg.feedRate f, t.feedRateOf f), (Reg.feedLink f, t.reg (Reg.hoistPath d)), (Reg.feedBuf f, 0), (Reg.feedFill f, 0),
        (Reg.feedNew f, 0), (Reg.feedShown f, 0), (Reg.feedBlack f, 0), (Reg.feedIn (t.reg (Obj.feedHead f)) (t.reg (Obj.feedLayer f)), 1 + 64 * d + (src - 1))]
      exec (.feedEnable n f src fits) s = .next (answered s n 2 (Obj.feedOp f) ((u.setReg Reg.rtAdmitted (u.rtDemand u.reg)).reply St.ok))))
  ∧ (∀ (s : State) (n f : Nat), Takes s n (Obj.feedOp f) [2] →
    exec (.feedDisable n f) s = .next (answered s n 2 (Obj.feedOp f) (if (s.heard n).reg (Obj.feedState f) = 0 then (s.heard n).reply St.ok else ((s.heard n).feedOff f).reply St.ok)))
  ∧ (∀ (s : State) (e d f : Nat) (x : Export) (b : Bytes), s.up = true → d ≤ 63 → f ≤ 15 →
    (s.now % 250000 = 0 → s.reg (Reg.hoistPath d) ≠ 0 → s.reg (Reg.srcCopy e (16 * d + f)) = 0 → s.feedSource e = some x → s.gread x.world 0 x.addr 8 = .ok b →
      (leNat b ≤ s.reg (Reg.srcPresent e (16 * d + f)) → exec (.feedPoll e d f) s = .next s)
      ∧ (s.reg (Reg.srcPresent e (16 * d + f)) < leNat b → exec (.feedPoll e d f) s = .next (s.setReg (Reg.srcCopy e (16 * d + f)) (leNat b + 1))))
    ∧ (∀ k, s.reg (Reg.srcCopy e (16 * d + f)) ≠ 0 → (s.setReg (Reg.srcCopy e (16 * d + f)) 0).feedSource e = none →
      exec (.feedCopyDone e d f k) s = .next ((s.setReg (Reg.srcCopy e (16 * d + f)) 0).hoistSend 0x02 d 2 f []))
    ∧ (∀ k u y, s.reg (Reg.srcCopy e (16 * d + f)) ≠ 0 → (s.setReg (Reg.srcCopy e (16 * d + f)) 0).feedSource e = some x → (s.setReg (Reg.srcCopy e (16 * d + f)) 0) = u →
      u.gread x.world 0 (x.addr + 256) (min k (4096 * x.pages - 256)) = .ok b →
      ((State.feedFrames b.length b).foldl (fun s v => s.hoistSend 0x02 d 2 f v) u).gwrite x.world 0 (x.addr + 8) (leBytes 8 (s.reg (Reg.srcCopy e (16 * d + f)) - 1)) = .ok y →
      exec (.feedCopyDone e d f k) s = .next (y.setReg (Reg.srcPresent e (16 * d + f)) (s.reg (Reg.srcCopy e (16 * d + f)) - 1))))
  ∧ (∀ (s : State) (l dst f : Nat) (last : Bool) (v : Bytes), Hears s l → (framed s l).reg (Obj.hoistLinkState l) = 3 →
    let u := framed s l
    (dst ≠ u.reg Obj.deviceId → exec (.hoistFeedData l true dst f last v) s = .next (u.hoistSend 0x02 dst 2 f v))
    ∧ (dst = u.reg Obj.deviceId → f ≤ 15 → u.reg (Obj.feedState f) ≠ 0 → v ≠ [] → exec (.hoistFeedData l true dst f last v) s = .next (u.feedArrive f last v))
    ∧ (dst = u.reg Obj.deviceId → f ≤ 15 → u.reg (Obj.feedState f) ≠ 0 → exec (.hoistFeedData l true dst f last []) s = .next (u.feedHold f)))
  ∧ ∀ (s : State) (f : Nat), s.up = true → f ≤ 15 → s.reg (Reg.feedHoldDue f) ≠ 0 → s.reg (Reg.feedHoldDue f) ≤ s.now →
    exec (.hoistFeedLost f) s = .next ((s.setRegs [(Obj.feedState f, 2), (Reg.feedHoldDue f, 0), (Reg.feedBlack f, 1), (Reg.feedNew f, 0)]).raise [.hal, .owner] U.fj St.hoistFeedLost 0xFF 2 [(1, f)])

/-- R473 to R481: counters as sessions see them. A chain mask that fails its check is answered PMC_CHAIN_INVALID, another one zeroes the upper counters it
changes; overflow bits clear within the session's access; a snapshot takes every counter into a bank, and with no bank free is answered
PMC_SNAPSHOT_BUSY; a sampler arms on a counter the session may read and within the range of periods, is disarmed, and of crossings within 10 µs of its last sample sends
none and counts them lost; a read of a counter view at offset 0 latches its words, one elsewhere answers the word latched or 0. Counts of inner events are free values (log 5). -/
def Obligations.CounterOperations : Prop :=
  (∀ (s : State) (n : Nat) (v : Bytes), let t := s.heard n
    (Takes s n Obj.chainMask v →
      (t.chainBad n (leNat v) = true → exec (.chainMaskWrite n v) s = .next (answered s n 2 Obj.chainMask (t.reply St.pmcChainInvalid)))
      ∧ (t.chainBad n (leNat v) = false → let u := t.counterSyncAll
        exec (.chainMaskWrite n v) s = .next (answered s n 2 Obj.chainMask ((((List.range 719).foldl (fun s k => if bit (leNat v) k = bit (u.reg Obj.chainMask) k then s else s.chainZero (k + 1) (bit (leNat v) k)) u).setReg
          Obj.chainMask (leNat v)).reply St.ok))))
    ∧ (Takes s n Obj.overflowClear v → exec (.overflowClear n v) s = .next (answered s n 2 Obj.overflowClear (t.overflowClear n (leNat v)))))
  ∧ (∀ (s : State) (n b : Nat), let t := s.heard n
    (Takes s n Obj.snapshotOp [1] →
      ((t.snapBank n).or ((List.range 4).find? (fun b => t.reg (Reg.snapHolder b) == 0)) = none →
        exec (.snapshotTake n) s = .next (answered s n 2 Obj.snapshotOp ((t.setReg (skey n Obj.snapshotStatus) St.pmcSnapshotBusy).reply St.pmcSnapshotBusy)))
      ∧ ((t.snapBank n).or ((List.range 4).find? (fun b => t.reg (Reg.snapHolder b) == 0)) = some b → let u := t.counterSyncAll
        exec (.snapshotTake n) s = .next (answered s n 2 Obj.snapshotOp (((u.setNum (Num.snapshot b) ((List.range 720).map (fun k => u.reg (Reg.counter k)))).setRegs [(Reg.snapHolder b, n),
          (skey n Obj.snapshotStatus, St.ok), (skey n Obj.snapshotTime, u.now)]).reply St.ok))))
    ∧ (Takes s n Obj.snapshotOp [2] → t.snapBank n = some b →
      exec (.snapshotRelease n) s = .next (answered s n 2 Obj.snapshotOp ((((t.setReg (Reg.snapHolder b) 0).setNum (Num.snapshot b) []).setReg (skey n Obj.snapshotStatus) St.ok).reply St.ok))))
  ∧ (∀ (s : State) (n j : Nat), let t := s.heard n
    (Takes s n (Obj.sampleOp j) [1] → let k := t.reg (Obj.sampleCounter j)
      let p := t.reg (Obj.samplePeriod j)
      (List.range 4).all (fun x => t.reg (Reg.sampOn x) != 0) = false → t.reg (Reg.sampOn j) = 0 →
      (t.counterStatus n k ≠ St.ok → exec (.samplerArm n j) s = .next (answered s n 2 (Obj.sampleOp j) (t.reply St.notOwner)))
      ∧ (t.counterStatus n k = St.ok → p < 64 ∨ 0x80000000 < p → exec (.samplerArm n j) s = .next (answered s n 2 (Obj.sampleOp j) (t.reply St.pmcPeriodRange)))
      ∧ (t.counterStatus n k = St.ok → 64 ≤ p → p ≤ 0x80000000 → exec (.samplerArm n j) s = .next (answered s n 2 (Obj.sampleOp j) (((t.counterSync k).setRegs [(Reg.sampOn j, k + 1), (Reg.sampPer j, p),
        (Reg.sampCount j, 0), (Reg.sampDone j, 0), (Reg.sampLast j, 0), (Reg.sampDest j, t.sessDest n), (Obj.sampleHolder j, n), (Obj.samplesLost j, 0)]).reply St.ok))))
    ∧ (Takes s n (Obj.sampleOp j) [2] → t.reg (Reg.sampOn j) ≠ 0 → t.cls n ≠ Cls.gst ∨ t.reg (Obj.sampleHolder j) = n →
      exec (.samplerDisarm n j) s = .next (answered s n 2 (Obj.sampleOp j) ((t.setRegs [(Reg.sampOn j, 0), (Obj.sampleHolder j, 0)]).reply St.ok))))
  ∧ (∀ (s : State) (j : Nat) (v : List Nat), s.up = true → j ≤ 3 → 1 < s.reg (Reg.sampOn j) →
    let due := s.reg (Reg.sampCount j) / s.reg (Reg.sampPer j) - s.reg (Reg.sampDone j)
    due ≠ 0 → let u := s.setReg (Reg.sampDone j) (s.reg (Reg.sampDone j) + due)
    (u.reg (Reg.sampLast j) ≠ 0 → u.now < u.reg (Reg.sampLast j) - 1 + 10000 → exec (.pmcSample j v) s = .next (u.addReg (Obj.samplesLost j) 32 due))
    ∧ (u.reg (Reg.sampLast j) = 0 → exec (.pmcSample j v) s = .next (((u.addReg (Obj.samplesLost j) 32 (due - 1)).setReg (Reg.sampLast j) (u.now + 1)).raise [.code (u.reg (Reg.sampDest j))] U.fj
      St.pmcSample (if u.reg (Reg.sessClass (u.reg (Obj.sampleHolder j))) = Cls.gst then u.reg (Reg.sessWorld (u.reg (Obj.sampleHolder j))) else 0xFF) 0 (u.samplePayload (s.reg (Reg.sampOn j) - 1) v))))
  ∧ (∀ (s : State) (i : Nat), s.up = true → i ≤ 31 → s.reg (Obj.instState i) ≠ 0 →
    let u := (List.range 4).foldl (fun s j => s.counterSync (488 + 4 * i + j)) s
    let v := u.setRegs ((List.range 4).map (fun j => (Reg.viewLatch i j, u.reg (Reg.counter (488 + 4 * i + j)))) ++ [(Reg.viewLatch i 4, u.reg (Reg.poolPeakInst i)), (Reg.viewLatch i 5, u.now)])
    exec (.counterViewRead i 0) s = .next (v.replyData (leBytes 4 (v.reg (Reg.viewLatch i 0)))))
  ∧ (∀ (s : State) (i off : Nat), s.up = true → i ≤ 31 → s.reg (Obj.instState i) ≠ 0 → 0 < off → off ≤ 0xFFF → off % 4 = 0 →
    exec (.counterViewRead i off) s = .next (s.replyData (leBytes 4 (if off < 0x14 then s.reg (Reg.viewLatch i (off / 4)) else if off = 0x18 then s.reg (Reg.viewLatch i 5)
      else if off = 0x1C then s.reg (Reg.viewLatch i 5) / 0x100000000 else 0))))

/-- R473, R475: counting. Events add their number to a counter of scale 1 that is in no chain, and wrap at 32 bits, setting the overflow bit; the upper
counter of a chain does not count its own events; counting leaves memory, the queue, the banks, the FIFOs and the answer as they were. -/
def Obligations.Counting : Prop :=
  (∀ (s : State) (k n : Nat), 0 < k → s.chained (k - 1) = true → s.count k n = s)
  ∧ (∀ (s : State) (k n : Nat), k ≤ 719 → State.counterScale k = 1 → s.reg (Reg.counterRes k) = 0 → (k = 0 ∨ s.chained (k - 1) = false) → s.chained k = false →
    (s.count k n).reg (Reg.counter k) = (if n = 0 then s.reg (Reg.counter k) else (s.reg (Reg.counter k) + n) % 0x100000000)
    ∧ (0x100000000 ≤ s.reg (Reg.counter k) + n → n ≠ 0 → bit ((s.count k n).reg Obj.overflowFlags) k = true))
  ∧ ∀ (s : State) (k n : Nat), (s.count k n).mem = s.mem ∧ (s.count k n).pending = s.pending ∧ (s.count k n).pend = s.pend ∧ (s.count k n).answer = s.answer
    ∧ (s.count k n).shadow = s.shadow ∧ (s.count k n).fifos = s.fifos

/-- R498, R503: connectors. A write of EthInterface restarts the MAC with its link down; a link change shows link and speed, in SGMII at 1 Gb/s alone; a
PCIe link trains within PcieSpeedMax; a good word of a light sensor sets LightValid, the third bad one in a row clears it, and no port is read more
often than every 100 ms. -/
def Obligations.Connectors : Prop :=
  (∀ (s : State) (n p : Nat) (v : Bytes), Takes s n (Obj.ethInterface p) v →
    exec (.ethInterfaceWrite n p v) s = .next (answered s n 2 (Obj.ethInterface p) (((s.heard n).setRegs [(Obj.ethInterface p, leNat v), (Obj.ethLinkUp p, 0), (Obj.ethSpeedMbps p, 0)]).reply St.ok)))
  ∧ (∀ (s : State) (p mbps : Nat) (up : Bool), s.up = true → p ≤ 3 →
    (up = false ∨ (s.reg (Obj.ethInterface p) = 0 ∧ mbps ≠ 1000) → exec (.ethLinkChange p up mbps) s = .next (s.setRegs [(Obj.ethLinkUp p, 0), (Obj.ethSpeedMbps p, 0)]))
    ∧ (up = true → s.reg (Obj.ethInterface p) ≠ 0 ∨ mbps = 1000 →
      exec (.ethLinkChange p up mbps) s = .next (s.setRegs [(Obj.ethLinkUp p, 1), (Obj.ethSpeedMbps p, Con.ethMbps (s.reg (Obj.ethInterface p)))])))
  ∧ (∀ (s : State) (p gen width : Nat) (up : Bool), s.up = true → p ≤ 3 →
    (up = false ∨ gen < 3 ∨ width = 0 → exec (.pcieLinkTraining p up gen width) s = .next (s.setRegs [(Obj.pcieLinkSpeed p, 0), (Obj.pcieLinkWidth p, 0)]))
    ∧ (up = true → 3 ≤ gen → width ≠ 0 →
      exec (.pcieLinkTraining p up gen width) s = .next (s.setRegs [(Obj.pcieLinkSpeed p, min gen (min 5 (s.reg (Obj.pcieSpeedMax p)))), (Obj.pcieLinkWidth p, Con.lanes width)])))
  ∧ ∀ (s : State) (k w : Nat), s.up = true → k ≤ 3 → s.reg (Obj.lightMode k) ≠ 0 →
    let t := s.setReg (Reg.lightNext k) (s.now + 100000000)
    (s.now < s.reg (Reg.lightNext k) → exec (.lightSensorRead k true w) s = .next s)
    ∧ (s.reg (Reg.lightNext k) ≤ s.now → exec (.lightSensorRead k true w) s = .next ((List.range 8).foldl (fun s n => if s.reg (Obj.sunSource n) = k + 1
      then s.setReg (Obj.sunLux n) (s.lightLux k w) else s) (t.setRegs [(Reg.lightBad k, 0), (Obj.lightValid k, 1)])))
    ∧ (s.reg (Reg.lightNext k) ≤ s.now → t.reg (Reg.lightBad k) < 2 → exec (.lightSensorRead k false w) s = .next (t.setReg (Reg.lightBad k) (t.reg (Reg.lightBad k) + 1)))
    ∧ (s.reg (Reg.lightNext k) ≤ s.now → 2 ≤ t.reg (Reg.lightBad k) →
      exec (.lightSensorRead k false w) s = .next ((t.setRegs [(Reg.lightBad k, 0), (Obj.lightValid k, 0)]).bump (Obj.lightFails k) 32))
end

