-- ==== Sys2Proof/Laws/Dispatch.lean ====
section
/-!
SUPPORT. Laws/Dispatch.lean: exec of each command is its meaning, one equation per command.
-/
namespace Sys2Proof.Laws

open Sys2Proof.Machine

theorem exec_sessionOpen {s : State} tr port cl w : exec (.sessionOpen tr port cl w) s = execSessionOpen tr port cl w s := rfl
theorem exec_sessionClose {s : State} n : exec (.sessionClose n) s = execSessionClose n s := rfl
theorem exec_udpSessionTimeout {s : State} n : exec (.udpSessionTimeout n) s = execUdpSessionTimeout n s := rfl
theorem exec_dtlsHandshake {s : State} params verifies ownerSigned inValidity key : exec (.dtlsHandshake params verifies ownerSigned inValidity key) s = execDtlsHandshake params verifies ownerSigned inValidity key s := rfl
theorem exec_debugCertIn {s : State} n v sigOk cosignOk : exec (.debugCertIn n v sigOk cosignOk) s = execDebugCertIn n v sigOk cosignOk s := rfl
theorem exec_pendingSessionTimeout {s : State} n : exec (.pendingSessionTimeout n) s = execPendingSessionTimeout n s := rfl
theorem exec_queryPath {s : State} n v : exec (.queryPath n v) s = execQueryPath n v s := rfl
theorem exec_objectWrite {s : State} n idx sub v : exec (.objectWrite n idx sub v) s = execObjectWrite n idx sub v s := rfl
theorem exec_recordRead {s : State} n r idx sub : exec (.recordRead n r idx sub) s = execRecordRead n r idx sub s := rfl
theorem exec_recordWrite {s : State} n r idx sub v : exec (.recordWrite n r idx sub v) s = execRecordWrite n r idx sub v s := rfl
theorem exec_readSegment {s : State} n r idx sub off len : exec (.readSegment n r idx sub off len) s = execReadSegment n r idx sub off len s := rfl
theorem exec_writeSegment {s : State} n r idx sub off v : exec (.writeSegment n r idx sub off v) s = execWriteSegment n r idx sub off v s := rfl
theorem exec_recordAbort {s : State} n r : exec (.recordAbort n r) s = execRecordAbort n r s := rfl
theorem exec_transferTimeout {s : State} n : exec (.transferTimeout n) s = execTransferTimeout n s := rfl
theorem exec_commit {s : State} n : exec (.commit n) s = execCommit n s := rfl
theorem exec_discardShadow {s : State} n : exec (.discardShadow n) s = execDiscardShadow n s := rfl
theorem exec_cancelPending {s : State} n : exec (.cancelPending n) s = execCancelPending n s := rfl
theorem exec_boundaryApply {s : State} h k : exec (.boundaryApply h k) s = execBoundaryApply h k s := rfl
theorem exec_schedTimeLost {s : State} h : exec (.schedTimeLost h) s = execSchedTimeLost h s := rfl
theorem exec_shadowHoldExpiry {s : State} h : exec (.shadowHoldExpiry h) s = execShadowHoldExpiry h s := rfl
theorem exec_authWrite {s : State} n v : exec (.authWrite n v) s = execAuthWrite n v s := rfl
theorem exec_authCommit {s : State} n v : exec (.authCommit n v) s = execAuthCommit n v s := rfl
theorem exec_authDiscard {s : State} n v : exec (.authDiscard n v) s = execAuthDiscard n v s := rfl
theorem exec_authCancel {s : State} n v : exec (.authCancel n v) s = execAuthCancel n v s := rfl
theorem exec_authLockoutEnd {s : State} k : exec (.authLockoutEnd k) s = execAuthLockoutEnd k s := rfl
theorem exec_usdoRequest {s : State} p phase wr idx sub v : exec (.usdoRequest p phase wr idx sub v) s = execUsdoRequest p phase wr idx sub v s := rfl
theorem exec_heartbeatProduce {s : State} p : exec (.heartbeatProduce p) s = execHeartbeatProduce p s := rfl
theorem exec_heartbeatReceive {s : State} p node : exec (.heartbeatReceive p node) s = execHeartbeatReceive p node s := rfl
theorem exec_heartbeatLost {s : State} p i0 : exec (.heartbeatLost p i0) s = execHeartbeatLost p i0 s := rfl
theorem exec_pushReceive {s : State} p id v : exec (.pushReceive p id v) s = execPushReceive p id v s := rfl
theorem exec_pushStale {s : State} p m : exec (.pushStale p m) s = execPushStale p m s := rfl
theorem exec_pushTransmit {s : State} p t : exec (.pushTransmit p t) s = execPushTransmit p t s := rfl
theorem exec_rawConfigWrite {s : State} n p sub v : exec (.rawConfigWrite n p sub v) s = execRawConfigWrite n p sub v s := rfl
theorem exec_rawFrameReceive {s : State} p err id fl v : exec (.rawFrameReceive p err id fl v) s = execRawFrameReceive p err id fl v s := rfl
theorem exec_rawRx {s : State} n p : exec (.rawRx n p) s = execRawRx n p s := rfl
theorem exec_rawTx {s : State} n p v : exec (.rawTx n p v) s = execRawTx n p v s := rfl
theorem exec_rawTxDone {s : State} p err : exec (.rawTxDone p err) s = execRawTxDone p err s := rfl
theorem exec_busOffRecovery {s : State} p : exec (.busOffRecovery p) s = execBusOffRecovery p s := rfl
theorem exec_usbAttached {s : State} h addr cls vid pid outLen : exec (.usbAttached h addr cls vid pid outLen) s = execUsbAttached h addr cls vid pid outLen s := rfl
theorem exec_usbDetached {s : State} h addr : exec (.usbDetached h addr) s = execUsbDetached h addr s := rfl
theorem exec_hidReportReceive {s : State} h addr id v : exec (.hidReportReceive h addr id v) s = execHidReportReceive h addr id v s := rfl
theorem exec_hidIn {s : State} n h : exec (.hidIn n h) s = execHidIn n h s := rfl
theorem exec_hidOut {s : State} n h v : exec (.hidOut n h v) s = execHidOut n h v s := rfl
theorem exec_usbOvercurrent {s : State} h : exec (.usbOvercurrent h) s = execUsbOvercurrent h s := rfl
theorem exec_usbPortOp {s : State} n h v : exec (.usbPortOp n h v) s = execUsbPortOp n h v s := rfl
theorem exec_windowAccess {s : State} n w sub wr v : exec (.windowAccess n w sub wr v) s = execWindowAccess n w sub wr v s := rfl
theorem exec_ownerEvRead {s : State} n : exec (.ownerEvRead n) s = execOwnerEvRead n s := rfl
theorem exec_ownerEvPush {s : State} n v : exec (.ownerEvPush n v) s = execOwnerEvPush n v s := rfl
theorem exec_planBoundary {s : State} temp work slack speed : exec (.planBoundary temp work slack speed) s = execPlanBoundary temp work slack speed s := rfl
theorem exec_shedHoldEnd {s : State} temp work slack : exec (.shedHoldEnd temp work slack) s = execShedHoldEnd temp work slack s := rfl
theorem exec_planRaise {s : State} d slack speed : exec (.planRaise d slack speed) s = execPlanRaise d slack speed s := rfl
theorem exec_planWatchdog {s : State} : exec (.planWatchdog) s = execPlanWatchdog s := rfl
theorem exec_ageMeasure {s : State} slow : exec (.ageMeasure slow) s = execAgeMeasure slow s := rfl
theorem exec_forecastUpdate {s : State} : exec (.forecastUpdate) s = execForecastUpdate s := rfl
theorem exec_thermalAboveFloor {s : State} temp : exec (.thermalAboveFloor temp) s = execThermalAboveFloor temp s := rfl
theorem exec_boundaryPortReset {s : State} h : exec (.boundaryPortReset h) s = execBoundaryPortReset h s := rfl
theorem exec_boundaryPortResume {s : State} h : exec (.boundaryPortResume h) s = execBoundaryPortResume h s := rfl
theorem exec_fabricAccess {s : State} a : exec (.fabricAccess a) s = execFabricAccess a s := rfl
theorem exec_throttleExpiry {s : State} c bank w r : exec (.throttleExpiry c bank w r) s = execThrottleExpiry c bank w r s := rfl
theorem exec_rowIdleClose {s : State} c bank : exec (.rowIdleClose c bank) s = execRowIdleClose c bank s := rfl
theorem exec_concentrationCheck {s : State} w : exec (.concentrationCheck w) s = execConcentrationCheck w s := rfl
theorem exec_retrainStart {s : State} c temp phy : exec (.retrainStart c temp phy) s = execRetrainStart c temp phy s := rfl
theorem exec_retrainDone {s : State} c ok eye temp phy : exec (.retrainDone c ok eye temp phy) s = execRetrainDone c ok eye temp phy s := rfl
theorem exec_retrainRetry {s : State} c : exec (.retrainRetry c) s = execRetrainRetry c s := rfl
theorem exec_patrolScrub {s : State} errs : exec (.patrolScrub errs) s = execPatrolScrub errs s := rfl
theorem exec_classWrite {s : State} n r v : exec (.classWrite n r v) s = execClassWrite n r v s := rfl
theorem exec_reserveRateWrite {s : State} n sub v : exec (.reserveRateWrite n sub v) s = execReserveRateWrite n sub v s := rfl
theorem exec_invalidationComplete {s : State} w : exec (.invalidationComplete w) s = execInvalidationComplete w s := rfl
theorem exec_hoGrant {s : State} n : exec (.hoGrant n) s = execHoGrant n s := rfl
theorem exec_hoRecall {s : State} n : exec (.hoRecall n) s = execHoRecall n s := rfl
theorem exec_blockRelease {s : State} i0 h dg : exec (.blockRelease i0 h dg) s = execBlockRelease i0 h dg s := rfl
theorem exec_recallGraceExpiry {s : State} h : exec (.recallGraceExpiry h) s = execRecallGraceExpiry h s := rfl
theorem exec_drainComplete {s : State} h : exec (.drainComplete h) s = execDrainComplete h s := rfl
theorem exec_scrubVerifyDone {s : State} h ok : exec (.scrubVerifyDone h ok) s = execScrubVerifyDone h ok s := rfl
theorem exec_hpdLowWaitEnd {s : State} h : exec (.hpdLowWaitEnd h) s = execHpdLowWaitEnd h s := rfl
theorem exec_debugConsent {s : State} n w v : exec (.debugConsent n w v) s = execDebugConsent n w v s := rfl
theorem exec_doorbell {s : State} i0 r wptr dg : exec (.doorbell i0 r wptr dg) s = execDoorbell i0 r wptr dg s := rfl
theorem exec_eqConsDoorbell {s : State} i0 cons dg : exec (.eqConsDoorbell i0 cons dg) s = execEqConsDoorbell i0 cons dg s := rfl
theorem exec_ringCreate {s : State} i0 m r log2 vector base : exec (.ringCreate i0 m r log2 vector base) s = execRingCreate i0 m r log2 vector base s := rfl
theorem exec_ringDestroy {s : State} i0 m r : exec (.ringDestroy i0 m r) s = execRingDestroy i0 m r s := rfl
theorem exec_eqCreate {s : State} i0 m log2 vector holdoff base : exec (.eqCreate i0 m log2 vector holdoff base) s = execEqCreate i0 m log2 vector holdoff base s := rfl
theorem exec_s1Set {s : State} i0 m cls base : exec (.s1Set i0 m cls base) s = execS1Set i0 m cls base s := rfl
theorem exec_mbS1Invalidate {s : State} i0 m : exec (.mbS1Invalidate i0 m) s = execMbS1Invalidate i0 m s := rfl
theorem exec_memRequest {s : State} i0 m a n : exec (.memRequest i0 m a n) s = execMemRequest i0 m a n s := rfl
theorem exec_memRelease {s : State} i0 m a n : exec (.memRelease i0 m a n) s = execMemRelease i0 m a n s := rfl
theorem exec_surfaceExport {s : State} i0 m a n target : exec (.surfaceExport i0 m a n target) s = execSurfaceExport i0 m a n target s := rfl
theorem exec_surfaceRevoke {s : State} i0 m num : exec (.surfaceRevoke i0 m num) s = execSurfaceRevoke i0 m num s := rfl
theorem exec_surfaceImport {s : State} i0 m num a : exec (.surfaceImport i0 m num a) s = execSurfaceImport i0 m num a s := rfl
theorem exec_shaderAdmit {s : State} i0 m addr size reason offset samples stores depth colours : exec (.shaderAdmit i0 m addr size reason offset samples stores depth colours) s = execShaderAdmit i0 m addr size reason offset samples stores depth colours s := rfl
theorem exec_shaderRelease {s : State} i0 m h : exec (.shaderRelease i0 m h) s = execShaderRelease i0 m h s := rfl
theorem exec_reserve {s : State} i0 m r b a t : exec (.reserve i0 m r b a t) s = execReserve i0 m r b a t s := rfl
theorem exec_quiesceSelf {s : State} i0 m : exec (.quiesceSelf i0 m) s = execQuiesceSelf i0 m s := rfl
theorem exec_remoteAssociation {s : State} cert : exec (.remoteAssociation cert) s = execRemoteAssociation cert s := rfl
theorem exec_remoteMemoryWrite {s : State} i0 seq ack a data : exec (.remoteMemoryWrite i0 seq ack a data) s = execRemoteMemoryWrite i0 seq ack a data s := rfl
theorem exec_remoteMemoryRead {s : State} i0 seq ack a len : exec (.remoteMemoryRead i0 seq ack a len) s = execRemoteMemoryRead i0 seq ack a len s := rfl
theorem exec_remoteAck {s : State} i0 ack : exec (.remoteAck i0 ack) s = execRemoteAck i0 ack s := rfl
theorem exec_remoteKeepalive {s : State} i0 ack : exec (.remoteKeepalive i0 ack) s = execRemoteKeepalive i0 ack s := rfl
theorem exec_remoteRetransmit {s : State} i0 : exec (.remoteRetransmit i0) s = execRemoteRetransmit i0 s := rfl
theorem exec_remoteKeepaliveSend {s : State} i0 : exec (.remoteKeepaliveSend i0) s = execRemoteKeepaliveSend i0 s := rfl
theorem exec_remoteLinkLost {s : State} i0 : exec (.remoteLinkLost i0) s = execRemoteLinkLost i0 s := rfl
theorem exec_remoteHoldExpiry {s : State} i0 : exec (.remoteHoldExpiry i0) s = execRemoteHoldExpiry i0 s := rfl
theorem exec_grantWrite {s : State} n i0 sub v : exec (.grantWrite n i0 sub v) s = execGrantWrite n i0 sub v s := rfl
theorem exec_resizeCut {s : State} i0 : exec (.resizeCut i0) s = execResizeCut i0 s := rfl
theorem exec_instEnable {s : State} n i0 : exec (.instEnable n i0) s = execInstEnable n i0 s := rfl
theorem exec_instQuiesce {s : State} n i0 : exec (.instQuiesce n i0) s = execInstQuiesce n i0 s := rfl
theorem exec_instResume {s : State} n i0 : exec (.instResume n i0) s = execInstResume n i0 s := rfl
theorem exec_instReset {s : State} n i0 : exec (.instReset n i0) s = execInstReset n i0 s := rfl
theorem exec_instRemove {s : State} n i0 : exec (.instRemove n i0) s = execInstRemove n i0 s := rfl
theorem exec_quiesceDone {s : State} i0 : exec (.quiesceDone i0) s = execQuiesceDone i0 s := rfl
theorem exec_quiesceLimit {s : State} i0 : exec (.quiesceLimit i0) s = execQuiesceLimit i0 s := rfl
theorem exec_vfFlr {s : State} i0 : exec (.vfFlr i0) s = execVfFlr i0 s := rfl
theorem exec_vfLinkLoss {s : State} i0 : exec (.vfLinkLoss i0) s = execVfLinkLoss i0 s := rfl
theorem exec_yieldDurationEnd {s : State} w k : exec (.yieldDurationEnd w k) s = execYieldDurationEnd w k s := rfl
theorem exec_nop {s : State} i0 r : exec (.nop i0 r) s = execNop i0 r s := rfl
theorem exec_passBegin {s : State} i0 r : exec (.passBegin i0 r) s = execPassBegin i0 r s := rfl
theorem exec_passEnd {s : State} i0 r : exec (.passEnd i0 r) s = execPassEnd i0 r s := rfl
theorem exec_bindPipeline {s : State} i0 r : exec (.bindPipeline i0 r) s = execBindPipeline i0 r s := rfl
theorem exec_bindState {s : State} i0 r : exec (.bindState i0 r) s = execBindState i0 r s := rfl
theorem exec_draw {s : State} i0 r prims run : exec (.draw i0 r prims run) s = execDraw i0 r prims run s := rfl
theorem exec_drawIndexed {s : State} i0 r prims run : exec (.drawIndexed i0 r prims run) s = execDrawIndexed i0 r prims run s := rfl
theorem exec_drawIndirect {s : State} i0 r draws run : exec (.drawIndirect i0 r draws run) s = execDrawIndirect i0 r draws run s := rfl
theorem exec_dispatch {s : State} i0 r run : exec (.dispatch i0 r run) s = execDispatch i0 r run s := rfl
theorem exec_dispatchIndirect {s : State} i0 r run : exec (.dispatchIndirect i0 r run) s = execDispatchIndirect i0 r run s := rfl
theorem exec_clear {s : State} i0 r : exec (.clear i0 r) s = execClear i0 r s := rfl
theorem exec_queryBegin {s : State} i0 r : exec (.queryBegin i0 r) s = execQueryBegin i0 r s := rfl
theorem exec_queryEnd {s : State} i0 r : exec (.queryEnd i0 r) s = execQueryEnd i0 r s := rfl
theorem exec_fenceSignal {s : State} i0 r : exec (.fenceSignal i0 r) s = execFenceSignal i0 r s := rfl
theorem exec_fenceWait {s : State} i0 r : exec (.fenceWait i0 r) s = execFenceWait i0 r s := rfl
theorem exec_fenceReevaluate {s : State} : exec (.fenceReevaluate) s = execFenceReevaluate s := rfl
theorem exec_fenceTimeout {s : State} i0 r : exec (.fenceTimeout i0 r) s = execFenceTimeout i0 r s := rfl
theorem exec_barrier {s : State} i0 r : exec (.barrier i0 r) s = execBarrier i0 r s := rfl
theorem exec_s1Invalidate {s : State} i0 r : exec (.s1Invalidate i0 r) s = execS1Invalidate i0 r s := rfl
theorem exec_event {s : State} i0 r : exec (.event i0 r) s = execEvent i0 r s := rfl
theorem exec_priority {s : State} i0 r : exec (.priority i0 r) s = execPriority i0 r s := rfl
theorem exec_timestamp {s : State} i0 r : exec (.timestamp i0 r) s = execTimestamp i0 r s := rfl
theorem exec_copyBuffer {s : State} i0 r : exec (.copyBuffer i0 r) s = execCopyBuffer i0 r s := rfl
theorem exec_copySurface {s : State} i0 r : exec (.copySurface i0 r) s = execCopySurface i0 r s := rfl
theorem exec_fill {s : State} i0 r : exec (.fill i0 r) s = execFill i0 r s := rfl
theorem exec_flattenPresent {s : State} i0 r : exec (.flattenPresent i0 r) s = execFlattenPresent i0 r s := rfl
theorem exec_binPoolFull {s : State} i0 r : exec (.binPoolFull i0 r) s = execBinPoolFull i0 r s := rfl
theorem exec_extensionReread {s : State} i0 r : exec (.extensionReread i0 r) s = execExtensionReread i0 r s := rfl
theorem exec_binFaultTimeout {s : State} i0 r : exec (.binFaultTimeout i0 r) s = execBinFaultTimeout i0 r s := rfl
theorem exec_pipelineCompiled {s : State} h reason offset : exec (.pipelineCompiled h reason offset) s = execPipelineCompiled h reason offset s := rfl
theorem exec_contextSchedule {s : State} steps : exec (.contextSchedule steps) s = execContextSchedule steps s := rfl
theorem exec_preemptRequest {s : State} phase tiles : exec (.preemptRequest phase tiles) s = execPreemptRequest phase tiles s := rfl
theorem exec_tileGraceExpiry {s : State} saved : exec (.tileGraceExpiry saved) s = execTileGraceExpiry saved s := rfl
theorem exec_timeSliceExpiry {s : State} : exec (.timeSliceExpiry) s = execTimeSliceExpiry s := rfl
theorem exec_clusterLost {s : State} c : exec (.clusterLost c) s = execClusterLost c s := rfl
theorem exec_flipLayer {s : State} i0 : exec (.flipLayer i0) s = execFlipLayer i0 s := rfl
theorem exec_flipCommit {s : State} i0 : exec (.flipCommit i0) s = execFlipCommit i0 s := rfl
theorem exec_flipCancel {s : State} i0 : exec (.flipCancel i0) s = execFlipCancel i0 s := rfl
theorem exec_headCommitLine {s : State} n trim : exec (.headCommitLine n trim) s = execHeadCommitLine n trim s := rfl
theorem exec_acquireTimeout {s : State} w n : exec (.acquireTimeout w n) s = execAcquireTimeout w n s := rfl
theorem exec_ensignPeriod {s : State} : exec (.ensignPeriod) s = execEnsignPeriod s := rfl
theorem exec_ensignAcknowledge {s : State} src plays : exec (.ensignAcknowledge src plays) s = execEnsignAcknowledge src plays s := rfl
theorem exec_flashHalfCycle {s : State} : exec (.flashHalfCycle) s = execFlashHalfCycle s := rfl
theorem exec_ensignFill {s : State} n k x y w h idx : exec (.ensignFill n k x y w h idx) s = execEnsignFill n k x y w h idx s := rfl
theorem exec_ensignBlit {s : State} n k x y w h src stride remap : exec (.ensignBlit n k x y w h src stride remap) s = execEnsignBlit n k x y w h src stride remap s := rfl
theorem exec_ensignGlyph {s : State} n k x y w h off fg bg : exec (.ensignGlyph n k x y w h off fg bg) s = execEnsignGlyph n k x y w h off fg bg s := rfl
theorem exec_ensignSign {s : State} n k : exec (.ensignSign n k) s = execEnsignSign n k s := rfl
theorem exec_packageVerify {s : State} n pkg : exec (.packageVerify n pkg) s = execPackageVerify n pkg s := rfl
theorem exec_packageActivate {s : State} n : exec (.packageActivate n) s = execPackageActivate n s := rfl
theorem exec_packageDiscard {s : State} n : exec (.packageDiscard n) s = execPackageDiscard n s := rfl
theorem exec_hpdRise {s : State} p : exec (.hpdRise p) s = execHpdRise p s := rfl
theorem exec_hpdWaitEnd {s : State} p kind caps su edid slices : exec (.hpdWaitEnd p kind caps su edid slices) s = execHpdWaitEnd p kind caps su edid slices s := rfl
theorem exec_linkTrained {s : State} p lanes rate : exec (.linkTrained p lanes rate) s = execLinkTrained p lanes rate s := rfl
theorem exec_trainRetry {s : State} p : exec (.trainRetry p) s = execTrainRetry p s := rfl
theorem exec_irqHpd {s : State} p lost psrError : exec (.irqHpd p lost psrError) s = execIrqHpd p lost psrError s := rfl
theorem exec_panelUnplugged {s : State} p : exec (.panelUnplugged p) s = execPanelUnplugged p s := rfl
theorem exec_linkWakeDone {s : State} n : exec (.linkWakeDone n) s = execLinkWakeDone n s := rfl
theorem exec_teEdge {s : State} n level : exec (.teEdge n level) s = execTeEdge n level s := rfl
theorem exec_teLost {s : State} n : exec (.teLost n) s = execTeLost n s := rfl
theorem exec_panelOnDelayEnd {s : State} n : exec (.panelOnDelayEnd n) s = execPanelOnDelayEnd n s := rfl
theorem exec_backlightDelayEnd {s : State} n : exec (.backlightDelayEnd n) s = execBacklightDelayEnd n s := rfl
theorem exec_panelFault {s : State} n : exec (.panelFault n) s = execPanelFault n s := rfl
theorem exec_panelFaultClear {s : State} n : exec (.panelFaultClear n) s = execPanelFaultClear n s := rfl
theorem exec_rxFrame {s : State} n w h rate khz colour data : exec (.rxFrame n w h rate khz colour data) s = execRxFrame n w h rate khz colour data s := rfl
theorem exec_rxSignalLost {s : State} n : exec (.rxSignalLost n) s = execRxSignalLost n s := rfl
theorem exec_rxHoldExpiry {s : State} n : exec (.rxHoldExpiry n) s = execRxHoldExpiry n s := rfl
theorem exec_signatureSample {s : State} n k seen sent : exec (.signatureSample n k seen sent) s = execSignatureSample n k seen sent s := rfl
theorem exec_freezeWindowExpiry {s : State} n k : exec (.freezeWindowExpiry n k) s = execFreezeWindowExpiry n k s := rfl
theorem exec_backupToneSwitch {s : State} : exec (.backupToneSwitch) s = execBackupToneSwitch s := rfl
theorem exec_scanFrameEnd {s : State} p raw self noise : exec (.scanFrameEnd p raw self noise) s = execScanFrameEnd p raw self noise s := rfl
theorem exec_idleStep {s : State} p : exec (.idleStep p) s = execIdleStep p s := rfl
theorem exec_gestureWatchEnd {s : State} p : exec (.gestureWatchEnd p) s = execGestureWatchEnd p s := rfl
theorem exec_gloveTimeout {s : State} p : exec (.gloveTimeout p) s = execGloveTimeout p s := rfl
theorem exec_wetTimeout {s : State} p : exec (.wetTimeout p) s = execWetTimeout p s := rfl
theorem exec_touchPortStart {s : State} p fpc bad placed coarse fine first cap selfCap : exec (.touchPortStart p fpc bad placed coarse fine first cap selfCap) s = execTouchPortStart p fpc bad placed coarse fine first cap selfCap s := rfl
theorem exec_integrityScan {s : State} p bad aborted : exec (.integrityScan p bad aborted) s = execIntegrityScan p bad aborted s := rfl
theorem exec_hapticPlay {s : State} i0 : exec (.hapticPlay i0) s = execHapticPlay i0 s := rfl
theorem exec_hapticStop {s : State} i0 : exec (.hapticStop i0) s = execHapticStop i0 s := rfl
theorem exec_playEffect {s : State} n g c d : exec (.playEffect n g c d) s = execPlayEffect n g c d s := rfl
theorem exec_loadMeasure {s : State} g answers meas : exec (.loadMeasure g answers meas) s = execLoadMeasure g answers meas s := rfl
theorem exec_hapticLoopPeriod {s : State} g c a mw : exec (.hapticLoopPeriod g c a mw) s = execHapticLoopPeriod g c a mw s := rfl
theorem exec_senseCheck {s : State} g c a : exec (.senseCheck g c a) s = execSenseCheck g c a s := rfl
theorem exec_effectEnd {s : State} g c : exec (.effectEnd g c) s = execEffectEnd g c s := rfl
theorem exec_overcurrent {s : State} g c : exec (.overcurrent g c) s = execOvercurrent g c s := rfl
theorem exec_driverHot {s : State} g temp : exec (.driverHot g temp) s = execDriverHot g temp s := rfl
theorem exec_hvFault {s : State} g : exec (.hvFault g) s = execHvFault g s := rfl
theorem exec_hvRetry {s : State} g ok : exec (.hvRetry g ok) s = execHvRetry g ok s := rfl
theorem exec_sampleInstant {s : State} d ins late : exec (.sampleInstant d ins late) s = execSampleInstant d ins late s := rfl
theorem exec_meterUpdate {s : State} : exec (.meterUpdate) s = execMeterUpdate s := rfl
theorem exec_audBridgeLocked {s : State} k ratio : exec (.audBridgeLocked k ratio) s = execAudBridgeLocked k ratio s := rfl
theorem exec_audBridgeUnlocked {s : State} k : exec (.audBridgeUnlocked k) s = execAudBridgeUnlocked k s := rfl
theorem exec_audioPlay {s : State} i0 : exec (.audioPlay i0) s = execAudioPlay i0 s := rfl
theorem exec_audioCapture {s : State} i0 : exec (.audioCapture i0) s = execAudioCapture i0 s := rfl
theorem exec_audioStart {s : State} i0 : exec (.audioStart i0) s = execAudioStart i0 s := rfl
theorem exec_audioStop {s : State} i0 : exec (.audioStop i0) s = execAudioStop i0 s := rfl
theorem exec_audioBufferDone {s : State} t : exec (.audioBufferDone t) s = execAudioBufferDone t s := rfl
theorem exec_audTdmClockLost {s : State} p : exec (.audTdmClockLost p) s = execAudTdmClockLost p s := rfl
theorem exec_tdmClockResume {s : State} p : exec (.tdmClockResume p) s = execTdmClockResume p s := rfl
theorem exec_mov {s : State} c : exec (.mov c) s = execMov c s := rfl
theorem exec_add {s : State} c : exec (.add c) s = execAdd c s := rfl
theorem exec_sub {s : State} c : exec (.sub c) s = execSub c s := rfl
theorem exec_adc {s : State} c : exec (.adc c) s = execAdc c s := rfl
theorem exec_sbc {s : State} c : exec (.sbc c) s = execSbc c s := rfl
theorem exec_and {s : State} c : exec (.and c) s = execAnd c s := rfl
theorem exec_or {s : State} c : exec (.or c) s = execOr c s := rfl
theorem exec_xor {s : State} c : exec (.xor c) s = execXor c s := rfl
theorem exec_shl {s : State} c : exec (.shl c) s = execShl c s := rfl
theorem exec_shr {s : State} c : exec (.shr c) s = execShr c s := rfl
theorem exec_sra {s : State} c : exec (.sra c) s = execSra c s := rfl
theorem exec_cmp {s : State} c : exec (.cmp c) s = execCmp c s := rfl
theorem exec_tst {s : State} c : exec (.tst c) s = execTst c s := rfl
theorem exec_mul {s : State} c : exec (.mul c) s = execMul c s := rfl
theorem exec_mulh {s : State} c : exec (.mulh c) s = execMulh c s := rfl
theorem exec_not {s : State} c : exec (.not c) s = execNot c s := rfl
theorem exec_addi {s : State} c : exec (.addi c) s = execAddi c s := rfl
theorem exec_movi {s : State} c : exec (.movi c) s = execMovi c s := rfl
theorem exec_movhi {s : State} c : exec (.movhi c) s = execMovhi c s := rfl
theorem exec_cmpi {s : State} c : exec (.cmpi c) s = execCmpi c s := rfl
theorem exec_ldw {s : State} c : exec (.ldw c) s = execLdw c s := rfl
theorem exec_stw {s : State} c : exec (.stw c) s = execStw c s := rfl
theorem exec_ldb {s : State} c : exec (.ldb c) s = execLdb c s := rfl
theorem exec_stb {s : State} c : exec (.stb c) s = execStb c s := rfl
theorem exec_bcc {s : State} c : exec (.bcc c) s = execBcc c s := rfl
theorem exec_jmp {s : State} c : exec (.jmp c) s = execJmp c s := rfl
theorem exec_call {s : State} c : exec (.call c) s = execCall c s := rfl
theorem exec_mfs {s : State} c : exec (.mfs c) s = execMfs c s := rfl
theorem exec_mts {s : State} c : exec (.mts c) s = execMts c s := rfl
theorem exec_jr {s : State} c : exec (.jr c) s = execJr c s := rfl
theorem exec_rete {s : State} c : exec (.rete c) s = execRete c s := rfl
theorem exec_wait {s : State} c : exec (.wait c) s = execWait c s := rfl
theorem exec_pwait {s : State} c : exec (.pwait c) s = execPwait c s := rfl
theorem exec_send {s : State} c : exec (.send c) s = execSend c s := rfl
theorem exec_ei {s : State} c : exec (.ei c) s = execEi c s := rfl
theorem exec_di {s : State} c : exec (.di c) s = execDi c s := rfl
theorem exec_sysNop {s : State} c : exec (.sysNop c) s = execSysNop c s := rfl
theorem exec_bmov {s : State} c : exec (.bmov c) s = execBmov c s := rfl
theorem exec_bfeed {s : State} c : exec (.bfeed c) s = execBfeed c s := rfl
theorem exec_bmac {s : State} c : exec (.bmac c) s = execBmac c s := rfl
theorem exec_waitv {s : State} c : exec (.waitv c) s = execWaitv c s := rfl
theorem exec_handlerEntry {s : State} c : exec (.handlerEntry c) s = execHandlerEntry c s := rfl
theorem exec_timerExpiry {s : State} c t : exec (.timerExpiry c t) s = execTimerExpiry c t s := rfl
theorem exec_edgeDetect {s : State} c e level : exec (.edgeDetect c e level) s = execEdgeDetect c e level s := rfl
theorem exec_periodTick {s : State} c : exec (.periodTick c) s = execPeriodTick c s := rfl
theorem exec_coreReset {s : State} c : exec (.coreReset c) s = execCoreReset c s := rfl
theorem exec_mailboxIn {s : State} n c v : exec (.mailboxIn n c v) s = execMailboxIn n c v s := rfl
theorem exec_programStage {s : State} n c v : exec (.programStage n c v) s = execProgramStage n c v s := rfl
theorem exec_programVerify {s : State} n c sigOk : exec (.programVerify n c sigOk) s = execProgramVerify n c sigOk s := rfl
theorem exec_programEmpty {s : State} n c : exec (.programEmpty n c) s = execProgramEmpty n c s := rfl
theorem exec_ensLockstep {s : State} : exec (.ensLockstep) s = execEnsLockstep s := rfl
theorem exec_ensPairRestarted {s : State} : exec (.ensPairRestarted) s = execEnsPairRestarted s := rfl
theorem exec_feedData {s : State} n u v : exec (.feedData n u v) s = execFeedData n u v s := rfl
theorem exec_runningValueWrite {s : State} n u v : exec (.runningValueWrite n u v) s = execRunningValueWrite n u v s := rfl
theorem exec_crcSettingWrite {s : State} n u sub v : exec (.crcSettingWrite n u sub v) s = execCrcSettingWrite n u sub v s := rfl
theorem exec_compare {s : State} n u : exec (.compare n u) s = execCompare n u s := rfl
theorem exec_restartAtInit {s : State} n u : exec (.restartAtInit n u) s = execRestartAtInit n u s := rfl
theorem exec_aliveResync {s : State} n u : exec (.aliveResync n u) s = execAliveResync n u s := rfl
theorem exec_ownerTicket {s : State} n sigOk : exec (.ownerTicket n sigOk) s = execOwnerTicket n sigOk s := rfl
theorem exec_lifecycleAdvance {s : State} n : exec (.lifecycleAdvance n) s = execLifecycleAdvance n s := rfl
theorem exec_sha256 {s : State} n : exec (.sha256 n) s = execSha256 n s := rfl
theorem exec_sha384 {s : State} n : exec (.sha384 n) s = execSha384 n s := rfl
theorem exec_sha512 {s : State} n : exec (.sha512 n) s = execSha512 n s := rfl
theorem exec_aesGcmEncrypt {s : State} n : exec (.aesGcmEncrypt n) s = execAesGcmEncrypt n s := rfl
theorem exec_aesGcmDecrypt {s : State} n : exec (.aesGcmDecrypt n) s = execAesGcmDecrypt n s := rfl
theorem exec_cmacGenerate {s : State} n : exec (.cmacGenerate n) s = execCmacGenerate n s := rfl
theorem exec_cmacVerify {s : State} n : exec (.cmacVerify n) s = execCmacVerify n s := rfl
theorem exec_xtsEncrypt {s : State} n : exec (.xtsEncrypt n) s = execXtsEncrypt n s := rfl
theorem exec_xtsDecrypt {s : State} n : exec (.xtsDecrypt n) s = execXtsDecrypt n s := rfl
theorem exec_ecdsaSign {s : State} n : exec (.ecdsaSign n) s = execEcdsaSign n s := rfl
theorem exec_ecdsaVerify {s : State} n : exec (.ecdsaVerify n) s = execEcdsaVerify n s := rfl
theorem exec_ecdh {s : State} n : exec (.ecdh n) s = execEcdh n s := rfl
theorem exec_keyGeneration {s : State} n : exec (.keyGeneration n) s = execKeyGeneration n s := rfl
theorem exec_ed25519Verify {s : State} n : exec (.ed25519Verify n) s = execEd25519Verify n s := rfl
theorem exec_randomBytes {s : State} n : exec (.randomBytes n) s = execRandomBytes n s := rfl
theorem exec_cryptoJobDone {s : State} n : exec (.cryptoJobDone n) s = execCryptoJobDone n s := rfl
theorem exec_cryptoRngFail {s : State} : exec (.cryptoRngFail) s = execCryptoRngFail s := rfl
theorem exec_keyopGenerate {s : State} n w : exec (.keyopGenerate n w) s = execKeyopGenerate n w s := rfl
theorem exec_keyopImportPlain {s : State} n w : exec (.keyopImportPlain n w) s = execKeyopImportPlain n w s := rfl
theorem exec_keyopImportWrapped {s : State} n w : exec (.keyopImportWrapped n w) s = execKeyopImportWrapped n w s := rfl
theorem exec_keyopErase {s : State} n : exec (.keyopErase n) s = execKeyopErase n s := rfl
theorem exec_attest {s : State} n : exec (.attest n) s = execAttest n s := rfl
theorem exec_jtagDebugOpen {s : State} v sigOk cosignOk holderOk : exec (.jtagDebugOpen v sigOk cosignOk holderOk) s = execJtagDebugOpen v sigOk cosignOk holderOk s := rfl
theorem exec_debugCertExpiry {s : State} n : exec (.debugCertExpiry n) s = execDebugCertExpiry n s := rfl
theorem exec_boundaryScanOpen {s : State} n : exec (.boundaryScanOpen n) s = execBoundaryScanOpen n s := rfl
theorem exec_updHeader {s : State} n v sigOk : exec (.updHeader n v sigOk) s = execUpdHeader n v sigOk s := rfl
theorem exec_updBody {s : State} n off last v bad innerOk : exec (.updBody n off last v bad innerOk) s = execUpdBody n off last v bad innerOk s := rfl
theorem exec_updSchedule {s : State} n : exec (.updSchedule n) s = execUpdSchedule n s := rfl
theorem exec_updCancel {s : State} n : exec (.updCancel n) s = execUpdCancel n s := rfl
theorem exec_updConfirm {s : State} n : exec (.updConfirm n) s = execUpdConfirm n s := rfl
theorem exec_updReject {s : State} n : exec (.updReject n) s = execUpdReject n s := rfl
theorem exec_updRaiseFloor {s : State} n : exec (.updRaiseFloor n) s = execUpdRaiseFloor n s := rfl
theorem exec_updLoadUsb {s : State} n file sigOk bad innerOk : exec (.updLoadUsb n file sigOk bad innerOk) s = execUpdLoadUsb n file sigOk bad innerOk s := rfl
theorem exec_updActivation {s : State} : exec (.updActivation) s = execUpdActivation s := rfl
theorem exec_halyardRestartDone {s : State} ok : exec (.halyardRestartDone ok) s = execHalyardRestartDone ok s := rfl
theorem exec_updTrialExpiry {s : State} : exec (.updTrialExpiry) s = execUpdTrialExpiry s := rfl
theorem exec_recoveryRequest {s : State} cert v sigOk cosignOk holderOk innerOk : exec (.recoveryRequest cert v sigOk cosignOk holderOk innerOk) s = execRecoveryRequest cert v sigOk cosignOk holderOk innerOk s := rfl
theorem exec_unitReset {s : State} h copyOk v : exec (.unitReset h copyOk v) s = execUnitReset h copyOk v s := rfl
theorem exec_journalDrain {s : State} k : exec (.journalDrain k) s = execJournalDrain k s := rfl
theorem exec_exportBuild {s : State} n : exec (.exportBuild n) s = execExportBuild n s := rfl
theorem exec_vmainFail {s : State} vmain vbak : exec (.vmainFail vmain vbak) s = execVmainFail vmain vbak s := rfl
theorem exec_vmainValid {s : State} vmain drift : exec (.vmainValid vmain drift) s = execVmainValid vmain drift s := rfl
theorem exec_vmainOver {s : State} vmain vbak : exec (.vmainOver vmain vbak) s = execVmainOver vmain vbak s := rfl
theorem exec_vbakFlushTrigger {s : State} vbak : exec (.vbakFlushTrigger vbak) s = execVbakFlushTrigger vbak s := rfl
theorem exec_vbakLow {s : State} vbak : exec (.vbakLow vbak) s = execVbakLow vbak s := rfl
theorem exec_vbakAbsent {s : State} vbak : exec (.vbakAbsent vbak) s = execVbakAbsent vbak s := rfl
theorem exec_remoteOff {s : State} : exec (.remoteOff) s = execRemoteOff s := rfl
theorem exec_resetN {s : State} : exec (.resetN) s = execResetN s := rfl
theorem exec_thermalHigh {s : State} temp : exec (.thermalHigh temp) s = execThermalHigh temp s := rfl
theorem exec_thermalTrip {s : State} temp : exec (.thermalTrip temp) s = execThermalTrip temp s := rfl
theorem exec_thermalShutdown {s : State} temp : exec (.thermalShutdown temp) s = execThermalShutdown temp s := rfl
theorem exec_thermalRecover {s : State} drift : exec (.thermalRecover drift) s = execThermalRecover drift s := rfl
theorem exec_flushComplete {s : State} : exec (.flushComplete) s = execFlushComplete s := rfl
theorem exec_returnComplete {s : State} : exec (.returnComplete) s = execReturnComplete s := rfl
theorem exec_bootHandover {s : State} otpOk puf imageA imageB lost corrupt : exec (.bootHandover otpOk puf imageA imageB lost corrupt) s = execBootHandover otpOk puf imageA imageB lost corrupt s := rfl
theorem exec_startUpComplete {s : State} silent untrained : exec (.startUpComplete silent untrained) s = execStartUpComplete silent untrained s := rfl
theorem exec_halyardWatchdog {s : State} : exec (.halyardWatchdog) s = execHalyardWatchdog s := rfl
theorem exec_holdupConfigWrite {s : State} n sub v : exec (.holdupConfigWrite n sub v) s = execHoldupConfigWrite n sub v s := rfl
theorem exec_hoistJoin {s : State} n held : exec (.hoistJoin n held) s = execHoistJoin n held s := rfl
theorem exec_hoistLeave {s : State} n : exec (.hoistLeave n) s = execHoistLeave n s := rfl
theorem exec_hoistLinkUp {s : State} l trained authOk peer serial hid sameOwner hops mgr held : exec (.hoistLinkUp l trained authOk peer serial hid sameOwner hops mgr held) s = execHoistLinkUp l trained authOk peer serial hid sameOwner hops mgr held s := rfl
theorem exec_hoistLinkRetry {s : State} l : exec (.hoistLinkRetry l) s = execHoistLinkRetry l s := rfl
theorem exec_linkRekey {s : State} l : exec (.linkRekey l) s = execLinkRekey l s := rfl
theorem exec_hoistDictRequest {s : State} l ok src sess cl w op flags idx sub off len v : exec (.hoistDictRequest l ok src sess cl w op flags idx sub off len v) s = execHoistDictRequest l ok src sess cl w op flags idx sub off len v s := rfl
theorem exec_hoistDictResponse {s : State} l ok sess st v : exec (.hoistDictResponse l ok sess st v) s = execHoistDictResponse l ok sess st v s := rfl
theorem exec_hoistFeedData {s : State} l ok dst f last v : exec (.hoistFeedData l ok dst f last v) s = execHoistFeedData l ok dst f last v s := rfl
theorem exec_timeExchange {s : State} t1 t2 t3 t4 : exec (.timeExchange t1 t2 t3 t4) s = execTimeExchange t1 t2 t3 t4 s := rfl
theorem exec_timeLockTimeout {s : State} : exec (.timeLockTimeout) s = execTimeLockTimeout s := rfl
theorem exec_hoistHeartbeat {s : State} l ok src fromMgr hops mgr term : exec (.hoistHeartbeat l ok src fromMgr hops mgr term) s = execHoistHeartbeat l ok src fromMgr hops mgr term s := rfl
theorem exec_contactForward {s : State} l ok dst u w v : exec (.contactForward l ok dst u w v) s = execContactForward l ok dst u w v s := rfl
theorem exec_membership {s : State} l ok kind a b : exec (.membership l ok kind a b) s = execMembership l ok kind a b s := rfl
theorem exec_ptpMessage {s : State} p domain transport selected offset : exec (.ptpMessage p domain transport selected offset) s = execPtpMessage p domain transport selected offset s := rfl
theorem exec_hoistPtpLost {s : State} : exec (.hoistPtpLost) s = execHoistPtpLost s := rfl
theorem exec_hoistLinkDown {s : State} l : exec (.hoistLinkDown l) s = execHoistLinkDown l s := rfl
theorem exec_hoistDeviceLost {s : State} d : exec (.hoistDeviceLost d) s = execHoistDeviceLost d s := rfl
theorem exec_hoistTakeover {s : State} reach : exec (.hoistTakeover reach) s = execHoistTakeover reach s := rfl
theorem exec_feedEnable {s : State} n f src pathFits : exec (.feedEnable n f src pathFits) s = execFeedEnable n f src pathFits s := rfl
theorem exec_feedDisable {s : State} n f : exec (.feedDisable n f) s = execFeedDisable n f s := rfl
theorem exec_feedPoll {s : State} e d f : exec (.feedPoll e d f) s = execFeedPoll e d f s := rfl
theorem exec_feedCopyDone {s : State} e d f k : exec (.feedCopyDone e d f k) s = execFeedCopyDone e d f k s := rfl
theorem exec_hoistFeedLost {s : State} f : exec (.hoistFeedLost f) s = execHoistFeedLost f s := rfl
theorem exec_chainMaskWrite {s : State} n v : exec (.chainMaskWrite n v) s = execChainMaskWrite n v s := rfl
theorem exec_overflowClear {s : State} n v : exec (.overflowClear n v) s = execOverflowClear n v s := rfl
theorem exec_snapshotTake {s : State} n : exec (.snapshotTake n) s = execSnapshotTake n s := rfl
theorem exec_snapshotRelease {s : State} n : exec (.snapshotRelease n) s = execSnapshotRelease n s := rfl
theorem exec_samplerArm {s : State} n j : exec (.samplerArm n j) s = execSamplerArm n j s := rfl
theorem exec_samplerDisarm {s : State} n j : exec (.samplerDisarm n j) s = execSamplerDisarm n j s := rfl
theorem exec_pmcSample {s : State} j v : exec (.pmcSample j v) s = execPmcSample j v s := rfl
theorem exec_counterViewRead {s : State} i0 off : exec (.counterViewRead i0 off) s = execCounterViewRead i0 off s := rfl
theorem exec_ethInterfaceWrite {s : State} n p v : exec (.ethInterfaceWrite n p v) s = execEthInterfaceWrite n p v s := rfl
theorem exec_pcieLinkTraining {s : State} p up gen width : exec (.pcieLinkTraining p up gen width) s = execPcieLinkTraining p up gen width s := rfl
theorem exec_remoteOffInputWrite {s : State} n v : exec (.remoteOffInputWrite n v) s = execRemoteOffInputWrite n v s := rfl
theorem exec_lightSensorRead {s : State} k ok word : exec (.lightSensorRead k ok word) s = execLightSensorRead k ok word s := rfl
theorem exec_eqHoldoffExpiry {s : State} i0 : exec (.eqHoldoffExpiry i0) s = execEqHoldoffExpiry i0 s := rfl
theorem exec_workItemComplete {s : State} i0 r : exec (.workItemComplete i0 r) s = execWorkItemComplete i0 r s := rfl
theorem exec_lastFetchComplete {s : State} n l : exec (.lastFetchComplete n l) s = execLastFetchComplete n l s := rfl
theorem exec_resetNRelease {s : State} : exec (.resetNRelease) s = execResetNRelease s := rfl
theorem exec_remoteOffRelease {s : State} : exec (.remoteOffRelease) s = execRemoteOffRelease s := rfl
theorem exec_driverCooled {s : State} g temp : exec (.driverCooled g temp) s = execDriverCooled g temp s := rfl
theorem exec_lampTestInputChange {s : State} o on : exec (.lampTestInputChange o on) s = execLampTestInputChange o on s := rfl
theorem exec_ethLinkChange {s : State} p up mbps : exec (.ethLinkChange p up mbps) s = execEthLinkChange p up mbps s := rfl
theorem exec_rngStartupTestPass {s : State} : exec (.rngStartupTestPass) s = execRngStartupTestPass s := rfl
theorem exec_rxLinkTraining {s : State} n done : exec (.rxLinkTraining n done) s = execRxLinkTraining n done s := rfl

end Sys2Proof.Laws
end

