-- ==== Sys2Proof/Laws/Memory.lean ====
section
/-!
SUPPORT. Laws/Memory.lean: the laws of the sparse tables and of the byte memory: a read after a write gives what was written, another place reads as before,
and every memory operation keeps the canonical form.
-/
namespace Sys2Proof.Machine

variable {α : Type}

/-- A stored key reads what was stored. -/
theorem Kmap.get_put_same (d : α) (m : Kmap α) (k : Nat) (v : α) : (m.put k v).get d k = v := by
  induction m with
  | nil => simp [Kmap.put, Kmap.get]
  | cons p m ih =>
    obtain ⟨a, b⟩ := p
    simp only [Kmap.put]
    split
    · simp [Kmap.get]
    · split
      · simp [Kmap.get]
      · simp [Kmap.get, *]

/-- Another key reads as before. -/
theorem Kmap.get_put_other (d : α) (m : Kmap α) {k j : Nat} (v : α) (h : j ≠ k) : (m.put k v).get d j = m.get d j := by
  induction m with
  | nil => simp [Kmap.put, Kmap.get, Ne.symm h]
  | cons p m ih =>
    obtain ⟨a, b⟩ := p
    simp only [Kmap.put]
    split
    · simp [Kmap.get, Ne.symm h]
    · split
      · rename_i e; subst e; simp [Kmap.get, Ne.symm h]
      · simp [Kmap.get, ih]

/-- An erased key reads the default. -/
theorem Kmap.get_erase_same (d : α) (m : Kmap α) (k : Nat) : (m.erase k).get d k = d := by
  induction m with
  | nil => rfl
  | cons p m ih =>
    obtain ⟨a, b⟩ := p
    by_cases e : a = k <;> simp_all [Kmap.erase, Kmap.get]

/-- Erasing leaves the other keys. -/
theorem Kmap.get_erase_other (d : α) (m : Kmap α) {k j : Nat} (h : j ≠ k) : (m.erase k).get d j = m.get d j := by
  induction m with
  | nil => rfl
  | cons p m ih =>
    obtain ⟨a, b⟩ := p
    by_cases e : a = k
    · subst e; simp_all [Kmap.erase, Kmap.get, Ne.symm h]
    · simp_all [Kmap.erase, Kmap.get]

/-- A set key reads what was set. -/
theorem Kmap.get_set_same [DecidableEq α] (d : α) (m : Kmap α) (k : Nat) (v : α) : (Kmap.set d m k v).get d k = v := by
  unfold Kmap.set; split
  · subst_vars; exact Kmap.get_erase_same _ _ _
  · exact Kmap.get_put_same _ _ _ _

/-- Setting leaves the other keys. -/
theorem Kmap.get_set_other [DecidableEq α] (d : α) (m : Kmap α) {k j : Nat} (v : α) (h : j ≠ k) : (Kmap.set d m k v).get d j = m.get d j := by
  unfold Kmap.set; split
  · exact Kmap.get_erase_other _ _ h
  · exact Kmap.get_put_other _ _ _ h

/-- An entry of a table after a store is the stored one or one of before. -/
theorem Kmap.mem_put {m : Kmap α} {k : Nat} {v : α} {p : Nat × α} (h : p ∈ m.put k v) : p = (k, v) ∨ p ∈ m := by
  induction m with
  | nil => simp_all [Kmap.put]
  | cons q m ih =>
    obtain ⟨a, b⟩ := q
    simp only [Kmap.put] at h
    split at h
    · simp_all
    · split at h
      · simp_all; tauto
      · simp only [List.mem_cons] at h ⊢
        rcases h with h | h
        · exact .inr (.inl h)
        · rcases ih h with h | h
          · exact .inl h
          · exact .inr (.inr h)

/-- Storing keeps the keys strictly rising. -/
theorem Kmap.sorted_put {m : Kmap α} (k : Nat) (v : α) (h : Kmap.Sorted m) : Kmap.Sorted (m.put k v) := by
  induction m with
  | nil => simp [Kmap.put, Kmap.Sorted]
  | cons q m ih =>
    obtain ⟨a, b⟩ := q
    have hc := List.pairwise_cons.mp h
    simp only [Kmap.put]
    split
    · refine List.pairwise_cons.mpr ⟨?_, h⟩
      intro p hp
      rcases List.mem_cons.mp hp with e | e
      · subst e; assumption
      · have := hc.1 p e; simp_all; omega
    · split
      · rename_i e; subst e; exact List.pairwise_cons.mpr ⟨hc.1, hc.2⟩
      · refine List.pairwise_cons.mpr ⟨?_, ih hc.2⟩
        intro p hp
        rcases Kmap.mem_put hp with e | e
        · subst e; simp; omega
        · exact hc.1 p e

/-- Leaving entries out keeps the canonical form. -/
theorem Kmap.canon_filter {d : α} {m : Kmap α} (q : Nat × α → Bool) (h : Kmap.Canon d m) : Kmap.Canon d (m.filter q) :=
  ⟨h.1.filter q, fun p hp => h.2 p (List.mem_filter.mp hp).1⟩

/-- Setting keeps the canonical form. -/
theorem Kmap.canon_set [DecidableEq α] {d : α} {m : Kmap α} (k : Nat) (v : α) (h : Kmap.Canon d m) : Kmap.Canon d (Kmap.set d m k v) := by
  unfold Kmap.set; split
  · exact Kmap.canon_filter _ h
  · refine ⟨Kmap.sorted_put k v h.1, fun p hp => ?_⟩
    rcases Kmap.mem_put hp with e | e
    · subst e; assumption
    · exact h.2 p e

/-- The memory after reset has the canonical form. -/
theorem State.reset_mem : Memory.wf State.reset.mem := ⟨List.Pairwise.nil, by simp [State.reset]⟩

/-- Storing a byte keeps the canonical form of the memory. -/
theorem State.setByte_wf {s : State} (a : Nat) (b : Byte) (h : Memory.wf s.mem) : Memory.wf (s.setByte a b).mem := Kmap.canon_set a b h

/-- Storing bytes keeps it. -/
theorem State.writeBytes_wf (bs : Bytes) : ∀ {s : State} (a : Nat), Memory.wf s.mem → Memory.wf (s.writeBytes a bs).mem := by
  induction bs with
  | nil => intro s a h; exact h
  | cons b bs ih => intro s a h; exact ih (a + 1) (State.setByte_wf a b h)

/-- Storing bytes at a list of addresses keeps it. -/
theorem State.zipWrite_wf (l : List (Nat × Byte)) : ∀ {s : State}, Memory.wf s.mem → Memory.wf (l.foldl (fun s p => s.setByte p.1 p.2) s).mem := by
  induction l with
  | nil => intro s h; exact h
  | cons p l ih => intro s h; exact ih (State.setByte_wf p.1 p.2 h)

/-- A store through a window leaves the device's own memory. -/
@[simp] theorem State.windowOut_mem (s : State) (acc : Nat) (x : Nat × Bytes) : (s.windowOut acc x).mem = s.mem := by
  unfold State.windowOut
  simp only []
  split <;> rfl

/-- Bytes written to the fabric keep it. -/
theorem State.fabricPut_wf {s : State} (l : List (Nat × Byte)) (h : Memory.wf s.mem) : Memory.wf (s.fabricPut l).mem := by
  have out : ∀ (xs : List (Nat × Bytes)) (t : State), (xs.foldl (fun s x => s.windowOut 2 x) t).mem = t.mem := by
    intro xs
    induction xs with
    | nil => intro t; rfl
    | cons x xs ih => intro t; exact (ih _).trans (State.windowOut_mem t 2 x)
  unfold State.fabricPut
  simp only [out]
  exact State.zipWrite_wf _ h

/-- A write of a world to its guest space keeps it. -/
theorem State.gwrite_wf {s t : State} {w root va : Nat} {bs : Bytes} (h : Memory.wf s.mem) (e : s.gwrite w root va bs = .ok t) : Memory.wf t.mem := by
  unfold State.gwrite at e
  split at e
  · cases e
  · cases e; exact State.fabricPut_wf _ h

/-- What a power cycle leaves of the memory keeps it. -/
theorem State.wipe_wf {s : State} (warm : Bool) (h : Memory.wf s.mem) : Memory.wf (s.wipe warm).mem := Kmap.canon_filter _ h

/-- A register reads what was written to it. -/
@[simp] theorem State.reg_setReg_same (s : State) (k v : Nat) : (s.setReg k v).reg k = v := Kmap.get_put_same _ _ _ _

/-- Another register reads as before. -/
theorem State.reg_setReg_other (s : State) {k j : Nat} (v : Nat) (h : j ≠ k) : (s.setReg k v).reg j = s.reg j := Kmap.get_put_other _ _ _ h

/-- A byte reads what was stored in it. -/
@[simp] theorem State.byte_setByte_same (s : State) (a : Nat) (b : Byte) : (s.setByte a b).byte a = b := Kmap.get_set_same _ _ _ _

/-- Another byte reads as before. -/
theorem State.byte_setByte_other (s : State) {a c : Nat} (b : Byte) (h : c ≠ a) : (s.setByte a b).byte c = s.byte c := Kmap.get_set_other _ _ _ h

/-- A queue reads what was written to it. -/
@[simp] theorem State.fifo_setFifo_same (s : State) (k : Nat) (v : List Bytes) : (s.setFifo k v).fifo k = v := Kmap.get_set_same _ _ _ _

/-- Another queue reads as before. -/
theorem State.fifo_setFifo_other (s : State) {k j : Nat} (v : List Bytes) (h : j ≠ k) : (s.setFifo k v).fifo j = s.fifo j := Kmap.get_set_other _ _ _ h

/-- A list of numbers reads what was written to it. -/
@[simp] theorem State.num_setNum_same (s : State) (k : Nat) (v : List Nat) : (s.setNum k v).num k = v := Kmap.get_set_same _ _ _ _

end Sys2Proof.Machine
end

