-- ==== Sys2Proof/Laws/State.lean ====
section
/-!
SUPPORT. Laws/State.lean: what each named update of the state leaves alone, one lemma per field per update and per field read, so that no later proof unfolds a
record update.
-/
namespace Sys2Proof.Machine.State

/-! `setReg` changes `regs` alone. -/
@[simp] theorem setReg_now (s : State) (k v : Nat) : (s.setReg k v).now = s.now := rfl
@[simp] theorem setReg_freeCount (s : State) (k v : Nat) : (s.setReg k v).freeCount = s.freeCount := rfl
@[simp] theorem setReg_pending (s : State) (k v : Nat) : (s.setReg k v).pending = s.pending := rfl
@[simp] theorem setReg_shadow (s : State) (k v : Nat) : (s.setReg k v).shadow = s.shadow := rfl
@[simp] theorem setReg_pend (s : State) (k v : Nat) : (s.setReg k v).pend = s.pend := rfl
@[simp] theorem setReg_fifos (s : State) (k v : Nat) : (s.setReg k v).fifos = s.fifos := rfl
@[simp] theorem setReg_nums (s : State) (k v : Nat) : (s.setReg k v).nums = s.nums := rfl
@[simp] theorem setReg_mem (s : State) (k v : Nat) : (s.setReg k v).mem = s.mem := rfl
@[simp] theorem setReg_ownerRing (s : State) (k v : Nat) : (s.setReg k v).ownerRing = s.ownerRing := rfl
@[simp] theorem setReg_halInbox (s : State) (k v : Nat) : (s.setReg k v).halInbox = s.halInbox := rfl
@[simp] theorem setReg_ensInbox (s : State) (k v : Nat) : (s.setReg k v).ensInbox = s.ensInbox := rfl
@[simp] theorem setReg_eqStore (s : State) (k v : Nat) : (s.setReg k v).eqStore = s.eqStore := rfl
@[simp] theorem setReg_journal (s : State) (k v : Nat) : (s.setReg k v).journal = s.journal := rfl
@[simp] theorem setReg_items (s : State) (k v : Nat) : (s.setReg k v).items = s.items := rfl
@[simp] theorem setReg_exports (s : State) (k v : Nat) : (s.setReg k v).exports = s.exports := rfl
@[simp] theorem setReg_views (s : State) (k v : Nat) : (s.setReg k v).views = s.views := rfl
@[simp] theorem setReg_halSettings (s : State) (k v : Nat) : (s.setReg k v).halSettings = s.halSettings := rfl
@[simp] theorem setReg_tracks (s : State) (k v : Nat) : (s.setReg k v).tracks = s.tracks := rfl
@[simp] theorem setReg_rfmActs (s : State) (k v : Nat) : (s.setReg k v).rfmActs = s.rfmActs := rfl
@[simp] theorem setReg_throttles (s : State) (k v : Nat) : (s.setReg k v).throttles = s.throttles := rfl
@[simp] theorem setReg_stagedPkg (s : State) (k v : Nat) : (s.setReg k v).stagedPkg = s.stagedPkg := rfl
@[simp] theorem setReg_activePkg (s : State) (k v : Nat) : (s.setReg k v).activePkg = s.activePkg := rfl
@[simp] theorem setReg_nextPkg (s : State) (k v : Nat) : (s.setReg k v).nextPkg = s.nextPkg := rfl
@[simp] theorem setReg_contacts (s : State) (k v : Nat) : (s.setReg k v).contacts = s.contacts := rfl
@[simp] theorem setReg_audBufs (s : State) (k v : Nat) : (s.setReg k v).audBufs = s.audBufs := rfl
@[simp] theorem setReg_jobs (s : State) (k v : Nat) : (s.setReg k v).jobs = s.jobs := rfl
@[simp] theorem setReg_out (s : State) (k v : Nat) : (s.setReg k v).out = s.out := rfl
@[simp] theorem setReg_answer (s : State) (k v : Nat) : (s.setReg k v).answer = s.answer := rfl
@[simp] theorem setReg_kept (s : State) (k v : Nat) : (s.setReg k v).kept = s.kept := rfl
@[simp] theorem setReg_addedUnits (s : State) (k v : Nat) : (s.setReg k v).addedUnits = s.addedUnits := rfl
@[simp] theorem setReg_lines (s : State) (k v : Nat) : (s.setReg k v).lines = s.lines := rfl
@[simp] theorem setReg_fifo (s : State) (k v : Nat) (j : Nat) : (s.setReg k v).fifo j = s.fifo j := rfl
@[simp] theorem setReg_num (s : State) (k v : Nat) (j : Nat) : (s.setReg k v).num j = s.num j := rfl
@[simp] theorem setReg_byte (s : State) (k v : Nat) (j : Nat) : (s.setReg k v).byte j = s.byte j := rfl
@[simp] theorem setReg_eqStored (s : State) (k v : Nat) (j : Nat) : (s.setReg k v).eqStored j = s.eqStored j := rfl

/-! `bump` changes `regs` alone. -/
@[simp] theorem bump_now (s : State) (k w : Nat) : (s.bump k w).now = s.now := rfl
@[simp] theorem bump_freeCount (s : State) (k w : Nat) : (s.bump k w).freeCount = s.freeCount := rfl
@[simp] theorem bump_pending (s : State) (k w : Nat) : (s.bump k w).pending = s.pending := rfl
@[simp] theorem bump_shadow (s : State) (k w : Nat) : (s.bump k w).shadow = s.shadow := rfl
@[simp] theorem bump_pend (s : State) (k w : Nat) : (s.bump k w).pend = s.pend := rfl
@[simp] theorem bump_fifos (s : State) (k w : Nat) : (s.bump k w).fifos = s.fifos := rfl
@[simp] theorem bump_nums (s : State) (k w : Nat) : (s.bump k w).nums = s.nums := rfl
@[simp] theorem bump_mem (s : State) (k w : Nat) : (s.bump k w).mem = s.mem := rfl
@[simp] theorem bump_ownerRing (s : State) (k w : Nat) : (s.bump k w).ownerRing = s.ownerRing := rfl
@[simp] theorem bump_halInbox (s : State) (k w : Nat) : (s.bump k w).halInbox = s.halInbox := rfl
@[simp] theorem bump_ensInbox (s : State) (k w : Nat) : (s.bump k w).ensInbox = s.ensInbox := rfl
@[simp] theorem bump_eqStore (s : State) (k w : Nat) : (s.bump k w).eqStore = s.eqStore := rfl
@[simp] theorem bump_journal (s : State) (k w : Nat) : (s.bump k w).journal = s.journal := rfl
@[simp] theorem bump_items (s : State) (k w : Nat) : (s.bump k w).items = s.items := rfl
@[simp] theorem bump_exports (s : State) (k w : Nat) : (s.bump k w).exports = s.exports := rfl
@[simp] theorem bump_views (s : State) (k w : Nat) : (s.bump k w).views = s.views := rfl
@[simp] theorem bump_halSettings (s : State) (k w : Nat) : (s.bump k w).halSettings = s.halSettings := rfl
@[simp] theorem bump_tracks (s : State) (k w : Nat) : (s.bump k w).tracks = s.tracks := rfl
@[simp] theorem bump_rfmActs (s : State) (k w : Nat) : (s.bump k w).rfmActs = s.rfmActs := rfl
@[simp] theorem bump_throttles (s : State) (k w : Nat) : (s.bump k w).throttles = s.throttles := rfl
@[simp] theorem bump_stagedPkg (s : State) (k w : Nat) : (s.bump k w).stagedPkg = s.stagedPkg := rfl
@[simp] theorem bump_activePkg (s : State) (k w : Nat) : (s.bump k w).activePkg = s.activePkg := rfl
@[simp] theorem bump_nextPkg (s : State) (k w : Nat) : (s.bump k w).nextPkg = s.nextPkg := rfl
@[simp] theorem bump_contacts (s : State) (k w : Nat) : (s.bump k w).contacts = s.contacts := rfl
@[simp] theorem bump_audBufs (s : State) (k w : Nat) : (s.bump k w).audBufs = s.audBufs := rfl
@[simp] theorem bump_jobs (s : State) (k w : Nat) : (s.bump k w).jobs = s.jobs := rfl
@[simp] theorem bump_out (s : State) (k w : Nat) : (s.bump k w).out = s.out := rfl
@[simp] theorem bump_answer (s : State) (k w : Nat) : (s.bump k w).answer = s.answer := rfl
@[simp] theorem bump_kept (s : State) (k w : Nat) : (s.bump k w).kept = s.kept := rfl
@[simp] theorem bump_addedUnits (s : State) (k w : Nat) : (s.bump k w).addedUnits = s.addedUnits := rfl
@[simp] theorem bump_lines (s : State) (k w : Nat) : (s.bump k w).lines = s.lines := rfl
@[simp] theorem bump_fifo (s : State) (k w : Nat) (j : Nat) : (s.bump k w).fifo j = s.fifo j := rfl
@[simp] theorem bump_num (s : State) (k w : Nat) (j : Nat) : (s.bump k w).num j = s.num j := rfl
@[simp] theorem bump_byte (s : State) (k w : Nat) (j : Nat) : (s.bump k w).byte j = s.byte j := rfl
@[simp] theorem bump_eqStored (s : State) (k w : Nat) (j : Nat) : (s.bump k w).eqStored j = s.eqStored j := rfl

/-! `addReg` changes `regs` alone. -/
@[simp] theorem addReg_now (s : State) (k w n : Nat) : (s.addReg k w n).now = s.now := rfl
@[simp] theorem addReg_freeCount (s : State) (k w n : Nat) : (s.addReg k w n).freeCount = s.freeCount := rfl
@[simp] theorem addReg_pending (s : State) (k w n : Nat) : (s.addReg k w n).pending = s.pending := rfl
@[simp] theorem addReg_shadow (s : State) (k w n : Nat) : (s.addReg k w n).shadow = s.shadow := rfl
@[simp] theorem addReg_pend (s : State) (k w n : Nat) : (s.addReg k w n).pend = s.pend := rfl
@[simp] theorem addReg_fifos (s : State) (k w n : Nat) : (s.addReg k w n).fifos = s.fifos := rfl
@[simp] theorem addReg_nums (s : State) (k w n : Nat) : (s.addReg k w n).nums = s.nums := rfl
@[simp] theorem addReg_mem (s : State) (k w n : Nat) : (s.addReg k w n).mem = s.mem := rfl
@[simp] theorem addReg_ownerRing (s : State) (k w n : Nat) : (s.addReg k w n).ownerRing = s.ownerRing := rfl
@[simp] theorem addReg_halInbox (s : State) (k w n : Nat) : (s.addReg k w n).halInbox = s.halInbox := rfl
@[simp] theorem addReg_ensInbox (s : State) (k w n : Nat) : (s.addReg k w n).ensInbox = s.ensInbox := rfl
@[simp] theorem addReg_eqStore (s : State) (k w n : Nat) : (s.addReg k w n).eqStore = s.eqStore := rfl
@[simp] theorem addReg_journal (s : State) (k w n : Nat) : (s.addReg k w n).journal = s.journal := rfl
@[simp] theorem addReg_items (s : State) (k w n : Nat) : (s.addReg k w n).items = s.items := rfl
@[simp] theorem addReg_exports (s : State) (k w n : Nat) : (s.addReg k w n).exports = s.exports := rfl
@[simp] theorem addReg_views (s : State) (k w n : Nat) : (s.addReg k w n).views = s.views := rfl
@[simp] theorem addReg_halSettings (s : State) (k w n : Nat) : (s.addReg k w n).halSettings = s.halSettings := rfl
@[simp] theorem addReg_tracks (s : State) (k w n : Nat) : (s.addReg k w n).tracks = s.tracks := rfl
@[simp] theorem addReg_rfmActs (s : State) (k w n : Nat) : (s.addReg k w n).rfmActs = s.rfmActs := rfl
@[simp] theorem addReg_throttles (s : State) (k w n : Nat) : (s.addReg k w n).throttles = s.throttles := rfl
@[simp] theorem addReg_stagedPkg (s : State) (k w n : Nat) : (s.addReg k w n).stagedPkg = s.stagedPkg := rfl
@[simp] theorem addReg_activePkg (s : State) (k w n : Nat) : (s.addReg k w n).activePkg = s.activePkg := rfl
@[simp] theorem addReg_nextPkg (s : State) (k w n : Nat) : (s.addReg k w n).nextPkg = s.nextPkg := rfl
@[simp] theorem addReg_contacts (s : State) (k w n : Nat) : (s.addReg k w n).contacts = s.contacts := rfl
@[simp] theorem addReg_audBufs (s : State) (k w n : Nat) : (s.addReg k w n).audBufs = s.audBufs := rfl
@[simp] theorem addReg_jobs (s : State) (k w n : Nat) : (s.addReg k w n).jobs = s.jobs := rfl
@[simp] theorem addReg_out (s : State) (k w n : Nat) : (s.addReg k w n).out = s.out := rfl
@[simp] theorem addReg_answer (s : State) (k w n : Nat) : (s.addReg k w n).answer = s.answer := rfl
@[simp] theorem addReg_kept (s : State) (k w n : Nat) : (s.addReg k w n).kept = s.kept := rfl
@[simp] theorem addReg_addedUnits (s : State) (k w n : Nat) : (s.addReg k w n).addedUnits = s.addedUnits := rfl
@[simp] theorem addReg_lines (s : State) (k w n : Nat) : (s.addReg k w n).lines = s.lines := rfl
@[simp] theorem addReg_fifo (s : State) (k w n : Nat) (j : Nat) : (s.addReg k w n).fifo j = s.fifo j := rfl
@[simp] theorem addReg_num (s : State) (k w n : Nat) (j : Nat) : (s.addReg k w n).num j = s.num j := rfl
@[simp] theorem addReg_byte (s : State) (k w n : Nat) (j : Nat) : (s.addReg k w n).byte j = s.byte j := rfl
@[simp] theorem addReg_eqStored (s : State) (k w n : Nat) (j : Nat) : (s.addReg k w n).eqStored j = s.eqStored j := rfl

/-! `setFifo` changes `fifos` alone. -/
@[simp] theorem setFifo_now (s : State) (k : Nat) (v : List Bytes) : (s.setFifo k v).now = s.now := rfl
@[simp] theorem setFifo_freeCount (s : State) (k : Nat) (v : List Bytes) : (s.setFifo k v).freeCount = s.freeCount := rfl
@[simp] theorem setFifo_pending (s : State) (k : Nat) (v : List Bytes) : (s.setFifo k v).pending = s.pending := rfl
@[simp] theorem setFifo_regs (s : State) (k : Nat) (v : List Bytes) : (s.setFifo k v).regs = s.regs := rfl
@[simp] theorem setFifo_shadow (s : State) (k : Nat) (v : List Bytes) : (s.setFifo k v).shadow = s.shadow := rfl
@[simp] theorem setFifo_pend (s : State) (k : Nat) (v : List Bytes) : (s.setFifo k v).pend = s.pend := rfl
@[simp] theorem setFifo_nums (s : State) (k : Nat) (v : List Bytes) : (s.setFifo k v).nums = s.nums := rfl
@[simp] theorem setFifo_mem (s : State) (k : Nat) (v : List Bytes) : (s.setFifo k v).mem = s.mem := rfl
@[simp] theorem setFifo_ownerRing (s : State) (k : Nat) (v : List Bytes) : (s.setFifo k v).ownerRing = s.ownerRing := rfl
@[simp] theorem setFifo_halInbox (s : State) (k : Nat) (v : List Bytes) : (s.setFifo k v).halInbox = s.halInbox := rfl
@[simp] theorem setFifo_ensInbox (s : State) (k : Nat) (v : List Bytes) : (s.setFifo k v).ensInbox = s.ensInbox := rfl
@[simp] theorem setFifo_eqStore (s : State) (k : Nat) (v : List Bytes) : (s.setFifo k v).eqStore = s.eqStore := rfl
@[simp] theorem setFifo_journal (s : State) (k : Nat) (v : List Bytes) : (s.setFifo k v).journal = s.journal := rfl
@[simp] theorem setFifo_items (s : State) (k : Nat) (v : List Bytes) : (s.setFifo k v).items = s.items := rfl
@[simp] theorem setFifo_exports (s : State) (k : Nat) (v : List Bytes) : (s.setFifo k v).exports = s.exports := rfl
@[simp] theorem setFifo_views (s : State) (k : Nat) (v : List Bytes) : (s.setFifo k v).views = s.views := rfl
@[simp] theorem setFifo_halSettings (s : State) (k : Nat) (v : List Bytes) : (s.setFifo k v).halSettings = s.halSettings := rfl
@[simp] theorem setFifo_tracks (s : State) (k : Nat) (v : List Bytes) : (s.setFifo k v).tracks = s.tracks := rfl
@[simp] theorem setFifo_rfmActs (s : State) (k : Nat) (v : List Bytes) : (s.setFifo k v).rfmActs = s.rfmActs := rfl
@[simp] theorem setFifo_throttles (s : State) (k : Nat) (v : List Bytes) : (s.setFifo k v).throttles = s.throttles := rfl
@[simp] theorem setFifo_stagedPkg (s : State) (k : Nat) (v : List Bytes) : (s.setFifo k v).stagedPkg = s.stagedPkg := rfl
@[simp] theorem setFifo_activePkg (s : State) (k : Nat) (v : List Bytes) : (s.setFifo k v).activePkg = s.activePkg := rfl
@[simp] theorem setFifo_nextPkg (s : State) (k : Nat) (v : List Bytes) : (s.setFifo k v).nextPkg = s.nextPkg := rfl
@[simp] theorem setFifo_contacts (s : State) (k : Nat) (v : List Bytes) : (s.setFifo k v).contacts = s.contacts := rfl
@[simp] theorem setFifo_audBufs (s : State) (k : Nat) (v : List Bytes) : (s.setFifo k v).audBufs = s.audBufs := rfl
@[simp] theorem setFifo_jobs (s : State) (k : Nat) (v : List Bytes) : (s.setFifo k v).jobs = s.jobs := rfl
@[simp] theorem setFifo_out (s : State) (k : Nat) (v : List Bytes) : (s.setFifo k v).out = s.out := rfl
@[simp] theorem setFifo_answer (s : State) (k : Nat) (v : List Bytes) : (s.setFifo k v).answer = s.answer := rfl
@[simp] theorem setFifo_kept (s : State) (k : Nat) (v : List Bytes) : (s.setFifo k v).kept = s.kept := rfl
@[simp] theorem setFifo_addedUnits (s : State) (k : Nat) (v : List Bytes) : (s.setFifo k v).addedUnits = s.addedUnits := rfl
@[simp] theorem setFifo_lines (s : State) (k : Nat) (v : List Bytes) : (s.setFifo k v).lines = s.lines := rfl
@[simp] theorem setFifo_reg (s : State) (k : Nat) (v : List Bytes) (j : Nat) : (s.setFifo k v).reg j = s.reg j := rfl
@[simp] theorem setFifo_num (s : State) (k : Nat) (v : List Bytes) (j : Nat) : (s.setFifo k v).num j = s.num j := rfl
@[simp] theorem setFifo_byte (s : State) (k : Nat) (v : List Bytes) (j : Nat) : (s.setFifo k v).byte j = s.byte j := rfl
@[simp] theorem setFifo_eqStored (s : State) (k : Nat) (v : List Bytes) (j : Nat) : (s.setFifo k v).eqStored j = s.eqStored j := rfl

/-! `setNum` changes `nums` alone. -/
@[simp] theorem setNum_now (s : State) (k : Nat) (v : List Nat) : (s.setNum k v).now = s.now := rfl
@[simp] theorem setNum_freeCount (s : State) (k : Nat) (v : List Nat) : (s.setNum k v).freeCount = s.freeCount := rfl
@[simp] theorem setNum_pending (s : State) (k : Nat) (v : List Nat) : (s.setNum k v).pending = s.pending := rfl
@[simp] theorem setNum_regs (s : State) (k : Nat) (v : List Nat) : (s.setNum k v).regs = s.regs := rfl
@[simp] theorem setNum_shadow (s : State) (k : Nat) (v : List Nat) : (s.setNum k v).shadow = s.shadow := rfl
@[simp] theorem setNum_pend (s : State) (k : Nat) (v : List Nat) : (s.setNum k v).pend = s.pend := rfl
@[simp] theorem setNum_fifos (s : State) (k : Nat) (v : List Nat) : (s.setNum k v).fifos = s.fifos := rfl
@[simp] theorem setNum_mem (s : State) (k : Nat) (v : List Nat) : (s.setNum k v).mem = s.mem := rfl
@[simp] theorem setNum_ownerRing (s : State) (k : Nat) (v : List Nat) : (s.setNum k v).ownerRing = s.ownerRing := rfl
@[simp] theorem setNum_halInbox (s : State) (k : Nat) (v : List Nat) : (s.setNum k v).halInbox = s.halInbox := rfl
@[simp] theorem setNum_ensInbox (s : State) (k : Nat) (v : List Nat) : (s.setNum k v).ensInbox = s.ensInbox := rfl
@[simp] theorem setNum_eqStore (s : State) (k : Nat) (v : List Nat) : (s.setNum k v).eqStore = s.eqStore := rfl
@[simp] theorem setNum_journal (s : State) (k : Nat) (v : List Nat) : (s.setNum k v).journal = s.journal := rfl
@[simp] theorem setNum_items (s : State) (k : Nat) (v : List Nat) : (s.setNum k v).items = s.items := rfl
@[simp] theorem setNum_exports (s : State) (k : Nat) (v : List Nat) : (s.setNum k v).exports = s.exports := rfl
@[simp] theorem setNum_views (s : State) (k : Nat) (v : List Nat) : (s.setNum k v).views = s.views := rfl
@[simp] theorem setNum_halSettings (s : State) (k : Nat) (v : List Nat) : (s.setNum k v).halSettings = s.halSettings := rfl
@[simp] theorem setNum_tracks (s : State) (k : Nat) (v : List Nat) : (s.setNum k v).tracks = s.tracks := rfl
@[simp] theorem setNum_rfmActs (s : State) (k : Nat) (v : List Nat) : (s.setNum k v).rfmActs = s.rfmActs := rfl
@[simp] theorem setNum_throttles (s : State) (k : Nat) (v : List Nat) : (s.setNum k v).throttles = s.throttles := rfl
@[simp] theorem setNum_stagedPkg (s : State) (k : Nat) (v : List Nat) : (s.setNum k v).stagedPkg = s.stagedPkg := rfl
@[simp] theorem setNum_activePkg (s : State) (k : Nat) (v : List Nat) : (s.setNum k v).activePkg = s.activePkg := rfl
@[simp] theorem setNum_nextPkg (s : State) (k : Nat) (v : List Nat) : (s.setNum k v).nextPkg = s.nextPkg := rfl
@[simp] theorem setNum_contacts (s : State) (k : Nat) (v : List Nat) : (s.setNum k v).contacts = s.contacts := rfl
@[simp] theorem setNum_audBufs (s : State) (k : Nat) (v : List Nat) : (s.setNum k v).audBufs = s.audBufs := rfl
@[simp] theorem setNum_jobs (s : State) (k : Nat) (v : List Nat) : (s.setNum k v).jobs = s.jobs := rfl
@[simp] theorem setNum_out (s : State) (k : Nat) (v : List Nat) : (s.setNum k v).out = s.out := rfl
@[simp] theorem setNum_answer (s : State) (k : Nat) (v : List Nat) : (s.setNum k v).answer = s.answer := rfl
@[simp] theorem setNum_kept (s : State) (k : Nat) (v : List Nat) : (s.setNum k v).kept = s.kept := rfl
@[simp] theorem setNum_addedUnits (s : State) (k : Nat) (v : List Nat) : (s.setNum k v).addedUnits = s.addedUnits := rfl
@[simp] theorem setNum_lines (s : State) (k : Nat) (v : List Nat) : (s.setNum k v).lines = s.lines := rfl
@[simp] theorem setNum_reg (s : State) (k : Nat) (v : List Nat) (j : Nat) : (s.setNum k v).reg j = s.reg j := rfl
@[simp] theorem setNum_fifo (s : State) (k : Nat) (v : List Nat) (j : Nat) : (s.setNum k v).fifo j = s.fifo j := rfl
@[simp] theorem setNum_byte (s : State) (k : Nat) (v : List Nat) (j : Nat) : (s.setNum k v).byte j = s.byte j := rfl
@[simp] theorem setNum_eqStored (s : State) (k : Nat) (v : List Nat) (j : Nat) : (s.setNum k v).eqStored j = s.eqStored j := rfl

/-! `emit` changes `out` alone. -/
@[simp] theorem emit_now (s : State) (o : Out) : (s.emit o).now = s.now := rfl
@[simp] theorem emit_freeCount (s : State) (o : Out) : (s.emit o).freeCount = s.freeCount := rfl
@[simp] theorem emit_pending (s : State) (o : Out) : (s.emit o).pending = s.pending := rfl
@[simp] theorem emit_regs (s : State) (o : Out) : (s.emit o).regs = s.regs := rfl
@[simp] theorem emit_shadow (s : State) (o : Out) : (s.emit o).shadow = s.shadow := rfl
@[simp] theorem emit_pend (s : State) (o : Out) : (s.emit o).pend = s.pend := rfl
@[simp] theorem emit_fifos (s : State) (o : Out) : (s.emit o).fifos = s.fifos := rfl
@[simp] theorem emit_nums (s : State) (o : Out) : (s.emit o).nums = s.nums := rfl
@[simp] theorem emit_mem (s : State) (o : Out) : (s.emit o).mem = s.mem := rfl
@[simp] theorem emit_ownerRing (s : State) (o : Out) : (s.emit o).ownerRing = s.ownerRing := rfl
@[simp] theorem emit_halInbox (s : State) (o : Out) : (s.emit o).halInbox = s.halInbox := rfl
@[simp] theorem emit_ensInbox (s : State) (o : Out) : (s.emit o).ensInbox = s.ensInbox := rfl
@[simp] theorem emit_eqStore (s : State) (o : Out) : (s.emit o).eqStore = s.eqStore := rfl
@[simp] theorem emit_journal (s : State) (o : Out) : (s.emit o).journal = s.journal := rfl
@[simp] theorem emit_items (s : State) (o : Out) : (s.emit o).items = s.items := rfl
@[simp] theorem emit_exports (s : State) (o : Out) : (s.emit o).exports = s.exports := rfl
@[simp] theorem emit_views (s : State) (o : Out) : (s.emit o).views = s.views := rfl
@[simp] theorem emit_halSettings (s : State) (o : Out) : (s.emit o).halSettings = s.halSettings := rfl
@[simp] theorem emit_tracks (s : State) (o : Out) : (s.emit o).tracks = s.tracks := rfl
@[simp] theorem emit_rfmActs (s : State) (o : Out) : (s.emit o).rfmActs = s.rfmActs := rfl
@[simp] theorem emit_throttles (s : State) (o : Out) : (s.emit o).throttles = s.throttles := rfl
@[simp] theorem emit_stagedPkg (s : State) (o : Out) : (s.emit o).stagedPkg = s.stagedPkg := rfl
@[simp] theorem emit_activePkg (s : State) (o : Out) : (s.emit o).activePkg = s.activePkg := rfl
@[simp] theorem emit_nextPkg (s : State) (o : Out) : (s.emit o).nextPkg = s.nextPkg := rfl
@[simp] theorem emit_contacts (s : State) (o : Out) : (s.emit o).contacts = s.contacts := rfl
@[simp] theorem emit_audBufs (s : State) (o : Out) : (s.emit o).audBufs = s.audBufs := rfl
@[simp] theorem emit_jobs (s : State) (o : Out) : (s.emit o).jobs = s.jobs := rfl
@[simp] theorem emit_answer (s : State) (o : Out) : (s.emit o).answer = s.answer := rfl
@[simp] theorem emit_kept (s : State) (o : Out) : (s.emit o).kept = s.kept := rfl
@[simp] theorem emit_addedUnits (s : State) (o : Out) : (s.emit o).addedUnits = s.addedUnits := rfl
@[simp] theorem emit_lines (s : State) (o : Out) : (s.emit o).lines = s.lines := rfl
@[simp] theorem emit_reg (s : State) (o : Out) (j : Nat) : (s.emit o).reg j = s.reg j := rfl
@[simp] theorem emit_fifo (s : State) (o : Out) (j : Nat) : (s.emit o).fifo j = s.fifo j := rfl
@[simp] theorem emit_num (s : State) (o : Out) (j : Nat) : (s.emit o).num j = s.num j := rfl
@[simp] theorem emit_byte (s : State) (o : Out) (j : Nat) : (s.emit o).byte j = s.byte j := rfl
@[simp] theorem emit_eqStored (s : State) (o : Out) (j : Nat) : (s.emit o).eqStored j = s.eqStored j := rfl

/-! `reply` changes `answer` alone. -/
@[simp] theorem reply_now (s : State) (st : Nat) : (s.reply st).now = s.now := rfl
@[simp] theorem reply_freeCount (s : State) (st : Nat) : (s.reply st).freeCount = s.freeCount := rfl
@[simp] theorem reply_pending (s : State) (st : Nat) : (s.reply st).pending = s.pending := rfl
@[simp] theorem reply_regs (s : State) (st : Nat) : (s.reply st).regs = s.regs := rfl
@[simp] theorem reply_shadow (s : State) (st : Nat) : (s.reply st).shadow = s.shadow := rfl
@[simp] theorem reply_pend (s : State) (st : Nat) : (s.reply st).pend = s.pend := rfl
@[simp] theorem reply_fifos (s : State) (st : Nat) : (s.reply st).fifos = s.fifos := rfl
@[simp] theorem reply_nums (s : State) (st : Nat) : (s.reply st).nums = s.nums := rfl
@[simp] theorem reply_mem (s : State) (st : Nat) : (s.reply st).mem = s.mem := rfl
@[simp] theorem reply_ownerRing (s : State) (st : Nat) : (s.reply st).ownerRing = s.ownerRing := rfl
@[simp] theorem reply_halInbox (s : State) (st : Nat) : (s.reply st).halInbox = s.halInbox := rfl
@[simp] theorem reply_ensInbox (s : State) (st : Nat) : (s.reply st).ensInbox = s.ensInbox := rfl
@[simp] theorem reply_eqStore (s : State) (st : Nat) : (s.reply st).eqStore = s.eqStore := rfl
@[simp] theorem reply_journal (s : State) (st : Nat) : (s.reply st).journal = s.journal := rfl
@[simp] theorem reply_items (s : State) (st : Nat) : (s.reply st).items = s.items := rfl
@[simp] theorem reply_exports (s : State) (st : Nat) : (s.reply st).exports = s.exports := rfl
@[simp] theorem reply_views (s : State) (st : Nat) : (s.reply st).views = s.views := rfl
@[simp] theorem reply_halSettings (s : State) (st : Nat) : (s.reply st).halSettings = s.halSettings := rfl
@[simp] theorem reply_tracks (s : State) (st : Nat) : (s.reply st).tracks = s.tracks := rfl
@[simp] theorem reply_rfmActs (s : State) (st : Nat) : (s.reply st).rfmActs = s.rfmActs := rfl
@[simp] theorem reply_throttles (s : State) (st : Nat) : (s.reply st).throttles = s.throttles := rfl
@[simp] theorem reply_stagedPkg (s : State) (st : Nat) : (s.reply st).stagedPkg = s.stagedPkg := rfl
@[simp] theorem reply_activePkg (s : State) (st : Nat) : (s.reply st).activePkg = s.activePkg := rfl
@[simp] theorem reply_nextPkg (s : State) (st : Nat) : (s.reply st).nextPkg = s.nextPkg := rfl
@[simp] theorem reply_contacts (s : State) (st : Nat) : (s.reply st).contacts = s.contacts := rfl
@[simp] theorem reply_audBufs (s : State) (st : Nat) : (s.reply st).audBufs = s.audBufs := rfl
@[simp] theorem reply_jobs (s : State) (st : Nat) : (s.reply st).jobs = s.jobs := rfl
@[simp] theorem reply_out (s : State) (st : Nat) : (s.reply st).out = s.out := rfl
@[simp] theorem reply_kept (s : State) (st : Nat) : (s.reply st).kept = s.kept := rfl
@[simp] theorem reply_addedUnits (s : State) (st : Nat) : (s.reply st).addedUnits = s.addedUnits := rfl
@[simp] theorem reply_lines (s : State) (st : Nat) : (s.reply st).lines = s.lines := rfl
@[simp] theorem reply_reg (s : State) (st : Nat) (j : Nat) : (s.reply st).reg j = s.reg j := rfl
@[simp] theorem reply_fifo (s : State) (st : Nat) (j : Nat) : (s.reply st).fifo j = s.fifo j := rfl
@[simp] theorem reply_num (s : State) (st : Nat) (j : Nat) : (s.reply st).num j = s.num j := rfl
@[simp] theorem reply_byte (s : State) (st : Nat) (j : Nat) : (s.reply st).byte j = s.byte j := rfl
@[simp] theorem reply_eqStored (s : State) (st : Nat) (j : Nat) : (s.reply st).eqStored j = s.eqStored j := rfl

/-! `replyData` changes `answer` alone. -/
@[simp] theorem replyData_now (s : State) (d : Bytes) : (s.replyData d).now = s.now := rfl
@[simp] theorem replyData_freeCount (s : State) (d : Bytes) : (s.replyData d).freeCount = s.freeCount := rfl
@[simp] theorem replyData_pending (s : State) (d : Bytes) : (s.replyData d).pending = s.pending := rfl
@[simp] theorem replyData_regs (s : State) (d : Bytes) : (s.replyData d).regs = s.regs := rfl
@[simp] theorem replyData_shadow (s : State) (d : Bytes) : (s.replyData d).shadow = s.shadow := rfl
@[simp] theorem replyData_pend (s : State) (d : Bytes) : (s.replyData d).pend = s.pend := rfl
@[simp] theorem replyData_fifos (s : State) (d : Bytes) : (s.replyData d).fifos = s.fifos := rfl
@[simp] theorem replyData_nums (s : State) (d : Bytes) : (s.replyData d).nums = s.nums := rfl
@[simp] theorem replyData_mem (s : State) (d : Bytes) : (s.replyData d).mem = s.mem := rfl
@[simp] theorem replyData_ownerRing (s : State) (d : Bytes) : (s.replyData d).ownerRing = s.ownerRing := rfl
@[simp] theorem replyData_halInbox (s : State) (d : Bytes) : (s.replyData d).halInbox = s.halInbox := rfl
@[simp] theorem replyData_ensInbox (s : State) (d : Bytes) : (s.replyData d).ensInbox = s.ensInbox := rfl
@[simp] theorem replyData_eqStore (s : State) (d : Bytes) : (s.replyData d).eqStore = s.eqStore := rfl
@[simp] theorem replyData_journal (s : State) (d : Bytes) : (s.replyData d).journal = s.journal := rfl
@[simp] theorem replyData_items (s : State) (d : Bytes) : (s.replyData d).items = s.items := rfl
@[simp] theorem replyData_exports (s : State) (d : Bytes) : (s.replyData d).exports = s.exports := rfl
@[simp] theorem replyData_views (s : State) (d : Bytes) : (s.replyData d).views = s.views := rfl
@[simp] theorem replyData_halSettings (s : State) (d : Bytes) : (s.replyData d).halSettings = s.halSettings := rfl
@[simp] theorem replyData_tracks (s : State) (d : Bytes) : (s.replyData d).tracks = s.tracks := rfl
@[simp] theorem replyData_rfmActs (s : State) (d : Bytes) : (s.replyData d).rfmActs = s.rfmActs := rfl
@[simp] theorem replyData_throttles (s : State) (d : Bytes) : (s.replyData d).throttles = s.throttles := rfl
@[simp] theorem replyData_stagedPkg (s : State) (d : Bytes) : (s.replyData d).stagedPkg = s.stagedPkg := rfl
@[simp] theorem replyData_activePkg (s : State) (d : Bytes) : (s.replyData d).activePkg = s.activePkg := rfl
@[simp] theorem replyData_nextPkg (s : State) (d : Bytes) : (s.replyData d).nextPkg = s.nextPkg := rfl
@[simp] theorem replyData_contacts (s : State) (d : Bytes) : (s.replyData d).contacts = s.contacts := rfl
@[simp] theorem replyData_audBufs (s : State) (d : Bytes) : (s.replyData d).audBufs = s.audBufs := rfl
@[simp] theorem replyData_jobs (s : State) (d : Bytes) : (s.replyData d).jobs = s.jobs := rfl
@[simp] theorem replyData_out (s : State) (d : Bytes) : (s.replyData d).out = s.out := rfl
@[simp] theorem replyData_kept (s : State) (d : Bytes) : (s.replyData d).kept = s.kept := rfl
@[simp] theorem replyData_addedUnits (s : State) (d : Bytes) : (s.replyData d).addedUnits = s.addedUnits := rfl
@[simp] theorem replyData_lines (s : State) (d : Bytes) : (s.replyData d).lines = s.lines := rfl
@[simp] theorem replyData_reg (s : State) (d : Bytes) (j : Nat) : (s.replyData d).reg j = s.reg j := rfl
@[simp] theorem replyData_fifo (s : State) (d : Bytes) (j : Nat) : (s.replyData d).fifo j = s.fifo j := rfl
@[simp] theorem replyData_num (s : State) (d : Bytes) (j : Nat) : (s.replyData d).num j = s.num j := rfl
@[simp] theorem replyData_byte (s : State) (d : Bytes) (j : Nat) : (s.replyData d).byte j = s.byte j := rfl
@[simp] theorem replyData_eqStored (s : State) (d : Bytes) (j : Nat) : (s.replyData d).eqStored j = s.eqStored j := rfl

/-! `tick` changes `freeCount` alone. -/
@[simp] theorem tick_now (s : State)  : s.tick.now = s.now := rfl
@[simp] theorem tick_pending (s : State)  : s.tick.pending = s.pending := rfl
@[simp] theorem tick_regs (s : State)  : s.tick.regs = s.regs := rfl
@[simp] theorem tick_shadow (s : State)  : s.tick.shadow = s.shadow := rfl
@[simp] theorem tick_pend (s : State)  : s.tick.pend = s.pend := rfl
@[simp] theorem tick_fifos (s : State)  : s.tick.fifos = s.fifos := rfl
@[simp] theorem tick_nums (s : State)  : s.tick.nums = s.nums := rfl
@[simp] theorem tick_mem (s : State)  : s.tick.mem = s.mem := rfl
@[simp] theorem tick_ownerRing (s : State)  : s.tick.ownerRing = s.ownerRing := rfl
@[simp] theorem tick_halInbox (s : State)  : s.tick.halInbox = s.halInbox := rfl
@[simp] theorem tick_ensInbox (s : State)  : s.tick.ensInbox = s.ensInbox := rfl
@[simp] theorem tick_eqStore (s : State)  : s.tick.eqStore = s.eqStore := rfl
@[simp] theorem tick_journal (s : State)  : s.tick.journal = s.journal := rfl
@[simp] theorem tick_items (s : State)  : s.tick.items = s.items := rfl
@[simp] theorem tick_exports (s : State)  : s.tick.exports = s.exports := rfl
@[simp] theorem tick_views (s : State)  : s.tick.views = s.views := rfl
@[simp] theorem tick_halSettings (s : State)  : s.tick.halSettings = s.halSettings := rfl
@[simp] theorem tick_tracks (s : State)  : s.tick.tracks = s.tracks := rfl
@[simp] theorem tick_rfmActs (s : State)  : s.tick.rfmActs = s.rfmActs := rfl
@[simp] theorem tick_throttles (s : State)  : s.tick.throttles = s.throttles := rfl
@[simp] theorem tick_stagedPkg (s : State)  : s.tick.stagedPkg = s.stagedPkg := rfl
@[simp] theorem tick_activePkg (s : State)  : s.tick.activePkg = s.activePkg := rfl
@[simp] theorem tick_nextPkg (s : State)  : s.tick.nextPkg = s.nextPkg := rfl
@[simp] theorem tick_contacts (s : State)  : s.tick.contacts = s.contacts := rfl
@[simp] theorem tick_audBufs (s : State)  : s.tick.audBufs = s.audBufs := rfl
@[simp] theorem tick_jobs (s : State)  : s.tick.jobs = s.jobs := rfl
@[simp] theorem tick_out (s : State)  : s.tick.out = s.out := rfl
@[simp] theorem tick_answer (s : State)  : s.tick.answer = s.answer := rfl
@[simp] theorem tick_kept (s : State)  : s.tick.kept = s.kept := rfl
@[simp] theorem tick_addedUnits (s : State)  : s.tick.addedUnits = s.addedUnits := rfl
@[simp] theorem tick_lines (s : State)  : s.tick.lines = s.lines := rfl
@[simp] theorem tick_reg (s : State)  (j : Nat) : s.tick.reg j = s.reg j := rfl
@[simp] theorem tick_fifo (s : State)  (j : Nat) : s.tick.fifo j = s.fifo j := rfl
@[simp] theorem tick_num (s : State)  (j : Nat) : s.tick.num j = s.num j := rfl
@[simp] theorem tick_byte (s : State)  (j : Nat) : s.tick.byte j = s.byte j := rfl
@[simp] theorem tick_eqStored (s : State)  (j : Nat) : s.tick.eqStored j = s.eqStored j := rfl

/-! `setShadow` changes `shadow` alone. -/
@[simp] theorem setShadow_now (s : State) (k v : Nat) : (s.setShadow k v).now = s.now := rfl
@[simp] theorem setShadow_freeCount (s : State) (k v : Nat) : (s.setShadow k v).freeCount = s.freeCount := rfl
@[simp] theorem setShadow_pending (s : State) (k v : Nat) : (s.setShadow k v).pending = s.pending := rfl
@[simp] theorem setShadow_regs (s : State) (k v : Nat) : (s.setShadow k v).regs = s.regs := rfl
@[simp] theorem setShadow_pend (s : State) (k v : Nat) : (s.setShadow k v).pend = s.pend := rfl
@[simp] theorem setShadow_fifos (s : State) (k v : Nat) : (s.setShadow k v).fifos = s.fifos := rfl
@[simp] theorem setShadow_nums (s : State) (k v : Nat) : (s.setShadow k v).nums = s.nums := rfl
@[simp] theorem setShadow_mem (s : State) (k v : Nat) : (s.setShadow k v).mem = s.mem := rfl
@[simp] theorem setShadow_ownerRing (s : State) (k v : Nat) : (s.setShadow k v).ownerRing = s.ownerRing := rfl
@[simp] theorem setShadow_halInbox (s : State) (k v : Nat) : (s.setShadow k v).halInbox = s.halInbox := rfl
@[simp] theorem setShadow_ensInbox (s : State) (k v : Nat) : (s.setShadow k v).ensInbox = s.ensInbox := rfl
@[simp] theorem setShadow_eqStore (s : State) (k v : Nat) : (s.setShadow k v).eqStore = s.eqStore := rfl
@[simp] theorem setShadow_journal (s : State) (k v : Nat) : (s.setShadow k v).journal = s.journal := rfl
@[simp] theorem setShadow_items (s : State) (k v : Nat) : (s.setShadow k v).items = s.items := rfl
@[simp] theorem setShadow_exports (s : State) (k v : Nat) : (s.setShadow k v).exports = s.exports := rfl
@[simp] theorem setShadow_views (s : State) (k v : Nat) : (s.setShadow k v).views = s.views := rfl
@[simp] theorem setShadow_halSettings (s : State) (k v : Nat) : (s.setShadow k v).halSettings = s.halSettings := rfl
@[simp] theorem setShadow_tracks (s : State) (k v : Nat) : (s.setShadow k v).tracks = s.tracks := rfl
@[simp] theorem setShadow_rfmActs (s : State) (k v : Nat) : (s.setShadow k v).rfmActs = s.rfmActs := rfl
@[simp] theorem setShadow_throttles (s : State) (k v : Nat) : (s.setShadow k v).throttles = s.throttles := rfl
@[simp] theorem setShadow_stagedPkg (s : State) (k v : Nat) : (s.setShadow k v).stagedPkg = s.stagedPkg := rfl
@[simp] theorem setShadow_activePkg (s : State) (k v : Nat) : (s.setShadow k v).activePkg = s.activePkg := rfl
@[simp] theorem setShadow_nextPkg (s : State) (k v : Nat) : (s.setShadow k v).nextPkg = s.nextPkg := rfl
@[simp] theorem setShadow_contacts (s : State) (k v : Nat) : (s.setShadow k v).contacts = s.contacts := rfl
@[simp] theorem setShadow_audBufs (s : State) (k v : Nat) : (s.setShadow k v).audBufs = s.audBufs := rfl
@[simp] theorem setShadow_jobs (s : State) (k v : Nat) : (s.setShadow k v).jobs = s.jobs := rfl
@[simp] theorem setShadow_out (s : State) (k v : Nat) : (s.setShadow k v).out = s.out := rfl
@[simp] theorem setShadow_answer (s : State) (k v : Nat) : (s.setShadow k v).answer = s.answer := rfl
@[simp] theorem setShadow_kept (s : State) (k v : Nat) : (s.setShadow k v).kept = s.kept := rfl
@[simp] theorem setShadow_addedUnits (s : State) (k v : Nat) : (s.setShadow k v).addedUnits = s.addedUnits := rfl
@[simp] theorem setShadow_lines (s : State) (k v : Nat) : (s.setShadow k v).lines = s.lines := rfl
@[simp] theorem setShadow_reg (s : State) (k v : Nat) (j : Nat) : (s.setShadow k v).reg j = s.reg j := rfl
@[simp] theorem setShadow_fifo (s : State) (k v : Nat) (j : Nat) : (s.setShadow k v).fifo j = s.fifo j := rfl
@[simp] theorem setShadow_num (s : State) (k v : Nat) (j : Nat) : (s.setShadow k v).num j = s.num j := rfl
@[simp] theorem setShadow_byte (s : State) (k v : Nat) (j : Nat) : (s.setShadow k v).byte j = s.byte j := rfl
@[simp] theorem setShadow_eqStored (s : State) (k v : Nat) (j : Nat) : (s.setShadow k v).eqStored j = s.eqStored j := rfl

/-! `revertShadow` changes `shadow` alone. -/
@[simp] theorem revertShadow_now (s : State) (h : Nat) : (s.revertShadow h).now = s.now := rfl
@[simp] theorem revertShadow_freeCount (s : State) (h : Nat) : (s.revertShadow h).freeCount = s.freeCount := rfl
@[simp] theorem revertShadow_pending (s : State) (h : Nat) : (s.revertShadow h).pending = s.pending := rfl
@[simp] theorem revertShadow_regs (s : State) (h : Nat) : (s.revertShadow h).regs = s.regs := rfl
@[simp] theorem revertShadow_pend (s : State) (h : Nat) : (s.revertShadow h).pend = s.pend := rfl
@[simp] theorem revertShadow_fifos (s : State) (h : Nat) : (s.revertShadow h).fifos = s.fifos := rfl
@[simp] theorem revertShadow_nums (s : State) (h : Nat) : (s.revertShadow h).nums = s.nums := rfl
@[simp] theorem revertShadow_mem (s : State) (h : Nat) : (s.revertShadow h).mem = s.mem := rfl
@[simp] theorem revertShadow_ownerRing (s : State) (h : Nat) : (s.revertShadow h).ownerRing = s.ownerRing := rfl
@[simp] theorem revertShadow_halInbox (s : State) (h : Nat) : (s.revertShadow h).halInbox = s.halInbox := rfl
@[simp] theorem revertShadow_ensInbox (s : State) (h : Nat) : (s.revertShadow h).ensInbox = s.ensInbox := rfl
@[simp] theorem revertShadow_eqStore (s : State) (h : Nat) : (s.revertShadow h).eqStore = s.eqStore := rfl
@[simp] theorem revertShadow_journal (s : State) (h : Nat) : (s.revertShadow h).journal = s.journal := rfl
@[simp] theorem revertShadow_items (s : State) (h : Nat) : (s.revertShadow h).items = s.items := rfl
@[simp] theorem revertShadow_exports (s : State) (h : Nat) : (s.revertShadow h).exports = s.exports := rfl
@[simp] theorem revertShadow_views (s : State) (h : Nat) : (s.revertShadow h).views = s.views := rfl
@[simp] theorem revertShadow_halSettings (s : State) (h : Nat) : (s.revertShadow h).halSettings = s.halSettings := rfl
@[simp] theorem revertShadow_tracks (s : State) (h : Nat) : (s.revertShadow h).tracks = s.tracks := rfl
@[simp] theorem revertShadow_rfmActs (s : State) (h : Nat) : (s.revertShadow h).rfmActs = s.rfmActs := rfl
@[simp] theorem revertShadow_throttles (s : State) (h : Nat) : (s.revertShadow h).throttles = s.throttles := rfl
@[simp] theorem revertShadow_stagedPkg (s : State) (h : Nat) : (s.revertShadow h).stagedPkg = s.stagedPkg := rfl
@[simp] theorem revertShadow_activePkg (s : State) (h : Nat) : (s.revertShadow h).activePkg = s.activePkg := rfl
@[simp] theorem revertShadow_nextPkg (s : State) (h : Nat) : (s.revertShadow h).nextPkg = s.nextPkg := rfl
@[simp] theorem revertShadow_contacts (s : State) (h : Nat) : (s.revertShadow h).contacts = s.contacts := rfl
@[simp] theorem revertShadow_audBufs (s : State) (h : Nat) : (s.revertShadow h).audBufs = s.audBufs := rfl
@[simp] theorem revertShadow_jobs (s : State) (h : Nat) : (s.revertShadow h).jobs = s.jobs := rfl
@[simp] theorem revertShadow_out (s : State) (h : Nat) : (s.revertShadow h).out = s.out := rfl
@[simp] theorem revertShadow_answer (s : State) (h : Nat) : (s.revertShadow h).answer = s.answer := rfl
@[simp] theorem revertShadow_kept (s : State) (h : Nat) : (s.revertShadow h).kept = s.kept := rfl
@[simp] theorem revertShadow_addedUnits (s : State) (h : Nat) : (s.revertShadow h).addedUnits = s.addedUnits := rfl
@[simp] theorem revertShadow_lines (s : State) (h : Nat) : (s.revertShadow h).lines = s.lines := rfl
@[simp] theorem revertShadow_reg (s : State) (h : Nat) (j : Nat) : (s.revertShadow h).reg j = s.reg j := rfl
@[simp] theorem revertShadow_fifo (s : State) (h : Nat) (j : Nat) : (s.revertShadow h).fifo j = s.fifo j := rfl
@[simp] theorem revertShadow_num (s : State) (h : Nat) (j : Nat) : (s.revertShadow h).num j = s.num j := rfl
@[simp] theorem revertShadow_byte (s : State) (h : Nat) (j : Nat) : (s.revertShadow h).byte j = s.byte j := rfl
@[simp] theorem revertShadow_eqStored (s : State) (h : Nat) (j : Nat) : (s.revertShadow h).eqStored j = s.eqStored j := rfl

/-! `dropPend` changes `pend` alone. -/
@[simp] theorem dropPend_now (s : State) (h : Nat) : (s.dropPend h).now = s.now := rfl
@[simp] theorem dropPend_freeCount (s : State) (h : Nat) : (s.dropPend h).freeCount = s.freeCount := rfl
@[simp] theorem dropPend_pending (s : State) (h : Nat) : (s.dropPend h).pending = s.pending := rfl
@[simp] theorem dropPend_regs (s : State) (h : Nat) : (s.dropPend h).regs = s.regs := rfl
@[simp] theorem dropPend_shadow (s : State) (h : Nat) : (s.dropPend h).shadow = s.shadow := rfl
@[simp] theorem dropPend_fifos (s : State) (h : Nat) : (s.dropPend h).fifos = s.fifos := rfl
@[simp] theorem dropPend_nums (s : State) (h : Nat) : (s.dropPend h).nums = s.nums := rfl
@[simp] theorem dropPend_mem (s : State) (h : Nat) : (s.dropPend h).mem = s.mem := rfl
@[simp] theorem dropPend_ownerRing (s : State) (h : Nat) : (s.dropPend h).ownerRing = s.ownerRing := rfl
@[simp] theorem dropPend_halInbox (s : State) (h : Nat) : (s.dropPend h).halInbox = s.halInbox := rfl
@[simp] theorem dropPend_ensInbox (s : State) (h : Nat) : (s.dropPend h).ensInbox = s.ensInbox := rfl
@[simp] theorem dropPend_eqStore (s : State) (h : Nat) : (s.dropPend h).eqStore = s.eqStore := rfl
@[simp] theorem dropPend_journal (s : State) (h : Nat) : (s.dropPend h).journal = s.journal := rfl
@[simp] theorem dropPend_items (s : State) (h : Nat) : (s.dropPend h).items = s.items := rfl
@[simp] theorem dropPend_exports (s : State) (h : Nat) : (s.dropPend h).exports = s.exports := rfl
@[simp] theorem dropPend_views (s : State) (h : Nat) : (s.dropPend h).views = s.views := rfl
@[simp] theorem dropPend_halSettings (s : State) (h : Nat) : (s.dropPend h).halSettings = s.halSettings := rfl
@[simp] theorem dropPend_tracks (s : State) (h : Nat) : (s.dropPend h).tracks = s.tracks := rfl
@[simp] theorem dropPend_rfmActs (s : State) (h : Nat) : (s.dropPend h).rfmActs = s.rfmActs := rfl
@[simp] theorem dropPend_throttles (s : State) (h : Nat) : (s.dropPend h).throttles = s.throttles := rfl
@[simp] theorem dropPend_stagedPkg (s : State) (h : Nat) : (s.dropPend h).stagedPkg = s.stagedPkg := rfl
@[simp] theorem dropPend_activePkg (s : State) (h : Nat) : (s.dropPend h).activePkg = s.activePkg := rfl
@[simp] theorem dropPend_nextPkg (s : State) (h : Nat) : (s.dropPend h).nextPkg = s.nextPkg := rfl
@[simp] theorem dropPend_contacts (s : State) (h : Nat) : (s.dropPend h).contacts = s.contacts := rfl
@[simp] theorem dropPend_audBufs (s : State) (h : Nat) : (s.dropPend h).audBufs = s.audBufs := rfl
@[simp] theorem dropPend_jobs (s : State) (h : Nat) : (s.dropPend h).jobs = s.jobs := rfl
@[simp] theorem dropPend_out (s : State) (h : Nat) : (s.dropPend h).out = s.out := rfl
@[simp] theorem dropPend_answer (s : State) (h : Nat) : (s.dropPend h).answer = s.answer := rfl
@[simp] theorem dropPend_kept (s : State) (h : Nat) : (s.dropPend h).kept = s.kept := rfl
@[simp] theorem dropPend_addedUnits (s : State) (h : Nat) : (s.dropPend h).addedUnits = s.addedUnits := rfl
@[simp] theorem dropPend_lines (s : State) (h : Nat) : (s.dropPend h).lines = s.lines := rfl
@[simp] theorem dropPend_reg (s : State) (h : Nat) (j : Nat) : (s.dropPend h).reg j = s.reg j := rfl
@[simp] theorem dropPend_fifo (s : State) (h : Nat) (j : Nat) : (s.dropPend h).fifo j = s.fifo j := rfl
@[simp] theorem dropPend_num (s : State) (h : Nat) (j : Nat) : (s.dropPend h).num j = s.num j := rfl
@[simp] theorem dropPend_byte (s : State) (h : Nat) (j : Nat) : (s.dropPend h).byte j = s.byte j := rfl
@[simp] theorem dropPend_eqStored (s : State) (h : Nat) (j : Nat) : (s.dropPend h).eqStored j = s.eqStored j := rfl

/-! `setByte` changes `mem` alone. -/
@[simp] theorem setByte_now (s : State) (a : Nat) (b : Byte) : (s.setByte a b).now = s.now := rfl
@[simp] theorem setByte_freeCount (s : State) (a : Nat) (b : Byte) : (s.setByte a b).freeCount = s.freeCount := rfl
@[simp] theorem setByte_pending (s : State) (a : Nat) (b : Byte) : (s.setByte a b).pending = s.pending := rfl
@[simp] theorem setByte_regs (s : State) (a : Nat) (b : Byte) : (s.setByte a b).regs = s.regs := rfl
@[simp] theorem setByte_shadow (s : State) (a : Nat) (b : Byte) : (s.setByte a b).shadow = s.shadow := rfl
@[simp] theorem setByte_pend (s : State) (a : Nat) (b : Byte) : (s.setByte a b).pend = s.pend := rfl
@[simp] theorem setByte_fifos (s : State) (a : Nat) (b : Byte) : (s.setByte a b).fifos = s.fifos := rfl
@[simp] theorem setByte_nums (s : State) (a : Nat) (b : Byte) : (s.setByte a b).nums = s.nums := rfl
@[simp] theorem setByte_ownerRing (s : State) (a : Nat) (b : Byte) : (s.setByte a b).ownerRing = s.ownerRing := rfl
@[simp] theorem setByte_halInbox (s : State) (a : Nat) (b : Byte) : (s.setByte a b).halInbox = s.halInbox := rfl
@[simp] theorem setByte_ensInbox (s : State) (a : Nat) (b : Byte) : (s.setByte a b).ensInbox = s.ensInbox := rfl
@[simp] theorem setByte_eqStore (s : State) (a : Nat) (b : Byte) : (s.setByte a b).eqStore = s.eqStore := rfl
@[simp] theorem setByte_journal (s : State) (a : Nat) (b : Byte) : (s.setByte a b).journal = s.journal := rfl
@[simp] theorem setByte_items (s : State) (a : Nat) (b : Byte) : (s.setByte a b).items = s.items := rfl
@[simp] theorem setByte_exports (s : State) (a : Nat) (b : Byte) : (s.setByte a b).exports = s.exports := rfl
@[simp] theorem setByte_views (s : State) (a : Nat) (b : Byte) : (s.setByte a b).views = s.views := rfl
@[simp] theorem setByte_halSettings (s : State) (a : Nat) (b : Byte) : (s.setByte a b).halSettings = s.halSettings := rfl
@[simp] theorem setByte_tracks (s : State) (a : Nat) (b : Byte) : (s.setByte a b).tracks = s.tracks := rfl
@[simp] theorem setByte_rfmActs (s : State) (a : Nat) (b : Byte) : (s.setByte a b).rfmActs = s.rfmActs := rfl
@[simp] theorem setByte_throttles (s : State) (a : Nat) (b : Byte) : (s.setByte a b).throttles = s.throttles := rfl
@[simp] theorem setByte_stagedPkg (s : State) (a : Nat) (b : Byte) : (s.setByte a b).stagedPkg = s.stagedPkg := rfl
@[simp] theorem setByte_activePkg (s : State) (a : Nat) (b : Byte) : (s.setByte a b).activePkg = s.activePkg := rfl
@[simp] theorem setByte_nextPkg (s : State) (a : Nat) (b : Byte) : (s.setByte a b).nextPkg = s.nextPkg := rfl
@[simp] theorem setByte_contacts (s : State) (a : Nat) (b : Byte) : (s.setByte a b).contacts = s.contacts := rfl
@[simp] theorem setByte_audBufs (s : State) (a : Nat) (b : Byte) : (s.setByte a b).audBufs = s.audBufs := rfl
@[simp] theorem setByte_jobs (s : State) (a : Nat) (b : Byte) : (s.setByte a b).jobs = s.jobs := rfl
@[simp] theorem setByte_out (s : State) (a : Nat) (b : Byte) : (s.setByte a b).out = s.out := rfl
@[simp] theorem setByte_answer (s : State) (a : Nat) (b : Byte) : (s.setByte a b).answer = s.answer := rfl
@[simp] theorem setByte_kept (s : State) (a : Nat) (b : Byte) : (s.setByte a b).kept = s.kept := rfl
@[simp] theorem setByte_addedUnits (s : State) (a : Nat) (b : Byte) : (s.setByte a b).addedUnits = s.addedUnits := rfl
@[simp] theorem setByte_lines (s : State) (a : Nat) (b : Byte) : (s.setByte a b).lines = s.lines := rfl
@[simp] theorem setByte_reg (s : State) (a : Nat) (b : Byte) (j : Nat) : (s.setByte a b).reg j = s.reg j := rfl
@[simp] theorem setByte_fifo (s : State) (a : Nat) (b : Byte) (j : Nat) : (s.setByte a b).fifo j = s.fifo j := rfl
@[simp] theorem setByte_num (s : State) (a : Nat) (b : Byte) (j : Nat) : (s.setByte a b).num j = s.num j := rfl
@[simp] theorem setByte_eqStored (s : State) (a : Nat) (b : Byte) (j : Nat) : (s.setByte a b).eqStored j = s.eqStored j := rfl

/-! `setEqStored` changes `eqStore` alone. -/
@[simp] theorem setEqStored_now (s : State) (i : Nat) (l : List Event) : (s.setEqStored i l).now = s.now := rfl
@[simp] theorem setEqStored_freeCount (s : State) (i : Nat) (l : List Event) : (s.setEqStored i l).freeCount = s.freeCount := rfl
@[simp] theorem setEqStored_pending (s : State) (i : Nat) (l : List Event) : (s.setEqStored i l).pending = s.pending := rfl
@[simp] theorem setEqStored_regs (s : State) (i : Nat) (l : List Event) : (s.setEqStored i l).regs = s.regs := rfl
@[simp] theorem setEqStored_shadow (s : State) (i : Nat) (l : List Event) : (s.setEqStored i l).shadow = s.shadow := rfl
@[simp] theorem setEqStored_pend (s : State) (i : Nat) (l : List Event) : (s.setEqStored i l).pend = s.pend := rfl
@[simp] theorem setEqStored_fifos (s : State) (i : Nat) (l : List Event) : (s.setEqStored i l).fifos = s.fifos := rfl
@[simp] theorem setEqStored_nums (s : State) (i : Nat) (l : List Event) : (s.setEqStored i l).nums = s.nums := rfl
@[simp] theorem setEqStored_mem (s : State) (i : Nat) (l : List Event) : (s.setEqStored i l).mem = s.mem := rfl
@[simp] theorem setEqStored_ownerRing (s : State) (i : Nat) (l : List Event) : (s.setEqStored i l).ownerRing = s.ownerRing := rfl
@[simp] theorem setEqStored_halInbox (s : State) (i : Nat) (l : List Event) : (s.setEqStored i l).halInbox = s.halInbox := rfl
@[simp] theorem setEqStored_ensInbox (s : State) (i : Nat) (l : List Event) : (s.setEqStored i l).ensInbox = s.ensInbox := rfl
@[simp] theorem setEqStored_journal (s : State) (i : Nat) (l : List Event) : (s.setEqStored i l).journal = s.journal := rfl
@[simp] theorem setEqStored_items (s : State) (i : Nat) (l : List Event) : (s.setEqStored i l).items = s.items := rfl
@[simp] theorem setEqStored_exports (s : State) (i : Nat) (l : List Event) : (s.setEqStored i l).exports = s.exports := rfl
@[simp] theorem setEqStored_views (s : State) (i : Nat) (l : List Event) : (s.setEqStored i l).views = s.views := rfl
@[simp] theorem setEqStored_halSettings (s : State) (i : Nat) (l : List Event) : (s.setEqStored i l).halSettings = s.halSettings := rfl
@[simp] theorem setEqStored_tracks (s : State) (i : Nat) (l : List Event) : (s.setEqStored i l).tracks = s.tracks := rfl
@[simp] theorem setEqStored_rfmActs (s : State) (i : Nat) (l : List Event) : (s.setEqStored i l).rfmActs = s.rfmActs := rfl
@[simp] theorem setEqStored_throttles (s : State) (i : Nat) (l : List Event) : (s.setEqStored i l).throttles = s.throttles := rfl
@[simp] theorem setEqStored_stagedPkg (s : State) (i : Nat) (l : List Event) : (s.setEqStored i l).stagedPkg = s.stagedPkg := rfl
@[simp] theorem setEqStored_activePkg (s : State) (i : Nat) (l : List Event) : (s.setEqStored i l).activePkg = s.activePkg := rfl
@[simp] theorem setEqStored_nextPkg (s : State) (i : Nat) (l : List Event) : (s.setEqStored i l).nextPkg = s.nextPkg := rfl
@[simp] theorem setEqStored_contacts (s : State) (i : Nat) (l : List Event) : (s.setEqStored i l).contacts = s.contacts := rfl
@[simp] theorem setEqStored_audBufs (s : State) (i : Nat) (l : List Event) : (s.setEqStored i l).audBufs = s.audBufs := rfl
@[simp] theorem setEqStored_jobs (s : State) (i : Nat) (l : List Event) : (s.setEqStored i l).jobs = s.jobs := rfl
@[simp] theorem setEqStored_out (s : State) (i : Nat) (l : List Event) : (s.setEqStored i l).out = s.out := rfl
@[simp] theorem setEqStored_answer (s : State) (i : Nat) (l : List Event) : (s.setEqStored i l).answer = s.answer := rfl
@[simp] theorem setEqStored_kept (s : State) (i : Nat) (l : List Event) : (s.setEqStored i l).kept = s.kept := rfl
@[simp] theorem setEqStored_addedUnits (s : State) (i : Nat) (l : List Event) : (s.setEqStored i l).addedUnits = s.addedUnits := rfl
@[simp] theorem setEqStored_lines (s : State) (i : Nat) (l : List Event) : (s.setEqStored i l).lines = s.lines := rfl
@[simp] theorem setEqStored_reg (s : State) (i : Nat) (l : List Event) (j : Nat) : (s.setEqStored i l).reg j = s.reg j := rfl
@[simp] theorem setEqStored_fifo (s : State) (i : Nat) (l : List Event) (j : Nat) : (s.setEqStored i l).fifo j = s.fifo j := rfl
@[simp] theorem setEqStored_num (s : State) (i : Nat) (l : List Event) (j : Nat) : (s.setEqStored i l).num j = s.num j := rfl
@[simp] theorem setEqStored_byte (s : State) (i : Nat) (l : List Event) (j : Nat) : (s.setEqStored i l).byte j = s.byte j := rfl

/-! `setRegs` writes its pairs in order and changes `regs` alone. -/
@[simp] theorem setRegs_nil (s : State) : s.setRegs [] = s := rfl
@[simp] theorem setRegs_cons (s : State) (p : Nat × Nat) (l : List (Nat × Nat)) : s.setRegs (p :: l) = (s.setReg p.1 p.2).setRegs l := rfl
@[simp] theorem setRegs_now (s : State) (l : List (Nat × Nat)) : (s.setRegs l).now = s.now := by induction l generalizing s <;> simp [*]
@[simp] theorem setRegs_freeCount (s : State) (l : List (Nat × Nat)) : (s.setRegs l).freeCount = s.freeCount := by induction l generalizing s <;> simp [*]
@[simp] theorem setRegs_pending (s : State) (l : List (Nat × Nat)) : (s.setRegs l).pending = s.pending := by induction l generalizing s <;> simp [*]
@[simp] theorem setRegs_shadow (s : State) (l : List (Nat × Nat)) : (s.setRegs l).shadow = s.shadow := by induction l generalizing s <;> simp [*]
@[simp] theorem setRegs_pend (s : State) (l : List (Nat × Nat)) : (s.setRegs l).pend = s.pend := by induction l generalizing s <;> simp [*]
@[simp] theorem setRegs_fifos (s : State) (l : List (Nat × Nat)) : (s.setRegs l).fifos = s.fifos := by induction l generalizing s <;> simp [*]
@[simp] theorem setRegs_nums (s : State) (l : List (Nat × Nat)) : (s.setRegs l).nums = s.nums := by induction l generalizing s <;> simp [*]
@[simp] theorem setRegs_mem (s : State) (l : List (Nat × Nat)) : (s.setRegs l).mem = s.mem := by induction l generalizing s <;> simp [*]
@[simp] theorem setRegs_ownerRing (s : State) (l : List (Nat × Nat)) : (s.setRegs l).ownerRing = s.ownerRing := by induction l generalizing s <;> simp [*]
@[simp] theorem setRegs_halInbox (s : State) (l : List (Nat × Nat)) : (s.setRegs l).halInbox = s.halInbox := by induction l generalizing s <;> simp [*]
@[simp] theorem setRegs_ensInbox (s : State) (l : List (Nat × Nat)) : (s.setRegs l).ensInbox = s.ensInbox := by induction l generalizing s <;> simp [*]
@[simp] theorem setRegs_eqStore (s : State) (l : List (Nat × Nat)) : (s.setRegs l).eqStore = s.eqStore := by induction l generalizing s <;> simp [*]
@[simp] theorem setRegs_journal (s : State) (l : List (Nat × Nat)) : (s.setRegs l).journal = s.journal := by induction l generalizing s <;> simp [*]
@[simp] theorem setRegs_items (s : State) (l : List (Nat × Nat)) : (s.setRegs l).items = s.items := by induction l generalizing s <;> simp [*]
@[simp] theorem setRegs_exports (s : State) (l : List (Nat × Nat)) : (s.setRegs l).exports = s.exports := by induction l generalizing s <;> simp [*]
@[simp] theorem setRegs_views (s : State) (l : List (Nat × Nat)) : (s.setRegs l).views = s.views := by induction l generalizing s <;> simp [*]
@[simp] theorem setRegs_halSettings (s : State) (l : List (Nat × Nat)) : (s.setRegs l).halSettings = s.halSettings := by induction l generalizing s <;> simp [*]
@[simp] theorem setRegs_tracks (s : State) (l : List (Nat × Nat)) : (s.setRegs l).tracks = s.tracks := by induction l generalizing s <;> simp [*]
@[simp] theorem setRegs_rfmActs (s : State) (l : List (Nat × Nat)) : (s.setRegs l).rfmActs = s.rfmActs := by induction l generalizing s <;> simp [*]
@[simp] theorem setRegs_throttles (s : State) (l : List (Nat × Nat)) : (s.setRegs l).throttles = s.throttles := by induction l generalizing s <;> simp [*]
@[simp] theorem setRegs_stagedPkg (s : State) (l : List (Nat × Nat)) : (s.setRegs l).stagedPkg = s.stagedPkg := by induction l generalizing s <;> simp [*]
@[simp] theorem setRegs_activePkg (s : State) (l : List (Nat × Nat)) : (s.setRegs l).activePkg = s.activePkg := by induction l generalizing s <;> simp [*]
@[simp] theorem setRegs_nextPkg (s : State) (l : List (Nat × Nat)) : (s.setRegs l).nextPkg = s.nextPkg := by induction l generalizing s <;> simp [*]
@[simp] theorem setRegs_contacts (s : State) (l : List (Nat × Nat)) : (s.setRegs l).contacts = s.contacts := by induction l generalizing s <;> simp [*]
@[simp] theorem setRegs_audBufs (s : State) (l : List (Nat × Nat)) : (s.setRegs l).audBufs = s.audBufs := by induction l generalizing s <;> simp [*]
@[simp] theorem setRegs_jobs (s : State) (l : List (Nat × Nat)) : (s.setRegs l).jobs = s.jobs := by induction l generalizing s <;> simp [*]
@[simp] theorem setRegs_out (s : State) (l : List (Nat × Nat)) : (s.setRegs l).out = s.out := by induction l generalizing s <;> simp [*]
@[simp] theorem setRegs_answer (s : State) (l : List (Nat × Nat)) : (s.setRegs l).answer = s.answer := by induction l generalizing s <;> simp [*]
@[simp] theorem setRegs_kept (s : State) (l : List (Nat × Nat)) : (s.setRegs l).kept = s.kept := by induction l generalizing s <;> simp [*]
@[simp] theorem setRegs_addedUnits (s : State) (l : List (Nat × Nat)) : (s.setRegs l).addedUnits = s.addedUnits := by induction l generalizing s <;> simp [*]
@[simp] theorem setRegs_lines (s : State) (l : List (Nat × Nat)) : (s.setRegs l).lines = s.lines := by induction l generalizing s <;> simp [*]
@[simp] theorem setRegs_fifo (s : State) (l : List (Nat × Nat)) (j : Nat) : (s.setRegs l).fifo j = s.fifo j := by simp [fifo]
@[simp] theorem setRegs_num (s : State) (l : List (Nat × Nat)) (j : Nat) : (s.setRegs l).num j = s.num j := by simp [num]
@[simp] theorem setRegs_byte (s : State) (l : List (Nat × Nat)) (j : Nat) : (s.setRegs l).byte j = s.byte j := by simp [byte]
@[simp] theorem setRegs_eqStored (s : State) (l : List (Nat × Nat)) (j : Nat) : (s.setRegs l).eqStored j = s.eqStored j := by simp [eqStored]

/-! `writeBytes` changes `mem` alone. -/
@[simp] theorem writeBytes_now (s : State) (a : Nat) (l : Bytes) : (s.writeBytes a l).now = s.now := by induction l generalizing s a <;> simp [writeBytes, *]
@[simp] theorem writeBytes_freeCount (s : State) (a : Nat) (l : Bytes) : (s.writeBytes a l).freeCount = s.freeCount := by induction l generalizing s a <;> simp [writeBytes, *]
@[simp] theorem writeBytes_pending (s : State) (a : Nat) (l : Bytes) : (s.writeBytes a l).pending = s.pending := by induction l generalizing s a <;> simp [writeBytes, *]
@[simp] theorem writeBytes_regs (s : State) (a : Nat) (l : Bytes) : (s.writeBytes a l).regs = s.regs := by induction l generalizing s a <;> simp [writeBytes, *]
@[simp] theorem writeBytes_shadow (s : State) (a : Nat) (l : Bytes) : (s.writeBytes a l).shadow = s.shadow := by induction l generalizing s a <;> simp [writeBytes, *]
@[simp] theorem writeBytes_pend (s : State) (a : Nat) (l : Bytes) : (s.writeBytes a l).pend = s.pend := by induction l generalizing s a <;> simp [writeBytes, *]
@[simp] theorem writeBytes_fifos (s : State) (a : Nat) (l : Bytes) : (s.writeBytes a l).fifos = s.fifos := by induction l generalizing s a <;> simp [writeBytes, *]
@[simp] theorem writeBytes_nums (s : State) (a : Nat) (l : Bytes) : (s.writeBytes a l).nums = s.nums := by induction l generalizing s a <;> simp [writeBytes, *]
@[simp] theorem writeBytes_ownerRing (s : State) (a : Nat) (l : Bytes) : (s.writeBytes a l).ownerRing = s.ownerRing := by induction l generalizing s a <;> simp [writeBytes, *]
@[simp] theorem writeBytes_halInbox (s : State) (a : Nat) (l : Bytes) : (s.writeBytes a l).halInbox = s.halInbox := by induction l generalizing s a <;> simp [writeBytes, *]
@[simp] theorem writeBytes_ensInbox (s : State) (a : Nat) (l : Bytes) : (s.writeBytes a l).ensInbox = s.ensInbox := by induction l generalizing s a <;> simp [writeBytes, *]
@[simp] theorem writeBytes_eqStore (s : State) (a : Nat) (l : Bytes) : (s.writeBytes a l).eqStore = s.eqStore := by induction l generalizing s a <;> simp [writeBytes, *]
@[simp] theorem writeBytes_journal (s : State) (a : Nat) (l : Bytes) : (s.writeBytes a l).journal = s.journal := by induction l generalizing s a <;> simp [writeBytes, *]
@[simp] theorem writeBytes_items (s : State) (a : Nat) (l : Bytes) : (s.writeBytes a l).items = s.items := by induction l generalizing s a <;> simp [writeBytes, *]
@[simp] theorem writeBytes_exports (s : State) (a : Nat) (l : Bytes) : (s.writeBytes a l).exports = s.exports := by induction l generalizing s a <;> simp [writeBytes, *]
@[simp] theorem writeBytes_views (s : State) (a : Nat) (l : Bytes) : (s.writeBytes a l).views = s.views := by induction l generalizing s a <;> simp [writeBytes, *]
@[simp] theorem writeBytes_halSettings (s : State) (a : Nat) (l : Bytes) : (s.writeBytes a l).halSettings = s.halSettings := by induction l generalizing s a <;> simp [writeBytes, *]
@[simp] theorem writeBytes_tracks (s : State) (a : Nat) (l : Bytes) : (s.writeBytes a l).tracks = s.tracks := by induction l generalizing s a <;> simp [writeBytes, *]
@[simp] theorem writeBytes_rfmActs (s : State) (a : Nat) (l : Bytes) : (s.writeBytes a l).rfmActs = s.rfmActs := by induction l generalizing s a <;> simp [writeBytes, *]
@[simp] theorem writeBytes_throttles (s : State) (a : Nat) (l : Bytes) : (s.writeBytes a l).throttles = s.throttles := by induction l generalizing s a <;> simp [writeBytes, *]
@[simp] theorem writeBytes_stagedPkg (s : State) (a : Nat) (l : Bytes) : (s.writeBytes a l).stagedPkg = s.stagedPkg := by induction l generalizing s a <;> simp [writeBytes, *]
@[simp] theorem writeBytes_activePkg (s : State) (a : Nat) (l : Bytes) : (s.writeBytes a l).activePkg = s.activePkg := by induction l generalizing s a <;> simp [writeBytes, *]
@[simp] theorem writeBytes_nextPkg (s : State) (a : Nat) (l : Bytes) : (s.writeBytes a l).nextPkg = s.nextPkg := by induction l generalizing s a <;> simp [writeBytes, *]
@[simp] theorem writeBytes_contacts (s : State) (a : Nat) (l : Bytes) : (s.writeBytes a l).contacts = s.contacts := by induction l generalizing s a <;> simp [writeBytes, *]
@[simp] theorem writeBytes_audBufs (s : State) (a : Nat) (l : Bytes) : (s.writeBytes a l).audBufs = s.audBufs := by induction l generalizing s a <;> simp [writeBytes, *]
@[simp] theorem writeBytes_jobs (s : State) (a : Nat) (l : Bytes) : (s.writeBytes a l).jobs = s.jobs := by induction l generalizing s a <;> simp [writeBytes, *]
@[simp] theorem writeBytes_out (s : State) (a : Nat) (l : Bytes) : (s.writeBytes a l).out = s.out := by induction l generalizing s a <;> simp [writeBytes, *]
@[simp] theorem writeBytes_answer (s : State) (a : Nat) (l : Bytes) : (s.writeBytes a l).answer = s.answer := by induction l generalizing s a <;> simp [writeBytes, *]
@[simp] theorem writeBytes_kept (s : State) (a : Nat) (l : Bytes) : (s.writeBytes a l).kept = s.kept := by induction l generalizing s a <;> simp [writeBytes, *]
@[simp] theorem writeBytes_addedUnits (s : State) (a : Nat) (l : Bytes) : (s.writeBytes a l).addedUnits = s.addedUnits := by induction l generalizing s a <;> simp [writeBytes, *]
@[simp] theorem writeBytes_lines (s : State) (a : Nat) (l : Bytes) : (s.writeBytes a l).lines = s.lines := by induction l generalizing s a <;> simp [writeBytes, *]

end Sys2Proof.Machine.State
end

