-- ==== Sys2Proof/Laws/Events.lean ====
section
/-!
SUPPORT. Laws/Events.lean: what reading a register after an update gives, when two register keys differ, and what raising an event for Halyard and the owner does to the
registers: it writes the journal's and the owner ring's, and no other (R7, R70, R425).
-/
namespace Sys2Proof.Machine

/-- A register after one register was written. -/
theorem State.reg_setReg (s : State) (k v j : Nat) : (s.setReg k v).reg j = if j = k then v else s.reg j := by
  split
  · subst_vars; exact State.reg_setReg_same s j v
  · exact State.reg_setReg_other s v ‹_›

/-! Keys that differ. -/

/-- Registers of different numbers and the same indices. -/
theorem ireg_ne_of_type {t t' a b : Nat} (h : t ≠ t') : ireg t a b ≠ ireg t' a b := by simp only [ireg]; omega

/-- Registers of different numbers whose indices are in range. -/
theorem ireg_ne_of_range {t t' a b a' b' : Nat} (h : t ≠ t') (ha : a < 0x80000) (ha' : a' < 0x80000) (hb : b < 0x100000) (hb' : b' < 0x100000) :
    ireg t a b ≠ ireg t' a' b' := by simp only [ireg]; omega

/-- A dictionary object is no register. -/
theorem okey_ne_ireg {t a b i u : Nat} (hi : i < 0x10000) (hu : u < 0x10000) : okey i u ≠ ireg t a b := by simp only [ireg, okey]; omega

/-- Copies of two objects of one session. -/
theorem skey_ne_of_key {n k k' : Nat} (h : k ≠ k') : skey n k ≠ skey n k' := by simp only [skey]; omega

/-- Copies of two sessions. -/
theorem skey_ne_of_session {n m k k' : Nat} (h : n ≠ m) (hk : k < 0x10000000000) (hk' : k' < 0x10000000000) : skey n k ≠ skey m k' := by
  simp only [skey]; omega

/-- A session's copy is no register. -/
theorem skey_ne_ireg {n k t a b : Nat} (ht : t < 0x100000 - 2) (ha : a < 0x100000) (hb : b < 0x100000) : skey n k ≠ ireg t a b := by
  simp only [skey, ireg]; omega

/-- A session's copy is no object's active value. -/
theorem skey_ne_okey {n k i u : Nat} (hi : i < 0x10000) (hu : u < 0x10000) : skey n k ≠ okey i u := by simp only [skey, okey]; omega

/-! Events for Halyard and the owner. -/

/-- Registers that a journal record writes (R425 to R427). -/
def jnlKeys : List Nat :=
  [Reg.jnlWindow, Reg.jnlCount, Reg.jnlReserve, Obj.jnlNextSeq, Obj.jnlTailBytes, Obj.jnlLiveRecords, Reg.jnlHold]

/-- Registers that a record of the owner event ring writes (R70). -/
def ownerKeys : List Nat := [Obj.ownerEvHead, Obj.ownerEvLost, Obj.ownerEvLast]

/-- A journal record writes no other register. -/
theorem State.jnl_reg (s : State) (typ unit world inst : Nat) (live : Bool) (body : Bytes) {k : Nat} (h : k ∉ jnlKeys) :
    (s.jnl typ unit world inst live body).reg k = s.reg k := by
  simp only [jnlKeys, List.mem_cons, List.not_mem_nil, or_false, not_or] at h
  obtain ⟨h1, h2, h3, h4, h5, h6, h7⟩ := h
  unfold State.jnl
  simp only []
  split
  · rfl
  · show State.reg (State.setRegs _ _) k = _
    simp only [State.setRegs_cons, State.setRegs_nil]
    rw [State.reg_setReg_other _ _ h7, State.reg_setReg_other _ _ h6, State.reg_setReg_other _ _ h5, State.reg_setReg_other _ _ h4]
    split <;> simp only [State.bump] <;>
    · rw [State.reg_setReg_other _ _ (by assumption)]
      split
      · rfl
      · rw [State.reg_setReg_other _ _ h3, State.reg_setReg_other _ _ h2, State.reg_setReg_other _ _ h1]

/-- A journal record changes neither the memory nor the queue nor any bank. -/
theorem State.jnl_frame (s : State) (typ unit world inst : Nat) (live : Bool) (body : Bytes) :
    (s.jnl typ unit world inst live body).mem = s.mem ∧ (s.jnl typ unit world inst live body).pending = s.pending
    ∧ (s.jnl typ unit world inst live body).shadow = s.shadow ∧ (s.jnl typ unit world inst live body).pend = s.pend := by
  unfold State.jnl
  simp only []
  split
  · exact ⟨rfl, rfl, rfl, rfl⟩
  · refine ⟨?_, ?_, ?_, ?_⟩ <;> simp only [State.setRegs_mem, State.setRegs_pending, State.setRegs_shadow, State.setRegs_pend] <;> split <;>
      simp only [State.bump_mem, State.bump_pending, State.bump_shadow, State.bump_pend] <;> split <;>
      simp only [State.setRegs_mem, State.setRegs_pending, State.setRegs_shadow, State.setRegs_pend]

/-- What a state shares with an earlier one: register `k`, the memory and the queue. -/
def Same (k : Nat) (s t : State) : Prop := t.reg k = s.reg k ∧ t.mem = s.mem ∧ t.pending = s.pending

/-- Either branch of a choice shares it. -/
theorem Same.ite {k : Nat} {s a b : State} {c : Prop} [Decidable c] (ha : Same k s a) (hb : Same k s b) : Same k s (if c then a else b) := by
  split
  · exact ha
  · exact hb

/-- Writing another register shares it. -/
theorem Same.setReg {k j v : Nat} {s a : State} (h : k ≠ j) (ha : Same k s a) : Same k s (a.setReg j v) :=
  ⟨(State.reg_setReg_other a v h).trans ha.1, ha.2.1, ha.2.2⟩

/-- Counting in another register shares it. -/
theorem Same.bump {k j w : Nat} {s a : State} (h : k ≠ j) (ha : Same k s a) : Same k s (a.bump j w) := Same.setReg h ha

/-- A record of the owner event ring writes no other register, nor the memory, nor the queue. -/
theorem State.toOwner_same (s : State) (e : Event) {k : Nat} (h : k ∉ ownerKeys) : Same k s (s.toOwner e) := by
  simp only [ownerKeys, List.mem_cons, List.not_mem_nil, or_false, not_or] at h
  obtain ⟨h1, h2, h3⟩ := h
  have fold : ∀ (l : List Nat) (t : State) (e : Event), Same k s t → Same k s (l.foldl (fun s n => s.emit (.frame U.hal (State.pushDatagram n e))) t) := by
    intro l
    induction l with
    | nil => intro t e ht; exact ht
    | cons n l ih => intro t e ht; exact ih (t.emit _) e ht
  have head : Same k s (if s.ownerRing.length < 4096 then s else s.bump Obj.ownerEvLost 32) := Same.ite ⟨rfl, rfl, rfl⟩ (Same.bump h2 ⟨rfl, rfl, rfl⟩)
  unfold State.toOwner
  refine fold _ _ _ (Same.ite (Same.setReg h3 ?_) ?_) <;> exact Same.bump h1 head

/-- An event for Halyard and the owner writes the registers of the journal and of the owner ring, and no other; it leaves the memory and the queue. -/
theorem State.raise_owner (s : State) (unit st world sev : Nat) (pl : List (Nat × Nat)) {k : Nat} (hj : k ∉ jnlKeys) (ho : k ∉ ownerKeys) :
    Same k s (s.raise [.hal, .owner] unit st world sev pl) := by
  have hd : ∀ t : State, (([Dest.hal, Dest.owner] : List Dest).flatMap t.expandDest ++ if 3 ≤ sev then [Dest.owner] else []).dedup = [Dest.hal, Dest.owner] := by
    intro t
    have : ([Dest.hal, Dest.owner] : List Dest).flatMap t.expandDest = [Dest.hal, Dest.owner] := rfl
    rw [this]
    split <;> decide
  have hjnl : ∀ (typ unit world inst : Nat) (live : Bool) (body : Bytes), Same k s (s.jnl typ unit world inst live body) := fun _ _ _ _ _ _ =>
    ⟨State.jnl_reg _ _ _ _ _ _ _ hj, (State.jnl_frame _ _ _ _ _ _ _).1, (State.jnl_frame _ _ _ _ _ _ _).2.1⟩
  unfold State.raise
  simp only [hd, List.foldl_cons, List.foldl_nil, State.deliver]
  generalize he : (if sev = 4 ∨ st = St.yielded then _ else s) = t
  have ht : Same k s t := he ▸ Same.ite (hjnl _ _ _ _ _ _) ⟨rfl, rfl, rfl⟩
  have o := State.toOwner_same { t with halInbox := ⟨s.now, unit, st, world, sev, 0, padTo 14 (record pl)⟩ :: t.halInbox }
    ⟨s.now, unit, st, world, sev, 0, padTo 14 (record pl)⟩ ho
  exact ⟨o.1.trans ht.1, o.2.1.trans ht.2.1, o.2.2.trans ht.2.2⟩

end Sys2Proof.Machine
end

