-- ==== Sys2Proof/Laws/Requests.lean ====
section
/-!
SUPPORT. Laws/Requests.lean: what the shared operations of a session's request do, once for all (R26 to R29, R59): a served request is carried out on
the state that has heard it, a write that passes its checks runs the object's own effect, and an answer is kept under its SEQ.
-/
namespace Sys2Proof.Laws

open Sys2Proof.Machine Sys2Proof.Safety

/-- A command while the device is up runs its meaning. -/
theorem whenUp_eq {s : State} {f : State → Host.Outcome State Fault Refusal} (h : s.up = true) : s.whenUp f = f s := by
  simp [State.whenUp, h]

/-- A command while the device is not up changes nothing. -/
theorem whenUp_not {s : State} {f : State → Host.Outcome State Fault Refusal} (h : s.up = false) : s.whenUp f = .next s := by
  simp [State.whenUp, h]

/-- A request of a session whose mailbox is free is carried out on the state that has heard it, and posted. -/
theorem requested_eq {s : State} {n op key : Nat} {f : State → State} (h : Serves s n) :
    s.requested n op key f = answered s n op key (f (s.heard n)) := by
  simp [State.requested, h.2.1, h.2.2]

/-- A request of a session that is not served changes nothing. -/
theorem requested_not {s : State} {n op key : Nat} {f : State → State} (h : s.serves n = false) : s.requested n op key f = s := by
  simp [State.requested, h]

/-- A request on a mailbox that has not answered the last one is discarded, with MAILBOX_OVERRUN (R130). -/
theorem requested_overrun {s : State} {n op key : Nat} {f : State → State} (h : s.serves n = true) (ho : s.overruns n = true) :
    s.requested n op key f = (s.heard n).overrun (s.reg (Reg.sessPort n)) := by
  simp [State.requested, h, ho]

/-- A request of a session that is not pending is carried out. -/
theorem request_eq {s : State} {n op key : Nat} {f : State → State} (h : Serves s n) (hp : (s.heard n).reg (Reg.sessPending n) ≠ 1) :
    s.request n op key f = answered s n op key (f (s.heard n)) := by
  rw [State.request, requested_eq h, if_neg hp]

/-- A pending session is answered ACCESS_DENIED (R30). -/
theorem request_pending {s : State} {n op key : Nat} {f : State → State} (h : Serves s n) (hp : (s.heard n).reg (Reg.sessPending n) = 1) :
    s.request n op key f = answered s n op key ((s.heard n).reply St.accessDenied) := by
  rw [State.request, requested_eq h, if_pos hp]

/-- The gate lets no pending session through. -/
theorem gate_pending {s : State} {n key : Nat} {rt : Right} (h : s.gate n key rt = St.ok) : s.reg (Reg.sessPending n) ≠ 1 := by
  intro hp
  rw [State.gate, if_pos hp] at h
  exact absurd h (by decide)

/-- A write that may be carried out passes the gate. -/
theorem writeStatus_gate {s : State} {n key : Nat} {d : Bytes} (h : s.writeStatus n key d = St.ok) : s.gate n key .w = St.ok := by
  unfold State.writeStatus at h
  simp only [] at h
  split at h
  · contradiction
  · exact not_not.mp ‹_›

/-- A write that passes the dictionary's checks has its effect. -/
theorem written_eq {s : State} {n key : Nat} {d : Bytes} {f : State → State} (h : Safety.Takes s n key d) :
    s.written n key d f = answered s n 2 key (f (s.heard n)) := by
  rw [State.written, request_eq h.1 (gate_pending (writeStatus_gate h.2)), if_pos h.2]

/-- A write that fails them is answered with its status and does nothing else. -/
theorem written_refused {s : State} {n key : Nat} {d : Bytes} {f : State → State} (h : Serves s n) (hp : (s.heard n).reg (Reg.sessPending n) ≠ 1)
    (hs : (s.heard n).writeStatus n key d ≠ St.ok) :
    s.written n key d f = answered s n 2 key ((s.heard n).reply ((s.heard n).writeStatus n key d)) := by
  rw [State.written, request_eq h hp, if_neg hs]

/-- An operation whose object the session may write has its effect. -/
theorem gated_eq {s : State} {n key : Nat} {f : State → State} (h : Safety.Passes s n key) : s.gated n key f = answered s n 2 key (f (s.heard n)) := by
  rw [State.gated, request_eq h.1 (gate_pending h.2), if_pos h.2]

/-- A record seen for the first time is carried out and posted, and its answer kept where the transport keeps answers. -/
theorem recorded_eq {s : State} {n op key off len : Nat} {r : Rec} {f : State → State} (h : Safety.FirstSeen s n r op len) :
    Dict.recorded s n r op key off len f
      = Safety.keptAs ((f (s.heard n)).posted n op key off r.tag (r.seq % 65536)) n r (Dict.keeps s n) := by
  obtain ⟨⟨h0, h1, h2⟩, rfl, h3, h4, h5⟩ := h
  unfold Dict.recorded Safety.keptAs
  rw [if_neg (by simp [h1]), if_neg (by simp [h3]), if_neg (by simp [h2])]
  cases hk : Dict.keeps s n
  · rw [if_neg (by simp)]; simp [h4]
  · rw [if_neg (by simp [(h5 hk).1])]; simp [h4, (h5 hk).2]

/-- A repeated record is answered with the answer kept (R59). -/
theorem recorded_again {s : State} {n op key off len : Nat} {r : Rec} {f : State → State} {k : Kept} (h : Serves s n) (ho : r.op = op)
    (hi : Dict.inOrder s n r = true) (hk : Dict.keeps s n = true) (hd : Dict.datagramOk r = true)
    (hf : (Kmap.get [] s.kept n).find? (fun k => k.seq == r.seq && k.pos == r.pos) = some k) :
    Dict.recorded s n r op key off len f = { s.heard n with answer := k.ans } := by
  unfold Dict.recorded
  rw [if_neg (by simp [h.2.1, ho]), if_neg (by simp [hi]), if_neg (by simp [h.2.2]), if_neg (by simp [hd])]
  simp [hk, hf]

/-- A frame that a link takes in order is counted and acted on (R464). -/
theorem linkFrame_eq {s : State} {l : Nat} {f : State → State} (h : Safety.Hears s l) : s.linkFrame l true f = f (Safety.framed s l) := by
  have a : ¬ (3 < l ∨ (!s.linkUp l) = true) := by rw [h.2.2]; simp; omega
  rw [State.linkFrame, if_neg a, if_pos rfl]; rfl

end Sys2Proof.Laws
end

