-- ==== Sys2Proof/Laws/Operations.lean ====
section
/-!
SUPPORT. Laws/Operations.lean: what the shared operations of rings, mailboxes, instances, cores, streams and the crypto engine do when nothing stands against
a command: each carries out the command's own effect on the state named. A statement cites these and unfolds none of them.
-/
namespace Sys2Proof.Machine

/-- Sending a datagram writes the registers of what was sent alone (R133). -/
theorem State.remoteSend_reg (s : State) (i chan : Nat) (pl : Bytes) {k : Nat} (h1 : k ≠ Reg.remoteTx i) (h2 : k ≠ Reg.remoteSent i) :
    (s.remoteSend i chan pl).reg k = s.reg k := by
  have hs : ∀ (c : Prop) [Decidable c] (d : Bytes), (if c then s else (s.setReg (Reg.remoteSent i) s.now).emit (.frame U.hal d)).reg k = s.reg k := by
    intro c _ d
    split
    · rfl
    · exact State.reg_setReg_other s _ h2
  unfold State.remoteSend
  simp only []
  split
  · refine Eq.trans (State.reg_setReg_other _ _ h1) ?_
    exact hs _ _
  · exact hs _ _

/-- Taking an acknowledgement writes the register of the last datagram sent alone (R133). -/
theorem State.remoteAck_reg (s : State) (i ack : Nat) {k : Nat} (h : k ≠ Reg.remoteSent i) : (s.remoteAck i ack).reg k = s.reg k := by
  have fold : ∀ (l : List Bytes) (t : State), (l.foldl (fun s d => (s.setReg (Reg.remoteSent i) s.now).emit (.frame U.hal d)) t).reg k = t.reg k := by
    intro l
    induction l with
    | nil => intro t; rfl
    | cons d l ih => intro t; exact (ih _).trans (State.reg_setReg_other t _ h)
  unfold State.remoteAck
  simp only []
  split
  · rfl
  · exact (fold _ _).trans rfl

/-- A datagram that is delivered writes the registers of its association alone (R133). -/
theorem State.delivered_reg (s : State) (i seq ack : Nat) {k : Nat} (h1 : k ≠ Reg.remoteLast i) (h2 : k ≠ Reg.remoteRx i) (h3 : k ≠ Reg.remoteTx i)
    (h4 : k ≠ Reg.remoteSent i) : (s.delivered i seq ack).reg k = s.reg k := by
  unfold State.delivered
  rw [State.remoteSend_reg _ _ _ _ h3 h4, State.reg_setReg_other _ _ h2, State.remoteAck_reg _ _ _ h4, State.reg_setReg_other _ _ h1]

end Sys2Proof.Machine

namespace Sys2Proof.Laws

open Sys2Proof.Machine Sys2Proof.Safety

/-- A ring that runs and holds a packet of the opcode, well formed, has it carried out. -/
theorem onPacket_of {s : State} {i r op : Nat} {p : Pkt} {g : State → Pkt → State} (h1 : s.ringRuns i r = true) (h2 : s.fetchPkt i r = .pkt p) (h3 : p.op = op) (h4 : s.pktBad r p = false) : s.onPacket i r op g = g s p := by
  unfold State.onPacket
  simp only [h1, h2, h3, h4, Bool.not_true, Bool.false_eq_true, if_false, ne_eq, not_true]

/-- The same from the condition the statements use. -/
theorem onPacket_eq {s : State} {i r op : Nat} {p : Pkt} {g : State → Pkt → State} (h : Holds s i r op p) : s.onPacket i r op g = g s p := by
  obtain ⟨h0, h1, h2, h3, h4⟩ := h
  unfold State.onPacket
  simp only [h1, h2, h3, h4, Bool.not_true, Bool.false_eq_true, if_false, ne_eq, not_true]

/-- The renderer carries out the next packet of the context it runs. -/
theorem onNim_renders {s : State} {i r op : Nat} {p : Pkt} {cp : Bool} {f : State → Pkt → State} (h : Renders s i r op p) : s.onNim i r op true cp f = f s p := by
  obtain ⟨⟨h0, h1, h2, h3, h4⟩, h5, h6, h7, h8⟩ := h
  have e1 : ¬ ((!rendererRing r) = true) := by simp [rendererRing, h5]
  have e5 : ¬ (s.reg (Reg.passSkip i r) = 1) := by rw [h6]; decide
  have e6 : ¬ (r = 7 ∧ (!cp) = true ∨ r < 4 ∧ (!true) = true) := by rintro (⟨a, _⟩ | ⟨_, a⟩); omega; exact absurd a (by decide)
  have e7 : ¬ (r = 7) := by omega
  unfold State.onNim
  rw [if_neg e1]
  refine (onPacket_of h1 h2 h3 h4).trans ?_
  simp only [if_neg e6, if_neg e7, if_pos h7, if_neg e5]

/-- The copy engine carries out the next packet of ring 7. -/
theorem onNim_copies {s : State} {i op : Nat} {p : Pkt} {rn : Bool} {f : State → Pkt → State} (h : Safety.Copies s i op p) : s.onNim i 7 op rn true f = f s p := by
  obtain ⟨⟨h0, h1, h2, h3, h4⟩, h6, h8⟩ := h
  have e1 : ¬ ((!rendererRing 7) = true) := by decide
  have e5 : ¬ (s.reg (Reg.passSkip i 7) = 1) := by rw [h6]; decide
  have e6 : ¬ ((7 : Nat) = 7 ∧ (!true) = true ∨ (7 : Nat) < 4 ∧ (!rn) = true) := by rintro (⟨_, a⟩ | ⟨a, _⟩); exact absurd a (by decide); omega
  unfold State.onNim
  rw [if_neg e1]
  refine (onPacket_of h1 h2 h3 h4).trans ?_
  rw [if_neg e6, if_pos rfl, if_neg e5]

/-- Either carries out a packet that both know. -/
theorem onNim_runs {s : State} {i r op : Nat} {p : Pkt} {f : State → Pkt → State} (h : Runs s i r op p) : s.onNim i r op true true f = f s p := by
  rcases h with h | ⟨rfl, h⟩
  · exact onNim_renders h
  · exact onNim_copies h

/-- Shaders that fault nowhere do what they do, and the packet goes on. -/
theorem shade_eq {s t : State} {i r : Nat} {run : ShaderRun} {bs : List Bytes} {f : State → List Bytes → State} (h : Shades s i r run bs t) :
    Nim.shade i r run s f = f t bs := by
  obtain ⟨l, u, h1, h2, h3, h4⟩ := h
  rw [Nim.shade, h1]
  simp only []
  rw [if_neg (by simp [h2])]
  simp only [h3, h4]

/-- A draw that completes queues its primitives. -/
theorem draw_eq {s t : State} {i r op : Nat} {p : Pkt} {draws} {run : ShaderRun} {args : Pkt → List (Nat × Nat)} {desc : Bytes} {bs : List Bytes}
    (h : Renders s i r op p) (hd : Draws s i r run (args p) desc bs t) :
    Nim.draw i r op draws run args s = ((Nim.queuePrims (t.ringTake i r p) i r (passDescOf desc).cols bs draws).binGo i r).lookAhead i r := by
  obtain ⟨as, h1, h2, h3, h4⟩ := hd
  rw [Nim.draw, onNim_renders h, if_neg (by rw [h1.1]; decide), if_neg (by simp [h.2.2.2.2])]; simp only [h1.2.1, h1.2.2]
  rw [if_neg (by simp [h2])]; simp only [h3]
  rw [shade_eq h4]

/-- A dispatch that completes is accepted as a work item. -/
theorem dispatch_eq {s t : State} {i r op : Nat} {p : Pkt} {run : ShaderRun} {args : Pkt → List (Nat × Nat)} {bs : List Bytes}
    (h : Renders s i r op p) (hd : Dispatches s i r p run (args p) bs t) :
    Nim.dispatch i r op run args s = (t.itemAccept U.nim (t.instWorld i) i r (t.reg (Reg.ringRptr i r)) op (if p.safe then classR else classD) 0
      [(4, t.reg (Reg.nimPipe i r) - 1), (8, t.reg (Reg.nimState i r) - 1)]).ringDone i r p := by
  obtain ⟨h1, h2, h3, h4, h5, h6, h7, h8⟩ := hd
  rw [Nim.dispatch, onNim_renders h, if_neg (by omega), if_neg (by simp [h.2.2.2.2, h4]), if_neg h5, if_neg (by simp [h6])]; simp only [h7]
  rw [shade_eq h8]

/-- A datagram of a linked guest (R133): without a SEQ it acts at once, next in order it is delivered and acts, else it is acknowledged anew. -/
theorem remoteIn_eq {s : State} {i seq ack : Nat} {f : State → State} (h : Linked s i) : s.remoteIn i seq ack f =
   (if seq = 0 then f (heardFrom s i ack) else if seq = s.reg (Reg.remoteRx i) + 1 then f (s.delivered i seq ack) else s.stray i ack) := by
  obtain ⟨h0, h1, h2, h3⟩ := h
  rw [State.remoteIn, if_neg (by omega)]; rfl

/-- A command that comes in order has its effect on the state it has arrived in. -/
theorem arrives_eq {s : State} {i : Nat} {dg : Dgram} {f : State → State} (h : InOrder s i dg) : s.arrives i dg f = f (arrived s i dg) := by
  unfold State.arrives arrived
  by_cases a : i < 32
  · rw [if_pos a, if_pos a]
  · obtain ⟨h1, h2, h3⟩ := h.resolve_left a
    rw [if_neg a, if_neg a, if_neg (by omega), State.remoteIn, if_neg (by omega), if_neg (by omega), if_pos h3]

/-- A mailbox request that an instance asks has its effect, and is answered or waits. -/
theorem mbRequest_eq {s : State} {i op : Nat} {m : Mail} {held : Bool} {f : State → State × Option (Nat × Bytes)} (h : Asks s i m) :
    s.mbRequest i op m held f = settled i op m (f (asked s i m)) := by
  obtain ⟨h0, h1, h2, h3, h4, h5, h7, h6⟩ := h
  have ha : ∀ k, k ≠ Reg.remoteLast i → k ≠ Reg.remoteRx i → k ≠ Reg.remoteTx i → k ≠ Reg.remoteSent i → (arrived s i m.dg).reg k = s.reg k := by
    intro k k1 k2 k3 k4
    unfold arrived
    split
    · rfl
    · exact State.delivered_reg s i _ _ k1 k2 k3 k4
  have hb : (arrived s i m.dg).reg (Reg.mbBusy i) ≠ 1 := by
    rw [ha _ (ireg_ne_of_type (by decide)) (ireg_ne_of_type (by decide)) (ireg_ne_of_type (by decide)) (ireg_ne_of_type (by decide)), h4]; decide
  have hh : (asked s i m).reg Reg.halServing ≠ 0 := by
    rw [asked, State.reg_setReg_other _ _ (ireg_ne_of_range (by decide) (by omega) (by omega) (by omega) (by omega)),
      ha _ (ireg_ne_of_range (by decide) (by omega) (by omega) (by omega) (by omega)) (ireg_ne_of_range (by decide) (by omega) (by omega) (by omega) (by omega))
        (ireg_ne_of_range (by decide) (by omega) (by omega) (by omega) (by omega)) (ireg_ne_of_range (by decide) (by omega) (by omega) (by omega) (by omega)), h5]
    decide
  unfold State.mbRequest
  simp only []
  have hf : (asked s i m).jnlFull = false := by
    rw [State.jnlFull, asked, State.reg_setReg_other _ _ (okey_ne_ireg (by decide) (by decide)),
      ha _ (okey_ne_ireg (by decide) (by decide)) (okey_ne_ireg (by decide) (by decide)) (okey_ne_ireg (by decide) (by decide))
        (okey_ne_ireg (by decide) (by decide))]
    exact h7
  rw [if_neg (by rw [h2, h3]; simp; omega), arrives_eq h6, if_neg hb]
  unfold asked at hh hf ⊢
  rw [if_neg (by rw [h2]; intro c; rcases c with c | c | c; exact hh c; omega; exact c.2 rfl), if_neg (by rw [hf]; decide)]
  rfl

/-- An operation on an instance has its effect and is answered. -/
theorem instOp_eq {s : State} {n i : Nat} {f : State → State × Nat} (h : Operates s n i) :
    Inst.op n i f s = answered s n 2 (Obj.instOp i) (Inst.opAnswer (f (s.heard n)).1 n i (f (s.heard n)).2) := by
  rw [Inst.op, if_neg (by omega), gated_eq h.2]

/-- A haptic packet for a channel its world holds plays or stops the channel. -/
theorem hapRingOp_eq {s : State} {i op g c : Nat} {p : Pkt} {e str d : Nat → Nat} (h : Plays s i op g c p) : Hap.ringOp i op e str d s =
   (let x := (s.itemAccept (U.hapChannel g c) (s.instWorld i) i 6 (s.reg (Reg.ringRptr i 6)) op classD 0 []).hapPlay g c 3 (s.instWorld i + 1) (e (p.word 0)) (str (p.word 0)) (d (p.word 0))
    let u := if x.2 = St.ok ∧ e (p.word 0) ≠ 0 then x.1.setReg (Reg.hapItem g c) (s.jnlSeq + 1) else x.1.itemEndSeq s.jnlSeq x.2
    (if x.2 = St.ok then u else u.raise [.inst i] (U.hapChannel g c) x.2 (s.instWorld i) 2 [(1, 8 * g + c), (1, e (p.word 0))]).ringDone i 6 p) := by
  obtain ⟨h1, h2, h3, h4, h5, h6, h7⟩ := h
  have e1 : p.word 0 % 256 / 8 = g := by omega
  have e2 : p.word 0 % 256 % 8 = c := by omega
  rw [Hap.ringOp, onPacket_eq h1]
  simp only []
  rw [if_neg (by rintro (a | a); omega; exact a.2 (h5 a.1)), e1, e2, if_neg (by simp [h6]), if_neg (by simp [h7]), h2]

/-- An audio packet for a stream its world holds has its effect. -/
theorem audPacket_eq {s : State} {i op t : Nat} {p : Pkt} {f : State → Pkt → Nat → State} (h : Streams s i op t p) (hd : ¬ ((op = 0x70 ∧ s.reg (Obj.streamDir t) ≠ 0) ∨ (op = 0x71 ∧ s.reg (Obj.streamDir t) ≠ 1))) : s.audPacket i op f = f (s.setReg (Reg.streamInst t) (i + 1)) p t := by
  obtain ⟨h1, h2, h3, h4, h5⟩ := h
  subst h2
  rw [State.audPacket, onPacket_eq h1]; simp only []
  rw [if_neg (by omega), if_neg (by simp [h4]), if_neg hd, if_neg (by simp [h5])]

/-- A core issues the instruction it meets. -/
theorem coreIssue_eq {s u : State} {c w : Nat} {o : Pen.Op} {f : State → Nat → State} (h : Meets s c o w u) : s.coreIssue c o f = f u w := by
  obtain ⟨⟨h1, h2, h3⟩, rfl, rfl⟩ := h
  rw [State.coreIssue, if_pos ⟨h2, h3⟩]

/-- A block instruction performs one element. -/
theorem coreBlock_eq {s u : State} {c w : Nat} {o : Pen.Op} {f : State → Nat → Except (Nat × Nat) State} (h : Meets s c o w u) : s.coreBlock c o f = u.coreBlockRun c 1 w f := by
  have hm : s.coreMore c = false := by
    have h2 := h.1.2.1
    rw [State.coreRuns, Bool.and_eq_true] at h2
    rw [State.coreMore, show s.coreEnters c = false by simpa using h2.2]; simp
  rw [State.coreBlock, if_neg (by simp [hm]), coreIssue_eq h]

/-- A block instruction that an event keeps from its next element does nothing. -/
theorem coreBlock_due {s : State} {c : Nat} {o : Pen.Op} {f : State → Nat → Except (Nat × Nat) State} (h : s.coreEnters c = true) (hb : s.reg (Reg.coreBlk c) ≠ 1) :
    s.coreBlock c o f = s := by
  have hm : s.coreMore c = false := by rw [State.coreMore, beq_false_of_ne hb, Bool.and_false]
  rw [State.coreBlock, if_neg (by simp [hm]), State.coreIssue, if_neg (by simp [State.coreRuns, h])]

/-- A job that may be submitted is queued. -/
theorem cryptoOp_eq {s : State} {n op : Nat} (h : Submits s n op) : cryptoOp n op s = answered s n 2 Obj.cryptoOp (submitted (s.heard n) n op) := by
  obtain ⟨h1, h2, h3, h4, h5, h6⟩ := h
  rw [cryptoOp, written_eq h1, State.cryptoWrite]; (try simp only [])
  rw [if_neg (by rw [h2]; simp), if_neg, if_neg (by rw [h4]; simp), if_neg (by rintro ⟨a, b⟩; exact h5 a b), if_neg (by omega)]; rfl
  split
  · simpa using h3 (by assumption)
  · simp

/-- A read of an object whose reading takes what it returns (R66, R67, R70), once it passes the checks. -/
theorem readObject_taken (u : State) (n key : Nat) (t : State) (d : Bytes) (hp : u.reg (Reg.sessPending n) ≠ 1) (hg : u.gate n key .r = St.ok)
    (hw : Dict.windowOf (key / 256) = none) (h1 : ¬ (0x110 ≤ key / 256 ∧ key / 256 ≤ 0x1CF)) (h2 : key % 256 ≠ 0) (h3 : (Dict.table (key / 256)).isSome = false)
    (ha : u.addedAt (key / 256) = none) (hb : Dict.readBar u n key = St.ok) (ho : (objRow key).isSome = true) (ht : ∀ o, Dict.taken u n key o = some (t, d)) :
    Dict.readObject u n key false = { t with answer := ⟨St.ok, d⟩ } := by
  obtain ⟨o, ho⟩ := Option.isSome_iff_exists.mp ho
  have hr : Dict.read u n key false = (t, St.ok, d) := by
    unfold Dict.read; simp only []
    rw [if_neg hp, if_neg h1]; simp only [ha]; rw [if_neg h2, if_neg (by simp [h3]), if_neg (by simp [hg]), if_neg (by simp [hb])]
    simp only [ho, ht]
  have hpl : Dict.place u n key = .here key := by rw [Dict.place, hw]
  unfold Dict.readObject Dict.readAny
  simp only [hpl, hr]
  simp

end Sys2Proof.Laws

namespace Sys2Proof.Machine
/-- Adding counts to a counter writes that counter, its overflow bit and the samplers armed on it. -/
theorem State.counterRaw_same {s a : State} {j k n : Nat} (h1 : j ≠ Reg.counter k) (h2 : j ≠ Obj.overflowFlags) (h3 : ∀ i, i < 4 → j ≠ Reg.sampCount i)
    (h : Same j s a) : Same j s (a.counterRaw k n) := by
  have fold : ∀ (l : List Nat) (t : State), (∀ i, i ∈ l → i < 4) → Same j s t →
      Same j s (l.foldl (fun s i => if s.reg (Reg.sampOn i) = k + 1 then s.setReg (Reg.sampCount i) (s.reg (Reg.sampCount i) + n) else s) t) := by
    intro l
    induction l with
    | nil => intro t _ ht; exact ht
    | cons i l ih => exact fun t hl ht => ih _ (fun i hi => hl i (.tail _ hi)) (Same.ite (Same.setReg (h3 i (hl i (.head _))) ht) ht)
  unfold State.counterRaw
  exact fold _ _ (fun i hi => List.mem_range.mp hi) (Same.ite (Same.setReg h1 h) (Same.setReg h2 (Same.setReg h1 h)))

/-- Events of a counter write its rest, the counter and the one chained to it, their overflow bits and samplers (R473, R475, R480). -/
theorem State.count_same {s a : State} {j k n : Nat} (h0 : j ≠ Reg.counterRes k) (h1 : j ≠ Reg.counter k) (h1' : j ≠ Reg.counter (k + 1))
    (h2 : j ≠ Obj.overflowFlags) (h3 : ∀ i, i < 4 → j ≠ Reg.sampCount i) (h : Same j s a) : Same j s (a.count k n) := by
  unfold State.count
  have hr := State.counterRaw_same h1 h2 h3 (n := (a.reg (Reg.counterRes k) + n) / State.counterScale k)
    (Same.setReg (v := (a.reg (Reg.counterRes k) + n) % State.counterScale k) h0 h)
  exact Same.ite h (Same.ite (State.counterRaw_same h1' h2 h3 hr) hr)

/-- An instruction time of a core writes its count of instructions and its counter. -/
theorem State.coreSpend_same {s a : State} {c n t x : Nat} (hc : c < 32) (_ht : t < 0x1000) (hx : x < 0x100000) (d1 : t ≠ 387) (d2 : t ≠ 258) (d3 : t ≠ 472)
    (d4 : t ≠ 478) (h : Same (ireg t c x) s a) : Same (ireg t c x) s (a.coreSpend c n) := by
  unfold State.coreSpend
  refine State.count_same ?_ ?_ ?_ ?_ ?_ (Same.setReg ?_ h)
  · exact ireg_ne_of_range d3 (by omega) (by omega) hx (by omega)
  · exact ireg_ne_of_range d2 (by omega) (by omega) hx (by omega)
  · exact ireg_ne_of_range d2 (by omega) (by omega) hx (by omega)
  · exact (okey_ne_ireg (by omega) (by omega)).symm
  · intro i hi; exact ireg_ne_of_range d4 (by omega) (by omega) hx (by omega)
  · exact ireg_ne_of_range d1 (by omega) (by omega) hx (by omega)
/-- A journal record leaves hoist time. -/
theorem State.jnl_now (s : State) (typ unit world inst : Nat) (live : Bool) (body : Bytes) : (s.jnl typ unit world inst live body).now = s.now := by
  unfold State.jnl; simp only []
  split
  · rfl
  · simp only [State.setRegs_now]; split <;> simp only [State.bump_now] <;> split <;> simp only [State.setRegs_now]

/-- A record of the owner event ring leaves hoist time. -/
theorem State.toOwner_now (s : State) (e : Event) : (s.toOwner e).now = s.now := by
  have fold : ∀ (l : List Nat) (t : State) (e : Event), t.now = s.now → (l.foldl (fun s n => s.emit (.frame U.hal (State.pushDatagram n e))) t).now = s.now := by
    intro l
    induction l with
    | nil => intro t e ht; exact ht
    | cons n l ih => intro t e ht; exact ih (t.emit _) e ht
  unfold State.toOwner
  refine fold _ _ _ ?_
  simp only []; split <;> split <;> rfl

/-- An event for Halyard and the owner leaves hoist time. -/
theorem State.raise_owner_now (s : State) (unit st world sev : Nat) (pl : List (Nat × Nat)) : (s.raise [.hal, .owner] unit st world sev pl).now = s.now := by
  have hd : ∀ t : State, (([Dest.hal, Dest.owner] : List Dest).flatMap t.expandDest ++ if 3 ≤ sev then [Dest.owner] else []).dedup = [Dest.hal, Dest.owner] := by
    intro t
    have : ([Dest.hal, Dest.owner] : List Dest).flatMap t.expandDest = [Dest.hal, Dest.owner] := rfl
    rw [this]
    split <;> decide
  unfold State.raise
  simp only [hd, List.foldl_cons, List.foldl_nil, State.deliver]
  rw [State.toOwner_now]; simp only []; split
  · exact State.jnl_now _ _ _ _ _ _ _
  · rfl

end Sys2Proof.Machine
end

