-- ==== Sys2Proof/WellFormed.lean ====
section
/-!
DEFINITION. WellFormed.lean: commands as the spec admits them: every number names a unit, port, instance, ring, layer, core or link that the part has, and
every value fits the field that carries it. The meanings are total: a command that is not well formed is answered or ignored as the rule of its row says,
and no meaning assumes that its command is well formed.
-/
namespace Sys2Proof

/-- An object's address: a 16-bit index and an 8-bit sub-index (R25). -/
def objectOk (idx sb : Nat) : Bool := decide (idx < 0x10000) && decide (sb < 0x100)

/-- The bytes of one record (R58): at most 1024. -/
def recordOk (v : List Byte) : Bool := decide (v.length ≤ 1024)

/-- A session is numbered in 16 bits, SEQ of a datagram in 16 (R59). -/
def sessionOk (n : Nat) : Bool := decide (n < 0x10000)

/-- The fields of a record and of the datagram header fit their widths (R59). -/
def Rec.wf (r : Rec) : Bool :=
  decide (r.magic < 0x10000) && decide (r.version < 0x100) && decide (r.count < 0x100) && decide (r.seq < 0x10000) && decide (r.op < 0x100)
    && decide (r.flags < 0x100) && decide (r.rsv < 0x100) && decide (r.status < 0x10000) && decide (r.tag < 0x10000)

/-- A CAN FD, Ethernet, PCIe or hoist link port: four of each. -/
def portOk (p : Nat) : Bool := decide (p < 4)

/-- A head, a receiver, a touch port, a TDM port: eight of each. -/
def eightOk (n : Nat) : Bool := decide (n < 8)

/-- A DRAM channel, a transmitter port, a check unit: sixteen of each. -/
def sixteenOk (n : Nat) : Bool := decide (n < 16)

/-- An instance number (table Instance kinds). -/
def instanceOk (i : Nat) : Bool := decide (i < 56)

/-- An instance with a mailbox: those of virtual functions and of remote guests (R131). -/
def mailboxOk (i : Nat) : Bool := decide (i < 48)

/-- A ring of an instance (R202). -/
def ringOk (r : Nat) : Bool := decide (r < 8)

/-- The reads and stores of a shader run name clusters (R172). -/
def ShaderRun.wf (q : ShaderRun) : Bool := q.reads.all (fun x => decide (x.1 < 24)) && q.stores.all (fun x => decide (x.1 < 24))

/-- A primitive has a kind, up to three vertex indices and 42 bytes of positions (table Primitive record). -/
def Prim.wf (p : Prim) : Bool :=
  decide (p.kind < 3) && decide (p.vidx.length ≤ 3) && p.vidx.all (fun v => decide (v < 0x100000000)) && decide (p.pos.length = 42)

/-- A set-up operation of an instance's mailbox, its number and tag (R131). -/
def setupOk (i : Nat) (m : Mail) : Bool := mailboxOk i && decide (m.seq < 0x10000) && decide (m.tag < 0x10000)

/-- A pennant core (table Core assignment). -/
def coreOk (c : Nat) : Bool := decide (c < 32)

/-- A haptic channel: three groups of eight (R326). -/
def channelOk (g c : Nat) : Bool := decide (g < 3) && decide (c < 8)

/-- A unit handle (R8). -/
def handleOk (h : Nat) : Bool := decide (h < 0x10000)

/-- A world: 64 of them (chapter 4). -/
def worldOk (w : Nat) : Bool := decide (w < 64)

/-- A device of a hoist: up to 64 (chapter 20). -/
def deviceOk (d : Nat) : Bool := decide (d < 64)

/-- An item of admitted work whose deadline is open: a planned domain and time left (R82). -/
def openWork (w : Nat × Nat × Nat) : Bool := decide (w.1 < 4) && decide (0 < w.2.2)

/-- A command is well formed. -/
def Instr.wf : Instr → Bool
  | .sessionOpen tr port cl w => decide (1 ≤ tr) && decide (tr ≤ 6) && decide (port < 0x100) && decide (cl < 6) && worldOk w
  | .sessionClose n | .udpSessionTimeout n | .pendingSessionTimeout n | .debugCertExpiry n | .boundaryScanOpen n => sessionOk n
  | .debugCertIn n v _ _ | .queryPath n v | .authWrite n v | .authCommit n v | .authDiscard n v | .authCancel n v | .ownerEvPush n v => sessionOk n && recordOk v
  | .objectWrite n idx sb v => sessionOk n && objectOk idx sb && recordOk v
  | .recordRead n r idx sb => sessionOk n && r.wf && objectOk idx sb
  | .recordWrite n r idx sb v => sessionOk n && r.wf && objectOk idx sb && decide (v.length < 0x10000)
  | .readSegment n r idx sb off len => sessionOk n && r.wf && objectOk idx sb && decide (off < 2 ^ 32) && decide (len < 0x10000)
  | .writeSegment n r idx sb off v => sessionOk n && r.wf && objectOk idx sb && decide (off < 2 ^ 32) && decide (v.length < 0x10000)
  | .recordAbort n r => sessionOk n && r.wf
  | .transferTimeout n | .commit n | .discardShadow n | .cancelPending n | .ownerEvRead n => sessionOk n
  | .schedTimeLost h | .shadowHoldExpiry h | .boundaryPortReset h | .boundaryPortResume h | .recallGraceExpiry h | .drainComplete h
  | .scrubVerifyDone h _ | .hpdLowWaitEnd h | .unitReset h _ _ => handleOk h
  | .authLockoutEnd k => decide (k < 0x100)
  | .usdoRequest p phase _ idx sb v => portOk p && decide (phase ≤ 4) && objectOk idx sb && recordOk v
  | .heartbeatProduce p | .busOffRecovery p => portOk p
  | .rawTxDone p err => portOk p && decide (err < 4)
  | .heartbeatReceive p node => portOk p && decide (node < 0x80)
  | .heartbeatLost p i => portOk p && decide (i < 8)
  | .pushReceive p id v => portOk p && decide (id < 2 ^ 30) && decide (v.length ≤ 64)
  | .pushStale p m => portOk p && decide (m < 32)
  | .pushTransmit p t => portOk p && decide (t < 8)
  | .rawConfigWrite n p sb v => sessionOk n && portOk p && decide (1 ≤ sb) && decide (sb ≤ 4) && recordOk v
  | .rawFrameReceive p err id fl v => portOk p && decide (err < 3) && decide (id < 2 ^ 30) && decide (fl < 16) && decide (v.length ≤ 64)
  | .rawRx n p => sessionOk n && portOk p
  | .rawTx n p v | .ethInterfaceWrite n p v => sessionOk n && portOk p && decide (v.length ≤ 1280)
  | .usbAttached h addr cls vid pid _ => decide (h < 2) && decide (1 ≤ addr) && decide (addr < 128) && decide (cls < 0x100) && decide (vid < 0x10000) && decide (pid < 0x10000)
  | .usbDetached h addr => decide (h < 2) && decide (1 ≤ addr) && decide (addr < 128)
  | .hidReportReceive h addr id v => decide (h < 2) && decide (1 ≤ addr) && decide (addr < 128) && decide (id < 0x100) && decide (v.length ≤ 64)
  | .hidIn n h => sessionOk n && decide (h < 2)
  | .hidOut n h v | .usbPortOp n h v => sessionOk n && decide (h < 2) && recordOk v
  | .usbOvercurrent h => decide (h < 2)
  | .windowAccess n w sb _ v => sessionOk n && decide (w < 8) && decide (sb < 0x100) && recordOk v
  | .planRaise d slack _ => decide (d < 4) && decide (slack.length ≤ 8)
  | .boundaryApply h _ => decide (h < 0x10000)
  | .planBoundary _ work _ speed => work.all openWork && decide (speed.length ≤ 5)
  | .shedHoldEnd _ work _ => work.all openWork
  | .throttleExpiry c bank w _ => sixteenOk c && sixteenOk bank && worldOk w
  | .rowIdleClose c bank => sixteenOk c && sixteenOk bank
  | .retrainStart c _ _ | .retrainDone c _ _ _ _ | .retrainRetry c => sixteenOk c
  | .concentrationCheck w | .invalidationComplete w => worldOk w
  | .fabricAccess a => decide (a.va < 2 ^ 64) && (decide (a.acc ≤ 4) && decide (1 ≤ a.acc)) && decide (a.link ≤ 2) && decide (a.req < 48) && decide (a.cls < 4)
  | .doorbell i r _ _ => mailboxOk i && ringOk r
  | .eqConsDoorbell i _ _ | .eqHoldoffExpiry i => mailboxOk i
  | .ringCreate i m r log2 _ _ => setupOk i m && ringOk r && decide (log2 < 32)
  | .ringDestroy i m r => setupOk i m && ringOk r
  | .eqCreate i m log2 _ _ _ => setupOk i m && decide (log2 < 32)
  | .s1Set i m _ _ | .mbS1Invalidate i m | .memRequest i m _ _ | .memRelease i m _ _ | .surfaceExport i m _ _ _
  | .surfaceRevoke i m _ | .surfaceImport i m _ _ | .shaderAdmit i m _ _ _ _ _ _ _ _ | .shaderRelease i m _
  | .quiesceSelf i m => setupOk i m
  | .reserve i m _ _ _ _ => setupOk i m
  | .remoteMemoryWrite i _ _ _ _ | .remoteMemoryRead i _ _ _ _ | .remoteAck i _ | .remoteKeepalive i _ | .remoteRetransmit i | .remoteKeepaliveSend i
  | .remoteLinkLost i | .remoteHoldExpiry i => decide (32 ≤ i) && decide (i < 48)
  | .grantWrite n i _ _ | .instEnable n i | .instQuiesce n i | .instResume n i | .instReset n i | .instRemove n i => sessionOk n && instanceOk i
  | .resizeCut i | .quiesceDone i | .quiesceLimit i => instanceOk i
  | .vfFlr i | .vfLinkLoss i | .counterViewRead i _ => decide (i < 32)
  | .nop i r | .passBegin i r | .passEnd i r | .bindPipeline i r | .bindState i r | .clear i r | .queryBegin i r | .queryEnd i r | .fenceSignal i r | .fenceWait i r | .fenceTimeout i r
  | .barrier i r | .s1Invalidate i r | .event i r | .priority i r | .timestamp i r | .copyBuffer i r | .copySurface i r | .fill i r | .flattenPresent i r
  | .binPoolFull i r | .extensionReread i r | .binFaultTimeout i r | .workItemComplete i r => instanceOk i && ringOk r
  | .flipLayer i | .flipCommit i | .flipCancel i | .hapticPlay i | .hapticStop i | .audioPlay i | .audioCapture i | .audioStart i | .audioStop i => instanceOk i
  | .clusterLost c => decide (c < 24)
  | .headCommitLine n _ | .linkWakeDone n | .teEdge n _ | .teLost n | .panelOnDelayEnd n | .backlightDelayEnd n | .panelFault n | .panelFaultClear n
  | .rxFrame n _ _ _ _ _ _ | .rxSignalLost n | .rxHoldExpiry n | .rxLinkTraining n _ => eightOk n
  | .lastFetchComplete n l => eightOk n && eightOk l
  | .ensignFill n k _ _ _ _ _ | .ensignBlit n k _ _ _ _ _ _ _ | .ensignGlyph n k _ _ _ _ _ _ _ | .ensignSign n k | .freezeWindowExpiry n k
  | .signatureSample n k _ _ => eightOk n && sixteenOk k
  | .hpdRise p | .hpdWaitEnd p _ _ _ _ _ | .linkTrained p _ _ | .trainRetry p | .irqHpd p _ _ | .panelUnplugged p => sixteenOk p
  | .scanFrameEnd p _ _ _ | .idleStep p | .gestureWatchEnd p | .gloveTimeout p | .wetTimeout p | .touchPortStart p _ _ _ _ _ _ _ _
  | .integrityScan p _ _ | .audTdmClockLost p | .tdmClockResume p => eightOk p
  | .playEffect n g c _ => sessionOk n && channelOk g c
  | .hapticLoopPeriod g c _ _ | .senseCheck g c _ | .effectEnd g c | .overcurrent g c => channelOk g c
  | .loadMeasure g _ _ | .driverHot g _ | .hvFault g | .hvRetry g _ | .driverCooled g _ => decide (g < 3)
  | .audioBufferDone t => decide (t < 32)
  | .mov c | .add c | .sub c | .adc c | .sbc c | .and c | .or c | .xor c | .shl c | .shr c | .sra c | .cmp c | .tst c | .mul c | .mulh c | .not c
  | .addi c | .movi c | .movhi c | .cmpi c | .ldw c | .stw c | .ldb c | .stb c | .bcc c | .jmp c | .call c | .mfs c | .mts c | .jr c | .rete c | .wait c
  | .pwait c | .send c | .ei c | .di c | .sysNop c | .bmov c | .bfeed c | .bmac c | .waitv c | .handlerEntry c | .periodTick c | .coreReset c => coreOk c
  | .timerExpiry c t => coreOk c && decide (t < 4)
  | .edgeDetect c e _ => coreOk c && decide (e < 8)
  | .mailboxIn n c v | .programStage n c v => sessionOk n && coreOk c && decide (v.length ≤ 16384)
  | .programVerify n c _ | .programEmpty n c => sessionOk n && coreOk c
  | .feedData n u v | .runningValueWrite n u v | .crcSettingWrite n u _ v => sessionOk n && sixteenOk u && decide (v.length ≤ 4096)
  | .compare n u | .restartAtInit n u | .aliveResync n u => sessionOk n && sixteenOk u
  | .vmainFail vmain vbak | .vmainOver vmain vbak => decide (vmain < 0x10000) && decide (vbak < 0x10000)
  | .vmainValid vmain drift => decide (vmain < 0x10000) && drift.all sixteenOk
  | .thermalRecover drift => drift.all sixteenOk
  | .vbakFlushTrigger vbak | .vbakLow vbak | .vbakAbsent vbak => decide (vbak < 0x10000)
  | .holdupConfigWrite n sb v => sessionOk n && (sb == 1 || sb == 3 || sb == 4) && recordOk v
  | .hoistLinkUp l _ _ peer _ _ _ _ _ _ => portOk l && deviceOk peer
  | .hoistLinkRetry l | .linkRekey l | .hoistLinkDown l => portOk l
  | .hoistDictRequest l _ src _ cl w op flags idx sb off len v => portOk l && deviceOk src && decide (cl < 6) && worldOk w && decide (op < 0x100) && decide (flags < 0x100)
    && objectOk idx sb && decide (off < 2 ^ 32) && decide (len < 0x10000) && recordOk v
  | .hoistDictResponse l _ _ st v => portOk l && decide (st < 0x10000) && recordOk v
  | .hoistHeartbeat l _ src _ _ _ _ => portOk l && deviceOk src
  | .hoistFeedData l _ dst f _ _ => portOk l && deviceOk dst && sixteenOk f
  | .membership l _ kind _ _ => portOk l && decide (kind ≤ 6)
  | .contactForward l _ dst _ w _ => portOk l && deviceOk dst && worldOk w
  | .hoistDeviceLost d => deviceOk d
  | .feedEnable n f _ _ | .feedDisable n f => sessionOk n && sixteenOk f
  | .hoistFeedLost f => sixteenOk f
  | .samplerArm n j | .samplerDisarm n j => sessionOk n && portOk j
  | .pmcSample j _ | .lightSensorRead j _ _ | .pcieLinkTraining j _ _ _ | .ethLinkChange j _ _ | .ptpMessage j _ _ _ _ => portOk j
  | .classWrite n r v => sessionOk n && decide (r < 64) && recordOk v
  | .reserveRateWrite n sb v => sessionOk n && (sb == 4 || sb == 5) && recordOk v
  | .blockRelease i h _ => mailboxOk i && handleOk h
  | .debugConsent n w v => sessionOk n && worldOk w && recordOk v
  | .yieldDurationEnd w _ => worldOk w
  | .draw i r ps q | .drawIndexed i r ps q => instanceOk i && ringOk r && ps.all Prim.wf && q.wf
  | .drawIndirect i r ds q => instanceOk i && ringOk r && ds.all (fun ps => ps.all Prim.wf) && q.wf
  | .dispatch i r q | .dispatchIndirect i r q => instanceOk i && ringOk r && q.wf
  | .preemptRequest phase _ => decide (phase < 3)
  | .acquireTimeout w _ => worldOk w
  | .packageVerify n _ => sessionOk n
  | .sampleInstant d _ _ => decide (d < 3)
  | .feedPoll e d f => sixteenOk e && deviceOk d && sixteenOk f
  | .feedCopyDone e d f _ => sixteenOk e && deviceOk d && sixteenOk f
  | .lampTestInputChange o _ => decide (o < 32)
  | .audBridgeLocked k _ | .audBridgeUnlocked k => portOk k
  | .updHeader n v _ => sessionOk n && decide (v.length ≤ 4096)
  | .updBody n _ _ v _ _ => sessionOk n && decide (v.length ≤ 4096)
  | .chainMaskWrite n v => sessionOk n && recordOk v
  | .overflowClear n v => sessionOk n && recordOk v
  | .remoteOffInputWrite n v => sessionOk n && recordOk v
  | .hoGrant n | .hoRecall n | .packageActivate n | .packageDiscard n | .ownerTicket n _ | .lifecycleAdvance n | .keyopGenerate n _ |
    .keyopImportPlain n _ | .keyopImportWrapped n _ | .keyopErase n | .attest n | .updSchedule n | .updCancel n | .updConfirm n | .updReject n |
    .updRaiseFloor n | .updLoadUsb n _ _ _ _ | .exportBuild n | .hoistJoin n _ | .hoistLeave n | .snapshotTake n | .snapshotRelease n => sessionOk n
  | .dtlsHandshake _ _ _ _ _ | .planWatchdog | .ageMeasure _ | .forecastUpdate | .thermalAboveFloor _ | .patrolScrub _ |
    .remoteAssociation _ | .fenceReevaluate | .pipelineCompiled _ _ _ | .contextSchedule _ | .tileGraceExpiry _ | .timeSliceExpiry | .ensignPeriod |
    .ensignAcknowledge _ _ | .flashHalfCycle | .backupToneSwitch | .meterUpdate | .ensLockstep |
    .ensPairRestarted | .sha256 _ | .sha384 _ | .sha512 _ | .aesGcmEncrypt _ | .aesGcmDecrypt _ | .cmacGenerate _ | .cmacVerify _ | .xtsEncrypt _ |
    .xtsDecrypt _ | .ecdsaSign _ | .ecdsaVerify _ | .ecdh _ | .keyGeneration _ | .ed25519Verify _ | .randomBytes _ | .cryptoJobDone _ |
    .cryptoRngFail | .jtagDebugOpen _ _ _ _ | .updActivation | .halyardRestartDone _ | .updTrialExpiry | .recoveryRequest _ _ _ _ _ _ |
    .journalDrain _ | .remoteOff | .resetN | .thermalHigh _ | .thermalTrip _ | .thermalShutdown _ | .flushComplete | .returnComplete |
    .bootHandover _ _ _ _ _ _ | .startUpComplete _ _ | .halyardWatchdog | .timeExchange _ _ _ _ | .timeLockTimeout | .hoistPtpLost |
    .hoistTakeover _ | .resetNRelease | .remoteOffRelease | .rngStartupTestPass => true

end Sys2Proof
end

