-- ==== Sys2Proof/Tests/Slice0.lean ====
section
/-!
SUPPORT. Tests/Slice0.lean: small states that meet the premises of every statement, one theorem `witness_<statement>` for each statement that has premises, with one
conjunct for each of its clauses; ill-formed commands that the check of each operand refuses; and examples that the spec works out itself.
-/
set_option Elab.async false
namespace Sys2Proof.Tests

open Sys2Proof.Machine Sys2Proof.Safety

/-- A state in which some registers are set. -/
def rg (l : List (Nat × Nat)) : State := State.reset.setRegs l
/-- A state in SERVICE with Halyard serving. -/
def svc (l : List (Nat × Nat)) : State := rg ([(Obj.powerState, 3), (Reg.halServing, 1)] ++ l)
/-- The same with session 7 open, on transport `tr` and of class `cl`. -/
def srv (tr cl : Nat) (l : List (Nat × Nat)) : State := svc ([(Reg.sessOpen 7, 1), (Reg.sessTransport 7, tr), (Reg.sessClass 7, cl)] ++ l)
/-- A number as four bytes. -/
def b4 (v : Nat) : Bytes := leBytes 4 v
/-- The tables that map the guest space of world 4 from 0 up to 2 MiB of DRAM at 0x400000. -/
def gwTables : List (Nat × Byte) := [(0x200000, 3), (0x200002, 0x21), (0x210000, 3), (0x210001, 0x10), (0x210002, 0x21), (0x211000, 0xC1), (0x211002, 0x40), (0x211007, 8)]
/-- The cells of a byte string at an address. -/
def cells (a : Nat) (b : Bytes) : List (Nat × Byte) := (((List.range b.length).map (a + ·)).zip b).filter (fun c => c.2 != 0)
/-- A state in SERVICE in which instance 31 runs for world 4, with those tables. -/
def gw (l : List (Nat × Nat)) : State :=
  { svc ([(Reg.worldRoot 4, 0x200000), (Reg.tblNext 4, 0x212000), (Reg.tblEnd 4, 0x3F0000), (Reg.frameMode 1, 2), (Obj.installedGiB, 16), (Obj.worldState 4, 2), (Obj.keyState 4, 1), (Obj.instState 31, 1),
    (Obj.instWorld 31, 4)] ++ l) with mem := gwTables }
theorem gwTables_mapped : (({ gw [(Reg.tblNext 4, 0x210000)] with mem := [] }).mapLeaf 4 0 2 (leafDesc 2 0x400000 0 4 true true)).map State.mem = some gwTables := by decide +kernel
/-- The same instance, its guest space from 0 up the first GiB of DRAM, with ring `r` active and `words` on it; its context is chosen. -/
def ringAt (r : Nat) (words : List Nat) (l : List (Nat × Nat)) : State :=
  { rg ([(Obj.powerState, 3), (Obj.installedGiB, 16), (Obj.keyState 4, 1), (Obj.instState 31, 1), (Obj.instWorld 31, 4), (Reg.worldRoot 4, 0x200000), (Reg.frameMode 1, 2),
      (Reg.unitState U.nim, 1), (Reg.ringState 31 r, 2), (Reg.ringBase 31 r, 0x1000), (Reg.ringLog2 31 r, 12), (Reg.ringWptr 31 r, words.length),
      (Reg.nimCur, 8 * 31 + r + 1), (Reg.ringCtx 31 r, 1)] ++ l) with
    mem := cells 0x1000 (words.flatMap (leBytes 4)) ++ [(0x200000, 3), (0x200002, 0x21), (0x210000, 0xC1), (0x210007, 8)] }
/-- A packet's header word. -/
def hdr (op len safe : Nat) : Nat := op * 0x1000000 + len * 0x100 + safe
/-- The packet of a ring is of an opcode, is well formed and has a property. -/
def holdsOk (s : State) (i r op : Nat) (q : Pkt → Bool) : Bool := s.up && s.ringRuns i r && (match s.fetchPkt i r with
  | .pkt p => p.op == op && !s.pktBad r p && q p
  | _ => false)
theorem holds_of {s : State} {i r op : Nat} {q : Pkt → Bool} (h : holdsOk s i r op q = true) : ∃ p, Holds s i r op p ∧ q p = true := by
  unfold holdsOk at h
  cases hf : s.fetchPkt i r with
  | pkt p =>
    simp only [hf, Bool.and_eq_true, beq_iff_eq, Bool.not_eq_true'] at h
    exact ⟨p, ⟨h.1.1, h.1.2, hf, h.2.1.1, h.2.1.2⟩, h.2.2⟩
  | none => simp [hf] at h
  | fault e => simp [hf] at h
/-- A context's packet is of an opcode, and has a property, when the renderer runs the context. -/
def HasR (s : State) (i r op : Nat) (q : Pkt → Bool) : Prop := ∃ p, Renders s i r op p ∧ q p = true
/-- The same of the copy engine. -/
def HasC (s : State) (i op : Nat) (q : Pkt → Bool) : Prop := ∃ p, Copies s i op p ∧ q p = true
/-- The same of a ring of another unit. -/
def HasP (s : State) (i r op : Nat) (q : Pkt → Bool) : Prop := ∃ p, Holds s i r op p ∧ q p = true
theorem rend {s : State} {i r op : Nat} {q : Pkt → Bool} (h : (holdsOk s i r op q && decide (r < 4 ∧ s.reg (Reg.passSkip i r) = 0 ∧ s.reg Reg.nimCur = 8 * i + r + 1 ∧ s.ctxFree i r = true)) = true) :
    HasR s i r op q := by
  rw [Bool.and_eq_true, decide_eq_true_eq] at h
  obtain ⟨p, hp, hq⟩ := holds_of h.1
  exact ⟨p, ⟨hp, h.2⟩, hq⟩
theorem cop {s : State} {i op : Nat} {q : Pkt → Bool} (h : (holdsOk s i 7 op q && decide (s.reg (Reg.passSkip i 7) = 0 ∧ s.ctxFree i 7 = true)) = true) :
    HasC s i op q := by
  rw [Bool.and_eq_true, decide_eq_true_eq] at h
  obtain ⟨p, hp, hq⟩ := holds_of h.1
  exact ⟨p, ⟨hp, h.2⟩, hq⟩
theorem has {s : State} {i r op : Nat} {q : Pkt → Bool} (h : holdsOk s i r op q = true) : HasP s i r op q := holds_of h
/-- The bytes of a surface descriptor: 8 x 4 texels of format 5, single-sampled, at a base. -/
def surf8 (base : Nat) : Bytes := record [(8, base), (8, 0), (2, 8), (2, 4), (2, 1), (1, 1), (1, 1), (1, 5), (1, 0), (2, 0), (4, 32)]
/-- A small content package: one region of 4 x 2 pixels with its default page. -/
def pkg : EnsPkg := ⟨true, 0x10, 0x4E454A46, 1, 10, 0x08800001, 1, 0, [⟨0, 0, 0, 0, 4, 2, false, 0, 1⟩], List.replicate 2048 0, List.replicate 32 0, 0, [], [⟨1, 0, 0, 0, 0, none, false, 0xFF, [], []⟩],
  [], [], [⟨0, 0, 0, 0, 4, 2, 0xFF⟩, ⟨0, 0, 0, 0, 4, 2, 3⟩], 10, []⟩
/-- A record of one datagram, of OP `op` and SEQ 9. -/
def rc (op : Nat) : Rec := ⟨0x4A46, 1, 1, 100, 9, 0, op, 0, 0, 0, 0⟩
/-- A mailbox request of a PCIe guest. -/
def m0 : Mail := ⟨1, 0, ⟨0, 0⟩⟩
/-- An access of instance 31 outside a context, `n` bytes at address 0. -/
def fa (n acc : Nat) : FabAccess := ⟨0, 0, 31, 9, 0, 0, 0, U.fab, 0, n, acc, [], 0, false, 0, [], [], [], 0, 0, 0, 0, 0, 0, false, false⟩
/-- The same with a pass open on a descriptor of one tile and no attachment, a pipeline and a state block bound. -/
def pas (r : Nat) (words : List Nat) (l : List (Nat × Nat)) : State :=
  let s := ringAt r words ([(Reg.nimPass 31 r, 1), (Reg.passDesc 31 r, 0x2000), (Reg.nimPipe 31 r, 1), (Reg.nimState 31 r, 0x101)] ++ l)
  { s with mem := cells 0x1000 (words.flatMap (leBytes 4)) ++ [(0x2000, 1), (0x2002, 1), (0x2004, 1), (0x2009, 0x30), (0x2012, 1), (0x2018, 4)]
    ++ [(0x200000, 3), (0x200002, 0x21), (0x210000, 0xC1), (0x210007, 8)] }.setNum (Num.pipe 0) [4, 2, 1, 0, 0, 31]
/-- The guest space of instance 31's world maps its first MiB one to one. -/
def flat (s : State) (r : Nat) : Bool :=
  s.instWorld 31 == 4 && s.reg (Reg.s1Root 31 r) == 0 && s.reg (Reg.worldRoot 4) == 0x200000 && s.tableStatus 0x200000 == St.ok && s.readLe 0x200000 8 == 0x210003
    && s.tableStatus 0x210000 == St.ok && s.readLe 0x210000 8 == 0x08000000000000C1 && s.reg (Obj.keyState 4) == 1 && s.reg (Reg.frameMode 0) == 0 && s.reg Obj.installedGiB == 16
/-- The bytes of the first MiB. -/
def win (s : State) (a n : Nat) : Bytes := (List.range n).map (fun k => s.byte (a + k))
theorem flat_byte {s : State} {r a : Nat} {acc : Acc} (h : flat s r = true) (ha : a < 0x100000) : s.xlateByte 4 0 a acc = .ok a := by
  simp only [flat, Bool.and_eq_true, beq_iff_eq] at h
  obtain ⟨⟨⟨⟨⟨⟨⟨⟨⟨-, -⟩, h3⟩, h4⟩, h5⟩, h6⟩, h7⟩, h8⟩, h9⟩, h10⟩ := h
  have b0 : bits a 39 13 = 0 := by simp only [bits, Nat.shiftRight_eq_div_pow]; omega
  have b1 : bits a 30 9 = 0 := by simp only [bits, Nat.shiftRight_eq_div_pow]; omega
  have d0 : s.s2Desc 4 0x210003 0 a = .table 0x210000 := by
    have : Nat.testBit 2162691 63 = false := by decide
    simp [State.s2Desc, bits, bit, this]
  have d1 : s.s2Desc 4 0x08000000000000C1 1 a = .leaf a true true 0 := by
    have : a % 1073741824 = a := by omega
    have g : a < 68719476736 := by omega
    have g' : ¬ 68786585600 ≤ a := by omega
    have t1 : Nat.testBit 576460752303423681 63 = false := by decide
    have t2 : Nat.testBit 576460752303423681 7 = true := by decide
    have t3 : Nat.testBit 576460752303423681 6 = true := by decide
    simp [State.s2Desc, bits, bit, leafBits, kindRange, h8, this, g, g', t1, t2, t3]
  have hf : s.fabricStatus 0 a = St.ok := by
    have : a / 0x200000 = 0 := by omega
    have g : a < 0x1000000000 := by omega
    have g' : ¬ 16 * 0x40000000 ≤ a + 0x200000 := by omega
    have g2 : ¬ 0x1F0000 ≤ a % 0x200000 := by omega
    simp only [State.fabricStatus, State.dramSize, h10, this, h9, g, g', g2, if_true, if_false, and_false, ne_eq, not_true]
  have hw : s.s2Walk 4 a false 4 0 0x200000 = .ok ⟨a, true, true, 1, 0⟩ := by
    simp [State.s2Walk, b0, b1, h4, h5, h6, h7, d0, d1]
  have h48 : a / 2 ^ 48 = 0 := by omega
  simp only [State.xlateByte, State.translate, State.s2, h48, h3, hw]
  cases acc <;> simp [Acc.permits, hf, hw]
theorem flat_range {s : State} {r : Nat} {acc : Acc} (h : flat s r = true) :
    ∀ n a, a + n ≤ 0x100000 → s.xlateRange 4 0 a acc n = .ok ((List.range n).map (fun k => a + k)) := by
  intro n
  induction n with
  | zero => intro a _; rfl
  | succ n ih =>
    intro a ha
    simp only [State.xlateRange, flat_byte h (show a < 0x100000 by omega), ih (a + 1) (by omega), List.range_succ_eq_map, List.map_cons, List.map_map]
    congr 2
    apply List.map_congr_left
    intro k _
    simp only [Function.comp]; omega
theorem flat_cread {s : State} {r a n : Nat} (h : flat s r = true) (ha : a + n ≤ 0x100000) : s.cread 31 r a n = .ok (win s a n) := by
  have h' := h
  simp only [flat, Bool.and_eq_true, beq_iff_eq] at h'
  simp only [State.cread, State.gread, h'.1.1.1.1.1.1.1.1.1, h'.1.1.1.1.1.1.1.1.2, flat_range h n a ha, List.map_map, win]
  congr 1
  apply List.map_congr_left
  intro k hk
  have : k < n := List.mem_range.mp hk
  simp only [Function.comp, State.fabricByte]
  rw [if_neg (by omega)]

/-- The word and addresses of a packet lie in the first MiB, and the packet has property `q`: the same as `rend` with the reads of a flat space done at once. -/
theorem rendBy {s : State} {i r op : Nat} {q q' : Pkt → Bool} (hq : ∀ p, q' p = true → q p = true)
    (h : (holdsOk s i r op q' && decide (r < 4 ∧ s.reg (Reg.passSkip i r) = 0 ∧ s.reg Reg.nimCur = 8 * i + r + 1 ∧ s.ctxFree i r = true)) = true) : HasR s i r op q := by
  obtain ⟨p, hp, hp'⟩ := rend h
  exact ⟨p, hp, hq p hp'⟩
/-- What the shaders of a draw or dispatch do faults nowhere. -/
def shadesOk (s : State) (i r : Nat) (run : ShaderRun) : Bool :=
  match Nim.surfs s i r run.surfs, s.shaderReads i r run.reads with
  | .ok l, .ok (u, _) => State.firstBad (l.map (fun q => q.status false false)) == St.ok && (u.shaderStores i r run.stores).2.isNone
  | _, _ => false
/-- A pass is open and its draw completes. -/
def drawsOk (s : State) (i r : Nat) (run : ShaderRun) (args : List (Nat × Nat)) : Bool :=
  match s.cread i r (s.reg (Reg.passDesc i r)) 256 with
  | .error _ => false
  | .ok desc => match s.attachments i r desc with
    | .error _ => false
    | .ok as => s.reg (Reg.nimPass i r) == 1 && Nim.drawStatus s i r (passDescOf desc) as run == St.ok && (Nim.readFault s i r args).isNone && shadesOk s i r run
/-- A dispatch completes. -/
def dispOk (s : State) (i r : Nat) (p : Pkt) (run : ShaderRun) (args : List (Nat × Nat)) : Bool :=
  decide (s.reg (Reg.nimPass i r) ≠ 1 ∧ s.reg (Reg.nimPipe i r) ≠ 0 ∧ s.reg (Reg.nimState i r) ≠ 0 ∧ s.mayTake (s.rank45 i r) = true
    ∧ ¬ (p.safe = true ∧ (s.pipeOf (s.reg (Reg.nimPipe i r) - 1)).getD 3 0 = 1) ∧ run.limit = false) && (Nim.readFault s i r args).isNone && shadesOk s i r run
/-- The checks of a pass start pass. -/
def passOk (s : State) (i r : Nat) (p : Pkt) : Bool :=
  match s.cread i r (p.dword 0) 256 with
  | .error _ => false
  | .ok desc => match s.attachments i r desc with
    | .error _ => false
    | .ok as => s.mayTake (s.rank45 i r) && State.passHead (passDescOf desc) (p.dword 0) == St.ok && State.passAttach (passDescOf desc) as == St.ok
      && (match s.extTable i r (passDescOf desc).ext (List.range 16) with
        | .ok ext => s.passRest i r (passDescOf desc) as ext p.safe == St.ok
        | .error _ => false) && (s.cfill i r (passDescOf desc).dir State.emptyEntry (passDescOf desc).tiles).isOk
/-- The attachments of the open pass, none here, are stored. -/
def endOk (s : State) (i r : Nat) : Bool :=
  match s.passParts i r with
  | .error _ => false
  | .ok (d, as) => (s.passStores i r d as).isOk
/-- Tile 0 of the preempted pass, which had rendered `k` of its items, is saved. -/
def graceOk (s : State) (i r k : Nat) : Bool :=
  match s.passParts i r with
  | .error _ => false
  | .ok (d, as) => (s.renderTiles i r d as (fun _ => State.flushPlan) (fun t => if t = 0 then some k else none) [(0, 0)]).isOk
/-- State block and arguments lie in the first MiB. -/
def readsFlat (s : State) (r : Nat) (args : List (Nat × Nat)) : Bool :=
  ((s.reg (Reg.nimState 31 r) - 1, 256) :: args).all (fun a => decide (a.1 + a.2 ≤ 0x100000))
theorem readFault_flat {s : State} {r : Nat} {args : List (Nat × Nat)} (h : flat s r = true) (ha : readsFlat s r args = true) : Nim.readFault s 31 r args = none := by
  simp only [readsFlat, List.all_eq_true, decide_eq_true_eq] at ha
  simp only [Nim.readFault, List.findSome?_eq_none_iff]
  intro a hm
  rw [flat_cread h (ha a hm)]
/-- `drawsOk` on a flat space. -/
def drawsFlat (s : State) (r : Nat) (run : ShaderRun) (args : List (Nat × Nat)) : Bool :=
  flat s r && decide (s.reg (Reg.passDesc 31 r) + 256 ≤ 0x100000) && readsFlat s r args && (match s.attachments 31 r (win s (s.reg (Reg.passDesc 31 r)) 256) with
    | .error _ => false
    | .ok as => s.reg (Reg.nimPass 31 r) == 1 && Nim.drawStatus s 31 r (passDescOf (win s (s.reg (Reg.passDesc 31 r)) 256)) as run == St.ok && shadesOk s 31 r run)
theorem draws_flat {s : State} {r : Nat} {run : ShaderRun} {args : List (Nat × Nat)} (h : drawsFlat s r run args = true) : drawsOk s 31 r run args = true := by
  simp only [drawsFlat, Bool.and_eq_true, decide_eq_true_eq] at h
  obtain ⟨⟨⟨hf, hd⟩, ha⟩, hm⟩ := h
  unfold drawsOk
  rw [flat_cread hf hd, readFault_flat hf ha]
  dsimp only
  generalize s.attachments 31 r (win s (s.reg (Reg.passDesc 31 r)) 256) = x at hm ⊢
  cases x with
  | error e => exact hm
  | ok as => simp only [Option.isNone_none, Bool.and_true, Bool.and_eq_true] at hm ⊢; exact hm
/-- `dispOk` on a flat space. -/
def dispFlat (s : State) (r : Nat) (p : Pkt) (run : ShaderRun) (args : List (Nat × Nat)) : Bool :=
  decide (s.reg (Reg.nimPass 31 r) ≠ 1 ∧ s.reg (Reg.nimPipe 31 r) ≠ 0 ∧ s.reg (Reg.nimState 31 r) ≠ 0 ∧ s.mayTake (s.rank45 31 r) = true
    ∧ ¬ (p.safe = true ∧ (s.pipeOf (s.reg (Reg.nimPipe 31 r) - 1)).getD 3 0 = 1) ∧ run.limit = false) && (flat s r && readsFlat s r args) && shadesOk s 31 r run
theorem disp_flat {s : State} {r : Nat} {p : Pkt} {run : ShaderRun} {args : List (Nat × Nat)} (h : dispFlat s r p run args = true) : dispOk s 31 r p run args = true := by
  unfold dispFlat at h
  rw [Bool.and_eq_true, Bool.and_eq_true, Bool.and_eq_true] at h
  unfold dispOk
  rw [h.1.1, h.2, readFault_flat h.1.2.1 h.1.2.2]; rfl
/-- The parts of the open pass on a flat space. -/
theorem passParts_flat {s : State} {r : Nat} (h : flat s r = true) (hd : s.reg (Reg.passDesc 31 r) + 256 ≤ 0x100000) :
    s.passParts 31 r = (s.attachments 31 r (win s (s.reg (Reg.passDesc 31 r)) 256)).map (fun as => (passDescOf (win s (s.reg (Reg.passDesc 31 r)) 256), as)) := by
  unfold State.passParts
  rw [flat_cread h hd]
/-- `endOk` and `graceOk` on a flat space, of the open pass's end, or of a preempted tile that had rendered `k` items. -/
def partsFlat (s : State) (r : Nat) (f : PassDesc → List Attach → Bool) : Bool :=
  flat s r && decide (s.reg (Reg.passDesc 31 r) + 256 ≤ 0x100000) && (match s.attachments 31 r (win s (s.reg (Reg.passDesc 31 r)) 256) with
    | .error _ => false
    | .ok as => f (passDescOf (win s (s.reg (Reg.passDesc 31 r)) 256)) as)
theorem parts_flat {s : State} {r : Nat} {f : PassDesc → List Attach → Bool} (h : partsFlat s r f = true) :
    (match s.passParts 31 r with
      | .error _ => false
      | .ok (d, as) => f d as) = true := by
  simp only [partsFlat, Bool.and_eq_true, decide_eq_true_eq] at h
  rw [passParts_flat h.1.1 h.1.2]
  have hm := h.2
  generalize s.attachments 31 r (win s (s.reg (Reg.passDesc 31 r)) 256) = x at hm ⊢
  cases x <;> exact hm
/-- Extension table entries on a flat space. -/
theorem extTable_flat {s : State} {r ext : Nat} (h : flat s r = true) : ∀ ns : List Nat, (∀ n ∈ ns, ext + 16 * n + 16 ≤ 0x100000) →
    s.extTable 31 r ext ns = .ok (ns.map (fun n => (bytesAt (win s (ext + 16 * n) 16) 0 8, bytesAt (win s (ext + 16 * n) 16) 8 4, bytesAt (win s (ext + 16 * n) 16) 12 4))) := by
  intro ns
  induction ns with
  | nil => intro _; rfl
  | cons n ns ih =>
    intro hn
    unfold State.extTable State.extEntry
    rw [flat_cread h (hn n (by simp)), ih (fun m hm => hn m (by simp [hm]))]
    rfl
/-- `passOk` on a flat space. -/
def passFlat (s : State) (r : Nat) (p : Pkt) : Bool :=
  let desc := win s (p.dword 0) 256
  let d := passDescOf desc
  flat s r && decide (p.dword 0 + 256 ≤ 0x100000) && decide (d.ext + 256 ≤ 0x100000) && (match s.attachments 31 r desc with
    | .error _ => false
    | .ok as => s.mayTake (s.rank45 31 r) && State.passHead d (p.dword 0) == St.ok && State.passAttach d as == St.ok
      && s.passRest 31 r d as ((List.range 16).map (fun n => (bytesAt (win s (d.ext + 16 * n) 16) 0 8, bytesAt (win s (d.ext + 16 * n) 16) 8 4,
        bytesAt (win s (d.ext + 16 * n) 16) 12 4))) p.safe == St.ok && (s.cfill 31 r d.dir State.emptyEntry d.tiles).isOk)
theorem pass_flat {s : State} {r : Nat} {p : Pkt} (h : passFlat s r p = true) : passOk s 31 r p = true := by
  simp only [passFlat, Bool.and_eq_true, decide_eq_true_eq] at h
  obtain ⟨⟨⟨hf, hd⟩, he⟩, hm⟩ := h
  unfold passOk
  rw [flat_cread hf hd]
  dsimp only
  rw [extTable_flat hf (List.range 16) (fun n hn => by have := List.mem_range.mp hn; omega)]
  generalize s.attachments 31 r (win s (p.dword 0) 256) = x at hm ⊢
  cases x with
  | error e => exact hm
  | ok as => simp only [Bool.and_eq_true] at hm ⊢; exact ⟨⟨⟨⟨hm.1.1.1.1, hm.1.1.1.2⟩, hm.1.1.2⟩, hm.1.2⟩, hm.2⟩
/-- A condition beside one that the flat form of `c` gives. -/
theorem and_flat {a b c : Bool} (h : (a && b) = true) (hb : b = true → c = true) : (a && c) = true := by
  rw [Bool.and_eq_true] at h ⊢; exact ⟨h.1, hb h.2⟩
theorem end_flat {s : State} {r : Nat} (h : partsFlat s r (fun d as => (s.passStores 31 r d as).isOk) = true) : endOk s 31 r = true := parts_flat h
theorem grace_flat {s : State} {r k : Nat} (h : partsFlat s r (fun d as => (s.renderTiles 31 r d as (fun _ => State.flushPlan) (fun t => if t = 0 then some k else none) [(0, 0)]).isOk) = true) : graceOk s 31 r k = true := parts_flat h
/-- The Ensign pair runs the package. -/
def ens (l : List (Nat × Nat)) : State := { svc ([(Reg.unitState U.ens, 1), (Obj.ownerSlot, 0), (Obj.hActive 0, 4), (Obj.vActive 0, 2)] ++ l) with activePkg := some pkg }
/-- Session 3, of class HAL, beside it. -/
def ensHal (l : List (Nat × Nat)) : State := ens ([(Reg.sessOpen 7, 1), (Reg.sessClass 7, 0)] ++ l)
/-- A program of one instruction word: its header's CODE_WORDS and the word. -/
def prog (w : Nat) : Bytes := List.replicate 24 0 ++ leBytes 2 1 ++ List.replicate 38 0 ++ leBytes 2 w
/-- Core `c` runs and meets the word `w` at its pc. -/
def core (c w : Nat) (l : List (Nat × Nat)) : State := (svc ([(Obj.coreState c, 1), (Reg.unitState (U.core c), 1)] ++ l)).setFifo (Fifo.image c 0) [prog w]
/-- A state of block instruction `w` before an element, with its instruction time spent. -/
def elem (c w : Nat) (l : List (Nat × Nat)) : State := (core c w ([(Reg.coreG c 14, 2), (Reg.coreG c 12, 0x100), (Reg.coreG c 13, 0x200)] ++ l)).coreSpend c 1
/-- An ownership ticket that claims the device for owner slot 0, its key the base point of P-384. -/
def ticket : Bytes := record [(4, 0x544F4A46), (4, 0x08800001), (8, 0), (1, 0), (3, 0)] ++ [4] ++ Sha.beBytes 48 Ecc.p384.gx ++ Sha.beBytes 48 Ecc.p384.gy ++ [0] ++ List.replicate 96 0
/-- A debug certificate of the Acdon key in slot 0 for serial 0, with SCOPE `sc`. -/
def cert (sc : Nat) : Bytes := record [(4, 0x43444A46), (2, 1), (1, 0), (1, 0), (4, 0x08800001), (1, 1), (3, 0), (8, 0)] ++ List.replicate 128 0 ++ record [(2, sc), (2, 0), (4, 0), (4, 9)] ++ List.replicate 292 0
/-- A package header with one element, Halyard's firmware at 8192. -/
def package : Bytes := record [(4, 0x50554A46), (2, 1), (2, 0), (4, 0x08800001), (4, 7), (1, 0), (1, 0), (1, 1), (1, 0), (4, 12288)] ++ List.replicate 232 0
  ++ record [(2, 0x0010), (1, 0), (1, 0), (4, 1), (4, 8192), (4, 100), (4, 0), (4, 0)] ++ List.replicate 3816 0
/-- The same state with that header received by session 7. -/
def receiving (l : List (Nat × Nat)) : State := ((srv 0 0 ([(Obj.acdonSlot, 0), (Obj.updState, 1), (Reg.updSession, 8)] ++ l)).setFifo Fifo.updHeader [package]).setFifo Fifo.updBody [[]]
/-- Session 7, of class HAL, ready to submit operation `op` with an input, slot 9 holding a key of a kind and usage. -/
def crypt (kind usage : Nat) (input : Bytes) : State := srv 0 0 [(skey 7 Obj.cryptoInput, encDomain input), (skey 7 Obj.cryptoSlot, 9), (Obj.slotState 9, 1), (Obj.slotKind 9, kind),
  (Obj.slotUsage 9, usage), (Obj.slotHolder 9, 0)]
/-- A wrapped key: 14 bytes of header and nonce, 32 bytes 7 enciphered by AES-256-GCM under a key and nonce of zeros, and their tag. -/
def wrapped : Bytes := List.replicate 14 0 ++ [0xC9, 0xA0, 0x47, 0x3A, 0x4A, 0x67, 0x6C, 0x69, 0x00, 0x49, 0xC2, 0xD4, 0xBD, 0xF4, 0x9A, 0x1F, 0x75, 0x67, 0x04, 0xCD, 0x30, 0xA1, 0x2D, 0x73, 0xD6, 0xA5, 0xF2, 0x89, 0x72, 0x01, 0x32, 0x89, 0x78, 0xC3, 0x53, 0xA3, 0xCF, 0x2F, 0xED, 0x9D, 0x20, 0x50, 0x32, 0x97, 0xE2, 0xE4, 0xE7, 0x1F]
/-- The manager of a hoist, link 3 to a worker up. -/
def mgr (l : List (Nat × Nat)) : State := svc ([(Obj.hoistRole, 1), (Obj.hoistState, 2), (Obj.hoistLinkState 3, 3), (Obj.deviceId, 0)] ++ l)

/-- The premises of `Obligations.StepRunsFront`, clause by clause. -/
theorem witness_StepRunsFront : ({ rg [] with pending := [.sha256 7] }).pending = .sha256 7 :: [] := by decide +kernel

/-- The premises of `Obligations.IdleStepPassesTime`, clause by clause. -/
theorem witness_IdleStepPassesTime_1 : (rg []).pending = [] ∧ (rg []).reg Reg.slewLeft = 0 := by decide +kernel
theorem witness_IdleStepPassesTime_2 : ({ rg [(Reg.slewLeft, 5), (Reg.slewEvery, 2000)] with pending := [] }).pending = [] := by decide +kernel

/-- The premises of `Obligations.NothingRunsWhileDown`, clause by clause. -/
theorem witness_NothingRunsWhileDown : ∀ x ∈ [0, 1, 5, 7], (rg [(Obj.powerState, x)]).up = false ∧ Standing (.sha256 7) = false := by decide +kernel

/-- The premises of `Obligations.SessionsOpen`, clause by clause. -/
theorem witness_SessionsOpen_1 : (svc []).accepts = true ∧ (svc []).sessionRoom 2 0 = true ∧ ((svc []).reg (Obj.instState 31) ≠ 0 ∨ (2 : Nat) = 2) := by decide +kernel
theorem witness_SessionsOpen_2 : let s := svc [(Obj.instState 31, 1)]; s.accepts = true ∧ s.sessionRoom 5 31 = true ∧ s.reg (Obj.instState 31) ≠ 0 := by decide +kernel
theorem witness_SessionsOpen_3 : let s := svc [(Obj.instState 31, 1), (Reg.nextSession, 7), (Reg.sessOpen 7, 1), (Reg.sessTransport 7, 5), (Reg.sessPort 7, 31)]; s.accepts = true ∧ s.sessionRoom 5 31 = false ∧ s.reg (Obj.instState 31) ≠ 0 := by decide +kernel
theorem witness_SessionsOpen_4 : let s := svc [(Reg.sessOpen 6, 1)]; s.accepts = true ∧ s.reg (Reg.blockHolder (U.can 3)) = 0 ∧ s.reg (Reg.sessOpen (3 + 3)) = 1 := by decide +kernel
theorem witness_SessionsOpen_5 : (svc [(Obj.ownerSlot, 2)]).accepts = true ∧ (svc [(Obj.ownerSlot, 2)]).reg Reg.identityLost ≠ 1 ∧ (svc [(Obj.ownerSlot, 2)]).sessionRoom 3 0 = true ∧ (svc [(Obj.ownerSlot, 2)]).reg Obj.ownerSlot ≠ 0xFF := by decide +kernel
theorem witness_SessionsOpen_6 : let s := svc ((Reg.nextSession, 14) :: (List.range 8).flatMap (fun k => [(Reg.sessOpen (7 + k), 1), (Reg.sessTransport (7 + k), 3)])); s.accepts = true ∧ s.reg Reg.identityLost ≠ 1 ∧ s.sessionRoom 3 0 = false := by decide +kernel
theorem witness_SessionsOpen_7 : let s := svc [(Obj.hoistLinkState 3, 3)]; s.accepts = true ∧ s.sessionRoom 6 3 = true ∧ 3 ≤ s.reg (Obj.hoistLinkState 3) := by decide +kernel
theorem witness_SessionsOpen_8 : let s := svc [(Obj.timeSource, 1)]; s.accepts = true ∧ s.reg Reg.identityLost ≠ 1 ∧ s.sessionRoom 3 0 = true ∧ s.reg Obj.timeSource = 1 := by decide +kernel
theorem witness_SessionsOpen_9 : let s := svc [(Reg.identityLost, 1)]; s.accepts = true ∧ s.reg Reg.identityLost = 1 := by decide +kernel
theorem witness_SessionsOpen_10 : (rg [(Obj.powerState, 7)]).reg Obj.powerState = 7 ∧ (svc []).reg Obj.powerState ≠ 7 := by decide +kernel

/-- The premises of `Obligations.SessionsEnd`, clause by clause. -/
theorem witness_SessionsEnd_1 : (srv 2 4 []).reg (Reg.sessOpen 7) = 1 ∧ 2 ≤ (srv 2 4 []).reg (Reg.sessTransport 7) ∧ (srv 2 4 []).reg (Reg.sessDeadline 7) ≤ (srv 2 4 []).now := by decide +kernel
theorem witness_SessionsEnd_2 : let s := srv 3 4 [(Reg.sessPending 7, 1)]; s.reg (Reg.sessOpen 7) = 1 ∧ s.reg (Reg.sessPending 7) = 1 ∧ s.reg (Reg.sessDeadline 7) ≤ s.now := by decide +kernel
theorem witness_SessionsEnd_3 : let s := { srv 3 5 [(Reg.certRef 7, 1)] with now := 3600000000000 }; s.reg (Reg.sessOpen 7) = 1 ∧ s.reg (Reg.certRef 7) ≠ 0xFF ∧ s.reg (Reg.certUntil 7) < s.hoursNow := by decide +kernel
theorem witness_SessionsEnd_4 : (srv 2 4 [(Reg.sessDeadline 7, 1)]).now < (srv 2 4 [(Reg.sessDeadline 7, 1)]).reg (Reg.sessDeadline 7) := by decide +kernel
theorem witness_SessionsEnd_5 : let s := svc [(Reg.sessOpen 7, 1), (Reg.sessTransport 7, 2)]; s.reg (Reg.sessOpen 7) = 1 ∧ 2 ≤ s.reg (Reg.sessTransport 7) ∧ s.reg (Reg.sessDeadline 7) ≤ s.now := by decide +kernel
theorem witness_SessionsEnd_6 : let s := svc [(Reg.sessOpen 7, 1), (Reg.sessPending 7, 1)]; s.reg (Reg.sessOpen 7) = 1 ∧ s.reg (Reg.sessPending 7) = 1 ∧ s.reg (Reg.sessDeadline 7) ≤ s.now := by decide +kernel
theorem witness_SessionsEnd_7 : let s := (svc [(Reg.sessOpen 7, 1), (Reg.certRef 7, 0), (Reg.certUntil 7, 0), (Obj.hoursInService, 1)]); s.reg (Reg.sessOpen 7) = 1 ∧ s.reg (Reg.certRef 7) ≠ 0xFF ∧ s.reg (Reg.certUntil 7) < s.hoursNow := by decide +kernel
theorem witness_SessionsEnd_8 : let s := srv 3 5 []; Serves s 7 ∧ (s.heard 7).reg (Reg.sessPending 7) = 0 := by decide +kernel
theorem witness_SessionsEnd_9 : let s := srv 3 5 [(Reg.sessPending 7, 1), (Obj.acdonSlot, 0), (Obj.lifecycleState, 2)]; Serves s 7 ∧ (s.heard 7).reg (Reg.sessPending 7) ≠ 0 ∧ (cert 1).length = 456 ∧ (s.heard 7).certStatus (cert 1) true true (Cert.holderKey (cert 1) == (s.heard 7).reg (Reg.sessKey 7)) = St.ok ∧ (s.heard 7).certStatus (cert 1) false true (Cert.holderKey (cert 1) == (s.heard 7).reg (Reg.sessKey 7)) ≠ St.ok := by decide +kernel
theorem witness_SessionsEnd_10 : let s := svc [(Obj.acdonSlot, 0), (Obj.lifecycleState, 2)]; s.accepts = true ∧ s.certStatus (cert 1) true true true = St.ok ∧ bit (Cert.scope (cert 1)) 0 = true ∧ s.certStatus (cert 2) true true true = St.ok ∧ bit (Cert.scope (cert 2)) 0 = false ∧ s.certStatus (cert 1) true true false ≠ St.ok := by decide +kernel
theorem witness_SessionsEnd_11 : let s := srv 3 2 [(Obj.lifecycleState, 3)]; Serves s 7 ∧ (s.heard 7).reg (Reg.sessClass 7) ≠ Cls.dbg ∧ (s.heard 7).reg Obj.lifecycleState ≠ 0 := by decide +kernel
theorem witness_SessionsEnd_12 : ∀ x ∈ [1, 2], let s := srv 3 Cls.dbg [(Obj.lifecycleState, 3), (Reg.certScope 7, x)]; Serves s 7 ∧ (s.heard 7).reg (Reg.sessClass 7) = Cls.dbg ∧ bit ((s.heard 7).reg (Reg.certScope 7)) 1 = (x == 2) ∧ (s.heard 7).reg Obj.lifecycleState ≠ 0 := by decide +kernel
theorem witness_SessionsEnd_13 : let s := rg [(Obj.powerState, 7), (Obj.acdonSlot, 0), (Obj.lifecycleState, 2)]; s.reg Obj.powerState = 7 ∧ s.certStatus (cert 8) true true true = St.ok ∧ bit (Cert.scope (cert 8)) 3 = true ∧ s.certStatus (cert 8) false true true ≠ St.ok ∧ (s.headerStatus ((package.drop 1).take 4096) true true).1 ≠ St.ok := by decide +kernel

/-- The premises of `Obligations.PathQuery`, clause by clause. -/
theorem witness_PathQuery_1 : let v : Bytes := [0x2F, 0x66, 0x6A]; Numbered (srv 3 2 []) 7 ∧ Takes (srv 3 2 []) 7 Obj.queryPath v ∧ pathWellFormed (v.map BitVec.toNat) = true ∧ ((srv 3 2 []).heard 7).pathUnit (v.map BitVec.toNat) = some 0 := by decide +kernel
theorem witness_PathQuery_2 : let v : Bytes := [0x2F, 0x7A]; Takes (srv 3 2 []) 7 Obj.queryPath v ∧ pathWellFormed (v.map BitVec.toNat) = true ∧ ((srv 3 2 []).heard 7).pathUnit (v.map BitVec.toNat) = none := by decide +kernel
theorem witness_PathQuery_3 : let v : Bytes := [0x7A]; Takes (srv 3 2 []) 7 Obj.queryPath v ∧ pathWellFormed (v.map BitVec.toNat) = false := by decide +kernel
theorem witness_PathQuery_4 : Numbered (srv 3 2 []) 7 ∧ Passes (srv 3 2 []) 7 Obj.queryPath ∧ 48 < (List.replicate 49 (0x2F : Byte)).length := by decide +kernel

/-- The premises of `Obligations.Records`, clause by clause. -/
theorem witness_Records_1 : (List.range 5).all (fun k => decide (FirstSeen (srv 3 2 []) 7 (rc (k + 1)) (k + 1) 1024)) = true ∧ Dict.keeps (srv 3 2 []) 7 = true ∧ ((srv 3 2 []).heard 7).reg (Reg.sessPending 7) = 0 := by decide +kernel
theorem witness_Records_2 : FirstSeen (srv 5 3 [(Reg.sessPort 7, 31)]) 7 (rc 1) 1 0 ∧ Dict.keeps (srv 5 3 [(Reg.sessPort 7, 31)]) 7 = false := by decide +kernel
theorem witness_Records_3 : let s := svc [(Reg.partKey 7, 5)]; s.up = true ∧ s.reg (Reg.partKey 7) ≠ 0 ∧ s.reg (Reg.partDeadline 7) ≤ s.now := by decide +kernel
theorem witness_Records_4 : Serves (srv 3 2 []) 7 := by decide +kernel
theorem witness_Records_5 : let s := { srv 3 2 [] with kept := [(7, [⟨9, 0, ⟨0, []⟩⟩])] }; Serves s 7 ∧ Dict.inOrder s 7 (rc 1) = true ∧ Dict.keeps s 7 = true ∧ Dict.datagramOk (rc 1) = true ∧ (Kmap.get [] s.kept 7).find? (fun k => k.seq == (rc 1).seq && k.pos == (rc 1).pos) = some ⟨9, 0, ⟨0, []⟩⟩ := by decide +kernel

/-- The premises of `Obligations.CommitsAndInstants`, clause by clause. -/
theorem witness_CommitsAndInstants_1 : Numbered (srv 3 2 []) 7 ∧ Takes (srv 3 2 []) 7 Obj.commitOp [1] ∧ Takes (srv 3 2 []) 7 Obj.commitOp [2] ∧ Takes (srv 3 2 []) 7 Obj.commitOp [3] := by decide +kernel
theorem witness_CommitsAndInstants_2 : (svc []).up = true ∧ (svc []).unitThere (U.head 0) = true ∧ (svc []).sourceOf (U.head 0) ≠ 0 ∧ (svc []).reg (Reg.portReset (U.head 0)) ≠ 1 := by decide +kernel
theorem witness_CommitsAndInstants_3 : let s := svc [(Reg.pendAt (U.head 0), 1), (Reg.pendEpoch (U.head 0), 1), (Obj.hoistRole, 1), (Obj.timeLocked, 0)]; { s with now := 1 }.up = true ∧ s.reg (Reg.pendAt (U.head 0)) ≠ 0 ∧ s.reg (Reg.pendAt (U.head 0)) ≤ { s with now := 1 }.now ∧ { s with now := 1 }.lockedAt (U.head 0) = false ∧ s.reg (Reg.pendEpoch (U.head 0)) ≠ 0 := by decide +kernel
theorem witness_CommitsAndInstants_4 : let s := svc [(Reg.holder (U.head 0), 8)]; s.up = true ∧ s.reg (Reg.holder (U.head 0)) ≠ 0 ∧ s.reg (Reg.holdDeadline (U.head 0)) ≤ s.now := by decide +kernel
theorem witness_CommitsAndInstants_5 : (svc []).up = true ∧ (svc []).reg (Reg.authLockUntil 0) ≤ (svc []).now := by decide +kernel

/-- The premises of `Obligations.RefusedCommitChangesNothing`, clause by clause. -/
theorem witness_RefusedCommitChangesNothing : ((srv 3 2 []).commitCheck 7 0xFFFE 0).1 ≠ St.ok := by decide +kernel

/-- The premises of `Obligations.EnvelopesAndWindows`, clause by clause. -/
theorem witness_EnvelopesAndWindows_1 : let v : Bytes := List.replicate 32 0; Takes (srv 3 2 []) 7 Obj.authEnvelope v ∧ Dict.malformed v = true := by decide +kernel
theorem witness_EnvelopesAndWindows_2 : let s := srv 3 2 []; Serves s 7 ∧ (s.heard 7).reg (Reg.sessPending 7) ≠ 1 ∧ Dict.mapped (s.heard 7) 7 0 = false := by decide +kernel
theorem witness_EnvelopesAndWindows_3 : let s := srv 3 2 [(skey 7 (Obj.targetDevice 7), 0xFF), (skey 7 (Obj.targetIndex 7), 0x600)]; Serves s 7 ∧ (s.heard 7).reg (Reg.sessPending 7) ≠ 1 ∧ Dict.mapped (s.heard 7) 7 7 = true ∧ Dict.windowLocal (s.heard 7) 7 7 = true ∧ Dict.table ((s.heard 7).reg (skey 7 (Obj.targetIndex 7))) = none ∧ (s.heard 7).reg (skey 7 (Obj.targetIndex 7)) < 0xF000 := by decide +kernel
theorem witness_EnvelopesAndWindows_4 : let s := srv 3 2 []; Serves s 7 ∧ (s.heard 7).reg (Reg.sessPending 7) ≠ 1 ∧ (s.heard 7).gate 7 Obj.ownerEvData .r = St.ok := by decide +kernel
theorem witness_EnvelopesAndWindows_5 : Takes (srv 3 2 []) 7 Obj.ownerEvPush [1] ∧ (srv 3 2 []).reg (Reg.sessTransport 7) = 3 := by decide +kernel
theorem witness_EnvelopesAndWindows_6 : Numbered (srv 4 2 []) 7 ∧ Takes (srv 4 2 []) 7 Obj.ownerEvPush [1] ∧ (srv 4 2 []).reg (Reg.sessTransport 7) ≠ 2 ∧ (srv 4 2 []).reg (Reg.sessTransport 7) ≠ 3 ∧ leNat [1] = 1 := by decide +kernel
theorem witness_EnvelopesAndWindows_7 : let v : Bytes := (List.replicate 32 0).set 9 1; Dict.envOp v = 1 ∨ Dict.malformed v = true := by decide +kernel
theorem witness_EnvelopesAndWindows_8 : Takes (srv 3 2 []) 7 Obj.ownerEvPush [0] ∧ leNat [0] ≠ 1 := by decide +kernel

/-- The premises of `Obligations.FreshnessIsTheNext`, clause by clause. -/
theorem witness_FreshnessIsTheNext : Dict.full (List.replicate 16 0) = false ∧ Dict.freshness 0xFFFF (List.replicate 16 0) = 0x10000 := by decide +kernel

/-- The premises of `Obligations.UsdoTransfers`, clause by clause. -/
theorem witness_UsdoTransfers_1 : let s := svc [(Reg.sessOpen 6, 1)]; s.reg Obj.powerState = 3 ∧ s.reg (Reg.blockHolder (U.can 3)) = 0 ∧ s.reg (Reg.sessOpen (3 + 3)) ≠ 0 ∧ s.reg Reg.halServing ≠ 0 ∧ s.reg (Reg.usdoBusy 3) ≠ 1 := by decide +kernel
theorem witness_UsdoTransfers_2 : let s := svc [(Reg.sessOpen 6, 1), (Reg.usdoBusy 3, 1)]; s.reg Obj.powerState = 3 ∧ s.reg (Reg.blockHolder (U.can 3)) = 0 ∧ s.reg (Reg.sessOpen (3 + 3)) ≠ 0 ∧ s.reg Reg.halServing ≠ 0 ∧ s.reg (Reg.usdoBusy 3) = 1 ∧ s.reg (Reg.partDeadline (3 + 3)) ≤ s.now := by decide +kernel
theorem witness_UsdoTransfers_3 : let s := rg [(Obj.powerState, 4)]; s.reg Obj.powerState = 4 ∧ s.reg (Reg.blockHolder (U.can 3)) = 0 ∧ s.reg Reg.halServing = 0 := by decide +kernel

/-- The premises of `Obligations.NodeObjects`, clause by clause. -/
theorem witness_NodeObjects_1 : let s := { svc [(Reg.nodeHbDue 3, 1)] with now := 1 }; s.up = true ∧ s.nodeRuns 3 = true ∧ s.reg (Reg.nodeHbDue 3) ≠ 0 ∧ s.reg (Reg.nodeHbDue 3) ≤ s.now := by decide +kernel
theorem witness_NodeObjects_2 : let s := svc [(Obj.hbConsumer 3 7, 0x20001)]; s.up = true ∧ s.nodeRuns 3 = true ∧ (s.hbNode 3 7).2 ≠ 0 ∧ (s.hbNode 3 7).1 = 2 ∧ s.reg (Reg.hbLost 3 7) ≠ 1 ∧ s.reg (Reg.hbDue 3 7) ≤ s.now := by decide +kernel
theorem witness_NodeObjects_3 : let s := svc [(Obj.rxLength 3 31, 1)]; ([] : Bytes).length ≠ s.reg (Obj.rxLength 3 31) ∧ ([0] : Bytes).length = s.reg (Obj.rxLength 3 31) ∧ (Push.checked s 3 31 [0]).2 = true := by decide +kernel
theorem witness_NodeObjects_4 : let s := svc [(Obj.hbConsumer 3 7, 0x20001), (Reg.hbLost 3 7, 1)]; s.up = true ∧ s.nodeRuns 3 = true ∧ (s.hbNode 3 7).2 ≠ 0 ∧ s.reg (Reg.hbDue 3 7) ≤ s.now ∧ s.reg (Reg.hbLost 3 7) = 1 := by decide +kernel
theorem witness_NodeObjects_5 : let s := svc [(Obj.rxCobId 3 31, 0x181), (Obj.staleMs 3 31, 5)]; s.up = true ∧ s.nodeRuns 3 = true ∧ bit (s.reg (Obj.rxCobId 3 31)) 31 = false ∧ s.reg (Obj.staleMs 3 31) ≠ 0 ∧ s.reg (Reg.rxStale 3 31) ≠ 1 ∧ s.reg (Reg.rxStaleDue 3 31) ≤ s.now ∧ s.reg (Obj.checkUnit 3 31) = 0xFFFF := by decide +kernel
theorem witness_NodeObjects_6 : let s := svc [(Obj.txCobId 3 7, 0x181), (Obj.txSource 3 7, 0x03000100), (Reg.txSent 3 7, 5)]; s.up = true ∧ s.nodeRuns 3 = true ∧ bit (s.reg (Obj.txCobId 3 7)) 31 = false ∧ (Dict.pushValue s 3 7).any (fun y => Push.due s 3 7 y.1) = true := by decide +kernel

/-- The premises of `Obligations.FieldPorts`, clause by clause. -/
theorem witness_FieldPorts_1 : Takes (srv 5 3 [(Reg.sessWorld 7, 4), (Reg.blockHolder (U.can 3), 4), (Reg.blockState (U.can 3), 0)]) 7 (okey (0x7C40 + 0x80 * 3) 4) [1] := by decide +kernel
theorem witness_FieldPorts_2 : Takes (srv 5 3 [(Reg.sessWorld 7, 4), (Reg.blockHolder (U.can 3), 4), (Reg.blockState (U.can 3), 0)]) 7 (Obj.rawTx 3) (List.replicate 80 0) ∧ (List.replicate 80 (0 : Byte)).length % 80 = 0 := by decide +kernel
theorem witness_FieldPorts_3 : let s := srv 5 3 [(Reg.sessWorld 7, 4), (Reg.blockHolder (U.can 3), 4), (Reg.blockState (U.can 3), 0)]; Serves s 7 ∧ (s.heard 7).reg (Reg.sessPending 7) ≠ 1 ∧ (s.heard 7).gate 7 (Obj.rawRx 3) .r = St.ok := by decide +kernel
theorem witness_FieldPorts_4 : let s := (svc [(Reg.blockHolder (U.can 3), 4), (Reg.blockState (U.can 3), 0)]).setFifo (Fifo.rawTx 3) [[0]]; s.up = true ∧ s.inService = true ∧ s.reg (Reg.blockHolder (U.can 3)) ≠ 0 ∧ s.reg (Reg.blockState (U.can 3)) ≤ 2 ∧ s.rawSending 3 = true ∧ s.fifo (Fifo.rawTx 3) = [0] :: [] := by decide +kernel
theorem witness_FieldPorts_5 : let s := svc [(Reg.blockHolder (U.can 3), 4), (Reg.blockState (U.can 3), 0)]; s.up = true ∧ s.inService = true ∧ s.rawServes 3 = true ∧ s.reg (Obj.rawState 3) ≠ 2 ∧ s.reg (Obj.rawMode 3) ≠ 1 ∧ Can.txBad (Can.rec' s.now 5 0 1 [0]) = false ∧ s.reg (Obj.rawRec 3) < 128 := by decide +kernel
theorem witness_FieldPorts_6 : (svc [(Obj.rawState 3, 2)]).up = true ∧ (svc [(Obj.rawState 3, 2)]).reg (Obj.rawState 3) = 2 := by decide +kernel
theorem witness_FieldPorts_7 : let s := svc [(Obj.usbPortState 1, 1)]; s.up = true ∧ Usb.on s 1 = true ∧ Can.usbFind s 1 127 = none ∧ (List.range 8).find? (fun j => s.reg (Obj.usbDevice 1 j) == 0) = some 0 := by decide +kernel
theorem witness_FieldPorts_8 : let s := svc [(Obj.usbPortState 1, 3), (Obj.usbDevice 1 7, 0x37F)]; s.up = true ∧ Usb.on s 1 = true ∧ Can.usbFind s 1 127 = some 7 ∧ Can.usbClass s 1 7 = 3 ∧ (s.fifo (Fifo.hid 1)).length < 64 := by decide +kernel
theorem witness_FieldPorts_9 : let s := (svc [(Obj.usbPortState 1, 3), (Obj.usbDevice 1 7, 0x37F)]).setFifo (Fifo.hid 1) (List.replicate 64 []); s.up = true ∧ Usb.on s 1 = true ∧ Can.usbFind s 1 127 = some 7 ∧ Can.usbClass s 1 7 = 3 ∧ 64 ≤ (s.fifo (Fifo.hid 1)).length ∧ s.fifo (Fifo.hid 1) ≠ [] := by decide +kernel
theorem witness_FieldPorts_10 : let s := srv 5 3 [(Reg.sessWorld 7, 4), (Reg.blockHolder (U.usbHost 1), 4), (Reg.blockState (U.usbHost 1), 0)]; Serves s 7 ∧ (s.heard 7).reg (Reg.sessPending 7) ≠ 1 ∧ (s.heard 7).gate 7 (Obj.hidIn 1) .r = St.ok := by decide +kernel
theorem witness_FieldPorts_11 : let s := srv 5 3 [(Reg.sessWorld 7, 4), (Reg.blockHolder (U.usbHost 1), 4), (Reg.blockState (U.usbHost 1), 0)]; Takes s 7 (Obj.hidOut 1) [127, 0, 0, 0] ∧ Can.usbFind (s.heard 7) 1 (bytesAt [127, 0, 0, 0] 0 1) = none := by decide +kernel
theorem witness_FieldPorts_12 : let s := srv 5 3 [(Reg.sessWorld 7, 4), (Reg.blockHolder (U.usbHost 1), 4), (Reg.blockState (U.usbHost 1), 0), (Obj.usbPortState 1, 3), (Obj.usbDevice 1 7, 0x37F)]; Takes s 7 (Obj.hidOut 1) [127, 0, 0, 0] ∧ Can.usbFind (s.heard 7) 1 (bytesAt [127, 0, 0, 0] 0 1) = some 7 ∧ 4 + bytesAt [127, 0, 0, 0] 2 1 ≤ 4 ∧ bytesAt [127, 0, 0, 0] 2 1 ≤ (s.heard 7).reg (Reg.usbOutLen 1 7) ∧ Can.usbClass (s.heard 7) 1 7 = 3 ∧ (s.heard 7).reg (Obj.usbPortState 1) = 3 := by decide +kernel
theorem witness_FieldPorts_13 : Takes (srv 5 3 [(Reg.sessWorld 7, 4), (Reg.blockHolder (U.usbHost 1), 4), (Reg.blockState (U.usbHost 1), 0)]) 7 (Obj.usbPortOp 1) [1] := by decide +kernel

/-- The premises of `Obligations.PlannerAndPorts`, clause by clause. -/
theorem witness_PlannerAndPorts_1 : (svc []).up = true ∧ (svc []).now % 4000000 = 0 ∧ { svc [] with now := 1 }.now % 4000000 ≠ 0 := by decide +kernel
theorem witness_PlannerAndPorts_2 : let s := { svc [(Reg.shedUntil, 1)] with now := 1 }; s.up = true ∧ s.reg Reg.planDead ≠ 1 ∧ s.reg Reg.shedUntil ≠ 0 ∧ s.reg Reg.shedUntil ≤ s.now := by decide +kernel
theorem witness_PlannerAndPorts_3 : let s := svc [(Obj.voltageMv 3, 700), (Obj.voltMaxMv 3, 701), (Reg.targetRate 3, 1)]; s.up = true ∧ s.reg Reg.planDead ≠ 1 ∧ 3 ≤ 3 ∧ s.reg (Obj.voltageMv 3) < s.reg (Obj.voltMaxMv 3) ∧ s.reg (Reg.raiseLast 3) = 0 ∧ s.raiseDue 3 [] 0 = true ∧ (svc []).raiseDue 3 [] 0 = false := by decide +kernel
theorem witness_PlannerAndPorts_4 : let s := { svc [(Reg.raiseLast 3, 1)] with now := 99999 }; s.up = true ∧ s.reg (Reg.raiseLast 3) ≠ 0 ∧ s.now < s.reg (Reg.raiseLast 3) - 1 + 100000 := by decide +kernel
theorem witness_PlannerAndPorts_5 : let s := { svc [] with now := 12000000 }; s.up = true ∧ s.reg Reg.planDead ≠ 1 ∧ s.reg Reg.pmPlanTime + 12000000 ≤ s.now ∧ (svc []).now < (svc []).reg Reg.pmPlanTime + 12000000 := by decide +kernel
theorem witness_PlannerAndPorts_6 : (svc []).up = true ∧ (1150 : Int) < 1151 ∧ ((svc []).setReg Obj.junctionTemp (ofSigned 2 1151)).reg Reg.thermalAbove ≠ 1 := by decide +kernel
theorem witness_PlannerAndPorts_7 : (svc []).up = true ∧ (svc []).unitThere U.aud = true ∧ (svc []).reg (Reg.portReset U.aud) ≠ 1 ∧ (svc [(Reg.portReset U.aud, 1)]).reg (Reg.portReset U.aud) ≠ 0 := by decide +kernel
theorem witness_PlannerAndPorts_8 : (svc []).up = true ∧ (svc []).serviceSince Reg.ageTime 600000000000 = false ∧ (svc []).serviceSince Reg.forecastTime 86400000000000 = false := by decide +kernel
theorem witness_PlannerAndPorts_9 : let s := { svc [] with now := 86400000000000 }; s.up = true ∧ s.serviceSince Reg.ageTime 600000000000 = true ∧ s.serviceSince Reg.forecastTime 86400000000000 = true := by decide +kernel

/-- The premises of `Obligations.HandOverAndConsent`, clause by clause. -/
theorem witness_HandOverAndConsent_1 : Numbered (srv 0 0 []) 7 ∧ Takes (srv 0 0 []) 7 Obj.hoOp [1] ∧ Takes (srv 0 0 []) 7 Obj.hoOp [2] := by decide +kernel
theorem witness_HandOverAndConsent_2 : let s := gw [(Reg.blockHolder (U.can 3), 4), (Reg.blockState (U.can 3), 1)]; s.up = true ∧ s.reg (Obj.instState 31) ≠ 0 ∧ s.inService = true ∧ InOrder s 31 ⟨0, 0⟩ ∧ (arrived s 31 ⟨0, 0⟩).reg (Reg.mbBusy 31) ≠ 1 ∧ isBlock (U.can 3) = true ∧ s.reg (Reg.blockHolder (U.can 3)) = s.instWorld 31 ∧ s.reg (Reg.blockState (U.can 3)) = 1 ∧ isBlock U.fj = false ∧ s.reg (Reg.blockHolder (U.can 2)) ≠ s.instWorld 31 ∧ s.reg (Reg.blockDue (U.can 3)) ≤ s.now := by decide +kernel
theorem witness_HandOverAndConsent_3 : let s := svc [(Reg.blockState (U.can 3), 2)]; s.up = true ∧ isBlock (U.can 3) = true ∧ s.reg (Reg.blockState (U.can 3)) = 2 ∧ s.reg (Reg.blockDue (U.can 3)) ≤ s.now := by decide +kernel
theorem witness_HandOverAndConsent_4 : let s := svc [(Reg.blockState (U.can 3), 5)]; s.up = true ∧ isBlock (U.can 3) = true ∧ s.reg (Reg.blockState (U.can 3)) = 5 ∧ s.reg (Reg.unitState (U.can 3)) ≠ 5 := by decide +kernel
theorem witness_HandOverAndConsent_5 : let s := svc [(Reg.blockTo (U.can 3), 5), (Obj.worldState 4, 2)]; s.up = true ∧ isBlock (U.can 3) = true ∧ s.reg (Reg.blockTo (U.can 3)) ≠ 0 ∧ s.reg (Reg.blockState (U.can 3)) = 6 ∧ s.hpdWaited (U.can 3) = true ∧ s.reg (Obj.worldState (s.reg (Reg.blockTo (U.can 3)) - 1)) = 2 := by decide +kernel
theorem witness_HandOverAndConsent_6 : let s := svc [(Reg.blockTo (U.can 3), 64)]; s.up = true ∧ isBlock (U.can 3) = true ∧ s.reg (Reg.blockTo (U.can 3)) ≠ 0 ∧ s.reg (Reg.blockState (U.can 3)) = 6 ∧ s.hpdWaited (U.can 3) = true ∧ s.reg (Obj.worldState (s.reg (Reg.blockTo (U.can 3)) - 1)) ≠ 2 := by decide +kernel
theorem witness_HandOverAndConsent_7 : leNat [0] = 0 ∧ leNat [1] ≠ 0 ∧ 4 ≤ 63 ∧ Takes (srv 5 3 [(Reg.sessWorld 7, 63)]) 7 (Obj.debugConsent 63) [0] ∧ Takes (srv 5 3 [(Reg.sessWorld 7, 63)]) 7 (Obj.debugConsent 63) [1] := by decide +kernel
theorem witness_HandOverAndConsent_8 : (svc [(Reg.invalPending 63, 1)]).up = true ∧ (svc [(Reg.invalPending 63, 1)]).reg (Reg.invalPending 63) ≠ 0 := by decide +kernel

/-- The premises of `Obligations.DoorbellsAndTransport`, clause by clause. -/
theorem witness_DoorbellsAndTransport_1 : let s := gw []; s.up = true ∧ s.reg (Obj.instState 31) ≠ 0 ∧ s.reg (Obj.instState 31) < 4 ∧ s.inService = true ∧ InOrder s 31 ⟨0, 0⟩ ∧ s.reg (Reg.ringState 31 7) = 0 := by decide +kernel
theorem witness_DoorbellsAndTransport_2 : let s := gw [(Obj.instState 47, 1), (Reg.remoteOn 47, 1), (Reg.eqExists 47, 1)]; s.up = true ∧ s.reg (Obj.instState 47) = 1 ∧ s.inService = true ∧ InOrder s 47 ⟨1, 0⟩ ∧ ((arrived s 47 ⟨1, 0⟩).setReg (Reg.doorbellLast 47 7) 5).reg (Reg.ringState 47 7) = 0 ∧ ((arrived s 47 ⟨1, 0⟩).setReg (Reg.doorbellLast 47 8) 5).reg (Reg.eqExists 47) ≠ 0 := by decide +kernel
theorem witness_DoorbellsAndTransport_3 : let s := gw [(Reg.ringState 31 7, 3)]; s.up = true ∧ s.reg (Obj.instState 31) = 1 ∧ s.inService = true ∧ s.reg (Reg.ringState 31 7) = 3 := by decide +kernel
theorem witness_DoorbellsAndTransport_4 : let s := gw [(Reg.ringState 31 7, 1), (Reg.ringLog2 31 7, 12)]; s.inService = true ∧ s.reg (Reg.ringState 31 7) = 1 ∧ 2 ^ s.reg (Reg.ringLog2 31 7) / 4 < (0x401 % 2 ^ 32 + 2 ^ 32 - s.reg (Reg.ringRptr 31 7)) % 2 ^ 32 ∧ ¬ 2 ^ s.reg (Reg.ringLog2 31 7) / 4 < (0x400 % 2 ^ 32 + 2 ^ 32 - s.reg (Reg.ringRptr 31 7)) % 2 ^ 32 := by decide +kernel
theorem witness_DoorbellsAndTransport_5 : let s := gw [(Reg.ringState 31 7, 4), (Reg.ringLog2 31 7, 12), (Obj.instState 31, 3)]; s.inService = true ∧ s.reg (Obj.instState 31) ≠ 1 ∧ s.reg (Obj.instState 31) < 4 ∧ s.reg (Reg.ringState 31 7) = 4 := by decide +kernel
theorem witness_DoorbellsAndTransport_6 : let s := gw [(Reg.eqExists 31, 1), (Reg.eqIrqDue 31, 1)]; s.up = true ∧ (s.setReg (Reg.doorbellLast 31 8) 0).reg (Reg.eqExists 31) ≠ 0 ∧ s.reg (Reg.eqFull 31) = 0 ∧ s.reg (Reg.eqIrqDue 31) ≠ 0 := by decide +kernel
theorem witness_DoorbellsAndTransport_7 : let s := gw [(Reg.eqExists 31, 1), (Reg.eqFull 31, 1), (Reg.eqLog2 31, 6)]; let u := (s.setReg (Reg.doorbellLast 31 8) 0).setReg (Reg.eqCons 31) 0; s.up = true ∧ (s.setReg (Reg.doorbellLast 31 8) 0).reg (Reg.eqExists 31) ≠ 0 ∧ u.reg (Reg.eqFull 31) ≠ 0 ∧ u.eqSpace 31 ≠ 0 := by decide +kernel
theorem witness_DoorbellsAndTransport_8 : let s := svc [(Obj.instState 47, 1), (Obj.instPeerCertHash 47, leNat (sha256 []))]; s.up = true ∧ s.inService = true ∧ s.reg Reg.identityLost ≠ 1 ∧ (List.range 48).find? (fun i => decide (32 ≤ i) && s.reg (Obj.instState i) != 0 && s.reg (Obj.instPeerCertHash i) == leNat (sha256 [])) = some 47 := by decide +kernel
theorem witness_DoorbellsAndTransport_9 : let s := svc [(Reg.remoteOn 47, 1)]; Linked s 47 ∧ (5 : Nat) ≠ 0 ∧ 5 ≠ s.reg (Reg.remoteRx 47) + 1 := by decide +kernel
theorem witness_DoorbellsAndTransport_10 : let s := { ((svc [(Reg.remoteOn 47, 1)]).setFifo (Fifo.unacked 47) [[1]]) with now := 20000000 }; s.up = true ∧ s.reg (Reg.remoteOn 47) ≠ 0 := by decide +kernel
theorem witness_DoorbellsAndTransport_11 : let s := { svc [(Reg.remoteOn 47, 1)] with now := 1000000000 }; s.up = true ∧ s.reg (Reg.remoteOn 47) ≠ 0 ∧ max (s.reg (Reg.remoteSent 47)) (s.reg (Reg.remoteLast 47)) + 100000000 ≤ s.now ∧ s.reg (Reg.remoteLast 47) + 1000000000 ≤ s.now := by decide +kernel
theorem witness_DoorbellsAndTransport_12 : let s := { svc [(Reg.remoteHold 47, 1)] with now := 1 }; s.up = true ∧ s.reg (Reg.remoteHold 47) ≠ 0 ∧ s.reg (Reg.remoteHold 47) ≤ s.now := by decide +kernel

/-- The premises of `Obligations.MailboxOperations`, clause by clause. -/
theorem witness_MailboxOperations_1 : Asks (gw []) 31 m0 ∧ (asked (gw []) 31 m0).reg (Reg.ringState 31 7) = 0 ∧ (asked (gw []) 31 m0).mapped ((asked (gw []) 31 m0).instWorld 31) ((asked (gw []) 31 m0).reg (Reg.s1Root 31 7)) 0 .read = true ∧ (asked (gw []) 31 m0).mapped 4 ((asked (gw []) 31 m0).reg (Reg.s1Root 31 7)) 0x200000 .read = false := by decide +kernel
theorem witness_MailboxOperations_2 : rendererRing 7 = true ∧ rendererRing 6 = false ∧ (asked (gw []) 31 m0).nextCtx = some 1 := by decide +kernel
theorem witness_MailboxOperations_3 : let s := gw [(Reg.ringState 31 7, 2), (Reg.ringWptr 31 7, 4)]; Asks s 31 m0 ∧ (asked s 31 m0).reg (Reg.ringState 31 7) = 2 ∧ (asked s 31 m0).ringWaiting 31 7 ≠ 0 := by decide +kernel
theorem witness_MailboxOperations_4 : let s := gw [(Reg.ringState 31 7, 1)]; Asks s 31 m0 ∧ (asked s 31 m0).reg (Reg.ringState 31 7) ≠ 0 ∧ (asked s 31 m0).ringWaiting 31 7 = 0 := by decide +kernel
theorem witness_MailboxOperations_5 : (asked (gw []) 31 m0).mapped ((asked (gw []) 31 m0).instWorld 31) ((asked (gw []) 31 m0).reg (Reg.s1Root 31 8)) 0 .write = true ∧ (asked (gw []) 31 m0).mapped 4 ((asked (gw []) 31 m0).reg (Reg.s1Root 31 8)) 0x200000 .write = false := by decide +kernel
theorem witness_MailboxOperations_6 : let u := asked (gw [(Obj.instRendererGrant 31, 5), (Obj.instBandwidthGrant 31, 5), (Obj.instTouchRateHz 31, 5)]) 31 m0; (0 ≤ u.reg (Obj.instRendererGrant 31) ∧ 0 ≤ u.reg (Obj.instBandwidthGrant 31) ∧ 0 ≤ u.reg (Obj.instTouchRateHz 31)) ∧ u.rendererAdmits 31 0 = true ∧ u.bulkAdmits 31 0 = true ∧ u.audioAdmits 31 0 = true ∧ ¬ 6 ≤ u.reg (Obj.instRendererGrant 31) := by decide +kernel
theorem witness_MailboxOperations_7 : let u := asked (gw [(Obj.instRendererGrant 31, 10000)]) 31 m0; 10000 ≤ u.reg (Obj.instRendererGrant 31) ∧ u.rendererAdmits 31 10000 = false := by decide +kernel
theorem witness_MailboxOperations_8 : let u := asked (gw []) 31 m0; u.memLimit 4 < 2 * (u.reg (Reg.memPages 4) + 1) ∧ 2 * (u.reg (Reg.memPages 4) + 0) ≤ u.memLimit 4 ∧ (1 : Nat) % frameBytes ≠ 0 ∧ 0 % frameBytes = 0 := by decide +kernel
theorem witness_MailboxOperations_9 : let u := asked (gw []) 31 m0; (List.range 0).all (fun k => u.slotEmpty 4 (0x200000 + k * frameBytes)) = true ∧ (u.mapMemory 4 0x200000 0).isSome = true := by decide +kernel
theorem witness_MailboxOperations_10 : let u := asked (gw [(Reg.memPages 4, 1)]) 31 m0; Asks (gw [(Reg.memPages 4, 1)]) 31 m0 ∧ u.instWorld 31 = 4 ∧ u.ownPagesAt 4 0 (512 * 1) = true ∧ (List.range 1).all (fun k => u.blockAt 4 (0 + k * frameBytes)) = true := by decide +kernel
theorem witness_MailboxOperations_11 : let s := { gw [] with exports := [⟨9, 4, 0, 1, 0xFF⟩] }; Asks s 31 m0 ∧ (asked s 31 m0).exportOf 9 = some ⟨9, 4, 0, 1, 0xFF⟩ ∧ (asked s 31 m0).exportOf 8 = none ∧ (asked s 31 m0).instWorld 31 = 4 := by decide +kernel
theorem witness_MailboxOperations_12 : let s := { gw [(Obj.worldState 5, 2), (Reg.worldRoot 5, 0x600000), (Reg.tblNext 5, 0x610000), (Reg.tblEnd 5, 0x7F0000), (Reg.frameMode 3, 2), (Obj.instWorld 31, 5)] with exports := [⟨9, 4, 0, 1, 5⟩] }; Asks s 31 m0 ∧ (asked s 31 m0).exportOf 9 = some ⟨9, 4, 0, 1, 5⟩ ∧ (asked s 31 m0).instWorld 31 = 5 ∧ (List.range 1).all (fun k => (asked s 31 m0).pageEmpty 5 (0x1000 + 4096 * k)) = true ∧ ((asked s 31 m0).mapView 5 0x1000 4 0 1).isSome = true := by decide +kernel
theorem witness_MailboxOperations_13 : let u := asked (gw []) 31 m0; u.gread 4 (u.reg (Reg.s1Root 31 8)) 0 4 = .ok [0, 0, 0, 0] ∧ (u.num (Num.pipes 4)).length < u.reg Obj.pipelinesPerWorld ∧ (u.num (Num.pipes 4)).contains 5 = false := by decide +kernel
theorem witness_MailboxOperations_14 : (((asked (gw []) 31 m0).setNum (Num.pipes 4) [5]).num (Num.pipes 4)).contains 5 = true ∧ Asks ((gw []).setNum (Num.pipes 4) [5]) 31 m0 := by decide +kernel
theorem witness_MailboxOperations_15 : let s := { gw [(Obj.instState 47, 1), (Obj.instWorld 47, 4), (Reg.remoteOn 47, 1), (Reg.ringState 47 7, 3), (Reg.ringWptr 47 7, 4)] with now := 0 }; Asks s 47 ⟨1, 0, ⟨1, 0⟩⟩ ∧ (asked s 47 ⟨1, 0, ⟨1, 0⟩⟩).reg (Reg.ringState 47 7) = 3 ∧ (asked s 47 ⟨1, 0, ⟨1, 0⟩⟩).ringWaiting 47 7 ≠ 0 := by decide +kernel
theorem witness_MailboxOperations_16 : let s := gw [(Obj.jnlNextSeq, 281474976710655)]; s.up = true ∧ s.reg (Obj.instState 31) = 1 ∧ s.inService = true ∧ s.reg (Reg.mbBusy 31) = 0 ∧ s.reg Reg.halServing = 1 ∧ InOrder s 31 m0.dg ∧ s.jnlFull = true := by decide +kernel
theorem witness_MailboxOperations_17 : let u := asked (gw []) 31 m0; u.readable (u.instWorld 31) 0 = true ∧ u.readable (u.instWorld 31) 0x200000 = false := by decide +kernel

/-- The premises of `Obligations.InstanceOperations`, clause by clause. -/
theorem witness_InstanceOperations_1 : Operates (srv 3 2 []) 7 55 ∧ ((srv 3 2 []).heard 7).reg (Obj.instState 55) ≠ 1 := by decide +kernel
theorem witness_InstanceOperations_2 : Operates (srv 3 2 [(Obj.instState 55, 1)]) 7 55 ∧ ((srv 3 2 [(Obj.instState 55, 1)]).heard 7).reg (Obj.instState 55) = 1 := by decide +kernel
theorem witness_InstanceOperations_3 : Operates (srv 3 2 [(Obj.instState 55, 3)]) 7 55 ∧ ((srv 3 2 [(Obj.instState 55, 3)]).heard 7).reg (Obj.instState 55) = 3 := by decide +kernel
theorem witness_InstanceOperations_4 : Takes (srv 3 2 []) 7 (okey (0x900 + 55) 8) (leBytes 2 5) ∧ Takes (srv 3 2 []) 7 (okey (0x900 + 55) 4) (leBytes 4 5) := by decide +kernel
theorem witness_InstanceOperations_5 : let s := srv 3 2 [(Obj.instState 31, 1), (Reg.resTouch 31, 6), (okey (0x900 + 31) 8, 6)]; let u := ((s.heard 7).setReg (okey (0x900 + 31) 8) 5).reply St.ok; Takes s 7 (okey (0x900 + 31) 8) (leBytes 2 5) ∧ u.reg (Obj.instState 31) ≠ 0 ∧ Inst.above u 31 8 = true ∧ Inst.above (s.heard 7) 31 8 = false := by decide +kernel
theorem witness_InstanceOperations_6 : let s := srv 3 2 [(Obj.instState 31, 1)]; let u := ((s.heard 7).setReg (okey (0x900 + 31) 8) 5).reply St.ok; u.reg (Obj.instState 31) ≠ 0 ∧ Inst.above u 31 8 = false := by decide +kernel
theorem witness_InstanceOperations_7 : let s := srv 3 2 [(Obj.instState 31, 1), (okey (0x900 + 31) 8, 6)]; Takes s 7 (okey (0x900 + 31) 8) (leBytes 2 5) ∧ 5 < 2 ^ (8 * 2) ∧ Inst.lowers ((s.heard 7).reg (okey (0x900 + 31) 8)) 8 5 = true ∧ Inst.lowers ((s.heard 7).reg (okey (0x900 + 31) 8)) 8 7 = false ∧ Inst.lowers ((s.heard 7).reg (okey (0x900 + 31) 4)) 4 7 = false := by decide +kernel
theorem witness_InstanceOperations_8 : (svc []).up = true ∧ (svc []).now % 4000000 = 0 ∧ { svc [] with now := 1 }.now % 4000000 ≠ 0 := by decide +kernel
theorem witness_InstanceOperations_9 : let s := svc [(Obj.instState 55, 2)]; s.up = true ∧ s.reg (Obj.instState 55) = 2 ∧ s.workEnded 55 = true ∧ s.reg (Reg.quiesceDue 55) ≤ s.now := by decide +kernel
theorem witness_InstanceOperations_10 : let s := { svc [(Reg.yieldAmt 63 (State.YieldBy.key .fab 2), 1), (Reg.yieldEnd 63 (State.YieldBy.key .fab 2), 1)] with now := 1 }; s.up = true ∧ s.reg (Reg.yieldAmt 63 (State.YieldBy.key .fab 2)) ≠ 0 ∧ s.reg (Reg.yieldEnd 63 (State.YieldBy.key .fab 2)) ≤ s.now := by decide +kernel

/-- The premises of `Obligations.FabricAccesses`, clause by clause. -/
theorem witness_FabricAccesses_1 : let a := fa 4 1; (gw []).up = true ∧ { a with reg := 1 }.reg ≠ 0 ∧ { a with acc := 2 }.acc = 2 ∧ Fab.world (gw []) { a with reg := 1, acc := 2 } ≠ 0 := by decide +kernel
theorem witness_FabricAccesses_2 : let a := { fa 4 2 with inst := 0xFF, unit := U.nim, reg := 1 }; (gw []).up = true ∧ a.reg ≠ 0 ∧ a.acc = 2 ∧ Fab.world (gw []) a = 0 := by decide +kernel
theorem witness_FabricAccesses_3 : let a := { fa 4 1 with dbg := 7, dbgWorld := 4 }; a.reg = 0 ∧ a.dbg ≠ 0 ∧ Fab.inScope (gw []) a = false := by decide +kernel
theorem witness_FabricAccesses_4 : let s := gw [(Reg.sessOpen 7, 1), (Reg.sessClass 7, Cls.dbg), (Reg.sessDbg 7, 16)]; let a := { fa 4 1 with dbg := 7, dbgWorld := 4 }; s.up = true ∧ a.dbg ≠ 0 ∧ Fab.inScope s a = true ∧ a.dbgWorld ≠ 64 := by decide +kernel
theorem witness_FabricAccesses_5 : let a := fa 4 1; (gw []).up = true ∧ a.reg = 0 ∧ a.dbg = 0 ∧ ¬ (42 ≤ a.req ∧ a.req < 46) ∧ Fab.walkBad (gw []) a = none ∧ (gw []).xlateRange (Fab.world (gw []) a) (Fab.root (gw []) a) a.va (Fab.accOf a.acc) a.len = .ok [0x400000, 0x400001, 0x400002, 0x400003] := by decide +kernel
theorem witness_FabricAccesses_6 : let a := { fa 4 1 with va := 0x200000 }; Fab.walkBad (gw []) a = none ∧ ((gw []).xlateRange (Fab.world (gw []) a) (Fab.root (gw []) a) a.va (Fab.accOf a.acc) a.len).isOk = false := by decide +kernel
theorem witness_FabricAccesses_7 : let a := { fa 4 1 with walkErr := 1 }; (Fab.walkBad (gw []) a).isSome = true := by decide +kernel
theorem witness_FabricAccesses_8 : let s := gw [(Obj.feedState 15, 1), (Obj.feedHead 15, 7), (Obj.feedLayer 15, 7), (Reg.poolWorld 7 7, 5), (Reg.poolSize 7 7, 1)]; let a := { fa 1 2 with req := 45, va := 0x400000 }; s.up = true ∧ a.dbg = 0 ∧ a.va + a.len ≤ 0x10000000000 ∧ ((List.range a.len).map (· + a.va)).all (Fab.feedGrant s) = true := by decide +kernel
theorem witness_FabricAccesses_9 : let a := { fa 1 2 with req := 42 }; ((List.range a.len).map (· + a.va)).all (Fab.feedGrant (gw [])) = false := by decide +kernel
theorem witness_FabricAccesses_10 : let s := { svc [(Obj.throttleAfter, 3)] with throttles := [⟨15, 15, 63, 45, 0, 3, 0, 0⟩], now := 1 }; s.up = true ∧ s.throttleOf 15 15 63 45 = some ⟨15, 15, 63, 45, 0, 3, 0, 0⟩ ∧ s.reg Obj.throttleAfter ≤ 3 ∧ s.now < 0 + 1000000000 ∧ 0 + 1000000000 ≤ { s with now := 1000000000 }.now := by decide +kernel
theorem witness_FabricAccesses_11 : let s := { svc [(Obj.throttleAfter, 3)] with throttles := [⟨15, 15, 63, 45, 0, 2, 0, 0⟩] }; s.throttleOf 15 15 63 45 = some ⟨15, 15, 63, 45, 0, 2, 0, 0⟩ ∧ 2 < s.reg Obj.throttleAfter := by decide +kernel
theorem witness_FabricAccesses_12 : let s := { svc [(Reg.rowOpen 255, 1)] with now := 1000000 }; s.reg (Reg.rowOpen (16 * 15 + 15)) ≠ 0 ∧ s.reg (Reg.rowHitAt (16 * 15 + 15)) + s.reg (Obj.dramIdleCloseNs 15) ≤ s.now := by decide +kernel
theorem witness_FabricAccesses_13 : let s := { svc [(Reg.concBytes 63 15, 1000000000000)] with now := 10000000 }; s.up = true ∧ s.reg (Reg.concWin 63) < s.now / 10000000 ∧ (svc []).now / 10000000 ≤ (svc []).reg (Reg.concWin 63) ∧ s.reg Obj.concentrationPct * 1000000000000 < 100 * 1000000000000 ∧ s.reg Obj.concentrationMinMBps * 10000 < 1000000000000 ∧ s.reg (Reg.concLast 63) = 0 := by decide +kernel

/-- The premises of `Obligations.RetrainAndClasses`, clause by clause. -/
theorem witness_RetrainAndClasses_1 : let s := svc [(Obj.dramChannelState 15, 1)]; let u := s.setReg (Obj.dramTempC 15) (99 % 256); s.up = true ∧ s.reg (Obj.dramChannelState 15) = 1 ∧ Fab.drifted u 99 (u.reg (Reg.trainedTemp 15)) = true := by decide +kernel
theorem witness_RetrainAndClasses_2 : (svc [(Obj.dramChannelState 15, 2)]).reg (Obj.dramChannelState 15) = 2 := by decide +kernel
theorem witness_RetrainAndClasses_3 : let s := { svc [(Obj.dramChannelState 15, 1), (Reg.retrainRetry 15, 1)] with now := 1 }; s.up = true ∧ s.reg (Reg.retrainRetry 15) ≠ 0 ∧ s.reg (Reg.retrainRetry 15) ≤ s.now ∧ s.reg (Obj.dramChannelState 15) = 1 ∧ s.reg Reg.patrolAt = 0 := by decide +kernel
theorem witness_RetrainAndClasses_4 : let s := srv 0 0 [(Obj.reqClassesAllowed 47, 8)]; Takes s 7 (Obj.reqClass 47) [3] ∧ bit ((s.heard 7).reg (Obj.reqClassesAllowed 47)) (leNat [3]) = true ∧ Takes s 7 (Obj.reqClass 47) [0] ∧ bit ((s.heard 7).reg (Obj.reqClassesAllowed 47)) (leNat [0]) = false := by decide +kernel
theorem witness_RetrainAndClasses_5 : let s := srv 3 2 []; let u := s.heard 7; Takes s 7 Obj.scanReservedMBps (b4 1000) ∧ u.deviceFetch u.reg ≤ leNat (b4 1000) * 1000000000 ∧ leNat (b4 1000) + u.reg Obj.rtReservedMBps ≤ 151000 ∧ Takes s 7 Obj.scanReservedMBps (b4 151000) ∧ 151000 < leNat (b4 151000) + u.reg Obj.rtReservedMBps := by decide +kernel
theorem witness_RetrainAndClasses_6 : let s := srv 3 2 []; let u := s.heard 7; Takes s 7 Obj.rtReservedMBps (b4 8000) ∧ u.rtDemand u.reg ≤ leNat (b4 8000) ∧ u.reg Obj.scanReservedMBps + leNat (b4 8000) ≤ 151000 ∧ Takes s 7 Obj.rtReservedMBps (b4 151001) ∧ 151000 < u.reg Obj.scanReservedMBps + leNat (b4 151001) := by decide +kernel

/-- The premises of `Obligations.PacketsAndDraws`, clause by clause. -/
theorem witness_PacketsAndDraws_1 : HasP (ringAt 5 [hdr 0 2 0, 0, 0] []) 31 5 0x00 (fun _ => true) := has (by decide +kernel)
theorem witness_PacketsAndDraws_2 : HasR (ringAt 3 [hdr 0 2 1, 0, 0] []) 31 3 0x00 (fun _ => true) ∧ HasC (ringAt 7 [hdr 0 2 1, 0, 0] []) 31 0x00 (fun _ => true) := ⟨rend (by decide +kernel), cop (by decide +kernel)⟩
theorem witness_PacketsAndDraws_3 : let s := ringAt 0 [hdr 0x10 4 0, 8, 0, 5, 0] []; HasR s 31 0 0x10 (fun p => (Nim.earlier s 31 0).isEmpty && p.dword 0 % 8 == 0 && (s.fenceMax (s.instWorld 31) (s.reg (Reg.s1Root 31 0)) (p.dword 0) (p.dword 2)).isOk) := rend (by decide +kernel)
theorem witness_PacketsAndDraws_4 : let s := ringAt 0 [hdr 0x10 4 0, 7, 0, 5, 0] []; HasR s 31 0 0x10 (fun p => (Nim.earlier s 31 0).isEmpty && p.dword 0 % 8 != 0) := rend (by decide +kernel)
theorem witness_PacketsAndDraws_5 : HasR (ringAt 0 [hdr 0x11 4 0, 7, 0, 0, 0] []) 31 0 0x11 (fun p => p.dword 0 % 8 != 0) := rend (by decide +kernel)
theorem witness_PacketsAndDraws_6 : let s := ringAt 0 [hdr 0x11 4 0, 8, 0, 0, 0] []; HasR s 31 0 0x11 (fun p => p.dword 0 % 8 == 0 && (s.fenceRead (s.instWorld 31) (s.reg (Reg.s1Root 31 0)) (p.dword 0)).toOption == some 0 && p.dword 2 == 0) := rend (by decide +kernel)
theorem witness_PacketsAndDraws_7 : let s := ringAt 0 [hdr 0x11 4 0, 8, 0, 1, 0] []; HasR s 31 0 0x11 (fun p => p.dword 0 % 8 == 0 && (s.fenceRead (s.instWorld 31) (s.reg (Reg.s1Root 31 0)) (p.dword 0)).toOption == some 0 && p.dword 2 == 1) := rend (by decide +kernel)
theorem witness_PacketsAndDraws_8 : (svc []).up = true := by decide +kernel
theorem witness_PacketsAndDraws_9 : let s := svc [(Reg.nimWait 31 0, 1), (Reg.nimWaitDue 31 0, 9)]; let t := { s with now := 9 }; t.up = true ∧ t.reg (Reg.nimWait 31 0) = 1 ∧ t.reg (Reg.nimWaitDue 31 0) ≠ 0 ∧ t.reg (Reg.nimWaitDue 31 0) ≤ t.now := by decide +kernel
theorem witness_PacketsAndDraws_10 : HasR (ringAt 0 [hdr 0x12 1 0, 2] []) 31 0 0x12 (fun p => p.word 0 == 2 && !bit (p.word 0) 0) := rend (by decide +kernel)
theorem witness_PacketsAndDraws_11 : HasR (ringAt 0 [hdr 0x12 1 0, 3] []) 31 0 0x12 (fun p => p.word 0 == 3 && (Nim.earlier (ringAt 0 [hdr 0x12 1 0, 3] []) 31 0).isEmpty) := rend (by decide +kernel)
theorem witness_PacketsAndDraws_12 : let s := { ringAt 0 [hdr 0x12 1 0, 1] [] with items := [⟨9, U.nim, 4, 31, 0, 0, 8, 2, 0, 0, 0, 0⟩] }; HasR s 31 0 0x12 (fun p => decide (p.word 0 ≤ 3) && bit (p.word 0) 0 && !(Nim.earlier s 31 0).isEmpty) := rend (by decide +kernel)
theorem witness_PacketsAndDraws_13 : HasR (ringAt 0 [hdr 0x12 1 0, 4] []) 31 0 0x12 (fun p => p.word 0 == 4) := rend (by decide +kernel)
theorem witness_PacketsAndDraws_14 : let s := ringAt 0 [hdr 0x13 0 0] []; HasR s 31 0 0x13 (fun _ => (Nim.earlier s 31 0).isEmpty) := rend (by decide +kernel)
theorem witness_PacketsAndDraws_15 : HasR (ringAt 0 [hdr 0x14 3 0, 1, 2, 3] []) 31 0 0x14 (fun _ => true) := rend (by decide +kernel)
theorem witness_PacketsAndDraws_16 : HasR (ringAt 0 [hdr 0x15 1 0, 3] []) 31 0 0x15 (fun p => p.word 0 == 3) ∧ HasR (ringAt 0 [hdr 0x15 1 0, 4] []) 31 0 0x15 (fun p => p.word 0 == 4) := ⟨rend (by decide +kernel), rend (by decide +kernel)⟩
theorem witness_PacketsAndDraws_17 : let s := ringAt 0 [hdr 0x16 2 0, 0x100, 0] []; HasR s 31 0 0x16 (fun p => (s.cwrite 31 0 (p.dword 0) (leBytes 8 s.now)).isOk) := rend (by decide +kernel)
theorem witness_PacketsAndDraws_18 : let s := pas 0 [hdr 0x05 4 0, 3, 1, 0, 0] []; HasR s 31 0 0x05 (fun _ => drawsOk s 31 0 ⟨[], [(0, 0x300, 4)], [(0, 0x300, [1])], false⟩ []) := rendBy (q' := fun _ => drawsFlat (pas 0 [hdr 0x05 4 0, 3, 1, 0, 0] []) 0 ⟨[], [(0, 0x300, 4)], [(0, 0x300, [1])], false⟩ []) (fun _ h => draws_flat h) (by decide +kernel)
theorem witness_PacketsAndDraws_19 : let s := pas 0 [hdr 0x06 7 0, 0x400, 0, 3, 1, 0, 0, 0x40000000] []; HasR s 31 0 0x06 (fun p => drawsOk s 31 0 ⟨[], [(0, 0x300, 4)], [(0, 0x300, [1])], false⟩ [(p.dword 0 + (if p.word 6 / 0x40000000 = 1 then 4 else 2) * p.word 4, (if p.word 6 / 0x40000000 = 1 then 4 else 2) * p.word 2)]) := rendBy (q' := fun p => let s := pas 0 [hdr 0x06 7 0, 0x400, 0, 3, 1, 0, 0, 0x40000000] []; drawsFlat s 0 ⟨[], [(0, 0x300, 4)], [(0, 0x300, [1])], false⟩ [(p.dword 0 + (if p.word 6 / 0x40000000 = 1 then 4 else 2) * p.word 4, (if p.word 6 / 0x40000000 = 1 then 4 else 2) * p.word 2)]) (fun _ h => draws_flat h) (by decide +kernel)
theorem witness_PacketsAndDraws_20 : let s := pas 0 [hdr 0x07 4 0, 0x400, 0, 2, 16] []; HasR s 31 0 0x07 (fun p => drawsOk s 31 0 ⟨[], [], [], false⟩ ((List.range (p.word 2)).map (fun n => (p.dword 0 + n * p.word 3, 16)))) := rendBy (q' := fun p => let s := pas 0 [hdr 0x07 4 0, 0x400, 0, 2, 16] []; drawsFlat s 0 ⟨[], [], [], false⟩ ((List.range (p.word 2)).map (fun n => (p.dword 0 + n * p.word 3, 16)))) (fun _ h => draws_flat h) (by decide +kernel)
theorem witness_PacketsAndDraws_21 : HasR (ringAt 0 [hdr 0x06 7 0, 0x400, 0, 3, 1, 0, 0, 0] []) 31 0 0x06 (fun _ => true) ∧ HasR (ringAt 0 [hdr 0x07 4 0, 0x400, 0, 2, 16] []) 31 0 0x07 (fun _ => true) := ⟨rend (by decide +kernel), rend (by decide +kernel)⟩
theorem witness_PacketsAndDraws_22 : let s := ringAt 0 [hdr 0x05 4 0, 3, 1, 0, 0] []; HasR s 31 0 0x05 (fun _ => s.reg (Reg.nimPass 31 0) == 0) := rend (by decide +kernel)
theorem witness_PacketsAndDraws_23 : let s := pas 0 [hdr 0x08 3 1, 1, 1, 1] [(Reg.nimPass 31 0, 0)]; HasR s 31 0 0x08 (fun p => dispOk s 31 0 p ⟨[], [(0, 0x300, 4)], [(0, 0x300, [1])], false⟩ []) := rendBy (q' := fun p => let s := pas 0 [hdr 0x08 3 1, 1, 1, 1] [(Reg.nimPass 31 0, 0)]; dispFlat s 0 p ⟨[], [(0, 0x300, 4)], [(0, 0x300, [1])], false⟩ []) (fun _ h => disp_flat h) (by decide +kernel)
theorem witness_PacketsAndDraws_24 : let s := pas 0 [hdr 0x09 2 0, 0x400, 0] [(Reg.nimPass 31 0, 0)]; HasR s 31 0 0x09 (fun p => dispOk s 31 0 p ⟨[], [], [], false⟩ [(p.dword 0, 12)]) := rendBy (q' := fun p => let s := pas 0 [hdr 0x09 2 0, 0x400, 0] [(Reg.nimPass 31 0, 0)]; dispFlat s 0 p ⟨[], [], [], false⟩ [(p.dword 0, 12)]) (fun _ h => disp_flat h) (by decide +kernel)
theorem witness_PacketsAndDraws_25 : let s := pas 0 [hdr 0x08 3 0, 1, 1, 1] []; HasR s 31 0 0x08 (fun _ => s.reg (Reg.nimPass 31 0) == 1) := rend (by decide +kernel)
theorem witness_PacketsAndDraws_26 : let s := pas 0 [hdr 0x09 2 0, 1, 1] []; HasR s 31 0 0x09 (fun _ => s.reg (Reg.nimPass 31 0) == 1) := rend (by decide +kernel)

/-- The premises of `Obligations.RendererPasses`, clause by clause. -/
theorem witness_RendererPasses_1 : let s := pas 0 [hdr 0x01 3 1, 0x2000, 0, 7] [(Reg.nimPass 31 0, 0)]; HasR s 31 0 0x01 (fun p => s.reg (Reg.nimPass 31 0) != 1 && passOk s 31 0 p) := rendBy (q' := fun p => let s := pas 0 [hdr 0x01 3 1, 0x2000, 0, 7] [(Reg.nimPass 31 0, 0)]; s.reg (Reg.nimPass 31 0) != 1 && passFlat s 0 p) (fun _ h => and_flat h pass_flat) (by decide +kernel)
theorem witness_RendererPasses_2 : let s := pas 0 [hdr 0x02 0 0] []; HasR s 31 0 0x02 (fun _ => s.reg (Reg.nimPass 31 0) == 1 && endOk s 31 0) := rendBy (q' := fun _ => let s := pas 0 [hdr 0x02 0 0] []; s.reg (Reg.nimPass 31 0) == 1 && partsFlat s 0 (fun d as => (s.passStores 31 0 d as).isOk)) (fun _ h => and_flat h end_flat) (by decide +kernel)
theorem witness_RendererPasses_3 : let s := pas 0 [hdr 0x02 0 0] [(Reg.nimPass 31 0, 0)]; HasR s 31 0 0x02 (fun _ => s.reg (Reg.nimPass 31 0) == 0) := rend (by decide +kernel)
theorem witness_RendererPasses_4 : let s := pas 0 [hdr 0x03 1 0, 0] []; HasR s 31 0 0x03 (fun p => !(s.pipeOf (p.word 0)).isEmpty && (s.pipeOf (p.word 0)).getD 0 0 == s.instWorld 31 && (s.pipeOf (p.word 0)).getD 1 0 == 2) := rend (by decide +kernel)
theorem witness_RendererPasses_5 : let s := (pas 0 [hdr 0x03 1 0, 0] []).setNum (Num.pipe 0) [4, 1, 1, 0, 0, 31]; HasR s 31 0 0x03 (fun p => !(s.pipeOf (p.word 0)).isEmpty && (s.pipeOf (p.word 0)).getD 0 0 == s.instWorld 31 && (s.pipeOf (p.word 0)).getD 1 0 == 1) := rend (by decide +kernel)
theorem witness_RendererPasses_6 : HasR (ringAt 0 [hdr 0x04 2 0, 256, 0] []) 31 0 0x04 (fun p => p.dword 0 % 256 == 0) ∧ HasR (ringAt 0 [hdr 0x04 2 0, 255, 0] []) 31 0 0x04 (fun p => p.dword 0 % 256 != 0) := ⟨rend (by decide +kernel), rend (by decide +kernel)⟩
theorem witness_RendererPasses_7 : let s := pas 0 [hdr 0x0A 3 0, 8, 0, 0] []; HasR s 31 0 0x0A (fun p => s.reg (Reg.nimPass 31 0) != 0 && decide (bits (p.word 0) 0 8 ≤ 8)) := rend (by decide +kernel)
theorem witness_RendererPasses_8 : let s := pas 0 [hdr 0x0A 3 0, 9, 0, 0] []; HasR s 31 0 0x0A (fun p => s.reg (Reg.nimPass 31 0) != 0 && decide (8 < bits (p.word 0) 0 8)) := rend (by decide +kernel)
theorem witness_RendererPasses_9 : let s := ringAt 0 [hdr 0x0A 3 0, 8, 0, 0] []; HasR s 31 0 0x0A (fun _ => s.reg (Reg.nimPass 31 0) == 0) := rend (by decide +kernel)
theorem witness_RendererPasses_10 : let s := pas 0 [hdr 0x0B 3 0, 0x100, 0, 2] []; HasR s 31 0 0x0B (fun p => s.reg (Reg.nimPass 31 0) != 0 && s.reg (Reg.nimQuery 31 0) == 0 && p.word 2 == 2) := rend (by decide +kernel)
theorem witness_RendererPasses_11 : let s := pas 0 [hdr 0x0B 3 0, 0x100, 0, 3] []; HasR s 31 0 0x0B (fun p => s.reg (Reg.nimPass 31 0) != 0 && s.reg (Reg.nimQuery 31 0) == 0 && p.word 2 == 3) := rend (by decide +kernel)
theorem witness_RendererPasses_12 : let s := pas 0 [hdr 0x0C 0 0] [(Reg.nimQuery 31 0, 0x101), (Reg.nimQueryKind 31 0, 1)]; HasR s 31 0 0x0C (fun _ => s.reg (Reg.nimQuery 31 0) != 0 && s.reg (Reg.nimQueryKind 31 0) == 1 && (s.tick.cwrite 31 0 (s.reg (Reg.nimQuery 31 0) - 1) (leBytes 8 s.fresh)).isOk) := rend (by decide +kernel)
theorem witness_RendererPasses_13 : let s := pas 0 [hdr 0x0C 0 0] [(Reg.nimQuery 31 0, 0x101), (Reg.nimQueryKind 31 0, 2)]; HasR s 31 0 0x0C (fun _ => s.reg (Reg.nimQuery 31 0) != 0 && s.reg (Reg.nimQueryKind 31 0) != 1 && (s.cwrite 31 0 (s.reg (Reg.nimQuery 31 0) - 1) (leBytes 8 (s.reg (Reg.nimQueryCount 31 0)))).isOk) := rend (by decide +kernel)
theorem witness_RendererPasses_14 : let s := (ringAt 0 [hdr 0x30 3 0, 0x500, 0, 1] [(Reg.ringCtx 31 0, 0x3F8), (Obj.layerFormat 0 7, 1), (Obj.layerPoolGsa 0 7, 0), (Reg.poolSize 0 7, 1)]).writeBytes 0x500 (surf8 0x8000); HasR s 31 0 0x30 (fun p => decide (0x3F8 ≤ s.reg (Reg.ringCtx 31 0)) && s.reg (Reg.nimPass 31 0) != 1 && (Nim.earlier s 31 0).isEmpty && (match s.surfAt 31 0 (p.dword 0) with | .ok f => s.flatUsable 31 0 (s.reg (Reg.ringCtx 31 0) - 0x3F8) f | .error _ => false)) := rend (by decide +kernel)
theorem witness_RendererPasses_15 : let s := ringAt 0 [hdr 0x30 3 0, 0x500, 0, 1] [(Reg.ringCtx 31 0, 0x3FF)]; HasR s 31 0 0x30 (fun p => decide (0x3F8 ≤ s.reg (Reg.ringCtx 31 0)) && s.reg (Reg.nimPass 31 0) != 1 && (Nim.earlier s 31 0).isEmpty && (match s.surfAt 31 0 (p.dword 0) with | .ok f => !s.flatUsable 31 0 (s.reg (Reg.ringCtx 31 0) - 0x3F8) f | .error _ => false)) := rend (by decide +kernel)

/-- The premises of `Obligations.CopiesAndEvents`, clause by clause. -/
theorem witness_CopiesAndEvents_1 : let s := ringAt 7 [hdr 0x20 6 1, 0x300, 0, 0x400, 0, 16, 0] []; HasC s 31 0x20 (fun p => s.mayTake (s.rank45 31 7) && !Nim.overlap (p.dword 0) (p.dword 2) (p.dword 4) && (State.copyBytes 31 7 (p.dword 0) (p.dword 2) none (p.dword 4) s).2.isNone) := cop (by decide +kernel)
theorem witness_CopiesAndEvents_2 : let s := ringAt 7 [hdr 0x20 6 0, 0x300, 0, 0x300, 0, 1, 0] []; HasC s 31 0x20 (fun p => s.mayTake (s.rank45 31 7) && Nim.overlap (p.dword 0) (p.dword 2) (p.dword 4) && !p.safe && (State.copyBytes 31 7 (p.dword 0) (p.dword 2) (some s.fresh) (p.dword 4) s.tick).2.isNone) := cop (by decide +kernel)
theorem witness_CopiesAndEvents_3 : let s := ringAt 7 [hdr 0x20 6 1, 0x300, 0, 0x301, 0, 2, 0] []; HasC s 31 0x20 (fun p => s.mayTake (s.rank45 31 7) && Nim.overlap (p.dword 0) (p.dword 2) (p.dword 4) && p.safe) := cop (by decide +kernel)
theorem witness_CopiesAndEvents_4 : let s := ((ringAt 7 [hdr 0x21 8 1, 0x500, 0, 0x600, 0, 0, 0x20002, 0, 0] []).writeBytes 0x500 (surf8 0x8000)).writeBytes 0x600 (surf8 0x9000); HasC s 31 0x21 (fun p => s.mayTake (s.rank45 31 7) && (match s.surfAt 31 7 (p.dword 0), s.surfAt 31 7 (p.dword 2) with | .ok f, .ok g => f.status false true == St.ok && g.status false true == St.ok && f.bytes == g.bytes && decide (0 < f.levels ∧ (2, 2) ≤ f.levelSize 0) && decide (0 < g.levels ∧ (2, 2) ≤ g.levelSize 0) && !Nim.overlap f.base g.base (max f.span g.span) && (State.copyTexels 31 7 f g (0, 0, 0) (0, 0, 0) [(0, 0), (1, 0), (0, 1), (1, 1)] (s.setReg (Reg.passMeta 31 7) 0)).2.isNone | _, _ => false)) := cop (by decide +kernel)
theorem witness_CopiesAndEvents_5 : let s := ((ringAt 7 [hdr 0x21 8 1, 0x500, 0, 0x600, 0, 0, 0x20002, 0, 0] []).writeBytes 0x500 (surf8 0x8000)).writeBytes 0x600 ((surf8 0x9000).set 24 1); HasC s 31 0x21 (fun p => s.mayTake (s.rank45 31 7) && (match s.surfAt 31 7 (p.dword 0), s.surfAt 31 7 (p.dword 2) with | .ok f, .ok g => f.status false true == St.ok && g.status false true == St.ok && f.bytes != g.bytes | _, _ => false)) := cop (by decide +kernel)
theorem witness_CopiesAndEvents_6 : let s := ringAt 7 [hdr 0x22 5 1, 0x300, 0, 7, 0, 0xFFFFFFFF] []; HasC s 31 0x22 (fun p => s.mayTake (s.rank45 31 7) && (State.fillBytes 31 7 (p.dword 0) (p.word 4) (p.dword 2) 0 s).2.isNone) := cop (by decide +kernel)
theorem witness_CopiesAndEvents_7 : let s := (svc [(Reg.nimPass 31 0, 1), (Reg.nimCur, 249)]).setFifo (Fifo.prims 31 0) [[1]]; s.up = true ∧ s.reg (Reg.nimPass 31 0) = 1 ∧ s.reg (Reg.nimWait 31 0) = 0 ∧ s.fifo (Fifo.prims 31 0) ≠ [] ∧ s.reg Reg.nimCur = 8 * 31 + 0 + 1 := by decide +kernel
theorem witness_CopiesAndEvents_8 : let s := svc [(Reg.nimPass 31 3, 1), (Reg.nimWait 31 3, 3)]; s.up = true ∧ s.reg (Reg.nimPass 31 3) = 1 ∧ s.reg (Reg.nimWait 31 3) = 3 ∧ s.reg (Reg.nimWaitDue 31 3) ≤ s.now ∧ s.reg Reg.nimCur = 0 := by decide +kernel
theorem witness_CopiesAndEvents_9 : let s := (svc []).setNum (Num.pipe 5) [4, 1, 1, 0, 0, 31]; s.up = true ∧ s.pipeOf 5 = 4 :: 1 :: [1, 0, 0, 31] := by decide +kernel
theorem witness_CopiesAndEvents_10 : let s := { svc [(Reg.nimCur, 249)] with now := 1000 * (svc []).reg Obj.timeSliceUs }; s.up = true ∧ s.reg Reg.nimCur ≠ 0 ∧ s.reg Reg.nimSince + 1000 * s.reg Obj.timeSliceUs ≤ s.now ∧ (svc []).reg Reg.nimCur = 0 := by decide +kernel
theorem witness_CopiesAndEvents_11 : let s := (pas 0 [] [(Reg.nimPreemptAt, 1)]).setNum (Num.tiles 31 0) [0]; s.up = true ∧ s.reg Reg.nimCur = 8 * 31 + 0 + 1 ∧ s.reg Reg.nimPreemptAt ≠ 0 ∧ (s.num (Num.tiles 31 0)).contains 0 = true ∧ graceOk s.preempted 31 0 1 = true := by refine ⟨by decide +kernel, by decide +kernel, by decide +kernel, by decide +kernel, grace_flat (by decide +kernel)⟩
theorem witness_CopiesAndEvents_12 : let s := svc [(Reg.unitState (U.cluster 23), 1)]; s.up = true ∧ s.reg (Reg.unitState (U.cluster 23)) ≠ 5 := by decide +kernel
theorem witness_CopiesAndEvents_13 : let s := { ringAt 0 [] [] with items := [⟨9, U.nim, 4, 31, 0, 0, 8, 2, 0, 0, 0, 0⟩] }; s.up = true ∧ rendererRing 0 = true ∧ (Nim.earlier s 31 0).isEmpty = false := by decide +kernel

/-- The premises of `Obligations.Composition`, clause by clause. -/
theorem witness_Composition_1 : let s := svc [(Obj.portMode 7, 0)]; s.up = true ∧ s.reg (Obj.portMode 7) ≠ 3 ∧ s.reg (Reg.portReset (U.head 7)) ≠ 1 ∧ s.holdupStopped (U.head 7) = false := by decide +kernel
theorem witness_Composition_2 : HasP (ringAt 4 [hdr 0x50 11 0, 0xFF07, 0, 0, 0, 0, 0, 0, 0, 0, 0, 0] []) 31 4 0x50 (fun p => bits (p.word 0) 0 8 == 7 && decide (p.word 0 < 0x10000)) ∧ HasP (ringAt 4 [hdr 0x50 11 0, 0x10000, 0, 0, 0, 0, 0, 0, 0, 0, 0, 0] []) 31 4 0x50 (fun p => p.word 0 == 0x10000) := ⟨has (by decide +kernel), has (by decide +kernel)⟩
theorem witness_Composition_3 : HasP (ringAt 4 [hdr 0x51 1 0, 8] []) 31 4 0x51 (fun p => p.word 0 == 8) := has (by decide +kernel)
theorem witness_Composition_4 : let s := ringAt 4 [hdr 0x51 1 0, 7] []; HasP s 31 4 0x51 (fun p => p.word 0 == 7 && (s.fifo (Fifo.flipOpen 31 7)).isEmpty) := has (by decide +kernel)
theorem witness_Composition_5 : let s := (ringAt 4 [hdr 0x51 1 0, 7] []).setFifo (Fifo.flipOpen 31 7) [Flip.mk 1 0x500 0 0 0 0]; HasP s 31 4 0x51 (fun p => p.word 0 == 7 && !(s.fifo (Fifo.flipOpen 31 7)).isEmpty && ((s.setFifo (Fifo.flipOpen 31 7) []).flipRefusal 31 7 (s.fifo (Fifo.flipOpen 31 7)) == some (1, St.notOwner))) := has (by decide +kernel)
theorem witness_Composition_6 : let s := ((ringAt 4 [hdr 0x51 1 0, 7] [(Obj.layerEnable 7 2, 1), (Obj.layerOwnerWorld 7 2, 4), (Obj.layerFormat 7 2, 1), (Obj.layerSrcWidth 7 2, 8), (Obj.layerSrcHeight 7 2, 4), (Reg.poolSize 7 2, 1)]).writeBytes 0x500 (surf8 0x8000)).setFifo (Fifo.flipOpen 31 7) [Flip.mk 2 0x500 0 0 0 0]; HasP s 31 4 0x51 (fun p => p.word 0 == 7 && !(s.fifo (Fifo.flipOpen 31 7)).isEmpty && ((s.setFifo (Fifo.flipOpen 31 7) []).flipRefusal 31 7 (s.fifo (Fifo.flipOpen 31 7)) == none)) := has (by decide +kernel)
theorem witness_Composition_7 : HasP (ringAt 4 [hdr 0x52 1 0, 7] []) 31 4 0x52 (fun p => p.word 0 == 7) ∧ HasP (ringAt 4 [hdr 0x52 1 0, 8] []) 31 4 0x52 (fun p => p.word 0 == 8) := ⟨has (by decide +kernel), has (by decide +kernel)⟩
theorem witness_Composition_8 : let s := { svc [(Reg.flipEpoch 4 7, 1)] with now := 1000000 * (svc []).reg (Obj.acquireTimeoutMs 7) }; s.up = true ∧ s.reg (Reg.flipEpoch 4 7) ≠ 0 ∧ s.reg (Obj.acquireTimeoutMs 7) ≠ 0 ∧ s.reg (Reg.flipAt 4 7) + 1000000 * s.reg (Obj.acquireTimeoutMs 7) ≤ s.now := by decide +kernel
theorem witness_Composition_9 : let s := svc [(Reg.oldRelease 7 7, 1)]; s.up = true ∧ s.reg (Reg.oldRelease 7 7) ≠ 0 := by decide +kernel

/-- The premises of `Obligations.TransmitterPorts`, clause by clause. -/
theorem witness_TransmitterPorts_1 : (svc []).up = true ∧ (svc []).reg (Reg.hpd 15) ≠ 1 := by decide +kernel
theorem witness_TransmitterPorts_2 : (svc [(Obj.portMode 7, 0)]).up = true ∧ (svc [(Obj.portMode 7, 0)]).hpdIgnored 15 = true ∧ (svc [(Obj.portMode 7, 0)]).hpdIgnored 14 = false ∧ (svc [(Obj.portMode 7, 0)]).reg (Reg.hpd 15) ≠ 1 := by decide +kernel
theorem witness_TransmitterPorts_3 : let s := svc [(Obj.portState 15, 1), (Reg.hpdDue 15, 9)]; let t := { s with now := 9 }; t.up = true ∧ t.reg (Obj.portState 15) = 1 ∧ t.reg (Reg.hpdDue 15) ≠ 0 ∧ t.reg (Reg.hpdDue 15) ≤ t.now := by decide +kernel
theorem witness_TransmitterPorts_4 : let s := svc [(Obj.portState 15, 2), (Obj.laneCount 15, 4), (Obj.linkRateMbps 15, 8100)]; s.up = true ∧ s.reg (Obj.portState 15) = 2 ∧ s.reg (Reg.litNext 15) ≠ 1 ∧ s.reg (Reg.trainHeld 15) ≠ 1 ∧ Hd.outcome s 15 4 8100 = 0 ∧ 3 < Hd.outcome s 15 0 0 := by decide +kernel
theorem witness_TransmitterPorts_5 : let s := svc [(Obj.portState 15, 2), (Obj.assr 15, 1), (Obj.sinkKind 15, 2)]; s.up = true ∧ s.reg (Obj.portState 15) = 2 ∧ s.reg (Reg.litNext 15) ≠ 1 ∧ s.reg (Reg.trainHeld 15) ≠ 1 ∧ Hd.outcome s 15 4 8100 = 3 := by decide +kernel
theorem witness_TransmitterPorts_6 : let s := svc [(Obj.portState 15, 4), (Reg.hpd 15, 1), (Reg.trainRetry 15, 9)]; let t := { s with now := 9 }; t.up = true ∧ t.reg (Obj.portState 15) = 4 ∧ t.reg (Reg.hpd 15) ≠ 0 ∧ t.reg (Reg.trainRetry 15) ≠ 0 ∧ t.reg (Reg.trainRetry 15) ≤ t.now := by decide +kernel
theorem witness_TransmitterPorts_7 : let s := svc [(Reg.hpd 15, 1)]; s.up = true ∧ s.reg (Reg.hpd 15) ≠ 0 := by decide +kernel
theorem witness_TransmitterPorts_8 : let s := svc [(Reg.linkWaking 7, 1)]; s.up = true ∧ s.reg (Reg.linkWaking 7) ≠ 0 := by decide +kernel

/-- The premises of `Obligations.PanelsAndReceivers`, clause by clause. -/
theorem witness_PanelsAndReceivers_1 : let s := svc [(Obj.teUse 7, 2)]; s.up = true ∧ s.reg (Reg.portReset (U.head 7)) ≠ 1 ∧ s.reg (Obj.teUse 7) = 2 ∧ (!(s.reg (Obj.teEdge 7) == 1)) ≠ (s.reg (Obj.teEdge 7) == 1) := by decide +kernel
theorem witness_PanelsAndReceivers_2 : let s := svc [(Obj.teUse 7, 2)]; let t := { s with now := 2 * Head.periodPs s.reg 7 }; t.up = true ∧ t.reg (Obj.teUse 7) = 2 ∧ t.reg (Reg.teLost 7) ≠ 1 ∧ 1000 * t.reg (Obj.teLastTime 7) + 2 * Head.periodPs t.reg 7 * (1 + t.reg (Reg.shedSlowed 7)) ≤ 1000 * t.now := by decide +kernel
theorem witness_PanelsAndReceivers_3 : (svc [(Reg.panelStage 7, 1)]).up = true ∧ (svc []).reg (Reg.panelDue 7) ≤ (svc []).now ∧ (svc [(Reg.panelStage 7, 1)]).reg (Reg.panelStage 7) = 1 ∧ (svc [(Reg.panelStage 7, 6)]).reg (Reg.panelStage 7) = 6 ∧ (svc [(Reg.panelStage 7, 3)]).reg (Reg.panelStage 7) = 3 ∧ (svc [(Reg.panelStage 7, 5)]).reg (Reg.panelStage 7) = 5 := by decide +kernel
theorem witness_PanelsAndReceivers_4 : (svc []).up = true ∧ (svc []).reg (Reg.panelFaultDue 7) ≠ 1 ∧ (svc [(Reg.panelFaultDue 7, 1)]).reg (Reg.panelFaultDue 7) ≠ 0 := by decide +kernel
theorem witness_PanelsAndReceivers_5 : let s := svc [(Obj.rxEnable 7, 1), (Obj.rxState 7, 1)]; s.up = true ∧ Hd.rxOn s 7 = true ∧ s.reg (Obj.rxState 7) = 1 := by decide +kernel
theorem witness_PanelsAndReceivers_6 : let s := svc [(Obj.rxEnable 7, 1), (Obj.rxState 7, 2)]; let u := s.setRegs [(Obj.rxWidth 7, 8), (Obj.rxHeight 7, 4), (Obj.rxRateMhz 7, 0), (Obj.rxPixelKhz 7, 0), (Obj.rxColour 7, 0)]; s.up = true ∧ s.reg (Reg.portReset (U.dpr 7)) ≠ 1 ∧ Hd.rxOn s 7 = true ∧ 2 ≤ s.reg (Obj.rxState 7) ∧ u.rxLayer 7 = none := by decide +kernel
theorem witness_PanelsAndReceivers_7 : let s := svc [(Obj.rxEnable 7, 1), (Obj.rxState 7, 2), (Obj.layerEnable 0 1, 1), (Obj.layerMode 0, 1), (Obj.layerSourceRx 0 1, 7), (Obj.layerSrcWidth 0 1, 8), (Obj.layerSrcHeight 0 1, 4)]; let u := s.setRegs [(Obj.rxWidth 7, 8), (Obj.rxHeight 7, 4), (Obj.rxRateMhz 7, 0), (Obj.rxPixelKhz 7, 0), (Obj.rxColour 7, 0)]; s.up = true ∧ s.reg (Reg.portReset (U.dpr 7)) ≠ 1 ∧ Hd.rxOn s 7 = true ∧ 2 ≤ s.reg (Obj.rxState 7) ∧ u.rxLayer 7 = some (0, 1) ∧ u.reg (Obj.layerSrcWidth 0 1) = 8 ∧ u.reg (Obj.layerSrcHeight 0 1) = 4 ∧ u.reg (Obj.rxState 7) ≠ 3 ∧ 9 ≠ u.reg (Obj.layerSrcWidth 0 1) := by decide +kernel
theorem witness_PanelsAndReceivers_8 : let s := svc [(Obj.rxState 7, 2)]; s.up = true ∧ s.reg (Obj.rxState 7) ≠ 0 := by decide +kernel
theorem witness_PanelsAndReceivers_9 : let s := svc [(Reg.rxLost 7, 1), (Reg.rxHoldDue 7, 9)]; let t := { s with now := 9 }; t.up = true ∧ t.reg (Reg.rxLost 7) ≠ 0 ∧ t.reg (Reg.rxHoldDue 7) ≠ 0 ∧ t.reg (Reg.rxHoldDue 7) ≤ t.now := by decide +kernel
theorem witness_PanelsAndReceivers_10 : let s := svc [(Obj.rxEnable 7, 1), (Obj.rxState 7, 2), (Obj.layerEnable 0 1, 1), (Obj.layerMode 0, 1), (Obj.layerSourceRx 0 1, 7)]; s.up = true ∧ (s.setRegs [(Obj.rxWidth 7, 8), (Obj.rxHeight 7, 4)]).rxLayer 7 = some (0, 1) ∧ (s.setRegs [(Obj.rxWidth 7, 8), (Obj.rxHeight 7, 4)]).reg (Obj.layerSrcWidth 0 1) ≠ 8 := by decide +kernel
theorem witness_PanelsAndReceivers_11 : let s := svc [(Obj.teUse 7, 1), (Obj.teEdge 7, 1)]; s.up = true ∧ s.reg (Reg.portReset (U.head 7)) ≠ 1 ∧ s.reg (Obj.teUse 7) = 1 ∧ false ≠ (s.reg (Obj.teEdge 7) == 1) := by decide +kernel

/-- The premises of `Obligations.EnsignRuntime`, clause by clause. -/
theorem witness_EnsignRuntime_1 : let s := svc [(Reg.unitState U.ens, 2)]; s.up = true ∧ s.ensRuns = true ∧ ((s.setReg Reg.ensPeriodMissed 0).boundary (0x1000 + U.ens)).activePkg = none := by decide +kernel
theorem witness_EnsignRuntime_2 : let s := ens []; s.up = true ∧ s.ensRuns = true ∧ ((s.setReg Reg.ensPeriodMissed 0).boundary (0x1000 + U.ens)).activePkg = some pkg := by decide +kernel
theorem witness_EnsignRuntime_3 : let s := ens [(Obj.pageShown 0 0, 1)]; s.up = true ∧ s.activePkg = some pkg ∧ pkg.acks[1]? = some ⟨0, 0, 0, 0, 4, 2, 3⟩ ∧ s.ensRuns = true ∧ State.pkgPage pkg ((Ens.ackPlays s []).reg (Obj.pageShown (Ens.ackRegion (Ens.ackPlays s []) ⟨0, 0, 0, 0, 4, 2, 3⟩).1 (Ens.ackRegion (Ens.ackPlays s []) ⟨0, 0, 0, 0, 4, 2, 3⟩).2)) = some ⟨1, 0, 0, 0, 0, none, false, 0xFF, [], []⟩ := by decide +kernel
theorem witness_EnsignRuntime_4 : (svc []).up = true := by decide +kernel
theorem witness_EnsignRuntime_5 : let s := ens []; s.up = true ∧ s.backBuffer 0 0 = some (ensSram + 8, 4, 2) ∧ s.ensRuns = true ∧ 1 + 3 ≤ 4 ∧ 1 + 1 ≤ 2 ∧ (s.backBuffer 0 0).isNone = false := by decide +kernel
theorem witness_EnsignRuntime_6 : let s := ens []; s.up = true ∧ s.backBuffer 0 0 = some (ensSram + 8, 4, 2) ∧ 4 < 2 + 3 := by decide +kernel
theorem witness_EnsignRuntime_7 : let s := ensHal []; Passes s 7 Obj.packageOp ∧ (s.heard 7).reg Obj.packageState ≠ 3 ∧ Ens.pkgHeld (s.heard 7) pkg = false ∧ State.pkgVerify (s.heard 7) pkg = none ∧ (s.heard 7).stagedPkg = none := by decide +kernel
theorem witness_EnsignRuntime_8 : let s := ensHal []; Ens.pkgHeld (s.heard 7) pkg = false ∧ State.pkgVerify (s.heard 7) { pkg with sigOk := false } = some (St.ensPackageSig, 0, 0) := by decide +kernel
theorem witness_EnsignRuntime_9 : let s := { ensHal [] with stagedPkg := some pkg }; Passes s 7 Obj.packageOp ∧ (s.heard 7).reg Obj.packageState ≠ 3 ∧ (s.heard 7).stagedPkg = some pkg ∧ Ens.pkgHeld (s.heard 7) pkg = false ∧ State.pkgInputClash (s.heard 7) pkg = false := by decide +kernel
theorem witness_EnsignRuntime_10 : let s := ensHal [(Obj.packageState, 3)]; Passes s 7 Obj.packageOp ∧ (s.heard 7).reg Obj.packageState = 3 := by decide +kernel

/-- The premises of `Obligations.IntegrityChecks`, clause by clause. -/
theorem witness_IntegrityChecks_1 : let s := svc [(Obj.sigRegionKind 7 15, 1), (Obj.headState 7, 1), (Obj.portState 14, 3), (Obj.portMode 7, 0)]; s.up = true ∧ s.reg (Obj.sigRegionKind 7 15) = 1 ∧ s.headLit 7 = true ∧ s.regionSent 7 15 = true ∧ s.reg (Obj.stratusState 7) ≠ 2 := by decide +kernel
theorem witness_IntegrityChecks_2 : let s := svc [(Obj.sigRegionKind 7 15, 2), (Obj.headState 7, 1), (Obj.portState 14, 3), (Obj.portMode 7, 0)]; s.up = true ∧ s.reg (Obj.sigRegionKind 7 15) ≠ 0 ∧ s.reg (Obj.sigRegionKind 7 15) ≠ 1 ∧ s.headLit 7 = true ∧ s.regionSent 7 15 = true ∧ s.reg (Obj.stratusState 7) ≠ 2 ∧ s.reg (Obj.sigRegionCheck 7 15) ≠ 3 ∧ s.reg (Reg.regionResign 7 15) = 0 ∧ (s.num (Num.sigExp 7 15 0)).getD 0 0 = 0 := by decide +kernel
theorem witness_IntegrityChecks_3 : let s := svc [(Obj.sigRegionKind 7 15, 1), (Obj.sigLiveWindowMs 7 15, 50), (Reg.sigSeen 7 15, 1), (Reg.sigLastAt 7 15, 50000000)]; let t := { s with now := 50000000 }; t.up = true ∧ Ens.watching t 7 15 = true ∧ t.reg (Reg.sigSeen 7 15) ≠ 0 ∧ t.reg (Reg.sigFrozenAt 7 15) = 0 ∧ t.reg (Reg.sigWindow 7 15) + 1000000 * Ens.window t 7 15 ≤ t.now ∧ t.now ≤ t.reg (Reg.sigLastAt 7 15) + 1000000 * Ens.window t 7 15 ∧ t.reg (Obj.sigRegionKind 7 15) = 1 := by decide +kernel
theorem witness_IntegrityChecks_4 : let s := svc [(Obj.sigRegionKind 7 15, 2), (Obj.regionLive 7 15, 1), (Reg.sigFreeze 7 15, 50), (Obj.sigRegionCheck 7 15, 1), (Reg.sigSeen 7 15, 1), (Reg.sigLastAt 7 15, 50000000)]; let t := { s with now := 50000000 }; t.up = true ∧ Ens.watching t 7 15 = true ∧ t.reg (Reg.sigSeen 7 15) ≠ 0 ∧ t.reg (Reg.sigFrozenAt 7 15) = 0 ∧ t.reg (Reg.sigWindow 7 15) + 1000000 * Ens.window t 7 15 ≤ t.now ∧ t.now ≤ t.reg (Reg.sigLastAt 7 15) + 1000000 * Ens.window t 7 15 ∧ (t.setReg (Reg.sigFrozenAt 7 15) (t.now + 1)).reg (Obj.sigRegionKind 7 15) ≠ 1 ∧ Ens.stallNow (t.setReg (Reg.sigFrozenAt 7 15) (t.now + 1)) (Ens.window t 7 15) = false := by decide +kernel
theorem witness_IntegrityChecks_5 : let s := svc [(Obj.sigRegionKind 7 15, 2), (Obj.headState 7, 1), (Obj.portState 14, 3), (Obj.portMode 7, 0), (Reg.regionResign 7 15, 1)]; s.up = true ∧ s.reg (Obj.sigRegionKind 7 15) = 2 ∧ s.headLit 7 = true ∧ s.regionSent 7 15 = true ∧ s.reg (Obj.stratusState 7) ≠ 2 ∧ s.reg (Reg.regionResign 7 15) = 1 := by decide +kernel

/-- The premises of `Obligations.TouchPorts`, clause by clause. -/
theorem witness_TouchPorts_1 : let s := svc [(Reg.touchRun 7, 1)]; s.up = true ∧ s.reg (Reg.touchRun 7) ≠ 0 ∧ s.reg (Reg.portReset (U.touch 7)) ≠ 1 ∧ s.tracked 7 = [] ∧ s.reg (Reg.touchWatch 7) = 0 := by decide +kernel
theorem witness_TouchPorts_2 : let s := svc [(Reg.touchRun 7, 1), (Obj.scanRateHz 7, 240)]; let t := { s with now := 1000000 * s.reg (Obj.idleStep1Ms 7) }; (let idle := t.now - t.reg (Reg.touchLastAt 7); (if 1000000 * t.reg (Obj.idleStep3Ms 7) ≤ idle then 8 else if 1000000 * t.reg (Obj.idleStep2Ms 7) ≤ idle then 30 else if 1000000 * t.reg (Obj.idleStep1Ms 7) ≤ idle then 120 else 240) = 120) ∧ 120 < t.reg (Obj.scanRateHz 7) ∧ ¬ 1000000 * s.reg (Obj.idleStep1Ms 7) ≤ 0 := by decide +kernel
theorem witness_TouchPorts_3 : let s := svc [(Reg.touchWatch 7, 1)]; s.up = true ∧ s.reg (Reg.touchWatch 7) ≠ 0 ∧ s.reg (Reg.touchWatch 7) ≤ s.now + 1 := by decide +kernel
theorem witness_TouchPorts_4 : let s := svc [(Obj.gloveMode 7, 2), (Reg.touchGlove 7, 1)]; s.up = true ∧ s.reg (Obj.gloveMode 7) = 2 ∧ s.reg (Reg.touchGlove 7) ≠ 0 ∧ s.reg (Reg.touchGloveUntil 7) ≤ s.now ∧ s.reg (Reg.touchWetUntil 7) ≤ s.now := by decide +kernel
theorem witness_TouchPorts_5 : let s := svc [(Reg.touchStartAt 7, 1)]; let t := { s with now := 103333333 }; t.up = true ∧ t.reg (Reg.touchStartAt 7) ≠ 0 ∧ t.reg (Reg.touchStartAt 7) + 103333333 ≤ t.now + 1 ∧ ¬ (2 * 1 ≤ 0 ∧ 0 < 0) := by decide +kernel
theorem witness_TouchPorts_6 : let s := svc [(Reg.touchRun 7, 1), (Obj.scanRateHz 7, 30)]; s.up = true ∧ s.reg (Reg.touchRun 7) ≠ 0 ∧ s.reg (Obj.scanRateHz 7) ≤ 30 ∧ s.reg (Reg.touchIntegDue 7) ≤ s.now + 1 := by decide +kernel

/-- The premises of `Obligations.Haptics`, clause by clause. -/
theorem witness_Haptics_1 : let s := ringAt 6 [hdr 0x60 1 0, 0x80000117 + 0x640000] [(Reg.blockHolder (U.hapChannel 2 7), 4), (Reg.blockState (U.hapChannel 2 7), 0), (Obj.hapChEnable 2 7, 1)]; HasP s 31 6 0x60 (fun p => decide (p.word 0 % 256 = 8 * 2 + 7) && s.holdsBlock (s.instWorld 31) (U.hapChannel 2 7) && s.mayTake true && decide (bits (p.word 0) 8 8 = 1) && ((s.itemAccept (U.hapChannel 2 7) (s.instWorld 31) 31 6 (s.reg (Reg.ringRptr 31 6)) 0x60 classD 0 []).hapPlay 2 7 3 (s.instWorld 31 + 1) 1 (bits (p.word 0) 16 8) (bits (p.word 0) 24 8)).2 == St.ok) := has (by decide +kernel)
theorem witness_Haptics_2 : let s := ringAt 6 [hdr 0x60 1 0, 96 * 256 + 23] [(Reg.blockHolder (U.hapChannel 2 7), 4), (Reg.blockState (U.hapChannel 2 7), 0), (Obj.hapChEnable 2 7, 1)]; HasP s 31 6 0x60 (fun p => decide (p.word 0 % 256 = 8 * 2 + 7) && s.holdsBlock (s.instWorld 31) (U.hapChannel 2 7) && s.mayTake true && ((s.itemAccept (U.hapChannel 2 7) (s.instWorld 31) 31 6 (s.reg (Reg.ringRptr 31 6)) 0x60 classD 0 []).hapPlay 2 7 3 (s.instWorld 31 + 1) (bits (p.word 0) 8 8) (bits (p.word 0) 16 8) (bits (p.word 0) 24 8)).2 == St.effectUnknown) := has (by decide +kernel)
theorem witness_Haptics_3 : let s := ringAt 6 [hdr 0x61 1 0, 23] [(Reg.blockHolder (U.hapChannel 2 7), 4), (Reg.blockState (U.hapChannel 2 7), 0)]; HasP s 31 6 0x61 (fun p => decide (p.word 0 % 256 = 8 * 2 + 7) && decide (p.word 0 / 256 = 0) && s.holdsBlock (s.instWorld 31) (U.hapChannel 2 7) && s.mayTake true) := has (by decide +kernel)
theorem witness_Haptics_4 : HasP (ringAt 6 [hdr 0x60 1 0, 24] []) 31 6 0x60 (fun p => p.word 0 % 256 == 24) := has (by decide +kernel)
theorem witness_Haptics_5 : let s := ringAt 6 [hdr 0x60 1 0, 23] []; HasP s 31 6 0x60 (fun p => p.word 0 % 256 == 23 && !s.holdsBlock (s.instWorld 31) (U.hapChannel 2 7)) := has (by decide +kernel)
theorem witness_Haptics_6 : let s := srv 0 0 []; Takes s 7 (Obj.hapChPlayEffect 2 7) [1, 100, 128, 0] ∧ (Hap.source (s.heard 7) 7 2 7).2.2 = St.ok ∧ bytesAt [1, 100, 128, 0] 3 1 = 0 ∧ Takes s 7 (Obj.hapChPlayEffect 2 7) [1, 100, 128, 1] ∧ bytesAt [1, 100, 128, 1] 3 1 ≠ 0 := by decide +kernel
theorem witness_Haptics_7 : let s := srv 3 2 [(Reg.blockHolder (U.hapChannel 2 7), 4)]; Takes s 7 (Obj.hapChPlayEffect 2 7) [1, 100, 128, 0] ∧ (Hap.source (s.heard 7) 7 2 7).2.2 ≠ St.ok := by decide +kernel
theorem witness_Haptics_8 : let s := svc [(Reg.hapBusy 2 7, 1), (Obj.hapChEffectNow 2 7, 1)]; let t := { s with now := 10000000000 }; t.up = true ∧ t.reg (Reg.hapBusy 2 7) ≠ 0 ∧ t.hapFinished 2 7 = true := by decide +kernel
theorem witness_Haptics_9 : let s := svc [(Reg.hapDue 2 7, 1)]; s.up = true ∧ s.reg (Reg.hapDue 2 7) ≠ 0 := by decide +kernel
theorem witness_Haptics_10 : let u := Hap.power (svc []) 2 0; (svc []).up = true ∧ (svc []).reg (Reg.portReset (U.hapGroup 2)) ≠ 1 ∧ u.reg (Reg.hapBusy 2 7) = 0 := by decide +kernel
theorem witness_Haptics_11 : let u := Hap.power (svc [(Reg.hapBusy 2 7, 1), (Obj.hapChEffectNow 2 7, 1), (Reg.hapScale 2 7, 128)]) 2 0; u.reg (Reg.hapBusy 2 7) ≠ 0 ∧ ((u.hapSegments 2 7).find? (fun p => decide (p.1 ≤ u.now - u.reg (Reg.hapAt 2 7)) && decide (u.now - u.reg (Reg.hapAt 2 7) < p.2))).isSome = true := by decide +kernel
theorem witness_Haptics_12 : let u := Hap.power { svc [(Reg.hapBusy 2 7, 1), (Obj.hapChEffectNow 2 7, 1), (Reg.hapScale 2 7, 128)] with now := 10000000000 } 2 0; let t := u.now - u.reg (Reg.hapAt 2 7); u.reg (Reg.hapBusy 2 7) ≠ 0 ∧ (u.hapSegments 2 7).find? (fun p => decide (p.1 ≤ t) && decide (t < p.2)) = none ∧ (((u.hapSegments 2 7).filter (fun p => decide (p.2 ≤ t))).getLast?).isSome = true := by decide +kernel
theorem witness_Haptics_13 : let s := svc [(Reg.hapBusy 2 7, 1)]; let t := { s with now := 2000000 }; t.up = true ∧ t.reg (Reg.hapBusy 2 7) ≠ 0 ∧ t.reg (Reg.hapChecked 2 7) ≠ 1 ∧ 1000000 * (t.hapField 2 7 2 + 2) ≤ t.now - t.reg (Reg.hapAt 2 7) := by decide +kernel
theorem witness_Haptics_14 : (svc []).up = true ∧ (1250 : Int) < toSigned 2 1251 ∧ toSigned 2 1250 ≤ 1250 ∧ (1100 : Int) < toSigned 2 1101 ∧ toSigned 2 1100 ≤ 1100 ∧ toSigned 2 999 < 1000 ∧ (svc []).reg (Reg.hapHot 2) = 0 := by decide +kernel
theorem witness_Haptics_15 : let s := svc [(Reg.hapRetry 2, 9)]; let t := { s with now := 9 }; t.up = true ∧ t.reg (Reg.hapRetry 2) ≠ 0 ∧ t.reg (Reg.hapRetry 2) ≤ t.now := by decide +kernel

/-- The premises of `Obligations.Audio`, clause by clause. -/
theorem witness_Audio_1 : let s := svc [(Reg.unitState U.aud, 1)]; s.up = true ∧ s.reg (Reg.portReset U.aud) ≠ 1 ∧ s.audRuns = true := by decide +kernel
theorem witness_Audio_2 : let s := svc [(Reg.unitState U.aud, 5)]; s.up = true ∧ s.reg (Reg.portReset U.aud) ≠ 1 ∧ s.mSample.audRuns = false := by decide +kernel
theorem witness_Audio_3 : let s := svc [(Reg.unitState U.aud, 1)]; s.mSample.audRuns = true := by decide +kernel
theorem witness_Audio_4 : let s := svc [(Reg.unitState U.aud, 1)]; (s.count (432 + 2) 1).audRuns = true ∧ (s.count (432 + 2) 1).audWhole = true := by decide +kernel
theorem witness_Audio_5 : let s := svc [(Reg.backupTone, 1), (Reg.backupAt, 1)]; let u := s.tonesDerive; s.up = true ∧ (u.reg Reg.backupAt = 0 ∨ u.now < u.reg Reg.backupAt - 1 + 250000000) := by decide +kernel
theorem witness_Audio_6 : let s := { svc [(Reg.backupTone, 1), (Reg.backupAt, 1)] with now := 250000000 }; let u := s.tonesDerive; s.up = true ∧ u.reg Reg.backupAt ≠ 0 ∧ u.reg Reg.backupAt - 1 + 250000000 ≤ u.now := by decide +kernel
theorem witness_Audio_7 : let s := svc [(Reg.unitState U.aud, 1), (Obj.bridgeState 3, 1)]; s.up = true ∧ s.reg (Obj.bridgeState 3) = 1 ∧ (6 * 2 ^ 24 ≤ 6 * 2 ^ 24) ∧ 2 ^ 24 ≤ 6 * (6 * 2 ^ 24) ∧ s.audWhole = true ∧ s.audRuns = true := by decide +kernel
theorem witness_Audio_8 : let s := svc [(Obj.bridgeState 3, 2)]; s.up = true ∧ s.reg (Obj.bridgeState 3) = 2 := by decide +kernel
theorem witness_Audio_9 : let s := ringAt 5 [hdr 0x70 8 0, 31, 0, 0, 0, 0, 0, 0, 0] [(Obj.streamWorld 31, 4)]; (s.bufs 31).length < 64 ∧ s.reg (Obj.streamDir 31) = 0 ∧ HasP s 31 5 0x70 (fun p => p.word 0 == 31 && s.reg (Obj.streamWorld 31) == s.instWorld 31 && s.mayTake true) := ⟨by decide +kernel, by decide +kernel, has (by decide +kernel)⟩
theorem witness_Audio_10 : let s := ringAt 5 [hdr 0x71 8 0, 31, 0, 0, 0, 0, 0, 0, 0] [(Obj.streamWorld 31, 4), (Obj.streamDir 31, 1)]; (s.bufs 31).length < 64 ∧ s.reg (Obj.streamDir 31) = 1 ∧ HasP s 31 5 0x71 (fun p => p.word 0 == 31 && s.reg (Obj.streamWorld 31) == s.instWorld 31 && s.mayTake true) := ⟨by decide +kernel, by decide +kernel, has (by decide +kernel)⟩
theorem witness_Audio_11 : let s := ringAt 5 [hdr 0x72 3 0, 31, 0, 0] [(Obj.streamWorld 31, 4)]; HasP s 31 5 0x72 (fun p => p.word 0 == 31 && s.reg (Obj.streamWorld 31) == s.instWorld 31 && s.mayTake true) := has (by decide +kernel)
theorem witness_Audio_12 : let s := ringAt 5 [hdr 0x73 1 0, 31] [(Obj.streamWorld 31, 4)]; HasP s 31 5 0x73 (fun p => p.word 0 == 31 && s.reg (Obj.streamWorld 31) == s.instWorld 31 && s.mayTake true) := has (by decide +kernel)
theorem witness_Audio_13 : let s := (svc []).setBufs 31 [⟨0, 4, 4, 4, 0, 0, 31, 9⟩]; s.up = true ∧ s.bufs 31 = ⟨0, 4, 4, 4, 0, 0, 31, 9⟩ :: [] ∧ 4 ≤ 4 := by decide +kernel
theorem witness_Audio_14 : (svc [(Obj.tdmMode 7, 2), (Obj.tdmState 7, 1)]).up = true ∧ (svc [(Obj.tdmMode 7, 2)]).reg (Obj.tdmMode 7) = 2 ∧ (svc [(Obj.tdmState 7, 1)]).reg (Obj.tdmState 7) = 1 ∧ (svc [(Obj.tdmState 7, 2)]).reg (Obj.tdmState 7) = 2 := by decide +kernel

/-- The premises of `Obligations.PennantAlu`, clause by clause. -/
theorem witness_PennantAlu : ∀ x ∈ [(Pen.Op.mov, 0x0F10), (.add, 0x0F11), (.sub, 0x0F12), (.adc, 0x0F13), (.sbc, 0x0F14), (.and, 0x0F15), (.or, 0x0F16), (.xor, 0x0F17), (.shl, 0x0F18), (.shr, 0x0F19), (.sra, 0x0F1A), (.cmp, 0x0F1B), (.tst, 0x0F1C), (.mul, 0x0F1D), (.mulh, 0x0F1E), (.not, 0x0F1F), (.addi, 0x1FFF), (.movi, 0x2FFF), (.movhi, 0x3FFF), (.cmpi, 0x4FFF)], Meets (core 31 x.2 []) 31 x.1 x.2 ((core 31 x.2 []).coreSpend 31 1) := by decide +kernel

/-- The premises of `Obligations.PennantFlags`, clause by clause. -/
theorem witness_PennantFlags : (Pen.addRes 1 2 0).cv = some (false, false) ∧ (Pen.plain 0).cv = none ∧ 0 < 4 := by decide +kernel

/-- The premises of `Obligations.PennantLoadsAndStores`, clause by clause. -/
theorem witness_PennantLoadsAndStores_1 : ∀ x ∈ [(Pen.Op.ldw, 0x5FF7), (.stw, 0x6FF7), (.ldb, 0x7FF7), (.stb, 0x7FFF)], Meets (core 31 x.2 [(Reg.coreG 31 15, 0xFF0)]) 31 x.1 x.2 ((core 31 x.2 [(Reg.coreG 31 15, 0xFF0)]).coreSpend 31 1) := by decide +kernel
theorem witness_PennantLoadsAndStores_2 : (∀ w ∈ [0x5FF7, 0x6FF7], let u := (core 31 w [(Reg.coreG 31 15, 0xFF0)]).coreSpend 31 1; u.corePlace 31 ((u.g 31 (Pen.rs w) + 2 * bits w 0 4) % 65536) 2 = .data) ∧ ∀ w ∈ [0x7FF7, 0x7FFF], let u := (core 31 w [(Reg.coreG 31 15, 0xFF0)]).coreSpend 31 1; u.corePlace 31 ((u.g 31 (Pen.rs w) + bits w 0 3) % 65536) 1 = .data := by decide +kernel
theorem witness_PennantLoadsAndStores_3 : ∀ x ∈ [(Pen.Op.ldw, 0x5FF7), (.stw, 0x6FF7), (.ldb, 0x7FF7), (.stb, 0x7FFF)], let s := core 31 x.2 [(Reg.coreG 31 15, 0x1001)]; let u := s.coreSpend 31 1; Meets s 31 x.1 x.2 u ∧ u.corePlace 31 ((u.g 31 (Pen.rs x.2) + 2 * bits x.2 0 4) % 65536) 2 = .fault 2 ∧ u.corePlace 31 ((u.g 31 (Pen.rs x.2) + bits x.2 0 3) % 65536) 1 = .fault 1 := by decide +kernel

/-- The premises of `Obligations.PennantControl`, clause by clause. -/
theorem witness_PennantControl_1 : ∀ x ∈ [(Pen.Op.bcc, 0x80FF), (.bcc, 0x81FF), (.jmp, 0x9000), (.call, 0xA000), (.jr, 0xBF80), (.rete, 0xB081), (.mfs, 0xBF27), (.mts, 0xBF67), (.wait, 0xB082), (.pwait, 0xB083), (.ei, 0xB085), (.di, 0xB086), (.nop, 0xB087)], Meets (core 31 x.2 []) 31 x.1 x.2 ((core 31 x.2 []).coreSpend 31 1) := by decide +kernel
theorem witness_PennantControl_2 : Pen.cond (Pen.rd 0x80FF) (((core 31 0x80FF []).coreSpend 31 1).reg (Reg.coreFlags 31)) = false ∧ Pen.cond (Pen.rd 0x81FF) (((core 31 0x81FF []).coreSpend 31 1).reg (Reg.coreFlags 31)) = true := by decide +kernel
theorem witness_PennantControl_3 : let s := (core 31 0 [(Reg.coreFlags 31, 16), (Reg.coreEvmask 31, 0x8000)]).setNum (Num.coreQ 31) [0xF100]; s.up = true ∧ (s.setReg (Reg.coreWait 31) 0).coreAwake 31 = true ∧ s.coreIe 31 = true ∧ s.coreDue 31 = true ∧ 31 < 32 := by decide +kernel
theorem witness_PennantControl_4 : let s := core 31 0 [(Reg.coreTmrCtl 31 3, 0xC000)]; s.up = true ∧ bit (s.reg (Reg.coreTmrCtl 31 3)) 15 = true ∧ s.reg (Obj.coreState 31) ≠ 3 ∧ s.tmrNow 31 3 = 0 := by decide +kernel
theorem witness_PennantControl_5 : ∀ x ∈ [(0x8000, true), (0xA000, false), (0xC000, true)], let s := svc [(Reg.coreEdge 31 7, x.1)]; s.up = true ∧ bit (s.reg (Reg.coreEdge 31 7)) 15 = true ∧ (bits (s.reg (Reg.coreEdge 31 7)) 13 2 = 2 ∨ (bits (s.reg (Reg.coreEdge 31 7)) 13 2 = 0 ∧ x.2 = true) ∨ (bits (s.reg (Reg.coreEdge 31 7)) 13 2 = 1 ∧ x.2 = false)) ∧ Pen.isOwner 31 = false := by decide +kernel
theorem witness_PennantControl_6 : let s := svc [(Obj.corePeriodUs 29, 1000)]; s.up = true ∧ s.reg (Obj.corePeriodSource 29) ≠ 1 ∧ s.now % (1000 * (if Pen.isOwner 29 then s.reg (Obj.corePeriodUs 29) else if 16 ≤ 29 ∧ 29 < 22 then 1000 else 0)) = 0 := by decide +kernel
theorem witness_PennantControl_7 : let s := svc [(Obj.coreState 29, 4)]; s.up = true ∧ s.reg (Obj.coreState 29) = 4 ∧ s.reg (Reg.coreBack 29) ≠ 1 ∧ s.reg (Reg.coreReady 29) ≠ 1 ∧ s.reg (Reg.unitState (U.core 29)) ≠ 5 ∧ ((s.num (Num.coreResets 29)).filter (fun t => decide (s.now < t + 60000000000))).length < 2 := by decide +kernel
theorem witness_PennantControl_8 : let s := (svc [(Obj.coreState 29, 4)]).setNum (Num.coreResets 29) [0, 0]; 2 ≤ ((s.num (Num.coreResets 29)).filter (fun t => decide (s.now < t + 60000000000))).length := by decide +kernel

/-- The premises of `Obligations.PennantBlocks`, clause by clause. -/
theorem witness_PennantBlocks_1 : ∀ x ∈ [(Pen.Op.bmov, 0xC000), (.bfeed, 0xC1F0), (.bmac, 0xC200), (.waitv, 0xC300)], let u := (core 31 x.2 []).coreSpend 31 1; u.g 31 14 = 0 ∧ Meets (core 31 x.2 []) 31 x.1 x.2 u := by decide +kernel
theorem witness_PennantBlocks_2 : let u := elem 31 0xC000 []; u.g 31 14 ≠ 0 ∧ (match u.elemWord 31 (u.g 31 12) with | .ok (x, v) => (x.coreWrite 31 (x.g 31 13) 2 v).isOk | .error _ => false) = true := by decide +kernel
theorem witness_PennantBlocks_3 : let u := elem 31 0xC1F2 [(Obj.chkFeedSource 15, 31)]; u.g 31 14 ≠ 0 ∧ Meets (core 31 0xC1F2 [(Reg.coreG 31 14, 2), (Reg.coreG 31 12, 0x100), (Reg.coreG 31 13, 0x200), (Obj.chkFeedSource 15, 31)]) 31 .bfeed 0xC1F2 u ∧ u.coreMayFeed 31 (bits 0xC1F2 4 4) = true ∧ (u.elemBytes 31 (u.g 31 12) (Pen.feedBytes 0xC1F2)).isOk = true := by decide +kernel
theorem witness_PennantBlocks_4 : let u := elem 31 0xC200 []; u.g 31 14 ≠ 0 ∧ (match u.elemWord 31 (u.g 31 12) with | .ok (x, _) => (x.elemWord 31 (x.g 31 13)).isOk | .error _ => false) = true := by decide +kernel
theorem witness_PennantBlocks_5 : let u := elem 31 0xC300 [(Reg.coreG 31 13, 0)]; (match u.elemWord 31 (u.g 31 12) with | .ok (x, v) => decide ((v &&& x.g 31 13) = x.g 31 11) | .error _ => false) = true := by decide +kernel
theorem witness_PennantBlocks_6 : let u := elem 31 0xC300 [(Reg.coreG 31 13, 0), (Reg.coreG 31 11, 1), (Reg.coreG 31 14, 1)]; (match u.elemWord 31 (u.g 31 12) with | .ok (x, v) => decide ((v &&& x.g 31 13) ≠ x.g 31 11 ∧ x.g 31 14 = 1) | .error _ => false) = true := by decide +kernel
theorem witness_PennantBlocks_7 : let u := elem 31 0xC300 [(Reg.coreG 31 13, 0), (Reg.coreG 31 11, 1)]; (match u.elemWord 31 (u.g 31 12) with | .ok (x, v) => decide ((v &&& x.g 31 13) ≠ x.g 31 11 ∧ x.g 31 14 ≠ 1) | .error _ => false) = true := by decide +kernel
theorem witness_PennantBlocks_8 : let u := elem 31 0xC000 [(Reg.coreG 31 12, 0x101)]; u.g 31 14 ≠ 0 ∧ (u.elemWord 31 (u.g 31 12)).isOk = false := by decide +kernel
theorem witness_PennantBlocks_9 : let s := (core 31 0xC000 [(Reg.coreFlags 31, 16), (Reg.coreEvmask 31, 0x8000)]).setNum (Num.coreQ 31) [0xF100]; s.coreEnters 31 = true ∧ s.reg (Reg.coreBlk 31) ≠ 1 := by decide +kernel
theorem witness_PennantBlocks_10 : let u := elem 31 0xC1F0 []; u.g 31 14 ≠ 0 ∧ u.coreMayFeed 31 (bits 0xC1F0 4 4) = false := by decide +kernel

/-- The premises of `Obligations.Programs`, clause by clause. -/
theorem witness_Programs_1 : let s := srv 3 2 []; Takes s 7 (Obj.coreProgramStage 29) (List.replicate 168 0) ∧ (s.heard 7).bankFree 29 = St.ok := by decide +kernel
theorem witness_Programs_2 : let s := srv 0 0 []; Takes s 7 (Obj.coreProgramStage 21) (List.replicate 168 0) ∧ (s.heard 7).bankFree 21 ≠ St.ok := by decide +kernel
theorem witness_Programs_3 : let s := srv 3 2 []; Takes s 7 (Obj.coreProgramOp 29) [1] ∧ (s.heard 7).bankFree 29 = St.ok ∧ Takes s 7 (Obj.coreProgramOp 29) [2] := by decide +kernel
theorem witness_Programs_4 : let s := (srv 3 2 [(Obj.ownerSlot, 0)]).setFifo (Fifo.image 29 1) [List.replicate 64 0 ++ [0x10] ++ List.replicate 103 0]; let m := (s.heard 7).image 29 ((s.heard 7).idleBank 29); Takes s 7 (Obj.coreProgramOp 29) [1] ∧ (s.heard 7).bankFree 29 = St.ok ∧ 104 ≤ m.length ∧ 0x10 ≤ bytesAt m (m.length - 104) 1 ∧ (s.heard 7).keyLive (bytesAt m (m.length - 104) 1) = true := by decide +kernel
theorem witness_Programs_5 : (svc []).up = true ∧ (svc []).reg Reg.ensHalted ≠ 1 ∧ (svc []).reg Reg.ensDown ≠ 1 ∧ (svc [(Reg.ensDown, 1)]).reg Reg.ensDown ≠ 0 := by decide +kernel

/-- The premises of `Obligations.EventQueue`, clause by clause. -/
theorem witness_EventQueue : let s := (svc []).setNum (Num.coreQ 31) [0xF100]; (∀ e ∈ s.coreQueue 31, e / 4096 ≠ 14) ∧ (∃ e ∈ s.coreQueue 31, e / 4096 = 15) ∧ ((s.coreQueue 31).map (fun e => e / 4096)).Nodup ∧ (∀ e ∈ s.coreQueue 31, e / 4096 < 16) := by decide +kernel

/-- The premises of `Obligations.CoreMessages`, clause by clause. -/
theorem witness_CoreMessages_1 : let s := srv 3 2 [(Reg.blockHolder (U.core 29), 2)]; Takes s 7 (Obj.coreMailboxIn 29) [1, 2] ∧ (s.heard 7).reg (Reg.coreMbxNew 29) ≠ 1 := by decide +kernel
theorem witness_CoreMessages_2 : let s := srv 3 2 [(Reg.coreMbxNew 29, 1)]; Takes s 7 (Obj.coreMailboxIn 29) [1, 2] ∧ (s.heard 7).reg (Reg.coreMbxNew 29) = 1 := by decide +kernel
theorem witness_CoreMessages_3 : let s := core 31 0xBF84 [(Reg.corePeer 31, 30)]; let u := s.coreSpend 31 1; Meets s 31 .send 0xBF84 u ∧ u.reg (Reg.corePeer 31) ≤ 31 ∧ u.coreWorld (u.reg (Reg.corePeer 31)) = u.coreWorld 31 ∧ u.reg (Reg.corePeerNew (u.reg (Reg.corePeer 31))) ≠ 1 := by decide +kernel
theorem witness_CoreMessages_4 : let s := core 31 0xBF84 [(Reg.corePeer 31, 30), (Reg.corePeerNew 30, 1)]; let u := s.coreSpend 31 1; Meets s 31 .send 0xBF84 u ∧ u.reg (Reg.corePeerNew (u.reg (Reg.corePeer 31))) = 1 := by decide +kernel
theorem witness_CoreMessages_5 : ∀ p ∈ [29, 32], let s := core 31 0xBF84 [(Reg.corePeer 31, p)]; let u := s.coreSpend 31 1; Meets s 31 .send 0xBF84 u ∧ (31 < u.reg (Reg.corePeer 31) ∨ u.coreWorld (u.reg (Reg.corePeer 31)) ≠ u.coreWorld 31) := by decide +kernel

/-- The premises of `Obligations.CheckUnits`, clause by clause. -/
theorem witness_CheckUnits_1 : let s := srv 0 0 [(Obj.chkFeedSource 15, 0)]; Takes s 7 (Obj.chkFeedData 15) [1] ∧ (s.heard 7).reg (Obj.chkFeedSource 15) ≠ 0xFF := by decide +kernel
theorem witness_CheckUnits_2 : let s := srv 0 0 [(Obj.chkFeedSource 15, 0xFF)]; Takes s 7 (Obj.chkFeedData 15) [1] ∧ (s.heard 7).reg (Obj.chkFeedSource 15) = 0xFF ∧ (s.heard 7).reg (Obj.chkRecordMode 15) = 0 := by decide +kernel
theorem witness_CheckUnits_3 : let s := srv 0 0 [(Obj.chkFeedSource 15, 0xFF), (Obj.chkRecordMode 15, 1)]; Takes s 7 (Obj.chkFeedData 15) (List.replicate 64 1) ∧ (s.heard 7).reg (Obj.chkFeedSource 15) = 0xFF ∧ (s.heard 7).reg (Obj.chkRecordMode 15) = 1 := by decide +kernel
theorem witness_CheckUnits_4 : let s := srv 0 0 []; Takes s 7 (Obj.chkRunningValue 15) (leBytes 8 5) := by decide +kernel
theorem witness_CheckUnits_5 : ∀ x ∈ [(1, [(8 : Byte)]), (2, leBytes 4 1), (3, leBytes 8 1), (4, leBytes 8 1), (5, [0])], Takes (srv 0 0 []) 7 (okey (0x7000 + 0x40 * 15) x.1) x.2 := by decide +kernel
theorem witness_CheckUnits_6 : let s := srv 0 0 [(Obj.chkCrcWidth 15, 8)]; Takes s 7 (okey (0x7000 + 0x40 * 15) 2) (leBytes 4 256) ∧ 2 ^ (s.heard 7).chkWidth 15 ≤ leNat (leBytes 4 256) ∧ leNat (leBytes 4 255) < 2 ^ (s.heard 7).chkWidth 15 := by decide +kernel
theorem witness_CheckUnits_7 : let s := srv 0 0 []; Takes s 7 (Obj.chkCompareOp 15) [1] ∧ Takes s 7 (Obj.chkCompareOp 15) [2] ∧ Takes s 7 (Obj.chkCompareOp 15) [3] := by decide +kernel
theorem witness_CheckUnits_8 : let c := ((srv 0 0 []).heard 7).count (472 + 15) 1; c.reg (Obj.chkResult 15) = c.reg (Obj.chkExpected 15) % 2 ^ c.chkWidth 15 := by decide +kernel
theorem witness_CheckUnits_9 : let c := ((srv 0 0 [(Obj.chkExpected 15, 1)]).heard 7).count (472 + 15) 1; c.reg (Obj.chkResult 15) ≠ c.reg (Obj.chkExpected 15) % 2 ^ c.chkWidth 15 := by decide +kernel

/-- The premises of `Obligations.AliveChecks`, clause by clause. -/
theorem witness_AliveChecks_1 : let s := svc ((List.range 8).map (fun k => (Reg.chkStream 15 k, k + 1))); s.chkSlot 15 8 = none ∧ s.chkSlot 15 7 = some 7 := by decide +kernel
theorem witness_AliveChecks_2 : let s := svc [(Reg.chkStream 15 0, 8)]; s.chkSlot 15 7 = some 0 ∧ 255 < 2 ^ 8 ∧ s.aliveLast 15 0 < 2 ^ 8 ∧ s.reg (Reg.chkLast 15 0) = 0 := by decide +kernel
theorem witness_AliveChecks_3 : let s := svc [(Reg.chkStream 15 0, 8), (Reg.chkLast 15 0, 1), (Obj.chkLastAlive 15, 255), (Obj.chkAliveGap 15, 3)]; s.chkSlot 15 7 = some 0 ∧ s.aliveLast 15 0 = 255 ∧ s.reg (Reg.chkLast 15 0) ≠ 0 ∧ s.reg (Obj.chkAliveGap 15) < 2 ^ 8 ∧ 2 = (s.aliveLast 15 0 + 3) % 2 ^ 8 ∧ 3 ≤ s.reg (Obj.chkAliveGap 15) ∧ 3 = (s.aliveLast 15 0 + 4) % 2 ^ 8 ∧ s.reg (Obj.chkAliveGap 15) < 4 := by decide +kernel

/-- The premises of `Obligations.CryptoJobs`, clause by clause. -/
theorem witness_CryptoJobs_1 : ∀ op ∈ [0x01, 0x02, 0x03], Submits (crypt 1 0 [1, 2, 3]) 7 op := by decide +kernel
theorem witness_CryptoJobs_2 : ∀ x ∈ [(0x10, 1, 1, 14), (0x11, 1, 1, 30), (0x12, 1, 2, 0), (0x13, 1, 2, 16), (0x14, 1, 4, 32), (0x15, 1, 4, 32), (0x20, 3, 8, 48), (0x21, 5, 16, 144), (0x22, 3, 32, 96), (0x23, 3, 0, 0), (0x24, 6, 16, 64)], Submits (crypt x.2.1 x.2.2.1 (List.replicate x.2.2.2 0)) 7 x.1 := by decide +kernel
theorem witness_CryptoJobs_3 : Submits (crypt 1 0 [16, 0]) 7 0x30 := by decide +kernel
theorem witness_CryptoJobs_4 : let s := { crypt 1 0 [] with jobs := [⟨7, 0, true, 1, 9, 0, [], false, false, 0, 0, 0⟩] }; Takes s 7 Obj.cryptoOp (leBytes 1 1) ∧ (s.heard 7).jobOf 7 ≠ none := by decide +kernel
theorem witness_CryptoJobs_5 : let s := { crypt 1 0 [] with jobs := [⟨7, 0, true, 1, 9, 0, [], true, false, 0, 0, 0⟩] }; s.up = true ∧ s.jobOf 7 = some ⟨7, 0, true, 1, 9, 0, [], true, false, 0, 0, 0⟩ ∧ (1 : Nat) ≠ 0x23 := by decide +kernel
theorem witness_CryptoJobs_6 : let s := { crypt 2 0 [] with jobs := [⟨7, 0, true, 0x23, 9, 0, [], true, true, 2, 0, 0⟩] }; s.up = true ∧ s.jobOf 7 = some ⟨7, 0, true, 0x23, 9, 0, [], true, true, 2, 0, 0⟩ ∧ s.tick.slotWritable 9 = St.ok := by decide +kernel
theorem witness_CryptoJobs_7 : (rg []).reg Reg.rngStopped ≠ 1 := by decide +kernel

/-- The premises of `Obligations.SecurityUnit`, clause by clause. -/
theorem witness_SecurityUnit_1 : let s := srv 3 2 [(Obj.lifecycleState, 2), (Obj.acdonSlot, 0), (Obj.ownerTicket, encDomain ticket)]; Takes s 7 Obj.ownerOp [1] ∧ (s.heard 7).ticketStatus (decDomain ((s.heard 7).reg Obj.ownerTicket)) true = St.ok := by decide +kernel
theorem witness_SecurityUnit_2 : let s := srv 3 2 [(Obj.lifecycleState, 2), (Obj.acdonSlot, 0), (Obj.ownerTicket, encDomain ticket)]; (s.heard 7).ticketStatus (decDomain ((s.heard 7).reg Obj.ownerTicket)) false ≠ St.ok ∧ (s.heard 7).reg Obj.lifecycleState ≠ 4 := by decide +kernel
theorem witness_SecurityUnit_3 : let s := srv 3 2 [(Obj.lifecycleState, 3)]; Serves s 7 ∧ (s.heard 7).reg (Reg.sessPending 7) ≠ 1 ∧ (s.heard 7).lifecycleStatus 7 = St.ok := by decide +kernel
theorem witness_SecurityUnit_4 : let s := srv 3 2 [(Obj.lifecycleState, 4)]; Serves s 7 ∧ (s.heard 7).lifecycleStatus 7 ≠ St.ok := by decide +kernel
theorem witness_SecurityUnit_5 : let s := srv 0 0 [(Reg.identityKey, 5)]; Takes s 7 Obj.attestOp [1] ∧ (s.heard 7).signStatus = St.ok := by decide +kernel
theorem witness_SecurityUnit_6 : ∀ k ∈ [1, 3], let s := srv 0 0 [(skey 7 Obj.keySlot, 31), (skey 7 Obj.keyKind, k)]; Keys s 7 1 ∧ (s.heard 7).reg (skey 7 Obj.keyKind) = k ∧ (s.heard 7).reg Reg.rngStopped ≠ 1 ∧ (s.heard 7).tick.slotWritable ((s.heard 7).tick.reg (skey 7 Obj.keySlot)) = St.ok := by decide +kernel
theorem witness_SecurityUnit_7 : let s := srv 0 0 [(skey 7 Obj.keySlot, 31), (skey 7 Obj.keyKind, 1), (skey 7 Obj.keyData, encDomain (List.replicate 32 7))]; Keys s 7 2 ∧ (s.heard 7).mayPlain 7 = true ∧ (s.heard 7).slotWritable 31 = St.ok ∧ (Key.imported ((s.heard 7).reg (skey 7 Obj.keyKind)) (decDomain ((s.heard 7).reg (skey 7 Obj.keyData)))).1 = St.ok := by decide +kernel
theorem witness_SecurityUnit_8 : let s := srv 2 2 []; Keys s 7 2 ∧ (s.heard 7).mayPlain 7 = false := by decide +kernel
theorem witness_SecurityUnit_9 : let w := wrapped; let s := srv 0 0 [(skey 7 Obj.keySlot, 31), (skey 7 Obj.keyKind, 1), (skey 7 Obj.cryptoSlot, 9), (Obj.slotState 9, 1), (Obj.slotKind 9, 1), (Obj.slotUsage 9, 64), (skey 7 Obj.keyData, encDomain w)]; let t := s.heard 7; Keys s 7 3 ∧ t.reg (skey 7 Obj.cryptoSlot) = 9 ∧ t.slotSealed 9 = false ∧ t.reg (Obj.slotState 9) = 1 ∧ t.reg (Obj.slotHolder 9) = t.reg (Reg.sessWorld 7) ∧ t.reg (Obj.slotKind 9) = 1 ∧ bit (t.reg (Obj.slotUsage 9)) 6 = true ∧ Crypto.inputOk 0x11 1 (decDomain (t.reg (skey 7 Obj.keyData))) = true ∧ t.slotWritable 31 = St.ok ∧ (let r := Crypto.result 0x11 1 (t.reg (Reg.slotKey 9)) 0 (decDomain (t.reg (skey 7 Obj.keyData))) 0; r.1 = St.ok ∧ (Key.imported 1 r.2).1 = St.ok) := by decide +kernel
theorem witness_SecurityUnit_10 : let s := srv 0 0 [(Reg.identityLost, 1), (skey 7 Obj.keySlot, 7)]; Keys s 7 4 ∧ (s.heard 7).slotSealed ((s.heard 7).reg (skey 7 Obj.keySlot)) = true := by decide +kernel
theorem witness_SecurityUnit_11 : ∀ x ∈ [0, 1], let s := srv 0 0 [(skey 7 Obj.keySlot, 31), (Obj.slotState 31, x)]; Keys s 7 4 ∧ (s.heard 7).slotSealed ((s.heard 7).reg (skey 7 Obj.keySlot)) = false ∧ (s.heard 7).reg (Obj.slotState ((s.heard 7).reg (skey 7 Obj.keySlot))) = x := by decide +kernel

/-- The premises of `Obligations.Updates`, clause by clause. -/
theorem witness_Updates_1 : let s := srv 0 0 [(Obj.acdonSlot, 0)]; Takes s 7 Obj.updHeader package ∧ (s.heard 7).headerStatus package true ((s.heard 7).reg Obj.updState == 0) = (St.ok, 0) ∧ ((s.heard 7).headerStatus package false ((s.heard 7).reg Obj.updState == 0)).1 ≠ St.ok := by decide +kernel
theorem witness_Updates_2 : Passes (receiving [(Obj.updState, 0)]) 7 Obj.updBody ∧ ((receiving [(Obj.updState, 0)]).heard 7).reg Obj.updState ≠ 1 ∧ ((receiving []).heard 7).reg Obj.updState = 1 ∧ 4096 ≤ 4097 ∧ 4097 ≠ 4096 + ((((receiving []).heard 7).fifo Fifo.updBody).headD []).length := by decide +kernel
theorem witness_Updates_3 : let s := receiving []; let t := s.heard 7; let d := t.updHeaderNow; Passes s 7 Obj.updBody ∧ t.reg Obj.updState = 1 ∧ (t.fifo Fifo.updBody).headD [] = [] ∧ t.reg Reg.updSession = 8 ∧ 4096 + 0 + 1 ≤ Upd.length d ∧ State.touched d 4096 4097 = [] ∧ State.begun d 4096 4097 = [] ∧ State.ended d 4096 4097 = [] := by decide +kernel
theorem witness_Updates_4 : ∀ x ∈ [(1, 2), (2, 2), (2, 3), (2, 0), (3, 5), (3, 4), (4, 5), (4, 0), (5, 0)], let s := srv 0 0 [(Obj.updState, x.2), (Obj.updFloorClass, 3)]; Takes s 7 Obj.updOp (leBytes 1 x.1) ∧ (s.heard 7).reg Obj.updState = x.2 := by decide +kernel
theorem witness_Updates_5 : ((srv 0 0 [(Obj.updState, 2)]).heard 7).updScheduleStatus = St.ok := by decide +kernel
theorem witness_Updates_6 : let s := { srv 3 2 [(Obj.updFloorClass, 3), (Obj.updFloorStep, 0)] with activePkg := some pkg }; Takes s 7 Obj.updOp [5] ∧ (s.heard 7).activePkg = some pkg ∧ (s.heard 7).cls 7 = Cls.own ∧ (s.heard 7).reg Obj.updFloorClass = 3 ∧ (s.heard 7).reg Obj.updFloorStep ≤ pkg.rollback := by decide +kernel
theorem witness_Updates_7 : let s := srv 0 0 [(Obj.updFloorClass, 3)]; Takes s 7 Obj.updOp [5] ∧ (s.heard 7).cls 7 ≠ Cls.own := by decide +kernel
theorem witness_Updates_8 : let s := srv 3 2 [(Obj.updUsbPort, U.usbHost 0 + 1)]; Takes s 7 Obj.updOp [6] ∧ U.usbHost 0 ≤ (s.heard 7).reg Obj.updUsbPort ∧ (s.heard 7).reg Obj.updUsbPort ≤ U.usbHost 0 + 1 ∧ (s.heard 7).cls 7 = Cls.own := by decide +kernel
theorem witness_Updates_9 : let s := svc [(Obj.updState, 3)]; s.up = true ∧ s.reg Obj.powerState ≠ 4 ∧ s.reg Obj.updState = 3 ∧ s.reg Obj.updActivateAt ≤ s.now ∧ s.locked = true := by decide +kernel
theorem witness_Updates_10 : let s := svc [(Obj.updState, 3), (Obj.hoistRole, 2), (Obj.timeLocked, 0)]; s.up = true ∧ s.reg Obj.powerState ≠ 4 ∧ s.reg Obj.updState = 3 ∧ s.reg Obj.updActivateAt ≤ s.now ∧ s.locked = false := by decide +kernel
theorem witness_Updates_11 : let s := svc [(Obj.updState, 5), (Obj.updTrialHours, 1), (Reg.updTrialFrom, 0)]; let t := s.setReg Obj.hoursInService 1; s.up = true ∧ s.reg Obj.updState ≠ 3 ∧ s.hoursNow < s.reg Reg.updTrialFrom + s.reg Obj.updTrialHours ∧ t.up = true ∧ t.reg Reg.updTrialFrom + t.reg Obj.updTrialHours ≤ t.hoursNow := by decide +kernel

/-- The premises of `Obligations.JournalAndPower`, clause by clause. -/
theorem witness_JournalAndPower_1 : (svc []).reg Obj.jnlNextSeq < 2 ^ 48 - 2 ^ 32 ∧ State.reset.up = false ∧ (svc [(Reg.jnlLimitDay, 1)]).reg Reg.jnlLimitDay = (svc []).now / 86400000000000 + 1 := by decide +kernel
theorem witness_JournalAndPower_2 : let s := svc [(Obj.jnlNextSeq, 281470681743360)]; s.up = true ∧ 2 ^ 48 - 2 ^ 32 ≤ s.reg Obj.jnlNextSeq ∧ s.reg Reg.jnlLimitDay ≠ s.now / 86400000000000 + 1 := by decide +kernel
theorem witness_JournalAndPower_3 : (svc [(Obj.jnlNextSeq, 281474976710655)]).jnlFull = true := by decide +kernel
theorem witness_JournalAndPower_4 : (rg [(Obj.powerState, 6)]).starting = false ∧ ∀ x ∈ [Reg.bootKind, Reg.startHeld], (rg [(Obj.powerState, 6), (x, 1)]).starting = true := by decide +kernel
theorem witness_JournalAndPower_5 : let s := svc [(Reg.unitState U.nim, 1)]; s.up = true ∧ s.unitThere U.nim = true ∧ s.reg (Reg.unitState U.nim) ≠ 0 ∧ s.reg (Reg.unitState U.nim) ≠ 5 ∧ unitType U.nim ≠ 0x0050 ∧ unitType U.nim ≠ 0x0059 := by decide +kernel
theorem witness_JournalAndPower_6 : ∀ x ∈ [0, 5], let s := svc [(Reg.unitState U.nim, x)]; s.up = true ∧ (s.reg (Reg.unitState U.nim) = 0 ∨ s.reg (Reg.unitState U.nim) = 5) := by decide +kernel
theorem witness_JournalAndPower_7 : let s := srv 0 0 [(Reg.identityKey, 5), (skey 7 Obj.exportFromSeq, State.reset.reg Obj.jnlNextSeq)]; let t := s.heard 7; Takes s 7 Obj.exportOp [1] ∧ Jnl.oldest t ≤ t.reg (skey 7 Obj.exportFromSeq) ∧ t.reg (skey 7 Obj.exportFromSeq) ≤ t.reg Obj.jnlNextSeq ∧ t.signStatus = St.ok := by decide +kernel
theorem witness_JournalAndPower_8 : let s := srv 0 0 [(skey 7 Obj.exportFromSeq, 99)]; let t := s.heard 7; Takes s 7 Obj.exportOp [1] ∧ t.reg Obj.jnlNextSeq < t.reg (skey 7 Obj.exportFromSeq) := by decide +kernel
theorem witness_JournalAndPower_9 : (rg [(Obj.powerState, 5)]).reg Obj.powerState = 5 ∧ (rg [(Obj.powerState, 6)]).reg Obj.powerState = 6 ∧ (rg []).reg Reg.bootKind ≠ 1 := by decide +kernel
theorem witness_JournalAndPower_10 : let s := rg [(Obj.powerState, 6), (Obj.lastReturn, 2), (Reg.bootKind, 1)]; s.reg Obj.powerState = 6 ∧ s.reg Obj.lastReturn = 2 ∧ s.reg Reg.bootKind = 1 := by decide +kernel
theorem witness_JournalAndPower_11 : State.reset.reg Obj.powerState = 1 ∧ State.reset.reg Reg.scanOpen ≠ 1 := by decide +kernel
theorem witness_JournalAndPower_12 : (rg [(Obj.powerState, 2)]).reg Obj.powerState = 2 := by decide +kernel
theorem witness_JournalAndPower_13 : (svc []).reg Reg.halServing ≠ 0 ∧ (svc [(Reg.halServing, 0)]).reg Reg.halServing ≠ 1 ∧ (svc [(Reg.halServing, 0)]).up = true := by decide +kernel
theorem witness_JournalAndPower_14 : (svc []).up = true ∧ (svc []).unitThere 0xFFFE = false := by decide +kernel
theorem witness_JournalAndPower_15 : ∀ h ∈ [U.touch 7, U.hapChannel 2 7], let s := svc [(Reg.unitState h, 1)]; s.up = true ∧ s.unitThere h = true ∧ s.reg (Reg.unitState h) ≠ 0 ∧ s.reg (Reg.unitState h) ≠ 5 := by decide +kernel
theorem witness_JournalAndPower_16 : unitType (U.touch 7) = 0x0050 ∧ unitType (U.hapChannel 2 7) = 0x0059 := by decide +kernel
theorem witness_JournalAndPower_17 : let s := rg [(Obj.powerState, 6), (Reg.bootKind, 1)]; s.reg Obj.powerState = 6 ∧ s.reg Reg.bootKind = 1 ∧ (rg [(Obj.powerState, 1)]).reg Obj.powerState = 1 := by decide +kernel

/-- The premises of `Obligations.Supplies`, clause by clause. -/
theorem witness_Supplies_1 : (8399 < 8400) ∧ 38000 < 38001 ∧ (rg [(Obj.powerState, 0)]).reg Reg.vmainOver ≠ 1 ∧ (rg [(Obj.powerState, 0)]).reg Obj.powerState = 0 := by decide +kernel
theorem witness_Supplies_2 : 8800 < 8801 ∧ 35999 < 36000 ∧ (svc [(Obj.powerState, 4), (Reg.holdupCause, 1)]).reg Obj.powerState = 4 ∧ (svc [(Obj.powerState, 4), (Reg.holdupCause, 1)]).reg Reg.holdupCause = 1 ∧ State.reset.reg Obj.powerState ≠ 4 := by decide +kernel
theorem witness_Supplies_3 : (2899 < 2900) ∧ ((rg [(Obj.powerState, 4)]).vbakSeen 2899).reg Obj.powerState = 4 := by decide +kernel
theorem witness_Supplies_4 : (svc [(Obj.remoteOffInput, 31)]).reg Obj.remoteOffInput ≠ 0xFF ∧ (svc [(Obj.remoteOffInput, 31)]).reg Obj.powerState = 3 ∧ State.reset.reg Obj.remoteOffInput = 0xFF := by decide +kernel
theorem witness_Supplies_5 : let s := svc [(Reg.thermalHigh, 1)]; s.reg Obj.powerState = 3 ∧ s.reg Reg.thermalHigh = 1 ∧ s.reg Reg.thermalShed ≠ 1 ∧ (1250 : Int) ≤ 1250 := by decide +kernel
theorem witness_Supplies_6 : let s := svc [(Obj.powerState, 4), (Reg.holdupCause, 2), (Reg.vmainOk, 1)]; s.reg Reg.vmainOk ≠ 0 ∧ s.reg Obj.powerState = 4 ∧ s.reg Reg.holdupCause = 2 := by decide +kernel
theorem witness_Supplies_7 : (svc []).reg Reg.vmainOver ≠ 1 ∧ (svc []).reg Obj.powerState ≠ 0 := by decide +kernel

/-- The premises of `Obligations.HoldupConfiguration`, clause by clause. -/
theorem witness_HoldupConfiguration_1 : let s := srv 0 0 [(Obj.powerState, 4)]; Takes s 7 (okey 0x301 1) [3] ∧ (s.heard 7).reg Obj.powerState ≠ 3 := by decide +kernel
theorem witness_HoldupConfiguration_2 : let s := srv 0 0 [(Obj.pixelClockKhz 0, 600001)]; Takes s 7 (okey 0x301 1) [7] ∧ (s.heard 7).reg Obj.powerState = 3 ∧ 2 < ((List.range 8).filter (fun k => bit (leNat [(7 : Byte)]) k)).length ∧ ((List.range 8).filter (fun k => bit (leNat [(1 : Byte)]) k)).any (fun k => decide (600000 < (s.heard 7).reg (Obj.pixelClockKhz k))) = true := by decide +kernel
theorem witness_HoldupConfiguration_3 : let s := srv 0 0 [(Obj.pixelClockKhz 0, 600000)]; Takes s 7 (okey 0x301 1) [3] ∧ (s.heard 7).reg Obj.powerState = 3 ∧ ((List.range 8).filter (fun k => bit (leNat [(3 : Byte)]) k)).length ≤ 2 ∧ ((List.range 8).filter (fun k => bit (leNat [(3 : Byte)]) k)).any (fun k => decide (600000 < (s.heard 7).reg (Obj.pixelClockKhz k))) = false := by decide +kernel
theorem witness_HoldupConfiguration_4 : Takes (srv 0 0 []) 7 (okey 0x301 4) [15] ∧ Takes (srv 0 0 []) 7 (okey 0x301 3) [31] ∧ Takes (srv 0 0 []) 7 (okey 0x301 3) [255] ∧ ((srv 0 0 []).heard 7).pinIsOut 31 = false := by decide +kernel
theorem witness_HoldupConfiguration_5 : let s := srv 0 0 [(Obj.powerState, 4)]; Takes s 7 (okey 0x301 3) [31] ∧ (s.heard 7).reg Obj.powerState ≠ 3 := by decide +kernel

/-- The premises of `Obligations.Hoist`, clause by clause. -/
theorem witness_Hoist_1 : ∀ x ∈ [(2, 1), (0, 0)], let s := srv 0 0 [(Obj.hoistState, x.1), (Obj.cfgRole, x.2)]; Takes s 7 Obj.hoistOp [1] ∧ ((s.heard 7).reg Obj.hoistState ≠ 0 ∨ (s.heard 7).reg Obj.cfgRole = 0) := by decide +kernel
theorem witness_Hoist_2 : let s := srv 0 0 [(Obj.cfgRole, 1)]; Takes s 7 Obj.hoistOp [1] ∧ (s.heard 7).reg Obj.hoistState = 0 ∧ (s.heard 7).reg Obj.cfgRole = 1 := by decide +kernel
theorem witness_Hoist_3 : let s := srv 0 0 [(Obj.cfgRole, 2)]; Takes s 7 Obj.hoistOp [1] ∧ (s.heard 7).reg Obj.hoistState = 0 ∧ 2 ≤ (s.heard 7).reg Obj.cfgRole ∧ (s.heard 7).bestLink = none := by decide +kernel
theorem witness_Hoist_4 : let s := srv 0 0 [(Obj.cfgRole, 2), (Obj.hoistLinkState 3, 4), (Reg.linkHops 3, 0)]; Takes s 7 Obj.hoistOp [1] ∧ (s.heard 7).reg Obj.hoistState = 0 ∧ (s.heard 7).bestLink = some 3 := by decide +kernel
theorem witness_Hoist_5 : ∀ x ∈ [0, 2], let s := srv 0 0 [(Obj.hoistState, x)]; Takes s 7 Obj.hoistOp [2] ∧ (s.heard 7).reg Obj.hoistState = x := by decide +kernel
theorem witness_Hoist_6 : let s := svc [(Obj.hoistLinkState 3, 5)]; s.up = true ∧ s.linkUp 3 = false ∧ s.linkPowered 3 = true ∧ s.reg Reg.identityLost ≠ 1 ∧ s.reg (Reg.linkRetry 3) ≤ s.now := by decide +kernel
theorem witness_Hoist_7 : let s := mgr [(Reg.linkFrames 3, 0x100000000)]; s.up = true ∧ s.linkUp 3 = true ∧ 0x100000000 ≤ s.reg (Reg.linkFrames 3) ∧ s.reg (Obj.hoistLinkState 3) ≠ 0 ∧ s.reg (Obj.hoistLinkState 3) ≠ 5 := by decide +kernel
theorem witness_Hoist_8 : Hears (mgr []) 3 ∧ 2 ≤ (framed (mgr []) 3).reg Obj.hoistState := by decide +kernel
theorem witness_Hoist_9 : ∀ x ∈ [1, 2], let s := { mgr [(Reg.hoistSlot 63, x)] with now := 1000000 * (mgr []).reg Obj.workerLossMs }; s.up = true ∧ s.reg Obj.hoistRole = 1 ∧ 63 ≠ s.reg Obj.deviceId ∧ s.reg (Reg.hoistSlot 63) = x ∧ s.reg (Reg.hoistHb 63) + 1000000 * s.reg Obj.workerLossMs ≤ s.now := by decide +kernel
theorem witness_Hoist_10 : let s := { mgr [(Obj.hoistRole, 3), (Obj.deviceId, 1), (Obj.deputyId, 1), (Obj.hoistMembers, 7)] with now := 1000000 * (mgr []).reg Obj.managerLossMs }; s.up = true ∧ s.reg Obj.hoistRole = 3 ∧ 2 ≤ s.reg Obj.hoistState ∧ s.reg Obj.deviceId = s.reg Obj.deputyId ∧ s.reg Reg.mgrHb + 1000000 * s.reg Obj.managerLossMs ≤ s.now ∧ popCount 64 7 < 2 * popCount 64 ((4 ||| 2 ^ 1) &&& 7) ∧ 2 * popCount 64 ((0 ||| 2 ^ 1) &&& 7) ≤ popCount 64 7 ∧ s.reg Reg.hoistPart ≠ 1 := by decide +kernel
theorem witness_Hoist_11 : let s := mgr [(Obj.hoistRole, 2)]; s.up = true ∧ s.reg Obj.hoistState = 2 ∧ s.reg Obj.hoistRole ≠ 1 ∧ (-((((13 : Nat) : Int) - 0 + ((13 : Nat) - 0)) / 2) : Int).natAbs = 13 ∧ (-((((12 : Nat) : Int) - 0 + ((12 : Nat) - 0)) / 2) : Int).natAbs ≤ 12 ∧ s.reg Reg.timeGood + 1 < 16 ∧ 16 ≤ (mgr [(Reg.timeGood, 15)]).reg Reg.timeGood + 1 := by decide +kernel
theorem witness_Hoist_12 : let s := { mgr [(Obj.hoistRole, 2), (Obj.timeLocked, 1)] with now := 100000000 }; s.up = true ∧ s.reg Obj.hoistRole ≠ 0 ∧ s.reg Obj.hoistRole ≠ 1 ∧ s.reg Obj.timeLocked ≠ 0 ∧ s.reg Reg.timeLast + 100000000 ≤ s.now := by decide +kernel
theorem witness_Hoist_13 : let s := { mgr [(Obj.timeSource, 1)] with now := 10000000000 }; s.up = true ∧ s.reg Obj.hoistRole = 1 ∧ s.reg Obj.timeSource = 1 ∧ s.reg Reg.ptpSel ≠ 1 ∧ s.reg Reg.ptpLost ≠ 1 ∧ s.reg Reg.ptpSince + 10000000000 ≤ s.now := by decide +kernel
theorem witness_Hoist_14 : let s := mgr [(Obj.timeSource, 1)]; s.reg Obj.hoistRole = 1 ∧ s.reg Obj.timeSource = 1 ∧ ((s.setReg Reg.ptpSel 1).slew 5 20000).reg Reg.ptpLost = 0 ∧ (mgr [(Reg.ptpSel, 1)]).reg Reg.ptpSel ≠ 0 := by decide +kernel
theorem witness_Hoist_15 : Hears (mgr []) 3 ∧ (((framed (mgr []) 3).setReg (Reg.linkHops 3) 0xFF).termMet 3 0).reg Obj.hoistRole = 1 ∧ (((framed (mgr [(Obj.hoistRole, 2)]) 3).setReg (Reg.linkHops 3) 0xFF).termMet 3 0).reg Obj.hoistRole ≠ 1 := by decide +kernel
theorem witness_Hoist_16 : let s := mgr [(Obj.worldState 63, 2)]; Hears s 3 ∧ (framed s 3).reg (Obj.hoistLinkState 3) = 3 ∧ 0 = (framed s 3).reg Obj.deviceId ∧ (framed s 3).reg (Obj.worldState 63) = 2 := by decide +kernel
theorem witness_Hoist_17 : let s := mgr [(Reg.nextSession, 7), (Reg.sessOpen 7, 1), (Reg.sessTransport 7, 6), (Reg.sessPort 7, 3), (Reg.sessFar 7, 63 * 65536 + 9), (Reg.winWait 7, 1)]; Hears s 3 ∧ (framed s 3).accepts = true ∧ Dict.farSession (framed s 3) 3 63 9 = some 7 ∧ (framed s 3).reg (Reg.winWait 7) ≠ 0 := by decide +kernel
theorem witness_Hoist_18 : let s := mgr []; Hears s 3 ∧ (framed s 3).accepts = true ∧ Dict.farSession (framed s 3) 3 63 9 = none ∧ (framed s 3).sessionRoom 6 3 = true := by decide +kernel
theorem witness_Hoist_19 : let s := mgr ((Reg.nextSession, 10) :: (List.range 4).flatMap (fun k => [(Reg.sessOpen (7 + k), 1), (Reg.sessTransport (7 + k), 6), (Reg.sessPort (7 + k), 3)])); Hears s 3 ∧ (framed s 3).accepts = true ∧ Dict.farSession (framed s 3) 3 63 9 = none ∧ (framed s 3).sessionRoom 6 3 = false := by decide +kernel
theorem witness_Hoist_20 : let s := mgr [(Obj.hoistRole, 2)]; s.up = true ∧ s.reg Obj.hoistState = 2 ∧ s.reg Obj.hoistRole ≠ 1 ∧ 1000000 < (-((((1000001 : Nat) : Int) - 0 + ((1000001 : Nat) - 0)) / 2) : Int).natAbs := by decide +kernel

/-- The premises of `Obligations.Feeds`, clause by clause. -/
theorem witness_Feeds_1 : let s := srv 0 0 [(Obj.feedSourceDevice 15, 63), (Reg.hoistPath 63, 4), (Obj.feedHead 15, 7), (Obj.feedLayer 15, 7), (Obj.layerEnable 7 7, 1), (Obj.feedFormat 15, 1), (Obj.layerFormat 7 7, 1), (Obj.feedWidth 15, 8), (Obj.layerSrcWidth 7 7, 8), (Obj.feedHeight 15, 4), (Obj.layerSrcHeight 7 7, 4), (Obj.layerPoolKiB 7 7, 64), (Obj.rtReservedMBps, 8001)]; Takes s 7 (Obj.feedOp 15) [1] ∧ (s.heard 7).feedStatus 15 5 true = St.ok ∧ (s.heard 7).feedStatus 15 5 false ≠ St.ok := by decide +kernel
theorem witness_Feeds_2 : Takes (srv 0 0 []) 7 (Obj.feedOp 15) [2] := by decide +kernel
theorem witness_Feeds_3 : let s := { gw [(Reg.hoistPath 63, 4)] with exports := [⟨9, 4, 0x1000, 4, 0xFF⟩] }; s.up = true ∧ s.now % 250000 = 0 ∧ s.reg (Reg.hoistPath 63) ≠ 0 ∧ s.reg (Reg.srcCopy 9 (16 * 63 + 15)) = 0 ∧ s.feedSource 9 = some ⟨9, 4, 0x1000, 4, 0xFF⟩ ∧ (s.gread 4 0 0x1000 8).isOk = true ∧ ((s.writeBytes 0x401000 (leBytes 8 1)).gread 4 0 0x1000 8).toOption = some (leBytes 8 1) ∧ (s.gread 4 0 0x1000 8).toOption = some (leBytes 8 0) := by decide +kernel
theorem witness_Feeds_4 : let s := gw [(Reg.srcCopy 9 (16 * 63 + 15), 2)]; s.up = true ∧ s.reg (Reg.srcCopy 9 (16 * 63 + 15)) ≠ 0 ∧ (s.setReg (Reg.srcCopy 9 (16 * 63 + 15)) 0).feedSource 9 = none := by decide +kernel
theorem witness_Feeds_5 : let s := { gw [(Reg.srcCopy 9 (16 * 63 + 15), 2)] with exports := [⟨9, 4, 0x1000, 4, 0xFF⟩] }; let u := s.setReg (Reg.srcCopy 9 (16 * 63 + 15)) 0; u.feedSource 9 = some ⟨9, 4, 0x1000, 4, 0xFF⟩ ∧ (match u.gread 4 0 (0x1000 + 256) (min 4 (4096 * 4 - 256)) with | .ok b => (((State.feedFrames b.length b).foldl (fun s v => s.hoistSend 0x02 63 2 15 v) u).gwrite 4 0 (0x1000 + 8) (leBytes 8 (s.reg (Reg.srcCopy 9 (16 * 63 + 15)) - 1))).isOk | .error _ => false) = true := by decide +kernel
theorem witness_Feeds_6 : let s := mgr [(Obj.feedState 15, 1)]; Hears s 3 ∧ (framed s 3).reg (Obj.hoistLinkState 3) = 3 ∧ 1 ≠ (framed s 3).reg Obj.deviceId ∧ 0 = (framed s 3).reg Obj.deviceId ∧ (framed s 3).reg (Obj.feedState 15) ≠ 0 := by decide +kernel
theorem witness_Feeds_7 : let s := { svc [(Reg.feedHoldDue 15, 9)] with now := 9 }; s.up = true ∧ s.reg (Reg.feedHoldDue 15) ≠ 0 ∧ s.reg (Reg.feedHoldDue 15) ≤ s.now := by decide +kernel

/-- The premises of `Obligations.CounterOperations`, clause by clause. -/
theorem witness_CounterOperations_1 : let s := srv 0 0 []; Takes s 7 Obj.chainMask (leBytes 90 (2 ^ 719)) ∧ (s.heard 7).chainBad 7 (leNat (leBytes 90 (2 ^ 719))) = true ∧ Takes s 7 Obj.chainMask (leBytes 90 0) ∧ (s.heard 7).chainBad 7 (leNat (leBytes 90 0)) = false ∧ Takes s 7 Obj.overflowClear (leBytes 90 1) := by decide +kernel
theorem witness_CounterOperations_2 : let s := srv 0 0 []; Takes s 7 Obj.snapshotOp [1] ∧ ((s.heard 7).snapBank 7).or ((List.range 4).find? (fun b => (s.heard 7).reg (Reg.snapHolder b) == 0)) = some 0 := by decide +kernel
theorem witness_CounterOperations_3 : let s := srv 0 0 ((List.range 4).map (fun b => (Reg.snapHolder b, 9))); Takes s 7 Obj.snapshotOp [1] ∧ ((s.heard 7).snapBank 7).or ((List.range 4).find? (fun b => (s.heard 7).reg (Reg.snapHolder b) == 0)) = none := by decide +kernel
theorem witness_CounterOperations_4 : let s := srv 0 0 [(Reg.snapHolder 3, 7)]; Takes s 7 Obj.snapshotOp [2] ∧ (s.heard 7).snapBank 7 = some 3 := by decide +kernel
theorem witness_CounterOperations_5 : ∀ p ∈ [63, 64, 0x80000000, 0x80000001], let s := srv 0 0 [(Obj.sampleCounter 3, 719), (Obj.samplePeriod 3, p)]; let t := s.heard 7; Takes s 7 (Obj.sampleOp 3) [1] ∧ (List.range 4).all (fun x => t.reg (Reg.sampOn x) != 0) = false ∧ t.reg (Reg.sampOn 3) = 0 ∧ t.counterStatus 7 719 = St.ok ∧ t.reg (Obj.samplePeriod 3) = p := by decide +kernel
theorem witness_CounterOperations_6 : let s := srv 0 0 [(Obj.sampleCounter 3, 720)]; let t := s.heard 7; Takes s 7 (Obj.sampleOp 3) [1] ∧ (List.range 4).all (fun x => t.reg (Reg.sampOn x) != 0) = false ∧ t.reg (Reg.sampOn 3) = 0 ∧ t.counterStatus 7 (t.reg (Obj.sampleCounter 3)) ≠ St.ok := by decide +kernel
theorem witness_CounterOperations_7 : let s := srv 0 0 [(Reg.sampOn 3, 1)]; Takes s 7 (Obj.sampleOp 3) [2] ∧ (s.heard 7).reg (Reg.sampOn 3) ≠ 0 ∧ (s.heard 7).cls 7 ≠ Cls.gst := by decide +kernel
theorem witness_CounterOperations_8 : let s := svc [(Reg.sampOn 3, 2), (Reg.sampPer 3, 64), (Reg.sampCount 3, 64)]; s.up = true ∧ 1 < s.reg (Reg.sampOn 3) ∧ s.reg (Reg.sampCount 3) / s.reg (Reg.sampPer 3) - s.reg (Reg.sampDone 3) ≠ 0 ∧ (s.setReg (Reg.sampDone 3) 1).reg (Reg.sampLast 3) = 0 ∧ (svc [(Reg.sampLast 3, 1)]).now < (svc [(Reg.sampLast 3, 1)]).reg (Reg.sampLast 3) - 1 + 10000 := by decide +kernel
theorem witness_CounterOperations_9 : let s := gw []; s.up = true ∧ s.reg (Obj.instState 31) ≠ 0 ∧ 0 < 0xFFC ∧ 0xFFC ≤ 0xFFF ∧ 0xFFC % 4 = 0 := by decide +kernel

/-- The premises of `Obligations.Counting`, clause by clause. -/
theorem witness_Counting_1 : (svc [(Obj.chainMask, 2 ^ 718)]).chained (719 - 1) = true := by decide +kernel
theorem witness_Counting_2 : let s := svc [(Reg.counter 719, 0xFFFFFFFF)]; State.counterScale 719 = 1 ∧ s.reg (Reg.counterRes 719) = 0 ∧ s.chained (719 - 1) = false ∧ s.chained 719 = false ∧ 0x100000000 ≤ s.reg (Reg.counter 719) + 1 := by decide +kernel

/-- The premises of `Obligations.Connectors`, clause by clause. -/
theorem witness_Connectors_1 : Takes (srv 0 0 []) 7 (Obj.ethInterface 3) [3] := by decide +kernel
theorem witness_Connectors_2 : (svc []).up = true ∧ (svc [(Obj.ethInterface 3, 0)]).reg (Obj.ethInterface 3) = 0 ∧ (svc [(Obj.ethInterface 3, 3)]).reg (Obj.ethInterface 3) ≠ 0 := by decide +kernel
theorem witness_Connectors_3 : let s := svc [(Obj.lightMode 3, 1)]; s.up = true ∧ s.reg (Obj.lightMode 3) ≠ 0 ∧ s.reg (Reg.lightNext 3) ≤ s.now ∧ (s.setReg (Reg.lightNext 3) (s.now + 100000000)).reg (Reg.lightBad 3) < 2 := by decide +kernel
theorem witness_Connectors_4 : let s := svc [(Obj.lightMode 3, 1), (Reg.lightBad 3, 2), (Reg.lightNext 3, 1)]; s.now < s.reg (Reg.lightNext 3) ∧ 2 ≤ (s.setReg (Reg.lightNext 3) (s.now + 100000000)).reg (Reg.lightBad 3) := by decide +kernel

/-- The premises of `Obligations.MemoryStaysCanonical`, `Obligations.MemoryIsLeft` and `Obligations.PartsAreLeft`. -/
theorem witness_Leaves_1 : leavesMemory (.sha256 7) = false ∧ leavesMemory (.mov 7) = true ∧ leavesBanks (.mov 7) = true ∧ setsTime (.mov 7) = false ∧ movesTrackers (.mov 7) = false ∧ movesPackages (.mov 7) = false ∧ movesExports (.mov 7) = false ∧ movesJobs (.mov 7) = false ∧ movesAnswers (.mov 7) = false := by decide +kernel
theorem witness_Leaves_2 : MemoryWf { rg [] with mem := [(5, 1), (9, 2)] } := by decide +kernel

/-- A step on a waiting command answers a next state (premise of `Obligations.QueueMovesByOne`). -/
theorem witness_QueueMovesByOne : ∃ t, step { State.reset with pending := [.journalDrain 0, .sha256 7] } = .next t ∧ t.pending = [.sha256 7] := ⟨_, rfl, by decide +kernel⟩

/-- An empty queue idles. -/
theorem test_idle : step State.reset = .next { State.reset with now := 1 } := rfl

/-! ## Ill-formed commands are refused by the check of their operand -/

theorem test_wf_accepts : ([.recordRead 7 (rc 1) 0x100 1, .usdoRequest 3 4 false 0xFFFF 0xFF [], .mov 31, .ringDestroy 47 ⟨0xFFFF, 0xFFFF, ⟨0, 0⟩⟩ 7] : List Instr).all Instr.wf = true := by
  decide +kernel

theorem test_wf_refuses : (([.sessionClose 0x10000, .objectWrite 7 0x10000 1 [], .objectWrite 7 1 0x100 [], .queryPath 7 (List.replicate 1025 0), .recordAbort 7 { rc 5 with seq := 0x100000000 },
    .heartbeatProduce 4, .usbOvercurrent 2, .hpdRise 16, .idleStep 8, .unitReset 0x10000 true [], .instEnable 7 56, .doorbell 48 0 0 ⟨0, 0⟩, .doorbell 0 8 0 ⟨0, 0⟩, .ringDestroy 0 ⟨0x10000, 0, ⟨0, 0⟩⟩ 0,
    .mov 32, .effectEnd 3 0, .effectEnd 0 8, .invalidationComplete 64, .hoistDeviceLost 64, .sessionOpen 7 0 0 0, .remoteRetransmit 31, .vfFlr 32, .lampTestInputChange 32 0,
    .preemptRequest 3 [], .clusterLost 24, .timerExpiry 0 4, .edgeDetect 0 8 false, .vbakLow 0x10000, .audioBufferDone 32, .holdupConfigWrite 7 2 []] : List Instr).map Instr.wf).all (· == false)
    = true := by decide +kernel

/-! ## Examples that the spec works out -/

/-- The bytes of a text. -/
def ascii (x : String) : Bytes := x.toList.map (fun c => BitVec.ofNat 8 c.toNat)

/-- Chapter 1, A touch port in the crane cabin: the path. -/
theorem test_path : (svc []).pathUnit ((ascii "/fj/tch/port3").map BitVec.toNat) = some 0x55 := by decide +kernel

/-- Chapter 1, the same: the directory record. -/
theorem test_record : (svc [(Reg.unitState 0x55, 1)]).unitRecord 0x55
    = ([0x50, 0x00, 0x02, 0x03, 0x55, 0x00, 0x51, 0x00, 0x00, 0x53, 0x00, 0x01, 0x00, 0x01, 0x02, 0x01, 0x0B, 0x00] : Bytes) ++ List.replicate 14 0 := by
  decide +kernel

/-- Chapter 7, one texel of a crane-control texture. -/
theorem test_texel : (⟨0x123400000, 0, 1000, 1000, 1, 1, 1, 4, 0, 0, 0, 0, 0⟩ : Surf).addr 437 122 0 0 0 = 0x12346DE64 := by decide +kernel

/-- A head with the timing of the crane cabin's split panels (chapter 10). -/
def cabin (n : Nat) : State := rg [(Reg.lineAt n, 1), (Obj.hActive n, 7680), (Obj.hFrontPorch n, 16), (Obj.hSync n, 64), (Obj.hBackPorch n, 80), (Obj.vActive n, 2160), (Obj.vFrontPorch n, 8),
  (Obj.vSync n, 8), (Obj.vBackPorch n, 46), (Obj.pixelClockKhz n, 1045229), (Obj.portMode n, 1)]

/-- Its registers. -/
def crane (n : Nat) : Nat → Nat := (cabin n).reg

/-- Chapter 10, the crane cabin's split panels: totals, FrameRate in mHz, CommitLeadLines. -/
theorem test_timing : (Head.hTotal (crane 2) 2, Head.vTotal (crane 2) 2, Head.rateMhz (crane 2) 2, Head.leadLines (crane 2) 2) = (7840, 2222, 60000, 6) := by
  decide +kernel

/-- R258 on the same panel: the commit line is at the start of line 2160, and 62 lines of 7,500.75 ns later line 0 is being sent. -/
theorem test_scan_line : [0, 465046, 465047].map (fun t => State.scanLine { cabin 2 with now := t } 2) = [2160, 2221, 0] := by decide +kernel

/-- R263: the nearest point of a 60 Hz grid, whose third point lies at 50,000,000.001 ns. -/
theorem test_lock_grid : [50000000, 50000010, 49999990].map (fun t => Line.gridError t 0 16666666667) = [0, 10, -10] := by decide +kernel

/-- The descriptors of the example of chapter 4, A chart surface seen by the system compositor: world 7's, and the block in world 5's. -/
def chart : State := (((((rg [(Reg.worldRoot 7, 0xF000000), (Obj.keyState 7, 1), (Reg.frameMode 120, 2)]).writeBytes 0xF008000 (leBytes 8 0xF012003)).writeBytes 0xF012008
  (leBytes 8 0xF015003)).writeBytes 0xF015018 (leBytes 8 0x0E0000023C4000C1)))

/-- Chapter 4: the walk's output, with R and W, from level 2. -/
theorem test_walk : (match chart.s2 7 0x8000040603ABC false with
  | .ok l => (l.addr, l.r, l.w, l.level)
  | .error _ => (0, false, false, 0)) = (0x23C403ABC, true, true, 2) := by decide +kernel

/-- Chapter 4: the view of another world reads, and a view with W set would be XLAT_KEY (R106). -/
theorem test_view : (match chart.s2Desc 5 0x0E0000023C400041 2 0x3ABC, chart.s2Desc 5 0x0E0000023C4000C1 2 0x3ABC with
  | .leaf a r w _, .fault st => (a, r, w, st)
  | _, _ => (0, false, true, 0)) = (0x23C403ABC, true, false, St.xlatKey) := by decide +kernel

/-- Chapter 16, check values over the nine digits. -/
theorem test_check_values :
    [(8, 0x07, 0, false, 0), (16, 0x1021, 0xFFFF, false, 0), (32, 0x04C11DB7, 0xFFFFFFFF, true, 0xFFFFFFFF), (64, 0, 0, false, 0)].map
      (fun x => Chk.result x.1 x.2.2.2.1 x.2.2.2.2 ((ascii "123456789").foldl (fun c b => Chk.feed x.1 (Chk.polyOf x.1 x.2.1) x.2.2.2.1 c b.toNat) x.2.2.1))
    = [0xF4, 0x29B1, 0xCBF43926, 0x6C40DF5F0B497347] := by decide +kernel

/-- R288: the signature's CRC over the nine digits. -/
theorem test_signature : crc32 (ascii "123456789") = 0xCBF43926 := by decide +kernel

/-- Chapter 22, a flattened frame across the wrap: frame 1 lies ahead of HeadFrame 0xFFFFFFFF and governs once HeadFrame is 1. -/
theorem test_wrap : ([0xFFFFFFFF, 0, 1].map (fun f => State.serialLe 1 f)) = [false, false, true] := by decide +kernel

end Sys2Proof.Tests
end

section
/-!
What a session's request leaves alone (R27, R29, R130, R133), and the path query (R12).
-/
namespace Sys2Proof.Laws

open Sys2Proof.Machine Sys2Proof.Safety

/-! ## Registers that hearing a request and posting its answer write -/

/-- A register other than those written reads as before. -/
theorem setRegs_reg_other {l : List (Nat × Nat)} {k : Nat} : ∀ {s : State}, (∀ p ∈ l, k ≠ p.1) → (s.setRegs l).reg k = s.reg k := by
  induction l with
  | nil => intro s _; rfl
  | cons p l ih =>
    intro s h
    obtain ⟨hp, hl⟩ := List.forall_mem_cons.mp h
    rw [State.setRegs_cons, ih hl, State.reg_setReg_other _ _ hp]

/-- Registers that a request of session `n` on port `i` writes by being heard (R29, R133). -/
def heardKeys (n i : Nat) : List Nat := [Reg.sessDeadline n, Reg.remoteLast i, Reg.remoteRx i, Reg.remoteTx i, Reg.remoteSent i]

/-- Registers that showing the answer of a request in mailbox `i` writes (R130, R132, R464). -/
def postedKeys (i : Nat) : List Nat :=
  [Reg.mbSeq i, Reg.mbDone i, Reg.mbStatus i, Reg.mbResp i, Reg.mbBusy i, Reg.mbOp i, Reg.mbTag i, Reg.mbKey i, Reg.mbOff i, Reg.instOpen i,
    Reg.remoteTx i, Reg.remoteSent i]

/-- Hearing a request writes no other register. -/
theorem heard_reg {s : State} {n k : Nat} (h : k ∉ heardKeys n (s.reg (Reg.sessPort n))) : (s.heard n).reg k = s.reg k := by
  simp only [heardKeys, List.mem_cons, List.not_mem_nil, or_false, not_or] at h
  obtain ⟨hDeadline, hLast, hRx, hTx, hSent⟩ := h
  simp only [State.heard]
  split
  · exact State.reg_setReg_other _ _ hDeadline
  · split
    · exact State.delivered_reg _ _ _ _ hLast hRx hTx hSent
    · rfl

/-- Posting an answer writes no other register. -/
theorem posted_reg {s : State} {n op key off tag seq k : Nat} (h : k ∉ postedKeys (s.reg (Reg.sessPort n))) :
    (s.posted n op key off tag seq).reg k = s.reg k := by
  simp only [postedKeys, List.mem_cons, List.not_mem_nil, or_false, not_or] at h
  obtain ⟨hSeq, hDone, hStatus, hResp, hBusy, hOp, hTag, hKey, hOff, hOpen, hTx, hSent⟩ := h
  simp only [State.posted]
  split
  · rfl
  · split
    · exact setRegs_reg_other (by
        simp only [List.forall_mem_cons]
        exact ⟨hSeq, hBusy, hOp, hTag, hKey, hOff, hOpen, List.forall_mem_nil _⟩)
    · have hmail : ∀ st resp, (s.setRegs [(Reg.mbSeq (s.reg (Reg.sessPort n)), seq), (Reg.mbDone (s.reg (Reg.sessPort n)), seq),
          (Reg.mbStatus (s.reg (Reg.sessPort n)), st), (Reg.mbResp (s.reg (Reg.sessPort n)), resp), (Reg.mbBusy (s.reg (Reg.sessPort n)), 0),
          (Reg.instOpen (s.reg (Reg.sessPort n)), 0)]).reg k = s.reg k := fun _ _ => setRegs_reg_other (by
        simp only [List.forall_mem_cons]
        exact ⟨hSeq, hDone, hStatus, hResp, hBusy, hOpen, List.forall_mem_nil _⟩)
      split
      · exact (State.remoteSend_reg _ _ _ _ hTx hSent).trans (hmail _ _)
      · exact hmail _ _

/-- Sending a datagram leaves the answer. -/
@[simp] theorem remoteSend_answer (s : State) (i chan : Nat) (pl : Bytes) : (s.remoteSend i chan pl).answer = s.answer := by
  simp only [State.remoteSend]
  split <;> split <;> rfl

/-- Posting an answer leaves it as it is. -/
@[simp] theorem posted_answer (s : State) (n op key off tag seq : Nat) : (s.posted n op key off tag seq).answer = s.answer := by
  simp only [State.posted]
  split
  · rfl
  · split
    · simp
    · split <;> simp

/-! ## Sessions' own copies -/

/-- No session's copy is written by hearing a request. -/
theorem skey_notMem_heardKeys {n i m k : Nat} (hn : n < 0x10000) (hi : i < 64) : skey m k ∉ heardKeys n i := by
  simp only [heardKeys, List.mem_cons, List.not_mem_nil, or_false, not_or]
  refine ⟨?_, ?_, ?_, ?_, ?_⟩ <;> exact skey_ne_ireg (by decide) (by omega) (by decide)

/-- No session's copy is written by posting an answer. -/
theorem skey_notMem_postedKeys {i m k : Nat} (hi : i < 64) : skey m k ∉ postedKeys i := by
  simp only [postedKeys, List.mem_cons, List.not_mem_nil, or_false, not_or]
  refine ⟨?_, ?_, ?_, ?_, ?_, ?_, ?_, ?_, ?_, ?_, ?_, ?_⟩ <;> exact skey_ne_ireg (by decide) (by omega) (by decide)

/-- Hearing a request leaves every session's copies. -/
theorem heard_skey {s : State} {n : Nat} (h : Numbered s n) (m k : Nat) : (s.heard n).reg (skey m k) = s.reg (skey m k) :=
  heard_reg (skey_notMem_heardKeys h.1 h.2)

/-- Hearing a request leaves the port of its session. -/
theorem heard_sessPort {s : State} {n : Nat} (h : Numbered s n) : (s.heard n).reg (Reg.sessPort n) = s.reg (Reg.sessPort n) := by
  obtain ⟨hn, hi⟩ := h
  refine heard_reg ?_
  simp only [heardKeys, List.mem_cons, List.not_mem_nil, or_false, not_or]
  refine ⟨?_, ?_, ?_, ?_, ?_⟩ <;> exact ireg_ne_of_range (by decide) (by omega) (by omega) (by decide) (by decide)

/-- Answering a request leaves every session's copies as its effect left them. -/
theorem answered_skey {s t : State} {n op key : Nat} (h : Numbered s n) (ht : t.reg (Reg.sessPort n) = s.reg (Reg.sessPort n)) (m k : Nat) :
    (answered s n op key t).reg (skey m k) = t.reg (skey m k) :=
  posted_reg (skey_notMem_postedKeys (ht ▸ h.2))

/-! ## The path query (R12) -/

/-- The directory walk reads no register. -/
theorem walkPath_setReg (s : State) (k v : Nat) (ns : List (List Nat)) : ∀ h, (s.setReg k v).walkPath h ns = s.walkPath h ns := by
  induction ns with
  | nil => intro h; rfl
  | cons n ns ih =>
    intro h
    have hchild : (s.setReg k v).childNamed h n = s.childNamed h n := rfl
    simp only [State.walkPath, hchild, ih]

/-- The directory reads no session's copy. -/
theorem pathUnit_setReg_skey (s : State) (n k v : Nat) (p : List Nat) : (s.setReg (skey n k) v).pathUnit p = s.pathUnit p := by
  have hdev : (s.setReg (skey n k) v).reg Obj.deviceId = s.reg Obj.deviceId :=
    State.reg_setReg_other _ _ (skey_ne_okey (by decide) (by decide)).symm
  simp only [State.pathUnit, hdev, walkPath_setReg, State.setReg_addedUnits]

/-- QueryHandle after a query of path `p`. -/
def pathHandle (s : State) (p : List Nat) : Nat := if pathWellFormed p = true then (s.pathUnit p).getD 0xFFFF else 0xFFFF

/-- QueryStatus after a query of path `p`. -/
def pathStatus (s : State) (p : List Nat) : Nat :=
  if pathWellFormed p = false then St.pathSyntax else if s.pathUnit p = none then St.pathUnknown else St.ok

/-- A query sets the three objects of its session and is answered OK. -/
theorem queryWrite_eq (s : State) (n : Nat) (d : Bytes) :
    Dict.queryWrite s n d = (s.setRegs [(skey n Obj.queryPath, leNat d), (skey n Obj.queryHandle, pathHandle s (d.map BitVec.toNat)),
      (skey n Obj.queryStatus, pathStatus s (d.map BitVec.toNat))]).reply St.ok := by
  simp only [Dict.queryWrite, pathUnit_setReg_skey, pathHandle, pathStatus]
  cases hw : pathWellFormed (d.map BitVec.toNat)
  · simp
  · cases hu : s.pathUnit (d.map BitVec.toNat) <;> simp

/-- The result of a query, read from the session that made it. -/
theorem queryWrite_result (s : State) (n : Nat) (d : Bytes) :
    (Dict.queryWrite s n d).reg (skey n Obj.queryHandle) = pathHandle s (d.map BitVec.toNat)
    ∧ (Dict.queryWrite s n d).reg (skey n Obj.queryStatus) = pathStatus s (d.map BitVec.toNat) := by
  simp only [queryWrite_eq, State.reply_reg, State.setRegs_cons, State.setRegs_nil]
  exact ⟨by rw [State.reg_setReg_other _ _ (skey_ne_of_key (by decide)), State.reg_setReg_same], State.reg_setReg_same _ _ _⟩

/-- A query writes nothing but its session's three objects. -/
theorem queryWrite_reg {s : State} {n : Nat} {d : Bytes} {k : Nat} (h : ∀ key < 0x10000000000, k ≠ skey n key) :
    (Dict.queryWrite s n d).reg k = s.reg k := by
  rw [queryWrite_eq, State.reply_reg]
  refine setRegs_reg_other ?_
  simp only [List.forall_mem_cons]
  exact ⟨h _ (by decide), h _ (by decide), h _ (by decide), List.forall_mem_nil _⟩

/-- A query that passes its checks is carried out and answered. -/
theorem queryPath_eq {s : State} {n : Nat} {v : Bytes} (h : Takes s n Obj.queryPath v) :
    exec (.queryPath n v) s = .next (answered s n 2 Obj.queryPath (Dict.queryWrite (s.heard n) n v)) := by
  rw [exec_queryPath, execQueryPath, whenUp_eq h.1.1, written_eq h]

/-- QueryPath is a STR(48). -/
theorem objRow_queryPath_kind : (objRow Obj.queryPath).map ObjRow.kind = some (.str 48) := rfl

/-- A path longer than 48 bytes is no value of QueryPath (R28). -/
theorem writeStatus_queryPath_long {s : State} {n : Nat} {v : Bytes} (hg : s.gate n Obj.queryPath .w = St.ok) (hv : 48 < v.length) :
    s.writeStatus n Obj.queryPath v = St.typeMismatch := by
  obtain ⟨o, ho, hk⟩ := Option.map_eq_some_iff.mp objRow_queryPath_kind
  have hfits : o.kind.fits v.length = false := by simp [hk, VKind.fits, hv]
  simp [State.writeStatus, hg, ho, ObjRow.valueStatus, hfits]

/-- A longer path is answered TYPE_MISMATCH and nothing else is done. -/
theorem queryPath_long {s : State} {n : Nat} {v : Bytes} (h : Passes s n Obj.queryPath) (hv : 48 < v.length) :
    exec (.queryPath n v) s = .next (answered s n 2 Obj.queryPath ((s.heard n).reply St.typeMismatch)) := by
  have hs := writeStatus_queryPath_long h.2 hv
  rw [exec_queryPath, execQueryPath, whenUp_eq h.1.1, written_refused h.1 (gate_pending h.2) (by rw [hs]; decide), hs]

/-- Settles O12: the query writes three copies of its own session, and hearing and answering a request write no session's copy. -/
theorem pathQuery : Obligations.PathQuery := by
  refine ⟨fun s n v hn ht => ?_, fun s n v hn hp hv => ?_⟩
  · have hport : (Dict.queryWrite (s.heard n) n v).reg (Reg.sessPort n) = s.reg (Reg.sessPort n) :=
      (queryWrite_reg fun _ _ => (skey_ne_ireg (by decide) (by have := hn.1; omega) (by decide)).symm).trans (heard_sessPort hn)
    obtain ⟨hhandle, hstatus⟩ := queryWrite_result (s.heard n) n v
    refine ⟨_, queryPath_eq ht, ?_, ?_, ?_, fun m k hm hk => ?_⟩
    · rw [posted_answer, queryWrite_eq]; rfl
    · rw [answered_skey hn hport, hhandle]; rfl
    · rw [answered_skey hn hport, hstatus]; rfl
    · rw [answered_skey hn hport, queryWrite_reg fun _ hkey => skey_ne_of_session hm hk hkey, heard_skey hn]
  · refine ⟨_, queryPath_long hp hv, posted_answer _ _ _ _ _ _ _, fun m k _ => ?_⟩
    rw [answered_skey hn ((State.reply_reg ..).trans (heard_sessPort hn)), State.reply_reg, heard_skey hn]

end Sys2Proof.Laws
end

section
/-!
Records (R58, R59), short freshness values (R55), commits and the instants at which banks move (R37 to R56, R78).
-/
namespace Sys2Proof.Laws

open Sys2Proof.Machine Sys2Proof.Safety

/-! ## Short freshness values (R55) -/

/-- One byte of a string is a byte. -/
theorem bytesAt_one_lt (d : Bytes) (o : Nat) : bytesAt d o 1 < 256 := by
  unfold bytesAt
  rcases d.drop o with _ | ⟨b, bs⟩
  · simp [leNat]
  · have hb : b.toNat < 2 ^ 8 := b.isLt
    simpa [leNat] using hb

/-- Of the values after `p`, the first with byte `v` in its low 8 bits lies `aliveStep` ahead. -/
theorem add_aliveStep_least {p v : Nat} (hv : v < 256) :
    p < p + Chk.aliveStep 8 v (p % 256) ∧ (p + Chk.aliveStep 8 v (p % 256)) % 256 = v
    ∧ ∀ x, p < x → x % 256 = v → p + Chk.aliveStep 8 v (p % 256) ≤ x := by
  simp only [Chk.aliveStep, Nat.reducePow, Nat.reduceMul]
  refine ⟨by omega, by omega, fun x _ _ => by omega⟩

/-- Settles O17: a short value steps from the last accepted one as an alive counter of 8 bits does. -/
theorem freshnessIsTheNext : Obligations.FreshnessIsTheNext := by
  intro last d hshort
  have heq : Dict.freshness last d = last + Chk.aliveStep 8 (bytesAt d 8 1) (last % 256) := by simp [Dict.freshness, hshort]
  rw [heq]
  exact add_aliveStep_least (bytesAt_one_lt d 8)

/-! ## Records and segments (R58, R59) -/

/-- What a session that is not pending reads or aborts is carried out. -/
theorem unlessPending_eq {s : State} {n : Nat} {f : State → State} (h : s.reg (Reg.sessPending n) ≠ 1) : Dict.unlessPending s n f = f s := by
  rw [Dict.unlessPending, if_neg h]

/-- A write of a session that is not pending is a write of the object. -/
theorem writeAny_eq {s : State} {n key : Nat} {d : Bytes} (h : s.reg (Reg.sessPending n) = 0) : Dict.writeAny s n key d = Dict.writeObject s n key d := by
  rw [Dict.writeAny, if_pos h]

/-- A partial value that no segment has followed in time is given up (R58). -/
theorem transferTimeout_eq {s : State} {n : Nat} (hup : s.up = true) (hpart : s.reg (Reg.partKey n) ≠ 0) (hdue : s.reg (Reg.partDeadline n) ≤ s.now) :
    exec (.transferTimeout n) s = .next ((Dict.partEnd s n).reply St.transferTimeout) := by
  rw [exec_transferTimeout, execTransferTimeout, whenUp_eq hup, if_neg (by omega)]

/-- Settles O13: a record runs its row's operation once, on the state that has heard it, and a repeat is answered from the kept answers. -/
theorem records : Obligations.Records := by
  refine ⟨fun s n idx sub r h hp => ?_, fun s n idx sub r v h hp => ?_, fun s n idx sub off len r h hp => ?_, fun s n idx sub off r v h hp => ?_,
    fun s n r h hp => ?_, fun s n => transferTimeout_eq, fun s n idx sub v h hp => ?_, fun s n r k h hi hk hd hf => ?_⟩
  · rw [exec_recordRead, execRecordRead, whenUp_eq h.1.1, recorded_eq h, unlessPending_eq hp]
  · rw [exec_recordWrite, execRecordWrite, whenUp_eq h.1.1, recorded_eq h, writeAny_eq hp]
  · rw [exec_readSegment, execReadSegment, whenUp_eq h.1.1, recorded_eq h, unlessPending_eq hp]
  · rw [exec_writeSegment, execWriteSegment, whenUp_eq h.1.1, recorded_eq h, unlessPending_eq hp]
  · rw [exec_recordAbort, execRecordAbort, whenUp_eq h.1.1, recorded_eq h, unlessPending_eq hp]
  · rw [exec_objectWrite, execObjectWrite, whenUp_eq h.1, requested_eq h, writeAny_eq hp]
  · have again : ∀ op key off len f, r.op = op → Dict.recorded s n r op key off len f = { s.heard n with answer := k.ans } :=
      fun _ _ _ _ _ ho => recorded_again h ho hi hk hd hf
    refine ⟨fun ho idx sub => ?_, fun ho idx sub v => ?_, fun ho idx sub off len => ?_, fun ho idx sub off v => ?_, fun ho => ?_⟩
    · rw [exec_recordRead, execRecordRead, whenUp_eq h.1, again _ _ _ _ _ ho]
    · rw [exec_recordWrite, execRecordWrite, whenUp_eq h.1, again _ _ _ _ _ ho]
    · rw [exec_readSegment, execReadSegment, whenUp_eq h.1, again _ _ _ _ _ ho]
    · rw [exec_writeSegment, execWriteSegment, whenUp_eq h.1, again _ _ _ _ _ ho]
    · rw [exec_recordAbort, execRecordAbort, whenUp_eq h.1, again _ _ _ _ _ ho]

/-! ## Commits (R38, R45) -/

/-- A session's own copy of an object is no register without a second index: their low 20 bits differ. -/
theorem skey_ne_ireg_of_low {n k t a : Nat} (hk : k % 0x100000 ≠ 0) : skey n k ≠ ireg t a 0 := by
  simp only [skey, ireg]
  omega

/-- Answering on any port writes no session's copy of an object. -/
theorem skey_notMem_postedKeys_of_low {i m k : Nat} (hk : k % 0x100000 ≠ 0) : skey m k ∉ postedKeys i := by
  simp only [postedKeys, List.mem_cons, List.not_mem_nil, or_false, not_or]
  refine ⟨?_, ?_, ?_, ?_, ?_, ?_, ?_, ?_, ?_, ?_, ?_, ?_⟩ <;> exact skey_ne_ireg_of_low hk

/-- The results of a commit operation read as they were set. -/
theorem commitAnswer_results (s : State) (n st detail reason : Nat) :
    (s.commitAnswer n st detail reason).answer = ⟨st, []⟩
    ∧ (s.commitAnswer n st detail reason).reg (skey n Obj.commitStatus) = st
    ∧ (s.commitAnswer n st detail reason).reg (skey n Obj.commitDetail) = detail := by
  simp only [State.commitAnswer, State.reply_reg, State.setRegs_cons, State.setRegs_nil]
  refine ⟨rfl, ?_, ?_⟩
  · rw [State.reg_setReg_other _ _ (skey_ne_of_key (by decide)), State.reg_setReg_other _ _ (skey_ne_of_key (by decide)), State.reg_setReg_same]
  · rw [State.reg_setReg_other _ _ (skey_ne_of_key (by decide)), State.reg_setReg_same]

/-- Setting them writes no other register. -/
theorem commitAnswer_reg {s : State} {n st detail reason k : Nat} (hs : k ≠ skey n Obj.commitStatus) (hd : k ≠ skey n Obj.commitDetail)
    (hr : k ≠ skey n Obj.commitReason) : (s.commitAnswer n st detail reason).reg k = s.reg k := by
  rw [State.commitAnswer, State.reply_reg]
  exact setRegs_reg_other (by
    simp only [List.forall_mem_cons]
    exact ⟨hs, hd, hr, List.forall_mem_nil _⟩)

/-- A commit that fails a check sets its session's results and does nothing else. -/
theorem commitOp_refused {s : State} {n hdl at' : Nat} (h : (s.commitCheck n hdl at').1 ≠ St.ok) :
    s.commitOp n hdl at' = s.commitAnswer n (s.commitCheck n hdl at').1 (s.commitCheck n hdl at').2.1 (s.commitCheck n hdl at').2.2 := by
  rw [State.commitOp]
  exact if_neg h

/-- Settles O15: a refusal is `commitAnswer` on the state of before. -/
theorem refusedCommitChangesNothing : Obligations.RefusedCommitChangesNothing := by
  intro s n hdl at' h
  rw [commitOp_refused h]
  obtain ⟨hanswer, hstatus, hdetail⟩ := commitAnswer_results s n (s.commitCheck n hdl at').1 (s.commitCheck n hdl at').2.1 (s.commitCheck n hdl at').2.2
  refine ⟨?_, ?_, ?_, ?_, congrArg Answer.status hanswer, hstatus, hdetail, fun k => commitAnswer_reg⟩ <;> simp [State.commitAnswer]

/-- Each operation of CommitOp ends by setting its session's commit results. -/
theorem commitWrite_answers (s : State) (n x : Nat) : ∃ t st detail reason, Dict.commitWrite s n x = State.commitAnswer t n st detail reason := by
  simp only [Dict.commitWrite, State.commitOp, State.discardOp, State.cancelOp]
  split
  · split <;> exact ⟨_, _, _, _, rfl⟩
  · split
    · split
      · exact ⟨_, _, _, _, rfl⟩
      · split <;> exact ⟨_, _, _, _, rfl⟩
    · split
      · exact ⟨_, _, _, _, rfl⟩
      · split
        · exact ⟨_, _, _, _, rfl⟩
        · split <;> exact ⟨_, _, _, _, rfl⟩

/-- The write of CommitOp is answered with the status that CommitStatus then reads. -/
theorem answered_commitWrite_status (s u : State) (n x : Nat) :
    (answered s n 2 Obj.commitOp (Dict.commitWrite u n x)).answer
      = ⟨(answered s n 2 Obj.commitOp (Dict.commitWrite u n x)).reg (skey n Obj.commitStatus), []⟩ := by
  obtain ⟨t, st, detail, reason, heq⟩ := commitWrite_answers u n x
  obtain ⟨hanswer, hstatus, -⟩ := commitAnswer_results t n st detail reason
  rw [heq, posted_answer, posted_reg (skey_notMem_postedKeys_of_low (by decide)), hanswer, hstatus]

/-! ## The instants at which banks move (R41, R48, R50, R37, R56, R78) -/

/-- A source's events cross to a unit that takes them. -/
theorem boundaryApply_eq {s : State} {h k : Nat} (hup : s.up = true) (hthere : s.unitThere h = true) (hsource : s.sourceOf h ≠ 0)
    (hport : s.reg (Reg.portReset h) ≠ 1) : exec (.boundaryApply h k) s = .next (s.crossings h k) := by
  rw [exec_boundaryApply, execBoundaryApply, whenUp_eq hup, if_neg (not_or.mpr ⟨by simp [hthere], not_or.mpr ⟨hsource, hport⟩⟩)]

/-- A scheduled commit whose time has come while time is not locked is dropped (R50). -/
theorem schedTimeLost_eq {s : State} {h : Nat} (hup : s.up = true) (hat : s.reg (Reg.pendAt h) ≠ 0) (hdue : s.reg (Reg.pendAt h) ≤ s.now)
    (hlock : s.lockedAt h = false) : exec (.schedTimeLost h) s = .next (s.schedDrop h) := by
  rw [exec_schedTimeLost, execSchedTimeLost, whenUp_eq hup, if_neg (not_or.mpr ⟨hat, not_or.mpr ⟨by omega, by simp [hlock]⟩⟩)]

/-- A shadow held too long is lost (R37). -/
theorem shadowHoldExpiry_eq {s : State} {h : Nat} (hup : s.up = true) (hheld : s.reg (Reg.holder h) ≠ 0) (hdue : s.reg (Reg.holdDeadline h) ≤ s.now) :
    exec (.shadowHoldExpiry h) s = .next (s.loseShadow h 2) := by
  rw [exec_shadowHoldExpiry, execShadowHoldExpiry, whenUp_eq hup, if_neg (by omega)]

/-- Losing a shadow that is held reverts it, tells its holder and ends the hold. -/
theorem loseShadow_held {s : State} {h cause : Nat} (hheld : s.reg (Reg.holder h) ≠ 0) :
    s.loseShadow h cause = ((s.revertShadow h).shadowLost h cause).setReg (Reg.holder h) 0 := by
  rw [State.loseShadow, if_neg hheld]

/-- A key is taken again when its lockout is over (R56). -/
theorem authLockoutEnd_eq {s : State} {k : Nat} (hup : s.up = true) (hdue : s.reg (Reg.authLockUntil k) ≤ s.now) :
    exec (.authLockoutEnd k) s = .next (s.setReg (Reg.authLockUntil k) 0) := by
  rw [exec_authLockoutEnd, execAuthLockoutEnd, whenUp_eq hup, if_neg (by omega)]

/-- Settles O14: the three operations are the three branches of `commitWrite`, each ending in its session's results, and an instant acts when it is due. -/
theorem commitsAndInstants : Obligations.CommitsAndInstants := by
  refine ⟨fun s n _ ht => ?_, fun s n _ ht => ?_, fun s n _ ht => ?_, fun s h k hup hthere hsource hport => boundaryApply_eq hup hthere hsource hport,
    fun s h hup hat hdue hlock => schedTimeLost_eq hup hat hdue hlock, fun s h hep => ?_, fun s h hup hheld hdue => ?_, fun s k => authLockoutEnd_eq⟩
  · have hexec : exec (.commit n) s = .next (answered s n 2 Obj.commitOp (Dict.commitWrite (s.heard n) n 1)) := by
      rw [exec_commit, execCommit, whenUp_eq ht.1.1, written_eq ht]
    exact ⟨hexec, _, hexec, answered_commitWrite_status s _ n 1⟩
  · have hexec : exec (.discardShadow n) s = .next (answered s n 2 Obj.commitOp (Dict.commitWrite (s.heard n) n 2)) := by
      rw [exec_discardShadow, execDiscardShadow, whenUp_eq ht.1.1, written_eq ht]
    exact ⟨hexec, _, hexec, answered_commitWrite_status s _ n 2⟩
  · have hexec : exec (.cancelPending n) s = .next (answered s n 2 Obj.commitOp (Dict.commitWrite (s.heard n) n 3)) := by
      rw [exec_cancelPending, execCancelPending, whenUp_eq ht.1.1, written_eq ht]
    exact ⟨hexec, _, hexec, answered_commitWrite_status s _ n 3⟩
  · rw [State.schedDrop]
    exact if_neg hep
  · rw [shadowHoldExpiry_eq hup hheld hdue, loseShadow_held hheld, State.shadowLost, State.revertShadow_reg]

end Sys2Proof.Laws
end

section
/-!
Sessions: how they open, how they end, and debug certificates (R29, R30, R37, R395, R405, R406, R422, R423).
-/
namespace Sys2Proof.Laws

open Sys2Proof.Machine Sys2Proof.Safety

/-! ## What opening a session writes (R29) -/

/-- Number that the next session takes. -/
abbrev nextNumber (s : State) : Nat := s.reg Reg.nextSession + 1

/-- The kept answers are no register. -/
theorem withKept_reg (s : State) (l : Kmap (List Kept)) (k : Nat) : State.reg { s with kept := l } k = s.reg k := rfl

/-- A session that opens is open and not pending, and has the transport and class it was opened with. -/
theorem openSession_session (s : State) (tr port cl w : Nat) :
    (s.openSession tr port cl w).reg (Reg.sessOpen (nextNumber s)) = 1
    ∧ (s.openSession tr port cl w).reg (Reg.sessTransport (nextNumber s)) = tr
    ∧ (s.openSession tr port cl w).reg (Reg.sessClass (nextNumber s)) = cl
    ∧ (s.openSession tr port cl w).reg (Reg.sessPending (nextNumber s)) = 0 := by
  simp only [State.openSession, State.replyData_reg, withKept_reg]
  simp [State.reg_setReg]

/-- Opening a session is answered with its number and moves neither the memory nor a bank. -/
theorem openSession_frame (s : State) (tr port cl w : Nat) :
    (s.openSession tr port cl w).answer = ⟨St.ok, leBytes 2 (nextNumber s)⟩ ∧ (s.openSession tr port cl w).mem = s.mem
    ∧ (s.openSession tr port cl w).shadow = s.shadow ∧ (s.openSession tr port cl w).pend = s.pend := by
  refine ⟨rfl, ?_, ?_, ?_⟩ <;> simp [State.openSession, State.clearSession]

/-! ## Clients' sessions (R29) -/

/-- Transports on which a client may open a session: plain UDP, a PCIe port, the virtual function of a guest, a trained hoist link. -/
abbrev Reaches (s : State) (tr port : Nat) : Prop :=
  tr = 2 ∨ (tr = 4 ∧ port < 4) ∨ (tr = 5 ∧ port < 32 ∧ s.reg (Obj.instState port) ≠ 0)
    ∨ (tr = 6 ∧ port < 4 ∧ 3 ≤ s.reg (Obj.hoistLinkState port))

/-- The state once a client has opened a session where there is room. -/
def clientOpened (s : State) (tr port cl w : Nat) : State :=
  if tr = 5 then s.openSession 5 port Cls.gst (s.instWorld port)
  else if tr = 6 then s.openSession 6 port (cl % 6) w
  else (s.openSession tr port Cls.fld 0xFF).setReg (Reg.sessDeadline (nextNumber s)) (s.now + 60000000000)

/-- A client on a transport that it reaches opens a session, or finds no room. -/
theorem clientOpens_eq {s : State} {tr port cl w : Nat} (h : Reaches s tr port) :
    s.clientOpens tr port cl w = if !s.sessionRoom tr port then s.reply St.sessionLimit else clientOpened s tr port cl w := by
  have hcan : tr ≠ 1 := by rcases h with rfl | ⟨rfl, -⟩ | ⟨rfl, -⟩ | ⟨rfl, -⟩ <;> decide
  rw [State.clientOpens, if_neg hcan]
  refine (if_neg ?_).trans rfl
  rcases h with rfl | ⟨rfl, hport⟩ | ⟨rfl, hport, hinst⟩ | ⟨rfl, hport, hlink⟩
  · simp
  · simp [hport]
  · simp [hport, hinst]
  · simp [hport, hlink]

/-- The session opened has the client's transport and the class it gives. -/
theorem clientOpened_session {s : State} {tr port cl w : Nat} :
    (clientOpened s tr port cl w).answer = ⟨St.ok, leBytes 2 (nextNumber s)⟩
    ∧ (clientOpened s tr port cl w).reg (Reg.sessOpen (nextNumber s)) = 1
    ∧ (clientOpened s tr port cl w).reg (Reg.sessTransport (nextNumber s)) = tr
    ∧ (clientOpened s tr port cl w).reg (Reg.sessClass (nextNumber s)) = (if tr = 5 then Cls.gst else if tr = 6 then cl % 6 else Cls.fld)
    ∧ (clientOpened s tr port cl w).mem = s.mem
    ∧ (clientOpened s tr port cl w).shadow = s.shadow ∧ (clientOpened s tr port cl w).pend = s.pend := by
  unfold clientOpened
  split
  · next htr =>
    obtain ⟨hopen, htransport, hclass, -⟩ := openSession_session s 5 port Cls.gst (s.instWorld port)
    obtain ⟨hanswer, hframe⟩ := openSession_frame s 5 port Cls.gst (s.instWorld port)
    exact ⟨hanswer, hopen, htransport.trans htr.symm, hclass, hframe⟩
  · split
    · next htr =>
      obtain ⟨hopen, htransport, hclass, -⟩ := openSession_session s 6 port (cl % 6) w
      obtain ⟨hanswer, hframe⟩ := openSession_frame s 6 port (cl % 6) w
      exact ⟨hanswer, hopen, htransport.trans htr.symm, hclass, hframe⟩
    · obtain ⟨hopen, htransport, hclass, -⟩ := openSession_session s tr port Cls.fld 0xFF
      obtain ⟨hanswer, hframe⟩ := openSession_frame s tr port Cls.fld 0xFF
      refine ⟨hanswer, ?_, ?_, ?_, hframe⟩ <;> rw [State.reg_setReg_other _ _ (ireg_ne_of_type (by decide))]
      exacts [hopen, htransport, hclass]

/-- While the server takes new sessions, opening one is the client's act. -/
theorem sessionOpen_eq {s : State} {tr port cl w : Nat} (h : s.accepts = true) :
    exec (.sessionOpen tr port cl w) s = .next (s.clientOpens tr port cl w) := by
  rw [exec_sessionOpen, execSessionOpen, if_pos h]

/-- A CAN FD port that Halyard holds and whose node runs is answered the number of its one session. -/
theorem clientOpens_can {s : State} {port cl w : Nat} (hport : port < 4) (hheld : s.reg (Reg.blockHolder (U.can port)) = 0)
    (hopen : s.reg (Reg.sessOpen (3 + port)) = 1) : s.clientOpens 1 port cl w = s.replyData (leBytes 2 (3 + port)) := by
  rw [State.clientOpens, if_pos rfl, if_neg (by omega), if_pos hopen]

/-! ## Handshakes (R30, R395) -/

/-- The server takes no new session in recovery. -/
theorem accepts_recovery {s : State} (h : s.reg Obj.powerState = 7) : s.accepts = false := by
  simp [State.accepts, h]

/-- The server takes new sessions in SERVICE alone. -/
theorem not_recovery_of_accepts {s : State} (h : s.accepts = true) : s.reg Obj.powerState ≠ 7 := by
  intro h7
  rw [accepts_recovery h7] at h
  contradiction

/-- A handshake with its parameters and a certificate that verifies completes. -/
theorem dtlsHandshake_eq {s : State} {owner valid : Bool} {key : Nat} (h : s.accepts = true) :
    exec (.dtlsHandshake true true owner valid key) s = .next (s.handshake owner valid key) := by
  rw [exec_dtlsHandshake, execDtlsHandshake, if_neg (not_recovery_of_accepts h), if_neg (by simp [h])]

/-- A certificate of the live owner key, valid or unchecked, opens an OWN session. -/
theorem handshake_owner {s : State} {owner valid : Bool} {key : Nat} (hid : s.reg Reg.identityLost ≠ 1) (hroom : s.sessionRoom 3 0 = true)
    (h : owner = true ∧ s.reg Obj.ownerSlot ≠ 0xFF ∧ (s.reg Obj.timeSource ≠ 1 ∨ valid = true)) :
    s.handshake owner valid key = s.openSession 3 0 Cls.own 2 := by
  rw [State.handshake, if_neg hid, if_neg (by simp [hroom]), if_pos h]

/-- Any other certificate opens a pending session, which keeps its key and lasts 10 s. -/
theorem handshake_pending {s : State} {owner valid : Bool} {key : Nat} (hid : s.reg Reg.identityLost ≠ 1) (hroom : s.sessionRoom 3 0 = true)
    (h : ¬ (owner = true ∧ s.reg Obj.ownerSlot ≠ 0xFF ∧ (s.reg Obj.timeSource ≠ 1 ∨ valid = true))) :
    s.handshake owner valid key = (s.openSession 3 0 Cls.dbg 0xFF).setRegs [(Reg.sessPending (nextNumber s), 1), (Reg.sessKey (nextNumber s), key),
      (Reg.sessDeadline (nextNumber s), s.now + 10000000000)] := by
  rw [State.handshake, if_neg hid, if_neg (by simp [hroom]), if_neg h]

/-- The session that a handshake opens is open, and is OWN or pending as its certificate says. -/
theorem handshake_session {s : State} {owner valid : Bool} {key : Nat} (hid : s.reg Reg.identityLost ≠ 1) (hroom : s.sessionRoom 3 0 = true) :
    (s.handshake owner valid key).reg (Reg.sessOpen (nextNumber s)) = 1
    ∧ (owner = true ∧ s.reg Obj.ownerSlot ≠ 0xFF ∧ (s.reg Obj.timeSource ≠ 1 ∨ valid = true) →
        (s.handshake owner valid key).reg (Reg.sessClass (nextNumber s)) = Cls.own ∧ (s.handshake owner valid key).reg (Reg.sessPending (nextNumber s)) = 0)
    ∧ (owner = false ∨ s.reg Obj.ownerSlot = 0xFF ∨ (s.reg Obj.timeSource = 1 ∧ valid = false) →
        (s.handshake owner valid key).reg (Reg.sessPending (nextNumber s)) = 1 ∧ (s.handshake owner valid key).reg (Reg.sessKey (nextNumber s)) = key
        ∧ (s.handshake owner valid key).reg (Reg.sessDeadline (nextNumber s)) = s.now + 10000000000) := by
  by_cases h : owner = true ∧ s.reg Obj.ownerSlot ≠ 0xFF ∧ (s.reg Obj.timeSource ≠ 1 ∨ valid = true)
  · obtain ⟨hopen, -, hclass, hpending⟩ := openSession_session s 3 0 Cls.own 2
    rw [handshake_owner hid hroom h]
    refine ⟨hopen, fun _ => ⟨hclass, hpending⟩, fun hother => ?_⟩
    obtain ⟨howner, hslot, hvalid⟩ := h
    rcases hother with hno | hno | ⟨htime, hno⟩
    · simp [hno] at howner
    · exact absurd hno hslot
    · simp [htime, hno] at hvalid
  · obtain ⟨hopen, -⟩ := openSession_session s 3 0 Cls.dbg 0xFF
    rw [handshake_pending hid hroom h]
    refine ⟨?_, fun howner => absurd howner h, fun _ => ?_⟩
    · rw [setRegs_reg_other (by
        simp only [List.forall_mem_cons]
        exact ⟨ireg_ne_of_type (by decide), ireg_ne_of_type (by decide), ireg_ne_of_type (by decide), List.forall_mem_nil _⟩), hopen]
    · simp [State.reg_setReg]

/-- Settles O10: what a client or a handshake opens is `openSession` with the transport's class. -/
theorem sessionsOpen : Obligations.SessionsOpen := by
  refine ⟨⟨fun s tr port cl w hacc hroom hreach => ?_, fun s tr port cl w hacc hroom hreach => ?_, fun s port cl w hacc hport hheld hopen => ?_⟩,
    fun s owner valid key hacc hid hroom => ?_, fun s owner valid key hacc => ⟨fun hid => ?_, fun hid hroom => ?_⟩,
    fun s tr port cl w params verifies owner valid key hrec => ⟨fun htr => ?_, fun htr => ?_, ?_⟩,
    fun s params verifies owner valid key hbad hpower => ?_⟩
  · refine ⟨_, sessionOpen_eq hacc, ?_⟩
    rw [clientOpens_eq hreach, if_neg (by simp [hroom])]
    exact clientOpened_session
  · rw [sessionOpen_eq hacc, clientOpens_eq hreach, if_pos (by simp [hroom])]
  · rw [sessionOpen_eq hacc, clientOpens_can hport hheld hopen]
  · exact ⟨_, dtlsHandshake_eq hacc, handshake_session hid hroom⟩
  · rw [dtlsHandshake_eq hacc, State.handshake, if_pos hid]
  · rw [dtlsHandshake_eq hacc, State.handshake, if_neg hid, if_pos (by simp [hroom])]
  · rw [exec_sessionOpen, execSessionOpen, if_neg (by simp [accepts_recovery hrec]), if_pos ⟨hrec, htr⟩]
  · rw [exec_sessionOpen, execSessionOpen, if_neg (by simp [accepts_recovery hrec]), if_neg (fun hboth => htr hboth.2)]
  · rw [exec_dtlsHandshake, execDtlsHandshake, if_pos hrec]
  · rw [exec_dtlsHandshake, execDtlsHandshake, if_neg hpower, if_pos]
    rcases hbad with rfl | rfl <;> simp

/-! ## Sessions end (R29, R30, R37, R405) -/

/-- A closed session is open and pending no more, and holds no part of a value and no certificate. -/
theorem closeSession_session {s : State} {n : Nat} (h : s.reg (Reg.sessOpen n) = 1) :
    (s.closeSession n).reg (Reg.sessOpen n) = 0 ∧ (s.closeSession n).reg (Reg.sessPending n) = 0 ∧ (s.closeSession n).reg (Reg.partKey n) = 0
    ∧ (s.closeSession n).reg (Reg.certRef n) = 0xFF := by
  rw [State.closeSession, State.closeSessionFor, if_neg (by rw [h]; decide)]
  simp [State.reg_setReg]

/-- A session is closed with its transport. -/
theorem sessionClose_eq {s : State} {n : Nat} (h : 2 ≤ s.reg (Reg.sessTransport n)) : exec (.sessionClose n) s = .next (s.closeSession n) := by
  rw [exec_sessionClose, execSessionClose, if_neg (by omega)]

/-- A plain UDP session is closed at its deadline. -/
theorem udpSessionTimeout_eq {s : State} {n : Nat} (hopen : s.reg (Reg.sessOpen n) = 1) (hudp : s.reg (Reg.sessTransport n) = 2)
    (hdue : s.reg (Reg.sessDeadline n) ≤ s.now) : exec (.udpSessionTimeout n) s = .next (s.closeSession n) := by
  rw [exec_udpSessionTimeout, execUdpSessionTimeout, if_pos ⟨hopen, hudp, hdue⟩]

/-- A pending session is closed at its deadline. -/
theorem pendingSessionTimeout_eq {s : State} {n : Nat} (hopen : s.reg (Reg.sessOpen n) = 1) (hpending : s.reg (Reg.sessPending n) = 1)
    (hdue : s.reg (Reg.sessDeadline n) ≤ s.now) : exec (.pendingSessionTimeout n) s = .next (s.closeSession n) := by
  rw [exec_pendingSessionTimeout, execPendingSessionTimeout, if_pos ⟨hopen, hpending, hdue⟩]

/-- Before the deadline neither closes it. -/
theorem sessionTimeouts_early {s : State} {n : Nat} (h : s.now < s.reg (Reg.sessDeadline n)) :
    exec (.udpSessionTimeout n) s = .next s ∧ exec (.pendingSessionTimeout n) s = .next s := by
  rw [exec_udpSessionTimeout, execUdpSessionTimeout, exec_pendingSessionTimeout, execPendingSessionTimeout, if_neg (by omega), if_neg (by omega)]
  exact ⟨rfl, rfl⟩

/-- A debug session is closed when its certificate's validity is over. -/
theorem debugCertExpiry_eq {s : State} {n : Nat} (hopen : s.reg (Reg.sessOpen n) = 1) (hcert : s.reg (Reg.certRef n) ≠ 0xFF)
    (hover : s.reg (Reg.certUntil n) < s.hoursNow) : exec (.debugCertExpiry n) s = .next (s.closeSession n) := by
  rw [exec_debugCertExpiry, execDebugCertExpiry, if_pos ⟨hopen, hcert, hover⟩]

/-! ## Debug certificates (R30, R405, R406, R422, R423) -/

/-- A certificate is judged on the state that has heard its session. -/
theorem debugCertIn_eq {s : State} {n : Nat} {d : Bytes} {sigOk cosignOk : Bool} (h : Serves s n) :
    exec (.debugCertIn n d sigOk cosignOk) s = .next (answered s n 2 Obj.debugCertIn ((s.heard n).certIn n d sigOk cosignOk)) := by
  rw [exec_debugCertIn, execDebugCertIn, requested_eq h]

/-- A session that is not pending may write no certificate. -/
theorem certIn_notPending {s : State} {n : Nat} {d : Bytes} {sigOk cosignOk : Bool} (h : s.reg (Reg.sessPending n) = 0) :
    s.certIn n d sigOk cosignOk = s.reply St.accessDenied := by
  rw [State.certIn, if_pos (Or.inl h)]

/-- A certificate of a pending session that fails a check closes it; one that passes them makes it a debug session. -/
theorem certIn_pending {s : State} {n : Nat} {d : Bytes} {sigOk cosignOk : Bool} (hpending : s.reg (Reg.sessPending n) ≠ 0) (hlength : d.length = 456) :
    s.certIn n d sigOk cosignOk = (
      let st := s.certStatus d sigOk cosignOk (Cert.holderKey d == s.reg (Reg.sessKey n))
      if st ≠ St.ok then (s.closeSession n).reply st else ((s.setReg (skey n Obj.debugCertIn) (leNat d)).certTake n d).reply St.ok) := by
  rw [State.certIn, if_neg (by omega)]

/-- A certificate on the JTAG port is judged while the server takes new sessions. -/
theorem jtagDebugOpen_eq {s : State} {d : Bytes} {sigOk cosignOk holderOk : Bool} (h : s.accepts = true) :
    exec (.jtagDebugOpen d sigOk cosignOk holderOk) s = .next (s.certJtag d sigOk cosignOk holderOk) := by
  rw [exec_jtagDebugOpen, execJtagDebugOpen, if_pos h]

/-- The state that boundary scan starts from: a reset that ends in it. -/
def scanOpened (s : State) : State :=
  let u := s.setRegs [(Reg.scanOpen, 1), (Reg.nextCause, 5), (Reg.bootKind, 0)]
  ((((u.setNum Num.instBoot ((List.range 56).filter (fun i => u.reg (Obj.instState i) != 0))).wipe false).powerTo 1 5).ioDerive).reply St.ok

/-- Boundary scan needs a debug session under SCOPE bit 1, or manufacturing (R406). -/
theorem boundaryScanOpen_eq {s : State} {n : Nat} (h : Serves s n) (hp : (s.heard n).reg (Reg.sessPending n) ≠ 1) :
    exec (.boundaryScanOpen n) s = .next (answered s n 2 0 (
      if (s.heard n).reg (Reg.sessClass n) ≠ Cls.dbg ∧ (s.heard n).reg Obj.lifecycleState ≠ 0 then (s.heard n).reply St.accessDenied
      else if !bit ((s.heard n).reg (Reg.certScope n)) 1 ∧ (s.heard n).reg Obj.lifecycleState ≠ 0 then (s.heard n).reply St.debugScope
      else scanOpened (s.heard n))) := by
  rw [exec_boundaryScanOpen, execBoundaryScanOpen, request_eq h hp]
  rfl

/-- In recovery a client brings a certificate, or an owner recovery package. -/
theorem recoveryRequest_eq {s : State} {cert : Bool} {d : Bytes} {sigOk cosignOk holderOk innerOk : Bool} (h : s.reg Obj.powerState = 7) :
    exec (.recoveryRequest cert d sigOk cosignOk holderOk innerOk) s
      = .next (if cert then s.recoveryCert d sigOk cosignOk holderOk else s.recoveryPackage d sigOk innerOk) := by
  rw [exec_recoveryRequest, execRecoveryRequest, if_neg (by simp [h])]

/-- Settles O11: each end is `closeSession`, and each certificate's way in is one branch of its command. -/
theorem sessionsEnd : Obligations.SessionsEnd := by
  refine ⟨⟨fun s n hopen htr => ⟨sessionClose_eq htr, closeSession_session hopen⟩, fun s n hopen hudp hdue => udpSessionTimeout_eq hopen hudp hdue,
      fun s n hopen hpending hdue => pendingSessionTimeout_eq hopen hpending hdue, fun s n hopen hcert hover => debugCertExpiry_eq hopen hcert hover,
      fun s n hearly => sessionTimeouts_early hearly⟩,
    fun s n d sigOk cosignOk h => ⟨fun hp => ?_, fun hp hlen hst => ?_, fun hp hlen hst => ?_⟩,
    fun s d sigOk cosignOk holderOk hacc => ⟨fun hst => ?_, fun hst hscope => ?_, fun hst hscope => ?_⟩,
    fun s n h hp => ⟨fun hcls hlife => ?_, fun hcls hscope hlife => ?_, fun hmay => ?_⟩,
    fun s d sigOk cosignOk holderOk innerOk hrec => ⟨fun hst hscope => ?_, fun hst => ?_, fun hst => ?_⟩⟩
  · rw [debugCertIn_eq h, certIn_notPending hp]
  · rw [debugCertIn_eq h, certIn_pending hp hlen]
    exact congrArg _ (congrArg _ (if_pos hst))
  · rw [debugCertIn_eq h, certIn_pending hp hlen]
    exact congrArg _ (congrArg _ (if_neg (not_not.mpr hst)))
  · rw [jtagDebugOpen_eq hacc, State.certJtag, if_pos hst]
  · rw [jtagDebugOpen_eq hacc, State.certJtag, if_neg (not_not.mpr hst), if_pos (by simp [hscope])]
  · rw [jtagDebugOpen_eq hacc, State.certJtag, if_neg (not_not.mpr hst), if_neg (by simp [hscope])]
  · rw [boundaryScanOpen_eq h hp, if_pos ⟨hcls, hlife⟩]
  · rw [boundaryScanOpen_eq h hp, if_neg (fun hno => hno.1 hcls), if_pos ⟨by rw [hscope]; rfl, hlife⟩]
  · rw [boundaryScanOpen_eq h hp]
    rcases hmay with ⟨hcls, hscope⟩ | hlife
    · rw [if_neg (fun hno => hno.1 hcls), if_neg (by rw [hscope]; simp)]
      rfl
    · rw [if_neg (fun hno => hno.2 hlife), if_neg (fun hno => hno.2 hlife)]
      rfl
  · rw [recoveryRequest_eq hrec, if_pos rfl, State.recoveryCert, if_neg (not_not.mpr hst), if_neg (by simp [hscope])]
  · rw [recoveryRequest_eq hrec, if_pos rfl, State.recoveryCert, if_pos hst]
  · rw [recoveryRequest_eq hrec, if_neg (by decide), State.recoveryPackage, if_pos (Or.inl hst)]

end Sys2Proof.Laws
end

section
/-!
Windows, authenticated envelopes and the owner event ring (R56, R57, R68 to R71, R515).
-/
namespace Sys2Proof.Laws

open Sys2Proof.Machine Sys2Proof.Safety

/-! ## What an index names (R68, R69) -/

/-- An index that is no window's data names an object of this device. -/
theorem place_here {s : State} {n key : Nat} (h : Dict.windowOf (key / 256) = none) : Dict.place s n key = .here key := by
  rw [Dict.place, h]

/-- A window that is not mapped leads nowhere. -/
theorem place_unmapped {s : State} {n key w : Nat} (hw : Dict.windowOf (key / 256) = some w) (hmap : Dict.mapped s n w = false) :
    Dict.place s n key = .barred St.windowUnmapped := by
  simp [Dict.place, hw, hmap]

/-- A window on an object of this device that is no table names that object. -/
theorem place_local {s : State} {n key w : Nat} (hw : Dict.windowOf (key / 256) = some w) (hmap : Dict.mapped s n w = true)
    (hlocal : Dict.windowLocal s n w = true) (htable : Dict.table (s.reg (skey n (Obj.targetIndex w))) = none) :
    Dict.place s n key = .here (okey (s.reg (skey n (Obj.targetIndex w))) (key % 256)) := by
  simp [Dict.place, hw, hmap, hlocal, htable]

/-- The data index of window `w`. -/
theorem windowOf_data {w sub : Nat} (hw : w < 8) (hsub : sub < 256) : Dict.windowOf (okey (0xF001 + 2 * w) sub / 256) = some w := by
  have hidx : okey (0xF001 + 2 * w) sub / 256 = 0xF001 + 2 * w := by simp only [okey]; omega
  rw [hidx, Dict.windowOf, if_pos (by omega)]
  exact congrArg some (by omega)

/-- No index below the windows is a window's data. -/
theorem windowOf_below {idx : Nat} (h : idx < 0xF000) : Dict.windowOf idx = none := by
  rw [Dict.windowOf, if_neg (by omega)]

/-! ## Reads and writes by place -/

/-- A write that leads nowhere is answered with the status. -/
theorem writeObject_barred {s : State} {n key st : Nat} {d : Bytes} (h : Dict.place s n key = .barred st) :
    Dict.writeObject s n key d = s.reply st := by
  simp only [Dict.writeObject, Dict.write, h]

/-- A read that leads nowhere is answered with the status. -/
theorem readObject_barred {s : State} {n key st : Nat} {shadow : Bool} (h : Dict.place s n key = .barred st) :
    Dict.readObject s n key shadow = s.reply st := by
  simp only [Dict.readObject, Dict.readAny, h]
  rfl

/-- Writes of two keys that name one object are one write. -/
theorem writeObject_same_place {s : State} {n key key' k : Nat} {d : Bytes} (h : Dict.place s n key = .here k) (h' : Dict.place s n key' = .here k) :
    Dict.writeObject s n key d = Dict.writeObject s n key' d := by
  simp only [Dict.writeObject, Dict.write, h, h']

/-- Reads of two keys that name one object, with a sub-index, are one read. -/
theorem readObject_same_place {s : State} {n key key' k : Nat} {shadow : Bool} (h : Dict.place s n key = .here k) (h' : Dict.place s n key' = .here k)
    (hsub : k % 256 ≠ 0) : Dict.readObject s n key shadow = Dict.readObject s n key' shadow := by
  simp only [Dict.readObject, Dict.readAny, h, h', hsub, false_and, and_false, if_false]

/-- A write of AuthEnvelope that passes the gate is that of an envelope (R515). -/
theorem writeObject_authEnvelope {s : State} {n : Nat} {d : Bytes} (h : s.writeStatus n Obj.authEnvelope d = St.ok) :
    Dict.writeObject s n Obj.authEnvelope d = Dict.envelope (fun s k d => Dict.write 3 s n k d) s n d := by
  have hplace : Dict.place s n Obj.authEnvelope = .here Obj.authEnvelope := place_here (by decide)
  simp only [Dict.writeObject, Dict.write, hplace, h, ne_eq, not_true, if_true, if_false]

/-! ## Authenticated envelopes (R515, R56, R57) -/

/-- An envelope of the command's OP, or one that cannot be parsed, is taken as the write of AuthEnvelope that it is. -/
theorem envelope_request {s : State} {n op : Nat} {v : Bytes} (ht : Takes s n Obj.authEnvelope v) (hop : Dict.envOp v = op ∨ Dict.malformed v = true) :
    (if !Dict.malformed v ∧ Dict.envOp v ≠ op then s else s.request n 2 Obj.authEnvelope (fun s => Dict.writeObject s n Obj.authEnvelope v))
      = answered s n 2 Obj.authEnvelope (Dict.envelope (fun s k d => Dict.write 3 s n k d) (s.heard n) n v) := by
  obtain ⟨hserves, hwrite⟩ := ht
  have htaken : ¬ ((!Dict.malformed v) = true ∧ Dict.envOp v ≠ op) := by
    rintro ⟨hformed, hother⟩
    rcases hop with hop | hbad
    · exact hother hop
    · simp [hbad] at hformed
  rw [if_neg htaken, request_eq hserves (gate_pending (writeStatus_gate hwrite)), writeObject_authEnvelope hwrite]

/-! ## The owner event ring (R70, R71) -/

/-- A read of OwnerEvData takes the records that the class may read. -/
theorem readObject_ownerEvData {u : State} {n : Nat} (hp : u.reg (Reg.sessPending n) ≠ 1) (hg : u.gate n Obj.ownerEvData .r = St.ok) :
    Dict.readObject u n Obj.ownerEvData false = { (Can.takeOwner u n).1 with answer := ⟨St.ok, (Can.takeOwner u n).2⟩ } :=
  readObject_taken u n Obj.ownerEvData _ _ hp hg (by decide) (by decide) (by decide) (by decide) rfl rfl (by decide) (fun _ => rfl)

/-- A write of OwnerEvPush that passes its checks is carried out and answered. -/
theorem ownerEvPush_eq {s : State} {n : Nat} {v : Bytes} (ht : Takes s n Obj.ownerEvPush v) :
    exec (.ownerEvPush n v) s = .next (answered s n 2 Obj.ownerEvPush (Dict.pushWrite (s.heard n) n (leNat v))) := by
  rw [exec_ownerEvPush, execOwnerEvPush, whenUp_eq ht.1.1, written_eq ht]

/-- Hearing a request leaves the transport of its session. -/
theorem heard_sessTransport {s : State} {n : Nat} (h : Numbered s n) : (s.heard n).reg (Reg.sessTransport n) = s.reg (Reg.sessTransport n) := by
  obtain ⟨hn, hi⟩ := h
  refine heard_reg ?_
  simp only [heardKeys, List.mem_cons, List.not_mem_nil, or_false, not_or]
  refine ⟨?_, ?_, ?_, ?_, ?_⟩ <;> exact ireg_ne_of_range (by decide) (by omega) (by omega) (by decide) (by decide)

/-- Hearing a request of an Ethernet session leaves its transport, whatever its port. -/
theorem heard_sessTransport_ethernet {s : State} {n : Nat} (h : s.reg (Reg.sessTransport n) = 2 ∨ s.reg (Reg.sessTransport n) = 3) :
    (s.heard n).reg (Reg.sessTransport n) = s.reg (Reg.sessTransport n) := by
  simp only [State.heard]
  rcases h with h | h
  · rw [if_pos h, State.reg_setReg_other _ _ (ireg_ne_of_type (by decide))]
  · rw [if_neg (by omega), if_neg (by omega)]

/-- Settles O16: an envelope is judged and carried out by `envelope`, and a window's data stands for the place it is mapped on. -/
theorem envelopesAndWindows : Obligations.EnvelopesAndWindows := by
  refine ⟨fun s n v ht => ⟨fun hop => ?_, fun hop => ?_, fun hop => ?_, fun hop => ?_⟩, fun s n w sub wr v h hw hp hmap => ?_,
    fun s n w sub v h hw hp hmap hlocal htable hidx h1 hsub => ?_, fun s n h hp hg => ?_, fun s n v ht heth => ?_, fun s n v hn ht h2 h3 hone => ?_⟩
  · rw [exec_authWrite, execAuthWrite, whenUp_eq ht.1.1, envelope_request ht hop]; rfl
  · rw [exec_authCommit, execAuthCommit, whenUp_eq ht.1.1, envelope_request ht hop]; rfl
  · rw [exec_authDiscard, execAuthDiscard, whenUp_eq ht.1.1, envelope_request ht hop]; rfl
  · rw [exec_authCancel, execAuthCancel, whenUp_eq ht.1.1, envelope_request ht hop]; rfl
  · have hplace := place_unmapped (windowOf_data hw (Nat.mod_lt sub (by decide))) hmap
    rw [exec_windowAccess, execWindowAccess, whenUp_eq h.1, if_neg (by omega), request_eq h hp, writeObject_barred hplace, readObject_barred hplace, ite_self]
  · have hdata : Dict.windowOf (okey (0xF001 + 2 * w) sub / 256) = some w := windowOf_data hw (by omega)
    have hplace := place_local hdata hmap hlocal htable
    have htarget : Dict.place (s.heard n) n (okey ((s.heard n).reg (skey n (Obj.targetIndex w))) sub)
        = .here (okey ((s.heard n).reg (skey n (Obj.targetIndex w))) sub) := place_here (windowOf_below (by simp only [okey]; omega))
    have hmod : sub % 256 = sub := by omega
    have hlow : ∀ idx, okey idx sub % 256 = sub := fun idx => by simp only [okey]; omega
    rw [hlow] at hplace
    constructor
    · rw [exec_windowAccess, execWindowAccess, whenUp_eq h.1, if_neg (by omega), request_eq h hp, if_pos rfl, if_pos rfl, hmod,
        writeObject_same_place hplace htarget]
    · rw [exec_windowAccess, execWindowAccess, whenUp_eq h.1, if_neg (by omega), request_eq h hp, if_neg (by decide), if_neg (by decide), hmod,
        readObject_same_place hplace htarget (by rw [hlow]; omega)]
  · rw [exec_ownerEvRead, execOwnerEvRead, whenUp_eq h.1, request_eq h hp, readObject_ownerEvData hp hg]
  · rw [ownerEvPush_eq ht, Dict.pushWrite, if_neg]
    rintro ⟨hone, h2, h3⟩
    rcases heth with heth | heth | heth
    · exact h2 ((heard_sessTransport_ethernet (.inl heth)).trans heth)
    · exact h3 ((heard_sessTransport_ethernet (.inr heth)).trans heth)
    · exact heth hone
  · rw [ownerEvPush_eq ht, Dict.pushWrite, heard_sessTransport hn, if_pos ⟨hone, h2, h3⟩]

end Sys2Proof.Laws
end

section
/-!
USDO transfers (R29, R58, R61, R414).
-/
namespace Sys2Proof.Laws

open Sys2Proof.Machine Sys2Proof.Safety

/-! ## USDO transfers (R29, R58, R61, R414) -/

/-- Halyard's node of port `p` stands in service or in hold-up. -/
abbrev UsdoPort (s : State) (p : Nat) : Prop := (s.reg Obj.powerState = 3 ∨ s.reg Obj.powerState = 4) ∧ p < 4 ∧ s.reg (Reg.blockHolder (U.can p)) = 0

/-- In service and in hold-up the device is up. -/
theorem up_of_power {s : State} (h : s.reg Obj.powerState = 3 ∨ s.reg Obj.powerState = 4) : s.up = true := by
  rcases h with h | h <;> simp [State.up, h]

/-- The answer that aborts a request while another transfer or a restart of Halyard is in progress. -/
def usdoBusyAbort (s : State) (p : Nat) : State := { s.setReg (Obj.lastStatus p) St.busy with answer := ⟨St.busy, leBytes 4 0x08000000⟩ }

/-- What the phases of a transfer do: one frame, the start, the end, the abort, the time passed. -/
def usdoPhase (s : State) (p phase : Nat) (wr : Bool) (key : Nat) (v : Bytes) : State :=
  if phase = 0 then Usdo.whole s p wr key v
  else if phase = 1 then Usdo.start s p wr key v
  else if phase = 2 then Usdo.last s p wr key v
  else Usdo.done ((Usdo.ended s p).reply St.transferTimeout) p

/-- A request on a node's port is answered by its phase, where it may begin or goes on with the transfer in progress. -/
theorem usdoRequest_eq {s : State} {p phase idx sub : Nat} {wr : Bool} {v : Bytes} (hport : UsdoPort s p) (hopen : s.reg (Reg.sessOpen (3 + p)) ≠ 0)
    (hserving : s.reg Reg.halServing ≠ 0) (hbegin : phase < 2 → s.reg (Reg.usdoBusy p) ≠ 1) (hgoes : 2 ≤ phase → s.reg (Reg.usdoBusy p) = 1)
    (hdue : 4 ≤ phase → s.reg (Reg.partDeadline (3 + p)) ≤ s.now) :
    exec (.usdoRequest p phase wr idx sub v) s = .next (usdoPhase s p phase wr (okey idx (sub % 256)) v) := by
  obtain ⟨hpower, hp, hheld⟩ := hport
  have hport : ¬ (3 < p ∨ s.reg (Reg.blockHolder (U.can p)) ≠ 0 ∨ (s.reg Obj.powerState ≠ 3 ∧ s.reg Obj.powerState ≠ 4)) := by omega
  rw [exec_usdoRequest, execUsdoRequest, whenUp_eq (up_of_power hpower), if_neg hport, if_neg hserving, if_neg hopen, usdoPhase]
  by_cases hphase : phase < 2
  · rw [if_pos (by omega), if_neg (hbegin hphase)]
    by_cases h0 : phase = 0
    · rw [if_pos h0, if_pos h0]
    · rw [if_neg h0, if_neg h0, if_pos (by omega)]
  · have h0 : phase ≠ 0 := by omega
    have h1 : phase ≠ 1 := by omega
    rw [if_neg (not_or.mpr ⟨h0, h1⟩), if_neg (by rw [hgoes (by omega)]; decide), if_neg h0, if_neg h1]
    by_cases h2 : phase = 2
    · rw [if_pos h2, if_pos h2]
    · rw [if_neg h2, if_neg h2]
      by_cases h3 : phase = 3
      · rw [if_pos h3]
      · rw [if_neg h3, if_neg (by have := hdue (by omega); omega)]

/-- While Halyard restarts, and for a transfer that would begin within another, a request is aborted as BUSY. -/
theorem usdoRequest_busy {s : State} {p phase idx sub : Nat} {wr : Bool} {v : Bytes} (hport : UsdoPort s p)
    (h : s.reg Reg.halServing = 0 ∨ (s.reg (Reg.sessOpen (3 + p)) ≠ 0 ∧ s.reg (Reg.usdoBusy p) = 1 ∧ phase < 2)) :
    exec (.usdoRequest p phase wr idx sub v) s = .next (usdoBusyAbort s p) := by
  obtain ⟨hpower, hp, hheld⟩ := hport
  have hport : ¬ (3 < p ∨ s.reg (Reg.blockHolder (U.can p)) ≠ 0 ∨ (s.reg Obj.powerState ≠ 3 ∧ s.reg Obj.powerState ≠ 4)) := by omega
  rw [exec_usdoRequest, execUsdoRequest, whenUp_eq (up_of_power hpower), if_neg hport, usdoBusyAbort]
  by_cases hserving : s.reg Reg.halServing = 0
  · rw [if_pos hserving]
  · obtain ⟨hopen, hbusy, hphase⟩ := h.resolve_left hserving
    rw [if_neg hserving, if_neg hopen, if_pos (by omega), if_pos hbusy]

/-- A request that has been answered leaves its status in LastStatus; one that failed carries its abort code. -/
theorem done_status (s : State) (p : Nat) :
    (Usdo.done s p).reg (Obj.lastStatus p) = (Usdo.done s p).answer.status
    ∧ ((Usdo.done s p).answer.status ≠ St.ok → (Usdo.done s p).answer.data = leBytes 4 (Usdo.abortCode (Usdo.done s p).answer.status)) := by
  have hreg : (Usdo.done s p).reg (Obj.lastStatus p) = s.answer.status := State.reg_setReg_same s (Obj.lastStatus p) s.answer.status
  rw [hreg]
  simp only [Usdo.done]
  split
  · next hok => exact ⟨rfl, fun hfail => absurd hok hfail⟩
  · exact ⟨rfl, fun _ => rfl⟩

/-- Answering keeps the memory and the status, and the data of a request that succeeded. -/
theorem done_answer (s : State) (p : Nat) :
    (Usdo.done s p).answer.status = s.answer.status ∧ (Usdo.done s p).mem = s.mem ∧ (s.answer.status = St.ok → (Usdo.done s p).answer = s.answer) := by
  refine ⟨?_, rfl, fun hok => if_pos hok⟩
  simp only [Usdo.done]
  split <;> rfl

/-- Every phase ends with an answer that has been given. -/
theorem usdoPhase_done (s : State) (p phase : Nat) (wr : Bool) (key : Nat) (v : Bytes) : ∃ u, usdoPhase s p phase wr key v = Usdo.done u p := by
  simp only [usdoPhase, Usdo.whole, Usdo.start, Usdo.last]
  split
  · exact ⟨_, rfl⟩
  · split
    · split <;> exact ⟨_, rfl⟩
    · split
      · split
        · exact ⟨_, rfl⟩
        · split <;> exact ⟨_, rfl⟩
      · exact ⟨_, rfl⟩

/-- A status without a code of its own is aborted with 0x0800_0000. -/
theorem abortCode_other {st : Nat} (h1 : st ≠ St.indexUnknown) (h2 : st ≠ St.subUnknown) (h3 : st ≠ St.accessDenied) (h4 : st ≠ St.notOwner)
    (h5 : st ≠ St.typeMismatch) (h6 : st ≠ St.valueRange) (h7 : st ≠ St.transferTimeout) : Usdo.abortCode st = 0x08000000 := by
  rw [Usdo.abortCode, if_neg h1, if_neg h2, if_neg (not_or.mpr ⟨h3, h4⟩), if_neg h5, if_neg h6, if_neg h7]

/-- Settles O18: every phase ends in `done`, which keeps the status and chooses the abort code. -/
theorem usdoTransfers : Obligations.UsdoTransfers := by
  refine ⟨fun s p phase idx sub wr v hpower hp hheld hopen hserving hbegin hgoes hdue => ?_,
    fun s p idx sub wr v hpower hp hheld hopen hserving hbusy => ?_, fun s p phase idx sub wr v hpower hp hheld h => usdoRequest_busy ⟨hpower, hp, hheld⟩ h,
    by decide, by decide, by decide, by decide, by decide, by decide, by decide, fun st => abortCode_other⟩
  · obtain ⟨u, hu⟩ := usdoPhase_done s p phase wr (okey idx (sub % 256)) v
    exact ⟨_, usdoRequest_eq ⟨hpower, hp, hheld⟩ hopen hserving hbegin hgoes hdue, hu ▸ done_status u p⟩
  · have hexec := usdoRequest_eq (idx := idx) (sub := sub) (wr := wr) (v := v) ⟨hpower, hp, hheld⟩ hopen hserving (phase := 0) (fun _ => hbusy)
      (fun h => by omega) (fun h => by omega)
    exact ⟨_, hexec, done_answer _ p⟩

end Sys2Proof.Laws
end

section
/-!
The raw CAN FD controller and the USB host ports (R65 to R67).
-/
namespace Sys2Proof.Laws

open Sys2Proof.Machine Sys2Proof.Safety

/-! ## The raw CAN FD controller (R65, R66) -/

/-- A setting in range is stored and restarts the controller, now or after the frame in transmission. -/
theorem rawConfig_eq (s : State) (p sub v : Nat) :
    Can.rawConfig s p sub v = (if Can.rawConfigOk s p sub v = false then s.reply St.valueRange
      else if s.rawSending p = true then ((s.setReg (okey (0x7C40 + 0x80 * p) sub) v).setReg (Reg.rawRestart p) 1).reply St.ok
      else (Can.restart (s.setReg (okey (0x7C40 + 0x80 * p) sub) v) p).reply St.ok) := by
  rw [Can.rawConfig]
  cases Can.rawConfigOk s p sub v <;> cases s.rawSending p <;> rfl

/-- A write of whole records queues them. -/
theorem rawTxWrite_records {s : State} {p : Nat} {d : Bytes} (h : d.length % 80 = 0) :
    Can.rawTxWrite s p d = (s.rawQueue p (Can.records (d.length / 80) d)).1.reply (s.rawQueue p (Can.records (d.length / 80) d)).2 := by
  rw [Can.rawTxWrite, if_neg (by omega)]

/-- Records that are refused leave every queue. -/
theorem rawQueue_refused {s : State} {p : Nat} {rs : List Bytes} (h : (s.rawQueue p rs).2 ≠ St.ok) : (s.rawQueue p rs).1.fifos = s.fifos := by
  simp only [State.rawQueue] at h ⊢
  split
  · rfl
  · split
    · rfl
    · next hrange hroom =>
      rw [if_neg hrange, if_neg hroom] at h
      exact absurd rfl h

/-- An object of this device with a number of its own: no directory record, no table, no window. -/
abbrev Plain (key : Nat) : Prop :=
  key / 256 < 0x8000 ∧ ¬ (0x110 ≤ key / 256 ∧ key / 256 ≤ 0x1CF) ∧ key % 256 ≠ 0
    ∧ (Dict.table (key / 256)).isSome = false ∧ (objRow key).isSome = true

/-- A read of such an object that takes what it returns. -/
theorem readObject_takes {u t : State} {n key : Nat} {d : Bytes} (hk : Plain key) (hp : u.reg (Reg.sessPending n) ≠ 1) (hg : u.gate n key .r = St.ok)
    (hbar : Dict.readBar u n key = St.ok) (ht : ∀ o, Dict.taken u n key o = some (t, d)) :
    Dict.readObject u n key false = { t with answer := ⟨St.ok, d⟩ } := by
  obtain ⟨hidx, hdir, hsub, htable, hrow⟩ := hk
  exact readObject_taken u n key t d hp hg (windowOf_below (by omega)) hdir hsub htable (if_pos (.inl hidx)) hbar hrow ht

/-- A read of RawRx takes the 32 oldest frames. -/
theorem readObject_rawRx {u : State} {n p : Nat} (hport : p < 4) (hp : u.reg (Reg.sessPending n) ≠ 1) (hg : u.gate n (Obj.rawRx p) .r = St.ok) :
    Dict.readObject u n (Obj.rawRx p) false
      = { u.setFifo (Fifo.rawRx p) ((u.fifo (Fifo.rawRx p)).drop 32) with answer := ⟨St.ok, ((u.fifo (Fifo.rawRx p)).take 32).flatten⟩ } := by
  have hplain : ∀ p < 4, Plain (Obj.rawRx p) := by decide
  refine readObject_takes (hplain p hport) hp hg ?_ ?_
  · interval_cases p <;> rfl
  · interval_cases p <;> exact fun _ => rfl

/-- The frame in transmission leaves, or is ended by an error (R65, R66). -/
theorem rawTxDone_eq {s : State} {p err : Nat} {r : Bytes} {q : List Bytes} (hup : s.up = true) (hport : p < 4) (hservice : s.inService = true)
    (hheld : s.reg (Reg.blockHolder (U.can p)) ≠ 0) (hstate : s.reg (Reg.blockState (U.can p)) ≤ 2) (hsending : s.rawSending p = true)
    (hqueue : s.fifo (Fifo.rawTx p) = r :: q) :
    exec (.rawTxDone p err) s = .next (
      if err = 0 then Can.frameEnded (Can.errors (((s.setFifo (Fifo.rawTx p) q).rawDerive p).emit (.frame (U.can p) r)) p
        (s.reg (Obj.rawTec p) - 1) (s.reg (Obj.rawRec p))) p
      else Can.frameEnded (Can.errors s p
        (if err = 3 ∨ (err = 2 ∧ s.reg (Obj.rawState p) = 1) then s.reg (Obj.rawTec p) else s.reg (Obj.rawTec p) + 8) (s.reg (Obj.rawRec p))) p) := by
  have hgoes : ¬ (3 < p ∨ (!s.inService) = true ∨ s.reg (Reg.blockHolder (U.can p)) = 0
      ∨ 2 < s.reg (Reg.blockState (U.can p)) ∨ (!s.rawSending p) = true) := by
    simp only [hservice, hsending, Bool.not_true, Bool.false_eq_true, false_or, or_false]
    omega
  rw [exec_rawTxDone, execRawTxDone, whenUp_eq hup, if_neg hgoes, hqueue]

/-- A frame on the bus of a port that serves a guest and is not bus-off is judged (R66). -/
theorem rawFrameReceive_eq {s : State} {p err id fl : Nat} {v : Bytes} (hup : s.up = true) (hport : p < 4) (hservice : s.inService = true)
    (hserves : s.rawServes p = true) (hon : s.reg (Obj.rawState p) ≠ 2) :
    exec (.rawFrameReceive p err id fl v) s = .next (
      if err ≠ 0 then Can.receiveCount s p err
      else
        let r := Can.rec' s.now (id % 2 ^ 30) (fl % 8 + (if s.reg (Obj.rawState p) = 1 then 8 else 0)) v.length v
        if Can.txBad r then s else (Can.receiveCount s p 0).rawReceive p r) := by
  have hgoes : ¬ (3 < p ∨ (!s.inService) = true ∨ (!s.rawServes p) = true ∨ s.reg (Obj.rawState p) = 2) := by
    simp only [hservice, hserves, Bool.not_true, Bool.false_eq_true, false_or]
    omega
  rw [exec_rawFrameReceive, execRawFrameReceive, whenUp_eq hup, if_neg hgoes]

/-- A frame with an error raises the receive error counter of a controller that is not in listen-only mode. -/
theorem receiveCount_error {s : State} {p err : Nat} (hmode : s.reg (Obj.rawMode p) ≠ 1) (herr : err ≠ 0) :
    Can.receiveCount s p err = Can.errors s p (s.reg (Obj.rawTec p)) (s.reg (Obj.rawRec p) + if err = 1 then 1 else 8) := by
  rw [Can.receiveCount, if_neg hmode, if_pos herr]

/-- A good frame lowers it. -/
theorem receiveCount_good {s : State} {p : Nat} (hmode : s.reg (Obj.rawMode p) ≠ 1) (hlow : s.reg (Obj.rawRec p) < 128) :
    Can.receiveCount s p 0 = Can.errors s p (s.reg (Obj.rawTec p)) (s.reg (Obj.rawRec p) - 1) := by
  rw [Can.receiveCount, if_neg hmode, if_neg (by decide), if_pos hlow]

/-- Bus-off ends with both counters at 0. -/
theorem busOffRecovery_eq {s : State} {p : Nat} (hup : s.up = true) (hport : p < 4) (hoff : s.reg (Obj.rawState p) = 2) :
    exec (.busOffRecovery p) s = .next (Can.errors s p 0 0) := by
  rw [exec_busOffRecovery, execBusOffRecovery, whenUp_eq hup, if_neg (by omega)]

/-! ## USB host ports (R67) -/

/-- A device that attaches takes the first free entry of the list. -/
theorem usbAttached_eq {s : State} {h j addr cls vid pid n : Nat} (hup : s.up = true) (hon : Usb.on s h = true) (haddr : addr ≠ 0 ∧ addr ≤ 127)
    (hnew : Can.usbFind s h addr = none) (hfree : (List.range 8).find? (fun j => s.reg (Obj.usbDevice h j) == 0) = some j) :
    exec (.usbAttached h addr cls vid pid n) s = .next ((s.setRegs [(Obj.usbDevice h j, Usb.device s h addr cls vid pid), (Reg.usbOutLen h j, n),
      (Obj.usbPortState h, 3)]).raise (Can.usbDests s h) (U.usbHost h) St.usbAttached (s.reg (Reg.blockHolder (U.usbHost h))) 1
      (Usb.payload (Usb.device s h addr cls vid pid))) := by
  have hgoes : ¬ ((!Usb.on s h) = true ∨ addr = 0 ∨ 127 < addr ∨ (Can.usbFind s h addr).isSome = true) := by
    simp only [hon, hnew, Bool.not_true, Bool.false_eq_true, Option.isSome_none, false_or, or_false]
    omega
  rw [exec_usbAttached, execUsbAttached, whenUp_eq hup, if_neg hgoes, hfree]

/-- A device that detaches leaves the list. -/
theorem usbDetached_eq {s : State} {h j addr : Nat} (hup : s.up = true) (hon : Usb.on s h = true) (hfound : Can.usbFind s h addr = some j) :
    exec (.usbDetached h addr) s = .next (
      let u := s.setRegs [(Obj.usbDevice h j, 0), (Reg.usbOutLen h j, 0)]
      let u := if (List.range 8).all (fun k => u.reg (Obj.usbDevice h k) == 0) then u.setReg (Obj.usbPortState h) 1 else u
      u.raise (Can.usbDests u h) (U.usbHost h) St.usbDetached (u.reg (Reg.blockHolder (U.usbHost h))) 1 (Usb.payload (s.reg (Obj.usbDevice h j)))) := by
  rw [exec_usbDetached, execUsbDetached, whenUp_eq hup, if_neg (by simp [hon]), hfound]

/-- The state once report `v` of the device at `addr` waits behind the others. -/
def hidQueued (s : State) (h addr id : Nat) (v : Bytes) : State :=
  s.setFifo (Fifo.hid h) (s.fifo (Fifo.hid h) ++ [record [(8, s.now), (1, addr), (1, id), (1, v.length), (1, 0)] ++ padTo 64 v])

/-- A report of a HID device is queued and told, or counted lost behind 64. -/
theorem hidReportReceive_eq {s : State} {h j addr id : Nat} {v : Bytes} (hup : s.up = true) (hon : Usb.on s h = true) (hsome : v ≠ []) (hlen : v.length ≤ 64)
    (hfound : Can.usbFind s h addr = some j) (hclass : Can.usbClass s h j = 3) :
    exec (.hidReportReceive h addr id v) s = .next (
      if 64 ≤ (s.fifo (Fifo.hid h)).length then s.bump (Obj.hidInLost h) 32
      else if (s.fifo (Fifo.hid h)).isEmpty ∧ (s.reg (Reg.usbRxLast h) = 0 ∨ s.reg (Reg.usbRxLast h) - 1 + 1000000 ≤ s.now) then
        ((hidQueued s h addr id v).setReg (Reg.usbRxLast h) (s.now + 1)).raise (Can.usbDests s h) (U.usbHost h) St.usbHidReport
          (s.reg (Reg.blockHolder (U.usbHost h))) 0 []
      else hidQueued s h addr id v) := by
  have hgoes : ¬ ((!Usb.on s h) = true ∨ v.isEmpty = true ∨ 64 < v.length) := by
    simp only [hon, List.isEmpty_iff, hsome, Bool.not_true, Bool.false_eq_true, false_or]
    omega
  rw [exec_hidReportReceive, execHidReportReceive, whenUp_eq hup, if_neg hgoes, hfound]
  simp only [hclass]
  rfl

/-- A read of HidIn takes the 16 oldest reports. -/
theorem readObject_hidIn {u : State} {n h : Nat} (hport : h < 2) (hp : u.reg (Reg.sessPending n) ≠ 1) (hg : u.gate n (Obj.hidIn h) .r = St.ok) :
    Dict.readObject u n (Obj.hidIn h) false
      = { u.setFifo (Fifo.hid h) ((u.fifo (Fifo.hid h)).drop 16) with answer := ⟨St.ok, ((u.fifo (Fifo.hid h)).take 16).flatten⟩ } := by
  have hplain : ∀ h < 2, Plain (Obj.hidIn h) := by decide
  refine readObject_takes (hplain h hport) hp hg ?_ ?_
  · interval_cases h <;> rfl
  · interval_cases h <;> exact fun _ => rfl

/-- A write of HidOut that passes its checks is carried out and answered. -/
theorem hidOut_eq {s : State} {n h : Nat} {v : Bytes} (hport : h < 2) (ht : Takes s n (Obj.hidOut h) v) :
    exec (.hidOut n h v) s = .next (answered s n 2 (Obj.hidOut h) (Can.hidOutWrite (s.heard n) h v)) := by
  rw [exec_hidOut, execHidOut, whenUp_eq ht.1.1, if_neg (by omega), written_eq ht]

/-- An output report leaves for the device named. -/
theorem hidOutWrite_sent {s : State} {h j : Nat} {d : Bytes} (hfound : Can.usbFind s h (bytesAt d 0 1) = some j) (hlen : 4 + bytesAt d 2 1 ≤ d.length)
    (hout : bytesAt d 2 1 ≤ s.reg (Reg.usbOutLen h j)) (hclass : Can.usbClass s h j = 3) (hstate : s.reg (Obj.usbPortState h) = 3) :
    Can.hidOutWrite s h d = (s.emit (.frame (U.usbHost h) (d.take (4 + bytesAt d 2 1)))).reply St.ok := by
  have hfits : ¬ (d.length < 4 + bytesAt d 2 1 ∨ s.reg (Reg.usbOutLen h j) < bytesAt d 2 1 ∨ Can.usbClass s h j ≠ 3
      ∨ s.reg (Obj.usbPortState h) ≠ 3) := by
    omega
  simp only [Can.hidOutWrite, hfound, if_neg hfits]

/-- A report for an unknown device is refused. -/
theorem hidOutWrite_unknown {s : State} {h : Nat} {d : Bytes} (hfound : Can.usbFind s h (bytesAt d 0 1) = none) :
    Can.hidOutWrite s h d = s.reply St.valueRange := by
  simp only [Can.hidOutWrite, hfound]

/-- Settles O20: each command of a port does what its own equation above says, on the state that has heard it where it is a request. -/
theorem fieldPorts : Obligations.FieldPorts := by
  refine ⟨⟨fun s n p sub v hport h1 h4 ht => ?_, fun s n p v hport ht hlen => ⟨?_, rawQueue_refused⟩, fun s n p hport h hp hg => ?_,
      fun s p err r q hup hport hservice hheld hstate hsending hqueue => ⟨?_, fun herr => ?_⟩,
      fun s p err id fl v hup hport hservice hserves hon hmode => ⟨fun herr => ?_, fun hgood hlow => ?_⟩, fun s p => busOffRecovery_eq⟩,
    fun s h j addr cls vid pid n hup hon h0 h127 => usbAttached_eq hup hon ⟨h0, h127⟩, fun s h j addr => usbDetached_eq,
    fun s h j addr id v hup hon hsome hlen hfound hclass hfull => ?_,
    fun s h j addr id v hup hon hsome hlen hfound hclass hroom => ⟨fun hwait => ?_, fun hwait hlast => ?_⟩,
    fun s n h hport hserves hp hg => ?_, fun s n h v hport ht hfound => ?_, fun s n h j v hport ht hfound hlen hout hclass hstate => ?_,
    fun s h hup hon => ?_, fun s n h v hport ht => ?_⟩
  · rw [exec_rawConfigWrite, execRawConfigWrite, whenUp_eq ht.1.1, if_neg (by omega), written_eq ht, rawConfig_eq]
  · rw [exec_rawTx, execRawTx, whenUp_eq ht.1.1, if_neg (by omega), written_eq ht, rawTxWrite_records hlen]
  · rw [exec_rawRx, execRawRx, whenUp_eq h.1, if_neg (by omega), request_eq h hp, readObject_rawRx hport hp hg]
  · rw [rawTxDone_eq hup hport hservice hheld hstate hsending hqueue, if_pos rfl]
  · rw [rawTxDone_eq hup hport hservice hheld hstate hsending hqueue, if_neg herr]
  · rw [rawFrameReceive_eq hup hport hservice hserves hon, if_pos herr, receiveCount_error hmode herr]
  · rw [rawFrameReceive_eq hup hport hservice hserves hon, if_neg (by decide), receiveCount_good hmode hlow]
    exact congrArg _ (if_neg (by rw [hgood]; decide))
  · rw [hidReportReceive_eq hup hon hsome hlen hfound hclass, if_pos hfull]
  · rw [hidReportReceive_eq hup hon hsome hlen hfound hclass, if_neg (by omega), if_neg (fun hempty => hwait (List.isEmpty_iff.mp hempty.1))]
    rfl
  · rw [hidReportReceive_eq hup hon hsome hlen hfound hclass, if_neg (by omega), if_pos ⟨List.isEmpty_iff.mpr hwait, hlast⟩]
    rfl
  · rw [exec_hidIn, execHidIn, whenUp_eq hserves.1, if_neg (by omega), request_eq hserves hp, readObject_hidIn hport hp hg]
  · rw [hidOut_eq hport ht, hidOutWrite_unknown hfound]
  · rw [hidOut_eq hport ht, hidOutWrite_sent hfound hlen hout hclass hstate]
  · rw [exec_usbOvercurrent, execUsbOvercurrent, whenUp_eq hup, if_neg (by simp [hon])]
  · rw [exec_usbPortOp, execUsbPortOp, whenUp_eq ht.1.1, if_neg (by omega), written_eq ht, Can.portOp]

end Sys2Proof.Laws
end

section
/-!
The Ensign runtime and its packages (R244 to R250, R272, R291, R301, R302, R391, R392, R447, R502).
-/
namespace Sys2Proof.Laws

open Sys2Proof.Machine Sys2Proof.Safety

/-! ## Periods and acknowledges (R41, R247 to R250, R301, R302) -/

/-- The state once the period boundary of the runtime has passed. -/
def ensPeriodBegun (s : State) : State := (s.setReg Reg.ensPeriodMissed 0).boundary (0x1000 + U.ens)

/-- A period without a package is its boundary alone. -/
theorem ensignPeriod_idle {s : State} (hup : s.up = true) (hruns : s.ensRuns = true) (hpkg : (ensPeriodBegun s).activePkg = none) :
    exec .ensignPeriod s = .next (ensPeriodBegun s) := by
  unfold ensPeriodBegun at hpkg ⊢
  rw [exec_ensignPeriod, execEnsignPeriod, whenUp_eq hup, if_neg (by simp [hruns])]
  simp only [hpkg]

/-- A period of a package reads its bindings, steps its pages and settles. -/
theorem ensignPeriod_package {s : State} {p : EnsPkg} (hup : s.up = true) (hruns : s.ensRuns = true) (hpkg : (ensPeriodBegun s).activePkg = some p) :
    exec .ensignPeriod s = .next (Ens.settle (p.pages.foldl (fun s g => s.pageStep p g)
      (p.bindings.zipIdx.foldl (fun s x => s.bindStep p x) (Ens.bindSync (ensPeriodBegun s) p))) p) := by
  unfold ensPeriodBegun at hpkg ⊢
  rw [exec_ensignPeriod, execEnsignPeriod, whenUp_eq hup, if_neg (by simp [hruns])]
  simp only [hpkg]

/-- An acknowledge source acts on the page that its region shows. -/
theorem ensignAcknowledge_eq {s : State} {src : Nat} {plays : List (Nat × Nat × Nat × Nat × Nat)} {p : EnsPkg} {a : EnsAck} {g : EnsPage} (hup : s.up = true)
    (hpkg : s.activePkg = some p) (hack : p.acks[src]? = some a) (hruns : s.ensRuns = true)
    (hshown : State.pkgPage p ((Ens.ackPlays s plays).reg
      (Obj.pageShown (Ens.ackRegion (Ens.ackPlays s plays) a).1 (Ens.ackRegion (Ens.ackPlays s plays) a).2)) = some g) :
    exec (.ensignAcknowledge src plays) s = .next (Ens.settle (if a.input ≠ 0xFF then ((Ens.ackPlays s plays).pageAck p src g).setReg Reg.backupTone 0
      else (Ens.ackPlays s plays).pageAck p src g) p) := by
  rw [exec_ensignAcknowledge, execEnsignAcknowledge, whenUp_eq hup]
  simp only [hpkg, hack, hruns, Bool.not_true, Bool.false_eq_true, if_false, hshown]

/-! ## Drawing and signing (R244, R245, R272, R291) -/

/-- A drawing operation inside the back buffer draws. -/
theorem paint_inside {s : State} {n k x y w h a bw bh : Nat} {f : Nat → Nat → Byte} (hback : s.backBuffer n k = some (a, bw, bh)) (hruns : s.ensRuns = true)
    (hx : x + w ≤ bw) (hy : y + h ≤ bh) : Ens.paint s n k x y w h f = (Ens.redraw s n k).drawRect n k x y w h f := by
  have hin : ¬ ((!s.ensRuns) = true ∨ bw < x + w ∨ bh < y + h) := by
    simp only [hruns, Bool.not_true, Bool.false_eq_true, false_or]
    omega
  simp only [Ens.paint, hback, if_neg hin]

/-- One that leaves it does not. -/
theorem paint_outside {s : State} {n k x y w h a bw bh : Nat} {f : Nat → Nat → Byte} (hback : s.backBuffer n k = some (a, bw, bh))
    (hout : bw < x + w ∨ bh < y + h) : Ens.paint s n k x y w h f = s := by
  simp only [Ens.paint, hback, if_pos (Or.inr hout)]

/-- A back buffer is signed, and the front buffer where that is to be signed again. -/
theorem ensignSign_eq {s : State} {n k : Nat} (hup : s.up = true) (hruns : s.ensRuns = true) (hback : (s.backBuffer n k).isNone = false) :
    exec (.ensignSign n k) s = .next (
      let f := s.reg (Reg.regionFront n k)
      let u := if s.reg (Reg.regionResign n k) = 1 then (s.setNum (Num.sigExp n k f) (s.signBuffer n k f)).setReg (Reg.regionResign n k) 0 else s
      ((u.setNum (Num.sigExp n k (1 - f)) (u.signBuffer n k (1 - f))).setRegs [(Reg.regionSigned n k, 1), (Reg.regionDrawn n k, u.now)]).wakeLink n) := by
  rw [exec_ensignSign, execEnsignSign, whenUp_eq hup, if_neg (by simp [hruns, hback])]

/-! ## Packages (R246, R391, R392, R447, R502) -/

/-- A package that verifies is staged. -/
theorem packageVerify_staged {s : State} {n : Nat} {pkg : EnsPkg} (h : Passes s n Obj.packageOp) (hstate : (s.heard n).reg Obj.packageState ≠ 3)
    (hheld : Ens.pkgHeld (s.heard n) pkg = false) (hverify : State.pkgVerify (s.heard n) pkg = none) :
    exec (.packageVerify n pkg) s
      = .next (answered s n 2 Obj.packageOp (Ens.opDone (State.setReg { s.heard n with stagedPkg := some pkg } Obj.packageState 2) St.ok 0)) := by
  rw [exec_packageVerify, execPackageVerify, whenUp_eq h.1.1, gated_eq h, if_neg hstate, if_neg (by simp [hheld])]
  simp only [hverify]

/-- One that does not is discarded, with the section and the entry at fault. -/
theorem packageVerify_failed {s : State} {n st sec r : Nat} {pkg : EnsPkg} (h : Passes s n Obj.packageOp) (hstate : (s.heard n).reg Obj.packageState ≠ 3)
    (hheld : Ens.pkgHeld (s.heard n) pkg = false) (hverify : State.pkgVerify (s.heard n) pkg = some (st, sec, r)) :
    exec (.packageVerify n pkg) s = .next (answered s n 2 Obj.packageOp (Ens.opDone
      (State.setReg { s.heard n with stagedPkg := none } Obj.packageState (Ens.restState (s.heard n))) st (sec * 0x10000 + r % 0x10000))) := by
  rw [exec_packageVerify, execPackageVerify, whenUp_eq h.1.1, gated_eq h, if_neg hstate, if_neg (by simp [hheld])]
  simp only [hverify]

/-- A staged package that nothing stands against is loaded. -/
theorem packageActivate_loads {s : State} {n : Nat} {p : EnsPkg} (h : Passes s n Obj.packageOp) (hstate : (s.heard n).reg Obj.packageState ≠ 3)
    (hstaged : (s.heard n).stagedPkg = some p) (hheld : Ens.pkgHeld (s.heard n) p = false) (hclash : State.pkgInputClash (s.heard n) p = false) :
    exec (.packageActivate n) s = .next (answered s n 2 Obj.packageOp (Ens.opDone (Ens.load (s.heard n) p) St.ok 0)) := by
  rw [exec_packageActivate, execPackageActivate, whenUp_eq h.1.1, gated_eq h, if_neg hstate]
  simp only [hstaged, hheld, hclash, Bool.false_eq_true, if_false]

/-- With nothing staged an activation is refused as of wrong format. -/
theorem packageActivate_nothing {s : State} {n : Nat} (h : Passes s n Obj.packageOp) (hstate : (s.heard n).reg Obj.packageState ≠ 3)
    (hstaged : (s.heard n).stagedPkg = none) :
    exec (.packageActivate n) s = .next (answered s n 2 Obj.packageOp (Ens.opDone (s.heard n) St.ensPackageFormat 0)) := by
  rw [exec_packageActivate, execPackageActivate, whenUp_eq h.1.1, gated_eq h, if_neg hstate]
  simp only [hstaged]

/-- A discard leaves nothing staged. -/
theorem packageDiscard_eq {s : State} {n : Nat} (h : Passes s n Obj.packageOp) (hstate : (s.heard n).reg Obj.packageState ≠ 3) :
    exec (.packageDiscard n) s = .next (answered s n 2 Obj.packageOp (Ens.opDone
      (State.setReg { s.heard n with stagedPkg := none } Obj.packageState (Ens.restState (s.heard n))) St.ok 0)) := by
  rw [exec_packageDiscard, execPackageDiscard, whenUp_eq h.1.1, gated_eq h, if_neg hstate]

/-- While a package switches, every operation on packages is answered BUSY. -/
theorem packageOp_switching {s : State} {n : Nat} {pkg : EnsPkg} (h : Passes s n Obj.packageOp) (hstate : (s.heard n).reg Obj.packageState = 3) :
    exec (.packageVerify n pkg) s = .next (answered s n 2 Obj.packageOp ((s.heard n).reply St.busy))
    ∧ exec (.packageActivate n) s = .next (answered s n 2 Obj.packageOp ((s.heard n).reply St.busy))
    ∧ exec (.packageDiscard n) s = .next (answered s n 2 Obj.packageOp ((s.heard n).reply St.busy)) := by
  refine ⟨?_, ?_, ?_⟩
  · rw [exec_packageVerify, execPackageVerify, whenUp_eq h.1.1, gated_eq h, if_pos hstate]
  · rw [exec_packageActivate, execPackageActivate, whenUp_eq h.1.1, gated_eq h, if_pos hstate]
  · rw [exec_packageDiscard, execPackageDiscard, whenUp_eq h.1.1, gated_eq h, if_pos hstate]

/-- Settles O34: each command of the runtime has its effect by the equations above. -/
theorem ensignRuntime : Obligations.EnsignRuntime := by
  refine ⟨fun s hup hruns => ⟨ensignPeriod_idle hup hruns, fun p => ensignPeriod_package hup hruns⟩,
    fun s src plays p a g hup hpkg hack hruns hshown => ensignAcknowledge_eq hup hpkg hack hruns hshown,
    fun s hup => ?_, fun s o on hup ho => ?_,
    fun s n k x y w h a bw bh idx src stride off fg bg remap hup hback hruns hx hy => ⟨?_, ?_, ?_⟩,
    fun s n k x y w h a bw bh idx hup hback hout => ?_, fun s n k => ensignSign_eq,
    fun s n pkg h hstate => ⟨packageVerify_staged h hstate, fun st sec r => packageVerify_failed h hstate, fun p => packageActivate_loads h hstate,
      packageActivate_nothing h hstate, packageDiscard_eq h hstate⟩,
    fun s n pkg => packageOp_switching⟩
  · rw [exec_flashHalfCycle, execFlashHalfCycle, whenUp_eq hup]
  · rw [exec_lampTestInputChange, execLampTestInputChange, whenUp_eq hup, if_neg (by omega)]
  · rw [exec_ensignFill, execEnsignFill, whenUp_eq hup, paint_inside hback hruns hx hy]
  · rw [exec_ensignBlit, execEnsignBlit, whenUp_eq hup, paint_inside hback hruns hx hy]
  · rw [exec_ensignGlyph, execEnsignGlyph, whenUp_eq hup, paint_inside hback hruns hx hy]
  · rw [exec_ensignFill, execEnsignFill, whenUp_eq hup, paint_outside hback hout]

end Sys2Proof.Laws
end

section
/-!
The planner with its hold and watchdog, ageing, and boundary ports (R80 to R92, R94, R96, R362).
-/
namespace Sys2Proof.Laws

open Sys2Proof.Machine Sys2Proof.Safety

/-! ## The planner's boundary and its hold (R81, R82, R85, R94, R96) -/

/-- The state that a planning boundary computes on: the boundary is counted and has completed. -/
def planBegun (s : State) : State := ((s.bump Obj.planCount 32).count 5 1).boundary 0x700

/-- What a boundary leaves in force: a planner that its watchdog has ended plans no more. -/
def planned (temp : Int) (work : List (Nat × Nat × Nat)) (slack : Nat) (speed : List Nat) (s : State) : State :=
  if s.reg Reg.planDead = 1 then s else (s.thermalCool temp).plan temp work slack speed

/-- At a whole multiple of 4 ms the planner computes, and a boundary under shedding is counted besides. -/
theorem planBoundary_at {s : State} {temp : Int} {work : List (Nat × Nat × Nat)} {slack : Nat} {speed : List Nat} (hup : s.up = true)
    (hat : s.now % 4000000 = 0) :
    exec (.planBoundary temp work slack speed) s = .next (if (planned temp work slack speed (planBegun s)).reg Obj.shedLevel = 0
      then planned temp work slack speed (planBegun s) else (planned temp work slack speed (planBegun s)).count 7 1) := by
  rw [exec_planBoundary, execPlanBoundary, whenUp_eq hup, if_neg (not_not.mpr hat)]
  rfl

/-- At any other time it does nothing. -/
theorem planBoundary_off {s : State} {temp : Int} {work : List (Nat × Nat × Nat)} {slack : Nat} {speed : List Nat} (hup : s.up = true)
    (hoff : s.now % 4000000 ≠ 0) : exec (.planBoundary temp work slack speed) s = .next s := by
  rw [exec_planBoundary, execPlanBoundary, whenUp_eq hup, if_pos hoff]

/-- The frequencies by which domains fall short when a shed's second has passed: every shed renderer is asked for again, and each domain gives 97 % of its
ceiling (R94). -/
def shedShort (temp : Int) (work : List (Nat × Nat × Nat)) (slack : Nat) (s : State) : List Nat :=
  s.shortAt (((List.range 64).foldl (fun s w => s.setReg (Reg.shedRenderer w) 0) s).demandOf work slack) (fun d => s.ceilingOf temp d * 97 / 100)

/-- A shed whose second has passed is restored where nothing falls short and no heat asks for it, and renewed otherwise. -/
theorem shedHoldEnd_due {s : State} {temp : Int} {work : List (Nat × Nat × Nat)} {slack : Nat} (hup : s.up = true) (hlive : s.reg Reg.planDead ≠ 1)
    (hshed : s.reg Reg.shedUntil ≠ 0) (hdue : s.reg Reg.shedUntil ≤ s.now) :
    exec (.shedHoldEnd temp work slack) s = .next (
      if (shedShort temp work slack (s.thermalCool temp)).all (· == 0) ∧ (s.thermalCool temp).reg Reg.thermalShed = 0 then (s.thermalCool temp).shedRestore
      else (s.thermalCool temp).shedLoad (shedShort temp work slack (s.thermalCool temp))) := by
  have hacts : ¬ (s.reg Reg.planDead = 1 ∨ s.reg Reg.shedUntil = 0 ∨ s.now < s.reg Reg.shedUntil) := by
    simp only [hlive, hshed, false_or, not_lt, hdue]
  rw [exec_shedHoldEnd, execShedHoldEnd, whenUp_eq hup, if_neg hacts]
  rfl

/-! ## Urgent raises and the watchdog (R84, R85) -/

/-- A domain below its highest voltage that falls short is raised by 25 mV, at most to that voltage, and told. -/
theorem planRaise_raises {s : State} {d : Nat} {slack : List Nat} {speed : Nat} (hup : s.up = true) (hd : d ≤ 3) (hlive : s.reg Reg.planDead ≠ 1)
    (hroom : s.reg (Obj.voltageMv d) < s.reg (Obj.voltMaxMv d)) (hlast : s.reg (Reg.raiseLast d) = 0 ∨ s.reg (Reg.raiseLast d) - 1 + 100000 ≤ s.now)
    (hshort : s.raiseDue d slack speed = true) :
    exec (.planRaise d slack speed) s = .next ((((s.setRegs [(Obj.voltageMv d, min (s.reg (Obj.voltMaxMv d)) (s.reg (Obj.voltageMv d) + 25)),
      (Reg.raiseLast d, s.now + 1)]).bump Obj.urgentRaises 32).count 6 1).raise [.hal, .owner] U.plan St.planRaise 0xFF 1 []) := by
  have hrested : ¬ (s.reg (Reg.raiseLast d) ≠ 0 ∧ s.now < s.reg (Reg.raiseLast d) - 1 + 100000) := by omega
  rw [exec_planRaise, execPlanRaise, whenUp_eq hup, if_neg (by simp only [hd.not_gt, hlive, hroom.not_ge, hrested, hshort]; decide)]

/-- Within 100 us of its last raise, and while nothing falls short, a domain is not raised. -/
theorem planRaise_stays {s : State} {d : Nat} {slack : List Nat} {speed : Nat} (hup : s.up = true)
    (hstays : (s.reg (Reg.raiseLast d) ≠ 0 ∧ s.now < s.reg (Reg.raiseLast d) - 1 + 100000) ∨ s.raiseDue d slack speed = false) :
    exec (.planRaise d slack speed) s = .next s := by
  have hguard : (s.reg (Reg.raiseLast d) ≠ 0 ∧ s.now < s.reg (Reg.raiseLast d) - 1 + 100000) ∨ (!s.raiseDue d slack speed) = true :=
    hstays.imp_right (by simp [·])
  rw [exec_planRaise, execPlanRaise, whenUp_eq hup, if_pos (.inr (.inr (.inr hguard)))]

/-- 12 ms after the last boundary every domain is set to 900 mV, what was shed is restored, and the planner ends. -/
theorem planWatchdog_fires {s : State} (hup : s.up = true) (hlive : s.reg Reg.planDead ≠ 1) (hdue : s.reg Reg.pmPlanTime + 12000000 ≤ s.now) :
    let u := (List.range 4).foldl (fun s d => s.setReg (Obj.voltageMv d) 900) s
    exec .planWatchdog s = .next ((((if u.reg Reg.shedUntil = 0 then u else u.shedRestore).setReg Reg.planDead 1).raise [.hal, .owner] U.plan
      St.planWatchdog 0xFF 3 []).setUnitState U.plan 5) := by
  have hacts : ¬ (s.reg Reg.planDead = 1 ∨ s.now < s.reg Reg.pmPlanTime + 12000000) := by omega
  rw [exec_planWatchdog, execPlanWatchdog, whenUp_eq hup, if_neg hacts]

/-- Before that it does nothing. -/
theorem planWatchdog_early {s : State} (hup : s.up = true) (hearly : s.now < s.reg Reg.pmPlanTime + 12000000) : exec .planWatchdog s = .next s := by
  rw [exec_planWatchdog, execPlanWatchdog, whenUp_eq hup, if_pos (.inr hearly)]

/-! ## The junction temperature (R92) -/

/-- A junction above 115 °C is told when it was not above it before. -/
theorem thermalSeen_above {s : State} {temp : Int} (habove : 1150 < temp) :
    s.thermalSeen temp = if (s.setReg Obj.junctionTemp (ofSigned 2 temp)).reg Reg.thermalAbove = 1 then s.setReg Obj.junctionTemp (ofSigned 2 temp)
      else ((s.setReg Obj.junctionTemp (ofSigned 2 temp)).setReg Reg.thermalAbove 1).raise [.hal, .owner] U.plan St.thermalAboveFloor 0xFF 2 [] := by
  rw [State.thermalSeen, if_neg habove.not_ge]

/-- The command of a junction above 115 °C takes note of the temperature. -/
theorem thermalAboveFloor_above {s : State} {temp : Int} (hup : s.up = true) (habove : 1150 < temp) :
    exec (.thermalAboveFloor temp) s = .next (s.thermalSeen temp) := by
  rw [exec_thermalAboveFloor, execThermalAboveFloor, whenUp_eq hup, if_neg habove.not_ge]

/-- With a junction at 115 °C or below it does nothing. -/
theorem thermalAboveFloor_below {s : State} {temp : Int} (hup : s.up = true) (hbelow : temp ≤ 1150) : exec (.thermalAboveFloor temp) s = .next s := by
  rw [exec_thermalAboveFloor, execThermalAboveFloor, whenUp_eq hup, if_pos hbelow]

/-! ## Ageing (R87 to R91) -/

/-- 10 minutes in service after the last measurement every domain is measured, and the measurement is recorded and derated for. -/
theorem ageMeasure_due {s : State} {slow : List (List Nat)} (hup : s.up = true) (hdue : s.serviceSince Reg.ageTime 600000000000 = true) :
    exec (.ageMeasure slow) s
      = .next ((((List.range 5).foldl (fun s d => State.ageDomain (slow.getD d []) s d) (s.setReg Reg.ageTime s.serviceTime)).ageRecord).ageDerive) := by
  rw [exec_ageMeasure, execAgeMeasure, whenUp_eq hup, hdue, if_neg (by decide)]

/-- Before that nothing is measured. -/
theorem ageMeasure_early {s : State} {slow : List (List Nat)} (hup : s.up = true) (hearly : s.serviceSince Reg.ageTime 600000000000 = false) :
    exec (.ageMeasure slow) s = .next s := by
  rw [exec_ageMeasure, execAgeMeasure, whenUp_eq hup, hearly, if_pos (by decide)]

/-- The forecast is computed 24 hours in service after the last one, and not before. -/
theorem forecastUpdate_eq {s : State} (hup : s.up = true) :
    exec .forecastUpdate s = .next (if s.serviceSince Reg.forecastTime 86400000000000 = true then s.forecast else s) := by
  rw [exec_forecastUpdate, execForecastUpdate, whenUp_eq hup]

/-! ## Boundary ports (R80, R362) -/

/-- A side of unit `h`'s port that enters reset restarts the unit and gives back the items that it held; the panels' audio is muted with the audio unit. -/
theorem boundaryPortReset_enters {s : State} {h : Nat} (hup : s.up = true) (hthere : s.unitThere h = true) (hrun : s.reg (Reg.portReset h) ≠ 1) :
    let u := (s.setReg (Reg.portReset h) 1).unitRestarted h
    let back := u.items.filter (fun (i : Item) => i.unit == h)
    let v := back.foldl (fun s i => s.itemReturn i false 1) u
    let t := if back.isEmpty then v else v.reply St.boundaryReset
    exec (.boundaryPortReset h) s = .next (if h = U.aud then (List.range 3).foldl (fun s d => s.setReg (Reg.audMute d) 1) t else t) := by
  rw [exec_boundaryPortReset, execBoundaryPortReset, whenUp_eq hup, if_neg (by simp only [hthere, hrun]; decide)]

/-- A port that leaves reset writes again, and the audio unit's port unmutes the panels. -/
theorem boundaryPortResume_leaves {s : State} {h : Nat} (hup : s.up = true) (hreset : s.reg (Reg.portReset h) ≠ 0) :
    exec (.boundaryPortResume h) s = .next (if h = U.aud then
        (List.range 3).foldl (fun s d => s.setRegs [(Reg.audMute d, 0), (Reg.audIn d, s.now + 1)]) (s.setReg (Reg.portReset h) 0)
      else s.setReg (Reg.portReset h) 0) := by
  rw [exec_boundaryPortResume, execBoundaryPortResume, whenUp_eq hup, if_neg hreset]

/-- Settles O21: each command acts when its time has come or its condition holds, by the equations above, and changes nothing otherwise. -/
theorem plannerAndPorts : Obligations.PlannerAndPorts := by
  refine ⟨⟨fun s temp work slack speed hup hat => planBoundary_at hup hat, fun s temp work slack speed hup hoff => planBoundary_off hup hoff,
      fun s temp work slack hup hlive hshed hdue => shedHoldEnd_due hup hlive hshed hdue,
      fun s d slack speed hup hd hlive hroom hlast hshort => planRaise_raises hup hd hlive hroom hlast hshort,
      fun s d slack speed hup hstays => planRaise_stays hup hstays, fun s hup hlive hdue => planWatchdog_fires hup hlive hdue,
      fun s hup hearly => planWatchdog_early hup hearly, fun s temp hup habove => ?_, fun s temp hup hbelow => thermalAboveFloor_below hup hbelow⟩,
    fun s slow hup => ⟨fun hdue => ageMeasure_due hup hdue, fun hearly => ageMeasure_early hup hearly⟩,
    fun s hup => ⟨fun hdue => ?_, fun hearly => ?_⟩, fun s h hup hthere hrun => boundaryPortReset_enters hup hthere hrun,
    fun s h hup hreset => boundaryPortResume_leaves hup hreset⟩
  · rw [thermalAboveFloor_above hup habove, thermalSeen_above habove]
  · rw [forecastUpdate_eq hup, if_pos hdue]
  · rw [forecastUpdate_eq hup, hearly, if_neg (by decide)]

end Sys2Proof.Laws
end

section
/-!
The hand-over of blocks (R116 to R119, R517), the consent to debug access and the completion of invalidations (R100, R110, R122, R123, R130).
-/
namespace Sys2Proof.Laws

open Sys2Proof.Machine Sys2Proof.Safety

/-! ## HoOp (R118, R517) -/

/-- What answers a hand-over operation leaves its status in HoStatus and in the answer alike. -/
theorem answered_handAnswer (s t : State) (n st : Nat) :
    (answered s n 2 Obj.hoOp (Hand.answer t n st)).reg (skey n Obj.hoStatus) = st
    ∧ (answered s n 2 Obj.hoOp (Hand.answer t n st)).answer = ⟨st, []⟩ := by
  have hkey : Obj.hoStatus % 0x100000 ≠ 0 := by decide
  refine ⟨?_, posted_answer ..⟩
  rw [posted_reg (skey_notMem_postedKeys_of_low hkey), Hand.answer, State.reply_reg, State.reg_setReg_same]

/-- HoOp 1 is the grant of the session's block to its target. -/
theorem hoGrant_eq {s : State} {n : Nat} (h : Takes s n Obj.hoOp [1]) :
    exec (.hoGrant n) s = .next (answered s n 2 Obj.hoOp (Hand.grantOp (s.heard n) n)) := by
  rw [exec_hoGrant, execHoGrant, whenUp_eq h.1.1, written_eq h]

/-- HoOp 2 is the recall of the session's block. -/
theorem hoRecall_eq {s : State} {n : Nat} (h : Takes s n Obj.hoOp [2]) :
    exec (.hoRecall n) s = .next (answered s n 2 Obj.hoOp (Hand.recallOp (s.heard n) n)) := by
  rw [exec_hoRecall, execHoRecall, whenUp_eq h.1.1, written_eq h]

/-! ## Release, grace and drain (R116, R130) -/

/-- A release that the guest's free mailbox takes starts the drain of a block under recall that its world holds, and is answered. -/
theorem blockRelease_eq {s : State} {i h : Nat} {dg : Dgram} (hup : s.up = true) (hinst : s.reg (Obj.instState i) ≠ 0) (hservice : s.inService = true)
    (horder : InOrder s i dg) (hfree : (arrived s i dg).reg (Reg.mbBusy i) ≠ 1) :
    let u := arrived s i dg
    exec (.blockRelease i h dg) s = .next (
      if (!isBlock h) = true then u.reply St.handoverNotBlock
      else if u.reg (Reg.blockHolder h) ≠ u.instWorld i ∨ 1 < u.reg (Reg.blockState h) then u.reply St.notOwner
      else if u.reg (Reg.blockState h) = 0 then u.reply St.ok
      else (u.startDrain h).reply St.ok) := by
  have hserved : ¬ (s.reg (Obj.instState i) = 0 ∨ (!s.inService) = true) := by simp [hinst, hservice]
  rw [exec_blockRelease, execBlockRelease, whenUp_eq hup, if_neg hserved, arrives_eq horder, if_neg hfree]

/-- Once GraceMs has passed, a block under recall drains. -/
theorem recallGraceExpiry_due {s : State} {h : Nat} (hup : s.up = true) (hblock : isBlock h = true) (hrecall : s.reg (Reg.blockState h) = 1)
    (hdue : s.reg (Reg.blockDue h) ≤ s.now) : exec (.recallGraceExpiry h) s = .next (s.startDrain h) := by
  rw [exec_recallGraceExpiry, execRecallGraceExpiry, whenUp_eq hup, if_pos ⟨hblock, hrecall, hdue⟩]

/-- A drain that has ended, or whose time is over, quiesces, resets and scrubs the block. -/
theorem drainComplete_ended {s : State} {h : Nat} (hup : s.up = true) (hblock : isBlock h = true) (hdrain : s.reg (Reg.blockState h) = 2)
    (hended : Hand.drained s h = true ∨ s.reg (Reg.blockDue h) ≤ s.now) : exec (.drainComplete h) s = .next (Hand.drainEnd s h) := by
  rw [exec_drainComplete, execDrainComplete, whenUp_eq hup, if_pos ⟨hblock, hdrain, hended⟩]

/-! ## Verification and the wait for hot-plug low (R116, R119) -/

/-- A verification frees the block, or fails. -/
theorem scrubVerifyDone_eq {s : State} {h : Nat} {ok : Bool} (hup : s.up = true) (hblock : isBlock h = true) (hverify : s.reg (Reg.blockState h) = 5)
    (hlive : s.reg (Reg.unitState h) ≠ 5) : exec (.scrubVerifyDone h ok) s = .next (if ok = true then Hand.freed s h else Hand.scrubFailed s h) := by
  rw [exec_scrubVerifyDone, execScrubVerifyDone, whenUp_eq hup, if_neg (by simp only [hblock, hverify, hlive]; decide)]

/-- A grant whose receiver has waited out hot-plug low proceeds where its world runs, and is abandoned where it does not. -/
theorem hpdLowWaitEnd_eq {s : State} {h : Nat} (hup : s.up = true) (hblock : isBlock h = true) (hto : s.reg (Reg.blockTo h) ≠ 0)
    (hheld : s.reg (Reg.blockState h) = 6) (hwaited : s.hpdWaited h = true) :
    exec (.hpdLowWaitEnd h) s = .next (if s.reg (Obj.worldState (s.reg (Reg.blockTo h) - 1)) ≠ 2 then s.abandonGrant h
      else (s.setBlockState h 7).holdBlock h (s.reg (Reg.blockTo h) - 1)) := by
  rw [exec_hpdLowWaitEnd, execHpdLowWaitEnd, whenUp_eq hup, if_neg (by simp only [hblock, hto, hheld, hwaited]; decide)]

/-! ## Consent (R122, R123) -/

/-- Consent 0 closes every debug access to the world. -/
theorem debugConsent_closes {s : State} {n w : Nat} {v : Bytes} (h : Takes s n (Obj.debugConsent w) v) (hv : leNat v = 0) :
    exec (.debugConsent n w v) s
      = .next (answered s n 2 (Obj.debugConsent w) ((((s.heard n).setReg (Obj.debugConsent w) 0).debugCloseWorld w).reply St.ok)) := by
  rw [exec_debugConsent, execDebugConsent, whenUp_eq h.1.1, written_eq h]
  simp only [hv, if_true]

/-- Any other consent opens a guest's world to the debug sessions whose certificate names it. -/
theorem debugConsent_opens {s : State} {n w : Nat} {v : Bytes} (h : Takes s n (Obj.debugConsent w) v) (hv : leNat v ≠ 0) (hw : 4 ≤ w) :
    let u := (s.heard n).setReg (Obj.debugConsent w) (leNat v)
    exec (.debugConsent n w v) s = .next (answered s n 2 (Obj.debugConsent w)
      ((((List.range (u.reg Reg.nextSession + 1)).filter (fun m => Hand.covers u m w)).foldl (fun s m => s.debugOpen m w) u).reply St.ok)) := by
  rw [exec_debugConsent, execDebugConsent, whenUp_eq h.1.1, written_eq h]
  simp only [hv, hw.not_gt, if_false]

/-! ## Invalidations (R100, R110, R130) -/

/-- A pending invalidation that completes unmaps what waited for it and lets the requests and teardowns of its world go on. -/
theorem invalidationComplete_pending {s : State} {w : Nat} (hup : s.up = true) (hpending : s.reg (Reg.invalPending w) ≠ 0) :
    exec (.invalidationComplete w) s = .next (s.invalidated w) := by
  rw [exec_invalidationComplete, execInvalidationComplete, whenUp_eq hup, if_neg hpending]

/-- Settles O22: the steps of a hand-over, a consent and an invalidation have their effects by the equations above. -/
theorem handOverAndConsent : Obligations.HandOverAndConsent := by
  refine ⟨fun s n _ ht => ⟨hoGrant_eq ht, _, hoGrant_eq ht, ?_⟩, fun s n _ ht => ⟨hoRecall_eq ht, _, hoRecall_eq ht, ?_⟩,
    fun s i h dg hup hinst hservice horder hfree => ?_, fun s h => recallGraceExpiry_due, fun s h => drainComplete_ended,
    fun s h hup hblock hverify hlive => ⟨scrubVerifyDone_eq hup hblock hverify hlive, scrubVerifyDone_eq hup hblock hverify hlive⟩,
    fun s h hup hblock hto hheld hwaited => ?_, fun s n w v => debugConsent_closes, fun s n w v => debugConsent_opens,
    fun s w => invalidationComplete_pending⟩
  · obtain ⟨hstatus, hanswer⟩ := answered_handAnswer s _ n _
    exact ⟨hstatus, hanswer.trans (by rw [Hand.grantOp, hstatus])⟩
  · obtain ⟨hstatus, hanswer⟩ := answered_handAnswer s _ n _
    exact ⟨hstatus, hanswer.trans (by rw [Hand.recallOp, hstatus])⟩
  · rw [blockRelease_eq hup hinst hservice horder hfree]
    refine ⟨fun hblock hholder hrecall => ?_, fun hblock hholder hidle => ?_, fun hno => ?_, fun hblock hbar => ?_⟩
    · rw [hblock, hholder, hrecall, if_neg (by decide), if_neg (by simp), if_neg (by decide)]
    · rw [hblock, hholder, hidle, if_neg (by decide), if_neg (by simp), if_pos rfl]
    · rw [hno, if_pos (by decide)]
    · rw [hblock, if_neg (by decide), if_pos hbar]
  · rw [hpdLowWaitEnd_eq hup hblock hto hheld hwaited]
    exact ⟨fun hrun => by rw [if_neg (not_not.mpr hrun)], fun hstopped => by rw [if_pos hstopped]⟩

end Sys2Proof.Laws
end

section
/-!
The set-up operations that a guest asks for through its mailbox: rings, event queues, contexts and reservations (R103, R110, R131, R150, R353, R516), memory,
surfaces and shaders (R106, R115, R207, R209). Each lemma takes `Asks`, so that the operation runs on the state `asked` and is answered.
-/
namespace Sys2Proof.Laws

open Sys2Proof.Machine Sys2Proof.Safety

/-! ## A full journal (R131) -/

/-- Registers that a mailbox request writes by being taken (R130, R133). -/
def askedKeys (i : Nat) : List Nat := [Reg.instOpen i, Reg.remoteLast i, Reg.remoteRx i, Reg.remoteTx i, Reg.remoteSent i]

/-- A command that arrives writes none but its association's. -/
theorem arrived_reg {s : State} {i k : Nat} {dg : Dgram} (h : k ∉ askedKeys i) : (arrived s i dg).reg k = s.reg k := by
  simp only [askedKeys, List.mem_cons, List.not_mem_nil, or_false, not_or] at h
  obtain ⟨-, hLast, hRx, hTx, hSent⟩ := h
  rw [arrived]
  split
  · rfl
  · exact State.delivered_reg _ _ _ _ hLast hRx hTx hSent

/-- A mailbox that takes a request writes no other register. -/
theorem asked_reg {s : State} {i k : Nat} {m : Mail} (h : k ∉ askedKeys i) : (asked s i m).reg k = s.reg k := by
  have hopen : k ≠ Reg.instOpen i := fun heq => h (heq ▸ List.mem_cons_self)
  rw [asked, State.reg_setReg_other _ _ hopen, arrived_reg h]

/-- Whether the mailbox is busy is not among them. -/
theorem mbBusy_notMem_askedKeys (i : Nat) : Reg.mbBusy i ∉ askedKeys i := by
  simp only [askedKeys, List.mem_cons, List.not_mem_nil, or_false, not_or]
  refine ⟨?_, ?_, ?_, ?_, ?_⟩ <;> exact ireg_ne_of_type (by decide)

/-- Nor is whether Halyard serves. -/
theorem halServing_notMem_askedKeys {i : Nat} (hi : i < 48) : Reg.halServing ∉ askedKeys i := by
  simp only [askedKeys, List.mem_cons, List.not_mem_nil, or_false, not_or]
  refine ⟨?_, ?_, ?_, ?_, ?_⟩ <;> exact ireg_ne_of_range (by decide) (by omega) (by omega) (by omega) (by omega)

/-- Nor is the journal's number. -/
theorem jnlNextSeq_notMem_askedKeys (i : Nat) : Obj.jnlNextSeq ∉ askedKeys i := by
  simp only [askedKeys, List.mem_cons, List.not_mem_nil, or_false, not_or]
  refine ⟨?_, ?_, ?_, ?_, ?_⟩ <;> exact okey_ne_ireg (by decide) (by decide)

/-- With a full journal a running guest's request is answered LIMIT_REACHED and has no effect. -/
theorem mbRequest_jnlFull {s : State} {i op : Nat} {m : Mail} {held : Bool} {f : State → State × Option (Nat × Bytes)} (hi : i < 48)
    (hrun : s.reg (Obj.instState i) = 1) (hservice : s.inService = true) (hfree : s.reg (Reg.mbBusy i) = 0) (hserving : s.reg Reg.halServing = 1)
    (horder : InOrder s i m.dg) (hfull : s.jnlFull = true) :
    s.mbRequest i op m held f = (asked s i m).mbAnswer i op m.seq m.tag St.limitReached [] := by
  have htaken : ¬ (47 < i ∨ s.reg (Obj.instState i) = 0 ∨ (!s.inService) = true) := by simp [hrun, hservice, Nat.le_of_lt_succ hi]
  have hidle : (arrived s i m.dg).reg (Reg.mbBusy i) ≠ 1 := by rw [arrived_reg (mbBusy_notMem_askedKeys i), hfree]; decide
  have hserves : ¬ ((asked s i m).reg Reg.halServing = 0 ∨ 4 ≤ s.reg (Obj.instState i) ∨ (held = true ∧ s.reg (Obj.instState i) ≠ 1)) := by
    rw [asked_reg (halServing_notMem_askedKeys hi), hserving, hrun]; simp
  have hstill : (asked s i m).jnlFull = true := by
    rw [State.jnlFull, asked_reg (jnlNextSeq_notMem_askedKeys i)]; exact hfull
  rw [State.mbRequest]
  simp only []
  rw [if_neg htaken, arrives_eq horder, if_neg hidle, ← asked, if_neg hserves, if_pos hstill]

/-- A place is refused unless it begins at a page and may be reached. -/
theorem misplaced_iff {a : Nat} {p : Bool} : (a % 4096 ≠ 0 ∨ (!p) = true) ↔ ¬ (a % 4096 = 0 ∧ p = true) := by
  cases p <;> simp

/-- The state with ring `r` made, empty, at `base`. -/
def ringMade (u : State) (i r log2 vector base : Nat) : State :=
  u.setRegs [(Reg.ringState i r, 1), (Reg.ringLast i r, 0), (Reg.ringBase i r, base), (Reg.ringLog2 i r, log2), (Reg.ringVector i r, vector),
    (Reg.ringRptr i r, 0), (Reg.ringWptr i r, 0)]

section Operations

variable {s : State} {m : Mail} {i : Nat} (h : Asks s i m)
include h

/-! ## Rings (R131, R210) -/

/-- A ring that exists, or that no guest has, is not created. -/
theorem ringCreate_exists {r log2 vector base : Nat} (hr : 7 < r ∨ (asked s i m).reg (Reg.ringState i r) ≠ 0) :
    exec (.ringCreate i m r log2 vector base) s = .next ((asked s i m).mbAnswer i 0x40 m.seq m.tag St.ringState []) := by
  rw [exec_ringCreate, execRingCreate, whenUp_eq h.1, mbRequest_eq h, if_pos hr]; rfl

/-- Size and vector lie in their ranges. -/
theorem ringCreate_range {r log2 vector base : Nat} (hr : r ≤ 7) (hnone : (asked s i m).reg (Reg.ringState i r) = 0)
    (hfits : ¬ (12 ≤ log2 ∧ log2 ≤ 22 ∧ 1 ≤ vector ∧ vector ≤ 63)) :
    exec (.ringCreate i m r log2 vector base) s = .next ((asked s i m).mbAnswer i 0x40 m.seq m.tag St.valueRange []) := by
  rw [exec_ringCreate, execRingCreate, whenUp_eq h.1, mbRequest_eq h, if_neg (by omega), if_pos (by omega)]; rfl

/-- The ring begins at a page that its context reads. -/
theorem ringCreate_align {r log2 vector base : Nat} (hr : r ≤ 7) (hnone : (asked s i m).reg (Reg.ringState i r) = 0)
    (hfits : 12 ≤ log2 ∧ log2 ≤ 22 ∧ 1 ≤ vector ∧ vector ≤ 63)
    (hlies : ¬ (base % 4096 = 0 ∧ (asked s i m).mapped ((asked s i m).instWorld i) ((asked s i m).reg (Reg.s1Root i r)) base .read = true)) :
    exec (.ringCreate i m r log2 vector base) s = .next ((asked s i m).mbAnswer i 0x40 m.seq m.tag St.badAlign []) := by
  rw [exec_ringCreate, execRingCreate, whenUp_eq h.1, mbRequest_eq h, if_neg (by omega), if_neg (by omega),
    if_pos (misplaced_iff.mpr hlies)]
  rfl

section Admitted

variable {r log2 vector base : Nat} (hr : r ≤ 7) (hnone : (asked s i m).reg (Reg.ringState i r) = 0)
  (hfits : 12 ≤ log2 ∧ log2 ≤ 22 ∧ 1 ≤ vector ∧ vector ≤ 63)
  (hlies : base % 4096 = 0 ∧ (asked s i m).mapped ((asked s i m).instWorld i) ((asked s i m).reg (Reg.s1Root i r)) base .read = true)
include hr hnone hfits hlies

/-- A ring that the renderer does not run needs no context. -/
theorem ringCreate_plain (hplain : rendererRing r = false) :
    exec (.ringCreate i m r log2 vector base) s = .next ((ringMade (asked s i m) i r log2 vector base).mbAnswer i 0x40 m.seq m.tag St.ok []) := by
  rw [exec_ringCreate, execRingCreate, whenUp_eq h.1, mbRequest_eq h, if_neg (by omega), if_neg (by omega),
    if_neg fun hbad => misplaced_iff.mp hbad hlies]
  simp only [hplain, Bool.not_false, if_true]
  rfl

/-- One that it runs takes the next context that is free. -/
theorem ringCreate_context {c : Nat} (hrender : rendererRing r = true) (hctx : (asked s i m).nextCtx = some c) :
    exec (.ringCreate i m r log2 vector base) s = .next (((ringMade (asked s i m) i r log2 vector base).setRegs
      [(Reg.ringCtx i r, c), (Reg.ctxLast, c), (Reg.nimPrio i r, 1)]).mbAnswer i 0x40 m.seq m.tag St.ok []) := by
  rw [exec_ringCreate, execRingCreate, whenUp_eq h.1, mbRequest_eq h, if_neg (by omega), if_neg (by omega),
    if_neg fun hbad => misplaced_iff.mp hbad hlies]
  simp only [hrender, hctx, Bool.not_true, Bool.false_eq_true, if_false]
  rfl

/-- Without one the ring is not created. -/
theorem ringCreate_noContext (hrender : rendererRing r = true) (hctx : (asked s i m).nextCtx = none) :
    exec (.ringCreate i m r log2 vector base) s = .next ((asked s i m).mbAnswer i 0x40 m.seq m.tag St.limitReached []) := by
  rw [exec_ringCreate, execRingCreate, whenUp_eq h.1, mbRequest_eq h, if_neg (by omega), if_neg (by omega),
    if_neg fun hbad => misplaced_iff.mp hbad hlies]
  simp only [hrender, hctx, Bool.not_true, Bool.false_eq_true, if_false]
  rfl

end Admitted

/-- Only a ring that exists is destroyed. -/
theorem ringDestroy_none {r : Nat} (hr : 7 < r ∨ (asked s i m).reg (Reg.ringState i r) = 0) :
    exec (.ringDestroy i m r) s = .next ((asked s i m).mbAnswer i 0x41 m.seq m.tag St.ringState []) := by
  rw [exec_ringDestroy, execRingDestroy, whenUp_eq h.1, mbRequest_eq h, if_pos hr]; rfl

/-- While words wait in it a ring is BUSY, but for a stopped one. -/
theorem ringDestroy_busy {r : Nat} (hr : r ≤ 7) (hthere : (asked s i m).reg (Reg.ringState i r) ≠ 0) (hgoes : (asked s i m).reg (Reg.ringState i r) ≠ 3)
    (hwaits : (asked s i m).ringWaiting i r ≠ 0) :
    exec (.ringDestroy i m r) s = .next ((asked s i m).mbAnswer i 0x41 m.seq m.tag St.busy []) := by
  rw [exec_ringDestroy, execRingDestroy, whenUp_eq h.1, mbRequest_eq h, if_neg (by omega), if_pos ⟨hwaits, hgoes⟩]; rfl

/-- An empty or stopped ring goes. -/
theorem ringDestroy_gone {r : Nat} (hr : r ≤ 7) (hthere : (asked s i m).reg (Reg.ringState i r) ≠ 0)
    (hidle : (asked s i m).ringWaiting i r = 0 ∨ (asked s i m).reg (Reg.ringState i r) = 3) :
    exec (.ringDestroy i m r) s = .next (((asked s i m).ringGone i r).mbAnswer i 0x41 m.seq m.tag St.ok []) := by
  rw [exec_ringDestroy, execRingDestroy, whenUp_eq h.1, mbRequest_eq h, if_neg (by omega), if_neg fun hb => hidle.elim hb.1 hb.2]; rfl

/-! ## Event queues (R131) -/

/-- Size, vector and holdoff lie in their ranges. -/
theorem eqCreate_range {log2 vector holdoff base : Nat} (hfits : ¬ (6 ≤ log2 ∧ log2 ≤ 16 ∧ vector ≤ 63 ∧ holdoff ≤ 1000)) :
    exec (.eqCreate i m log2 vector holdoff base) s = .next ((asked s i m).mbAnswer i 0x42 m.seq m.tag St.valueRange []) := by
  rw [exec_eqCreate, execEqCreate, whenUp_eq h.1, mbRequest_eq h, if_pos (by omega)]; rfl

/-- The queue begins at a page that may be written. -/
theorem eqCreate_align {log2 vector holdoff base : Nat} (hfits : 6 ≤ log2 ∧ log2 ≤ 16 ∧ vector ≤ 63 ∧ holdoff ≤ 1000)
    (hlies : ¬ (base % 4096 = 0 ∧ (asked s i m).mapped ((asked s i m).instWorld i) ((asked s i m).reg (Reg.s1Root i 8)) base .write = true)) :
    exec (.eqCreate i m log2 vector holdoff base) s = .next ((asked s i m).mbAnswer i 0x42 m.seq m.tag St.badAlign []) := by
  rw [exec_eqCreate, execEqCreate, whenUp_eq h.1, mbRequest_eq h, if_neg (by omega), if_pos (misplaced_iff.mpr hlies)]; rfl

/-- A queue that its rules allow takes the place of the one before. -/
theorem eqCreate_admitted {log2 vector holdoff base : Nat} (hfits : 6 ≤ log2 ∧ log2 ≤ 16 ∧ vector ≤ 63 ∧ holdoff ≤ 1000)
    (hlies : base % 4096 = 0 ∧ (asked s i m).mapped ((asked s i m).instWorld i) ((asked s i m).reg (Reg.s1Root i 8)) base .write = true) :
    exec (.eqCreate i m log2 vector holdoff base) s = .next ((((asked s i m).eqGone i).setRegs [(Reg.eqExists i, 1), (Reg.eqBase i, base),
      (Reg.eqLog2 i, log2), (Reg.eqVector i, vector), (Reg.eqHoldoff i, holdoff)]).mbAnswer i 0x42 m.seq m.tag St.ok []) := by
  rw [exec_eqCreate, execEqCreate, whenUp_eq h.1, mbRequest_eq h, if_neg (by omega), if_neg fun hbad => misplaced_iff.mp hbad hlies]; rfl

/-! ## Stage 1 (R103, R110) -/

/-- There are 9 context classes. -/
theorem s1Set_range {cls base : Nat} (hcls : 8 < cls) :
    exec (.s1Set i m cls base) s = .next ((asked s i m).mbAnswer i 0x43 m.seq m.tag St.valueRange []) := by
  rw [exec_s1Set, execS1Set, whenUp_eq h.1, mbRequest_eq h]
  simp only []
  rw [if_pos hcls]; rfl

/-- A root is aligned to a page, below 2^52 and readable. -/
theorem s1Set_align {cls base : Nat} (hcls : cls ≤ 8) (hon : base ≠ 0xFFFFFFFFFFFFFFFF)
    (hbar : base % 4096 ≠ 0 ∨ 2 ^ 52 ≤ base ∨ (asked s i m).readable ((asked s i m).instWorld i) base = false) :
    exec (.s1Set i m cls base) s = .next ((asked s i m).mbAnswer i 0x43 m.seq m.tag St.badAlign []) := by
  rw [exec_s1Set, execS1Set, whenUp_eq h.1, mbRequest_eq h]
  simp only []
  rw [if_neg hcls.not_gt, if_pos ⟨by rw [decide_eq_false hon]; rfl, hbar.imp_right (Or.imp_right fun hno => by rw [hno]; rfl)⟩]; rfl

/-- All ones turn stage 1 off, and a root that its rules allow turns it on: for one context, or with class 0 for every one. -/
theorem s1Set_admitted {cls base : Nat} (hcls : cls ≤ 8) (hbase : base = 0xFFFFFFFFFFFFFFFF
      ∨ (base % 4096 = 0 ∧ base < 2 ^ 52 ∧ (asked s i m).readable ((asked s i m).instWorld i) base = true)) :
    let v := if base = 0xFFFFFFFFFFFFFFFF then 0 else base + 1
    exec (.s1Set i m cls base) s = .next ((if cls = 0 then (List.range 9).foldl (fun s c => s.setReg (Reg.s1Root i c) v) (asked s i m)
      else (asked s i m).setReg (Reg.s1Root i (cls - 1)) v).mbAnswer i 0x43 m.seq m.tag St.ok []) := by
  have hok : ¬ ((!decide (base = 0xFFFFFFFFFFFFFFFF)) = true
      ∧ (base % 4096 ≠ 0 ∨ 2 ^ 52 ≤ base ∨ (!(asked s i m).readable ((asked s i m).instWorld i) base) = true)) := by
    rintro ⟨hon, hbar⟩
    obtain ⟨halign, hlow, hread⟩ := hbase.resolve_left (by simpa using hon)
    exact hbar.elim (· halign) (·.elim hlow.not_ge (by simp [hread]))
  rw [exec_s1Set, execS1Set, whenUp_eq h.1, mbRequest_eq h]
  simp only []
  rw [if_neg hcls.not_gt, if_neg hok]; rfl

/-- An invalidation is answered once it completes. -/
theorem mbS1Invalidate_waits :
    exec (.mbS1Invalidate i m) s
      = .next (settled i 0x44 m (Inst.waitFor (State.invalidate (asked s i m) ((asked s i m).instWorld i)) i [] [(asked s i m).instWorld i])) := by
  rw [exec_mbS1Invalidate, execMbS1Invalidate, whenUp_eq h.1, mbRequest_eq h]

/-! ## Reservations (R131, R150, R353, R516) -/

/-- What is reserved lies within the grants. -/
theorem reserve_exceeds {r b a t : Nat}
    (hgrant : ¬ (r ≤ (asked s i m).reg (Obj.instRendererGrant i) ∧ b ≤ (asked s i m).reg (Obj.instBandwidthGrant i)
      ∧ t ≤ (asked s i m).reg (Obj.instTouchRateHz i)
      ∧ (a = 0 ∨ ((asked s i m).reg (Obj.instAudioLatencyUs i) ≠ 0 ∧ (asked s i m).reg (Obj.instAudioLatencyUs i) ≤ a)))) :
    exec (.reserve i m r b a t) s = .next ((asked s i m).mbAnswer i 0x4B m.seq m.tag St.grantExceeded []) := by
  rw [exec_reserve, execReserve, whenUp_eq h.1, mbRequest_eq h]
  simp only []
  rw [if_pos (by omega)]; rfl

/-- Within the grants each unit is asked in turn, and what all of them allow is reserved. -/
theorem reserve_within {r b a t : Nat}
    (hgrant : r ≤ (asked s i m).reg (Obj.instRendererGrant i) ∧ b ≤ (asked s i m).reg (Obj.instBandwidthGrant i)
      ∧ t ≤ (asked s i m).reg (Obj.instTouchRateHz i)
      ∧ (a = 0 ∨ ((asked s i m).reg (Obj.instAudioLatencyUs i) ≠ 0 ∧ (asked s i m).reg (Obj.instAudioLatencyUs i) ≤ a))) (ha : a ≤ 100000) :
    let u := asked s i m
    exec (.reserve i m r b a t) s = .next (settled i 0x4B m (if (!u.rendererAdmits i r) = true then (u, some (St.reserveRefused, leBytes 2 St.nimReserveFull))
      else if (!u.bulkAdmits i b) = true then (u, some (St.reserveRefused, leBytes 2 St.memReserveFull))
      else if (!u.audioAdmits i a) = true then (u, some (St.reserveRefused, leBytes 2 St.audFifoFull))
      else Inst.ok (u.reserve i r b a t) [])) := by
  rw [exec_reserve, execReserve, whenUp_eq h.1, mbRequest_eq h]
  simp only []
  rw [if_neg (by omega), if_neg ha.not_gt]

/-- A running guest that asks for it quiesces. -/
theorem quiesceSelf_eq :
    exec (.quiesceSelf i m) s = .next ((if (asked s i m).reg (Obj.instState i) = 1
      then (asked s i m).quiesceStart i 0 ((asked s i m).reg Obj.quiesceLimitMs) else asked s i m).mbAnswer i 0x4C m.seq m.tag St.ok []) := by
  rw [exec_quiesceSelf, execQuiesceSelf, whenUp_eq h.1, mbRequest_eq h]; rfl

/-! ## Memory (R110, R115, R131) -/

/-- Memory beyond the grant is refused. -/
theorem memRequest_exceeds {a n : Nat}
    (hgrant : (asked s i m).memLimit ((asked s i m).instWorld i) < 2 * ((asked s i m).reg (Reg.memPages ((asked s i m).instWorld i)) + n)) :
    exec (.memRequest i m a n) s = .next ((asked s i m).mbAnswer i 0x45 m.seq m.tag St.grantExceeded []) := by
  rw [exec_memRequest, execMemRequest, whenUp_eq h.1, mbRequest_eq h]
  simp only []
  rw [if_pos hgrant]; rfl

/-- Memory begins at a whole block. -/
theorem memRequest_align {a n : Nat}
    (hgrant : 2 * ((asked s i m).reg (Reg.memPages ((asked s i m).instWorld i)) + n) ≤ (asked s i m).memLimit ((asked s i m).instWorld i))
    (halign : a % frameBytes ≠ 0) :
    exec (.memRequest i m a n) s = .next ((asked s i m).mbAnswer i 0x45 m.seq m.tag St.badAlign []) := by
  rw [exec_memRequest, execMemRequest, whenUp_eq h.1, mbRequest_eq h]
  simp only []
  rw [if_neg hgrant.not_gt, if_pos halign]; rfl

/-- Free space within the grant is mapped. -/
theorem memRequest_mapped {a n : Nat} {v : State}
    (hgrant : 2 * ((asked s i m).reg (Reg.memPages ((asked s i m).instWorld i)) + n) ≤ (asked s i m).memLimit ((asked s i m).instWorld i))
    (halign : a % frameBytes = 0) (hend : a + n * frameBytes ≤ 2 ^ 52)
    (hempty : (List.range n).all (fun k => (asked s i m).slotEmpty ((asked s i m).instWorld i) (a + k * frameBytes)) = true)
    (hmap : (asked s i m).mapMemory ((asked s i m).instWorld i) a n = some v) :
    let w := (asked s i m).instWorld i
    exec (.memRequest i m a n) s
      = .next (((v.setReg (Reg.memPages w) (v.reg (Reg.memPages w) + n)).memDerive w).mbAnswer i 0x45 m.seq m.tag St.ok []) := by
  rw [exec_memRequest, execMemRequest, whenUp_eq h.1, mbRequest_eq h]
  simp only []
  rw [if_neg hgrant.not_gt, if_neg (not_not.mpr halign), if_neg hend.not_gt, hempty, if_neg (by decide)]
  simp only [hmap]
  rfl

/-- Memory that the world holds is unmapped with the exports in it, once the invalidations complete. -/
theorem memRelease_waits {a n : Nat} (halign : a % frameBytes = 0) (hown : (asked s i m).ownPagesAt ((asked s i m).instWorld i) a (512 * n) = true)
    (hblocks : (List.range n).all (fun k => (asked s i m).blockAt ((asked s i m).instWorld i) (a + k * frameBytes)) = true) :
    let u := asked s i m
    let w := u.instWorld i
    let gone := (u.exports.filter (fun e => e.world == w && decide (e.addr < a + n * frameBytes) && decide (a < e.addr + 4096 * e.pages)
      && !(u.num Num.exportsEnding).contains e.num)).map Export.num
    exec (.memRelease i m a n) s = .next (settled i 0x46 m (Inst.waitFor (((u.revoke gone).1.unmapLater w a n 0).setNum (Num.mbFrees i) [a, n]) i gone
      (w :: (u.revoke gone).2.filter (· != w)))) := by
  rw [exec_memRelease, execMemRelease, whenUp_eq h.1, mbRequest_eq h]
  simp only []
  rw [halign, hown, hblocks, if_neg (by decide)]

/-! ## Surfaces (R106) -/

/-- A surface of the world's own pages is exported under the next number. -/
theorem surfaceExport_numbered {a n target : Nat} (htarget : target = 0xFF ∨ target = 2 ∨ (4 ≤ target ∧ target ≤ 63)) (halign : a % 4096 = 0)
    (hown : (asked s i m).ownPagesAt ((asked s i m).instWorld i) a n = true) :
    let u := asked s i m
    exec (.surfaceExport i m a n target) s = .next ((State.setReg { u with exports := u.exports ++ [⟨u.reg Reg.nextExport, u.instWorld i, a, n, target⟩] }
      Reg.nextExport ((u.reg Reg.nextExport + 1) % 2 ^ 32)).mbAnswer i 0x47 m.seq m.tag St.ok (leBytes 4 (u.reg Reg.nextExport))) := by
  rw [exec_surfaceExport, execSurfaceExport, whenUp_eq h.1, mbRequest_eq h]
  simp only []
  rw [if_neg (by omega), halign, hown, if_neg (by decide)]; rfl

/-- An exported surface of the world's own is revoked once the worlds that view it are invalidated. -/
theorem surfaceRevoke_waits {num : Nat} {e : Export} (hexport : (asked s i m).exportOf num = some e) (hown : e.world = (asked s i m).instWorld i) :
    exec (.surfaceRevoke i m num) s
      = .next (settled i 0x48 m (Inst.waitFor ((asked s i m).revoke [num]).1 i [num] ((asked s i m).revoke [num]).2)) := by
  rw [exec_surfaceRevoke, execSurfaceRevoke, whenUp_eq h.1, mbRequest_eq h]
  simp only [hexport]
  rw [if_neg (not_not.mpr hown)]

/-- A surface exported to the world is mapped as a view where there is room for it. -/
theorem surfaceImport_mapped {num a : Nat} {e : Export} {v : State} (hexport : (asked s i m).exportOf num = some e)
    (htarget : e.target = (asked s i m).instWorld i) (halign : a % 4096 = 0) (hend : a + 4096 * e.pages ≤ 2 ^ 52)
    (hempty : (List.range e.pages).all (fun k => (asked s i m).pageEmpty ((asked s i m).instWorld i) (a + 4096 * k)) = true)
    (hmap : (asked s i m).mapView ((asked s i m).instWorld i) a e.world e.addr e.pages = some v) :
    exec (.surfaceImport i m num a) s
      = .next (State.mbAnswer { v with views := v.views ++ [⟨num, (asked s i m).instWorld i, a, e.pages⟩] } i 0x49 m.seq m.tag St.ok []) := by
  rw [exec_surfaceImport, execSurfaceImport, whenUp_eq h.1, mbRequest_eq h]
  simp only [hexport]
  rw [if_neg (not_not.mpr htarget), if_neg (by omega), hempty, if_neg (by decide)]
  simp only [hmap]
  rfl

/-- A number that no exported surface has is not revoked. -/
theorem surfaceRevoke_unknown {num : Nat} (hnone : (asked s i m).exportOf num = none) :
    exec (.surfaceRevoke i m num) s = .next ((asked s i m).mbAnswer i 0x48 m.seq m.tag St.exportUnknown []) := by
  rw [exec_surfaceRevoke, execSurfaceRevoke, whenUp_eq h.1, mbRequest_eq h]
  simp only [hnone]
  rfl

/-- Nor is it imported. -/
theorem surfaceImport_unknown {num a : Nat} (hnone : (asked s i m).exportOf num = none) :
    exec (.surfaceImport i m num a) s = .next ((asked s i m).mbAnswer i 0x49 m.seq m.tag St.exportUnknown []) := by
  rw [exec_surfaceImport, execSurfaceImport, whenUp_eq h.1, mbRequest_eq h]
  simp only [hnone]
  rfl

/-! ## Shaders (R207, R209) -/

/-- A description that can be read, where the world may have another pipeline, is refused for its reason or takes a new handle. -/
theorem shaderAdmit_read {addr size reason offset samples stores depth : Nat} {colours : List Nat} {b : Bytes}
    (hread : (asked s i m).gread ((asked s i m).instWorld i) ((asked s i m).reg (Reg.s1Root i 8)) addr size = .ok b)
    (hroom : ((asked s i m).num (Num.pipes ((asked s i m).instWorld i))).length < (asked s i m).reg Obj.pipelinesPerWorld) :
    let u := asked s i m
    let w := u.instWorld i
    exec (.shaderAdmit i m addr size reason offset samples stores depth colours) s
      = .next (settled i 0x4A m (if reason ≠ 0 then (u, some (St.shaderRefused, record [(1, reason), (4, offset)]))
        else Inst.ok ((u.tick.setNum (Num.pipe u.newPipe) (w :: 1 :: samples :: stores :: depth :: i :: colours)).setNum (Num.pipes w)
          (u.num (Num.pipes w) ++ [u.newPipe])) (leBytes 4 u.newPipe))) := by
  rw [exec_shaderAdmit, execShaderAdmit, whenUp_eq h.1, mbRequest_eq h]
  simp only [hread]
  rw [if_neg hroom.not_ge]

/-- A handle of the world is released, and no other. -/
theorem shaderRelease_eq {p : Nat} :
    let u := asked s i m
    let w := u.instWorld i
    exec (.shaderRelease i m p) s = .next (settled i 0x4A m (if (!(u.num (Num.pipes w)).contains p) = true then Inst.no u St.pipelineUnknown
      else Inst.ok ((u.setNum (Num.pipe p) ((u.pipeOf p).take 1 ++ 4 :: (u.pipeOf p).drop 2)).setNum (Num.pipes w)
        ((u.num (Num.pipes w)).filter (· != p))) [])) := by
  rw [exec_shaderRelease, execShaderRelease, whenUp_eq h.1, mbRequest_eq h]

end Operations

/-- Settles O24: each operation runs on the state that has taken the request, and is answered as the lemma of its case says. -/
theorem mailboxOperations : Obligations.MailboxOperations := by
  refine ⟨⟨fun s m i r log2 vector base h => ⟨ringCreate_exists h, ringCreate_range h, ringCreate_align h, ringCreate_plain h,
        fun c hr hnone hfits hlies => ringCreate_context h hr hnone hfits hlies, ringCreate_noContext h⟩,
      fun s m i r h => ⟨ringDestroy_none h, ringDestroy_busy h, ringDestroy_gone h⟩,
      fun s m i log2 vector holdoff base h => ⟨eqCreate_range h, eqCreate_align h, eqCreate_admitted h⟩,
      fun s m i cls base h => ⟨s1Set_range h, fun hlow hcls => ?_, fun hlow hcls hon halign hend hread => ?_, fun hon halign hend hread => ?_,
        s1Set_align h⟩,
      fun s m i h => mbS1Invalidate_waits h,
      fun s m i r b a t h => ⟨reserve_exceeds h, fun hgrant ha hrender hbulk haudio => ?_, fun hgrant ha hfull => ?_⟩,
      fun s m i hup hi hrun hservice hfree hserving horder hfull => ?_, fun s m i h => quiesceSelf_eq h⟩,
    fun s m i a n h => ⟨memRequest_exceeds h, memRequest_align h, fun v => memRequest_mapped h⟩, fun s m i a n h => memRelease_waits h,
    fun s m i a n target h => surfaceExport_numbered h, fun s m i num e h => surfaceRevoke_waits h, fun s m i num a e v h => surfaceImport_mapped h,
    fun s m i num a h hnone => ⟨surfaceRevoke_unknown h hnone, surfaceImport_unknown h hnone⟩,
    fun s m i addr size reason offset samples stores depth colours b h hread hroom => ⟨fun hreason => ?_, fun hreason => ?_⟩,
    fun s m i p h => ⟨fun hnone => ?_, fun hthere => ?_⟩⟩
  · rw [s1Set_admitted h hcls (.inl rfl), if_pos rfl, if_neg (Nat.ne_of_gt hlow)]
  · rw [s1Set_admitted h hcls (.inr ⟨halign, hend, hread⟩), if_neg hon, if_neg (Nat.ne_of_gt hlow)]
  · rw [s1Set_admitted h (Nat.zero_le 8) (.inr ⟨halign, hend, hread⟩), if_neg hon, if_pos rfl]
  · rw [reserve_within h hgrant ha, hrender, hbulk, haudio]; rfl
  · rw [reserve_within h hgrant ha, hfull]; rfl
  · rw [exec_quiesceSelf, execQuiesceSelf, whenUp_eq hup, mbRequest_jnlFull hi hrun hservice hfree hserving horder hfull]
  · rw [shaderAdmit_read h hread hroom, if_pos hreason]; rfl
  · rw [shaderAdmit_read h hread hroom, if_neg (not_not.mpr hreason)]; rfl
  · rw [shaderRelease_eq h, hnone]; rfl
  · rw [shaderRelease_eq h, hthere]; rfl

end Sys2Proof.Laws
end

section
/-!
Fabric accesses (R98, R101 to R112, R122, R143 to R147), throttles, idle rows and concentrated traffic (R153, R161, R163).
-/
namespace Sys2Proof.Laws

open Sys2Proof.Machine Sys2Proof.Safety

/-! ## What an access is (R101, R122, R143) -/

/-- An access that names a register of translation state is one of that register. -/
theorem fabricAccess_register {s : State} {a : FabAccess} (hup : s.up = true) (hreg : a.reg ≠ 0) :
    exec (.fabricAccess a) s = .next (Fab.regAccess a s) := by
  rw [exec_fabricAccess, execFabricAccess, whenUp_eq hup, if_pos hreg]

/-- A debug session's access outside its scope is refused. -/
theorem fabricAccess_outOfScope {s : State} {a : FabAccess} (hup : s.up = true) (hreg : a.reg = 0) (hdbg : a.dbg ≠ 0) (hscope : Fab.inScope s a = false) :
    exec (.fabricAccess a) s = .next (s.reply St.debugScope) := by
  rw [exec_fabricAccess, execFabricAccess, whenUp_eq hup, if_neg (not_not.mpr hreg), if_pos ⟨hdbg, by rw [hscope]; rfl⟩]

/-- An access that no debug session makes, or one within its scope that is not raw, is a world's. -/
theorem fabricAccess_world {s : State} {a : FabAccess} (hup : s.up = true) (hreg : a.reg = 0)
    (hscope : a.dbg = 0 ∨ (Fab.inScope s a = true ∧ a.dbgWorld ≠ 64)) (hreq : ¬ (42 ≤ a.req ∧ a.req < 46)) :
    exec (.fabricAccess a) s = .next (Fab.access a s) := by
  have hin : ¬ (a.dbg ≠ 0 ∧ (!Fab.inScope s a) = true) := by
    rintro ⟨hdbg, hout⟩
    simp [(hscope.resolve_left hdbg).1] at hout
  have hcooked : ¬ (a.dbg ≠ 0 ∧ a.dbgWorld = 64) := fun ⟨hdbg, hraw⟩ => (hscope.resolve_left hdbg).2 hraw
  rw [exec_fabricAccess, execFabricAccess, whenUp_eq hup, if_neg (not_not.mpr hreg), if_neg hin, if_neg hcooked, if_neg hreq]

/-- An access of a hoist requester has come over a hoist link. -/
theorem fabricAccess_inbound {s : State} {a : FabAccess} (hup : s.up = true) (hreg : a.reg = 0) (hdbg : a.dbg = 0) (hreq : 42 ≤ a.req ∧ a.req < 46) :
    exec (.fabricAccess a) s = .next (Fab.inbound a s) := by
  rw [exec_fabricAccess, execFabricAccess, whenUp_eq hup, if_neg (not_not.mpr hreg), if_neg fun hd => hd.1 hdbg, if_neg fun hd => hd.1 hdbg, if_pos hreq]

/-! ## Registers of translation state (R98, R101) -/

/-- Another world than 0 does not write one, and Halyard is told. -/
theorem regAccess_refused {s : State} {a : FabAccess} (hacc : a.acc = 2 ∨ a.acc = 3) (hworld : Fab.world s a ≠ 0) :
    Fab.regAccess a s = (s.raise [.hal] a.unit St.xlatPermission (Fab.world s a) 3 []).reply St.xlatPermission := by
  rw [Fab.regAccess, if_pos ⟨hacc, hworld⟩]

/-- World 0 does. -/
theorem regAccess_written {s : State} {a : FabAccess} (hacc : a.acc = 2) (hworld : Fab.world s a = 0) :
    Fab.regAccess a s = (s.setReg (Fab.protReg (a.reg - 1)) (leNat a.data)).reply St.ok := by
  rw [Fab.regAccess, if_neg fun hw => hw.2 hworld, if_pos hacc]

/-! ## The access of a world (R103 to R112) -/

/-- The state once the descriptor reads of an access that misses have been served. -/
def walked (a : FabAccess) (s : State) : State :=
  if a.miss = true then (Fab.walkReads s (Fab.world s a) (Fab.root s a) a.va).foldl (Fab.descServe a (Fab.world s a)) s else s

/-- A descriptor read that meets an uncorrectable error faults the access, and its row fails. -/
theorem access_walkError {s : State} {a : FabAccess} {d : Fab.DescRead} (hbad : Fab.walkBad s a = some d) :
    Fab.access a s = (Fab.fault a s ⟨St.xlatWalkEcc, 2, d.level, d.walk, d.gsa⟩).failRow d.fpa := by
  simp only [Fab.access, hbad, Fab.walkError]

/-- An access that translates is carried out at the addresses that the walk gives. -/
theorem access_carried {s : State} {a : FabAccess} {as : List Nat} (hbad : Fab.walkBad s a = none)
    (hxlate : s.xlateRange (Fab.world s a) (Fab.root s a) a.va (Fab.accOf a.acc) a.len = .ok as) : Fab.access a s = Fab.carry a as (walked a s) := by
  simp only [Fab.access, hbad, hxlate, walked]

/-- One that does not faults with what the walk met. -/
theorem access_faults {s : State} {a : FabAccess} {e : XFault} (hbad : Fab.walkBad s a = none)
    (hxlate : s.xlateRange (Fab.world s a) (Fab.root s a) a.va (Fab.accOf a.acc) a.len = .error e) : Fab.access a s = Fab.fault a (walked a s) e := by
  simp only [Fab.access, hbad, hxlate, walked]

/-! ## Accesses over the hoist (R143) -/

/-- An access below 2^40 for which the feeds hold grants is carried out where it names. -/
theorem inbound_granted {s : State} {a : FabAccess} (hend : a.va + a.len ≤ 0x10000000000)
    (hgrant : ((List.range a.len).map (· + a.va)).all (Fab.feedGrant s) = true) :
    Fab.inbound a s = Fab.carry a ((List.range a.len).map (· + a.va)) s := by
  have hopen : ¬ (0x10000000000 < a.va + a.len ∨ (!((List.range a.len).map (· + a.va)).all (Fab.feedGrant s)) = true) := by
    rw [hgrant]
    exact not_or.mpr ⟨hend.not_gt, by decide⟩
  rw [Fab.inbound, if_neg hopen]

/-- Any other is refused, and Halyard is told. -/
theorem inbound_refused {s : State} {a : FabAccess}
    (hbar : 0x10000000000 < a.va + a.len ∨ ((List.range a.len).map (· + a.va)).all (Fab.feedGrant s) = false) :
    Fab.inbound a s = (s.raise [.hal] a.unit St.xlatPermission 0xFF 3 []).reply St.xlatPermission := by
  rw [Fab.inbound, if_pos (hbar.imp_right fun hnone => by rw [hnone]; rfl)]

/-! ## Throttles (R163) -/

/-- A throttle renewed from its end, with no further action attributed to it yet. -/
def throttleRenewed (s : State) (t : Throttle) : Throttle := { t with until' := t.until' + 1000000 * s.reg Obj.throttleMs, further := 0 }

/-- The state with throttle `t'` in place of `t`. -/
def throttleReplaced (s : State) (t t' : Throttle) : State := { s with throttles := s.throttles.map (fun x => if x = t then t' else x) }

/-- Within a second of the last event about it a throttle is renewed without another. -/
theorem throttleExpiry_quiet {s : State} {c bank w r : Nat} {t : Throttle} (hup : s.up = true) (hpair : s.throttleOf c bank w r = some t)
    (hdue : t.until' ≤ s.now) (hmany : s.reg Obj.throttleAfter ≤ t.further) (hrecent : s.now < t.raised + 1000000000) :
    exec (.throttleExpiry c bank w r) s = .next (throttleReplaced s t (throttleRenewed s t)) := by
  rw [exec_throttleExpiry, execThrottleExpiry, whenUp_eq hup]
  simp only [hpair, hdue.not_gt, hmany, hrecent.not_ge, decide_false, if_false, if_true, Bool.false_eq_true]
  rfl

/-- After it, MEM_ROW_THROTTLE is raised again. -/
theorem throttleExpiry_told {s : State} {c bank w r : Nat} {t : Throttle} (hup : s.up = true) (hpair : s.throttleOf c bank w r = some t)
    (hdue : t.until' ≤ s.now) (hmany : s.reg Obj.throttleAfter ≤ t.further) (hlong : t.raised + 1000000000 ≤ s.now) :
    exec (.throttleExpiry c bank w r) s
      = .next ((throttleReplaced s t { throttleRenewed s t with raised := s.now }).throttleEvent c bank w r St.memRowThrottle 2) := by
  rw [exec_throttleExpiry, execThrottleExpiry, whenUp_eq hup]
  simp only [hpair, hdue.not_gt, hmany, hlong, decide_true, if_false, if_true]
  rfl

/-- With fewer further actions it ends. -/
theorem throttleExpiry_ends {s : State} {c bank w r : Nat} {t : Throttle} (hup : s.up = true) (hpair : s.throttleOf c bank w r = some t)
    (hdue : t.until' ≤ s.now) (hfew : t.further < s.reg Obj.throttleAfter) :
    exec (.throttleExpiry c bank w r) s
      = .next ((State.throttledFlag { s with throttles := s.throttles.filter (fun x => x != t) } r).throttleEvent c bank w r St.memThrottleEnd 1) := by
  rw [exec_throttleExpiry, execThrottleExpiry, whenUp_eq hup]
  simp only [hpair, hdue.not_gt, hfew.not_ge, if_false]

/-! ## Idle rows and concentrated traffic (R153, R161) -/

/-- An open row that nothing has hit for IdleCloseNs closes. -/
theorem rowIdleClose_idle {s : State} {c bank : Nat} (hup : s.up = true) (hopen : s.reg (Reg.rowOpen (16 * c + bank)) ≠ 0)
    (hidle : s.reg (Reg.rowHitAt (16 * c + bank)) + s.reg (Obj.dramIdleCloseNs c) ≤ s.now) :
    exec (.rowIdleClose c bank) s = .next (s.setReg (Reg.rowOpen (16 * c + bank)) 0) := by
  rw [exec_rowIdleClose, execRowIdleClose, whenUp_eq hup]
  exact congrArg _ (if_neg (not_or.mpr ⟨hopen, hidle.not_gt⟩))

/-- Within the interval of 10 ms nothing is told. -/
theorem concentrationCheck_early {s : State} {w : Nat} (hup : s.up = true) (hwin : s.now / 10000000 ≤ s.reg (Reg.concWin w)) :
    exec (.concentrationCheck w) s = .next s := by
  rw [exec_concentrationCheck, execConcentrationCheck, whenUp_eq hup, State.concClose, if_pos hwin]

/-- Clearing counts leaves hoist time. -/
theorem foldl_setReg_now (l : List Nat) (f : Nat → Nat) (v : Nat) : ∀ s : State, (l.foldl (fun s c => s.setReg (f c) v) s).now = s.now := by
  induction l with
  | nil => exact fun _ => rfl
  | cons c l ih => exact fun s => ih (s.setReg (f c) v)

/-- Settles O26: an access is one of the kinds above and has that kind's effect; the channels' commands act when their time has come. -/
theorem fabricAccesses : Obligations.FabricAccesses := by
  refine ⟨⟨fun s a hup hreg hacc hworld => ?_, fun s a hup hreg hacc hworld => ?_, fun s a => fabricAccess_outOfScope,
      fun s a hup hreg hscope hreq => ⟨fun d hbad => ?_, fun as hbad hxlate => ?_, fun e hbad hxlate => ?_⟩,
      fun s a hup hreg hdbg hlow hhigh => ⟨fun hend hgrant => ?_, fun hbar => ?_⟩⟩,
    fun s c bank w r t => throttleExpiry_quiet, fun s c bank w r t => throttleExpiry_told, fun s c bank w r t => throttleExpiry_ends,
    fun s c bank => rowIdleClose_idle, fun s w hup => ⟨concentrationCheck_early hup, fun hwin => ?_⟩⟩
  · rw [fabricAccess_register hup hreg, regAccess_refused hacc hworld]
  · rw [fabricAccess_register hup hreg, regAccess_written hacc hworld]
  · rw [fabricAccess_world hup hreg hscope hreq, access_walkError hbad]
  · rw [fabricAccess_world hup hreg hscope hreq, access_carried hbad hxlate]; rfl
  · rw [fabricAccess_world hup hreg hscope hreq, access_faults hbad hxlate]; rfl
  · rw [fabricAccess_inbound hup hreg hdbg ⟨hlow, hhigh⟩, inbound_granted hend hgrant]
  · rw [fabricAccess_inbound hup hreg hdbg ⟨hlow, hhigh⟩, inbound_refused hbar]
  · rw [exec_concentrationCheck, execConcentrationCheck, whenUp_eq hup, State.concClose, if_neg hwin.not_ge]
    simp only [foldl_setReg_now, State.setReg_now]

end Sys2Proof.Laws
end

section
/-!
Operations on instances, their grants and their ends (R125, R135 to R138, R142, R518).
-/
namespace Sys2Proof.Laws

open Sys2Proof.Machine Sys2Proof.Safety

/-! ## Operations of a session on an instance (R125, R136, R137, R518) -/

/-- The state once session `n` has been answered what its operation on instance `i` came to. -/
def instOpAnswered (s : State) (n i : Nat) (x : State × Nat) : State := answered s n 2 (Obj.instOp i) (Inst.opAnswer x.1 n i x.2)

/-- What a reset or a removal that leads to `t` comes to: only a QUIESCED instance takes it (R518). -/
def whenQuiesced (u : State) (i : Nat) (t : State) : State × Nat :=
  if u.reg (Obj.instState i) = 1 ∨ u.reg (Obj.instState i) = 2 then (u, St.quiesceRequired)
  else if u.reg (Obj.instState i) ≠ 3 then (u, St.busy) else (t, St.ok)

/-- A QUIESCED instance takes it. -/
theorem whenQuiesced_quiesced {u t : State} {i : Nat} (hq : u.reg (Obj.instState i) = 3) : whenQuiesced u i t = (t, St.ok) := by
  rw [whenQuiesced, if_neg (by omega), if_neg (not_not.mpr hq)]

/-- A RUNNING or QUIESCING one has to be quiesced first. -/
theorem whenQuiesced_required {u t : State} {i : Nat} (hgo : u.reg (Obj.instState i) = 1 ∨ u.reg (Obj.instState i) = 2) :
    whenQuiesced u i t = (u, St.quiesceRequired) := by
  rw [whenQuiesced, if_pos hgo]

/-- In every other state it is BUSY. -/
theorem whenQuiesced_busy {u t : State} {i : Nat} (hno : u.reg (Obj.instState i) = 0 ∨ 4 ≤ u.reg (Obj.instState i)) :
    whenQuiesced u i t = (u, St.busy) := by
  rw [whenQuiesced, if_neg (by omega), if_pos (by omega)]

/-- The state with the rings of instance `i` that were HELD running again from where they stopped (R136). -/
def ringsResumed (i : Nat) (u : State) : State :=
  (List.range 8).foldl (fun s r => if s.reg (Reg.ringState i r) ≠ 4 then s else Inst.look (s.setReg (Reg.ringState i r) 2) i r) u

section Operations

variable {s : State} {n i : Nat} (h : Operates s n i)
include h

/-- While the device is up an operation of a session that may make it is answered what it comes to. -/
theorem whenUp_instOp {f : State → State × Nat} :
    s.whenUp (fun s => .next (Inst.op n i f s)) = .next (instOpAnswered s n i (f (s.heard n))) := by
  have ⟨_, hserves, _⟩ := h
  rw [whenUp_eq hserves.1, instOp_eq h, instOpAnswered]

/-- An enable is answered what its checks come to. -/
theorem instEnable_eq : exec (.instEnable n i) s = .next (instOpAnswered s n i (Inst.enable (s.heard n) n i)) := by
  rw [exec_instEnable, execInstEnable, whenUp_instOp h]

/-- A RUNNING instance begins to quiesce. -/
theorem instQuiesce_running (hrun : (s.heard n).reg (Obj.instState i) = 1) :
    exec (.instQuiesce n i) s
      = .next (instOpAnswered s n i ((s.heard n).quiesceStart i n ((s.heard n).reg Obj.quiesceLimitMs), St.ok)) := by
  rw [exec_instQuiesce, execInstQuiesce, whenUp_instOp h, if_pos hrun]

/-- An instance that is not RUNNING does not. -/
theorem instQuiesce_busy (hno : (s.heard n).reg (Obj.instState i) ≠ 1) :
    exec (.instQuiesce n i) s = .next (instOpAnswered s n i (s.heard n, St.busy)) := by
  rw [exec_instQuiesce, execInstQuiesce, whenUp_instOp h, if_neg hno]

/-- A QUIESCED instance runs again. -/
theorem instResume_quiesced (hq : (s.heard n).reg (Obj.instState i) = 3) :
    exec (.instResume n i) s = .next (instOpAnswered s n i
      (ringsResumed i (((s.heard n).setReg (Obj.instState i) 1).worldDerive ((s.heard n).instWorld i)), St.ok)) := by
  rw [exec_instResume, execInstResume, whenUp_instOp h, if_neg (not_not.mpr hq)]
  rfl

/-- One that is not QUIESCED does not. -/
theorem instResume_busy (hno : (s.heard n).reg (Obj.instState i) ≠ 3) :
    exec (.instResume n i) s = .next (instOpAnswered s n i (s.heard n, St.busy)) := by
  rw [exec_instResume, execInstResume, whenUp_instOp h, if_pos hno]

/-- A reset is for a QUIESCED instance. -/
theorem instReset_eq :
    exec (.instReset n i) s
      = .next (instOpAnswered s n i (whenQuiesced (s.heard n) i ((s.heard n).instReset i n ((s.heard n).sessDest n)))) := by
  rw [exec_instReset, execInstReset, whenUp_instOp h]
  rfl

/-- So is a removal (R137). -/
theorem instRemove_eq :
    exec (.instRemove n i) s
      = .next (instOpAnswered s n i (whenQuiesced (s.heard n) i ((s.heard n).instRemove i n ((s.heard n).sessDest n)))) := by
  rw [exec_instRemove, execInstRemove, whenUp_instOp h]
  rfl

end Operations

/-! ## Grants (R135) -/

/-- Bytes of grant `sub` of an instance. -/
def grantSize (sub : Nat) : Nat := if sub = 8 then 2 else 4

/-- The state in which instance `i`, which holds more than its grant `sub` of `v`, is asked for the rest: memory at once, a reservation from ResizeGraceMs on. -/
def resizeAsked (u : State) (i sub v : Nat) : State :=
  let x := if sub = 4 then u.setReg (Reg.resizeMem i) 1
    else u.setNum (Num.resizeCuts i) (u.num (Num.resizeCuts i) ++ [u.now + 1000000 * u.reg Obj.resizeGraceMs, sub, v])
  x.raise [.inst i] U.hal St.resizeRequest (x.instWorld i) 1 [(1, sub), (4, v)]

/-- What writing grant `sub` leads to; `down` says that it was lowered. -/
def grantActs (u : State) (i sub v : Nat) (down : Bool) : State :=
  if u.reg (Obj.instState i) = 0 then u
  else if Inst.above u i sub ∧ down then resizeAsked u i sub v
  else if sub = 4 then u.memDerive (u.instWorld i)
  else u

/-- A grant that may be written is written, and acts. -/
theorem grantWrite_eq {s : State} {n i sub v : Nat} (hi : i ≤ 55) (hsub : 4 ≤ sub) (hsub' : sub ≤ 8)
    (htakes : Takes s n (okey (0x900 + i) sub) (leBytes (grantSize sub) v)) (hv : v < 2 ^ (8 * grantSize sub)) :
    exec (.grantWrite n i sub v) s = .next (answered s n 2 (okey (0x900 + i) sub)
      (grantActs (((s.heard n).setReg (okey (0x900 + i) sub) v).reply St.ok) i sub v (Inst.lowers ((s.heard n).reg (okey (0x900 + i) sub)) sub v))) := by
  obtain ⟨hserves, hstatus⟩ := htakes
  have hfits : ¬ ((s.heard n).writeStatus n (okey (0x900 + i) sub) (leBytes (grantSize sub) v) ≠ St.ok ∨ 2 ^ (8 * grantSize sub) ≤ v) :=
    not_or.mpr ⟨not_not.mpr hstatus, hv.not_ge⟩
  rw [exec_grantWrite, execGrantWrite, whenUp_eq hserves.1, if_neg (by omega), request_eq hserves (gate_pending (writeStatus_gate hstatus))]
  exact congrArg (fun t => Host.Outcome.next (answered s n 2 (okey (0x900 + i) sub) t)) (if_neg hfits)

/-- The grant of an instance that is not enabled is a value alone. -/
theorem grantActs_absent {u : State} {i sub v : Nat} {down : Bool} (hnone : u.reg (Obj.instState i) = 0) : grantActs u i sub v down = u := by
  rw [grantActs, if_pos hnone]

/-- One lowered below what the instance holds asks for it. -/
theorem grantActs_asks {u : State} {i sub v : Nat} (hthere : u.reg (Obj.instState i) ≠ 0) (habove : Inst.above u i sub = true) :
    grantActs u i sub v true = resizeAsked u i sub v := by
  rw [grantActs, if_neg hthere, if_pos ⟨habove, rfl⟩]

/-- Any other asks for nothing. -/
theorem grantActs_within {u : State} {i sub v : Nat} {down : Bool} (hthere : u.reg (Obj.instState i) ≠ 0)
    (hwithin : Inst.above u i sub = false ∨ down = false) : grantActs u i sub v down = if sub = 4 then u.memDerive (u.instWorld i) else u := by
  have hquiet : ¬ (Inst.above u i sub = true ∧ down = true) := fun ⟨habove, hdown⟩ =>
    hwithin.elim (Bool.eq_false_iff.mp · habove) (Bool.eq_false_iff.mp · hdown)
  rw [grantActs, if_neg hthere, if_neg hquiet]

/-- At a planning boundary the cuts that are due are made. -/
theorem resizeCut_boundary {s : State} {i : Nat} (hup : s.up = true) (hplan : s.now % 4000000 = 0) :
    exec (.resizeCut i) s = .next ((Inst.cutsDue s.now (s.num (Num.resizeCuts i))).1.foldl (Inst.cut i)
      (s.setNum (Num.resizeCuts i) (Inst.cutsDue s.now (s.num (Num.resizeCuts i))).2)) := by
  rw [exec_resizeCut, execResizeCut, whenUp_eq hup, if_neg (not_not.mpr hplan)]

/-- Between boundaries nothing is cut. -/
theorem resizeCut_between {s : State} {i : Nat} (hup : s.up = true) (hplan : s.now % 4000000 ≠ 0) : exec (.resizeCut i) s = .next s := by
  rw [exec_resizeCut, execResizeCut, whenUp_eq hup, if_pos hplan]

/-! ## Ends (R136, R138, R142) -/

/-- A quiesce ends with the instance's work. -/
theorem quiesceDone_ended {s : State} {i : Nat} (hup : s.up = true) (hquiescing : s.reg (Obj.instState i) = 2) (hended : s.workEnded i = true) :
    exec (.quiesceDone i) s = .next (s.quiesceEnd i) := by
  rw [exec_quiesceDone, execQuiesceDone, whenUp_eq hup, if_neg (by simp [hquiescing, hended])]

/-- At its limit the work that is not paused is dropped, and it ends. -/
theorem quiesceLimit_due {s : State} {i : Nat} (hup : s.up = true) (hquiescing : s.reg (Obj.instState i) = 2) (hdue : s.reg (Reg.quiesceDue i) ≤ s.now) :
    exec (.quiesceLimit i) s = .next ((s.dropItems (fun t => t.inst == i
      && !(decide (t.ring < 8) && s.reg (Reg.nimPass i t.ring) == 1 && s.reg (Reg.passItem i t.ring) == t.seq)) 4).quiesceEnd i) := by
  rw [exec_quiesceLimit, execQuiesceLimit, whenUp_eq hup, if_neg (not_or.mpr ⟨not_not.mpr hquiescing, hdue.not_gt⟩)]

/-- A function-level reset quiesces the instance within 80 ms. -/
theorem vfFlr_eq {s : State} {i : Nat} (hup : s.up = true) (hi : i ≤ 31) :
    exec (.vfFlr i) s = .next (s.quiesceFor i 0 (min 80 (s.reg Obj.quiesceLimitMs))) := by
  rw [exec_vfFlr, execVfFlr, whenUp_eq hup, if_neg hi.not_gt]

/-- So does the loss of its link. -/
theorem vfLinkLoss_eq {s : State} {i : Nat} (hup : s.up = true) (hi : i ≤ 31) :
    exec (.vfLinkLoss i) s = .next (s.quiesceFor i 1 (min 80 (s.reg Obj.quiesceLimitMs))) := by
  rw [exec_vfLinkLoss, execVfLinkLoss, whenUp_eq hup, if_neg hi.not_gt]

/-- Settles O25: an operation is answered what its instance's state makes of it, a written grant acts by `grantActs`, and an end acts when it is due. -/
theorem instanceOperations : Obligations.InstanceOperations := by
  refine ⟨fun s n i => instEnable_eq,
    fun s n i h => ⟨instQuiesce_running h, instQuiesce_busy h,
      fun hq => ⟨?_, ?_, ?_⟩, instResume_busy h, fun hgo => ⟨?_, ?_⟩, fun hno => ⟨?_, ?_⟩⟩,
    fun s n i sub v hi hsub hsub' htakes hv => ?_,
    fun s i hup => ⟨resizeCut_boundary hup, resizeCut_between hup⟩,
    fun s i hup hquiescing => ⟨quiesceDone_ended hup hquiescing, quiesceLimit_due hup hquiescing⟩,
    fun s i hup hi => ⟨vfFlr_eq hup hi, vfLinkLoss_eq hup hi⟩,
    fun s w k hup => ?_⟩
  · rw [instResume_quiesced h hq, instOpAnswered, ringsResumed]
  · rw [instReset_eq h, whenQuiesced_quiesced hq, instOpAnswered]
  · rw [instRemove_eq h, whenQuiesced_quiesced hq, instOpAnswered]
  · rw [instReset_eq h, whenQuiesced_required hgo, instOpAnswered]
  · rw [instRemove_eq h, whenQuiesced_required hgo, instOpAnswered]
  · rw [instReset_eq h, whenQuiesced_busy hno, instOpAnswered]
  · rw [instRemove_eq h, whenQuiesced_busy hno, instOpAnswered]
  · rw [grantWrite_eq hi hsub hsub' htakes hv]
    refine ⟨fun hnone => ?_, fun hthere habove hdown => ?_, fun hthere hwithin => ?_⟩
    · rw [grantActs_absent hnone]
    · rw [hdown, grantActs_asks hthere habove, resizeAsked]
    · rw [grantActs_within hthere hwithin]
  · rw [exec_yieldDurationEnd, execYieldDurationEnd, whenUp_eq hup]

end Sys2Proof.Laws
end

section
/-!
Passes of the renderer, what they bind and query, and the presenting of flattening contexts (R175 to R177, R187, R198, R209, R215 to R217).
-/
namespace Sys2Proof.Laws

open Sys2Proof.Machine Sys2Proof.Safety

section Renderer

variable {s : State} {i r : Nat} {p : Pkt}

/-- While the device is up the renderer carries out the next packet of the context it runs. -/
theorem whenUp_renders {op : Nat} {f : State → Pkt → State} (h : Renders s i r op p) :
    s.whenUp (fun s => .next (s.onNim i r op true false f)) = .next (f s p) := by
  have ⟨hup, _⟩ := h.1
  rw [whenUp_eq hup, onNim_renders h]

/-- The context that the renderer runs is free, so that its packet does not wait. -/
theorem renders_free {op : Nat} (h : Renders s i r op p) : ¬ (!s.ctxFree i r) = true := by
  obtain ⟨_, _, _, _, hfree⟩ := h
  simp [hfree]

/-! ## Passes (R175, R176, R177, R187, R217) -/

/-- The state once the pass of descriptor `d` is open, its bin directory emptied in `u`: a pass that runs again keeps its item, another is to have the
next one. -/
def passOpened (u : State) (i r : Nat) (p : Pkt) (d : PassDesc) : State :=
  let v := u.setRegs [(Reg.passItem i r, match Nim.replayed u i r with | some t => t.seq | none => u.jnlSeq), (Reg.nimPass i r, 1),
    (Reg.passNum i r, p.word 2), (Reg.passDesc i r, p.dword 0), (Reg.passSafe i r, b2n p.safe), (Reg.passFlat i r, b2n (bit d.flags 1)),
    (Reg.passTiles i r, d.tiles), (Reg.passMeta i r, 0), (Reg.nimQuery i r, 0)]
  (((v.segmentOpen i r 0).setNum (Num.pool i r) [d.pool, 1024 * d.poolSize]).poolPeak i r).l1Drop

/-- The state once the open pass's item is taken. -/
def passTaken (v : State) (i r : Nat) (p : Pkt) : State :=
  v.itemAccept U.nim (v.instWorld i) i r (v.reg (Reg.ringRptr i r)) 0x01 (if p.safe then classR else classD) (p.word 2)
    [(4, v.reg (Reg.nimPipe i r) - 1), (8, v.reg (Reg.nimState i r) - 1)]

/-- A descriptor that passes its checks opens the pass, whose item is taken unless it runs again. -/
theorem passBegin_opens {u : State} {desc : Bytes} {as : List Attach} {ext : List (Nat × Nat × Nat)} (h : Renders s i r 0x01 p)
    (hclosed : s.reg (Reg.nimPass i r) ≠ 1) (hmay : s.mayTake (s.rank45 i r) = true) (hread : s.cread i r (p.dword 0) 256 = .ok desc)
    (hhead : State.passHead (passDescOf desc) (p.dword 0) = St.ok) (hattach : s.attachments i r desc = .ok as)
    (hfits : State.passAttach (passDescOf desc) as = St.ok) (hext : s.extTable i r (passDescOf desc).ext (List.range 16) = .ok ext)
    (hrest : s.passRest i r (passDescOf desc) as ext p.safe = St.ok)
    (hfill : s.cfill i r (passDescOf desc).dir State.emptyEntry (passDescOf desc).tiles = .ok u) :
    exec (.passBegin i r) s = .next ((if (Nim.replayed u i r).isSome then passOpened u i r p (passDescOf desc)
      else passTaken (passOpened u i r p (passDescOf desc)) i r p).ringDone i r p) := by
  have hgoes : ¬ ((!s.ctxFree i r) = true ∨ (!s.mayTake (s.rank45 i r)) = true) := not_or.mpr ⟨renders_free h, by simp [hmay]⟩
  rw [exec_passBegin, execPassBegin, whenUp_renders h]
  simp only [hclosed, hgoes, hread, hhead, hattach, hfits, hext, hrest, hfill, if_false, ne_eq, not_true]
  rfl

/-- The last segment's stores end an open pass. -/
theorem passEnd_stores {t : State} {d : PassDesc} {as : List Attach} (h : Renders s i r 0x02 p) (hopen : s.reg (Reg.nimPass i r) ≠ 0)
    (hparts : s.passParts i r = .ok (d, as)) (hstores : s.passStores i r d as = .ok t) :
    exec (.passEnd i r) s = .next ((((t.passClear i r).l1Drop).ringDone i r p).boundary 0x600) := by
  rw [exec_passEnd, execPassEnd, whenUp_renders h, if_neg hopen, if_neg (renders_free h)]
  simp only [hparts, hstores]

/-- Without an open pass there is none to end. -/
theorem passEnd_none (h : Renders s i r 0x02 p) (hnone : s.reg (Reg.nimPass i r) = 0) :
    exec (.passEnd i r) s = .next (s.stopRing i r St.packetOrder) := by
  rw [exec_passEnd, execPassEnd, whenUp_renders h, if_pos hnone]

/-! ## Bindings (R209) -/

/-- A pipeline of the world that is ready is bound; one that still compiles is waited for, and the renderer is free for another context. -/
theorem bindPipeline_eq (h : Renders s i r 0x03 p) (hthere : (s.pipeOf (p.word 0)).isEmpty = false)
    (hworld : (s.pipeOf (p.word 0)).getD 0 0 = s.instWorld i) (hstate : (s.pipeOf (p.word 0)).getD 1 0 ≤ 2) :
    exec (.bindPipeline i r) s = .next (if (s.pipeOf (p.word 0)).getD 1 0 = 1 then (s.setReg (Reg.nimWait i r) 2).setReg Reg.nimCur 0
      else (s.setRegs [(Reg.nimWait i r, 0), (Reg.nimPipe i r, p.word 0 + 1)]).ringDone i r p) := by
  have hknown : ¬ ((s.pipeOf (p.word 0)).isEmpty = true ∨ (s.pipeOf (p.word 0)).getD 0 0 ≠ s.instWorld i ∨ 2 < (s.pipeOf (p.word 0)).getD 1 0) :=
    not_or.mpr ⟨by simp [hthere], not_or.mpr ⟨not_not.mpr hworld, hstate.not_gt⟩⟩
  rw [exec_bindPipeline, execBindPipeline, whenUp_renders h,
    if_neg fun hwaits => renders_free h hwaits.1, if_neg hknown]

/-- A state block at a multiple of 256 bytes is bound. -/
theorem bindState_aligned (h : Renders s i r 0x04 p) (haligned : p.dword 0 % 256 = 0) :
    exec (.bindState i r) s = .next ((s.setReg (Reg.nimState i r) (p.dword 0 + 1)).ringDone i r p) := by
  rw [exec_bindState, execBindState, whenUp_renders h, if_neg (renders_free h), if_neg (not_not.mpr haligned)]

/-- Another stops the ring. -/
theorem bindState_misaligned (h : Renders s i r 0x04 p) (hoff : p.dword 0 % 256 ≠ 0) :
    exec (.bindState i r) s = .next (s.stopRing i r St.packetInvalid) := by
  rw [exec_bindState, execBindState, whenUp_renders h, if_neg (renders_free h), if_pos hoff]

/-! ## Clears (R198) -/

/-- In an open pass the clear of one of the nine attachments is noted with the place it comes at. -/
theorem clear_noted (h : Renders s i r 0x0A p) (hopen : s.reg (Reg.nimPass i r) ≠ 0) (hattachment : bits (p.word 0) 0 8 ≤ 8) :
    exec (.clear i r) s = .next ((s.setNum (Num.clears i r) (s.num (Num.clears i r) ++ [bits (p.word 0) 0 8, bits (p.word 0) 8 1,
      bits (p.word 1) 0 16, bits (p.word 1) 16 16, bits (p.word 2) 0 16, bits (p.word 2) 16 16, s.reg (Reg.poolNext i r)])).ringDone i r p) := by
  rw [exec_clear, execClear, whenUp_renders h,
    if_neg hopen, if_neg (renders_free h), if_neg hattachment.not_gt]

/-- An attachment beyond them stops the ring. -/
theorem clear_beyond (h : Renders s i r 0x0A p) (hopen : s.reg (Reg.nimPass i r) ≠ 0) (hbeyond : 8 < bits (p.word 0) 0 8) :
    exec (.clear i r) s = .next (s.stopRing i r St.packetInvalid) := by
  rw [exec_clear, execClear, whenUp_renders h,
    if_neg hopen, if_neg (renders_free h), if_pos hbeyond]

/-- A clear belongs to an open pass. -/
theorem clear_none (h : Renders s i r 0x0A p) (hnone : s.reg (Reg.nimPass i r) = 0) :
    exec (.clear i r) s = .next (s.stopRing i r St.packetOrder) := by
  rw [exec_clear, execClear, whenUp_renders h,
    if_pos hnone]

/-! ## Queries (R202) -/

/-- A query of one of the two kinds begins with a count of 0. -/
theorem queryBegin_known (h : Renders s i r 0x0B p) (hopen : s.reg (Reg.nimPass i r) ≠ 0) (hidle : s.reg (Reg.nimQuery i r) = 0)
    (hkind : p.word 2 = 1 ∨ p.word 2 = 2) :
    exec (.queryBegin i r) s = .next ((s.setRegs [(Reg.nimQuery i r, p.dword 0 + 1), (Reg.nimQueryKind i r, p.word 2),
      (Reg.nimQueryCount i r, 0)]).ringDone i r p) := by
  rw [exec_queryBegin, execQueryBegin, whenUp_renders h, if_neg (not_or.mpr ⟨hopen, not_not.mpr hidle⟩), if_neg (renders_free h),
    if_neg (by omega)]

/-- Another kind stops the ring. -/
theorem queryBegin_unknown (h : Renders s i r 0x0B p) (hopen : s.reg (Reg.nimPass i r) ≠ 0) (hidle : s.reg (Reg.nimQuery i r) = 0)
    (hkind : p.word 2 = 0 ∨ 2 < p.word 2) :
    exec (.queryBegin i r) s = .next (s.stopRing i r St.packetInvalid) := by
  rw [exec_queryBegin, execQueryBegin, whenUp_renders h, if_neg (not_or.mpr ⟨hopen, not_not.mpr hidle⟩), if_neg (renders_free h),
    if_pos hkind]

/-- An occlusion query ends with a free value written (log 5). -/
theorem queryEnd_occlusion {t : State} (h : Renders s i r 0x0C p) (hopen : s.reg (Reg.nimQuery i r) ≠ 0)
    (hkind : s.reg (Reg.nimQueryKind i r) = 1) (hwrite : s.tick.cwrite i r (s.reg (Reg.nimQuery i r) - 1) (leBytes 8 s.fresh) = .ok t) :
    exec (.queryEnd i r) s = .next ((t.setReg (Reg.nimQuery i r) 0).ringDone i r p) := by
  rw [exec_queryEnd, execQueryEnd, whenUp_renders h, if_neg hopen, if_neg (renders_free h)]
  simp only [hkind, if_true, hwrite]

/-- The other kind ends with its count written. -/
theorem queryEnd_count {t : State} (h : Renders s i r 0x0C p) (hopen : s.reg (Reg.nimQuery i r) ≠ 0)
    (hkind : s.reg (Reg.nimQueryKind i r) ≠ 1)
    (hwrite : s.cwrite i r (s.reg (Reg.nimQuery i r) - 1) (leBytes 8 (s.reg (Reg.nimQueryCount i r))) = .ok t) :
    exec (.queryEnd i r) s = .next ((t.setReg (Reg.nimQuery i r) 0).ringDone i r p) := by
  rw [exec_queryEnd, execQueryEnd, whenUp_renders h, if_neg hopen, if_neg (renders_free h)]
  simp only [hkind, if_false, hwrite]

/-! ## Flattening (R215, R216) -/

/-- A flattening context whose earlier items have ended presents its surface if that is usable, and stops on it if not. -/
theorem flattenPresent_eq {f : Surf} (h : Renders s i r 0x30 p) (hflat : 0x3F8 ≤ s.reg (Reg.ringCtx i r)) (hclosed : s.reg (Reg.nimPass i r) ≠ 1)
    (hended : (Nim.earlier s i r).isEmpty = true) (hsurf : s.surfAt i r (p.dword 0) = .ok f) :
    exec (.flattenPresent i r) s = .next (if s.flatUsable i r (s.reg (Reg.ringCtx i r) - 0x3F8) f = true
      then (s.flatPresent (s.reg (Reg.ringCtx i r) - 0x3F8) i r (p.dword 0) (p.word 2)).ringDone i r p
      else s.stopRing i r St.flattenSurface) := by
  have hgoes : ¬ ((!s.ctxFree i r) = true ∨ (!(Nim.earlier s i r).isEmpty) = true) := not_or.mpr ⟨renders_free h, by simp [hended]⟩
  rw [exec_flattenPresent, execFlattenPresent, whenUp_renders h,
    if_neg hflat.not_gt, if_neg hclosed, if_neg hgoes]
  simp only [hsurf]
  by_cases husable : s.flatUsable i r (s.reg (Reg.ringCtx i r) - 0x3F8) f = true
  · rw [if_neg (by simp [husable]), if_pos husable]
  · rw [if_pos (by simp [husable]), if_neg husable]

end Renderer

/-- Settles O29: each packet of the renderer ends in the branch of its command that its premises leave open. -/
theorem rendererPasses : Obligations.RendererPasses := by
  refine ⟨fun s u i r p desc as ext h hclosed hmay hread hhead hattach hfits hext hrest hfill =>
      passBegin_opens h hclosed hmay hread hhead hattach hfits hext hrest hfill,
    fun s t i r p d as => passEnd_stores,
    fun s i r p => passEnd_none,
    fun s i r p h hthere hworld => ⟨fun hready => ?_, fun hcompiles => ?_⟩,
    fun s i r p h => ⟨bindState_aligned h, bindState_misaligned h⟩,
    fun s i r p h => ⟨clear_noted h, clear_beyond h, clear_none h⟩,
    fun s i r p h hopen hidle => ⟨queryBegin_known h hopen hidle, queryBegin_unknown h hopen hidle⟩,
    fun s t i r p => queryEnd_occlusion,
    fun s t i r p => queryEnd_count,
    fun s i r p f h hflat hclosed hended hsurf => ?_⟩
  · rw [bindPipeline_eq h hthere hworld (by omega), if_neg (by omega)]
  · rw [bindPipeline_eq h hthere hworld (by omega), if_pos hcompiles]
  · rw [flattenPresent_eq h hflat hclosed hended hsurf]
    exact ⟨fun husable => by rw [if_pos husable], fun hnot => by rw [if_neg (by simp [hnot])]⟩

end Sys2Proof.Laws
end

section
/-!
Packets that both engines of Nimbus take, draws and dispatches (R178, R195, R202, R204 to R206, R208, R211, R217).
-/
namespace Sys2Proof.Laws

open Sys2Proof.Machine Sys2Proof.Safety

section Packets

variable {s : State} {i r : Nat} {p : Pkt}

/-- While the device is up, the engine of a context that runs carries out its next packet. -/
theorem whenUp_runs {op : Nat} {f : State → Pkt → State} (h : Runs s i r op p) :
    s.whenUp (fun s => .next (s.onNim i r op true true f)) = .next (f s p) := by
  have hup : s.up = true := h.elim (fun hrenders => hrenders.1.1) (fun hcopies => hcopies.2.1.1)
  rw [whenUp_eq hup, onNim_runs h]

/-- A context whose packet an engine carries out is free. -/
theorem runs_ctxFree {op : Nat} (h : Runs s i r op p) : s.ctxFree i r = true := by
  obtain ⟨_, _, _, _, hfree⟩ | ⟨rfl, _, _, hfree⟩ := h
  · exact hfree
  · exact hfree

/-- So its packet does not wait. -/
theorem runs_free {op : Nat} (h : Runs s i r op p) : ¬ (!s.ctxFree i r) = true := by
  simp [runs_ctxFree h]

/-- A free context waits for nothing. -/
theorem nimWait_of_ctxFree (h : s.ctxFree i r = true) : s.reg (Reg.nimWait i r) = 0 :=
  beq_iff_eq.mp (Bool.and_eq_true_iff.mp h).1

/-- A free context does not wait for a fence yet. -/
theorem runs_notWaiting {op : Nat} (h : Runs s i r op p) : s.reg (Reg.nimWait i r) ≠ 1 := by
  simp [nimWait_of_ctxFree (runs_ctxFree h)]

/-- Once the earlier items have ended, the packet of a context that runs does not wait for them either. -/
theorem runs_ended {op : Nat} (h : Runs s i r op p) (hended : (Nim.earlier s i r).isEmpty = true) :
    ¬ ((!s.ctxFree i r) = true ∨ (!(Nim.earlier s i r).isEmpty) = true) :=
  not_or.mpr ⟨runs_free h, by simp [hended]⟩

/-! ## NOP (R202) -/

/-- An engine passes over a NOP. -/
theorem nop_runs (h : Runs s i r 0x00 p) : exec (.nop i r) s = .next (s.ringDone i r p) := by
  have hring : rendererRing r = true := by
    obtain ⟨_, hr, _⟩ | ⟨rfl, _⟩ := h
    · simp [rendererRing, hr]
    · rfl
  simp only [exec_nop, execNop, hring, if_true]
  rw [whenUp_runs h, if_pos (nimWait_of_ctxFree (runs_ctxFree h))]

/-- A unit that serves another ring passes over it too. -/
theorem nop_holds (h : Holds s i r 0x00 p) (hring : 4 ≤ r ∧ r ≤ 6) : exec (.nop i r) s = .next (s.ringDone i r p) := by
  have hother : rendererRing r ≠ true := by simp [rendererRing]; omega
  rw [exec_nop, execNop, whenUp_eq h.1, if_neg hother, onPacket_eq h]

/-! ## Fences (R205, R206) -/

/-- Once the earlier items have ended an aligned fence is signalled, and the contexts that wait are looked at again. -/
theorem fenceSignal_signals {t : State} (h : Runs s i r 0x10 p) (hended : (Nim.earlier s i r).isEmpty = true) (haligned : p.dword 0 % 8 = 0)
    (hmax : s.fenceMax (s.instWorld i) (s.reg (Reg.s1Root i r)) (p.dword 0) (p.dword 2) = .ok t) :
    exec (.fenceSignal i r) s = .next (t.ringDone i r p).fenceCheckAll := by
  rw [exec_fenceSignal, execFenceSignal, whenUp_runs h, if_neg (runs_ended h hended), if_neg (not_not.mpr haligned)]
  simp only [hmax]

/-- Another address stops the ring. -/
theorem fenceSignal_misaligned (h : Runs s i r 0x10 p) (hended : (Nim.earlier s i r).isEmpty = true) (hoff : p.dword 0 % 8 ≠ 0) :
    exec (.fenceSignal i r) s = .next (s.stopRing i r St.packetInvalid) := by
  rw [exec_fenceSignal, execFenceSignal, whenUp_runs h, if_neg (runs_ended h hended), if_pos hoff]

/-- A fence to wait for is aligned as well. -/
theorem fenceWait_misaligned (h : Runs s i r 0x11 p) (hoff : p.dword 0 % 8 ≠ 0) :
    exec (.fenceWait i r) s = .next (s.stopRing i r St.packetInvalid) := by
  rw [exec_fenceWait, execFenceWait, whenUp_runs h, if_neg (runs_notWaiting h), if_neg (runs_free h), if_pos hoff]

/-- The state once a context waits for a fence: it has a time limit unless FenceWaitTimeoutMs is 0, and the renderer is free for another context. -/
def fenceAwaited (s : State) (i r : Nat) : State :=
  s.setRegs [(Reg.nimWait i r, 1),
    (Reg.nimWaitDue i r, if s.reg Obj.fenceWaitTimeoutMs = 0 then 0 else s.now + 1000000 * s.reg Obj.fenceWaitTimeoutMs),
    (Reg.nimCur, if s.reg Reg.nimCur = 8 * i + r + 1 then 0 else s.reg Reg.nimCur)]

/-- A fence that has reached the packet's value lets the context go on; another is waited for. -/
theorem fenceWait_eq {v : Nat} (h : Runs s i r 0x11 p) (haligned : p.dword 0 % 8 = 0)
    (hread : s.fenceRead (s.instWorld i) (s.reg (Reg.s1Root i r)) (p.dword 0) = .ok v) :
    exec (.fenceWait i r) s = .next (if p.dword 2 ≤ v then s.ringDone i r p else fenceAwaited s i r) := by
  rw [exec_fenceWait, execFenceWait, whenUp_runs h, if_neg (runs_notWaiting h), if_neg (runs_free h), if_neg (not_not.mpr haligned)]
  simp only [hread]
  rfl

/-- A wait whose time has passed stops its ring, unless the fence has reached its value by then. -/
theorem fenceTimeout_due (hup : s.up = true) (hwaits : s.reg (Reg.nimWait i r) = 1) (hlimit : s.reg (Reg.nimWaitDue i r) ≠ 0)
    (hdue : s.reg (Reg.nimWaitDue i r) ≤ s.now) :
    exec (.fenceTimeout i r) s
      = .next (if (s.fenceCheck i r).reg (Reg.nimWait i r) = 1 then (s.fenceCheck i r).stopRing i r St.fenceTimeout else s.fenceCheck i r) := by
  rw [exec_fenceTimeout, execFenceTimeout, whenUp_eq hup, if_neg (by omega)]

/-! ## Order within a context (R195, R204) -/

/-- A barrier whose reserved bits are clear waits under bit 0 for the earlier items, and drops the L1s under bit 1. -/
theorem barrier_eq (h : Runs s i r 0x12 p) (hclear : p.word 0 ≤ 3) :
    exec (.barrier i r) s = .next (if bit (p.word 0) 0 = true ∧ (!(Nim.earlier s i r).isEmpty) = true then s
      else (if bit (p.word 0) 1 then s.l1Drop else s).ringDone i r p) := by
  rw [exec_barrier, execBarrier, whenUp_runs h, if_neg (runs_free h), if_neg hclear.not_gt]

/-- One with a reserved bit stops the ring. -/
theorem barrier_reserved (h : Runs s i r 0x12 p) (hset : 3 < p.word 0) :
    exec (.barrier i r) s = .next (s.stopRing i r St.packetInvalid) := by
  rw [exec_barrier, execBarrier, whenUp_runs h, if_neg (runs_free h), if_pos hset]

/-- An invalidation ends once the earlier items have. -/
theorem s1Invalidate_ended (h : Runs s i r 0x13 p) (hended : (Nim.earlier s i r).isEmpty = true) :
    exec (.s1Invalidate i r) s = .next (s.ringDone i r p) := by
  rw [exec_s1Invalidate, execS1Invalidate, whenUp_runs h, if_neg (runs_ended h hended)]

/-! ## Events, priorities and timestamps (R202, R211) -/

/-- The packet's 12 bytes are told to the instance. -/
theorem event_eq (h : Runs s i r 0x14 p) :
    exec (.event i r) s = .next ((s.raise [.inst i] U.nim St.ringEvent (s.instWorld i) 0
      [(4, p.word 0), (4, p.word 1), (4, p.word 2)]).ringDone i r p) := by
  rw [exec_event, execEvent, whenUp_runs h, if_neg (runs_free h)]

/-- One of the four priorities is taken. -/
theorem priority_taken (h : Runs s i r 0x15 p) (hknown : p.word 0 ≤ 3) :
    exec (.priority i r) s = .next ((s.setReg (Reg.nimPrio i r) (p.word 0)).ringDone i r p) := by
  rw [exec_priority, execPriority, whenUp_runs h, if_neg (runs_free h), if_neg hknown.not_gt]

/-- Another stops the ring. -/
theorem priority_unknown (h : Runs s i r 0x15 p) (hbeyond : 3 < p.word 0) :
    exec (.priority i r) s = .next (s.stopRing i r St.packetInvalid) := by
  rw [exec_priority, execPriority, whenUp_runs h, if_neg (runs_free h), if_pos hbeyond]

/-- Hoist time is written to the packet's address. -/
theorem timestamp_written {t : State} (h : Runs s i r 0x16 p) (hwrite : s.cwrite i r (p.dword 0) (leBytes 8 s.now) = .ok t) :
    exec (.timestamp i r) s = .next (t.ringDone i r p) := by
  rw [exec_timestamp, execTimestamp, whenUp_runs h, if_neg (runs_free h)]
  simp only [hwrite]

/-! ## Draws and dispatches (R178, R202, R204, R208, R217) -/

/-- A DRAW is a draw without arguments in memory. -/
theorem exec_draw_up {prims : List Prim} {run : ShaderRun} (hup : s.up = true) :
    exec (.draw i r prims run) s = .next (Nim.draw i r 0x05 [prims] run (fun _ => []) s) := by
  rw [exec_draw, execDraw, whenUp_eq hup]

/-- A DRAW_INDEXED reads the indices it uses. -/
theorem exec_drawIndexed_up {prims : List Prim} {run : ShaderRun} (hup : s.up = true) :
    exec (.drawIndexed i r prims run) s = .next (Nim.draw i r 0x06 [prims] run (fun p =>
      [(p.dword 0 + (if p.word 6 / 0x40000000 = 1 then 4 else 2) * p.word 4, (if p.word 6 / 0x40000000 = 1 then 4 else 2) * p.word 2)]) s) := by
  rw [exec_drawIndexed, execDrawIndexed, whenUp_eq hup]

/-- A DRAW_INDIRECT reads the arguments of each of its draws. -/
theorem exec_drawIndirect_up {draws : List (List Prim)} {run : ShaderRun} (hup : s.up = true) :
    exec (.drawIndirect i r draws run) s
      = .next (Nim.draw i r 0x07 draws run (fun p => (List.range (p.word 2)).map (fun n => (p.dword 0 + n * p.word 3, 16))) s) := by
  rw [exec_drawIndirect, execDrawIndirect, whenUp_eq hup]

/-- A DISPATCH is a dispatch without arguments in memory. -/
theorem exec_dispatch_up {run : ShaderRun} (hup : s.up = true) :
    exec (.dispatch i r run) s = .next (Nim.dispatch i r 0x08 run (fun _ => []) s) := by
  rw [exec_dispatch, execDispatch, whenUp_eq hup]

/-- A DISPATCH_INDIRECT reads its workgroup counts. -/
theorem exec_dispatchIndirect_up {run : ShaderRun} (hup : s.up = true) :
    exec (.dispatchIndirect i r run) s = .next (Nim.dispatch i r 0x09 run (fun p => [(p.dword 0, 12)]) s) := by
  rw [exec_dispatchIndirect, execDispatchIndirect, whenUp_eq hup]

/-- A draw belongs to an open pass. -/
theorem draw_noPass {op : Nat} {draws : List (List Prim)} {run : ShaderRun} {args : Pkt → List (Nat × Nat)} (h : Renders s i r op p)
    (hnone : s.reg (Reg.nimPass i r) = 0) : Nim.draw i r op draws run args s = s.stopRing i r St.packetOrder := by
  rw [Nim.draw, onNim_renders h, if_pos hnone]

/-- A dispatch belongs to none. -/
theorem dispatch_inPass {op : Nat} {run : ShaderRun} {args : Pkt → List (Nat × Nat)} (h : Renders s i r op p)
    (hopen : s.reg (Reg.nimPass i r) = 1) : Nim.dispatch i r op run args s = s.stopRing i r St.packetOrder := by
  rw [Nim.dispatch, onNim_renders h, if_pos (.inl hopen)]

end Packets

/-- Settles O28: each packet ends in the branch of its command that its premises leave open. -/
theorem packetsAndDraws : Obligations.PacketsAndDraws := by
  refine ⟨⟨fun s i r p h => h.elim nop_runs fun hother => nop_holds hother.1 hother.2,
      fun s t i r p h hended => ⟨fenceSignal_signals h hended, fenceSignal_misaligned h hended⟩,
      fun s i r p => fenceWait_misaligned,
      fun s i r v p h haligned hread => ⟨fun hreached => ?_, fun hshort => ?_⟩,
      fun s hup => ?_,
      fun s i r => fenceTimeout_due,
      fun s i r p h => ⟨fun hclear hgoes => ?_, fun hclear hbit hearlier => ?_, barrier_reserved h⟩,
      fun s i r p => s1Invalidate_ended,
      fun s i r p => event_eq,
      fun s i r p h => ⟨priority_taken h, priority_unknown h⟩,
      fun s t i r p => timestamp_written⟩,
    fun s t i r p prims run desc bs h hd => ?_,
    fun s t i r p prims run desc bs h hd => ?_,
    fun s t i r p draws run desc bs h hd => ?_,
    fun s i r p prims draws run hnone => ⟨fun h => ?_, fun h => ?_, fun h => ?_⟩,
    fun s t i r p run bs h hd => ?_,
    fun s t i r p run bs h hd => ?_,
    fun s i r p run hopen => ⟨fun h => ?_, fun h => ?_⟩⟩
  · rw [fenceWait_eq h haligned hread, if_pos hreached]
  · rw [fenceWait_eq h haligned hread, if_neg hshort.not_ge]; rfl
  · rw [exec_fenceReevaluate, execFenceReevaluate, whenUp_eq hup]
  · rw [barrier_eq h hclear, if_neg fun hwaits => hgoes.elim (by simp [hwaits.1]) (by simpa using hwaits.2)]
  · rw [barrier_eq h hclear, if_pos ⟨hbit, by simp [hearlier]⟩]
  · rw [exec_draw_up h.1.1, draw_eq h hd]
  · rw [exec_drawIndexed_up h.1.1, draw_eq h hd]
  · rw [exec_drawIndirect_up h.1.1, draw_eq h hd]
  · rw [exec_draw_up h.1.1, draw_noPass h hnone]
  · rw [exec_drawIndexed_up h.1.1, draw_noPass h hnone]
  · rw [exec_drawIndirect_up h.1.1, draw_noPass h hnone]
  · rw [exec_dispatch_up h.1.1, dispatch_eq h hd]
  · rw [exec_dispatchIndirect_up h.1.1, dispatch_eq h hd]
  · rw [exec_dispatch_up h.1.1, dispatch_inPass h hopen]
  · rw [exec_dispatchIndirect_up h.1.1, dispatch_inPass h hopen]

end Sys2Proof.Laws
end

section
/-!
The composition ring, a head's commit line and its fences (R228 to R233, R259, R260).
-/
namespace Sys2Proof.Laws

open Sys2Proof.Machine Sys2Proof.Safety

section Composition

variable {s : State} {i : Nat} {p : Pkt}

/-- While the device is up an instance's composition ring has its next packet carried out. -/
theorem whenUp_composes {op : Nat} {f : State → Pkt → State} (h : Holds s i 4 op p) :
    s.whenUp (fun s => .next (s.onPacket i 4 op f)) = .next (f s p) := by
  have ⟨hup, _⟩ := h
  rw [whenUp_eq hup, onPacket_eq h]

/-! ## Flips and their groups (R228, R229, R231) -/

/-- A FLIP_LAYER of one of the eight heads whose reserved bits are clear joins the head's open group. -/
theorem flipLayer_joins (h : Holds s i 4 0x50 p) (hhead : bits (p.word 0) 0 8 ≤ 7) (hclear : p.word 0 < 0x10000) :
    exec (.flipLayer i) s = .next ((s.setFifo (Fifo.flipOpen i (bits (p.word 0) 0 8))
      ((s.fifo (Fifo.flipOpen i (bits (p.word 0) 0 8))).filter (fun x => Flip.layer x != bits (p.word 0) 8 8)
        ++ [Flip.mk (bits (p.word 0) 8 8) (p.dword 1) (p.dword 3) (p.dword 5) (p.dword 7) (p.dword 9)])).ringDone i 4 p) := by
  rw [exec_flipLayer, execFlipLayer, whenUp_composes h, if_neg (not_or.mpr ⟨hhead.not_gt, hclear.not_ge⟩)]

/-- Another FLIP_LAYER stops the ring. -/
theorem flipLayer_invalid (h : Holds s i 4 0x50 p) (hbad : 7 < bits (p.word 0) 0 8 ∨ 0x10000 ≤ p.word 0) :
    exec (.flipLayer i) s = .next (s.stopRing i 4 St.compPacketInvalid) := by
  rw [exec_flipLayer, execFlipLayer, whenUp_composes h, if_pos hbad]

/-- A FLIP_COMMIT of a head beyond the eighth stops the ring. -/
theorem flipCommit_invalid (h : Holds s i 4 0x51 p) (hbeyond : 7 < p.word 0) :
    exec (.flipCommit i) s = .next (s.stopRing i 4 St.compPacketInvalid) := by
  rw [exec_flipCommit, execFlipCommit, whenUp_composes h, if_pos hbeyond]

/-- The state once instance `i` has closed its open group on head `n`. -/
def flipsClosed (s : State) (i n : Nat) : State := s.setFifo (Fifo.flipOpen i n) []

/-- A FLIP_COMMIT without flips ends at once. -/
theorem flipCommit_empty (h : Holds s i 4 0x51 p) (hhead : p.word 0 ≤ 7) (hnone : (s.fifo (Fifo.flipOpen i (p.word 0))).isEmpty = true) :
    exec (.flipCommit i) s = .next ((flipsClosed s i (p.word 0)).ringDone i 4 p) := by
  rw [exec_flipCommit, execFlipCommit, whenUp_composes h, if_neg hhead.not_gt, if_pos hnone]
  rfl

/-- A group with a flip that its checks refuse is refused whole. -/
theorem flipCommit_refused {l reason : Nat} (h : Holds s i 4 0x51 p) (hhead : p.word 0 ≤ 7)
    (hsome : (s.fifo (Fifo.flipOpen i (p.word 0))).isEmpty = false)
    (hrefused : (flipsClosed s i (p.word 0)).flipRefusal i (p.word 0) (s.fifo (Fifo.flipOpen i (p.word 0))) = some (l, reason)) :
    exec (.flipCommit i) s
      = .next (((flipsClosed s i (p.word 0)).flipRefuse i (p.word 0) (s.fifo (Fifo.flipOpen i (p.word 0))) l reason 0).ringDone i 4 p) := by
  rw [flipsClosed] at hrefused
  rw [exec_flipCommit, execFlipCommit, whenUp_composes h, if_neg hhead.not_gt, if_neg (by simp [hsome])]
  simp only [hrefused]
  rfl

/-- The state once group `g` of instance `i`, world `w`, has taken the next commit epoch and replaced what was pending on head `n`. -/
def flipsPending (s : State) (i w n : Nat) (g : List Bytes) : State :=
  let v := s.takeEpoch
  let ep := v.reg Obj.lastEpoch
  let v := v.flipDrop w n St.commitSuperseded 1 [(4, v.reg (Reg.flipEpoch w n)), (4, ep)]
  ((v.setFifo (Fifo.flipPend w n) g).setRegs [(Reg.flipEpoch w n, ep), (Reg.flipAt w n, v.now), (Reg.flipInst w n, i)]).wakeLink n

/-- A group that passes its checks whole becomes the pending one. -/
theorem flipCommit_accepted (h : Holds s i 4 0x51 p) (hhead : p.word 0 ≤ 7) (hsome : (s.fifo (Fifo.flipOpen i (p.word 0))).isEmpty = false)
    (hpasses : (flipsClosed s i (p.word 0)).flipRefusal i (p.word 0) (s.fifo (Fifo.flipOpen i (p.word 0))) = none) :
    exec (.flipCommit i) s
      = .next ((flipsPending (flipsClosed s i (p.word 0)) i (s.instWorld i) (p.word 0) (s.fifo (Fifo.flipOpen i (p.word 0)))).ringDone i 4 p) := by
  rw [flipsClosed] at hpasses
  rw [exec_flipCommit, execFlipCommit, whenUp_composes h, if_neg hhead.not_gt, if_neg (by simp [hsome])]
  simp only [hpasses]
  rfl

/-- A FLIP_CANCEL drops the group its world has pending on one of the eight heads. -/
theorem flipCancel_drops (h : Holds s i 4 0x52 p) (hhead : p.word 0 ≤ 7) :
    exec (.flipCancel i) s = .next ((s.flipDrop (s.instWorld i) (p.word 0) St.commitCancelled 1
      [(4, s.reg (Reg.flipEpoch (s.instWorld i) (p.word 0)))]).ringDone i 4 p) := by
  rw [exec_flipCancel, execFlipCancel, whenUp_composes h, if_neg hhead.not_gt]

/-- A FLIP_CANCEL of another head stops the ring. -/
theorem flipCancel_invalid (h : Holds s i 4 0x52 p) (hbeyond : 7 < p.word 0) :
    exec (.flipCancel i) s = .next (s.stopRing i 4 St.compPacketInvalid) := by
  rw [exec_flipCancel, execFlipCancel, whenUp_composes h, if_pos hbeyond]

/-! ## Fences (R230, R232) -/

/-- A pending group whose acquire fences did not signal within AcquireTimeoutMs is dropped. -/
theorem acquireTimeout_due {w n : Nat} (hup : s.up = true) (hpending : s.reg (Reg.flipEpoch w n) ≠ 0) (hlimit : s.reg (Obj.acquireTimeoutMs n) ≠ 0)
    (hdue : s.reg (Reg.flipAt w n) + 1000000 * s.reg (Obj.acquireTimeoutMs n) ≤ s.now) :
    exec (.acquireTimeout w n) s = .next (s.flipDrop w n St.commitVoid 2 [(4, s.reg (Reg.flipEpoch w n)), (2, St.acquireTimeout), (1, 1)]) := by
  rw [exec_acquireTimeout, execAcquireTimeout, whenUp_eq hup, if_neg (not_or.mpr ⟨hpending, not_or.mpr ⟨hlimit, hdue.not_gt⟩⟩)]

/-- The release fence of a surface that a layer showed is signalled after its last fetch. -/
theorem lastFetchComplete_signals {n l : Nat} (hup : s.up = true) (hwaits : s.reg (Reg.oldRelease n l) ≠ 0) :
    exec (.lastFetchComplete n l) s = .next ((s.signalFence (s.reg (Reg.oldReleaseInst n l)) 4 (s.reg (Reg.oldRelease n l) - 1)
      (s.reg (Reg.oldReleaseVal n l))).setReg (Reg.oldRelease n l) 0) := by
  rw [exec_lastFetchComplete, execLastFetchComplete, whenUp_eq hup, if_neg hwaits]

/-! ## The commit line (R233, R259, R260) -/

/-- The state once a commit line of head `n` has counted its frame, and the frames of its signature regions. -/
def lineCounted (s : State) (n : Nat) : State :=
  let u := ((s.bump (Obj.headFrame n) 32).setReg (Reg.lineAt n) (s.now + 1)).count (280 + 8 * n) 1
  u.count (347 + 4 * n) ((List.range 16).countP (fun k => u.reg (Obj.sigRegionKind n k) != 0 && u.reg (Obj.sigRegionCheck n k) == 4))

/-- A head that runs counts its frame, applies what is due, and locks its timing and considers Stratus mode unless it went off by that. -/
theorem headCommitLine_eq {n : Nat} {trim : Int} (hup : s.up = true) (hhead : n < 8) (hruns : s.reg (Obj.portMode n) ≠ 3)
    (hreset : s.reg (Reg.portReset (U.head n)) ≠ 1) (hpower : s.holdupStopped (U.head n) = false) :
    exec (.headCommitLine n trim) s = .next (if ((lineCounted s n).linePixels n).reg (Obj.portMode n) = 3 then (lineCounted s n).linePixels n
      else Line.stratus (Line.lock ((lineCounted s n).linePixels n) n trim) n (Line.changes (lineCounted s n) ((lineCounted s n).linePixels n) n)) := by
  rw [exec_headCommitLine, execHeadCommitLine, whenUp_eq hup,
    if_neg (not_or.mpr ⟨hhead.not_ge, not_or.mpr ⟨hruns, not_or.mpr ⟨hreset, by simp [hpower]⟩⟩⟩)]
  rfl

end Composition

/-- Settles O31: each command ends in the branch that its premises leave open. -/
theorem composition : Obligations.Composition :=
  ⟨fun _ _ _ => headCommitLine_eq,
    fun _ _ _ h => ⟨flipLayer_joins h, flipLayer_invalid h⟩,
    fun _ _ _ h => ⟨flipCommit_invalid h, flipCommit_empty h, fun _ _ => flipCommit_refused h, flipCommit_accepted h⟩,
    fun _ _ _ h => ⟨flipCancel_drops h, flipCancel_invalid h⟩,
    fun _ _ _ => acquireTimeout_due,
    fun _ _ _ => lastFetchComplete_signals⟩

end Sys2Proof.Laws
end

section
/-!
Panels (R274 to R277) and receivers (R281 to R284).
-/
namespace Sys2Proof.Laws

open Sys2Proof.Machine Sys2Proof.Safety

section Panels
variable {s : State} {n : Nat}

/-! ## The tearing-effect input (R274, R275) -/

/-- The state that has counted a tearing-effect edge: its time and period are kept, and the head's core is told. -/
def teEdgeSeen (s : State) (n : Nat) (level : Bool) : State :=
  ((s.bump (Obj.teCount n) 32).setRegs [(Obj.teLastTime n, s.now),
    (Reg.tePeriod n, if s.reg (Obj.teCount n) != 0 && s.reg (Reg.teLost n) == 0 then s.now - s.reg (Obj.teLastTime n) else s.reg (Reg.tePeriod n))]).coreEvent
    n 4 (b2n level)

/-- An edge of the selected polarity is seen in either use of the input, and ends a loss where the head takes its frame from it. -/
theorem teEdge_seen {level : Bool} (hup : s.up = true) (hhead : n ≤ 7) (hreset : s.reg (Reg.portReset (U.head n)) ≠ 1)
    (huse : s.reg (Obj.teUse n) = 1 ∨ s.reg (Obj.teUse n) = 2) (hedge : level ≠ (s.reg (Obj.teEdge n) == 1)) :
    exec (.teEdge n level) s = .next (if (teEdgeSeen s n level).reg (Obj.teUse n) = 2 ∧ (teEdgeSeen s n level).reg (Reg.teLost n) = 1
      then ((teEdgeSeen s n level).setReg (Reg.teLost n) 0).headEvent n St.teBack 1 [] else teEdgeSeen s n level) := by
  have hseen : ¬ (7 < n ∨ s.reg (Reg.portReset (U.head n)) = 1 ∨ s.reg (Obj.teUse n) = 0 ∨ s.reg (Obj.teUse n) > 2
      ∨ level = (s.reg (Obj.teEdge n) == 1)) :=
    not_or.mpr ⟨hhead.not_gt, not_or.mpr ⟨hreset, not_or.mpr ⟨by omega, not_or.mpr ⟨by omega, hedge⟩⟩⟩⟩
  rw [exec_teEdge, execTeEdge, whenUp_eq hup, if_neg hseen]
  rfl

/-- Two frame periods without an edge are a loss, which is told. -/
theorem teLost_raises (hup : s.up = true) (huse : s.reg (Obj.teUse n) = 2) (hheld : s.reg (Reg.teLost n) ≠ 1)
    (hdue : 1000 * s.reg (Obj.teLastTime n) + 2 * Head.periodPs s.reg n * (1 + s.reg (Reg.shedSlowed n)) ≤ 1000 * s.now) :
    exec (.teLost n) s = .next ((s.setRegs [(Reg.teLost n, 1), (Reg.tePeriod n, 0)]).headEvent n St.teLost 2 []) := by
  rw [exec_teLost, execTeLost, whenUp_eq hup, if_neg (not_or.mpr ⟨not_not.mpr huse, not_or.mpr ⟨hheld, hdue.not_gt⟩⟩)]

/-! ## The delays of a panel (R276) -/

/-- PanelOnMs after panel enable, the links of the head's plugged ports start. -/
theorem panelOnDelayEnd_startsLinks (hup : s.up = true) (hdue : s.reg (Reg.panelDue n) ≤ s.now) (hstage : s.reg (Reg.panelStage n) = 1) :
    exec (.panelOnDelayEnd n) s = .next ((Head.portsOf s.reg n).foldl
      (fun s p => if s.reg (Reg.hpd p) = 1 then s.startLink p else s) (s.setRegs [(Reg.panelStage n, 2), (Reg.panelDue n, 0)])) := by
  rw [exec_panelOnDelayEnd, execPanelOnDelayEnd, whenUp_eq hup, if_neg hdue.not_gt, if_pos hstage]

/-- PanelOnMs after the links went off, panel enable is released. -/
theorem panelOnDelayEnd_releasesEnable (hup : s.up = true) (hdue : s.reg (Reg.panelDue n) ≤ s.now) (hstage : s.reg (Reg.panelStage n) = 6) :
    exec (.panelOnDelayEnd n) s = .next (s.setRegs [(Reg.panelStage n, 0), (Reg.panelDue n, 0), (Obj.panelEnableOut n, 0)]) := by
  have hoff : s.reg (Reg.panelStage n) ≠ 1 := by omega
  rw [exec_panelOnDelayEnd, execPanelOnDelayEnd, whenUp_eq hup, if_neg hdue.not_gt, if_neg hoff, if_pos hstage]

/-- BacklightDelayMs after the port lit, the backlight comes on. -/
theorem backlightDelayEnd_lights (hup : s.up = true) (hdue : s.reg (Reg.panelDue n) ≤ s.now) (hstage : s.reg (Reg.panelStage n) = 3) :
    exec (.backlightDelayEnd n) s = .next ((s.setRegs [(Reg.panelStage n, 4), (Reg.panelDue n, 0)]).dimDerive n) := by
  rw [exec_backlightDelayEnd, execBacklightDelayEnd, whenUp_eq hup, if_neg hdue.not_gt, if_pos hstage]

/-- BacklightDelayMs after the backlight went off, the panel waits PanelOnMs for its enable to be released. -/
theorem backlightDelayEnd_waits (hup : s.up = true) (hdue : s.reg (Reg.panelDue n) ≤ s.now) (hstage : s.reg (Reg.panelStage n) = 5) :
    exec (.backlightDelayEnd n) s = .next (s.setRegs [(Reg.panelStage n, 6), (Reg.panelDue n, s.now + 1000000 * s.reg (Obj.panelOnMs n))]) := by
  have hoff : s.reg (Reg.panelStage n) ≠ 3 := by omega
  rw [exec_backlightDelayEnd, execBacklightDelayEnd, whenUp_eq hup, if_neg hdue.not_gt, if_neg hoff, if_pos hstage]

/-! ## The fault input of a panel (R277) -/

/-- A panel fault that was not there before is told and darkens its head. -/
theorem panelFault_darkens (hup : s.up = true) (hhead : n ≤ 7) (hnew : s.reg (Reg.panelFaultDue n) ≠ 1) :
    exec (.panelFault n) s
      = .next (((s.setRegs [(Reg.panelFaultDue n, 1), (Obj.panelFault n, 1)]).headEvent n St.panelFault 3 []).darkCheck n (s.litPorts n) 3) := by
  rw [exec_panelFault, execPanelFault, whenUp_eq hup, if_neg (not_or.mpr ⟨hhead.not_gt, hnew⟩)]

/-- The state that has released a panel's fault. -/
def panelFaultReleased (s : State) (n : Nat) : State := s.setRegs [(Reg.panelFaultDue n, 0), (Obj.panelFault n, 0)]

/-- A fault whose input is released leaves its head in the state that its ports give, and is told. -/
theorem panelFaultClear_relights (hup : s.up = true) (hfault : s.reg (Reg.panelFaultDue n) ≠ 0) :
    exec (.panelFaultClear n) s = .next (((panelFaultReleased s n).setRegs [(Obj.headState n, (panelFaultReleased s n).headStateOf n),
      (Obj.darkReason n, if (panelFaultReleased s n).darkMask n = 0 then 0 else (panelFaultReleased s n).reg (Obj.darkReason n))]).headEvent n St.headLit 1 []) := by
  rw [exec_panelFaultClear, execPanelFaultClear, whenUp_eq hup, if_neg hfault]
  rfl

end Panels

section Receivers
variable {s : State} {n : Nat}

/-! ## Link training (R281) -/

/-- A driven receiver follows its source into link training. -/
theorem rxLinkTraining_begins {done : Nat} (hup : s.up = true) (hrx : n ≤ 7) (hon : Hd.rxOn s n = true) (hdone : done = 0) :
    exec (.rxLinkTraining n done) s = .next (s.setReg (Obj.rxState n) 1) := by
  rw [exec_rxLinkTraining, execRxLinkTraining, whenUp_eq hup, if_neg (not_or.mpr ⟨hrx.not_gt, by simp [hon]⟩), if_pos hdone]

/-- A training that began completes. -/
theorem rxLinkTraining_completes {done : Nat} (hup : s.up = true) (hrx : n ≤ 7) (hon : Hd.rxOn s n = true) (hdone : done ≠ 0)
    (htrains : s.reg (Obj.rxState n) = 1) : exec (.rxLinkTraining n done) s = .next (s.setReg (Obj.rxState n) 2) := by
  rw [exec_rxLinkTraining, execRxLinkTraining, whenUp_eq hup, if_neg (not_or.mpr ⟨hrx.not_gt, by simp [hon]⟩), if_neg hdone, if_pos htrains]

/-! ## Frames (R282, R283) -/

/-- Receiver `n` takes frames: it is driven, its port writes, and its link is trained. -/
structure RxTakes (s : State) (n : Nat) : Prop where
  up : s.up = true
  rx : n ≤ 7
  reset : s.reg (Reg.portReset (U.dpr n)) ≠ 1
  on : Hd.rxOn s n = true
  trained : 2 ≤ s.reg (Obj.rxState n)

/-- A receiver that takes frames drops none for its own state. -/
theorem RxTakes.not_dropped (h : RxTakes s n) :
    ¬ (7 < n ∨ s.reg (Reg.portReset (U.dpr n)) = 1 ∨ (!Hd.rxOn s n) = true ∨ s.reg (Obj.rxState n) < 2) := by
  obtain ⟨_, hrx, hreset, hon, htrained⟩ := h
  exact not_or.mpr ⟨hrx.not_gt, not_or.mpr ⟨hreset, not_or.mpr ⟨by simp [hon], htrained.not_gt⟩⟩⟩

/-- The state that has measured a frame: its size, its rates and its colour are the receiver's. -/
def rxMeasured (s : State) (n w h rate khz colour : Nat) : State :=
  s.setRegs [(Obj.rxWidth n, w), (Obj.rxHeight n, h), (Obj.rxRateMhz n, rate), (Obj.rxPixelKhz n, khz), (Obj.rxColour n, colour)]

/-- The state in which the frame data `data` is in the receiver's next buffer of layer `l` of head `m`, and a frame that waited is counted dropped. -/
def rxStored (u : State) (n m l : Nat) (data : Bytes) : State :=
  let third := u.reg (Reg.poolSize m l) * frameBytes / 3
  let v := u.poolWrite (U.dpr n) (23 + n) m l ((Hd.nextBuf (u.reg (Reg.rxBuf n)) (u.reg (Reg.rxShown n)) - 1) * third) (data.take third)
  if v.reg (Reg.rxFrame n) = 1 then v.bump (Obj.rxFramesDropped n) 32 else v

variable {w h rate khz colour : Nat} {data : Bytes}

/-- A frame that no layer shows is measured. -/
theorem rxFrame_unshown (ht : RxTakes s n) (hlayer : (rxMeasured s n w h rate khz colour).rxLayer n = none) :
    exec (.rxFrame n w h rate khz colour data) s = .next ((rxMeasured s n w h rate khz colour).setReg (Obj.rxState n) 2) := by
  rw [rxMeasured] at hlayer ⊢
  rw [exec_rxFrame, execRxFrame, whenUp_eq ht.up, if_neg ht.not_dropped]
  simp only [hlayer]

section Shown
variable {m l : Nat} (ht : RxTakes s n) (hlayer : (rxMeasured s n w h rate khz colour).rxLayer n = some (m, l))
include ht hlayer

/-- A frame of its layer's size waits in the next buffer. -/
theorem rxFrame_stored (hw : w = (rxMeasured s n w h rate khz colour).reg (Obj.layerSrcWidth m l))
    (hh : h = (rxMeasured s n w h rate khz colour).reg (Obj.layerSrcHeight m l)) :
    exec (.rxFrame n w h rate khz colour data) s
      = .next (((rxStored (rxMeasured s n w h rate khz colour) n m l data).bump (Obj.rxFramesWritten n) 32).setRegs [(Obj.rxState n, 2),
        (Reg.rxBuf n, Hd.nextBuf ((rxMeasured s n w h rate khz colour).reg (Reg.rxBuf n)) ((rxMeasured s n w h rate khz colour).reg (Reg.rxShown n))),
        (Reg.rxFrame n, 1)]) := by
  rw [rxMeasured] at hlayer hw hh ⊢
  rw [exec_rxFrame, execRxFrame, whenUp_eq ht.up, if_neg ht.not_dropped]
  simp only [hlayer]
  rw [if_neg (not_or.mpr ⟨not_not.mpr hw, not_not.mpr hh⟩)]
  rfl

/-- A frame of another size blackens the layer, and is told where the receiver's mode was not known to have changed. -/
theorem rxFrame_modeChanged (hsize : w ≠ (rxMeasured s n w h rate khz colour).reg (Obj.layerSrcWidth m l)
      ∨ h ≠ (rxMeasured s n w h rate khz colour).reg (Obj.layerSrcHeight m l))
    (hknown : (rxMeasured s n w h rate khz colour).reg (Obj.rxState n) ≠ 3) :
    exec (.rxFrame n w h rate khz colour data) s
      = .next (((rxMeasured s n w h rate khz colour).setRegs [(Obj.rxState n, 3), (Reg.rxBlack n, 1), (Reg.rxFrame n, 0)]).rxEvent n St.rxModeChanged 2
        [(2, w), (2, h)]) := by
  rw [rxMeasured] at hlayer hsize hknown ⊢
  rw [exec_rxFrame, execRxFrame, whenUp_eq ht.up, if_neg ht.not_dropped]
  simp only [hlayer]
  rw [if_pos hsize, if_neg hknown]

end Shown

/-! ## A lost signal (R283) -/

/-- A signal that is lost is told, and RxHoldMs begins. -/
theorem rxSignalLost_told (hup : s.up = true) (hrx : n ≤ 7) (hhad : s.reg (Obj.rxState n) ≠ 0) :
    exec (.rxSignalLost n) s = .next ((s.setRegs [(Obj.rxState n, 0), (Reg.rxFrame n, 0), (Reg.rxLost n, 1),
      (Reg.rxHoldDue n, s.now + 1000000 * s.reg (Obj.rxHoldMs n))]).rxEvent n St.rxSignalLost 2 []) := by
  rw [exec_rxSignalLost, execRxSignalLost, whenUp_eq hup, if_neg (not_or.mpr ⟨hrx.not_gt, hhad⟩)]

/-- When RxHoldMs has passed without a signal, the layer is black. -/
theorem rxHoldExpiry_blackens (hup : s.up = true) (hlost : s.reg (Reg.rxLost n) ≠ 0) (hholds : s.reg (Reg.rxHoldDue n) ≠ 0)
    (hdue : s.reg (Reg.rxHoldDue n) ≤ s.now) : exec (.rxHoldExpiry n) s = .next (s.setRegs [(Reg.rxHoldDue n, 0), (Reg.rxBlack n, 1)]) := by
  rw [exec_rxHoldExpiry, execRxHoldExpiry, whenUp_eq hup, if_neg (not_or.mpr ⟨hlost, not_or.mpr ⟨hholds, hdue.not_gt⟩⟩)]

end Receivers

/-- Settles O33: each command of a panel and of a receiver ends in the branch that its premises leave open. -/
theorem panelsAndReceivers : Obligations.PanelsAndReceivers :=
  ⟨⟨fun _ _ _ => teEdge_seen,
      fun _ _ => teLost_raises,
      fun _ _ hup hdue => ⟨panelOnDelayEnd_startsLinks hup hdue, panelOnDelayEnd_releasesEnable hup hdue, backlightDelayEnd_lights hup hdue,
        backlightDelayEnd_waits hup hdue⟩,
      fun _ _ => panelFault_darkens,
      fun _ _ => panelFaultClear_relights⟩,
    fun _ _ _ hup hrx hon => ⟨rxLinkTraining_begins hup hrx hon, rxLinkTraining_completes hup hrx hon⟩,
    fun _ _ _ _ _ _ _ _ hup hrx hreset hon htrained =>
      have ht : RxTakes _ _ := ⟨hup, hrx, hreset, hon, htrained⟩
      ⟨rxFrame_unshown ht, fun _ _ => rxFrame_stored ht, fun _ _ => rxFrame_modeChanged ht⟩,
    fun _ _ => rxSignalLost_told,
    fun _ _ => rxHoldExpiry_blackens⟩

end Sys2Proof.Laws
end

section
/-!
Integrity checks of heads and regions (R287 to R297, R381).
-/
namespace Sys2Proof.Laws

open Sys2Proof.Machine Sys2Proof.Safety

section Samples
variable {s : State} {n k : Nat}

/-! ## What a sample notes (R289, R290, R292) -/

/-- Region `k` of head `n` is sampled: it is set up, its head is lit, and the frame was sent, whole where the head is in Stratus mode. -/
structure RegionSampled (s : State) (n k : Nat) (sent : Bool) : Prop where
  up : s.up = true
  head : n ≤ 7
  region : k ≤ 15
  setUp : s.reg (Obj.sigRegionKind n k) ≠ 0
  lit : s.headLit n = true
  shown : s.regionSent n k = true
  whole : s.reg (Obj.stratusState n) ≠ 2 ∨ sent = true

/-- No ground to skip the frame of such a region is left. -/
theorem RegionSampled.not_skipped {sent : Bool} (h : RegionSampled s n k sent) :
    ¬ (7 < n ∨ 15 < k ∨ s.reg (Obj.sigRegionKind n k) = 0 ∨ (!s.headLit n) = true ∨ (!s.regionSent n k) = true
      ∨ (s.reg (Obj.stratusState n) = 2 ∧ (!sent) = true)) := by
  rintro (hhead | hregion | hkind | hdark | hunsent | ⟨hstratus, hpart⟩)
  · exact h.head.not_gt hhead
  · exact h.region.not_gt hregion
  · exact h.setUp hkind
  · simp [h.lit] at hdark
  · simp [h.shown] at hunsent
  · rcases h.whole with hno | hwhole
    · exact hno hstratus
    · simp [hwhole] at hpart

/-- The provenance count that a sample keeps: an owner region whose tag mask is full has none. -/
def sampledProv (s : State) (n k : Nat) (v : Nat × Nat) : Nat :=
  if s.reg (Obj.sigRegionKind n k) = 1 ∧ s.reg (Obj.sigTagMask n k) = 0xFF then 0 else v.2

/-- The state that has noted and counted the sampled signature and provenance count, and compared nothing yet. -/
def sampleNoted (s : State) (n k : Nat) (v : Nat × Nat) : State :=
  ((s.setRegs [(Obj.sigLastCrc n k, v.1), (Obj.sigLastFrame n k, s.reg (Obj.headFrame n)), (Obj.sigProvCount n k, sampledProv s n k v)]).count
    (344 + 4 * n) 1).count (346 + 4 * n) (sampledProv s n k v)

/-! ## Owner regions (R293) -/

/-- The signature differs from the value that the owner expects. -/
def ownerDiffers (u : State) (n k crc : Nat) : Bool := u.reg (Obj.sigExpectedOn n k) == 1 && crc != u.reg (Obj.sigExpectedCrc n k)

/-- The state that has counted a differing signature. -/
def ownerCounted (u : State) (n k crc : Nat) : State :=
  if ownerDiffers u n k crc = true then (u.bump (Obj.sigMismatches n k) 32).count (345 + 4 * n) 1 else u

/-- The owner is told of a difference, or of provenance, at most once in a second. -/
def ownerCompared (u : State) (n k crc prov : Nat) : State :=
  if (ownerDiffers u n k crc = true ∨ prov ≠ 0) ∧ ((ownerCounted u n k crc).reg (Reg.sigOwnerEv n k) = 0
      ∨ (ownerCounted u n k crc).reg (Reg.sigOwnerEv n k) - 1 + 1000000000 ≤ (ownerCounted u n k crc).now) then
    ((ownerCounted u n k crc).setReg (Reg.sigOwnerEv n k) ((ownerCounted u n k crc).now + 1)).integrityEvent n k St.ownerMismatch 2 crc
      (if prov = 0 then (ownerCounted u n k crc).reg (Obj.sigExpectedCrc n k) else prov)
  else ownerCounted u n k crc

/-- A sample of an owner region is noted, compared with the owner's value, and tracked for a freeze. -/
theorem signatureSample_owner {seen : Option (Nat × Nat)} {sent : Bool} (h : RegionSampled s n k sent) (hkind : s.reg (Obj.sigRegionKind n k) = 1) :
    exec (.signatureSample n k seen sent) s = .next (Ens.track (ownerCompared (sampleNoted s n k (seen.getD (s.sigValues n k))) n k
      (seen.getD (s.sigValues n k)).1 (sampledProv s n k (seen.getD (s.sigValues n k)))) n k (seen.getD (s.sigValues n k)).1) := by
  rw [exec_signatureSample, execSignatureSample, whenUp_eq h.up, if_neg h.not_skipped, if_pos hkind]
  rfl

/-! ## Ensign regions (R291, R296, R297) -/

/-- The signature expected of a region: that of its front buffer under the Ensign setting of the instant. -/
def ensignExpected (u : State) (n k : Nat) : Nat := (u.num (Num.sigExp n k (u.reg (Reg.regionFront n k)))).getD (u.reg (Obj.ensignSet n)) 0

/-- What the sample of an Ensign region does to its check. -/
def ensignCompared (u : State) (n k crc prov : Nat) : State :=
  if prov ≠ 0 then (if u.reg (Obj.sigRegionCheck n k) = 3 then u else Ens.fail u n k St.provViolation crc prov)
  else if u.reg (Reg.regionResign n k) = 1 then u
  else if crc ≠ ensignExpected u n k then Ens.mismatch u n k crc (ensignExpected u n k)
  else Ens.pass u n k crc (ensignExpected u n k)

/-- A sample of an Ensign region is noted, moves the region's check, and is tracked for a freeze. -/
theorem signatureSample_ensign {seen : Option (Nat × Nat)} {sent : Bool} {t : State} (h : RegionSampled s n k sent)
    (hkind : s.reg (Obj.sigRegionKind n k) ≠ 1)
    (hcompared : ensignCompared (sampleNoted s n k (seen.getD (s.sigValues n k))) n k (seen.getD (s.sigValues n k)).1
      (sampledProv s n k (seen.getD (s.sigValues n k))) = t) :
    exec (.signatureSample n k seen sent) s = .next (Ens.track t n k (seen.getD (s.sigValues n k)).1) := by
  rw [exec_signatureSample, execSignatureSample, whenUp_eq h.up, if_neg h.not_skipped, if_neg hkind, ← hcompared]
  rfl

section Compared
variable {u : State} {crc prov : Nat}

/-- Foreign pixels fail a region that has not failed. -/
theorem ensignCompared_violation (hprov : prov ≠ 0) (hcheck : u.reg (Obj.sigRegionCheck n k) ≠ 3) :
    ensignCompared u n k crc prov = Ens.fail u n k St.provViolation crc prov := by
  rw [ensignCompared, if_pos hprov, if_neg hcheck]

/-- A region that is to be signed anew is not compared. -/
theorem ensignCompared_unsigned (hprov : prov = 0) (hresign : u.reg (Reg.regionResign n k) = 1) : ensignCompared u n k crc prov = u := by
  rw [ensignCompared, if_neg (not_not.mpr hprov), if_pos hresign]

/-- A signature other than the expected one is a mismatch. -/
theorem ensignCompared_mismatch (hprov : prov = 0) (hsigned : u.reg (Reg.regionResign n k) ≠ 1) (hdiffers : crc ≠ ensignExpected u n k) :
    ensignCompared u n k crc prov = Ens.mismatch u n k crc (ensignExpected u n k) := by
  rw [ensignCompared, if_neg (not_not.mpr hprov), if_neg hsigned, if_pos hdiffers]

/-- The expected signature is a pass. -/
theorem ensignCompared_pass (hprov : prov = 0) (hsigned : u.reg (Reg.regionResign n k) ≠ 1) (hequal : crc = ensignExpected u n k) :
    ensignCompared u n k crc prov = Ens.pass u n k crc (ensignExpected u n k) := by
  rw [ensignCompared, if_neg (not_not.mpr hprov), if_neg hsigned, if_neg (not_not.mpr hequal)]

end Compared

/-! ## Freezes (R294 to R296, R381) -/

/-- A whole freeze window of a watched region has passed with one signature in every sample, and the last sample lies in it. -/
structure WindowFrozen (s : State) (n k : Nat) : Prop where
  up : s.up = true
  watched : Ens.watching s n k = true
  sampled : s.reg (Reg.sigSeen n k) ≠ 0
  fresh : s.reg (Reg.sigFrozenAt n k) = 0
  passed : s.reg (Reg.sigWindow n k) + 1000000 * Ens.window s n k ≤ s.now
  recent : s.now ≤ s.reg (Reg.sigLastAt n k) + 1000000 * Ens.window s n k

/-- No ground to let such a window go is left. -/
theorem WindowFrozen.not_skipped (h : WindowFrozen s n k) :
    ¬ ((!Ens.watching s n k) = true ∨ s.reg (Reg.sigSeen n k) = 0 ∨ s.reg (Reg.sigFrozenAt n k) ≠ 0
      ∨ s.now < s.reg (Reg.sigWindow n k) + 1000000 * Ens.window s n k ∨ s.reg (Reg.sigLastAt n k) + 1000000 * Ens.window s n k < s.now) := by
  rintro (hunwatched | hunseen | hfrozen | hearly | hold)
  · simp [h.watched] at hunwatched
  · exact h.sampled hunseen
  · exact hfrozen h.fresh
  · exact h.passed.not_gt hearly
  · exact h.recent.not_gt hold

/-- The state that has noted the instant of a freeze. -/
def freezeNoted (s : State) (n k : Nat) : State := s.setReg (Reg.sigFrozenAt n k) (s.now + 1)

/-- The owner is told that its region is frozen. -/
theorem freezeWindowExpiry_owner (h : WindowFrozen s n k) (hkind : (freezeNoted s n k).reg (Obj.sigRegionKind n k) = 1) :
    exec (.freezeWindowExpiry n k) s = .next ((freezeNoted s n k).integrityEvent n k St.ownerFrozen 2 (s.reg (Obj.sigLastCrc n k))
      ((freezeNoted s n k).reg (Obj.sigExpectedCrc n k))) := by
  rw [exec_freezeWindowExpiry, execFreezeWindowExpiry, whenUp_eq h.up, if_neg h.not_skipped]
  exact congrArg _ (if_pos hkind)

/-- A frozen Ensign region fails where not every live head is frozen. -/
theorem freezeWindowExpiry_fails (h : WindowFrozen s n k) (hkind : (freezeNoted s n k).reg (Obj.sigRegionKind n k) ≠ 1)
    (halone : Ens.stallNow (freezeNoted s n k) (Ens.window s n k) = false) :
    exec (.freezeWindowExpiry n k) s
      = .next (Ens.fail (freezeNoted s n k) n k St.regionFrozen (s.reg (Obj.sigLastCrc n k)) (s.reg (Obj.sigLastCrc n k))) := by
  rw [exec_freezeWindowExpiry, execFreezeWindowExpiry, whenUp_eq h.up, if_neg h.not_skipped]
  exact congrArg _ ((if_neg hkind).trans (if_neg (ne_true_of_eq_false halone)))

/-- Where every live head is frozen, Ensign has stalled: the alarm is asserted and the pair restarts. -/
theorem freezeWindowExpiry_stalls (h : WindowFrozen s n k) (hkind : (freezeNoted s n k).reg (Obj.sigRegionKind n k) ≠ 1)
    (hall : Ens.stallNow (freezeNoted s n k) (Ens.window s n k) = true) :
    exec (.freezeWindowExpiry n k) s
      = .next ((((freezeNoted s n k).integrityEvent n k St.ensignStalled 4 (s.reg (Obj.sigLastCrc n k)) (s.reg (Obj.sigLastCrc n k))).setRegs
        [(Obj.sigRegionCheck n k, 3), (Reg.sigPass n k, 0), (Reg.sigCount n k, 0), (Reg.sigSeen n k, 0), (Reg.stalled, 1),
          (Reg.backupTone, 1)]).alarmAssert.pairRestart) := by
  rw [exec_freezeWindowExpiry, execFreezeWindowExpiry, whenUp_eq h.up, if_neg h.not_skipped]
  exact congrArg _ ((if_neg hkind).trans (if_pos hall))

end Samples

/-- Settles O35: a sample is compared by the kind of its region, and a frozen window acts by its kind and by whether every live head is frozen. -/
theorem integrityChecks : Obligations.IntegrityChecks := by
  refine ⟨fun s n k seen sent hup hhead hregion hsetUp hlit hshown hwhole => ?_,
    fun s n k hup hwatched hsampled hfresh hpassed hrecent =>
      have h : WindowFrozen s n k := ⟨hup, hwatched, hsampled, hfresh, hpassed, hrecent⟩
      ⟨freezeWindowExpiry_owner h, freezeWindowExpiry_fails h, freezeWindowExpiry_stalls h⟩⟩
  have h : RegionSampled s n k sent := ⟨hup, hhead, hregion, hsetUp, hlit, hshown, hwhole⟩
  exact ⟨signatureSample_owner h,
    fun hkind hprov hcheck => signatureSample_ensign h hkind (ensignCompared_violation hprov hcheck),
    fun hkind hprov hsigned hdiffers => signatureSample_ensign h hkind (ensignCompared_mismatch hprov hsigned hdiffers),
    fun hkind hprov hresign => signatureSample_ensign h hkind (ensignCompared_unsigned hprov hresign),
    fun hkind hprov hsigned hequal => signatureSample_ensign h hkind (ensignCompared_pass hprov hsigned hequal)⟩

end Sys2Proof.Laws
end

section
/-!
Touch ports (R304 to R325, R494).
-/
namespace Sys2Proof.Laws

open Sys2Proof.Machine Sys2Proof.Safety

section Ports
variable {s : State} {p : Nat}

/-! ## A scan frame (R304 to R314, R316 to R325) -/

/-- The state that has read a scan frame: at 30 Hz and 8 Hz the self counts alone, at the other rates the whole matrix. -/
def frameRead (s : State) (p : Nat) (raw self : List Nat) : State :=
  if s.reg (Obj.scanRateHz p) = 30 ∨ s.reg (Obj.scanRateHz p) = 8 then (s.tSlow p self).tSelfBaseline p self else s.tMutual p raw self

/-- The state that has acted on a frame's noise (R311, R312) and lateness (R94), reported it on the digitizers (R324), and counted it. -/
def frameCounted (s : State) (p : Nat) (noise : Nat × Nat) : State :=
  ((((s.tNoise p noise).tLate p).hidFrame p).bump (Obj.scanFrames p) 32).count (376 + 4 * p) 1

/-- A frame of a running port is read, counted, and is an instant of the port's boundary source. -/
theorem scanFrameEnd_counted {raw self : List Nat} {noise : Nat × Nat} (hup : s.up = true) (hport : p ≤ 7) (hrun : s.reg (Reg.touchRun p) ≠ 0)
    (hreset : s.reg (Reg.portReset (U.touch p)) ≠ 1) :
    exec (.scanFrameEnd p raw self noise) s = .next ((frameCounted (frameRead s p raw self) p noise).boundary
      ((frameCounted (frameRead s p raw self) p noise).sourceOf (U.touch p))) := by
  rw [exec_scanFrameEnd, execScanFrameEnd, whenUp_eq hup, if_neg (not_or.mpr ⟨hport.not_gt, not_or.mpr ⟨hrun, hreset⟩⟩)]
  rfl

/-! ## The idle steps (R313) -/

/-- The fastest scan rate that the time since the last contact allows. -/
def idleRate (s : State) (p : Nat) : Nat :=
  if 1000000 * s.reg (Obj.idleStep3Ms p) ≤ s.now - s.reg (Reg.touchLastAt p) then 8
  else if 1000000 * s.reg (Obj.idleStep2Ms p) ≤ s.now - s.reg (Reg.touchLastAt p) then 30
  else if 1000000 * s.reg (Obj.idleStep1Ms p) ≤ s.now - s.reg (Reg.touchLastAt p) then 120 else 240

/-- An idle port faster than its idle time allows steps down to that rate. -/
theorem idleStep_slows (hup : s.up = true) (hport : p ≤ 7) (hrun : s.reg (Reg.touchRun p) ≠ 0) (hidle : s.tracked p = [])
    (hwatch : s.reg (Reg.touchWatch p) = 0) (hfast : idleRate s p < s.reg (Obj.scanRateHz p)) :
    exec (.idleStep p) s = .next ((s.setReg (Obj.scanRateHz p) (idleRate s p)).setReg (Reg.touchSelf p) 0) := by
  have hsteps : ¬ (7 < p ∨ s.reg (Reg.touchRun p) = 0 ∨ s.tracked p ≠ [] ∨ s.reg (Reg.touchWatch p) ≠ 0 ∨ s.reg (Obj.scanRateHz p) ≤ idleRate s p) :=
    not_or.mpr ⟨hport.not_gt, not_or.mpr ⟨hrun, not_or.mpr ⟨not_not.mpr hidle, not_or.mpr ⟨not_not.mpr hwatch, hfast.not_ge⟩⟩⟩⟩
  rw [exec_idleStep, execIdleStep, whenUp_eq hup]
  exact congrArg _ (if_neg hsteps)

/-- A port that is no faster than its idle time allows keeps its rate. -/
theorem idleStep_keeps (hup : s.up = true) (hslow : s.reg (Obj.scanRateHz p) ≤ idleRate s p) : exec (.idleStep p) s = .next s := by
  rw [exec_idleStep, execIdleStep, whenUp_eq hup]
  exact congrArg _ (if_pos (.inr (.inr (.inr (.inr hslow)))))

/-! ## The ends of a gesture watch, of glove sensing and of wetness (R308, R309, R314) -/

/-- A watch whose time has passed returns the port to its slow rate; the clusters it watched, and those not yet confirmed, are no longer tracked. -/
theorem gestureWatchEnd_returns (hup : s.up = true) (hport : p ≤ 7) (hwatch : s.reg (Reg.touchWatch p) ≠ 0)
    (hdue : s.reg (Reg.touchWatch p) ≤ s.now + 1) :
    let u := s.setRegs [(Reg.touchWatch p, 0), (Reg.touchDowns p, 0), (Obj.scanRateHz p, s.reg (Reg.touchWatchRate p)), (Reg.touchSelf p, 1)]
    exec (.gestureWatchEnd p) s = .next (u.setTracked p ((u.tracked p).filter (fun (c : Contact) => c.kind != 4 && c.kind != 0))) := by
  rw [exec_gestureWatchEnd, execGestureWatchEnd, whenUp_eq hup, if_neg (not_or.mpr ⟨hport.not_gt, not_or.mpr ⟨hwatch, hdue.not_gt⟩⟩)]

/-- Under GloveMode 2 glove sensing ends with its time. -/
theorem gloveTimeout_ends (hup : s.up = true) (hport : p ≤ 7) (hmode : s.reg (Obj.gloveMode p) = 2) (hon : s.reg (Reg.touchGlove p) ≠ 0)
    (hdue : s.reg (Reg.touchGloveUntil p) ≤ s.now) : exec (.gloveTimeout p) s = .next (s.setGlove p 0) := by
  rw [exec_gloveTimeout, execGloveTimeout, whenUp_eq hup,
    if_neg (not_or.mpr ⟨hport.not_gt, not_or.mpr ⟨not_not.mpr hmode, not_or.mpr ⟨hon, hdue.not_gt⟩⟩⟩)]

/-- A port is dry when its wet time has passed. -/
theorem wetTimeout_dries (hup : s.up = true) (hport : p ≤ 7) (hdue : s.reg (Reg.touchWetUntil p) ≤ s.now) :
    exec (.wetTimeout p) s = .next (s.setWet p false) := by
  rw [exec_wetTimeout, execWetTimeout, whenUp_eq hup, if_neg (not_or.mpr ⟨hport.not_gt, hdue.not_gt⟩)]

/-! ## The start of a port (R306, R315 to R318, R494) -/

/-- The steps of a port's start have passed: 103.3 ms from its begin. -/
structure StartDue (s : State) (p : Nat) : Prop where
  up : s.up = true
  port : p ≤ 7
  begun : s.reg (Reg.touchStartAt p) ≠ 0
  passed : s.reg (Reg.touchStartAt p) + 103333333 ≤ s.now + 1

/-- No ground to let such a start wait is left. -/
theorem StartDue.not_waiting (h : StartDue s p) :
    ¬ (7 < p ∨ s.reg (Reg.touchStartAt p) = 0 ∨ s.now + 1 < s.reg (Reg.touchStartAt p) + 103333333) :=
  not_or.mpr ⟨h.port.not_gt, not_or.mpr ⟨h.begun, h.passed.not_gt⟩⟩

/-- A start that finds no flex leaves the port absent, and is over. -/
theorem touchPortStart_absent {placed : Nat} {bad coarse fine first cap selfCap : List Nat} (h : StartDue s p) :
    exec (.touchPortStart p false bad placed coarse fine first cap selfCap) s
      = .next ((((s.setReg (Reg.touchStartAt p) 0).setUnitState (U.touch p) 0).tWhole).startPassed (U.touch p)) := by
  rw [exec_touchPortStart, execTouchPortStart, whenUp_eq h.up, if_neg h.not_waiting]
  rfl

/-- The state whose start has found the flex, and has taken the result of its integrity scan. -/
def startScanned (s : State) (p : Nat) (bad : List Nat) : State :=
  let u := s.setReg (Reg.touchStartAt p) 0
  (if u.reg (Reg.unitState (U.touch p)) = 0 then u.setUnitState (U.touch p) 1 else u).tIntegrity p bad true

/-- The number of drive and sense channels of a port. -/
def lineCount (s : State) (p : Nat) : Nat := (Touch.channels (s.reg (Obj.channelRole p)) 1 ++ Touch.channels (s.reg (Obj.channelRole p)) 2).length

/-- A count of zero for every node of a port. -/
def nodeZeros (s : State) (p : Nat) : List Nat := List.replicate (s.reg (Obj.nodeCount p)) 0

/-- The state that has taken the compensation codes and the self baselines of a calibration, and has checked its stored reference. -/
def startCalibrated (s : State) (p : Nat) (coarse fine selfCap : List Nat) : State :=
  let w := (((((s.setNum (Num.coarse p) coarse).setNum (Num.fine p) fine).setNum (Num.neg p) (nodeZeros s p)).setNum (Num.rebLeft p)
    (nodeZeros s p)).setNum (Num.rebSum p) (nodeZeros s p)).setNum (Num.selfBase p) selfCap
  w.setReg (Obj.refValid p) (b2n (w.refHolds p))

/-- The state that has set its baselines: against a reference that holds, or, where there is none, as captured, which is told. -/
def startReferenced (s : State) (p : Nat) (zeros first cap : List Nat) : State :=
  if s.reg (Obj.refValid p) = 1 then (s.tCover p first cap).setReg (Reg.touchUnref p) 0
  else (((s.setNum (Num.covered p) zeros).setNum (Num.base p) cap).setReg (Reg.touchUnref p) 1).raise [s.blockDest (U.touch p)] (U.touch p)
    St.pwrupUnreferenced (s.reg (Reg.blockHolder (U.touch p))) 1 []

/-- The state whose port scans, at its active rate and without a contact. -/
def startRuns (s : State) (p : Nat) : State :=
  (s.setTracked p []).setRegs [(Reg.touchRun p, 1), (Obj.scanRateHz p, s.tActive p), (Reg.touchLastAt p, s.now), (Reg.touchHopFrame p, 0)]

/-- A start takes the codes and baselines of its calibration, and the port runs, unless the port has lines and no more than half were placed. -/
theorem touchPortStart_runs {placed : Nat} {bad coarse fine first cap selfCap : List Nat} (h : StartDue s p)
    (hplaced : ¬ (2 * placed ≤ lineCount (startScanned s p bad) p ∧ 0 < lineCount (startScanned s p bad) p)) :
    exec (.touchPortStart p true bad placed coarse fine first cap selfCap) s
      = .next ((startRuns ((startReferenced (startCalibrated (startScanned s p bad) p coarse fine selfCap) p (nodeZeros (startScanned s p bad) p)
          first cap).tReference p) p).startPassed (U.touch p)) := by
  rw [exec_touchPortStart, execTouchPortStart, whenUp_eq h.up, if_neg h.not_waiting]
  exact congrArg _ ((if_neg (by decide)).trans (if_neg hplaced))

/-! ## The 10-minute integrity scan (R318 to R320) -/

/-- The integrity scan of a port is due: it runs at 30 Hz or below, and its mark has come. -/
structure ScanDue (s : State) (p : Nat) : Prop where
  up : s.up = true
  port : p ≤ 7
  running : s.reg (Reg.touchRun p) ≠ 0
  slow : s.reg (Obj.scanRateHz p) ≤ 30
  passed : s.reg (Reg.touchIntegDue p) ≤ s.now + 1

/-- No ground to let such a scan wait is left. -/
theorem ScanDue.not_waiting (h : ScanDue s p) :
    ¬ (7 < p ∨ s.reg (Reg.touchRun p) = 0 ∨ 30 < s.reg (Obj.scanRateHz p) ∨ s.now + 1 < s.reg (Reg.touchIntegDue p)) :=
  not_or.mpr ⟨h.port.not_gt, not_or.mpr ⟨h.running, not_or.mpr ⟨h.slow.not_gt, h.passed.not_gt⟩⟩⟩

/-- A touch-down during the scan puts it off to the next mark. -/
theorem integrityScan_putOff {bad : List Nat} (h : ScanDue s p) :
    exec (.integrityScan p bad true) s = .next (s.setReg (Reg.touchIntegDue p) (s.now + 600000000000 + 1)) := by
  rw [exec_integrityScan, execIntegrityScan, whenUp_eq h.up, if_neg h.not_waiting, if_pos rfl]

/-- A scan that no touch-down ends takes its result, and may store the empty reference. -/
theorem integrityScan_taken {bad : List Nat} (h : ScanDue s p) :
    exec (.integrityScan p bad false) s = .next ((s.tIntegrity p bad false).tReference p) := by
  rw [exec_integrityScan, execIntegrityScan, whenUp_eq h.up, if_neg h.not_waiting, if_neg (by decide)]

end Ports

/-- Settles O36: each command of a touch port ends in the branch that its premises leave open. -/
theorem touchPorts : Obligations.TouchPorts :=
  ⟨fun _ _ _ _ _ => scanFrameEnd_counted,
    fun _ _ hup hport hrun hidle hwatch => ⟨idleStep_slows hup hport hrun hidle hwatch, idleStep_keeps hup⟩,
    fun _ _ => gestureWatchEnd_returns,
    fun _ _ => gloveTimeout_ends,
    fun _ _ => wetTimeout_dries,
    fun _ _ _ _ _ _ _ _ _ hup hport hbegun hpassed =>
      have h : StartDue _ _ := ⟨hup, hport, hbegun, hpassed⟩
      ⟨touchPortStart_absent h, touchPortStart_runs h⟩,
    fun _ _ _ hup hport hrunning hslow hpassed =>
      have h : ScanDue _ _ := ⟨hup, hport, hrunning, hslow, hpassed⟩
      ⟨integrityScan_putOff h, integrityScan_taken h⟩⟩

end Sys2Proof.Laws
end

section
/-!
PROOFS of O39 to O41: the register instructions of the pennant cores, their flags, and the loads and stores of their data memory (chapter 15).
-/
namespace Sys2Proof.Laws

open Sys2Proof.Machine Sys2Proof.Safety

/-! ## The register instructions (R369) -/

/-- A core that meets an instruction has it carried out, with its word and one instruction time spent. -/
theorem issued_eq {s u : State} {c w : Nat} {o : Pen.Op} {f : State → Nat → State} (h : Meets s c o w u) :
    s.whenUp (fun s => .next (s.coreIssue c o f)) = .next (f u w) := by
  rw [whenUp_eq h.1.1, coreIssue_eq h]

/-- The state once an ALU instruction has written rd with `v` and its flags. -/
def aluDone (u : State) (c w v : Nat) (r : Pen.Res) : Host.Outcome State Fault Refusal :=
  .next (((u.setG c (Pen.rd w) v).setReg (Reg.coreFlags c) (Pen.flagsAfter ((u.setG c (Pen.rd w) v).reg (Reg.coreFlags c)) r)).coreNext c)

/-- The state once an instruction has set its flags alone. -/
def aluKept (u : State) (c : Nat) (r : Pen.Res) : Host.Outcome State Fault Refusal :=
  .next ((u.setReg (Reg.coreFlags c) (Pen.flagsAfter (u.reg (Reg.coreFlags c)) r)).coreNext c)

/-- The result of an ALU instruction on rd, rs and the carry flag. -/
def aluRes (u : State) (c w : Nat) (o : Pen.Op) : Pen.Res :=
  Pen.alu o (u.g c (Pen.rd w)) (u.g c (Pen.rs w)) (bits (u.reg (Reg.coreFlags c)) 2 1)

/-- An ALU instruction writes rd with its result and sets its flags. -/
theorem coreAlu_done {s u : State} {c w : Nat} {o : Pen.Op} (h : Meets s c o w u) :
    s.whenUp (fun s => .next (s.coreAlu c o false)) = aluDone u c w (aluRes u c w o).val (aluRes u c w o) := by
  rw [whenUp_eq h.1.1, State.coreAlu, coreIssue_eq h]
  rfl

/-- CMP and TST set their flags alone. -/
theorem coreAlu_kept {s u : State} {c w : Nat} {o : Pen.Op} (h : Meets s c o w u) :
    s.whenUp (fun s => .next (s.coreAlu c o true)) = aluKept u c (aluRes u c w o) := by
  rw [whenUp_eq h.1.1, State.coreAlu, coreIssue_eq h]
  rfl

/-- Settles O39: each register instruction is carried out by `coreAlu` or on the state that has issued it. -/
theorem pennantAlu : Obligations.PennantAlu := fun _ _ _ _ =>
  ⟨coreAlu_done, coreAlu_done, coreAlu_done, coreAlu_done, coreAlu_done, coreAlu_done, coreAlu_done, coreAlu_done, coreAlu_done, coreAlu_done,
    coreAlu_done, coreAlu_done, coreAlu_done, coreAlu_done, coreAlu_kept, coreAlu_kept, issued_eq, issued_eq, issued_eq, issued_eq⟩

/-! ## The flags after a result -/

/-- A bit as a number. -/
theorem b2n_bit (f i : Nat) : b2n (bit f i) = f / 2 ^ i % 2 := by
  rw [bit, Nat.testBit_eq_decide_div_mod_eq, b2n]
  split
  · simp_all
  · have := Nat.mod_two_eq_zero_or_one (f / 2 ^ i)
    simp_all

/-- The flags that a result leaves are its own and those of before, packed highest first. -/
theorem flagsAfter_eq (f : Nat) (r : Pen.Res) :
    Pen.flagsAfter f r = 16 * b2n (bit f 4) + 8 * b2n ((r.cv.map Prod.snd).getD (bit f 3)) + 4 * b2n ((r.cv.map Prod.fst).getD (bit f 2))
      + 2 * b2n (bit r.val 15) + b2n (r.val == 0) := by
  obtain ⟨v, _ | ⟨c, o⟩⟩ := r
  · simp only [Pen.flagsAfter, bits, Nat.shiftRight_eq_div_pow, Option.map_none, Option.getD_none, b2n_bit f]
    omega
  · simp only [Pen.flagsAfter, bits, Nat.shiftRight_eq_div_pow, Option.map_some, Option.getD_some, b2n_bit f]
    omega

/-- Each bit of packed flags. -/
theorem bit_packed : ∀ e v c n z : Bool,
    let f := 16 * b2n e + 8 * b2n v + 4 * b2n c + 2 * b2n n + b2n z
    bit f 0 = z ∧ bit f 1 = n ∧ bit f 2 = c ∧ bit f 3 = v ∧ bit f 4 = e ∧ f < 32 := by
  decide

/-- Setting or clearing Z makes it so. -/
theorem bit_withZ_zero (f : Nat) (z : Bool) : bit (Pen.withZ f z) 0 = z := by
  rw [bit, Pen.withZ, Nat.testBit_zero]
  cases z <;> simp [b2n]

/-- Setting or clearing Z leaves the other flags. -/
theorem bit_withZ_other (f : Nat) (z : Bool) {k : Nat} (h : 0 < k) : bit (Pen.withZ f z) k = bit f k := by
  obtain ⟨j, rfl⟩ := Nat.exists_eq_succ_of_ne_zero h.ne'
  have lt : b2n z < 2 := by cases z <;> decide
  have half : (f / 2 * 2 + b2n z) / 2 = f / 2 := by omega
  rw [bit, bit, Pen.withZ, Nat.testBit_succ, half, ← Nat.testBit_succ]

/-- Settles O40: the flags are packed from the result and the flags before, so each is read off. -/
theorem pennantFlags : Obligations.PennantFlags := by
  intro f v r
  obtain ⟨hz, hn, hc, ho, he, hlt⟩ := bit_packed (bit f 4) ((r.cv.map Prod.snd).getD (bit f 3)) ((r.cv.map Prod.fst).getD (bit f 2)) (bit r.val 15) (r.val == 0)
  rw [flagsAfter_eq]
  refine ⟨hz, hn, he, ?_, ?_, hlt, bit_withZ_zero f true, bit_withZ_zero f false, fun k hk => bit_withZ_other f _ hk⟩
  · intro c o h
    rw [h] at hc ho ⊢
    exact ⟨hc, ho⟩
  · intro h
    rw [h] at hc ho ⊢
    exact ⟨hc, ho⟩

/-! ## Loads and stores of the data memory (R369, R375) -/

/-- A core that meets an instruction is one of the 32. -/
theorem Meets.core_lt {s u : State} {c w : Nat} {o : Pen.Op} (h : Meets s c o w u) : c < 32 := by
  have runs := h.1.2.1
  simp only [State.coreRuns, State.coreAwake, Bool.and_eq_true, decide_eq_true_eq] at runs
  exact runs.1.1.1.1.1.1

/-- Spending the time of an instruction leaves the registers of the core that the program sees. -/
theorem Meets.same {s u : State} {c w t x : Nat} {o : Pen.Op} (h : Meets s c o w u) (ht : 365 ≤ t) (ht' : t < 387) (hx : x < 65536) :
    Same (ireg t c x) s u := by
  have hc := Meets.core_lt h
  obtain ⟨_, _, rfl⟩ := h
  exact State.coreSpend_same hc (by omega) (by omega) (by omega) (by omega) (by omega) (by omega) ⟨rfl, rfl, rfl⟩

/-- The data memory lies below 0x1000. -/
theorem corePlace_data {u : State} {c a size : Nat} (h : u.corePlace c a size = .data) : a < 0x1000 := by
  by_contra hge
  revert h
  unfold State.corePlace
  simp only [if_neg hge]
  split_ifs <;> simp

/-- A store to the data memory writes its bytes, low byte first. -/
theorem coreWrite_word {u : State} {c a v : Nat} (h : u.corePlace c a 2 = .data) :
    u.coreWrite c a 2 v = .ok ((u.setReg (Reg.coreMem c a) (v % 256)).setReg (Reg.coreMem c (a + 1)) (v / 256 % 256)) := by
  simp [State.coreWrite, h, List.range_succ]

/-- A store of one byte to the data memory writes it. -/
theorem coreWrite_byte {u : State} {c a v : Nat} (h : u.corePlace c a 1 = .data) :
    u.coreWrite c a 1 v = .ok (u.setReg (Reg.coreMem c a) (v % 256)) := by
  simp [State.coreWrite, h]

/-- A load of a word from the data memory. -/
theorem coreLoadTo_word {u : State} {c r a : Nat} (h : u.corePlace c a 2 = .data) :
    u.coreLoadTo c r a 2 = (u.setG c r (u.reg (Reg.coreMem c a) + 256 * u.reg (Reg.coreMem c (a + 1)))).coreNext c := by
  simp [State.coreLoadTo, State.coreRead, h]

/-- A load of a byte from the data memory. -/
theorem coreLoadTo_byte {u : State} {c r a : Nat} (h : u.corePlace c a 1 = .data) :
    u.coreLoadTo c r a 1 = (u.setG c r (u.reg (Reg.coreMem c a))).coreNext c := by
  simp [State.coreLoadTo, State.coreRead, h]

/-- A load from an address with a fault is that fault. -/
theorem coreLoadTo_fault {u : State} {c r a size k : Nat} (h : u.corePlace c a size = .fault k) : u.coreLoadTo c r a size = u.coreFault c k a := by
  simp [State.coreLoadTo, State.coreRead, h]

/-- A store to an address with a fault is that fault. -/
theorem coreStoreFrom_fault {u : State} {c r a size k : Nat} (h : u.corePlace c a size = .fault k) : u.coreStoreFrom c r a size = u.coreFault c k a := by
  simp [State.coreStoreFrom, State.coreWrite, h]

/-- The state once core `c` has stored the bytes `l` in its data memory and goes on. -/
def storedAt (u : State) (c : Nat) (l : List (Nat × Nat)) : State := (l.foldl (fun s b => s.setReg (Reg.coreMem c b.1) b.2) u).coreNext c

/-- A store leaves every register but the bytes it writes and the core's pc, and the byte memory. -/
theorem storedAt_same {s u : State} {c k : Nat} {l : List (Nat × Nat)} (hp : k ≠ Reg.corePc c) (hl : ∀ b ∈ l, k ≠ Reg.coreMem c b.1) (h : Same k s u) :
    Same k s (storedAt u c l) := by
  refine Same.setReg hp ?_
  induction l generalizing u with
  | nil => exact h
  | cons b l ih => exact ih (fun x hx => hl x (.tail _ hx)) (Same.setReg (hl b (.head _)) h)

/-- Two registers of one core that differ in their number are different. -/
theorem coreReg_ne {t t' c x y : Nat} (hc : c < 32) (h : t ≠ t') (hx : x < 65536) (hy : y < 65536) : ireg t c x ≠ ireg t' c y :=
  ireg_ne_of_range h (by omega) (by omega) (by omega) (by omega)

/-- What a store to the data memory leaves: the other bytes of it, the registers, the flags and the byte memory. -/
theorem storedAt_frame {s u : State} {c w : Nat} {o : Pen.Op} {l : List (Nat × Nat)} (h : Meets s c o w u) (hl : ∀ b ∈ l, b.1 < 65536) :
    (∀ x, x < 65536 → (∀ b ∈ l, x ≠ b.1) → (storedAt u c l).reg (Reg.coreMem c x) = s.reg (Reg.coreMem c x))
    ∧ (∀ r, r < 16 → (storedAt u c l).g c r = s.g c r) ∧ (∀ b, (storedAt u c l).byte b = s.byte b)
    ∧ (storedAt u c l).reg (Reg.coreFlags c) = s.reg (Reg.coreFlags c) := by
  have hc := Meets.core_lt h
  have hother {t x : Nat} (hp : t ≠ 366) (hm : t ≠ 382) (lo : 365 ≤ t) (hi : t < 387) (hx : x < 65536) : Same (ireg t c x) s (storedAt u c l) :=
    storedAt_same (coreReg_ne hc hp hx (by decide)) (fun b hb => coreReg_ne hc hm hx (hl b hb)) (Meets.same h lo hi hx)
  have hflags : Same (Reg.coreFlags c) s (storedAt u c l) := hother (by decide) (by decide) (by decide) (by decide) (by decide)
  refine ⟨fun x hx hb => ?_, fun r hr => (hother (by decide) (by decide) (by decide) (by decide) (by omega)).1, fun b => ?_, hflags.1⟩
  · exact (storedAt_same (coreReg_ne hc (by decide) hx (by decide)) (fun b hb' e => hb b hb' (by simpa [ireg] using e)) (Meets.same h (by decide) (by decide) hx)).1
  · rw [State.byte, hflags.2.1, State.byte]

/-- A store to the data memory has that frame, and the bytes it writes read back. -/
theorem storeWord_frame {s u : State} {c w a d : Nat} {o : Pen.Op} (h : Meets s c o w u) (hp : u.corePlace c a 2 = .data) :
    ∃ t, t = storedAt u c [(a, d % 256), (a + 1, d / 256 % 256)] ∧ t.reg (Reg.coreMem c a) = d % 256 ∧ t.reg (Reg.coreMem c (a + 1)) = d / 256 % 256
      ∧ (∀ x, x < 65536 → x ≠ a → x ≠ a + 1 → t.reg (Reg.coreMem c x) = s.reg (Reg.coreMem c x)) ∧ (∀ r, r < 16 → t.g c r = s.g c r)
      ∧ (∀ b, t.byte b = s.byte b) ∧ t.reg (Reg.coreFlags c) = s.reg (Reg.coreFlags c) := by
  have hc := Meets.core_lt h
  have ha := corePlace_data hp
  obtain ⟨hmem, hg, hbyte, hflags⟩ := storedAt_frame (l := [(a, d % 256), (a + 1, d / 256 % 256)]) h (by simp; omega)
  refine ⟨_, rfl, ?_, ?_, fun x hx h0 h1 => hmem x hx (by simp [h0, h1]), hg, hbyte, hflags⟩
  · show State.reg (State.coreNext _ c) _ = _
    rw [State.coreNext, State.coreGo, State.reg_setReg_other _ _ (coreReg_ne hc (by decide) (by omega) (by decide))]
    simp only [List.foldl_cons, List.foldl_nil]
    rw [State.reg_setReg_other _ _ (by simp [ireg]), State.reg_setReg_same]
  · show State.reg (State.coreNext _ c) _ = _
    rw [State.coreNext, State.coreGo, State.reg_setReg_other _ _ (coreReg_ne hc (by decide) (by omega) (by decide))]
    simp only [List.foldl_cons, List.foldl_nil, State.reg_setReg_same]

/-- The same for a store of one byte. -/
theorem storeByte_frame {s u : State} {c w a d : Nat} {o : Pen.Op} (h : Meets s c o w u) (hp : u.corePlace c a 1 = .data) :
    ∃ t, t = storedAt u c [(a, d % 256)] ∧ t.reg (Reg.coreMem c a) = d % 256
      ∧ (∀ x, x < 65536 → x ≠ a → t.reg (Reg.coreMem c x) = s.reg (Reg.coreMem c x)) ∧ (∀ r, r < 16 → t.g c r = s.g c r)
      ∧ (∀ b, t.byte b = s.byte b) ∧ t.reg (Reg.coreFlags c) = s.reg (Reg.coreFlags c) := by
  have hc := Meets.core_lt h
  have ha := corePlace_data hp
  obtain ⟨hmem, hg, hbyte, hflags⟩ := storedAt_frame (l := [(a, d % 256)]) h (by simp; omega)
  refine ⟨_, rfl, ?_, fun x hx h0 => hmem x hx (by simp [h0]), hg, hbyte, hflags⟩
  show State.reg (State.coreNext _ c) _ = _
  rw [State.coreNext, State.coreGo, State.reg_setReg_other _ _ (coreReg_ne hc (by decide) (by omega) (by decide))]
  exact State.reg_setReg_same _ _ _

/-- A store of rd to the data memory. -/
theorem coreStoreFrom_word {u : State} {c r a : Nat} (h : u.corePlace c a 2 = .data) :
    u.coreStoreFrom c r a 2 = storedAt u c [(a, u.g c r % 256), (a + 1, u.g c r / 256 % 256)] := by
  have low : u.g c r % 256 ^ 2 % 256 = u.g c r % 256 := by omega
  have high : u.g c r % 256 ^ 2 / 256 % 256 = u.g c r / 256 % 256 := by omega
  rw [State.coreStoreFrom, coreWrite_word h, low, high]
  rfl

/-- A store of rd's low byte to the data memory. -/
theorem coreStoreFrom_byte {u : State} {c r a : Nat} (h : u.corePlace c a 1 = .data) :
    u.coreStoreFrom c r a 1 = storedAt u c [(a, u.g c r % 256)] := by
  rw [State.coreStoreFrom, coreWrite_byte h, pow_one, Nat.mod_mod]
  rfl

/-- Settles O41: a load or store goes by the place of its address; a store has the frame of the bytes it writes. -/
theorem pennantLoadsAndStores : Obligations.PennantLoadsAndStores := by
  intro s u c w
  refine ⟨fun h hp => (issued_eq h).trans (congrArg _ (coreLoadTo_word hp)), fun h hp => (issued_eq h).trans (congrArg _ (coreLoadTo_byte hp)), fun h hp => ?_,
    fun h hp => ?_, fun k hp => ⟨fun h => (issued_eq h).trans (congrArg _ (coreLoadTo_fault hp)), fun h => (issued_eq h).trans (congrArg _ (coreStoreFrom_fault hp))⟩,
    fun k hp => ⟨fun h => (issued_eq h).trans (congrArg _ (coreLoadTo_fault hp)), fun h => (issued_eq h).trans (congrArg _ (coreStoreFrom_fault hp))⟩⟩
  · obtain ⟨t, ht, frame⟩ := storeWord_frame (d := u.g c (Pen.rd w)) h hp
    exact ⟨t, (issued_eq h).trans (congrArg _ ((coreStoreFrom_word hp).trans ht.symm)), frame⟩
  · obtain ⟨t, ht, frame⟩ := storeByte_frame (d := u.g c (Pen.rd w)) h hp
    exact ⟨t, (issued_eq h).trans (congrArg _ ((coreStoreFrom_byte hp).trans ht.symm)), frame⟩

end Sys2Proof.Laws
end

section
/-!
PROOFS of O45: the event queue of a core (R365).
-/
namespace Sys2Proof.Laws

open Sys2Proof.Machine

/-- The entry of a source once it occurs again: its COUNT one more, up to 15, its DATA the new one. -/
def counted (src data e : Nat) : Nat := if e / 4096 = src then 4096 * src + 256 * min 15 (e / 256 % 16 + 1) + data % 256 else e

/-- The first entry of a source. -/
def queued (src data : Nat) : Nat := 4096 * src + 256 + data % 256

/-- Waking a core leaves its queue. -/
theorem coreQueue_coreWake (s : State) (c d : Nat) : (s.coreWake c).coreQueue d = s.coreQueue d := by
  unfold State.coreWake
  split <;> rfl

/-- The queue of a core after an occurrence of a source. -/
theorem coreQueue_coreEvent (s : State) (c src data : Nat) :
    (s.coreEvent c src data).coreQueue c
      = if ∃ e ∈ s.coreQueue c, e / 4096 = src then (s.coreQueue c).map (counted src data) else s.coreQueue c ++ [queued src data] := by
  have pack (x y : Nat) : src * 4096 + x * 256 + y = 4096 * src + 256 * x + y := by omega
  rw [State.coreEvent, coreQueue_coreWake, State.coreQueue, State.num_setNum_same]
  simp only [List.any_eq_true, beq_iff_eq, pack, pack 1, mul_one]
  rfl

/-- Counting an entry leaves its source. -/
theorem counted_source {src data e : Nat} : counted src data e / 4096 = e / 4096 := by
  unfold counted
  split <;> omega

/-- A new entry has its source. -/
theorem queued_source {src data : Nat} : queued src data / 4096 = src := by
  unfold queued
  omega

/-- The sources of a queue in which a source that has an entry occurs again. -/
theorem map_counted_sources (q : List Nat) (src data : Nat) : (q.map (counted src data)).map (fun e => e / 4096) = q.map (fun e => e / 4096) := by
  simp only [List.map_map, Function.comp_def, counted_source]

/-- Numbers below `n` without repetition are at most `n`. -/
theorem length_le_of_nodup_lt {l : List Nat} {n : Nat} (hl : l.Nodup) (h : ∀ e ∈ l, e < n) : l.length ≤ n := by
  have sub : l ⊆ List.range n := fun e he => List.mem_range.mpr (h e he)
  simpa using (hl.subperm sub).length_le

/-- Settles O45: a source that has an entry is counted in it, another one is appended, so each source keeps at most one entry. -/
theorem eventQueue : Obligations.EventQueue := by
  intro s c src data hsrc
  simp only [coreQueue_coreEvent]
  generalize s.coreQueue c = q
  refine ⟨fun none => ?_, fun some => ?_, fun hnodup hlt => ?_⟩
  · rw [if_neg (by simpa using none)]
    rfl
  · rw [if_pos some]
    refine ⟨map_counted_sources q src data, fun i e he => ?_⟩
    rw [List.getElem?_map, he]
    rfl
  · suffices h : ((if ∃ e ∈ q, e / 4096 = src then q.map (counted src data) else q ++ [queued src data]).map (fun e => e / 4096)).Nodup
        ∧ ∀ e ∈ (if ∃ e ∈ q, e / 4096 = src then q.map (counted src data) else q ++ [queued src data]), e / 4096 < 16 from
      ⟨h.1, h.2, by simpa using length_le_of_nodup_lt h.1 (by simpa using h.2)⟩
    split
    case isTrue some =>
      rw [map_counted_sources]
      refine ⟨hnodup, fun e he => ?_⟩
      obtain ⟨x, hx, rfl⟩ := List.mem_map.mp he
      exact counted_source.trans_lt (hlt x hx)
    case isFalse none =>
      rw [List.map_append, List.map_singleton, queued_source]
      refine ⟨hnodup.append (List.nodup_singleton src) ?_, fun e he => ?_⟩
      · simpa using none
      · rcases List.mem_append.mp he with he | he
        · exact hlt e he
        · rw [List.mem_singleton.mp he, queued_source]
          exact hsrc

end Sys2Proof.Laws
end

section
/-!
PROOFS of O42: control and special registers of the pennant cores, and what handlers, timers, edges, ticks and resets do (chapter 15).
-/
namespace Sys2Proof.Laws

open Sys2Proof.Machine Sys2Proof.Safety

/-! ## Handlers (R367) -/

/-- The state in which core `c` has entered its handler. -/
def entered (s : State) (c : Nat) : State :=
  ((s.setReg (Reg.coreWait c) 0).setRegs [(Reg.coreBlk c, 0), (Reg.coreInPwait c, if s.reg (Reg.coreWait c) = 2 then 1 else s.reg (Reg.coreInPwait c)),
    (Reg.coreEpc c, s.reg (Reg.corePc c)), (Reg.coreEflags c, s.reg (Reg.coreFlags c)),
    (Reg.coreFlags c, clearBit (s.reg (Reg.coreFlags c)) 4)]).coreGo c (s.reg (Reg.coreEvh c))

/-- An awake core with an event due enters its handler. -/
theorem handlerEntry_enters {s : State} {c : Nat} (hup : s.up = true) (hawake : (s.setReg (Reg.coreWait c) 0).coreAwake c = true)
    (hie : s.coreIe c = true) (hdue : s.coreDue c = true) : exec (.handlerEntry c) s = .next (entered s c) := by
  have enters : s.coreEnters c = true := by rw [State.coreEnters, hie, hdue]; rfl
  rw [exec_handlerEntry, execHandlerEntry, whenUp_eq hup, if_neg (by rw [hawake, enters]; decide)]
  rfl

/-- Entering a handler writes registers of the core alone, and none of g0 to g15. -/
theorem entered_frame (s : State) {c : Nat} (hc : c < 32) :
    (entered s c).reg (Reg.coreEpc c) = s.reg (Reg.corePc c) ∧ (entered s c).reg (Reg.coreEflags c) = s.reg (Reg.coreFlags c)
    ∧ (entered s c).reg (Reg.coreFlags c) = clearBit (s.reg (Reg.coreFlags c)) 4 ∧ (entered s c).reg (Reg.corePc c) = s.reg (Reg.coreEvh c) % 4096
    ∧ (entered s c).coreQueue c = s.coreQueue c ∧ (entered s c).mem = s.mem ∧ ∀ r, r < 16 → (entered s c).g c r = s.g c r := by
  refine ⟨?_, ?_, ?_, ?_, rfl, ?_, fun r hr => ?_⟩
  · simp [entered, State.coreGo, State.reg_setReg]
  · simp [entered, State.coreGo, State.reg_setReg]
  · simp [entered, State.coreGo, State.reg_setReg]
  · simp [entered, State.coreGo]
  · simp [entered, State.coreGo]
  · have other {t : Nat} (ht : t ≠ 365) : ireg 365 c r ≠ ireg t c 0 := ireg_ne_of_range ht.symm (by omega) (by omega) (by omega) (by omega)
    have same : Same (Reg.coreG c r) s (entered s c) := by
      simp only [entered, State.coreGo, State.setRegs_cons, State.setRegs_nil]
      iterate 7 refine Same.setReg (other (by decide)) ?_
      exact ⟨rfl, rfl, rfl⟩
    exact same.1

/-! ## Timers, edges and ticks (R364, R371 to R373) -/

/-- A running timer that has come to 0 queues its event, and reloads or stops. -/
theorem timerExpiry_queues {s : State} {c t : Nat} (hup : s.up = true) (hc : c ≤ 31) (ht : t ≤ 3) (hon : bit (s.reg (Reg.coreTmrCtl c t)) 15 = true)
    (hstate : s.reg (Obj.coreState c) ≠ 3) (hnow : s.tmrNow c t = 0) :
    let ctl := s.reg (Reg.coreTmrCtl c t)
    let at' := (s.reg (Reg.coreTmrAt c t) / State.tmrTick ctl + s.reg (Reg.coreTmr c t)) * State.tmrTick ctl
    exec (.timerExpiry c t) s = .next ((if bit ctl 14 = true then s.setRegs [(Reg.coreTmr c t, s.reg (Reg.coreTmrRl c t)), (Reg.coreTmrAt c t, at')]
      else s.setRegs [(Reg.coreTmr c t, 0), (Reg.coreTmrAt c t, s.now), (Reg.coreTmrCtl c t, clearBit ctl 15)]).coreEvent c t 0) := by
  rw [exec_timerExpiry, execTimerExpiry, whenUp_eq hup]
  simp only []
  rw [if_neg (by simp [hon, hstate, hnow]; omega)]

/-- An edge that its detector takes queues its event, or is a tick; a pin of the I/O block is not concerned. -/
theorem edgeDetect_takes {s : State} {c e : Nat} {level : Bool} (hup : s.up = true) (hc : c ≤ 31) (he : e ≤ 7) (hon : bit (s.reg (Reg.coreEdge c e)) 15 = true)
    (hmode : bits (s.reg (Reg.coreEdge c e)) 13 2 = 2 ∨ (bits (s.reg (Reg.coreEdge c e)) 13 2 = 0 ∧ level = true)
      ∨ (bits (s.reg (Reg.coreEdge c e)) 13 2 = 1 ∧ level = false))
    (hpin : Pen.isOwner c = false ∨ 32 ≤ s.reg (Reg.coreEdge c e) % 256) :
    exec (.edgeDetect c e level) s
      = .next (if e = 0 ∧ s.reg (Obj.corePeriodSource c) = 1 then s.coreTick c else s.coreEvent c (4 + e) (b2n level)) := by
  have pin : ¬ (Pen.isOwner c = true ∧ e < 8 ∧ s.reg (Reg.coreEdge c e) % 256 < 32 ∧ (!s.pinIsOut (s.reg (Reg.coreEdge c e) % 256)) = true) := by
    rintro ⟨owner, _, low, _⟩
    rcases hpin with h | h
    · exact absurd owner (by simp [h])
    · omega
  have taken : ¬ (31 < c ∨ 7 < e ∨ (!bit (s.reg (Reg.coreEdge c e)) 15) = true ∨ (!(bits (s.reg (Reg.coreEdge c e)) 13 2 == 2
      || (bits (s.reg (Reg.coreEdge c e)) 13 2 == 0 && level) || (bits (s.reg (Reg.coreEdge c e)) 13 2 == 1 && !level))) = true) := by
    rw [hon]
    rcases hmode with h | ⟨h, rfl⟩ | ⟨h, rfl⟩ <;> simp [h] <;> omega
  rw [exec_edgeDetect, execEdgeDetect, whenUp_eq hup]
  simp only []
  rw [if_neg pin, if_neg taken]

/-- A tick of a core whose period is not the owner's edge. -/
theorem periodTick_ticks {s : State} {c : Nat} (hup : s.up = true) (hsource : s.reg (Obj.corePeriodSource c) ≠ 1 ∨ Pen.isOwner c = false)
    (hdue : (if Pen.isOwner c then s.reg (Obj.corePeriodUs c) else if 16 ≤ c ∧ c < 22 then 1000 else 0) = 0
      ∨ s.now % (1000 * (if Pen.isOwner c then s.reg (Obj.corePeriodUs c) else if 16 ≤ c ∧ c < 22 then 1000 else 0)) = 0) :
    exec (.periodTick c) s = .next (s.coreTick c) := by
  rw [exec_periodTick, execPeriodTick, whenUp_eq hup]
  simp only []
  rw [if_neg]
  rintro (⟨owner, source⟩ | ⟨nonzero, late⟩)
  · rcases hsource with h | h
    · exact h source
    · simp [h] at owner
  · exact hdue.elim nonzero late

/-! ## Resets (R375) -/

/-- No ground to let a reset of core `c` wait is left. -/
theorem coreReset_due {s : State} {c : Nat} (hc : c ≤ 29) (hstate : s.reg (Obj.coreState c) = 4) (hback : s.reg (Reg.coreBack c) ≠ 1)
    (hready : s.reg (Reg.coreReady c) ≠ 1) (hunit : s.reg (Reg.unitState (U.core c)) ≠ 5) :
    ¬ (29 < c ∨ s.reg (Obj.coreState c) ≠ 4 ∨ s.reg (Reg.coreBack c) = 1 ∨ s.reg (Reg.coreReady c) = 1 ∨ s.reg (Reg.unitState (U.core c)) = 5) := by
  simp only [not_or, not_not]
  exact ⟨by omega, hstate, hback, hready, hunit⟩

/-- Settles O42: every instruction acts on the state that has issued it; the other commands end in the branch that their premises leave open. -/
theorem pennantControl : Obligations.PennantControl := by
  refine ⟨fun s u c w => ⟨fun h hcond => (issued_eq h).trans (congrArg _ (if_pos hcond)), fun h hcond => (issued_eq h).trans (congrArg _ (if_neg (by rw [hcond]; decide))),
      issued_eq, issued_eq, issued_eq, issued_eq, issued_eq, issued_eq, issued_eq, issued_eq, issued_eq, issued_eq, issued_eq⟩,
    fun s c hup hawake hie hdue hc => ⟨entered s c, handlerEntry_enters hup hawake hie hdue, entered_frame s hc⟩,
    fun _ _ _ => timerExpiry_queues, fun _ _ _ _ => edgeDetect_takes, fun _ _ => periodTick_ticks, fun s c hup hc hstate hback hready hunit => ?_⟩
  rw [exec_coreReset, execCoreReset, whenUp_eq hup]
  simp only []
  rw [if_neg (coreReset_due hc hstate hback hready hunit)]
  exact ⟨fun h => by rw [if_pos h], fun h => by rw [if_neg (by omega)]⟩

end Sys2Proof.Laws
end

section
/-!
PROOFS of O43, O44 and O46: the block instructions of the pennant cores, element by element (R370, R371), their programs (R363, R376, R380, R381) and the words
that sessions and cores exchange (R366).
-/
namespace Sys2Proof.Laws

open Sys2Proof.Machine Sys2Proof.Safety

/-! ## Block instructions (R370, R371) -/

section Blocks

variable {s u t : State} {c w : Nat} {o : Pen.Op} {f : State → Nat → Except (Nat × Nat) State}

/-- The state once an element of a block instruction has left `t`: g14 falls by 1, and at 0 the core goes on. -/
def elementEnds (c : Nat) (t : State) : State :=
  let t := if t.g c 14 = 0 then t else t.setG c 14 (t.g c 14 - 1)
  if t.g c 14 = 0 then (t.setReg (Reg.coreBlk c) 0).coreNext c else t.setReg (Reg.coreBlk c) 1

/-- With its count at 0 a block instruction ends. -/
theorem block_ends (hcount : u.g c 14 = 0) (h : Meets s c o w u) : s.whenUp (fun s => .next (s.coreBlock c o f)) = .next (u.coreBlockEnd c) := by
  rw [whenUp_eq h.1.1, coreBlock_eq h, State.coreBlockRun, if_pos hcount]

/-- An element that is performed ends. -/
theorem block_element (hcount : u.g c 14 ≠ 0) (h : Meets s c o w u) (hf : f u w = .ok t) :
    s.whenUp (fun s => .next (s.coreBlock c o f)) = .next (elementEnds c t) := by
  rw [whenUp_eq h.1.1, coreBlock_eq h, State.coreBlockRun, if_neg hcount, hf]
  rfl

/-- A fault in an element is the core's, on the registers as they stood before it. -/
theorem block_fault {k a : Nat} (hcount : u.g c 14 ≠ 0) (h : Meets s c o w u) (hf : f u w = .error (k, a)) :
    s.whenUp (fun s => .next (s.coreBlock c o f)) = .next (u.coreFault c k a) := by
  rw [whenUp_eq h.1.1, coreBlock_eq h, State.coreBlockRun, if_neg hcount, hf]

/-- With an event due no element is performed, unless the instruction is under way. -/
theorem block_due (hdue : s.coreEnters c = true) (hblk : s.reg (Reg.coreBlk c) ≠ 1) : s.whenUp (fun s => .next (s.coreBlock c o f)) = .next s := by
  cases hup : s.up
  · exact whenUp_not hup
  · rw [whenUp_eq hup, coreBlock_due hdue hblk]

end Blocks

/-- Settles O43: each clause names what the element answers, and `coreBlockRun` does the rest. -/
theorem pennantBlocks : Obligations.PennantBlocks := by
  refine ⟨fun s u c w hcount => ⟨block_ends hcount, block_ends hcount, block_ends hcount, block_ends hcount⟩,
    fun s u t c w hcount => ⟨fun v x h hread hwrite => block_element hcount h ?_, fun d x h hmay hread => block_element hcount h ?_,
      fun x y a b h hx hy => block_element hcount h ?_,
      fun x v h hread => ⟨fun heq => block_element hcount h ?_, fun hne hlast => block_element hcount h ?_, fun hne hmore => block_element hcount h ?_⟩⟩,
    fun s u c w k a hcount hread => ⟨fun h => block_fault hcount h ?_, fun h => block_fault hcount h ?_, fun h => block_fault hcount h ?_⟩,
    fun s c hdue hblk => ⟨block_due hdue hblk, block_due hdue hblk, block_due hdue hblk, block_due hdue hblk⟩,
    fun s u c w hcount hmay h => block_fault hcount h ?_⟩
  · simp only [hread, hwrite]
  · simp only [hmay, hread, Bool.not_true, Bool.false_eq_true, if_false]
  · simp only [hx, hy]
  · simp only [hread, if_pos heq]
  · simp only [hread, if_neg hne, if_pos hlast]
  · simp only [hread, if_neg hne, if_neg hmore]
  · simp only [hread]
  · simp only [hread]
  · simp only [hread]
  · simp only [hmay, Bool.not_false, if_true]

/-! ## Writes of sessions (R363, R366, R376) -/

/-- A write that the dictionary takes has its effect and is answered. -/
theorem taken_eq {s : State} {n key : Nat} {v : Bytes} {f : State → State} (h : Takes s n key v) :
    s.whenUp (fun s => .next (s.written n key v f)) = .next (answered s n 2 key (f (s.heard n))) := by
  rw [whenUp_eq h.1.1, written_eq h]

/-- A word for a core whose `mbx` is unread is answered BUSY. -/
theorem mailboxWrite_busy {s : State} {c : Nat} {d : Bytes} (h : s.reg (Reg.coreMbxNew c) = 1) : s.mailboxWrite c d = s.reply St.busy := if_pos h

/-- A word for a core whose `mbx` has been read is taken, and queues its event. -/
theorem mailboxWrite_taken {s : State} {c : Nat} {d : Bytes} (h : s.reg (Reg.coreMbxNew c) ≠ 1) :
    s.mailboxWrite c d = ((s.setRegs [(Reg.coreMbx c, leNat d), (Reg.coreMbxNew c, 1)]).coreEvent c 12 (leNat d % 256)).reply St.ok := if_neg h

/-- Settles O46: MailboxIn goes by whether `mbx` is unread, SEND by the world of the peer and whether its `peerin` is unread. -/
theorem coreMessages : Obligations.CoreMessages := by
  refine ⟨fun s n c v h => ⟨fun busy => (taken_eq h).trans (by rw [mailboxWrite_busy busy]), fun free => (taken_eq h).trans (by rw [mailboxWrite_taken free])⟩,
    fun s u c w h => ⟨fun hp hworld hfree => (issued_eq h).trans (congrArg _ ?_), fun hp hworld hfull => (issued_eq h).trans (congrArg _ ?_),
      fun other => (issued_eq h).trans (congrArg _ (if_pos other)), bit_withZ_zero _ true, bit_withZ_zero _ false⟩⟩
  · exact (if_neg (not_or.mpr ⟨hp.not_gt, not_not.mpr hworld⟩)).trans (if_neg hfree)
  · exact (if_neg (not_or.mpr ⟨hp.not_gt, not_not.mpr hworld⟩)).trans (if_pos hfull)

/-! ## Programs (R363, R376) -/

/-- An image of a bank that is not free is refused with its status. -/
theorem stageWrite_refused {s : State} {c : Nat} {d : Bytes} (h : s.bankFree c ≠ St.ok) : s.stageWrite c d = s.reply (s.bankFree c) := if_pos h

/-- An image of a free bank is staged in it. -/
theorem stageWrite_staged {s : State} {c : Nat} {d : Bytes} (h : s.bankFree c = St.ok) :
    s.stageWrite c d = (((s.setFifo (Fifo.image c (s.idleBank c)) [d]).setReg (State.bankKey c (s.idleBank c)) 1).setVersion c (s.idleBank c)
      (Pen.version d)).reply St.ok := if_neg (not_not.mpr h)

/-- A bank that is not free is not verified. -/
theorem verifyProgram_refused {s : State} {c : Nat} {sigOk : Bool} (h : s.bankFree c ≠ St.ok) : s.verifyProgram c sigOk = s.verdict c (s.bankFree c) 0 :=
  if_pos h

/-- An image whose signature does not verify fails at it. -/
theorem verifyProgram_unsigned {s : State} {c : Nat} (h : s.bankFree c = St.ok) :
    s.verifyProgram c false = s.verdict c St.penImageSig ((s.image c (s.idleBank c)).length - 96) :=
  (if_neg (not_not.mpr h)).trans (if_pos (.inr (.inl rfl)))

/-- A signed image is verified or staged as its verification answers. -/
theorem verifyProgram_signed {s : State} {c st off : Nat} (h : s.bankFree c = St.ok) (hlen : 104 ≤ (s.image c (s.idleBank c)).length)
    (hkey : 0x10 ≤ bytesAt (s.image c (s.idleBank c)) ((s.image c (s.idleBank c)).length - 104) 1)
    (hlive : s.keyLive (bytesAt (s.image c (s.idleBank c)) ((s.image c (s.idleBank c)).length - 104) 1) = true)
    (hverify : Pen.verify (s.image c (s.idleBank c)) 5 (s.floorOf 4) = (st, off)) :
    s.verifyProgram c true = if st = St.ok then (s.setReg (State.bankKey c (s.idleBank c)) 2).verdict c St.ok 0
      else (s.setReg (State.bankKey c (s.idleBank c)) 1).verdict c st off := by
  rw [State.verifyProgram, if_neg (not_not.mpr h)]
  simp only [hverify]
  rw [if_neg (by simp [hlen, hkey, hlive])]

/-- A free bank is emptied where it holds a program. -/
theorem emptyProgram_free {s : State} {c : Nat} (h : s.bankFree c = St.ok) :
    s.emptyProgram c = (if s.bankState c (s.idleBank c) = 1 ∨ s.bankState c (s.idleBank c) = 2 then s.emptyBank c (s.idleBank c) else s).verdict c St.ok 0 :=
  if_neg (not_not.mpr h)

/-- Settles O44: each write of a program goes by whether its bank is free; the pair restarts and is ready while it is not halted. -/
theorem programs : Obligations.Programs := by
  refine ⟨fun s n c v h => ⟨fun free => (taken_eq h).trans (by rw [stageWrite_staged free]), fun busy => (taken_eq h).trans (by rw [stageWrite_refused busy])⟩,
    fun s n c sigOk h => ⟨fun busy => (taken_eq h).trans (by rw [verifyProgram_refused busy]), ?_, ?_⟩,
    fun s n c h free => (taken_eq h).trans (by rw [emptyProgram_free free]), fun s hup hhalted => ⟨fun hdown => ?_, fun hdown => ?_⟩⟩
  · rintro free rfl
    exact (taken_eq h).trans (by rw [verifyProgram_unsigned free])
  · rintro free rfl hlen hkey hlive st off hverify
    refine (taken_eq h).trans ?_
    rw [verifyProgram_signed free hlen hkey hlive hverify]
  · rw [exec_ensLockstep, execEnsLockstep, whenUp_eq hup, if_neg (not_or.mpr ⟨hdown, hhalted⟩)]
  · rw [exec_ensPairRestarted, execEnsPairRestarted, whenUp_eq hup, if_neg (not_or.mpr ⟨hdown, hhalted⟩)]

end Sys2Proof.Laws
end

section
/-!
PROOFS of O48: the alive counters of check units (R387, R388).
-/
namespace Sys2Proof.Laws

open Sys2Proof.Machine

/-- The step to a value that is `d` beyond the last is `d`, for `d` from 1 up to the whole range. -/
theorem aliveStep_add {w p d : Nat} (hp : p < 2 ^ w) (h1 : 1 ≤ d) (hd : d ≤ 2 ^ w) : Chk.aliveStep w ((p + d) % 2 ^ w) p = d := by
  have hpos : 0 < 2 ^ w := Nat.two_pow_pos w
  rw [Chk.aliveStep]
  generalize 2 ^ w = m at *
  rcases Nat.lt_or_ge (p + d) m with h | h
  · have e : p + d + 2 * m - p - 1 = d - 1 + m * 2 := by omega
    rw [Nat.mod_eq_of_lt h, e, Nat.add_mul_mod_self_left, Nat.mod_eq_of_lt (by omega)]
    omega
  · have r : (p + d) % m = p + d - m := by rw [Nat.mod_eq_sub_mod h, Nat.mod_eq_of_lt (by omega)]
    have e : p + d - m + 2 * m - p - 1 = d - 1 + m := by omega
    rw [r, e, Nat.add_mod_right, Nat.mod_eq_of_lt (by omega)]
    omega

/-- The step to a value that repeats the last is the whole range. -/
theorem aliveStep_self {w p : Nat} (hp : p < 2 ^ w) : Chk.aliveStep w p p = 2 ^ w := by
  have := aliveStep_add hp Nat.one_le_two_pow (le_refl (2 ^ w))
  rwa [Nat.add_mod_right, Nat.mod_eq_of_lt hp] at this

section Streams

variable {s : State} {u tag w v k : Nat}

/-- With eight other tags in use no ninth is taken. -/
theorem aliveCheck_full (h : s.chkSlot u tag = none) : s.aliveCheck u tag w v = (s, St.limitReached) := by
  rw [State.aliveCheck, h]

/-- The first value of a stream is accepted. -/
theorem aliveCheck_first (h : s.chkSlot u tag = some k) (hlast : s.reg (Reg.chkLast u k) = 0) : (s.aliveCheck u tag w v).2 = St.ok := by
  rw [State.aliveCheck, h]
  simp only [if_pos hlast]

/-- A step within the gap is accepted. -/
theorem aliveCheck_within (h : s.chkSlot u tag = some k) (hlast : s.reg (Reg.chkLast u k) ≠ 0)
    (hstep : Chk.aliveStep w v (s.aliveLast u k) ≤ s.reg (Obj.chkAliveGap u)) : (s.aliveCheck u tag w v).2 = St.ok := by
  rw [State.aliveCheck, h]
  simp only [if_neg hlast, if_pos hstep]

/-- A step beyond the gap is refused, as a repeat where it is the whole range. -/
theorem aliveCheck_beyond (h : s.chkSlot u tag = some k) (hlast : s.reg (Reg.chkLast u k) ≠ 0)
    (hstep : s.reg (Obj.chkAliveGap u) < Chk.aliveStep w v (s.aliveLast u k)) :
    s.aliveCheck u tag w v = (s, if Chk.aliveStep w v (s.aliveLast u k) = 2 ^ w then St.chkAliveRepeat else St.chkAliveGap) := by
  rw [State.aliveCheck, h]
  simp only [if_neg hlast, if_neg hstep.not_ge]
  split <;> rfl

end Streams

/-- Settles O48: the checker goes by the step, which is `d` for a value `d` beyond the last and the whole range for a repeat. -/
theorem aliveChecks : Obligations.AliveChecks := by
  intro s u tag w v k
  refine ⟨aliveCheck_full, fun hslot _ hp => ⟨aliveCheck_first hslot, fun hlast hgap => ⟨?_, fun d h1 hd hv => ⟨?_, ?_⟩⟩⟩⟩
  · rintro rfl
    have step := aliveStep_self hp
    rw [aliveCheck_beyond hslot hlast (step.symm ▸ hgap), if_pos step]
  · intro hle
    exact aliveCheck_within hslot hlast (by rwa [hv, aliveStep_add hp h1 hd.le])
  · intro hlt
    have step : Chk.aliveStep w v (s.aliveLast u k) = d := by rw [hv, aliveStep_add hp h1 hd.le]
    rw [aliveCheck_beyond hslot hlast (step.symm ▸ hlt), step, if_neg hd.ne]

end Sys2Proof.Laws
end

section
/-!
PROOFS of O49 and O50: the jobs of the crypto engine (R397 to R401), the security unit and its key operations (R391, R393, R394, R400, R402, R404).
-/
namespace Sys2Proof.Laws

open Sys2Proof.Machine Sys2Proof.Safety

/-! ## Jobs (R397 to R401) -/

/-- A session that has a job is answered BUSY. -/
theorem cryptoWrite_busy {s : State} {n op : Nat} (h : s.jobOf n ≠ none) : s.cryptoWrite n op = s.reply St.busy := by
  have some : (s.jobOf n).isSome = true := Option.isSome_iff_ne_none.mpr h
  simp only [State.cryptoWrite, if_pos some]

/-- A write of CryptoOp for a session with a job is answered BUSY, and posted. -/
theorem cryptoOp_busy {s : State} {n op : Nat} (h : Takes s n Obj.cryptoOp (leBytes 1 op)) (hjob : (s.heard n).jobOf n ≠ none) :
    cryptoOp n op s = answered s n 2 Obj.cryptoOp ((s.heard n).reply St.busy) := by
  rw [cryptoOp, written_eq h, cryptoWrite_busy hjob]

/-- Session 1, of class HAL, has a job, and the set-up mailbox of instance 0 carries its requests. -/
def mailboxJob : State :=
  { State.reset.setRegs [(Obj.powerState, 3), (Reg.halServing, 1), (Reg.sessOpen 1, 1), (Reg.sessTransport 1, 5), (Reg.sessPort 1, 0), (Reg.mbSeq 0, 0)] with
    jobs := [⟨1, 0, true, 1, 0, 0, [], false, false, 0, 0, 0⟩] }

/-- Its write of CryptoOp is one that the dictionary takes. -/
theorem takes_mailboxJob : Takes mailboxJob 1 Obj.cryptoOp (leBytes 1 1) := by decide +kernel

/-- It has a job. -/
theorem jobOf_mailboxJob : (mailboxJob.heard 1).jobOf 1 ≠ none := by decide +kernel

/-- The mailbox shows the number of the request it has answered. -/
theorem mbSeq_mailboxJob :
    (answered mailboxJob 1 2 Obj.cryptoOp ((mailboxJob.heard 1).reply St.busy)).reg (Reg.mbSeq 0) ≠ ((mailboxJob.heard 1).reply St.busy).reg (Reg.mbSeq 0) := by
  decide +kernel

/-- Refutes O49: the clause on a session that has a job leaves out the answer's posting, so it fails where a mailbox carries the session's requests (R130):
`mailboxJob` is answered BUSY, and its mailbox shows the answer. -/
theorem not_cryptoJobs : ¬ Obligations.CryptoJobs := by
  rintro ⟨_, busy, _⟩
  have posted := busy mailboxJob 1 1 takes_mailboxJob jobOf_mailboxJob
  rw [cryptoOp_busy takes_mailboxJob jobOf_mailboxJob] at posted
  exact mbSeq_mailboxJob (congrArg (fun t : State => t.reg (Reg.mbSeq 0)) posted)

/-! ## The security unit (R391, R393, R394, R404) -/

/-- A ticket that its checks pass changes the owner, and OwnerStatus keeps its status. -/
theorem ownerWrite_passed {s : State} {sigOk : Bool} (h : s.ticketStatus (decDomain (s.reg Obj.ownerTicket)) sigOk = St.ok) :
    s.ownerWrite sigOk = ((s.ticketRun (decDomain (s.reg Obj.ownerTicket))).setReg Obj.ownerStatus St.ok).reply St.ok := by
  rw [State.ownerWrite]
  simp only [h, if_true]

/-- A ticket that its checks refuse changes nothing but OwnerStatus. -/
theorem ownerWrite_refused {s : State} {sigOk : Bool} (h : s.ticketStatus (decDomain (s.reg Obj.ownerTicket)) sigOk ≠ St.ok) :
    s.ownerWrite sigOk = (s.setReg Obj.ownerStatus (s.ticketStatus (decDomain (s.reg Obj.ownerTicket)) sigOk)).reply
      (s.ticketStatus (decDomain (s.reg Obj.ownerTicket)) sigOk) := by
  rw [State.ownerWrite]
  simp only [if_neg h]

/-- A ticket whose signature does not verify is invalid. -/
theorem ticketStatus_unsigned {s : State} {d : Bytes} (h : s.reg Obj.lifecycleState ≠ 4) : s.ticketStatus d false = St.ownerTicketInvalid := by
  rw [State.ticketStatus]
  simp only [if_neg h, Bool.not_false, true_or, or_true, if_true]

/-- An advance of the lifecycle goes by its status. -/
theorem lifecycleAdvance_eq {s : State} {n : Nat} (h : Serves s n) (hp : (s.heard n).reg (Reg.sessPending n) ≠ 1) :
    exec (.lifecycleAdvance n) s = .next (answered s n 2 Obj.lifecycleState
      (if (s.heard n).lifecycleStatus n ≠ St.ok then (s.heard n).reply ((s.heard n).lifecycleStatus n)
        else ((s.heard n).lifecycleTo ((s.heard n).reg Obj.lifecycleState + 1)).reply St.ok)) := by
  rw [exec_lifecycleAdvance, execLifecycleAdvance, whenUp_eq h.1, request_eq h hp]

/-- A report that can be signed is signed with the identity key. -/
theorem attestWrite_signed {s : State} {n : Nat} (h : s.signStatus = St.ok) :
    s.attestWrite n = ((s.identitySign (s.attestBody n)).2.setRegs
      [(skey n Obj.attestStatus, St.ok), (skey n Obj.attestReport, encDomain (s.attestBody n ++ (s.identitySign (s.attestBody n)).1))]).reply St.ok := by
  rw [State.attestWrite]
  simp only [h, ne_eq, not_true, if_false]

/-! ## Key operations (R400, R402) -/

section Keys

variable {s : State} {n w : Nat}

/-- A write of KeyOp that the dictionary takes. -/
theorem keyOperation_eq {op : Nat} (h : Keys s n op) :
    s.whenUp (fun s => .next (keyOperation n w op s)) = .next (answered s n 2 Obj.keyOp ((s.heard n).keyOpWrite n w op)) := taken_eq h

/-- The state once a key has entered the slot that KeySlot names, under the holder it has or is granted. -/
def keyEntered (t : State) (n w key pub : Nat) : State :=
  (t.slotPut (t.reg (skey n Obj.keySlot)) (t.slotOwner (t.reg (skey n Obj.keySlot)) w) (t.reg (skey n Obj.keyKind)) (t.reg (skey n Obj.keyUsage)) key pub).keyAnswer n St.ok

/-- A key enters a slot that may be written. -/
theorem keyPut_ok {key pub : Nat} (h : s.slotWritable (s.reg (skey n Obj.keySlot)) = St.ok) : s.keyPut n w St.ok key pub = keyEntered s n w key pub :=
  (if_neg (not_not.mpr h)).trans (if_neg (not_not.mpr rfl))

/-- A generated key of kinds 1 to 3 enters its slot. -/
theorem keyGenerate_enters (h1 : 1 ≤ s.reg (skey n Obj.keyKind)) (h3 : s.reg (skey n Obj.keyKind) ≤ 3) (hrng : s.reg Reg.rngStopped ≠ 1)
    (hslot : s.tick.slotWritable (s.tick.reg (skey n Obj.keySlot)) = St.ok) :
    s.keyGenerate n w = keyEntered s.tick n w (Key.generated (s.reg (skey n Obj.keyKind)) s.fresh).1 (Key.generated (s.reg (skey n Obj.keyKind)) s.fresh).2 := by
  have kind : ¬ (s.reg (skey n Obj.keyKind) = 0 ∨ 3 < s.reg (skey n Obj.keyKind)) := by omega
  exact (if_neg kind).trans ((if_neg hrng).trans (keyPut_ok hslot))

/-- A plain key that the session may import enters its slot. -/
theorem keyPlain_enters {key pub : Nat} (hmay : s.mayPlain n = true) (hslot : s.slotWritable (s.reg (skey n Obj.keySlot)) = St.ok)
    (hkey : Key.imported (s.reg (skey n Obj.keyKind)) (decDomain (s.reg (skey n Obj.keyData))) = (St.ok, key, pub)) :
    s.keyPlain n w = keyEntered s n w key pub := by
  rw [State.keyPlain, if_neg (by rw [hmay]; decide), hkey]
  exact keyPut_ok hslot

/-- A plain key that the session may not import is refused. -/
theorem keyPlain_denied (hmay : s.mayPlain n = false) : s.keyPlain n w = s.keyAnswer n St.accessDenied := by
  rw [State.keyPlain, if_pos (by rw [hmay]; decide)]

/-- A key wrapped under a key of the session's world that may wrap enters its slot once it is unwrapped. -/
theorem keyWrapped_enters {key pub : Nat} {d : Bytes} (hlt : s.reg (skey n Obj.cryptoSlot) < 32) (hsealed : s.slotSealed (s.reg (skey n Obj.cryptoSlot)) = false)
    (hstate : s.reg (Obj.slotState (s.reg (skey n Obj.cryptoSlot))) = 1)
    (hholder : s.reg (Obj.slotHolder (s.reg (skey n Obj.cryptoSlot))) = s.reg (Reg.sessWorld n))
    (hkind : s.reg (Obj.slotKind (s.reg (skey n Obj.cryptoSlot))) = 1) (husage : bit (s.reg (Obj.slotUsage (s.reg (skey n Obj.cryptoSlot)))) 6 = true)
    (hinput : Crypto.inputOk 0x11 1 (decDomain (s.reg (skey n Obj.keyData))) = true) (hslot : s.slotWritable (s.reg (skey n Obj.keySlot)) = St.ok)
    (hopen : Crypto.result 0x11 1 (s.reg (Reg.slotKey (s.reg (skey n Obj.cryptoSlot)))) 0 (decDomain (s.reg (skey n Obj.keyData))) 0 = (St.ok, d))
    (hkey : Key.imported (s.reg (skey n Obj.keyKind)) d = (St.ok, key, pub)) : s.keyWrapped n w = keyEntered s n w key pub := by
  have filled : ¬ (32 ≤ s.reg (skey n Obj.cryptoSlot) ∨ s.reg (Obj.slotState (s.reg (skey n Obj.cryptoSlot))) = 0) := by rw [hstate]; omega
  have settled : ¬ s.reg (Obj.slotState (s.reg (skey n Obj.cryptoSlot))) = 2 := by rw [hstate]; decide
  have wraps : ¬ (s.reg (Obj.slotHolder (s.reg (skey n Obj.cryptoSlot))) ≠ s.reg (Reg.sessWorld n) ∨ s.reg (Obj.slotKind (s.reg (skey n Obj.cryptoSlot))) ≠ 1
      ∨ (!bit (s.reg (Obj.slotUsage (s.reg (skey n Obj.cryptoSlot)))) 6) = true) := by rw [hholder, hkind, husage]; simp
  rw [State.keyWrapped]
  simp only []
  rw [if_neg (by rw [hsealed]; decide), if_neg filled, if_neg settled, if_neg wraps, if_neg (by rw [hinput]; decide), hopen]
  simp only [hkey]
  exact (if_neg (not_not.mpr rfl)).trans (keyPut_ok hslot)

/-- A sealed slot is not erased. -/
theorem keyErase_sealed (h : s.slotSealed (s.reg (skey n Obj.keySlot)) = true) : s.keyErase n = s.keyAnswer n St.identityUnavailable := if_pos h

/-- An EMPTY slot is answered KEY_EMPTY. -/
theorem keyErase_empty (h : s.slotSealed (s.reg (skey n Obj.keySlot)) = false) (hempty : s.reg (Obj.slotState (s.reg (skey n Obj.keySlot))) = 0) :
    s.keyErase n = s.keyAnswer n St.keyEmpty := (if_neg (by rw [h]; decide)).trans (if_pos hempty)

/-- An occupied slot is erased, at once or when its jobs have ended. -/
theorem keyErase_erases (h : s.slotSealed (s.reg (skey n Obj.keySlot)) = false) (hfull : s.reg (Obj.slotState (s.reg (skey n Obj.keySlot))) ≠ 0) :
    s.keyErase n = (s.slotErase (s.reg (skey n Obj.keySlot)) (s.sessDest n + 1)).keyAnswer n St.ok := (if_neg (by rw [h]; decide)).trans (if_neg hfull)

end Keys

/-- Settles O50: each write of the security unit and of KeyOp goes by its status; the two differ in no other way from `ownerWrite` and `keyOpWrite`. -/
theorem securityUnit : Obligations.SecurityUnit := by
  refine ⟨⟨fun s n sigOk h => ⟨fun ok => (taken_eq h).trans (by rw [ownerWrite_passed ok]), fun bad => (taken_eq h).trans (by rw [ownerWrite_refused bad]), ?_⟩,
      fun s n h hp => ⟨fun ok => ?_, fun bad => ?_⟩, fun s n h ok => (taken_eq h).trans (by rw [attestWrite_signed ok])⟩,
    fun s n w => ⟨fun h h1 h3 hrng hslot => (keyOperation_eq h).trans (congrArg _ (congrArg _ (keyGenerate_enters h1 h3 hrng hslot))),
      fun h hmay hslot key pub hkey => (keyOperation_eq h).trans (congrArg _ (congrArg _ (keyPlain_enters hmay hslot hkey))),
      fun h hmay => (keyOperation_eq h).trans (congrArg _ (congrArg _ (keyPlain_denied hmay))),
      fun h hlt hsealed hstate hholder hkind husage hinput hslot d key pub hopen hkey => (keyOperation_eq h).trans
        (congrArg _ (congrArg _ (keyWrapped_enters hlt hsealed hstate hholder hkind husage hinput hslot hopen hkey))),
      fun h hsealed => (keyOperation_eq h).trans (congrArg _ (congrArg _ (keyErase_sealed hsealed))),
      fun h hsealed => ⟨fun hempty => (keyOperation_eq h).trans (congrArg _ (congrArg _ (keyErase_empty hsealed hempty))),
        fun hfull => (keyOperation_eq h).trans (congrArg _ (congrArg _ (keyErase_erases hsealed hfull)))⟩⟩⟩
  · rintro rfl hstate
    exact ticketStatus_unsigned hstate
  · rw [lifecycleAdvance_eq h hp, if_neg (not_not.mpr ok)]
  · rw [lifecycleAdvance_eq h hp, if_pos bad]

end Sys2Proof.Laws
end

section
/-!
PROOFS of O54, O57, O58 and O59: the hold-up configuration (R445), counting and the counters as sessions see them (R473 to R481), the connectors (R498, R503).
-/
namespace Sys2Proof.Laws

open Sys2Proof.Machine Sys2Proof.Safety

/-! ## The hold-up configuration (R445) -/

section Holdup

variable {s : State} {sub v : Nat}

/-- The heads that a value of HoldupHeads names. -/
def namedHeads (v : Nat) : List Nat := (List.range 8).filter (fun k => bit v k)

/-- A value of HoldupHeads is beyond the budget of hold-up. -/
def overBudget (s : State) (v : Nat) : Prop := 2 < (namedHeads v).length ∨ (namedHeads v).any (fun k => decide (600000 < s.reg (Obj.pixelClockKhz k))) = true

/-- Outside SERVICE a write of the hold-up configuration is answered BUSY. -/
theorem holdupWrite_busy (h : s.reg Obj.powerState ≠ 3) : s.holdupWrite sub v = s.reply St.busy := if_pos h

/-- Heads beyond the budget are refused. -/
theorem holdupWrite_budget (h : s.reg Obj.powerState = 3) (hheads : overBudget s v) : s.holdupWrite 1 v = s.reply St.pwrHoldupBudget :=
  (if_neg (not_not.mpr h)).trans (if_pos ⟨rfl, hheads⟩)

/-- Any other value is taken, of RemoteOffInput a pin that is no output or none. -/
theorem holdupWrite_taken (h : s.reg Obj.powerState = 3) (hheads : sub = 1 → ¬ overBudget s v) (hpin : sub = 3 → v = 0xFF ∨ s.pinIsOut v = false) :
    s.holdupWrite sub v = (s.setReg (okey 0x301 sub) v).reply St.ok := by
  have pin : ¬ (sub = 3 ∧ v ≠ 0xFF ∧ s.pinIsOut v = true) := by
    rintro ⟨h3, hff, hout⟩
    rcases hpin h3 with e | e
    · exact hff e
    · rw [e] at hout
      exact absurd hout (by decide)
  exact (if_neg (not_not.mpr h)).trans ((if_neg fun named => hheads named.1 named.2).trans (if_neg pin))

end Holdup

/-- A write of the hold-up configuration that the dictionary takes. -/
theorem holdupConfigWrite_eq {s : State} {n sub : Nat} {v : Bytes} (hsub : sub = 1 ∨ sub = 3 ∨ sub = 4) (h : Takes s n (okey 0x301 sub) v) :
    exec (.holdupConfigWrite n sub v) s = .next (answered s n 2 (okey 0x301 sub) ((s.heard n).holdupWrite sub (leNat v))) := by
  rw [exec_holdupConfigWrite, execHoldupConfigWrite, if_neg (by omega), written_eq h]

/-- Settles O54: a write goes by PowerState, then by the budget of the heads it names or by the pin it names. -/
theorem holdupConfiguration : Obligations.HoldupConfiguration := by
  intro s n sub v hsub h
  have eq := holdupConfigWrite_eq hsub h
  refine ⟨fun hpower => eq.trans (by rw [holdupWrite_busy hpower]), ?_, ?_, ?_, ?_, ?_⟩
  · rintro hpower rfl hover
    exact eq.trans (by rw [holdupWrite_budget hpower hover])
  · rintro hpower rfl hfew hslow
    have within : ¬ overBudget (s.heard n) (leNat v) := not_or.mpr ⟨hfew.not_gt, fun fast => Bool.false_ne_true (hslow.symm.trans fast)⟩
    exact eq.trans (by rw [holdupWrite_taken hpower (fun _ => within) (by omega)])
  · rintro hpower rfl
    exact eq.trans (by rw [holdupWrite_taken hpower (by omega) (by omega)])
  · rintro hpower rfl hpin
    have taken := holdupWrite_taken (sub := 3) hpower (by omega) fun _ => hpin
    exact ⟨eq.trans (by rw [taken]), (taken_eq h).trans (by rw [taken])⟩
  · rintro rfl hpower
    exact (taken_eq h).trans (by rw [holdupWrite_busy hpower])

/-! ## Counting (R473, R475) -/

/-- A state differs from another in its registers alone. -/
def OnlyRegs (s t : State) : Prop := ∃ r, t = { s with regs := r }

/-- A state differs in nothing from itself. -/
theorem OnlyRegs.refl (s : State) : OnlyRegs s s := ⟨s.regs, rfl⟩

/-- Writing a register changes the registers alone. -/
theorem OnlyRegs.setReg {s t : State} (h : OnlyRegs s t) (k v : Nat) : OnlyRegs s (t.setReg k v) := by
  obtain ⟨r, rfl⟩ := h
  exact ⟨_, rfl⟩

/-- Either branch of a choice changes the registers alone. -/
theorem OnlyRegs.ite {s t u : State} {c : Prop} [Decidable c] (ht : OnlyRegs s t) (hu : OnlyRegs s u) : OnlyRegs s (if c then t else u) := by
  split
  · exact ht
  · exact hu

/-- So do steps of a loop each of which does. -/
theorem OnlyRegs.foldl {α : Type} {s : State} {f : State → α → State} (hf : ∀ t a, OnlyRegs s t → OnlyRegs s (f t a)) (l : List α) :
    ∀ t, OnlyRegs s t → OnlyRegs s (l.foldl f t) := by
  induction l with
  | nil => exact fun _ ht => ht
  | cons a l ih => exact fun t ht => ih _ (hf t a ht)

/-- Adding to a counter changes the registers alone. -/
theorem counterRaw_onlyRegs {s t : State} (k n : Nat) (h : OnlyRegs s t) : OnlyRegs s (t.counterRaw k n) :=
  OnlyRegs.foldl (fun _ _ ht => .ite (ht.setReg _ _) ht) _ _ (.ite (h.setReg _ _) ((h.setReg _ _).setReg _ _))

/-- Counting changes the registers alone. -/
theorem count_onlyRegs (s : State) (k n : Nat) : OnlyRegs s (s.count k n) :=
  have raw := counterRaw_onlyRegs k _ ((OnlyRegs.refl s).setReg _ _)
  .ite (.refl s) (.ite (counterRaw_onlyRegs _ _ raw) raw)

/-- The samplers of a counter write registers of their own. -/
theorem counterRaw_reg {s : State} {k n j : Nat} (h : ∀ i, i < 4 → j ≠ Reg.sampCount i) :
    (s.counterRaw k n).reg j = (if s.reg (Reg.counter k) + n < 0x100000000 then s.setReg (Reg.counter k) ((s.reg (Reg.counter k) + n) % 0x100000000)
      else (s.setReg (Reg.counter k) ((s.reg (Reg.counter k) + n) % 0x100000000)).setReg Obj.overflowFlags
        ((s.setReg (Reg.counter k) ((s.reg (Reg.counter k) + n) % 0x100000000)).reg Obj.overflowFlags ||| 2 ^ k)).reg j := by
  have fold : ∀ (l : List Nat) (t : State), (∀ i ∈ l, i < 4) →
      (l.foldl (fun s i => if s.reg (Reg.sampOn i) = k + 1 then s.setReg (Reg.sampCount i) (s.reg (Reg.sampCount i) + n) else s) t).reg j = t.reg j := by
    intro l
    induction l with
    | nil => exact fun _ _ => rfl
    | cons i l ih =>
      intro t hl
      refine (ih _ fun x hx => hl x (.tail _ hx)).trans ?_
      simp only []
      split
      · exact State.reg_setReg_other _ _ (h i (hl i (.head _)))
      · rfl
  exact fold _ _ fun i hi => List.mem_range.mp hi

/-- The counter wraps at 32 bits. -/
theorem counterRaw_counter {s : State} {k n : Nat} (hk : k ≤ 719) :
    (s.counterRaw k n).reg (Reg.counter k) = (s.reg (Reg.counter k) + n) % 0x100000000 := by
  rw [counterRaw_reg fun i hi => ireg_ne_of_range (by decide) (by omega) (by omega) (by decide) (by decide)]
  split
  · exact State.reg_setReg_same _ _ _
  · rw [State.reg_setReg_other _ _ (okey_ne_ireg (by decide) (by decide)).symm, State.reg_setReg_same]

/-- A wrap sets the counter's overflow bit. -/
theorem counterRaw_overflow {s : State} {k n : Nat} (h : 0x100000000 ≤ s.reg (Reg.counter k) + n) :
    bit ((s.counterRaw k n).reg Obj.overflowFlags) k = true := by
  rw [counterRaw_reg fun i _ => okey_ne_ireg (by decide) (by decide), if_neg h.not_gt, State.reg_setReg_same, bit, Nat.testBit_or, Nat.testBit_two_pow_self,
    Bool.or_true]

/-- Events of a counter of scale 1 with no rest, in no chain, are added to it. -/
theorem count_unchained {s : State} {k n : Nat} (hn : n ≠ 0) (hscale : State.counterScale k = 1) (hres : s.reg (Reg.counterRes k) = 0)
    (hbelow : k = 0 ∨ s.chained (k - 1) = false) (hchain : s.chained k = false) : s.count k n = (s.setReg (Reg.counterRes k) 0).counterRaw k n := by
  have counts : ¬ (n = 0 ∨ (0 < k ∧ s.chained (k - 1) = true)) := by
    rintro (h | ⟨hk, hc⟩)
    · exact hn h
    · rcases hbelow with h | h
      · omega
      · rw [h] at hc
        exact absurd hc (by decide)
  have mask : ((s.setReg (Reg.counterRes k) 0).counterRaw k n).chained k = false := by
    rw [State.chained] at hchain ⊢
    have same := State.counterRaw_same (k := k) (n := n) (okey_ne_ireg (by decide) (by decide)) (by decide) (fun i _ => okey_ne_ireg (by decide) (by decide))
      (Same.setReg (v := 0) (j := Reg.counterRes k) (okey_ne_ireg (by decide) (by decide)) (⟨rfl, rfl, rfl⟩ : Same Obj.chainMask s s))
    rw [same.1, hchain]
  rw [State.count, if_neg counts]
  simp only [hscale, hres, Nat.zero_add, Nat.div_one, Nat.mod_one]
  rw [if_neg (by rw [mask]; simp)]

/-- The upper counter of a chain does not count its own events. -/
theorem count_upper {s : State} {k n : Nat} (hk : 0 < k) (h : s.chained (k - 1) = true) : s.count k n = s := if_pos (.inr ⟨hk, h⟩)

/-- Settles O58: an unchained counter of scale 1 adds its events and wraps, and counting changes the registers alone. -/
theorem counting : Obligations.Counting := by
  refine ⟨fun s k n => count_upper, fun s k n hk hscale hres hbelow hchain => ⟨?_, fun hwrap hn => ?_⟩, fun s k n => ?_⟩
  · split
    case isTrue hn => rw [State.count, if_pos (.inl hn)]
    case isFalse hn =>
      rw [count_unchained hn hscale hres hbelow hchain, counterRaw_counter hk, State.reg_setReg_other _ _ (ireg_ne_of_type (by decide))]
  · rw [count_unchained hn hscale hres hbelow hchain]
    refine counterRaw_overflow ?_
    rwa [State.reg_setReg_other _ _ (ireg_ne_of_type (by decide))]
  · obtain ⟨r, hr⟩ := count_onlyRegs s k n
    rw [hr]
    exact ⟨rfl, rfl, rfl, rfl, rfl, rfl⟩

end Sys2Proof.Laws
end

section
/-!
PROOFS of O57 and O59: counters as sessions see them (R473 to R481), and connectors (R498, R503).
-/
namespace Sys2Proof.Laws

open Sys2Proof.Machine Sys2Proof.Safety

/-! ## Chains and snapshots (R475 to R478) -/

section Sessions

variable {s : State} {n j b : Nat}

/-- A chain mask that fails its check is refused. -/
theorem chainWrite_invalid {m : Nat} (h : s.chainBad n m = true) : s.chainWrite n m = s.reply St.pmcChainInvalid := if_pos h

/-- Another one zeroes the upper counters that it changes. -/
theorem chainWrite_valid {m : Nat} (h : s.chainBad n m = false) :
    s.chainWrite n m = (((List.range 719).foldl (fun t k => if bit m k = bit (s.counterSyncAll.reg Obj.chainMask) k then t
      else t.chainZero (k + 1) (bit m k)) s.counterSyncAll).setReg Obj.chainMask m).reply St.ok := if_neg (by rw [h]; decide)

/-- With no bank free a snapshot is answered PMC_SNAPSHOT_BUSY. -/
theorem snapTake_busy (h : (s.snapBank n).or ((List.range 4).find? (fun b => s.reg (Reg.snapHolder b) == 0)) = none) :
    s.snapTake n = (s.setReg (skey n Obj.snapshotStatus) St.pmcSnapshotBusy).reply St.pmcSnapshotBusy := by
  rw [State.snapTake, h]

/-- A snapshot takes every counter into the session's bank or a free one. -/
theorem snapTake_taken (h : (s.snapBank n).or ((List.range 4).find? (fun b => s.reg (Reg.snapHolder b) == 0)) = some b) :
    s.snapTake n = ((s.counterSyncAll.setNum (Num.snapshot b) ((List.range 720).map (fun k => s.counterSyncAll.reg (Reg.counter k)))).setRegs
      [(Reg.snapHolder b, n), (skey n Obj.snapshotStatus, St.ok), (skey n Obj.snapshotTime, s.counterSyncAll.now)]).reply St.ok := by
  rw [State.snapTake, h]

/-- A release frees the session's bank. -/
theorem snapRelease_held (h : s.snapBank n = some b) :
    s.snapRelease n = (((s.setReg (Reg.snapHolder b) 0).setNum (Num.snapshot b) []).setReg (skey n Obj.snapshotStatus) St.ok).reply St.ok := by
  rw [State.snapRelease, h]

/-! ## Samplers (R480, R481) -/

/-- A sampler is not armed on a counter the session may not read. -/
theorem sampArm_denied (hfree : (List.range 4).all (fun x => s.reg (Reg.sampOn x) != 0) = false) (hoff : s.reg (Reg.sampOn j) = 0)
    (hdenied : s.counterStatus n (s.reg (Obj.sampleCounter j)) ≠ St.ok) : s.sampArm n j = s.reply St.notOwner := by
  rw [State.sampArm, if_neg (by rw [hfree]; decide), if_neg fun held => held.1 hoff, if_pos hdenied]

/-- Nor with a period out of its range. -/
theorem sampArm_period (hfree : (List.range 4).all (fun x => s.reg (Reg.sampOn x) != 0) = false) (hoff : s.reg (Reg.sampOn j) = 0)
    (hmay : s.counterStatus n (s.reg (Obj.sampleCounter j)) = St.ok) (hperiod : s.reg (Obj.samplePeriod j) < 64 ∨ 0x80000000 < s.reg (Obj.samplePeriod j)) :
    s.sampArm n j = s.reply St.pmcPeriodRange := by
  rw [State.sampArm, if_neg (by rw [hfree]; decide), if_neg fun held => held.1 hoff, if_neg (not_not.mpr hmay), if_pos hperiod]

/-- Otherwise it is armed, for that session. -/
theorem sampArm_armed (hfree : (List.range 4).all (fun x => s.reg (Reg.sampOn x) != 0) = false) (hoff : s.reg (Reg.sampOn j) = 0)
    (hmay : s.counterStatus n (s.reg (Obj.sampleCounter j)) = St.ok) (hlow : 64 ≤ s.reg (Obj.samplePeriod j)) (hhigh : s.reg (Obj.samplePeriod j) ≤ 0x80000000) :
    s.sampArm n j = ((s.counterSync (s.reg (Obj.sampleCounter j))).setRegs [(Reg.sampOn j, s.reg (Obj.sampleCounter j) + 1), (Reg.sampPer j, s.reg (Obj.samplePeriod j)),
      (Reg.sampCount j, 0), (Reg.sampDone j, 0), (Reg.sampLast j, 0), (Reg.sampDest j, s.sessDest n), (Obj.sampleHolder j, n), (Obj.samplesLost j, 0)]).reply St.ok := by
  rw [State.sampArm, if_neg (by rw [hfree]; decide), if_neg fun held => held.1 hoff, if_neg (not_not.mpr hmay), if_neg (not_or.mpr ⟨hlow.not_gt, hhigh.not_gt⟩)]

/-- An armed sampler is disarmed by whom it serves, or by a session of another class than GST. -/
theorem sampDisarm_held (hon : s.reg (Reg.sampOn j) ≠ 0) (hmay : s.cls n ≠ Cls.gst ∨ s.reg (Obj.sampleHolder j) = n) :
    s.sampDisarm n j = (s.setRegs [(Reg.sampOn j, 0), (Obj.sampleHolder j, 0)]).reply St.ok :=
  (if_neg hon).trans (if_neg fun held => hmay.elim (fun h => h held.1) (fun h => held.2 h))

end Sessions

section Samples

variable {s : State} {j : Nat} {v : List Nat}

/-- The state once the crossings of sampler `j` that are due are counted as done. -/
def crossed (s : State) (j due : Nat) : State := s.setReg (Reg.sampDone j) (s.reg (Reg.sampDone j) + due)

/-- What a sampler on a counter other than counter 0 does with the crossings that are due. -/
theorem pmcSample_due {due : Nat} (hup : s.up = true) (hj : j ≤ 3) (hon : 1 < s.reg (Reg.sampOn j))
    (hdue : due = s.reg (Reg.sampCount j) / s.reg (Reg.sampPer j) - s.reg (Reg.sampDone j)) (hsome : due ≠ 0) :
    exec (.pmcSample j v) s = .next (
      let u := crossed s j due
      if u.reg (Reg.sampLast j) ≠ 0 ∧ u.now < u.reg (Reg.sampLast j) - 1 + 10000 then u.addReg (Obj.samplesLost j) 32 due
      else ((u.addReg (Obj.samplesLost j) 32 (due - 1)).setReg (Reg.sampLast j) (u.now + 1)).raise [.code (u.reg (Reg.sampDest j))] U.fj St.pmcSample
        (if u.reg (Reg.sessClass (u.reg (Obj.sampleHolder j))) = Cls.gst then u.reg (Reg.sessWorld (u.reg (Obj.sampleHolder j))) else 0xFF) 0
        (u.samplePayload (s.reg (Reg.sampOn j) - 1) v)) := by
  have other : s.reg (Reg.sampOn j) - 1 ≠ 0 := by omega
  rw [exec_pmcSample, execPmcSample, whenUp_eq hup]
  simp only []
  rw [if_neg (by omega)]
  simp only [if_neg other, ← hdue, if_neg (fun h : due = 0 ∧ _ => hsome h.1), if_neg hsome]
  rfl

end Samples

/-! ## Counter views (R479) -/

/-- The state once the words of instance `i`'s counter view are latched. -/
def viewLatched (s : State) (i : Nat) : State :=
  let u := (List.range 4).foldl (fun s j => s.counterSync (488 + 4 * i + j)) s
  u.setRegs ((List.range 4).map (fun j => (Reg.viewLatch i j, u.reg (Reg.counter (488 + 4 * i + j)))) ++ [(Reg.viewLatch i 4, u.reg (Reg.poolPeakInst i)), (Reg.viewLatch i 5, u.now)])

/-- A read at offset 0 latches the words and answers the first. -/
theorem counterViewRead_latches {s : State} {i : Nat} (hup : s.up = true) (hi : i ≤ 31) (hstate : s.reg (Obj.instState i) ≠ 0) :
    exec (.counterViewRead i 0) s = .next ((viewLatched s i).replyData (leBytes 4 ((viewLatched s i).reg (Reg.viewLatch i 0)))) := by
  rw [exec_counterViewRead, execCounterViewRead, whenUp_eq hup, if_neg (by omega)]
  rfl

/-- A read elsewhere answers the word latched, or 0. -/
theorem counterViewRead_latched {s : State} {i off : Nat} (hup : s.up = true) (hi : i ≤ 31) (hstate : s.reg (Obj.instState i) ≠ 0) (hpos : 0 < off)
    (hoff : off ≤ 0xFFF) (hword : off % 4 = 0) :
    exec (.counterViewRead i off) s = .next (s.replyData (leBytes 4 (if off < 0x14 then s.reg (Reg.viewLatch i (off / 4)) else if off = 0x18 then s.reg (Reg.viewLatch i 5)
      else if off = 0x1C then s.reg (Reg.viewLatch i 5) / 0x100000000 else 0))) := by
  rw [exec_counterViewRead, execCounterViewRead, whenUp_eq hup, if_neg (by omega)]
  simp only [if_pos hpos.ne']

/-- Settles O57: each operation of a session ends in the branch that its premises leave open; a sampler's crossings are sent or counted lost. -/
theorem counterOperations : Obligations.CounterOperations := by
  refine ⟨fun s n v => ⟨fun h => ⟨fun bad => (taken_eq h).trans (by rw [chainWrite_invalid bad]), fun good => (taken_eq h).trans (by rw [chainWrite_valid good])⟩,
      fun h => taken_eq h⟩,
    fun s n b => ⟨fun h => ⟨fun full => (taken_eq h).trans (by rw [snapTake_busy full]), fun free => (taken_eq h).trans (by rw [snapTake_taken free])⟩,
      fun h held => (taken_eq h).trans (by rw [snapRelease_held held])⟩,
    fun s n j => ⟨fun h hfree hoff => ⟨fun denied => (taken_eq h).trans (by rw [sampArm_denied hfree hoff denied]),
        fun may period => (taken_eq h).trans (by rw [sampArm_period hfree hoff may period]),
        fun may low high => (taken_eq h).trans (by rw [sampArm_armed hfree hoff may low high])⟩,
      fun h on may => (taken_eq h).trans (by rw [sampDisarm_held on may])⟩,
    fun s j v hup hj hon hsome => ⟨fun hlast hsoon => ?_, fun hlast => ?_⟩,
    fun s i => counterViewRead_latches, fun s i off => counterViewRead_latched⟩
  · rw [pmcSample_due hup hj hon rfl hsome]
    exact congrArg _ (if_pos ⟨hlast, hsoon⟩)
  · rw [pmcSample_due hup hj hon rfl hsome]
    exact congrArg _ (if_neg fun soon => soon.1 hlast)

/-! ## Connectors (R498, R503) -/

section Light

variable {s : State} {k w : Nat} {ok : Bool}

/-- A light sensor that is not yet due is not read. -/
theorem lightSensorRead_early (hup : s.up = true) (h : s.now < s.reg (Reg.lightNext k)) : exec (.lightSensorRead k ok w) s = .next s := by
  rw [exec_lightSensorRead, execLightSensorRead, whenUp_eq hup, if_pos (.inr (.inr h))]

/-- One that is due is read, and waits 100 ms. -/
theorem lightSensorRead_due (hup : s.up = true) (hk : k ≤ 3) (hmode : s.reg (Obj.lightMode k) ≠ 0) (hdue : s.reg (Reg.lightNext k) ≤ s.now) :
    exec (.lightSensorRead k ok w) s = .next (
      let t := s.setReg (Reg.lightNext k) (s.now + 100000000)
      if ok then (List.range 8).foldl (fun s n => if s.reg (Obj.sunSource n) = k + 1 then s.setReg (Obj.sunLux n) (s.lightLux k w) else s)
        (t.setRegs [(Reg.lightBad k, 0), (Obj.lightValid k, 1)])
      else if t.reg (Reg.lightBad k) + 1 < 3 then t.setReg (Reg.lightBad k) (t.reg (Reg.lightBad k) + 1)
      else (t.setRegs [(Reg.lightBad k, 0), (Obj.lightValid k, 0)]).bump (Obj.lightFails k) 32) := by
  rw [exec_lightSensorRead, execLightSensorRead, whenUp_eq hup, if_neg (not_or.mpr ⟨hk.not_gt, not_or.mpr ⟨hmode, hdue.not_gt⟩⟩)]

end Light

/-- Settles O59: each connector's command goes by what it finds, and by the limits that its objects set. -/
theorem connectors : Obligations.Connectors := by
  refine ⟨fun s n p v h => taken_eq h, fun s p mbps up hup hp => ⟨fun down => ?_, fun on fits => ?_⟩, fun s p gen width up hup hp => ⟨fun down => ?_, fun on hgen hwidth => ?_⟩,
    fun s k w hup hk hmode => ⟨lightSensorRead_early hup, fun due => lightSensorRead_due hup hk hmode due, fun due few => ?_, fun due many => ?_⟩⟩
  · rw [exec_ethLinkChange, execEthLinkChange, whenUp_eq hup]
    simp only []
    rw [if_neg hp.not_gt, if_pos (by simpa using down)]
  · rw [exec_ethLinkChange, execEthLinkChange, whenUp_eq hup]
    simp only []
    rw [if_neg hp.not_gt, if_neg (by rw [on]; simpa [or_iff_not_imp_left] using fits)]
  · rw [exec_pcieLinkTraining, execPcieLinkTraining, whenUp_eq hup, if_neg hp.not_gt, if_pos (by simpa using down)]
  · rw [exec_pcieLinkTraining, execPcieLinkTraining, whenUp_eq hup, if_neg hp.not_gt, if_neg (by rw [on]; simp [hwidth, hgen])]
  · exact (lightSensorRead_due hup hk hmode due).trans (congrArg _ ((if_neg (by decide)).trans (if_pos (Nat.succ_lt_succ few))))
  · exact (lightSensorRead_due hup hk hmode due).trans (congrArg _ ((if_neg (by decide)).trans (if_neg (by omega))))

end Sys2Proof.Laws
end

section
/-!
PROOFS of O1, O2, O6 and O7: the queue's front, the step of an empty queue (log 2), the state after reset, and a device that is down (R444, log 28).
-/
namespace Sys2Proof.Laws

open Sys2Proof.Machine Sys2Proof.Safety

/-- Settles O1: a step takes the branch of a queue with a front. -/
theorem stepRunsFront : Obligations.StepRunsFront := by
  intro s c cs h
  rw [step, h]

/-- With an empty queue a step is the idle one. -/
theorem step_idle {s : State} (h : s.pending = []) : step s = .next s.idleTick := by
  rw [step, h]

/-- Hoist time moves by at most 2 ns in an idle step, and not back. -/
theorem idleTick_now (s : State) : s.now ≤ s.idleTick.now ∧ s.idleTick.now ≤ s.now + 2 := by
  unfold State.idleTick
  split
  · exact ⟨Nat.le_succ _, Nat.le_succ _⟩
  split
  · exact ⟨Nat.le_succ _, Nat.le_succ _⟩
  · show s.now ≤ (if s.reg Reg.slewAhead = 1 then s.now else s.now + 2) ∧ (if s.reg Reg.slewAhead = 1 then s.now else s.now + 2) ≤ s.now + 2
    split <;> omega

/-- An idle step changes no register but the slew's own. -/
theorem idleTick_reg {s : State} {k : Nat} (hcount : k ≠ Reg.slewCount) (hleft : k ≠ Reg.slewLeft) : s.idleTick.reg k = s.reg k := by
  unfold State.idleTick
  split
  · rfl
  split
  · exact State.reg_setReg_other _ _ hcount
  · exact (State.reg_setReg_other _ _ hleft).trans (State.reg_setReg_other _ _ hcount)

/-- What is left to slew does not grow in an idle step. -/
theorem idleTick_slewLeft (s : State) : s.idleTick.reg Reg.slewLeft ≤ s.reg Reg.slewLeft := by
  unfold State.idleTick
  split
  · exact le_refl _
  split
  · exact (State.reg_setReg_other _ _ (by decide)).le
  · exact (State.reg_setReg_same _ _ _).trans_le (Nat.sub_le _ _)

/-- An idle step changes registers and hoist time alone. -/
theorem idleTick_frame (s : State) : s.idleTick = { s with regs := s.idleTick.regs, now := s.idleTick.now } := by
  unfold State.idleTick
  split
  · rfl
  split <;> rfl

/-- Settles O2: the idle step, branch by branch of the slew. -/
theorem idleStepPassesTime : Obligations.IdleStepPassesTime := by
  intro s h
  obtain ⟨low, high⟩ := idleTick_now s
  refine ⟨s.idleTick, step_idle h, low, high, fun steady => if_pos steady, fun k => idleTick_reg, idleTick_slewLeft s, ?_⟩
  rw [idleTick_frame]
  exact ⟨rfl, h, rfl, rfl, rfl, rfl⟩

/-- Settles O6: the reset state lists nothing but PowerState. -/
theorem resetState : Obligations.ResetState :=
  ⟨State.reset_mem, fun _ => rfl, rfl, rfl, rfl, rfl, rfl, fun _ h => State.reg_setReg_other { State.reset with regs := [] } 1 h, rfl, rfl, rfl, rfl⟩

/-- Settles O7: every command but the standing ones acts only while the device is up. -/
theorem nothingRunsWhileDown : Obligations.NothingRunsWhileDown := by
  intro c s hup hstanding
  delta exec
  cases c
  all_goals try contradiction
  all_goals exact whenUp_not hup

end Sys2Proof.Laws
end

section
/-!
PROOFS of O3 to O5, O8 and O9. What a state's parts are, and what it means that a change of the state moves some of them at most.
-/
namespace Sys2Proof.Machine

/-- The parts of the state that only some commands move. Of the others (registers, queues, logs, events) the development says nothing here; the command queue
and the canonical form of the memory are kept by every change. -/
inductive StatePart where
  | time | banks | bytes | trackers | packages | exports | jobs | answers | caches

/-- From `s` to `t` no part outside `p` moves, the command queue stands, and the memory stays canonical. -/
structure Moves (p : StatePart → Bool) (s t : State) : Prop where
  pending : t.pending = s.pending
  wf : Memory.wf s.mem → Memory.wf t.mem
  time : p .time = false → t.now = s.now
  banks : p .banks = false → t.shadow = s.shadow ∧ t.pend = s.pend
  bytes : p .bytes = false → t.mem = s.mem
  trackers : p .trackers = false → t.tracks = s.tracks ∧ t.throttles = s.throttles ∧ t.rfmActs = s.rfmActs
  packages : p .packages = false → t.stagedPkg = s.stagedPkg ∧ t.activePkg = s.activePkg ∧ t.nextPkg = s.nextPkg
  exports : p .exports = false → t.exports = s.exports ∧ t.views = s.views
  jobs : p .jobs = false → t.jobs = s.jobs
  answers : p .answers = false → t.kept = s.kept
  caches : p .caches = false → t.lines = s.lines

/-- What a command does to the state: it ends in a next state, and moves no part outside `p`. -/
def Ends (p : StatePart → Bool) (s : State) (o : Host.Outcome State Fault Refusal) : Prop := ∃ t, o = .next t ∧ Moves p s t

variable {p : StatePart → Bool} {s t u : State}

/-- Nothing moves where nothing changes. -/
@[simp] theorem Moves.refl (p : StatePart → Bool) (s : State) : Moves p s s :=
  ⟨rfl, id, fun _ => rfl, fun _ => ⟨rfl, rfl⟩, fun _ => rfl, fun _ => ⟨rfl, rfl, rfl⟩, fun _ => ⟨rfl, rfl, rfl⟩, fun _ => ⟨rfl, rfl⟩, fun _ => rfl, fun _ => rfl,
    fun _ => rfl⟩

theorem Moves.trans (h : Moves p s t) (g : Moves p t u) : Moves p s u where
  pending := g.pending.trans h.pending
  wf := g.wf ∘ h.wf
  time hp := (g.time hp).trans (h.time hp)
  banks hp :=
    have ⟨h1, h2⟩ := h.banks hp
    have ⟨g1, g2⟩ := g.banks hp
    ⟨g1.trans h1, g2.trans h2⟩
  bytes hp := (g.bytes hp).trans (h.bytes hp)
  trackers hp :=
    have ⟨h1, h2, h3⟩ := h.trackers hp
    have ⟨g1, g2, g3⟩ := g.trackers hp
    ⟨g1.trans h1, g2.trans h2, g3.trans h3⟩
  packages hp :=
    have ⟨h1, h2, h3⟩ := h.packages hp
    have ⟨g1, g2, g3⟩ := g.packages hp
    ⟨g1.trans h1, g2.trans h2, g3.trans h3⟩
  exports hp :=
    have ⟨h1, h2⟩ := h.exports hp
    have ⟨g1, g2⟩ := g.exports hp
    ⟨g1.trans h1, g2.trans h2⟩
  jobs hp := (g.jobs hp).trans (h.jobs hp)
  answers hp := (g.answers hp).trans (h.answers hp)
  caches hp := (g.caches hp).trans (h.caches hp)

/-- Either branch of a choice. -/
@[simp] theorem Moves.ite {c : Prop} [Decidable c] {a b : State} : Moves p s (if c then a else b) ↔ if c then Moves p s a else Moves p s b := by
  split <;> rfl

/-- A run over a list whose steps move nothing moves nothing. -/
@[simp] theorem Moves.foldl_iff {α : Type} {f : State → α → State} (hf : ∀ t a, Moves p s (f t a) ↔ Moves p s t) (l : List α) :
    Moves p s (l.foldl f t) ↔ Moves p s t := by
  induction l generalizing t with
  | nil => rfl
  | cons a l ih => exact ih.trans (hf t a)

/-- A run over a list moves what its steps move. -/
@[simp] theorem Moves.foldl {α : Type} {f : State → α → State} (hf : ∀ t a, Moves p t (f t a)) (l : List α) (h : Moves p s t) : Moves p s (l.foldl f t) := by
  induction l generalizing t with
  | nil => exact h
  | cons a l ih => exact ih (h.trans (hf t a))


/-- What a partial change yields, or the state it did not come about in. -/
theorem Moves.getD {o : Option State} (ho : ∀ u, o = some u → Moves p s u) (h : Moves p s t) : Moves p s (o.getD t) := by
  cases o with
  | none => exact h
  | some u => exact ho u rfl

theorem Moves.of_ite {c : Prop} [Decidable c] {a b : State} (ha : Moves p s a) (hb : Moves p s b) : Moves p s (if c then a else b) := by
  split <;> assumption

/-- A command that ends in the next state `t` moves what `t` has moved. -/
@[simp] theorem Ends.next_iff : Ends p s (.next t) ↔ Moves p s t :=
  ⟨fun ⟨_, e, h⟩ => by cases e; exact h, fun h => ⟨t, rfl, h⟩⟩

theorem Ends.next (h : Moves p s t) : Ends p s (.next t) := ⟨t, rfl, h⟩

/-- A command that is carried out while the device is up alone. -/
@[simp] theorem Ends.whenUp_iff {f : State → Host.Outcome State Fault Refusal} : Ends p s (s.whenUp f) ↔ (s.up = true → Ends p s (f s)) := by
  unfold State.whenUp
  split
  · next hup => simp [hup]
  · next hup => simp [hup]

/-- A command that is carried out while the device is up alone, and ends in a next state. -/
theorem Ends.up {f : State → State} (h : Moves p s (f s)) : Ends p s (s.whenUp fun s => .next (f s)) := Ends.whenUp_iff.mpr fun _ => Ends.next_iff.mpr h

/-- What moves no part outside `p` moves none outside a wider choice of parts. -/
theorem Moves.mono {q : StatePart → Bool} (h : Moves p s t) (hpq : ∀ x, p x = true → q x = true) : Moves q s t :=
  have hn {x} (hq : q x = false) : p x = false := Bool.eq_false_iff.mpr fun hp => Bool.eq_false_iff.mp hq (hpq x hp)
  { pending := h.pending
    wf := h.wf
    time := h.time ∘ hn
    banks := h.banks ∘ hn
    bytes := h.bytes ∘ hn
    trackers := h.trackers ∘ hn
    packages := h.packages ∘ hn
    exports := h.exports ∘ hn
    jobs := h.jobs ∘ hn
    answers := h.answers ∘ hn
    caches := h.caches ∘ hn }

/-- The parts of `p`, and the bytes of memory. -/
def orBytes (p : StatePart → Bool) : StatePart → Bool
  | .bytes => true
  | x => p x

/-- Where the memory stands, its part does not move. -/
theorem Moves.of_mem (h : Moves (orBytes p) s t) (e : t.mem = s.mem) : Moves p s t := { h with bytes := fun _ => e }

/-! What is in a result, when the result is known. -/
theorem Moves.of_some (e : some t = some u) (h : Moves p s t) : Moves p s u := Option.some.inj e ▸ h
theorem Moves.of_ok {ε : Type} (e : (Except.ok t : Except ε State) = .ok u) (h : Moves p s t) : Moves p s u := Except.ok.inj e ▸ h
theorem Moves.of_some_snd {α : Type} {a : α} {x : α × State} (e : some (a, t) = some x) (h : Moves p s t) : Moves p s x.2 := Option.some.inj e ▸ h
theorem Moves.of_ok_fst {ε α : Type} {a : α} {x : State × α} (e : (Except.ok (t, a) : Except ε (State × α)) = .ok x) (h : Moves p s t) : Moves p s x.1 :=
  Except.ok.inj e ▸ h
theorem Moves.of_fst {α : Type} {x : State × α} {a : α} (e : x = (u, a)) (h : Moves p s x.1) : Moves p s u := by
  subst e
  exact h
theorem Moves.with_regs {x} : Moves p s { t with regs := x } ↔ Moves p s t := Iff.intro (fun h => { h with }) (fun h => { h with })
theorem Moves.with_ownerRing {x} : Moves p s { t with ownerRing := x } ↔ Moves p s t := Iff.intro (fun h => { h with }) (fun h => { h with })
theorem Moves.with_halInbox {x} : Moves p s { t with halInbox := x } ↔ Moves p s t := Iff.intro (fun h => { h with }) (fun h => { h with })
theorem Moves.with_ensInbox {x} : Moves p s { t with ensInbox := x } ↔ Moves p s t := Iff.intro (fun h => { h with }) (fun h => { h with })
theorem Moves.with_journal {x} : Moves p s { t with journal := x } ↔ Moves p s t := Iff.intro (fun h => { h with }) (fun h => { h with })
theorem Moves.with_items {x} : Moves p s { t with items := x } ↔ Moves p s t := Iff.intro (fun h => { h with }) (fun h => { h with })
theorem Moves.with_addedUnits {x} : Moves p s { t with addedUnits := x } ↔ Moves p s t := Iff.intro (fun h => { h with }) (fun h => { h with })
theorem Moves.with_halSettings {x} : Moves p s { t with halSettings := x } ↔ Moves p s t := Iff.intro (fun h => { h with }) (fun h => { h with })
theorem Moves.with_contacts {x} : Moves p s { t with contacts := x } ↔ Moves p s t := Iff.intro (fun h => { h with }) (fun h => { h with })
theorem Moves.with_audBufs {x} : Moves p s { t with audBufs := x } ↔ Moves p s t := Iff.intro (fun h => { h with }) (fun h => { h with })
theorem Moves.with_answer {x} : Moves p s { t with answer := x } ↔ Moves p s t := Iff.intro (fun h => { h with }) (fun h => { h with })

/-! The fields of the parts: replacing one moves that part at most. -/
theorem Moves.with_now {x} (hn : p .time) (h : Moves p s t) : Moves p s { t with now := x } := { h with time := by simp [hn] }
theorem Moves.with_shadow {x} (hk : p .banks) (h : Moves p s t) : Moves p s { t with shadow := x } := { h with banks := by simp [hk] }
theorem Moves.with_pend {x} (hk : p .banks) (h : Moves p s t) : Moves p s { t with pend := x } := { h with banks := by simp [hk] }
theorem Moves.with_tracks {x} (ht : p .trackers) (h : Moves p s t) : Moves p s { t with tracks := x } := { h with trackers := by simp [ht] }
theorem Moves.with_throttles {x} (ht : p .trackers) (h : Moves p s t) : Moves p s { t with throttles := x } := { h with trackers := by simp [ht] }
theorem Moves.with_rfmActs {x} (ht : p .trackers) (h : Moves p s t) : Moves p s { t with rfmActs := x } := { h with trackers := by simp [ht] }
theorem Moves.with_stagedPkg {x} (hg : p .packages) (h : Moves p s t) : Moves p s { t with stagedPkg := x } := { h with packages := by simp [hg] }
theorem Moves.with_exports {x} (he : p .exports) (h : Moves p s t) : Moves p s { t with exports := x } := { h with exports := by simp [he] }
theorem Moves.with_views {x} (he : p .exports) (h : Moves p s t) : Moves p s { t with views := x } := { h with exports := by simp [he] }
theorem Moves.with_jobs {x} (hj : p .jobs) (h : Moves p s t) : Moves p s { t with jobs := x } := { h with jobs := by simp [hj] }
theorem Moves.with_kept {x} (ha : p .answers) (h : Moves p s t) : Moves p s { t with kept := x } := { h with answers := by simp [ha] }
theorem Moves.with_lines {x} (hc : p .caches) (h : Moves p s t) : Moves p s { t with lines := x } := { h with caches := by simp [hc] }

/-! A result whose error or value is wrapped. -/
theorem ok_of_map_some {ε : Type} {x : Except ε State} (e : x.map some = .ok (some u)) : x = .ok u := by
  cases x with
  | error _ => cases e
  | ok _ => exact congrArg Except.ok (Option.some.inj (Except.ok.inj e))
theorem ok_of_mapError {ε ε' α : Type} {f : ε → ε'} {x : Except ε α} {a : α} (e : x.mapError f = .ok a) : x = .ok a := by
  cases x with
  | error _ => cases e
  | ok _ => exact congrArg Except.ok (Except.ok.inj e)

end Sys2Proof.Machine
end

section
/-!
PROOFS of O3 to O5, O8 and O9. What the operations move: State.lean and the hoist: the rules of reading and writing one register, bank, byte, queue or event.
-/
namespace Sys2Proof.Machine

variable {p : StatePart → Bool} {s t u : State}

/-! Ops.lean -/

@[simp] theorem State.setReg_moves {k v} : Moves p s (t.setReg k v) ↔ Moves p s t := Iff.intro (fun h => { h with }) (fun h => { h with })
@[simp] theorem State.setRegs_moves {l} : Moves p s (t.setRegs l) ↔ Moves p s t := by simp [State.setRegs]
@[simp] theorem State.bump_moves {k w} : Moves p s (t.bump k w) ↔ Moves p s t := by simp [State.bump]
@[simp] theorem State.addReg_moves {k w n} : Moves p s (t.addReg k w n) ↔ Moves p s t := by simp [State.addReg]
@[simp] theorem State.counterRaw_moves {k n} : Moves p s (t.counterRaw k n) ↔ Moves p s t := by simp [State.counterRaw]
@[simp] theorem State.count_moves {k n} : Moves p s (t.count k n) ↔ Moves p s t := by simp [State.count]
@[simp] theorem State.counterZero_moves {k} : Moves p s (t.counterZero k) ↔ Moves p s t := by simp [State.counterZero]
@[simp] theorem State.setFifo_moves {k v} : Moves p s (t.setFifo k v) ↔ Moves p s t := Iff.intro (fun h => { h with }) (fun h => { h with })
@[simp] theorem State.setNum_moves {k v} : Moves p s (t.setNum k v) ↔ Moves p s t := Iff.intro (fun h => { h with }) (fun h => { h with })
@[simp] theorem State.emit_moves {o} : Moves p s (t.emit o) ↔ Moves p s t := Iff.intro (fun h => { h with }) (fun h => { h with })
@[simp] theorem State.reply_moves {st} : Moves p s (t.reply st) ↔ Moves p s t := Iff.intro (fun h => { h with }) (fun h => { h with })
@[simp] theorem State.replyData_moves {d} : Moves p s (t.replyData d) ↔ Moves p s t := Iff.intro (fun h => { h with }) (fun h => { h with })
@[simp] theorem State.tick_moves : Moves p s t.tick ↔ Moves p s t := Iff.intro (fun h => { h with }) (fun h => { h with })
@[simp] theorem State.setShadow_moves {k v} (hk : p .banks) (h : Moves p s t) : Moves p s (t.setShadow k v) := { h with banks := by simp [hk] }
@[simp] theorem State.revertShadow_moves {h'} (hk : p .banks) (h : Moves p s t) : Moves p s (t.revertShadow h') := { h with banks := by simp [hk] }
@[simp] theorem State.dropPend_moves {h'} (hk : p .banks) (h : Moves p s t) : Moves p s (t.dropPend h') := { h with banks := by simp [hk] }

@[simp] theorem State.setByte_moves {a b} (hb : p .bytes) (h : Moves p s t) : Moves p s (t.setByte a b) :=
  { h with wf := fun w => State.setByte_wf a b (h.wf w), bytes := by simp [hb] }

@[simp] theorem State.writeBytes_moves {a bs} (hb : p .bytes) (h : Moves p s t) : Moves p s (t.writeBytes a bs) := by
  induction bs generalizing t a with
  | nil => exact h
  | cons b bs ih => exact ih (State.setByte_moves hb h)

@[simp] theorem State.jnl_moves {typ unit world inst live body} : Moves p s (t.jnl typ unit world inst live body) ↔ Moves p s t := by
  unfold State.jnl
  dsimp only
  split
  · rfl
  · rw [Moves.with_journal]
    simp

@[simp] theorem State.jnlDead_moves {seq} : Moves p s (t.jnlDead seq) ↔ Moves p s t := by
  unfold State.jnlDead
  simp [↓Moves.with_journal]

@[simp] theorem State.windowOut_moves {acc x'} : Moves p s (t.windowOut acc x') ↔ Moves p s t := by simp [State.windowOut]
@[simp] theorem State.fabricPut_moves {l} (hb : p .bytes) (h : Moves p s t) : Moves p s (t.fabricPut l) := by simp [State.fabricPut, h, hb]

theorem State.gwrite_moves {w root va bs} {u} (e : t.gwrite w root va bs = .ok u) (hb : p .bytes) (h : Moves p s t) : Moves p s u := by
  grind [State.gwrite, State.fabricPut_moves]

@[simp] theorem State.remoteSend_moves {i chan pl} : Moves p s (t.remoteSend i chan pl) ↔ Moves p s t := by simp [State.remoteSend]
@[simp] theorem State.remoteAck_moves {i ack} : Moves p s (t.remoteAck i ack) ↔ Moves p s t := by simp [State.remoteAck]
@[simp] theorem State.delivered_moves {i seq ack} : Moves p s (t.delivered i seq ack) ↔ Moves p s t := by simp [State.delivered]
@[simp] theorem State.stray_moves {i ack} : Moves p s (t.stray i ack) ↔ Moves p s t := by simp [State.stray]

@[simp] theorem State.remoteIn_moves {i seq ack f} (hf : ∀ t, Moves p t (f t)) (h : Moves p s t) : Moves p s (t.remoteIn i seq ack f) := by
  have hf' {u} (k : Moves p s u) : Moves p s (f u) := k.trans (hf u)
  simp [State.remoteIn, h, hf']

@[simp] theorem State.arrives_moves {i dg f} (hf : ∀ t, Moves p t (f t)) (h : Moves p s t) : Moves p s (t.arrives i dg f) := by
  simp [State.arrives, h, hf, h.trans (hf t)]

@[simp] theorem State.raiseIrq_moves {i vector value} : Moves p s (t.raiseIrq i vector value) ↔ Moves p s t := by simp [State.raiseIrq]
@[simp] theorem State.eqInterrupt_moves {i} : Moves p s (t.eqInterrupt i) ↔ Moves p s t := by simp [State.eqInterrupt]
@[simp] theorem State.eqDiscard_moves {i e'} : Moves p s (t.eqDiscard i e') ↔ Moves p s t := by simp [State.eqDiscard]

@[simp] theorem State.eqFault_moves {i e} : Moves p s (t.eqFault i e) ↔ Moves p s t := by
  unfold State.eqFault
  simp [↓Moves.with_halInbox]

@[simp] theorem State.eqWrite_moves {i e} (hb : p .bytes) (h : Moves p s t) : Moves p s (t.eqWrite i e) := by
  unfold State.eqWrite
  dsimp only
  split
  · next e => simp [State.gwrite_moves e hb h]
  · simp [h]

@[simp] theorem State.setEqStored_moves {i l} : Moves p s (t.setEqStored i l) ↔ Moves p s t := Iff.intro (fun h => { h with }) (fun h => { h with })

@[simp] theorem State.toInst_moves {i e} (hb : p .bytes) (h : Moves p s t) : Moves p s (t.toInst i e) := by
  unfold State.toInst
  dsimp only
  split
  · exact h
  · split
    · simp [h, hb]
    · split
      · simp [h]
      · split <;> simp [h]

@[simp] theorem State.toOwner_moves {e} : Moves p s (t.toOwner e) ↔ Moves p s t := by
  simp only [State.toOwner, Moves.foldl_iff, State.emit_moves, Moves.ite, State.setReg_moves, State.bump_moves, Moves.with_ownerRing, ite_self, implies_true]

@[simp] theorem State.deliver_moves {e d} (hb : p .bytes) (h : Moves p s t) : Moves p s (State.deliver e t d) := by
  cases d <;> simp [State.deliver, Moves.with_halInbox, Moves.with_ensInbox, h, hb]

@[simp] theorem State.raise_moves {ds unit st world sev pl} (hb : p .bytes) (h : Moves p s t) : Moves p s (t.raise ds unit st world sev pl) := by
  simp [State.raise, h, hb]

/-- An event that Halyard and the owner alone are told writes no byte. -/
theorem State.raise_halOwner_moves {unit st world sev pl} (h : Moves p s t) : Moves p s (t.raise [.hal, .owner] unit st world sev pl) :=
  h.trans (Moves.of_mem (State.raise_moves rfl (Moves.refl ..)) (State.raise_owner t unit st world sev pl (k := 0) (by decide) (by decide)).2.1)

/-! HoistBase.lean -/

@[simp] theorem State.linkSend_moves {l typ dst cls session pl} : Moves p s (t.linkSend l typ dst cls session pl) ↔ Moves p s t := by simp [State.linkSend]
@[simp] theorem State.hoistSend_moves {typ dst cls session pl} : Moves p s (t.hoistSend typ dst cls session pl) ↔ Moves p s t := by simp [State.hoistSend]
@[simp] theorem State.missedAt_moves {d what} (hb : p .bytes) (h : Moves p s t) : Moves p s (t.missedAt d what) := by simp [State.missedAt, h, hb]
@[simp] theorem State.hoistMissed_moves {what} (hb : p .bytes) (h : Moves p s t) : Moves p s (t.hoistMissed what) := by simp [State.hoistMissed, h, hb]
@[simp] theorem State.hoistTell_moves (hb : p .bytes) (h : Moves p s t) : Moves p s (t.hoistTell) := by simp [State.hoistTell, h, hb]
@[simp] theorem State.feedHold_moves {f} : Moves p s (t.feedHold f) ↔ Moves p s t := by simp [State.feedHold]
@[simp] theorem State.pathLost_moves {d} : Moves p s (t.pathLost d) ↔ Moves p s t := by simp [State.pathLost]
@[simp] theorem State.pathBy_moves {d l hops} (hb : p .bytes) (h : Moves p s t) : Moves p s (t.pathBy d l hops) := by simp [State.pathBy, h, hb]
@[simp] theorem State.attach_moves {l} (hb : p .bytes) (h : Moves p s t) : Moves p s (t.attach l) := by simp [State.attach, h, hb]
@[simp] theorem State.attachTell_moves {l} (hb : p .bytes) (h : Moves p s t) : Moves p s (t.attachTell l) := by simp [State.attachTell, h, hb]

@[simp] theorem State.parentLost_moves {l} (hb : p .bytes) (h : Moves p s t) : Moves p s (t.parentLost l) := by
  unfold State.parentLost
  dsimp only
  split
  · split
    · exact State.attachTell_moves hb (Moves.foldl (by simp [hb]) _ (by simp [h]))
    · simp [h]
  · simp [h]

@[simp] theorem State.linkDown_moves {l} (hb : p .bytes) (h : Moves p s t) : Moves p s (t.linkDown l) := by simp [State.linkDown, h, hb]
@[simp] theorem State.hoistReport_moves {kind} : Moves p s (t.hoistReport kind) ↔ Moves p s t := by simp [State.hoistReport]
@[simp] theorem State.hoistRestart_moves : Moves p s (t.hoistRestart) ↔ Moves p s t := by simp [State.hoistRestart]

end Sys2Proof.Machine
end

section
/-!
PROOFS of O3 to O5, O8 and O9. What the operations move: the directory of units, sessions, the journal, the blocks and the worlds with their tables.
-/
namespace Sys2Proof.Machine

variable {p : StatePart → Bool} {s t u : State}

/-! Directory.lean -/

@[simp] theorem State.lockLatch_moves : Moves p s (t.lockLatch) ↔ Moves p s t := by simp [State.lockLatch]

@[simp] theorem State.setRecordState_moves {h' st} (hb : p .bytes) (h : Moves p s t) : Moves p s (t.setRecordState h' st) := by
  simp [State.setRecordState, h, hb]

@[simp] theorem State.dropDead_moves {h'} (hb : p .bytes) (hk : p .banks) (h : Moves p s t) : Moves p s (t.dropDead h') := by simp [State.dropDead, h, hb, hk]

@[simp] theorem State.propagate_moves {fuel h'} (hb : p .bytes) (h : Moves p s t) : Moves p s (t.propagate fuel h') := by
  induction fuel generalizing t h' with
  | zero => exact h
  | succ fuel ih =>
    unfold State.propagate
    dsimp only
    split
    · split
      · exact h
      · split
        · exact h
        · exact ih (by simp [h, hb])
    · split
      · exact h
      · exact Moves.of_ite (by simp [h, hb]) (ih (by simp [h, hb]))

@[simp] theorem State.setUnitState_moves {h' st} (hb : p .bytes) (hk : p .banks) (h : Moves p s t) : Moves p s (t.setUnitState h' st) := by
  unfold State.setUnitState
  split
  · exact h
  · exact State.propagate_moves hb (by simp [h, hb, hk])

@[simp] theorem State.setHolder_moves {h' w} (hb : p .bytes) (h : Moves p s t) : Moves p s (t.setHolder h' w) := by simp [State.setHolder, h, hb]

@[simp] theorem State.recordChange_moves {h' p' st} (hb : p .bytes) (h : Moves p s t) : Moves p s (t.recordChange h' p' st) := by
  simp [State.recordChange, h, hb]

@[simp] theorem State.addUnit_moves {item parent st d} (hb : p .bytes) (h : Moves p s t) : Moves p s (t.addUnit item parent st d).1 := by
  unfold State.addUnit
  dsimp only
  split
  · simp [h, hb]
  · exact State.recordChange_moves hb (State.setRegs_moves.mpr (Moves.with_addedUnits.mpr h))

@[simp] theorem State.removeUnit_moves {v} (hb : p .bytes) (hk : p .banks) (h : Moves p s t) : Moves p s (t.removeUnit v) :=
  State.recordChange_moves hb (Moves.with_addedUnits.mpr (by simp [h, hb, hk]))

@[simp] theorem State.addDeclared_moves {item hs ds} (hb : p .bytes) (hk : p .banks) (h : Moves p s t) : Moves p s (State.addDeclared item t hs ds) := by
  induction ds generalizing t hs with
  | nil => exact h
  | cons d ds ih =>
    unfold State.addDeclared
    split
    · exact ih (by simp [h, hb, hk])
    · split
      · exact ih h
      · split
        next hu => exact ih (Moves.of_fst hu (State.addUnit_moves hb h))

@[simp] theorem State.redeclare_moves {item image} (hb : p .bytes) (hk : p .banks) (h : Moves p s t) : Moves p s (t.redeclare item image) :=
  State.addDeclared_moves hb hk (Moves.foldl (by simp [hb, hk]) _ h)

@[simp] theorem State.programGone_moves {item} (hb : p .bytes) (hk : p .banks) (h : Moves p s t) : Moves p s (t.programGone item) := by
  simp [State.programGone, h, hb, hk]

@[simp] theorem State.hoistUnits_moves (hb : p .bytes) (hk : p .banks) (h : Moves p s t) : Moves p s t.hoistUnits := by
  unfold State.hoistUnits
  dsimp only
  split
  · exact Moves.foldl (by simp [hb, hk]) _ h
  · split
    · exact h
    · split
      · next hu => exact Moves.of_fst hu (State.addUnit_moves hb h)
      · next hu => exact Moves.foldl (by simp [hb]) _ (Moves.of_fst hu (State.addUnit_moves hb h))

@[simp] theorem State.hoistSlotTo_moves {d st} (hb : p .bytes) (hk : p .banks) (h : Moves p s t) : Moves p s (t.hoistSlotTo d st) := by
  unfold State.hoistSlotTo; dsimp only; split <;> simp [h, hb, hk]

/-! Access.lean -/

@[simp] theorem State.heard_moves {n} : Moves p s (t.heard n) ↔ Moves p s t := by simp [State.heard]
@[simp] theorem State.overrun_moves {i} (hb : p .bytes) (h : Moves p s t) : Moves p s (t.overrun i) := by simp [State.overrun, h, hb]
@[simp] theorem State.posted_moves {n op key off tag seq} : Moves p s (t.posted n op key off tag seq) ↔ Moves p s t := by simp [State.posted]

@[simp] theorem State.requested_moves {n op key f} (hb : t.overruns n = true → p .bytes) (hf : ∀ t, Moves p t (f t)) (h : Moves p s t) :
    Moves p s (t.requested n op key f) := by
  unfold State.requested
  split
  · exact h
  · split
    · next ho => simp [h, hb ho]
    · simp [(State.heard_moves.mpr h).trans (hf _)]

@[simp] theorem State.request_moves {n op key f} (hb : t.overruns n = true → p .bytes) (hf : ∀ t, Moves p t (f t)) (h : Moves p s t) :
    Moves p s (t.request n op key f) :=
  State.requested_moves hb (fun _ => Moves.of_ite (by simp) (hf _)) h

@[simp] theorem State.shadowLost_moves {h' cause} (hb : p .bytes) (h : Moves p s t) : Moves p s (t.shadowLost h' cause) := by simp [State.shadowLost, h, hb]

@[simp] theorem State.loseShadow_moves {h' cause} (hb : p .bytes) (hk : p .banks) (h : Moves p s t) : Moves p s (t.loseShadow h' cause) := by
  simp [State.loseShadow, h, hb, hk]

@[simp] theorem State.takeHold_moves {n h'} : Moves p s (t.takeHold n h') ↔ Moves p s t := by simp [State.takeHold]

@[simp] theorem State.store_moves {n key v o} (hb : p .bytes) (hk : p .banks) (h : Moves p s t) : Moves p s (t.store n key v o) := by
  simp [State.store, h, hb, hk]

@[simp] theorem State.clearSession_moves {n} : Moves p s (t.clearSession n) ↔ Moves p s t := Moves.with_regs

@[simp] theorem State.openSession_moves {transport port cl world} (ha : p .answers) (h : Moves p s t) :
    Moves p s (t.openSession transport port cl world) :=
  State.replyData_moves.mpr { State.setRegs_moves.mpr (State.clearSession_moves.mpr h) with answers := by simp [ha] }

/-! JournalOps.lean -/

@[simp] theorem State.jnlPress_moves (hb : p .bytes) (h : Moves p s t) : Moves p s (t.jnlPress) := by simp [State.jnlPress, h, hb]

@[simp] theorem State.jnlNear_moves (h : Moves p s t) : Moves p s t.jnlNear :=
  Moves.of_ite h (State.raise_halOwner_moves (by simp [h]))

@[simp] theorem State.jnlWait_moves {rank4 free} (hb : p .bytes) (h : Moves p s t) : Moves p s (t.jnlWait rank4 free) := by simp [State.jnlWait, h, hb]
@[simp] theorem State.countWork_moves {i} : Moves p s (t.countWork i) ↔ Moves p s t := by simp [State.countWork]

@[simp] theorem State.itemAccept_moves {unit world inst ring rptr opcode cls pass extra} :
    Moves p s (t.itemAccept unit world inst ring rptr opcode cls pass extra) ↔ Moves p s t := by
  simp only [State.itemAccept, State.countWork_moves, Moves.with_items, State.jnl_moves]

@[simp] theorem State.itemFence_moves {seq fence val} : Moves p s (t.itemFence seq fence val) ↔ Moves p s t := Moves.with_items

@[simp] theorem State.itemRemove_moves {i} : Moves p s (t.itemRemove i) ↔ Moves p s t := by
  simp only [State.itemRemove, State.countWork_moves, Moves.with_items]

@[simp] theorem State.itemEnd_moves {t' status} : Moves p s (t.itemEnd t' status) ↔ Moves p s t := by simp [State.itemEnd]
@[simp] theorem State.itemEndSeq_moves {seq status} : Moves p s (t.itemEndSeq seq status) ↔ Moves p s t := by unfold State.itemEndSeq; split <;> simp

@[simp] theorem State.itemOutcome_moves {i outcome cause} (hb : p .bytes) (h : Moves p s t) : Moves p s (t.itemOutcome i outcome cause) := by
  refine State.raise_moves hb ?_
  simp only [Moves.ite, Moves.with_items, State.itemRemove_moves, State.jnlDead_moves, State.jnl_moves, h, ite_self]

@[simp] theorem State.itemResolve_moves {t' cause} (hb : p .bytes) (h : Moves p s t) : Moves p s (t.itemResolve t' cause) := by simp [State.itemResolve, h, hb]
@[simp] theorem State.itemsDrop_moves {p' cause} (hb : p .bytes) (h : Moves p s t) : Moves p s (t.itemsDrop p' cause) := by simp [State.itemsDrop, h, hb]

@[simp] theorem State.yieldOpen_moves {unit b w kind rank reserved granted ms} (hb : p .bytes) (h : Moves p s t) :
    Moves p s (t.yieldOpen unit b w kind rank reserved granted ms) := by
  simp [State.yieldOpen, h, hb]

@[simp] theorem State.yieldEnds_moves {unit w k full} (hb : p .bytes) (h : Moves p s t) : Moves p s (t.yieldEnds unit w k full) := by
  simp [State.yieldEnds, h, hb]

@[simp] theorem State.yieldClose_moves {unit b w kind full} (hb : p .bytes) (h : Moves p s t) : Moves p s (t.yieldClose unit b w kind full) := by
  simp [State.yieldClose, h, hb]

@[simp] theorem State.yieldsOver_moves {w kind} (hb : p .bytes) (h : Moves p s t) : Moves p s (t.yieldsOver w kind) := by simp [State.yieldsOver, h, hb]

@[simp] theorem State.yieldProportion_moves {unit b kind avail ms k} (hb : p .bytes) (h : Moves p s t) :
    Moves p s (t.yieldProportion unit b kind avail ms k) := by
  simp [State.yieldProportion, h, hb]

@[simp] theorem State.bulkDerive_moves : Moves p s (t.bulkDerive) ↔ Moves p s t := by simp [State.bulkDerive]
@[simp] theorem State.bulkYieldOf_moves {p'} (hb : p .bytes) (h : Moves p s t) : Moves p s (t.bulkYieldOf p') := by simp [State.bulkYieldOf, h, hb]
@[simp] theorem State.bulkYield_moves (hb : p .bytes) (h : Moves p s t) : Moves p s (t.bulkYield) := by simp [State.bulkYield, h, hb]

/-! BlockBase.lean -/

@[simp] theorem State.setTracked_moves {port l} : Moves p s (t.setTracked port l) ↔ Moves p s t := by
  simp only [State.setTracked, State.setRegs_moves, Moves.with_contacts]

@[simp] theorem State.contactSend_moves {p' phase c} (hb : p .bytes) (h : Moves p s t) : Moves p s (State.contactSend p' phase t c) := by
  simp [State.contactSend, h, hb]

@[simp] theorem State.hidReport_moves {p' d cs} : Moves p s (t.hidReport p' d cs) ↔ Moves p s t := by simp [State.hidReport]
@[simp] theorem State.hidFrame_moves {p'} : Moves p s (t.hidFrame p') ↔ Moves p s t := by simp [State.hidFrame]
@[simp] theorem State.contactCancel_moves {p' q} (hb : p .bytes) (h : Moves p s t) : Moves p s (t.contactCancel p' q) := by simp [State.contactCancel, h, hb]
@[simp] theorem State.contactCheck_moves {p'} (hb : p .bytes) (h : Moves p s t) : Moves p s (t.contactCheck p') := by simp [State.contactCheck, h, hb]
@[simp] theorem State.touchStop_moves {p'} (hb : p .bytes) (h : Moves p s t) : Moves p s (t.touchStop p') := by simp [State.touchStop, h, hb]
@[simp] theorem State.touchStart_moves {p'} (hb : p .bytes) (h : Moves p s t) : Moves p s (t.touchStart p') := by simp [State.touchStart, h, hb]
@[simp] theorem State.hapHalt_moves {g c} : Moves p s (t.hapHalt g c) ↔ Moves p s t := by simp [State.hapHalt]
@[simp] theorem State.hapGroupStart_moves {g} : Moves p s (t.hapGroupStart g) ↔ Moves p s t := by simp [State.hapGroupStart]
@[simp] theorem State.blockDrain_moves {h'} (hb : p .bytes) (h : Moves p s t) : Moves p s (t.blockDrain h') := by simp [State.blockDrain, h, hb]
@[simp] theorem State.blockStart_moves {h'} (hb : p .bytes) (h : Moves p s t) : Moves p s (t.blockStart h') := by simp [State.blockStart, h, hb]

/-! WorldOps.lean -/

@[simp] theorem State.clearMem_moves {a n} (hb : p .bytes) (h : Moves p s t) : Moves p s (t.clearMem a n) :=
  { h with wf := fun w => Kmap.canon_filter _ (h.wf w), bytes := by simp [hb] }

/-- The definition is opened as a function: applied to a state, the kernel would compute with the number of frames. -/
theorem State.frameTake_moves {w mode x} (e : t.frameTake w mode = some x) (hb : p .bytes) (h : Moves p s t) : Moves p s x.2 := by
  have hdef := @rfl _ State.frameTake
  conv at hdef => rhs; delta State.frameTake
  rw [hdef] at e
  beta_reduce at e
  extract_lets n start at e
  clear_value n start
  split at e
  · cases e
  · exact Moves.of_some_snd e (State.clearMem_moves hb (by simp [h]))

@[simp] theorem State.frameDrop_moves {f} : Moves p s (t.frameDrop f) ↔ Moves p s t := by simp [State.frameDrop]
@[simp] theorem State.frameDropAll_moves {w} : Moves p s (t.frameDropAll w) ↔ Moves p s t := Moves.with_regs

theorem State.tablePage_moves {w x} (e : t.tablePage w = some x) (hb : p .bytes) (h : Moves p s t) : Moves p s x.2 := by
  unfold State.tablePage at e
  dsimp only at e
  split at e
  · exact Moves.of_some_snd e (by simp [h])
  · split at e
    · cases e
    · next hf => exact Moves.of_some_snd e (by simp [State.frameTake_moves hf hb h])

theorem State.tableUnder_moves {w a x} (e : t.tableUnder w a = some x) (hb : p .bytes) (h : Moves p s t) : Moves p s x.2 := by
  unfold State.tableUnder at e
  dsimp only at e
  split at e
  · exact Moves.of_some_snd e h
  · split at e
    · cases e
    · split at e
      · cases e
      · next hf => exact Moves.of_some_snd e (State.writeBytes_moves hb (State.tablePage_moves hf hb h))

theorem State.mapDown_moves {w gsa leaf d fuel level tbl u} (e : t.mapDown w gsa leaf d fuel level tbl = some u) (hb : p .bytes) (h : Moves p s t) :
    Moves p s u := by
  induction fuel generalizing t level tbl with
  | zero => cases e
  | succ fuel ih =>
    unfold State.mapDown at e
    split at e
    · exact Moves.of_some e (by simp [h, hb])
    · split at e
      · cases e
      · next hf => exact ih e (State.tableUnder_moves hf hb h)

theorem State.mapLeaf_moves {w gsa leaf d u} (e : t.mapLeaf w gsa leaf d = some u) (hb : p .bytes) (h : Moves p s t) : Moves p s u :=
  State.mapDown_moves e hb h

/-- One block more: Lean's own equation for this case has the kernel compute with the size of the DRAM, so the three functions it would compute are held abstract. -/
theorem State.mapMemory_succ (s : State) (w gsa n : Nat) : s.mapMemory w gsa (n + 1) =
    (s.frameTake w 0).bind fun x => (x.2.mapLeaf w gsa 2 (leafDesc 2 (x.1 * frameBytes) 0 w true true)).bind fun s => s.mapMemory w (gsa + frameBytes) n := by
  have hdef := @rfl _ State.mapMemory
  conv at hdef => rhs; delta State.mapMemory
  have hstep := @rfl _ State.mapMemory._f
  conv at hstep => rhs; delta State.mapMemory._f
  rw [hdef, hstep]
  obtain ⟨take, htake⟩ : ∃ take, take = State.frameTake := ⟨_, rfl⟩
  obtain ⟨leaf, hleaf⟩ : ∃ leaf, leaf = State.mapLeaf := ⟨_, rfl⟩
  obtain ⟨size, hsize⟩ : ∃ size, size = frameBytes := ⟨_, rfl⟩
  rw [← htake, ← hleaf, ← hsize]
  clear htake hleaf hsize
  conv => lhs; whnf
  cases take s w 0 with
  | none => rfl
  | some x =>
    obtain ⟨f, s⟩ := x
    rw [Option.bind_some]
    dsimp only
    cases leaf s w gsa 2 (leafDesc 2 (f * size) 0 w true true) <;> rfl

theorem State.mapMemory_moves {w gsa n u} (e : t.mapMemory w gsa n = some u) (hb : p .bytes) (h : Moves p s t) : Moves p s u := by
  induction n generalizing t gsa with
  | zero => exact Moves.of_some e h
  | succ n ih =>
    rw [State.mapMemory_succ] at e
    obtain ⟨x, hf, e⟩ := Option.bind_eq_some_iff.mp e
    obtain ⟨v, hl, e⟩ := Option.bind_eq_some_iff.mp e
    exact ih e (State.mapLeaf_moves hl hb (State.frameTake_moves hf hb h))

@[simp] theorem State.unmapMemory_moves {w gsa n} (hb : p .bytes) (h : Moves p s t) : Moves p s (t.unmapMemory w gsa n) := by
  induction n generalizing t gsa with
  | zero => exact h
  | succ n ih =>
    unfold State.unmapMemory
    split
    · exact ih h
    · dsimp only
      split
      · exact h
      · next hl => exact ih (State.frameDrop_moves.mpr (State.mapLeaf_moves hl hb h))

theorem State.mapView_moves {w gsa from' addr n u} (e : t.mapView w gsa from' addr n = some u) (hb : p .bytes) (h : Moves p s t) : Moves p s u := by
  induction n generalizing t gsa addr with
  | zero => exact Moves.of_some e h
  | succ n ih =>
    unfold State.mapView at e
    split at e
    · cases e
    · split at e
      · cases e
      · next hl => exact ih e (State.mapLeaf_moves hl hb h)

@[simp] theorem State.unmapPages_moves {w gsa n} (hb : p .bytes) (h : Moves p s t) : Moves p s (t.unmapPages w gsa n) := by
  induction n generalizing t gsa with
  | zero => exact h
  | succ n ih =>
    unfold State.unmapPages
    split
    · exact h
    · next hl => exact ih (State.mapLeaf_moves hl hb h)

@[simp] theorem State.invalidate_moves {w} : Moves p s (t.invalidate w) ↔ Moves p s t := by simp [State.invalidate]
@[simp] theorem State.unmapLater_moves {w gsa n kind} : Moves p s (t.unmapLater w gsa n kind) ↔ Moves p s t := by simp [State.unmapLater]

@[simp] theorem State.unmapNow_moves {w l} (hb : p .bytes) (h : Moves p s t) : Moves p s (t.unmapNow w l) := by
  fun_induction State.unmapNow t w l with
  | case1 t g n kind l k t' ih => exact ih (by simp [t', h, hb])
  | case2 => exact h

@[simp] theorem State.dropViews_moves {q} (he : p .exports) (h : Moves p s t) : Moves p s (t.dropViews q) :=
  { (Moves.foldl_iff (fun _ _ => State.unmapLater_moves) (t.views.filter q)).mpr h with exports := by simp [he] }

@[simp] theorem State.revoke_moves {nums} : Moves p s (t.revoke nums).1 ↔ Moves p s t := by simp [State.revoke]

@[simp] theorem State.revoked_moves {nums} (he : p .exports) (h : Moves p s t) : Moves p s (t.revoked nums) :=
  State.setNum_moves.mpr { h with exports := by simp [he] }

@[simp] theorem State.unmapCancel_moves {w gsa n kind} : Moves p s (t.unmapCancel w gsa n kind) ↔ Moves p s t := by simp [State.unmapCancel]
@[simp] theorem State.revokeUndo_moves {nums} : Moves p s (t.revokeUndo nums) ↔ Moves p s t := by simp [State.revokeUndo]
@[simp] theorem State.rootSet_moves {w f} : Moves p s (t.rootSet w f) ↔ Moves p s t := by simp [State.rootSet]

@[simp] theorem State.needRoot_moves {w} (hb : p .bytes) (h : Moves p s t) : Moves p s (t.needRoot w) := by
  unfold State.needRoot
  split
  · exact h
  · split
    · exact h
    · next hf => simp [State.frameTake_moves hf hb h]

@[simp] theorem State.memKeyFill_moves {w} : Moves p s (t.memKeyFill w) ↔ Moves p s t := by simp [State.memKeyFill]

@[simp] theorem State.memKeyErase_moves {w} (hc : p .caches) (h : Moves p s t) : Moves p s (t.memKeyErase w).1 := by
  unfold State.memKeyErase
  split
  · exact { State.setRegs_moves.mpr h with caches := by simp [hc] }
  · exact h

@[simp] theorem State.ensignMap_moves (hb : p .bytes) (h : Moves p s t) : Moves p s t.ensignMap :=
  Moves.foldl (fun _ _ => Moves.getD (fun _ e => State.mapLeaf_moves e hb (Moves.refl ..)) (Moves.refl ..)) _ h

theorem State.createWorld_moves {kind x} (e : t.createWorld kind = some x) (hb : p .bytes) (h : Moves p s t) : Moves p s x.2 := by
  have hdef := @rfl _ State.createWorld
  conv at hdef => rhs; delta State.createWorld
  obtain ⟨take, htake⟩ : ∃ take, take = State.frameTake := ⟨_, rfl⟩
  rw [hdef, ← htake] at e
  beta_reduce at e
  split at e
  · cases e
  · split at e
    · cases e
    · next hf =>
      rw [htake] at hf
      exact Moves.of_some_snd e (by simp [State.frameTake_moves hf hb h])

@[simp] theorem State.setBlockState_moves {h' st} : Moves p s (t.setBlockState h' st) ↔ Moves p s t := by simp [State.setBlockState]

@[simp] theorem State.defaultsOf_moves {h'} (hk : p .banks) (h : Moves p s t) : Moves p s (t.defaultsOf h') :=
  State.setRegs_moves.mpr (State.dropPend_moves hk (State.revertShadow_moves hk (Moves.with_regs.mpr h)))

@[simp] theorem State.keepSettings_moves {h'} : Moves p s (t.keepSettings h') ↔ Moves p s t := Moves.with_halSettings
@[simp] theorem State.restoreSettings_moves {h'} : Moves p s (t.restoreSettings h') ↔ Moves p s t := Iff.intro (fun h => { h with }) (fun h => { h with })

@[simp] theorem State.startDrain_moves {h'} (hb : p .bytes) (hk : p .banks) (h : Moves p s t) : Moves p s (t.startDrain h') := by
  simp [State.startDrain, h, hb, hk]

@[simp] theorem State.startRecall_moves {h' n grace} (hb : p .bytes) (h : Moves p s t) : Moves p s (t.startRecall h' n grace) := by
  simp [State.startRecall, h, hb]

@[simp] theorem State.holdBlock_moves {h' w} (hb : p .bytes) (hk : p .banks) (h : Moves p s t) : Moves p s (t.holdBlock h' w) := by
  have hset : Moves p s ((t.keepSettings h').defaultsOf h') := by simp [h, hk]
  exact State.raise_moves hb (State.blockStart_moves hb (State.setUnitState_moves hb hk (by simp [hset, hb])))

@[simp] theorem State.abandonGrant_moves {h'} (hb : p .bytes) (h : Moves p s t) : Moves p s (t.abandonGrant h') := by simp [State.abandonGrant, h, hb]
@[simp] theorem State.abandonGrants_moves {w} (hb : p .bytes) (h : Moves p s t) : Moves p s (t.abandonGrants w) := by simp [State.abandonGrants, h, hb]

@[simp] theorem State.startGrant_moves {h' w n} (hb : p .bytes) (hk : p .banks) (h : Moves p s t) : Moves p s (t.startGrant h' w n) := by
  simp [State.startGrant, h, hb, hk]

@[simp] theorem State.debugDerive_moves : Moves p s (t.debugDerive) ↔ Moves p s t := by simp [State.debugDerive]
@[simp] theorem State.debugOpen_moves {n w} (hb : p .bytes) (h : Moves p s t) : Moves p s (t.debugOpen n w) := by simp [State.debugOpen, h, hb]
@[simp] theorem State.debugClose_moves {n w} (hb : p .bytes) (h : Moves p s t) : Moves p s (t.debugClose n w) := by simp [State.debugClose, h, hb]
@[simp] theorem State.debugCloseWorld_moves {w} (hb : p .bytes) (h : Moves p s t) : Moves p s (t.debugCloseWorld w) := by simp [State.debugCloseWorld, h, hb]
@[simp] theorem State.debugCloseAll_moves {n} (hb : p .bytes) (h : Moves p s t) : Moves p s (t.debugCloseAll n) := by simp [State.debugCloseAll, h, hb]

end Sys2Proof.Machine
end

section
/-!
PROOFS of O3 to O5, O8 and O9. What the operations move: the fabric, the heads, the rings, the caches, the renderer and the compositor.
-/
namespace Sys2Proof.Machine

variable {p : StatePart → Bool} {s t u : State}

/-! FabricOps.lean -/

@[simp] theorem State.arbSettle_moves {a win node cands} : Moves p s (t.arbSettle a win node cands) ↔ Moves p s t := by simp [State.arbSettle]
@[simp] theorem State.nodeRound_moves {a cands} : Moves p s (t.nodeRound a cands).1 ↔ Moves p s t := by unfold State.nodeRound; dsimp only; split <;> simp

@[simp] theorem State.portRound_moves {c cands} : Moves p s (t.portRound c cands).1 ↔ Moves p s t := by
  unfold State.portRound
  dsimp only
  split
  · rfl
  · split <;> simp

theorem State.contend_moves {round r l} (hr : ∀ t cs, Moves p s (round t cs).1 ↔ Moves p s t) : Moves p s (State.contend round r l t) ↔ Moves p s t := by
  induction l generalizing t with
  | nil => exact hr t [r]
  | cons cs l ih =>
    unfold State.contend
    split
    next hx =>
      have hs := hr t (r :: cs.filter (· != r))
      rw [hx] at hs
      split
      · exact hs
      · exact ih.trans hs

@[simp] theorem State.creditSpend_moves {w c len} : Moves p s (t.creditSpend w c len) ↔ Moves p s t := by simp [State.creditSpend]
@[simp] theorem State.resMark_moves {c q} : Moves p s (t.resMark c q).1 ↔ Moves p s t := by unfold State.resMark; split <;> simp
@[simp] theorem State.throttledFlag_moves {r} : Moves p s (t.throttledFlag r) ↔ Moves p s t := by simp [State.throttledFlag]

@[simp] theorem State.throttleEvent_moves {c bank w r st sev} (hb : p .bytes) (h : Moves p s t) : Moves p s (t.throttleEvent c bank w r st sev) := by
  simp [State.throttleEvent, h, hb]

@[simp] theorem State.rfmAction_moves {c bank w r} (hb : p .bytes) (ht : p .trackers) (h : Moves p s t) : Moves p s (t.rfmAction c bank w r) := by
  unfold State.rfmAction
  extract_lets s1 acts s2
  have hs : Moves p s s2 := Moves.with_rfmActs ht (by simp [s1, h])
  split
  · exact Moves.with_throttles ht hs
  · split
    · exact State.throttleEvent_moves hb (State.throttledFlag_moves.mpr (Moves.with_throttles ht hs))
    · exact hs

@[simp] theorem State.activate_moves {c bank row w r} (hb : p .bytes) (ht : p .trackers) (h : Moves p s t) : Moves p s (t.activate c bank row w r) := by
  unfold State.activate
  extract_lets b l s1 old t1 rest
  split
  next s' rest' hx =>
    have hs : Moves p s s' := by
      split at hx <;> cases hx <;> simp [s1, h]
    split
    · exact Moves.with_tracks ht hs
    · split
      exact State.rfmAction_moves hb ht (Moves.with_tracks ht hs)

@[simp] theorem State.markAll_moves {c l} : Moves p s (State.markAll c t l).1 ↔ Moves p s t := by
  induction l generalizing t with
  | nil => rfl
  | cons q l ih => exact ih.trans State.resMark_moves

@[simp] theorem State.concClose_moves {w} (hb : p .bytes) (h : Moves p s t) : Moves p s (t.concClose w) := by simp [State.concClose, h, hb]

@[simp] theorem State.serveReq_moves {c q} (hb : p .bytes) (ht : p .trackers) (h : Moves p s t) : Moves p s (t.serveReq c q) := by
  unfold State.serveReq
  dsimp only
  refine Moves.of_ite (State.addReg_moves.mpr (State.concClose_moves hb (State.setReg_moves.mpr (State.setRegs_moves.mpr ?_)))) (State.setRegs_moves.mpr ?_)
    <;> exact Moves.of_ite (by simp [h]) (State.activate_moves hb ht (Moves.with_throttles ht (by simp [h])))

@[simp] theorem State.serveUntil_moves {c own fuel queue} (hb : p .bytes) (ht : p .trackers) (h : Moves p s t) :
    Moves p s (t.serveUntil c own fuel queue).1 := by
  induction fuel generalizing t queue with
  | zero => exact h
  | succ fuel ih =>
    unfold State.serveUntil
    split
    · exact h
    · split
      · exact State.serveReq_moves hb ht h
      · exact ih (State.serveReq_moves hb ht h)

@[simp] theorem State.checkFetch_moves {q} (hb : p .bytes) (ht : p .trackers) (h : Moves p s t) : Moves p s (t.checkFetch q) := by
  simp [State.checkFetch, h, hb, ht]

@[simp] theorem State.spareEvent_moves {unit code left warn elem} (hb : p .bytes) (h : Moves p s t) :
    Moves p s (t.spareEvent unit code left warn elem) := by
  simp [State.spareEvent, h, hb]

@[simp] theorem State.copyMem_moves {from' to' n} (hb : p .bytes) (h : Moves p s t) : Moves p s (t.copyMem from' to' n) := by simp [State.copyMem, h, hb]

@[simp] theorem State.tablesMove_moves {f} (hb : p .bytes) (h : Moves p s t) : Moves p s (t.tablesMove f) := by
  have hdef := @rfl _ State.tablesMove
  conv at hdef => rhs; delta State.tablesMove
  obtain ⟨take, htake⟩ : ∃ take, take = State.frameTake := ⟨_, rfl⟩
  rw [hdef, ← htake]
  beta_reduce
  extract_lets w
  refine Moves.of_ite h ?_
  split
  · exact h
  · next g s1 hf =>
    rw [htake] at hf
    extract_lets s2 words s3 s4
    have h2 : Moves p s s2 := State.copyMem_moves hb (State.frameTake_moves hf hb h)
    have h3 : Moves p s s3 := Moves.foldl (fun t x => Moves.of_ite (State.writeBytes_moves hb (Moves.refl ..)) (Moves.refl ..)) _ h2
    exact State.invalidate_moves.mpr (State.clearMem_moves hb (State.frameDrop_moves.mpr (State.setRegs_moves.mpr h3)))

@[simp] theorem State.retireRow_moves {bank row} (hb : p .bytes) (h : Moves p s t) : Moves p s (t.retireRow bank row) := by
  simp (disch := simp [h, hb]) [State.retireRow, h]

@[simp] theorem State.failRow_moves {a} (hb : p .bytes) (h : Moves p s t) : Moves p s (t.failRow a) := by simp [State.failRow, h, hb]
@[simp] theorem State.rowsRepair_moves : Moves p s (t.rowsRepair) ↔ Moves p s t := by simp [State.rowsRepair]
@[simp] theorem State.correctedError_moves {a} (hb : p .bytes) (h : Moves p s t) : Moves p s (t.correctedError a) := by simp [State.correctedError, h, hb]
@[simp] theorem State.linkError_moves {c} (hb : p .bytes) (h : Moves p s t) : Moves p s (t.linkError c) := by simp [State.linkError, h, hb]

@[simp] theorem State.faultEvent_moves {w inst field unit cls acc e'} (hb : p .bytes) (h : Moves p s t) :
    Moves p s (t.faultEvent w inst field unit cls acc e') := by
  simp [State.faultEvent, h, hb]

@[simp] theorem State.accessFault_moves {w inst field unit cls acc e'} (hb : p .bytes) (h : Moves p s t) :
    Moves p s (t.accessFault w inst field unit cls acc e') := by
  simp [State.accessFault, h, hb]

@[simp] theorem State.poolWrite_moves {unit r n l off bs} (hb : p .bytes) (h : Moves p s t) : Moves p s (t.poolWrite unit r n l off bs) := by
  unfold State.poolWrite
  dsimp only
  split
  · next e => exact State.gwrite_moves e hb h
  · simp [h, hb]

/-! HeadOps.lean -/

@[simp] theorem State.headEvent_moves {n st sev pl} (hb : p .bytes) (h : Moves p s t) : Moves p s (t.headEvent n st sev pl) := by simp [State.headEvent, h, hb]

@[simp] theorem State.portEvent_moves {p' st sev pl} (hb : p .bytes) (h : Moves p s t) : Moves p s (t.portEvent p' st sev pl) := by
  simp [State.portEvent, h, hb]

@[simp] theorem State.headDerive_moves {n} : Moves p s (t.headDerive n) ↔ Moves p s t := by simp [State.headDerive]
@[simp] theorem State.startLink_moves {p'} : Moves p s (t.startLink p') ↔ Moves p s t := by simp [State.startLink]
@[simp] theorem State.rxEvent_moves {n st sev pl} (hb : p .bytes) (h : Moves p s t) : Moves p s (t.rxEvent n st sev pl) := by simp [State.rxEvent, h, hb]

/-! RingOps.lean -/

theorem State.cwrite_moves {i r va bs} {u} (e : t.cwrite i r va bs = .ok u) (hb : p .bytes) (h : Moves p s t) : Moves p s u := by
  grind [State.cwrite, State.gwrite_moves]

@[simp] theorem State.passClear_moves {i r} : Moves p s (t.passClear i r) ↔ Moves p s t :=
  (Iff.intro (fun h => { h with }) (fun h => { h with })).trans State.setRegs_moves

@[simp] theorem State.stopRing_moves {i r st} (hb : p .bytes) (h : Moves p s t) : Moves p s (t.stopRing i r st) := by
  unfold State.stopRing; dsimp only; split <;> simp [h, hb]

@[simp] theorem State.stopFault_moves {i r acc e'} (hb : p .bytes) (h : Moves p s t) : Moves p s (t.stopFault i r acc e') := by simp [State.stopFault, h, hb]
@[simp] theorem State.ringTake_moves {i r p'} : Moves p s (t.ringTake i r p') ↔ Moves p s t := by simp [State.ringTake]
@[simp] theorem State.ringIdle_moves {i r} : Moves p s (t.ringIdle i r) ↔ Moves p s t := by simp [State.ringIdle]

@[simp] theorem State.lookAhead_moves {i r} (hb : p .bytes) (h : Moves p s t) : Moves p s (t.lookAhead i r) := by
  unfold State.lookAhead
  split
  · exact h
  · split
    · split
      · exact State.stopRing_moves hb h
      · exact h
    · exact State.stopFault_moves hb h
    · exact h

@[simp] theorem State.ringDone_moves {i r p'} (hb : p .bytes) (h : Moves p s t) : Moves p s (t.ringDone i r p') := by simp [State.ringDone, h, hb]

@[simp] theorem State.ringHeld_moves {i r rank4 free} (hb : p .bytes) (h : Moves p s t) : Moves p s (t.ringHeld i r rank4 free) := by
  simp [State.ringHeld, h, hb]

theorem State.onPacket_moves {i r op f} (hb : p .bytes) (hf : ∀ t q, Moves p t (f t q)) (h : Moves p s t) : Moves p s (t.onPacket i r op f) := by
  unfold State.onPacket
  split
  · exact h
  · split
    · exact h
    · exact State.stopFault_moves hb h
    · split
      · exact h
      · split
        · exact State.stopRing_moves hb h
        · exact h.trans (hf _ _)

theorem State.fenceMax_moves {w root va v} {u} (e : t.fenceMax w root va v = .ok u) (hb : p .bytes) (h : Moves p s t) : Moves p s u := by
  grind [State.fenceMax, State.fabricPut_moves]

@[simp] theorem State.fenceCheck_moves {i r} (hb : p .bytes) (h : Moves p s t) : Moves p s (t.fenceCheck i r) := by
  unfold State.fenceCheck
  split
  · exact h
  · split
    · split
      · exact State.stopFault_moves hb h
      · split
        · simp [h, hb]
        · exact h
    · exact State.stopFault_moves hb h
    · exact h

@[simp] theorem State.fenceCheckAll_moves (hb : p .bytes) (h : Moves p s t) : Moves p s (t.fenceCheckAll) := by
  simp (disch := simp [h, hb]) [State.fenceCheckAll]

@[simp] theorem State.signalFence_moves {i r va v} (hb : p .bytes) (h : Moves p s t) : Moves p s (t.signalFence i r va v) := by
  unfold State.signalFence
  split
  · next e => exact State.fenceCheckAll_moves hb (State.fenceMax_moves e hb h)
  · simp [h, hb]

/-! Caches.lean -/

@[simp] theorem State.lineFill_moves {l} (hc : p .caches) (h : Moves p s t) : Moves p s (t.lineFill l) := Moves.with_lines hc h
@[simp] theorem State.lineLoad_moves {c flatCtx a} (hc : p .caches) (h : Moves p s t) : Moves p s (t.lineLoad c flatCtx a) := by simp [State.lineLoad, h, hc]

theorem State.shaderRead_moves {i r q x} (e : t.shaderRead i r q = .ok x) (hc : p .caches) (h : Moves p s t) : Moves p s x.1 := by
  unfold State.shaderRead at e
  split at e
  · cases e
  · exact Moves.of_ok_fst e (Moves.foldl (by simp [hc]) _ h)

theorem State.shaderReads_moves {i r l x} (e : t.shaderReads i r l = .ok x) (hc : p .caches) (h : Moves p s t) : Moves p s x.1 := by
  induction l generalizing t x with
  | nil => exact Moves.of_ok_fst e h
  | cons q l ih =>
    unfold State.shaderReads at e
    split at e
    · cases e
    next hq =>
      split at e
      · cases e
      · next hl => exact Moves.of_ok_fst e (ih hl (State.shaderRead_moves hq hc h))

theorem State.shaderStore_moves {i r q u} (e : t.shaderStore i r q = .ok u) (hb : p .bytes) (hc : p .caches) (h : Moves p s t) : Moves p s u := by
  unfold State.shaderStore at e
  split at e
  · cases e
  · exact Moves.of_ok e (Moves.with_lines hc (State.fabricPut_moves hb h))

@[simp] theorem State.shaderStores_moves {i r l} (hb : p .bytes) (hc : p .caches) (h : Moves p s t) : Moves p s (t.shaderStores i r l).1 := by
  induction l generalizing t with
  | nil => exact h
  | cons q l ih =>
    unfold State.shaderStores
    split
    · exact h
    · next hq => exact ih (State.shaderStore_moves hq hb hc h)

@[simp] theorem State.l1Drop_moves (hc : p .caches) (h : Moves p s t) : Moves p s t.l1Drop := Moves.with_lines hc h

theorem State.tileWrite_moves {i r va bs u} (e : t.tileWrite i r va bs = .ok u) (hb : p .bytes) (hc : p .caches) (h : Moves p s t) : Moves p s u := by
  unfold State.tileWrite at e
  split at e
  · cases e
  · exact Moves.of_ok e (Moves.with_lines hc (State.fabricPut_moves hb h))

/-! NimOps.lean -/

theorem State.cfill_moves {i r va b n u} (e : t.cfill i r va b n = .ok u) (hb : p .bytes) (h : Moves p s t) : Moves p s u := by
  induction n generalizing t va with
  | zero => exact Moves.of_ok e h
  | succ n ih =>
    unfold State.cfill at e
    split at e
    · cases e
    · next hw => exact ih e (State.cwrite_moves hw hb h)

@[simp] theorem State.poolPeak_moves {i r} : Moves p s (t.poolPeak i r) ↔ Moves p s t := by simp [State.poolPeak]

theorem State.blockWrite_moves {i r b off d} {u} (e : t.blockWrite i r b off d = .ok u) (hb : p .bytes) (h : Moves p s t) : Moves p s u := by
  grind [State.blockWrite, State.cwrite_moves]

theorem State.blockOpaque_moves {i r b} {u} (e : t.blockOpaque i r b = .ok u) (hb : p .bytes) (h : Moves p s t) : Moves p s u := by
  grind [State.blockOpaque, State.blockWrite_moves, State.tick_moves]

theorem State.binAppend_moves {i r dir t' ref u} (e : t.binAppend i r dir t' ref = .ok u) (hb : p .bytes) (h : Moves p s t) : Moves p s u := by
  unfold State.binAppend at e
  split at e
  · cases e
  dsimp only at e
  split at e
  · exact State.cwrite_moves e hb h
  split at e
  · exact State.cwrite_moves e hb h
  split at e
  · split at e
    · cases e
    · next hw => exact State.cwrite_moves e hb (State.blockWrite_moves hw hb h)
  · split at e
    · cases e
    next hw =>
      have hs := State.blockWrite_moves hw hb (State.setReg_moves.mpr h)
      split at e
      · cases e
      next hl =>
        refine State.cwrite_moves e hb ?_
        split at hl
        · exact State.cwrite_moves hl hb hs
        · exact State.blockWrite_moves hl hb hs

theorem State.binAll_moves {i r dir ref ts u} (e : t.binAll i r dir ref ts = .ok u) (hb : p .bytes) (h : Moves p s t) : Moves p s u := by
  induction ts generalizing t with
  | nil => exact Moves.of_ok e h
  | cons a ts ih =>
    unfold State.binAll at e
    split at e
    · cases e
    · next hw => exact ih e (State.binAppend_moves hw hb h)

theorem State.broadLink_moves {i r b} {u} (e : t.broadLink i r b = .ok u) (hb : p .bytes) (h : Moves p s t) : Moves p s u := by
  grind [State.broadLink, State.setRegs_moves, State.blockWrite_moves]

theorem State.binPrim_moves {i r d b u} (e : t.binPrim i r d b = .ok (some u)) (hb : p .bytes) (h : Moves p s t) : Moves p s u := by
  unfold State.binPrim at e
  dsimp only at e
  have h0 : Moves p s (if bytesAt b 0 1 = 1 then t.setReg (Reg.drawRec i r) 0 else t) := by simp [h]
  generalize (if bytesAt b 0 1 = 1 then t.setReg (Reg.drawRec i r) 0 else t) = t0 at e h0
  split at e
  · cases e
  split at e
  · cases e
  split at e
  · cases e
  next s1 hx =>
  have h1 : Moves p s s1 := by
    split at hx
    · exact State.blockOpaque_moves hx hb h0
    · exact Moves.of_ok hx h0
  split at e
  · cases e
  next s2 hy =>
  have h2 : Moves p s s2 := by
    split at hy
    · exact State.blockWrite_moves hy hb h1
    · exact Moves.of_ok hy h1
  split at e
  · cases e
  next s3 hz =>
  have h3 : Moves p s s3 := State.blockWrite_moves hz hb (by simp [h2])
  have e := ok_of_map_some e
  split at e
  · exact State.broadLink_moves e hb h3
  · exact State.binAll_moves e hb h3

theorem State.binQueue_moves {i r d l u} (e : t.binQueue i r d l = .ok u) (hb : p .bytes) (h : Moves p s t) : Moves p s u := by
  induction l generalizing t with
  | nil => exact Moves.of_ok e (by simp [h])
  | cons b l ih =>
    unfold State.binQueue at e
    split at e
    · cases e
    · exact Moves.of_ok e (by simp [h])
    · next hx => exact ih e (State.binPrim_moves hx hb h)

@[simp] theorem State.binGo_moves {i r} (hb : p .bytes) (h : Moves p s t) : Moves p s (t.binGo i r) := by
  unfold State.binGo
  split
  · exact State.stopFault_moves hb h
  · split
    · exact State.stopFault_moves hb h
    · next hx => simp [State.binQueue_moves hx hb h]

theorem State.metaWrite_moves {i r f off code} {u} (e : t.metaWrite i r f off code = .ok u) (hb : p .bytes) (h : Moves p s t) : Moves p s u := by
  grind [State.metaWrite, State.cwrite_moves]

theorem State.metaStore_moves {i r f off code} {u} (e : t.metaStore i r f off code = .ok u) (hb : p .bytes) (hc : p .caches) (h : Moves p s t) :
    Moves p s u := by
  grind [State.metaStore, State.tileWrite_moves]

@[simp] theorem State.metaBad_moves {i r n} (hb : p .bytes) (h : Moves p s t) : Moves p s (t.metaBad i r n) := by simp [State.metaBad, h, hb]

theorem State.unitOut.free_moves {i r f u' u} (e : State.unitOut.free i r f u' t = .ok u) (hb : p .bytes) (hc : p .caches) (h : Moves p s t) : Moves p s u := by
  unfold State.unitOut.free at e
  split at e
  · cases e
  · next hm => exact State.tileWrite_moves e hb hc (State.tick_moves.mpr (State.metaStore_moves hm hb hc h))

theorem State.unitOut_moves {i r f own drawn u' l u} (e : t.unitOut i r f own drawn u' l = .ok u) (hb : p .bytes) (hc : p .caches) (h : Moves p s t) : Moves p s u := by
  unfold State.unitOut at e
  dsimp only at e
  split at e
  · split at e
    · exact State.metaStore_moves e hb hc h
    · exact State.unitOut.free_moves e hb hc h
  · split at e
    · exact Moves.of_ok e h
    · exact State.unitOut.free_moves e hb hc h

theorem State.unitsOut_moves {i r f own drawn l us u} (e : t.unitsOut i r f own drawn l us = .ok u) (hb : p .bytes) (hc : p .caches) (h : Moves p s t) : Moves p s u := by
  induction us generalizing t with
  | nil => exact Moves.of_ok e h
  | cons a us ih =>
    unfold State.unitsOut at e
    split at e
    · cases e
    · next hw => exact ih e (State.unitOut_moves hw hb hc h)

theorem State.rawOut_moves {i r f l u} (e : t.rawOut i r f l = .ok u) (hb : p .bytes) (hc : p .caches) (h : Moves p s t) : Moves p s u := by
  induction l generalizing t with
  | nil => exact Moves.of_ok e h
  | cons a l ih =>
    obtain ⟨x, y, q, b, c⟩ := a
    unfold State.rawOut at e
    split at e
    · cases e
    · next hw => exact ih e (State.tileWrite_moves hw hb hc h)

theorem State.texelsOut_moves {i r f own drawn l} {u} (e : t.texelsOut i r f own drawn l = .ok u) (hb : p .bytes) (hc : p .caches) (h : Moves p s t) :
    Moves p s u := by
  grind [State.texelsOut, State.rawOut_moves, State.unitsOut_moves]

theorem State.tileOut_moves {i r a k load src items v l u} (e : t.tileOut i r a k load src items v l = .ok u) (hb : p .bytes) (hc : p .caches) (h : Moves p s t) :
    Moves p s u := by
  induction l generalizing t with
  | nil => exact Moves.of_ok e h
  | cons a l ih =>
    obtain ⟨f, res⟩ := a
    unfold State.tileOut at e
    dsimp only at e
    split at e
    · cases e
    · next hw => exact ih e (State.texelsOut_moves hw hb hc h)

theorem State.tileOuts_moves {i r plan loads srcs items v l u} (e : t.tileOuts i r plan loads srcs items v l = .ok u) (hb : p .bytes) (hc : p .caches)
    (h : Moves p s t) : Moves p s u := by
  induction l generalizing t with
  | nil => exact Moves.of_ok e h
  | cons a l ih =>
    obtain ⟨a, k⟩ := a
    unfold State.tileOuts at e
    split at e
    · cases e
    · next hw => exact ih e (State.tileOut_moves hw hb hc h)

theorem State.renderTile_moves {i r d as plan upTo n t' u} (e : t.renderTile i r d as plan upTo n t' = .ok u) (hb : p .bytes) (hc : p .caches) (h : Moves p s t) :
    Moves p s u := by
  unfold State.renderTile at e
  split at e
  · cases e
  dsimp only at e
  split at e
  · cases e
  · exact State.tileOuts_moves (ok_of_mapError e) hb hc (by simp [h, hb])

theorem State.renderTiles_moves {i r d as plan upTo l u} (e : t.renderTiles i r d as plan upTo l = .ok u) (hb : p .bytes) (hc : p .caches) (h : Moves p s t) :
    Moves p s u := by
  induction l generalizing t with
  | nil => exact Moves.of_ok e h
  | cons a l ih =>
    obtain ⟨a, k⟩ := a
    unfold State.renderTiles at e
    split at e
    · cases e
    · next hw => exact ih e (State.renderTile_moves hw hb hc h)

theorem State.emptyTiles_moves {i r dir ts u} (e : t.emptyTiles i r dir ts = .ok u) (hb : p .bytes) (h : Moves p s t) : Moves p s u := by
  induction ts generalizing t with
  | nil => exact Moves.of_ok e h
  | cons a ts ih =>
    unfold State.emptyTiles at e
    split at e
    · cases e
    · next hw => exact ih e (State.cwrite_moves hw hb h)

@[simp] theorem State.segmentOpen_moves {i r seg} : Moves p s (t.segmentOpen i r seg) ↔ Moves p s t := by simp [State.segmentOpen]

@[simp] theorem State.partialFlush_moves {i r reason} (hb : p .bytes) (hc : p .caches) (h : Moves p s t) : Moves p s (t.partialFlush i r reason) := by
  unfold State.partialFlush
  split
  · exact State.stopFault_moves hb h
  dsimp only
  split
  · exact State.stopFault_moves hb h
  next hr =>
    have hs := State.renderTiles_moves hr hb hc h
    split
    · exact State.stopFault_moves hb hs
    · next he => exact State.binGo_moves hb (State.raise_moves hb (by simp [State.emptyTiles_moves he hb hs]))

theorem State.passStores_moves {i r d as} {u} (e : t.passStores i r d as = .ok u) (hb : p .bytes) (hc : p .caches) (h : Moves p s t) : Moves p s u := by
  grind [State.passStores, State.renderTiles_moves]

@[simp] theorem State.flushNow_moves {i r reason} (hb : p .bytes) (hc : p .caches) (h : Moves p s t) : Moves p s (t.flushNow i r reason) := by
  simp [State.flushNow, h, hb, hc]

theorem State.extTake_moves {i r ext n l x} (e : t.extTake i r ext n l = .ok x) (hb : p .bytes) (h : Moves p s t) : Moves p s x.1 := by
  induction l generalizing t n x with
  | nil => exact Moves.of_ok_fst e h
  | cons a l ih =>
    obtain ⟨a, sz, st⟩ := a
    unfold State.extTake at e
    split at e
    · exact ih e h
    dsimp only at e
    split at e
    · cases e
    next hw =>
      have hs := State.cwrite_moves hw hb h
      split at e
      · exact ih e (State.raise_moves hb hs)
      · split at e
        · cases e
        · next hx => exact Moves.of_ok_fst e (ih hx (by simp [hs]))

theorem State.extRead_moves {i r x} (e : t.extRead i r = .ok x) (hb : p .bytes) (h : Moves p s t) : Moves p s x.1 := by
  unfold State.extRead at e
  split at e
  · cases e
  split at e
  · cases e
  split at e
  · cases e
  next hx =>
    split at e
    · cases e
    · exact Moves.of_ok_fst e (State.extTake_moves hx hb h)

@[simp] theorem State.poolFull_moves {i r} (hb : p .bytes) (hc : p .caches) (h : Moves p s t) : Moves p s (t.poolFull i r) := by
  unfold State.poolFull
  split
  · exact State.stopFault_moves hb h
  next hx =>
    have hs := State.extRead_moves hx hb h
    split
    · exact State.binGo_moves hb hs
    · split
      · exact State.partialFlush_moves hb hc hs
      · split
        · exact State.partialFlush_moves hb hc hs
        · exact State.raise_moves hb (by simp [show Moves p s _ from hs])

@[simp] theorem State.extReread_moves {i r last} (hb : p .bytes) (hc : p .caches) (h : Moves p s t) : Moves p s (t.extReread i r last) := by
  unfold State.extReread
  split
  · exact State.stopFault_moves hb h
  next s' k l ext hx =>
    have hs : Moves p s s' := State.extRead_moves hx hb h
    split
    · exact Moves.of_ite (State.binGo_moves hb (State.raise_moves hb (by simp [hs]))) (State.raise_moves hb (by simp [hs]))
    · split
      · split
        · exact State.stopFault_moves hb hs
        · next hw => exact State.flushNow_moves hb hc (State.cwrite_moves hw hb hs)
      · split
        · exact State.flushNow_moves hb hc hs
        · exact hs

@[simp] theorem State.nimUse_moves {w n} : Moves p s (t.nimUse w n) ↔ Moves p s t := by simp [State.nimUse]
@[simp] theorem State.flatUse_moves {n k} : Moves p s (t.flatUse n k) ↔ Moves p s t := by simp [State.flatUse]
@[simp] theorem State.preempted_moves : Moves p s (t.preempted) ↔ Moves p s t := by simp [State.preempted]

@[simp] theorem State.nimSchedule_moves (hb : p .bytes) (hc : p .caches) (h : Moves p s t) : Moves p s (t.nimSchedule) := by
  unfold State.nimSchedule; split <;> simp [h, hb, hc]

theorem State.skipped_moves {i r f q} (hb : p .bytes) (hf : ∀ t q, Moves p t (f t q)) (h : Moves p s t) : Moves p s (State.skipped i r f t q) := by
  unfold State.skipped
  split
  · exact State.stopRing_moves hb h
  split
  · simp [h, hb]
  split
  · simp [h, hb]
  · exact h.trans (hf t q)

theorem State.onNim_moves {i r op rn cp f} (hb : p .bytes) (hf : ∀ t q, Moves p t (f t q)) (h : Moves p s t) : Moves p s (t.onNim i r op rn cp f) := by
  unfold State.onNim
  split
  · exact h
  refine State.onPacket_moves hb (fun t q => ?_) h
  dsimp only
  have hg : ∀ u q, Moves p u ((if t.reg (Reg.passSkip i r) = 1 then State.skipped i r f else f) u q) := by
    intro u q
    split
    · exact State.skipped_moves hb hf (Moves.refl ..)
    · exact hf u q
  split
  · simp [hb]
  split
  · exact hg t q
  split
  · exact hg t q
  split
  · exact Moves.trans (by simp) (hg _ q)
  · exact Moves.refl ..

@[simp] theorem State.copyBytes_moves {i r src dst free n} (hb : p .bytes) (h : Moves p s t) : Moves p s (State.copyBytes i r src dst free n t).1 := by
  induction n generalizing t src dst free with
  | zero => exact h
  | succ n ih =>
    unfold State.copyBytes
    split
    · exact h
    · split
      · exact h
      · next hw => exact ih (State.cwrite_moves hw hb h)

@[simp] theorem State.fillBytes_moves {i r dst v n k} (hb : p .bytes) (h : Moves p s t) : Moves p s (State.fillBytes i r dst v n k t).1 := by
  induction n generalizing t dst k with
  | zero => exact h
  | succ n ih =>
    unfold State.fillBytes
    split
    · exact h
    · next hw => exact ih (State.cwrite_moves hw hb h)

theorem State.copyTexel_moves {i r f g x' y fl fa fp gl ga gp u} (e : t.copyTexel i r f g x' y fl fa fp gl ga gp = .ok u) (hb : p .bytes) (h : Moves p s t) :
    Moves p s u := by
  unfold State.copyTexel at e
  split at e
  · cases e
  split at e
  · cases e
  next hw =>
    have hs := State.cwrite_moves hw hb (State.metaBad_moves hb h)
    split at e
    · exact Moves.of_ok e hs
    · exact State.metaWrite_moves (ok_of_mapError e) hb hs

@[simp] theorem State.copyTexels_moves {i r f g fs gs l} (hb : p .bytes) (h : Moves p s t) : Moves p s (State.copyTexels i r f g fs gs l t).1 := by
  induction l generalizing t with
  | nil => exact h
  | cons a l ih =>
    obtain ⟨x, y⟩ := a
    unfold State.copyTexels
    split
    · exact h
    · next hw => exact ih (State.copyTexel_moves hw hb h)

@[simp] theorem State.flatPresent_moves {n i r va fr} (hb : p .bytes) (h : Moves p s t) : Moves p s (t.flatPresent n i r va fr) := by
  simp [State.flatPresent, h, hb]

/-! BuntingOps.lean -/

@[simp] theorem State.compDerive_moves {n} : Moves p s (t.compDerive n) ↔ Moves p s t := by simp [State.compDerive]

/-- One frame more, for a caller that the kernel does not compute through (see `mapMemory_succ`). -/
theorem State.mapPool_succ (s : State) (w gsa n : Nat) : s.mapPool w gsa (n + 1) =
    (s.frameTake w 1).bind fun x => (x.2.mapLeaf w gsa 2 (leafDesc 2 (x.1 * frameBytes) 1 w true true)).bind fun s => s.mapPool w (gsa + frameBytes) n := by
  have hdef := @rfl _ State.mapPool
  conv at hdef => rhs; delta State.mapPool
  have hstep := @rfl _ State.mapPool._f
  conv at hstep => rhs; delta State.mapPool._f
  rw [hdef, hstep]
  obtain ⟨take, htake⟩ : ∃ take, take = State.frameTake := ⟨_, rfl⟩
  obtain ⟨leaf, hleaf⟩ : ∃ leaf, leaf = State.mapLeaf := ⟨_, rfl⟩
  obtain ⟨size, hsize⟩ : ∃ size, size = frameBytes := ⟨_, rfl⟩
  rw [← htake, ← hleaf, ← hsize]
  clear htake hleaf hsize
  conv => lhs; whnf
  cases take s w 1 with
  | none => rfl
  | some x =>
    obtain ⟨f, s⟩ := x
    rw [Option.bind_some]
    dsimp only
    cases leaf s w gsa 2 (leafDesc 2 (f * size) 1 w true true) <;> rfl

theorem State.mapPool_moves {w gsa n u} (e : t.mapPool w gsa n = some u) (hb : p .bytes) (h : Moves p s t) : Moves p s u := by
  induction n generalizing t gsa with
  | zero => exact Moves.of_some e h
  | succ n ih =>
    rw [State.mapPool_succ] at e
    obtain ⟨x, hf, e⟩ := Option.bind_eq_some_iff.mp e
    obtain ⟨v, hl, e⟩ := Option.bind_eq_some_iff.mp e
    exact ih e (State.mapLeaf_moves hl hb (State.frameTake_moves hf hb h))

@[simp] theorem State.poolDrop_moves {n l} : Moves p s (t.poolDrop n l) ↔ Moves p s t := by simp [State.poolDrop]

@[simp] theorem State.poolSet_moves {n l} (hb : p .bytes) (h : Moves p s t) : Moves p s (t.poolSet n l) := by
  unfold State.poolSet
  extract_lets w k d
  have hs : Moves p s d := by simp [d, h]
  clear_value k d
  refine Moves.of_ite h ?_
  split
  · exact hs
  · split
    · exact hs
    · split
      · exact hs
      · next hm => simp [State.mapPool_moves hm hb (State.tick_moves.mpr hs)]

@[simp] theorem State.releaseAll_moves {i l} (hb : p .bytes) (h : Moves p s t) : Moves p s (t.releaseAll i l) := by simp [State.releaseAll, h, hb]

@[simp] theorem State.flipRefuse_moves {i n l layer reason ep} (hb : p .bytes) (h : Moves p s t) : Moves p s (t.flipRefuse i n l layer reason ep) := by
  simp [State.flipRefuse, h, hb]

@[simp] theorem State.takeEpoch_moves : Moves p s (t.takeEpoch) ↔ Moves p s t := by simp [State.takeEpoch]
@[simp] theorem State.flipClear_moves {w n} : Moves p s (t.flipClear w n) ↔ Moves p s t := by simp [State.flipClear]
@[simp] theorem State.surfaceOut_moves {n l} (hb : p .bytes) (h : Moves p s t) : Moves p s (t.surfaceOut n l) := by simp [State.surfaceOut, h, hb]
@[simp] theorem State.flipShow_moves {i n ep b} (hb : p .bytes) (h : Moves p s t) : Moves p s (t.flipShow i n ep b) := by simp [State.flipShow, h, hb]

@[simp] theorem State.flipLine_moves {n w} (hb : p .bytes) (h : Moves p s t) : Moves p s (t.flipLine n w) := by
  unfold State.flipLine
  dsimp only
  split
  · exact h
  · split
    · simp [h]
    · split
      · simp [h, hb]
      · exact State.raise_moves hb (Moves.foldl (by simp [hb]) _ (by simp [h]))

@[simp] theorem State.flipDrop_moves {w n st sev pl} (hb : p .bytes) (h : Moves p s t) : Moves p s (t.flipDrop w n st sev pl) := by simp [State.flipDrop, h, hb]

@[simp] theorem State.layerChanged_moves {n l} (hb : p .bytes) (h : Moves p s t) : Moves p s (t.layerChanged n l) := by
  simp (disch := simp [h, hb]) [State.layerChanged]

@[simp] theorem State.layerFault_moves {n l} (hb : p .bytes) (h : Moves p s t) : Moves p s (t.layerFault n l) := by simp [State.layerFault, h, hb]
@[simp] theorem State.fetchLate_moves {n} (hb : p .bytes) (h : Moves p s t) : Moves p s (t.fetchLate n) := by simp [State.fetchLate, h, hb]
@[simp] theorem State.layerMetaError_moves {n l} (hb : p .bytes) (h : Moves p s t) : Moves p s (t.layerMetaError n l) := by simp [State.layerMetaError, h, hb]
@[simp] theorem State.sunStep_moves {n} : Moves p s (t.sunStep n) ↔ Moves p s t := by simp [State.sunStep]
@[simp] theorem State.dimDerive_moves {n} : Moves p s (t.dimDerive n) ↔ Moves p s t := by simp [State.dimDerive]

end Sys2Proof.Machine
end

section
/-!
PROOFS of O3 to O5, O8 and O9. What the operations move: audio, updates, the security unit, the Ensign runtime, haptics, touch, links, flags of the cores, and commits.
-/
namespace Sys2Proof.Machine

variable {p : StatePart → Bool} {s t u : State}

/-! AudioBase.lean -/

@[simp] theorem State.audDerive_moves : Moves p s (t.audDerive) ↔ Moves p s t := by simp [State.audDerive]
@[simp] theorem State.gainRamp_moves {idx sub from' ms} : Moves p s (t.gainRamp idx sub from' ms) ↔ Moves p s t := by simp [State.gainRamp]

@[simp] theorem State.audRamps_moves {s'} : Moves p s (State.audRamps s' t) ↔ Moves p s t := by
  unfold State.audRamps
  simp

@[simp] theorem State.audSources_moves : Moves p s (t.audSources) ↔ Moves p s t := by simp [State.audSources]
@[simp] theorem State.bridgeAnew_moves {k} : Moves p s (t.bridgeAnew k) ↔ Moves p s t := by simp [State.bridgeAnew]
@[simp] theorem State.tdmAnew_moves {p'} : Moves p s (t.tdmAnew p') ↔ Moves p s t := by simp [State.tdmAnew]
@[simp] theorem State.audStarts_moves : Moves p s (t.audStarts) ↔ Moves p s t := by simp [State.audStarts]

@[simp] theorem State.audApplied_moves {s'} (hb : p .bytes) (h : Moves p s t) : Moves p s (State.audApplied s' t) := by
  unfold State.audApplied
  extract_lets s1 s2 s3 s4 s5 s6 ts s7 s8
  have h2 : Moves p s s2 := Moves.foldl (fun t b => by simp) _ (by simp [s1, h])
  have h3 : Moves p s s3 := Moves.foldl (fun t b => Moves.of_ite (Moves.refl ..) (State.setRegs_moves.mpr (State.setNum_moves.mpr (Moves.with_audBufs.mpr (Moves.refl ..))))) _ h2
  have h6 : Moves p s s6 := by simp [s6, s5, s4, h3]
  exact Moves.of_ite h6 (State.raise_moves hb (by simp [s8, s7, h6]))

/-! UpdBase.lean -/

@[simp] theorem State.setItemState_moves {h' b st} : Moves p s (t.setItemState h' b st) ↔ Moves p s t := by simp [State.setItemState]
@[simp] theorem State.itemSwitch_moves {h' b st old} : Moves p s (t.itemSwitch h' b st old) ↔ Moves p s t := by simp [State.itemSwitch]
@[simp] theorem State.updJnl_moves : Moves p s (t.updJnl) ↔ Moves p s t := by simp [State.updJnl]
@[simp] theorem State.updTo_moves {st} : Moves p s (t.updTo st) ↔ Moves p s t := by simp [State.updTo]
@[simp] theorem State.updSettle_moves (hb : p .bytes) (h : Moves p s t) : Moves p s (t.updSettle) := by simp [State.updSettle, h, hb]
@[simp] theorem State.startPassed_moves {h'} (hb : p .bytes) (h : Moves p s t) : Moves p s (t.startPassed h') := by simp [State.startPassed, h, hb]
@[simp] theorem State.settingsBack_moves {h' b} (hk : p .banks) (h : Moves p s t) : Moves p s (t.settingsBack h' b) := { h with banks := by simp [hk] }

@[simp] theorem State.startFailed_moves {h'} (hb : p .bytes) (hk : p .banks) (h : Moves p s t) : Moves p s (t.startFailed h').1 := by
  unfold State.startFailed
  extract_lets b s1 s2 s3
  have h1 : Moves p s s1 := State.raise_moves hb (by simp [h])
  have h2 : Moves p s s2 := State.redeclare_moves hb hk (by simp [h, hk])
  have h3 : Moves p s s3 := State.raise_moves hb h2
  split
  · dsimp only
    exact State.updSettle_moves hb (State.setUnitState_moves hb hk h1)
  split
  · dsimp only
    exact Moves.of_ite (State.setUnitState_moves hb hk h3) h3
  · exact h

/-! SecOps.lean -/

@[simp] theorem State.measure_moves {j item} : Moves p s (t.measure j item) ↔ Moves p s t := by simp [State.measure]

theorem State.gated_moves {n key f} (hb : t.overruns n = true → p .bytes) (hf : ∀ t, Moves p t (f t)) (h : Moves p s t) : Moves p s (t.gated n key f) :=
  State.request_moves hb (fun t => Moves.of_ite (hf t) (by simp)) h

theorem State.written_moves {n key d f} (hb : t.overruns n = true → p .bytes) (hf : ∀ t, Moves p t (f t)) (h : Moves p s t) : Moves p s (t.written n key d f) :=
  State.request_moves hb (fun t => Moves.of_ite (hf t) (by simp)) h

/-! EnsignOps.lean -/

@[simp] theorem State.pinDrive_moves {o} : Moves p s (t.pinDrive o) ↔ Moves p s t := by simp [State.pinDrive]
@[simp] theorem State.ioDerive_moves : Moves p s (t.ioDerive) ↔ Moves p s t := by simp [State.ioDerive]

@[simp] theorem State.drawRect_moves {n k x' y w h' f} (hb : p .bytes) (h : Moves p s t) : Moves p s (t.drawRect n k x' y w h' f) := by
  unfold State.drawRect
  split
  · exact h
  · split
    · exact h
    · exact Moves.foldl (fun t j => Moves.foldl (by simp [hb]) _ (Moves.refl ..)) _ (by simp [h])

@[simp] theorem State.ensEvent_moves {st sev n k p'} (hb : p .bytes) (h : Moves p s t) : Moves p s (t.ensEvent st sev n k p') := by simp [State.ensEvent, h, hb]
@[simp] theorem State.ensState_moves {n k p' b st} : Moves p s (t.ensState n k p' b st) ↔ Moves p s t := by simp [State.ensState]
@[simp] theorem State.bindStep_moves {p' x'} (hb : p .bytes) (h : Moves p s t) : Moves p s (t.bindStep p' x') := by simp [State.bindStep, h, hb]
@[simp] theorem State.pageSet_moves {g on} : Moves p s (t.pageSet g on) ↔ Moves p s t := by simp [State.pageSet]
@[simp] theorem State.pageStep_moves {p' g} (hb : p .bytes) (h : Moves p s t) : Moves p s (t.pageStep p' g) := by simp [State.pageStep, h, hb]
@[simp] theorem State.pageAck_moves {p' src g} (hb : p .bytes) (h : Moves p s t) : Moves p s (t.pageAck p' src g) := by simp [State.pageAck, h, hb]
@[simp] theorem State.ensCounts_moves {p'} : Moves p s (t.ensCounts p') ↔ Moves p s t := by simp [State.ensCounts]
@[simp] theorem State.regionChoose_moves {p' n k} : Moves p s (t.regionChoose p' n k) ↔ Moves p s t := by unfold State.regionChoose; split <;> simp
@[simp] theorem State.regionsChoose_moves : Moves p s (t.regionsChoose) ↔ Moves p s t := by unfold State.regionsChoose; split <;> simp
@[simp] theorem State.outsStep_moves : Moves p s (t.outsStep) ↔ Moves p s t := by unfold State.outsStep; split <;> simp

@[simp] theorem State.integrityEvent_moves {n k st sev obs exp} (hb : p .bytes) (h : Moves p s t) : Moves p s (t.integrityEvent n k st sev obs exp) := by
  simp [State.integrityEvent, h, hb]

@[simp] theorem State.kindDerive_moves {n k} : Moves p s (t.kindDerive n k) ↔ Moves p s t := by simp [State.kindDerive]
@[simp] theorem State.carryDerive_moves : Moves p s (t.carryDerive) ↔ Moves p s t := by simp [State.carryDerive]
@[simp] theorem State.alarmAssert_moves : Moves p s (t.alarmAssert) ↔ Moves p s t := by simp [State.alarmAssert]
@[simp] theorem State.alarmRelease_moves : Moves p s (t.alarmRelease) ↔ Moves p s t := by simp [State.alarmRelease]

@[simp] theorem State.findScreen_moves {n k c} (hb : p .bytes) (h : Moves p s t) : Moves p s (t.findScreen n k c) := by
  unfold State.findScreen; split <;> simp [h, hb]

@[simp] theorem State.fallback_moves {n k} (hb : p .bytes) (h : Moves p s t) : Moves p s (t.fallback n k) := by simp (disch := simp [h, hb]) [State.fallback]
@[simp] theorem State.regionLost_moves {n k st} (hb : p .bytes) (h : Moves p s t) : Moves p s (t.regionLost n k st) := by simp [State.regionLost, h, hb]
@[simp] theorem State.regionUnseen_moves {n k} (hb : p .bytes) (h : Moves p s t) : Moves p s (t.regionUnseen n k) := by simp [State.regionUnseen, h, hb]
@[simp] theorem State.regionsUnseen_moves {n} (hb : p .bytes) (h : Moves p s t) : Moves p s (t.regionsUnseen n) := by simp [State.regionsUnseen, h, hb]
@[simp] theorem State.headRefresh_moves {n} (hb : p .bytes) (h : Moves p s t) : Moves p s (t.headRefresh n) := by simp [State.headRefresh, h, hb]

@[simp] theorem State.unitDead_moves {h'} (hb : p .bytes) (hk : p .banks) (h : Moves p s t) : Moves p s (t.unitDead h') := by
  unfold State.unitDead; split <;> simp [h, hb, hk]

@[simp] theorem State.regionBack_moves {n k} : Moves p s (t.regionBack n k) ↔ Moves p s t := by simp [State.regionBack]
@[simp] theorem State.pairHalt_moves (hb : p .bytes) (hk : p .banks) (h : Moves p s t) : Moves p s (t.pairHalt) := by simp [State.pairHalt, h, hb, hk]
@[simp] theorem State.pairRestart_moves (hb : p .bytes) (hk : p .banks) (h : Moves p s t) : Moves p s (t.pairRestart) := by simp [State.pairRestart, h, hb, hk]

@[simp] theorem State.pkgTake_moves {p' n} (hb : p .bytes) (h : Moves p s t) : Moves p s (t.pkgTake p' n) := by
  refine Moves.foldl (fun t k => ?_) _ h
  dsimp only
  split
  · exact State.kindDerive_moves.mpr (Moves.of_ite (by simp [hb]) (by simp))
  · simp

@[simp] theorem State.pagesClear_moves : Moves p s (t.pagesClear) ↔ Moves p s t := by
  refine Moves.with_regs.trans ?_
  split
  · rfl
  · simp

@[simp] theorem State.pkgFinish_moves (hb : p .bytes) (hg : p .packages) (h : Moves p s t) : Moves p s (t.pkgFinish) := by
  unfold State.pkgFinish
  split
  · exact h
  · split
    · exact h
    · have hs {a b} : Moves p s { (t.pagesClear) with activePkg := a, nextPkg := b } := { State.pagesClear_moves.mpr h with packages := by simp [hg] }
      exact State.outsStep_moves.mpr (State.raise_moves hb (by simp [hs]))

@[simp] theorem State.pkgLine_moves {n} (hb : p .bytes) (hg : p .packages) (h : Moves p s t) : Moves p s (t.pkgLine n) := by
  unfold State.pkgLine; split <;> simp [h, hb, hg]

@[simp] theorem State.regionSwap_moves {n k} : Moves p s (t.regionSwap n k) ↔ Moves p s t := by simp [State.regionSwap]

@[simp] theorem State.fallbackShow_moves {n} (hb : p .bytes) (h : Moves p s t) : Moves p s (t.fallbackShow n) := by
  refine Moves.foldl (fun t m => Moves.foldl (fun t j => ?_) _ (Moves.refl ..)) _ h
  extract_lets fr waits s1
  have h1 : Moves p t s1 := Moves.of_ite (State.alarmAssert_moves.mpr (State.raise_moves hb (by simp))) (Moves.refl ..)
  exact Moves.of_ite (State.raise_moves hb (by simp [h1])) h1

@[simp] theorem State.ensignLine_moves {n} (hb : p .bytes) (hg : p .packages) (h : Moves p s t) : Moves p s (t.ensignLine n) := by
  simp [State.ensignLine, h, hb, hg]

/-! HapBase.lean -/

@[simp] theorem State.hapChApplied_moves {s' g c} : Moves p s (State.hapChApplied s' t g c) ↔ Moves p s t := by
  unfold State.hapChApplied
  simp

/-! TouchBase.lean -/

@[simp] theorem State.setGlove_moves {p' g} : Moves p s (t.setGlove p' g) ↔ Moves p s t := by simp [State.setGlove]
@[simp] theorem State.setWet_moves {p' w} : Moves p s (t.setWet p' w) ↔ Moves p s t := by simp [State.setWet]

@[simp] theorem State.touchApplied_moves {s' p'} (hb : p .bytes) (h : Moves p s t) : Moves p s (State.touchApplied s' t p') := by
  unfold State.touchApplied
  extract_lets m d e s0 s1
  have h1 : Moves p s s1 := Moves.of_ite h (by simp [s0, h, hb])
  exact Moves.of_ite h1 (by simp [h1])

/-! LinkOps.lean -/

@[simp] theorem State.darkCheck_moves {n was reason} (hb : p .bytes) (h : Moves p s t) : Moves p s (t.darkCheck n was reason) := by
  simp [State.darkCheck, h, hb]

@[simp] theorem State.portLight_moves {p'} (hb : p .bytes) (h : Moves p s t) : Moves p s (t.portLight p') := by simp [State.portLight, h, hb]
@[simp] theorem State.wakeLink_moves {n} : Moves p s (t.wakeLink n) ↔ Moves p s t := by simp [State.wakeLink]
@[simp] theorem State.startTraining_moves {p'} : Moves p s (t.startTraining p') ↔ Moves p s t := by simp [State.startTraining]
@[simp] theorem State.restartPort_moves {p'} : Moves p s (t.restartPort p') ↔ Moves p s t := by simp [State.restartPort]
@[simp] theorem State.modeApply_moves {n was old} (hb : p .bytes) (h : Moves p s t) : Moves p s (t.modeApply n was old) := by simp [State.modeApply, h, hb]
@[simp] theorem State.retrainDark_moves {n} : Moves p s (t.retrainDark n) ↔ Moves p s t := by simp [State.retrainDark]

@[simp] theorem State.headApplied_moves {s' n} (hb : p .bytes) (h : Moves p s t) : Moves p s (State.headApplied s' t n) := by
  unfold State.headApplied
  extract_lets was s1 s2 s3 s4 moved s5
  have h2 : Moves p s s2 := Moves.foldl (by simp [hb]) _ (Moves.foldl (fun t l => Moves.of_ite (Moves.refl ..) (by simp [hb])) _ h)
  have h5 : Moves p s s5 := by simp [s5, s4, s3, h2]
  exact Moves.of_ite (by simp [h5, hb]) (Moves.of_ite (by simp [h5]) h5)

@[simp] theorem State.rxApplied_moves {s' n} : Moves p s (State.rxApplied s' t n) ↔ Moves p s t := by
  unfold State.rxApplied
  simp

/-! PenBase.lean -/

@[simp] theorem State.coreRaise_moves {n st sev pl} (hb : p .bytes) (h : Moves p s t) : Moves p s (t.coreRaise n st sev pl) := by simp [State.coreRaise, h, hb]
@[simp] theorem State.coreWake_moves {n} : Moves p s (t.coreWake n) ↔ Moves p s t := by simp [State.coreWake]
@[simp] theorem State.coreEvent_moves {n src data} : Moves p s (t.coreEvent n src data) ↔ Moves p s t := by simp [State.coreEvent]
@[simp] theorem State.tmrSettle_moves {n t'} : Moves p s (t.tmrSettle n t') ↔ Moves p s t := by simp [State.tmrSettle]
@[simp] theorem State.coreLoad_moves {n m} : Moves p s (t.coreLoad n m) ↔ Moves p s t := by simp [State.coreLoad]
@[simp] theorem State.coreStart_moves {n m} : Moves p s (t.coreStart n m) ↔ Moves p s t := by simp [State.coreStart]
@[simp] theorem State.coreSwap_moves {n b} (hb : p .bytes) (hk : p .banks) (h : Moves p s t) : Moves p s (t.coreSwap n b) := by simp [State.coreSwap, h, hb, hk]

@[simp] theorem State.coreFault_moves {n kind addr} (hb : p .bytes) (hk : p .banks) (h : Moves p s t) : Moves p s (t.coreFault n kind addr) := by
  unfold State.coreFault
  extract_lets item trial s1 s2 b s3 back
  have h2 : Moves p s s2 := by simp [s2, s1, h, hb]
  refine Moves.of_ite (by simp [h2, hb, hk]) (Moves.of_ite ?_ h2)
  have h3 : Moves p s s3 := by simp [s3, h2, hb]
  refine Moves.of_ite ?_ (Moves.of_ite (by simp [h3]) (by simp [h3, hb, hk]))
  split
  next s4 k hx =>
    have h4 : Moves p s s4 := Moves.of_fst hx (State.startFailed_moves hb hk h3)
    exact Moves.of_ite (by simp [h4, hb, hk]) (Moves.of_ite h4 (Moves.of_ite (by simp [h4]) (by simp [h4, hb])))

@[simp] theorem State.coreApplied_moves {s' n} (hb : p .bytes) (hk : p .banks) (h : Moves p s t) : Moves p s (State.coreApplied s' t n) := by
  unfold State.coreApplied
  exact Moves.of_ite h (State.coreSwap_moves hb hk (Moves.of_ite (by simp [h]) h))

@[simp] theorem State.coreStop_moves {n} : Moves p s (t.coreStop n) ↔ Moves p s t := by simp [State.coreStop]
@[simp] theorem State.coreReturn_moves {n} : Moves p s (t.coreReturn n) ↔ Moves p s t := by simp [State.coreReturn]

/-! Commit.lean -/

@[simp] theorem State.applied_moves {s' hs} (hb : p .bytes) (hk : p .banks) (h : Moves p s t) : Moves p s (State.applied s' t hs) := by
  unfold State.applied
  extract_lets heads s1 s2 s3
  have h2 : Moves p s s2 := Moves.foldl (fun t n => Moves.of_ite (by simp) (Moves.refl ..)) _ (Moves.foldl (by simp [hb]) _ h)
  have h3 : Moves p s s3 := Moves.of_ite (by simp [h2, hb]) h2
  exact Moves.foldl (fun t n => Moves.of_ite (by simp [hb]) (Moves.of_ite (by simp) (Moves.of_ite (by simp [hb, hk]) (Moves.refl ..)))) _ h3

@[simp] theorem State.pendEnd_moves {h' st} : Moves p s (t.pendEnd h' st) ↔ Moves p s t := by simp [State.pendEnd]

@[simp] theorem State.acceptUnit_moves {n at' ep h'} (hb : p .bytes) (hk : p .banks) (h : Moves p s t) : Moves p s (State.acceptUnit n at' ep t h') := by
  unfold State.acceptUnit
  extract_lets s1 es old s2 s3 s4 s5 s6
  have h1 : Moves p s s1 := Moves.of_ite (by simp [h, hb, hk]) h
  have h2 : Moves p s s2 := Moves.of_ite h1 (State.raise_moves hb (by simp [h1]))
  have h3 : Moves p s s3 := by simp [s3, h2, hk]
  have h4 : Moves p s s4 := Moves.with_pend hk h3
  have h6 : Moves p s s6 := by simp [s6, s5, h4]
  exact Moves.of_ite (by simp [h6]) h6

@[simp] theorem State.applyBank_moves {h'} (hk : p .banks) (h : Moves p s t) : Moves p s (t.applyBank h') := State.dropPend_moves hk (Moves.with_regs.mpr h)

@[simp] theorem State.voidUnit_moves {reason members h'} (hb : p .bytes) (hk : p .banks) (h : Moves p s t) : Moves p s (State.voidUnit reason members t h') :=
  State.raise_moves hb (State.pendEnd_moves.mpr (State.dropPend_moves hk (Moves.with_shadow hk h)))

@[simp] theorem State.tellApplied_moves {h'} (hb : p .bytes) (h : Moves p s t) : Moves p s (t.tellApplied h') := by simp [State.tellApplied, h, hb]

@[simp] theorem State.applyGroup_moves {hs} (hb : p .bytes) (hk : p .banks) (h : Moves p s t) : Moves p s (t.applyGroup hs) := by
  unfold State.applyGroup
  extract_lets v
  split
  · exact Moves.foldl (fun t a => State.voidUnit_moves hb hk (Moves.refl ..)) _ h
  · exact Moves.foldl (fun t a => State.tellApplied_moves hb (Moves.refl ..)) _
      (State.applied_moves hb hk (Moves.foldl (fun t a => State.applyBank_moves hk (Moves.refl ..)) _ h))

@[simp] theorem State.schedDrop_moves {h'} (hb : p .bytes) (hk : p .banks) (h : Moves p s t) : Moves p s (t.schedDrop h') := by
  simp (disch := simp [h, hb, hk]) [State.schedDrop, h]

@[simp] theorem State.applyDue_moves {hs} (hb : p .bytes) (hk : p .banks) (h : Moves p s t) : Moves p s (t.applyDue hs) := by simp [State.applyDue, h, hb, hk]
@[simp] theorem State.boundary_moves {src} (hb : p .bytes) (hk : p .banks) (h : Moves p s t) : Moves p s (t.boundary src) := by simp [State.boundary, h, hb, hk]

@[simp] theorem State.accept_moves {n ts at'} (hb : p .bytes) (hk : p .banks) (h : Moves p s t) : Moves p s (t.accept n ts at') := by
  simp (disch := simp [h, hb, hk]) [State.accept]

@[simp] theorem State.commitAnswer_moves {n st detail reason} : Moves p s (t.commitAnswer n st detail reason) ↔ Moves p s t := by simp [State.commitAnswer]

@[simp] theorem State.commitOp_moves {n hdl at'} (hb : p .bytes) (hk : p .banks) (h : Moves p s t) : Moves p s (t.commitOp n hdl at') := by
  simp [State.commitOp, h, hb, hk]

@[simp] theorem State.discardOp_moves {n hdl} (hb : p .bytes) (hk : p .banks) (h : Moves p s t) : Moves p s (t.discardOp n hdl) := by
  simp [State.discardOp, h, hb, hk]

@[simp] theorem State.cancelOp_moves {n hdl} (hb : p .bytes) (hk : p .banks) (h : Moves p s t) : Moves p s (t.cancelOp n hdl) := by
  unfold State.cancelOp
  dsimp only
  split
  · simp [h]
  split
  · simp [h]
  split
  · simp [h]
  · refine State.commitAnswer_moves.mpr (Moves.foldl (fun t h' => ?_) _ h)
    have h2 {ds u st w sev pl} : Moves p t (((((t.revertShadow h').dropPend h').pendEnd h' St.commitCancelled)).raise ds u st w sev pl) := State.raise_moves hb (by simp [hk])
    exact Moves.of_ite h2 (State.raise_moves hb h2)

@[simp] theorem State.quiesced_moves {h'} (hb : p .bytes) (hk : p .banks) (h : Moves p s t) : Moves p s (t.quiesced h') := by simp [State.quiesced, h, hb, hk]

@[simp] theorem State.unitRestarted_moves {h'} (hb : p .bytes) (hk : p .banks) (h : Moves p s t) : Moves p s (t.unitRestarted h') := by
  simp [State.unitRestarted, h, hb, hk]

@[simp] theorem State.commitsReturn_moves (hb : p .bytes) (hk : p .banks) (h : Moves p s t) : Moves p s (t.commitsReturn) := by
  simp (disch := simp [h, hb, hk]) [State.commitsReturn]

/-! AudioOps.lean -/

@[simp] theorem State.setBufs_moves {t' l} : Moves p s (t.setBufs t' l) ↔ Moves p s t := Moves.with_audBufs
@[simp] theorem State.bufComplete_moves {b} (hb : p .bytes) (h : Moves p s t) : Moves p s (t.bufComplete b) := by simp [State.bufComplete, h, hb]
@[simp] theorem State.bufsPrune_moves {t'} : Moves p s (t.bufsPrune t') ↔ Moves p s t := by simp [State.bufsPrune]
@[simp] theorem State.bufFault_moves {acc b e'} (hb : p .bytes) (h : Moves p s t) : Moves p s (t.bufFault acc b e') := by simp [State.bufFault, h, hb]
@[simp] theorem State.bufChange_moves {t' p' f} : Moves p s (t.bufChange t' p' f) ↔ Moves p s t := by simp [State.bufChange]

@[simp] theorem State.prefetch_moves {t' n} (hb : p .bytes) (h : Moves p s t) : Moves p s (t.prefetch t' n) := by
  induction n generalizing t with
  | zero => exact h
  | succ n ih =>
    unfold State.prefetch
    dsimp only
    split
    · exact h
    · split
      · simp [h, hb]
      · exact ih (by simp [h])

@[simp] theorem State.audStarve_moves {t' st} (hb : p .bytes) (h : Moves p s t) : Moves p s (t.audStarve t' st) := by simp [State.audStarve, h, hb]

@[simp] theorem State.playStep_moves {t'} (hb : p .bytes) (h : Moves p s t) : Moves p s (t.playStep t') := by
  unfold State.playStep
  extract_lets c s1 q s2
  have h1 : Moves p s s1 := by simp [s1, h, hb]
  have h2 : Moves p s s2 := by simp [s2, h1]
  exact Moves.of_ite (by simp [h1, hb]) (State.setRegs_moves.mpr (State.bufChange_moves.mpr h2))

@[simp] theorem State.captureStep_moves {t' frame} (hb : p .bytes) (h : Moves p s t) : Moves p s (t.captureStep t' frame) := by
  unfold State.captureStep
  dsimp only
  split
  · exact State.audStarve_moves hb (Moves.of_ite h (by simp [h]))
  · split
    · simp [h, hb]
    · next hw => simp [State.cwrite_moves hw hb h]

@[simp] theorem State.audStopped_moves {t'} (hb : p .bytes) (h : Moves p s t) : Moves p s (t.audStopped t') := by simp [State.audStopped, h, hb]
@[simp] theorem State.audDue_moves {t'} (hb : p .bytes) (h : Moves p s t) : Moves p s (t.audDue t') := by simp [State.audDue, h, hb]

@[simp] theorem State.voiceStep_moves {v} : Moves p s (t.voiceStep v) ↔ Moves p s t := by
  unfold State.voiceStep
  dsimp only
  split
  · rfl
  split
  · split <;> simp
  split
  · simp
  split
  · simp
  · split <;> simp

@[simp] theorem State.voiceTake_moves {g} : Moves p s (t.voiceTake g) ↔ Moves p s t := by unfold State.voiceTake; split <;> simp
@[simp] theorem State.duckTurn_moves : Moves p s (t.duckTurn) ↔ Moves p s t := by simp [State.duckTurn]
@[simp] theorem State.alarmPath_moves (hb : p .bytes) (h : Moves p s t) : Moves p s (t.alarmPath) := by simp [State.alarmPath, h, hb]
@[simp] theorem State.tonesDerive_moves : Moves p s (t.tonesDerive) ↔ Moves p s t := by simp [State.tonesDerive]
@[simp] theorem State.voices_moves : Moves p s (t.voices) ↔ Moves p s t := by unfold State.voices; dsimp only; split <;> simp
@[simp] theorem State.meterNote_moves {k j x'} : Moves p s (t.meterNote k j x') ↔ Moves p s t := by simp [State.meterNote]
@[simp] theorem State.clip_moves {b} : Moves p s (t.clip b) ↔ Moves p s t := by simp [State.clip]
@[simp] theorem State.busStep_moves {ins d late b} : Moves p s (State.busStep ins d late t b) ↔ Moves p s t := by simp [State.busStep]

@[simp] theorem State.sinksOut_moves : Moves p s (t.sinksOut) ↔ Moves p s t := by
  unfold State.sinksOut
  refine (Moves.foldl_iff (fun t n => by simp) _).trans (Moves.foldl_iff (fun t b => ?_) _)
  dsimp only
  split
  · rfl
  · split <;> simp

@[simp] theorem State.backupOut_moves : Moves p s (t.backupOut) ↔ Moves p s t := by simp [State.backupOut]

@[simp] theorem State.playStreams_moves {d} (hb : p .bytes) (h : Moves p s t) : Moves p s (t.playStreams d) := by
  simp (disch := simp [h, hb]) [State.playStreams]

@[simp] theorem State.captureStreams_moves {d ins} (hb : p .bytes) (h : Moves p s t) : Moves p s (t.captureStreams d ins) := by
  simp [State.captureStreams, h, hb]

@[simp] theorem State.sourceMeters_moves {d ins} : Moves p s (t.sourceMeters d ins) ↔ Moves p s t := by simp [State.sourceMeters]

@[simp] theorem State.graph_moves {d ins late} (hb : p .bytes) (h : Moves p s t) : Moves p s (t.graph d ins late) := by
  simp (disch := simp [h, hb]) [State.graph, h]

@[simp] theorem State.meterSet_moves {key k j holdMs} : Moves p s (t.meterSet key k j holdMs) ↔ Moves p s t := by simp [State.meterSet]

theorem State.audPacket_moves {i op f} (hb : p .bytes) (hf : ∀ t q k, Moves p t (f t q k)) (h : Moves p s t) : Moves p s (t.audPacket i op f) := by
  refine State.onPacket_moves hb (fun t q => ?_) h
  dsimp only
  split
  · simp [hb]
  split
  · exact State.ringDone_moves hb (State.raise_moves hb (Moves.refl ..))
  split
  · simp [hb]
  split
  · exact Moves.of_ite (State.ringDone_moves hb (State.raise_moves hb (Moves.refl ..))) (by simp [hb])
  · exact Moves.trans (by simp) (hf _ _ _)

@[simp] theorem State.audBuffer_moves {i op} (hb : p .bytes) (h : Moves p s t) : Moves p s (t.audBuffer i op) := by
  refine State.audPacket_moves hb (fun t q k => ?_) h
  dsimp only
  exact Moves.of_ite (Moves.refl ..) (by simp [hb])

theorem State.audInstant_moves {i op p' f} (hb : p .bytes) (hf : ∀ t, Moves p t (f t)) (h : Moves p s t) : Moves p s (t.audInstant i op p' f) :=
  State.ringDone_moves hb (State.itemEndSeq_moves.mpr (Moves.trans (by simp [h]) (hf _)))

/-! Audio.lean -/

@[simp] theorem State.mSample_moves (hb : p .bytes) (hk : p .banks) (h : Moves p s t) : Moves p s (t.mSample) := by simp [State.mSample, h, hb, hk]

end Sys2Proof.Machine
end

section
/-!
PROOFS of O3 to O5, O8 and O9. What the operations move: the compositor's lines, checks, CAN, the cores, key operations and instances.
-/
namespace Sys2Proof.Machine

variable {p : StatePart → Bool} {s t u : State}

/-! Bunting.lean -/

@[simp] theorem Line.light_moves {n} (hb : p .bytes) (h : Moves p s t) : Moves p s (Line.light t n) := by simp [Line.light, h, hb]
@[simp] theorem Line.flatten_moves {n} : Moves p s (Line.flatten t n) ↔ Moves p s t := by simp [Line.flatten]
@[simp] theorem Line.releases_moves {n} (hb : p .bytes) (h : Moves p s t) : Moves p s (Line.releases t n) := by simp [Line.releases, h, hb]

@[simp] theorem Line.receivers_moves {n} (hb : p .bytes) (h : Moves p s t) : Moves p s (Line.receivers t n) := by
  refine Moves.foldl (fun t x => ?_) _ h
  dsimp only
  split
  · exact Moves.of_ite (Moves.refl ..) (Moves.of_ite (Moves.of_ite (by simp [hb]) (by simp)) (by simp))
  · exact Moves.refl ..

@[simp] theorem Line.feeds_moves {n} : Moves p s (Line.feeds t n) ↔ Moves p s t := by simp [Line.feeds]
@[simp] theorem Line.pull_moves {n err} (hb : p .bytes) (h : Moves p s t) : Moves p s (Line.pull t n err) := by simp [Line.pull, h, hb]
@[simp] theorem Line.holdover_moves {n} (hb : p .bytes) (h : Moves p s t) : Moves p s (Line.holdover t n) := by simp [Line.holdover, h, hb]
@[simp] theorem Line.lock_moves {n trim} (hb : p .bytes) (h : Moves p s t) : Moves p s (Line.lock t n trim) := by simp [Line.lock, h, hb]

@[simp] theorem Line.stratusExit_moves {n reason} (hb : p .bytes) (h : Moves p s t) : Moves p s (Line.stratusExit t n reason) := by
  simp [Line.stratusExit, h, hb]

@[simp] theorem Line.stratus_moves {n ch} (hb : p .bytes) (h : Moves p s t) : Moves p s (Line.stratus t n ch) := by simp [Line.stratus, h, hb]

@[simp] theorem State.linePixels_moves {n} (hb : p .bytes) (hk : p .banks) (hg : p .packages) (h : Moves p s t) : Moves p s (t.linePixels n) := by
  unfold State.linePixels
  extract_lets s1 s2 s3 s4 s5 s6 s7
  have h5 : Moves p s s5 := Moves.foldl (by simp [hb]) _ (by simp [s4, s3, s2, s1, h, hb, hk])
  have h6 : Moves p s s6 := Line.releases_moves hb (Line.feeds_moves.mpr (Line.receivers_moves hb (Line.flatten_moves.mpr h5)))
  have h7 : Moves p s s7 := Moves.foldl (by simp [hb]) _ h6
  simp [h7, hb, hg]

/-! ChkOps.lean -/

@[simp] theorem State.chkDerive_moves {u'} : Moves p s (t.chkDerive u') ↔ Moves p s t := by simp [State.chkDerive]
@[simp] theorem State.chkSet_moves {u' c} : Moves p s (t.chkSet u' c) ↔ Moves p s t := by simp [State.chkSet]
@[simp] theorem State.chkRestart_moves {u'} : Moves p s (t.chkRestart u') ↔ Moves p s t := by simp [State.chkRestart]
@[simp] theorem State.chkFeed_moves {u' d} : Moves p s (t.chkFeed u' d) ↔ Moves p s t := by simp [State.chkFeed]
@[simp] theorem State.chkTell_moves {u' kind} : Moves p s (t.chkTell u' kind) ↔ Moves p s t := by simp [State.chkTell]

@[simp] theorem State.aliveCheck_moves {u' tag w v} : Moves p s (t.aliveCheck u' tag w v).1 ↔ Moves p s t := by
  unfold State.aliveCheck
  split
  · rfl
  · simp [apply_ite Prod.fst]

@[simp] theorem State.chkRecordStep_moves {u' tag d} : Moves p s (t.chkRecordStep u' tag d).1 ↔ Moves p s t := by
  simp [State.chkRecordStep, apply_ite Prod.fst]

@[simp] theorem State.chkRecord_moves {u' tag d} : Moves p s (t.chkRecord u' tag d).1 ↔ Moves p s t := by simp [State.chkRecord]
@[simp] theorem State.aliveResync_moves {u'} : Moves p s (t.aliveResync u') ↔ Moves p s t := by simp [State.aliveResync]
@[simp] theorem State.aliveForget_moves {u' tag} : Moves p s (t.aliveForget u' tag) ↔ Moves p s t := by simp [State.aliveForget]
@[simp] theorem State.chkDeliver_moves {u' tag d} : Moves p s (t.chkDeliver u' tag d).1 ↔ Moves p s t := by unfold State.chkDeliver; split <;> simp

/-! CanBase.lean -/

@[simp] theorem State.rawDerive_moves {p'} : Moves p s (t.rawDerive p') ↔ Moves p s t := by simp [State.rawDerive]

@[simp] theorem State.rawQueue_moves {p' rs} : Moves p s (t.rawQueue p' rs).1 ↔ Moves p s t := by
  simp [State.rawQueue, apply_ite Prod.fst]

@[simp] theorem State.rawReceive_moves {p' r} (hb : p .bytes) (h : Moves p s t) : Moves p s (t.rawReceive p' r) := by simp [State.rawReceive, h, hb]

/-! PenOps.lean -/

@[simp] theorem State.setG_moves {n r v} : Moves p s (t.setG n r v) ↔ Moves p s t := by simp [State.setG]
@[simp] theorem State.coreSpend_moves {n k} : Moves p s (t.coreSpend n k) ↔ Moves p s t := by simp [State.coreSpend]
@[simp] theorem State.coreGo_moves {n pc} : Moves p s (t.coreGo n pc) ↔ Moves p s t := by simp [State.coreGo]
@[simp] theorem State.coreNext_moves {n} : Moves p s (t.coreNext n) ↔ Moves p s t := by simp [State.coreNext]

theorem State.coreIssue_moves {n o f} (hf : ∀ t w, Moves p t (f t w)) (h : Moves p s t) : Moves p s (t.coreIssue n o f) :=
  Moves.of_ite (Moves.trans (by simp [h]) (hf _ _)) h

@[simp] theorem State.coreFlag_moves {n r} : Moves p s (t.coreFlag n r) ↔ Moves p s t := by simp [State.coreFlag]

@[simp] theorem State.coreAlu_moves {n o keep} (h : Moves p s t) : Moves p s (t.coreAlu n o keep) := by
  refine State.coreIssue_moves (fun t w => ?_) h
  simp

@[simp] theorem State.coreSlow_moves {n} : Moves p s (t.coreSlow n) ↔ Moves p s t := by simp [State.coreSlow]
@[simp] theorem State.coreRead_moves {n a size} : Moves p s (t.coreRead n a size).1 ↔ Moves p s t := by unfold State.coreRead; dsimp only; split <;> simp

theorem State.coreWrite_moves {n a size v u} (e : t.coreWrite n a size v = .ok u) (h : Moves p s t) : Moves p s u := by
  unfold State.coreWrite at e
  dsimp only at e
  split at e
  · cases e
  · exact Moves.of_ok e (by simp [h])
  · cases e
  · exact Moves.of_ok e (by simp [h])
  · exact Moves.of_ok e (by simp [h])
  · exact Moves.of_ok e (by simp [h])

@[simp] theorem State.coreLoadTo_moves {n r a size} (hb : p .bytes) (hk : p .banks) (h : Moves p s t) : Moves p s (t.coreLoadTo n r a size) := by
  unfold State.coreLoadTo
  split
  · next hx => exact State.coreFault_moves hb hk (Moves.of_fst hx (State.coreRead_moves.mpr h))
  · next s' v hx =>
    have hs : Moves p s s' := Moves.of_fst hx (State.coreRead_moves.mpr h)
    simp [hs]

@[simp] theorem State.coreStoreFrom_moves {n r a size} (hb : p .bytes) (hk : p .banks) (h : Moves p s t) : Moves p s (t.coreStoreFrom n r a size) := by
  unfold State.coreStoreFrom
  split
  · exact State.coreFault_moves hb hk h
  · next hw => simp [State.coreWrite_moves hw h]

@[simp] theorem State.specialRead_moves {n k} : Moves p s (t.specialRead n k).2 ↔ Moves p s t := by
  simp [State.specialRead, apply_ite Prod.snd]

@[simp] theorem State.specialWrite_moves {n k v} : Moves p s (t.specialWrite n k v) ↔ Moves p s t := by simp [State.specialWrite]

theorem State.oncePerSecond_moves {k f} (hf : ∀ t, Moves p t (f t)) (h : Moves p s t) : Moves p s (t.oncePerSecond k f) :=
  Moves.of_ite (Moves.trans (by simp [h]) (hf _)) h

@[simp] theorem State.coreBoundary_moves {n late} (hb : p .bytes) (hk : p .banks) (h : Moves p s t) : Moves p s (t.coreBoundary n late) := by
  unfold State.coreBoundary
  extract_lets used s1 s2 s3 s4 s5 left s6 s7
  have h2 : Moves p s s2 := Moves.of_ite (State.oncePerSecond_moves (by simp [hb]) (by simp [s1, h])) (by simp [s1, h])
  have h4 : Moves p s s4 := Moves.of_ite (State.oncePerSecond_moves (by simp [hb]) (by simp [s3, h2])) (by simp [s3, h2])
  have h5 : Moves p s s5 := by simp [s5, h4]
  have h6 : Moves p s s6 := Moves.of_ite h5 (Moves.of_ite (by simp [h5]) (State.startPassed_moves hb (State.coreRaise_moves hb (by simp [h5]))))
  have h7 : Moves p s s7 := by simp [s7, h6, hb, hk]
  exact Moves.of_ite (by simp [h7, hb, hk]) h7

@[simp] theorem State.coreTick_moves {n} (hb : p .bytes) (hk : p .banks) (h : Moves p s t) : Moves p s (t.coreTick n) := by simp [State.coreTick, h, hb, hk]
@[simp] theorem State.corePwait_moves {n} (hb : p .bytes) (hk : p .banks) (h : Moves p s t) : Moves p s (t.corePwait n) := by simp [State.corePwait, h, hb, hk]
@[simp] theorem State.coreBlockEnd_moves {n} : Moves p s (t.coreBlockEnd n) ↔ Moves p s t := by simp [State.coreBlockEnd]
@[simp] theorem State.coreElement_moves {n k} : Moves p s (t.coreElement n k) ↔ Moves p s t := by simp [State.coreElement]

theorem State.coreBlockRun_moves {n k w f} (hb : p .bytes) (hk : p .banks) (hf : ∀ t u, f t w = .ok u → Moves p t u) (h : Moves p s t) :
    Moves p s (t.coreBlockRun n k w f) := by
  unfold State.coreBlockRun
  split
  · simp [h]
  · split
    · simp [h, hb, hk]
    · next hu => simp [h.trans (hf _ _ hu)]

theorem State.coreBlock_moves {n o f} (hb : p .bytes) (hk : p .banks) (hf : ∀ t w u, f t w = .ok u → Moves p t u) (h : Moves p s t) : Moves p s (t.coreBlock n o f) :=
  Moves.of_ite (State.coreBlockRun_moves hb hk (fun t u => hf t _ u) (by simp [h]))
    (State.coreIssue_moves (fun t w => State.coreBlockRun_moves hb hk (fun t u => hf t w u) (Moves.refl ..)) h)

theorem State.elemWord_moves {n a} {x} (e : t.elemWord n a = .ok x) (h : Moves p s t) : Moves p s x.1 := by grind [State.elemWord, State.coreRead_moves]

theorem State.elemBytes_moves {n a size x} (e : t.elemBytes n a size = .ok x) (h : Moves p s t) : Moves p s x.1 := by
  unfold State.elemBytes at e
  split at e
  · split at e
    · cases e
    · next hx => exact Moves.of_ok_fst e (Moves.of_fst hx (State.coreRead_moves.mpr h))
  split at e
  · cases hx : t.elemWord n a with
    | error _ => rw [hx] at e; cases e
    | ok y => rw [hx] at e; exact Moves.of_ok_fst e (State.elemWord_moves hx h)
  split at e
  · cases e
  next s' lo hl =>
    have hs : Moves p s s' := State.elemWord_moves hl h
    cases hx : s'.elemWord n ((a + 2) % 65536) with
    | error _ => rw [hx] at e; cases e
    | ok y => rw [hx] at e; exact Moves.of_ok_fst e (State.elemWord_moves hx hs)

@[simp] theorem State.coreFeed_moves {n u' d} : Moves p s (t.coreFeed n u' d) ↔ Moves p s t := by simp [State.coreFeed]

/-! Checks.lean -/

@[simp] theorem State.feedWrite_moves {u' d} : Moves p s (t.feedWrite u' d) ↔ Moves p s t := by simp [State.feedWrite]
@[simp] theorem State.runningWrite_moves {u' v} : Moves p s (t.runningWrite u' v) ↔ Moves p s t := by simp [State.runningWrite]
@[simp] theorem State.crcSettingWrite_moves {u' sub v} : Moves p s (t.crcSettingWrite u' sub v) ↔ Moves p s t := by simp [State.crcSettingWrite]

@[simp] theorem State.compareOp_moves {u'} (hb : p .bytes) (h : Moves p s t) : Moves p s (t.compareOp u') := by
  unfold State.compareOp
  extract_lets h' s1 s2
  exact Moves.of_ite (by simp [s1, h]) (State.reply_moves.mpr (State.oncePerSecond_moves (by simp [hb]) (by simp [s2, s1, h])))

@[simp] theorem State.compareWrite_moves {u' v} (hb : p .bytes) (h : Moves p s t) : Moves p s (t.compareWrite u' v) := by simp [State.compareWrite, h, hb]
@[simp] theorem State.aliveWrite_moves {u' sub v} : Moves p s (t.aliveWrite u' sub v) ↔ Moves p s t := by simp [State.aliveWrite]
@[simp] theorem State.chkWrite_moves {u' sub d} (hb : p .bytes) (h : Moves p s t) : Moves p s (t.chkWrite u' sub d) := by simp [State.chkWrite, h, hb]

/-! Fabric.lean -/

@[simp] theorem Fab.fault_moves {a e'} (hb : p .bytes) (h : Moves p s t) : Moves p s (Fab.fault a t e') := by simp [Fab.fault, h, hb]
@[simp] theorem Fab.moveData_moves {a as} (hb : p .bytes) (h : Moves p s t) : Moves p s (Fab.moveData a as t) := by simp [Fab.moveData, h, hb]

@[simp] theorem Fab.atDram_moves {a w as fpa} (hb : p .bytes) (ht : p .trackers) (h : Moves p s t) : Moves p s (Fab.atDram a w as fpa t) := by
  unfold Fab.atDram
  extract_lets c s1 own m x s2 s3 s4 s5 prot s6 s7
  have h1 : Moves p s s1 := (State.contend_moves (fun _ _ => State.portRound_moves)).mpr h
  have h2 : Moves p s s2 := State.serveUntil_moves hb ht (State.markAll_moves.mpr h1)
  have h4 : Moves p s s4 := State.count_moves.mpr (State.checkFetch_moves hb ht h2)
  have h5 : Moves p s s5 := Moves.of_ite (by simp [h4, hb]) h4
  have h7 : Moves p s s7 := Moves.of_ite (by simp [h5, hb]) h5
  exact Moves.of_ite h (Moves.of_ite h2 (Moves.of_ite (by simp [s6, h5, hb]) (by simp [h7, hb])))

@[simp] theorem Fab.atWindow_moves {a as fpa} (hb : p .bytes) (h : Moves p s t) : Moves p s (Fab.atWindow a as fpa t) := by simp [Fab.atWindow, h, hb]

@[simp] theorem Fab.carry_moves {a as} (hb : p .bytes) (ht : p .trackers) (h : Moves p s t) : Moves p s (Fab.carry a as t) := by
  unfold Fab.carry
  split
  · simp [h]
  extract_lets w s1 s2 s3 s4
  have h1 : Moves p s s1 := State.count_moves.mpr ((State.contend_moves (fun _ _ => State.nodeRound_moves)).mpr h)
  have h2 : Moves p s s2 := by simp [s2, h1]
  have h3 : Moves p s s3 := Moves.of_ite (by simp [h2, hb, ht]) (by simp [h2, hb])
  have h4 : Moves p s s4 := Moves.of_ite (by simp [h3, hb]) h3
  exact Moves.of_ite (Moves.of_ite (by simp [h4, hb]) h4) h3

@[simp] theorem Fab.descServe_moves {a w d} (hb : p .bytes) (ht : p .trackers) (h : Moves p s t) : Moves p s (Fab.descServe a w t d) := by
  simp [Fab.descServe, h, hb, ht]

@[simp] theorem Fab.walkError_moves {a d} (hb : p .bytes) (h : Moves p s t) : Moves p s (Fab.walkError a d t) := by simp [Fab.walkError, h, hb]

@[simp] theorem Fab.access_moves {a} (hb : p .bytes) (ht : p .trackers) (h : Moves p s t) : Moves p s (Fab.access a t) := by
  unfold Fab.access
  split
  · simp [h, hb]
  extract_lets w s1
  have h1 : Moves p s s1 := Moves.of_ite (Moves.foldl (by simp [hb, ht]) _ h) h
  split <;> simp [h1, hb, ht]

@[simp] theorem Fab.regAccess_moves {a} (hb : p .bytes) (h : Moves p s t) : Moves p s (Fab.regAccess a t) := by simp [Fab.regAccess, h, hb]

@[simp] theorem Fab.rawAccess_moves {a} (hb : p .bytes) (ht : p .trackers) (h : Moves p s t) : Moves p s (Fab.rawAccess a t) := by
  unfold Fab.rawAccess; dsimp only; split <;> simp [h, hb, ht]

@[simp] theorem Fab.inbound_moves {a} (hb : p .bytes) (ht : p .trackers) (h : Moves p s t) : Moves p s (Fab.inbound a t) := by
  unfold Fab.inbound; dsimp only; split <;> simp [h, hb, ht]

@[simp] theorem Fab.retrain_moves {c} (hb : p .bytes) (h : Moves p s t) : Moves p s (Fab.retrain t c) := by simp [Fab.retrain, h, hb]

/-! KeyOps.lean -/

@[simp] theorem State.slotMeasure_moves {k} : Moves p s (t.slotMeasure k) ↔ Moves p s t := by simp [State.slotMeasure]
@[simp] theorem State.slotAge_moves {k} : Moves p s (t.slotAge k) ↔ Moves p s t := by simp [State.slotAge]
@[simp] theorem State.authFresh_moves {k} : Moves p s (t.authFresh k) ↔ Moves p s t := by simp [State.authFresh]
@[simp] theorem State.slotPut_moves {k w kind usage key pub} : Moves p s (t.slotPut k w kind usage key pub) ↔ Moves p s t := by simp [State.slotPut]
@[simp] theorem State.slotZero_moves {k} (hb : p .bytes) (h : Moves p s t) : Moves p s (t.slotZero k) := by simp [State.slotZero, h, hb]
@[simp] theorem State.slotBound_moves {k} (hb : p .bytes) (h : Moves p s t) : Moves p s (t.slotBound k) := by simp [State.slotBound, h, hb]
@[simp] theorem State.slotErase_moves {k code} (hb : p .bytes) (h : Moves p s t) : Moves p s (t.slotErase k code) := by simp [State.slotErase, h, hb]
@[simp] theorem State.slotsErase_moves {p'} (hb : p .bytes) (h : Moves p s t) : Moves p s (t.slotsErase p') := by simp [State.slotsErase, h, hb]
@[simp] theorem State.worldSlots_moves {w} (hb : p .bytes) (h : Moves p s t) : Moves p s (t.worldSlots w) := by simp [State.worldSlots, h, hb]

/-! InstOps.lean -/

@[simp] theorem State.closeSessionFor_moves {cause n} (hb : p .bytes) (hk : p .banks) (h : Moves p s t) : Moves p s (t.closeSessionFor cause n) := by
  simp (disch := simp [h, hb, hk]) [State.closeSessionFor, h]

@[simp] theorem State.closeSession_moves {n} (hb : p .bytes) (hk : p .banks) (h : Moves p s t) : Moves p s (t.closeSession n) := by
  simp [State.closeSession, h, hb, hk]

@[simp] theorem State.closeSessions_moves {p'} (hb : p .bytes) (hk : p .banks) (h : Moves p s t) : Moves p s (t.closeSessions p') := by
  simp [State.closeSessions, h, hb, hk]

@[simp] theorem State.openGuest_moves {i w} (ha : p .answers) (h : Moves p s t) : Moves p s (t.openGuest i w) :=
  Moves.with_answer.mpr (State.openSession_moves ha h)

@[simp] theorem State.dropItems_moves {p' cause} (hb : p .bytes) (h : Moves p s t) : Moves p s (t.dropItems p' cause) := by simp [State.dropItems, h, hb]

@[simp] theorem State.itemUndo_moves {t' again} : Moves p s (t.itemUndo t' again) ↔ Moves p s t := by
  unfold State.itemUndo
  extract_lets s1 s2 s3
  have h1 : Moves p s s1 ↔ Moves p s t := by
    simp only [s1, Moves.ite, Moves.with_audBufs, ite_self]
  simp [s3, s2, h1]

@[simp] theorem State.itemReturn_moves {t' lost cause} (hb : p .bytes) (h : Moves p s t) : Moves p s (t.itemReturn t' lost cause) := by
  simp [State.itemReturn, h, hb]

@[simp] theorem State.mbAnswer_moves {i op seq tag st d} : Moves p s (t.mbAnswer i op seq tag st d) ↔ Moves p s t := by
  unfold State.mbAnswer
  refine Moves.with_answer.trans ?_
  simp

theorem State.mbRequest_moves {i op m held f} (hb : p .bytes) (hf : ∀ t, Moves p t (f t).1) (h : Moves p s t) : Moves p s (t.mbRequest i op m held f) := by
  unfold State.mbRequest
  dsimp only
  refine Moves.of_ite h (State.arrives_moves (fun t => ?_) h)
  split
  · simp [hb]
  split
  · simp
  split
  · simp
  · have hs := hf (t.setReg (Reg.instOpen i) 0)
    split
    · next s' st d hx =>
      have h' : Moves p t s' := Moves.trans (by simp) (Moves.of_fst hx hs)
      simp [h']
    · next s' hx =>
      have h' : Moves p t s' := Moves.trans (by simp) (Moves.of_fst hx hs)
      simp [h']

@[simp] theorem State.mbFinish_moves {i} (he : p .exports) (h : Moves p s t) : Moves p s (t.mbFinish i) := by simp [State.mbFinish, h, he]

@[simp] theorem State.mbRefused_moves {i} (hb : p .bytes) (h : Moves p s t) : Moves p s (t.mbRefused i) := by
  unfold State.mbRefused
  extract_lets op seq s1 s2 src s3
  have h1 : Moves p s s1 := by
    simp only [s1]
    split <;> simp [h]
  have h3 : Moves p s s3 := Moves.with_answer.mpr (by simp [src, s2, h1])
  exact State.raise_moves hb h3

@[simp] theorem State.ringGone_moves {i r} : Moves p s (t.ringGone i r) ↔ Moves p s t := by simp [State.ringGone]
@[simp] theorem State.eqGone_moves {i} : Moves p s (t.eqGone i) ↔ Moves p s t := by simp [State.eqGone]
@[simp] theorem State.memDerive_moves {w} (hb : p .bytes) (h : Moves p s t) : Moves p s (t.memDerive w) := by simp [State.memDerive, h, hb]
@[simp] theorem State.reserve_moves {i r b a t'} (hb : p .bytes) (h : Moves p s t) : Moves p s (t.reserve i r b a t') := by simp [State.reserve, h, hb]
@[simp] theorem State.worldFree_moves {w} : Moves p s (t.worldFree w) ↔ Moves p s t := by simp [State.worldFree]
@[simp] theorem State.deadBlocksGone_moves {w} (hb : p .bytes) (h : Moves p s t) : Moves p s (t.deadBlocksGone w) := by simp [State.deadBlocksGone, h, hb]
@[simp] theorem State.tearOwn_moves {w} (he : p .exports) (h : Moves p s t) : Moves p s (t.tearOwn w) := by simp [State.tearOwn, h, he]

@[simp] theorem State.teardownNext_moves {w} (hb : p .bytes) (hc : p .caches) (he : p .exports) (h : Moves p s t) : Moves p s (t.teardownNext w) := by
  unfold State.teardownNext
  extract_lets s1 mine ws s2 s3
  have h3 : Moves p s s3 := State.setReg_moves.mpr (State.setNum_moves.mpr (Moves.with_exports he (by simp [s2, s1, h, he, hb])))
  exact Moves.of_ite h (Moves.of_ite h (Moves.of_ite (Moves.of_ite (by simp [h3, he]) h3) (Moves.of_ite h (Moves.of_ite (by simp [h, he]) (by simp [h, hc])))))

@[simp] theorem State.dropRoutes_moves {w} : Moves p s (t.dropRoutes w) ↔ Moves p s t :=
  (Moves.foldl_iff (by simp) _).trans Moves.with_regs

@[simp] theorem State.teardown_moves {w} (hb : p .bytes) (hk : p .banks) (hc : p .caches) (he : p .exports) (h : Moves p s t) : Moves p s (t.teardown w) := by
  unfold State.teardown
  extract_lets s1 s2 s3 s4
  have h2 : Moves p s s2 := State.worldSlots_moves hb (by simp [s1, h, hb])
  have h3 : Moves p s s3 := Moves.foldl (fun t n => Moves.foldl (fun t l => Moves.of_ite (by simp) (Moves.refl ..)) _ (by simp)) _ h2
  have h4 : Moves p s s4 := Moves.foldl (fun t h' => by
    have ht : Moves p t (if t.reg (Reg.blockState h') = 0 then t.startRecall h' 1 0 else t) := Moves.of_ite (by simp [hb]) (Moves.refl ..)
    exact Moves.of_ite (by simp [hb, hk]) ht) _ h3
  exact State.teardownNext_moves hb hc he h4

@[simp] theorem State.worldDerive_moves {w} (hb : p .bytes) (h : Moves p s t) : Moves p s (t.worldDerive w) := by simp [State.worldDerive, h, hb]

@[simp] theorem State.instEvent_moves {i st w req code} (hb : p .bytes) (h : Moves p s t) : Moves p s (t.instEvent i st w req code) := by
  simp [State.instEvent, h, hb]

@[simp] theorem State.instClear_moves {i} (hb : p .bytes) (he : p .exports) (h : Moves p s t) : Moves p s (t.instClear i) := by
  simp [State.instClear, h, hb, he]

@[simp] theorem State.instReset_moves {i req code} (hb : p .bytes) (he : p .exports) (h : Moves p s t) : Moves p s (t.instReset i req code) := by
  simp (disch := simp [h, hb, he]) [State.instReset]

@[simp] theorem State.doorbellsClear_moves {i} : Moves p s (t.doorbellsClear i) ↔ Moves p s t := by simp [State.doorbellsClear]

@[simp] theorem State.instRemove_moves {i req code} (hb : p .bytes) (hk : p .banks) (hc : p .caches) (he : p .exports) (h : Moves p s t) :
    Moves p s (t.instRemove i req code) := by
  unfold State.instRemove
  extract_lets w s1 s2 s3 s4
  have h4 : Moves p s s4 := by
    have h1 : Moves p s s1 := by simp [s1, h, hb, he]
    simp [s4, s3, s2, h1, hb, hk]
  exact Moves.of_ite (by simp [h4, hb, hk, hc, he]) (by simp [h4, hb])

@[simp] theorem State.afterQuiesce_moves {i} (hb : p .bytes) (hk : p .banks) (hc : p .caches) (he : p .exports) (h : Moves p s t) :
    Moves p s (t.afterQuiesce i) := by
  simp [State.afterQuiesce, h, hb, hk, hc, he]

@[simp] theorem State.quiesceEnd_moves {i} (hb : p .bytes) (hk : p .banks) (hc : p .caches) (he : p .exports) (h : Moves p s t) : Moves p s (t.quiesceEnd i) := by
  unfold State.quiesceEnd
  extract_lets s1 s2 req code s3 s4
  have h1 : Moves p s s1 := Moves.foldl (fun t r => Moves.of_ite (by simp) (Moves.refl ..)) _ h
  have h2 : Moves p s s2 := Moves.of_ite (by simp [h1]) h1
  have h4 : Moves p s s4 := State.raise_moves hb (by simp [s3, h2, hb])
  simp [h4, hb, hk, hc, he]

@[simp] theorem State.quiesceStart_moves {i n ms} (hb : p .bytes) (h : Moves p s t) : Moves p s (t.quiesceStart i n ms) := by simp [State.quiesceStart, h, hb]

@[simp] theorem State.quiesceFor_moves {i why ms} (hb : p .bytes) (hk : p .banks) (hc : p .caches) (he : p .exports) (h : Moves p s t) :
    Moves p s (t.quiesceFor i why ms) := by
  simp [State.quiesceFor, h, hb, hk, hc, he]

/-! Instances.lean -/

@[simp] theorem Inst.no_moves {st} : Moves p s (Inst.no t st).1 ↔ Moves p s t := by simp [Inst.no]
@[simp] theorem Inst.ok_moves {d} : Moves p s (Inst.ok t d).1 ↔ Moves p s t := by simp [Inst.ok]

@[simp] theorem Inst.waitFor_moves {i ends ws} (he : p .exports) (h : Moves p s t) : Moves p s (Inst.waitFor t i ends ws).1 := by
  unfold Inst.waitFor; split <;> simp [h, he]

@[simp] theorem Inst.overflow_moves {i} (hb : p .bytes) (h : Moves p s t) : Moves p s (Inst.overflow t i) := by simp [Inst.overflow, h, hb]

@[simp] theorem Inst.drainStore_moves {i es} (hb : p .bytes) (h : Moves p s t) : Moves p s (Inst.drainStore t i es) := by
  induction es generalizing t with
  | nil => simp [Inst.drainStore, h]
  | cons e es ih =>
    unfold Inst.drainStore
    exact Moves.of_ite (by simp [h]) (ih (by simp [h, hb]))

@[simp] theorem Inst.look_moves {i r} (hb : p .bytes) (h : Moves p s t) : Moves p s (Inst.look t i r) := by simp [Inst.look, h, hb]
@[simp] theorem Inst.opAnswer_moves {n i st} : Moves p s (Inst.opAnswer t n i st) ↔ Moves p s t := by simp [Inst.opAnswer]

theorem Inst.op_moves {n i f} (hb : t.overruns n = true → p .bytes) (hf : ∀ t, Moves p t (f t).1) (h : Moves p s t) : Moves p s (Inst.op n i f t) := by
  refine Moves.of_ite h (State.gated_moves hb (fun t => ?_) h)
  simp [hf]

@[simp] theorem Inst.start_moves {n i w tag} (hb : p .bytes) (hk : p .banks) (ha : p .answers) (h : Moves p s t) : Moves p s (Inst.start t n i w tag) := by
  simp (disch := simp [h, hb, hk, ha]) [Inst.start]

@[simp] theorem Inst.enable_moves {n i} (hb : p .bytes) (hk : p .banks) (ha : p .answers) (h : Moves p s t) : Moves p s (Inst.enable t n i).1 := by
  unfold Inst.enable
  dsimp only
  split
  · exact h
  split
  · exact h
  split
  · exact h
  split
  · split
    · exact h
    · simp [h, hb, hk, ha]
  split
  · exact h
  cases hw : t.createWorld (Inst.kind i) with
  | none => simp [h, hb]
  | some x =>
    have hx := State.createWorld_moves hw hb h
    simp [hx, hb, hk, ha]

@[simp] theorem Inst.cut_moves {i x'} (hb : p .bytes) (h : Moves p s t) : Moves p s (Inst.cut i t x') := by simp [Inst.cut, h, hb]

@[simp] theorem State.invalidated_moves {w} (hb : p .bytes) (hc : p .caches) (he : p .exports) (h : Moves p s t) : Moves p s (t.invalidated w) := by
  unfold State.invalidated
  extract_lets todo s1 s2 s3
  have h1 : Moves p s s1 := by simp [s1, h, hb]
  have h2 : Moves p s s2 := Moves.of_ite h1 (Moves.foldl (by simp [hb]) _ (by simp [h1, hb]))
  have h3 : Moves p s s3 := Moves.foldl (fun t i => Moves.of_ite (Moves.refl ..) (Moves.of_ite (by simp [he]) (by simp))) _ h2
  exact Moves.foldl (fun t v => Moves.of_ite (by simp [hb, hc, he]) (Moves.refl ..)) _ h3

end Sys2Proof.Machine
end

section
/-!
PROOFS of O3 to O5, O8 and O9. What the operations move: planning, programs, zenith, updates, counters, worlds, power, connectors and the crypto engine.
-/
namespace Sys2Proof.Machine

variable {p : StatePart → Bool} {s t u : State}

/-! Planner.lean -/

@[simp] theorem State.contentYield_moves {n ws} (hb : p .bytes) (h : Moves p s t) : Moves p s (t.contentYield n ws) := by simp [State.contentYield, h, hb]
@[simp] theorem State.headYield_moves {n} (hb : p .bytes) (h : Moves p s t) : Moves p s (t.headYield n) := by simp [State.headYield, h, hb]
@[simp] theorem State.shedTell_moves {step amount} (hb : p .bytes) (h : Moves p s t) : Moves p s (t.shedTell step amount) := by simp [State.shedTell, h, hb]
@[simp] theorem State.shedOne_moves {x'} (hb : p .bytes) (h : Moves p s t) : Moves p s (t.shedOne x') := by simp (disch := simp [h, hb]) [State.shedOne]

@[simp] theorem State.shedHeads_moves {step f ns x} (hb : p .bytes) (hf : ∀ t n, Moves p t (f t n)) (h : Moves p s x.1) :
    Moves p s (State.shedHeads step f ns x).1 := by
  induction ns generalizing x with
  | nil => exact h
  | cons n ns ih =>
    unfold State.shedHeads
    extract_lets r
    split
    · exact ih (State.shedTell_moves hb (State.headYield_moves hb (h.trans (hf _ _))))
    · exact ih h

@[simp] theorem State.shedClear_moves : Moves p s (t.shedClear) ↔ Moves p s t := by simp [State.shedClear]

@[simp] theorem State.shedHeld_moves {level since amounts short} (hb : p .bytes) (h : Moves p s t) : Moves p s (t.shedHeld level since amounts short) := by
  unfold State.shedHeld
  extract_lets hold s1 s2 s3 s4
  have h2 : Moves p s s2 := Moves.foldl (by simp) _ (by simp [s1, h])
  have h3 : Moves p s s3 := Moves.of_ite h2 (Moves.foldl (by simp) _ h2)
  have h4 : Moves p s s4 := Moves.of_ite (by simp [h3, hb]) h3
  exact Moves.of_ite (by simp [h4, hb]) h4

@[simp] theorem State.shedLoad_moves {amounts} (hb : p .bytes) (h : Moves p s t) : Moves p s (t.shedLoad amounts) := by
  unfold State.shedLoad
  extract_lets since s1 s2 short x one s3 short3 r1 r2 two level s4 s5 short5
  have h3 : Moves p s s3 := Moves.of_ite (by simp [s2, s1, h, hb]) (by simp [s2, s1, h])
  have h4 : Moves p s s4 := Moves.of_ite (by simp [h3, hb]) h3
  have h5 : Moves p s s5 := Moves.of_ite (Moves.foldl (by simp [hb]) _ h4) h4
  split
  next s6 short6 hx =>
    have h6 : Moves p s s6 := Moves.of_fst hx (State.shedHeads_moves hb (by simp) h5)
    split
    next s7 short7 hy =>
      have h7 : Moves p s s7 := Moves.of_fst hy (State.shedHeads_moves hb (by simp) h6)
      simp [h7, hb]

@[simp] theorem State.shedRestore_moves (hb : p .bytes) (h : Moves p s t) : Moves p s (t.shedRestore) := by simp [State.shedRestore, h, hb]
@[simp] theorem State.thermalCool_moves {temp} : Moves p s (t.thermalCool temp) ↔ Moves p s t := by simp [State.thermalCool]
@[simp] theorem State.thermalSeen_moves {temp} (hb : p .bytes) (h : Moves p s t) : Moves p s (t.thermalSeen temp) := by simp [State.thermalSeen, h, hb]

@[simp] theorem State.plan_moves {temp work slack speed} (hb : p .bytes) (h : Moves p s t) : Moves p s (t.plan temp work slack speed) := by
  unfold State.plan
  extract_lets s1 s2 demand s3 s4 more
  have h3 : Moves p s s3 := by simp [s3, s2, s1, h, hb]
  have h4 : Moves p s s4 := Moves.of_ite (by simp [h3, hb]) h3
  exact Moves.of_ite h4 (State.shedLoad_moves hb h4)

@[simp] theorem State.ageDomain_moves {slow d} (hb : p .bytes) (h : Moves p s t) : Moves p s (State.ageDomain slow t d) := by simp [State.ageDomain, h, hb]
@[simp] theorem State.ageDerive_moves (hb : p .bytes) (h : Moves p s t) : Moves p s (t.ageDerive) := by simp [State.ageDerive, h, hb]
@[simp] theorem State.ageRecord_moves : Moves p s (t.ageRecord) ↔ Moves p s t := by simp [State.ageRecord]
@[simp] theorem State.forecast_moves (hb : p .bytes) (h : Moves p s t) : Moves p s (t.forecast) := by simp [State.forecast, h, hb]

/-! Programs.lean -/

@[simp] theorem State.mailboxWrite_moves {c d} : Moves p s (t.mailboxWrite c d) ↔ Moves p s t := by simp [State.mailboxWrite]
@[simp] theorem State.setVersion_moves {c b v} : Moves p s (t.setVersion c b v) ↔ Moves p s t := by simp [State.setVersion]
@[simp] theorem State.stageWrite_moves {c d} : Moves p s (t.stageWrite c d) ↔ Moves p s t := by simp [State.stageWrite]
@[simp] theorem State.verdict_moves {c st off} : Moves p s (t.verdict c st off) ↔ Moves p s t := by simp [State.verdict]
@[simp] theorem State.verifyProgram_moves {c sigOk} : Moves p s (t.verifyProgram c sigOk) ↔ Moves p s t := by simp [State.verifyProgram]
@[simp] theorem State.emptyBank_moves {c b} : Moves p s (t.emptyBank c b) ↔ Moves p s t := by simp [State.emptyBank]
@[simp] theorem State.emptyProgram_moves {c} : Moves p s (t.emptyProgram c) ↔ Moves p s t := by simp [State.emptyProgram]
@[simp] theorem State.pairCore_moves {c} : Moves p s (t.pairCore c) ↔ Moves p s t := by simp [State.pairCore]
@[simp] theorem State.pairRun_moves : Moves p s (t.pairRun) ↔ Moves p s t := by unfold State.pairRun; dsimp only; split <;> simp
@[simp] theorem State.pairReady_moves (hb : p .bytes) (h : Moves p s t) : Moves p s (t.pairReady) := by simp [State.pairReady, h, hb]

/-! Zenith.lean -/

@[simp] theorem State.secJnl_moves {step cls v} : Moves p s (t.secJnl step cls v) ↔ Moves p s t := by simp [State.secJnl]
@[simp] theorem State.lifecycleTo_moves {st} (hb : p .bytes) (h : Moves p s t) : Moves p s (t.lifecycleTo st) := by simp [State.lifecycleTo, h, hb]

@[simp] theorem State.ticketRun_moves {t'} (hb : p .bytes) (hk : p .banks) (h : Moves p s t) : Moves p s (t.ticketRun t') := by
  unfold State.ticketRun
  extract_lets next claim s1 s2 s3 s4 s5 s6
  have h2 : Moves p s s2 := by simp [s2, s1, h]
  have h3 : Moves p s s3 := Moves.of_ite (by simp [h2, hb]) (by simp [h2, hb, hk])
  have h4 : Moves p s s4 := by simp [s4, h3, hb]
  have h5 : Moves p s s5 := by simp [s5, h4, hb]
  have h6 : Moves p s s6 := Moves.of_ite (by simp [h5, hb]) h5
  exact Moves.of_ite (by simp [h6, hb]) h6

@[simp] theorem State.ownerWrite_moves {sigOk} (hb : p .bytes) (hk : p .banks) (h : Moves p s t) : Moves p s (t.ownerWrite sigOk) := by
  simp [State.ownerWrite, h, hb, hk]

@[simp] theorem State.identitySign_moves {d} : Moves p s (t.identitySign d).2 ↔ Moves p s t := by simp [State.identitySign]
@[simp] theorem State.attestWrite_moves {n} : Moves p s (t.attestWrite n) ↔ Moves p s t := by simp [State.attestWrite]

/-! Updates.lean -/

@[simp] theorem State.updAnswer_moves {st e'} : Moves p s (t.updAnswer st e') ↔ Moves p s t := by simp [State.updAnswer]
@[simp] theorem State.updIdle_moves : Moves p s (t.updIdle) ↔ Moves p s t := by simp [State.updIdle]
@[simp] theorem State.updHeaderWrite_moves {n d sigOk} : Moves p s (t.updHeaderWrite n d sigOk) ↔ Moves p s t := by simp [State.updHeaderWrite]
@[simp] theorem State.areaEmpty_moves {h' b} : Moves p s (t.areaEmpty h' b) ↔ Moves p s t := by simp [State.areaEmpty]
@[simp] theorem State.areaWrite_moves {h' b d data e'} : Moves p s (t.areaWrite h' b d data e') ↔ Moves p s t := by simp [State.areaWrite]
@[simp] theorem State.norFail_moves {bad} (hb : p .bytes) (h : Moves p s t) : Moves p s (t.norFail bad) := by simp [State.norFail, h, hb]
@[simp] theorem State.updMismatch_moves {d st e'} : Moves p s (t.updMismatch d st e') ↔ Moves p s t := by simp [State.updMismatch]
@[simp] theorem State.updStaged_moves (hb : p .bytes) (h : Moves p s t) : Moves p s (t.updStaged) := by simp [State.updStaged, h, hb]

@[simp] theorem State.updInner_moves {m innerOk both} (hb : p .bytes) (h : Moves p s t) : Moves p s (t.updInner m innerOk both) := by
  unfold State.updInner
  extract_lets d data s1
  split
  refine Moves.of_ite (by simp [h]) (Moves.of_ite (by simp [h]) ?_)
  split
  · simp [h]
  · have h1 : Moves p s s1 := Moves.foldl (fun t e => Moves.foldl (fun t a => State.areaWrite_moves.mpr (Moves.of_ite (by simp) (Moves.refl ..))) _ (Moves.refl ..)) _ h
    simp [h1, hb]

@[simp] theorem State.updLast_moves {d data innerOk both} (hb : p .bytes) (h : Moves p s t) : Moves p s (t.updLast d data innerOk both) := by
  unfold State.updLast; split <;> simp [h, hb]

@[simp] theorem State.updBodyWrite_moves {n off last v bad innerOk} (hb : p .bytes) (h : Moves p s t) : Moves p s (t.updBodyWrite n off last v bad innerOk) := by
  unfold State.updBodyWrite
  extract_lets d old a b worn data s1 s2 s3 s4
  refine Moves.of_ite (by simp [h]) (Moves.of_ite (by simp [h]) (Moves.of_ite (by simp [h]) ?_))
  split
  · simp [h]
  · have h2 : Moves p s s2 := Moves.foldl (fun t e => Moves.foldl (by simp) _ (Moves.refl ..)) _ (by simp [s1, h, hb])
    split
    · simp [h2]
    · have h4 : Moves p s s4 := State.setFifo_moves.mpr (Moves.foldl (fun t e => Moves.foldl (by simp) _ (Moves.refl ..)) _ h2)
      exact Moves.of_ite (by simp [h4, hb]) (by simp [h4])

@[simp] theorem State.coreInstall_moves {c d} : Moves p s (t.coreInstall c d) ↔ Moves p s t := by simp [State.coreInstall]
@[simp] theorem State.pairInstall_moves {b d} : Moves p s (t.pairInstall b d) ↔ Moves p s t := by simp [State.pairInstall]
@[simp] theorem State.halDown_moves (hb : p .bytes) (hk : p .banks) (h : Moves p s t) : Moves p s (t.halDown) := by simp [State.halDown, h, hb, hk]

@[simp] theorem State.itemRestart_moves {h' back} (hb : p .bytes) (hk : p .banks) (h : Moves p s t) : Moves p s (t.itemRestart h' back) := by
  simp [State.itemRestart, h, hb, hk]

@[simp] theorem State.itemActivate_moves {h'} (hb : p .bytes) (hk : p .banks) (h : Moves p s t) : Moves p s (t.itemActivate h') := by
  unfold State.itemActivate
  extract_lets st b d s1 s2 s3 s4
  have h1 : Moves p s s1 := Moves.of_ite (by simp [h, hb, hk]) h
  have h2 : Moves p s s2 := Moves.of_ite (by simp [h1]) h1
  have h3 : Moves p s s3 := by simp [s3, h2, hb, hk]
  have h4 : Moves p s s4 := by simp [s4, h3]
  exact Moves.of_ite (by simp [h1]) (by simp [h4, hb, hk])

@[simp] theorem State.updActivate_moves (hb : p .bytes) (hk : p .banks) (h : Moves p s t) : Moves p s t.updActivate := by
  unfold State.updActivate
  extract_lets hs s1 s2
  have h2 : Moves p s s2 := Moves.foldl (by simp [hb, hk]) _ (by simp [s1, h])
  exact State.updSettle_moves hb (Moves.of_ite (by simp [h2, hb, hk]) h2)

@[simp] theorem State.updSchedule_moves (hb : p .bytes) (hk : p .banks) (h : Moves p s t) : Moves p s (t.updSchedule) := by simp [State.updSchedule, h, hb, hk]
@[simp] theorem State.updCancel_moves : Moves p s (t.updCancel) ↔ Moves p s t := by simp [State.updCancel]
@[simp] theorem State.updMissed_moves (hb : p .bytes) (h : Moves p s t) : Moves p s (t.updMissed) := by simp [State.updMissed, h, hb]
@[simp] theorem State.updOutage_moves (hb : p .bytes) (h : Moves p s t) : Moves p s (t.updOutage) := by simp [State.updOutage, h, hb]
@[simp] theorem State.updDue_moves (hb : p .bytes) (hk : p .banks) (h : Moves p s t) : Moves p s (t.updDue) := by simp [State.updDue, h, hb, hk]

@[simp] theorem State.floorRaise_moves {c step} (hb : p .bytes) (h : Moves p s t) : Moves p s (t.floorRaise c step) := by
  unfold State.floorRaise
  extract_lets old new s1 top
  have h1 : Moves p s s1 := Moves.foldl (fun t i => by
    extract_lets f floors s2
    have h2 : Moves p t s2 := by simp [s2]
    exact Moves.of_ite (by simp [h2, hb]) h2) _ h
  exact Moves.of_ite h (by simp [h1, hb])

@[simp] theorem State.updConfirm_moves (hb : p .bytes) (hk : p .banks) (h : Moves p s t) : Moves p s t.updConfirm := by
  unfold State.updConfirm
  extract_lets d s1 s2 s3
  have h1 : Moves p s s1 := Moves.foldl (fun t e => Moves.of_ite (by simp [hb, hk]) (by simp)) _ h
  have h2 : Moves p s s2 := Moves.of_ite (Moves.foldl (by simp [hb]) _ h1) h1
  have h3 : Moves p s s3 := Moves.of_ite h2 (by simp [h2, hb])
  simp [h3, hb]

@[simp] theorem State.updConfirmOp_moves (hb : p .bytes) (hk : p .banks) (h : Moves p s t) : Moves p s (t.updConfirmOp) := by
  simp [State.updConfirmOp, h, hb, hk]

@[simp] theorem State.updRejectOp_moves (hb : p .bytes) (hk : p .banks) (h : Moves p s t) : Moves p s t.updRejectOp := by
  unfold State.updRejectOp
  refine Moves.of_ite (by simp [h]) ?_
  extract_lets hs s1 s2
  refine Moves.foldl (fun t e => ?_) _ (by simp [s1, h])
  extract_lets s3
  have h3 : Moves p t s3 := Moves.of_ite (by simp) (Moves.refl ..)
  split
  next s4 k hx =>
    have h4 : Moves p t s4 := Moves.of_fst hx (State.startFailed_moves hb hk h3)
    simp [h4, hb, hk]

@[simp] theorem State.updFloorOp_moves {n} (hb : p .bytes) (h : Moves p s t) : Moves p s (t.updFloorOp n) := by simp [State.updFloorOp, h, hb]

@[simp] theorem State.updUsbOp_moves {n file sigOk bad innerOk} (hb : p .bytes) (h : Moves p s t) : Moves p s (t.updUsbOp n file sigOk bad innerOk) := by
  simp [State.updUsbOp, h, hb]

/-! Counters.lean -/

@[simp] theorem State.counterSync_moves {k} : Moves p s (t.counterSync k) ↔ Moves p s t := by simp [State.counterSync]
@[simp] theorem State.counterSyncAll_moves : Moves p s (t.counterSyncAll) ↔ Moves p s t := by simp [State.counterSyncAll]
@[simp] theorem State.chainZero_moves {k flag} : Moves p s (t.chainZero k flag) ↔ Moves p s t := by simp [State.chainZero]
@[simp] theorem State.chainWrite_moves {n m} : Moves p s (t.chainWrite n m) ↔ Moves p s t := by simp [State.chainWrite]
@[simp] theorem State.overflowClear_moves {n m} : Moves p s (t.overflowClear n m) ↔ Moves p s t := by simp [State.overflowClear]
@[simp] theorem State.snapTake_moves {n} : Moves p s (t.snapTake n) ↔ Moves p s t := by unfold State.snapTake; split <;> simp
@[simp] theorem State.snapRelease_moves {n} : Moves p s (t.snapRelease n) ↔ Moves p s t := by unfold State.snapRelease; split <;> simp
@[simp] theorem State.sampArm_moves {n j} : Moves p s (t.sampArm n j) ↔ Moves p s t := by simp [State.sampArm]
@[simp] theorem State.sampDisarm_moves {n j} : Moves p s (t.sampDisarm n j) ↔ Moves p s t := by simp [State.sampDisarm]

/-! Worlds.lean -/

@[simp] theorem Hand.clearGroups_moves {lo hi a} : Moves p s (Hand.clearGroups t lo hi a) ↔ Moves p s t := Moves.with_regs
@[simp] theorem Hand.clearPair_moves {lo hi a b} : Moves p s (Hand.clearPair t lo hi a b) ↔ Moves p s t := Moves.with_regs
@[simp] theorem Hand.scrubCore_moves {n} : Moves p s (Hand.scrubCore t n) ↔ Moves p s t := by simp [Hand.scrubCore]
@[simp] theorem Hand.scrubTouch_moves {p'} : Moves p s (Hand.scrubTouch t p') ↔ Moves p s t := by simp [Hand.scrubTouch]

@[simp] theorem Hand.scrubState_moves {h'} (hb : p .bytes) (hk : p .banks) (h : Moves p s t) : Moves p s (Hand.scrubState t h') := by
  simp [Hand.scrubState, h, hb, hk]

@[simp] theorem Hand.scrubCounters_moves {h'} : Moves p s (Hand.scrubCounters t h') ↔ Moves p s t := by simp [Hand.scrubCounters]

@[simp] theorem Hand.resetScrub_moves {h'} (hb : p .bytes) (hk : p .banks) (h : Moves p s t) : Moves p s (Hand.resetScrub t h') := by
  simp (disch := simp [h, hb, hk]) [Hand.resetScrub]

@[simp] theorem Hand.drainEnd_moves {h'} (hb : p .bytes) (hk : p .banks) (h : Moves p s t) : Moves p s (Hand.drainEnd t h') := by
  unfold Hand.drainEnd
  extract_lets a s1
  have h1 : Moves p s s1 := Moves.of_ite (State.raise_moves hb (by simp [h, hb])) h
  simp [h1, hb, hk]

@[simp] theorem Hand.nodeStop_moves {p'} (hb : p .bytes) (hk : p .banks) (h : Moves p s t) : Moves p s (Hand.nodeStop t p') := by
  simp [Hand.nodeStop, h, hb, hk]

@[simp] theorem Hand.nodeStart_moves {p'} : Moves p s (Hand.nodeStart t p') ↔ Moves p s t := by simp [Hand.nodeStart]
@[simp] theorem Hand.held_moves {h'} (hb : p .bytes) (hk : p .banks) (h : Moves p s t) : Moves p s (Hand.held t h') := by simp [Hand.held, h, hb, hk]

@[simp] theorem Hand.freed_moves {h'} (hb : p .bytes) (hk : p .banks) (hc : p .caches) (he : p .exports) (h : Moves p s t) : Moves p s (Hand.freed t h') := by
  unfold Hand.freed
  extract_lets a s1 s2 s3
  have h1 : Moves p s s1 := by simp [s1, h]
  have h2 : Moves p s s2 := State.blockStart_moves hb (by simp [h1, hb, hk])
  have h3 : Moves p s s3 := Moves.of_ite (by simp [h2]) h2
  simp [h3, hb, hc, he]

@[simp] theorem Hand.scrubFailed_moves {h'} (hb : p .bytes) (hk : p .banks) (hc : p .caches) (he : p .exports) (h : Moves p s t) :
    Moves p s (Hand.scrubFailed t h') := by
  simp (disch := simp [h, hb, hk, hc, he]) [Hand.scrubFailed]

@[simp] theorem Hand.answer_moves {n st} : Moves p s (Hand.answer t n st) ↔ Moves p s t := by simp [Hand.answer]
@[simp] theorem Hand.grantOp_moves {n} (hb : p .bytes) (hk : p .banks) (h : Moves p s t) : Moves p s (Hand.grantOp t n) := by simp [Hand.grantOp, h, hb, hk]
@[simp] theorem Hand.recallOp_moves {n} (hb : p .bytes) (h : Moves p s t) : Moves p s (Hand.recallOp t n) := by simp [Hand.recallOp, h, hb]

/-! PowOps.lean -/

@[simp] theorem State.powerTo_moves {st cause} : Moves p s (t.powerTo st cause) ↔ Moves p s t := by simp [State.powerTo]
@[simp] theorem State.vbakSeen_moves {mv} (hb : p .bytes) (h : Moves p s t) : Moves p s (t.vbakSeen mv) := by simp [State.vbakSeen, h, hb]
@[simp] theorem State.headOff_moves {n} (hb : p .bytes) (h : Moves p s t) : Moves p s (t.headOff n) := by simp [State.headOff, h, hb]
@[simp] theorem State.headOn_moves {n} : Moves p s (t.headOn n) ↔ Moves p s t := by simp [State.headOn]

@[simp] theorem State.holdupYields_moves (hb : p .bytes) (h : Moves p s t) : Moves p s t.holdupYields :=
  Moves.foldl (by simp [hb]) _ (Moves.foldl (fun t q => Moves.foldl (by simp [hb]) _ (Moves.refl ..)) _ h)

@[simp] theorem State.holdupYieldsEnd_moves (hb : p .bytes) (h : Moves p s t) : Moves p s t.holdupYieldsEnd :=
  Moves.foldl (by simp [hb]) _ (Moves.foldl (fun t q => Moves.foldl (by simp [hb]) _ (Moves.refl ..)) _ h)

@[simp] theorem State.yieldsReturn_moves (hb : p .bytes) (h : Moves p s t) : Moves p s (t.yieldsReturn) := by simp (disch := simp [h, hb]) [State.yieldsReturn]

@[simp] theorem State.enterHoldup_moves {cause} (hb : p .bytes) (hk : p .banks) (h : Moves p s t) : Moves p s (t.enterHoldup cause) := by
  unfold State.enterHoldup
  extract_lets s1 s2 s3 s4 s5 s6 s7 s8 s9 s10 s11 s12
  have h2 : Moves p s s2 := State.holdupYields_moves hb (by simp [s1, h, hb])
  have h4 : Moves p s s4 := by simp [s4, s3, h2, hb, hk]
  have h5 : Moves p s s5 := Moves.foldl (fun t n => Moves.of_ite (by simp [hb]) (Moves.of_ite (by simp) (Moves.refl ..))) _ h4
  have h6 : Moves p s s6 := Moves.foldl (fun t n => Moves.of_ite (by simp [hb]) (Moves.refl ..)) _ h5
  have h7 : Moves p s s7 := Moves.foldl (fun t g => State.setReg_moves.mpr (Moves.foldl (by simp) _ (Moves.refl ..))) _ h6
  have h8 : Moves p s s8 := Moves.foldl (fun t n => Moves.of_ite (Moves.refl ..) (by simp)) _ h7
  have h9 : Moves p s s9 := Moves.foldl (by simp) _ h8
  have h10 : Moves p s s10 := Moves.foldl (fun t n => Moves.of_ite (by simp) (Moves.refl ..)) _ h9
  have h11 : Moves p s s11 := Moves.foldl (fun t n => Moves.of_ite (Moves.refl ..) (Moves.of_ite (Moves.refl ..) (by simp [hb]))) _ h10
  have h12 : Moves p s s12 := Moves.foldl (fun t n => Moves.of_ite (Moves.refl ..) (by simp)) _ h11
  simp [h12]

@[simp] theorem State.wipe_moves {warm} (hb : p .bytes) (hk : p .banks) (hc : p .caches) (ht : p .trackers) (hg : p .packages) (he : p .exports)
    (hj : p .jobs) (ha : p .answers) (h : Moves p s t) : Moves p s (t.wipe warm) where
  pending := h.pending
  wf w := State.wipe_wf warm (h.wf w)
  time := h.time
  banks := by simp [hk]
  bytes := by simp [hb]
  trackers := by simp [ht]
  packages := by simp [hg]
  exports := by simp [he]
  jobs := by simp [hj]
  answers := by simp [ha]
  caches := by simp [hc]

@[simp] theorem State.enterFlush_moves {cause} (hb : p .bytes) (hk : p .banks) (hc : p .caches) (ht : p .trackers) (hg : p .packages) (he : p .exports)
    (hj : p .jobs) (ha : p .answers) (h : Moves p s t) : Moves p s (t.enterFlush cause) := by
  unfold State.enterFlush
  extract_lets s1 s2 s3
  exact Moves.with_answer.mpr (State.wipe_moves hb hk hc ht hg he hj ha (by simp [s3, s2, s1, h]))

@[simp] theorem State.vmainGone_moves {vbak} (hb : p .bytes) (hk : p .banks) (hc : p .caches) (ht : p .trackers) (hg : p .packages) (he : p .exports) (hj : p .jobs) (ha : p .answers) (h : Moves p s t) :
    Moves p s (t.vmainGone vbak) := by
  simp [State.vmainGone, h, hb, hk, hc, ht, hg, he, hj, ha]

@[simp] theorem State.tryBoot_moves : Moves p s (t.tryBoot) ↔ Moves p s t := by simp [State.tryBoot]

@[simp] theorem State.beginReturn_moves {drift} (hb : p .bytes) (ht : p .trackers) (h : Moves p s t) : Moves p s (t.beginReturn drift) := by
  unfold State.beginReturn
  extract_lets cause s1 src s2 s3 s4 s5 s6
  have h2 : Moves p s s2 := Moves.with_tracks ht (State.updOutage_moves hb (by simp [s1, h, hb]))
  have h3 : Moves p s s3 := Moves.foldl (fun t c => Moves.of_ite (Moves.refl ..) (Moves.of_ite (by simp [hb]) (by simp))) _ h2
  have h5 : Moves p s s5 := Moves.foldl (fun t n => Moves.of_ite (by simp) (by simp)) _ (by simp [s4, h3, hb])
  exact Moves.foldl (by simp) _ (Moves.foldl (by simp [hb]) _ h5)

@[simp] theorem State.returnDone_moves (hb : p .bytes) (hk : p .banks) (h : Moves p s t) : Moves p s t.returnDone := by
  unfold State.returnDone
  extract_lets s1 s2 s3
  have h3 : Moves p s s3 := Moves.foldl (by simp [hb]) _ (by simp [s2, s1, h, hb])
  simp [h3, hb, hk]

@[simp] theorem State.openBuiltIn_moves : Moves p s (t.openBuiltIn) ↔ Moves p s t := by simp [State.openBuiltIn]
@[simp] theorem State.deriveIdentity_moves {puf} (hb : p .bytes) (h : Moves p s t) : Moves p s (t.deriveIdentity puf) := by simp [State.deriveIdentity, h, hb]
@[simp] theorem State.measureStart_moves : Moves p s (t.measureStart) ↔ Moves p s t := by unfold State.measureStart; dsimp only; split <;> simp
@[simp] theorem State.coresStart_moves : Moves p s (t.coresStart) ↔ Moves p s t := by simp [State.coresStart]

@[simp] theorem State.settingsDefault_moves (hk : p .banks) (h : Moves p s t) : Moves p s t.settingsDefault :=
  State.setReg_moves.mpr { h with banks := by simp [hk] }

@[simp] theorem State.enterRecovery_moves (hb : p .bytes) (hk : p .banks) (hc : p .caches) (ht : p .trackers) (hg : p .packages) (he : p .exports) (hj : p .jobs) (ha : p .answers) (h : Moves p s t) :
    Moves p s (t.enterRecovery) := by
  simp [State.enterRecovery, h, hb, hk, hc, ht, hg, he, hj, ha]

@[simp] theorem State.worldRebuild_moves {w} (hb : p .bytes) (h : Moves p s t) : Moves p s (t.worldRebuild w) := by
  have hdef := @rfl _ State.worldRebuild
  conv at hdef => rhs; delta State.worldRebuild
  obtain ⟨take, htake⟩ : ∃ take, take = State.frameTake := ⟨_, rfl⟩
  rw [hdef, ← htake]
  beta_reduce
  split
  · exact h
  · next hf =>
    rw [htake] at hf
    simp [State.frameTake_moves hf hb h]

@[simp] theorem State.handoversReturn_moves (hb : p .bytes) (hk : p .banks) (h : Moves p s t) : Moves p s (t.handoversReturn) := by
  simp [State.handoversReturn, h, hb, hk]

@[simp] theorem State.startStates_moves (hb : p .bytes) (h : Moves p s t) : Moves p s (t.startStates) := by simp [State.startStates, h, hb]

@[simp] theorem State.declareAll_moves (hb : p .bytes) (hk : p .banks) (h : Moves p s t) : Moves p s t.declareAll := by
  unfold State.declareAll
  extract_lets s1 s2
  have h2 : Moves p s s2 := Moves.foldl (fun t c => Moves.of_ite (by simp [hb, hk]) (Moves.refl ..)) _ (Moves.foldl (by simp [hb, hk]) _ h)
  simp [h2, hb, hk]

@[simp] theorem State.startUnits_moves (hb : p .bytes) (h : Moves p s t) : Moves p s t.startUnits := by
  unfold State.startUnits
  extract_lets s1 s2 s3 s4 s5 s6 s7 s8 s9
  have h2 : Moves p s s2 := State.bulkDerive_moves.mpr
    (State.ensignMap_moves hb (State.needRoot_moves hb (State.needRoot_moves hb (by simp [s1, h, hb]))))
  have h3 : Moves p s s3 := by simp [s3, h2]
  have h4 : Moves p s s4 := Moves.foldl (fun t n => Moves.of_ite (by simp) (Moves.refl ..)) _ h3
  have h5 : Moves p s s5 := Moves.foldl (by simp) _ h4
  have h6 : Moves p s s6 := Moves.foldl (fun t n => Moves.foldl (by simp) _ (Moves.refl ..)) _ h5
  have h7 : Moves p s s7 := Moves.foldl (by simp [hb]) _ h6
  have h8 : Moves p s s8 := Moves.foldl (by simp) _ h7
  have h9 : Moves p s s9 := Moves.foldl (by simp) _ h8
  simp [h9]

@[simp] theorem State.blocksCold_moves : Moves p s (t.blocksCold) ↔ Moves p s t := by simp [State.blocksCold]

/-! Power.lean -/

@[simp] theorem State.halStartFailed_moves (hb : p .bytes) (hk : p .banks) (hc : p .caches) (ht : p .trackers) (hg : p .packages) (he : p .exports)
    (hj : p .jobs) (ha : p .answers) (h : Moves p s t) : Moves p s t.halStartFailed := by
  unfold State.halStartFailed
  split
  · next s' hx => exact Moves.of_fst hx (State.startFailed_moves hb hk h)
  · next s' hx =>
    have h1 : Moves p s s' := Moves.of_fst hx (State.startFailed_moves hb hk h)
    simp [h1, hb, hk, hc, ht, hg, he, hj, ha]
  · next s' k _ _ hx =>
    extract_lets b s2
    have h1 : Moves p s s' := Moves.of_fst hx (State.startFailed_moves hb hk h)
    have h2 : Moves p s s2 := by simp [s2, h1]
    exact Moves.of_ite h2 (Moves.of_ite (by simp [h2]) (by simp [h2, hb, hk, hc, ht, hg, he, hj, ha]))

@[simp] theorem State.halServes_moves (hb : p .bytes) (h : Moves p s t) : Moves p s (t.halServes) := by simp (disch := simp [h, hb]) [State.halServes]
@[simp] theorem State.holdupWrite_moves {sub v} : Moves p s (t.holdupWrite sub v) ↔ Moves p s t := by simp [State.holdupWrite]

@[simp] theorem State.handover_moves {puf lost corrupt} (hb : p .bytes) (hk : p .banks) (hc : p .caches) (ht : p .trackers) (hg : p .packages) (he : p .exports)
    (hj : p .jobs) (ha : p .answers) (hn : p .time) (h : Moves p s t) : Moves p s (t.handover puf lost corrupt) := by
  unfold State.handover
  extract_lets warm src s1 s2 s3 s4 s5 s6 s7 cause s8 s9 s10 s11 s12 s13 s14 s15
  have h1 : Moves p s s1 := by
    refine Moves.of_ite h ?_
    split
    · exact Moves.with_now hn (by simp [src, h, hb, hk, hc, ht, hg, he, hj, ha])
    · simp [h, hb, hk, hc, ht, hg, he, hj, ha]
  have h2 : Moves p s s2 := Moves.of_ite (by simp [h1, hb, hk]) (by simp [h1])
  have h3 : Moves p s s3 := Moves.of_ite (State.updIdle_moves.mpr (Moves.foldl (fun t e => Moves.of_ite (Moves.refl ..) (by simp)) _ h2)) h2
  have h4 : Moves p s s4 := Moves.of_ite h3 (by simp [h3, hb])
  have h5 : Moves p s s5 := Moves.of_ite (by simp [h4, hk]) h4
  have h7 : Moves p s s7 := Moves.foldl (by simp [hb]) _ (Moves.foldl (by simp [hb, hk]) _ h5)
  have h9 : Moves p s s9 := State.startUnits_moves hb (State.declareAll_moves hb hk (by simp [s8, h7, hb]))
  have h10 : Moves p s s10 := Moves.foldl (fun t e => Moves.of_ite (by simp [hb, hk]) (Moves.of_ite (Moves.refl ..)
    (Moves.of_ite (by simp) (by simp [hb, hk])))) _ h9
  have h12 : Moves p s s12 := by simp [s12, s11, h10, hb]
  have h13 : Moves p s s13 := Moves.of_ite h12 (by simp [h12, hb])
  have h14 : Moves p s s14 := by simp [s14, h13, hb]
  have h15 : Moves p s s15 := Moves.of_ite h14 (by simp [h14, hb])
  simp [h15, hb, hk]

@[simp] theorem State.instanceReturn_moves {i} (hb : p .bytes) (ha : p .answers) (h : Moves p s t) : Moves p s (t.instanceReturn i) := by
  simp [State.instanceReturn, h, hb, ha]

@[simp] theorem State.tellLost_moves {l} (hb : p .bytes) (h : Moves p s t) : Moves p s (t.tellLost l) := by
  induction t, l using State.tellLost.induct with
  | case1 t i r d l ih =>
    rw [State.tellLost]
    exact ih (State.raise_moves hb h)
  | case2 t l hl =>
    rwa [State.tellLost]
    exact hl

@[simp] theorem State.identityTaken_moves {silent} : Moves p s (t.identityTaken silent) ↔ Moves p s t := by simp [State.identityTaken]
@[simp] theorem State.trained_moves {c} : Moves p s (t.trained c) ↔ Moves p s t := by simp [State.trained]
@[simp] theorem State.started_moves : Moves p s (t.started) ↔ Moves p s t := by simp [State.started]

@[simp] theorem State.startUpDone_moves {silent untrained} (hb : p .bytes) (hk : p .banks) (hc : p .caches) (he : p .exports) (ha : p .answers) (h : Moves p s t) :
    Moves p s (t.startUpDone silent untrained) := by
  unfold State.startUpDone
  extract_lets warm s1 s2 s3 s4 boot s5 s6 s7 s8
  have h2 : Moves p s s2 := Moves.foldl (fun t r => Moves.foldl (by simp [hb, hk]) _ (Moves.refl ..)) _ (by simp [s1, h])
  have h3 : Moves p s s3 := Moves.foldl (fun t c => Moves.of_ite (by simp [hb, hk]) (by simp)) _ h2
  have h4 : Moves p s s4 := by simp [s4, h3]
  have h5 : Moves p s s5 := Moves.foldl (fun t w => Moves.of_ite (Moves.of_ite (Moves.refl ..) (by simp [hb, hc, he])) (by simp [hb])) _ h4
  have h6 : Moves p s s6 := Moves.foldl (by simp [hb, ha]) _ h5
  have h7 : Moves p s s7 := Moves.of_ite (Moves.foldl (by simp [hb]) _ h6) (Moves.foldl (by simp [hb, hk, ha]) _ h4)
  have h8 : Moves p s s8 := by simp [s8, h7, hb]
  simp [h8]

/-! Connectors.lean -/

@[simp] theorem State.ethWrite_moves {p' v} : Moves p s (t.ethWrite p' v) ↔ Moves p s t := by simp [State.ethWrite]

/-! Crypto.lean -/

@[simp] theorem State.jobResult_moves {n st d} : Moves p s (t.jobResult n st d) ↔ Moves p s t := by simp [State.jobResult]

@[simp] theorem State.jobEnd_moves {j st d} (hb : p .bytes) (hj : p .jobs) (h : Moves p s t) : Moves p s (t.jobEnd j st d) := by
  unfold State.jobEnd
  extract_lets s1
  have h1 : Moves p s s1 := State.jobResult_moves.mpr (Moves.with_jobs hj h)
  exact Moves.of_ite (by simp [h1, hb]) h1

@[simp] theorem State.jobStart_moves {j} (hb : p .bytes) (hj : p .jobs) (h : Moves p s t) : Moves p s (t.jobStart j) := by
  unfold State.jobStart
  extract_lets b j' s1
  have h1 : Moves p s s1 := Moves.with_jobs hj h
  exact Moves.of_ite (by simp [h, hb, hj]) (Moves.of_ite (by simp [h1, hb]) h1)

@[simp] theorem State.jobsStart_moves {k} (hb : p .bytes) (hj : p .jobs) (h : Moves p s t) : Moves p s (State.jobsStart k t) := by
  induction k generalizing t with
  | zero => exact h
  | succ k ih =>
    unfold State.jobsStart
    split
    · exact ih (by simp [h, hb, hj])
    · split
      · exact ih (by simp [h, hb, hj])
      · exact h

@[simp] theorem State.cryptoWrite_moves {n op} (hb : p .bytes) (hj : p .jobs) (h : Moves p s t) : Moves p s (t.cryptoWrite n op) := by
  unfold State.cryptoWrite
  extract_lets slot d w b st no c j s1
  have hno : ∀ st, Moves p s (no t st) := fun st => State.reply_moves.mpr (Moves.of_ite h (by simp [h]))
  have h1 : Moves p s s1 := State.jobResult_moves.mpr (Moves.with_jobs hj h)
  exact Moves.of_ite (hno _) (Moves.of_ite (hno _) (Moves.of_ite (hno _) (Moves.of_ite (hno _) (Moves.of_ite (hno _) (by simp [h1, hb, hj])))))

@[simp] theorem State.jobDone_moves {n} (hb : p .bytes) (hj : p .jobs) (h : Moves p s t) : Moves p s (t.jobDone n) := by
  unfold State.jobDone; split <;> simp [h, hb, hj]

@[simp] theorem State.keyAnswer_moves {n st} : Moves p s (t.keyAnswer n st) ↔ Moves p s t := by simp [State.keyAnswer]
@[simp] theorem State.keyPut_moves {n w st key pub} : Moves p s (t.keyPut n w st key pub) ↔ Moves p s t := by simp [State.keyPut]
@[simp] theorem State.keyGenerate_moves {n w} : Moves p s (t.keyGenerate n w) ↔ Moves p s t := by simp [State.keyGenerate]
@[simp] theorem State.keyPlain_moves {n w} : Moves p s (t.keyPlain n w) ↔ Moves p s t := by simp [State.keyPlain]
@[simp] theorem State.keyWrapped_moves {n w} : Moves p s (t.keyWrapped n w) ↔ Moves p s t := by simp [State.keyWrapped]
@[simp] theorem State.keyErase_moves {n} (hb : p .bytes) (h : Moves p s t) : Moves p s (t.keyErase n) := by simp [State.keyErase, h, hb]
@[simp] theorem State.keyOpWrite_moves {n w op} (hb : p .bytes) (h : Moves p s t) : Moves p s (t.keyOpWrite n w op) := by simp [State.keyOpWrite, h, hb]

theorem cryptoOp_moves {n op} (hb : p .bytes) (hj : p .jobs) (h : Moves p s t) : Moves p s (cryptoOp n op t) :=
  State.written_moves (fun _ => hb) (fun t => by simp [hb, hj]) h

theorem keyOperation_moves {n w op} (hb : p .bytes) (h : Moves p s t) : Moves p s (keyOperation n w op t) :=
  State.written_moves (fun _ => hb) (fun t => by simp [hb]) h

end Sys2Proof.Machine
end

section
/-!
PROOFS of O3 to O5, O8 and O9. What the operations move: CAN nodes, haptics, the Ensign runtime, exports, the hoist and sessions.
-/
namespace Sys2Proof.Machine

variable {p : StatePart → Bool} {s t u : State}

/-! CanNode.lean -/

@[simp] theorem Can.producerWrite_moves {p' v} : Moves p s (Can.producerWrite t p' v) ↔ Moves p s t := by simp [Can.producerWrite]
@[simp] theorem Can.consumerWrite_moves {p' i v} : Moves p s (Can.consumerWrite t p' i v) ↔ Moves p s t := by simp [Can.consumerWrite]
@[simp] theorem Can.staleWrite_moves {p' m v} : Moves p s (Can.staleWrite t p' m v) ↔ Moves p s t := by simp [Can.staleWrite]
@[simp] theorem Can.checkUnitWrite_moves {p' m v} : Moves p s (Can.checkUnitWrite t p' m v) ↔ Moves p s t := by simp [Can.checkUnitWrite]
@[simp] theorem Can.errors_moves {p' tec rec'} (hb : p .bytes) (h : Moves p s t) : Moves p s (Can.errors t p' tec rec') := by simp [Can.errors, h, hb]
@[simp] theorem Can.restart_moves {p'} (hb : p .bytes) (h : Moves p s t) : Moves p s (Can.restart t p') := by simp [Can.restart, h, hb]
@[simp] theorem Can.frameEnded_moves {p'} (hb : p .bytes) (h : Moves p s t) : Moves p s (Can.frameEnded t p') := by simp [Can.frameEnded, h, hb]
@[simp] theorem Can.rawConfig_moves {p' sub v} (hb : p .bytes) (h : Moves p s t) : Moves p s (Can.rawConfig t p' sub v) := by simp [Can.rawConfig, h, hb]
@[simp] theorem Can.rawTxWrite_moves {p' d} : Moves p s (Can.rawTxWrite t p' d) ↔ Moves p s t := by simp [Can.rawTxWrite]
@[simp] theorem Can.takeRx_moves {p'} : Moves p s (Can.takeRx t p').1 ↔ Moves p s t := by simp [Can.takeRx]
@[simp] theorem Can.usbClear_moves {h'} : Moves p s (Can.usbClear t h') ↔ Moves p s t := by simp [Can.usbClear]
@[simp] theorem Can.portOp_moves {h'} : Moves p s (Can.portOp t h') ↔ Moves p s t := by simp [Can.portOp]
@[simp] theorem Can.takeHid_moves {h'} : Moves p s (Can.takeHid t h').1 ↔ Moves p s t := by simp [Can.takeHid]
@[simp] theorem Can.hidOutWrite_moves {h' d} : Moves p s (Can.hidOutWrite t h' d) ↔ Moves p s t := by unfold Can.hidOutWrite; split <;> simp
@[simp] theorem Can.takeOwner_moves {n} : Moves p s (Can.takeOwner t n).1 ↔ Moves p s t := by simp [Can.takeOwner]

/-! HapPlay.lean -/

@[simp] theorem State.hapChEvent_moves {g c st sev pl} (hb : p .bytes) (h : Moves p s t) : Moves p s (t.hapChEvent g c st sev pl) := by
  simp [State.hapChEvent, h, hb]

@[simp] theorem State.hapGroupEvent_moves {g st sev pl} (hb : p .bytes) (h : Moves p s t) : Moves p s (t.hapGroupEvent g st sev pl) := by
  simp [State.hapGroupEvent, h, hb]

@[simp] theorem State.hapBoundary_moves {g c} (hb : p .bytes) (hk : p .banks) (h : Moves p s t) : Moves p s (t.hapBoundary g c) := by
  simp [State.hapBoundary, h, hb, hk]

@[simp] theorem State.hapItemEnd_moves {g c status} : Moves p s (t.hapItemEnd g c status) ↔ Moves p s t := by unfold State.hapItemEnd; split <;> simp

@[simp] theorem State.hapEnd_moves {g c status} (hb : p .bytes) (hk : p .banks) (h : Moves p s t) : Moves p s (t.hapEnd g c status) := by
  simp [State.hapEnd, h, hb, hk]

@[simp] theorem State.hapPlay_moves {g c src w e' str d} (hb : p .bytes) (hk : p .banks) (h : Moves p s t) : Moves p s (t.hapPlay g c src w e' str d).1 := by
  unfold State.hapPlay
  extract_lets st old s1 s2 s3 s4
  split
  · exact h
  split
  · simp [h]
  · have h1 : Moves p s s1 := by simp [s1, h]
    have h2 : Moves p s s2 := Moves.of_ite h1 (by simp [h1, hb])
    have h3 : Moves p s s3 := Moves.of_ite h (by simp [h2, hb, hk])
    simp [s4, h3]

@[simp] theorem State.hapCut_moves {g c status} (hb : p .bytes) (hk : p .banks) (h : Moves p s t) : Moves p s (t.hapCut g c status) := by
  simp [State.hapCut, h, hb, hk]

@[simp] theorem State.hapFault_moves {g c} (hb : p .bytes) (h : Moves p s t) : Moves p s (t.hapFault g c) := by simp [State.hapFault, h, hb]

@[simp] theorem State.hapGroupCut_moves {g status} (hb : p .bytes) (hk : p .banks) (h : Moves p s t) : Moves p s (t.hapGroupCut g status) := by
  simp [State.hapGroupCut, h, hb, hk]

@[simp] theorem State.hapTouch_moves {p' phase c} (hb : p .bytes) (hk : p .banks) (h : Moves p s t) : Moves p s (t.hapTouch p' phase c) := by
  refine Moves.foldl (fun t g => Moves.of_ite (Moves.refl ..) ?_) _ h
  refine List.foldlRecOn (motive := fun (x : State × List Nat) => Moves p t x.1) (List.range 16) _ (Moves.refl ..) (fun x hx b _ => ?_)
  extract_lets v ch hold
  rw [apply_ite Prod.fst]
  exact Moves.of_ite (State.hapPlay_moves hb hk hx) hx

/-! Ensign.lean -/

@[simp] theorem Ens.settle_moves {p'} : Moves p s (Ens.settle t p') ↔ Moves p s t := by simp [Ens.settle]
@[simp] theorem Ens.redraw_moves {n k} : Moves p s (Ens.redraw t n k) ↔ Moves p s t := by simp [Ens.redraw]

@[simp] theorem Ens.paint_moves {n k x' y w h' f} (hb : p .bytes) (h : Moves p s t) : Moves p s (Ens.paint t n k x' y w h' f) := by
  unfold Ens.paint; split <;> simp [h, hb]

@[simp] theorem Ens.ackPlays_moves {l} (hb : p .bytes) (hk : p .banks) (h : Moves p s t) : Moves p s (Ens.ackPlays t l) := by simp [Ens.ackPlays, h, hb, hk]
@[simp] theorem Ens.opDone_moves {st detail} : Moves p s (Ens.opDone t st detail) ↔ Moves p s t := by simp [Ens.opDone]

@[simp] theorem Ens.load_moves {p'} (hb : p .bytes) (hg : p .packages) (h : Moves p s t) : Moves p s (Ens.load t p') := by
  unfold Ens.load
  extract_lets s1 s2 s3 s4 s5 s6 s7
  have h1 : Moves p s s1 := Moves.foldl (fun t a => Moves.of_ite (by simp [hb]) (Moves.refl ..)) _ h
  have h2 : Moves p s s2 := Moves.foldl (fun t x => by split <;> simp) _ h1
  have h3 : Moves p s s3 := by simp [s3, h2]
  clear_value s3
  have h4 : Moves p s s4 := State.setReg_moves.mpr { h3 with packages := by simp [hg] }
  have h6 : Moves p s s6 := Moves.foldl (by simp) _ (by simp [s5, h4, hb])
  have h7 : Moves p s s7 := Moves.foldl (fun t n => Moves.of_ite (by simp [hb]) (by simp)) _ h6
  simp [h7, hb, hg]

@[simp] theorem Ens.fail_moves {n k st crc other} (hb : p .bytes) (h : Moves p s t) : Moves p s (Ens.fail t n k st crc other) := by simp [Ens.fail, h, hb]
@[simp] theorem Ens.mismatch_moves {n k crc exp} (hb : p .bytes) (h : Moves p s t) : Moves p s (Ens.mismatch t n k crc exp) := by simp [Ens.mismatch, h, hb]
@[simp] theorem Ens.pass_moves {n k crc exp} (hb : p .bytes) (h : Moves p s t) : Moves p s (Ens.pass t n k crc exp) := by simp [Ens.pass, h, hb]
@[simp] theorem Ens.track_moves {n k crc} : Moves p s (Ens.track t n k crc) ↔ Moves p s t := by simp [Ens.track]
@[simp] theorem Ens.bindSync_moves {p'} : Moves p s (Ens.bindSync t p') ↔ Moves p s t := by simp [Ens.bindSync]

/-! Export.lean -/

@[simp] theorem Jnl.answer_moves {n st} : Moves p s (Jnl.answer t n st) ↔ Moves p s t := by simp [Jnl.answer]
@[simp] theorem Jnl.exportBuild_moves {n} : Moves p s (Jnl.exportBuild t n) ↔ Moves p s t := by simp [Jnl.exportBuild]
@[simp] theorem Jnl.corrupt_moves {v} (hb : p .bytes) (h : Moves p s t) : Moves p s (Jnl.corrupt t v) := by simp [Jnl.corrupt, h, hb]
@[simp] theorem Jnl.settingsLost_moves {h'} (hb : p .bytes) (h : Moves p s t) : Moves p s (Jnl.settingsLost t h') := State.raise_moves hb (Moves.with_regs.mpr h)

@[simp] theorem Jnl.unitReset_moves {h' copyOk v} (hb : p .bytes) (hk : p .banks) (h : Moves p s t) : Moves p s (Jnl.unitReset t h' copyOk v) := by
  unfold Jnl.unitReset
  extract_lets s1 s2 s3
  have h1 : Moves p s s1 := Moves.of_ite h (by simp [h, hb])
  have h3 : Moves p s s3 := Moves.foldl (by simp [hb]) _ (by simp [s2, h1, hb, hk])
  exact Moves.of_ite (by simp [h3, hb]) (Moves.of_ite (by simp [h3, hb]) h3)

/-! Haptics.lean -/

theorem Hap.ringOp_moves {i op e' str d} (hb : p .bytes) (hk : p .banks) (h : Moves p s t) : Moves p s (Hap.ringOp i op e' str d t) := by
  refine State.onPacket_moves hb (fun t q => ?_) h
  extract_lets x ch w g c h' seq s1
  have hr {u : State} {d h' st w sev pl} (hu : Moves p t u) : Moves p t ((u.raise d h' st w sev pl).ringDone i 6 q) := by simp [hu, hb]
  refine Moves.of_ite (by simp [hb]) (Moves.of_ite (hr (Moves.refl ..)) (Moves.of_ite (Moves.of_ite (hr (Moves.refl ..)) (by simp [hb])) ?_))
  split
  next s2 st hx =>
    have h2 : Moves p t s2 := Moves.of_fst hx (State.hapPlay_moves hb hk (by simp [s1]))
    extract_lets s3 s4
    have h3 : Moves p t s3 := Moves.of_ite (by simp [h2]) (by simp [h2])
    exact State.ringDone_moves hb (Moves.of_ite h3 (by simp [h3, hb]))

@[simp] theorem Hap.drive_moves {g c mv} : Moves p s (Hap.drive t g c mv) ↔ Moves p s t := by simp [Hap.drive]
@[simp] theorem Hap.inSegment_moves {g c t' st a} : Moves p s (Hap.inSegment t g c t' st a) ↔ Moves p s t := by simp [Hap.inSegment]
@[simp] theorem Hap.afterSegment_moves {g c t' k e' a} : Moves p s (Hap.afterSegment t g c t' k e' a) ↔ Moves p s t := by simp [Hap.afterSegment]
@[simp] theorem Hap.power_moves {g mw} (hb : p .bytes) (h : Moves p s t) : Moves p s (Hap.power t g mw) := by simp [Hap.power, h, hb]
@[simp] theorem Hap.restart_moves {g} : Moves p s (Hap.restart t g) ↔ Moves p s t := by simp [Hap.restart]

/-! Hoist.lean -/

@[simp] theorem State.dropSchedules_moves (hb : p .bytes) (hk : p .banks) (h : Moves p s t) : Moves p s (t.dropSchedules) := by
  simp (disch := simp [h, hb, hk]) [State.dropSchedules]

@[simp] theorem State.hoistAnswer_moves {n st} : Moves p s (t.hoistAnswer n st) ↔ Moves p s t := by simp [State.hoistAnswer]
@[simp] theorem State.slotTo_moves {d st} (hb : p .bytes) (hk : p .banks) (h : Moves p s t) : Moves p s (t.slotTo d st) := by simp [State.slotTo, h, hb, hk]

@[simp] theorem State.becomeMember_moves (hb : p .bytes) (hk : p .banks) (h : Moves p s t) : Moves p s (t.becomeMember) := by
  simp [State.becomeMember, h, hb, hk]

@[simp] theorem State.joinVia_moves {l held} (hb : p .bytes) (hk : p .banks) (h : Moves p s t) : Moves p s (t.joinVia l held) := by
  simp [State.joinVia, h, hb, hk]

@[simp] theorem State.hoistJoin_moves {n held} (hb : p .bytes) (hk : p .banks) (h : Moves p s t) : Moves p s (t.hoistJoin n held) := by
  unfold State.hoistJoin
  extract_lets s1
  have h1 : Moves p s s1 := by simp [s1, h, hb, hk]
  refine Moves.of_ite (by simp [h]) (Moves.of_ite (Moves.of_ite (by simp [h, hb]) (by simp [h1, hb, hk])) ?_)
  split <;> simp [h, hb, hk]

@[simp] theorem State.forwardedClose_moves {p'} (hb : p .bytes) (hk : p .banks) (h : Moves p s t) : Moves p s (t.forwardedClose p') := by
  simp [State.forwardedClose, h, hb, hk]

@[simp] theorem State.settleParent_moves (hb : p .bytes) (hk : p .banks) (h : Moves p s t) : Moves p s (t.settleParent) := by
  simp [State.settleParent, h, hb, hk]

@[simp] theorem State.hoistLeave_moves {n} (hb : p .bytes) (hk : p .banks) (h : Moves p s t) : Moves p s (t.hoistLeave n) := by
  simp [State.hoistLeave, h, hb, hk]

@[simp] theorem State.termMet_moves {l term} (hb : p .bytes) (hk : p .banks) (h : Moves p s t) : Moves p s (t.termMet l term) := by
  simp [State.termMet, h, hb, hk]

@[simp] theorem State.deviceJoined_moves {d} (hb : p .bytes) (hk : p .banks) (h : Moves p s t) : Moves p s (t.deviceJoined d) := by
  simp [State.deviceJoined, h, hb, hk]

@[simp] theorem State.membership_moves {l kind a b} (hb : p .bytes) (hk : p .banks) (h : Moves p s t) : Moves p s (t.membership l kind a b) := by
  simp [State.membership, h, hb, hk]

theorem State.linkFrame_moves {l ok f} (hf : ∀ t, Moves p t (f t)) (h : Moves p s t) : Moves p s (t.linkFrame l ok f) := by
  refine Moves.of_ite h (Moves.of_ite (Moves.trans ?_ (hf _)) ?_) <;> simp [h]

@[simp] theorem State.linkFail_moves {l} : Moves p s (t.linkFail l) ↔ Moves p s t := by simp [State.linkFail]
@[simp] theorem State.linkRekey_moves {l} : Moves p s (t.linkRekey l) ↔ Moves p s t := by simp [State.linkRekey]
@[simp] theorem State.feedOff_moves {f} : Moves p s (t.feedOff f) ↔ Moves p s t := by simp [State.feedOff]
@[simp] theorem State.feedArrive_moves {f last v} (hb : p .bytes) (h : Moves p s t) : Moves p s (t.feedArrive f last v) := by simp [State.feedArrive, h, hb]
@[simp] theorem State.slew_moves {ofs every} : Moves p s (t.slew ofs every) ↔ Moves p s t := by simp [State.slew]
@[simp] theorem State.timeUnlock_moves (hb : p .bytes) (h : Moves p s t) : Moves p s (t.timeUnlock) := by simp [State.timeUnlock, h, hb]

/-! Sessions.lean -/

@[simp] theorem State.clientOpens_moves {tr port cl w} (ha : p .answers) (h : Moves p s t) : Moves p s (t.clientOpens tr port cl w) := by
  simp [State.clientOpens, h, ha]

@[simp] theorem State.handshake_moves {ownerSigned inValidity key} (ha : p .answers) (h : Moves p s t) :
    Moves p s (t.handshake ownerSigned inValidity key) := by
  simp [State.handshake, h, ha]

@[simp] theorem State.certTake_moves {n d} (hb : p .bytes) (h : Moves p s t) : Moves p s (t.certTake n d) := by simp [State.certTake, h, hb]

@[simp] theorem State.certIn_moves {n d sigOk cosignOk} (hb : p .bytes) (hk : p .banks) (h : Moves p s t) : Moves p s (t.certIn n d sigOk cosignOk) := by
  simp [State.certIn, h, hb, hk]

@[simp] theorem State.certJtag_moves {d sigOk cosignOk holderOk} (hb : p .bytes) (ha : p .answers) (h : Moves p s t) :
    Moves p s (t.certJtag d sigOk cosignOk holderOk) := by
  simp [State.certJtag, h, hb, ha]

@[simp] theorem State.recoveryPackage_moves {m sigOk innerOk} (hb : p .bytes) (h : Moves p s t) : Moves p s (t.recoveryPackage m sigOk innerOk) := by
  simp [State.recoveryPackage, h, hb]

@[simp] theorem State.recoveryCert_moves {d sigOk cosignOk holderOk} (hb : p .bytes) (ha : p .answers) (h : Moves p s t) :
    Moves p s (t.recoveryCert d sigOk cosignOk holderOk) := by
  simp [State.recoveryCert, h, hb, ha]

end Sys2Proof.Machine
end

section
/-!
PROOFS of O3 to O5, O8 and O9. What the commands move: the commands whose operations stand before the dictionary: each ends, and moves what its operations move.
-/
namespace Sys2Proof.Machine

variable {p : StatePart → Bool} {s t u : State}

/-! Audio.lean -/

theorem execSampleInstant_ends {d ins late} (hb : p .bytes) (hk : p .banks) : Ends p t (execSampleInstant d ins late t) := by simp [execSampleInstant, hb, hk]
theorem execMeterUpdate_ends : Ends p t (execMeterUpdate t) := by simp [execMeterUpdate]
theorem execBackupToneSwitch_ends : Ends p t (execBackupToneSwitch t) := by simp [execBackupToneSwitch]
theorem execAudBridgeLocked_ends {k ratio} (hb : p .bytes) : Ends p t (execAudBridgeLocked k ratio t) := by simp [execAudBridgeLocked, hb]
theorem execAudBridgeUnlocked_ends {k} (hb : p .bytes) : Ends p t (execAudBridgeUnlocked k t) := by simp [execAudBridgeUnlocked, hb]
theorem execAudioPlay_ends {i} (hb : p .bytes) : Ends p t (execAudioPlay i t) := by simp [execAudioPlay, hb]
theorem execAudioCapture_ends {i} (hb : p .bytes) : Ends p t (execAudioCapture i t) := by simp [execAudioCapture, hb]
theorem execAudioStart_ends {i} (hb : p .bytes) : Ends p t (execAudioStart i t) := by simp [execAudioStart, hb, State.audPacket_moves, State.audInstant_moves]

theorem execAudioStop_ends {i} (hb : p .bytes) : Ends p t (execAudioStop i t) := by
  refine Ends.up (State.audPacket_moves hb (fun t q k => State.audInstant_moves hb (fun t => ?_) (Moves.refl ..)) (Moves.refl ..))
  extract_lets s1
  exact Moves.of_ite (by simp [s1, hb]) (Moves.of_ite (by simp [s1]) (by simp [s1]))

theorem execAudioBufferDone_ends {t'} (hb : p .bytes) : Ends p t (execAudioBufferDone t' t) := by unfold execAudioBufferDone; simp; split <;> simp [hb]
theorem execAudTdmClockLost_ends {p'} (hb : p .bytes) : Ends p t (execAudTdmClockLost p' t) := by simp [execAudTdmClockLost, hb]
theorem execTdmClockResume_ends {p'} : Ends p t (execTdmClockResume p' t) := by simp [execTdmClockResume]

/-! Bunting.lean -/

theorem execHeadCommitLine_ends {n trim} (hb : p .bytes) (hk : p .banks) (hg : p .packages) : Ends p t (execHeadCommitLine n trim t) := by
  simp [execHeadCommitLine, hb, hk, hg]

theorem execFlipLayer_ends {i} (hb : p .bytes) : Ends p t (execFlipLayer i t) := by simp [execFlipLayer, hb, State.onPacket_moves]

theorem execFlipCommit_ends {i} (hb : p .bytes) : Ends p t (execFlipCommit i t) := by
  refine Ends.up (State.onPacket_moves hb (fun t q => ?_) (Moves.refl ..))
  extract_lets n w g s1 s2 ep s3 s4
  refine Moves.of_ite (by simp [hb]) (Moves.of_ite (by simp [s1, hb]) ?_)
  split
  · exact State.ringDone_moves hb (by simp [s1, hb])
  · have h3 : Moves p t s3 := State.flipDrop_moves hb (by simp [s2, s1])
    simp [s4, h3, hb]

theorem execFlipCancel_ends {i} (hb : p .bytes) : Ends p t (execFlipCancel i t) := by simp (disch := simp [hb]) [execFlipCancel, State.onPacket_moves]
theorem execAcquireTimeout_ends {w n} (hb : p .bytes) : Ends p t (execAcquireTimeout w n t) := by simp [execAcquireTimeout, hb]
theorem execLastFetchComplete_ends {n l} (hb : p .bytes) : Ends p t (execLastFetchComplete n l t) := by simp [execLastFetchComplete, hb]

/-! Checks.lean -/

theorem execFeedData_ends {n u' v} (hb : p .bytes) : Ends p t (execFeedData n u' v t) := by simp [execFeedData, hb, State.written_moves]

theorem execRunningValueWrite_ends {n u' v} (hb : p .bytes) : Ends p t (execRunningValueWrite n u' v t) := by
  simp [execRunningValueWrite, hb, State.written_moves]

theorem execCrcSettingWrite_ends {n u' sub v} (hb : p .bytes) : Ends p t (execCrcSettingWrite n u' sub v t) := by
  simp [execCrcSettingWrite, hb, State.written_moves]

theorem execCompare_ends {n u'} (hb : p .bytes) : Ends p t (execCompare n u' t) := by simp [execCompare, hb, State.written_moves]
theorem execRestartAtInit_ends {n u'} (hb : p .bytes) : Ends p t (execRestartAtInit n u' t) := by simp [execRestartAtInit, hb, State.written_moves]
theorem execAliveResync_ends {n u'} (hb : p .bytes) : Ends p t (execAliveResync n u' t) := by simp [execAliveResync, hb, State.written_moves]

/-! Fabric.lean -/

theorem execFabricAccess_ends {a} (hb : p .bytes) (ht : p .trackers) : Ends p t (execFabricAccess a t) := by simp [execFabricAccess, hb, ht]

theorem execThrottleExpiry_ends {c bank w r} (hb : p .bytes) (ht : p .trackers) : Ends p t (execThrottleExpiry c bank w r t) := by
  refine Ends.up ?_
  split
  · exact Moves.refl ..
  · extract_lets tell t' s1 s2
    have h1 : Moves p t s1 := Moves.with_throttles ht (Moves.refl ..)
    have h2 : Moves p t s2 := Moves.with_throttles ht (Moves.refl ..)
    exact Moves.of_ite (Moves.refl ..) (Moves.of_ite (Moves.of_ite (by simp [h1, hb]) h1) (by simp [h2, hb]))

theorem execRowIdleClose_ends {c bank} : Ends p t (execRowIdleClose c bank t) := by simp [execRowIdleClose]
theorem execConcentrationCheck_ends {w} (hb : p .bytes) : Ends p t (execConcentrationCheck w t) := by simp [execConcentrationCheck, hb]
theorem execRetrainStart_ends {c temp phy} (hb : p .bytes) : Ends p t (execRetrainStart c temp phy t) := by simp [execRetrainStart, hb]

theorem execRetrainDone_ends {c ok eye temp phy} (hb : p .bytes) : Ends p t (execRetrainDone c ok eye temp phy t) := by
  refine Ends.up ?_
  extract_lets s1 s2 s3
  have h2 : Moves p t s2 := Moves.of_ite (by simp [s1, hb]) (by simp [s1, hb])
  have h3 : Moves p t s3 := by
    simp only [s3]
    split
    · simp [h2, hb]
    · exact h2
  exact Moves.of_ite (Moves.refl ..) (by simp [h3, hb])

theorem execRetrainRetry_ends {c} (hb : p .bytes) : Ends p t (execRetrainRetry c t) := by simp [execRetrainRetry, hb]
theorem execPatrolScrub_ends {errs} (hb : p .bytes) : Ends p t (execPatrolScrub errs t) := by simp (disch := simp [hb]) [execPatrolScrub]

theorem execClassWrite_ends {n r v} (hb : t.overruns n = true → p .bytes) : Ends p t (execClassWrite n r v t) := by
  refine Ends.up (State.request_moves hb (fun t => ?_) (Moves.refl ..))
  extract_lets st
  exact Moves.of_ite (by simp) (Moves.of_ite (by simp) (by simp))

theorem execReserveRateWrite_ends {n sub v} (hb : p .bytes) : Ends p t (execReserveRateWrite n sub v t) := by simp [execReserveRateWrite, hb]

/-! Instances.lean -/

theorem execDoorbell_ends {i r wptr dg} (hb : p .bytes) (hc : p .caches) : Ends p t (execDoorbell i r wptr dg t) := by
  refine Ends.up ?_
  extract_lets st w
  refine Moves.of_ite (Moves.refl ..) (State.arrives_moves (fun t => ?_) (Moves.refl ..))
  extract_lets s1 rs s2 s3 s4 s5
  have h2 : Moves p t s2 := by simp [s2, s1]
  have h3 : Moves p t s3 := Moves.of_ite h2 (by simp [h2])
  have h4 : Moves p t s4 := Moves.of_ite (by simp [h3, hb, hc]) h3
  have h5 : Moves p t s5 := Moves.of_ite (by simp [h4, hb]) h4
  exact Moves.of_ite (by simp [s1, hb]) (Moves.of_ite (by simp [s1]) (Moves.of_ite (by simp [s1, hb]) (Moves.of_ite h2 (by simp [h5, hb]))))

theorem execEqConsDoorbell_ends {i cons dg} (hb : p .bytes) : Ends p t (execEqConsDoorbell i cons dg t) := by simp (disch := simp [hb]) [execEqConsDoorbell]
theorem execEqHoldoffExpiry_ends {i} : Ends p t (execEqHoldoffExpiry i t) := by simp [execEqHoldoffExpiry]

theorem execRingCreate_ends {i m r log2 vector base} (hb : p .bytes) : Ends p t (execRingCreate i m r log2 vector base t) := by
  refine Ends.up (State.mbRequest_moves hb (fun t => ?_) (Moves.refl ..))
  extract_lets s1
  have h1 : Moves p t s1 := by simp [s1]
  simp only [apply_ite Prod.fst]
  refine Moves.of_ite (by simp) (Moves.of_ite (by simp) (Moves.of_ite (by simp) (Moves.of_ite (by simp [h1]) ?_)))
  split <;> simp [h1]

theorem execRingDestroy_ends {i m r} (hb : p .bytes) : Ends p t (execRingDestroy i m r t) := by
  refine Ends.up (State.mbRequest_moves hb (fun t => ?_) (Moves.refl ..))
  simp only [apply_ite Prod.fst]
  exact Moves.of_ite (by simp) (Moves.of_ite (by simp) (by simp))

theorem execEqCreate_ends {i m log2 vector holdoff base} (hb : p .bytes) : Ends p t (execEqCreate i m log2 vector holdoff base t) := by
  refine Ends.up (State.mbRequest_moves hb (fun t => ?_) (Moves.refl ..))
  simp only [apply_ite Prod.fst]
  exact Moves.of_ite (by simp) (Moves.of_ite (by simp) (by simp))

theorem execS1Set_ends {i m cls base} (hb : p .bytes) : Ends p t (execS1Set i m cls base t) := by
  refine Ends.up (State.mbRequest_moves hb (fun t => ?_) (Moves.refl ..))
  extract_lets off v
  simp only [apply_ite Prod.fst]
  exact Moves.of_ite (by simp) (Moves.of_ite (by simp) (Inst.ok_moves.mpr (Moves.of_ite (Moves.foldl (by simp) _ (Moves.refl ..)) (by simp))))

theorem execMbS1Invalidate_ends {i m} (hb : p .bytes) (he : p .exports) : Ends p t (execMbS1Invalidate i m t) := by
  simp [execMbS1Invalidate, hb, he, State.mbRequest_moves]

theorem execMemRequest_ends {i m a n} (hb : p .bytes) : Ends p t (execMemRequest i m a n t) := by
  refine Ends.up (State.mbRequest_moves hb (fun t => ?_) (Moves.refl ..))
  extract_lets w
  simp only [apply_ite Prod.fst]
  refine Moves.of_ite (by simp) (Moves.of_ite (by simp) (Moves.of_ite (by simp) (Moves.of_ite (by simp) ?_)))
  split
  · simp
  · next hm => simp [State.mapMemory_moves hm hb (Moves.refl ..), hb]

theorem execMemRelease_ends {i m a n} (hb : p .bytes) (he : p .exports) : Ends p t (execMemRelease i m a n t) := by
  refine Ends.up (State.mbRequest_moves hb (fun t => ?_) (Moves.refl ..))
  extract_lets w gone x s1
  rw [apply_ite Prod.fst]
  exact Moves.of_ite (by simp) (by simp [s1, x, he])

theorem execSurfaceExport_ends {i m a n target} (hb : p .bytes) (he : p .exports) : Ends p t (execSurfaceExport i m a n target t) := by
  refine Ends.up (State.mbRequest_moves hb (fun t => ?_) (Moves.refl ..))
  extract_lets w num e
  simp only [apply_ite Prod.fst]
  exact Moves.of_ite (by simp) (Moves.of_ite (by simp) (Inst.ok_moves.mpr (State.setReg_moves.mpr (Moves.with_exports he (Moves.refl ..)))))

theorem execSurfaceRevoke_ends {i m num} (hb : p .bytes) (he : p .exports) : Ends p t (execSurfaceRevoke i m num t) := by
  refine Ends.up (State.mbRequest_moves hb (fun t => ?_) (Moves.refl ..))
  split
  · simp
  · split
    · simp
    · simp [he]

theorem execSurfaceImport_ends {i m num a} (hb : p .bytes) (he : p .exports) : Ends p t (execSurfaceImport i m num a t) := by
  refine Ends.up (State.mbRequest_moves hb (fun t => ?_) (Moves.refl ..))
  split
  · simp
  · extract_lets w
    simp only [apply_ite Prod.fst]
    refine Moves.of_ite (by simp) (Moves.of_ite (by simp) (Moves.of_ite (by simp) ?_))
    split
    · simp
    · next hm => exact Inst.ok_moves.mpr (Moves.with_views he (State.mapView_moves hm hb (Moves.refl ..)))

theorem execShaderAdmit_ends {i m addr size reason offset samples stores depth colours} (hb : p .bytes) :
    Ends p t (execShaderAdmit i m addr size reason offset samples stores depth colours t) := by
  refine Ends.up (State.mbRequest_moves hb (fun t => ?_) (Moves.refl ..))
  extract_lets w h' s1
  split
  · exact Moves.refl ..
  · simp only [apply_ite Prod.fst]
    exact Moves.of_ite (by simp) (Moves.of_ite (by simp) (by simp [s1]))

theorem execShaderRelease_ends {i m h'} (hb : p .bytes) : Ends p t (execShaderRelease i m h' t) := by
  refine Ends.up (State.mbRequest_moves hb (fun t => ?_) (Moves.refl ..))
  extract_lets w rec'
  rw [apply_ite Prod.fst]
  exact Moves.of_ite (by simp) (by simp)

theorem execReserve_ends {i m r b a t'} (hb : p .bytes) : Ends p t (execReserve i m r b a t' t) := by
  refine Ends.up (State.mbRequest_moves hb (fun t => ?_) (Moves.refl ..))
  extract_lets g
  simp only [apply_ite Prod.fst]
  exact Moves.of_ite (by simp) (Moves.of_ite (by simp) (Moves.of_ite (by simp) (Moves.of_ite (by simp) (Moves.of_ite (by simp) (by simp [hb])))))

theorem execQuiesceSelf_ends {i m} (hb : p .bytes) : Ends p t (execQuiesceSelf i m t) := by simp [execQuiesceSelf, hb, State.mbRequest_moves]

theorem execInvalidationComplete_ends {w} (hb : p .bytes) (hc : p .caches) (he : p .exports) : Ends p t (execInvalidationComplete w t) := by
  simp [execInvalidationComplete, hb, hc, he]

theorem execRemoteAssociation_ends {cert} (hb : p .bytes) (hk : p .banks) (ha : p .answers) : Ends p t (execRemoteAssociation cert t) := by
  unfold execRemoteAssociation; simp; split <;> simp [hb, hk, ha]

theorem execRemoteMemoryWrite_ends {i seq ack a data} (hb : p .bytes) : Ends p t (execRemoteMemoryWrite i seq ack a data t) := by
  refine Ends.up (State.remoteIn_moves (fun t => ?_) (Moves.refl ..))
  split
  · next hw => exact State.gwrite_moves hw hb (Moves.refl ..)
  · simp [hb]

theorem execRemoteMemoryRead_ends {i seq ack a len} (hb : p .bytes) : Ends p t (execRemoteMemoryRead i seq ack a len t) := by
  refine Ends.up (State.remoteIn_moves (fun t => ?_) (Moves.refl ..))
  split <;> simp [hb]

theorem execRemoteAck_ends {i ack} : Ends p t (execRemoteAck i ack t) := by simp [execRemoteAck]
theorem execRemoteKeepalive_ends {i ack} : Ends p t (execRemoteKeepalive i ack t) := by simp [execRemoteKeepalive]
theorem execRemoteRetransmit_ends {i} : Ends p t (execRemoteRetransmit i t) := by simp [execRemoteRetransmit]
theorem execRemoteKeepaliveSend_ends {i} : Ends p t (execRemoteKeepaliveSend i t) := by simp [execRemoteKeepaliveSend]
theorem execRemoteLinkLost_ends {i} (hb : p .bytes) : Ends p t (execRemoteLinkLost i t) := by simp [execRemoteLinkLost, hb]

theorem execRemoteHoldExpiry_ends {i} (hb : p .bytes) (hk : p .banks) (hc : p .caches) (he : p .exports) : Ends p t (execRemoteHoldExpiry i t) := by
  simp [execRemoteHoldExpiry, hb, hk, hc, he]

theorem execGrantWrite_ends {n i sub v} (hb : p .bytes) : Ends p t (execGrantWrite n i sub v t) := by simp [execGrantWrite, hb]
theorem execResizeCut_ends {i} (hb : p .bytes) : Ends p t (execResizeCut i t) := by simp [execResizeCut, hb]

theorem execInstEnable_ends {n i} (hb : p .bytes) (hk : p .banks) (ha : p .answers) : Ends p t (execInstEnable n i t) := by
  simp [execInstEnable, hb, hk, ha, Inst.op_moves]

theorem execInstQuiesce_ends {n i} (hb : p .bytes) : Ends p t (execInstQuiesce n i t) := by
  refine Ends.up (Inst.op_moves (fun _ => hb) (fun t => ?_) (Moves.refl ..))
  rw [apply_ite Prod.fst]
  exact Moves.of_ite (by simp [hb]) (Moves.refl ..)

theorem execInstResume_ends {n i} (hb : p .bytes) : Ends p t (execInstResume n i t) := by
  refine Ends.up (Inst.op_moves (fun _ => hb) (fun t => ?_) (Moves.refl ..))
  extract_lets s1
  have h1 : Moves p t s1 := by simp [s1, hb]
  split
  · exact Moves.refl ..
  · dsimp only
    exact Moves.foldl (fun t r => Moves.of_ite (Moves.refl ..) (by simp [hb])) _ h1

theorem execInstReset_ends {n i} (hb : p .bytes) (he : p .exports) : Ends p t (execInstReset n i t) := by
  refine Ends.up (Inst.op_moves (fun _ => hb) (fun t => ?_) (Moves.refl ..))
  extract_lets st
  simp only [apply_ite Prod.fst]
  exact Moves.of_ite (Moves.refl ..) (Moves.of_ite (Moves.refl ..) (by simp [hb, he]))

theorem execInstRemove_ends {n i} (hb : p .bytes) (hk : p .banks) (hc : p .caches) (he : p .exports) : Ends p t (execInstRemove n i t) := by
  refine Ends.up (Inst.op_moves (fun _ => hb) (fun t => ?_) (Moves.refl ..))
  extract_lets st
  simp only [apply_ite Prod.fst]
  exact Moves.of_ite (Moves.refl ..) (Moves.of_ite (Moves.refl ..) (by simp [hb, hk, hc, he]))

theorem execQuiesceDone_ends {i} (hb : p .bytes) (hk : p .banks) (hc : p .caches) (he : p .exports) : Ends p t (execQuiesceDone i t) := by
  simp [execQuiesceDone, hb, hk, hc, he]

theorem execQuiesceLimit_ends {i} (hb : p .bytes) (hk : p .banks) (hc : p .caches) (he : p .exports) : Ends p t (execQuiesceLimit i t) := by
  simp [execQuiesceLimit, hb, hk, hc, he]

theorem execVfFlr_ends {i} (hb : p .bytes) (hk : p .banks) (hc : p .caches) (he : p .exports) : Ends p t (execVfFlr i t) := by simp [execVfFlr, hb, hk, hc, he]

theorem execVfLinkLoss_ends {i} (hb : p .bytes) (hk : p .banks) (hc : p .caches) (he : p .exports) : Ends p t (execVfLinkLoss i t) := by
  simp [execVfLinkLoss, hb, hk, hc, he]

theorem execYieldDurationEnd_ends {w k} (hb : p .bytes) : Ends p t (execYieldDurationEnd w k t) := by simp [execYieldDurationEnd, hb]

/-! Planner.lean -/

theorem execPlanBoundary_ends {temp work slack speed} (hb : p .bytes) (hk : p .banks) : Ends p t (execPlanBoundary temp work slack speed t) := by
  simp [execPlanBoundary, hb, hk]

theorem execShedHoldEnd_ends {temp work slack} (hb : p .bytes) : Ends p t (execShedHoldEnd temp work slack t) := by simp [execShedHoldEnd, hb]
theorem execPlanRaise_ends {d slack speed} (hb : p .bytes) : Ends p t (execPlanRaise d slack speed t) := by simp [execPlanRaise, hb]
theorem execPlanWatchdog_ends (hb : p .bytes) (hk : p .banks) : Ends p t (execPlanWatchdog t) := by simp (disch := simp [hb, hk]) [execPlanWatchdog]
theorem execAgeMeasure_ends {slow} (hb : p .bytes) : Ends p t (execAgeMeasure slow t) := by simp (disch := simp [hb]) [execAgeMeasure]
theorem execForecastUpdate_ends (hb : p .bytes) : Ends p t (execForecastUpdate t) := by simp [execForecastUpdate, hb]
theorem execThermalAboveFloor_ends {temp} (hb : p .bytes) : Ends p t (execThermalAboveFloor temp t) := by simp [execThermalAboveFloor, hb]
theorem execBoundaryPortReset_ends {h'} (hb : p .bytes) (hk : p .banks) : Ends p t (execBoundaryPortReset h' t) := by simp [execBoundaryPortReset, hb, hk]
theorem execBoundaryPortResume_ends {h'} : Ends p t (execBoundaryPortResume h' t) := by simp [execBoundaryPortResume]

/-! Programs.lean -/

theorem execMailboxIn_ends {n c v} (hb : t.overruns n = true → p .bytes) : Ends p t (execMailboxIn n c v t) :=
  Ends.up (State.written_moves hb (by simp) (Moves.refl ..))

theorem execProgramStage_ends {n c v} (hb : t.overruns n = true → p .bytes) : Ends p t (execProgramStage n c v t) :=
  Ends.up (State.written_moves hb (by simp) (Moves.refl ..))

theorem execProgramVerify_ends {n c sigOk} (hb : t.overruns n = true → p .bytes) : Ends p t (execProgramVerify n c sigOk t) :=
  Ends.up (State.written_moves hb (by simp) (Moves.refl ..))

theorem execProgramEmpty_ends {n c} (hb : t.overruns n = true → p .bytes) : Ends p t (execProgramEmpty n c t) :=
  Ends.up (State.written_moves hb (by simp) (Moves.refl ..))

theorem execEnsLockstep_ends (hb : p .bytes) (hk : p .banks) : Ends p t (execEnsLockstep t) := by simp [execEnsLockstep, hb, hk]
theorem execEnsPairRestarted_ends (hb : p .bytes) : Ends p t (execEnsPairRestarted t) := by simp [execEnsPairRestarted, hb]

/-! Zenith.lean -/

theorem execOwnerTicket_ends {n sigOk} (hb : p .bytes) (hk : p .banks) : Ends p t (execOwnerTicket n sigOk t) := by
  simp [execOwnerTicket, hb, hk, State.written_moves]

theorem execLifecycleAdvance_ends {n} (hb : p .bytes) : Ends p t (execLifecycleAdvance n t) := by simp [execLifecycleAdvance, hb]

theorem execAttest_ends {n} (hb : t.overruns n = true → p .bytes) : Ends p t (execAttest n t) :=
  Ends.up (State.written_moves hb (by simp) (Moves.refl ..))

/-! Updates.lean -/

theorem execUpdHeader_ends {n v sigOk} (hb : t.overruns n = true → p .bytes) : Ends p t (execUpdHeader n v sigOk t) :=
  Ends.up (State.written_moves hb (by simp) (Moves.refl ..))

theorem execUpdBody_ends {n off last v bad innerOk} (hb : p .bytes) : Ends p t (execUpdBody n off last v bad innerOk t) := by
  simp [execUpdBody, hb, State.gated_moves]

theorem execUpdSchedule_ends {n} (hb : p .bytes) (hk : p .banks) : Ends p t (execUpdSchedule n t) := by simp [execUpdSchedule, hb, hk, State.written_moves]

theorem execUpdCancel_ends {n} (hb : t.overruns n = true → p .bytes) : Ends p t (execUpdCancel n t) :=
  Ends.up (State.written_moves hb (by simp) (Moves.refl ..))

theorem execUpdConfirm_ends {n} (hb : p .bytes) (hk : p .banks) : Ends p t (execUpdConfirm n t) := by simp [execUpdConfirm, hb, hk, State.written_moves]
theorem execUpdReject_ends {n} (hb : p .bytes) (hk : p .banks) : Ends p t (execUpdReject n t) := by simp [execUpdReject, hb, hk, State.written_moves]
theorem execUpdRaiseFloor_ends {n} (hb : p .bytes) : Ends p t (execUpdRaiseFloor n t) := by simp [execUpdRaiseFloor, hb, State.written_moves]

theorem execUpdLoadUsb_ends {n file sigOk bad innerOk} (hb : p .bytes) : Ends p t (execUpdLoadUsb n file sigOk bad innerOk t) := by
  simp [execUpdLoadUsb, hb, State.written_moves]

theorem execUpdActivation_ends (hb : p .bytes) (hk : p .banks) : Ends p t (execUpdActivation t) := by simp [execUpdActivation, hb, hk]
theorem execUpdTrialExpiry_ends (hb : p .bytes) (hk : p .banks) : Ends p t (execUpdTrialExpiry t) := by simp [execUpdTrialExpiry, hb, hk]

/-! Counters.lean -/

theorem execChainMaskWrite_ends {n v} (hb : t.overruns n = true → p .bytes) : Ends p t (execChainMaskWrite n v t) :=
  Ends.up (State.written_moves hb (by simp) (Moves.refl ..))

theorem execOverflowClear_ends {n v} (hb : t.overruns n = true → p .bytes) : Ends p t (execOverflowClear n v t) :=
  Ends.up (State.written_moves hb (by simp) (Moves.refl ..))

theorem execSnapshotTake_ends {n} (hb : t.overruns n = true → p .bytes) : Ends p t (execSnapshotTake n t) :=
  Ends.up (State.written_moves hb (by simp) (Moves.refl ..))

theorem execSnapshotRelease_ends {n} (hb : t.overruns n = true → p .bytes) : Ends p t (execSnapshotRelease n t) :=
  Ends.up (State.written_moves hb (by simp) (Moves.refl ..))

theorem execSamplerArm_ends {n j} (hb : t.overruns n = true → p .bytes) : Ends p t (execSamplerArm n j t) :=
  Ends.up (State.written_moves hb (by simp) (Moves.refl ..))

theorem execSamplerDisarm_ends {n j} (hb : t.overruns n = true → p .bytes) : Ends p t (execSamplerDisarm n j t) :=
  Ends.up (State.written_moves hb (by simp) (Moves.refl ..))

theorem execPmcSample_ends {j v} (hb : p .bytes) : Ends p t (execPmcSample j v t) := by simp [execPmcSample, hb]
theorem execCounterViewRead_ends {i off} : Ends p t (execCounterViewRead i off t) := by simp [execCounterViewRead]

/-! Worlds.lean -/

theorem execHoGrant_ends {n} (hb : p .bytes) (hk : p .banks) : Ends p t (execHoGrant n t) := by simp [execHoGrant, hb, hk, State.written_moves]
theorem execHoRecall_ends {n} (hb : p .bytes) : Ends p t (execHoRecall n t) := by simp [execHoRecall, hb, State.written_moves]
theorem execBlockRelease_ends {i h' dg} (hb : p .bytes) (hk : p .banks) : Ends p t (execBlockRelease i h' dg t) := by simp [execBlockRelease, hb, hk]
theorem execRecallGraceExpiry_ends {h'} (hb : p .bytes) (hk : p .banks) : Ends p t (execRecallGraceExpiry h' t) := by simp [execRecallGraceExpiry, hb, hk]
theorem execDrainComplete_ends {h'} (hb : p .bytes) (hk : p .banks) : Ends p t (execDrainComplete h' t) := by simp [execDrainComplete, hb, hk]

theorem execScrubVerifyDone_ends {h' ok} (hb : p .bytes) (hk : p .banks) (hc : p .caches) (he : p .exports) : Ends p t (execScrubVerifyDone h' ok t) := by
  simp [execScrubVerifyDone, hb, hk, hc, he]

theorem execHpdLowWaitEnd_ends {h'} (hb : p .bytes) (hk : p .banks) : Ends p t (execHpdLowWaitEnd h' t) := by simp [execHpdLowWaitEnd, hb, hk]

theorem execDebugConsent_ends {n w v} (hb : p .bytes) : Ends p t (execDebugConsent n w v t) := by
  simp (disch := simp [hb]) [execDebugConsent, State.written_moves]

/-! Power.lean -/

theorem execVmainFail_ends {vmain vbak} (hb : p .bytes) (hk : p .banks) (hc : p .caches) (ht : p .trackers) (hg : p .packages) (he : p .exports) (hj : p .jobs) (ha : p .answers) :
    Ends p t (execVmainFail vmain vbak t) := by
  simp [execVmainFail, hb, hk, hc, ht, hg, he, hj, ha]

theorem execVmainValid_ends {vmain drift} (hb : p .bytes) (ht : p .trackers) : Ends p t (execVmainValid vmain drift t) := by simp [execVmainValid, hb, ht]

theorem execVmainOver_ends {vmain vbak} (hb : p .bytes) (hk : p .banks) (hc : p .caches) (ht : p .trackers) (hg : p .packages) (he : p .exports) (hj : p .jobs) (ha : p .answers) :
    Ends p t (execVmainOver vmain vbak t) := by
  simp (disch := simp [hb, hk, hc, ht, hg, he, hj, ha]) [execVmainOver]

theorem execVbakFlushTrigger_ends {vbak} (hb : p .bytes) (hk : p .banks) (hc : p .caches) (ht : p .trackers) (hg : p .packages) (he : p .exports) (hj : p .jobs) (ha : p .answers) :
    Ends p t (execVbakFlushTrigger vbak t) := by
  simp [execVbakFlushTrigger, hb, hk, hc, ht, hg, he, hj, ha]

theorem execVbakLow_ends {vbak} (hb : p .bytes) : Ends p t (execVbakLow vbak t) := by simp [execVbakLow, hb]
theorem execVbakAbsent_ends {vbak} (hb : p .bytes) : Ends p t (execVbakAbsent vbak t) := by simp [execVbakAbsent, hb]

theorem execRemoteOff_ends (hb : p .bytes) (hk : p .banks) (hc : p .caches) (ht : p .trackers) (hg : p .packages) (he : p .exports) (hj : p .jobs) (ha : p .answers) :
    Ends p t (execRemoteOff t) := by
  simp [execRemoteOff, hb, hk, hc, ht, hg, he, hj, ha]

theorem execRemoteOffRelease_ends : Ends p t (execRemoteOffRelease t) := by simp [execRemoteOffRelease]

theorem execResetN_ends (hb : p .bytes) (hk : p .banks) (hc : p .caches) (ht : p .trackers) (hg : p .packages) (he : p .exports) (hj : p .jobs) (ha : p .answers) :
    Ends p t (execResetN t) := by
  simp [execResetN, hb, hk, hc, ht, hg, he, hj, ha]

theorem execResetNRelease_ends : Ends p t (execResetNRelease t) := by simp [execResetNRelease]
theorem execThermalHigh_ends {temp} (hb : p .bytes) : Ends p t (execThermalHigh temp t) := by simp [execThermalHigh, hb]
theorem execThermalTrip_ends {temp} (hb : p .bytes) (hk : p .banks) : Ends p t (execThermalTrip temp t) := by simp [execThermalTrip, hb, hk]

theorem execThermalShutdown_ends {temp} (hb : p .bytes) (hk : p .banks) (hc : p .caches) (ht : p .trackers) (hg : p .packages) (he : p .exports) (hj : p .jobs) (ha : p .answers) :
    Ends p t (execThermalShutdown temp t) := by
  simp [execThermalShutdown, hb, hk, hc, ht, hg, he, hj, ha]

theorem execThermalRecover_ends {drift} (hb : p .bytes) (ht : p .trackers) : Ends p t (execThermalRecover drift t) := by simp [execThermalRecover, hb, ht]

theorem execFlushComplete_ends : Ends p t (execFlushComplete t) := by
  refine Ends.next ?_
  extract_lets warm s1 s2 s3
  have h3 : Moves p t s3 := Moves.with_journal.mpr (by simp [s2, s1])
  exact Moves.of_ite (Moves.refl ..) (by simp [h3])

theorem execReturnComplete_ends (hb : p .bytes) (hk : p .banks) (hc : p .caches) (he : p .exports) (ha : p .answers) : Ends p t (execReturnComplete t) := by
  simp [execReturnComplete, hb, hk, hc, he, ha]

theorem execBootHandover_ends {otpOk puf imageA imageB lost corrupt} (hb : p .bytes) (hk : p .banks) (hc : p .caches) (ht : p .trackers) (hg : p .packages)
    (he : p .exports) (hj : p .jobs) (ha : p .answers) (hn : p .time) : Ends p t (execBootHandover otpOk puf imageA imageB lost corrupt t) := by
  refine Ends.next ?_
  extract_lets b ok
  have hr : Moves p t t.enterRecovery := by simp [hb, hk, hc, ht, hg, he, hj, ha]
  have hh {u} (hu : Moves p t u) : Moves p t (u.handover puf lost corrupt) := State.handover_moves hb hk hc ht hg he hj ha hn hu
  refine Moves.of_ite (Moves.refl ..) (Moves.of_ite (State.raise_moves hb hr) (Moves.of_ite (hh (Moves.refl ..)) (Moves.of_ite (hh ?_) hr)))
  split
  · next hx => exact State.itemSwitch_moves.mpr (Moves.of_fst hx (State.startFailed_moves hb hk (Moves.refl ..)))
  · next hx => exact Moves.of_fst hx (State.startFailed_moves hb hk (Moves.refl ..))

theorem execStartUpComplete_ends {silent untrained} (hb : p .bytes) (hk : p .banks) (hc : p .caches) (he : p .exports) (ha : p .answers) :
    Ends p t (execStartUpComplete silent untrained t) := by
  simp [execStartUpComplete, hb, hk, hc, he, ha]

theorem execHalyardWatchdog_ends (hb : p .bytes) (hk : p .banks) : Ends p t (execHalyardWatchdog t) := by simp [execHalyardWatchdog, hb, hk]

theorem execHalyardRestartDone_ends {ok} (hb : p .bytes) (hk : p .banks) (hc : p .caches) (ht : p .trackers) (hg : p .packages) (he : p .exports) (hj : p .jobs) (ha : p .answers) :
    Ends p t (execHalyardRestartDone ok t) := by
  simp [execHalyardRestartDone, hb, hk, hc, ht, hg, he, hj, ha]

theorem execHoldupConfigWrite_ends {n sub v} (hb : t.overruns n = true → p .bytes) : Ends p t (execHoldupConfigWrite n sub v t) :=
  Ends.next (Moves.of_ite (Moves.refl ..) (State.written_moves hb (by simp) (Moves.refl ..)))

theorem execBoundaryScanOpen_ends {n} (hb : p .bytes) (hk : p .banks) (hc : p .caches) (ht : p .trackers) (hg : p .packages) (he : p .exports) (hj : p .jobs) (ha : p .answers) :
    Ends p t (execBoundaryScanOpen n t) := by
  simp [execBoundaryScanOpen, hb, hk, hc, ht, hg, he, hj, ha]

/-! Connectors.lean -/

theorem execEthInterfaceWrite_ends {n p' v} (hb : t.overruns n = true → p .bytes) : Ends p t (execEthInterfaceWrite n p' v t) :=
  Ends.up (State.written_moves hb (by simp) (Moves.refl ..))

theorem execPcieLinkTraining_ends {p' up gen width} : Ends p t (execPcieLinkTraining p' up gen width t) := by simp [execPcieLinkTraining]

theorem execRemoteOffInputWrite_ends {n v} (hb : t.overruns n = true → p .bytes) : Ends p t (execRemoteOffInputWrite n v t) :=
  Ends.up (State.written_moves hb (by simp) (Moves.refl ..))

theorem execLightSensorRead_ends {k ok word} : Ends p t (execLightSensorRead k ok word t) := by simp [execLightSensorRead]
theorem execEthLinkChange_ends {p' up mbps} : Ends p t (execEthLinkChange p' up mbps t) := by simp [execEthLinkChange]

/-! Crypto.lean -/

theorem execSha256_ends {n} (hb : p .bytes) (hj : p .jobs) : Ends p t (execSha256 n t) := by simp [execSha256, hb, hj, cryptoOp_moves]
theorem execSha384_ends {n} (hb : p .bytes) (hj : p .jobs) : Ends p t (execSha384 n t) := by simp [execSha384, hb, hj, cryptoOp_moves]
theorem execSha512_ends {n} (hb : p .bytes) (hj : p .jobs) : Ends p t (execSha512 n t) := by simp [execSha512, hb, hj, cryptoOp_moves]
theorem execAesGcmEncrypt_ends {n} (hb : p .bytes) (hj : p .jobs) : Ends p t (execAesGcmEncrypt n t) := by simp [execAesGcmEncrypt, hb, hj, cryptoOp_moves]
theorem execAesGcmDecrypt_ends {n} (hb : p .bytes) (hj : p .jobs) : Ends p t (execAesGcmDecrypt n t) := by simp [execAesGcmDecrypt, hb, hj, cryptoOp_moves]
theorem execCmacGenerate_ends {n} (hb : p .bytes) (hj : p .jobs) : Ends p t (execCmacGenerate n t) := by simp [execCmacGenerate, hb, hj, cryptoOp_moves]
theorem execCmacVerify_ends {n} (hb : p .bytes) (hj : p .jobs) : Ends p t (execCmacVerify n t) := by simp [execCmacVerify, hb, hj, cryptoOp_moves]
theorem execXtsEncrypt_ends {n} (hb : p .bytes) (hj : p .jobs) : Ends p t (execXtsEncrypt n t) := by simp [execXtsEncrypt, hb, hj, cryptoOp_moves]
theorem execXtsDecrypt_ends {n} (hb : p .bytes) (hj : p .jobs) : Ends p t (execXtsDecrypt n t) := by simp [execXtsDecrypt, hb, hj, cryptoOp_moves]
theorem execEcdsaSign_ends {n} (hb : p .bytes) (hj : p .jobs) : Ends p t (execEcdsaSign n t) := by simp [execEcdsaSign, hb, hj, cryptoOp_moves]
theorem execEcdsaVerify_ends {n} (hb : p .bytes) (hj : p .jobs) : Ends p t (execEcdsaVerify n t) := by simp [execEcdsaVerify, hb, hj, cryptoOp_moves]
theorem execEcdh_ends {n} (hb : p .bytes) (hj : p .jobs) : Ends p t (execEcdh n t) := by simp [execEcdh, hb, hj, cryptoOp_moves]
theorem execKeyGeneration_ends {n} (hb : p .bytes) (hj : p .jobs) : Ends p t (execKeyGeneration n t) := by simp [execKeyGeneration, hb, hj, cryptoOp_moves]
theorem execEd25519Verify_ends {n} (hb : p .bytes) (hj : p .jobs) : Ends p t (execEd25519Verify n t) := by simp [execEd25519Verify, hb, hj, cryptoOp_moves]
theorem execRandomBytes_ends {n} (hb : p .bytes) (hj : p .jobs) : Ends p t (execRandomBytes n t) := by simp [execRandomBytes, hb, hj, cryptoOp_moves]
theorem execCryptoJobDone_ends {n} (hb : p .bytes) (hj : p .jobs) : Ends p t (execCryptoJobDone n t) := by simp [execCryptoJobDone, hb, hj]
theorem execCryptoRngFail_ends (hb : p .bytes) : Ends p t (execCryptoRngFail t) := by simp [execCryptoRngFail, hb]
theorem execRngStartupTestPass_ends : Ends p t (execRngStartupTestPass t) := by simp [execRngStartupTestPass]
theorem execKeyopGenerate_ends {n w} (hb : p .bytes) : Ends p t (execKeyopGenerate n w t) := by simp [execKeyopGenerate, hb, keyOperation_moves]
theorem execKeyopImportPlain_ends {n w} (hb : p .bytes) : Ends p t (execKeyopImportPlain n w t) := by simp [execKeyopImportPlain, hb, keyOperation_moves]
theorem execKeyopImportWrapped_ends {n w} (hb : p .bytes) : Ends p t (execKeyopImportWrapped n w t) := by simp [execKeyopImportWrapped, hb, keyOperation_moves]
theorem execKeyopErase_ends {n} (hb : p .bytes) : Ends p t (execKeyopErase n t) := by simp [execKeyopErase, hb, keyOperation_moves]

/-! Ensign.lean -/

theorem execEnsignPeriod_ends (hb : p .bytes) (hk : p .banks) : Ends p t (execEnsignPeriod t) := by
  refine Ends.up (Moves.of_ite (Moves.refl ..) ?_)
  extract_lets s1
  have h1 : Moves p t s1 := by simp [s1, hb, hk]
  split
  · exact h1
  · extract_lets s2
    have h2 : Moves p t s2 := Moves.foldl (by simp [hb]) _ (by simp [h1])
    exact Ens.settle_moves.mpr (Moves.foldl (by simp [hb]) _ h2)

theorem execEnsignAcknowledge_ends {src plays} (hb : p .bytes) (hk : p .banks) : Ends p t (execEnsignAcknowledge src plays t) := by
  refine Ends.up ?_
  split
  · exact Moves.refl ..
  split
  · exact Moves.refl ..
  · refine Moves.of_ite (Moves.refl ..) ?_
    extract_lets s1 nk
    have h1 : Moves p t s1 := by simp [s1, hb, hk]
    split
    · exact h1
    · extract_lets s2
      have h2 : Moves p t s2 := by simp [s2, h1, hb]
      exact Ens.settle_moves.mpr (Moves.of_ite (by simp [h2]) h2)

theorem execFlashHalfCycle_ends : Ends p t (execFlashHalfCycle t) := by simp [execFlashHalfCycle]
theorem execLampTestInputChange_ends {o on} : Ends p t (execLampTestInputChange o on t) := by simp [execLampTestInputChange]
theorem execEnsignFill_ends {n k x' y w h' idx} (hb : p .bytes) : Ends p t (execEnsignFill n k x' y w h' idx t) := by simp [execEnsignFill, hb]

theorem execEnsignBlit_ends {n k x' y w h' src stride remap} (hb : p .bytes) : Ends p t (execEnsignBlit n k x' y w h' src stride remap t) := by
  simp [execEnsignBlit, hb]

theorem execEnsignGlyph_ends {n k x' y w h' off fg bg} (hb : p .bytes) : Ends p t (execEnsignGlyph n k x' y w h' off fg bg t) := by simp [execEnsignGlyph, hb]
theorem execEnsignSign_ends {n k} : Ends p t (execEnsignSign n k t) := by simp [execEnsignSign]

theorem execPackageVerify_ends {n pkg} (hb : t.overruns n = true → p .bytes) (hg : p .packages) : Ends p t (execPackageVerify n pkg t) := by
  refine Ends.up (State.gated_moves hb (fun t => ?_) (Moves.refl ..))
  refine Moves.of_ite (by simp) (Moves.of_ite (by simp) ?_)
  split <;> exact Ens.opDone_moves.mpr (State.setReg_moves.mpr (Moves.with_stagedPkg hg (Moves.refl ..)))

theorem execPackageActivate_ends {n} (hb : p .bytes) (hg : p .packages) : Ends p t (execPackageActivate n t) := by
  refine Ends.up (State.gated_moves (fun _ => hb) (fun t => ?_) (Moves.refl ..))
  refine Moves.of_ite (by simp) ?_
  split
  · simp
  · exact Moves.of_ite (by simp) (Moves.of_ite (by simp) (by simp [hb, hg]))

theorem execPackageDiscard_ends {n} (hb : t.overruns n = true → p .bytes) (hg : p .packages) : Ends p t (execPackageDiscard n t) := by
  refine Ends.up (State.gated_moves hb (fun t => ?_) (Moves.refl ..))
  exact Moves.of_ite (by simp) (Ens.opDone_moves.mpr (State.setReg_moves.mpr (Moves.with_stagedPkg hg (Moves.refl ..))))

theorem execSignatureSample_ends {n k seen sent} (hb : p .bytes) : Ends p t (execSignatureSample n k seen sent t) := by
  unfold execSignatureSample; simp [hb]; split <;> simp [hb]

theorem execFreezeWindowExpiry_ends {n k} (hb : p .bytes) (hk : p .banks) : Ends p t (execFreezeWindowExpiry n k t) := by simp [execFreezeWindowExpiry, hb, hk]

/-! Export.lean -/

theorem execUnitReset_ends {h' copyOk v} (hb : p .bytes) (hk : p .banks) : Ends p t (execUnitReset h' copyOk v t) := by simp [execUnitReset, hb, hk]
theorem execJournalDrain_ends {k} : Ends p t (execJournalDrain k t) := Ends.next (by simp)

theorem execExportBuild_ends {n} (hb : t.overruns n = true → p .bytes) : Ends p t (execExportBuild n t) :=
  Ends.up (State.written_moves hb (by simp) (Moves.refl ..))

/-! Haptics.lean -/

theorem execHapticPlay_ends {i} (hb : p .bytes) (hk : p .banks) : Ends p t (execHapticPlay i t) := by simp [execHapticPlay, hb, hk, Hap.ringOp_moves]
theorem execHapticStop_ends {i} (hb : p .bytes) (hk : p .banks) : Ends p t (execHapticStop i t) := by simp [execHapticStop, hb, hk, Hap.ringOp_moves]
theorem execPlayEffect_ends {n g c d} (hb : p .bytes) (hk : p .banks) : Ends p t (execPlayEffect n g c d t) := by simp [execPlayEffect, hb, hk]

theorem execLoadMeasure_ends {g answers meas} (hb : p .bytes) (hk : p .banks) : Ends p t (execLoadMeasure g answers meas t) := by
  refine Ends.up (Moves.of_ite (Moves.refl ..) (Moves.of_ite ?_ ?_))
  · split
    next hx =>
      have hs := Moves.of_fst hx (State.startFailed_moves hb hk (Moves.refl p t))
      exact Moves.of_ite (by simp [hs]) (Moves.foldl (by simp [hb, hk]) _ (Moves.of_ite hs (by simp [hs, hb, hk])))
  · extract_lets s1 s2
    have h1 : Moves p t s1 := Moves.of_ite (by simp) (Moves.refl ..)
    have h2 : Moves p t s2 := Moves.foldl (fun t m => Moves.of_ite (Moves.refl ..) (Moves.of_ite (by simp [hb, hk]) (by simp))) _ h1
    exact Moves.of_ite h2 (by simp [h2, hb])

theorem execHapticLoopPeriod_ends {g c a mw} (hb : p .bytes) : Ends p t (execHapticLoopPeriod g c a mw t) := by
  refine Ends.up (Moves.of_ite (Moves.refl ..) ?_)
  extract_lets s1 t' l done
  have h1 : Moves p t s1 := by simp [s1, hb]
  refine Moves.of_ite h1 ?_
  split
  · simp [h1]
  · split <;> simp [h1]

theorem execSenseCheck_ends {g c a} (hb : p .bytes) : Ends p t (execSenseCheck g c a t) := by simp [execSenseCheck, hb]
theorem execEffectEnd_ends {g c} (hb : p .bytes) (hk : p .banks) : Ends p t (execEffectEnd g c t) := by simp [execEffectEnd, hb, hk]
theorem execOvercurrent_ends {g c} (hb : p .bytes) (hk : p .banks) : Ends p t (execOvercurrent g c t) := by simp [execOvercurrent, hb, hk]
theorem execDriverHot_ends {g temp} (hb : p .bytes) (hk : p .banks) : Ends p t (execDriverHot g temp t) := by simp [execDriverHot, hb, hk]
theorem execDriverCooled_ends {g temp} : Ends p t (execDriverCooled g temp t) := by simp [execDriverCooled]
theorem execHvFault_ends {g} (hb : p .bytes) (hk : p .banks) : Ends p t (execHvFault g t) := by simp [execHvFault, hb, hk]
theorem execHvRetry_ends {g ok} : Ends p t (execHvRetry g ok t) := by simp [execHvRetry]

/-! Hoist.lean -/

theorem execHoistJoin_ends {n held} (hb : p .bytes) (hk : p .banks) : Ends p t (execHoistJoin n held t) := by simp [execHoistJoin, hb, hk, State.written_moves]
theorem execHoistLeave_ends {n} (hb : p .bytes) (hk : p .banks) : Ends p t (execHoistLeave n t) := by simp [execHoistLeave, hb, hk, State.written_moves]

theorem execHoistLinkUp_ends {l trained authOk peer serial hid sameOwner hops mgr held} (hb : p .bytes) (hk : p .banks) :
    Ends p t (execHoistLinkUp l trained authOk peer serial hid sameOwner hops mgr held t) := by
  simp [execHoistLinkUp, hb, hk]

theorem execHoistLinkRetry_ends {l} : Ends p t (execHoistLinkRetry l t) := by simp [execHoistLinkRetry]
theorem execLinkRekey_ends {l} : Ends p t (execLinkRekey l t) := by simp [execLinkRekey]

theorem execHoistFeedData_ends {l ok dst f last v} (hb : p .bytes) : Ends p t (execHoistFeedData l ok dst f last v t) := by
  simp [execHoistFeedData, hb, State.linkFrame_moves]

theorem execTimeExchange_ends {t1 t2 t3 t4} (hb : p .bytes) (hk : p .banks) (hn : p .time) : Ends p t (execTimeExchange t1 t2 t3 t4 t) := by
  refine Ends.up ?_
  extract_lets ofs rtt s1 src s2 good s3
  have h1 : Moves p t s1 := by simp [s1]
  have h2 : Moves p t s2 := Moves.with_now hn (by simp [src, h1, hb, hk])
  have h3 : Moves p t s3 := by simp [s3, h1]
  exact Moves.of_ite (Moves.refl ..) (Moves.of_ite (by simp [h2, hb]) (Moves.of_ite (by simp [h3]) h3))

theorem execTimeLockTimeout_ends (hb : p .bytes) : Ends p t (execTimeLockTimeout t) := by simp [execTimeLockTimeout, hb]

theorem execHoistHeartbeat_ends {l ok src fromMgr hops mgr term} (hb : p .bytes) (hk : p .banks) :
    Ends p t (execHoistHeartbeat l ok src fromMgr hops mgr term t) := by
  simp (disch := simp [hb, hk]) [execHoistHeartbeat, State.linkFrame_moves]

theorem execContactForward_ends {l ok dst u' w v} (hb : p .bytes) : Ends p t (execContactForward l ok dst u' w v t) := by
  simp [execContactForward, hb, State.linkFrame_moves]

theorem execMembership_ends {l ok kind a b} (hb : p .bytes) (hk : p .banks) : Ends p t (execMembership l ok kind a b t) := by
  simp [execMembership, hb, hk, State.linkFrame_moves]

theorem execPtpMessage_ends {p' domain transport selected offset} (hb : p .bytes) : Ends p t (execPtpMessage p' domain transport selected offset t) := by
  simp [execPtpMessage, hb]

theorem execHoistPtpLost_ends (hb : p .bytes) : Ends p t (execHoistPtpLost t) := by simp [execHoistPtpLost, hb]
theorem execHoistLinkDown_ends {l} (hb : p .bytes) : Ends p t (execHoistLinkDown l t) := by simp [execHoistLinkDown, hb]
theorem execHoistDeviceLost_ends {d} (hb : p .bytes) (hk : p .banks) : Ends p t (execHoistDeviceLost d t) := by simp [execHoistDeviceLost, hb, hk]

theorem execHoistTakeover_ends {reach} (hb : p .bytes) (hk : p .banks) : Ends p t (execHoistTakeover reach t) := by
  refine Ends.up ?_
  extract_lets ms r old s1 s2 s3
  have h2 : Moves p t s2 := by simp [s2, s1, hb, hk]
  have h3 : Moves p t s3 := Moves.foldl (fun t d => Moves.of_ite (Moves.refl ..) (Moves.of_ite (by simp [hb, hk]) (by simp [hb, hk]))) _ h2
  exact Moves.of_ite (Moves.refl ..) (Moves.of_ite (Moves.of_ite (Moves.refl ..) (by simp [hb])) (by simp [h3, hb, hk]))

theorem execFeedEnable_ends {n f src pathFits} (hb : t.overruns n = true → p .bytes) : Ends p t (execFeedEnable n f src pathFits t) := by
  refine Ends.up (State.written_moves hb (fun t => ?_) (Moves.refl ..))
  extract_lets st d s1
  exact Moves.of_ite (by simp) (by simp [s1])

theorem execFeedDisable_ends {n f} (hb : t.overruns n = true → p .bytes) : Ends p t (execFeedDisable n f t) :=
  Ends.up (State.written_moves hb (fun t => Moves.of_ite (by simp) (by simp)) (Moves.refl ..))

theorem execFeedPoll_ends {e' d f} (hb : p .bytes) : Ends p t (execFeedPoll e' d f t) := by
  refine Ends.up (Moves.of_ite (Moves.refl ..) ?_)
  split
  · simp
  · split
    · simp [hb]
    · exact Moves.of_ite (Moves.refl ..) (by simp)

theorem execFeedCopyDone_ends {e' d f k} (hb : p .bytes) : Ends p t (execFeedCopyDone e' d f k t) := by
  refine Ends.up ?_
  extract_lets c s1
  have h1 : Moves p t s1 := by simp [s1]
  refine Moves.of_ite (Moves.refl ..) ?_
  split
  · simp [h1]
  split
  · simp [h1, hb]
  · extract_lets s2
    have h2 : Moves p t s2 := Moves.foldl (by simp) _ h1
    split
    · simp [h2, hb]
    · next hw => simp [State.gwrite_moves hw hb h2]

theorem execHoistFeedLost_ends {f} (hb : p .bytes) : Ends p t (execHoistFeedLost f t) := by simp [execHoistFeedLost, hb]

/-! Sessions.lean -/

theorem execSessionOpen_ends {tr port cl w} (ha : p .answers) : Ends p t (execSessionOpen tr port cl w t) := by simp [execSessionOpen, ha]
theorem execSessionClose_ends {n} (hb : p .bytes) (hk : p .banks) : Ends p t (execSessionClose n t) := by simp [execSessionClose, hb, hk]
theorem execUdpSessionTimeout_ends {n} (hb : p .bytes) (hk : p .banks) : Ends p t (execUdpSessionTimeout n t) := by simp [execUdpSessionTimeout, hb, hk]

theorem execDtlsHandshake_ends {params verifies ownerSigned inValidity key} (ha : p .answers) :
    Ends p t (execDtlsHandshake params verifies ownerSigned inValidity key t) := by
  simp [execDtlsHandshake, ha]

theorem execDebugCertIn_ends {n v sigOk cosignOk} (hb : p .bytes) (hk : p .banks) : Ends p t (execDebugCertIn n v sigOk cosignOk t) := by
  simp [execDebugCertIn, hb, hk]

theorem execPendingSessionTimeout_ends {n} (hb : p .bytes) (hk : p .banks) : Ends p t (execPendingSessionTimeout n t) := by
  simp [execPendingSessionTimeout, hb, hk]

theorem execJtagDebugOpen_ends {v sigOk cosignOk holderOk} (hb : p .bytes) (ha : p .answers) :
    Ends p t (execJtagDebugOpen v sigOk cosignOk holderOk t) := by
  simp [execJtagDebugOpen, hb, ha]

theorem execDebugCertExpiry_ends {n} (hb : p .bytes) (hk : p .banks) : Ends p t (execDebugCertExpiry n t) := by simp [execDebugCertExpiry, hb, hk]

theorem execRecoveryRequest_ends {cert v sigOk cosignOk holderOk innerOk} (hb : p .bytes) (ha : p .answers) :
    Ends p t (execRecoveryRequest cert v sigOk cosignOk holderOk innerOk t) := by
  simp [execRecoveryRequest, hb, ha]

end Sys2Proof.Machine
end

section
/-!
PROOFS of O3 to O5, O8 and O9. What the operations move: the object dictionary, the field bus, the heads, the renderer and touch.
-/
namespace Sys2Proof.Machine

variable {p : StatePart → Bool} {s t u : State}

/-! Dictionary.lean -/

@[simp] theorem Dict.pushConfig_moves {p' t' sub v} : Moves p s (Dict.pushConfig t p' t' sub v) ↔ Moves p s t := by simp [Dict.pushConfig]

theorem Dict.taken_moves {n key o} {x} (e : Dict.taken t n key o = some x) (h : Moves p s t) : Moves p s x.1 := by
  grind [Dict.taken, Can.takeRx_moves, Can.takeHid_moves, Can.takeOwner_moves, State.counterSync_moves, State.tick_moves]

@[simp] theorem Dict.read_moves {n key shadow} (h : Moves p s t) : Moves p s (Dict.read t n key shadow).1 := by
  unfold Dict.read
  extract_lets idx st
  split
  · exact h
  split
  · exact h
  split
  · exact h
  split
  · exact h
  split
  · exact h
  split
  · exact h
  split
  · exact h
  split
  · exact h
  split
  · next hx => exact Dict.taken_moves hx h
  · exact h

/-- A command on the state that has drawn a free value. -/
theorem Ends.of_tick {o} (e : Ends p t.tick o) : Ends p t o := by
  obtain ⟨u, rfl, hu⟩ := e
  exact ⟨u, rfl, Moves.trans (State.tick_moves.mpr (Moves.refl ..)) hu⟩

theorem Dict.after_moves {o} (e : Ends p t o) (h : Moves p s t) : Moves p s (Dict.after t o) := by
  obtain ⟨u, rfl, hu⟩ := e
  exact h.trans hu

@[simp] theorem Dict.free_moves {f} (hf : ∀ b t, Moves p t (f b t)) (h : Moves p s t) : Moves p s (Dict.free t f) := Moves.trans (State.tick_moves.mpr h) (hf _ _)

@[simp] theorem Dict.updOp_moves {n x'} (hb : p .bytes) (hk : p .banks) (h : Moves p s t) : Moves p s (Dict.updOp t n x') := by
  unfold Dict.updOp
  extract_lets file
  exact Moves.of_ite (Dict.after_moves (execUpdSchedule_ends hb hk) h) (Moves.of_ite (Dict.after_moves (execUpdCancel_ends fun _ => hb) h)
    (Moves.of_ite (Dict.after_moves (execUpdConfirm_ends hb hk) h) (Moves.of_ite (Dict.after_moves (execUpdReject_ends hb hk) h)
    (Moves.of_ite (Dict.after_moves (execUpdRaiseFloor_ends hb) h) (Dict.after_moves ((execUpdLoadUsb_ends hb).of_tick) h)))))

@[simp] theorem Dict.instOp_moves {n i x'} (hb : p .bytes) (hk : p .banks) (hc : p .caches) (he : p .exports) (ha : p .answers) (h : Moves p s t) :
    Moves p s (Dict.instOp t n i x') := by
  unfold Dict.instOp
  exact Moves.of_ite (Dict.after_moves (execInstEnable_ends hb hk ha) h) (Moves.of_ite (Dict.after_moves (execInstQuiesce_ends hb) h)
    (Moves.of_ite (Dict.after_moves (execInstResume_ends hb) h) (Moves.of_ite (Dict.after_moves (execInstReset_ends hb he) h)
    (Dict.after_moves (execInstRemove_ends hb hk hc he) h))))

@[simp] theorem Dict.packageOp_moves {n x'} (hb : p .bytes) (hg : p .packages) (h : Moves p s t) : Moves p s (Dict.packageOp t n x') := by
  unfold Dict.packageOp
  exact Moves.of_ite (Dict.after_moves (execPackageVerify_ends (fun _ => hb) hg) h) (Moves.of_ite (Dict.after_moves (execPackageActivate_ends hb hg) h)
    (Dict.after_moves (execPackageDiscard_ends (fun _ => hb) hg) h))

@[simp] theorem Dict.feedOp_moves {n f x'} (hb : p .bytes) (h : Moves p s t) : Moves p s (Dict.feedOp t n f x') := by
  unfold Dict.feedOp
  exact Moves.of_ite (Dict.after_moves (execFeedEnable_ends fun _ => hb).of_tick h) (Dict.after_moves (execFeedDisable_ends fun _ => hb) h)

@[simp] theorem Dict.instObject_moves {i sub v} : Moves p s (Dict.instObject t i sub v) ↔ Moves p s t := by simp [Dict.instObject]
@[simp] theorem Dict.fabricObject_moves {c sub v} : Moves p s (Dict.fabricObject t c sub v) ↔ Moves p s t := by simp [Dict.fabricObject]
@[simp] theorem Dict.hoistObject_moves {key v} : Moves p s (Dict.hoistObject t key v) ↔ Moves p s t := by simp [Dict.hoistObject]
@[simp] theorem Dict.targetWrite_moves {n key v} : Moves p s (Dict.targetWrite t n key v) ↔ Moves p s t := by simp [Dict.targetWrite]
@[simp] theorem Dict.pushWrite_moves {n v} : Moves p s (Dict.pushWrite t n v) ↔ Moves p s t := by simp [Dict.pushWrite]
@[simp] theorem Dict.fieldMaskWrite_moves {v} : Moves p s (Dict.fieldMaskWrite t v) ↔ Moves p s t := by simp [Dict.fieldMaskWrite]

@[simp] theorem Dict.commitWrite_moves {n x'} (hb : p .bytes) (hk : p .banks) (h : Moves p s t) : Moves p s (Dict.commitWrite t n x') := by
  simp [Dict.commitWrite, h, hb, hk]

@[simp] theorem Dict.queryWrite_moves {n d} : Moves p s (Dict.queryWrite t n d) ↔ Moves p s t := by
  unfold Dict.queryWrite
  extract_lets p' s1
  split
  · simp [s1]
  · split <;> simp [s1]

/-- A partial change moves no part outside `p` where it comes about. -/
def MovesIn (p : StatePart → Bool) (s : State) (o : Option State) : Prop := ∀ u, o = some u → Moves p s u

@[simp] theorem MovesIn.some_iff : MovesIn p s (some t) ↔ Moves p s t := ⟨fun h => h t rfl, fun h _ e => Moves.of_some e h⟩
@[simp] theorem MovesIn.none : MovesIn p s none := fun _ e => by cases e

theorem MovesIn.ite {c : Prop} [Decidable c] {a b : Option State} (ha : MovesIn p s a) (hb : MovesIn p s b) : MovesIn p s (if c then a else b) := by
  split <;> assumption

theorem MovesIn.or {a b : Option State} (ha : MovesIn p s a) (hb : MovesIn p s b) : MovesIn p s (a.or b) := by
  cases a with
  | none => exact hb
  | some t => exact ha

theorem Dict.special1_moves {n key d} (hb : p .bytes) (hk : p .banks) (hc : p .caches) (hg : p .packages) (he : p .exports) (ha : p .answers) (h : Moves p s t) :
    MovesIn p s (Dict.special1 t n key d) := by
  unfold Dict.special1
  extract_lets idx sub v i
  have hafter {o} (e : Ends p t o) : MovesIn p s (some (Dict.after t o)) := MovesIn.some_iff.mpr (Dict.after_moves e h)
  refine .ite (by simp [h]) (.ite (by simp [h, hb, hk]) (.ite (by simp [h]) (.ite (by simp [h]) (.ite (by simp [h, hb, hk]) (.ite (hafter (execDebugConsent_ends hb))
    (.ite (.ite (by simp [h]) (.ite (hafter (execGrantWrite_ends hb)) (.ite (by simp [h, hb, hk, hc, he, ha]) .none)))
    (.ite (hafter (execReserveRateWrite_ends hb)) (.ite (by simp [h]) (.ite (hafter (execClassWrite_ends fun _ => hb)) (.ite (by simp [h, hb, hg])
    (.ite (by simp [h]) (.ite (by simp [h]) .none))))))))))))

theorem Dict.special2_moves {key d} (hb : p .bytes) (h : Moves p s t) : MovesIn p s (Dict.special2 t key d) := by
  unfold Dict.special2
  extract_lets idx sub v p' o h' o'
  exact .ite (.ite (by simp [h]) (.ite (by simp [h]) (.ite (by simp [h]) (.ite (by simp [h]) (.ite (by simp [h]) (.ite (by simp [h, hb]) (.ite (by simp [h]) .none)))))))
    (.ite (.ite (by simp [h]) (.ite (by simp [h]) (by simp [h]))) .none)

theorem Dict.special3_moves {n key d} (hb : p .bytes) (hk : p .banks) (hj : p .jobs) (h : Moves p s t) : MovesIn p s (Dict.special3 t n key d) := by
  unfold Dict.special3
  extract_lets idx sub v c
  refine .ite (by simp [h]) (.ite (by simp [h]) (.ite (by simp [h, hb]) (.ite (by simp [h]) (.ite (by simp [h, hb, hj]) (.ite (by simp [h, hb])
    (.ite (by simp [h, hb, hk]) (.ite (by simp [h]) (.ite (by simp [h]) (.ite (by simp [h, hb, hk]) ?_)))))))))
  split
  · exact MovesIn.some_iff.mpr (Dict.after_moves (execPlayEffect_ends hb hk) h)
  · exact .none

theorem Dict.special4_moves {n key d} (hb : p .bytes) (hk : p .banks) (h : Moves p s t) : MovesIn p s (Dict.special4 t n key d) := by
  unfold Dict.special4
  extract_lets idx sub v
  exact .ite (by simp [h]) (.ite (by simp [h]) (.ite (by simp [h, hb, hk]) (.ite (by simp [h]) (.ite (by simp [h, hb]) (.ite (by simp [h]) (.ite (by simp [h])
    (.ite (by simp [h]) (.ite (by simp [h]) (.ite (by simp [h]) (.ite (by simp [h]) .none))))))))))

@[simp] theorem Dict.writePlain_moves {n key d} (hb : p .bytes) (hk : p .banks) (hc : p .caches) (hg : p .packages) (he : p .exports) (hj : p .jobs)
    (ha : p .answers) (h : Moves p s t) : Moves p s (Dict.writePlain t n key d) := by
  unfold Dict.writePlain
  extract_lets st
  refine Moves.of_ite (by simp [h]) (Moves.of_ite (by simp [h]) (Moves.of_ite (by simp [h]) ?_))
  split
  · next u hu =>
    exact MovesIn.or (MovesIn.or (Dict.special1_moves hb hk hc hg he ha h) (Dict.special2_moves hb h))
      (MovesIn.or (Dict.special3_moves hb hk hj h) (Dict.special4_moves hb hk h)) u hu
  · split <;> simp [h, hb, hk]

@[simp] theorem Dict.elementWrite_moves {n idx e' d} (hb : p .bytes) (hk : p .banks) (h : Moves p s t) : Moves p s (Dict.elementWrite t n idx e' d) := by
  unfold Dict.elementWrite; dsimp only; split <;> simp [h, hb, hk]

@[simp] theorem Dict.forward_moves {n w op flags sub off len d} : Moves p s (Dict.forward t n w op flags sub off len d) ↔ Moves p s t := by simp [Dict.forward]
@[simp] theorem Dict.authFail_moves {k} (hb : p .bytes) (h : Moves p s t) : Moves p s (Dict.authFail t k) := by simp [Dict.authFail, h, hb]

theorem Dict.envInner_moves {write n d} (hb : p .bytes) (hk : p .banks) (hf : ∀ t k d, Moves p t (write t k d)) (h : Moves p s t) :
    Moves p s (Dict.envInner write t n d) := by
  unfold Dict.envInner
  extract_lets op target s1 key s2 s3
  have h1 : Moves p s s1 := by simp [s1, h]
  have h2 : Moves p s s2 := h1.trans (hf _ _ _)
  refine State.setReg_moves.mpr (Moves.of_ite (by simp [h1, hb, hk]) (Moves.of_ite (by simp [h1, hb, hk]) (Moves.of_ite (by simp [h1, hb, hk]) (Moves.of_ite h2 ?_))))
  split
  · exact Moves.of_ite h2 (by simp [h2, hb, hk])
  · exact h2

theorem Dict.envelope_moves {write n d} (hb : p .bytes) (hk : p .banks) (hf : ∀ t k d, Moves p t (write t k d)) (h : Moves p s t) :
    Moves p s (Dict.envelope write t n d) := by
  unfold Dict.envelope
  extract_lets k fr st s1
  exact Moves.of_ite (by simp [h]) (Moves.of_ite (by simp [h, hb]) (Dict.envInner_moves hb hk hf (by simp [s1, h])))

@[simp] theorem Dict.readAny_moves {n key shadow} (h : Moves p s t) : Moves p s (Dict.readAny t n key shadow).1 := by
  unfold Dict.readAny
  split
  · exact h
  · simp [h]
  · exact h
  · split
    · exact h
    · exact Dict.read_moves h

@[simp] theorem Dict.write_moves {fuel n key d} (hb : p .bytes) (hk : p .banks) (hc : p .caches) (hg : p .packages) (he : p .exports) (hj : p .jobs)
    (ha : p .answers) (h : Moves p s t) : Moves p s (Dict.write fuel t n key d) := by
  induction fuel generalizing s t n key d with
  | zero => simp [Dict.write, h]
  | succ fuel ih =>
    unfold Dict.write
    split
    · simp [h]
    · simp [h]
    · simp [h, hb, hk]
    · extract_lets st
      exact Moves.of_ite (Moves.of_ite (by simp [h]) (Dict.envelope_moves hb hk (fun t k d => ih (Moves.refl ..)) h)) (by simp [h, hb, hk, hc, hg, he, hj, ha])

@[simp] theorem Dict.readObject_moves {n key shadow} (h : Moves p s t) : Moves p s (Dict.readObject t n key shadow) := by
  have hr : Moves p s (Dict.readAny t n key shadow).1 := Dict.readAny_moves h
  unfold Dict.readObject
  split
  · next hx =>
    rw [hx] at hr
    exact Moves.with_answer.mpr hr
  · next hx => rwa [hx] at hr

theorem Dict.recorded_moves {n r op key off len f} (hb : t.overruns n = true → p .bytes) (ha : p .answers) (hf : ∀ t, Moves p t (f t)) (h : Moves p s t) :
    Moves p s (Dict.recorded t n r op key off len f) := by
  unfold Dict.recorded
  extract_lets once s1
  have honce {u} (hu : Moves p s u) : Moves p s (once u) := State.posted_moves.mpr (Moves.of_ite (hu.trans (hf u)) (by simp [hu]))
  have hheard : Moves p s (t.heard n) := by simp [h]
  split
  · exact h
  split
  · simp [h]
  split
  · next ho => exact State.overrun_moves (hb ho) hheard
  split
  · simp [hheard]
  split
  · exact honce hheard
  split
  · exact Moves.with_answer.mpr hheard
  · exact Moves.with_kept ha (honce hheard)

@[simp] theorem Dict.partEnd_moves {n} : Moves p s (Dict.partEnd t n) ↔ Moves p s t := by simp [Dict.partEnd]

@[simp] theorem Dict.segmentHere_moves {n key off last d} (hb : p .bytes) (hk : p .banks) (hc : p .caches) (hg : p .packages) (he : p .exports) (hj : p .jobs)
    (ha : p .answers) (h : Moves p s t) : Moves p s (Dict.segmentHere t n key off last d) := by
  unfold Dict.segmentHere
  extract_lets st old
  refine Moves.of_ite (by simp [h]) (Moves.of_ite (by simp [h, hb]) ?_)
  split
  · exact Moves.of_ite (by simp [h]) (Moves.of_ite (by simp [h]) (Moves.of_ite (by simp [h, hb, hk, hc, hg, he, hj, ha]) (by simp [h])))
  · simp [h]

@[simp] theorem Dict.segment_moves {n key off last d} (hb : p .bytes) (hk : p .banks) (hc : p .caches) (hg : p .packages) (he : p .exports) (hj : p .jobs) (ha : p .answers) (h : Moves p s t) :
    Moves p s (Dict.segment t n key off last d) := by
  unfold Dict.segment; split <;> simp [h, hb, hk, hc, hg, he, hj, ha]

@[simp] theorem Dict.readSegment_moves {n key shadow off len} (h : Moves p s t) : Moves p s (Dict.readSegment t n key shadow off len) := by
  unfold Dict.readSegment
  split
  · simp [h]
  · next k _ =>
    extract_lets s1 d s2
    have h1 : Moves p s s1 := Dict.readObject_moves h
    exact Moves.of_ite (Moves.with_answer.mpr h) (Moves.with_answer.mpr (Moves.of_ite (by simp [h1]) h1))
  · exact Moves.with_answer.mpr (Dict.readObject_moves h)

@[simp] theorem Dict.writeAny_moves {n key d} (hb : p .bytes) (hk : p .banks) (hc : p .caches) (hg : p .packages) (he : p .exports) (hj : p .jobs) (ha : p .answers) (h : Moves p s t) :
    Moves p s (Dict.writeAny t n key d) := by
  simp [Dict.writeAny, h, hb, hk, hc, hg, he, hj, ha]

theorem Dict.unlessPending_moves {n f} (hf : ∀ t, Moves p t (f t)) (h : Moves p s t) : Moves p s (Dict.unlessPending t n f) :=
  Moves.of_ite (by simp [h]) (h.trans (hf t))

@[simp] theorem State.crossings_moves {h' k} (hb : p .bytes) (hk : p .banks) (h : Moves p s t) : Moves p s (t.crossings h' k) := by
  simp [State.crossings, h, hb, hk]

@[simp] theorem Dict.farServe_moves {n src sess op flags idx sub off len v} (hb : p .bytes) (hk : p .banks) (hc : p .caches) (hg : p .packages) (he : p .exports) (hj : p .jobs) (ha : p .answers) (h : Moves p s t) :
    Moves p s (Dict.farServe t n src sess op flags idx sub off len v) := by
  simp [Dict.farServe, h, hb, hk, hc, hg, he, hj, ha]

/-! Field.lean -/

@[simp] theorem Usdo.done_moves {p'} : Moves p s (Usdo.done t p') ↔ Moves p s t := Moves.with_answer.trans State.setReg_moves
@[simp] theorem Usdo.ended_moves {p'} : Moves p s (Usdo.ended t p') ↔ Moves p s t := by simp [Usdo.ended]

@[simp] theorem Usdo.whole_moves {p' wr key v} (hb : p .bytes) (hk : p .banks) (hc : p .caches) (hg : p .packages) (he : p .exports) (hj : p .jobs) (ha : p .answers) (h : Moves p s t) :
    Moves p s (Usdo.whole t p' wr key v) := by
  simp [Usdo.whole, h, hb, hk, hc, hg, he, hj, ha]

@[simp] theorem Usdo.start_moves {p' wr key v} (h : Moves p s t) : Moves p s (Usdo.start t p' wr key v) := by
  unfold Usdo.start
  extract_lets st s1 s2
  have h1 : Moves p s s1 := Moves.of_ite (by simp [h]) (by simp [h])
  have h2 : Moves p s s2 := Moves.of_ite (by simp [h1]) h1
  exact Moves.of_ite (by simp [h]) (by simp [h2])

@[simp] theorem Usdo.last_moves {p' wr key v} (hb : p .bytes) (hk : p .banks) (hc : p .caches) (hg : p .packages) (he : p .exports) (hj : p .jobs) (ha : p .answers) (h : Moves p s t) :
    Moves p s (Usdo.last t p' wr key v) := by
  simp [Usdo.last, h, hb, hk, hc, hg, he, hj, ha]

@[simp] theorem Push.checked_moves {p' m v} : Moves p s (Push.checked t p' m v).1 ↔ Moves p s t := by
  have hr {u tag d} : Moves p s (t.chkRecord u tag d).1 ↔ Moves p s t := State.chkRecord_moves
  unfold Push.checked
  extract_lets h' u
  split
  · rfl
  split
  · rfl
  · exact hr

@[simp] theorem Push.accepted_moves {p' m v} (hb : p .bytes) (h : Moves p s t) : Moves p s (Push.accepted t p' m v) := by simp [Push.accepted, h, hb]

@[simp] theorem Push.receive_moves {p' m v} (hb : p .bytes) (h : Moves p s t) : Moves p s (Push.receive t p' m v) := by
  unfold Push.receive
  extract_lets no
  have hno {u} (hu : Moves p s u) : Moves p s (no u) := State.raise_moves hb hu
  refine Moves.of_ite (hno h) ?_
  split
  · next hx => exact Push.accepted_moves hb (Moves.of_fst hx (Push.checked_moves.mpr h))
  · next hx => exact hno (Moves.of_fst hx (Push.checked_moves.mpr h))

@[simp] theorem Can.receiveCount_moves {p' err} (hb : p .bytes) (h : Moves p s t) : Moves p s (Can.receiveCount t p' err) := by simp [Can.receiveCount, h, hb]

/-! Heads.lean -/

@[simp] theorem Hd.retrain_moves {p' reason} (hb : p .bytes) (h : Moves p s t) : Moves p s (Hd.retrain t p' reason) := by simp [Hd.retrain, h, hb]
@[simp] theorem Hd.ready_moves {p' o} (hb : p .bytes) (h : Moves p s t) : Moves p s (Hd.ready t p' o) := by simp [Hd.ready, h, hb]
@[simp] theorem Hd.failed_moves {p'} : Moves p s (Hd.failed t p') ↔ Moves p s t := by simp [Hd.failed]

/-! Nimbus.lean -/

theorem Nim.shade_moves {i r run f} (hb : p .bytes) (hc : p .caches) (hf : ∀ t bs, Moves p t (f t bs)) (h : Moves p s t) : Moves p s (Nim.shade i r run t f) := by
  unfold Nim.shade
  split
  · simp [h, hb]
  · extract_lets st
    refine Moves.of_ite (by simp [h, hb]) ?_
    split
    · simp [h, hb]
    · next s1 bs hx =>
      have h1 : Moves p s s1 := State.shaderReads_moves hx hc h
      split
      · next s2 e hy =>
        have h2 : Moves p s s2 := Moves.of_fst hy (State.shaderStores_moves hb hc h1)
        simp [h2, hb]
      · next s2 hy => exact (Moves.of_fst hy (State.shaderStores_moves hb hc h1)).trans (hf _ _)

@[simp] theorem Nim.queuePrims_moves {i r cols bs draws} : Moves p s (Nim.queuePrims t i r cols bs draws) ↔ Moves p s t := by simp [Nim.queuePrims]

theorem Nim.draw_moves {i r op draws run args} (hb : p .bytes) (hc : p .caches) (h : Moves p s t) : Moves p s (Nim.draw i r op draws run args t) := by
  refine State.onNim_moves hb (fun t q => ?_) h
  refine Moves.of_ite (by simp [hb]) (Moves.of_ite (Moves.refl ..) ?_)
  split
  · simp [hb]
  split
  · simp [hb]
  · extract_lets st
    refine Moves.of_ite (by simp [hb]) ?_
    split
    · simp [hb]
    · exact Nim.shade_moves hb hc (fun t bs => by simp [hb]) (Moves.refl ..)

theorem Nim.dispatch_moves {i r op run args} (hb : p .bytes) (hc : p .caches) (h : Moves p s t) : Moves p s (Nim.dispatch i r op run args t) := by
  refine State.onNim_moves hb (fun t q => ?_) h
  refine Moves.of_ite (by simp [hb]) (Moves.of_ite (by simp [hb]) (Moves.of_ite (by simp [hb]) (Moves.of_ite (by simp [hb]) ?_)))
  split
  · simp [hb]
  · exact Nim.shade_moves hb hc (fun t bs => by simp [hb]) (Moves.refl ..)

@[simp] theorem Nim.goesOn_moves {h' reason x'} (hb : p .bytes) (h : Moves p s t) : Moves p s (Nim.goesOn h' reason t x') := by
  unfold Nim.goesOn
  refine Moves.of_ite h ?_
  split
  · exact Moves.of_ite h (Moves.of_ite (by simp [h, hb]) (by simp [h, hb]))
  · exact h

@[simp] theorem Nim.accept_moves {i r p'} : Moves p s (Nim.accept t i r p') ↔ Moves p s t := by simp [Nim.accept]

@[simp] theorem Nim.copyEnd_moves {i r p' x'} (hb : p .bytes) (h : Moves p s x'.1) : Moves p s (Nim.copyEnd i r p' x') := by
  unfold Nim.copyEnd
  split <;> simp_all

/-! TouchOps.lean -/

@[simp] theorem State.tOpen_moves {p' c used} (hb : p .bytes) (hk : p .banks) (h : Moves p s t) : Moves p s (t.tOpen p' c used).1 := by
  unfold State.tOpen; dsimp only; split <;> simp [h, hb, hk]

@[simp] theorem State.tSuppress_moves {p' c} (hb : p .bytes) (h : Moves p s t) : Moves p s (t.tSuppress p' c).1 := by simp [State.tSuppress, h, hb]
@[simp] theorem State.tWake_moves {p'} (hb : p .bytes) (h : Moves p s t) : Moves p s (t.tWake p') := by simp [State.tWake, h, hb]

@[simp] theorem State.tConfirm_moves {p' neg used k c} (hb : p .bytes) (hk : p .banks) (h : Moves p s t) : Moves p s (t.tConfirm p' neg used k c).1 := by
  unfold State.tConfirm
  extract_lets d water watch ens s1 s2
  have h2 : Moves p s s2 := Moves.of_ite (by simp [h, hb]) h
  simp only [apply_ite Prod.fst]
  have h1 : Moves p s s1 := by simp [s1, h]
  refine Moves.of_ite (by simp [h, hb]) (Moves.of_ite (by simp [h]) (Moves.of_ite h (Moves.of_ite h (Moves.of_ite (Moves.of_ite (by simp [h1, hb]) h1)
    (Moves.of_ite (Moves.of_ite h (by simp [h, hb])) (by simp [h2, hb, hk]))))))

@[simp] theorem State.rebaseline_moves {p' ns} : Moves p s (t.rebaseline p' ns) ↔ Moves p s t := by simp [State.rebaseline]

@[simp] theorem State.tStep_moves {p' neg used k c} (hb : p .bytes) (hk : p .banks) (h : Moves p s t) : Moves p s (t.tStep p' neg used k c).1 := by
  unfold State.tStep
  extract_lets s1 cov n
  split
  · split
    · exact h
    · exact State.tConfirm_moves hb hk h
  split
  · split
    · simp [h, hb]
    · have h1 : Moves p s s1 := by simp [s1, h, hb]
      exact Moves.of_ite h1 (by simp [h1, hb, hk])
  split
  · exact h
  split
  · simp [h]
  · exact h

@[simp] theorem State.tFollow_moves {p' neg l acc} (hb : p .bytes) (hk : p .banks) (h : Moves p s t) : Moves p s (t.tFollow p' neg l acc).1 := by
  induction l generalizing t acc with
  | nil => exact h
  | cons x l ih =>
    obtain ⟨c, k⟩ := x
    unfold State.tFollow
    extract_lets rest
    split
    · next hx => exact ih (Moves.of_fst hx (State.tStep_moves hb hk h))
    · next hx => exact ih (Moves.of_fst hx (State.tStep_moves hb hk h))

@[simp] theorem State.tBaseline_moves {p' raw sig busy} (hb : p .bytes) (h : Moves p s t) : Moves p s (t.tBaseline p' raw sig busy) := by
  simp [State.tBaseline, h, hb]

@[simp] theorem State.tSelfBaseline_moves {p' self} : Moves p s (t.tSelfBaseline p' self) ↔ Moves p s t := by simp [State.tSelfBaseline]
@[simp] theorem State.tGlove_moves {p' sig self} : Moves p s (t.tGlove p' sig self) ↔ Moves p s t := by simp [State.tGlove]
@[simp] theorem State.tSlowed_moves {p' c} : Moves p s (t.tSlowed p' c) ↔ Moves p s t := by simp [State.tSlowed]
@[simp] theorem State.tFast_moves {p' c} : Moves p s (t.tFast p' c) ↔ Moves p s t := by simp [State.tFast]
@[simp] theorem State.tYield_moves {p'} (hb : p .bytes) (h : Moves p s t) : Moves p s (t.tYield p') := by simp [State.tYield, h, hb]
@[simp] theorem State.tYieldEnd_moves {p'} (hb : p .bytes) (h : Moves p s t) : Moves p s (t.tYieldEnd p') := by simp [State.tYieldEnd, h, hb]

@[simp] theorem State.tNoise_moves {p' m} (hb : p .bytes) (h : Moves p s t) : Moves p s (t.tNoise p' m) := by
  unfold State.tNoise
  extract_lets f s1 lv s2 hop cur best free s3 s4 s5 s6 s7 s8
  have h2 : Moves p s s2 := by simp [s2, s1, h]
  have h3 : Moves p s s3 := Moves.of_ite (by simp [h2, hb]) h2
  have h4 : Moves p s s4 := by simp [s4, h3]
  have h6 : Moves p s s6 := by simp [s6, s5, h4, hb]
  have h8 : Moves p s s8 := by simp [s8, s7, h4, hb]
  exact Moves.of_ite (Moves.of_ite (by simp [h6, hb]) h4) (Moves.of_ite (by simp [h8, hb]) h4)

@[simp] theorem State.tLate_moves {p'} (hb : p .bytes) (h : Moves p s t) : Moves p s (t.tLate p') := by simp [State.tLate, h, hb]

@[simp] theorem State.tMutual_moves {p' raw self} (hb : p .bytes) (hk : p .banks) (h : Moves p s t) : Moves p s (t.tMutual p' raw self) := by
  unfold State.tMutual
  extract_lets s1 arr sig
  have h1 : Moves p s s1 := by simp [s1, h, hb]
  split
  extract_lets ks
  split
  extract_lets new water s2 s3 neg all busy
  have h2 : Moves p s s2 := Moves.of_ite (by simp [h1]) h1
  have h3 : Moves p s s3 := by simp [s3, h2]
  split
  next s4 l hx =>
    extract_lets s5 s6 slide s7 s8 s9
    have h4 : Moves p s s4 := Moves.of_fst hx (State.tFollow_moves hb hk h3)
    have h6 : Moves p s s6 := Moves.of_ite (by simp [s5, h4]) (by simp [s5, h4])
    have h7 : Moves p s s7 := Moves.of_ite (by simp [h6, hb]) h6
    have h9 : Moves p s s9 := by simp [s9, s8, h7, hb]
    exact Moves.of_ite (by simp [h9]) h9

@[simp] theorem State.tSlow_moves {p' self} (hb : p .bytes) (h : Moves p s t) : Moves p s (t.tSlow p' self) := by simp [State.tSlow, h, hb]
@[simp] theorem State.tSpare_moves {p' gap band} (hb : p .bytes) (h : Moves p s t) : Moves p s (t.tSpare p' gap band) := by simp [State.tSpare, h, hb]
@[simp] theorem State.tWhole_moves : Moves p s (t.tWhole) ↔ Moves p s t := by simp [State.tWhole]

@[simp] theorem State.tIntegrity_moves {p' bad start} (hb : p .bytes) (h : Moves p s t) : Moves p s (t.tIntegrity p' bad start) := by
  unfold State.tIntegrity
  extract_lets m used old found new s1 s2 s3 was
  have h3 : Moves p s s3 := Moves.foldl (by simp [hb]) _ (by simp [s2, s1, h])
  split
  split
  extract_lets s4 s5 s6 s7
  have h5 : Moves p s s5 := Moves.of_ite (by simp [s4, h3, hb]) (by simp [s4, h3])
  simp [s7, s6, h5, hb]

@[simp] theorem State.tReference_moves {p'} : Moves p s (t.tReference p') ↔ Moves p s t := by simp [State.tReference]
@[simp] theorem State.tCover_moves {p' first cap} : Moves p s (t.tCover p' first cap) ↔ Moves p s t := by simp [State.tCover]

end Sys2Proof.Machine
end

section
/-!
PROOFS of O3 to O5, O8 and O9. What the commands move: the commands of the dictionary, the field bus, the heads, the renderer, the cores and touch.
-/
namespace Sys2Proof.Machine

variable {p : StatePart → Bool} {s t u : State}

/-! Dictionary.lean -/

theorem execQueryPath_ends {n v} (hb : t.overruns n = true → p .bytes) : Ends p t (execQueryPath n v t) :=
  Ends.up (State.written_moves hb (by simp) (Moves.refl ..))

theorem execObjectWrite_ends {n idx sub v} (hb : p .bytes) (hk : p .banks) (hc : p .caches) (hg : p .packages) (he : p .exports) (hj : p .jobs) (ha : p .answers) :
    Ends p t (execObjectWrite n idx sub v t) := by
  simp [execObjectWrite, hb, hk, hc, hg, he, hj, ha]

theorem execRecordRead_ends {n r idx sub} (hb : t.overruns n = true → p .bytes) (ha : p .answers) : Ends p t (execRecordRead n r idx sub t) :=
  Ends.up (Dict.recorded_moves hb ha (fun t => Dict.unlessPending_moves (by simp) (Moves.refl ..)) (Moves.refl ..))

theorem execRecordWrite_ends {n r idx sub v} (hb : p .bytes) (hk : p .banks) (hc : p .caches) (hg : p .packages) (he : p .exports) (hj : p .jobs)
    (ha : p .answers) : Ends p t (execRecordWrite n r idx sub v t) :=
  Ends.up (Dict.recorded_moves (fun _ => hb) ha (fun t => by simp [hb, hk, hc, hg, he, hj, ha]) (Moves.refl ..))

theorem execReadSegment_ends {n r idx sub off len} (hb : t.overruns n = true → p .bytes) (ha : p .answers) : Ends p t (execReadSegment n r idx sub off len t) :=
  Ends.up (Dict.recorded_moves hb ha (fun t => Dict.unlessPending_moves (by simp) (Moves.refl ..)) (Moves.refl ..))

theorem execWriteSegment_ends {n r idx sub off v} (hb : p .bytes) (hk : p .banks) (hc : p .caches) (hg : p .packages) (he : p .exports) (hj : p .jobs)
    (ha : p .answers) : Ends p t (execWriteSegment n r idx sub off v t) :=
  Ends.up (Dict.recorded_moves (fun _ => hb) ha (fun t => Dict.unlessPending_moves (fun t => by simp [hb, hk, hc, hg, he, hj, ha]) (Moves.refl ..)) (Moves.refl ..))

theorem execRecordAbort_ends {n r} (hb : t.overruns n = true → p .bytes) (ha : p .answers) : Ends p t (execRecordAbort n r t) :=
  Ends.up (Dict.recorded_moves hb ha (fun t => Dict.unlessPending_moves (by simp) (Moves.refl ..)) (Moves.refl ..))

theorem execTransferTimeout_ends {n} : Ends p t (execTransferTimeout n t) := by simp [execTransferTimeout]
theorem execCommit_ends {n} (hb : p .bytes) (hk : p .banks) : Ends p t (execCommit n t) := by simp [execCommit, hb, hk, State.written_moves]

theorem execDiscardShadow_ends {n} (hb : p .bytes) (hk : p .banks) : Ends p t (execDiscardShadow n t) := by
  simp [execDiscardShadow, hb, hk, State.written_moves]

theorem execCancelPending_ends {n} (hb : p .bytes) (hk : p .banks) : Ends p t (execCancelPending n t) := by
  simp [execCancelPending, hb, hk, State.written_moves]

theorem execBoundaryApply_ends {h' k} (hb : p .bytes) (hk : p .banks) : Ends p t (execBoundaryApply h' k t) := by simp [execBoundaryApply, hb, hk]
theorem execSchedTimeLost_ends {h'} (hb : p .bytes) (hk : p .banks) : Ends p t (execSchedTimeLost h' t) := by simp [execSchedTimeLost, hb, hk]
theorem execShadowHoldExpiry_ends {h'} (hb : p .bytes) (hk : p .banks) : Ends p t (execShadowHoldExpiry h' t) := by simp [execShadowHoldExpiry, hb, hk]

theorem execAuthWrite_ends {n v} (hb : p .bytes) (hk : p .banks) (hc : p .caches) (hg : p .packages) (he : p .exports) (hj : p .jobs) (ha : p .answers) :
    Ends p t (execAuthWrite n v t) := by
  simp [execAuthWrite, hb, hk, hc, hg, he, hj, ha]

theorem execAuthCommit_ends {n v} (hb : p .bytes) (hk : p .banks) (hc : p .caches) (hg : p .packages) (he : p .exports) (hj : p .jobs) (ha : p .answers) :
    Ends p t (execAuthCommit n v t) := by
  simp [execAuthCommit, hb, hk, hc, hg, he, hj, ha]

theorem execAuthDiscard_ends {n v} (hb : p .bytes) (hk : p .banks) (hc : p .caches) (hg : p .packages) (he : p .exports) (hj : p .jobs) (ha : p .answers) :
    Ends p t (execAuthDiscard n v t) := by
  simp [execAuthDiscard, hb, hk, hc, hg, he, hj, ha]

theorem execAuthCancel_ends {n v} (hb : p .bytes) (hk : p .banks) (hc : p .caches) (hg : p .packages) (he : p .exports) (hj : p .jobs) (ha : p .answers) :
    Ends p t (execAuthCancel n v t) := by
  simp [execAuthCancel, hb, hk, hc, hg, he, hj, ha]

theorem execAuthLockoutEnd_ends {k} : Ends p t (execAuthLockoutEnd k t) := by simp [execAuthLockoutEnd]

theorem execWindowAccess_ends {n w sub wr v} (hb : p .bytes) (hk : p .banks) (hc : p .caches) (hg : p .packages) (he : p .exports) (hj : p .jobs) (ha : p .answers) :
    Ends p t (execWindowAccess n w sub wr v t) := by
  simp [execWindowAccess, hb, hk, hc, hg, he, hj, ha]

theorem execOwnerEvRead_ends {n} (hb : t.overruns n = true → p .bytes) : Ends p t (execOwnerEvRead n t) :=
  Ends.up (State.request_moves hb (by simp) (Moves.refl ..))

theorem execOwnerEvPush_ends {n v} (hb : t.overruns n = true → p .bytes) : Ends p t (execOwnerEvPush n v t) :=
  Ends.up (State.written_moves hb (by simp) (Moves.refl ..))

theorem execHoistDictRequest_ends {l ok src sess cl w op flags idx sub off len v} (hb : p .bytes) (hk : p .banks) (hc : p .caches) (hg : p .packages)
    (he : p .exports) (hj : p .jobs) (ha : p .answers) : Ends p t (execHoistDictRequest l ok src sess cl w op flags idx sub off len v t) := by
  refine Ends.up (State.linkFrame_moves (fun t => ?_) (Moves.refl ..))
  refine Moves.of_ite (Moves.refl ..) ?_
  split
  · exact Dict.farServe_moves hb hk hc hg he hj ha (Moves.refl ..)
  · exact Moves.of_ite (by simp) (Dict.farServe_moves hb hk hc hg he hj ha (by simp [ha]))

theorem execHoistDictResponse_ends {l ok sess st v} : Ends p t (execHoistDictResponse l ok sess st v t) := by
  refine Ends.up (State.linkFrame_moves (fun t => ?_) (Moves.refl ..))
  extract_lets i src
  exact Moves.of_ite (Moves.refl ..) (State.posted_moves.mpr (Moves.with_answer.mpr (by simp [src])))

/-! Field.lean -/

theorem execUsdoRequest_ends {p' phase wr idx sub v} (hb : p .bytes) (hk : p .banks) (hc : p .caches) (hg : p .packages) (he : p .exports) (hj : p .jobs)
    (ha : p .answers) : Ends p t (execUsdoRequest p' phase wr idx sub v t) := by
  refine Ends.up ?_
  extract_lets key busy abort src
  have hno : Moves p t { src with answer := abort } := Moves.with_answer.mpr (by simp [src])
  have hdone : Moves p t (Usdo.done ((Usdo.ended t p').reply St.transferTimeout) p') := by simp
  exact Moves.of_ite (Moves.refl ..) (Moves.of_ite hno (Moves.of_ite (Moves.refl ..) (Moves.of_ite
    (Moves.of_ite hno (Moves.of_ite (by simp [hb, hk, hc, hg, he, hj, ha]) (by simp))) (Moves.of_ite (Moves.refl ..)
    (Moves.of_ite (by simp [hb, hk, hc, hg, he, hj, ha]) (Moves.of_ite hdone (Moves.of_ite (Moves.refl ..) hdone)))))))

theorem execHeartbeatProduce_ends {p'} : Ends p t (execHeartbeatProduce p' t) := by simp [execHeartbeatProduce]
theorem execHeartbeatReceive_ends {p' node} (hb : p .bytes) : Ends p t (execHeartbeatReceive p' node t) := by simp [execHeartbeatReceive, hb]
theorem execHeartbeatLost_ends {p' i} (hb : p .bytes) : Ends p t (execHeartbeatLost p' i t) := by simp [execHeartbeatLost, hb]
theorem execPushReceive_ends {p' id v} (hb : p .bytes) : Ends p t (execPushReceive p' id v t) := by simp [execPushReceive, hb]
theorem execPushStale_ends {p' m} (hb : p .bytes) : Ends p t (execPushStale p' m t) := by simp [execPushStale, hb]
theorem execPushTransmit_ends {p' t'} : Ends p t (execPushTransmit p' t' t) := by unfold execPushTransmit; simp [State.up]; split <;> simp

theorem execRawConfigWrite_ends {n p' sub v} (hb : p .bytes) : Ends p t (execRawConfigWrite n p' sub v t) := by
  simp [execRawConfigWrite, hb, State.written_moves]

theorem execRawFrameReceive_ends {p' err id fl v} (hb : p .bytes) : Ends p t (execRawFrameReceive p' err id fl v t) := by simp [execRawFrameReceive, hb]

theorem execRawRx_ends {n p'} (hb : t.overruns n = true → p .bytes) : Ends p t (execRawRx n p' t) :=
  Ends.up (Moves.of_ite (Moves.refl ..) (State.request_moves hb (by simp) (Moves.refl ..)))

theorem execRawTx_ends {n p' v} (hb : t.overruns n = true → p .bytes) : Ends p t (execRawTx n p' v t) :=
  Ends.up (Moves.of_ite (Moves.refl ..) (State.written_moves hb (by simp) (Moves.refl ..)))

theorem execRawTxDone_ends {p' err} (hb : p .bytes) : Ends p t (execRawTxDone p' err t) := by unfold execRawTxDone; simp; split <;> simp [hb]
theorem execBusOffRecovery_ends {p'} (hb : p .bytes) : Ends p t (execBusOffRecovery p' t) := by simp [execBusOffRecovery, hb]

theorem execUsbAttached_ends {h' addr cls vid pid outLen} (hb : p .bytes) : Ends p t (execUsbAttached h' addr cls vid pid outLen t) := by
  unfold execUsbAttached; simp; split <;> simp [hb]

theorem execUsbDetached_ends {h' addr} (hb : p .bytes) : Ends p t (execUsbDetached h' addr t) := by unfold execUsbDetached; simp; split <;> simp [hb]

theorem execHidReportReceive_ends {h' addr id v} (hb : p .bytes) : Ends p t (execHidReportReceive h' addr id v t) := by
  unfold execHidReportReceive; simp; split <;> simp [hb]

theorem execHidIn_ends {n h'} (hb : t.overruns n = true → p .bytes) : Ends p t (execHidIn n h' t) :=
  Ends.up (Moves.of_ite (Moves.refl ..) (State.request_moves hb (by simp) (Moves.refl ..)))

theorem execHidOut_ends {n h' v} (hb : t.overruns n = true → p .bytes) : Ends p t (execHidOut n h' v t) :=
  Ends.up (Moves.of_ite (Moves.refl ..) (State.written_moves hb (by simp) (Moves.refl ..)))

theorem execUsbOvercurrent_ends {h'} (hb : p .bytes) : Ends p t (execUsbOvercurrent h' t) := by simp [execUsbOvercurrent, hb]

theorem execUsbPortOp_ends {n h' v} (hb : t.overruns n = true → p .bytes) : Ends p t (execUsbPortOp n h' v t) :=
  Ends.up (Moves.of_ite (Moves.refl ..) (State.written_moves hb (by simp) (Moves.refl ..)))

/-! Heads.lean -/

theorem execHpdRise_ends {p'} (hb : p .bytes) : Ends p t (execHpdRise p' t) := by simp [execHpdRise, hb]
theorem execHpdWaitEnd_ends {p' kind caps su edid slices} : Ends p t (execHpdWaitEnd p' kind caps su edid slices t) := by simp [execHpdWaitEnd]
theorem execLinkTrained_ends {p' lanes rate} (hb : p .bytes) : Ends p t (execLinkTrained p' lanes rate t) := by simp [execLinkTrained, hb]
theorem execTrainRetry_ends {p'} : Ends p t (execTrainRetry p' t) := by simp [execTrainRetry]
theorem execIrqHpd_ends {p' lost psrError} (hb : p .bytes) : Ends p t (execIrqHpd p' lost psrError t) := by simp [execIrqHpd, hb]
theorem execPanelUnplugged_ends {p'} (hb : p .bytes) : Ends p t (execPanelUnplugged p' t) := by simp [execPanelUnplugged, hb]
theorem execLinkWakeDone_ends {n} : Ends p t (execLinkWakeDone n t) := by simp [execLinkWakeDone]
theorem execTeLost_ends {n} (hb : p .bytes) : Ends p t (execTeLost n t) := by simp [execTeLost, hb]
theorem execTeEdge_ends {n level} (hb : p .bytes) : Ends p t (execTeEdge n level t) := by simp [execTeEdge, hb]
theorem execPanelOnDelayEnd_ends {n} : Ends p t (execPanelOnDelayEnd n t) := by simp [execPanelOnDelayEnd]
theorem execBacklightDelayEnd_ends {n} : Ends p t (execBacklightDelayEnd n t) := by simp [execBacklightDelayEnd]
theorem execPanelFault_ends {n} (hb : p .bytes) : Ends p t (execPanelFault n t) := by simp [execPanelFault, hb]
theorem execPanelFaultClear_ends {n} (hb : p .bytes) : Ends p t (execPanelFaultClear n t) := by simp [execPanelFaultClear, hb]
theorem execRxLinkTraining_ends {n done} : Ends p t (execRxLinkTraining n done t) := by simp [execRxLinkTraining]

theorem execRxFrame_ends {n w h' rate khz colour data} (hb : p .bytes) : Ends p t (execRxFrame n w h' rate khz colour data t) := by
  refine Ends.up ?_
  extract_lets s1 s2 b
  have h1 : Moves p t s1 := by simp [s1]
  have h2 : Moves p t s2 := by simp [s2, h1]
  refine Moves.of_ite (Moves.refl ..) ?_
  split
  · simp [h1]
  · extract_lets third s3 s4
    have h3 : Moves p t s3 := by simp [s3, h1, hb]
    have h4 : Moves p t s4 := Moves.of_ite (by simp [h3]) h3
    exact Moves.of_ite (Moves.of_ite h2 (by simp [h2, hb])) (by simp [h4])

theorem execRxSignalLost_ends {n} (hb : p .bytes) : Ends p t (execRxSignalLost n t) := by simp [execRxSignalLost, hb]
theorem execRxHoldExpiry_ends {n} : Ends p t (execRxHoldExpiry n t) := by simp [execRxHoldExpiry]

/-! Nimbus.lean -/

theorem execNop_ends {i r} (hb : p .bytes) : Ends p t (execNop i r t) := by simp [execNop, hb, State.onNim_moves, State.onPacket_moves]

theorem execPassBegin_ends {i r} (hb : p .bytes) (hc : p .caches) : Ends p t (execPassBegin i r t) := by
  refine Ends.up (State.onNim_moves hb (fun t q => ?_) (Moves.refl ..))
  extract_lets da
  refine Moves.of_ite (by simp [hb]) (Moves.of_ite (by simp [hb]) ?_)
  split
  · simp [hb]
  extract_lets d
  refine Moves.of_ite (by simp [hb]) ?_
  split
  · simp [hb]
  refine Moves.of_ite (by simp [hb]) ?_
  split
  · simp [hb]
  extract_lets st
  refine Moves.of_ite (by simp [hb]) ?_
  split
  · simp [hb]
  · next s1 hw =>
    extract_lets old s2 s3 s4
    have h1 : Moves p t s1 := State.cfill_moves hw hb (Moves.refl ..)
    have h3 : Moves p t s3 := by simp [s3, s2, h1, hc]
    exact State.ringDone_moves hb (Moves.of_ite h3 (by simp [h3]))

theorem execPassEnd_ends {i r} (hb : p .bytes) (hk : p .banks) (hc : p .caches) : Ends p t (execPassEnd i r t) := by
  refine Ends.up (State.onNim_moves hb (fun t q => ?_) (Moves.refl ..))
  refine Moves.of_ite (by simp [hb]) (Moves.of_ite (Moves.refl ..) ?_)
  split
  · simp [hb]
  split
  · simp [hb]
  · next s1 hw =>
    have h1 : Moves p t s1 := State.passStores_moves hw hb hc (Moves.refl ..)
    exact State.boundary_moves hb hk (by simp [h1, hb, hc])

theorem execBindPipeline_ends {i r} (hb : p .bytes) : Ends p t (execBindPipeline i r t) := by simp [execBindPipeline, hb, State.onNim_moves]
theorem execBindState_ends {i r} (hb : p .bytes) : Ends p t (execBindState i r t) := by simp [execBindState, hb, State.onNim_moves]
theorem execDraw_ends {i r prims run} (hb : p .bytes) (hc : p .caches) : Ends p t (execDraw i r prims run t) := by simp [execDraw, hb, hc, Nim.draw_moves]

theorem execDrawIndexed_ends {i r prims run} (hb : p .bytes) (hc : p .caches) : Ends p t (execDrawIndexed i r prims run t) := by
  simp [execDrawIndexed, hb, hc, Nim.draw_moves]

theorem execDrawIndirect_ends {i r draws run} (hb : p .bytes) (hc : p .caches) : Ends p t (execDrawIndirect i r draws run t) := by
  simp [execDrawIndirect, hb, hc, Nim.draw_moves]

theorem execDispatch_ends {i r run} (hb : p .bytes) (hc : p .caches) : Ends p t (execDispatch i r run t) := by simp [execDispatch, hb, hc, Nim.dispatch_moves]

theorem execDispatchIndirect_ends {i r run} (hb : p .bytes) (hc : p .caches) : Ends p t (execDispatchIndirect i r run t) := by
  simp [execDispatchIndirect, hb, hc, Nim.dispatch_moves]

theorem execClear_ends {i r} (hb : p .bytes) : Ends p t (execClear i r t) := by simp [execClear, hb, State.onNim_moves]
theorem execQueryBegin_ends {i r} (hb : p .bytes) : Ends p t (execQueryBegin i r t) := by simp [execQueryBegin, hb, State.onNim_moves]

theorem execQueryEnd_ends {i r} (hb : p .bytes) : Ends p t (execQueryEnd i r t) := by
  refine Ends.up (State.onNim_moves hb (fun t q => ?_) (Moves.refl ..))
  refine Moves.of_ite (by simp [hb]) (Moves.of_ite (Moves.refl ..) ?_)
  extract_lets occ
  split
  · simp [hb]
  · next hw => simp [State.cwrite_moves hw hb (Moves.of_ite (by simp) (Moves.refl ..)), hb]

theorem execFenceSignal_ends {i r} (hb : p .bytes) : Ends p t (execFenceSignal i r t) := by
  refine Ends.up (State.onNim_moves hb (fun t q => ?_) (Moves.refl ..))
  refine Moves.of_ite (Moves.refl ..) (Moves.of_ite (by simp [hb]) ?_)
  split
  · simp [hb]
  · next hw => simp [State.fenceMax_moves hw hb (Moves.refl ..), hb]

theorem execFenceWait_ends {i r} (hb : p .bytes) : Ends p t (execFenceWait i r t) := by
  refine Ends.up (State.onNim_moves hb (fun t q => ?_) (Moves.refl ..))
  refine Moves.of_ite (by simp [hb]) (Moves.of_ite (Moves.refl ..) (Moves.of_ite (by simp [hb]) ?_))
  split
  · simp [hb]
  · exact Moves.of_ite (by simp [hb]) (by simp)

theorem execFenceReevaluate_ends (hb : p .bytes) : Ends p t (execFenceReevaluate t) := by simp [execFenceReevaluate, hb]
theorem execFenceTimeout_ends {i r} (hb : p .bytes) : Ends p t (execFenceTimeout i r t) := by simp [execFenceTimeout, hb]

theorem execBarrier_ends {i r} (hb : p .bytes) (hc : p .caches) : Ends p t (execBarrier i r t) := by
  simp (disch := simp [hb, hc]) [execBarrier, State.onNim_moves]

theorem execS1Invalidate_ends {i r} (hb : p .bytes) : Ends p t (execS1Invalidate i r t) := by simp [execS1Invalidate, hb, State.onNim_moves]
theorem execEvent_ends {i r} (hb : p .bytes) : Ends p t (execEvent i r t) := by simp (disch := simp [hb]) [execEvent, State.onNim_moves]
theorem execPriority_ends {i r} (hb : p .bytes) : Ends p t (execPriority i r t) := by simp [execPriority, hb, State.onNim_moves]

theorem execTimestamp_ends {i r} (hb : p .bytes) : Ends p t (execTimestamp i r t) := by
  refine Ends.up (State.onNim_moves hb (fun t q => ?_) (Moves.refl ..))
  refine Moves.of_ite (Moves.refl ..) ?_
  split
  · simp [hb]
  · next hw => simp [State.cwrite_moves hw hb (Moves.refl ..), hb]

theorem execCopyBuffer_ends {i r} (hb : p .bytes) : Ends p t (execCopyBuffer i r t) := by simp (disch := simp [hb]) [execCopyBuffer, State.onNim_moves]

theorem execCopySurface_ends {i r} (hb : p .bytes) : Ends p t (execCopySurface i r t) := by
  refine Ends.up (State.onNim_moves hb (fun t q => ?_) (Moves.refl ..))
  refine Moves.of_ite (by simp [hb]) ?_
  split
  · simp [hb]
  · simp [hb]
  · extract_lets x y w h' sel fits
    exact Moves.of_ite (by simp [hb]) (Moves.of_ite (by simp [hb]) (Moves.of_ite (by simp [hb]) (Moves.of_ite (by simp [hb])
      (Nim.copyEnd_moves hb (State.copyTexels_moves hb (by simp))))))

theorem execFill_ends {i r} (hb : p .bytes) : Ends p t (execFill i r t) := by
  refine Ends.up (State.onNim_moves hb (fun t q => ?_) (Moves.refl ..))
  refine Moves.of_ite (by simp [hb]) ?_
  split
  · next hx => exact State.stopFault_moves hb (Moves.of_fst hx (State.fillBytes_moves hb (Moves.refl ..)))
  · next hx => exact State.ringDone_moves hb (Nim.accept_moves.mpr (Moves.of_fst hx (State.fillBytes_moves hb (Moves.refl ..))))

theorem execFlattenPresent_ends {i r} (hb : p .bytes) : Ends p t (execFlattenPresent i r t) := by
  refine Ends.up (State.onNim_moves hb (fun t q => ?_) (Moves.refl ..))
  extract_lets c n
  refine Moves.of_ite (by simp [hb]) (Moves.of_ite (by simp [hb]) (Moves.of_ite (Moves.refl ..) ?_))
  split
  · simp [hb]
  · exact Moves.of_ite (by simp [hb]) (by simp [hb])

theorem execBinPoolFull_ends {i r} (hb : p .bytes) (hc : p .caches) : Ends p t (execBinPoolFull i r t) := by simp [execBinPoolFull, hb, hc]
theorem execExtensionReread_ends {i r} (hb : p .bytes) (hc : p .caches) : Ends p t (execExtensionReread i r t) := by simp [execExtensionReread, hb, hc]
theorem execBinFaultTimeout_ends {i r} (hb : p .bytes) (hc : p .caches) : Ends p t (execBinFaultTimeout i r t) := by simp [execBinFaultTimeout, hb, hc]

theorem execPipelineCompiled_ends {h' reason offset} (hb : p .bytes) : Ends p t (execPipelineCompiled h' reason offset t) := by
  unfold execPipelineCompiled; simp; split <;> simp [hb]

theorem execContextSchedule_ends {steps} (hb : p .bytes) (hc : p .caches) : Ends p t (execContextSchedule steps t) := by simp [execContextSchedule, hb, hc]

theorem execPreemptRequest_ends {phase tiles} (hb : p .bytes) (hc : p .caches) : Ends p t (execPreemptRequest phase tiles t) := by
  simp [execPreemptRequest, hb, hc]

theorem execTileGraceExpiry_ends {saved} (hb : p .bytes) (hc : p .caches) : Ends p t (execTileGraceExpiry saved t) := by
  refine Ends.up ?_
  extract_lets i r saved' s1
  have h1 : Moves p t s1 := by simp [s1]
  refine Moves.of_ite (Moves.refl ..) ?_
  split
  · simp [h1, hb]
  split
  · simp [h1, hb]
  · next hw => simp [State.renderTiles_moves hw hb hc h1, hb, hc]

theorem execTimeSliceExpiry_ends (hb : p .bytes) (hc : p .caches) : Ends p t (execTimeSliceExpiry t) := by simp [execTimeSliceExpiry, hb, hc]
theorem execClusterLost_ends {c} (hb : p .bytes) (hk : p .banks) : Ends p t (execClusterLost c t) := by simp (disch := simp [hb, hk]) [execClusterLost]
theorem execWorkItemComplete_ends {i r} : Ends p t (execWorkItemComplete i r t) := by unfold execWorkItemComplete; simp [State.up]; split <;> simp

/-! Pennant.lean -/

theorem execMov_ends {c} : Ends p t (execMov c t) := by simp [execMov]
theorem execAdd_ends {c} : Ends p t (execAdd c t) := by simp [execAdd]
theorem execSub_ends {c} : Ends p t (execSub c t) := by simp [execSub]
theorem execAdc_ends {c} : Ends p t (execAdc c t) := by simp [execAdc]
theorem execSbc_ends {c} : Ends p t (execSbc c t) := by simp [execSbc]
theorem execAnd_ends {c} : Ends p t (execAnd c t) := by simp [execAnd]
theorem execOr_ends {c} : Ends p t (execOr c t) := by simp [execOr]
theorem execXor_ends {c} : Ends p t (execXor c t) := by simp [execXor]
theorem execShl_ends {c} : Ends p t (execShl c t) := by simp [execShl]
theorem execShr_ends {c} : Ends p t (execShr c t) := by simp [execShr]
theorem execSra_ends {c} : Ends p t (execSra c t) := by simp [execSra]
theorem execCmp_ends {c} : Ends p t (execCmp c t) := by simp [execCmp]
theorem execTst_ends {c} : Ends p t (execTst c t) := by simp [execTst]
theorem execMul_ends {c} : Ends p t (execMul c t) := by simp [execMul]
theorem execMulh_ends {c} : Ends p t (execMulh c t) := by simp [execMulh]
theorem execNot_ends {c} : Ends p t (execNot c t) := by simp [execNot]
theorem execAddi_ends {c} : Ends p t (execAddi c t) := by simp [execAddi, State.coreIssue_moves]
theorem execMovi_ends {c} : Ends p t (execMovi c t) := by simp [execMovi, State.coreIssue_moves]
theorem execMovhi_ends {c} : Ends p t (execMovhi c t) := by simp [execMovhi, State.coreIssue_moves]
theorem execCmpi_ends {c} : Ends p t (execCmpi c t) := by simp [execCmpi, State.coreIssue_moves]
theorem execLdw_ends {c} (hb : p .bytes) (hk : p .banks) : Ends p t (execLdw c t) := by simp [execLdw, hb, hk, State.coreIssue_moves]
theorem execStw_ends {c} (hb : p .bytes) (hk : p .banks) : Ends p t (execStw c t) := by simp [execStw, hb, hk, State.coreIssue_moves]
theorem execLdb_ends {c} (hb : p .bytes) (hk : p .banks) : Ends p t (execLdb c t) := by simp [execLdb, hb, hk, State.coreIssue_moves]
theorem execStb_ends {c} (hb : p .bytes) (hk : p .banks) : Ends p t (execStb c t) := by simp [execStb, hb, hk, State.coreIssue_moves]
theorem execBcc_ends {c} : Ends p t (execBcc c t) := by simp [execBcc, State.coreIssue_moves]
theorem execJmp_ends {c} : Ends p t (execJmp c t) := by simp [execJmp, State.coreIssue_moves]
theorem execCall_ends {c} : Ends p t (execCall c t) := by simp [execCall, State.coreIssue_moves]
theorem execMfs_ends {c} : Ends p t (execMfs c t) := by simp [execMfs, State.coreIssue_moves]
theorem execMts_ends {c} : Ends p t (execMts c t) := by simp [execMts, State.coreIssue_moves]
theorem execJr_ends {c} : Ends p t (execJr c t) := by simp [execJr, State.coreIssue_moves]
theorem execRete_ends {c} (hb : p .bytes) (hk : p .banks) : Ends p t (execRete c t) := by simp [execRete, hb, hk, State.coreIssue_moves]
theorem execWait_ends {c} : Ends p t (execWait c t) := by simp [execWait, State.coreIssue_moves]
theorem execPwait_ends {c} (hb : p .bytes) (hk : p .banks) : Ends p t (execPwait c t) := by simp [execPwait, hb, hk, State.coreIssue_moves]
theorem execSend_ends {c} (hb : p .bytes) (hk : p .banks) : Ends p t (execSend c t) := by simp [execSend, hb, hk, State.coreIssue_moves]
theorem execEi_ends {c} : Ends p t (execEi c t) := by simp [execEi, State.coreIssue_moves]
theorem execDi_ends {c} : Ends p t (execDi c t) := by simp [execDi, State.coreIssue_moves]
theorem execSysNop_ends {c} : Ends p t (execSysNop c t) := by simp [execSysNop, State.coreIssue_moves]

theorem execBmov_ends {c} (hb : p .bytes) (hk : p .banks) : Ends p t (execBmov c t) := by
  refine Ends.up (State.coreBlock_moves hb hk (fun t w u e => ?_) (Moves.refl ..))
  split at e
  · cases e
  · next hx =>
    split at e
    · cases e
    · next hw => exact Moves.of_ok e (by simp [State.coreWrite_moves hw (State.elemWord_moves hx (Moves.refl ..))])

theorem execBfeed_ends {c} (hb : p .bytes) (hk : p .banks) : Ends p t (execBfeed c t) := by
  refine Ends.up (State.coreBlock_moves hb hk (fun t w u e => ?_) (Moves.refl ..))
  dsimp only at e
  split at e
  · cases e
  split at e
  · cases e
  · next s1 d hx =>
    have h1 : Moves p t s1 := State.elemBytes_moves hx (Moves.refl ..)
    exact Moves.of_ok e (by simp [h1])

theorem execBmac_ends {c} (hb : p .bytes) (hk : p .banks) : Ends p t (execBmac c t) := by
  refine Ends.up (State.coreBlock_moves hb hk (fun t w u e => ?_) (Moves.refl ..))
  split at e
  · cases e
  · next hx =>
    split at e
    · cases e
    · next s2 b hy =>
      have h2 : Moves p t s2 := State.elemWord_moves hy (State.elemWord_moves hx (Moves.refl ..))
      exact Moves.of_ok e (by simp [h2])

theorem execWaitv_ends {c} (hb : p .bytes) (hk : p .banks) : Ends p t (execWaitv c t) := by
  refine Ends.up (State.coreBlock_moves hb hk (fun t w u e => ?_) (Moves.refl ..))
  split at e
  · cases e
  · next s1 v hx =>
    have h1 : Moves p t s1 := State.elemWord_moves hx (Moves.refl ..)
    dsimp only at e
    split at e
    · exact Moves.of_ok e (by simp [h1])
    split at e
    · exact Moves.of_ok e (by simp [h1])
    · exact Moves.of_ok e h1

theorem execHandlerEntry_ends {c} : Ends p t (execHandlerEntry c t) := by simp [execHandlerEntry]
theorem execTimerExpiry_ends {c t'} : Ends p t (execTimerExpiry c t' t) := by simp [execTimerExpiry]
theorem execEdgeDetect_ends {c e' level} (hb : p .bytes) (hk : p .banks) : Ends p t (execEdgeDetect c e' level t) := by simp [execEdgeDetect, hb, hk]
theorem execPeriodTick_ends {c} (hb : p .bytes) (hk : p .banks) : Ends p t (execPeriodTick c t) := by simp [execPeriodTick, hb, hk]
theorem execCoreReset_ends {c} (hb : p .bytes) (hk : p .banks) : Ends p t (execCoreReset c t) := by simp [execCoreReset, hb, hk]

/-! Touch.lean -/

theorem execScanFrameEnd_ends {p' raw self noise} (hb : p .bytes) (hk : p .banks) : Ends p t (execScanFrameEnd p' raw self noise t) := by
  refine Ends.up ?_
  extract_lets slow s1 s2 s3
  have h1 : Moves p t s1 := Moves.of_ite (by simp [hb]) (by simp [hb, hk])
  have h2 : Moves p t s2 := by simp [s2, h1, hb]
  exact Moves.of_ite (Moves.refl ..) (by simp [s3, h2, hb, hk])

theorem execIdleStep_ends {p'} : Ends p t (execIdleStep p' t) := by simp [execIdleStep]
theorem execGestureWatchEnd_ends {p'} : Ends p t (execGestureWatchEnd p' t) := by simp [execGestureWatchEnd]
theorem execGloveTimeout_ends {p'} : Ends p t (execGloveTimeout p' t) := by simp [execGloveTimeout]
theorem execWetTimeout_ends {p'} : Ends p t (execWetTimeout p' t) := by simp [execWetTimeout]

theorem execTouchPortStart_ends {p' fpc bad placed coarse fine first cap selfCap} (hb : p .bytes) (hk : p .banks) :
    Ends p t (execTouchPortStart p' fpc bad placed coarse fine first cap selfCap t) := by
  refine Ends.up ?_
  extract_lets s1 s2 s3 m lines s4 n zeros s5 s6 s7 s8
  have h1 : Moves p t s1 := by simp [s1]
  have h2 : Moves p t s2 := Moves.of_ite (by simp [h1, hb, hk]) h1
  have h3 : Moves p t s3 := by simp [s3, h2, hb]
  have h4 : Moves p t s4 := by simp [s4, h3, hb]
  have h6 : Moves p t s6 := by simp [s6, s5, h3]
  have h7 : Moves p t s7 := Moves.of_ite (by simp [h6]) (by simp [h6, hb])
  refine Moves.of_ite (Moves.refl ..) (Moves.of_ite (by simp [h1, hb, hk]) (Moves.of_ite ?_ (by simp [s8, h7, hb])))
  split
  next s9 k hx =>
    have h9 : Moves p t s9 := Moves.of_fst hx (State.startFailed_moves hb hk h4)
    exact State.tWhole_moves.mpr (Moves.of_ite (by simp [h9, hb, hk]) (Moves.of_ite (by simp [h9, hb]) h9))

theorem execIntegrityScan_ends {p' bad aborted} (hb : p .bytes) : Ends p t (execIntegrityScan p' bad aborted t) := by simp [execIntegrityScan, hb]

end Sys2Proof.Machine
end

section
/-!
PROOFS of O3 to O5, O8 and O9. The footprint of every command.
-/
namespace Sys2Proof.Machine

open Sys2Proof.Safety

/-- The parts of the state that command `c` may move at `s`: those that the predicates of Safety name, and the memory where the mailbox of the session that
sends it has not answered the last request (R130). -/
def footprint (c : Instr) (s : State) : StatePart → Bool
  | .time => setsTime c
  | .banks => !leavesBanks c
  | .bytes => !leavesMemory c || (requester c).any s.overruns
  | .trackers => movesTrackers c
  | .packages => movesPackages c
  | .exports => movesExports c
  | .jobs => movesJobs c
  | .answers => movesAnswers c
  | .caches => movesCaches c

theorem footprint_overruns {c : Instr} {s : State} {n : Nat} (hc : requester c = some n) (h : s.overruns n = true) : footprint c s .bytes = true := by
  simp [footprint, hc, h]

/-- Every command ends in a next state, and moves no part outside its footprint. -/
theorem exec_ends : ∀ (c : Instr) (s : State), Ends (footprint c s) s (exec c s)
  | .sessionOpen .., _ => execSessionOpen_ends rfl
  | .sessionClose .., _ => execSessionClose_ends rfl rfl
  | .udpSessionTimeout .., _ => execUdpSessionTimeout_ends rfl rfl
  | .dtlsHandshake .., _ => execDtlsHandshake_ends rfl
  | .debugCertIn .., _ => execDebugCertIn_ends rfl rfl
  | .pendingSessionTimeout .., _ => execPendingSessionTimeout_ends rfl rfl
  | .queryPath .., _ => execQueryPath_ends (footprint_overruns rfl)
  | .objectWrite .., _ => execObjectWrite_ends rfl rfl rfl rfl rfl rfl rfl
  | .recordRead .., _ => execRecordRead_ends (footprint_overruns rfl) rfl
  | .recordWrite .., _ => execRecordWrite_ends rfl rfl rfl rfl rfl rfl rfl
  | .readSegment .., _ => execReadSegment_ends (footprint_overruns rfl) rfl
  | .writeSegment .., _ => execWriteSegment_ends rfl rfl rfl rfl rfl rfl rfl
  | .recordAbort .., _ => execRecordAbort_ends (footprint_overruns rfl) rfl
  | .transferTimeout .., _ => execTransferTimeout_ends
  | .commit .., _ => execCommit_ends rfl rfl
  | .discardShadow .., _ => execDiscardShadow_ends rfl rfl
  | .cancelPending .., _ => execCancelPending_ends rfl rfl
  | .boundaryApply .., _ => execBoundaryApply_ends rfl rfl
  | .schedTimeLost .., _ => execSchedTimeLost_ends rfl rfl
  | .shadowHoldExpiry .., _ => execShadowHoldExpiry_ends rfl rfl
  | .authWrite .., _ => execAuthWrite_ends rfl rfl rfl rfl rfl rfl rfl
  | .authCommit .., _ => execAuthCommit_ends rfl rfl rfl rfl rfl rfl rfl
  | .authDiscard .., _ => execAuthDiscard_ends rfl rfl rfl rfl rfl rfl rfl
  | .authCancel .., _ => execAuthCancel_ends rfl rfl rfl rfl rfl rfl rfl
  | .authLockoutEnd .., _ => execAuthLockoutEnd_ends
  | .usdoRequest .., _ => execUsdoRequest_ends rfl rfl rfl rfl rfl rfl rfl
  | .heartbeatProduce .., _ => execHeartbeatProduce_ends
  | .heartbeatReceive .., _ => execHeartbeatReceive_ends rfl
  | .heartbeatLost .., _ => execHeartbeatLost_ends rfl
  | .pushReceive .., _ => execPushReceive_ends rfl
  | .pushStale .., _ => execPushStale_ends rfl
  | .pushTransmit .., _ => execPushTransmit_ends
  | .rawConfigWrite .., _ => execRawConfigWrite_ends rfl
  | .rawFrameReceive .., _ => execRawFrameReceive_ends rfl
  | .rawRx .., _ => execRawRx_ends (footprint_overruns rfl)
  | .rawTx .., _ => execRawTx_ends (footprint_overruns rfl)
  | .rawTxDone .., _ => execRawTxDone_ends rfl
  | .busOffRecovery .., _ => execBusOffRecovery_ends rfl
  | .usbAttached .., _ => execUsbAttached_ends rfl
  | .usbDetached .., _ => execUsbDetached_ends rfl
  | .hidReportReceive .., _ => execHidReportReceive_ends rfl
  | .hidIn .., _ => execHidIn_ends (footprint_overruns rfl)
  | .hidOut .., _ => execHidOut_ends (footprint_overruns rfl)
  | .usbOvercurrent .., _ => execUsbOvercurrent_ends rfl
  | .usbPortOp .., _ => execUsbPortOp_ends (footprint_overruns rfl)
  | .windowAccess .., _ => execWindowAccess_ends rfl rfl rfl rfl rfl rfl rfl
  | .ownerEvRead .., _ => execOwnerEvRead_ends (footprint_overruns rfl)
  | .ownerEvPush .., _ => execOwnerEvPush_ends (footprint_overruns rfl)
  | .planBoundary .., _ => execPlanBoundary_ends rfl rfl
  | .shedHoldEnd .., _ => execShedHoldEnd_ends rfl
  | .planRaise .., _ => execPlanRaise_ends rfl
  | .planWatchdog, _ => execPlanWatchdog_ends rfl rfl
  | .ageMeasure .., _ => execAgeMeasure_ends rfl
  | .forecastUpdate, _ => execForecastUpdate_ends rfl
  | .thermalAboveFloor .., _ => execThermalAboveFloor_ends rfl
  | .boundaryPortReset .., _ => execBoundaryPortReset_ends rfl rfl
  | .boundaryPortResume .., _ => execBoundaryPortResume_ends
  | .fabricAccess .., _ => execFabricAccess_ends rfl rfl
  | .throttleExpiry .., _ => execThrottleExpiry_ends rfl rfl
  | .rowIdleClose .., _ => execRowIdleClose_ends
  | .concentrationCheck .., _ => execConcentrationCheck_ends rfl
  | .retrainStart .., _ => execRetrainStart_ends rfl
  | .retrainDone .., _ => execRetrainDone_ends rfl
  | .retrainRetry .., _ => execRetrainRetry_ends rfl
  | .patrolScrub .., _ => execPatrolScrub_ends rfl
  | .classWrite .., _ => execClassWrite_ends (footprint_overruns rfl)
  | .reserveRateWrite .., _ => execReserveRateWrite_ends rfl
  | .invalidationComplete .., _ => execInvalidationComplete_ends rfl rfl rfl
  | .hoGrant .., _ => execHoGrant_ends rfl rfl
  | .hoRecall .., _ => execHoRecall_ends rfl
  | .blockRelease .., _ => execBlockRelease_ends rfl rfl
  | .recallGraceExpiry .., _ => execRecallGraceExpiry_ends rfl rfl
  | .drainComplete .., _ => execDrainComplete_ends rfl rfl
  | .scrubVerifyDone .., _ => execScrubVerifyDone_ends rfl rfl rfl rfl
  | .hpdLowWaitEnd .., _ => execHpdLowWaitEnd_ends rfl rfl
  | .debugConsent .., _ => execDebugConsent_ends rfl
  | .doorbell .., _ => execDoorbell_ends rfl rfl
  | .eqConsDoorbell .., _ => execEqConsDoorbell_ends rfl
  | .ringCreate .., _ => execRingCreate_ends rfl
  | .ringDestroy .., _ => execRingDestroy_ends rfl
  | .eqCreate .., _ => execEqCreate_ends rfl
  | .s1Set .., _ => execS1Set_ends rfl
  | .mbS1Invalidate .., _ => execMbS1Invalidate_ends rfl rfl
  | .memRequest .., _ => execMemRequest_ends rfl
  | .memRelease .., _ => execMemRelease_ends rfl rfl
  | .surfaceExport .., _ => execSurfaceExport_ends rfl rfl
  | .surfaceRevoke .., _ => execSurfaceRevoke_ends rfl rfl
  | .surfaceImport .., _ => execSurfaceImport_ends rfl rfl
  | .shaderAdmit .., _ => execShaderAdmit_ends rfl
  | .shaderRelease .., _ => execShaderRelease_ends rfl
  | .reserve .., _ => execReserve_ends rfl
  | .quiesceSelf .., _ => execQuiesceSelf_ends rfl
  | .remoteAssociation .., _ => execRemoteAssociation_ends rfl rfl rfl
  | .remoteMemoryWrite .., _ => execRemoteMemoryWrite_ends rfl
  | .remoteMemoryRead .., _ => execRemoteMemoryRead_ends rfl
  | .remoteAck .., _ => execRemoteAck_ends
  | .remoteKeepalive .., _ => execRemoteKeepalive_ends
  | .remoteRetransmit .., _ => execRemoteRetransmit_ends
  | .remoteKeepaliveSend .., _ => execRemoteKeepaliveSend_ends
  | .remoteLinkLost .., _ => execRemoteLinkLost_ends rfl
  | .remoteHoldExpiry .., _ => execRemoteHoldExpiry_ends rfl rfl rfl rfl
  | .grantWrite .., _ => execGrantWrite_ends rfl
  | .resizeCut .., _ => execResizeCut_ends rfl
  | .instEnable .., _ => execInstEnable_ends rfl rfl rfl
  | .instQuiesce .., _ => execInstQuiesce_ends rfl
  | .instResume .., _ => execInstResume_ends rfl
  | .instReset .., _ => execInstReset_ends rfl rfl
  | .instRemove .., _ => execInstRemove_ends rfl rfl rfl rfl
  | .quiesceDone .., _ => execQuiesceDone_ends rfl rfl rfl rfl
  | .quiesceLimit .., _ => execQuiesceLimit_ends rfl rfl rfl rfl
  | .vfFlr .., _ => execVfFlr_ends rfl rfl rfl rfl
  | .vfLinkLoss .., _ => execVfLinkLoss_ends rfl rfl rfl rfl
  | .yieldDurationEnd .., _ => execYieldDurationEnd_ends rfl
  | .nop .., _ => execNop_ends rfl
  | .passBegin .., _ => execPassBegin_ends rfl rfl
  | .passEnd .., _ => execPassEnd_ends rfl rfl rfl
  | .bindPipeline .., _ => execBindPipeline_ends rfl
  | .bindState .., _ => execBindState_ends rfl
  | .draw .., _ => execDraw_ends rfl rfl
  | .drawIndexed .., _ => execDrawIndexed_ends rfl rfl
  | .drawIndirect .., _ => execDrawIndirect_ends rfl rfl
  | .dispatch .., _ => execDispatch_ends rfl rfl
  | .dispatchIndirect .., _ => execDispatchIndirect_ends rfl rfl
  | .clear .., _ => execClear_ends rfl
  | .queryBegin .., _ => execQueryBegin_ends rfl
  | .queryEnd .., _ => execQueryEnd_ends rfl
  | .fenceSignal .., _ => execFenceSignal_ends rfl
  | .fenceWait .., _ => execFenceWait_ends rfl
  | .fenceReevaluate, _ => execFenceReevaluate_ends rfl
  | .fenceTimeout .., _ => execFenceTimeout_ends rfl
  | .barrier .., _ => execBarrier_ends rfl rfl
  | .s1Invalidate .., _ => execS1Invalidate_ends rfl
  | .event .., _ => execEvent_ends rfl
  | .priority .., _ => execPriority_ends rfl
  | .timestamp .., _ => execTimestamp_ends rfl
  | .copyBuffer .., _ => execCopyBuffer_ends rfl
  | .copySurface .., _ => execCopySurface_ends rfl
  | .fill .., _ => execFill_ends rfl
  | .flattenPresent .., _ => execFlattenPresent_ends rfl
  | .binPoolFull .., _ => execBinPoolFull_ends rfl rfl
  | .extensionReread .., _ => execExtensionReread_ends rfl rfl
  | .binFaultTimeout .., _ => execBinFaultTimeout_ends rfl rfl
  | .pipelineCompiled .., _ => execPipelineCompiled_ends rfl
  | .contextSchedule .., _ => execContextSchedule_ends rfl rfl
  | .preemptRequest .., _ => execPreemptRequest_ends rfl rfl
  | .tileGraceExpiry .., _ => execTileGraceExpiry_ends rfl rfl
  | .timeSliceExpiry, _ => execTimeSliceExpiry_ends rfl rfl
  | .clusterLost .., _ => execClusterLost_ends rfl rfl
  | .flipLayer .., _ => execFlipLayer_ends rfl
  | .flipCommit .., _ => execFlipCommit_ends rfl
  | .flipCancel .., _ => execFlipCancel_ends rfl
  | .headCommitLine .., _ => execHeadCommitLine_ends rfl rfl rfl
  | .acquireTimeout .., _ => execAcquireTimeout_ends rfl
  | .ensignPeriod, _ => execEnsignPeriod_ends rfl rfl
  | .ensignAcknowledge .., _ => execEnsignAcknowledge_ends rfl rfl
  | .flashHalfCycle, _ => execFlashHalfCycle_ends
  | .ensignFill .., _ => execEnsignFill_ends rfl
  | .ensignBlit .., _ => execEnsignBlit_ends rfl
  | .ensignGlyph .., _ => execEnsignGlyph_ends rfl
  | .ensignSign .., _ => execEnsignSign_ends
  | .packageVerify .., _ => execPackageVerify_ends (footprint_overruns rfl) rfl
  | .packageActivate .., _ => execPackageActivate_ends rfl rfl
  | .packageDiscard .., _ => execPackageDiscard_ends (footprint_overruns rfl) rfl
  | .hpdRise .., _ => execHpdRise_ends rfl
  | .hpdWaitEnd .., _ => execHpdWaitEnd_ends
  | .linkTrained .., _ => execLinkTrained_ends rfl
  | .trainRetry .., _ => execTrainRetry_ends
  | .irqHpd .., _ => execIrqHpd_ends rfl
  | .panelUnplugged .., _ => execPanelUnplugged_ends rfl
  | .linkWakeDone .., _ => execLinkWakeDone_ends
  | .teEdge .., _ => execTeEdge_ends rfl
  | .teLost .., _ => execTeLost_ends rfl
  | .panelOnDelayEnd .., _ => execPanelOnDelayEnd_ends
  | .backlightDelayEnd .., _ => execBacklightDelayEnd_ends
  | .panelFault .., _ => execPanelFault_ends rfl
  | .panelFaultClear .., _ => execPanelFaultClear_ends rfl
  | .rxFrame .., _ => execRxFrame_ends rfl
  | .rxSignalLost .., _ => execRxSignalLost_ends rfl
  | .rxHoldExpiry .., _ => execRxHoldExpiry_ends
  | .signatureSample .., _ => execSignatureSample_ends rfl
  | .freezeWindowExpiry .., _ => execFreezeWindowExpiry_ends rfl rfl
  | .backupToneSwitch, _ => execBackupToneSwitch_ends
  | .scanFrameEnd .., _ => execScanFrameEnd_ends rfl rfl
  | .idleStep .., _ => execIdleStep_ends
  | .gestureWatchEnd .., _ => execGestureWatchEnd_ends
  | .gloveTimeout .., _ => execGloveTimeout_ends
  | .wetTimeout .., _ => execWetTimeout_ends
  | .touchPortStart .., _ => execTouchPortStart_ends rfl rfl
  | .integrityScan .., _ => execIntegrityScan_ends rfl
  | .hapticPlay .., _ => execHapticPlay_ends rfl rfl
  | .hapticStop .., _ => execHapticStop_ends rfl rfl
  | .playEffect .., _ => execPlayEffect_ends rfl rfl
  | .loadMeasure .., _ => execLoadMeasure_ends rfl rfl
  | .hapticLoopPeriod .., _ => execHapticLoopPeriod_ends rfl
  | .senseCheck .., _ => execSenseCheck_ends rfl
  | .effectEnd .., _ => execEffectEnd_ends rfl rfl
  | .overcurrent .., _ => execOvercurrent_ends rfl rfl
  | .driverHot .., _ => execDriverHot_ends rfl rfl
  | .hvFault .., _ => execHvFault_ends rfl rfl
  | .hvRetry .., _ => execHvRetry_ends
  | .sampleInstant .., _ => execSampleInstant_ends rfl rfl
  | .meterUpdate, _ => execMeterUpdate_ends
  | .audBridgeLocked .., _ => execAudBridgeLocked_ends rfl
  | .audBridgeUnlocked .., _ => execAudBridgeUnlocked_ends rfl
  | .audioPlay .., _ => execAudioPlay_ends rfl
  | .audioCapture .., _ => execAudioCapture_ends rfl
  | .audioStart .., _ => execAudioStart_ends rfl
  | .audioStop .., _ => execAudioStop_ends rfl
  | .audioBufferDone .., _ => execAudioBufferDone_ends rfl
  | .audTdmClockLost .., _ => execAudTdmClockLost_ends rfl
  | .tdmClockResume .., _ => execTdmClockResume_ends
  | .mov .., _ => execMov_ends
  | .add .., _ => execAdd_ends
  | .sub .., _ => execSub_ends
  | .adc .., _ => execAdc_ends
  | .sbc .., _ => execSbc_ends
  | .and .., _ => execAnd_ends
  | .or .., _ => execOr_ends
  | .xor .., _ => execXor_ends
  | .shl .., _ => execShl_ends
  | .shr .., _ => execShr_ends
  | .sra .., _ => execSra_ends
  | .cmp .., _ => execCmp_ends
  | .tst .., _ => execTst_ends
  | .mul .., _ => execMul_ends
  | .mulh .., _ => execMulh_ends
  | .not .., _ => execNot_ends
  | .addi .., _ => execAddi_ends
  | .movi .., _ => execMovi_ends
  | .movhi .., _ => execMovhi_ends
  | .cmpi .., _ => execCmpi_ends
  | .ldw .., _ => execLdw_ends rfl rfl
  | .stw .., _ => execStw_ends rfl rfl
  | .ldb .., _ => execLdb_ends rfl rfl
  | .stb .., _ => execStb_ends rfl rfl
  | .bcc .., _ => execBcc_ends
  | .jmp .., _ => execJmp_ends
  | .call .., _ => execCall_ends
  | .mfs .., _ => execMfs_ends
  | .mts .., _ => execMts_ends
  | .jr .., _ => execJr_ends
  | .rete .., _ => execRete_ends rfl rfl
  | .wait .., _ => execWait_ends
  | .pwait .., _ => execPwait_ends rfl rfl
  | .send .., _ => execSend_ends rfl rfl
  | .ei .., _ => execEi_ends
  | .di .., _ => execDi_ends
  | .sysNop .., _ => execSysNop_ends
  | .bmov .., _ => execBmov_ends rfl rfl
  | .bfeed .., _ => execBfeed_ends rfl rfl
  | .bmac .., _ => execBmac_ends rfl rfl
  | .waitv .., _ => execWaitv_ends rfl rfl
  | .handlerEntry .., _ => execHandlerEntry_ends
  | .timerExpiry .., _ => execTimerExpiry_ends
  | .edgeDetect .., _ => execEdgeDetect_ends rfl rfl
  | .periodTick .., _ => execPeriodTick_ends rfl rfl
  | .coreReset .., _ => execCoreReset_ends rfl rfl
  | .mailboxIn .., _ => execMailboxIn_ends (footprint_overruns rfl)
  | .programStage .., _ => execProgramStage_ends (footprint_overruns rfl)
  | .programVerify .., _ => execProgramVerify_ends (footprint_overruns rfl)
  | .programEmpty .., _ => execProgramEmpty_ends (footprint_overruns rfl)
  | .ensLockstep, _ => execEnsLockstep_ends rfl rfl
  | .ensPairRestarted, _ => execEnsPairRestarted_ends rfl
  | .feedData .., _ => execFeedData_ends rfl
  | .runningValueWrite .., _ => execRunningValueWrite_ends rfl
  | .crcSettingWrite .., _ => execCrcSettingWrite_ends rfl
  | .compare .., _ => execCompare_ends rfl
  | .restartAtInit .., _ => execRestartAtInit_ends rfl
  | .aliveResync .., _ => execAliveResync_ends rfl
  | .ownerTicket .., _ => execOwnerTicket_ends rfl rfl
  | .lifecycleAdvance .., _ => execLifecycleAdvance_ends rfl
  | .sha256 .., _ => execSha256_ends rfl rfl
  | .sha384 .., _ => execSha384_ends rfl rfl
  | .sha512 .., _ => execSha512_ends rfl rfl
  | .aesGcmEncrypt .., _ => execAesGcmEncrypt_ends rfl rfl
  | .aesGcmDecrypt .., _ => execAesGcmDecrypt_ends rfl rfl
  | .cmacGenerate .., _ => execCmacGenerate_ends rfl rfl
  | .cmacVerify .., _ => execCmacVerify_ends rfl rfl
  | .xtsEncrypt .., _ => execXtsEncrypt_ends rfl rfl
  | .xtsDecrypt .., _ => execXtsDecrypt_ends rfl rfl
  | .ecdsaSign .., _ => execEcdsaSign_ends rfl rfl
  | .ecdsaVerify .., _ => execEcdsaVerify_ends rfl rfl
  | .ecdh .., _ => execEcdh_ends rfl rfl
  | .keyGeneration .., _ => execKeyGeneration_ends rfl rfl
  | .ed25519Verify .., _ => execEd25519Verify_ends rfl rfl
  | .randomBytes .., _ => execRandomBytes_ends rfl rfl
  | .cryptoJobDone .., _ => execCryptoJobDone_ends rfl rfl
  | .cryptoRngFail, _ => execCryptoRngFail_ends rfl
  | .keyopGenerate .., _ => execKeyopGenerate_ends rfl
  | .keyopImportPlain .., _ => execKeyopImportPlain_ends rfl
  | .keyopImportWrapped .., _ => execKeyopImportWrapped_ends rfl
  | .keyopErase .., _ => execKeyopErase_ends rfl
  | .attest .., _ => execAttest_ends (footprint_overruns rfl)
  | .jtagDebugOpen .., _ => execJtagDebugOpen_ends rfl rfl
  | .debugCertExpiry .., _ => execDebugCertExpiry_ends rfl rfl
  | .boundaryScanOpen .., _ => execBoundaryScanOpen_ends rfl rfl rfl rfl rfl rfl rfl rfl
  | .updHeader .., _ => execUpdHeader_ends (footprint_overruns rfl)
  | .updBody .., _ => execUpdBody_ends rfl
  | .updSchedule .., _ => execUpdSchedule_ends rfl rfl
  | .updCancel .., _ => execUpdCancel_ends (footprint_overruns rfl)
  | .updConfirm .., _ => execUpdConfirm_ends rfl rfl
  | .updReject .., _ => execUpdReject_ends rfl rfl
  | .updRaiseFloor .., _ => execUpdRaiseFloor_ends rfl
  | .updLoadUsb .., _ => execUpdLoadUsb_ends rfl
  | .updActivation, _ => execUpdActivation_ends rfl rfl
  | .halyardRestartDone .., _ => execHalyardRestartDone_ends rfl rfl rfl rfl rfl rfl rfl rfl
  | .updTrialExpiry, _ => execUpdTrialExpiry_ends rfl rfl
  | .recoveryRequest .., _ => execRecoveryRequest_ends rfl rfl
  | .unitReset .., _ => execUnitReset_ends rfl rfl
  | .journalDrain .., _ => execJournalDrain_ends
  | .exportBuild .., _ => execExportBuild_ends (footprint_overruns rfl)
  | .vmainFail .., _ => execVmainFail_ends rfl rfl rfl rfl rfl rfl rfl rfl
  | .vmainValid .., _ => execVmainValid_ends rfl rfl
  | .vmainOver .., _ => execVmainOver_ends rfl rfl rfl rfl rfl rfl rfl rfl
  | .vbakFlushTrigger .., _ => execVbakFlushTrigger_ends rfl rfl rfl rfl rfl rfl rfl rfl
  | .vbakLow .., _ => execVbakLow_ends rfl
  | .vbakAbsent .., _ => execVbakAbsent_ends rfl
  | .remoteOff, _ => execRemoteOff_ends rfl rfl rfl rfl rfl rfl rfl rfl
  | .resetN, _ => execResetN_ends rfl rfl rfl rfl rfl rfl rfl rfl
  | .thermalHigh .., _ => execThermalHigh_ends rfl
  | .thermalTrip .., _ => execThermalTrip_ends rfl rfl
  | .thermalShutdown .., _ => execThermalShutdown_ends rfl rfl rfl rfl rfl rfl rfl rfl
  | .thermalRecover .., _ => execThermalRecover_ends rfl rfl
  | .flushComplete, _ => execFlushComplete_ends
  | .returnComplete, _ => execReturnComplete_ends rfl rfl rfl rfl rfl
  | .bootHandover .., _ => execBootHandover_ends rfl rfl rfl rfl rfl rfl rfl rfl rfl
  | .startUpComplete .., _ => execStartUpComplete_ends rfl rfl rfl rfl rfl
  | .halyardWatchdog, _ => execHalyardWatchdog_ends rfl rfl
  | .holdupConfigWrite .., _ => execHoldupConfigWrite_ends (footprint_overruns rfl)
  | .hoistJoin .., _ => execHoistJoin_ends rfl rfl
  | .hoistLeave .., _ => execHoistLeave_ends rfl rfl
  | .hoistLinkUp .., _ => execHoistLinkUp_ends rfl rfl
  | .hoistLinkRetry .., _ => execHoistLinkRetry_ends
  | .linkRekey .., _ => execLinkRekey_ends
  | .hoistDictRequest .., _ => execHoistDictRequest_ends rfl rfl rfl rfl rfl rfl rfl
  | .hoistDictResponse .., _ => execHoistDictResponse_ends
  | .hoistFeedData .., _ => execHoistFeedData_ends rfl
  | .timeExchange .., _ => execTimeExchange_ends rfl rfl rfl
  | .timeLockTimeout, _ => execTimeLockTimeout_ends rfl
  | .hoistHeartbeat .., _ => execHoistHeartbeat_ends rfl rfl
  | .contactForward .., _ => execContactForward_ends rfl
  | .membership .., _ => execMembership_ends rfl rfl
  | .ptpMessage .., _ => execPtpMessage_ends rfl
  | .hoistPtpLost, _ => execHoistPtpLost_ends rfl
  | .hoistLinkDown .., _ => execHoistLinkDown_ends rfl
  | .hoistDeviceLost .., _ => execHoistDeviceLost_ends rfl rfl
  | .hoistTakeover .., _ => execHoistTakeover_ends rfl rfl
  | .feedEnable .., _ => execFeedEnable_ends (footprint_overruns rfl)
  | .feedDisable .., _ => execFeedDisable_ends (footprint_overruns rfl)
  | .feedPoll .., _ => execFeedPoll_ends rfl
  | .feedCopyDone .., _ => execFeedCopyDone_ends rfl
  | .hoistFeedLost .., _ => execHoistFeedLost_ends rfl
  | .chainMaskWrite .., _ => execChainMaskWrite_ends (footprint_overruns rfl)
  | .overflowClear .., _ => execOverflowClear_ends (footprint_overruns rfl)
  | .snapshotTake .., _ => execSnapshotTake_ends (footprint_overruns rfl)
  | .snapshotRelease .., _ => execSnapshotRelease_ends (footprint_overruns rfl)
  | .samplerArm .., _ => execSamplerArm_ends (footprint_overruns rfl)
  | .samplerDisarm .., _ => execSamplerDisarm_ends (footprint_overruns rfl)
  | .pmcSample .., _ => execPmcSample_ends rfl
  | .counterViewRead .., _ => execCounterViewRead_ends
  | .ethInterfaceWrite .., _ => execEthInterfaceWrite_ends (footprint_overruns rfl)
  | .pcieLinkTraining .., _ => execPcieLinkTraining_ends
  | .remoteOffInputWrite .., _ => execRemoteOffInputWrite_ends (footprint_overruns rfl)
  | .lightSensorRead .., _ => execLightSensorRead_ends
  | .eqHoldoffExpiry .., _ => execEqHoldoffExpiry_ends
  | .workItemComplete .., _ => execWorkItemComplete_ends
  | .lastFetchComplete .., _ => execLastFetchComplete_ends rfl
  | .resetNRelease, _ => execResetNRelease_ends
  | .remoteOffRelease, _ => execRemoteOffRelease_ends
  | .driverCooled .., _ => execDriverCooled_ends
  | .lampTestInputChange .., _ => execLampTestInputChange_ends
  | .ethLinkChange .., _ => execEthLinkChange_ends
  | .rngStartupTestPass, _ => execRngStartupTestPass_ends
  | .rxLinkTraining .., _ => execRxLinkTraining_ends

end Sys2Proof.Machine
end

section
/-!
PROOFS of O3 to O5, O8 and O9: that every command ends, what it leaves, and what holds over a step.
-/
namespace Sys2Proof.Laws

open Sys2Proof.Machine Sys2Proof.Safety

/-- What command `c` leaves alone at `s`, when it has run. -/
theorem exec_moves {c : Instr} {s t : State} (h : exec c s = .next t) : Moves (footprint c s) s t :=
  Ends.next_iff.mp (h ▸ exec_ends c s)

/-- An idle step moves hoist time alone. -/
theorem idleTick_moves {p : StatePart → Bool} {s : State} (hn : p .time) : Moves p s s.idleTick := by
  unfold State.idleTick
  exact Moves.of_ite (Moves.with_now hn (Moves.refl ..)) (Moves.of_ite (Moves.with_now hn (by simp)) (Moves.with_now hn (by simp)))

/-- The command queue and the form of the memory hold over a step, whatever part it moves. -/
theorem step_moves {s t : State} (h : step s = .next t) : Moves (fun _ => true) { s with pending := s.pending.tail } t := by
  cases hp : s.pending with
  | nil =>
    rw [step_idle hp] at h
    have hm : Moves (fun _ => true) s t := Host.Outcome.next.inj h ▸ idleTick_moves rfl
    exact { hm with pending := hm.pending.trans hp }
  | cons c cs =>
    rw [stepRunsFront s c cs hp] at h
    exact (exec_moves h).mono fun _ _ => rfl

/-- Settles O3: every command ends. -/
theorem everyCommandCompletes : Obligations.EveryCommandCompletes := fun c s =>
  have ⟨t, h, _⟩ := exec_ends c s
  ⟨t, h⟩

/-- Settles O4: the command at the front leaves the queue, and none moves the rest. -/
theorem queueMovesByOne : Obligations.QueueMovesByOne := fun _ _ h => (step_moves h).pending

/-- Settles O5: no step breaks the canonical form. -/
theorem memoryStaysCanonical : Obligations.MemoryStaysCanonical := fun _ _ hwf h => (step_moves h).wf hwf

/-- Settles O8: the memory is outside the footprint of a command that stores nothing. -/
theorem memoryIsLeft : Obligations.MemoryIsLeft := by
  intro c s t hc hr h a
  have hb : footprint c s .bytes = false := by
    cases hn : requester c with
    | none => simp [footprint, hc, hn]
    | some n => simp [footprint, hc, hn, hr n hn]
  rw [State.byte, State.byte, (exec_moves h).bytes hb]

/-- Settles O9: a part outside the footprint of a command does not move. -/
theorem partsAreLeft : Obligations.PartsAreLeft := fun _ _ _ h =>
  have hm := exec_moves h
  ⟨hm.time, fun hk => hm.banks (by simp [footprint, hk]), hm.trackers, hm.packages, hm.exports, hm.jobs, hm.answers, hm.caches⟩

end Sys2Proof.Laws
end
